-- ==== Sys2Proof/Word.lean ====
section
/-! DEFINITION. The word types of the hub (SX-J40) and the plainest operations on them: bit fields, the fabric time,
the sparse stores. Field positions are always given as in the manual, as (least significant bit, width). -/

namespace Sys2Proof

/-- Fabric time in units of 1/256 ns (R383): whole nanoseconds in [63:8], a fraction in [7:0]. -/
abbrev Time := BitVec 64

/-- A hub's name: device in [14:3], die in [2:0] (R19). -/
abbrev HubId := BitVec 15

/-- An originator in the layout of R25: device [24:13], die [12:10], port [9:3], engine [2:0]. -/
abbrev Originator := BitVec 25

/-- A 32-bit handle: device [31:20], die [19:17], index [16:0]. -/
abbrev Handle := BitVec 32

/-- A fairness stamp (R255): bits [24:1] of the whole-nanosecond count of fabric time. -/
abbrev Stamp := BitVec 24

/-- One bit field of a word: its least significant bit, its width and its value. -/
structure Fld where
  lsb : Nat
  width : Nat
  val : Nat
deriving DecidableEq, Repr

/-- A word made of disjoint fields; every bit that no field names is zero (R12). -/
def packNat : List Fld → Nat
  | [] => 0
  | f :: fs => ((f.val % 2 ^ f.width) <<< f.lsb) ||| packNat fs

/-- A word of `w` bits made of disjoint fields. -/
def pack (w : Nat) (fs : List Fld) : BitVec w := BitVec.ofNat w (packNat fs)

/-- The field of `width` bits whose least significant bit is `lsb`. -/
abbrev getFld {w : Nat} (x : BitVec w) (lsb width : Nat) : BitVec width := x.extractLsb' lsb width

/-- Bit `i` of a word as a one-bit number. -/
def bitNat (b : Bool) : Nat := if b then 1 else 0

/-- The whole nanoseconds of a fabric time (R383). -/
def Time.ns (t : Time) : Nat := t.toNat / 256

/-- A duration or instant of `n` nanoseconds, in fabric-time units. -/
def nsToTime (n : Nat) : Nat := n * 256

/-- The fairness stamp taken at fabric time `t` (R255). -/
def Time.stamp (t : Time) : Stamp := BitVec.ofNat 24 (t.toNat / 512)

/-- Bits [21:0] of the whole-nanosecond count, as last_time holds them (R38). -/
def Time.low22 (t : Time) : BitVec 22 := BitVec.ofNat 22 (t.toNat / 256)

/-- Whole nanoseconds modulo 2^43, the form of a deadline (R254). -/
def Time.ns43 (t : Time) : BitVec 43 := BitVec.ofNat 43 (t.toNat / 256)

/-- The time from `t0` to `t1` in fabric-time units, modulo 2^64. -/
def elapsed (t0 t1 : Time) : Nat := (t1 - t0).toNat

/-- Saturation of a count at the largest value of `w` bits. -/
def satNat (w n : Nat) : Nat := if n < 2 ^ w then n else 2 ^ w - 1

/-- The number of 1 bits among the low `n` bits of `x`. -/
def popCount (x : Nat) : Nat → Nat
  | 0 => 0
  | n + 1 => popCount x n + bitNat (x.testBit n)

/-- The numbers from `lo` on, `n` of them. -/
def numsFrom (lo : Nat) : Nat → List Nat
  | 0 => []
  | n + 1 => lo :: numsFrom (lo + 1) n

/-- A sparse store: the entries that differ from what an unlisted key reads as, in strictly rising order of key. -/
abbrev Sparse (α : Type) := List (Nat × α)

/-- The entry at key `k`; an unlisted key reads as `d k`. -/
def Sparse.get {α : Type} (d : Nat → α) : Sparse α → Nat → α
  | [], k => d k
  | (k', v) :: t, k => if k = k' then v else Sparse.get d t k

/-- Every entry but that of key `k`. -/
def Sparse.erase {α : Type} : Sparse α → Nat → Sparse α
  | [], _ => []
  | (k', v) :: t, k => if k = k' then Sparse.erase t k else (k', v) :: Sparse.erase t k

/-- Puts an entry into its place by key. -/
def Sparse.insert {α : Type} : Sparse α → Nat → α → Sparse α
  | [], k, v => [(k, v)]
  | (k', v') :: t, k, v => if k < k' then (k, v) :: (k', v') :: t else (k', v') :: Sparse.insert t k v

/-- Writes an entry and keeps the canonical form: writing what an unlisted key reads as removes the entry. -/
def Sparse.put {α : Type} [DecidableEq α] (d : Nat → α) (m : Sparse α) (k : Nat) (v : α) : Sparse α :=
  if v = d k then Sparse.erase m k else Sparse.insert (Sparse.erase m k) k v

/-- Every entry whose key does not satisfy `p`. -/
def Sparse.dropKeys {α : Type} (p : Nat → Bool) : Sparse α → Sparse α
  | [] => []
  | (k, v) :: t => if p k then Sparse.dropKeys p t else (k, v) :: Sparse.dropKeys p t

/-- Every entry replaced; one that comes to read as an unlisted key is dropped. -/
def Sparse.remap {α : Type} [DecidableEq α] (m : Sparse α) (d : Nat → α) (f : α → α) : Sparse α :=
  match m with
  | [] => []
  | (k, v) :: t => if f v = d k then Sparse.remap t d f else (k, f v) :: Sparse.remap t d f

/-- The map with each value changed by a function of its key. -/
def Sparse.remapKey {α : Type} [DecidableEq α] (m : Sparse α) (d : Nat → α) (f : Nat → α → α) : Sparse α :=
  match m with
  | [] => []
  | (k, v) :: t => if f k v = d k then Sparse.remapKey t d f else (k, f k v) :: Sparse.remapKey t d f

/-- The keys listed. -/
def Sparse.keys {α : Type} (m : Sparse α) : List Nat := m.map Prod.fst

/-- Every listed key is above `k`. -/
def Sparse.above {α : Type} (k : Nat) : Sparse α → Bool
  | [] => true
  | (k', _) :: t => decide (k < k') && Sparse.above k t

/-- The canonical form: keys strictly rising, and no entry equal to what an unlisted key reads as. -/
def Sparse.wf {α : Type} [DecidableEq α] (d : Nat → α) : Sparse α → Bool
  | [] => true
  | (k, v) :: t => Sparse.above k t && decide (v ≠ d k) && Sparse.wf d t

end Sys2Proof
end

