-- ==== Sys2Proof/Syntax.lean ====
section
/-! DEFINITION. The commands of the hub: one constructor of `Instr` for each row of the operation and event table, and
the operand types they carry. Field names and widths follow the manual's layouts. -/

namespace Sys2Proof

/-- The opcodes of R94. -/
inductive Opcode where
  | sig | set | clr | wait | take | tryTake | arrv | arrw | wrel | acq | tryAcq | rel | frel | read | init
  | fadd | swap | cas | arm | disarm | hold | resume | park | unpark | fence
deriving DecidableEq, Repr

/-- The flags of R92, from [121] down. -/
structure OpFlags where
  rel : Bool
  acq : Bool
  noresp : Bool
  near : Bool
  sense : Bool
  x2 : Bool
deriving DecidableEq, Repr

/-- An op as an issuer presents it (R91), without its opcode, which the command names; `opb` is operand B, used
when X2 is set (R96). -/
structure OpFields where
  flags : OpFlags
  tsel : BitVec 4
  tag : BitVec 16
  handle : Handle
  operand : BitVec 64
  opb : BitVec 64
deriving DecidableEq, Repr

/-- The routing header of a message (R345), without its kind and flit count. -/
structure MsgHdr where
  dst : HubId
  src : HubId
  hops : BitVec 4
  partition : BitVec 4
deriving DecidableEq, Repr

/-- What an OP message carries beside the op word and operand B (R348). -/
structure OpCarry where
  originator : Originator
  source : BitVec 2
  cls : BitVec 5
  epoch : BitVec 8
  stamp : Stamp
  aged : Bool
  context : BitVec 8
  dlValid : Bool
  deadline : BitVec 43
  retref : BitVec 10
  resent : Bool
deriving DecidableEq, Repr

/-- Where an op comes from: a lane of a core shim (lane 0 the control core, lane i engine i - 1, R297), an issue slot
of the AXI5 aperture with its class (R319, R224), or an OP message received on a link (R348). -/
inductive OpSource where
  | core (port lane : Nat) (ctx : BitVec 8)
  | aperture (slot : Nat) (host : Bool)
  | link (port : Nat) (hdr : MsgHdr) (carry : OpCarry)
deriving DecidableEq, Repr

/-- One op command: its source and its fields. -/
structure OpReq where
  src : OpSource
  op : OpFields
deriving DecidableEq, Repr

/-- The op word and operands of an OP message (R348, R349); opcode 0 is a template write. -/
structure OpBody where
  opcode : BitVec 6
  op : OpFields
  carry : OpCarry
deriving DecidableEq, Repr

/-- A CPL body (R350). -/
structure CplBody where
  response : BitVec 64
  retref : BitVec 10
  target : BitVec 10
  source : BitVec 2
  child : Handle
  value : Option (BitVec 64)
deriving DecidableEq, Repr

/-- A partial arrival record (R152). -/
structure PartialArrival where
  child : Handle
  parent : Handle
  oper : BitVec 4
  format : BitVec 4
  sense : Bool
  broken : Bool
  depth : BitVec 4
  flags : BitVec 5
  count : BitVec 44
  comb : Bool
  acc : BitVec 320
deriving DecidableEq, Repr

/-- A FWD_ARRV body (R351). -/
structure FwdBody where
  arrival : PartialArrival
  stamp : Stamp
  aged : Bool
  epoch : BitVec 8
  originator : Originator
deriving DecidableEq, Repr

/-- The four loan messages (R181). -/
inductive LoanKind where
  | req | grant | recall | ret
deriving DecidableEq, Repr

/-- A loan message (R181), without its kind. -/
structure LoanBody where
  seq : BitVec 8
  partition : BitVec 4
  epoch : BitVec 8
  stamp : Stamp
  borrower : HubId
  opening : Bool
  token : Handle
  reason : BitVec 2
  firstFit : Bool
  amountA : BitVec 64
  amountB : BitVec 64
deriving DecidableEq, Repr

/-- A HOLDER_RESET message (R243). -/
structure HolderResetBody where
  partition : BitVec 4
  epoch : BitVec 8
  lock : Handle
  originator : Originator
  delivered : Bool
deriving DecidableEq, Repr

/-- A WAITER_PURGE message (R280). -/
structure WaiterPurgeBody where
  partition : BitVec 4
  epoch : BitVec 8
  hub : HubId
  port : BitVec 7
  generation : BitVec 4
deriving DecidableEq, Repr

/-- The body of a ROUTE_FENCE or FENCE_ACK (R376). -/
structure FenceBody where
  num : BitVec 8
  cpl : Bool
deriving DecidableEq, Repr

/-- The kinds of HOLD_CTL message (R479). -/
inductive HoldKind where
  | holdReq | holdAck | resumeReq | resumeAck
deriving DecidableEq, Repr

/-- A HOLD_CTL message (R479), without its kind. -/
structure HoldBody where
  seq : BitVec 8
  requester : HubId
deriving DecidableEq, Repr

/-- The kinds of STOCKTAKE message (R497). -/
inductive StockKind where
  | query | report | declare
deriving DecidableEq, Repr

/-- A Stocktake message (R497), without its kind. -/
structure StockBody where
  round : BitVec 32
  coordinator : HubId
  allWaiting : Bool
  held : Bool
  waiters : BitVec 18
  registered : BitVec 16
  waiting : BitVec 16
  sent : BitVec 64
  recv : BitVec 64
  act : BitVec 64
deriving DecidableEq, Repr

/-- The kinds of SHELF message (R463). -/
inductive ShelfKind where
  | arm | done | cancel
deriving DecidableEq, Repr

/-- A SHELF message (R463), without its kind. -/
structure ShelfBody where
  shelf : Bool
  mode : Bool
  seq : BitVec 8
  status : BitVec 3
  index : BitVec 17
  round : BitVec 28
  time : Time
deriving DecidableEq, Repr

/-- The kinds of PART_CTL message (R416). -/
inductive PartCtlKind where
  | resetReq | resetDone | ctxReq | ctxDone | faultNotice
deriving DecidableEq, Repr

/-- A PART_CTL message (R416), without its kind. -/
structure PartCtlBody where
  oldEpoch : BitVec 8
  newEpoch : BitVec 8
  count : BitVec 5
  seq : BitVec 8
  status : BitVec 2
  cause : BitVec 6
  context : BitVec 64
  startTime : Time
deriving DecidableEq, Repr

/-- A message by its kind (R346). -/
inductive Payload where
  | op (b : OpBody)
  | cpl (b : CplBody)
  | fwdArrv (b : FwdBody)
  | loan (k : LoanKind) (b : LoanBody)
  | holderReset (b : HolderResetBody)
  | waiterPurge (b : WaiterPurgeBody)
  | routeFence (b : FenceBody)
  | fenceAck (b : FenceBody)
  | holdCtl (k : HoldKind) (b : HoldBody)
  | stocktake (k : StockKind) (b : StockBody)
  | shelf (k : ShelfKind) (b : ShelfBody)
  | partCtl (k : PartCtlKind) (b : PartCtlBody)
deriving DecidableEq, Repr

/-- A message: routing header and body. -/
structure Msg where
  hdr : MsgHdr
  body : Payload
deriving DecidableEq, Repr

/-- Where a completion is to be delivered: a core shim, or the AXI5 subordinate (R268, R321). -/
inductive RspTarget where
  | port (p : Nat)
  | aperture
deriving DecidableEq, Repr

/-- The originator that a token bucket belongs to (R292, R293). -/
inductive BucketId where
  | engine (port eng : Nat)
  | slot (g : Nat)
deriving DecidableEq, Repr

/-- The signal of the surroundings that a shim waits on (R307). -/
inductive SurroundSignal where
  | drain | invalidate
deriving DecidableEq, Repr

/-- A word of a protected store (R425), named as the cause codes of R440 name it. -/
inductive StoreWord where
  | object (i : Nat)
  | waiter (i : Nat)
  | lender (i : Nat)
  | ledger (i : Nat)
  | heldLock (i : Nat)
  | ticket (i : Nat)
  | config (i : Nat)
deriving DecidableEq, Repr

/-- An item that the restart sequencer captures in a stage's holding registers (R443): the object named, if any,
and the partition, if it can be read. -/
structure CapturedItem where
  object : Option Nat
  partition : Option Nat
deriving DecidableEq, Repr

/-- The path and principal of a Catalogue request (R511): APB5, or MCTP with the source EID. -/
inductive CatVia where
  | apb
  | mctp (eid : BitVec 8) (tag : BitVec 3)
deriving DecidableEq, Repr

/-- What every Catalogue request carries (R525): its path, its request number and its partition. -/
structure CatHdr where
  via : CatVia
  rqid : BitVec 8
  partition : BitVec 4
deriving DecidableEq, Repr

/-- Where a consumer-index write comes from: the Catalogue, or the control block of the aperture (R215, R324). -/
inductive IndexWriteVia where
  | cat (h : CatHdr)
  | block (partition : Nat)
deriving DecidableEq, Repr

/-- The rings that have a consumer index: ticket ring k of a partition, its notify ring, the hub notify ring. -/
inductive RingName where
  | ticket (k : Nat)
  | notify
  | hubNotify
deriving DecidableEq, Repr

/-- A template write's origin: an issue slot (R323) or an OP message with opcode 0 (R349). -/
inductive TemplateSource where
  | slot (g : Nat) (host : Bool)
  | link (port : Nat) (hdr : MsgHdr) (carry : OpCarry)
deriving DecidableEq, Repr

/-- Why the AXI5 subordinate refuses an access (R320). -/
inductive ApertureFault where
  | badTransfer      -- size, burst, strobes, alignment (R313)
  | x2Size           -- size does not agree with X2
  | busySlot         -- a non-posted op to a busy slot
  | reservedOffset   -- a write to a reserved offset
  | readOnly         -- a write to an RO register (R324)
deriving DecidableEq, Repr

/-- Where in the aperture an access falls (R315): an issue slot, the control block of a partition number, or the
reserved range. -/
inductive ApertureArea where
  | slot (g : Nat)
  | block (partition : Nat)
  | reserved
deriving DecidableEq, Repr

/-- Why an MCTP packet or message is discarded (R522, R524). -/
inductive PacketFault where
  | oversize | badType | wrongVendor | sequence | tooMany | short | noEid
deriving DecidableEq, Repr

/-- Why a Catalogue request is malformed (R516). -/
inductive Malformation where
  | reservedCommand | badHeader | badVersion | badLength | integrityCheck
deriving DecidableEq, Repr

/-- The commands: one constructor for each row of the operation and event table, in the table's order. -/
inductive Instr where
  -- ops
  | sig (r : OpReq)
  | set (r : OpReq)
  | clr (r : OpReq)
  | wait (r : OpReq)
  | take (r : OpReq)
  | tryTake (r : OpReq)
  | arrv (r : OpReq)
  | arrw (r : OpReq)
  | wrel (r : OpReq)
  | acq (r : OpReq)
  | tryAcq (r : OpReq)
  | rel (r : OpReq)
  | frel (r : OpReq)
  | read (r : OpReq)
  | init (r : OpReq)
  | fadd (r : OpReq)
  | swap (r : OpReq)
  | cas (r : OpReq)
  | arm (r : OpReq)
  | disarm (r : OpReq)
  | hold (r : OpReq)
  | resume (r : OpReq)
  | park (r : OpReq)
  | unpark (r : OpReq)
  | fence (r : OpReq)
  -- shim and host-port events
  | completionDelivery (t : RspTarget)
  | stgInvalAck (port : Nat)
  | relDrainEnd (port : Nat)
  | responseRead (port lane : Nat)
  | ticketRemove (port : Nat)
  | bucketRefill (b : BucketId)
  | shimSurroundWait (port : Nat) (sig : SurroundSignal)
  | coreReset (port : Nat)
  | registeredBarrierResetCheck (port index : Nat)
  -- timed events
  | waiterExpiry (num : Nat)
  | agedWalk
  | scrubAccess (w : StoreWord)
  | loanRecallDelay (index : Nat)
  | loanIdleReturn (entry : Nat)
  | loanLinkLoss (hub : HubId)
  | lockLinkLoss (hub : HubId)
  | treeLinkLoss (index : Nat)
  | treeGrantUndeliverable (index : Nat)
  | routeStrand (hub : HubId)
  | linkHoldExpiry (port : Nat)
  | routeSettle (port : Nat)
  | replayTimeout (port : Nat)
  | retryLimit (port : Nat)
  | negResend (port : Nat)
  | negotiationTimeout (port : Nat)
  | ackCtrlSend (port : Nat)
  | timeExchange
  | timeHoldoverLimit
  | stocktakeRound (partition : Nat)
  | depositHoldLimit (partition rule : Nat)
  | apertureStallLimit (slot : Nat)
  | stageRestart (stage port : Nat) (items : List CapturedItem) (testPasses : Bool)
  | stageRetry (stage port : Nat) (testPasses : Bool)
  | partQuiesceWait (partition : Nat)
  | evInputChange (input : Nat) (level : Bool)
  | evDeferredSig (input : Nat)
  | evLevelApply (input : Nat)
  | notifyIrqHoldoff (ring : Nat)
  | mctpReassemblyTimeout (eid : BitVec 8) (tag : BitVec 3)
  | folioTrigTime
  | shelfTimeLatch (partition shelf : Nat)
  | holdPeerTimeout (partition : Nat)
  | resetPeerTimeout (partition : Nat) (hub : HubId)
  | shelfPeerTimeout (partition shelf : Nat)
  -- reset, clock and pins
  | hubReset (supply : Bool)
  | startup (device : BitVec 12) (die : BitVec 3) (refSel : BitVec 3) (portsAbsent : BitVec 128)
  | startupComplete
  | refclkLoss
  | refclkReturn
  | phyUp (port : Nat) (lanes : BitVec 3)
  | phyDown (port : Nat)
  | partQuiesceAckRise (partition : Nat)
  | partQuiesceAckFall (partition : Nat)
  -- flits
  | flitReceive (port : Nat) (flit : BitVec 256) (bad : Bool)
  | ctrl (port : Nat) (flit : BitVec 256) (bad : Bool)
  | neg (port : Nat) (flit : BitVec 256) (bad : Bool)
  | timeReq (port : Nat) (flit : BitVec 256) (bad : Bool)
  | timeRsp (port : Nat) (flit : BitVec 256) (bad : Bool)
  -- messages
  | messageForward (port : Nat) (m : Msg)
  | cpl (h : MsgHdr) (b : CplBody)
  | fwdArrv (h : MsgHdr) (b : FwdBody)
  | loanReq (h : MsgHdr) (b : LoanBody)
  | loanGrantOpen (h : MsgHdr) (b : LoanBody)
  | loanGrant (h : MsgHdr) (b : LoanBody)
  | loanRecall (h : MsgHdr) (b : LoanBody)
  | loanReturn (h : MsgHdr) (b : LoanBody)
  | holderReset (h : MsgHdr) (b : HolderResetBody)
  | waiterPurge (h : MsgHdr) (b : WaiterPurgeBody)
  | routeFence (h : MsgHdr) (b : FenceBody)
  | fenceAck (h : MsgHdr) (b : FenceBody)
  | holdReq (h : MsgHdr) (b : HoldBody)
  | holdAck (h : MsgHdr) (b : HoldBody)
  | resumeReq (h : MsgHdr) (b : HoldBody)
  | resumeAck (h : MsgHdr) (b : HoldBody)
  | query (h : MsgHdr) (b : StockBody)
  | report (h : MsgHdr) (b : StockBody)
  | declare (h : MsgHdr) (b : StockBody)
  | shelfArm (h : MsgHdr) (b : ShelfBody)
  | shelfDone (h : MsgHdr) (b : ShelfBody)
  | shelfCancel (h : MsgHdr) (b : ShelfBody)
  | resetReq (h : MsgHdr) (b : PartCtlBody)
  | resetDone (h : MsgHdr) (b : PartCtlBody)
  | ctxReq (h : MsgHdr) (b : PartCtlBody)
  | ctxDone (h : MsgHdr) (b : PartCtlBody)
  | faultNotice (h : MsgHdr) (b : PartCtlBody)
  -- host ports
  | templateWrite (src : TemplateSource) (word : BitVec 2) (handle : Handle) (data : BitVec 64)
  | consumerIndexWrite (via : IndexWriteVia) (ring : RingName) (value : BitVec 32)
  | ticketRingWriteDone
  | notifyWriteDone
  | managerWriteError (kind : BitVec 2) (resp : BitVec 2)
  | folioDumpDone
  | inventoryDone (partition : Nat)
  -- Catalogue entries with behaviour of their own
  | partReset (h : CatHdr) (v : BitVec 8)
  | partContext (h : CatHdr) (v : BitVec 64)
  | partQuiesceOverride (h : CatHdr) (v : BitVec 8)
  | resliceTarget (h : CatHdr) (v : BitVec 8)
  | resliceDrained
  | resliceAbort (h : CatHdr) (v : BitVec 8)
  | portPartition (h : CatHdr) (port : Nat) (v : BitVec 8)
  | waiterCancelObject (h : CatHdr) (v : BitVec 32)
  | waiterCancelOriginator (h : CatHdr) (v : BitVec 32)
  | loanRecallToken (h : CatHdr) (v : BitVec 32)
  | lockClearAbandoned (h : CatHdr) (v : BitVec 32)
  | lockGroupMode (h : CatHdr) (group : Nat) (v : BitVec 8)
  | linkRenegotiate (h : CatHdr) (port : Nat) (sub : BitVec 8) (v : BitVec 8)
  | routeEntry (h : CatHdr) (v : BitVec 32)
  | timeSet (h : CatHdr) (v : Time)
  | ticketRingConfigWrite (h : CatHdr) (ring : Nat) (size : Bool) (v : BitVec 64)
  | notifyRingConfigWrite (h : CatHdr) (hub : Bool) (size : Bool) (v : BitVec 64)
  | shelfArmEntry (h : CatHdr) (v : BitVec 8)
  | shelfCancelEntry (h : CatHdr) (v : BitVec 8)
  | folioArm (h : CatHdr)
  | folioTrigger (h : CatHdr)
  | folioStop (h : CatHdr)
  | folioClear (h : CatHdr)
  | folioMarker (h : CatHdr) (v : BitVec 64)
  | inventoryTake (h : CatHdr) (v : BitVec 8)
  | partHold (h : CatHdr) (v : BitVec 8)
  | partResume (h : CatHdr) (v : BitVec 8)
  | depositAck (h : CatHdr) (v : BitVec 8)
  | depositFlags (h : CatHdr) (v : BitVec 8)
  | stocktakeEnable (h : CatHdr) (v : BitVec 8)
  | faultInjectBits (h : CatHdr) (v : BitVec 8)
  | faultInjectStage (h : CatHdr)
  | partJobFaultInject (h : CatHdr) (v : BitVec 8)
  | viewSelect (h : CatHdr) (window : Nat) (v : BitVec 32)
  | evBindingWrite (h : CatHdr) (input : Nat) (sub : BitVec 8) (v : BitVec 32)
  -- Catalogue commands
  | identify (h : CatHdr)
  | describe (h : CatHdr) (index : BitVec 16) (sub : BitVec 8)
  | catRead (h : CatHdr) (index : BitVec 16) (sub : BitVec 8)
  | catWrite (h : CatHdr) (index : BitVec 16) (sub : BitVec 8) (bytes : Nat) (v : BitVec 128)
  | readSeg (h : CatHdr) (index : BitVec 16) (sub : BitVec 8) (offset : BitVec 32) (length : BitVec 16)
      (generation : BitVec 16)
  | nextEntry (h : CatHdr) (index : BitVec 16) (sub : BitVec 8)
  | setEndpointId (src : BitVec 8) (tag : BitVec 3) (eid : BitVec 8)
  | getEndpointId (src : BitVec 8) (tag : BitVec 3)
  | getMctpVersionSupport (src : BitVec 8) (tag : BitVec 3) (msgType : BitVec 8)
  | getMessageTypeSupport (src : BitVec 8) (tag : BitVec 3)
  | getVendorDefinedMessageSupport (src : BitVec 8) (tag : BitVec 3) (selector : BitVec 8)
  -- the remaining rows
  | coreResetRelease (port : Nat)
  | nearParityCheck (port : Nat)
  | w1ArrwDeadline (port entry : Nat)
  | producerMirrorWriteDone
  | idleFlit (port : Nat) (flit : BitVec 256) (bad : Bool)
  | unlistedOpcode (opcode : BitVec 6) (r : OpReq)
  | apertureRefused (area : ApertureArea) (why : ApertureFault) (isRead : Bool)
  | reservedMessageKind (port : Nat) (mkind : BitVec 6)
  | mctpPacketDiscard (why : PacketFault) (packets : Nat)
  | catMalformedRequest (h : CatHdr) (command : BitVec 8) (why : Malformation)
deriving DecidableEq, Repr

end Sys2Proof
end

