-- ==== Sys2Proof/Decode.lean ====
section
/-! DEFINITION. The commands that words spell. The operation and event table gives none of its rows bits, so no word spells a
command. The words of ops, messages and flits are read in Machine/Codec.lean and Machine/Operands.lean. -/

namespace Sys2Proof

/-- The command that a word spells by the table's bits: none, since no row has bits. -/
def decodeTableWord (_nbits _w : Nat) : Option Instr := none

end Sys2Proof
end

