-- ==== Sys2Proof/Machine/Codec.lean ====
section
/-! DEFINITION. Messages as bits: the body layouts of R152, R181, R243, R280, R348 to R351, R376, R416, R463, R479 and
R497, the routing header of R345, and the cyclic redundancy check of R344. Bit widths add up to the layout's by type. -/

namespace Sys2Proof

/-- One bit. -/
abbrev bit1 (b : Bool) : BitVec 1 := BitVec.ofBool b

/-- The flags field of an op word (R92). -/
def OpFlags.bits (f : OpFlags) : BitVec 6 :=
  bit1 f.rel ++ bit1 f.acq ++ bit1 f.noresp ++ bit1 f.near ++ bit1 f.sense ++ bit1 f.x2

/-- The flags field read back (R92). -/
def OpFlags.ofBits (b : BitVec 6) : OpFlags where
  rel := b.getLsbD 5
  acq := b.getLsbD 4
  noresp := b.getLsbD 3
  near := b.getLsbD 2
  sense := b.getLsbD 1
  x2 := b.getLsbD 0

/-- The op word of R91. -/
def opWord (opcode : BitVec 6) (o : OpFields) : BitVec 128 :=
  opcode ++ o.flags.bits ++ o.tsel ++ o.tag ++ o.handle ++ o.operand

/-- An op word and its operand B read back (R91). -/
def opFieldsOf (w : BitVec 128) (opb : BitVec 64) : OpFields where
  flags := OpFlags.ofBits (getFld w 116 6)
  tsel := getFld w 112 4
  tag := getFld w 96 16
  handle := getFld w 64 32
  operand := getFld w 0 64
  opb := opb

/-- The OP body (R348). -/
def encodeOp (b : OpBody) : BitVec 720 :=
  (0 : BitVec 400) ++ bit1 b.carry.resent ++ b.carry.retref ++ b.carry.deadline ++ bit1 b.carry.dlValid ++
  b.carry.context ++ bit1 b.carry.aged ++ b.carry.stamp ++ b.carry.epoch ++ b.carry.cls ++ b.carry.source ++
  b.carry.originator ++ b.op.opb ++ opWord b.opcode b.op

def decodeOp (x : BitVec 720) : OpBody where
  opcode := getFld x 122 6
  op := opFieldsOf (getFld x 0 128) (getFld x 128 64)
  carry := {
    originator := getFld x 192 25, source := getFld x 217 2, cls := getFld x 219 5, epoch := getFld x 224 8,
    stamp := getFld x 232 24, aged := x.getLsbD 256, context := getFld x 257 8, dlValid := x.getLsbD 265,
    deadline := getFld x 266 43, retref := getFld x 309 10, resent := x.getLsbD 319 }

/-- The CPL body (R350); the value beat is present when the message has a second flit. -/
def encodeCpl (b : CplBody) : BitVec 720 :=
  (0 : BitVec 512) ++ b.value.getD 0 ++ (0 : BitVec 26) ++ b.child ++ b.source ++ b.target ++ b.retref ++ b.response

def decodeCpl (two : Bool) (x : BitVec 720) : CplBody where
  response := getFld x 0 64
  retref := getFld x 64 10
  target := getFld x 74 10
  source := getFld x 84 2
  child := getFld x 86 32
  value := if two then some (getFld x 144 64) else none

/-- The partial arrival record (R152). -/
def encodePartial (r : PartialArrival) : BitVec 512 :=
  r.child ++ r.parent ++ r.oper ++ r.format ++ bit1 r.sense ++ bit1 r.broken ++ r.depth ++ r.flags ++ r.count ++
  bit1 r.comb ++ (0 : BitVec 64) ++ r.acc

def decodePartial (x : BitVec 512) : PartialArrival where
  child := getFld x 480 32
  parent := getFld x 448 32
  oper := getFld x 444 4
  format := getFld x 440 4
  sense := x.getLsbD 439
  broken := x.getLsbD 438
  depth := getFld x 434 4
  flags := getFld x 429 5
  count := getFld x 385 44
  comb := x.getLsbD 384
  acc := getFld x 0 320

/-- The FWD_ARRV body (R351). -/
def encodeFwd (b : FwdBody) : BitVec 720 :=
  (0 : BitVec 150) ++ b.originator ++ b.epoch ++ bit1 b.aged ++ b.stamp ++ encodePartial b.arrival

def decodeFwd (x : BitVec 720) : FwdBody where
  arrival := decodePartial (getFld x 0 512)
  stamp := getFld x 512 24
  aged := x.getLsbD 536
  epoch := getFld x 537 8
  originator := getFld x 545 25

def LoanKind.code : LoanKind → BitVec 4
  | .req => 1 | .grant => 2 | .recall => 3 | .ret => 4

def loanKindOf (c : BitVec 4) : Option LoanKind :=
  if c = 1 then some .req else if c = 2 then some .grant else if c = 3 then some .recall
  else if c = 4 then some .ret else none

/-- A loan message (R181), in the body's [255:0]. -/
def encodeLoan (k : LoanKind) (b : LoanBody) : BitVec 720 :=
  (0 : BitVec 464) ++ k.code ++ b.seq ++ b.partition ++ b.epoch ++ b.stamp ++ b.borrower ++ bit1 b.opening ++ b.token ++
  b.reason ++ bit1 b.firstFit ++ (0 : BitVec 29) ++ b.amountA ++ b.amountB

def decodeLoan (x : BitVec 720) : LoanBody where
  seq := getFld x 244 8
  partition := getFld x 240 4
  epoch := getFld x 232 8
  stamp := getFld x 208 24
  borrower := getFld x 193 15
  opening := x.getLsbD 192
  token := getFld x 160 32
  reason := getFld x 158 2
  firstFit := x.getLsbD 157
  amountA := getFld x 64 64
  amountB := getFld x 0 64

/-- A HOLDER_RESET message (R243), in the body's [127:0]. -/
def encodeHolder (b : HolderResetBody) : BitVec 720 :=
  (0 : BitVec 592) ++ (1 : BitVec 4) ++ b.partition ++ b.epoch ++ b.lock ++ b.originator ++ bit1 b.delivered ++
  (0 : BitVec 54)

def decodeHolder (x : BitVec 720) : HolderResetBody where
  partition := getFld x 120 4
  epoch := getFld x 112 8
  lock := getFld x 80 32
  originator := getFld x 55 25
  delivered := x.getLsbD 54

/-- A WAITER_PURGE message (R280), in the body's [127:0]. -/
def encodePurge (b : WaiterPurgeBody) : BitVec 720 :=
  (0 : BitVec 592) ++ (2 : BitVec 4) ++ b.partition ++ b.epoch ++ b.hub ++ b.port ++ b.generation ++ (0 : BitVec 86)

def decodePurge (x : BitVec 720) : WaiterPurgeBody where
  partition := getFld x 120 4
  epoch := getFld x 112 8
  hub := getFld x 97 15
  port := getFld x 90 7
  generation := getFld x 86 4

/-- A fence body (R376). -/
def encodeFence (b : FenceBody) : BitVec 720 := (0 : BitVec 711) ++ bit1 b.cpl ++ b.num

def decodeFence (x : BitVec 720) : FenceBody where
  num := getFld x 0 8
  cpl := x.getLsbD 8

def HoldKind.code : HoldKind → BitVec 4
  | .holdReq => 1 | .holdAck => 2 | .resumeReq => 3 | .resumeAck => 4

def holdKindOf (c : BitVec 4) : Option HoldKind :=
  if c = 1 then some .holdReq else if c = 2 then some .holdAck else if c = 3 then some .resumeReq
  else if c = 4 then some .resumeAck else none

/-- A HOLD_CTL body (R479). -/
def encodeHold (k : HoldKind) (b : HoldBody) : BitVec 720 :=
  (0 : BitVec 576) ++ k.code ++ b.seq ++ b.requester ++ (0 : BitVec 117)

def decodeHold (x : BitVec 720) : HoldBody where
  seq := getFld x 132 8
  requester := getFld x 117 15

def StockKind.code : StockKind → BitVec 4
  | .query => 1 | .report => 2 | .declare => 3

def stockKindOf (c : BitVec 4) : Option StockKind :=
  if c = 1 then some .query else if c = 2 then some .report else if c = 3 then some .declare else none

/-- A Stocktake body (R497). -/
def encodeStock (k : StockKind) (b : StockBody) : BitVec 720 :=
  (0 : BitVec 384) ++ b.act ++ b.recv ++ b.sent ++ k.code ++ b.round ++ b.coordinator ++ bit1 b.allWaiting ++
  bit1 b.held ++ (0 : BitVec 1) ++ b.waiters ++ b.registered ++ b.waiting ++ (0 : BitVec 40)

def decodeStock (x : BitVec 720) : StockBody where
  round := getFld x 108 32
  coordinator := getFld x 93 15
  allWaiting := x.getLsbD 92
  held := x.getLsbD 91
  waiters := getFld x 72 18
  registered := getFld x 56 16
  waiting := getFld x 40 16
  sent := getFld x 144 64
  recv := getFld x 208 64
  act := getFld x 272 64

def ShelfKind.code : ShelfKind → BitVec 4
  | .arm => 1 | .done => 2 | .cancel => 3

def shelfKindOf (c : BitVec 4) : Option ShelfKind :=
  if c = 1 then some .arm else if c = 2 then some .done else if c = 3 then some .cancel else none

/-- A SHELF body (R463). -/
def encodeShelf (k : ShelfKind) (b : ShelfBody) : BitVec 720 :=
  (0 : BitVec 576) ++ k.code ++ bit1 b.shelf ++ bit1 b.mode ++ b.seq ++ b.status ++ b.index ++ b.round ++ b.time ++
  (0 : BitVec 18)

def decodeShelf (x : BitVec 720) : ShelfBody where
  shelf := x.getLsbD 139
  mode := x.getLsbD 138
  seq := getFld x 130 8
  status := getFld x 127 3
  index := getFld x 110 17
  round := getFld x 82 28
  time := getFld x 18 64

def PartCtlKind.code : PartCtlKind → BitVec 4
  | .resetReq => 1 | .resetDone => 2 | .ctxReq => 3 | .ctxDone => 4 | .faultNotice => 5

def partCtlKindOf (c : BitVec 4) : Option PartCtlKind :=
  if c = 1 then some .resetReq else if c = 2 then some .resetDone else if c = 3 then some .ctxReq
  else if c = 4 then some .ctxDone else if c = 5 then some .faultNotice else none

/-- A PART_CTL body (R416). -/
def encodePartCtl (k : PartCtlKind) (b : PartCtlBody) : BitVec 720 :=
  (0 : BitVec 448) ++ b.startTime ++ b.context ++ k.code ++ b.oldEpoch ++ b.newEpoch ++ b.count ++ b.seq ++ b.status ++
  b.cause ++ (0 : BitVec 103)

def decodePartCtl (x : BitVec 720) : PartCtlBody where
  oldEpoch := getFld x 132 8
  newEpoch := getFld x 124 8
  count := getFld x 119 5
  seq := getFld x 111 8
  status := getFld x 109 2
  cause := getFld x 103 6
  context := getFld x 144 64
  startTime := getFld x 208 64

/-- The message kinds of R346. -/
def Payload.mkind : Payload → BitVec 6
  | .op _ => 1 | .cpl _ => 2 | .fwdArrv _ => 3 | .loan _ _ => 4 | .holderReset _ => 5 | .waiterPurge _ => 6
  | .routeFence _ => 7 | .fenceAck _ => 8 | .holdCtl _ _ => 9 | .stocktake _ _ => 10 | .shelf _ _ => 11
  | .partCtl _ _ => 12

/-- The flits of a message (R346, R416, R497). -/
def Payload.flits : Payload → Nat
  | .op _ => 2
  | .cpl b => if b.value.isSome then 2 else 1
  | .fwdArrv _ => 4
  | .loan _ _ => 2
  | .stocktake .report _ => 2
  | .partCtl .resetReq _ => 2
  | .partCtl .ctxReq _ => 2
  | _ => 1

/-- R346, R376: the CPL class carries completions and the fences of that class. -/
def Payload.isCpl : Payload → Bool
  | .cpl _ => true
  | .routeFence b => b.cpl
  | _ => false

/-- A message's body bits. -/
def Payload.encode : Payload → BitVec 720
  | .op b => encodeOp b | .cpl b => encodeCpl b | .fwdArrv b => encodeFwd b | .loan k b => encodeLoan k b
  | .holderReset b => encodeHolder b | .waiterPurge b => encodePurge b | .routeFence b => encodeFence b
  | .fenceAck b => encodeFence b | .holdCtl k b => encodeHold k b | .stocktake k b => encodeStock k b
  | .shelf k b => encodeShelf k b | .partCtl k b => encodePartCtl k b

/-- A message's body read back from its kind and its flit count; `none` for a reserved kind or code (R346, R13). -/
def decodePayload (mkind : BitVec 6) (flits : Nat) (x : BitVec 720) : Option Payload :=
  if mkind = 1 then some (.op (decodeOp x))
  else if mkind = 2 then some (.cpl (decodeCpl (flits = 2) x))
  else if mkind = 3 then some (.fwdArrv (decodeFwd x))
  else if mkind = 4 then (loanKindOf (getFld x 252 4)).map fun k => .loan k (decodeLoan x)
  else if mkind = 5 then if getFld x 124 4 = (1 : BitVec 4) then some (.holderReset (decodeHolder x)) else none
  else if mkind = 6 then if getFld x 124 4 = (2 : BitVec 4) then some (.waiterPurge (decodePurge x)) else none
  else if mkind = 7 then some (.routeFence (decodeFence x))
  else if mkind = 8 then some (.fenceAck (decodeFence x))
  else if mkind = 9 then (holdKindOf (getFld x 140 4)).map fun k => .holdCtl k (decodeHold x)
  else if mkind = 10 then (stockKindOf (getFld x 140 4)).map fun k => .stocktake k (decodeStock x)
  else if mkind = 11 then (shelfKindOf (getFld x 140 4)).map fun k => .shelf k (decodeShelf x)
  else if mkind = 12 then (partCtlKindOf (getFld x 140 4)).map fun k => .partCtl k (decodePartCtl x)
  else none

/-- The routing header (R345) of a message of a kind and flit count. -/
def encodeHdr (h : MsgHdr) (mkind : BitVec 6) (flits : Nat) : BitVec 48 :=
  h.dst ++ h.src ++ mkind ++ BitVec.ofNat 2 (flits - 1) ++ h.hops ++ h.partition ++ (0 : BitVec 2)

/-- The routing header read back: the header, the message kind and the flit count. -/
def decodeHdr (x : BitVec 48) : MsgHdr × BitVec 6 × Nat :=
  ({ dst := getFld x 33 15, src := getFld x 18 15, hops := getFld x 6 4, partition := getFld x 2 4 },
   getFld x 12 6, (getFld x 10 2).toNat + 1)

/-- The payload of flit `k` of a message (R345, R347). -/
def flitPayload (m : Msg) (k : Nat) : BitVec 192 :=
  if k = 0 then encodeHdr m.hdr m.body.mkind m.body.flits ++ getFld m.body.encode 0 144
  else getFld m.body.encode (144 + 192 * (k - 1)) 192

/-- The payloads of a message's flits, in order (R347). -/
def flitPayloads (m : Msg) : List (BitVec 192) := (numsFrom 0 m.body.flits).map (flitPayload m)

/-- The body bits that a message's payloads carry (R347); a flit that is absent is zero. -/
def joinPayloads (ps : List (BitVec 192)) : BitVec 720 :=
  ps.getD 3 0 ++ ps.getD 2 0 ++ ps.getD 1 0 ++ getFld (ps.getD 0 0) 0 144

/-- One bit of the CRC of R344: shift, and subtract the polynomial when the bit that leaves differs from the data. -/
def crcBit (c : BitVec 32) (b : Bool) : BitVec 32 :=
  if c.getLsbD 31 != b then (c <<< 1) ^^^ 0x04C11DB7 else c <<< 1

/-- The CRC over the bits of `x` from bit `n - 1` down to bit 0. -/
def crcFrom (x : BitVec 256) (c : BitVec 32) : Nat → BitVec 32
  | 0 => c
  | n + 1 => crcFrom x (crcBit c (x.getLsbD (32 + n))) n

/-- R344: the CRC-32 of bits [255:32], bit 255 first. -/
def flitCrc (x : BitVec 256) : BitVec 32 := crcFrom x 0xFFFFFFFF 224

/-- The flit layout of R342, without its CRC. -/
structure Flit where
  ftype : BitVec 4
  head : Bool
  fseq : BitVec 12
  aseq : BitVec 12
  crv : Bool
  crb : BitVec 2
  payload : BitVec 192
deriving DecidableEq, Repr

/-- A flit with its CRC in place. -/
def Flit.encode (f : Flit) : BitVec 256 :=
  let x : BitVec 256 :=
    f.ftype ++ bit1 f.head ++ f.fseq ++ f.aseq ++ bit1 f.crv ++ f.crb ++ f.payload ++ (0 : BitVec 32)
  x ||| (flitCrc x).setWidth 256

/-- The fields of a flit (R342). -/
def decodeFlit (x : BitVec 256) : Flit where
  ftype := getFld x 252 4
  head := x.getLsbD 251
  fseq := getFld x 239 12
  aseq := getFld x 227 12
  crv := x.getLsbD 226
  crb := getFld x 224 2
  payload := getFld x 32 192

/-- R344, R343: the CRC agrees and the type is not reserved. -/
def flitGood (x : BitVec 256) : Bool :=
  decide (flitCrc x = getFld x 0 32) && decide ((getFld x 252 4 : BitVec 4).toNat < 8)

end Sys2Proof
end

