-- ==== Sys2Proof/Config.lean ====
section
/-! DEFINITION. What the manual leaves open: the FREE VALUES. Each is an opaque constant with no body, so that no proof
can see what it is; a claim about the model holds whatever it is. State's counter `free` gives each use a fresh
argument. -/

namespace Sys2Proof.Config

/-- R252: which free record of a share the hub takes is not specified. -/
opaque freePick : Nat → Nat

/-- R534: SiliconStep is set at fabrication. -/
opaque siliconStep : BitVec 16

/-- R425: a word with four or more bits in error may be detected or miscorrected. -/
opaque eccDetects : Nat → Bool

/-- R425: what the type-independent effect of a miscorrection is left open; this says which bit pattern results. -/
opaque eccMiscorrected : Nat → BitVec 64

/-- R78: whether the type field reads the same under both decodings depends on which bits are in error. -/
opaque typeReadable : Nat → Bool

/-- R38, R348: bit 0 of the whole-nanosecond entry time of an op from another hub is not carried by its message. -/
opaque entryBit : Nat → Bool

/-- R458: the time from an op's entry at a bank merge to its performing is not fixed by the manual; this is the bucket
of HubServiceHist that it falls into (taken modulo 8). -/
opaque serviceBucket : Nat → Nat

/-- R369, R182 and others: the first number of a hub's own sequence of requests is not given. -/
opaque firstSeq : Nat → BitVec 8

/-- R387: the rate at which a LOCKED hub slews, at most 1 ns per µs, is otherwise open: units of correction that one
edge of the reference clock applies, capped by the rule. -/
opaque slewRate : Nat → Nat

/-- R14, R336 and others: what a U32 counter holds after one more count when it is at its largest value. -/
opaque counterFull : Nat → BitVec 32

/-- R102: the number of csp_clk cycles from a near op's acceptance to its grant; the core clock is the surroundings'. -/
opaque nearCycles : Nat → Nat

/-- R121, R318: the manual names no message that tells an originating hub that a posted op, or a blocking op that
queued, has been performed at another hub; this says whether the hub has learnt it by a given step. -/
opaque farPerformed : Nat → Bool

/-- R425, R430: which entry of the configuration store a word number holds is not given. -/
opaque configEntry : Nat → Nat

/-- R500: the inventory field of a DEADLOCK record where InventoryAutoOnDeadlock is 0, a case that its codes do not name. -/
opaque noInventory : Nat → BitVec 2

/-- R469: the data of a MARKER whose cause is a declared deadlock; the kinds of data listed are none of its. -/
opaque markerData : Nat → BitVec 64

/-- R453: which bits of a word an injection inverts is not given; this says how many of them were in error already. -/
opaque bitOverlap : Nat → Nat

/-- R473: whether a Folio record finds the Folio's queue of 256 records full depends on how fast records came, and the
model tells no rates. -/
opaque folioFull : Nat → Nat → Bool

/-- R522: how many packets, beside the first, of a message left incomplete the hub discards; no command brings single
packets. -/
opaque incompletePackets : Nat → Nat

end Sys2Proof.Config
end

