-- ==== Sys2Proof/Machine/CatTable.lean ====
section
/-! DEFINITION. The Catalogue's entry map (R533): every entry's name, type, access, default, range, scope and tenant
rights, as the entry tables of the chapters give them (R114, R158, R202, R217, R227, R283, R291, R296, R336, R391,
R392, R422, R454 to R458, R467, R476, R482, R487, R494, R502, R534 to R536). -/

namespace Sys2Proof.Machine

/-- The value types of R506. -/
inductive CatType where
  | u8 | u16 | u32 | u64 | i64 | bool | bits (bytes : Nat) | time | domain (size : Nat)
deriving DecidableEq, Repr

/-- The access kinds of R14. -/
inductive CatAccess where
  | ro | rw | wo | w1c | rws
deriving DecidableEq, Repr

/-- The scopes of the entry tables. -/
inductive CatScope where
  | hub | partition | link | lockGroup
deriving DecidableEq, Repr

/-- One entry. `range` is the settable range; `align` the alignment that the Default column asks for; `also` a value
outside the range that is settable too; `mask` the bits that are not reserved. -/
structure CatRow where
  sub : Nat
  name : String
  ty : CatType
  access : CatAccess
  scope : CatScope
  dflt : Nat
  range : Option (Nat × Nat) := none
  align : Nat := 1
  also : Option Nat := none
  mask : Nat := 2 ^ 128 - 1
  tenantRead : Bool := false
  tenantWrite : Bool := false
  apbOnly : Bool := false
deriving DecidableEq, Repr

/-- The bytes of a value (R506); zero for a DOMAIN. -/
def CatType.bytes : CatType → Nat
  | .u8 => 1 | .u16 => 2 | .u32 => 4 | .u64 => 8 | .i64 => 8 | .bool => 1 | .bits n => n | .time => 8 | .domain _ => 0

/-- The descriptor's type code (R527). -/
def CatType.code : CatType → Nat
  | .u8 => 1 | .u16 => 2 | .u32 => 3 | .u64 => 4 | .i64 => 5 | .bool => 6 | .bits _ => 7 | .time => 8 | .domain _ => 9

/-- The descriptor's size field (R527): bits, or the largest length of a DOMAIN in bytes. -/
def CatType.size : CatType → Nat
  | .domain n => n
  | .bool => 8
  | t => 8 * t.bytes

/-- The descriptor's access code (R527). -/
def CatAccess.code : CatAccess → Nat
  | .ro => 0 | .rw => 1 | .wo => 2 | .w1c => 3 | .rws => 4

/-- The descriptor's scope code (R527). -/
def CatScope.code : CatScope → Nat
  | .hub => 0 | .partition => 1 | .link => 2 | .lockGroup => 3

/-- Nanoseconds, microseconds and milliseconds in the units of TIME (R506). -/
def tNs (n : Nat) : Nat := n * 256
def tUs (n : Nat) : Nat := n * 256000
def tMs (n : Nat) : Nat := n * 256000000

/-- A hub-scoped entry that no tenant reaches. -/
def hubRow (sub : Nat) (name : String) (ty : CatType) (access : CatAccess) (dflt : Nat := 0)
    (range : Option (Nat × Nat) := none) : CatRow :=
  { sub := sub, name := name, ty := ty, access := access, scope := .hub, dflt := dflt, range := range }

/-- A partition-scoped entry that its tenant reads and, unless it is RO, writes (R513). -/
def partRow (sub : Nat) (name : String) (ty : CatType) (access : CatAccess) (dflt : Nat := 0)
    (range : Option (Nat × Nat) := none) : CatRow :=
  { sub := sub, name := name, ty := ty, access := access, scope := .partition, dflt := dflt, range := range,
    tenantRead := true, tenantWrite := access ≠ .ro }

/-- A partition-scoped entry that only operators write (R422, R454). -/
def partOpRow (sub : Nat) (name : String) (ty : CatType) (access : CatAccess) (dflt : Nat := 0)
    (range : Option (Nat × Nat) := none) : CatRow :=
  { partRow sub name ty access dflt range with tenantWrite := false }

/-- A link-scoped entry. -/
def linkRow (sub : Nat) (name : String) (ty : CatType) (access : CatAccess) (dflt : Nat := 0)
    (range : Option (Nat × Nat) := none) : CatRow :=
  { sub := sub, name := name, ty := ty, access := access, scope := .link, dflt := dflt, range := range }

/-- The decimal digit of a number below ten, for the names of numbered entries. -/
def digitName (n : Nat) : String := toString n

def rowsIdentity : List CatRow :=
  [hubRow 1 "VendorId" .u32 .ro 0xD2A9, hubRow 2 "PartNumber" (.domain 6) .ro 0x30344A2D5853, hubRow 3 "SiliconStep" .u16 .ro,
   hubRow 4 "CatProtocolVersion" .u8 .ro 1, hubRow 5 "HubDevice" .u16 .ro, hubRow 6 "HubDie" .u8 .ro,
   hubRow 7 "HubOperational" .bool .ro].map fun r => { r with tenantRead := true }

def rowsBuild : List CatRow :=
  [hubRow 1 "BuildPorts" .u8 .ro, hubRow 2 "BuildEnginesPerCore" .u8 .ro, hubRow 3 "BuildClusters" .u8 .ro,
   hubRow 4 "BuildCoresPerCluster" .u8 .ro, hubRow 5 "BuildWarpPorts" .u8 .ro, hubRow 6 "BuildWeftPorts" .u8 .ro,
   hubRow 7 "BuildWeftMaxLanes" .u8 .ro, hubRow 8 "PortMap" (.bits 16) .ro, hubRow 9 "BuildWarpPortMap" (.bits 1) .ro,
   hubRow 10 "BuildWeftPortMap" (.bits 1) .ro].map fun r => { r with tenantRead := true }

def rowsVersions : List CatRow :=
  [hubRow 1 "WarpVersions" (.bits 1) .ro 6, hubRow 2 "WeftVersions" (.bits 1) .ro 0xE,
   hubRow 3 "LockModes" (.bits 1) .ro 3].map fun r => { r with tenantRead := true }

def rowsCapacities : List CatRow :=
  [hubRow 1 "ObjectCapacity" .u32 .ro 131072, hubRow 2 "WaiterCapacity" .u32 .ro 131072,
   hubRow 3 "LoanEntryCapacity" .u16 .ro 4096, hubRow 4 "LockGroupCount" .u16 .ro 256,
   hubRow 5 "EventInputCount" .u8 .ro 16, hubRow 6 "FolioCapacity" .u16 .ro 16384,
   hubRow 7 "TicketBufferCapacity" .u16 .ro 1024, hubRow 8 "PartCountsSupported" (.bits 1) .ro 0x1F].map
    fun r => { r with tenantRead := true }

/-- R114: select s waits 4^(s - 1) microseconds. -/
def rowsWait : List CatRow :=
  (numsFrom 1 15).map fun s => partRow s ("WaitTimeout" ++ digitName s) .time .rw (tUs (4 ^ (s - 1)))

def rowsTree : List CatRow :=
  [partRow 1 "TreeLinkLossTime" .time .rw (tUs 10) (some (tUs 1, tMs 1000)),
   { hubRow 2 "TreeDepthLimit" .u8 .rw 8 (some (1, 15)) with tenantRead := true }]

def rowsLoan : List CatRow :=
  [partRow 1 "LoanShardTakes" .u8 .rw 4, partRow 2 "LoanBorrowersMax" .u8 .rw 8 (some (1, 64)),
   partRow 3 "LoanRecallDelay" .time .rw (tUs 2) (some (0, tMs 1000)), partRow 4 "LoanIdleReturn" .time .rw (tUs 100),
   partRow 5 "LoanLinkLossTime" .time .rw (tUs 10) (some (tUs 1, tMs 1000)), partRow 6 "LoanRecallToken" .u32 .wo]

def rowsTicketRing (k : Nat) : List CatRow :=
  let n := fun (s : String) => s ++ digitName k
  [{ partRow 1 (n "TicketRingBase") .u64 .rw with align := 64 },
   partRow 2 (n "TicketRingLog2Size") .u8 .rw 0 (some (0, 16)), partRow 3 (n "TicketRingProducer") .u32 .ro,
   partRow 4 (n "TicketRingConsumer") .u32 .rw, { partRow 5 (n "TicketRingMirror") .u64 .rw with align := 8 },
   partRow 6 (n "TicketRingNotify") .bool .rw]

def rowsOverflow : List CatRow := [{ partRow 1 "TicketOverflowRing" .u8 .rw 0xFF (some (0, 3)) with also := some 0xFF }]

def rowsAbandon : List CatRow :=
  [partRow 1 "LockClearAbandoned" .u32 .wo, partRow 2 "LockLinkLossTime" .time .rw (tUs 10) (some (tUs 1, tMs 1000))]

def rowsEvent : List CatRow :=
  [hubRow 1 "EvEnable" .bool .rw, hubRow 2 "EvMode" .u8 .rw 0 (some (0, 1)), hubRow 3 "EvActiveHigh" .bool .rw 1,
   hubRow 4 "EvPartition" .u8 .rw, hubRow 5 "EvHandle" .u32 .rw,
   hubRow 6 "EvFilterTime" .time .rw (tNs 20) (some (tNs 20, tUs 1)),
   hubRow 7 "EvRateInterval" .time .rw (tNs 100) (some (tNs 100, tMs 1000)), hubRow 8 "EvSignalCount" .u32 .ro,
   hubRow 9 "EvMergeCount" .u32 .rw, hubRow 10 "EvDropCount" .u32 .rw].map fun r => { r with tenantRead := true }

def rowsStorm : List CatRow :=
  [{ hubRow 1 "StormBucketDepth" .u8 .rw 64 (some (1, 255)) with tenantRead := true },
   { hubRow 2 "StormRefillTime" .time .rw (tNs 2) (some (tNs 1, tUs 1)) with tenantRead := true },
   { hubRow 3 "ApertureStallLimit" .time .rw (tUs 2) (some (tNs 100, tUs 100)) with tenantRead := true },
   partRow 4 "StormNotifyQuiet" .time .rw (tMs 1) (some (tUs 1, tMs 1000))]

def rowsWaiter : List CatRow :=
  [partRow 1 "WaiterCancelObject" .u32 .wo, partRow 2 "WaiterCancelOriginator" .u32 .wo,
   partRow 3 "WaiterInUse" .u32 .ro, partRow 4 "WaiterHighWater" .u32 .rw]

def rowsNotify : List CatRow :=
  [{ partRow 1 "NotifyRingBase" .u64 .rw with align := 16 },
   partRow 2 "NotifyRingLog2Size" .u8 .rw 0 (some (0, 16)), partRow 3 "NotifyRingProducer" .u32 .ro,
   partRow 4 "NotifyRingConsumer" .u32 .rw, partRow 5 "NotifyKindMask" (.bits 2) .rw 0x7E,
   partRow 6 "NotifyIrqEnable" .bool .rw 1, partRow 7 "NotifyIrqHoldoff" .time .rw (tUs 1) (some (0, tMs 1)),
   partRow 8 "NotifyLostCount" .u32 .rw, partRow 9 "ApertureRefusedCount" .u32 .rw]

def rowsHubNotify : List CatRow :=
  [{ hubRow 1 "HubNotifyRingBase" .u64 .rw with align := 16 },
   hubRow 2 "HubNotifyRingLog2Size" .u8 .rw 0 (some (0, 16)), hubRow 3 "HubNotifyRingProducer" .u32 .ro,
   hubRow 4 "HubNotifyRingConsumer" .u32 .rw, hubRow 5 "HubNotifyKindMask" (.bits 2) .rw 0x1D0,
   hubRow 6 "HubNotifyIrqEnable" .bool .rw 1, hubRow 7 "HubNotifyIrqHoldoff" .time .rw (tUs 1) (some (0, tMs 1)),
   hubRow 8 "HubNotifyLostCount" .u32 .rw]

def rowsManager : List CatRow :=
  [{ hubRow 1 "ManagerCache" (.bits 1) .rw 3 with mask := 0xF }, { hubRow 2 "ManagerProt" (.bits 1) .rw 2 with mask := 7 },
   hubRow 3 "ManagerErrorCount" .u32 .rw, hubRow 4 "ShimSurroundWait" .time .rw (tUs 10) (some (tUs 1, tMs 1000)),
   hubRow 5 "ShimSurroundWaitCount" .u32 .rw, hubRow 6 "ShimProtocolErrorCount" .u32 .rw]

def rowsPrincipal : List CatRow :=
  (numsFrom 1 32).map fun k =>
    { hubRow k "CatPrincipal" (.bits 4) .rws with mask := 0x801F00FF, apbOnly := true }

def rowsCatAccess : List CatRow :=
  [hubRow 1 "CatEndpointId" .u8 .ro, hubRow 2 "CatRequestCount" .u32 .rw, hubRow 3 "CatRefusedCount" .u32 .rw,
   hubRow 4 "CatLastRefusal" (.bits 4) .ro, hubRow 5 "CatPacketDropCount" .u32 .rw,
   hubRow 6 "CatIncompleteCount" .u32 .rw]

def rowsReslice : List CatRow :=
  [{ hubRow 1 "PartCount" .u8 .ro 1 with tenantRead := true }, hubRow 2 "ResliceTarget" .u8 .wo,
   hubRow 3 "ResliceState" .u8 .ro, hubRow 4 "ResliceAbort" .bool .wo, hubRow 5 "ResliceAffected" (.bits 2) .ro]

def rowsPart : List CatRow :=
  [partOpRow 1 "PartEpoch" .u8 .ro, partOpRow 2 "PartHygiene" .u8 .ro 1, partOpRow 3 "PartSweepAlways" .bool .rw,
   partOpRow 4 "PartDieMask" (.bits 1) .rw 0xFF, { partOpRow 5 "PartDevMapSelect" .u16 .rw with mask := 0xFFF },
   { partOpRow 6 "PartDevMapEntry" .u16 .rw 0x8000 with mask := 0x8FFF }, partRow 7 "PartCtlScope" .bool .rw 1,
   partRow 8 "PartReset" .bool .wo, partRow 9 "PartContext" .u64 .wo, partOpRow 10 "PartContextId" .u64 .ro,
   partOpRow 11 "PartResetState" .u8 .ro, partOpRow 12 "PartQuiesceWait" .time .rw (tUs 100) (some (tUs 1, tMs 1000)),
   partOpRow 13 "PartQuiesceOverride" .bool .wo, partOpRow 14 "PartQuiesceOverrideCount" .u32 .rw,
   partOpRow 15 "PartPeersFailed" .u32 .rw, partOpRow 16 "PartStaleEpochCount" .u32 .rw,
   partOpRow 17 "PartSelvedgeRefusedCount" .u32 .rw, partOpRow 18 "PartObjectsInUse" .u32 .ro,
   partOpRow 19 "PartTidyViolationCount" .u32 .rw, partOpRow 20 "PartContextDirtyCount" .u32 .rw]

def rowsPortPartition : List CatRow := [{ hubRow 1 "PortPartition" .u8 .rw with tenantRead := true }]

def rowsLockGroup : List CatRow :=
  let r := fun (sub : Nat) (name : String) (ty : CatType) (d : Nat) (rg : Option (Nat × Nat)) =>
    ({ sub := sub, name := name, ty := ty, access := .rw, scope := .lockGroup, dflt := d, range := rg,
       tenantRead := true, tenantWrite := sub ≠ 1 } : CatRow)
  [r 1 "LockGroupAcquirePartitions" (.bits 2) 0xFFFF none, { r 2 "LockGroupAcquireClasses" (.bits 1) 7 none with mask := 0x1F },
   { r 3 "LockGroupForceClasses" (.bits 1) 0x14 none with mask := 0x1F }, r 4 "LockGroupMode" .u8 0 (some (0, 1)),
   r 5 "LockGroupWaitLimit" .time 0 none, r 6 "LockGroupInheritNotify" .bool 1 none]

def rowsSupervisor : List CatRow := [hubRow 1 "LockSupervisorPorts" (.bits 16) .rw]

/-- R391: the entries of the link of a port code; Weft codes are 8 and above. -/
def rowsLink (code : Nat) : List CatRow :=
  let top := if 8 ≤ code then 3 else 2
  [linkRow 1 "LinkEnable" .bool .rw 1, linkRow 2 "LinkVersionMin" .u8 .rw 1 (some (1, top)),
   linkRow 3 "LinkVersionMax" .u8 .rw top (some (0, top)), { linkRow 4 "LinkState" .u8 .ro 1 with tenantRead := true },
   { linkRow 5 "LinkVersion" .u8 .ro with tenantRead := true }, { linkRow 6 "LinkPeer" .u32 .ro with tenantRead := true },
   linkRow 7 "LinkLanes" .u8 .ro] ++
  (if 8 ≤ code then [linkRow 8 "LinkW1Partition" .u8 .rw] else []) ++
  [linkRow 9 "LinkDelayAsym" .i64 .rw, linkRow 10 "LinkDelay" .time .ro,
   linkRow 11 "LinkRetryLimit" .u8 .rw 8 (some (1, 255)), linkRow 12 "LinkHoldTime" .time .rw (tUs 5) (some (0, tMs 1)),
   linkRow 13 "LinkReplayCount" .u32 .rw, linkRow 14 "LinkCrcErrorCount" .u32 .rw,
   linkRow 15 "LinkAbandonedCount" .u32 .rw, linkRow 16 "LinkRefusedKindCount" .u32 .rw,
   linkRow 17 "LinkCredits" (.bits 8) .ro]

def rowsRoute : List CatRow :=
  [{ hubRow 1 "RouteSelect" .u16 .rw with mask := 0x1FFF }, { hubRow 2 "RouteEntry" .u32 .rw with mask := 0xFFFC0000 },
   hubRow 3 "RouteHopLimit" .u8 .rw 15 (some (1, 15)), hubRow 4 "RouteSettleTime" .time .rw (tUs 5) (some (0, tMs 1)),
   hubRow 5 "RouteStrandTime" .time .rw (tUs 10) (some (tUs 1, tMs 1000)), hubRow 6 "RouteDiscardCount" .u32 .rw]

def rowsTime : List CatRow :=
  [hubRow 1 "TimeRoot" .bool .rw, hubRow 2 "TimeParentPort" .u8 .rw 0xFF, hubRow 3 "TimeParentAlt" .u8 .rw 0xFF,
   hubRow 4 "TimeExchangeInterval" .time .rw (tUs 1) (some (tNs 100, tUs 100)),
   { hubRow 5 "TimeState" .u8 .ro with tenantRead := true }, hubRow 6 "TimeOffset" .i64 .ro,
   { hubRow 7 "TimeNow" .time .ro with tenantRead := true }, hubRow 8 "TimeSet" .time .wo,
   hubRow 9 "TimeHoldoverLimit" .time .rw (tMs 1) (some (tUs 10, tMs 1000)), hubRow 10 "TimeStepCount" .u32 .rw,
   hubRow 11 "TimeStepBackCount" .u32 .rw]

def rowsCounters : List CatRow :=
  [partRow 1 "BytesScratchpad" .u64 .ro, partRow 2 "BytesUnifiedCache" .u64 .ro, partRow 3 "BytesExternal" .u64 .ro,
   partRow 4 "BytesHost" .u64 .ro, partRow 5 "OpsPerformed" .u64 .ro, partRow 6 "OpsRefused" .u64 .ro,
   partRow 7 "PostedErrors" .u64 .ro, partRow 8 "Grants" .u64 .ro, partRow 9 "GrantWaitSum" .u64 .ro,
   partRow 10 "GrantWaitMax" .u64 .rw, partRow 11 "Timeouts" .u64 .ro, partRow 12 "WaiterExhausted" .u64 .ro,
   partRow 13 "ResponsesDiscarded" .u64 .ro, partRow 14 "MessagesDiscarded" .u64 .ro,
   partRow 15 "TemplatesRefused" .u64 .ro, partRow 16 "TicketsDiscarded" .u64 .ro,
   partRow 17 "TicketsOverflowed" .u64 .ro, partRow 18 "CreditStranded" .u64 .ro,
   partRow 19 "ApertureBytesIn" .u64 .ro, partRow 20 "ManagerBytesOut" .u64 .ro]

def rowsLinkBytes (name : String) : List CatRow := (numsFrom 1 16).map fun k => partRow k name .u64 .ro

def rowsHubCounters : List CatRow :=
  [hubRow 1 "HubOpsPerformed" .u64 .ro, hubRow 2 "HubOpsRefused" .u64 .ro] ++
  ((numsFrom 0 8).map fun k => hubRow (3 + k) ("HubServiceHist" ++ digitName k) .u64 .ro) ++
  [hubRow 11 "HubMergeWaitMax" .u64 .rw]

def rowsFlits : List CatRow := [linkRow 1 "LinkFlitsTx" .u64 .ro, linkRow 2 "LinkFlitsRx" .u64 .ro]

def rowsShelfCtl : List CatRow :=
  [{ partRow 1 "ShelfArm" (.bits 1) .wo with mask := 7 }, partRow 2 "ShelfArmTime" .time .rw,
   { partRow 3 "ShelfArmIndex" .u32 .rw with mask := 0x1FFFF }, { partRow 4 "ShelfArmRound" .u32 .rw with mask := 0xFFFFFFF },
   { partRow 5 "ShelfCancel" (.bits 1) .wo with mask := 5 }, partRow 6 "ShelfNotify" .bool .rw]

def rowsShelf : List CatRow :=
  [partRow 1 "ShelfState" .u8 .ro, partRow 2 "ShelfData" (.domain 448) .ro, partRow 3 "ShelfPeersLatched" .u16 .ro,
   partRow 4 "ShelfPeersFailed" .u32 .ro]

/-- R503: a tenant reaches the Folio entries other than FolioScope and FolioDumpBase while the scope is its own. -/
def rowsFolio : List CatRow :=
  let t := fun (r : CatRow) => { r with tenantRead := true, tenantWrite := r.access ≠ .ro }
  [{ hubRow 1 "FolioScope" .u8 .rw 0xFF (some (0, 15)) with also := some 0xFF },
   t (hubRow 2 "FolioControl" .u8 .wo 0 (some (1, 4))), t (hubRow 3 "FolioState" .u8 .ro),
   t (hubRow 4 "FolioKindMask" (.bits 4) .rw 0x003FFFF8), t (hubRow 5 "FolioPreEighths" .u8 .rw 4 (some (0, 7))),
   t { hubRow 6 "FolioFilter" (.bits 8) .rw with mask := 0xC1FFFFFFFFFFFFFF },
   t { hubRow 7 "FolioTrigger" (.bits 8) .rw with mask := 0xFFFF8000FFFFFFFF },
   t (hubRow 8 "FolioTrigTime" .time .rw), t (hubRow 9 "FolioTrigOnFault" .bool .rw 1),
   t (hubRow 10 "FolioMarker" .u64 .wo), t (hubRow 11 "FolioPreCount" .u16 .ro), t (hubRow 12 "FolioPostCount" .u16 .ro),
   t (hubRow 13 "FolioLostCount" .u32 .ro), t (hubRow 14 "FolioAfterStopCount" .u32 .ro),
   t (hubRow 15 "FolioTrigTimeSeen" .time .ro), t (hubRow 16 "FolioData" (.domain 524288) .ro),
   { hubRow 17 "FolioDumpBase" .u64 .rw with align := 32 }]

def rowsInventory : List CatRow :=
  [{ partRow 1 "InventoryBase" .u64 .rw with align := 64 },
   { partRow 2 "InventoryLimit" .u32 .rw 1048576 (some (128, 2 ^ 32 - 1)) with align := 64 },
   partRow 3 "InventoryTake" .bool .wo, partRow 4 "InventoryState" .u8 .ro, partRow 5 "InventoryEntries" .u32 .ro,
   partRow 6 "InventoryAutoOnDeadlock" .bool .rw 1]

def rowsHold : List CatRow :=
  [{ partRow 1 "PartHold" (.bits 1) .wo with mask := 1 }, { partRow 2 "PartResume" (.bits 1) .wo with mask := 1 },
   partRow 3 "HoldState" .u8 .ro, partRow 4 "HoldStoredCount" .u32 .ro, partRow 5 "HoldPeersFailed" .u32 .rw]

def rowsDeposit : List CatRow :=
  [partRow 1 "DepositSelect" .u8 .rw 0 (some (0, 7)), partRow 2 "DepositBarrier" .u32 .rw,
   { partRow 3 "DepositRound" .u32 .rw with mask := 0xFFFFFFF }, partRow 4 "DepositPeriod" .u32 .rw,
   partRow 5 "DepositTensor" .u64 .rw, partRow 6 "DepositAux" .u64 .rw,
   { partRow 7 "DepositTarget" (.bits 2) .rw with mask := 0xFFF0 },
   { partRow 8 "DepositFlags" (.bits 1) .rw with mask := 3 }, partRow 9 "DepositState" (.bits 2) .ro,
   partRow 10 "DepositAck" .u8 .wo, partRow 11 "DepositHoldLimit" .time .rw (tMs 1000),
   partRow 12 "DepositCount" .u32 .ro, partRow 13 "DepositHoldTimeouts" .u32 .ro]

def rowsStocktake : List CatRow :=
  [partRow 1 "StocktakeEnable" .bool .rw, partRow 2 "StocktakeCoordinator" .bool .rw,
   partRow 3 "StocktakeInterval" .time .rw (tUs 5) (some (tUs 1, tMs 100)),
   partRow 4 "StocktakeHoldTime" .time .rw (tUs 100) (some (tUs 10, tMs 1000)),
   partRow 5 "StocktakePorts" (.bits 16) .rw, { partRow 6 "StocktakeIssuers" (.bits 2) .rw 0x1FF with mask := 0x1FF },
   partRow 7 "StocktakeState" .u8 .ro, partRow 8 "StocktakeRound" .u32 .ro, partRow 9 "StocktakeIncomplete" .u32 .ro,
   partRow 10 "StocktakeSent" .u64 .ro, partRow 11 "StocktakeRecv" .u64 .ro, partRow 12 "StocktakeActivity" .u64 .ro]

def rowsScrub : List CatRow :=
  [hubRow 1 "ScrubPeriod" .time .rw (tMs 50) (some (tMs 20, tMs 1000)), hubRow 2 "ScrubPassCount" .u32 .ro,
   hubRow 3 "ScrubLastPass" .time .ro]

def rowsErrors : List CatRow :=
  [hubRow 1 "StoreCorrectedCount" .u32 .rw, hubRow 2 "StoreUncorrectedCount" .u32 .rw,
   hubRow 3 "WaiterCorrectedCount" .u32 .rw, hubRow 4 "WaiterUncorrectedCount" .u32 .rw,
   hubRow 5 "TableCorrectedCount" .u32 .rw, hubRow 6 "TableUncorrectedCount" .u32 .rw,
   hubRow 7 "ConfigCorrectedCount" .u32 .rw, hubRow 8 "ConfigUncorrectedCount" .u32 .rw,
   hubRow 9 "NearParityCount" .u32 .rw, hubRow 10 "ErrLastLocation" (.bits 4) .ro]

def rowsStage : List CatRow :=
  [hubRow 1 "StageWatchdogTime" .time .rw (tUs 5) (some (tUs 2, tUs 100)), hubRow 2 "StageRestartCount" .u32 .rw,
   hubRow 3 "StageLastRestart" .u8 .ro 0xFF, hubRow 4 "StageOut" (.bits 4) .ro,
   hubRow 5 "StageRetryInterval" .time .rw (tMs 1) (some (tUs 100, tMs 1000))]

/-- R533: a tenant reads 0x7030.01 to .03 of its own partition, and writes none (R454). -/
def rowsJobFault : List CatRow :=
  [partOpRow 1 "PartJobFault" .bool .ro, partOpRow 2 "PartJobFaultCause" .u8 .ro, partOpRow 3 "PartJobFaultCount" .u32 .rw,
   { partOpRow 4 "PartJobFaultInject" .bool .wo with tenantRead := false }]

def rowsInject : List CatRow := [hubRow 1 "FaultInjectSelect" .u32 .rw, hubRow 2 "FaultInjectKind" .u8 .wo 0 (some (1, 4))]

def rowsRefClk : List CatRow := [hubRow 1 "RefClkState" .u8 .ro, hubRow 2 "RefClkLossCount" .u32 .rw]

def rowsView : List CatRow :=
  let t := fun (r : CatRow) => { r with tenantRead := true, tenantWrite := r.access ≠ .ro }
  [t { hubRow 1 "ViewSelect" (.bits 4) .rw with mask := 0xFFF1FFFF }, t (hubRow 2 "ViewStatus" (.bits 4) .ro),
   t (hubRow 3 "ViewTime" .time .ro), t (hubRow 4 "ViewRecord" (.domain 128) .ro), t (hubRow 5 "ViewValue" .u64 .ro),
   t (hubRow 6 "ViewLastOrig" .u32 .ro), t (hubRow 7 "ViewLastTime" .u32 .ro), t (hubRow 8 "ViewWaiters" (.domain 2560) .ro)]

/-- The rows at an index (R533); an index with no rows is unused. -/
def catBlock (i : Nat) : List CatRow :=
  if i < 0x3000 then
    if i < 0x2400 then
      if i = 0x1000 then rowsIdentity else if i = 0x1001 then rowsBuild else if i = 0x1002 then rowsVersions
      else if i = 0x1003 then rowsCapacities else if i = 0x2100 then rowsWait else if i = 0x2200 then rowsTree
      else if i = 0x2300 then rowsLoan else []
    else if i ≤ 0x2403 then rowsTicketRing (i - 0x2400) else if i = 0x2404 then rowsOverflow
    else if i = 0x2500 then rowsAbandon else if 0x2600 ≤ i ∧ i ≤ 0x260F then rowsEvent
    else if i = 0x2700 then rowsStorm else if i = 0x2800 then rowsWaiter else if i = 0x2900 then rowsNotify
    else if i = 0x2A00 then rowsHubNotify else if i = 0x2B00 then rowsManager else if i = 0x2C00 then rowsPrincipal
    else if i = 0x2C01 then rowsCatAccess else []
  else if i < 0x6000 then
    if i = 0x3000 then rowsReslice else if i = 0x3010 then rowsPart
    else if 0x3100 ≤ i ∧ i ≤ 0x317F then rowsPortPartition
    else if 0x4000 ≤ i ∧ i ≤ 0x40FF then rowsLockGroup else if i = 0x4100 then rowsSupervisor
    else if (0x5000 ≤ i ∧ i ≤ 0x5003) ∨ (0x5008 ≤ i ∧ i ≤ 0x500F) then rowsLink (i - 0x5000)
    else if i = 0x5100 then rowsRoute else if i = 0x5200 then rowsTime else []
  else if i = 0x6000 then rowsCounters else if i = 0x6001 then rowsLinkBytes "LinkTxBytes"
  else if i = 0x6002 then rowsLinkBytes "LinkRxBytes" else if i = 0x6008 then rowsHubCounters
  else if (0x6010 ≤ i ∧ i ≤ 0x6013) ∨ (0x6018 ≤ i ∧ i ≤ 0x601F) then rowsFlits
  else if i = 0x6020 then rowsShelfCtl else if i = 0x6021 ∨ i = 0x6022 then rowsShelf else if i = 0x6030 then rowsFolio
  else if i = 0x6040 then rowsInventory else if i = 0x6050 then rowsHold else if i = 0x6060 then rowsDeposit
  else if i = 0x6070 then rowsStocktake else if i = 0x7000 then rowsScrub else if i = 0x7010 then rowsErrors
  else if i = 0x7020 then rowsStage else if i = 0x7030 then rowsJobFault else if i = 0x7040 then rowsInject
  else if i = 0x7050 then rowsRefClk else if 0x8000 ≤ i ∧ i ≤ 0xBF00 ∧ i % 0x100 = 0 then rowsView
  else []

/-- The row of an entry, if the map has it. -/
def catRow (index sub : Nat) : Option CatRow := (catBlock index).find? fun r => r.sub = sub

/-- The default of an entry; zero where the map has none. -/
def catDefault (index sub : Nat) : Nat :=
  match catRow index sub with
  | some r => r.dflt
  | none => 0

/-- The indices of the map, in ascending order (R533). -/
def catIndices : List Nat :=
  numsFrom 0x1000 4 ++ [0x2100, 0x2200, 0x2300] ++ numsFrom 0x2400 5 ++ [0x2500] ++ numsFrom 0x2600 16 ++
  [0x2700, 0x2800, 0x2900, 0x2A00, 0x2B00, 0x2C00, 0x2C01, 0x3000, 0x3010] ++ numsFrom 0x3100 128 ++
  numsFrom 0x4000 256 ++ [0x4100] ++ numsFrom 0x5000 4 ++ numsFrom 0x5008 8 ++ [0x5100, 0x5200, 0x6000, 0x6001, 0x6002,
  0x6008] ++ numsFrom 0x6010 4 ++ numsFrom 0x6018 8 ++ [0x6020, 0x6021, 0x6022, 0x6030, 0x6040, 0x6050, 0x6060, 0x6070,
  0x7000, 0x7010, 0x7020, 0x7030, 0x7040, 0x7050] ++ (numsFrom 0 64).map fun w => 0x8000 + 0x100 * w

end Sys2Proof.Machine
end

