-- ==== Sys2Proof/Machine/Records.lean ====
section
/-! DEFINITION. The records the hub keeps: object records, waiter records, near objects, lender and ledger entries,
tickets, shim and aperture state, link state, partition state, and the observation records. Plain data; each
structure's defaults are its state after start-up. -/

namespace Sys2Proof.Machine

/-- The record types of R39. -/
inductive ObjType where
  | none | event | token | sem | barrier | lock | trig
deriving DecidableEq, Repr

/-- The status codes of R103. -/
inductive Status where
  | ok | wouldBlock | timeout | abandoned | cancelled | partitionReset | participantLost | rights | badHandle
  | overrun | localOnly | reslicePending | jobFault | unreachable | stormLimited
deriving DecidableEq, Repr

/-- An object record (R38) with, for the header of a wide object, the 768-bit body (R53), and the depth that a barrier
keeps with its waiter context (R152). `hi` is [191:128]: its
bits [63:35] are the type-specific bits [191:163]; its bits [34:0] are stored only by a TRIG record (R204), since the
waiter-queue fields of the other types are read off the waiter store. -/
structure ObjRec where
  otype : ObjType := .none
  depth : BitVec 4 := 1
  mode : BitVec 4 := 0
  partition : BitVec 4 := 0
  faulted : Bool := false
  broken : Bool := false
  abandoned : Bool := false
  sense : Bool := false
  trig : Bool := false
  wide : Bool := false
  lastOrig : Originator := 0
  lastTime : BitVec 22 := 0
  hi : BitVec 64 := 0
  word1 : BitVec 64 := 0
  word0 : BitVec 64 := 0
  body : BitVec 768 := 0
deriving DecidableEq, Repr

/-- The kinds of waiter record (R254). -/
inductive WaiterKind where
  | queued | parkedArrv | parkedArrw | loanReq | fwdArrv | ledger
deriving DecidableEq, Repr

/-- A waiter record (R254) in use. `num` is its record number, which also fixes the share it is taken from; `object`
is the object index, or the ledger entry for kind `ledger`. The order of State's waiter list is the queue order of
each object (R264), so `next` is read off it. `since` is the fabric time from which it has been the oldest home waiter
of its token unserved (R193). -/
structure Waiter where
  num : Nat
  kind : WaiterKind
  object : Nat
  originator : Originator
  source : BitVec 2
  stamp : Stamp
  aged : Bool
  opcode : BitVec 6
  flags : OpFlags
  tag : BitVec 16
  partition : BitVec 4
  epoch : BitVec 8
  context : BitVec 8
  cls : BitVec 5
  dlValid : Bool
  deadline : BitVec 43
  prio : BitVec 4
  operand : BitVec 64
  operandB : BitVec 64
  since : Time
deriving DecidableEq, Repr

/-- A near object (R71). The wait_order field is read off the port's near waits. -/
structure NearObj where
  nextArrivals : BitVec 16 := 0
  sense : Bool := false
  mode : Bool := false
  otype : ObjType := .none
  threshold : BitVec 32 := 0
  value : BitVec 32 := 0
deriving DecidableEq, Repr

/-- A blocking near op that waits in its shim (R75): its lane, the near object and the op. -/
structure NearWait where
  lane : Nat
  index : Nat
  opcode : BitVec 6
  op : OpFields
  context : BitVec 8
  stamp : Stamp
deriving DecidableEq, Repr

/-- A pending entry in use (R266). `home` is set when the op has gone to its home; `arrived` when the response has reached
the shim; `lock` if the op holds an entry of the held-lock table (R222). -/
structure Pend where
  entry : Nat
  lane : Nat
  opcode : BitVec 6
  op : OpFields
  context : BitVec 8
  stamp : Stamp := 0
  home : Option HubId := none
  handle : Handle := 0
  deadline : Option Time := none
  arrived : Bool := false
  lock : Bool := false
deriving DecidableEq, Repr

/-- A response in a shim, on its way to its lane (R268) or readable on it. `beat2` is set while the value beat
shows (R301). -/
structure Rsp where
  lane : Nat
  entry : Option Nat
  opcode : BitVec 6
  acq : Bool
  context : BitVec 8
  stamp : Stamp
  aged : Bool
  originator : Originator
  word : BitVec 64
  value : Option (BitVec 64)
  beat2 : Bool
deriving DecidableEq, Repr

/-- Whom an entry of the parked set names (R274). -/
inductive ParkWho where
  | engine (e : Nat) | core | engines | all
deriving DecidableEq, Repr

/-- An entry of the parked set (R274). -/
structure ParkEntry where
  who : ParkWho
  context : BitVec 8
deriving DecidableEq, Repr

/-- An op at a shim's op-issue interface or in its release drain (R126, R299). -/
structure ShimOp where
  lane : Nat
  opcode : BitVec 6
  op : OpFields
  context : BitVec 8
  entry : Option Nat := none
  since : Time := 0
deriving DecidableEq, Repr

/-- A ticket (R210) and the wake bit it entered the queue with (R269). -/
structure QTicket where
  data : BitVec 512
  wake : Bool
deriving DecidableEq, Repr

/-- A held-lock entry (R222). -/
structure HeldLock where
  index : Nat
  lock : Handle
  engine : BitVec 3
  delivered : Bool
deriving DecidableEq, Repr

/-- A token bucket (R292) and what its STORM records need (R294, R295). -/
structure Bucket where
  tokens : Nat := 64
  lastRefill : Time := 0
  longest : Nat := 0
  count : Nat := 0
  lastNote : Option Time := none
deriving DecidableEq, Repr

/-- An op forwarded to another hub and not yet known to be performed or refused there (R121): the engine position
(or 0 for a slot), the pending entry if it has one, and whether only a free value tells (posted or blocking). -/
structure AwayOp where
  engine : Nat
  entry : Option Nat
  silent : Bool
deriving DecidableEq, Repr

/-- A response that is still to come for an op which its own hub has completed, and which that hub then discards (R251, R369,
R381): the entry (0 for a slot), the hub it comes from, its tag, and whether the discard counts (R455). -/
structure Voided where
  entry : Nat
  hub : HubId
  tag : BitVec 16
  counts : Bool
deriving DecidableEq, Repr

/-- A core shim. `inval` holds the responses that wait for a staging invalidate and those behind them; its flag is
set for a response that the pulse outstanding covers. -/
structure Port where
  rstLow : Bool := false
  generation : BitVec 4 := 0
  pend : List Pend := []
  lanes : List Rsp := []
  parkHeld : List Rsp := []
  holdStore : List Rsp := []
  inval : List (Rsp × Bool) := []
  invalSince : Time := 0
  parked : List ParkEntry := []
  near : Sparse NearObj := []
  nearWaits : List NearWait := []
  nearFault : BitVec 64 := 0
  nearFlips : Sparse Nat := []
  nearNext : Nat := 0
  tickets : List QTicket := []
  issue : List ShimOp := []
  drains : List ShimOp := []
  fences : List ShimOp := []
  away : List AwayOp := []
  voided : List Voided := []
  heldLocks : List HeldLock := []
  buckets : Sparse Bucket := []
  checks : List Nat := []
  drainNoted : Bool := false
  invalNoted : Bool := false
deriving DecidableEq, Repr

/-- An op or template write that the aperture holds (R293, R121). -/
structure SlotOp where
  opcode : BitVec 6
  op : OpFields
  host : Bool
  since : Time := 0
deriving DecidableEq, Repr

/-- An issue slot of the aperture (R317, R318). `stalled` are the writes that the subordinate has not accepted (R293),
`held` the accepted ones that a FENCE holds (R121), `away` what is under way to another hub. -/
structure Slot where
  resp : BitVec 64 := 0
  value : BitVec 64 := 0
  tag : BitVec 16 := 0
  done : Bool := false
  busy : Bool := false
  generation : BitVec 4 := 0
  bucket : Bucket := {}
  fence : Option SlotOp := none
  stalled : List SlotOp := []
  held : List SlotOp := []
  away : List AwayOp := []
  voided : List Voided := []
  sent : Option Pend := none
deriving DecidableEq, Repr

/-- A response on the return path to a shim or to the aperture. -/
structure Ret where
  target : RspTarget
  sel : BitVec 10
  retref : BitVec 10
  word : BitVec 64
  value : Option (BitVec 64)
deriving DecidableEq, Repr

/-- The states of a lender entry (R179). -/
inductive LoanState where
  | opened | recalling | lost
deriving DecidableEq, Repr

/-- A lender entry in use (R179). The order of State's lender list is each token's list order. -/
structure Lender where
  num : Nat
  state : LoanState
  borrower : HubId
  token : Nat
  seq : BitVec 8
  req : Bool
  principal : BitVec 64
deriving DecidableEq, Repr

/-- A ledger entry in use (R180). `idleSince` is when its last grant or top-up was (R195). -/
structure Ledger where
  num : Nat
  req : Bool
  token : Handle
  partition : BitVec 4
  seq : BitVec 8
  firstFit : Bool
  spent : BitVec 64
  balance : BitVec 64
  idleSince : Time
deriving DecidableEq, Repr

/-- Where a ticket goes (R204). -/
inductive TicketTarget where
  | shim (port : Nat) (wake : Bool)
  | ring (k : Nat)
deriving DecidableEq, Repr

/-- A ticket on its way to its target, or in the ticket buffer (R218). `slot` is its place in the share's part of
the buffer; `object` is the index of the firing object. -/
structure Ticket where
  partition : Nat
  target : TicketTarget
  object : Nat
  data : BitVec 512
  slot : Nat := 0
deriving DecidableEq, Repr

/-- The kinds of write of the AXI5 manager (R326). -/
inductive MgrKind where
  | ticket | mirror | notify | folio | inventory
deriving DecidableEq, Repr

/-- A write of the AXI5 manager that awaits its response: the partition whose ring or region is written (16 for the
hub's own), the ring number, the address, the data and the bytes. -/
structure MgrWrite where
  kind : MgrKind
  partition : Nat
  ring : Nat
  addr : BitVec 64
  data : BitVec 512
  bytes : Nat
  ticket : Option Ticket
deriving DecidableEq, Repr

/-- A notify ring's sequence and interrupt state (R331 to R333). -/
structure NotifyRing where
  nextSeq : BitVec 24 := 1
  lastPulse : Option Time := none
  owed : Bool := false
deriving DecidableEq, Repr

/-- The steps of a partition reset (R410) as PartResetState shows them, with the wait of R412 for a low
acknowledgement. -/
inductive ResetStep where
  | idle | cancelling | recalling | ackLow | quiescing | sweeping | awaitPeers
deriving DecidableEq, Repr

/-- A hub that asked for a reset and awaits its RESET_DONE or CTX_DONE (R413). -/
structure ResetAsker where
  hub : HubId
  seq : BitVec 8
  ctx : Bool
deriving DecidableEq, Repr

/-- A partition's reset sequence (R410 to R416). `peers` are the hubs whose DONE is awaited, `recalls` the
lender entries recalled at step 3. -/
structure ResetSeq where
  step : ResetStep := .idle
  newEpoch : BitVec 8 := 0
  isContext : Bool := false
  load : Option (BitVec 64) := none
  askers : List ResetAsker := []
  peers : List HubId := []
  seq : BitVec 8 := 0
  overridden : Bool := false
  recalls : List Nat := []
deriving DecidableEq, Repr

/-- Who waits for the end of a scope-all HOLD or RESUME (R479): the control core's op, or a Catalogue write. -/
inductive HoldWaiter where
  | op (port entry : Nat) | cat (h : CatHdr) | nobody
deriving DecidableEq, Repr

/-- A scope-all HOLD or RESUME whose acknowledgements are awaited (R479). -/
structure HoldXchg where
  resume : Bool
  peers : List HubId
  failed : Bool
  seq : BitVec 8
  since : Time
  waiter : HoldWaiter
deriving DecidableEq, Repr

/-- The hold of a partition at this hub (R477, R479): its exchanges, oldest first, and the last request number. -/
structure HoldCtl where
  held : Bool := false
  xs : List HoldXchg := []
  seq : BitVec 8 := 0
deriving DecidableEq, Repr

/-- The states of a shelf (R459). -/
inductive ShelfState where
  | idle | armed | latched | failed
deriving DecidableEq, Repr

/-- A shelf (R459 to R462). `image` holds the counters of a latched shelf. -/
structure Shelf where
  state : ShelfState := .idle
  mode : Bool := false
  armTime : Time := 0
  armIndex : BitVec 17 := 0
  armRound : BitVec 28 := 0
  status : BitVec 3 := 0
  latches : BitVec 64 := 0
  latchTime : Time := 0
  round : BitVec 28 := 0
  counters : List (BitVec 64) := []
  asker : Option (HubId × BitVec 8) := none
  peers : List HubId := []
  seq : BitVec 8 := 0
  since : Time := 0
  peersLatched : BitVec 16 := 0
  peersFailed : BitVec 32 := 0
  generation : BitVec 16 := 0
deriving DecidableEq, Repr

/-- A Deposit rule (R483 to R487). `waiting` is set while the rule holds a release, that of the barrier at `index`. -/
structure Deposit where
  barrier : BitVec 32 := 0
  round : BitVec 28 := 0
  period : BitVec 32 := 0
  tensor : BitVec 64 := 0
  aux : BitVec 64 := 0
  target : BitVec 16 := 0
  enable : Bool := false
  hold : Bool := false
  waiting : Bool := false
  index : Nat := 0
  since : Time := 0
  cause : Originator := 0
  count : BitVec 32 := 0
  timeouts : BitVec 32 := 0
deriving DecidableEq, Repr

/-- The states of Stocktake (R502). -/
inductive StockState where
  | off | running | paused | declared
deriving DecidableEq, Repr

/-- The Stocktake of a partition at this hub (R499). `ref` is the first quiet round of a run: its number, its time
and its values. -/
structure Stocktake where
  state : StockState := .off
  round : BitVec 32 := 0
  startedAt : Time := 0
  scope : List HubId := []
  routed : Bool := true
  reports : List (HubId × StockBody) := []
  ref : Option (BitVec 32 × Time × List (BitVec 64)) := none
deriving DecidableEq, Repr

/-- An Inventory in progress (R488): its entries in flight are manager writes. -/
structure InvRun where
  running : Bool := false
  entries : Nat := 0
  truncated : Bool := false
  aborted : Bool := false
  reason : Nat := 0
deriving DecidableEq, Repr

/-- What the hub keeps for one partition besides its Catalogue settings and counters. `quiesceSlice` is set while its
quiesce request has been raised for a reslice; `quiesceSince` is when the request was raised, and `quiesceNoted` that
its long wait has been recorded (R412). -/
structure Part where
  epoch : BitVec 8 := 0
  fault : Bool := false
  cause : BitVec 6 := 0
  reported : List Nat := []
  contextId : BitVec 64 := 0
  reset : ResetSeq := {}
  quiesceReq : Bool := false
  quiesceAck : Bool := false
  quiesceSlice : Bool := false
  quiesceSince : Time := 0
  quiesceNoted : Bool := false
  hold : HoldCtl := {}
  shelf0 : Shelf := {}
  shelf1 : Shelf := {}
  deposits : Sparse Deposit := []
  stock : Stocktake := {}
  inv : InvRun := {}
deriving DecidableEq, Repr

/-- The steps of a reslice (R418). -/
inductive ResliceStep where
  | idle | draining | quiescing | completing
deriving DecidableEq, Repr

/-- A reslice (R417 to R421): the target count, the affected old partitions, those whose quiesce is done. -/
structure Reslice where
  step : ResliceStep := .idle
  target : Nat := 0
  affected : List Nat := []
  waiting : List Nat := []
  overridden : Bool := false
  startedAt : Time := 0
deriving DecidableEq, Repr

/-- The states of a link (R377). -/
inductive LinkState where
  | down | training | negotiating | up | hold | refused | renegotiating
deriving DecidableEq, Repr

/-- A data flit: its buffer (R342 crb), whether it is a head flit, its 192-bit payload, and the partition of its
message. -/
structure TxFlit where
  buf : Nat
  head : Bool
  payload : BitVec 192
  partition : Nat
deriving DecidableEq, Repr

/-- A message queued on a link: its buffer, the flits still to send, and whether any has been sent (R347). `fwd` is set
if it was received from another hub. -/
structure TxMsg where
  msg : Msg
  buf : Nat
  flits : List TxFlit
  begun : Bool
  fwd : Bool
  about : Option Nat
deriving DecidableEq, Repr

/-- A flit kept for replay (R357): its sequence number and when it was last sent. -/
structure Kept where
  seq : BitVec 12
  flit : TxFlit
  sentAt : Time
deriving DecidableEq, Repr

/-- A Warp or Weft link (R338 to R382). -/
structure Link where
  state : LinkState := .training
  phyUp : Bool := false
  retrain : Bool := false
  lanes : BitVec 3 := 0
  version : BitVec 2 := 0
  peer : Option HubId := none
  peerVmax : BitVec 2 := 0
  nextSeq : BitVec 12 := 0
  txq : List TxMsg := []
  replay : List Kept := []
  credits : List Nat := [0, 0, 0, 0]
  rxNext : BitVec 12 := 0
  rxAny : Bool := false
  nakSent : Bool := false
  partials : List (Nat × List (BitVec 192)) := []
  owed : List Nat := [0, 0, 0, 0]
  ackOwed : Bool := false
  replays : Nat := 0
  since : Time := 0
  negSent : Time := 0
  sawNeg : Bool := false
  timeoutNoted : Bool := false
  keepReplay : Bool := false
  closing : Bool := false
  wasUp : Bool := false
  catWaits : List CatHdr := []
deriving DecidableEq, Repr

/-- The route key of a message: device table entry `d` (0 to 4095), or die table entry `4096 + e` (R371). -/
abbrev RouteKey := Nat

/-- Why a message waits at this hub: a planned change (R375), a settle time (R379), or no usable route (R381). -/
inductive WaitWhy where
  | fenced | settling | stranded
deriving DecidableEq, Repr

/-- A message received or sent to itself that this hub has still to perform, and the port code of the link that it came
on. -/
structure InMsg where
  port : Option Nat
  msg : Msg
deriving DecidableEq, Repr

/-- A message that waits to leave this hub. `fwd` is set if it was received from another hub; `about` is the parent
barrier of a grant (R156). -/
structure WaitMsg where
  msg : Msg
  about : Option Nat
  why : WaitWhy
  key : RouteKey
  since : Time
  fwd : Bool
deriving DecidableEq, Repr

/-- A planned route change in progress (R375): the link that it leaves, and the fences not yet acknowledged, as (class,
number). -/
structure RouteChange where
  key : RouteKey
  entry : BitVec 32
  link : Nat
  fences : List (Bool × BitVec 8)
  cats : List CatHdr
deriving DecidableEq, Repr

/-- The states of the timebase (R392). -/
inductive TimeState where
  | unsynced | locked | holdover | root
deriving DecidableEq, Repr

/-- The fabric-time machinery (R384 to R390). -/
structure TimeSync where
  state : TimeState := .unsynced
  samples : List (Int × Int) := []
  good : Nat := 0
  xnum : BitVec 8 := 0
  asked : Bool := false
  t1 : Time := 0
  slew : Int := 0
  offset : BitVec 64 := 0
  setUsed : Bool := false
  holdSince : Time := 0
  holdNoted : Bool := false
deriving DecidableEq, Repr

/-- An event input (R285 to R290). -/
structure EvInput where
  level : Bool := false
  applied : Bool := false
  lastOp : Option Time := none
  deferred : Bool := false
  changes : Nat := 0
  merged : Nat := 0
  lastNote : Option Time := none
deriving DecidableEq, Repr

/-- The states of the Folio capture (R471). -/
inductive FolioState where
  | idle | armed | triggered | stopped | dumping
deriving DecidableEq, Repr

/-- A Folio record (R468). -/
structure FolioRec where
  time : Time
  rkind : Nat
  partition : Nat
  epoch : BitVec 8
  originator : Originator
  source : BitVec 2
  opcode : BitVec 6
  status : Nat
  trig : Bool
  lostBefore : Bool
  hub : Bool
  handle : BitVec 32
  tag : BitVec 16
  aux : Nat
  data : BitVec 64
deriving DecidableEq, Repr

/-- The Folio (R471, R472): the pre region oldest first, and the post region. -/
structure Folio where
  state : FolioState := .idle
  pre : List FolioRec := []
  post : List FolioRec := []
  lost : BitVec 32 := 0
  afterStop : BitVec 32 := 0
  trigTimeSeen : Time := 0
  lostFlag : Bool := false
  dumpLeft : Nat := 0
  dumped : Bool := false
  generation : BitVec 16 := 0
deriving DecidableEq, Repr

/-- A view window (R536). -/
structure View where
  valid : Bool := false
  select : BitVec 32 := 0
  more : Bool := false
  wide : Bool := false
  near : Bool := false
  generation : BitVec 16 := 0
  time : Time := 0
  record : List (BitVec 256) := []
  nearRec : BitVec 128 := 0
  value : BitVec 64 := 0
  lastOrig : Originator := 0
  lastTime : BitVec 22 := 0
  waiters : List (BitVec 320) := []
deriving DecidableEq, Repr

/-- The Catalogue's status codes (R516). -/
inductive CatStatus where
  | done | noEntry | accessError | beyondRights | changed | incomplete | busy | malformed
deriving DecidableEq, Repr

/-- A principal (R511): the APB5 principal, or an MCTP endpoint. -/
inductive Principal where
  | apb | eid (e : BitVec 8)
deriving DecidableEq, Repr

/-- A Catalogue write that waits for the event that completes it (R518). -/
structure CatOpen where
  hdr : CatHdr
  index : BitVec 16
  sub : BitVec 8
deriving DecidableEq, Repr

/-- An answer of the Catalogue (R525), with the data bytes it carries as one number of `len` bytes. -/
structure CatAnswer where
  via : CatVia
  rqid : BitVec 8
  partition : BitVec 4
  command : BitVec 8
  index : BitVec 16
  sub : BitVec 8
  status : CatStatus
  last : Bool
  generation : BitVec 16
  len : Nat
  data : Nat
deriving DecidableEq, Repr

/-- The APB5 registers of the Catalogue that a request leaves results in (R529). -/
structure ApbRegs where
  sel : BitVec 32 := 0
  offset : BitVec 32 := 0
  len : BitVec 32 := 0
  busy : Bool := false
  last : Bool := false
  status : CatStatus := .done
  generation : BitVec 16 := 0
  data : BitVec 128 := 0
  seg : Nat := 0
deriving DecidableEq, Repr

/-- An MCTP control answer (R522). -/
structure MctpReply where
  dst : BitVec 8
  tag : BitVec 3
  command : BitVec 8
  completion : BitVec 8
  data : BitVec 64
deriving DecidableEq, Repr

/-- The hub's outputs, in the order it drives them. -/
inductive Output where
  | flit (port : Nat) (f : BitVec 256)
  | axiResp (slot : Option Nat) (block : Option Nat) (slverr decerr : Bool)
  | irq (bit : Nat)
  | answer (a : CatAnswer)
  | mctp (r : MctpReply)
  | pslverr
deriving DecidableEq, Repr

/-- The build parameters (R7, R8), with the port map that the absent ports of R312 leave. -/
structure Build where
  engines : Nat := 8
  clusters : Nat := 8
  cores : Nat := 16
  warpMap : BitVec 4 := 0xF
  weftMap : BitVec 8 := 0xFF
  weftLanes : Nat := 4
  portMap : BitVec 128 := BitVec.allOnes 128
deriving DecidableEq, Repr

/-- The phases of R547 to R550. -/
inductive Phase where
  | inReset | starting | operational
deriving DecidableEq, Repr

end Sys2Proof.Machine
end

