-- ==== Sys2Proof/Machine/State.lean ====
section
/-! DEFINITION. The state of one hub as plain data, the reasons a step can stop, and the state right after reset. -/

namespace Sys2Proof.Machine

/-- Why a command stops the machine. Each is a command that names something the manual says does not exist (R7, R8,
R24, R297): no surroundings can send it. Every one is SAFE: the model stops, and nothing is claimed of the rest. -/
inductive Fault where
  /-- raised by a command of a Core Sync Port that is not built, or of an issuer above 8 (R24, R297); safe -/
  | absentPort
  /-- raised by a command of a Warp or Weft port that is not built (R372); safe -/
  | absentLink
  /-- raised by a command that names a slot, input, ring, stage, store word or partition number that the hub does not
  have (R317, R285, R214, R441, R425, R394); safe -/
  | absentUnit
deriving DecidableEq, Repr

/-- Why the model gives a command no meaning. -/
inductive Refusal where
  /-- raised only by an arm of `exec` for a command that has no meaning yet; safe -/
  | notModelled (mnemonic : String)
deriving DecidableEq, Repr

/-- The state of a hub. Sparse stores list only what differs from the state after start-up. -/
structure State where
  -- commands that wait, first in, first out
  pending : List Instr
  -- start-up, identity and clock (R19, R446, R547 to R556)
  phase : Phase
  build : Build
  device : BitVec 12
  die : BitVec 3
  refSel : BitVec 3
  time : Time
  tick : Nat
  running : Bool
  refLost : Bool
  sync : TimeSync
  -- partitions (R394 to R421)
  partCount : Nat
  parts : Sparse Part
  reslice : Reslice
  -- the stores (R38, R51, R252, R178)
  objs : Sparse ObjRec
  wideBits : Sparse Bool
  waiters : List Waiter
  lenders : List Lender
  ledgers : List Ledger
  loanSeq : BitVec 8
  -- shims, aperture and the return path (R297, R317)
  ports : Sparse Port
  slots : Sparse Slot
  rets : List Ret
  -- tickets and the manager (R209 to R219, R326 to R333)
  buffered : List Ticket
  mgr : List MgrWrite
  notify : Sparse NotifyRing
  -- Catalogue settings and counters, device maps, routes (R425's configuration store)
  cat : Sparse (BitVec 128)
  devMap : Sparse (BitVec 16)
  routes : Sparse (BitVec 32)
  -- links (R338 to R382)
  links : Sparse Link
  inbox : List InMsg
  waitMsgs : List WaitMsg
  changes : List RouteChange
  settles : List (RouteKey × Time)
  fenceNum : BitVec 8
  lostSince : Sparse (Option Time)
  -- event inputs, Folio, views, Catalogue engine
  evs : Sparse EvInput
  folio : Folio
  views : Sparse View
  catOpen : List CatOpen
  catHeld : List (Principal × Instr)
  apb : ApbRegs
  eid : BitVec 8
  -- protected stores and stages (R425 to R445)
  flips : List (StoreWord × Nat)
  stuck : List Nat
  stageFails : Sparse Nat
  stageOut : BitVec 32
  scrubStart : Time
  -- what the hub has driven out
  out : List Output
  -- the model's own: the counter of free values, and the time that has passed at this hub, which no step of R388 changes
  free : Nat
  clock : Time
deriving DecidableEq, Repr

/-- The hub right after hub_rst_n is asserted (R546 to R548): held in reset, every store clear, no command waiting.
The identity and the build are those of the pins and the silicon (DESIGN CHOICE, log entries 1 and 2). -/
def State.reset : State where
  pending := []
  phase := .inReset
  build := {}
  device := 0
  die := 0
  refSel := 0
  time := 0
  tick := 0
  running := false
  refLost := false
  sync := {}
  partCount := 1
  parts := []
  reslice := {}
  objs := []
  wideBits := []
  waiters := []
  lenders := []
  ledgers := []
  loanSeq := 0
  ports := []
  slots := []
  rets := []
  buffered := []
  mgr := []
  notify := []
  cat := []
  devMap := []
  routes := []
  links := []
  inbox := []
  waitMsgs := []
  changes := []
  settles := []
  fenceNum := 0
  lostSince := []
  evs := []
  folio := {}
  views := []
  catOpen := []
  catHeld := []
  apb := {}
  eid := 0
  flips := []
  stuck := []
  stageFails := []
  stageOut := 0
  scrubStart := 0
  out := []
  free := 0
  clock := 0

end Sys2Proof.Machine
end

