-- ==== Sys2Proof/Machine/Ops.lean ====
section
/-! DEFINITION. The named operations over the state: the stores, the Catalogue's settings and counters, the fairness
order, partitions and shares, the AXI5 manager, the notify rings and the Folio. -/

namespace Sys2Proof.Machine

/-! ### Stores -/

/-- What an unlisted key of each sparse store reads as. -/
def objNone (_ : Nat) : ObjRec := {}
def portNone (_ : Nat) : Port := {}
def slotNone (_ : Nat) : Slot := {}
def linkNone (_ : Nat) : Link := {}
def partNone (_ : Nat) : Part := {}
def nearNone (_ : Nat) : NearObj := {}
def bucketNone (_ : Nat) : Bucket := {}
def depositNone (_ : Nat) : Deposit := {}
def ringNone (_ : Nat) : NotifyRing := {}
def evNone (_ : Nat) : EvInput := {}
def viewNone (_ : Nat) : View := {}
def wideNone (_ : Nat) : Bool := false
def natNone (_ : Nat) : Nat := 0
def timeNone (_ : Nat) : Option Time := none
def routeNone (_ : Nat) : BitVec 32 := 0

/-- The default of a device-map entry (R398): valid, and its own number. The key is partition * 4096 + device. -/
def devDefault (k : Nat) : BitVec 16 := BitVec.ofNat 16 (0x8000 + k % 4096)

def State.obj (s : State) (i : Nat) : ObjRec := s.objs.get objNone i
def State.setObj (s : State) (i : Nat) (o : ObjRec) : State := { s with objs := s.objs.put objNone i o }
def State.port (s : State) (p : Nat) : Port := s.ports.get portNone p
def State.setPort (s : State) (p : Nat) (x : Port) : State := { s with ports := s.ports.put portNone p x }
def State.slot (s : State) (g : Nat) : Slot := s.slots.get slotNone g
def State.setSlot (s : State) (g : Nat) (x : Slot) : State := { s with slots := s.slots.put slotNone g x }
def State.link (s : State) (c : Nat) : Link := s.links.get linkNone c
def State.setLink (s : State) (c : Nat) (l : Link) : State := { s with links := s.links.put linkNone c l }
def State.part (s : State) (p : Nat) : Part := s.parts.get partNone p
def State.setPart (s : State) (p : Nat) (x : Part) : State := { s with parts := s.parts.put partNone p x }
def State.ev (s : State) (i : Nat) : EvInput := s.evs.get evNone i
def State.setEv (s : State) (i : Nat) (x : EvInput) : State := { s with evs := s.evs.put evNone i x }
def State.view (s : State) (w : Nat) : View := s.views.get viewNone w
def State.setView (s : State) (w : Nat) (x : View) : State := { s with views := s.views.put viewNone w x }
def State.ring (s : State) (r : Nat) : NotifyRing := s.notify.get ringNone r
def State.setRing (s : State) (r : Nat) (x : NotifyRing) : State := { s with notify := s.notify.put ringNone r x }
def State.wideBit (s : State) (i : Nat) : Bool := s.wideBits.get wideNone (i / 4)
def State.setWideBit (s : State) (i : Nat) (b : Bool) : State :=
  { s with wideBits := s.wideBits.put wideNone (i / 4) b }
def State.route (s : State) (k : Nat) : BitVec 32 := s.routes.get routeNone k
def State.devEntry (s : State) (p d : Nat) : BitVec 16 := s.devMap.get devDefault (p * 4096 + d)
def Port.nearObj (x : Port) (n : Nat) : NearObj := x.near.get nearNone n
def Port.setNear (x : Port) (n : Nat) (o : NearObj) : Port := { x with near := x.near.put nearNone n o }
def Port.bucket (x : Port) (e : Nat) : Bucket := x.buckets.get bucketNone e
def Port.setBucket (x : Port) (e : Nat) (b : Bucket) : Port := { x with buckets := x.buckets.put bucketNone e b }
def Part.deposit (x : Part) (k : Nat) : Deposit := x.deposits.get depositNone k
def Part.setDeposit (x : Part) (k : Nat) (d : Deposit) : Part := { x with deposits := x.deposits.put depositNone k d }

/-- Applies `f` to what a store holds at a key. -/
def State.modPort (s : State) (p : Nat) (f : Port → Port) : State := s.setPort p (f (s.port p))
def State.modSlot (s : State) (g : Nat) (f : Slot → Slot) : State := s.setSlot g (f (s.slot g))
def State.modPart (s : State) (p : Nat) (f : Part → Part) : State := s.setPart p (f (s.part p))
def State.modLink (s : State) (c : Nat) (f : Link → Link) : State := s.setLink c (f (s.link c))
def State.modObj (s : State) (i : Nat) (f : ObjRec → ObjRec) : State := s.setObj i (f (s.obj i))

/-- A free value's fresh argument: the present count, and the state with the count advanced. -/
def State.fresh (s : State) : State := { s with free := s.free + 1 }

/-- Drives one output. -/
def State.drive (s : State) (o : Output) : State := { s with out := s.out ++ [o] }

/-! ### The Catalogue's settings and counters -/

/-- The key of an entry instance in the configuration store; the partition is 0 for an entry that has none. -/
def catKey (index sub part : Nat) : Nat := (index * 256 + sub) * 16 + part

/-- What an unlisted entry reads as: its default. -/
def catNone (k : Nat) : BitVec 128 := BitVec.ofNat 128 (catDefault (k / 4096) (k / 16 % 256))

/-- The stored value of an entry. -/
def State.cfg (s : State) (index sub : Nat) (part : Nat := 0) : Nat := (s.cat.get catNone (catKey index sub part)).toNat

/-- Stores a value of an entry. -/
def State.setCfg (s : State) (index sub part v : Nat) : State :=
  { s with cat := s.cat.put catNone (catKey index sub part) (BitVec.ofNat 128 v) }

/-- Adds to a 64-bit counter (R455, R458), modulo 2^64. -/
def State.count (s : State) (index sub part n : Nat) : State :=
  s.setCfg index sub part ((s.cfg index sub part + n) % 2 ^ 64)

/-- Adds one to a 32-bit counter. What follows 2^32 - 1 is a free value (DESIGN CHOICE, log entry 5). -/
def State.bump (s : State) (index sub : Nat) (part : Nat := 0) : State :=
  if s.cfg index sub part + 1 < 2 ^ 32 then s.setCfg index sub part (s.cfg index sub part + 1)
  else (s.setCfg index sub part (Config.counterFull s.free).toNat).fresh

/-- A 32-bit counter kept in a record, after one more count; a full one goes to a free value (log entry 5). -/
def State.next32 (s : State) (v : BitVec 32) : BitVec 32 := if v.toNat + 1 < 2 ^ 32 then v + 1 else Config.counterFull s.free
def State.count32 (s : State) (v : BitVec 32) : State := if v.toNat + 1 < 2 ^ 32 then s else s.fresh

/-- Adds `n` to a 32-bit counter. -/
def State.bumpN (s : State) (index sub part : Nat) : Nat → State
  | 0 => s
  | n + 1 => (s.bump index sub part).bumpN index sub part n

/-- A 64-bit maximum (R455 GrantWaitMax, R458 HubMergeWaitMax). -/
def State.countMax (s : State) (index sub part n : Nat) : State :=
  if s.cfg index sub part < n then s.setCfg index sub part n else s

/-! ### Identity, build and time -/

/-- The hub's own name (R19). -/
def State.hub (s : State) : HubId := s.device ++ s.die

/-- The hub named by a handle's device and die fields (R28). -/
def handleHub (h : Handle) : HubId := getFld h 17 15

/-- The record index of a handle. -/
def handleIndex (h : Handle) : Nat := (getFld h 0 17).toNat

/-- An absolute handle from a hub and an index. -/
def mkHandle (hub : HubId) (i : Nat) : Handle := hub ++ BitVec.ofNat 17 i

/-- The hub of an originator (R25). -/
def origHub (o : Originator) : HubId := getFld o 10 15

/-- An originator of this hub from its low ten bits (R25, R289, R319). -/
def State.orig (s : State) (low : Nat) : Originator := s.hub ++ BitVec.ofNat 10 low

/-- The originator of a lane of a port (R25): the control core shares engine 0's. -/
def State.laneOrig (s : State) (port lane : Nat) : Originator := s.orig (port * 8 + (lane - 1))

/-- The engine position of a lane (R25). -/
def laneEngine (lane : Nat) : Nat := lane - 1

/-- R24, R26: whether a port is built, and whether a lane of it exists. -/
def State.portBuilt (s : State) (p : Nat) : Bool := decide (p < 128) && s.build.portMap.getLsbD p
def State.laneBuilt (s : State) (lane : Nat) : Bool := decide (lane ≤ s.build.engines)

/-- The built ports, in ascending order. -/
def State.builtPorts (s : State) : List Nat := (numsFrom 0 128).filter s.portBuilt

/-- R372: whether a port code names a built link. -/
def State.linkBuilt (s : State) (c : Nat) : Bool :=
  if c < 4 then s.build.warpMap.getLsbD c else decide (8 ≤ c ∧ c < 16) && s.build.weftMap.getLsbD (c - 8)

/-- The port codes of R372. -/
def linkCodes : List Nat := numsFrom 0 4 ++ numsFrom 8 8
def State.builtLinks (s : State) : List Nat := linkCodes.filter s.linkBuilt
def isWeft (c : Nat) : Bool := decide (8 ≤ c)

/-- Whether the hub serves ops (R549, R550). -/
def State.live (s : State) : Bool := decide (s.phase = .operational)

/-! ### The fairness order (R255 to R258) -/

/-- R256: `a` is older than `b`. -/
def stampOlder (a b : Stamp) : Bool := decide (a ≠ b) && decide ((b - a).toNat < 2 ^ 23)

/-- R257: the tie key. -/
def fairKey (o : Originator) (src : BitVec 2) : Nat := 4 * o.toNat + src.toNat

/-- The comparison of R256 to R258: `x` is served before `y`. -/
def older (xAged : Bool) (xStamp : Stamp) (xKey : Nat) (yAged : Bool) (yStamp : Stamp) (yKey : Nat) : Bool :=
  if xAged ≠ yAged then xAged
  else if !xAged && decide (xStamp ≠ yStamp) then stampOlder xStamp yStamp
  else decide (xKey < yKey)

/-- R258, R259: whether a stamp is 2^22 units or more behind the current one. -/
def State.isAged (s : State) (st : Stamp) : Bool := decide (2 ^ 22 ≤ (s.time.stamp - st).toNat)

/-! ### Partitions and shares (R394) -/

/-- The objects, and the waiter records, of one share. -/
def State.shareSize (s : State) : Nat := 131072 / s.partCount
def State.shareBase (s : State) (p : Nat) : Nat := p * s.shareSize
/-- The partition whose share holds an index (R78). -/
def State.partOfIndex (s : State) (i : Nat) : Nat := i / s.shareSize
def State.inShare (s : State) (p i : Nat) : Bool :=
  decide (s.shareBase p ≤ i ∧ i < s.shareBase p + s.shareSize)
/-- R178: entries of the loan table and the ledger that one partition owns. -/
def State.loanShare (s : State) : Nat := 4096 / s.partCount
def State.ticketShare (s : State) : Nat := 1024 / s.partCount
/-- R316: the partition of an issue slot. -/
def State.slotPart (s : State) (g : Nat) : Nat := g * s.partCount / 1024
/-- PortPartition (R395); 255 is none. -/
def State.portPart (s : State) (p : Nat) : Nat := s.cfg (0x3100 + p) 1
/-- The built ports of a partition. -/
def State.partPorts (s : State) (p : Nat) : List Nat := s.builtPorts.filter fun q => s.portPart q = p
/-- The issue slots of a partition. -/
def State.partSlots (s : State) (p : Nat) : List Nat := numsFrom (p * (1024 / s.partCount)) (1024 / s.partCount)
def State.epoch (s : State) (p : Nat) : BitVec 8 := (s.part p).epoch
/-- The job-fault latch (R432). -/
def State.latched (s : State) (p : Nat) : Bool := (s.part p).fault
/-- R401, R402: a reset or Sweep-mode context change is in progress, from step 1 until step 6 has ended. -/
def State.resetting (s : State) (p : Nat) : Bool :=
  match (s.part p).reset.step with
  | .idle => false
  | .awaitPeers => false
  | _ => true
/-- R401, R402: a reslice affecting a partition is pending. -/
def State.reslicing (s : State) (p : Nat) : Bool :=
  decide (s.reslice.step ≠ .idle) && s.reslice.affected.contains p
/-- The bank of a record (R260): index bits [5:2]. -/
def bankOf (i : Nat) : Nat := i / 4 % 16
/-- R445: a stage that refuses the work that needs it. -/
def State.stageIsOut (s : State) (k : Nat) : Bool := s.stageOut.getLsbD k

/-- WaiterInUse (R283): the records of a share in use. -/
def State.waitersOf (s : State) (p : Nat) : List Waiter := s.waiters.filter fun w => s.partOfIndex w.num = p
/-- PartObjectsInUse (R408): headers of the share whose type is not NONE. -/
def State.objectsOf (s : State) (p : Nat) : List (Nat × ObjRec) :=
  s.objs.filter fun x => s.partOfIndex x.1 = p && decide (x.2.otype ≠ .none)
def State.lendersOf (s : State) (p : Nat) : List Lender := s.lenders.filter fun e => e.num / s.loanShare = p
def State.ledgersOf (s : State) (p : Nat) : List Ledger := s.ledgers.filter fun e => e.num / s.loanShare = p
def State.bufferedOf (s : State) (p : Nat) : List Ticket := s.buffered.filter fun t => t.partition = p

/-- R404: the comparison of an incoming epoch with the hub's own; `none` is a match, `some true` stale. -/
def epochCheck (own e : BitVec 8) : Option Bool :=
  if own = e then none else some (decide ((own - e).toNat ≤ 127))

/-! ### The AXI5 manager and the notify rings (R326 to R333) -/

/-- Issues a write of the manager; its response is a later command. -/
def State.mgrIssue (s : State) (w : MgrWrite) : State := { s with mgr := s.mgr ++ [w] }

/-- The index of the block that holds a notify ring's entries, and its partition number there (R336). -/
def ringIndex (r : Nat) : Nat := if r = 16 then 0x2A00 else 0x2900
def ringPart (r : Nat) : Nat := if r = 16 then 0 else r

/-- A setting of a notify ring. -/
def State.ringCfg (s : State) (r sub : Nat) : Nat := s.cfg (ringIndex r) sub (ringPart r)

/-- The writes of a kind that are outstanding for a ring. -/
def State.inFlight (s : State) (k : MgrKind) (part ring : Nat) : Nat :=
  (s.mgr.filter fun w => decide (w.kind = k) && w.partition = part && w.ring = ring).length

/-- R328: the sequence number after one. -/
def nextNotifySeq (n : BitVec 24) : BitVec 24 := if n.toNat = 2 ^ 24 - 1 then 1 else n + 1

/-- Makes a notify record for a ring (R328, R331). The ring's position counts the records whose write is outstanding
(DEDUCED, log entry 6). -/
def State.notifyRing (s : State) (r kind part : Nat) (body : BitVec 96) : State :=
  let seq := (s.ring r).nextSeq
  let s1 := s.setRing r { s.ring r with nextSeq := nextNotifySeq seq }
  let size := s.ringCfg r 2
  let fly := s.inFlight .notify r 0
  let fill := (s.ringCfg r 3 + 2 ^ 32 - s.ringCfg r 4) % 2 ^ 32 + fly
  if size = 0 ∨ 2 ^ size ≤ fill then s1.bump (ringIndex r) 8 (ringPart r)
  else if (s.ringCfg r 5).testBit kind = false then s1
  else s1.mgrIssue {
    kind := .notify, partition := r, ring := 0, bytes := 16, ticket := none
    addr := BitVec.ofNat 64 (s.ringCfg r 1 + ((s.ringCfg r 3 + fly) % 2 ^ size) * 16)
    data := pack 512 [⟨0, 96, body.toNat⟩, ⟨96, 24, seq.toNat⟩, ⟨120, 4, part⟩, ⟨124, 4, kind⟩] }

/-- Pulses a ring's interrupt now, or owes it to the end of the holdoff (R333), or to the return of the reference clock
(R446). -/
def State.irq (s : State) (r : Nat) : State :=
  if s.ringCfg r 6 = 0 then s
  else if s.refLost then s.setRing r { s.ring r with owed := true }
  else match (s.ring r).lastPulse with
    | some t =>
      if elapsed t s.clock < s.ringCfg r 7 then s.setRing r { s.ring r with owed := true }
      else (s.setRing r { s.ring r with lastPulse := some s.clock }).drive (.irq r)
    | none => (s.setRing r { s.ring r with lastPulse := some s.clock }).drive (.irq r)

/-! ### The Folio (R468 to R474) -/

/-- A Folio record as stored (R468). -/
def FolioRec.word (r : FolioRec) : BitVec 256 :=
  pack 256 [⟨192, 64, r.time.toNat⟩, ⟨184, 8, r.rkind⟩, ⟨180, 4, r.partition⟩, ⟨172, 8, r.epoch.toNat⟩,
    ⟨147, 25, r.originator.toNat⟩, ⟨145, 2, r.source.toNat⟩, ⟨139, 6, r.opcode.toNat⟩, ⟨131, 8, r.status⟩,
    ⟨130, 1, bitNat r.trig⟩, ⟨129, 1, bitNat r.lostBefore⟩, ⟨128, 1, bitNat r.hub⟩, ⟨96, 32, r.handle.toNat⟩,
    ⟨80, 16, r.tag.toNat⟩, ⟨64, 16, r.aux⟩, ⟨0, 64, r.data.toNat⟩]

/-- A record of a partition, with the fields that name no op at zero. -/
def State.folioOf (s : State) (kind p : Nat) : FolioRec where
  time := s.time
  rkind := kind
  partition := p
  epoch := s.epoch p
  originator := 0
  source := 0
  opcode := 0
  status := 0
  trig := false
  lostBefore := false
  hub := false
  handle := 0
  tag := 0
  aux := 0
  data := 0

/-- A record of an event that concerns no partition. -/
def State.folioHub (s : State) (kind : Nat) : FolioRec := { s.folioOf kind 0 with hub := true, epoch := 0 }

/-- The records that the pre and the post region hold (R471). -/
def State.folioPreCap (s : State) : Nat := s.cfg 0x6030 5 * 2048
def State.folioPostCap (s : State) : Nat := 16384 - s.folioPreCap

/-- The ring that the TRACE record of the Folio goes to (R474), and its partition field. -/
def State.folioRing (s : State) : Nat := if s.cfg 0x6030 1 = 0xFF then 16 else s.cfg 0x6030 1

/-- The TRACE record of a stopped capture (R475). -/
def State.folioTrace (s : State) : State :=
  s.notifyRing s.folioRing 6 (if s.folioRing = 16 then 0 else s.folioRing)
    (pack 96 [⟨92, 4, 1⟩, ⟨78, 14, s.folio.pre.length⟩, ⟨63, 15, s.folio.post.length⟩, ⟨31, 32, s.folio.lost.toNat⟩,
      ⟨30, 1, bitNat s.folio.dumped⟩])

/-- The dump writes (R474), from record number `i` on. -/
def State.folioDump (s : State) (i : Nat) : List FolioRec → State
  | [] => s
  | r :: rs =>
    (s.mgrIssue { kind := .folio, partition := 16, ring := 0, bytes := 32, ticket := none,
                  addr := BitVec.ofNat 64 (s.cfg 0x6030 17 + i * 32),
                  data := BitVec.ofNat 512 r.word.toNat }).folioDump (i + 1) rs

/-- Enters STOPPED, and from there DUMPING if a dump is set (R471, R474). -/
def State.folioStop (s : State) : State :=
  let recs := s.folio.pre ++ s.folio.post
  if s.cfg 0x6030 17 = 0 ∨ recs = [] then
    { s with folio := { s.folio with state := .stopped, dumped := false } }.folioTrace
  else
    { s with folio := { s.folio with state := .dumping, dumped := true, dumpLeft := recs.length } }.folioDump 0 recs

/-- Stores a record in the post region, and stops the capture when it is full (R471). -/
def State.folioPost (s : State) (r : FolioRec) : State :=
  let s1 := { s with folio := { s.folio with
    post := s.folio.post ++ [r], lostFlag := false, generation := s.folio.generation + 1 } }
  if s1.folioPostCap ≤ s1.folio.post.length then s1.folioStop else s1

/-- Triggers an armed capture with a trigger record (R471, R472). -/
def State.folioTrigger (s : State) (r : FolioRec) : State :=
  { s with folio := { s.folio with state := .triggered, trigTimeSeen := r.time } }.folioPost { r with trig := true }

/-- R470: whether a record's partition lies in the scope. -/
def State.folioScope (s : State) (hub : Bool) (p : Nat) : Bool :=
  s.cfg 0x6030 1 = 0xFF || (!hub && s.cfg 0x6030 1 = p)

/-- R470: whether the hub records an event. -/
def State.folioWants (s : State) (r : FolioRec) : Bool :=
  let f := s.cfg 0x6030 6
  (s.cfg 0x6030 4).testBit r.rkind && s.folioScope r.hub r.partition &&
  (if r.rkind ∈ [1, 2, 3, 4, 7] then
    (!f.testBit 63 || f % 2 ^ 32 = r.handle.toNat) && (!f.testBit 62 || f / 2 ^ 32 % 2 ^ 25 = r.originator.toNat)
   else true)

/-- R472: whether a record matches FolioTrigger. -/
def State.folioMatches (s : State) (r : FolioRec) : Bool :=
  let t := s.cfg 0x6030 7
  t / 2 ^ 56 ≠ 0 && t / 2 ^ 56 = r.rkind && (t / 2 ^ 48 % 256 = 0xFF || t / 2 ^ 48 % 256 = r.status) &&
  (!t.testBit 47 || t % 2 ^ 32 = r.handle.toNat)

/-- R473: whether a record that is not the trigger record finds the Folio's queue full: a free value for each record that
is stored or lost (log entry 88). -/
def State.folioFull (s : State) : Bool := Config.folioFull s.clock.toNat (s.folio.generation.toNat + s.folio.lost.toNat)

/-- A record that is dropped because the queue is full: it is counted, and the next one stored says so (R473). -/
def State.folioLose (s : State) : State :=
  { s.count32 s.folio.lost with folio := { s.folio with lost := s.next32 s.folio.lost, lostFlag := true } }

/-- Makes a Folio record of an event (R470 to R473). -/
def State.record (s : State) (r0 : FolioRec) : State :=
  if s.folioWants r0 then
    let r := { r0 with lostBefore := s.folio.lostFlag }
    match s.folio.state with
    | .armed =>
      if s.folioMatches r then s.folioTrigger r
      else if s.folioFull then s.folioLose
      else
        let pre := s.folio.pre ++ [r]
        { s with folio := { s.folio with
            pre := if s.folioPreCap < pre.length then pre.drop 1 else pre, lostFlag := false,
            generation := s.folio.generation + 1 } }
    | .triggered => if s.folioFull then s.folioLose else s.folioPost r
    | _ => { s.count32 s.folio.afterStop with folio := { s.folio with afterStop := s.next32 s.folio.afterStop } }
  else s

/-- A trigger that has no record of its own (R472): a MARKER whose aux names the cause. -/
def State.folioMark (s : State) (hub : Bool) (p cause : Nat) (data : BitVec 64) : State :=
  if s.folio.state = .armed then
    s.folioTrigger { (if hub then s.folioHub 0x15 else s.folioOf 0x15 p) with aux := cause, data := data }
  else s

end Sys2Proof.Machine
end

