-- ==== Sys2Proof/Machine/Operands.lean ====
section
/-! DEFINITION. Operand forms: the opcode table (R94), the op as the home holds it, the operands of INIT (R63), the fields
of each record type (R42 to R58, R162, R204), keyed arrivals (R97), and handle translation (R29, R399). -/

namespace Sys2Proof.Machine

/-- The opcode codes of R94. -/
def opCode : Opcode → BitVec 6
  | .sig => 0x01 | .set => 0x02 | .clr => 0x03 | .wait => 0x04 | .take => 0x05 | .tryTake => 0x06 | .arrv => 0x08
  | .arrw => 0x09 | .wrel => 0x0A | .acq => 0x10 | .tryAcq => 0x11 | .rel => 0x12 | .frel => 0x13 | .read => 0x18
  | .init => 0x19 | .fadd => 0x1C | .swap => 0x1D | .cas => 0x1E | .arm => 0x20 | .disarm => 0x21 | .hold => 0x28
  | .resume => 0x29 | .park => 0x30 | .unpark => 0x31 | .fence => 0x3F

/-- Every opcode of the table, in its order. -/
def allOpcodes : List Opcode :=
  [.sig, .set, .clr, .wait, .take, .tryTake, .arrv, .arrw, .wrel, .acq, .tryAcq, .rel, .frel, .read, .init, .fadd,
   .swap, .cas, .arm, .disarm, .hold, .resume, .park, .unpark, .fence]

/-- The opcode of a code; `none` if the table does not list it. -/
def opcodeOf (c : BitVec 6) : Option Opcode := allOpcodes.find? fun o => opCode o = c

/-- R94, the Blocks column. -/
def opBlocks : Opcode → Bool
  | .wait | .take | .arrw | .wrel | .acq => true
  | _ => false

/-- R94, the column May be posted. -/
def opMayPost : Opcode → Bool
  | .sig | .set | .clr | .arrv | .rel | .fadd | .disarm => true
  | _ => false

/-- R94, the Near column. -/
def opNear : Opcode → Bool
  | .sig | .set | .clr | .wait | .take | .tryTake | .arrv | .arrw | .wrel | .read | .init => true
  | _ => false

/-- R94, the Resp column: a value beat follows the response. -/
def opHasValue : Opcode → Bool
  | .arrw | .wrel | .read | .fadd | .swap | .cas => true
  | _ => false

/-- R94, the Beats column: whether X2 agrees with the table. -/
def opBeatsOk (o : Opcode) (x2 : Bool) : Bool :=
  match o with
  | .arrv | .arrw => true
  | .init | .cas => x2
  | _ => !x2

/-- R94, the Issuers column: the ops that only a control core issues. -/
def opCoreOnly : Opcode → Bool
  | .hold | .resume | .park | .unpark => true
  | _ => false

/-- R113: the ops that act on the issuer and name no object. -/
def opService : Opcode → Bool
  | .hold | .resume | .park | .unpark | .fence => true
  | _ => false

/-- The blocking test on an opcode code. -/
def codeBlocks (c : BitVec 6) : Bool := (opcodeOf c).any opBlocks
def codeHasValue (c : BitVec 6) : Bool := (opcodeOf c).any opHasValue
def codeService (c : BitVec 6) : Bool := (opcodeOf c).any opService

/-- The source codes of R254. -/
def srcPort : BitVec 2 := 0
def srcHub : BitVec 2 := 1
def srcAperture : BitVec 2 := 2
def srcEvent : BitVec 2 := 3

/-- The class codes of R224. -/
def clsEngine : BitVec 5 := 0x01
def clsCore : BitVec 5 := 0x02
def clsSupv : BitVec 5 := 0x04
def clsDma : BitVec 5 := 0x08
def clsHost : BitVec 5 := 0x10

/-- An op as its home holds it: its word with the absolute handle, and what it was stamped with. `entered` is bits
[21:0] of the time at which it entered its originating hub (R38); `w1` marks an op that came over a level-1 link. -/
structure HomeOp where
  opcode : BitVec 6
  op : OpFields
  originator : Originator
  source : BitVec 2
  cls : BitVec 5
  partition : Nat
  epoch : BitVec 8
  stamp : Stamp
  aged : Bool
  context : BitVec 8
  dlValid : Bool
  deadline : BitVec 43
  retref : BitVec 10
  resent : Bool
  entered : BitVec 22
deriving DecidableEq, Repr

/-- The index that an op names. -/
def HomeOp.index (o : HomeOp) : Nat := handleIndex o.op.handle

/-- The OP message body of an op (R348). -/
def HomeOp.carry (o : HomeOp) : OpCarry where
  originator := o.originator
  source := o.source
  cls := o.cls
  epoch := o.epoch
  stamp := o.stamp
  aged := o.aged
  context := o.context
  dlValid := o.dlValid
  deadline := o.deadline
  retref := o.retref
  resent := o.resent

/-! ### Record fields -/

/-- R48: the fields of a barrier header. -/
def ObjRec.kind (o : ObjRec) : BitVec 2 := getFld o.mode 0 2
def ObjRec.hasParent (o : ObjRec) : Bool := o.mode.getLsbD 2
def ObjRec.isRegistered (o : ObjRec) : Bool := decide (o.kind = 1)
def ObjRec.isCombining (o : ObjRec) : Bool := decide (o.kind = 2)
def ObjRec.round (o : ObjRec) : BitVec 28 := getFld o.hi 35 28
def ObjRec.parent (o : ObjRec) : Handle := getFld o.word1 32 32
def ObjRec.expected (o : ObjRec) : Nat := (getFld o.word1 0 32).toNat
/-- R48, R54: arrivals of the current and the next round. -/
def ObjRec.arrivals (o : ObjRec) : Nat :=
  if o.isRegistered then (getFld o.word0 0 16).toNat else (getFld o.word0 0 32).toNat
def ObjRec.nextArrivals (o : ObjRec) : Nat :=
  if o.isRegistered then (getFld o.word0 16 16).toNat else (getFld o.word0 32 32).toNat
/-- R54: the participants of a registered barrier. -/
def ObjRec.engMask (o : ObjRec) : BitVec 8 := getFld o.word0 46 8
def ObjRec.lastPort (o : ObjRec) : Nat := (getFld o.word0 39 7).toNat
def ObjRec.firstPort (o : ObjRec) : Nat := (getFld o.word0 32 7).toNat

/-- Writes both arrival counts of a barrier. -/
def ObjRec.setArrivals (o : ObjRec) (cur next : Nat) : ObjRec :=
  if o.isRegistered then
    { o with word0 := getFld o.word0 32 32 ++ BitVec.ofNat 16 next ++ BitVec.ofNat 16 cur }
  else { o with word0 := BitVec.ofNat 32 next ++ BitVec.ofNat 32 cur }

/-- Writes the round, and the sense that R138 ties to it. -/
def ObjRec.setRound (o : ObjRec) (r : BitVec 28) : ObjRec :=
  { o with hi := (0 : BitVec 1) ++ r ++ getFld o.hi 0 35, sense := r.getLsbD 0 }

/-- R55: the slot of an originator's port and engine; `none` if it is no participant. -/
def ObjRec.slotOf (o : ObjRec) (port eng : Nat) : Option Nat :=
  if o.firstPort ≤ port ∧ port ≤ o.lastPort ∧ o.engMask.getLsbD eng = true then
    some ((port - o.firstPort) * popCount o.engMask.toNat 8 + popCount o.engMask.toNat eng)
  else none

/-- R162: the combining control. -/
def ObjRec.oper (o : ObjRec) : BitVec 4 := getFld o.body 764 4
def ObjRec.format (o : ObjRec) : BitVec 4 := getFld o.body 760 4
def ObjRec.combCount (o : ObjRec) : Nat := (getFld o.body 716 44).toNat
def ObjRec.flagsCur (o : ObjRec) : BitVec 5 := getFld o.body 711 5
def ObjRec.flagsNext (o : ObjRec) : BitVec 5 := getFld o.body 706 5
def ObjRec.lastResult (o : ObjRec) : BitVec 64 := getFld o.body 640 64
def ObjRec.accCur (o : ObjRec) : BitVec 320 := getFld o.body 0 320
def ObjRec.accNext (o : ObjRec) : BitVec 320 := getFld o.body 320 320

/-- A combining body from its fields (R58, R162). -/
def combBody (oper format : BitVec 4) (count : Nat) (fc fn : BitVec 5) (last : BitVec 64) (cur next : BitVec 320) :
    BitVec 768 :=
  oper ++ format ++ BitVec.ofNat 44 count ++ fc ++ fn ++ (0 : BitVec 2) ++ last ++ next ++ cur

/-- Rewrites the combining body, keeping the operator and the format. -/
def ObjRec.setComb (o : ObjRec) (count : Nat) (fc fn : BitVec 5) (last : BitVec 64) (cur next : BitVec 320) : ObjRec :=
  { o with body := combBody o.oper o.format count fc fn last cur next }

/-- R43: the fields of a TOKEN. -/
def ObjRec.loanable (o : ObjRec) : Bool := decide (o.otype = .token) && o.mode.getLsbD 1
def ObjRec.firstFit (o : ObjRec) : Bool := decide (o.otype = .token) && o.mode.getLsbD 0
def ObjRec.auto (o : ObjRec) : Bool := o.mode.getLsbD 0
def ObjRec.tokenClass (o : ObjRec) : Nat := (getFld o.hi 48 3).toNat
/-- The value of a TOKEN as a signed number, or the count of a SEM (R43, R46). -/
def ObjRec.amount (o : ObjRec) : Int := if o.otype = .token then o.word0.toInt else Int.ofNat o.word0.toNat

/-- R42: the set bit and sig_count of an EVENT. -/
def ObjRec.isSet (o : ObjRec) : Bool := o.word0.getLsbD 0
def ObjRec.withSet (o : ObjRec) (b : Bool) : ObjRec := { o with word0 := getFld o.word0 1 63 ++ bit1 b }
def ObjRec.countSig (o : ObjRec) : ObjRec :=
  { o with word0 := (getFld o.word0 32 32 + 1 : BitVec 32) ++ (getFld o.word0 0 32 : BitVec 32) }

/-- R49: the fields of a LOCK. -/
def ObjRec.inhPrio (o : ObjRec) : BitVec 4 := getFld o.hi 47 4
def ObjRec.prio (o : ObjRec) : BitVec 4 := getFld o.hi 43 4
def ObjRec.group (o : ObjRec) : BitVec 8 := getFld o.hi 35 8
def ObjRec.grantTime (o : ObjRec) : BitVec 32 := getFld o.word1 0 32
def ObjRec.acqCount (o : ObjRec) : BitVec 32 := getFld o.word0 32 32
def ObjRec.held (o : ObjRec) : Bool := o.word0.getLsbD 25
def ObjRec.holder (o : ObjRec) : Originator := getFld o.word0 0 25
/-- A LOCK record rewritten from its fields. -/
def ObjRec.setLock (o : ObjRec) (inh prio : BitVec 4) (grant acqs : BitVec 32) (held : Bool) (holder : Originator) :
    ObjRec :=
  { o with
    hi := (0 : BitVec 13) ++ inh ++ prio ++ o.group ++ getFld o.hi 0 35
    word1 := (0 : BitVec 32) ++ grant
    word0 := acqs ++ (0 : BitVec 6) ++ bit1 held ++ holder }

/-- R204: the fields of a TRIG record. -/
def ObjRec.trigKind (o : ObjRec) : BitVec 2 := getFld o.hi 62 2
def ObjRec.trigPort (o : ObjRec) : Nat := (getFld o.hi 55 7).toNat
def ObjRec.trigRing (o : ObjRec) : Nat := (getFld o.hi 53 2).toNat
def ObjRec.trigWake (o : ObjRec) : Bool := o.hi.getLsbD 52
def ObjRec.fireSeq (o : ObjRec) : BitVec 32 := getFld o.hi 0 32
def ObjRec.setFireSeq (o : ObjRec) (n : BitVec 32) : ObjRec := { o with hi := getFld o.hi 32 32 ++ n }

/-- R59: the index of the TRIG record that pairs with an object. -/
def trigIndex (o : ObjRec) (i : Nat) : Nat := if o.wide then i + 4 else i + 1

/-- The type codes of R39. -/
def typeCode : ObjType → BitVec 3
  | .none => 0 | .event => 1 | .token => 2 | .sem => 3 | .barrier => 4 | .lock => 5 | .trig => 6

/-- The type of a code; `none` for the reserved code. -/
def typeOf (c : BitVec 3) : Option ObjType :=
  if c = 0 then some .none else if c = 1 then some .event else if c = 2 then some .token else if c = 3 then some .sem
  else if c = 4 then some .barrier else if c = 5 then some .lock else if c = 6 then some .trig else none

/-! ### The operands of INIT (R63) -/

/-- The operands of INIT. -/
structure InitArgs where
  a : BitVec 64
  b : BitVec 64
deriving DecidableEq, Repr

def InitArgs.otype (x : InitArgs) : Option ObjType := typeOf (getFld x.a 61 3)
def InitArgs.mode (x : InitArgs) : BitVec 4 := getFld x.a 57 4
def InitArgs.cls (x : InitArgs) : BitVec 3 := getFld x.a 54 3
def InitArgs.kind (x : InitArgs) : BitVec 2 := getFld x.mode 0 2
def InitArgs.hasParent (x : InitArgs) : Bool := x.mode.getLsbD 2
def InitArgs.loanable (x : InitArgs) : Bool := x.mode.getLsbD 1
/-- The initial value of a TOKEN, sign-extended. -/
def InitArgs.value (x : InitArgs) : BitVec 64 := BitVec.signExtend 64 (getFld x.a 0 54 : BitVec 54)
def InitArgs.expected (x : InitArgs) : BitVec 32 := getFld x.a 0 32
def InitArgs.engMask (x : InitArgs) : BitVec 8 := getFld x.a 14 8
def InitArgs.lastPort (x : InitArgs) : Nat := (getFld x.a 7 7).toNat
def InitArgs.firstPort (x : InitArgs) : Nat := (getFld x.a 0 7).toNat
def InitArgs.format (x : InitArgs) : BitVec 4 := getFld x.a 36 4
def InitArgs.oper (x : InitArgs) : BitVec 4 := getFld x.a 32 4
def InitArgs.parent (x : InitArgs) : Handle := getFld x.b 32 32

/-- Whether INIT asks for a wide object (R41). -/
def InitArgs.wide (x : InitArgs) : Bool := decide (x.otype = some .barrier) && (x.kind = 1 || x.kind = 2)
/-- Whether INIT names a parent (R64). -/
def InitArgs.wantsParent (x : InitArgs) : Bool := decide (x.otype = some .barrier) && x.hasParent
/-- R56: the participants of a registered barrier. -/
def InitArgs.participants (x : InitArgs) : Nat := (x.lastPort + 1 - x.firstPort) * popCount x.engMask.toNat 8

/-- R160: the operator and format pairs that the table allows. -/
def combPairOk (oper format : BitVec 4) : Bool :=
  if oper.toNat ≤ 9 then format = 0 else if oper = 0xA then format = 6
  else if oper = 0xB then decide (1 ≤ format.toNat ∧ format.toNat ≤ 5) else false

/-- Check 2 of R66: a reserved type, mode, KIND or class, a reserved operand bit, no arrivals expected, no
participants (R40, R41, R43, R56, R63, R160). -/
def InitArgs.bad (x : InitArgs) : Bool :=
  match x.otype with
  | none => true
  | some .none => x.mode ≠ 0 || (getFld x.a 0 57 : BitVec 57) ≠ 0 || x.b ≠ 0
  | some .event => getFld x.mode 1 3 ≠ 0 || (getFld x.a 1 56 : BitVec 56) ≠ 0 || x.b ≠ 0
  | some .token => getFld x.mode 2 2 ≠ 0 || decide (4 < x.cls.toNat) || (x.loanable && x.b ≠ 0)
  | some .sem => x.mode ≠ 0 || x.cls ≠ 0
  | some .barrier =>
    x.mode.getLsbD 3 || x.kind = 3 || (getFld x.b 0 32 : BitVec 32) ≠ 0 || (!x.hasParent && x.parent ≠ 0) ||
    (if x.kind = 0 then (getFld x.a 32 25 : BitVec 25) ≠ 0 || x.expected = 0
     else if x.kind = 1 then (getFld x.a 22 35 : BitVec 35) ≠ 0 || x.engMask = 0 || decide (x.lastPort < x.firstPort)
     else (getFld x.a 40 17 : BitVec 17) ≠ 0 || x.expected = 0 || !combPairOk x.oper x.format)
  | some .lock => x.mode ≠ 0 || (getFld x.a 8 49 : BitVec 49) ≠ 0 || x.b ≠ 0
  | some .trig => x.mode ≠ 0 || (getFld x.a 0 57 : BitVec 57) ≠ 0 || x.b ≠ 0

/-! ### Keyed arrivals (R97) -/

/-- The operator and format of a keyed arrival's operand B. -/
def keyOper (b : BitVec 64) : BitVec 4 := getFld b 32 4
def keyFormat (b : BitVec 64) : BitVec 4 := getFld b 36 4
/-- The reserved bits of operand B of a keyed arrival are ignored (R12). -/
def keyMatches (b : BitVec 64) (o : ObjRec) : Bool := o.isCombining && keyOper b = o.oper && keyFormat b = o.format

/-! ### Handles (R29, R64, R399) -/

/-- Translates a partition-relative handle of partition `p`; `none` where R29 or R399 refuses it. -/
def State.translate (s : State) (p : Nat) (h : Handle) : Option Handle :=
  let e := s.devEntry p (getFld h 20 12).toNat
  let rel := handleIndex h
  if e.getLsbD 15 = true ∧ rel < s.shareSize ∧ (s.cfg 0x3010 4 p).testBit (getFld h 17 3).toNat = true then
    some (mkHandle ((getFld e 0 12 : BitVec 12) ++ (getFld h 17 3 : BitVec 3)) (s.shareBase p + rel))
  else none

/-- The physical devices that the valid entries of a partition's device map name, as a set of bits. -/
def State.namedDevices (s : State) (p : Nat) : Nat :=
  (numsFrom 0 4096).foldl (fun m d =>
    let e := s.devEntry p d
    if e.getLsbD 15 then m ||| (1 <<< (getFld e 0 12).toNat) else m) 0

/-- The hubs that a partition's device map and die mask name, other than this one, in ascending order (R410, R437). -/
def State.namedHubs (s : State) (p : Nat) : List HubId :=
  let dies := (numsFrom 0 8).filter fun e => (s.cfg 0x3010 4 p).testBit e
  if dies = [] then []
  else
    let named := s.namedDevices p
    let devs := (numsFrom 0 4096).filter named.testBit
    (devs.flatMap fun d => dies.map fun e => BitVec.ofNat 12 d ++ BitVec.ofNat 3 e).filter fun h => h ≠ s.hub

end Sys2Proof.Machine
end

