-- ==== Sys2Proof/Machine/Reduce.lean ====
section
/-! DEFINITION. Combining operators (R160 to R173): identities, folds, merges, the released result, and the exact sum with
its single rounding. -/

namespace Sys2Proof.Machine

/-- An accumulator with its flags: nan, pinf, ninf, sign and nzs, from bit 4 down (R162, R163). -/
structure Acc where
  bits : BitVec 320
  flags : BitVec 5
deriving DecidableEq, Repr

def Acc.nan (x : Acc) : Bool := x.flags.getLsbD 4
def Acc.pinf (x : Acc) : Bool := x.flags.getLsbD 3
def Acc.ninf (x : Acc) : Bool := x.flags.getLsbD 2
def Acc.sign (x : Acc) : Bool := x.flags.getLsbD 1
def Acc.nzs (x : Acc) : Bool := x.flags.getLsbD 0

/-- The identity of an operator (R163). -/
def accIdentity (oper : BitVec 4) : Acc where
  flags := 0
  bits :=
    if oper = 2 then 0x7FFFFFFFFFFFFFFF else if oper = 3 then 0x8000000000000000
    else if oper = 4 ∨ oper = 6 then 0xFFFFFFFFFFFFFFFF else if oper = 0xA then 0x00000000FFFFFFFF else 0

/-- The exact sum as a signed number: (-1)^sign times the magnitude (R171). -/
def Acc.signed (x : Acc) : Int := if x.sign then -(Int.ofNat x.bits.toNat) else Int.ofNat x.bits.toNat

/-- R171: exact signed addition; the flags other than sign are joined. -/
def exactMerge (x y : Acc) : Acc :=
  let v := x.signed + y.signed
  { bits := BitVec.ofNat 320 v.natAbs
    flags := ((x.flags ||| y.flags) &&& 0b11101) ||| (if v < 0 then 0b00010 else 0) }

/-- ARGMAX (R166): the greater key, at equal keys the lower index. -/
def argmax (x y : BitVec 64) : BitVec 64 :=
  if (getFld x 32 32).toNat < (getFld y 32 32).toNat then y
  else if (getFld y 32 32).toNat < (getFld x 32 32).toNat then x
  else if (getFld x 0 32).toNat ≤ (getFld y 0 32).toNat then x else y

/-- A 64-bit operator's result on the low 64 bits of two accumulators (R164). -/
def merge64 (oper : BitVec 4) (x y : BitVec 64) : BitVec 64 :=
  if oper = 2 then (if x.toInt ≤ y.toInt then x else y)
  else if oper = 3 then (if y.toInt ≤ x.toInt then x else y)
  else if oper = 4 then (if x.toNat ≤ y.toNat then x else y)
  else if oper = 5 then (if y.toNat ≤ x.toNat then x else y)
  else if oper = 6 then x &&& y
  else if oper = 7 then x ||| y
  else if oper = 8 then x ^^^ y
  else if oper = 9 then x + y
  else argmax x y

/-- R164: merges two accumulators of one operator. -/
def accMerge (oper : BitVec 4) (x y : Acc) : Acc :=
  if oper = 0xB then exactMerge x y
  else if oper.toNat ≤ 1 then
    { bits := ((getFld x.bits 0 128 : BitVec 128) + getFld y.bits 0 128).setWidth 320, flags := 0 }
  else { bits := (merge64 oper (getFld x.bits 0 64) (getFld y.bits 0 64)).setWidth 320, flags := 0 }

/-- A floating format of R169: its bias is folded into the shifts. -/
structure FloatFormat where
  width : Nat
  expBits : Nat
  fracBits : Nat
  normalShift : Nat
  subShift : Nat
  hasInf : Bool
deriving DecidableEq, Repr

/-- R160, R169: the formats of EXACT by code. `normalShift` is what is added to E, plus 1 so that FP32's E - 1 is
E + 0 - 1. -/
def floatFormat (format : BitVec 4) : FloatFormat :=
  if format = 1 then ⟨32, 8, 23, 0, 0, true⟩
  else if format = 2 then ⟨16, 8, 7, 16, 16, true⟩
  else if format = 3 then ⟨16, 5, 10, 125, 125, true⟩
  else if format = 4 then ⟨8, 4, 3, 140, 140, false⟩
  else ⟨8, 5, 2, 133, 133, true⟩

/-- R169, R170: one EXACT contribution as an accumulator. -/
def exactContribution (format : BitVec 4) (a : BitVec 64) : Acc :=
  let f := floatFormat format
  let x := a.toNat % 2 ^ f.width
  let neg := x.testBit (f.width - 1)
  let e := x / 2 ^ f.fracBits % 2 ^ f.expBits
  let frac := x % 2 ^ f.fracBits
  let top := 2 ^ f.expBits - 1
  let isNan := if f.hasInf then e = top ∧ frac ≠ 0 else e = top ∧ frac = 2 ^ f.fracBits - 1
  let isInf := f.hasInf = true ∧ e = top ∧ frac = 0
  let mag := if isNan ∨ isInf then 0
    else if e = 0 then frac * 2 ^ f.subShift else (2 ^ f.fracBits + frac) * 2 ^ (e + f.normalShift - 1)
  let minusZero := neg = true ∧ e = 0 ∧ frac = 0
  { bits := BitVec.ofNat 320 mag
    flags := BitVec.ofNat 5 ((if isNan then 16 else 0) + (if isInf ∧ neg = false then 8 else 0) +
      (if isInf ∧ neg = true then 4 else 0) + (if neg = true ∧ mag ≠ 0 then 2 else 0) + (if minusZero then 0 else 1)) }

/-- R160, R169: the contribution of operand A under an operator and format. -/
def contribution (oper format : BitVec 4) (a : BitVec 64) : Acc :=
  if oper.toNat ≤ 1 then { bits := (BitVec.signExtend 128 a).setWidth 320, flags := 0 }
  else if oper = 9 then { bits := BitVec.ofNat 320 (popCount a.toNat 64), flags := 0 }
  else if oper = 0xB then exactContribution format a
  else { bits := a.setWidth 320, flags := 0 }

/-- R161: an EXACT contribution with a bit above its format's width. -/
def contributionBad (oper format : BitVec 4) (a : BitVec 64) : Bool :=
  oper = 0xB && decide (2 ^ (floatFormat format).width ≤ a.toNat)

/-- R172: rounds a positive magnitude, in units of 2^-149, to FP32, nearest even. -/
def roundFp32 (neg : Bool) (m : Nat) : BitVec 32 :=
  let p := m.log2
  let sgn := if neg then 2 ^ 31 else 0
  if p < 24 then BitVec.ofNat 32 (sgn + m)
  else
    let q := p - 23
    let kept := m / 2 ^ q
    let rbit := m.testBit (q - 1)
    let sticky := decide (m % 2 ^ (q - 1) ≠ 0)
    let up := rbit && (sticky || decide (kept % 2 = 1))
    let kept1 := if up then kept + 1 else kept
    let kept2 := if kept1 = 2 ^ 24 then 2 ^ 23 else kept1
    let e := if kept1 = 2 ^ 24 then q + 2 else q + 1
    if 255 ≤ e then BitVec.ofNat 32 (sgn + 0x7F800000)
    else BitVec.ofNat 32 (sgn + e * 2 ^ 23 + (kept2 - 2 ^ 23))

/-- R172: the FP32 result of an exact sum. -/
def exactResult (x : Acc) : BitVec 32 :=
  if x.nan = true ∨ (x.pinf = true ∧ x.ninf = true) then 0x7FC00000
  else if x.pinf then 0x7F800000
  else if x.ninf then 0xFF800000
  else if x.bits = 0 then if x.nzs then 0 else 0x80000000
  else roundFp32 x.sign x.bits.toNat

/-- R165: the 128-bit sum clamped to 64 bits. -/
def clampSum (x : BitVec 320) : BitVec 64 :=
  let v := (getFld x 0 128 : BitVec 128).toInt
  BitVec.ofInt 64 (if v < -2 ^ 63 then -2 ^ 63 else if 2 ^ 63 - 1 < v then 2 ^ 63 - 1 else v)

/-- R167: the released result. -/
def accResult (oper : BitVec 4) (x : Acc) : BitVec 64 :=
  if oper = 1 then clampSum x.bits
  else if oper = 0xB then (0 : BitVec 32) ++ exactResult x
  else getFld x.bits 0 64

/-- The current and the next accumulator of a combining barrier (R58, R162). -/
def ObjRec.cur (o : ObjRec) : Acc := { bits := o.accCur, flags := o.flagsCur }
def ObjRec.next (o : ObjRec) : Acc := { bits := o.accNext, flags := o.flagsNext }

/-- Rewrites the accumulators, the count and last_result of a combining barrier. -/
def ObjRec.setAccs (o : ObjRec) (count : Nat) (cur next : Acc) (last : BitVec 64) : ObjRec :=
  o.setComb count cur.flags next.flags last cur.bits next.bits

end Sys2Proof.Machine
end

