-- ==== Sys2Proof/Machine/Flags.lean ====
section
/-! DEFINITION. Status and flag computations: the status codes and the response word (R99 to R103), the record and waiter
words with their derived fields (R38, R254), the summary word (R111), the value ranges of R106, and the output pins that
follow the state (R269, R302, R303, R305, R318). -/

namespace Sys2Proof.Machine

/-- The status codes of R103. -/
def Status.code : Status → Nat
  | .ok => 0 | .wouldBlock => 1 | .timeout => 2 | .abandoned => 3 | .cancelled => 4 | .partitionReset => 5
  | .participantLost => 6 | .rights => 7 | .badHandle => 8 | .overrun => 9 | .localOnly => 0xA | .reslicePending => 0xB
  | .jobFault => 0xC | .unreachable => 0xD | .stormLimited => 0xE

/-- The status of a code; `none` for a code that R103 does not list. -/
def statusOf (c : Nat) : Option Status :=
  [Status.ok, .wouldBlock, .timeout, .abandoned, .cancelled, .partitionReset, .participantLost, .rights, .badHandle,
   .overrun, .localOnly, .reslicePending, .jobFault, .unreachable, .stormLimited].find? fun s => s.code = c

/-- OK or ABANDONED: the statuses that carry a result (R102) and are no refusal (R455). -/
def Status.good : Status → Bool
  | .ok | .abandoned => true
  | _ => false

/-- The response word (R99); the result is zero unless the status is OK or ABANDONED (R102). -/
def respWord (st : Status) (tag : BitVec 16) (result : Nat) : BitVec 64 :=
  BitVec.ofNat 8 st.code ++ tag ++ (if st.good then BitVec.ofNat 40 result else 0)

/-- The status, tag and result of a response word. -/
def respStatus (w : BitVec 64) : Nat := (getFld w 56 8).toNat
def respTag (w : BitVec 64) : BitVec 16 := getFld w 40 16

/-- The value beat of a response (R101): zero unless the status is OK or the op is a CAS. -/
def valueBeat (opcode : BitVec 6) (st : Status) (v : BitVec 64) : Option (BitVec 64) :=
  if codeHasValue opcode then some (if st = .ok then v else 0) else none

/-- R102: a result that saturates. -/
def satResult (w n : Nat) : Nat := satNat w n

/-- R102: the time from a stamp to now, in 2 ns units, saturating at 2^40 - 1. An aged stamp, or one of more than 2^24
units, is not told apart from a younger one by its 24 bits (DEDUCED, log entry 7). -/
def State.waitTime (s : State) (st : Stamp) : Nat := (s.time.stamp - st).toNat

/-! ### Record views (R38) -/

/-- The waiters of an object, oldest first (R264). A ledger entry's waiters are not an object's. -/
def State.queue (s : State) (i : Nat) : List Waiter :=
  s.waiters.filter fun w => w.object = i && decide (w.kind ≠ .ledger)
/-- The waiters of a ledger entry, oldest first. -/
def State.ledgerQueue (s : State) (e : Nat) : List Waiter :=
  s.waiters.filter fun w => w.object = e && decide (w.kind = .ledger)

/-- wq_valid, wq_tail and wq_head (R38). -/
def queueFields (q : List Waiter) : BitVec 35 :=
  match q.head?, q.getLast? with
  | some h, some t => bit1 true ++ BitVec.ofNat 17 t.num ++ BitVec.ofNat 17 h.num
  | _, _ => 0

/-- loan_valid and loan_head (R43). -/
def State.loanFields (s : State) (i : Nat) : BitVec 13 :=
  match (s.lenders.filter fun e => e.token = i).head? with
  | some e => bit1 true ++ BitVec.ofNat 12 e.num
  | none => 0

/-- The flags [244:239] of a record's header (R38). -/
def ObjRec.flagBits (o : ObjRec) : BitVec 6 :=
  bit1 o.faulted ++ bit1 o.broken ++ bit1 o.abandoned ++ bit1 o.sense ++ bit1 o.trig ++ bit1 o.wide

/-- Bits [191:128] of a record as it reads, with its queue and loan fields (R38, R43, R204). -/
def State.hiWord (s : State) (i : Nat) (o : ObjRec) : BitVec 64 :=
  if o.otype = .trig then o.hi
  else if o.otype = .token then (getFld o.hi 48 16 : BitVec 16) ++ s.loanFields i ++ queueFields (s.queue i)
  else (getFld o.hi 35 29 : BitVec 29) ++ queueFields (s.queue i)

/-- The 32 bytes of a record as they read (R38); for index i + 1 to i + 3 of a wide group, its part of the body
(R53). -/
def State.recordWord (s : State) (i : Nat) : BitVec 256 :=
  let h := s.obj (i - i % 4)
  if s.wideBit i = true ∧ i % 4 ≠ 0 then getFld h.body (256 * (i % 4 - 1)) 256
  else
    let o := s.obj i
    typeCode o.otype ++ o.mode ++ o.partition ++ o.flagBits ++ o.lastOrig ++ o.lastTime ++ s.hiWord i o ++ o.word1 ++
      o.word0

/-- The kind code of a waiter record (R254). -/
def waiterKindCode : WaiterKind → BitVec 3
  | .queued => 0 | .parkedArrv => 1 | .parkedArrw => 2 | .loanReq => 3 | .fwdArrv => 4 | .ledger => 5

/-- The 40 bytes of a waiter record (R254), given the record that follows it in its queue. -/
def Waiter.word (w : Waiter) (next : Option Nat) : BitVec 320 :=
  w.operandB ++ bit1 true ++ waiterKindCode w.kind ++ bit1 w.aged ++ w.source ++ bit1 next.isSome ++
  BitVec.ofNat 17 (next.getD 0) ++ BitVec.ofNat 17 w.object ++ w.originator ++ w.stamp ++ w.opcode ++ w.flags.bits ++
  w.tag ++ w.partition ++ w.epoch ++ w.context ++ w.cls ++ bit1 w.dlValid ++ w.prio ++ w.deadline ++ w.operand

/-- The waiter records of a queue, in order, each with its link. -/
def waiterWords : List Waiter → List (BitVec 320)
  | [] => []
  | [w] => [w.word none]
  | w :: w' :: ws => w.word (some w'.num) :: waiterWords (w' :: ws)

/-- The summary word of an object (R111). -/
def State.summary (s : State) (i : Nat) (o : ObjRec) : BitVec 64 :=
  typeCode o.otype ++ o.mode ++ o.partition ++ o.flagBits ++
  bit1 (decide (o.otype ≠ .trig) && decide (s.queue i ≠ [])) ++ (0 : BitVec 21) ++ o.lastOrig

/-- The mode field of a near object as R111 shows it: its one mode bit at the place of AUTO and FIRST_FIT. -/
def NearObj.modeBits (o : NearObj) : BitVec 4 := (0 : BitVec 3) ++ bit1 o.mode

/-- The waits on near object `n` of a port, oldest first (R71). -/
def Port.waitsOn (x : Port) (n : Nat) : List NearWait := x.nearWaits.filter fun w => w.index = n

/-- wait_order (R71): nine issuer codes, oldest lowest, 0xF for empty. -/
def waitOrder : List NearWait → Nat → BitVec 36
  | _, 0 => 0
  | [], n + 1 => (waitOrder [] n <<< 4) ||| 0xF
  | w :: ws, n + 1 => (waitOrder ws n <<< 4) ||| BitVec.ofNat 36 w.lane

/-- The summary word of a near object (R111). -/
def Port.nearSummary (x : Port) (n : Nat) : BitVec 64 :=
  let o := x.nearObj n
  typeCode o.otype ++ o.modeBits ++ (0 : BitVec 4) ++ (bit1 (x.nearFault.getLsbD n) ++ (0 : BitVec 2) ++ bit1 o.sense ++
    (0 : BitVec 2)) ++ bit1 (decide (x.waitsOn n ≠ [])) ++ (0 : BitVec 21) ++ (0 : BitVec 25)

/-- The 16 bytes of a near object (R71). -/
def Port.nearWord (x : Port) (n : Nat) : BitVec 128 :=
  let o := x.nearObj n
  (0 : BitVec 7) ++ o.nextArrivals ++ bit1 o.sense ++ bit1 o.mode ++ typeCode o.otype ++ waitOrder (x.waitsOn n) 9 ++
    o.threshold ++ o.value

/-! ### Ranges (R47, R106, R107) -/

/-- R106: whether a TOKEN value or a SEM count may take a value. -/
def ObjRec.inRange (o : ObjRec) (v : Int) : Bool :=
  if o.otype = .token then decide (-2 ^ 63 ≤ v ∧ v ≤ 2 ^ 63 - 1)
  else decide (0 ≤ v ∧ v ≤ (if o.word1 = 0 then 2 ^ 64 - 1 else Int.ofNat o.word1.toNat))

/-- Writes a TOKEN value or a SEM count. -/
def ObjRec.setAmount (o : ObjRec) (v : Int) : ObjRec := { o with word0 := BitVec.ofInt 64 v }

/-- An operand read as the type reads its value: signed for a TOKEN, unsigned for a SEM (R106). -/
def ObjRec.operandInt (o : ObjRec) (x : BitVec 64) : Int :=
  if o.otype = .token then x.toInt else Int.ofNat x.toNat

/-! ### Output pins -/

/-- Whether an entry of the parked set covers a lane and context (R274, R275). -/
def ParkEntry.covers (e : ParkEntry) (lane : Nat) (ctx : BitVec 8) : Bool :=
  e.context = ctx &&
  (match e.who with
   | .engine n => lane = n + 1
   | .core => lane = 0
   | .engines => decide (1 ≤ lane)
   | .all => true)

/-- Whether an entry covers a lane in some context (R269, R496). -/
def ParkEntry.coversLane (e : ParkEntry) (lane : Nat) : Bool :=
  match e.who with
  | .engine n => lane = n + 1
  | .core => lane = 0
  | .engines => decide (1 ≤ lane)
  | .all => true

/-- Whether a port's partition is held at this hub (R477). -/
def State.portHeld (s : State) (p : Nat) : Bool := decide (s.portPart p < 16) && (s.part (s.portPart p)).hold.held

/-- csp_rsp_vld (R297): an issuer has a readable beat. -/
def Port.rspValid (x : Port) (lane : Nat) : Bool := x.lanes.any fun r => r.lane = lane

/-- csp_rsp_more (R301): the readable beat is a response word with a value beat after it. -/
def Port.rspMore (x : Port) (lane : Nat) : Bool :=
  match x.lanes.find? fun r => r.lane = lane with
  | some r => r.value.isSome && !r.beat2
  | none => false

/-- csp_rsp (R297): the beat an issuer sees. -/
def Port.rspBeat (x : Port) (lane : Nat) : BitVec 64 :=
  match x.lanes.find? fun r => r.lane = lane with
  | some r => if r.beat2 then r.value.getD 0 else r.word
  | none => 0

/-- wk_eng (R26, R269): low for what is not built and during reset. -/
def State.wkEng (s : State) (p e : Nat) : Bool :=
  s.live && s.portBuilt p && decide (e < s.build.engines) && !(s.port p).rstLow && (s.port p).rspValid (e + 1)

/-- wk_core (R26, R269): a readable response, or a ticket that entered with wake set, unless held or parked. -/
def State.wkCore (s : State) (p : Nat) : Bool :=
  let x := s.port p
  s.live && s.portBuilt p && !x.rstLow &&
  (x.rspValid 0 || ((x.tickets.any fun t => t.wake) && !s.portHeld p && !(x.parked.any fun e => e.coversLane 0)))

/-- csp_rel_fence (R303): a release drain is in progress. -/
def Port.relFence (x : Port) : Bool := decide (x.drains ≠ [])

/-- csp_stg_inval (R305): an invalidate is outstanding. -/
def Port.stgInval (x : Port) : Bool := x.inval.any fun r => r.2

/-- csp_tkt_vld, csp_tkt_cnt and csp_tkt_d (R302). -/
def Port.tktValid (x : Port) : Bool := decide (x.tickets ≠ [])
def Port.tktCount (x : Port) : Nat := x.tickets.length
def Port.tktHead (x : Port) : BitVec 512 := (x.tickets.head?.map QTicket.data).getD 0

/-- The posted ops of a slot that are accepted and not known to be performed or refused (R318). -/
def Slot.postedCount (x : Slot) : Nat :=
  (x.away.filter fun a => a.entry.isNone).length + (x.held.filter fun h => h.op.flags.noresp).length

/-- The STATE register of an issue slot (R318). -/
def Slot.stateWord (x : Slot) : BitVec 64 :=
  x.tag ++ BitVec.ofNat 16 (satNat 16 x.postedCount) ++ (0 : BitVec 30) ++ bit1 x.done ++ bit1 x.busy

/-- hub_ready (R549). -/
def State.hubReady (s : State) : Bool := s.live

end Sys2Proof.Machine
end

