-- ==== Sys2Proof/Machine/Net.lean ====
section
/-! DEFINITION. Sending: routes and levels (R364, R371 to R375), the link transmitter (R353 to R357), and what a message
does that finds no link to leave on (R365, R379, R381). -/

namespace Sys2Proof

/-! ### What a message is -/

/-- R364: the lowest level that carries a message. -/
def Payload.level : Payload → Nat
  | .op b =>
    if b.opcode = 0x01 ∨ ((b.opcode = 0x08 ∨ b.opcode = 0x09) ∧ b.op.flags.x2 = false) then 1 else 2
  | .cpl _ => 1
  | .fwdArrv b => if b.arrival.comb then (if b.arrival.oper = 0xB then 3 else 2) else if b.arrival.broken then 2 else 1
  | .routeFence _ => 1
  | .fenceAck _ => 1
  | .stocktake _ _ => 3
  | .shelf _ _ => 3
  | _ => 2

/-- R495: the messages that Stocktake counts. -/
def Payload.counted : Payload → Bool
  | .op _ | .cpl _ | .fwdArrv _ | .loan _ _ | .holderReset _ | .waiterPurge _ => true
  | _ => false

/-- The epoch that a message's body carries, if its kind has one (R397). -/
def Payload.epoch : Payload → Option (BitVec 8)
  | .op b => some b.carry.epoch
  | .fwdArrv b => some b.epoch
  | .loan _ b => some b.epoch
  | .holderReset b => some b.epoch
  | .waiterPurge b => some b.epoch
  | _ => none

/-- Whether a message is a route fence or its acknowledgement. -/
def Payload.isFence : Payload → Bool
  | .routeFence _ => true
  | .fenceAck _ => true
  | _ => false

end Sys2Proof

namespace Sys2Proof.Machine

/-! ### Levels and routes -/

/-- R364: the capability level of a link of a port code at a version. -/
def linkLevel (c : Nat) (version : BitVec 2) : Nat := if isWeft c then version.toNat else version.toNat + 1

/-- R371: the route key of a destination. -/
def State.routeKey (s : State) (dst : HubId) : RouteKey :=
  if getFld dst 3 12 ≠ s.device then (getFld dst 3 12 : BitVec 12).toNat else 4096 + (getFld dst 0 3).toNat

/-- The hubs that a route entry covers (R375). -/
def State.routeCovers (s : State) (k : RouteKey) : List HubId :=
  if k < 4096 then (numsFrom 0 8).map fun e => BitVec.ofNat 12 k ++ BitVec.ofNat 3 e
  else [s.device ++ BitVec.ofNat 3 (k - 4096)]

/-- The fields of a route entry (R372). -/
def entryValid (e : BitVec 32) : Bool := e.getLsbD 31
def entryPrimary (e : BitVec 32) : Nat := (getFld e 27 4).toNat
def entryVl (e : BitVec 32) : Nat := (getFld e 26 1).toNat
def entryAltValid (e : BitVec 32) : Bool := e.getLsbD 25
def entryAlt (e : BitVec 32) : Nat := (getFld e 21 4).toNat
def entryAltVl (e : BitVec 32) : Nat := (getFld e 20 1).toNat
def entryLevel (e : BitVec 32) : Nat := if (getFld e 18 2 : BitVec 2) = 0 then 1 else (getFld e 18 2).toNat

def State.linkUp (s : State) (c : Nat) : Bool := decide ((s.link c).state = .up)

/-- R373: a route entry is usable. -/
def State.entryUsable (s : State) (e : BitVec 32) : Bool :=
  entryValid e &&
  (s.linkUp (entryPrimary e) || decide ((s.link (entryPrimary e)).state = .hold) ||
   (entryAltValid e && s.linkUp (entryAlt e)))

/-- R23, R373: a usable route to a hub exists. -/
def State.reachable (s : State) (dst : HubId) : Bool :=
  decide (dst = s.hub) || s.entryUsable (s.route (s.routeKey dst))

/-- The level of the route to a hub (R365, R372). -/
def State.routeLevel (s : State) (dst : HubId) : Nat := entryLevel (s.route (s.routeKey dst))

/-- A usable route to a hub of at least a level. -/
def State.reachableAt (s : State) (dst : HubId) (lv : Nat) : Bool := s.reachable dst && decide (lv ≤ s.routeLevel dst)

/-- R381, R200: the time for which a hub has had no usable route, if it has none now. -/
def State.routeLostFor (s : State) (dst : HubId) : Option Nat :=
  if s.reachable dst then none
  else match s.lostSince.get timeNone (s.routeKey dst) with
    | some t => some (elapsed t s.clock)
    | none => some s.clock.toNat

/-- Notes the routes that have just become unusable (R373, R381). -/
def State.noteRoutes (before s : State) : State :=
  let lost := s.routes.foldl (fun (m : Sparse (Option Time)) ke =>
    if before.entryUsable (before.route ke.1) && !s.entryUsable ke.2 then m.put timeNone ke.1 (some s.clock) else m)
    s.lostSince
  { s with lostSince := lost }

/-- Writes a route entry. -/
def State.putRoute (s : State) (k : RouteKey) (e : BitVec 32) : State :=
  State.noteRoutes s { s with routes := s.routes.put routeNone k e }

/-! ### The transmitter -/

/-- aseq (R342): the last data flit accepted in order, or 0xFFF before the first. -/
def Link.aseq (l : Link) : BitVec 12 := if l.rxAny then l.rxNext - 1 else 0xFFF

/-- The buffer whose credit the next flit returns, if any (R353). -/
def Link.creditBuf (l : Link) : Option Nat := (numsFrom 0 4).find? fun b => decide (0 < l.owed.getD b 0)

/-- Drives one flit on a link (R342, R353, R356): it carries the acknowledgement and returns one credit. -/
def State.sendFlit (s : State) (c : Nat) (ftype : BitVec 4) (head : Bool) (fseq : BitVec 12) (payload : BitVec 192) :
    State :=
  let l := s.link c
  let b := l.creditBuf
  let f : Flit := { ftype := ftype, head := head, fseq := fseq, aseq := l.aseq, crv := b.isSome,
                    crb := BitVec.ofNat 2 (b.getD 0), payload := payload }
  let l1 := { l with ackOwed := false,
                     owed := match b with | some i => l.owed.set i (l.owed.getD i 0 - 1) | none => l.owed }
  ((s.setLink c l1).drive (.flit c f.encode)).count (0x6010 + c) 1 0 1

/-- R357: the replay buffer's size. -/
def replayCap (c : Nat) : Nat := if isWeft c then 2048 else 256
/-- R353: the flits a receive buffer holds. -/
def bufferCap (c : Nat) : Nat := if isWeft c then 512 else 64

/-- R495: a message counts for its partition's Stocktake. A CPL body carries no epoch and counts as current (DEDUCED, log
entry 8). -/
def State.stockCounts (s : State) (m : Msg) : Bool :=
  m.body.counted &&
  (match m.body.epoch with
   | some e => decide (e = s.epoch m.hdr.partition.toNat)
   | none => true)

/-- R495, R502: Stocktake's counters are the Catalogue entries 0x6070.0A to .0C. -/
def State.stockSent (s : State) (p : Nat) : State := s.count 0x6070 10 p 1
def State.stockRecv (s : State) (p : Nat) : State := s.count 0x6070 11 p 1
def State.stockAct (s : State) (p : Nat) : State := s.count 0x6070 12 p 1

/-- Sends the flits of one message while credits and the replay buffer allow (R347, R353, R357). The result is the state
and the flits left. -/
def State.sendFlits (s : State) (c : Nat) (m : TxMsg) : List TxFlit → State × List TxFlit
  | [] => (s, [])
  | f :: fs =>
    let l := s.link c
    if l.credits.getD f.buf 0 = 0 ∨ replayCap c ≤ l.replay.length then (s, f :: fs)
    else
      let l1 := { l with credits := l.credits.set f.buf (l.credits.getD f.buf 0 - 1), nextSeq := l.nextSeq + 1,
                         replay := l.replay ++ [{ seq := l.nextSeq, flit := f, sentAt := s.clock }] }
      let s1 := (s.setLink c l1).sendFlit c (BitVec.ofNat 4 (4 + f.buf)) f.head l.nextSeq f.payload
      let s2 := if m.msg.body.isFence then s1 else s1.count 0x6001 (c + 1) m.msg.hdr.partition.toNat 32
      let s3 := if f.head && !m.fwd && s2.stockCounts m.msg && decide (2 ≤ linkLevel c l.version) then
        s2.stockSent m.msg.hdr.partition.toNat else s2
      s3.sendFlits c m fs

/-- Works through a link's queue in order; a buffer whose message cannot go on holds the later ones of that buffer. -/
def State.sendQueue (s : State) (c : Nat) (blocked : List Nat) : List TxMsg → State × List TxMsg
  | [] => (s, [])
  | m :: ms =>
    if blocked.contains m.buf then
      let (s1, rest) := s.sendQueue c blocked ms
      (s1, m :: rest)
    else
      match s.sendFlits c m m.flits with
      | (s1, []) => s1.sendQueue c blocked ms
      | (s1, fs) =>
        let (s2, rest) := s1.sendQueue c (m.buf :: blocked) ms
        (s2, { m with flits := fs, begun := m.begun || decide (fs.length < m.flits.length) } :: rest)

/-- Sends what a link can send: it is UP and not draining for a renegotiation (R366). -/
def State.pump (s : State) (c : Nat) : State :=
  let l := s.link c
  if l.state = .up ∧ l.closing = false then
    let (s1, rest) := (s.setLink c { l with txq := [] }).sendQueue c [] l.txq
    s1.modLink c fun l => { l with txq := rest }
  else s

/-- R367: what an OP carries over a level-1 link: the op word and the originator. -/
def w1Op (b : OpBody) : OpBody :=
  { b with
    op := { b.op with opb := 0 }
    carry := { originator := b.carry.originator, source := 0, cls := 0, epoch := 0, stamp := 0, aged := false,
               context := 0, dlValid := false, deadline := 0, retref := 0, resent := false } }

/-- R368: a completion sent to a level-1 peer: statuses 0x0A to 0x0E as 0x05, result bits [27:16] as zero. -/
def w1Response (w : BitVec 64) : BitVec 64 :=
  let st : BitVec 8 := if 0x0A ≤ respStatus w ∧ respStatus w ≤ 0x0E then 5 else getFld w 56 8
  st ++ (getFld w 40 16 : BitVec 16) ++ (getFld w 28 12 : BitVec 12) ++ (0 : BitVec 12) ++ (getFld w 0 16 : BitVec 16)

/-- R157: the message-borne ARRW, not keyed, of an arrival that a child forwards. -/
def w1Arrival (parent : Handle) (sense : Bool) (originator : Originator) (epoch : BitVec 8) (stamp : Stamp) : OpBody :=
  { opcode := opCode .arrw
    op := { flags := { rel := false, acq := false, noresp := false, near := false, sense := sense, x2 := false }
            tsel := 0, tag := 0, handle := parent, operand := 0, opb := 0 }
    carry := { originator := originator, source := srcHub, cls := 0, epoch := epoch, stamp := stamp, aged := false, context := 0
               dlValid := false, deadline := 0, retref := 0, resent := false } }

/-- A message as it leaves on a link of a level (R157, R364, R367, R368). -/
def w1Msg (lv : Nat) (m : Msg) : Msg :=
  if lv = 1 then
    match m.body with
    | .fwdArrv b =>
      { hdr := { m.hdr with partition := 0 }
        body := .op (w1Op (w1Arrival b.arrival.parent b.arrival.sense b.originator b.epoch b.stamp)) }
    | .op b => { hdr := { m.hdr with partition := 0 }, body := .op (w1Op b) }
    | .cpl b => { m with body := .cpl { b with response := w1Response b.response } }
    | _ => m
  else m

/-- The flits of a message in a buffer (R347). -/
def txFlits (m : Msg) (buf : Nat) : List TxFlit :=
  (numsFrom 0 m.body.flits).map fun k =>
    { buf := buf, head := k = 0, payload := flitPayload m k, partition := m.hdr.partition.toNat }

/-- Queues a message on a link, in its class and the VL named (R352), and sends what the link can send. -/
def State.queueOn (s : State) (c vl : Nat) (m : Msg) (about : Option Nat) (fwd : Bool) : State :=
  let buf := (if m.body.isCpl then 2 else 0) + vl
  let out := w1Msg (linkLevel c (s.link c).version) m
  (s.modLink c fun l =>
    { l with txq := l.txq ++ [{ msg := m, buf := buf, flits := txFlits out buf, begun := false, fwd := fwd,
                                about := about }] }).pump c

/-! ### Choosing where a message goes -/

/-- Where a message for a route entry goes now (R373, R379): on a link, held on its primary, or nowhere. -/
inductive Leave where
  | on (c vl : Nat)
  | strand
deriving DecidableEq, Repr

def State.leave (s : State) (e : BitVec 32) : Leave :=
  if entryValid e then
    match (s.link (entryPrimary e)).state with
    | .up => .on (entryPrimary e) (entryVl e)
    | .hold => .on (entryPrimary e) (entryVl e)
    | .renegotiating => .on (entryPrimary e) (entryVl e)
    | _ => if entryAltValid e && s.linkUp (entryAlt e) then .on (entryAlt e) (entryAltVl e) else .strand
  else .strand

/-- Makes a message wait at this hub. -/
def State.holdMsg (s : State) (m : Msg) (why : WaitWhy) (about : Option Nat) (fwd : Bool) : State :=
  { s with waitMsgs := s.waitMsgs ++
      [{ msg := m, about := about, why := why, key := s.routeKey m.hdr.dst, since := s.clock, fwd := fwd }] }

/-- Sends a message without the level check of R365. A message to the hub itself is performed there. A planned change
or a settle time of its route holds it; a fence and its acknowledgement are not held by the change (DEDUCED, log
entry 9). -/
def State.sendRaw (s : State) (m : Msg) (about : Option Nat) (fwd : Bool) : State :=
  if m.hdr.dst = s.hub then { s with inbox := s.inbox ++ [{ port := none, msg := m }] }
  else
    let k := s.routeKey m.hdr.dst
    if (s.changes.any fun x => x.key = k) && !m.body.isFence then s.holdMsg m .fenced about fwd
    else if s.settles.any fun x => x.1 = k then s.holdMsg m .settling about fwd
    else match s.leave (s.route k) with
      | .on c vl => s.queueOn c vl m about fwd
      | .strand => s.holdMsg m .stranded about fwd

/-- The Folio record of a discarded message (R365, R381). -/
def State.recordDiscard (s : State) (c : Nat) (m : Msg) : State :=
  s.record { s.folioOf 0x0C m.hdr.partition.toNat with aux := c * 256 + m.body.mkind.toNat }

/-- The completion that answers an OP or a FWD_ARRV that never reached its home (R365, R381). -/
def State.bounce (s : State) (m : Msg) (st : Status) : Option Msg :=
  let back := { dst := m.hdr.src, src := s.hub, hops := 0, partition := m.hdr.partition : MsgHdr }
  match m.body with
  | .op b =>
    if b.op.flags.noresp then none
    else some {
      hdr := { back with dst := origHub b.carry.originator }
      body := .cpl { response := respWord st b.op.tag 0, retref := b.carry.retref,
                     target := getFld b.carry.originator 0 10, source := b.carry.source, child := 0,
                     value := valueBeat b.opcode st 0 } }
  | .fwdArrv b =>
    some { hdr := { back with dst := handleHub b.arrival.child }
           body := .cpl { response := respWord st 0 0, retref := 0, target := 0, source := srcHub,
                          child := b.arrival.child, value := none } }
  | _ => none

/-- R365: a message that the level of its link does not carry. -/
def State.refuseLevel (s : State) (c : Nat) (m : Msg) : State :=
  let s1 := (s.bump (0x5000 + c) 16).recordDiscard c m
  match s1.bounce m .localOnly with
  | some r => s1.sendRaw r none false
  | none => s1

/-- Sends a message: to the hub itself, on its link, or into a wait; R365 checks the link's level. -/
def State.send (s : State) (m : Msg) (about : Option Nat := none) (fwd : Bool := false) : State :=
  if m.hdr.dst = s.hub then s.sendRaw m about fwd
  else match s.leave (s.route (s.routeKey m.hdr.dst)) with
    | .on c _ =>
      if linkLevel c (s.link c).version < m.body.level ∧ (s.link c).version ≠ 0 then s.refuseLevel c m
      else s.sendRaw m about fwd
    | .strand => s.sendRaw m about fwd

/-- The header of a message that this hub originates for a partition. -/
def State.hdrTo (s : State) (dst : HubId) (p : Nat) : MsgHdr :=
  { dst := dst, src := s.hub, hops := 0, partition := BitVec.ofNat 4 p }

/-- Sends a waiting list of messages again, in order. -/
def State.resend (s : State) : List WaitMsg → State
  | [] => s
  | w :: ws => (s.send w.msg w.about w.fwd).resend ws

/-- Sends the messages that waited for a reason that has passed, in the order the hub received them. -/
def State.releaseWaiting (s : State) (p : WaitMsg → Bool) : State :=
  { s with waitMsgs := s.waitMsgs.filter fun w => !p w }.resend (s.waitMsgs.filter p)

/-- R373: after a link or a route changes, the stranded messages that have a way out again leave. -/
def State.retryStranded (s : State) : State :=
  s.releaseWaiting fun w => decide (w.why = .stranded) && decide (s.leave (s.route w.key) ≠ .strand)

/-! ### Link states -/

/-- The state codes of R377. -/
def linkCode : LinkState → Nat
  | .down => 0 | .training => 1 | .negotiating => 2 | .up => 3 | .hold => 4 | .refused => 5 | .renegotiating => 6

/-- The LINK_STATE record of R382. -/
def State.linkNote (s : State) (c prev reason parts abandoned : Nat) : State :=
  let l := s.link c
  s.notifyRing 16 7 0 (pack 96 [⟨92, 4, c⟩, ⟨89, 3, linkCode l.state⟩, ⟨86, 3, prev⟩, ⟨84, 2, l.version.toNat⟩,
    ⟨81, 3, l.lanes.toNat⟩, ⟨76, 5, reason⟩, ⟨61, 15, (l.peer.getD 0).toNat⟩, ⟨45, 16, parts⟩,
    ⟨29, 16, satNat 16 abandoned⟩])

/-- The parent link that the timebase follows (R384): TimeParentPort, or TimeParentAlt if the first is not UP. -/
def State.parentLink (s : State) : Option Nat :=
  if s.linkUp (s.cfg 0x5200 2) && s.linkBuilt (s.cfg 0x5200 2) then some (s.cfg 0x5200 2)
  else if s.linkUp (s.cfg 0x5200 3) && s.linkBuilt (s.cfg 0x5200 3) then some (s.cfg 0x5200 3)
  else none

/-- R390: both parent links have left UP. -/
def State.checkHoldover (s : State) (c : Nat) : State :=
  if s.sync.state = .locked ∧ s.parentLink = none then
    { s with sync := { s.sync with state := .holdover, holdSince := s.clock, holdNoted := false } }.linkNote c
      (linkCode (s.link c).state) 0x0C 0 0
  else s

/-- Changes a link's state with its LINK_STATE record (R377, R382), and what follows from it: the routes that become
unusable, holdover, and the messages that can leave. -/
def State.moveLink (s : State) (c : Nat) (st : LinkState) (reason parts abandoned : Nat) : State :=
  let prev := (s.link c).state
  if prev = st then s
  else
    let s1 := s.modLink c fun l =>
      { l with state := st, version := if st = .down ∨ st = .training then 0 else l.version }
    let s2 := (State.noteRoutes s s1).linkNote c (linkCode prev) reason parts abandoned
    ((s2.checkHoldover c).pump c).retryStranded

end Sys2Proof.Machine
end

