-- ==== Sys2Proof/Machine/Delivery.lean ====
section
/-! DEFINITION. Concluding an op: its counts, its Folio record and its response (R99 to R103, R120, R455), and the
delivery of responses by the shims and the aperture (R266 to R269, R275 to R278, R305, R306, R321). -/

namespace Sys2Proof.Machine

/-! ### Counts of a partition -/

/-- Adds to a counter of R455; an issuer in no partition (PortPartition 0xFF) has none. -/
def State.pcount (s : State) (sub p n : Nat) : State := if p < 16 then s.count 0x6000 sub p n else s

/-- Stocktake's act (R495). -/
def State.act (s : State) (p : Nat) : State := if p < 16 then s.stockAct p else s

/-- An op of a partition that shows in the Folio; one of no partition shows as the hub's. -/
def State.folioAny (s : State) (kind p : Nat) : FolioRec := if p < 16 then s.folioOf kind p else s.folioHub kind

/-- The Folio record of an op (R468). -/
def State.folioOp (s : State) (kind : Nat) (o : HomeOp) (st : Status) (aux : Nat) (data : BitVec 64) : FolioRec :=
  { s.folioAny kind o.partition with
    originator := o.originator, source := o.source, opcode := o.opcode, status := st.code, handle := o.op.handle,
    tag := o.op.tag, aux := aux, data := data }

/-- A waiter's op as its home holds it. -/
def State.waiterOp (s : State) (w : Waiter) : HomeOp where
  opcode := w.opcode
  op := { flags := w.flags, tsel := w.prio, tag := w.tag, operand := w.operand, opb := w.operandB
          handle := if w.kind = .ledger then
              ((s.ledgers.find? fun e => e.num = w.object).map Ledger.token).getD 0
            else mkHandle s.hub w.object }
  originator := w.originator
  source := w.source
  cls := w.cls
  partition := w.partition.toNat
  epoch := w.epoch
  stamp := w.stamp
  aged := w.aged
  context := w.context
  dlValid := w.dlValid
  deadline := w.deadline
  retref := getFld w.operandB 0 10
  resent := false
  entered := 0

/-! ### Concluding an op -/

/-- Sends the response of an op toward its originator (R99, R109); a posted op and an event-input op have none. A
forwarded arrival is answered to its child, whose handle its operand B holds (R154, R254, R350). -/
def State.respond (s : State) (o : HomeOp) (st : Status) (result : Nat) (v : BitVec 64) : State :=
  let word := respWord st o.op.tag result
  let val := valueBeat o.opcode st v
  let sel : BitVec 10 := getFld o.originator 0 10
  if o.op.flags.noresp || o.source = srcEvent then s
  else if o.source = srcHub then
    let child : Handle := getFld o.op.opb 32 32
    s.send { hdr := s.hdrTo (handleHub child) o.partition
             body := .cpl { response := word, retref := 0, target := sel, source := srcHub, child := child,
                            value := val } } (if st = .ok then some o.index else none)
  else
    if origHub o.originator = s.hub then
      { s with rets := s.rets ++
          [{ target := if o.source = srcAperture then .aperture else .port (getFld o.originator 3 7).toNat
             sel := sel, retref := o.retref, word := word, value := val }] }
    else
      s.send { hdr := s.hdrTo (origHub o.originator) o.partition
               body := .cpl { response := word, retref := o.retref, target := sel, source := o.source, child := 0,
                              value := val } }

/-- R120, R455, R469: an op that completes with a status that is no success. -/
def State.countRefused (s : State) (o : HomeOp) (st : Status) : State :=
  if st.good then s
  else
    let s1 := (s.pcount 6 o.partition 1).count 0x6008 2 0 1
    let s2 := if o.op.flags.noresp then s1.pcount 7 o.partition 1 else s1
    s2.record (s2.folioOp 4 o st (bitNat o.op.flags.noresp) o.op.operand)

/-- Completes an op with a status: its counts and its response. -/
def State.conclude (s : State) (o : HomeOp) (st : Status) (result : Nat) (v : BitVec 64) : State :=
  (s.countRefused o st).respond o st result v

/-- Stocktake's act counts an op performed or refused here, other than READ (R495). -/
def State.actOp (s : State) (o : HomeOp) : State := if o.opcode = opCode .read then s else s.act o.partition

/-- Refuses an op at one of the checks 1 to 11 of R105. -/
def State.refuse (s : State) (o : HomeOp) (st : Status) : State := (s.actOp o).conclude o st 0 0

/-- R455, R458: an op that reaches check 12 at this hub. The bucket of HubServiceHist is a free value. -/
def State.reach12 (s : State) (o : HomeOp) : State :=
  let s1 := ((s.actOp o).pcount 5 o.partition 1).count 0x6008 1 0 1
  let s2 := (s1.count 0x6008 (3 + Config.serviceBucket s1.free % 8) 0 1).fresh
  if origHub o.originator = s.hub then s2.countMax 0x6008 11 0 (s2.waitTime o.stamp) else s2

/-- The OP record of an op performed (R469). -/
def State.recordOp (s : State) (o : HomeOp) (st : Status) (result : Nat) : State :=
  s.record (s.folioOp 1 o st (result % 2 ^ 16) o.op.operand)

/-- Completes an op that its own rule decides: performed, or refused at check 12. -/
def State.finish (s : State) (o : HomeOp) (st : Status) (result : Nat) (v : BitVec 64) : State :=
  (if st.good then s.recordOp o st result else s).conclude o st result v

/-- R455: the counts of a grant of WAIT, TAKE or ACQ. -/
def State.countGrant (s : State) (o : HomeOp) : State :=
  if o.opcode = opCode .wait ∨ o.opcode = opCode .take ∨ o.opcode = opCode .acq then
    let t := s.waitTime o.stamp
    let s1 := (s.pcount 8 o.partition 1).pcount 9 o.partition t
    if o.partition < 16 then s1.countMax 0x6000 10 o.partition t else s1
  else s

/-- The GRANT record of a waiter (R469). -/
def State.recordGrant (s : State) (o : HomeOp) (st : Status) : State :=
  s.record (s.folioOp 2 o st 0 (BitVec.ofNat 64 (s.waitTime o.stamp)))

/-! ### The shim's response side -/

/-- The op of a pending entry as the counts see it. -/
def State.pendOp (s : State) (p : Nat) (e : Pend) : HomeOp where
  opcode := e.opcode
  op := { e.op with handle := e.handle }
  originator := s.laneOrig p e.lane
  source := srcPort
  cls := 0
  partition := s.portPart p
  epoch := 0
  stamp := e.stamp
  aged := false
  context := e.context
  dlValid := false
  deadline := 0
  retref := BitVec.ofNat 6 e.entry ++ (s.port p).generation
  resent := false
  entered := 0

/-- ACQ and TRYACQ, the ops that hold a held-lock entry (R222). -/
def codeAcquires (c : BitVec 6) : Bool := c = opCode .acq || c = opCode .tryAcq

/-- Whether a status word says OK or ABANDONED. -/
def wordGood (w : BitVec 64) : Bool := respStatus w = 0 || respStatus w = 3

/-- Frees the held-lock entry of an originator and lock (R223). -/
def Port.dropLock (x : Port) (lock : Handle) (eng : Nat) : Port :=
  { x with heldLocks := x.heldLocks.filter fun h => !(h.lock = lock && h.engine.toNat = eng) }

/-- Makes a response readable on its lane. A delivered grant sets its held-lock entry's delivered bit (R223). -/
def Port.toLane (x : Port) (r : Rsp) : Port :=
  let lock := (r.entry.bind fun e => x.pend.find? fun q => q.entry = e).map Pend.handle
  { x with
    lanes := x.lanes ++ [r]
    heldLocks := if codeAcquires r.opcode && wordGood r.word then
        x.heldLocks.map fun h =>
          if some h.lock = lock ∧ h.engine.toNat = laneEngine r.lane then { h with delivered := true } else h
      else x.heldLocks }

/-- R305, R306: raises the invalidate pulse for the ACQ responses that are ready, if none is outstanding. -/
def Port.raisePulse (x : Port) (t : Time) : Port :=
  if (x.inval.any fun r => r.2) || !(x.inval.any fun r => r.1.acq) then x
  else { x with inval := x.inval.map fun r => (r.1, r.1.acq), invalSince := t, invalNoted := false }

/-- A response ready for delivery: an ACQ response waits for its invalidate, and those of its lane wait behind it
(R129, R268). -/
def Port.ready (x : Port) (t : Time) (r : Rsp) : Port :=
  if r.acq || x.inval.any (fun q => q.1.lane = r.lane) then
    { x with inval := x.inval ++ [(r, false)] }.raisePulse t
  else x.toLane r

/-- Whether the parked set holds a response (R274, R275). -/
def Port.parks (x : Port) (r : Rsp) : Bool :=
  !codeService r.opcode && x.parked.any fun e => e.covers r.lane r.context

/-- A response that the shim has synchronised: held by PARK, stored by HOLD, or delivered (R268, R275, R278). -/
def State.offer (s : State) (p : Nat) (r : Rsp) : State :=
  let x := s.port p
  if x.parks r then s.setPort p { x with parkHeld := x.parkHeld ++ [r] }
  else if s.portHeld p && !codeService r.opcode then s.setPort p { x with holdStore := x.holdStore ++ [r] }
  else s.setPort p (x.ready s.clock r)

/-- Offers responses in order. -/
def State.offerAll (s : State) (p : Nat) : List Rsp → State
  | [] => s
  | r :: rs => (s.offer p r).offerAll p rs

/-- The responses that an acknowledged invalidate releases, and those that still wait: one goes if the pulse covered
it, or if it carries no ACQ flag and none of its lane waits before it. -/
def invalSplit : List (Rsp × Bool) → List (Rsp × Bool) → List Rsp × List (Rsp × Bool)
  | _, [] => ([], [])
  | kept, r :: rs =>
    if r.2 || (!r.1.acq && !(kept.any fun q => q.1.lane = r.1.lane)) then
      let x := invalSplit kept rs
      (r.1 :: x.1, x.2)
    else
      let x := invalSplit (kept ++ [r]) rs
      (x.1, r :: x.2)

/-- Delivers a response whose invalidate is complete, unless PARK or HOLD has come to hold it. -/
def State.deliverCovered (s : State) (p : Nat) : List Rsp → State
  | [] => s
  | r :: rs =>
    let x := s.port p
    let s1 :=
      if x.parks r then s.setPort p { x with parkHeld := x.parkHeld ++ [r] }
      else if s.portHeld p && !codeService r.opcode then s.setPort p { x with holdStore := x.holdStore ++ [r] }
      else s.setPort p (x.toLane r)
    s1.deliverCovered p rs

/-- The response to a pending entry, as the shim delivers it. -/
def State.pendRsp (s : State) (p : Nat) (e : Pend) (word : BitVec 64) (v : Option (BitVec 64)) : Rsp where
  lane := e.lane
  entry := some e.entry
  opcode := e.opcode
  acq := e.op.flags.acq
  context := e.context
  stamp := e.stamp
  aged := s.isAged e.stamp
  originator := s.laneOrig p e.lane
  word := word
  value := v
  beat2 := false

/-- A response to a pending entry reaches its shim. An ACQ or TRYACQ that is not granted frees its held-lock entry
(R223). -/
def State.pendArrive (s : State) (p : Nat) (e : Pend) (word : BitVec 64) (v : Option (BitVec 64)) : State :=
  let x := s.port p
  let x1 := if e.lock && !wordGood word then x.dropLock e.handle (laneEngine e.lane) else x
  let x2 := { x1 with
    pend := x1.pend.map fun q => if q.entry = e.entry then { q with arrived := true } else q
    away := x1.away.filter fun a => a.entry ≠ some e.entry }
  (s.setPort p x2).offer p (s.pendRsp p e word v)

/-- A response on the return path reaches a shim: R267 discards one whose generation is old or whose op is over. -/
def State.retPort (s : State) (p : Nat) (r : Ret) : State :=
  let x := s.port p
  match x.pend.find? fun q => q.entry = (getFld r.retref 4 6).toNat && !q.arrived with
  | some e =>
    if x.generation = getFld r.retref 0 4 then s.pendArrive p e r.word r.value
    else s.pcount 13 (s.portPart p) 1
  | none => s.pcount 13 (s.portPart p) 1

/-- R321: RESP, VALUE, busy and done are written in one step. -/
def Slot.answer (x : Slot) (word : BitVec 64) (v : Option (BitVec 64)) : Slot :=
  { x with resp := word, value := v.getD 0, busy := false, done := true, sent := none,
           away := x.away.filter fun a => a.entry ≠ some 0 }

/-- A response on the return path reaches the subordinate. -/
def State.retSlot (s : State) (r : Ret) : State :=
  let g := r.sel.toNat
  let x := s.slot g
  if x.busy = true ∧ x.generation = getFld r.retref 0 4 then s.setSlot g (x.answer r.word r.value)
  else s.pcount 13 (s.slotPart g) 1

/-- Takes the oldest response for a target off the return path and delivers it (R268, R321). -/
def State.deliverNext (s : State) (t : RspTarget) : State :=
  match s.rets.find? fun r => r.target = t with
  | none => s
  | some r =>
    let s1 := { s with rets := s.rets.erase r }
    match t with
    | .port p => s1.retPort p r
    | .aperture => s1.retSlot r

/-- An op that its shim or its own hub decides: it is answered to its pending entry without crossing the hub. -/
def State.answerPend (s : State) (p : Nat) (e : Pend) (st : Status) (result : Nat) (v : BitVec 64) : State :=
  s.pendArrive p e (respWord st e.op.tag result) (valueBeat e.opcode st v)

end Sys2Proof.Machine
end

