-- ==== Sys2Proof/Machine/Waiters.lean ====
section
/-! DEFINITION. The waiter store: taking and freeing records (R252, R253, R112), the queue order (R256 to R258, R264,
R231), and the ways a wait ends. -/

namespace Sys2Proof.Machine

/-! ### Queue order -/

/-- Two records of one queue: of the same object, or of the same ledger entry. -/
def Waiter.sameQueue (x y : Waiter) : Bool :=
  x.object = y.object && (decide (x.kind = .ledger) == decide (y.kind = .ledger))

/-- R264, R231: whether a new waiter goes ahead of one already queued; `pm` is Rhoveter priority mode. -/
def Waiter.goesAhead (pm : Bool) (x y : Waiter) : Bool :=
  if pm && x.prio ≠ y.prio then decide (y.prio.toNat < x.prio.toNat)
  else if x.aged then !y.aged
  else older x.aged x.stamp (fairKey x.originator x.source) y.aged y.stamp (fairKey y.originator y.source)

/-- Puts a waiter into its queue. -/
def insertWaiter (pm : Bool) (w : Waiter) : List Waiter → List Waiter
  | [] => [w]
  | q :: qs => if w.sameQueue q && w.goesAhead pm q then w :: q :: qs else q :: insertWaiter pm w qs

/-! ### Record numbers (R252) -/

/-- Puts a number into a rising list. -/
def insertNat (n : Nat) : List Nat → List Nat
  | [] => [n]
  | m :: ms => if n ≤ m then n :: m :: ms else m :: insertNat n ms

/-- A list of numbers in rising order. -/
def sortNat : List Nat → List Nat
  | [] => []
  | n :: ns => insertNat n (sortNat ns)

/-- The number that a count `k` of free numbers precede, from `base` on, the used ones given in rising order. -/
def kthFree (base k : Nat) (used : List Nat) : Nat := used.foldl (fun n u => if u ≤ n then n + 1 else n) (base + k)

/-- A free number of a share, which one being a free value (R252); `none` if the share is used up. -/
def State.freeNumber (s : State) (base size : Nat) (used : List Nat) : Option Nat :=
  if used.length < size then
    some (kthFree base (Config.freePick s.free % (size - used.length)) (sortNat used))
  else none

/-- The lowest free number of a share. -/
def lowestFree (base size : Nat) (used : List Nat) : Option Nat :=
  if used.length < size then some (kthFree base 0 (sortNat used)) else none

/-! ### Taking a record -/

/-- The waiter record of an op or message (R254), without its number. -/
def State.waiterFor (s : State) (kind : WaiterKind) (object : Nat) (o : HomeOp) (operand operandB : BitVec 64) :
    Waiter where
  num := 0
  kind := kind
  object := object
  originator := o.originator
  source := o.source
  stamp := o.stamp
  aged := o.aged
  opcode := o.opcode
  flags := o.op.flags
  tag := o.op.tag
  partition := BitVec.ofNat 4 o.partition
  epoch := o.epoch
  context := o.context
  cls := o.cls
  dlValid := o.dlValid
  deadline := o.deadline
  prio := if o.opcode = opCode .acq then o.op.tsel else 0
  operand := operand
  operandB := operandB
  since := s.clock

/-- Queues a waiter in a record of partition `p`'s share; `none` if the share is exhausted. -/
def State.addWaiter (s : State) (pm : Bool) (p : Nat) (w : Waiter) : Option State :=
  (s.freeNumber (s.shareBase p) s.shareSize ((s.waitersOf p).map Waiter.num)).map fun n =>
    let s1 := { s with waiters := insertWaiter pm { w with num := n } s.waiters }.fresh
    s1.countMax 0x2800 4 p (s1.waitersOf p).length

/-- R112: the count of an exhausted share. -/
def State.exhausted (s : State) (p : Nat) : State := s.pcount 12 p 1

/-! ### Freeing a record -/

/-- A TAKE or a loan request, the waiters that R193 measures. -/
def Waiter.takes (w : Waiter) : Bool := decide (w.kind = .loanReq) || w.opcode = opCode .take

/-- Sets the measure of R193 for the waiter that has just become the oldest of its kind in a queue. -/
def markSince (t : Time) (q : Waiter) : List Waiter → List Waiter
  | [] => []
  | w :: ws => if w.sameQueue q && w.takes then { w with since := t } :: ws else w :: markSince t q ws

/-- Whether a waiter is the oldest TAKE or loan request of its queue. -/
def State.isHead (s : State) (w : Waiter) : Bool :=
  match s.waiters.find? fun q => q.sameQueue w && q.takes with
  | some q => q.num = w.num
  | none => false

/-- Frees a waiter record and unlinks it from its queue; a ledger entry's idle time starts anew (R195). -/
def State.freeWaiter (s : State) (w : Waiter) : State :=
  let rest := s.waiters.filter fun q => q.num ≠ w.num
  { s with
    waiters := if s.isHead w then markSince s.clock w rest else rest
    ledgers := if w.kind = .ledger then
        s.ledgers.map fun e => if e.num = w.object then { e with idleSince := s.clock } else e
      else s.ledgers }

/-- The lender entry of a token for a borrower. -/
def State.lenderOf (s : State) (i : Nat) (h : HubId) : Option Lender :=
  s.lenders.find? fun e => e.token = i && e.borrower = h

/-- Rewrites the lender entry of a number. -/
def State.setLender (s : State) (e : Lender) : State :=
  { s with lenders := s.lenders.map fun x => if x.num = e.num then e else x }

/-- Rewrites the ledger entry of a number. -/
def State.setLedger (s : State) (e : Ledger) : State :=
  { s with ledgers := s.ledgers.map fun x => if x.num = e.num then e else x }

/-- Clears req of the lender entry that a loan request stands for. -/
def State.clearReq (s : State) (w : Waiter) : State :=
  match s.lenderOf w.object (origHub w.originator) with
  | some e => s.setLender { e with req := false }
  | none => s

/-- Ends a wait with a status that is no grant: an op and a forwarded arrival are completed; a parked ARRV and a loan
request have nobody to answer (R79, R410, R432). -/
def State.endWaiter (s : State) (w : Waiter) (st : Status) : State :=
  match w.kind with
  | .parkedArrv => s.freeWaiter w
  | .loanReq => (s.clearReq w).freeWaiter w
  | _ => (s.freeWaiter w).conclude (s.waiterOp w) st 0 0

/-- Ends a list of waits. -/
def State.endWaiters (s : State) (st : Status) : List Waiter → State
  | [] => s
  | w :: ws => (s.endWaiter w st).endWaiters st ws

/-- R145: a parked ARRW whose wait ends stays parked as an ARRV. -/
def State.unwaitParked (s : State) (w : Waiter) : State :=
  { s with waiters := s.waiters.map fun q => if q.num = w.num then { q with kind := .parkedArrv } else q }

/-- Ends one wait alone, by expiry or cancellation (R118, R145): a parked arrival stays parked. -/
def State.endWait (s : State) (w : Waiter) (st : Status) : State :=
  match w.kind with
  | .parkedArrv => s
  | .parkedArrw => (s.unwaitParked w).conclude (s.waiterOp w) st 0 0
  | _ => s.endWaiter w st

/-- Grants a waiter (R109), with its counts and its GRANT record. -/
def State.grant (s : State) (w : Waiter) (st : Status) (result : Nat) (v : BitVec 64) : State :=
  let o := s.waiterOp w
  (((s.freeWaiter w).countGrant o).recordGrant o st).conclude o st result v

end Sys2Proof.Machine
end

