-- ==== Sys2Proof/Machine/Latch.lean ====
section
/-! DEFINITION. The job-fault latch (R432 to R440), the FAULT_NOTICE, the messages of a loan recall (R181, R193), and the
marking of a damaged record (R78 to R81). -/

namespace Sys2Proof.Machine

/-! ### Near objects and shims under the latch -/

/-- A waiting near op as the counts see it. -/
def State.nearOp (s : State) (p : Nat) (w : NearWait) : HomeOp where
  opcode := w.opcode
  op := w.op
  originator := s.laneOrig p w.lane
  source := srcPort
  cls := 0
  partition := s.portPart p
  epoch := 0
  stamp := w.stamp
  aged := false
  context := w.context
  dlValid := false
  deadline := 0
  retref := 0
  resent := false
  entered := 0

/-- The response to a near op (R75): it holds no pending entry. -/
def State.nearRsp (s : State) (p lane : Nat) (opcode : BitVec 6) (op : OpFields) (ctx : BitVec 8) (stamp : Stamp)
    (st : Status) (result : Nat) (v : BitVec 64) : Rsp where
  lane := lane
  entry := none
  opcode := opcode
  acq := op.flags.acq
  context := ctx
  stamp := stamp
  aged := s.isAged stamp
  originator := s.laneOrig p lane
  word := respWord st op.tag result
  value := valueBeat opcode st v
  beat2 := false

/-- Completes one near wait with a status that is no grant. -/
def State.endNear (s : State) (p : Nat) (st : Status) (w : NearWait) : State :=
  let s1 := s.modPort p fun x => { x with nearWaits := x.nearWaits.erase w }
  (s1.countRefused (s1.nearOp p w) st).offer p (s1.nearRsp p w.lane w.opcode w.op w.context w.stamp st 0 0)

/-- Completes near waits with a status that is no grant. -/
def State.endNears (s : State) (p : Nat) (st : Status) : List NearWait → State
  | [] => s
  | w :: ws => (s.endNear p st w).endNears p st ws

/-- Counts the posted ops that a shim or the aperture discards before forwarding them (R120). -/
def State.discardOps (s : State) : List HomeOp → State
  | [] => s
  | o :: os => (if o.op.flags.noresp then s.countRefused o .jobFault else s).discardOps os

/-- An op held in a shim, as the counts see it. -/
def State.shimOp (s : State) (p : Nat) (h : ShimOp) : HomeOp :=
  s.pendOp p { entry := h.entry.getD 0, lane := h.lane, opcode := h.opcode, op := h.op, context := h.context,
               handle := h.op.handle }

/-- Completes pending entries with a status; their responses have not reached the shim. -/
def State.endPends (s : State) (p : Nat) (st : Status) : List Pend → State
  | [] => s
  | e :: es => ((s.countRefused (s.pendOp p e) st).answerPend p e st 0 0).endPends p st es

/-- Step 3 of R432 at one port. -/
def State.latchPort (s : State) (p : Nat) : State :=
  let x := s.port p
  let s1 := s.setPort p { x with generation := x.generation + 1, drains := [], drainNoted := false, fences := [] }
  let s2 := s1.discardOps (x.drains.map (s.shimOp p))
  (s2.endPends p .jobFault (x.pend.filter fun e => !e.arrived)).endNears p .jobFault x.nearWaits

/-- Does `f` for each number of a list, in order. -/
def State.each (s : State) (f : State → Nat → State) : List Nat → State
  | [] => s
  | n :: ns => (f s n).each f ns

/-- The op that a busy slot awaits the response of, as the counts see it. -/
def State.slotPend (s : State) (g : Nat) (e : Pend) : HomeOp where
  opcode := e.opcode
  op := { e.op with handle := e.handle }
  originator := s.orig g
  source := srcAperture
  cls := 0
  partition := s.slotPart g
  epoch := 0
  stamp := e.stamp
  aged := false
  context := 0
  dlValid := false
  deadline := 0
  retref := 0
  resent := false
  entered := 0

/-- An op that the aperture holds, as the counts see it. -/
def State.slotOp (s : State) (g : Nat) (h : SlotOp) : HomeOp :=
  s.slotPend g { entry := 0, lane := 0, opcode := h.opcode, op := h.op, context := 0, handle := h.op.handle }

/-- Step 4 of R432 at one slot. -/
def State.latchSlot (s : State) (g : Nat) : State :=
  let x := s.slot g
  let s1 := s.discardOps (x.held.map (s.slotOp g))
  if x.busy then
    let s2 := match x.sent with | some e => s1.countRefused (s.slotPend g e) .jobFault | none => s1
    let y := { x with held := [], fence := none, generation := x.generation + 1 : Slot }
    s2.setSlot g (y.answer (respWord .jobFault x.tag 0) none)
  else s1.setSlot g { x with held := [] }

/-- The slots of a partition that hold anything. -/
def State.usedSlots (s : State) (p : Nat) : List Nat := s.slots.keys.filter fun g => s.slotPart g = p

/-- Steps 3 to 5 of R432. A scope-all HOLD or RESUME op that waits for its peers has been answered with the others. -/
def State.failPart (s : State) (p : Nat) : State :=
  let s1 := s.each State.latchPort (s.partPorts p)
  let s2 := s1.each State.latchSlot (s1.usedSlots p)
  let s3 := s2.modPart p fun x =>
    { x with hold := { x.hold with xs := x.hold.xs.map fun e =>
        { e with waiter := match e.waiter with | .op _ _ => .nobody | w => w } } }
  s3.endWaiters .jobFault (s3.waitersOf p)

/-! ### JOB_FAULT records and the notice -/

/-- What a detection reports (R438). -/
structure Detection where
  cause : Nat
  link : Nat := 0
  index : Nat := 0
  stage : Nat := 0
deriving DecidableEq, Repr

/-- A set of partitions as bits. -/
def partBits (ps : List Nat) : Nat := ps.foldl (fun m p => m ||| (1 <<< p)) 0

/-- The body of a JOB_FAULT record (R438). -/
def State.faultBody (s : State) (d : Detection) (epoch : BitVec 8) (ps : List Nat) : BitVec 96 :=
  pack 96 [⟨90, 6, d.cause⟩, ⟨86, 4, d.link⟩, ⟨69, 17, d.index⟩, ⟨61, 8, epoch.toNat⟩, ⟨45, 16, partBits ps⟩,
    ⟨40, 5, d.stage⟩, ⟨0, 40, s.time.ns⟩]

/-- Sends FAULT_NOTICE to the hubs that a partition names (R437). -/
def State.notice (s : State) (p cause : Nat) : List HubId → State
  | [] => s
  | h :: hs =>
    let s1 :=
      if s.reachableAt h 2 then
        let b : PartCtlBody :=
          { oldEpoch := s.epoch p, newEpoch := 0, count := BitVec.ofNat 5 s.partCount, seq := 0, status := 0,
            cause := BitVec.ofNat 6 cause, context := 0, startTime := 0 }
        s.send { hdr := s.hdrTo h p, body := .partCtl .faultNotice b }
      else s.bump 0x3010 15 p
    s1.notice p cause hs

/-- Sets or reports one partition's latch (R432 to R437). `ps` are all the partitions of the detection. -/
def State.latchOne (d : Detection) (ps : List Nat) (s : State) (p : Nat) : State :=
  let x := s.part p
  let s1 := s.bump 0x7030 3 p
  let s2 := if x.reported.contains d.cause then s1 else s1.notifyRing p 4 p (s.faultBody d x.epoch ps)
  let s3 := s2.modPart p fun y =>
    { y with reported := if x.reported.contains d.cause then y.reported else d.cause :: y.reported }
  if x.fault then s3
  else
    let s4 := s3.modPart p fun y => { y with fault := true, cause := BitVec.ofNat 6 d.cause }
    let s5 := if s4.cfg 0x6030 9 ≠ 0 ∧ s4.folioScope false p then s4.folioMark false p 3 (BitVec.ofNat 64 d.cause)
      else s4
    let s6 := if d.cause = 0x21 then s5 else s5.notice p d.cause (s5.namedHubs p)
    s6.failPart p

/-- The lowest number of a list. -/
def lowest (ps : List Nat) : Nat := (sortNat ps).headD 0

/-- Reports JOB_FAULT for partitions (R432, R439). The hub-ring record is written unless every partition's latch has
had a record of this cause. -/
def State.jobFault (s : State) (d : Detection) (ps : List Nat) : State :=
  let fresh := ps = [] ∨ (ps.any fun p => !((s.part p).reported.contains d.cause)) = true
  let s1 := s.each (State.latchOne d ps) ps
  if fresh then s1.notifyRing 16 4 (lowest ps) (s.faultBody d (if ps = [] then 0 else s.epoch (lowest ps)) ps) else s1

/-- Reports JOB_FAULT for one partition, if it is one. -/
def State.failOne (s : State) (d : Detection) (p : Nat) : State := if p < 16 then s.jobFault d [p] else s

/-- Every partition of the present count. -/
def State.allParts (s : State) : List Nat := numsFrom 0 s.partCount

/-! ### Loan messages and the recall (R181, R193) -/

/-- The LOAN record of a loan message sent or performed (R469). -/
def State.recordLoan (s : State) (p : Nat) (k : LoanKind) (b : LoanBody) (sent : Bool) : State :=
  s.record { s.folioAny 8 p with handle := b.token, aux := k.code.toNat + 16 * bitNat sent, data := b.amountA }

/-- Sends a loan message. -/
def State.sendLoan (s : State) (dst : HubId) (p : Nat) (k : LoanKind) (b : LoanBody) : State :=
  (s.send { hdr := s.hdrTo dst p, body := .loan k b }).recordLoan p k b true

/-- A loan message of this hub for a token (R181), with the fields that its kind leaves zero. -/
def State.loanBody (s : State) (p : Nat) (seq : BitVec 8) (borrower : HubId) (token : Handle) : LoanBody where
  seq := seq
  partition := BitVec.ofNat 4 p
  epoch := s.epoch p
  stamp := 0
  borrower := borrower
  opening := false
  token := token
  reason := 0
  firstFit := false
  amountA := 0
  amountB := 0

/-- Recalls one lender entry: LOAN_RECALL, and RECALLING (R193). -/
def State.recallEntry (s : State) (e : Lender) : State :=
  if e.state = .opened then
    let p := s.partOfIndex e.token
    (s.setLender { e with state := .recalling }).sendLoan e.borrower p .recall
      (s.loanBody p e.seq e.borrower (mkHandle s.hub e.token))
  else s

/-- Recalls lender entries, in order. -/
def State.recallAll (s : State) : List Lender → State
  | [] => s
  | e :: es => (s.recallEntry e).recallAll es

/-- Recalls every OPEN entry of a token (R193). -/
def State.recallToken (s : State) (i : Nat) : State := s.recallAll (s.lenders.filter fun e => e.token = i)

/-! ### Faulted records (R78 to R81) -/

/-- The index of the object that an index belongs to: the header of a wide group, or the index itself. -/
def State.headOf (s : State) (i : Nat) : Nat := if s.wideBit i then i - i % 4 else i

/-- The record that R78 leaves. -/
def faultedRec (t : ObjType) (p : Nat) : ObjRec := { otype := t, partition := BitVec.ofNat 4 p, faulted := true }

/-- ErrLastLocation (R454). -/
def State.errLocation (s : State) (cause index : Nat) : State :=
  s.setCfg 0x7010 10 0 ((cause % 64) * 2 ^ 26 + index % 2 ^ 26)

/-- Rewrites a damaged record as faulted, completes its waiters and recalls its loans (R78, R79, R81, R201), without the
report. Whether the type field reads the same under both decodings is a free value. -/
def State.rewriteFaulted (s : State) (i : Nat) : State :=
  let j := s.headOf i
  let keep := Config.typeReadable s.free
  let old := s.obj j
  let o := { faultedRec (if keep then old.otype else .none) (s.partOfIndex j) with
    body := if i ≠ j then 0 else old.body }
  let s1 := (s.fresh).setObj j o
  let s2 := s1.endWaiters .jobFault (s1.queue j)
  if old.loanable then s2.recallToken j else s2

/-- Marks a record faulted and reports it with a cause (R78, R196, R443). -/
def State.markFaulted (s : State) (i : Nat) : State :=
  let p := s.partOfIndex i
  let s1 := ((s.rewriteFaulted i).errLocation 1 i)
  let s2 := s1.record { s1.folioOf 0x0F p with handle := BitVec.ofNat 32 i, aux := 1 }
  s2.jobFault { cause := 1, index := i } [p]

end Sys2Proof.Machine
end

