-- ==== Sys2Proof/Machine/Ecc.lean ====
section
/-! DEFINITION. The protected stores (R425 to R430): what an access or the scrub does when it finds bits of a word in
error. `flips` counts the bits of a word in error; a count of four or more is detected or miscorrected as a free value
says. -/

namespace Sys2Proof.Machine

/-- The bits in error of a word. -/
def State.flipsOf (s : State) (w : StoreWord) : Nat := ((s.flips.find? fun x => x.1 = w).map Prod.snd).getD 0

/-- A word rewritten with valid check bits. -/
def State.cleanWord (s : State) (w : StoreWord) : State := { s with flips := s.flips.filter fun x => x.1 ≠ w }

/-- The counters of corrected and uncorrected errors of a store (R454). -/
def correctedSub : StoreWord → Nat
  | .object _ => 1
  | .waiter _ => 3
  | .config _ => 7
  | _ => 5

/-- The cause code of R440 and the index of a store word. -/
def storeCause : StoreWord → Nat × Nat
  | .object i => (1, i)
  | .waiter i => (2, i)
  | .lender i => (3, i)
  | .ledger i => (4, i)
  | .heldLock i => (5, i)
  | .ticket i => (6, i)
  | .config i => (7, i)

/-- R218: the count and the record of a discarded ticket. -/
def State.countDiscard (s : State) (t : Ticket) : State :=
  let aux := match t.target with | .shim p _ => p | .ring k => k
  let s1 := s.pcount 16 t.partition 1
  s1.record { s1.folioOf 0x0A t.partition with
    handle := BitVec.ofNat 32 t.object, aux := aux, data := (getFld t.data 160 32 : BitVec 32).setWidth 64 }

/-- Whether an entry counts something (R430): no partition is latched for it. -/
def catCounts (index : Nat) (r : CatRow) : Bool :=
  (r.access ≠ .wo && r.access ≠ .rws && (decide (index / 256 = 0x60 ∧ index < 0x6020) || r.name.endsWith "Count" ||
    r.name.endsWith "Failed" || r.name.endsWith "HighWater"))

/-- R430: the replacement of one Catalogue entry, and the partitions to latch. -/
def State.replaceEntry (s : State) (index : Nat) (r : CatRow) (p : Nat) : State × List Nat :=
  if (0x3100 ≤ index ∧ index ≤ 0x317F) ∨ r.name = "LinkW1Partition" ∨ r.name = "TimeParentPort" ∨
      r.name = "TimeParentAlt" then (s.setCfg index r.sub 0 0xFF, s.allParts)
  else if r.name = "EvPartition" then (s.setCfg index 1 0 0, s.allParts)
  else if catCounts index r then (s.setCfg index r.sub p r.dflt, [])
  else match r.scope with
    | .partition => (s.setCfg index r.sub p r.dflt, [p])
    | .lockGroup => (s.setCfg index r.sub 0 r.dflt, [(index - 0x4000) * s.partCount / 256])
    | _ => (s.setCfg index r.sub 0 r.dflt, s.allParts)

/-- R430: the replacement of a word of the configuration store. Which entry a word holds is a free value. -/
def State.replaceConfig (s : State) (w : Nat) : State × List Nat :=
  let n := Config.configEntry w
  if n % 3 = 0 then
    let k := n / 3 % 65536
    let e : BitVec 16 := s.devMap.get devDefault k
    ({ s with devMap := s.devMap.put devDefault k ((getFld e 0 15 : BitVec 15).setWidth 16) }, [k / 4096])
  else if n % 3 = 1 then
    let k := n / 3 % 4104
    (s.putRoute k ((getFld (s.route k) 0 31 : BitVec 31).setWidth 32), s.allParts)
  else
    let index := catIndices.getD (n / 3 % catIndices.length) 0
    let rows := catBlock index
    match rows[n / 3 / catIndices.length % rows.length]? with
    | some r => s.replaceEntry index r (n / 65536 % s.partCount)
    | none => (s, [])

/-- What a miscorrection leaves in a word of the configuration store. -/
def State.miscorrectConfig (s : State) (n : Nat) (v : BitVec 64) : State :=
  if n % 3 = 0 then
    let k := n / 3 % 65536
    { s with devMap := s.devMap.put devDefault k (s.devMap.get devDefault k ^^^ getFld v 0 16) }
  else if n % 3 = 1 then s.putRoute (n / 3 % 4104) (s.route (n / 3 % 4104) ^^^ getFld v 0 32)
  else
    let index := catIndices.getD (n / 3 % catIndices.length) 0
    let rows := catBlock index
    match rows[n / 3 / catIndices.length % rows.length]? with
    | some r =>
      let p := if r.scope = .partition then n / 65536 % s.partCount else 0
      s.setCfg index r.sub p (s.cfg index r.sub p ^^^ v.toNat % 2 ^ (8 * r.ty.bytes))
    | none => s

/-- What a miscorrection leaves in a word: a free value in the place that the ops read. -/
def State.miscorrect (s : State) (w : StoreWord) : State :=
  let v := Config.eccMiscorrected s.free
  match w with
  | .object i => (s.modObj i fun o => { o with word0 := o.word0 ^^^ v }).fresh
  | .waiter i =>
    ({ s with waiters := s.waiters.map fun q => if q.num = i then { q with operand := q.operand ^^^ v } else q } : State).fresh
  | .lender i =>
    ({ s with lenders := s.lenders.map fun q => if q.num = i then { q with principal := q.principal ^^^ v } else q } : State).fresh
  | .ledger i =>
    ({ s with ledgers := s.ledgers.map fun q => if q.num = i then { q with balance := q.balance ^^^ v } else q } : State).fresh
  | .heldLock i =>
    (s.modPort (i / 64) fun x =>
      { x with heldLocks := x.heldLocks.map fun h => if h.index = i % 64 then { h with lock := h.lock ^^^ getFld v 0 32 } else h
        }).fresh
  | .ticket i =>
    ({ s with buffered := s.buffered.map fun t =>
        if t.partition = i / 2 / s.ticketShare ∧ t.slot = i / 2 then
          { t with data := t.data ^^^ (v.setWidth 512 <<< (256 * (i % 2))) } else t } : State).fresh
  | .config i => (s.miscorrectConfig (Config.configEntry i) v).fresh

/-- The record and the report of an uncorrectable error outside the object store (R429, R430). -/
def State.reportWord (s : State) (cause index : Nat) (ps : List Nat) : State :=
  let s1 := s.errLocation cause index
  let p := ps.headD 0
  let s2 := s1.record { (if ps = [] then s1.folioHub 0x0F else s1.folioOf 0x0F p) with
    handle := BitVec.ofNat 32 index, aux := cause }
  s2.jobFault { cause := cause, index := index } ps

/-- R429: an uncorrectable error in a waiter record, found while walking the queue of object `walked`, or otherwise. -/
def State.lostWaiter (s : State) (i : Nat) (walked : Option Nat) : State :=
  let s1 := { s with waiters := s.waiters.filter fun w => w.num ≠ i }
  match walked with
  | some j => (s1.rewriteFaulted j).reportWord 2 i [s.partOfIndex i]
  | none => s1.reportWord 2 i [s.partOfIndex i]

/-- The hub's action on an uncorrectable error (R78, R429, R430). -/
def State.uncorrectable (s : State) (w : StoreWord) (walked : Option Nat) : State :=
  let s0 := (s.cleanWord w).bump 0x7010 (correctedSub w + 1)
  match w with
  | .object i => s0.markFaulted i
  | .waiter i => s0.lostWaiter i walked
  | .lender i =>
    let s1 : State := { s0 with lenders := s0.lenders.map fun e => if e.num = i then { e with state := .lost } else e }
    s1.reportWord 3 i [i / s.loanShare]
  | .ledger i =>
    match s0.ledgers.find? fun e => e.num = i with
    | some e =>
      let s1 := s0.pcount 18 e.partition.toNat e.balance.toNat
      let s2 := s1.endWaiters .jobFault (s1.ledgerQueue i)
      { s2 with ledgers := s2.ledgers.filter fun x => x.num ≠ i }.reportWord 4 i [i / s.loanShare]
    | none => s0.reportWord 4 i [i / s.loanShare]
  | .heldLock i =>
    let s1 := s0.modPort (i / 64) fun x => { x with heldLocks := x.heldLocks.filter fun h => h.index ≠ i % 64 }
    s1.reportWord 5 i (if s.portPart (i / 64) < 16 then [s.portPart (i / 64)] else [])
  | .ticket i =>
    let p := i / 2 / s.ticketShare
    match s0.buffered.find? fun t => t.partition = p && t.slot = i / 2 with
    | some t =>
      { s0.countDiscard t with buffered := s0.buffered.erase t }.reportWord 6 (i / 2) [p]
    | none => s0.reportWord 6 (i / 2) [p]
  | .config i =>
    let r := s0.replaceConfig i
    let s1 := r.1.errLocation 7 i
    let s2 := s1.record { s1.folioHub 0x0F with handle := BitVec.ofNat 32 i, aux := 7 }
    s2.jobFault { cause := 7, index := i } r.2

/-- An access to a protected word, by an op or by the scrub (R425, R426). -/
def State.access (s : State) (w : StoreWord) (walked : Option Nat := none) : State :=
  let n := s.flipsOf w
  if n = 0 then s
  else if n ≤ 2 then (s.cleanWord w).bump 0x7010 (correctedSub w)
  else if n = 3 ∨ Config.eccDetects s.free = true then s.fresh.uncorrectable w walked
  else ((s.cleanWord w).miscorrect w).bump 0x7010 (correctedSub w)

/-- The walk of an object's queue (R429). -/
def State.walkWords (s : State) (i : Nat) : List Waiter → State
  | [] => s
  | w :: ws => (s.access (.waiter w.num) (some i)).walkWords i ws

/-- An op's access to an object: its record, or the four of its group, and its waiters' records. -/
def State.accessObj (s : State) (i : Nat) : State :=
  if s.flips = [] then s
  else
    let j := s.headOf i
    let s1 := (s.access (.object j)).walkWords j (s.queue j)
    if s.wideBit j then ((s1.access (.object (j + 1))).access (.object (j + 2))).access (.object (j + 3)) else s1

end Sys2Proof.Machine
end

