-- ==== Sys2Proof/Machine/Tickets.lean ====
section
/-! DEFINITION. Dispatch tickets (R207 to R219): their layout, the firing of a TRIGGER, delivery to a shim's queue or a
memory ring, the ticket buffer and the overflow ring. -/

namespace Sys2Proof.Machine

/-- The fields of a ticket that its firing fixes (R210). -/
structure TicketFields where
  payload1 : BitVec 64
  payload0 : BitVec 64
  source : Handle
  fireSeq : BitVec 32
  state : BitVec 64
  amount : BitVec 64
  cause : Originator
  kind : BitVec 8
  armed : Bool
  target : TicketTarget
deriving DecidableEq, Repr

/-- The port or ring number of a target, and its target_kind (R204). -/
def TicketTarget.code : TicketTarget → BitVec 7 × BitVec 2
  | .shim p _ => (BitVec.ofNat 7 p, 0)
  | .ring k => (BitVec.ofNat 7 k, 1)

/-- A ticket of partition `p` (R210), with overflow, buffered and slot still zero. -/
def State.ticketData (s : State) (p : Nat) (f : TicketFields) : BitVec 512 :=
  (0 : BitVec 23) ++ f.target.code.2 ++ f.target.code.1 ++ (0 : BitVec 32) ++ (0 : BitVec 5) ++ bit1 f.armed ++
  (0 : BitVec 2) ++ (s.epoch p) ++ (0 : BitVec 4) ++ BitVec.ofNat 4 p ++ f.kind ++ (0 : BitVec 7) ++ f.cause ++
  f.amount ++ f.state ++ s.time ++ f.fireSeq ++ f.source ++ f.payload1 ++ f.payload0

/-- A ticket with its overflow or buffered bit set. -/
def Ticket.mark (t : Ticket) (bit : Nat) : Ticket := { t with data := t.data ||| BitVec.ofNat 512 (2 ^ bit) }
def overflowBit : Nat := 440
def bufferedBit : Nat := 441

/-- A ticket with the producer index at which it is written (R210). -/
def Ticket.atSlot (t : Ticket) (n : Nat) : Ticket := { t with data := t.data ||| BitVec.ofNat 512 (n * 2 ^ 448) }

/-! ### Rings (R213 to R217) -/

/-- A setting of ticket ring `k` of a partition. -/
def State.tring (s : State) (k sub p : Nat) : Nat := s.cfg (0x2400 + k) sub p

/-- The ring's writes that await their response. -/
def State.tringFly (s : State) (k p : Nat) : Nat := s.inFlight .ticket p k

/-- Whether a ring has no room (R213); the tickets whose write is outstanding count (DEDUCED, log entry 6). -/
def State.tringFull (s : State) (k p : Nat) : Bool :=
  decide (2 ^ s.tring k 2 p ≤ (s.tring k 3 p + 2 ^ 32 - s.tring k 4 p) % 2 ^ 32 + s.tringFly k p)

/-- Issues the write of a ticket into a ring. -/
def State.tringWrite (s : State) (k : Nat) (t : Ticket) : State :=
  let p := t.partition
  let n := (s.tring k 3 p + s.tringFly k p) % 2 ^ 32
  let t1 := t.atSlot n
  s.mgrIssue
    { kind := .ticket, partition := p, ring := k, bytes := 64, data := t1.data, ticket := some t
      addr := BitVec.ofNat 64 (s.tring k 1 p + n % 2 ^ s.tring k 2 p * 64) }

/-! ### Delivery (R211, R213, R218) -/

/-- A ticket that finds no room anywhere: it goes to the overflow ring, or it is discarded with a job fault (R218). -/
def State.overflowTicket (s : State) (t : Ticket) : State :=
  let p := t.partition
  let k := s.cfg 0x2404 1 p
  if k = 0xFF ∨ s.tring k 2 p = 0 ∨ s.tringFull k p = true then
    (s.countDiscard t).failOne { cause := 0x17, index := t.object } p
  else (s.tringWrite k (t.mark overflowBit)).pcount 17 p 1

/-- A ticket that waits in its partition's share of the buffer, or overflows. -/
def State.bufferTicket (s : State) (t : Ticket) : State :=
  let mine := (s.bufferedOf t.partition).map Ticket.slot
  match lowestFree (t.partition * s.ticketShare) s.ticketShare mine with
  | some n => { s with buffered := s.buffered ++ [{ t.mark bufferedBit with slot := n }] }
  | none => s.overflowTicket t

/-- A ticket enters a shim's queue (R211). -/
def State.enterQueue (s : State) (port : Nat) (wake : Bool) (t : Ticket) : State :=
  (s.modPort port fun x => { x with tickets := x.tickets ++ [{ data := t.data, wake := wake }] }).act t.partition

/-- Whether a ticket can enter its target now; a ring with no size takes it as if the share were full (R216). -/
inductive Room where
  | enters | waits | never
deriving DecidableEq, Repr

def State.roomFor (s : State) (t : Ticket) : Room :=
  match t.target with
  | .shim p _ => if (s.port p).tickets.length < 16 then .enters else .waits
  | .ring k =>
    if s.tring k 2 t.partition = 0 then .never else if s.tringFull k t.partition then .waits else .enters

/-- Puts a ticket into its target. -/
def State.enterTicket (s : State) (t : Ticket) : State :=
  match t.target with
  | .shim p w => s.enterQueue p w t
  | .ring k => s.tringWrite k t

/-- Two tickets of one target. -/
def Ticket.sameTarget (a b : Ticket) : Bool :=
  match a.target, b.target with
  | .shim p _, .shim q _ => p = q
  | .ring j, .ring k => j = k && a.partition = b.partition
  | _, _ => false

/-- Delivers a new ticket: behind those that already wait for its target (R209, R218). -/
def State.deliverTicket (s : State) (t : Ticket) : State :=
  match s.roomFor t with
  | .never => s.overflowTicket t
  | .enters => if s.buffered.any fun b => b.sameTarget t then s.bufferTicket t else s.enterTicket t
  | .waits => s.bufferTicket t

/-- Works through the buffered tickets in order, each behind those of its target that still wait. -/
def State.drainBuffer (s : State) (kept : List Ticket) : List Ticket → State
  | [] => s
  | t :: ts =>
    if kept.any fun k => k.sameTarget t then s.drainBuffer (t :: kept) ts
    else match s.roomFor t with
      | .enters => (({ s with buffered := s.buffered.erase t } : State).enterTicket t).drainBuffer kept ts
      | .never => (({ s with buffered := s.buffered.erase t } : State).overflowTicket t).drainBuffer kept ts
      | .waits => s.drainBuffer (t :: kept) ts

/-- A buffered ticket enters its target as room frees (R218). -/
def State.drainTickets (s : State) : State := s.drainBuffer [] s.buffered

/-! ### Firing (R207, R208) -/

/-- The target of a TRIG record (R204). -/
def ObjRec.trigTarget (o : ObjRec) : TicketTarget :=
  if o.trigKind = 1 then .ring o.trigRing else .shim o.trigPort o.trigWake

/-- Makes one ticket of an object from its TRIG record, advances fire_seq and delivers the ticket (R207, R210). -/
def State.fireOnce (s : State) (i ti : Nat) (state amount : BitVec 64) (cause : Originator) (kind : BitVec 8)
    (armed : Bool) : State :=
  let t := s.obj ti
  let p := (s.obj i).partition.toNat
  let f : TicketFields :=
    { payload1 := t.word1, payload0 := t.word0, source := mkHandle s.hub i, fireSeq := t.fireSeq, state := state,
      amount := amount, cause := cause, kind := kind, armed := armed, target := t.trigTarget }
  let s1 := s.setObj ti (t.setFireSeq (t.fireSeq + 1))
  let s2 := s1.record { s1.folioOf 5 p with
    originator := cause, handle := mkHandle s.hub i, aux := t.trigTarget.code.1.toNat,
    data := t.fireSeq.setWidth 64 }
  s2.deliverTicket { partition := p, target := t.trigTarget, object := i, data := s.ticketData p f }

/-- The firings that a TOKEN's value covers (R207). -/
def ObjRec.firings (o : ObjRec) : Nat :=
  if o.trig && decide (o.otype = .token) && decide (0 < o.word1.toNat) && decide (Int.ofNat o.word1.toNat ≤ o.amount) then
    (o.amount / Int.ofNat o.word1.toNat).toNat
  else 0

/-- Fires a TOKEN's TRIGGER `n` times, consuming the threshold at each (R207). -/
def State.fireToken (s : State) (i : Nat) (cause : Originator) (armed : Bool) : Nat → State
  | 0 => s
  | n + 1 =>
    let o := s.obj i
    let o1 := o.setAmount (o.amount - Int.ofNat o.word1.toNat)
    ((s.setObj i o1).fireOnce i (trigIndex o i) o1.word0 o.word1 cause 1 armed).fireToken i cause armed n

/-- Fires a BARRIER's TRIGGER at the release of a round (R208). -/
def State.fireBarrier (s : State) (i : Nat) (round : BitVec 28) (cause : Originator) : State :=
  let o := s.obj i
  s.fireOnce i (trigIndex o i) ((0 : BitVec 35) ++ bit1 (round.getLsbD 0) ++ round)
    (if o.isCombining then o.lastResult else 0) cause 2 false

/-- The access to the TRIG record of an object (R425, R426). -/
def State.readTrig (s : State) (i : Nat) : State := s.access (.object (trigIndex (s.obj i) i))

/-- R61: no TRIG record stands behind an armed object but a faulted one; a firing that finds it so follows R80. -/
def State.trigFaulted (s : State) (i : Nat) : Bool := (s.obj i).trig && (s.obj (trigIndex (s.obj i) i)).faulted

end Sys2Proof.Machine
end

