-- ==== Sys2Proof/Machine/Serve.lean ====
section
/-! DEFINITION. The waiter service (R108), the grant of a lock (R106), the opening of loans (R183, R191), and the service
of a ledger entry (R185, R189). -/

namespace Sys2Proof.Machine

/-! ### Locks -/

/-- The setting `sub` of a lock's group (R227). -/
def State.groupCfg (s : State) (g : BitVec 8) (sub : Nat) : Nat := s.cfg (0x4000 + g.toNat) sub

/-- Rhoveter priority mode (R231). -/
def State.prioMode (s : State) (o : ObjRec) : Bool := decide (o.otype = .lock) && s.groupCfg o.group 4 = 1

/-- The LOCK record (R469): granted, freed, force-released, freed by a holder reset. -/
def State.recordLock (s : State) (i : Nat) (how : Nat) (holder : Originator) : State :=
  s.record { s.folioOf 7 (s.obj i).partition.toNat with
    originator := holder, handle := mkHandle s.hub i, aux := how, data := holder.setWidth 64 }

/-- A LOCK taken by an originator (R49, R106). -/
def ObjRec.taken (o : ObjRec) (t : Time) (holder : Originator) (prio : BitVec 4) : ObjRec :=
  o.setLock 0 prio (BitVec.ofNat 32 t.ns) (o.acqCount + 1) true holder

/-- The status of a grant: ABANDONED while the mark is set (R245). -/
def ObjRec.grantStatus (o : ObjRec) : Status := if o.abandoned then .abandoned else .ok

/-! ### Loans at the home -/

/-- The next number of the hub's loan counter (R179); its first value is a free value. -/
def State.nextLoan (s : State) : BitVec 8 := Config.firstSeq 0 + s.loanSeq

/-- R183: whether a TAKE just granted opens a loan to its hub. -/
def State.opensLoan (s : State) (i : Nat) (h : HubId) : Bool :=
  let o := s.obj i
  let p := o.partition.toNat
  o.loanable && h ≠ s.hub && s.reachableAt h 2 && s.cfg 0x2300 1 p ≠ 0 && (s.lenderOf i h).isNone &&
  decide ((s.lenders.filter fun e => e.token = i).length < s.cfg 0x2300 2 p) &&
  !((s.queue i).any Waiter.takes) && decide (0 < o.amount) && decide ((s.lendersOf p).length < s.loanShare)

/-- R183: opens the loan that a TAKE of `n` gives rise to. -/
def State.openLoan (s : State) (i : Nat) (h : HubId) (n : Nat) : State :=
  if s.opensLoan i h then
    let o := s.obj i
    let p := o.partition.toNat
    let g := min (s.cfg 0x2300 1 p * n) o.amount.toNat
    match s.freeNumber (p * s.loanShare) s.loanShare ((s.lendersOf p).map Lender.num) with
    | none => s
    | some num =>
      let seq := s.nextLoan
      let o1 := { o.setAmount (o.amount - Int.ofNat g) with word1 := o.word1 + BitVec.ofNat 64 g }
      let e : Lender := { num := num, state := .opened, borrower := h, token := i, seq := seq, req := false,
                          principal := BitVec.ofNat 64 g }
      let s1 := ({ s.setObj i o1 with lenders := e :: s.lenders, loanSeq := s.loanSeq + 1 } : State).fresh
      s1.sendLoan h p .grant { s.loanBody p seq h (mkHandle s.hub i) with
        opening := true, firstFit := o.firstFit, amountA := BitVec.ofNat 64 g }
  else s

/-- R191: grants a queued loan request. -/
def State.grantLoan (s : State) (i : Nat) (w : Waiter) (e : Lender) : State :=
  let o := s.obj i
  let p := o.partition.toNat
  let g := min o.amount.toNat w.operandB.toNat
  let o1 := { o.setAmount (o.amount - Int.ofNat g) with word1 := o.word1 + BitVec.ofNat 64 g }
  let s1 := ((s.setObj i o1).setLender { e with principal := e.principal + BitVec.ofNat 64 g, req := false })
  (s1.freeWaiter w).sendLoan e.borrower p .grant
    { s.loanBody p e.seq e.borrower (mkHandle s.hub i) with amountA := BitVec.ofNat 64 g }

/-! ### R108 -/

/-- Grants a queued TAKE, and opens the loan that follows from it. -/
def State.grantTake (s : State) (i : Nat) (w : Waiter) : State :=
  let o := s.obj i
  let s1 := s.setObj i (o.setAmount (o.amount - Int.ofNat w.operand.toNat))
  ((s1.grant w .ok (s1.waitTime w.stamp) 0).openLoan i (origHub w.originator) w.operand.toNat)

/-- Serves the waiters of an object in queue order (R108). `held` says that a TAKE that cannot be covered holds back the
later ones; the count of grants goes with the state. A loan request of an entry that is not OPEN is granted nothing
(R193). -/
def State.serveList (s : State) (i : Nat) (held : Bool) (n : Nat) : List Waiter → State × Nat
  | [] => (s, n)
  | w :: ws =>
    let o := s.obj i
    match o.otype with
    | .event =>
      if o.isSet then
        let s1 := s.grant w .ok (s.waitTime w.stamp) 0
        if o.auto then (s1.setObj i ((s1.obj i).withSet false), n + 1) else s1.serveList i held (n + 1) ws
      else s.serveList i held n ws
    | .lock =>
      if o.held then (s, n)
      else
        let s1 := (s.setObj i (o.taken s.time w.originator w.prio)).recordLock i 0 w.originator
        (s1.grant w o.grantStatus (s1.waitTime w.stamp) 0, n + 1)
    | .token | .sem =>
      let strict := decide (o.otype = .sem) || !o.firstFit
      if w.takes then
        if held then s.serveList i held n ws
        else if Int.ofNat w.operand.toNat ≤ o.amount then
          if w.kind = .loanReq then
            match s.lenderOf i (origHub w.originator) with
            | some e =>
              if e.state = .opened then (s.grantLoan i w e).serveList i held (n + 1) ws
              else s.serveList i strict n ws
            | none => s.serveList i strict n ws
          else (s.grantTake i w).serveList i held (n + 1) ws
        else s.serveList i strict n ws
      else if o.operandInt w.operand ≤ o.amount then
        (s.grant w .ok (s.waitTime w.stamp) 0).serveList i held (n + 1) ws
      else s.serveList i held n ws
    | _ => (s, n)

/-- R108: serves an object; the number of waiters granted goes with the state. -/
def State.serveCount (s : State) (i : Nat) : State × Nat := s.serveList i false 0 (s.queue i)

/-- R108: serves an object. -/
def State.serve (s : State) (i : Nat) : State := (s.serveCount i).1

/-! ### The borrower's side -/

/-- The valid ledger entry of a partition for a token (R180, R185). -/
def State.ledgerOf (s : State) (p : Nat) (token : Handle) : Option Ledger :=
  s.ledgers.find? fun e => e.partition.toNat = p && e.token = token

/-- Grants a TAKE from a ledger entry (R185). -/
def State.grantLedger (s : State) (e : Ledger) (w : Waiter) : State :=
  (s.setLedger { e with balance := e.balance - w.operand, spent := e.spent + w.operand, idleSince := s.clock }).grant w
    .ok (s.waitTime w.stamp) 0

/-- Serves the waiters of ledger entry `num` in queue order, in the token's mode (R185). -/
def State.serveEntry (s : State) (num : Nat) (held : Bool) : List Waiter → State
  | [] => s
  | w :: ws =>
    match s.ledgers.find? fun e => e.num = num with
    | none => s
    | some e =>
      if held then s
      else if w.operand.toNat ≤ e.balance.toNat then (s.grantLedger e w).serveEntry num held ws
      else s.serveEntry num (!e.firstFit) ws

/-- R259: the stamp that a LOAN_REQ carries for an aged waiter. -/
def State.agedStamp (s : State) : Stamp := s.time.stamp - 0x500000

/-- R189: asks for a top-up if the oldest waiter is not covered and no request is out. -/
def State.topUp (s : State) (num : Nat) : State :=
  match s.ledgers.find? fun e => e.num = num, (s.ledgerQueue num).head? with
  | some e, some w =>
    if e.req = false ∧ e.balance.toNat < w.operand.toNat then
      let p := e.partition.toNat
      let short := w.operand.toNat - e.balance.toNat
      let target := max short (s.cfg 0x2300 1 p * w.operand.toNat - e.balance.toNat)
      (s.setLedger { e with req := true }).sendLoan (handleHub e.token) p .req
        { s.loanBody p e.seq s.hub e.token with
          stamp := if w.aged then s.agedStamp else w.stamp
          amountA := BitVec.ofNat 64 short
          amountB := BitVec.ofNat 64 target }
    else s
  | _, _ => s

/-- The borrower's service after a change that may satisfy a waiter of the entry (R185, R189). -/
def State.serveLedger (s : State) (num : Nat) : State := (s.serveEntry num false (s.ledgerQueue num)).topUp num

/-- R108's service of what a removed waiter was queued on: its object, or its ledger entry. -/
def State.serveAfter (s : State) (w : Waiter) : State :=
  if w.kind = .ledger then s.serveLedger w.object else s.serve w.object

end Sys2Proof.Machine
end

