-- ==== Sys2Proof/Machine/Objects.lean ====
section
/-! DEFINITION. Ops at their home, apart from barriers and locks: the Selvedge checks (R402 to R404), the common checks of
R105, and the effects of SIG, SET, CLR, WAIT, TAKE, TRYTAKE, FADD, SWAP, CAS, READ, ARM and DISARM (R106, R107, R110). -/

namespace Sys2Proof.Machine

/-! ### Checks 7 and 8 of R105 -/

/-- Why the Selvedge refuses (R402): the status, and whether it counts as a refusal or as stale. -/
inductive Selvedge where
  | pass | rights | resetting | stale | newer | reslice
deriving DecidableEq, Repr

def Selvedge.status : Selvedge → Status
  | .rights => .rights
  | .reslice => .reslicePending
  | _ => .partitionReset

/-- R402: the checks of partition `p` and epoch `e` against index `i`; `gated` marks blocking ops and INIT, and
`inReset` a message that a reset in progress lets through (R403). -/
def State.selvedge (s : State) (p : Nat) (e : BitVec 8) (i : Nat) (gated inReset : Bool) : Selvedge :=
  if s.partCount ≤ p then .rights
  else if s.resetting p && !inReset then .resetting
  else match epochCheck (s.epoch p) e with
    | some true => .stale
    | some false => .newer
    | none =>
      if gated && s.reslicing p then .reslice
      else if !s.inShare p i then .rights
      else
        let o := s.obj (s.headOf i)
        if o.otype ≠ .none ∧ o.partition.toNat ≠ p then .rights else .pass

/-- The counts of R402 and R404. -/
def State.countSelvedge (s : State) (p : Nat) (v : Selvedge) : State :=
  match v with
  | .rights => s.bump 0x3010 17 (if p < s.partCount then p else 0)
  | .stale => s.bump 0x3010 16 p
  | _ => s

/-- Whether an op is blocking or INIT (R401, R402). -/
def codeGated (c : BitVec 6) : Bool := codeBlocks c || c = opCode .init

/-- Whether the record that an op names holds an error mark: the header of its group (R80). -/
def State.objFaulted (s : State) (i : Nat) : Bool := (s.obj (s.headOf i)).faulted

/-- R52: the index of a body record of a wide object. -/
def State.isBody (s : State) (i : Nat) : Bool := s.wideBit i && decide (i % 4 ≠ 0)

/-! ### Changing a record -/

/-- Sets last_orig and last_time (R38). -/
def ObjRec.by (r : ObjRec) (o : HomeOp) : ObjRec := { r with lastOrig := o.originator, lastTime := o.entered }

/-- Writes the record of an op's object. -/
def State.write (s : State) (o : HomeOp) (r : ObjRec) : State := s.setObj o.index (r.by o)

/-- Queues a blocking op on its object in a record of its partition's share, or completes it with OVERRUN (R112). -/
def State.queueOn? (s : State) (o : HomeOp) (operand : BitVec 64) : State :=
  let r := s.obj o.index
  let w := s.waiterFor .queued o.index o operand (o.retref.setWidth 64)
  match s.addWaiter (s.prioMode r) o.partition w with
  | some s1 => s1.recordOp o .ok 0
  | none => (s.exhausted o.partition).finish o .overrun 0 0

/-! ### Events -/

/-- SIG and SET on an EVENT (R106). -/
def State.signalEvent (s : State) (o : HomeOp) : State :=
  let r := (s.obj o.index).countSig.withSet true
  let s1 := ((s.reach12 o).write o r).serveCount o.index
  s1.1.finish o .ok (satResult 16 s1.2) 0

/-- R288: an event input in level mode holds its EVENT set while the level it applied is active. -/
def State.levelHolds (s : State) (i : Nat) : Bool :=
  (numsFrom 0 16).any fun k =>
    s.cfg (0x2600 + k) 1 ≠ 0 && s.cfg (0x2600 + k) 2 = 1 && (s.ev k).applied &&
    s.translate (s.cfg (0x2600 + k) 4) (BitVec.ofNat 32 (s.cfg (0x2600 + k) 5)) = some (mkHandle s.hub i)

/-- CLR on an EVENT (R106, R288). -/
def State.clearEvent (s : State) (o : HomeOp) : State :=
  let r := s.obj o.index
  let s1 := s.reach12 o
  (if s.levelHolds o.index then s1 else s1.write o (r.withSet false)).finish o .ok 0 0

/-! ### Tokens and semaphores -/

/-- R44: the byte counter of a TOKEN's class. -/
def State.countBytes (s : State) (r : ObjRec) (n : Nat) : State :=
  if decide (r.otype = .token) && decide (1 ≤ r.tokenClass ∧ r.tokenClass ≤ 4) then
    s.pcount r.tokenClass r.partition.toNat n
  else s

/-- A change of a TOKEN or SEM to value `v`: its TRIGGER fires, then its waiters are served (R207). The firings are
bounded, and a firing that finds its TRIG record faulted fails the op and the object (R80). -/
def State.changeAmount (s : State) (o : HomeOp) (v : Int) (count : Bool) (old : BitVec 64) (result : Nat → Nat) : State :=
  let r := s.obj o.index
  let r1 := (r.setAmount v).by o
  let n := r1.firings
  let s0 := if n = 0 then s.reach12 o else (s.reach12 o).readTrig o.index
  if 0 < n ∧ s0.trigFaulted o.index = true then (s0.markFaulted o.index).conclude o .jobFault 0 0
  else if 65535 < n then s0.finish o .overrun 0 0
  else
    let s1 := if count then s0.countBytes r o.op.operand.toNat else s0
    let s2 := ((s1.setObj o.index r1).fireToken o.index o.originator false n).serveCount o.index
    s2.1.finish o .ok (result s2.2) old

/-- SIG on a TOKEN or SEM (R106, R47). -/
def State.signalAmount (s : State) (o : HomeOp) : State :=
  let r := s.obj o.index
  let v := r.amount + Int.ofNat o.op.operand.toNat
  if o.op.operand.getLsbD 63 then s.refuse o .badHandle
  else if r.inRange v then s.changeAmount o v true 0 (satResult 16)
  else (s.reach12 o).finish o .overrun 0 0

/-- The result of CAS. -/
def noResult (_ : Nat) : Nat := 0
def casResult (_ : Nat) : Nat := 1

/-- FADD, SWAP and CAS (R106, R107). -/
def State.addAmount (s : State) (o : HomeOp) : State :=
  let r := s.obj o.index
  let v := r.amount + o.op.operand.toInt
  if r.loanable then (s.reach12 o).finish o .rights 0 0
  else if r.inRange v then s.changeAmount o v false r.word0 noResult
  else (s.reach12 o).finish o .overrun 0 0

def State.swapAmount (s : State) (o : HomeOp) : State :=
  let r := s.obj o.index
  let v := r.operandInt o.op.operand
  if r.loanable then (s.reach12 o).finish o .rights 0 0
  else if r.inRange v then s.changeAmount o v false r.word0 noResult
  else (s.reach12 o).finish o .overrun 0 0

def State.casAmount (s : State) (o : HomeOp) : State :=
  let r := s.obj o.index
  let v := r.operandInt o.op.opb
  if r.loanable then (s.reach12 o).finish o .rights 0 0
  else if r.word0 ≠ o.op.operand then (s.reach12 o).finish o .ok 0 r.word0
  else if r.inRange v then s.changeAmount o v false r.word0 casResult
  else (s.reach12 o).finish o .overrun 0 0

/-- Whether a TAKE that arrives now would be granted (R108): the value covers it, and in strict order no TAKE stays
ahead of it. -/
def State.takeFits (s : State) (o : HomeOp) : Bool :=
  let r := s.obj o.index
  let w := s.waiterFor .queued o.index o o.op.operand 0
  let ahead := (s.queue o.index).filter fun q => !w.goesAhead false q
  decide (Int.ofNat o.op.operand.toNat ≤ r.amount) && (r.firstFit || !(ahead.any Waiter.takes))

/-- R106: the operand of TAKE and TRYTAKE must lie in 1 to 2^63 - 1. -/
def takeOperandOk (n : BitVec 64) : Bool := decide (n ≠ 0) && !n.getLsbD 63

/-- A TAKE or TRYTAKE that is granted on its arrival (R106), with the loan that follows (R183). -/
def State.takeNow (s : State) (o : HomeOp) (result : Nat) : State :=
  let r := s.obj o.index
  let s1 := s.write o (r.setAmount (r.amount - Int.ofNat o.op.operand.toNat))
  ((s1.countGrant o).finish o .ok result 0).openLoan o.index (origHub o.originator) o.op.operand.toNat

/-- TAKE (R106). -/
def State.takeAmount (s : State) (o : HomeOp) : State :=
  if !takeOperandOk o.op.operand then s.refuse o .badHandle
  else
    let s1 := s.reach12 o
    if s.takeFits o then s1.takeNow o (s.waitTime o.stamp) else s1.queueOn? o o.op.operand

/-- TRYTAKE (R106, R108): in strict order any TAKE queued makes it WOULD_BLOCK. -/
def State.tryTakeAmount (s : State) (o : HomeOp) : State :=
  if !takeOperandOk o.op.operand then s.refuse o .badHandle
  else
    let s1 := s.reach12 o
    if s.takeFits o && ((s.obj o.index).firstFit || !((s.queue o.index).any Waiter.takes)) then s1.takeNow o 0
    else s1.finish o .wouldBlock 0 0

/-- WAIT on a TOKEN or SEM, and on an EVENT (R106). -/
def State.waitAmount (s : State) (o : HomeOp) : State :=
  let r := s.obj o.index
  let s1 := s.reach12 o
  if r.operandInt o.op.operand ≤ r.amount then (s1.countGrant o).finish o .ok (s.waitTime o.stamp) 0
  else s1.queueOn? o o.op.operand

def State.waitEvent (s : State) (o : HomeOp) : State :=
  let r := s.obj o.index
  let s1 := s.reach12 o
  if r.isSet then
    let s2 := if r.auto then s1.write o (r.withSet false) else s1
    (s2.countGrant o).finish o .ok (s.waitTime o.stamp) 0
  else s1.queueOn? o o.op.operand

/-! ### READ, ARM, DISARM -/

/-- The value that READ's selection returns (R110); `none` where the table says refused. -/
def State.readWord (s : State) (i : Nat) (sel : BitVec 2) : Option (BitVec 64) :=
  let r := s.obj i
  if sel = 0 then some r.word0
  else if sel = 1 then
    some (if r.otype = .lock then (getFld r.hi 35 16 : BitVec 16) ++ (0 : BitVec 16) ++ r.grantTime else r.word1)
  else if sel = 2 then some (s.summary i r)
  else if decide (r.otype = .barrier) && r.isCombining then some r.lastResult
  else none

/-- READ (R106, R110). -/
def State.readObj (s : State) (o : HomeOp) : State :=
  match s.readWord o.index (getFld o.op.operand 0 2) with
  | some v => (s.reach12 o).finish o .ok 0 v
  | none => s.refuse o .badHandle

/-- R59: the paired index holds a TRIG record of the object's own partition. -/
def State.pairOk (s : State) (r : ObjRec) (i : Nat) : Bool :=
  let j := trigIndex r i
  decide (j < 131072) && !s.isBody j && decide ((s.obj j).otype = .trig) && (s.obj j).partition = r.partition

/-- ARM (R59, R106, R207). -/
def State.armObj (s : State) (o : HomeOp) : State :=
  let r := s.obj o.index
  let s0 := (s.reach12 o).readTrig o.index
  let tok := decide (r.otype = .token)
  let r1 := ({ r with trig := true, word1 := if tok ∧ o.op.operand ≠ 0 then o.op.operand else r.word1 }).by o
  if r.loanable then s0.finish o .rights 0 0
  else if !s0.pairOk r o.index then s0.finish o .badHandle 0 0
  else if (s0.obj (trigIndex r o.index)).faulted then s0.finish o .jobFault 0 0
  else if tok && decide (r1.word1 = 0) then s0.finish o .badHandle 0 0
  else if 65535 < r1.firings then s0.finish o .overrun 0 0
  else
    let s1 := (s0.setObj o.index r1).fireToken o.index o.originator true r1.firings
    (s1.serve o.index).finish o .ok 0 0

/-- DISARM (R60, R106). -/
def State.disarmObj (s : State) (o : HomeOp) : State :=
  ((s.reach12 o).write o { s.obj o.index with trig := false }).finish o .ok 0 0

end Sys2Proof.Machine
end

