-- ==== Sys2Proof/Machine/Shelf.lean ====
section
/-! DEFINITION. Shelves (R459 to R462): the image, the latch and the failure of an arming. -/

namespace Sys2Proof.Machine

def Part.shelf (x : Part) (k : Nat) : Shelf := if k = 0 then x.shelf0 else x.shelf1
def Part.setShelf (x : Part) (k : Nat) (h : Shelf) : Part := if k = 0 then { x with shelf0 := h } else { x with shelf1 := h }
def State.shelf (s : State) (p k : Nat) : Shelf := (s.part p).shelf k
def State.setShelf (s : State) (p k : Nat) (h : Shelf) : State := s.modPart p fun x => x.setShelf k h

/-- The counters of an image, in its order (R459). -/
def State.shelfCounters (s : State) (p : Nat) : List (BitVec 64) :=
  ((numsFrom 1 20).map fun k => BitVec.ofNat 64 (s.cfg 0x6000 k p)) ++
  ((numsFrom 1 16).map fun k => BitVec.ofNat 64 (s.cfg 0x6001 k p)) ++
  ((numsFrom 1 16).map fun k => BitVec.ofNat 64 (s.cfg 0x6002 k p))

/-- The 448 bytes of an image (R459), lowest bits first: zero until the shelf latches or fails (R460, R466). -/
def Shelf.image (h : Shelf) (k : Nat) : Nat :=
  let head := packNat [⟨0, 64, h.latches.toNat⟩, ⟨64, 64, h.latchTime.toNat⟩, ⟨128, 28, h.round.toNat⟩,
    ⟨156, 1, bitNat h.mode⟩, ⟨157, 1, k⟩, ⟨158, 3, h.status.toNat⟩]
  if h.state = .latched ∨ h.state = .failed then
    head + 2 ^ 256 * (h.counters.foldr (fun c n => c.toNat + 2 ^ 64 * n) 0)
  else 0

/-- Sends SHELF_DONE to the hub that asked for an arming, if one did (R462). -/
def State.shelfDone (s : State) (p k : Nat) (h : Shelf) : State :=
  match h.asker with
  | some (dst, seq) =>
    s.send { hdr := s.hdrTo dst p
             body := .shelf .done { shelf := k = 1, mode := h.mode, seq := seq, status := h.status, index := h.armIndex,
                                    round := h.armRound, time := h.armTime } }
  | none => s

/-- A shelf latches (R460): every counter of its image in one step. -/
def State.latchShelf (s : State) (p k : Nat) (round : BitVec 28) : State :=
  let h := s.shelf p k
  let h1 := { h with
    state := .latched, status := 0, latches := h.latches + 1, latchTime := s.time, round := round,
    counters := s.shelfCounters p, asker := none, generation := h.generation + 1 }
  let s1 := (s.setShelf p k h1).record { s.folioOf 0x14 p with aux := k, data := h1.latches }
  let s2 := if s.cfg 0x6020 6 p = 0 then s1 else
    s1.notifyRing p 6 p (pack 96 [⟨92, 4, 3⟩, ⟨91, 1, k⟩, ⟨90, 1, bitNat h.mode⟩, ⟨58, 32, h1.latches.toNat⟩])
  s2.shelfDone p k { h with status := 0 }

/-- An arming fails (R461). -/
def State.failShelf (s : State) (p k : Nat) (status : BitVec 3) : State :=
  let h := s.shelf p k
  (s.setShelf p k { h with state := .failed, status := status, asker := none }).shelfDone p k { h with status := status }

/-- R460: the shelves armed on the release of a round of a barrier latch. -/
def State.shelvesAt (s : State) (p rel : Nat) (round : BitVec 28) : State :=
  s.each (fun s k =>
    let h := s.shelf p k
    if h.state = .armed ∧ h.mode = true ∧ h.armIndex.toNat = rel ∧ h.armRound = round then s.latchShelf p k round
    else s) [0, 1]

end Sys2Proof.Machine
end

