-- ==== Sys2Proof/Machine/Barriers.lean ====
section
/-! DEFINITION. Barriers (R138 to R159): arrivals, completion and release, trees, breaking, and the Deposit rules that a
completion evaluates (R483 to R486). -/

namespace Sys2Proof.Machine

/-! ### Deposit (R484 to R486) -/

/-- The ticket target that a Deposit rule names (R487). -/
def depositTarget (t : BitVec 16) : TicketTarget :=
  if (getFld t 14 2 : BitVec 2) = 1 then .ring (getFld t 5 2).toNat else .shim (getFld t 7 7).toNat (t.getLsbD 4)

/-- Whether rule `d` of partition `p` names the barrier at index `i`. -/
def State.depositNames (s : State) (p i : Nat) (d : Deposit) : Bool :=
  s.translate p d.barrier = some (mkHandle s.hub i)

/-- R484: whether an enabled rule matches a round. -/
def Deposit.fires (d : Deposit) (round : BitVec 28) : Bool :=
  let n := (round - d.round).toNat
  n = 0 || (decide (d.period ≠ 0) && decide (n < 2 ^ 27) && n % d.period.toNat = 0)

/-- The DEPOSIT record (R469). -/
def State.recordDeposit (s : State) (p k how i : Nat) (d : Deposit) : State :=
  s.record { s.folioOf 0x12 p with handle := mkHandle s.hub i, aux := k + 8 * how, data := d.tensor }

/-- A matching rule makes its dump ticket (R484, R486), and waits if its hold flag is set (R485). A rule that already holds
a release holds no second one (DESIGN CHOICE, log entry 19). -/
def State.dumpTicket (s : State) (p i k : Nat) (cause : Originator) : State :=
  let d := (s.part p).deposit k
  let o := s.obj i
  let t := depositTarget d.target
  let f : TicketFields :=
    { payload1 := d.aux, payload0 := d.tensor, source := mkHandle s.hub i, fireSeq := d.count
      state := (0 : BitVec 32) ++ BitVec.ofNat 3 k ++ bit1 o.sense ++ o.round
      amount := if o.isCombining then o.lastResult else 0
      cause := cause, kind := 3, armed := false, target := t }
  let d1 := { d with count := s.next32 d.count, enable := d.enable && decide (d.period ≠ 0), waiting := d.hold,
                     index := if d.waiting then d.index else i, since := s.clock, cause := cause }
  let s1 := ((s.count32 d.count).deliverTicket { partition := p, target := t, object := i, data := s.ticketData p f })
  (s1.modPart p fun x => x.setDeposit k d1).recordDeposit p k 0 i d

/-- Evaluates every rule for the round that has completed, in rule order (R484). -/
def State.runDeposits (s : State) (i : Nat) (cause : Originator) : State :=
  let o := s.obj i
  let p := o.partition.toNat
  s.each (fun s k =>
    let d := (s.part p).deposit k
    if d.enable && s.depositNames p i d && d.fires o.round then s.dumpTicket p i k cause else s) (numsFrom 0 8)

/-- R485: some rule holds the release of the barrier at index `i`. -/
def State.depositHolds (s : State) (i : Nat) : Bool :=
  let p := (s.obj i).partition.toNat
  (numsFrom 0 8).any fun k => ((s.part p).deposit k).waiting && decide (((s.part p).deposit k).index = i)

/-- Ends the holds on a barrier that is no more (INIT, Sweep). -/
def State.dropHolds (s : State) (p i : Nat) : State :=
  s.each (fun s k =>
    let d := (s.part p).deposit k
    if d.waiting && decide (d.index = i) then s.modPart p fun x => x.setDeposit k { d with waiting := false } else s)
    (numsFrom 0 8)

/-! ### Breaking and forwarding -/

/-- The partial arrival record of a completed round, or a broken arrival (R152). -/
def State.partialOf (s : State) (i : Nat) (broken : Bool) : PartialArrival :=
  let o := s.obj i
  let c := o.isCombining && !broken
  { child := mkHandle s.hub i, parent := o.parent, oper := if o.isCombining then o.oper else 0
    format := if o.isCombining then o.format else 0, sense := o.sense, broken := broken
    depth := if broken then 0 else o.depth
    flags := if c && decide (o.oper = 0xB) then o.flagsCur else 0
    count := if c then BitVec.ofNat 44 o.combCount else 0
    comb := c, acc := if c then o.accCur else 0 }

/-- Sends the arrival of a child, or a broken one, to its parent (R151, R157). A broken arrival is not sent over a
level-1 route. The result is `some` status where the arrival ends at this hub instead. -/
def State.forward (s : State) (i : Nat) (broken : Bool) : State × Option Status :=
  let o := s.obj i
  let p := o.partition.toNat
  let dst := handleHub o.parent
  if dst ≠ s.hub ∧ s.reachable dst = true ∧ s.routeLevel dst = 1 then
    if broken then (s, none)
    else if o.isCombining then (s, some .localOnly)
    else (s.send { hdr := s.hdrTo dst p, body := .op (w1Arrival o.parent o.sense (s.orig 0) (s.epoch p) s.time.stamp) }, none)
  else if !broken && decide (o.depth = 0) then (s, some .badHandle)
  else
    (s.send { hdr := s.hdrTo dst p
              body := .fwdArrv { arrival := s.partialOf i broken, stamp := s.time.stamp, aged := false,
                                 epoch := s.epoch p, originator := s.orig 0 } }, none)

/-- The waiters that a break releases: all of them, but for those of a completed round whose release a Deposit rule
holds (R85, R485). -/
def State.breakable (s : State) (i : Nat) : List Waiter :=
  let o := s.obj i
  if s.depositHolds i then
    (s.queue i).filter fun w => !((w.kind = .queued || w.kind = .fwdArrv) && (getFld w.operand 0 28 : BitVec 28) = o.round)
  else s.queue i

/-- R85: the barrier goes BROKEN. -/
def State.breakBarrier (s : State) (i : Nat) : State :=
  let o := s.obj i
  if o.broken then s
  else
    let ws := s.breakable i
    let s1 := (s.setObj i { o with broken := true }).endWaiters .participantLost ws
    if o.hasParent then (s1.forward i true).1 else s1

/-- R154: a child breaks because its forwarded arrival ended with a status other than OK and PARTICIPANT_LOST. -/
def State.treeBreak (s : State) (i : Nat) (st : Nat) : State :=
  (s.record { s.folioOf 0x0E (s.obj i).partition.toNat with handle := mkHandle s.hub i, data := BitVec.ofNat 64 st }).breakBarrier i

/-- The completed round of a child goes to its parent. -/
def State.forwardRound (s : State) (i : Nat) : State :=
  match s.forward i false with
  | (s1, some st) => s1.treeBreak i st.code
  | (s1, none) => s1

/-! ### Release (R147) -/

/-- Step 3 of R147: grants the waiters of round `r`. -/
def State.grantRound (s : State) (r : BitVec 28) (v : BitVec 64) : List Waiter → State
  | [] => s
  | w :: ws =>
    if (w.kind = .queued ∨ w.kind = .fwdArrv) ∧ (getFld w.operand 0 28 : BitVec 28) = r then
      (s.grant w .ok (r.toNat + 2 ^ 28 * bitNat (r.getLsbD 0)) v).grantRound r v ws
    else s.grantRound r v ws

/-- Step 4 of R147: the next round moves in. -/
def ObjRec.moveIn (o : ObjRec) : ObjRec :=
  let o1 := { o.setArrivals o.nextArrivals 0 with depth := 1 }
  if o.isCombining then o1.setAccs o.nextArrivals o.next (accIdentity o.oper) o.lastResult else o1

/-- A slot's bit set to a sense (R55). -/
def ObjRec.setSlot (o : ObjRec) (n : Nat) (b : Bool) : ObjRec :=
  { o with body := if b then o.body ||| BitVec.ofNat 768 (2 ^ n) else o.body &&& ~~~(BitVec.ofNat 768 (2 ^ n)) }

/-- Step 5 of R147: performs the parked records of a registered barrier. -/
def State.performParked (s : State) (i : Nat) : List Waiter → State
  | [] => s
  | w :: ws =>
    let o := s.obj i
    let slot := (getFld w.operand 0 10).toNat
    let s1 := s.setObj i (o.setSlot slot o.sense)
    match w.kind with
    | .parkedArrv => (s1.freeWaiter w).performParked i ws
    | .parkedArrw =>
      ({ s1 with waiters := s1.waiters.map fun q =>
          if q.num = w.num then { q with kind := .queued, operand := o.round.setWidth 64 } else q } : State).performParked i ws
    | _ => s.performParked i ws

/-- Step 6 of R147, and R80 where the TRIG record is faulted. -/
def State.releaseFire (s : State) (i : Nat) (r : BitVec 28) (cause : Originator) : State :=
  let o := s.obj i
  if o.trig && !o.broken then
    let s1 := s.readTrig i
    if s1.trigFaulted i then s1.markFaulted i else s1.fireBarrier i r cause
  else s

/-- The RELEASE record (R469). -/
def State.recordRelease (s : State) (i : Nat) (r : BitVec 28) : State :=
  s.record { s.folioOf 6 (s.obj i).partition.toNat with
    handle := mkHandle s.hub i, aux := bitNat (r.getLsbD 0), data := r.setWidth 64 }

/-- Steps 2 to 6 of R147. -/
def State.releaseSteps (s : State) (i : Nat) (cause : Originator) : State :=
  let o := s.obj i
  let r := o.round
  let p := o.partition.toNat
  let s1 := (s.setObj i (o.setRound (r + 1))).shelvesAt p (i - s.shareBase p) r
  let s2 := (s1.recordRelease i r).grantRound r (if o.isCombining then o.lastResult else 0) (s1.queue i)
  let s3 := s2.setObj i (s2.obj i).moveIn
  let s4 := if o.isRegistered then s3.performParked i (s3.queue i) else s3
  s4.releaseFire i r cause

/-- Step 1 of R147: forms the result, from the accumulator or from the parent's grant. -/
def State.formResult (s : State) (i : Nat) (fromParent : Option (BitVec 64)) : State :=
  let o := s.obj i
  if o.isCombining then
    s.setObj i (o.setAccs o.combCount o.cur o.next (fromParent.getD (accResult o.oper o.cur)))
  else s

/-- Whether a barrier's current round is complete and the barrier is whole. -/
def ObjRec.complete (o : ObjRec) : Bool :=
  decide (o.otype = .barrier) && !o.faulted && !o.broken && decide (o.arrivals = o.expected)

/-- R147 from step 2, and step 7: a next round that is complete is released too, or forwarded. No round after that one
can be complete, since nothing is parked for it. -/
def State.releaseOn (s : State) (i : Nat) (cause : Originator) : State :=
  let s1 := s.releaseSteps i cause
  let o := s1.obj i
  if o.complete then
    if o.hasParent then s1.forwardRound i
    else
      let s2 := (s1.formResult i none).runDeposits i cause
      if s2.depositHolds i then s2 else s2.releaseSteps i cause
  else s1

/-- R147: performs the release of a completed round, unless a Deposit rule holds it (R485). -/
def State.release (s : State) (i : Nat) (fromParent : Option (BitVec 64)) (cause : Originator) : State :=
  let s1 := (s.formResult i fromParent).runDeposits i cause
  if s1.depositHolds i then s1 else s1.releaseOn i cause

/-- A round has completed (R147, R151). -/
def State.complete (s : State) (i : Nat) (cause : Originator) : State :=
  if (s.obj i).hasParent then s.forwardRound i else s.release i none cause

/-- Ends one rule's hold, and the release goes on when no rule holds it any more (R485). -/
def State.endHold (s : State) (p k : Nat) : State :=
  let d := (s.part p).deposit k
  let s1 := s.modPart p fun x => x.setDeposit k { d with waiting := false }
  let i := d.index
  let o := s.obj i
  if d.waiting = true ∧ o.otype = .barrier ∧ o.faulted = false ∧ o.arrivals = o.expected ∧ s1.depositHolds i = false then
    s1.releaseOn i d.cause
  else s1

/-! ### Arrivals at their home -/

/-- A child awaits its parent's grant (R151, R154). -/
def State.awaitsGrant (s : State) (i : Nat) : Bool := (s.obj i).complete && (s.obj i).hasParent && !s.depositHolds i

/-- R154: the status of a forwarded arrival has reached the child. -/
def State.childGrant (s : State) (i : Nat) (st : Nat) (v : BitVec 64) : State :=
  if st = 0 then s.release i (some v) (s.orig 0)
  else if st = 6 then s.breakBarrier i
  else s.treeBreak i st

/-- A posted arrival that check 9 or the barrier's own rules refuse breaks the barrier (R140). -/
def State.breakPosted (s : State) (o : HomeOp) : State :=
  if o.op.flags.noresp && decide ((s.obj o.index).otype = .barrier) then s.breakBarrier o.index else s

/-- Check 9 of an arrival: keying and the operand (R97, R98, R161). -/
def arrivalOperandsOk (o : HomeOp) (r : ObjRec) : Bool :=
  (if o.op.flags.x2 then keyMatches o.op.opb r
   else !(r.isCombining && (r.oper = 0xA || r.oper = 0xB))) &&
  !(r.isCombining && contributionBad r.oper r.format o.op.operand)

/-- How an arrival counts (R141, R144). -/
inductive ArrivalWay where
  | now | park | overrun | rights
deriving DecidableEq, Repr

/-- R55, R143: the slot of an arrival at a registered barrier. -/
def State.arrivalSlot (s : State) (o : HomeOp) (r : ObjRec) : Option Nat :=
  if o.source = srcPort ∧ origHub o.originator = s.hub then
    r.slotOf (getFld o.originator 3 7).toNat (getFld o.originator 0 3).toNat
  else none

/-- R141, R144: decides an arrival. -/
def State.arrivalWay (s : State) (o : HomeOp) (r : ObjRec) : ArrivalWay :=
  let same := o.op.flags.sense == r.sense
  if r.isRegistered then
    match s.arrivalSlot o r with
    | none => .rights
    | some n =>
      let arrived := r.body.getLsbD n == r.sense
      if same then if arrived then .overrun else .now
      else if !arrived then .overrun
      else if (s.queue o.index).any fun w =>
          (w.kind = .parkedArrv || w.kind = .parkedArrw) && (getFld w.operand 0 10).toNat = n then .overrun
      else .park
  else if r.isCombining && decide (2 ^ 43 < r.combCount + 1) then .overrun
  else if same then if r.arrivals = r.expected then .overrun else .now
  else if r.nextArrivals = r.expected then .overrun else .park

/-- The record after an arrival (R141, R144, R164). -/
def State.countArrival (s : State) (o : HomeOp) (r : ObjRec) (way : ArrivalWay) : ObjRec :=
  let c := contribution r.oper r.format o.op.operand
  match way with
  | .now =>
    let r1 := r.setArrivals (r.arrivals + 1) r.nextArrivals
    let r2 := if r.isCombining then r1.setAccs (r.combCount + 1) (accMerge r.oper r.cur c) r.next r.lastResult else r1
    if r.isRegistered then r2.setSlot ((s.arrivalSlot o r).getD 0) r.sense else r2
  | .park =>
    let r1 := r.setArrivals r.arrivals (r.nextArrivals + 1)
    if r.isCombining then r1.setAccs r.combCount r.cur (accMerge r.oper r.next c) r.lastResult else r1
  | _ => r

/-- R102: the result of an arrival. -/
def arrivalResult (r : ObjRec) (parked : Bool) : Nat :=
  let n : BitVec 28 := if parked then r.round + 1 else r.round
  n.toNat + 2 ^ 28 * bitNat (n.getLsbD 0) + 2 ^ 29 * bitNat parked

/-- The waiter record that an arrival needs, if it needs one (R142, R145). -/
def State.arrivalWaiter (s : State) (o : HomeOp) (r : ObjRec) (way : ArrivalWay) (wait : Bool) : Option Waiter :=
  let slot := BitVec.ofNat 64 ((s.arrivalSlot o r).getD 0)
  if way = .park ∧ r.isRegistered = true then
    some (s.waiterFor (if wait then .parkedArrw else .parkedArrv) o.index o slot
      (if wait then o.retref.setWidth 64 else 0))
  else if wait then
    some (s.waiterFor .queued o.index o ((if way = .park then r.round + 1 else r.round).setWidth 64)
      (o.retref.setWidth 64))
  else none

/-- An arrival that counts or parks: its waiter record, its count, its response, and the completion of its round. -/
def State.takeArrival (s : State) (o : HomeOp) (way : ArrivalWay) (wait : Bool) : State :=
  let r := s.obj o.index
  let queued := match s.arrivalWaiter o r way wait with
    | some w => s.addWaiter false o.partition w
    | none => some s
  match queued with
  | none => ((s.exhausted o.partition).finish o .overrun 0 0).breakPosted o
  | some s1 =>
    let s2 := s1.write o (s.countArrival o r way)
    let s3 := if wait then s2.recordOp o .ok 0 else s2.finish o .ok (arrivalResult r (way = .park)) 0
    if (s3.obj o.index).complete && way = .now then s3.complete o.index o.originator else s3

/-- ARRV and ARRW (R106, R140 to R145). -/
def State.arrive (s : State) (o : HomeOp) (wait : Bool) : State :=
  let r := s.obj o.index
  if !arrivalOperandsOk o r then (s.refuse o .badHandle).breakPosted o
  else if r.broken then s.refuse o .participantLost
  else
    let s1 := s.reach12 o
    match s.arrivalWay o r with
    | .rights => (s1.finish o .rights 0 0).breakPosted o
    | .overrun => (s1.finish o .overrun 0 0).breakPosted o
    | way => s1.takeArrival o way wait

/-- WREL (R106, R149). -/
def State.waitRelease (s : State) (o : HomeOp) : State :=
  let r := s.obj o.index
  if r.broken then s.refuse o .participantLost
  else
    let s1 := s.reach12 o
    if o.op.flags.sense == r.sense then s1.queueOn? o (r.round.setWidth 64)
    else
      let n := r.round - 1
      s1.finish o .ok (n.toNat + 2 ^ 28 * bitNat (n.getLsbD 0)) (if r.isCombining then r.lastResult else 0)

/-- R153, checks 2 to 6, of a forwarded arrival. -/
def State.forwardedCheck (s : State) (b : PartialArrival) (r : ObjRec) : Option Status :=
  if r.isRegistered then some .rights
  else if b.broken then none
  else if b.comb ≠ r.isCombining ∨ (b.comb = true ∧ (b.oper ≠ r.oper ∨ b.format ≠ r.format)) then some .badHandle
  else if s.cfg 0x2200 2 < b.depth.toNat then some .badHandle
  else if b.sense ≠ r.sense then some .overrun
  else if r.arrivals = r.expected ∨ (r.isCombining = true ∧ 2 ^ 43 < r.combCount + b.count.toNat) then some .overrun
  else none

/-- The parent's record after a forwarded arrival counts (R152, R153, R164). -/
def ObjRec.countForwarded (r : ObjRec) (b : PartialArrival) : ObjRec :=
  let r1 := r.setArrivals (r.arrivals + 1) r.nextArrivals
  let deeper := if b.depth = 15 then 0 else b.depth + 1
  let r2 := { r1 with depth := if r.depth = 0 ∨ (deeper ≠ 0 ∧ deeper.toNat ≤ r.depth.toNat) then r.depth else deeper }
  if r.isCombining then
    r2.setAccs (r.combCount + b.count.toNat) (accMerge r.oper r.cur { bits := b.acc, flags := b.flags }) r.next r.lastResult
  else r2

/-- A forwarded arrival at its parent, after checks 7 to 9 of R105 (R153). -/
def State.arriveForwarded (s : State) (o : HomeOp) (b : PartialArrival) : State :=
  let r := s.obj o.index
  if r.broken then s.refuse o .participantLost
  else
    let s1 := s.reach12 o
    match s.forwardedCheck b r with
    | some st => s1.finish o st 0 0
    | none =>
      if b.broken then (s1.breakBarrier o.index).finish o .participantLost 0 0
      else
        match s1.addWaiter false o.partition (s.waiterFor .fwdArrv o.index o (r.round.setWidth 64) o.op.opb) with
        | none => (s1.exhausted o.partition).finish o .overrun 0 0
        | some s2 =>
          let s3 := (s2.write o (r.countForwarded b)).recordOp o .ok 0
          if (s3.obj o.index).complete then s3.complete o.index o.originator else s3

end Sys2Proof.Machine
end

