-- ==== Sys2Proof/Machine/LockOps.lean ====
section
/-! DEFINITION. Locks at their home (R220 to R246): rights, acquisition, release, inheritance notices, the owner's reset and
the reordering of a queue. -/

namespace Sys2Proof.Machine

/-- R225: check 11 of R105. -/
def State.lockRights (s : State) (o : HomeOp) (r : ObjRec) : Bool :=
  let g := r.group
  let acquires := codeAcquires o.opcode
  let frel := decide (o.opcode = opCode .frel)
  decide (g.toNat * s.partCount / 256 = r.partition.toNat) &&
  (!(acquires || frel) || (s.groupCfg g 1).testBit o.partition) &&
  (!acquires || decide ((s.groupCfg g 2) &&& o.cls.toNat ≠ 0)) &&
  (!frel || decide ((s.groupCfg g 3) &&& o.cls.toNat ≠ 0))

/-- An INHERIT notice (R237): BOOST names the waiter and its priority; END the priority that has ended. -/
def State.inheritNotice (s : State) (i : Nat) (waiter : Originator) (boosted : BitVec 4) (cause : Nat) : State :=
  let r := s.obj i
  if s.groupCfg r.group 6 = 0 then s
  else s.notifyRing r.partition.toNat 2 r.partition.toNat
    (pack 96 [⟨64, 32, (mkHandle s.hub i).toNat⟩, ⟨39, 25, r.holder.toNat⟩, ⟨14, 25, waiter.toNat⟩,
      ⟨10, 4, boosted.toNat⟩, ⟨6, 4, r.prio.toNat⟩, ⟨4, 2, cause⟩])

/-- R236: ends an inheritance with an END notice. -/
def State.endInherit (s : State) (i : Nat) (cause : Nat) : State :=
  let r := s.obj i
  if r.inhPrio = 0 then s
  else
    let s1 := s.inheritNotice i 0 r.inhPrio cause
    s1.setObj i (r.setLock 0 r.prio r.grantTime r.acqCount r.held r.holder)

/-- Frees a lock: its inheritance ends, and the next waiter is granted (R108, R236). `how` is the LOCK record's code. -/
def State.freeLock (s : State) (i : Nat) (how endCause : Nat) (abandon : Bool) : State :=
  let r0 := s.obj i
  let s1 := (s.recordLock i how r0.holder).endInherit i endCause
  let r := s1.obj i
  let r1 := r.setLock r.inhPrio r.prio r.grantTime r.acqCount false r.holder
  (s1.setObj i { r1 with abandoned := abandon }).serve i

/-- Takes a free lock for an op on its arrival (R106). -/
def State.lockNow (s : State) (o : HomeOp) (result : Nat) : State :=
  let r := s.obj o.index
  let s1 := (s.write o (r.taken s.time o.originator o.op.tsel)).recordLock o.index 0 o.originator
  (s1.countGrant o).finish o r.grantStatus result 0

/-- R239: the deadline of an ACQ, from its entry and its group's limit at the instant it is queued. -/
def State.lockDeadline (s : State) (o : HomeOp) (r : ObjRec) : HomeOp :=
  let limit := s.groupCfg r.group 5
  { o with dlValid := decide (limit ≠ 0)
           deadline := if limit = 0 then 0 else o.deadline + BitVec.ofNat 43 (limit / 256) }

/-- R234: a waiter of higher priority raises the holder's inherited priority. -/
def State.boost (s : State) (o : HomeOp) : State :=
  let r := s.obj o.index
  if s.prioMode r && decide (r.prio.toNat < o.op.tsel.toNat) && decide (r.inhPrio.toNat < o.op.tsel.toNat) then
    (s.setObj o.index (r.setLock o.op.tsel r.prio r.grantTime r.acqCount r.held r.holder)).inheritNotice o.index
      o.originator o.op.tsel 0
  else s

/-- ACQ on a held lock: it queues, or is refused with OVERRUN (R112). -/
def State.lockQueue (s : State) (o : HomeOp) : State :=
  let r := s.obj o.index
  let w := s.waiterFor .queued o.index (s.lockDeadline o r) 0 (o.retref.setWidth 64)
  match s.addWaiter (s.prioMode r) o.partition w with
  | some s1 => (s1.recordOp o .ok 0).boost o
  | none => (s.exhausted o.partition).finish o .overrun 0 0

/-- ACQ (R106). -/
def State.acquire (s : State) (o : HomeOp) : State :=
  let r := s.obj o.index
  if !s.lockRights o r then s.refuse o .rights
  else
    let s1 := s.reach12 o
    if r.held then s1.lockQueue o else s1.lockNow o (s.waitTime o.stamp)

/-- TRYACQ (R106). -/
def State.tryAcquire (s : State) (o : HomeOp) : State :=
  let r := s.obj o.index
  if !s.lockRights o r then s.refuse o .rights
  else
    let s1 := s.reach12 o
    if r.held then s1.finish o .wouldBlock 0 0 else s1.lockNow o 0

/-- REL (R106, R245): a REL by the holder also clears the abandoned mark. -/
def State.releaseLock (s : State) (o : HomeOp) : State :=
  let r := s.obj o.index
  if !s.lockRights o r then s.refuse o .rights
  else
    let s1 := s.reach12 o
    if r.held ∧ r.holder = o.originator then
      (((s1.write o { r with abandoned := false }).freeLock o.index 1 1 false)).finish o .ok 0 0
    else s1.finish o .rights 0 0

/-- FREL (R106, R240). -/
def State.forceRelease (s : State) (o : HomeOp) : State :=
  let r := s.obj o.index
  if !s.lockRights o r then s.refuse o .rights
  else
    let s1 := s.reach12 o
    if r.held then ((s1.write o r).freeLock o.index 2 2 r.abandoned).finish o .ok 0 0 else s1.finish o .ok 0 0

/-- R244: a HOLDER_RESET performed at the lock's home, after its Selvedge checks. -/
def State.holderReset (s : State) (i : Nat) (who : Originator) (delivered : Bool) : State :=
  let r := s.obj i
  if r.otype ≠ .lock ∨ r.faulted = true then s
  else if r.held ∧ r.holder = who then s.freeLock i 3 3 (r.abandoned || delivered)
  else match (s.queue i).find? fun w => w.originator = who && w.opcode = opCode .acq with
    | some w => s.freeWaiter w
    | none => s

/-- Puts a lock's waiters into the order of its group's mode (R233). -/
def State.reorder (s : State) (i : Nat) : State :=
  let pm := s.prioMode (s.obj i)
  let q := s.queue i
  let rest := s.waiters.filter fun w => !(w.object = i && decide (w.kind ≠ .ledger))
  { s with waiters := q.foldl (fun ws w => insertWaiter pm w ws) rest }

end Sys2Proof.Machine
end

