-- ==== Sys2Proof/Machine/Home.lean ====
section
/-! DEFINITION. INIT (R63 to R68), the ops that a type admits (R94, R106), an op at its home after its translation (R105,
checks 7 to 12), and a template write (R205, R206). -/

namespace Sys2Proof.Machine

/-! ### INIT -/

/-- R146: an INIT performed after a reset's assertion ends the reset's check of the barrier before it. -/
def State.dropChecks (s : State) (i : Nat) : State :=
  s.each (fun s q =>
    if (s.port q).checks.contains i then s.modPort q fun x => { x with checks := x.checks.filter fun j => j ≠ i } else s)
    (Sparse.keys s.ports)

/-- R61: an INIT that names the TRIG record of an armed object. -/
def State.pairedArmed (s : State) (i : Nat) : Bool :=
  decide ((s.obj i).otype = .trig) &&
  ((decide (1 ≤ i) && (s.obj (i - 1)).trig && !s.wideBit (i - 1)) ||
   (decide (4 ≤ i) && decide (i % 4 = 0) && (s.obj (i - 4)).trig && s.wideBit (i - 4)))

/-- Checks 2 to 4 of R66, which stand where checks 8 and 9 of R105 do. -/
def State.initRefused (s : State) (i : Nat) (x : InitArgs) : Option Status :=
  if x.bad then some .badHandle
  else if (x.wide && decide (i % 4 ≠ 0)) || s.isBody i then some .badHandle
  else if (s.obj i).faulted || (x.wide && ((numsFrom (i + 1) 3).any fun j => (s.obj j).faulted)) then some .jobFault
  else none

/-- R56, R45: check 7 of R66. -/
def State.initLimits (s : State) (i p : Nat) (x : InitArgs) : Option Status :=
  if decide (x.otype = some .token) && x.loanable && (s.obj i).trig then some .rights
  else if decide (x.otype = some .barrier) && x.kind = 1 then
    if 768 < x.participants then some .overrun
    else if (numsFrom x.firstPort (x.lastPort + 1 - x.firstPort)).any
        (fun q => !s.portBuilt q || decide (s.portPart q ≠ p)) ∨ 2 ^ s.build.engines ≤ x.engMask.toNat then some .rights
    else none
  else none

/-- Checks 5 to 7 of R66. -/
def State.initBlocked (s : State) (i p : Nat) (x : InitArgs) : Option Status :=
  let r := s.obj i
  if s.queue i ≠ [] ∨ (r.loanable = true ∧ r.word1 ≠ 0) ∨ s.pairedArmed i = true then some .wouldBlock
  else if x.wide && !s.wideBit i && ((numsFrom (i + 1) 3).any fun j => decide ((s.obj j).otype ≠ .none)) then
    some .wouldBlock
  else s.initLimits i p x

/-- The record that INIT creates (R63, R65); an object of type NONE leaves the Reset state of R38. -/
def initRecord (p : Nat) (o : HomeOp) (x : InitArgs) : ObjRec :=
  match x.otype with
  | none => {}
  | some .none => {}
  | some t =>
    let base : ObjRec := { otype := t, mode := x.mode, partition := BitVec.ofNat 4 p, lastOrig := o.originator,
                           lastTime := o.entered, wide := x.wide }
    match t with
    | .event => { base with word0 := (getFld x.a 0 1 : BitVec 1).setWidth 64 }
    | .token => { base with hi := (0 : BitVec 13) ++ x.cls ++ (0 : BitVec 48)
                            word1 := if x.loanable then 0 else x.b, word0 := x.value }
    | .sem => { base with word1 := x.b, word0 := (getFld x.a 0 54 : BitVec 54).setWidth 64 }
    | .lock => { base with hi := (0 : BitVec 21) ++ (getFld x.a 0 8 : BitVec 8) ++ (0 : BitVec 35) }
    | .barrier =>
      let parent : Handle := if x.hasParent then x.parent else 0
      if x.kind = 1 then
        { base with
          word1 := parent ++ BitVec.ofNat 32 x.participants
          word0 := (0 : BitVec 10) ++ (getFld x.a 0 22 : BitVec 22) ++ (0 : BitVec 32)
          body := BitVec.allOnes 768 }
      else if x.kind = 2 then
        { base with
          word1 := parent ++ x.expected
          body := combBody x.oper x.format 0 0 0 0 (accIdentity x.oper).bits (accIdentity x.oper).bits }
      else { base with word1 := parent ++ x.expected }
    | _ => base

/-- INIT at its home, after check 1 of R66. -/
def State.initObj (s : State) (o : HomeOp) : State :=
  let i := o.index
  let x : InitArgs := { a := o.op.operand, b := o.op.opb }
  match s.initRefused i x with
  | some st => s.refuse o st
  | none =>
    let s1 := s.reach12 o
    match s.initBlocked i o.partition x with
    | some st => s1.finish o st 0 0
    | none =>
      let s2 := ((s1.dropHolds o.partition i).dropChecks i).setObj i (initRecord o.partition o x)
      (if i % 4 = 0 then s2.setWideBit i x.wide else s2).finish o .ok 0 0

/-! ### Which ops a type admits -/

/-- R39, R94: the opcode applies to the type. -/
def opApplies (c : Opcode) (t : ObjType) : Bool :=
  match c, t with
  | .read, .none => false
  | .read, _ => true
  | .sig, .event | .sig, .token | .sig, .sem => true
  | .set, .event | .clr, .event => true
  | .wait, .event | .wait, .token | .wait, .sem => true
  | .take, .token | .take, .sem | .tryTake, .token | .tryTake, .sem => true
  | .arrv, .barrier | .arrw, .barrier | .wrel, .barrier => true
  | .acq, .lock | .tryAcq, .lock | .rel, .lock | .frel, .lock => true
  | .fadd, .token | .fadd, .sem | .swap, .token | .swap, .sem | .cas, .token | .cas, .sem => true
  | .arm, .token | .arm, .barrier | .disarm, .token | .disarm, .barrier => true
  | _, _ => false

/-- The effect of an op that has passed checks 7 to 9 as far as its type decides them. -/
def State.effect (s : State) (o : HomeOp) (c : Opcode) : State :=
  let event := decide ((s.obj o.index).otype = .event)
  match c with
  | .sig => if event then s.signalEvent o else s.signalAmount o
  | .set => s.signalEvent o
  | .clr => s.clearEvent o
  | .wait => if event then s.waitEvent o else s.waitAmount o
  | .take => s.takeAmount o
  | .tryTake => s.tryTakeAmount o
  | .arrv => s.arrive o false
  | .arrw => s.arrive o true
  | .wrel => s.waitRelease o
  | .acq => s.acquire o
  | .tryAcq => s.tryAcquire o
  | .rel => s.releaseLock o
  | .frel => s.forceRelease o
  | .read => s.readObj o
  | .init => s.initObj o
  | .fadd => s.addAmount o
  | .swap => s.swapAmount o
  | .cas => s.casAmount o
  | .arm => s.armObj o
  | .disarm => s.disarmObj o
  | _ => s.refuse o .badHandle

/-! ### An op at its home -/

/-- R445: the bank of the object refuses every op while its stage is out. -/
def State.bankOut (s : State) (i : Nat) : Bool := s.stageIsOut (bankOf i)

/-- Check 7 of R105, and the latch of check 8. -/
def State.homeGate (s : State) (o : HomeOp) : Option (Status × Selvedge) :=
  match s.selvedge o.partition o.epoch o.index (codeGated o.opcode) false with
  | .pass => if s.latched o.partition then some (.jobFault, .pass) else none
  | v => some (v.status, v)

/-- Checks 8 and 9 of R105 for an op other than INIT, and its effect. -/
def State.performOp (s : State) (o : HomeOp) (c : Opcode) : State :=
  if s.objFaulted o.index then s.refuse o .jobFault
  else if s.isBody o.index || !opApplies c (s.obj o.index).otype then s.refuse o .badHandle
  else s.effect o c

/-- An op at its home (R105, checks 7 to 12). Its access checks the object's words first (R426). -/
def State.performHome (s0 : State) (o : HomeOp) : State :=
  if s0.bankOut o.index then s0.refuse o .jobFault
  else
    let s := s0.accessObj o.index
    match s.homeGate o with
    | some (st, v) => (s.countSelvedge o.partition v).refuse o st
    | none =>
      match opcodeOf o.opcode with
      | none => s.refuse o .badHandle
      | some .init => s.initObj o
      | some c => s.performOp o c

/-- A forwarded arrival at its parent's home (R153, check 1). -/
def State.performForwarded (s0 : State) (o : HomeOp) (b : PartialArrival) : State :=
  if s0.bankOut o.index then s0.refuse o .jobFault
  else
    let s := s0.accessObj o.index
    match s.homeGate o with
    | some (st, v) => (s.countSelvedge o.partition v).refuse o st
    | none =>
      if s.objFaulted o.index then s.refuse o .jobFault
      else if s.isBody o.index || decide ((s.obj o.index).otype ≠ .barrier) then s.refuse o .badHandle
      else s.arriveForwarded o b

/-! ### Template writes -/

/-- R206: word 2 names a valid target. -/
def State.templateTargetOk (s : State) (p : Nat) (v : BitVec 64) : Bool :=
  let kind : BitVec 2 := getFld v 62 2
  let port := (getFld v 55 7).toNat
  decide (kind.toNat < 2) && (getFld v 32 20 : BitVec 20) = 0 &&
  (if kind = 0 then (getFld v 53 2 : BitVec 2) = 0 && s.portBuilt port && decide (s.portPart port = p)
   else (getFld v 55 7 : BitVec 7) = 0 && !v.getLsbD 52)

/-- R206: the conditions under which the home refuses a template write with RIGHTS. -/
def State.templateOk (s : State) (p i : Nat) (word : BitVec 2) (v : BitVec 64) : Bool :=
  let r := s.obj i
  !s.isBody i && decide (r.otype = .trig) && decide (r.partition.toNat = p) && !r.faulted && !s.pairedArmed i &&
  (word ≠ 2 || s.templateTargetOk p v)

/-- Writes a word of a TRIG record (R205). -/
def ObjRec.setTemplate (r : ObjRec) (word : BitVec 2) (v : BitVec 64) : ObjRec :=
  if word = 0 then { r with word0 := v } else if word = 1 then { r with word1 := v } else { r with hi := v }

/-- R206: the count of a refused template write. -/
def State.templateRefused (s : State) (p : Nat) : State := s.pcount 15 p 1

/-- A template write at its home: the state, and the status that decides the AXI5 response (R205, R206, R349, R433). -/
def State.performTemplate (s0 : State) (o : HomeOp) : State × Status :=
  if s0.bankOut o.index then (s0.templateRefused o.partition, .jobFault)
  else
    let s := s0.accessObj o.index
    match s.selvedge o.partition o.epoch o.index false false with
    | .pass =>
      let word : BitVec 2 := getFld o.op.tsel 0 2
      if s.latched o.partition || !s.templateOk o.partition o.index word o.op.operand then
        (s.templateRefused o.partition, .rights)
      else (s.write o ((s.obj o.index).setTemplate word o.op.operand), .ok)
    | v => ((s.countSelvedge o.partition v).templateRefused o.partition, v.status)

end Sys2Proof.Machine
end

