-- ==== Sys2Proof/Machine/Near.lean ====
section
/-! DEFINITION. Near objects (R71 to R77, R174, R431): the ops that a shim performs on its own 64 objects. A near op takes no
fairness stamp; the stamp kept with it is the moment of its acceptance, by which a HOLD orders its response. -/

namespace Sys2Proof.Machine

/-! ### Concluding a near op -/

/-- Answers a near op, unless it is posted (R75, R119). -/
def State.nearAnswer (s : State) (p : Nat) (w : NearWait) (st : Status) (result : Nat) (v : BitVec 64) : State :=
  let s1 := s.countRefused (s.nearOp p w) st
  if w.op.flags.noresp then s1
  else s1.offer p (s1.nearRsp p w.lane w.opcode w.op w.context w.stamp st result v)

/-- R455, R495: an op that its shim performs. -/
def State.shimReach (s : State) (o : HomeOp) : State :=
  ((s.actOp o).pcount 5 o.partition 1).count 0x6008 1 0 1

/-- Refuses a near op at one of the checks that the shim runs. -/
def State.nearRefuse (s : State) (p : Nat) (w : NearWait) (st : Status) : State :=
  (s.actOp (s.nearOp p w)).nearAnswer p w st 0 0

/-- Completes a near op that its own rule decides. -/
def State.nearFinish (s : State) (p : Nat) (w : NearWait) (st : Status) (result : Nat) (v : BitVec 64) : State :=
  let o := s.nearOp p w
  let s1 := s.shimReach o
  (if st.good then s1.recordOp o st result else s1).nearAnswer p w st result v

/-- R102: the csp_clk cycles from a near op's acceptance to its grant are a free value. -/
def State.nearTime (s : State) : Nat := satNat 40 (Config.nearCycles s.free)

/-- Grants a waiting near op. -/
def State.nearGrant (s : State) (p : Nat) (w : NearWait) (result : Nat) : State :=
  let s1 := s.modPort p fun x => { x with nearWaits := x.nearWaits.erase w }
  (s1.recordGrant (s1.nearOp p w) .ok).offer p (s1.nearRsp p w.lane w.opcode w.op w.context w.stamp .ok result 0)

/-! ### Values -/

/-- The value of a near TOKEN as a signed number, of the others unsigned (R71). -/
def NearObj.amount (o : NearObj) : Int := if o.otype = .token then o.value.toInt else Int.ofNat o.value.toNat

/-- R74: whether a value fits the field, and a non-zero max. -/
def NearObj.inRange (o : NearObj) (v : Int) : Bool :=
  if o.otype = .token then decide (-2 ^ 31 ≤ v ∧ v ≤ 2 ^ 31 - 1)
  else decide (0 ≤ v ∧ v ≤ (if o.threshold = 0 then 2 ^ 32 - 1 else Int.ofNat o.threshold.toNat))

def NearObj.setAmount (o : NearObj) (v : Int) : NearObj := { o with value := BitVec.ofInt 32 v }
def NearObj.operandInt (o : NearObj) (x : BitVec 64) : Int :=
  if o.otype = .token then x.toInt else Int.ofNat x.toNat
def NearObj.isSet (o : NearObj) : Bool := o.value.getLsbD 0
def NearObj.withSet (o : NearObj) (b : Bool) : NearObj := { o with value := (0 : BitVec 31) ++ bit1 b }
/-- The mode bit: AUTO of an EVENT, FIRST_FIT of a TOKEN (R71). -/
def NearObj.firstFit (o : NearObj) : Bool := decide (o.otype = .token) && o.mode
def NearObj.expected (o : NearObj) : Nat := o.threshold.toNat

def State.near (s : State) (p n : Nat) : NearObj := (s.port p).nearObj n
def State.setNear (s : State) (p n : Nat) (o : NearObj) : State := s.modPort p fun x => x.setNear n o

/-- Whether a waiting near op is a TAKE. -/
def NearWait.takes (w : NearWait) : Bool := w.opcode = opCode .take

/-- Serves the waiters of a near EVENT, TOKEN or SEM in wait_order (R76, R108). -/
def State.nearServe (s : State) (p n : Nat) (held : Bool) (k : Nat) : List NearWait → State × Nat
  | [] => (s, k)
  | w :: ws =>
    let o := s.near p n
    if o.otype = .event then
      if o.isSet then
        let s1 := (s.nearGrant p w s.nearTime).fresh
        if o.mode then (s1.setNear p n (o.withSet false), k + 1) else s1.nearServe p n held (k + 1) ws
      else (s, k)
    else if w.takes then
      if held then s.nearServe p n held k ws
      else if Int.ofNat w.op.operand.toNat ≤ o.amount then
        let s1 := s.setNear p n (o.setAmount (o.amount - Int.ofNat w.op.operand.toNat))
        (s1.nearGrant p w s1.nearTime).fresh.nearServe p n held (k + 1) ws
      else s.nearServe p n (!o.firstFit) k ws
    else if o.operandInt w.op.operand ≤ o.amount then
      (s.nearGrant p w s.nearTime).fresh.nearServe p n held (k + 1) ws
    else s.nearServe p n held k ws

/-- Makes a blocking near op wait in its shim (R75). -/
def State.nearQueue (s : State) (p : Nat) (w : NearWait) : State :=
  let o := s.nearOp p w
  ((s.shimReach o).recordOp o .ok 0).modPort p fun x => { x with nearWaits := x.nearWaits ++ [w] }

/-- A change of a near object that may satisfy waiters, for SIG and SET. -/
def State.nearSignal (s : State) (p : Nat) (w : NearWait) (o : NearObj) : State :=
  let s1 := (s.setNear p w.index o).nearServe p w.index false 0 ((s.port p).waitsOn w.index)
  s1.1.nearFinish p w .ok (satResult 16 s1.2) 0

/-! ### Near barriers (R174) -/

/-- Grants the waiters of a round's release: those whose SENSE is the round's (R147, R149). -/
def State.nearRelease (s : State) (p : Nat) (sense : Bool) : List NearWait → State
  | [] => s
  | w :: ws =>
    if w.op.flags.sense == sense then (s.nearGrant p w (2 ^ 28 * bitNat sense)).nearRelease p sense ws
    else s.nearRelease p sense ws

/-- One release: the sense inverts, the waiters of the round are granted, the next round moves in. -/
def State.nearRound (s : State) (p n : Nat) : State :=
  let o := s.near p n
  let o1 := { o with sense := !o.sense, value := o.nextArrivals.setWidth 32, nextArrivals := 0 }
  (s.setNear p n o1).nearRelease p o.sense ((s.port p).waitsOn n)

/-- Releases the completed round, and the next one if it is complete at once. -/
def State.nearComplete (s : State) (p n : Nat) : State :=
  let full (x : State) : Bool := decide ((x.near p n).value.toNat = (x.near p n).expected)
  if full s then
    let s1 := s.nearRound p n
    if full s1 then s1.nearRound p n else s1
  else s

/-- R140: a posted arrival refused at a near barrier ends every wait on it and the object. -/
def State.nearBreak (s : State) (p : Nat) (w : NearWait) : State :=
  if w.op.flags.noresp && decide ((s.near p w.index).otype = .barrier) then
    (s.endNears p .participantLost ((s.port p).waitsOn w.index)).setNear p w.index
      { s.near p w.index with otype := .none }
  else s

/-- ARRV and ARRW on a near barrier (R141, R174). -/
def State.nearArrive (s : State) (p : Nat) (w : NearWait) (wait : Bool) : State :=
  let o := s.near p w.index
  let same := w.op.flags.sense == o.sense
  if w.op.flags.x2 then (s.nearRefuse p w .badHandle).nearBreak p w
  else if (if same then o.value.toNat = o.expected else o.nextArrivals.toNat = o.expected) then
    (s.nearFinish p w .overrun 0 0).nearBreak p w
  else
    let o1 := if same then { o with value := o.value + 1 } else { o with nextArrivals := o.nextArrivals + 1 }
    let sense := if same then o.sense else !o.sense
    let s1 := s.setNear p w.index o1
    let s2 := if wait then s1.nearQueue p w
      else s1.nearFinish p w .ok (2 ^ 28 * bitNat sense + 2 ^ 29 * bitNat (!same)) 0
    if same then s2.nearComplete p w.index else s2

/-! ### INIT of a near object (R63, R72) -/

/-- R72: the limits of a near object. -/
def nearInitOk (x : InitArgs) : Bool :=
  match x.otype with
  | some .none => true
  | some .event => x.b = 0
  | some .token => x.b = 0 && !x.loanable && x.cls = 0 && decide (-2 ^ 31 ≤ x.value.toInt ∧ x.value.toInt ≤ 2 ^ 31 - 1)
  | some .sem => decide ((getFld x.a 0 54 : BitVec 54).toNat < 2 ^ 32) && decide (x.b.toNat < 2 ^ 32)
  | some .barrier => x.kind = 0 && !x.hasParent && decide (x.expected.toNat ≤ 65535)
  | _ => false

/-- The near object that INIT creates. -/
def nearInit (x : InitArgs) : NearObj :=
  match x.otype with
  | some .event => { otype := .event, mode := x.mode.getLsbD 0, value := (getFld x.a 0 1 : BitVec 1).setWidth 32 }
  | some .token => { otype := .token, mode := x.mode.getLsbD 0, value := x.value.setWidth 32 }
  | some .sem => { otype := .sem, value := getFld x.a 0 32, threshold := x.b.setWidth 32 }
  | some .barrier => { otype := .barrier, threshold := x.expected }
  | _ => {}

/-! ### Parity (R431) -/

/-- Whether the parity of a near object shows an error: an odd number of bits does; what an even number does depends on
where the bits lie, which is a free value. -/
def State.nearBad (s : State) (p n : Nat) : Bool :=
  let k := (s.port p).nearFlips.get natNone n
  k % 2 = 1 || (decide (0 < k) && Config.eccDetects s.free)

/-- R431: a parity mismatch is found. -/
def State.nearParity (s : State) (p n : Nat) : State :=
  let x := s.port p
  let s1 := s.setPort p { x with nearFault := x.nearFault ||| BitVec.ofNat 64 (2 ^ n), nearFlips := x.nearFlips.put natNone n 0 }
  let s2 := (((s1.bump 0x7010 9).errLocation 8 (p * 64 + n)).endNears p .jobFault (x.waitsOn n))
  s2.failOne { cause := 8, index := p * 64 + n } (s.portPart p)

/-- The parity check of one near object, at an access or in turn. An error that parity does not show leaves its object
with a free value. -/
def State.nearCheck (s : State) (p n : Nat) : State :=
  if (s.port p).nearFlips.get natNone n = 0 then s
  else if s.nearBad p n then s.fresh.nearParity p n
  else
    let x := s.port p
    let o := x.nearObj n
    (s.setPort p { x.setNear n { o with value := o.value ^^^ (Config.eccMiscorrected s.free).setWidth 32 } with
      nearFlips := x.nearFlips.put natNone n 0 }).fresh

/-! ### A near op in its shim -/

/-- R401: check 2 of R105 for an op of a partition; an issuer in no partition is refused as one in reset is. -/
def State.gate (s : State) (q : Nat) (code : BitVec 6) : Option Status :=
  if s.partCount ≤ q then some .partitionReset
  else if s.resetting q then some .partitionReset
  else if codeGated code && s.reslicing q then some .reslicePending
  else none

/-- Check 2 for an op of a port. -/
def State.portGate (s : State) (p : Nat) (code : BitVec 6) : Option Status := s.gate (s.portPart p) code

/-- R39: the near types an opcode applies to. -/
def nearApplies (c : Opcode) (t : ObjType) : Bool :=
  match c with
  | .init => true
  | .arm | .disarm => false
  | _ => opApplies c t

/-- The word that READ returns from a near object (R110). -/
def State.nearRead (s : State) (p n : Nat) (sel : BitVec 2) : Option (BitVec 64) :=
  let o := s.near p n
  if sel = 0 then some (if o.otype = .token then o.value.signExtend 64 else o.value.setWidth 64)
  else if sel = 1 then some (o.threshold.setWidth 64)
  else if sel = 2 then some ((s.port p).nearSummary n)
  else none

/-- The effect of a near op that has passed its checks (R106, R71 to R77). -/
def State.nearEffect (s : State) (p : Nat) (w : NearWait) (c : Opcode) : State :=
  let o := s.near p w.index
  let event := decide (o.otype = .event)
  let waits := (s.port p).waitsOn w.index
  match c with
  | .sig =>
    if event then s.nearSignal p w (o.withSet true)
    else
      let v := o.amount + Int.ofNat w.op.operand.toNat
      if w.op.operand.getLsbD 63 then s.nearRefuse p w .badHandle
      else if o.inRange v then s.nearSignal p w (o.setAmount v)
      else s.nearFinish p w .overrun 0 0
  | .set => s.nearSignal p w (o.withSet true)
  | .clr => (s.setNear p w.index (o.withSet false)).nearFinish p w .ok 0 0
  | .wait =>
    if event then
      if o.isSet then ((if o.mode then s.setNear p w.index (o.withSet false) else s).nearFinish p w .ok s.nearTime 0).fresh
      else s.nearQueue p w
    else if o.operandInt w.op.operand ≤ o.amount then (s.nearFinish p w .ok s.nearTime 0).fresh
    else s.nearQueue p w
  | .take | .tryTake =>
    let fits := decide (Int.ofNat w.op.operand.toNat ≤ o.amount) && (o.firstFit || !(waits.any NearWait.takes))
    if !takeOperandOk w.op.operand then s.nearRefuse p w .badHandle
    else if fits then
      ((s.setNear p w.index (o.setAmount (o.amount - Int.ofNat w.op.operand.toNat))).nearFinish p w .ok
        (if c = .take then s.nearTime else 0) 0).fresh
    else if c = .take then s.nearQueue p w
    else s.nearFinish p w .wouldBlock 0 0
  | .arrv => s.nearArrive p w false
  | .arrw => s.nearArrive p w true
  | .wrel =>
    if w.op.flags.sense == o.sense then s.nearQueue p w else s.nearFinish p w .ok (2 ^ 28 * bitNat (!o.sense)) 0
  | .read =>
    match s.nearRead p w.index (getFld w.op.operand 0 2) with
    | some v => s.nearFinish p w .ok 0 v
    | none => s.nearRefuse p w .badHandle
  | .init =>
    let x : InitArgs := { a := w.op.operand, b := w.op.opb }
    if x.bad then s.nearRefuse p w .badHandle
    else if waits ≠ [] then s.nearFinish p w .wouldBlock 0 0
    else if !nearInitOk x then s.nearFinish p w .badHandle 0 0
    else (s.setNear p w.index (nearInit x)).nearFinish p w .ok 0 0
  | _ => s.nearRefuse p w .badHandle

/-- A near op in its shim: checks 1, 2 and 9 of R105, the latch (R433) and parity (R431). A body index and the other
checks do not apply. -/
def State.performNear (s0 : State) (p : Nat) (w : NearWait) (c : Opcode) : State :=
  match s0.portGate p w.opcode with
  | some st => s0.nearRefuse p w st
  | none =>
    let s := s0.nearCheck p w.index
    if s.latched (s.portPart p) || (s.port p).nearFault.getLsbD w.index then s.nearRefuse p w .jobFault
    else if !nearApplies c (s.near p w.index).otype then s.nearRefuse p w .badHandle
    else s.nearEffect p w c

end Sys2Proof.Machine
end

