-- ==== Sys2Proof/Machine/Answer.lean ====
section
/-! DEFINITION. The Catalogue's answers (R515, R516, R525, R529): the response itself, its counts, and the completion of a
write that awaits an event (R518). -/

namespace Sys2Proof.Machine

/-- The codes of R516. -/
def CatStatus.code : CatStatus → Nat
  | .done => 0 | .noEntry => 1 | .accessError => 2 | .beyondRights => 3 | .changed => 4 | .incomplete => 5 | .busy => 6
  | .malformed => 7

/-- The principal that a path names (R511). -/
def viaPrincipal : CatVia → Principal
  | .apb => .apb
  | .mctp e _ => .eid e

/-- The source EID that CatLastRefusal records: 0 for APB5 (R535). -/
def viaEid : CatVia → Nat
  | .apb => 0
  | .mctp e _ => e.toNat

/-- The command codes of R515. -/
def cmdIdentify : BitVec 8 := 1
def cmdDescribe : BitVec 8 := 2
def cmdRead : BitVec 8 := 3
def cmdWrite : BitVec 8 := 4
def cmdReadSeg : BitVec 8 := 5
def cmdNext : BitVec 8 := 6

/-- What an answer leaves in the APB5 registers (R529). A read's value and IDENTIFY's data go to CAT_DATA, a segment and a
descriptor to CAT_SEG, the entry that NEXT found to CAT_SEL. -/
def ApbRegs.take (r : ApbRegs) (a : CatAnswer) : ApbRegs :=
  let wide := a.command = cmdReadSeg || a.command = cmdDescribe
  let good := a.status = .done
  { r with
    busy := false, last := a.last, status := a.status, generation := a.generation
    sel := if a.command = cmdNext && good then
        (0 : BitVec 4) ++ a.partition ++ a.sub ++ a.index else r.sel
    len := if a.command = cmdReadSeg then BitVec.ofNat 32 a.len else r.len
    data := if good && (a.command = cmdRead || a.command = cmdIdentify) then BitVec.ofNat 128 a.data else r.data
    seg := if good && wide then a.data else r.seg }

/-- Offers an answer: CatRequestCount, and for BEYOND_RIGHTS CatRefusedCount and CatLastRefusal (R511, R535). -/
def State.catAnswer (s : State) (a : CatAnswer) : State :=
  let s1 := (s.drive (.answer a)).bump 0x2C01 2
  let s2 := if a.status = .beyondRights then
      (s1.bump 0x2C01 3).setCfg 0x2C01 4 0 (viaEid a.via + a.status.code * 2 ^ 8 + a.index.toNat * 2 ^ 16)
    else s1
  match a.via with
  | .apb => { s2 with apb := s2.apb.take a }
  | _ => s2

/-- An answer that carries a status alone. -/
def statusAnswer (h : CatHdr) (command : BitVec 8) (index : BitVec 16) (sub : BitVec 8) (st : CatStatus) : CatAnswer where
  via := h.via
  rqid := h.rqid
  partition := h.partition
  command := command
  index := index
  sub := sub
  status := st
  last := false
  generation := 0
  len := 0
  data := 0

/-- Completes an open write of a request with a status (R518). -/
def State.catFinish (s : State) (h : CatHdr) (st : CatStatus) : State :=
  match s.catOpen.find? fun o => o.hdr = h with
  | some o => { s with catOpen := s.catOpen.erase o }.catAnswer (statusAnswer h cmdWrite o.index o.sub st)
  | none => s

/-- Completes the open writes of several requests. -/
def State.catFinishAll (s : State) (st : CatStatus) : List CatHdr → State
  | [] => s
  | h :: hs => (s.catFinish h st).catFinishAll st hs

end Sys2Proof.Machine
end

