-- ==== Sys2Proof/Machine/Shim.lean ====
section
/-! DEFINITION. The issue side of a core shim and what the originating hub does with an op (R91 to R98, R105 checks 1 to 6,
R119 to R129, R222, R223, R266, R274 to R278, R292 to R306), and the ops that act on their issuer (R113, R477 to R479). -/

namespace Sys2Proof.Machine

/-! ### Check 1 of R105 -/

/-- R119: the op is posted. -/
def opPosted (c : Option Opcode) (f : OpFlags) : Bool := f.noresp && !f.acq && c.any opMayPost

/-- R93, R95: check 1. `core` says that the issuer is a control core, `aperture` that the op came through the aperture. -/
def checkOne (c : Option Opcode) (op : OpFields) (core aperture : Bool) : Option Status :=
  match c with
  | none => some .badHandle
  | some c =>
    if !opBeatsOk c op.flags.x2 then some .badHandle
    else if op.flags.near && (aperture || !opNear c) then some .badHandle
    else if op.flags.noresp && !opPosted (some c) op.flags then some .badHandle
    else if op.flags.near && (getFld op.handle 6 26 : BitVec 26) ≠ 0 then some .badHandle
    else if opCoreOnly c && !core then some .rights
    else none

/-! ### The originating hub -/

/-- The class of an op of a lane (R224). -/
def State.laneClass (s : State) (p lane : Nat) : BitVec 5 :=
  if lane = 0 then if (s.cfg 0x4100 1).testBit p then clsSupv else clsCore else clsEngine

/-- R115, R349: dl_valid and the deadline field of an op that enters the hub now. -/
def State.opDeadline (s : State) (p : Nat) (code : BitVec 6) (tsel : BitVec 4) : Bool × BitVec 43 :=
  let limit := if tsel = 0 ∨ 16 ≤ p then 0 else s.cfg 0x2100 tsel.toNat p
  if code = opCode .acq then (false, s.time.ns43)
  else if codeBlocks code && decide (limit ≠ 0) then (true, BitVec.ofNat 43 ((s.time.toNat + limit) / 256))
  else (false, 0)

/-- An op of a shim as the hub stamps it (R255, R298, R300). -/
def State.portOp (s : State) (p : Nat) (h : ShimOp) : HomeOp :=
  let q := s.portPart p
  let dl := s.opDeadline q h.opcode h.op.tsel
  { opcode := h.opcode, op := h.op, originator := s.laneOrig p h.lane, source := srcPort, cls := s.laneClass p h.lane
    partition := q, epoch := if q < 16 then s.epoch q else 0, stamp := s.time.stamp, aged := false
    context := h.context, dlValid := dl.1, deadline := dl.2
    retref := BitVec.ofNat 6 (h.entry.getD 0) ++ (s.port p).generation, resent := false, entered := s.time.low22 }

/-- Check 3: the op with its absolute handle, and for INIT of a child barrier the parent's (R64, R399). -/
def State.absolute (s : State) (o : HomeOp) : Option HomeOp :=
  match s.translate o.partition o.op.handle with
  | none => none
  | some h =>
    let x : InitArgs := { a := o.op.operand, b := o.op.opb }
    if o.opcode = opCode .init && x.wantsParent then
      (s.translate o.partition x.parent).map fun ph =>
        { o with op := { o.op with handle := h, opb := ph ++ (getFld o.op.opb 0 32 : BitVec 32) } }
    else some { o with op := { o.op with handle := h } }

/-- R137: the ops that a W1 home admits. -/
def opW1Ok (o : HomeOp) : Bool :=
  o.opcode = opCode .sig || ((o.opcode = opCode .arrv || o.opcode = opCode .arrw) && !o.op.flags.x2)

/-- The port and the pending entry of an op of a shim. -/
def HomeOp.port (o : HomeOp) : Nat := (getFld o.originator 3 7).toNat
def HomeOp.slot (o : HomeOp) : Nat := (getFld o.originator 0 10).toNat
def HomeOp.entry (o : HomeOp) : Nat := (getFld o.retref 4 6).toNat
/-- The engine position of an op's originator. -/
def HomeOp.engine (o : HomeOp) : Nat := (getFld o.originator 0 3).toNat

/-- R369: the deadline that the originating hub keeps itself. -/
def State.keptDeadline (s : State) (o : HomeOp) : Option Time :=
  let limit := if o.op.tsel = 0 ∨ 16 ≤ o.partition then 0 else s.cfg 0x2100 o.op.tsel.toNat o.partition
  if o.opcode = opCode .arrw ∧ s.routeLevel (handleHub o.op.handle) = 1 ∧ limit ≠ 0 then
    some (s.time + BitVec.ofNat 64 limit) else none

/-- What the originator keeps of an op that it sends to another hub (R121, R266). -/
def State.noteSent (s : State) (o : HomeOp) : State :=
  let a : AwayOp := { engine := if o.source = srcPort then o.engine else 0
                      entry := if o.op.flags.noresp then none else some o.entry
                      silent := o.op.flags.noresp || codeBlocks o.opcode }
  let mark (e : Pend) : Pend := { e with
    stamp := o.stamp, home := some (handleHub o.op.handle), handle := o.op.handle, deadline := s.keptDeadline o }
  if o.source = srcPort then
    s.modPort o.port fun x => { x with
      away := x.away ++ [a]
      pend := if o.op.flags.noresp then x.pend else x.pend.map fun e => if e.entry = o.entry then mark e else e }
  else
    s.modSlot o.slot fun x => { x with
      away := x.away ++ [a], sent := if o.op.flags.noresp then x.sent else x.sent.map mark }

/-- What the originator keeps of an op that this hub performs itself. -/
def State.noteHere (s : State) (o : HomeOp) : State :=
  let mark (e : Pend) : Pend := { e with
    stamp := o.stamp, home := some (handleHub o.op.handle), handle := o.op.handle }
  if o.op.flags.noresp then s
  else if o.source = srcPort then
    s.modPort o.port fun x => { x with pend := x.pend.map fun e => if e.entry = o.entry then mark e else e }
  else s.modSlot o.slot fun x => { x with sent := x.sent.map mark }

/-- The OP message of an op (R348). -/
def State.opMsg (s : State) (o : HomeOp) : Msg :=
  { hdr := s.hdrTo (handleHub o.op.handle) o.partition
    body := .op { opcode := o.opcode, op := { o.op with opb := if o.op.flags.x2 then o.op.opb else 0 }, carry := o.carry } }

/-- Sends an op to its home: this hub's store, or another hub. -/
def State.toHome (s : State) (o : HomeOp) : State :=
  if handleHub o.op.handle = s.hub then (s.noteHere o).performHome o else (s.noteSent o).send (s.opMsg o)

/-! ### The held-lock table (R222, R223) -/

/-- R222: an ACQ or TRYACQ of a port that its table refuses. -/
def Port.lockRefused (x : Port) (lock : Handle) (eng : Nat) : Bool :=
  decide (64 ≤ x.heldLocks.length) || x.heldLocks.any fun h => h.lock = lock && h.engine.toNat = eng

/-- Records a lock that the ACQ or TRYACQ of a pending entry names. -/
def Port.addLock (x : Port) (lock : Handle) (eng entry : Nat) : Port :=
  match lowestFree 0 64 (x.heldLocks.map HeldLock.index) with
  | some n => { x with
      heldLocks := x.heldLocks ++ [{ index := n, lock := lock, engine := BitVec.ofNat 3 eng, delivered := false }]
      pend := x.pend.map fun e => if e.entry = entry then { e with lock := true } else e }
  | none => x

/-- The words of a port's held-lock table are checked as they are used (R425). -/
def State.accessLocks (s : State) (p : Nat) : List HeldLock → State
  | [] => s
  | h :: hs => (s.access (.heldLock (p * 64 + h.index))).accessLocks p hs

/-! ### Loans at the borrower (R185) -/

/-- Whether a ledger entry covers a TAKE or TRYTAKE that arrives now, in the token's mode. -/
def State.ledgerFits (s : State) (e : Ledger) (o : HomeOp) : Bool :=
  let w := s.waiterFor .ledger e.num o o.op.operand 0
  let q := s.ledgerQueue e.num
  let ahead := if o.opcode = opCode .take then q.filter fun x => !w.goesAhead false x else q
  decide (o.op.operand.toNat ≤ e.balance.toNat) && (e.firstFit || ahead.isEmpty)

/-- Grants an op from a ledger entry on its arrival. -/
def State.ledgerNow (s : State) (e : Ledger) (o : HomeOp) : State :=
  let s1 := s.setLedger { e with
    balance := e.balance - o.op.operand, spent := e.spent + o.op.operand, idleSince := s.clock }
  ((s1.reach12 o).countGrant o).finish o .ok (if o.opcode = opCode .take then s.waitTime o.stamp else 0) 0

/-- A TAKE that waits on a ledger entry (R187, R189). -/
def State.ledgerWait (s : State) (e : Ledger) (o : HomeOp) : State :=
  let s1 := s.reach12 o
  match s1.addWaiter false o.partition (s.waiterFor .ledger e.num o o.op.operand (o.retref.setWidth 64)) with
  | some s2 => (s2.recordOp o .ok 0).topUp e.num
  | none => (s1.exhausted o.partition).finish o .overrun 0 0

/-- R185: a TAKE or TRYTAKE on a token that this hub has borrowed from; a TRYTAKE that the balance does not cover goes to
the home. -/
def State.fromLedger (s : State) (e : Ledger) (o : HomeOp) : State :=
  if !takeOperandOk o.op.operand then (s.noteHere o).refuse o .badHandle
  else if s.ledgerFits e o then (s.noteHere o).ledgerNow e o
  else if o.opcode = opCode .take then (s.noteHere o).ledgerWait e o
  else s.toHome o

/-- The ledger entry that serves an op, if one does. A latched partition's ops go to the home, which refuses them. -/
def State.lendingFor (s : State) (o : HomeOp) : Option Ledger :=
  if (o.opcode = opCode .take || o.opcode = opCode .tryTake) && !s.latched o.partition then
    s.ledgerOf o.partition o.op.handle
  else none

/-- The last part of an op's way through its originating hub: the held-lock table, the ledger, the home. -/
def State.launch (s : State) (o : HomeOp) : State :=
  if o.source = srcPort && codeAcquires o.opcode then
    let s1 := s.accessLocks o.port (s.port o.port).heldLocks
    if (s1.port o.port).lockRefused o.op.handle o.engine then (s1.noteHere o).refuse o .overrun
    else (s1.modPort o.port fun x => x.addLock o.op.handle o.engine o.entry).toHome o
  else if o.source = srcPort && o.opcode = opCode .rel then
    ((s.accessLocks o.port (s.port o.port).heldLocks).modPort o.port fun x => x.dropLock o.op.handle o.engine).toHome o
  else
    match s.lendingFor o with
    | some e =>
      let s1 := s.access (.ledger e.num)
      match s1.lendingFor o with
      | some e1 => s1.fromLedger e1 o
      | none => s1.toHome o
    | none => s.toHome o

/-- R445: the stage through which an op of its issuer enters the hub is out: its port's cluster merge, or the AXI5
subordinate. -/
def State.entryOut (s : State) (o : HomeOp) : Bool :=
  s.stageIsOut (if o.source = srcPort then 16 + o.port / 16 else 24)

/-- Checks 3, 5 and 6 of R105, on an op that has passed check 2. -/
def State.forwardOp (s : State) (o : HomeOp) : State :=
  if s.entryOut o then s.refuse o .jobFault else
  match s.absolute o with
  | none => s.refuse o .badHandle
  | some a =>
    let home := handleHub a.op.handle
    if !s.reachable home then s.refuse a .unreachable
    else if home ≠ s.hub ∧ s.routeLevel home = 1 ∧ opW1Ok a = false then s.refuse a .localOnly
    else s.launch a

/-! ### Token buckets (R292 to R296) -/

/-- A bucket at time `t`: the tokens that have accrued, up to the depth (R292, R296). -/
def Bucket.refill (b : Bucket) (t : Time) (depth period : Nat) : Bucket :=
  let n := elapsed b.lastRefill t / period
  if depth ≤ b.tokens + n then { b with tokens := depth, lastRefill := t }
  else { b with tokens := b.tokens + n, lastRefill := b.lastRefill + BitVec.ofNat 64 (n * period) }

/-- A bucket as it is now. -/
def State.refilled (s : State) (b : Bucket) : Bucket := b.refill s.clock (s.cfg 0x2700 1) (s.cfg 0x2700 2)

/-- Spends one token. -/
def Bucket.spend (b : Bucket) : Bucket := { b with tokens := b.tokens - 1 }

/-- A source of STORM records (R294, R295). -/
structure StormSource where
  originator : Originator
  source : BitVec 2
  input : Nat
  partition : Nat
deriving DecidableEq, Repr

/-- Writes a STORM record, unless one of the same source was written within StormNotifyQuiet (R294). The result is the
state and whether the record was made. -/
def State.stormNote (s : State) (f : StormSource) (reason : Nat) (last : Option Time) (longest count : Nat) : State × Bool :=
  let quiet := match last with
    | some t => decide (elapsed t s.clock < s.cfg 0x2700 4 f.partition)
    | none => false
  if quiet || decide (16 ≤ f.partition) then (s, false)
  else
    (s.notifyRing f.partition 5 f.partition
      (pack 96 [⟨71, 25, f.originator.toNat⟩, ⟨69, 2, f.source.toNat⟩, ⟨65, 4, f.input⟩, ⟨63, 2, reason⟩,
        ⟨32, 31, satNat 31 (longest / 512)⟩, ⟨0, 32, satNat 32 count⟩]), true)

/-- Counts an event of a bucket and writes its STORM record (R294). -/
def State.stormBucket (s : State) (f : StormSource) (reason : Nat) (b : Bucket) (n : Nat) : State × Bucket :=
  let r := s.stormNote f reason b.lastNote (if reason = 0 then b.longest else 0) (b.count + n)
  (r.1, if r.2 then { b with count := 0, longest := 0, lastNote := some s.clock } else { b with count := b.count + n })

/-- The source that a lane's bucket stands for. -/
def State.laneSource (s : State) (p lane : Nat) : StormSource :=
  { originator := s.laneOrig p lane, source := srcPort, input := 0, partition := s.portPart p }

/-- Sets the bucket of a lane to its present contents. -/
def State.refillLane (s : State) (p lane : Nat) : State :=
  s.modPort p fun x => x.setBucket (laneEngine lane) (s.refilled (x.bucket (laneEngine lane)))

/-- Spends one token of a lane. -/
def State.spendLane (s : State) (p lane : Nat) : State :=
  (s.refillLane p lane).modPort p fun x => x.setBucket (laneEngine lane) (x.bucket (laneEngine lane)).spend

/-- An op held back by an empty bucket: its count and its STORM record. -/
def State.bucketHold (s : State) (p lane : Nat) : State :=
  let r := s.stormBucket (s.laneSource p lane) 0 ((s.port p).bucket (laneEngine lane)) 1
  r.1.modPort p fun x => x.setBucket (laneEngine lane) r.2

/-- The end of a hold: its length, if it is the longest since the last record. -/
def State.bucketHeld (s : State) (p : Nat) (h : ShimOp) : State :=
  s.modPort p fun x =>
    let b := x.bucket (laneEngine h.lane)
    x.setBucket (laneEngine h.lane) { b with longest := max b.longest (elapsed h.since s.clock) }

/-! ### Pending entries and the op-issue interface (R266, R299) -/

/-- An op that is not posted although its NORESP flag is set (R119). -/
def unpost (o : OpFields) : OpFields := { o with flags := { o.flags with noresp := false } }

/-- Check 1 on an op at a shim. -/
def ShimOp.check (h : ShimOp) : Option Status := checkOne (opcodeOf h.opcode) h.op (h.lane = 0) false
/-- The op as its refusal at check 1 sees it: one whose NORESP flag breaks R119 is answered as a non-posted op. -/
def refusedOp (c : Option Opcode) (o : OpFields) : OpFields := if opPosted c o.flags then o else unpost o
/-- A near op that passes check 1; it holds no pending entry. -/
def ShimOp.isNear (h : ShimOp) : Bool := h.op.flags.near && h.check.isNone
/-- Whether an op needs a pending entry (R266, R119). -/
def ShimOp.needsEntry (h : ShimOp) : Bool :=
  !opPosted (opcodeOf h.opcode) h.op.flags && (h.check.isSome || !h.op.flags.near)

/-- The entries that an op may take: entry 63 is the reserved one of R266. -/
def Port.usableEntry (x : Port) (h : ShimOp) : Option Nat :=
  let used := x.pend.map Pend.entry
  if h.lane = 0 ∧ codeService h.opcode = true ∧ used.contains 63 = false then some 63
  else lowestFree 0 63 (used.filter fun n => decide (n < 63))

/-- Two lanes of one originator (R25): the control core shares engine 0's. -/
def sameOriginator (a b : Nat) : Bool := laneEngine a = laneEngine b

/-- What keeps an op at the op-issue interface (R299). -/
inductive IssueHold where
  | free | bucket | other
deriving DecidableEq, Repr

/-- R299, R126: whether the shim takes an op now, those behind it on its lane left aside. -/
def State.issueHold (s : State) (p : Nat) (h : ShimOp) : IssueHold :=
  let x := s.port p
  if !s.live || x.rstLow then .other
  else if h.needsEntry && (x.usableEntry h).isNone then .other
  else if x.drains.any fun d => sameOriginator d.lane h.lane then .other
  else if x.nearWaits.any fun w => w.lane = h.lane then .other
  else if x.fences.any fun f => sameOriginator f.lane h.lane then .other
  else if (s.refilled (x.bucket (laneEngine h.lane))).tokens = 0 then .bucket
  else .free

/-! ### PARK and UNPARK (R274 to R277) -/

/-- The operand of PARK and UNPARK (R113). -/
def parkOperand (v : BitVec 64) : ParkEntry :=
  { who := if v.getLsbD 12 && v.getLsbD 11 then .all else if v.getLsbD 12 then .core else if v.getLsbD 11 then .engines
      else .engine (getFld v 8 3).toNat
    context := getFld v 0 8 }

/-- R274: the ops that an entry covers and whose responses are not delivered. -/
def Port.undelivered (x : Port) (e : ParkEntry) : Nat :=
  let held := x.parkHeld ++ x.holdStore ++ x.inval.map Prod.fst
  (x.pend.filter fun q => e.covers q.lane q.context && !codeService q.opcode &&
    !(x.lanes.any fun r => r.entry = some q.entry)).length +
  (x.nearWaits.filter fun w => e.covers w.lane w.context).length +
  (x.drains.filter fun d => e.covers d.lane d.context && d.isNear && !d.op.flags.noresp).length +
  (held.filter fun r => e.covers r.lane r.context && r.entry.isNone).length

/-- R275: the responses that a new entry comes to hold. -/
def Port.parkNow (x : Port) : Port :=
  let inval := x.inval.filter fun r => !r.2 && x.parks r.1
  { x with
    parkHeld := x.parkHeld ++ x.holdStore.filter x.parks ++ inval.map Prod.fst
    holdStore := x.holdStore.filter fun r => !x.parks r
    inval := x.inval.filter fun r => r.2 || !x.parks r.1 }

/-- PARK: the state, its status and its result. -/
def State.park (s : State) (p : Nat) (v : BitVec 64) : State × Status × Nat :=
  let x := s.port p
  let e := parkOperand v
  if x.parked.contains e then (s, .ok, satResult 16 (x.undelivered e))
  else if 32 ≤ x.parked.length then (s, .overrun, 0)
  else (s.setPort p { x with parked := x.parked ++ [e] }.parkNow, .ok, satResult 16 (x.undelivered e))

/-- UNPARK: the state, its status and its result. -/
def State.unpark (s : State) (p : Nat) (v : BitVec 64) : State × Status × Nat :=
  let x := s.port p
  let y := { x with parked := x.parked.erase (parkOperand v) }
  let out := x.parkHeld.filter fun r => !y.parks r
  ((s.setPort p { y with parkHeld := x.parkHeld.filter y.parks }).offerAll p out, .ok, satResult 16 out.length)

/-! ### HOLD and RESUME (R477 to R479) -/

/-- Puts a stored response into stamp order (R278). -/
def insertRsp (r : Rsp) : List Rsp → List Rsp
  | [] => [r]
  | q :: qs =>
    if older r.aged r.stamp (fairKey r.originator srcPort) q.aged q.stamp (fairKey q.originator srcPort) then r :: q :: qs
    else q :: insertRsp r qs

/-- The stored responses of a port in the order in which RESUME delivers them. -/
def State.storedOrder (s : State) (p : Nat) : List Rsp :=
  ((s.port p).holdStore.map fun r => { r with aged := s.isAged r.stamp }).foldl (fun rs r => insertRsp r rs) []

/-- Delivers what a port has stored. -/
def State.releaseStore (s : State) (p : Nat) : State :=
  (s.modPort p fun x => { x with holdStore := [] }).offerAll p (s.storedOrder p)

/-- HoldStoredCount (R482). -/
def State.storedCount (s : State) (q : Nat) : Nat := (s.partPorts q).foldl (fun n p => n + (s.port p).holdStore.length) 0

/-- The HOLD record (R469): a hold takes force or ends here. -/
def State.recordHold (s : State) (q how : Nat) : State :=
  s.record { s.folioOf 0x11 q with aux := how, data := BitVec.ofNat 64 (s.storedCount q) }

/-- The hold takes force here, if it is not in force already. -/
def State.holdHere (s : State) (q : Nat) : State :=
  if (s.part q).hold.held then s
  else (s.modPart q fun x => { x with hold := { x.hold with held := true } }).recordHold q 0

/-- The resume takes force here: the hold ends and the stored responses are delivered (R278). -/
def State.resumeHere (s : State) (q : Nat) : State :=
  if (s.part q).hold.held then
    ((s.recordHold q 1).modPart q fun x => { x with hold := { x.hold with held := false } }).each State.releaseStore
      (s.partPorts q)
  else s

/-- The conclusion of a HOLD, RESUME, PARK, UNPARK or FENCE in the shim. -/
def State.serviceDone (s : State) (p : Nat) (e : Pend) (st : Status) (result : Nat) : State :=
  let o := s.pendOp p e
  let s1 := s.shimReach o
  let s2 := if st.good then s1.recordOp o st result else s1.countRefused o st
  s2.answerPend p e st result 0

/-- Answers whoever waits for a HOLD or RESUME (R479). -/
def State.answerHold (s : State) (w : HoldWaiter) (failed : Bool) : State :=
  match w with
  | .op p n =>
    match (s.port p).pend.find? fun e => e.entry = n && !e.arrived with
    | some e => s.serviceDone p e (if failed then .unreachable else .ok) 0
    | none => s
  | .cat h => s.catFinish h .done
  | .nobody => s

/-- An exchange ends: the hubs that have not acknowledged count as failed (R479). -/
def State.holdDone (s : State) (q : Nat) (e : HoldXchg) : State :=
  let s1 := s.modPart q fun x => { x with hold := { x.hold with xs := x.hold.xs.erase e } }
  (s1.bumpN 0x6050 5 q e.peers.length).answerHold e.waiter (e.failed || !e.peers.isEmpty)

/-- Sends a HOLD_CTL request to each hub of a list. -/
def State.sendHold (s : State) (q : Nat) (k : HoldKind) (seq : BitVec 8) : List HubId → State
  | [] => s
  | h :: hs =>
    (s.send { hdr := s.hdrTo h q, body := .holdCtl k { seq := seq, requester := s.hub } }).sendHold q k seq hs

/-- Starts a hold or a resume of partition `q` for a waiter (R477, R479); the first request number is a free value. -/
def State.startHold (s : State) (q : Nat) (resume all : Bool) (w : HoldWaiter) : State :=
  let s1 := if resume then s.resumeHere q else s.holdHere q
  if all then
    let named := s1.namedHubs q
    let peers := named.filter fun h => s1.reachableAt h 2
    let lost := named.length - peers.length
    let n := (s1.part q).hold.seq + 1
    let e : HoldXchg := { resume := resume, peers := peers, failed := decide (0 < lost), seq := Config.firstSeq 1 + n,
                          since := s.clock, waiter := w }
    let s2 := s1.modPart q fun x => { x with hold := { x.hold with xs := x.hold.xs ++ [e], seq := n } }
    let s3 := (s2.bumpN 0x6050 5 q lost).sendHold q (if resume then .resumeReq else .holdReq) e.seq peers
    if peers = [] then s3.holdDone q e else s3
  else s1.answerHold w false

/-- R477: a HOLD on a partition that is already held completes with OK and changes nothing. -/
def State.beginHold (s : State) (q : Nat) (all : Bool) (w : HoldWaiter) : State :=
  if (s.part q).hold.held then s.answerHold w false else s.startHold q false all w

/-! ### FENCE (R121) -/

/-- Learns which of a shim's silent ops have been performed at their homes; a free value says so for each. -/
def State.pollAway (s : State) (kept : List AwayOp) : List AwayOp → State × List AwayOp
  | [] => (s, kept)
  | a :: as =>
    if a.silent then
      let k := s.free
      if Config.farPerformed k then s.fresh.pollAway kept as else s.fresh.pollAway (kept ++ [a]) as
    else s.pollAway (kept ++ [a]) as

/-- Polls a port's outstanding ops. -/
def State.pollPort (s : State) (p : Nat) : State :=
  let r := s.pollAway [] (s.port p).away
  r.1.modPort p fun x => { x with away := r.2 }

/-- R121: no earlier op of the originator is outstanding. -/
def Port.fenceClear (x : Port) (lane : Nat) : Bool := !(x.away.any fun a => a.engine = laneEngine lane)

/-- A FENCE whose condition may hold: completed, or kept. -/
def State.tryFence (s : State) (p : Nat) (h : ShimOp) : State :=
  let x := s.port p
  if x.fenceClear h.lane then
    let s1 := s.setPort p { x with fences := x.fences.erase h }
    match x.pend.find? fun e => some e.entry = h.entry with
    | some e => s1.serviceDone p e .ok 0
    | none => s1
  else s

/-- Completes the FENCEs of a port whose condition holds. -/
def State.tryFences (s : State) (p : Nat) : List ShimOp → State
  | [] => s
  | h :: hs => (s.tryFence p h).tryFences p hs

/-! ### An op in its shim -/

/-- The op of a control core that acts on its issuer (R113); its checks 2 leave out the reslice, which names blocking ops
and INIT only. -/
def State.serviceOp (s : State) (p : Nat) (h : ShimOp) (e : Pend) (c : Opcode) : State :=
  let q := s.portPart p
  let all := h.op.operand.getLsbD 0
  match s.portGate p h.opcode with
  | some st => ((s.actOp (s.pendOp p e)).countRefused (s.pendOp p e) st).answerPend p e st 0 0
  | none =>
    match c with
    | .park => let r := s.park p h.op.operand; r.1.serviceDone p e r.2.1 r.2.2
    | .unpark => let r := s.unpark p h.op.operand; r.1.serviceDone p e r.2.1 r.2.2
    | .hold => (s.spendLane p h.lane).beginHold q all (.op p e.entry)
    | .resume => (s.spendLane p h.lane).startHold q true all (.op p e.entry)
    | .fence =>
      let s1 := s.pollPort p
      (s1.modPort p fun x => { x with fences := x.fences ++ [h] }).tryFence p h
    | _ => s

/-- An accepted op, past its release drain: near, acting on its issuer, or on its way into the hub (R292, R401). -/
def State.runOp (s : State) (p : Nat) (h : ShimOp) : State :=
  match opcodeOf h.opcode with
  | none => s
  | some c =>
    if h.isNear then
      s.performNear p { lane := h.lane, index := (getFld h.op.handle 0 6).toNat, opcode := h.opcode, op := h.op,
                        context := h.context, stamp := s.time.stamp } c
    else if opService c then
      match (s.port p).pend.find? fun e => some e.entry = h.entry with
      | some e => s.serviceOp p h e c
      | none => s
    else
      let s1 := s.spendLane p h.lane
      let o := s1.portOp p h
      match s1.portGate p h.opcode with
      | some st => s1.refuse o st
      | none => s1.forwardOp o

/-- Takes a pending entry for an op that needs one. -/
def State.takeEntry (s : State) (p : Nat) (h : ShimOp) : State × ShimOp :=
  let x := s.port p
  match (if h.needsEntry then x.usableEntry h else none) with
  | some n =>
    let e : Pend := { entry := n, lane := h.lane, opcode := h.opcode
                      op := if h.check.isSome then refusedOp (opcodeOf h.opcode) h.op else h.op, context := h.context
                      stamp := s.time.stamp, handle := h.op.handle }
    (s.setPort p { x with pend := x.pend ++ [e] }, { h with entry := some n })
  | none => (s, h)

/-- The shim accepts an op: its pending entry, check 1, and its release drain (R93, R126). -/
def State.acceptOp (s : State) (p : Nat) (h : ShimOp) : State :=
  let r := s.takeEntry p h
  match h.check with
  | some st =>
    match (r.1.port p).pend.find? fun e => some e.entry = r.2.entry with
    | some e => ((r.1.actOp (r.1.pendOp p e)).countRefused (r.1.pendOp p e) st).answerPend p e st 0 0
    | none => (r.1.actOp (r.1.portOp p h)).countRefused (r.1.portOp p h) st
  | none =>
    if h.op.flags.rel then r.1.modPort p fun x => { x with drains := x.drains ++ [{ r.2 with since := s.clock }] }
    else r.1.runOp p r.2

/-- An op presented on a lane: accepted now, or held at the op-issue interface (R298, R299). -/
def State.issueOp (s : State) (p : Nat) (h : ShimOp) : State :=
  match (if (s.port p).issue.any fun q => q.lane = h.lane then .other else s.issueHold p h) with
  | .free => s.acceptOp p h
  | .bucket =>
    ((s.refillLane p h.lane).bucketHold p h.lane).modPort p fun x => { x with issue := x.issue ++ [{ h with since := s.clock }] }
  | .other => s.modPort p fun x => { x with issue := x.issue ++ [{ h with since := s.clock }] }

/-- Tries the ops that wait at a port's op-issue interface, each once, in the order in which they were presented. -/
def State.retryOps (s : State) (p : Nat) : List ShimOp → State
  | [] => s
  | h :: hs =>
    let x := s.port p
    let s0 := s.setPort p { x with issue := x.issue.erase h }
    let mine := x.issue.find? fun q => q.lane = h.lane
    if mine = some h ∧ s0.issueHold p h = .free then ((s0.bucketHeld p h).acceptOp p h).retryOps p hs
    else s.retryOps p hs

/-- What a port can do after a change: FENCEs complete, and the ops that wait are taken (R299). -/
def State.wakePort (s : State) (p : Nat) : State :=
  let s1 := if (s.port p).fences = [] then s else s.pollPort p
  let s2 := s1.tryFences p (s1.port p).fences
  s2.retryOps p (s2.port p).issue

/-- An op command of a core lane. -/
def State.coreOp (s : State) (p lane : Nat) (ctx : BitVec 8) (code : BitVec 6) (op : OpFields) : State :=
  s.issueOp p { lane := lane, opcode := code, op := op, context := ctx, since := s.clock }

/-! ### The events of a shim -/

/-- R304: the drains that are left after one has ended; the next of them begins. -/
def nextDrains (t : Time) : List ShimOp → List ShimOp
  | [] => []
  | d :: ds => { d with since := t } :: ds

/-- R303, R304: the outstanding-write count reads zero, and the op of the drain is forwarded. -/
def State.endDrain (s : State) (p : Nat) : State :=
  match (s.port p).drains with
  | [] => s
  | d :: ds =>
    ((s.setPort p { s.port p with drains := nextDrains s.clock ds, drainNoted := false }).runOp p d).wakePort p

/-- R305, R306: the surroundings acknowledge the invalidate. -/
def State.ackInval (s : State) (p : Nat) : State :=
  let x := s.port p
  if x.stgInval then
    let r := invalSplit [] x.inval
    let s1 := (s.setPort p { x with inval := r.2 }).deliverCovered p r.1
    (s1.modPort p fun y => y.raisePulse s.clock).wakePort p
  else s.bump 0x2B00 6

/-- R301, R266: an issuer reads a beat; the last one frees the pending entry. -/
def State.readBeat (s : State) (p lane : Nat) : State :=
  let x := s.port p
  match x.lanes.find? fun r => r.lane = lane with
  | none => s
  | some r =>
    if r.value.isSome && !r.beat2 then
      s.setPort p { x with lanes := x.lanes.map fun q => if q = r then { q with beat2 := true } else q }
    else
      (s.setPort p { x with lanes := x.lanes.erase r
                            pend := x.pend.filter fun e => some e.entry ≠ r.entry }).wakePort p

/-- R302, R218: the core removes the head ticket, and a buffered one may take its place. -/
def State.removeTicket (s : State) (p : Nat) : State :=
  match (s.port p).tickets with
  | [] => s
  | _ :: ts => ((s.setPort p { s.port p with tickets := ts }).act (s.portPart p)).drainTickets

/-- Since when a drain or an invalidate waits on the surroundings that has not been noted. -/
def Port.waitsSince (x : Port) (sig : SurroundSignal) : Option Time :=
  match sig with
  | .drain => if x.drainNoted then none else x.drains.head?.map ShimOp.since
  | .invalidate => if x.stgInval && !x.invalNoted then some x.invalSince else none

/-- A drain or an invalidate is noted once. -/
def Port.noteWait (x : Port) (sig : SurroundSignal) : Port :=
  match sig with
  | .drain => { x with drainNoted := true }
  | .invalidate => { x with invalNoted := true }

/-- R307: a drain or an invalidate has waited longer than ShimSurroundWait. -/
def State.surroundWait (s : State) (p : Nat) (sig : SurroundSignal) : State :=
  match (s.port p).waitsSince sig with
  | none => s
  | some t =>
    if s.cfg 0x2B00 4 < elapsed t s.clock then
      let s1 := (s.modPort p fun x => x.noteWait sig).bump 0x2B00 5
      s1.record { s1.folioAny 0x0D (s.portPart p) with
        handle := BitVec.ofNat 32 p, aux := match sig with | .drain => 1 | .invalidate => 2
        data := BitVec.ofNat 64 (elapsed t s.clock / 256) }
    else s

end Sys2Proof.Machine
end

