-- ==== Sys2Proof/Machine/Aperture.lean ====
section
/-! DEFINITION. The AXI5 subordinate (R313 to R325, R293): op writes to issue slots, template writes, refused accesses, and
the answers that come back. -/

namespace Sys2Proof.Machine

/-! ### Answers on the bus -/

/-- An access that completes with SLVERR, counted in ApertureRefusedCount of its partition (R320). -/
def State.slverr (s : State) (slot block : Option Nat) (p : Nat) : State :=
  (s.bump 0x2900 9 p).drive (.axiResp slot block true false)

/-- An op or template write as the hub stamps it (R255, R319, R323); entry `n` of the return reference is 0 for an op and
the number of a template write otherwise. -/
def State.slotHome (s : State) (g : Nat) (h : SlotOp) (n : Nat) : HomeOp :=
  let q := s.slotPart g
  let dl := s.opDeadline q h.opcode h.op.tsel
  { opcode := h.opcode, op := h.op, originator := s.orig g, source := srcAperture
    cls := if h.host then clsHost else clsDma, partition := q, epoch := s.epoch q, stamp := s.time.stamp, aged := false
    context := 0, dlValid := dl.1, deadline := dl.2, retref := BitVec.ofNat 6 n ++ (s.slot g).generation
    resent := false, entered := s.time.low22 }

/-! ### Buckets (R293) -/

/-- Whether a slot's bucket is empty now. -/
def State.slotEmpty (s : State) (g : Nat) : Bool := decide ((s.refilled (s.slot g).bucket).tokens = 0)

/-- Spends one token of a slot. -/
def State.spendSlot (s : State) (g : Nat) : State :=
  s.modSlot g fun x => { x with bucket := (s.refilled x.bucket).spend }

/-- The source that a slot's bucket stands for. -/
def State.slotSource (s : State) (g : Nat) : StormSource :=
  { originator := s.orig g, source := srcAperture, input := 0, partition := s.slotPart g }

/-- A STORM record of a slot: reason 0 for a hold, 1 for STORM_LIMITED (R294). -/
def State.slotStorm (s : State) (g reason : Nat) : State :=
  let r := s.stormBucket (s.slotSource g) reason (s.refilled (s.slot g).bucket) 1
  r.1.modSlot g fun x => { x with bucket := r.2 }

/-! ### Ops (R317 to R321) -/

/-- Concludes an op that the subordinate decides itself (R325). -/
def State.slotDone (s : State) (g : Nat) (h : SlotOp) (st : Status) : State :=
  let o := s.slotOp g h
  let s1 := s.shimReach o
  let s2 := if st.good then s1.recordOp o st 0 else s1.countRefused o st
  s2.modSlot g fun x => x.answer (respWord st h.op.tag 0) (valueBeat h.opcode st 0)

/-- An op that fails check 1, or check 2 as a FENCE. -/
def State.slotRefuse (s : State) (g : Nat) (h : SlotOp) (st : Status) : State :=
  let o := s.slotOp g { h with op := refusedOp (opcodeOf h.opcode) h.op }
  let s1 := (s.actOp o).countRefused o st
  if o.op.flags.noresp then s1
  else s1.modSlot g fun x => x.answer (respWord st h.op.tag 0) (valueBeat h.opcode st 0)

/-- Checks 2 to 6 of an op of the aperture; `limited` is the failure of check 4 (R293). -/
def State.slotForward (s : State) (g : Nat) (h : SlotOp) (limited : Bool) : State :=
  let o := s.slotHome g h 0
  match s.gate o.partition h.opcode with
  | some st => s.refuse o st
  | none =>
    if limited then
      match s.absolute o with
      | none => s.refuse o .badHandle
      | some a => (s.refuse a .stormLimited).slotStorm g 1
    else (s.spendSlot g).forwardOp o

/-- Polls a slot's outstanding ops (R121). -/
def State.pollSlot (s : State) (g : Nat) : State :=
  let r := s.pollAway [] (s.slot g).away
  r.1.modSlot g fun x => { x with away := r.2 }

/-- A FENCE of a slot whose condition may hold. -/
def State.trySlotFence (s : State) (g : Nat) : State :=
  match (s.slot g).fence with
  | none => s
  | some h =>
    let s1 := s.pollSlot g
    if (s1.slot g).away = [] then
      (s1.modSlot g fun x => { x with fence := none }).slotDone g h .ok
    else s1

/-! ### Template writes (R323) -/

/-- The number of a template write that is under way, over all slots. -/
def State.templateNums (s : State) : List Nat :=
  s.slots.flatMap fun x => x.2.away.filterMap fun a => if a.entry = some 0 then none else a.entry

/-- The AXI5 response of a template write (R323). -/
def State.templateAnswer (s : State) (g : Nat) (ok : Bool) : State :=
  if ok then s.drive (.axiResp (some g) none false false) else s.slverr (some g) none (s.slotPart g)

/-- A template write that its originating hub refuses (R206). -/
def State.templateFails (s : State) (g : Nat) : State := (s.templateRefused (s.slotPart g)).templateAnswer g false

/-- Checks 2 to 6 of a template write, and its home. `n` is its number while another hub decides it. -/
def State.templateForward (s : State) (g : Nat) (h : SlotOp) (n : Nat) (limited : Bool) : State :=
  let o := s.slotHome g h n
  match s.gate o.partition 0, s.absolute o with
  | none, some a =>
    let home := handleHub a.op.handle
    if s.stageIsOut 24 then s.templateFails g
    else if limited then (s.templateFails g).slotStorm g 1
    else
      let s1 := s.spendSlot g
      if !s1.reachable home then s1.templateFails g
      else if home = s.hub then
        let r := s1.performTemplate a
        r.1.templateAnswer g (r.2 = .ok)
      else if s1.routeLevel home = 1 then s1.templateFails g
      else (s1.modSlot g fun x => { x with away := x.away ++ [{ engine := 0, entry := some n, silent := false }] }).send
        (s1.opMsg a)
  | _, _ => s.templateFails g

/-! ### Acceptance -/

/-- An op or template write past acceptance and past any FENCE of its slot. -/
def State.slotRun (s : State) (g : Nat) (h : SlotOp) (limited : Bool) : State :=
  if h.opcode = 0 then
    match lowestFree 1 16 s.templateNums with
    | some n => s.templateForward g h n limited
    | none => s.templateFails g
  else s.slotForward g h limited

/-- What the subordinate notes of a non-posted op (R321). -/
def Slot.begin (x : Slot) (h : SlotOp) (now : Time) : Slot :=
  { x with
    busy := true, done := false, tag := h.op.tag
    sent := some { entry := 0, lane := 0, opcode := h.opcode, op := unpost h.op, context := 0, stamp := now.stamp
                   handle := h.op.handle } }

/-- The subordinate accepts a write of an op or a template (R319 to R323). -/
def State.slotAccept (s : State) (g : Nat) (h : SlotOp) (limited : Bool) : State :=
  let x := s.slot g
  if h.opcode = 0 then
    let s0 := s.pcount 19 (s.slotPart g) 16
    if x.fence.isSome then s0.setSlot g { x with held := x.held ++ [h] } else s0.slotRun g h limited
  else
    let c := opcodeOf h.opcode
    let posted := opPosted c h.op.flags
    if x.busy && !posted then s.slverr (some g) none (s.slotPart g)
    else
      let s1 := (s.pcount 19 (s.slotPart g) (if h.op.flags.x2 then 32 else 16)).drive (.axiResp (some g) none false false)
      let s2 := if posted then s1 else s1.setSlot g (x.begin h s.time)
      match checkOne c h.op false true with
      | some st => s2.slotRefuse g h st
      | none =>
        if x.fence.isSome then s2.modSlot g fun y => { y with held := y.held ++ [h] }
        else if h.opcode = opCode .fence then
          match s2.gate (s.slotPart g) h.opcode with
          | some st => s2.slotRefuse g h st
          | none => (s2.modSlot g fun y => { y with fence := some h }).trySlotFence g
        else s2.slotRun g h limited

/-- Whether the subordinate must wait before it accepts a write: an empty bucket, or 16 template writes outstanding. -/
def State.slotWaits (s : State) (g : Nat) (h : SlotOp) : Bool :=
  s.slotEmpty g || (h.opcode = 0 && (lowestFree 1 16 s.templateNums).isNone)

/-- Accepts the stalled writes of a slot: those that need not wait any more, and, where `force` is set, those that an empty
bucket holds, which fail check 4 (R293). -/
def State.acceptStalled (s : State) (g : Nat) (force : Bool) : List SlotOp → State
  | [] => s
  | h :: hs =>
    let empty := s.slotEmpty g
    if s.slotWaits g h && !(force && empty) then s
    else
      let s1 := s.modSlot g fun x =>
        let b := s.refilled x.bucket
        { x with stalled := hs.map fun q => { q with since := s.clock }
                 bucket := { b with longest := max b.longest (elapsed h.since s.clock) } }
      (s1.slotAccept g h empty).acceptStalled g force hs

/-- The writes that a FENCE held go on (R121). -/
def State.runHeld (s : State) (g : Nat) : List SlotOp → State
  | [] => s
  | h :: hs => (s.slotRun g h false).runHeld g hs

/-- What a slot can do after a change. -/
def State.wakeSlot (s : State) (g : Nat) : State :=
  let s1 := s.trySlotFence g
  let s2 := if (s1.slot g).fence.isNone then
      (s1.modSlot g fun x => { x with held := [] }).runHeld g (s1.slot g).held
    else s1
  s2.acceptStalled g false (s2.slot g).stalled

/-- R293: the stalled writes of every other slot complete, since this one waits behind them. -/
def State.endStalls (s : State) (g : Nat) : State :=
  s.each (fun s q => s.acceptStalled q true (s.slot q).stalled)
    (s.slots.keys.filter fun q => q ≠ g && !(s.slot q).stalled.isEmpty)

/-- A write of an op or a template to a slot. -/
def State.slotWrite (s : State) (g : Nat) (h : SlotOp) : State :=
  let s1 := s.endStalls g
  if !(s1.slot g).stalled.isEmpty || s1.slotWaits g h then
    let s2 := if s1.slotEmpty g then s1.slotStorm g 0 else s1
    s2.modSlot g fun x => { x with stalled := x.stalled ++ [{ h with since := s.clock }] }
  else s1.slotAccept g h false

/-- R550: before the hub is operational, an access is answered with SLVERR and counts nothing; in reset it is not
answered. -/
def State.notServing (s : State) (slot block : Option Nat) : State :=
  if s.phase = .starting then s.drive (.axiResp slot block true false) else s

/-- An op command of the aperture. -/
def State.apertureOp (s : State) (g : Nat) (host : Bool) (code : BitVec 6) (op : OpFields) : State :=
  if s.live then s.slotWrite g { opcode := code, op := op, host := host, since := s.clock }
  else s.notServing (some g) none

/-- A template write at a slot (R323): word code 0b11 is refused by the subordinate. -/
def State.apertureTemplate (s : State) (g : Nat) (host : Bool) (word : BitVec 2) (handle : Handle) (data : BitVec 64) :
    State :=
  let flags : OpFlags := { rel := false, acq := false, noresp := false, near := false, sense := false, x2 := false }
  let op : OpFields := { flags := flags, tsel := (0 : BitVec 2) ++ word, tag := 0, handle := handle, operand := data, opb := 0 }
  if !s.live then s.notServing (some g) none
  else if word = 3 then s.slverr (some g) none (s.slotPart g)
  else s.slotWrite g { opcode := 0, op := op, host := host, since := s.clock }

/-- An access that the subordinate refuses (R313, R315, R316, R320). A read of a listed or reserved offset of the right
size is no refusal. -/
def State.apertureRefuse (s : State) (area : ApertureArea) (why : ApertureFault) (isRead : Bool) : State :=
  let slot := match area with | .slot g => some g | _ => none
  let block := match area with | .block p => some p | _ => none
  if !s.live then s.notServing slot block
  else match area with
    | .reserved => s.drive (.axiResp none none false true)
    | .slot g =>
      if isRead && why ≠ .badTransfer then s.drive (.axiResp slot none false false) else s.slverr slot none (s.slotPart g)
    | .block p =>
      if s.partCount ≤ p then s.drive (.axiResp none block false true)
      else if isRead && why ≠ .badTransfer then s.drive (.axiResp none block false false)
      else s.slverr none block p

/-- R293: an op has been held for ApertureStallLimit. -/
def State.stallLimit (s : State) (g : Nat) : State :=
  match (s.slot g).stalled with
  | [] => s
  | h :: hs =>
    if s.slotEmpty g && decide (s.cfg 0x2700 3 ≤ elapsed h.since s.clock) then
      (s.acceptStalled g true [h]).modSlot g fun x => { x with stalled := hs.map fun q => { q with since := s.clock } }
    else s

/-- R292, R293: a bucket gains what has accrued, and an op that it holds is taken. -/
def State.refillBucket (s : State) (b : BucketId) : State :=
  match b with
  | .engine p e => (s.refillLane p (e + 1)).wakePort p
  | .slot g => (s.modSlot g fun x => { x with bucket := s.refilled x.bucket }).wakeSlot g

/-- A response leaves the return path (R268, R321), and what waited on it goes on. -/
def State.completionDelivery (s : State) (t : RspTarget) : State :=
  match s.rets.find? fun r => r.target = t with
  | none => s
  | some r =>
    let s1 := s.deliverNext t
    match t with
    | .port p => s1.wakePort p
    | .aperture => s1.wakeSlot r.sel.toNat

end Sys2Proof.Machine
end

