-- ==== Sys2Proof/Machine/Manager.lean ====
section
/-! DEFINITION. The AXI5 manager's write responses (R213, R327, R330 to R333), the consumer indices (R215), the settings of
the rings (R216, R332), and the Inventory, which the manager writes (R488 to R493). -/

namespace Sys2Proof.Machine

/-! ### Write responses -/

/-- The oldest outstanding write of some kinds; writes of one kind complete in issue order (R326). -/
def State.oldestWrite (s : State) (ks : List MgrKind) : Option MgrWrite := s.mgr.find? fun w => ks.contains w.kind

/-- A write has received OKAY: it is over, and its bytes count for its partition (R455). -/
def State.wrote (s : State) (w : MgrWrite) : State := { s with mgr := s.mgr.erase w }.pcount 20 w.partition w.bytes

/-- The TRIGGER record (R213 step 3, R330). -/
def State.triggerNote (s : State) (p k producer : Nat) : State :=
  if s.tring k 6 p = 0 then s else s.notifyRing p 1 p (pack 96 [⟨64, 32, producer⟩, ⟨62, 2, k⟩])

/-- Steps 1 to 3 of R213, on the response of a ticket's write. -/
def State.ticketWritten (s : State) (w : MgrWrite) : State :=
  let p := w.partition
  let k := w.ring
  let n := (s.tring k 3 p + 1) % 2 ^ 32
  let s1 := (((s.wrote w).setCfg (0x2400 + k) 3 p n).act p)
  if s1.tring k 5 p ≠ 0 then
    s1.mgrIssue { kind := .mirror, partition := p, ring := k, addr := BitVec.ofNat 64 (s1.tring k 5 p)
                  data := BitVec.ofNat 512 n, bytes := 8, ticket := none }
  else s1.triggerNote p k n

/-- The response of a producer mirror's write (R213). -/
def State.mirrorWritten (s : State) (w : MgrWrite) : State :=
  (s.wrote w).triggerNote w.partition w.ring (getFld w.data 0 32 : BitVec 32).toNat

/-- The response of a notify record's write (R331, R333). -/
def State.notifyWritten (s : State) (w : MgrWrite) : State :=
  let r := w.partition
  let n := (s.ringCfg r 3 + 1) % 2 ^ 32
  ((s.wrote w).setCfg (ringIndex r) 3 (ringPart r) n).irq r

/-- The count and the record of a failed write (R327, R469). -/
def State.writeFailed (s : State) (w : MgrWrite) (resp : BitVec 2) : State :=
  let s1 := ({ s with mgr := s.mgr.erase w } : State).bump 0x2B00 3
  s1.record { s1.folioAny 0x0B w.partition with aux := resp.toNat, data := w.addr }

/-- R327: what follows a failed write of each kind. A mirror's response, though an error, lets the TRIGGER record follow
(DEDUCED, log entry 10). -/
def State.writeError (s : State) (w : MgrWrite) (resp : BitVec 2) : State :=
  let s1 := s.writeFailed w resp
  match w.kind with
  | .ticket =>
    let s2 := s1.setCfg (0x2400 + w.ring) 2 w.partition 0
    (match w.ticket with | some t => s2.overflowTicket t | none => s2).drainTickets
  | .mirror =>
    (s1.setCfg (0x2400 + w.ring) 5 w.partition 0).triggerNote w.partition w.ring (getFld w.data 0 32 : BitVec 32).toNat
  | .notify =>
    (s1.setCfg (ringIndex w.partition) 2 (ringPart w.partition) 0).bump (ringIndex w.partition) 8 (ringPart w.partition)
  | _ => s1

/-- The kinds of write that an ID carries: tickets, mirrors, notify records, and the regions of the Folio and the
Inventory. -/
def mgrKinds (k : BitVec 2) : List MgrKind :=
  if k = 0 then [.ticket] else if k = 1 then [.mirror] else if k = 2 then [.notify] else [.folio, .inventory]

/-- The end of a ring's holdoff (R333). -/
def State.holdoffEnd (s : State) (r : Nat) : State :=
  let ended := match (s.ring r).lastPulse with
    | some t => decide (s.ringCfg r 7 ≤ elapsed t s.clock)
    | none => true
  if (s.ring r).owed && ended && !s.refLost then (s.setRing r { s.ring r with owed := false }).irq r else s

/-! ### Indices and settings -/

/-- R215: whether a ring accepts a consumer index. -/
def consumerOk (producer consumer c : Nat) : Bool :=
  decide ((producer + 2 ^ 32 - c % 2 ^ 32) % 2 ^ 32 ≤ (producer + 2 ^ 32 - consumer) % 2 ^ 32)

/-- Moves a ticket ring's consumer index; buffered tickets may enter (R215, R218). -/
def State.moveTicketConsumer (s : State) (p k c : Nat) : Option State :=
  if consumerOk (s.tring k 3 p) (s.tring k 4 p) c then some (s.setCfg (0x2400 + k) 4 p c).drainTickets else none

/-- Moves a notify ring's consumer index. -/
def State.moveNotifyConsumer (s : State) (r c : Nat) : Option State :=
  if consumerOk (s.ringCfg r 3) (s.ringCfg r 4) c then some (s.setCfg (ringIndex r) 4 (ringPart r) c) else none

/-- A ring named by a command, as partition `p` reaches it. -/
def State.moveConsumer (s : State) (p : Nat) (ring : RingName) (c : Nat) : Option State :=
  match ring with
  | .ticket k => s.moveTicketConsumer p k c
  | .notify => s.moveNotifyConsumer p c
  | .hubNotify => s.moveNotifyConsumer 16 c

/-- A write of a ticket ring's base or size (R216). -/
def State.setTicketRing (s : State) (p k sub v : Nat) : State :=
  (((s.setCfg (0x2400 + k) sub p v).setCfg (0x2400 + k) 3 p 0).setCfg (0x2400 + k) 4 p 0).drainTickets

/-- A write of a notify ring's base or size (R332). -/
def State.setNotifyRing (s : State) (r sub v : Nat) : State :=
  let i := ringIndex r
  let p := ringPart r
  (((s.setCfg i sub p v).setCfg i 3 p 0).setCfg i 4 p 0).setRing r { s.ring r with nextSeq := 1 }

/-! ### Inventory (R488 to R493) -/

/-- What an entry of an Inventory holds beside its common fields (R489). -/
structure InvEntry where
  kind : Nat
  index : Nat
  aux : Nat
  body : BitVec 320
deriving DecidableEq, Repr

/-- A lender entry as stored (R179). -/
def Lender.word (e : Lender) (next : Option Nat) : BitVec 128 :=
  bit1 true ++ (match e.state with | .opened => (1 : BitVec 2) | .recalling => 2 | .lost => 3) ++ bit1 next.isSome ++
  BitVec.ofNat 12 (next.getD 0) ++ e.borrower ++ BitVec.ofNat 17 e.token ++ e.seq ++ bit1 e.req ++ (0 : BitVec 7) ++
  e.principal

/-- A ledger entry as stored (R180). -/
def State.ledgerWord (s : State) (e : Ledger) : BitVec 256 :=
  bit1 true ++ (0 : BitVec 2) ++ bit1 e.req ++ e.token ++ e.partition ++ e.seq ++ queueFields (s.ledgerQueue e.num) ++
  bit1 e.firstFit ++ (0 : BitVec 44) ++ e.spent ++ e.balance

/-- R496: an issuer of a port that waits. -/
def Port.issuerWaits (x : Port) (i : Nat) : Bool :=
  ((x.pend.any fun e => e.lane = i && codeBlocks e.opcode && !(x.lanes.any fun r => r.entry = some e.entry)) ||
   x.nearWaits.any fun w => w.lane = i) &&
  !(x.parked.any fun e => e.coversLane i)

/-- The PORT entry (R490). -/
def State.invPort (s : State) (p : Nat) : InvEntry :=
  let x := s.port p
  let near := (numsFrom 0 64).foldl (fun m n => if (x.nearObj n).otype ≠ .none then m + 2 ^ n else m) 0
  let waits := (numsFrom 0 9).foldl (fun m i => if x.issuerWaits i then m + 2 ^ i else m) 0
  { kind := 2, index := p, aux := 0
    body := pack 320 [⟨256, 64, near⟩, ⟨192, 64, x.nearFault.toNat⟩, ⟨185, 7, x.pend.length⟩, ⟨179, 6, x.parked.length⟩,
      ⟨174, 5, x.tickets.length⟩, ⟨170, 4, x.generation.toNat⟩, ⟨169, 1, bitNat (s.portHeld p)⟩, ⟨160, 9, waits⟩] }

/-- The HELDLOCK entries of a port. -/
def State.invLocks (s : State) (p : Nat) : List InvEntry :=
  (s.port p).heldLocks.map fun h =>
    { kind := 3, index := p * 64 + h.index, aux := 0
      body := pack 320 [⟨36, 7, p⟩, ⟨35, 1, bitNat h.delivered⟩, ⟨32, 3, h.engine.toNat⟩, ⟨0, 32, h.lock.toNat⟩] }

/-- The WAITER entries of a queue, in order. -/
def invWaiters : List Waiter → List InvEntry
  | [] => []
  | w :: ws => { kind := 5, index := w.num, aux := 0, body := w.word (ws.head?.map Waiter.num) } :: invWaiters ws

/-- The LENDER entries of a token, in list order. -/
def invLenders : List Lender → List InvEntry
  | [] => []
  | e :: es =>
    { kind := 6, index := e.num, aux := 0, body := (e.word (es.head?.map Lender.num)).setWidth 320 } :: invLenders es

/-- R491: whether an object is selected. -/
def State.invSelects (s : State) (i : Nat) (o : ObjRec) : Bool :=
  decide (o.otype ≠ .none) &&
  (decide (s.queue i ≠ []) || (o.loanable && decide (o.word1 ≠ 0)) || (decide (o.otype = .lock) && o.held) ||
   (decide (o.otype = .barrier) && decide (o.arrivals ≠ 0 ∨ o.nextArrivals ≠ 0)) || o.broken || o.faulted || o.abandoned)

/-- An object's entries (R491). -/
def State.invObject (s : State) (i : Nat) : List InvEntry :=
  { kind := 4, index := i, aux := (s.queue i).length, body := (s.recordWord i).setWidth 320 } ::
  (invWaiters (s.queue i) ++ invLenders (s.lenders.filter fun e => e.token = i))

/-- The credits that a link's peer has granted and this hub has not spent, 16 bits per buffer (R391). -/
def Link.creditWord (l : Link) : BitVec 64 :=
  BitVec.ofNat 16 (l.credits.getD 3 0) ++ BitVec.ofNat 16 (l.credits.getD 2 0) ++ BitVec.ofNat 16 (l.credits.getD 1 0) ++
  BitVec.ofNat 16 (l.credits.getD 0 0)

/-- The LINK entry (R490). No completion waits in a store of its own: a message that finds no credit waits in its link's
queue. -/
def State.invLink (s : State) (c : Nat) : InvEntry :=
  let l := s.link c
  { kind := 8, index := c, aux := 0
    body := pack 320 [⟨317, 3, linkCode l.state⟩, ⟨315, 2, l.version.toNat⟩, ⟨312, 3, l.lanes.toNat⟩,
      ⟨297, 15, (l.peer.getD 0).toNat⟩, ⟨233, 64, l.creditWord.toNat⟩, ⟨221, 12, l.replay.length⟩,
      ⟨208, 13, (l.txq.filter fun m => m.msg.body.isCpl).length⟩] }

/-- The HEADER entry. -/
def State.invHeader (s : State) (p reason : Nat) (round : BitVec 32) : InvEntry :=
  { kind := 1, index := 0, aux := 0
    body := pack 320 [⟨305, 15, s.hub.toNat⟩, ⟨300, 5, s.partCount⟩, ⟨292, 8, (s.epoch p).toNat⟩, ⟨288, 4, reason⟩,
      ⟨256, 32, round.toNat⟩] }

/-- Every entry of an Inventory but its END, in order (R491). -/
def State.invEntries (s : State) (p reason : Nat) (round : BitVec 32) : List InvEntry :=
  s.invHeader p reason round ::
  ((s.partPorts p).flatMap fun q => s.invPort q :: s.invLocks q) ++
  ((s.objs.filter fun x => s.partOfIndex x.1 = p && s.invSelects x.1 x.2).flatMap fun x => s.invObject x.1) ++
  ((s.ledgersOf p).flatMap fun e =>
    { kind := 7, index := e.num, aux := 0, body := (s.ledgerWord e).setWidth 320 } :: invWaiters (s.ledgerQueue e.num)) ++
  s.builtLinks.map s.invLink

/-- The END entry, for `n` entries with it. -/
def invEnd (n : Nat) (truncated aborted : Bool) : InvEntry :=
  { kind := 15, index := 0, aux := 0
    body := pack 320 [⟨288, 32, n⟩, ⟨287, 1, bitNat truncated⟩, ⟨286, 1, bitNat aborted⟩] }

/-- The write of one entry at position `n` (R489). -/
def State.invWrite (s : State) (p n : Nat) (e : InvEntry) : MgrWrite :=
  { kind := .inventory, partition := p, ring := 0, bytes := 64, ticket := none
    addr := BitVec.ofNat 64 (s.cfg 0x6040 1 p + n * 64)
    data := pack 512 [⟨504, 8, e.kind⟩, ⟨500, 4, p⟩, ⟨482, 18, e.index⟩, ⟨448, 32, n⟩, ⟨384, 64, s.time.toNat⟩,
      ⟨320, 64, e.aux⟩, ⟨0, 320, e.body.toNat⟩] }

/-- Issues the writes of entries from position `n` on. -/
def State.invIssue (s : State) (p n : Nat) : List InvEntry → State
  | [] => s
  | e :: es => (s.mgrIssue (s.invWrite p n e)).invIssue p (n + 1) es

/-- Takes an Inventory (R488): every entry in one step, then its writes; R493 truncates it. -/
def State.takeInventory (s : State) (p reason : Nat) (round : BitVec 32) : State :=
  let es := s.invEntries p reason round
  let room := s.cfg 0x6040 2 p / 64
  let cut := decide (room < es.length + 1)
  let kept := if cut then es.take (room - 1) else es
  let n := kept.length + 1
  let s1 := s.invIssue p 0 (kept ++ [invEnd n cut false])
  (s1.setCfg 0x6040 5 p n).modPart p fun x =>
    { x with inv := { running := true, entries := n, truncated := cut, aborted := false, reason := reason } }

/-- Why an Inventory cannot be taken now: 1 no base, 2 one is running, 0 it can (R488, R500). -/
def State.inventoryBar (s : State) (p : Nat) : Nat :=
  if s.cfg 0x6040 1 p = 0 then 1 else if (s.part p).inv.running then 2 else 0

/-- The writes that the manager has not yet put on its bus, beyond the 32 outstanding ones (R326). -/
def dropLate (p : Nat) (keep : Nat) : List MgrWrite → List MgrWrite × Nat
  | [] => ([], 0)
  | w :: ws =>
    let r := dropLate p (keep - 1) ws
    if keep = 0 ∧ w.kind = .inventory ∧ w.partition = p then (r.1, r.2 + 1) else (w :: r.1, r.2)

/-- R493: a reset ends an Inventory; the entries not yet on the bus are not written, and the END follows. -/
def State.abortInventory (s : State) (p : Nat) : State :=
  let r := dropLate p 32 s.mgr
  if (s.part p).inv.running && decide (0 < r.2) then
    let n := (s.part p).inv.entries - r.2
    let s1 := ({ s with mgr := r.1 } : State).invIssue p n [invEnd (n + 1) false true]
    (s1.setCfg 0x6040 5 p (n + 1)).modPart p fun x =>
      { x with inv := { x.inv with entries := n + 1, aborted := true, truncated := false } }
  else s

/-- The Inventory's writes are complete: the TRACE record (R475, R493). -/
def State.inventoryDone (s : State) (p : Nat) : State :=
  let v := (s.part p).inv
  if v.running then
    let mine := s.mgr.filter fun w => w.kind = .inventory && w.partition = p
    let s1 := ({ s with mgr := s.mgr.filter fun w => !(w.kind = .inventory && w.partition = p) } : State).pcount 20 p
      (64 * mine.length)
    (s1.modPart p fun x => { x with inv := { x.inv with running := false } }).notifyRing p 6 p
      (pack 96 [⟨92, 4, 2⟩, ⟨60, 32, v.entries⟩, ⟨59, 1, bitNat v.truncated⟩, ⟨58, 1, bitNat v.aborted⟩,
        ⟨54, 4, v.reason⟩])
  else s

end Sys2Proof.Machine
end

