-- ==== Sys2Proof/Machine/Partitions.lean ====
section
/-! DEFINITION. Partitions (R394 to R423): the Sweep, the reset sequence and the context change, the quiesce handshake
(R334, R412), the reslice, and the messages of R413 to R416. The steps of a reset follow one another in one command until
one has to wait for the surroundings or for a peer. -/

namespace Sys2Proof.Machine

/-! ### Mode and cleanliness (R406, R408) -/

/-- R406: the partition runs in Sweep mode. -/
def State.sweepMode (s : State) (p : Nat) : Bool :=
  let own := 1 <<< (getFld s.hub 0 3 : BitVec 3).toNat
  decide (s.cfg 0x3010 3 p ≠ 0) || decide (s.cfg 0x3010 4 p ||| own ≠ own) ||
  decide (s.namedDevices p ||| (1 <<< s.device.toNat) ≠ 1 <<< s.device.toNat)

/-- R408: a port of the partition holds nothing. -/
def Port.clean (x : Port) : Bool :=
  x.tickets.isEmpty && x.heldLocks.isEmpty && x.near.all fun n => decide (n.2.otype = .none)

/-- R408: the partition is clean; a latched one counts as not clean (R435). -/
def State.partClean (s : State) (p : Nat) : Bool :=
  (s.objectsOf p).isEmpty && (s.waitersOf p).isEmpty && (s.lendersOf p).isEmpty && (s.ledgersOf p).isEmpty &&
  (s.bufferedOf p).isEmpty && ((s.partPorts p).all fun q => (s.port q).clean) && !s.latched p

/-! ### The Sweep (R70, R229, R409, R435, R457) -/

/-- The index, subindex and partition of a key of the configuration store. -/
def keyIndex (k : Nat) : Nat := k / 4096
def keySub (k : Nat) : Nat := k / 16 % 256
def keyPart (k : Nat) : Nat := k % 16

/-- R229: an entry of a lock group that a Sweep of the group's partition returns to its default. -/
def sweptGroupKey (k : Nat) : Bool :=
  decide (0x4000 ≤ keyIndex k ∧ keyIndex k < 0x4100 ∧ 2 ≤ keySub k ∧ keySub k ≤ 6)

/-- R457, R495: a counter that a Sweep sets to 0. -/
def sweptCounterKey (k : Nat) : Bool :=
  decide (0x6000 ≤ keyIndex k ∧ keyIndex k ≤ 0x6002) || decide (keyIndex k = 0x6070 ∧ 10 ≤ keySub k ∧ keySub k ≤ 12)

/-- The protected words of a share. -/
def State.wordIn (s : State) (p : Nat) (w : StoreWord) : Bool :=
  match w with
  | .object i => s.partOfIndex i = p
  | .waiter i => s.partOfIndex i = p
  | .lender i => i / s.loanShare = p
  | .ledger i => i / s.loanShare = p
  | .ticket i => i / 2 / s.ticketShare = p
  | _ => false

/-- Clears the near objects of a port (R70, R71, R431). -/
def State.clearNears (s : State) (q : Nat) : State :=
  s.modPort q fun x => { x with near := [], nearWaits := [], nearFault := 0, nearFlips := [] }

/-- The windows of the tenants of a partition (R538). -/
def State.tenantWindows (s : State) (p : Nat) : List Nat :=
  (numsFrom 1 32).filter fun k =>
    (s.cfg 0x2C00 k).testBit 31 && !(s.cfg 0x2C00 k).testBit 20 && decide (s.cfg 0x2C00 k / 2 ^ 16 % 16 = p)

/-- R538: clears the copy valid bit of a window. -/
def State.clearView (s : State) (w : Nat) : State :=
  if (s.view w).valid then s.setView w { s.view w with valid := false, generation := (s.view w).generation + 1 } else s

/-- A shelf after a Sweep (R466). -/
def Shelf.swept (h : Shelf) : Shelf :=
  { generation := h.generation + 1, peers := h.peers, seq := h.seq, since := h.since, asker := h.asker }

/-- Stocktake after a Sweep (R502): no declaration and no run; the rounds go on if they are enabled. -/
def Stocktake.swept (x : Stocktake) (enabled : Bool) : Stocktake :=
  { x with state := if enabled then .running else .off, scope := [], reports := [], ref := none }

/-- Sweeps partition `p`'s share (R70, R229, R409, R435, R457, R466, R487, R502, R509, R538). -/
def State.sweep (s : State) (p : Nat) : State :=
  let s1 : State := { s with
    objs := s.objs.dropKeys fun i => s.partOfIndex i = p
    wideBits := s.wideBits.dropKeys fun g => s.partOfIndex (4 * g) = p
    waiters := s.waiters.filter fun w => s.partOfIndex w.num ≠ p
    lenders := s.lenders.filter fun e => e.num / s.loanShare ≠ p
    ledgers := s.ledgers.filter fun e => e.num / s.loanShare ≠ p
    buffered := s.buffered.filter fun t => t.partition ≠ p
    flips := s.flips.filter fun x => !s.wordIn p x.1
    cat := s.cat.dropKeys fun k =>
      (sweptGroupKey k && decide ((keyIndex k - 0x4000) * s.partCount / 256 = p)) ||
      (sweptCounterKey k && decide (keyPart k = p)) }
  let s2 := (s1.each State.clearNears (s1.partPorts p)).modPart p fun x =>
    { x with fault := false, cause := 0, reported := [], shelf0 := x.shelf0.swept, shelf1 := x.shelf1.swept
             deposits := [], stock := x.stock.swept (s.cfg 0x6070 1 p ≠ 0) }
  s2.each State.clearView (s2.tenantWindows p)

/-! ### The quiesce handshake (R334, R412) -/

/-- Raises part_quiesce_req[p]; the handshake before it is complete. -/
def State.raiseQuiesce (s : State) (p : Nat) (slice : Bool) : State :=
  s.modPart p fun x =>
    { x with quiesceReq := true, quiesceSlice := slice, quiesceSince := s.clock, quiesceNoted := false }

/-- Lowers part_quiesce_req[p]. -/
def State.lowerQuiesce (s : State) (p : Nat) : State := s.modPart p fun x => { x with quiesceReq := false }

/-- R334: no handshake of the partition is under way. -/
def State.quiesceIdle (s : State) (p : Nat) : Bool := !(s.part p).quiesceReq && !(s.part p).quiesceAck

/-! ### The reslice (R417 to R421) -/

/-- R417: the partitions that a reslice from `old` to `new` affects. -/
def resliceAffects (old new : Nat) : List Nat :=
  (if old < new then [0] else []) ++ numsFrom 1 (max old new - 1)

/-- R421: the RESLICE_DONE record. -/
def State.resliceNote (s : State) (old new swept outcome : Nat) (startedAt : Time) : State :=
  s.notifyRing 16 8 0 (pack 96 [⟨88, 8, old⟩, ⟨80, 8, new⟩, ⟨64, 16, swept⟩, ⟨62, 2, outcome⟩,
    ⟨30, 32, satNat 32 (elapsed startedAt s.clock / 256000)⟩])

/-- R418 step 2: an affected partition has drained. -/
def State.drained (s : State) (p : Nat) : Bool :=
  (s.waitersOf p).isEmpty && (s.lendersOf p).isEmpty && (s.ledgersOf p).isEmpty && (s.bufferedOf p).isEmpty

/-- Whether an entry of the configuration store is a partition-scoped one of an affected partition. -/
def State.slicedKey (ps : List Nat) (k : Nat) : Bool :=
  ps.contains (keyPart k) && (match catRow (keyIndex k) (keySub k) with | some r => decide (r.scope = .partition) | none => false)

/-- An affected partition's record after step 4: its epoch and its handshake go on. -/
def Part.sliced (x : Part) (advance : Bool) : Part :=
  { epoch := if advance then x.epoch + 1 else x.epoch
    reset := x.reset, hold := x.hold, inv := x.inv
    quiesceReq := x.quiesceReq, quiesceAck := x.quiesceAck, quiesceSlice := x.quiesceSlice
    quiesceSince := x.quiesceSince, quiesceNoted := x.quiesceNoted
    shelf0 := { generation := x.shelf0.generation }, shelf1 := { generation := x.shelf1.generation }
    stock := { round := x.stock.round } }

/-- R316: a slot whose owner has changed. Its generation advances, so that no response of its last owner reaches it
(DEDUCED, log entry 11). -/
def Slot.sliced (x : Slot) : Slot :=
  { x with resp := 0, value := 0, tag := 0, done := false, busy := false, fence := none, sent := none, away := []
           generation := x.generation + 1 }

/-- R418: PortPartition, LinkW1Partition and EvEnable where they name a partition that is no more. -/
def State.sliceNames (s : State) (n : Nat) : State :=
  let s1 := s.each (fun s q => if s.portPart q < 16 ∧ n ≤ s.portPart q then s.setCfg (0x3100 + q) 1 0 0xFF else s)
    (numsFrom 0 128)
  let s2 := s1.each (fun s c => if n ≤ s.cfg (0x5000 + c) 8 then s.setCfg (0x5000 + c) 8 0 0xFF else s) (numsFrom 8 8)
  s2.each (fun s i =>
    if n ≤ s.cfg (0x2600 + i) 4 then
      (s.setCfg (0x2600 + i) 1 0 0).setEv i { s.ev i with deferred := false, changes := 0 }
    else s) (numsFrom 0 16)

/-- R418 step 4: the reslice completes. -/
def State.resliceComplete (s : State) : State :=
  let old := s.partCount
  let new := s.reslice.target
  let ps := s.reslice.affected
  let inNew := ps.filter fun q => decide (q < new)
  let s1 := (s.each State.resumeHere ps).each State.abortInventory ps
  let s2 := s1.each (fun s p => (s.each State.clearNears (s.partPorts p)).each State.clearView (s.tenantWindows p)) ps
  let moved := s2.slots.keys.filter fun g => g * old / 1024 ≠ g * new / 1024
  let s3 : State := { s2 with
    partCount := new, reslice := {}
    cat := s2.cat.dropKeys fun k =>
      State.slicedKey ps k ||
      (sweptGroupKey k && decide ((keyIndex k - 0x4000) * old / 256 ≠ (keyIndex k - 0x4000) * new / 256))
    devMap := s2.devMap.dropKeys fun k => ps.contains (k / 4096)
    notify := s2.notify.dropKeys fun r => ps.contains r }
  let s4 := (s3.each (fun s g => s.modSlot g Slot.sliced) moved).each State.sweep inNew
  let s5 := s4.each (fun s q => s.modPart q fun x => x.sliced (decide (q < new))) ps
  let s6 := (s5.sliceNames new).resliceNote old new (partBits inNew) (if s.reslice.overridden then 2 else 0)
    s.reslice.startedAt
  s6.each State.wakeSlot moved

/-- The reslice goes on when every affected partition has quiesced; a reset of one ends its step 6 first (DESIGN CHOICE,
log entry 12). -/
def State.tryReslice (s : State) : State :=
  if s.reslice.step = .quiescing ∧ s.reslice.waiting = [] ∧ (s.reslice.affected.any s.resetting) = false then
    s.resliceComplete
  else s

/-- Raises the request of a reslice for a partition, if the handshake before it is complete. -/
def State.sliceRaise (s : State) (p : Nat) : State :=
  if s.reslice.step = .quiescing ∧ s.reslice.waiting.contains p = true ∧ s.quiesceIdle p = true then s.raiseQuiesce p true
  else s

/-- The quiesce of a partition is done for the reslice. -/
def State.sliceQuiesced (s : State) (p : Nat) (override : Bool) : State :=
  if s.reslice.step = .quiescing ∧ s.reslice.waiting.contains p = true then
    { s with reslice := { s.reslice with
        waiting := s.reslice.waiting.filter fun q => q ≠ p, overridden := s.reslice.overridden || override } }
  else s

/-- R418: a write of ResliceTarget. -/
def State.startReslice (s : State) (n : Nat) : State × CatStatus :=
  if n ∉ [1, 2, 4, 8, 16] ∨ n = s.partCount ∨ s.reslice.step ≠ .idle ∨
      (s.parts.any fun x => decide (x.2.reset.step ≠ .idle)) = true then (s, .accessError)
  else
    let ps := resliceAffects s.partCount n
    let s1 : State := { s with reslice := { step := .draining, target := n, affected := ps, startedAt := s.clock } }
    (s1.recallAll (ps.flatMap s1.lendersOf), .done)

/-- R418 steps 2 and 3: the affected partitions have drained. -/
def State.resliceDrained (s : State) : State :=
  if s.reslice.step = .draining ∧ (s.reslice.affected.all s.drained) = true then
    ({ s with reslice := { s.reslice with step := .quiescing, waiting := s.reslice.affected } } : State).each
      State.sliceRaise s.reslice.affected
  else s

/-- R420: a write of ResliceAbort. -/
def State.abortReslice (s : State) : State :=
  if s.reslice.step = .draining ∨ s.reslice.step = .quiescing then
    ({ s with reslice := {} } : State).resliceNote s.partCount s.partCount 0 1 s.reslice.startedAt
  else s

/-! ### Messages of a reset (R413 to R416) -/

/-- A PART_CTL message of this hub. -/
def State.sendPart (s : State) (dst : HubId) (p : Nat) (k : PartCtlKind) (b : PartCtlBody) : State :=
  s.send { hdr := s.hdrTo dst p, body := .partCtl k b }

/-- The body of a DONE. Where nothing has been reset, both epochs are the hub's own (DESIGN CHOICE, log entry 13). -/
def State.doneBody (s : State) (old new : BitVec 8) (seq : BitVec 8) (status : BitVec 2) : PartCtlBody :=
  { oldEpoch := old, newEpoch := new, count := BitVec.ofNat 5 s.partCount, seq := seq, status := status, cause := 0
    context := 0, startTime := 0 }

/-- Answers the hubs that asked for a reset. -/
def State.answerAskers (s : State) (p : Nat) (b : BitVec 8 → PartCtlBody) : List ResetAsker → State
  | [] => s
  | a :: as => (s.sendPart a.hub p (if a.ctx then .ctxDone else .resetDone) (b a.seq)).answerAskers p b as

/-- The request number that a partition's present reset uses; the first is a free value. -/
def ResetSeq.number (x : ResetSeq) : BitVec 8 := Config.firstSeq 2 + x.seq

/-- R414: a hub that is asked: its route entry is valid and of level 2 or higher. -/
def State.asks (s : State) (h : HubId) : Bool :=
  entryValid (s.route (s.routeKey h)) && decide (2 ≤ s.routeLevel h)

/-- Sends the requests of step 1. -/
def State.askPeers (s : State) (p : Nat) (k : PartCtlKind) (b : PartCtlBody) : List HubId → State
  | [] => s
  | h :: hs => (s.sendPart h p k b).askPeers p k b hs

/-! ### The reset sequence (R410) -/

def State.modReset (s : State) (p : Nat) (f : ResetSeq → ResetSeq) : State :=
  s.modPart p fun x => { x with reset := f x.reset }

/-- Disables the partition's Deposit rules and ends their holds (R487); a release that was held proceeds (DEDUCED, log
entry 14). -/
def State.endDeposits (s : State) (p : Nat) : State :=
  let held := (numsFrom 0 8).filter fun k => ((s.part p).deposit k).waiting
  let s1 := s.each (fun s k => s.modPart p fun x => x.setDeposit k { x.deposit k with enable := false }) (numsFrom 0 8)
  s1.each (fun s k => s.endHold p k) held

/-- Step 1 at this hub (R410, R461, R487, R493). -/
def State.resetStep1 (s : State) (p : Nat) : State :=
  let s1 := s.each (fun s k => if (s.shelf p k).state = .armed then s.failShelf p k 5 else s) [0, 1]
  (s1.endDeposits p).abortInventory p

/-- Returns a ledger entry of a partition under reset (R198). -/
def State.returnReset (s : State) (p : Nat) (e : Ledger) : State :=
  ({ s with ledgers := s.ledgers.filter fun x => x.num ≠ e.num } : State).sendLoan (handleHub e.token) p .ret
    { s.loanBody p e.seq s.hub e.token with reason := 3, amountA := e.balance, amountB := e.spent }

def State.returnAll (s : State) (p : Nat) : List Ledger → State
  | [] => s
  | e :: es => (s.returnReset p e).returnAll p es

/-- Step 2 at one port: the near waits end, the parked set is cleared and its responses are delivered, the queued tickets
are discarded and the held-lock entries freed (R219, R223, R410). -/
def State.resetPort (s : State) (p q : Nat) : State :=
  let s1 := s.endNears q .partitionReset (s.port q).nearWaits
  let x := s1.port q
  let s2 := s1.setPort q { x with parked := [], parkHeld := [], tickets := [], heldLocks := [] }
  ((s2.pcount 16 p x.tickets.length).offerAll q x.parkHeld).wakePort q

/-- Step 2: the waiter cancellation (R410). -/
def State.resetStep2 (s : State) (p : Nat) : State :=
  let ws := s.waitersOf p
  let s1 := if (s.part p).reset.isContext then s.bumpN 0x3010 20 p ws.length else s
  let s2 := s1.endWaiters .partitionReset ws
  let s3 := (s2.returnAll p (s2.ledgersOf p)).resumeHere p
  let n := (s3.bufferedOf p).length
  let s4 := ({ s3 with buffered := s3.buffered.filter fun t => t.partition ≠ p } : State).pcount 16 p n
  s4.each (fun s q => s.resetPort p q) (s4.partPorts p)

/-- Step 6 and what follows it. -/
def State.resetStep6 (s : State) (p : Nat) : State :=
  let r := (s.part p).reset
  let old := s.epoch p
  let s1 := (s.sweep p).modPart p fun x =>
    { x with epoch := r.newEpoch, contextId := r.load.getD x.contextId
             reset := { r with step := if r.peers = [] then .idle else .awaitPeers, askers := [], load := none } }
  (s1.answerAskers p (fun n => s1.doneBody old r.newEpoch n (if r.overridden then 2 else 0)) r.askers).tryReslice

/-- Step 4: raises the request, or waits for the handshake before it. -/
def State.resetStep4 (s : State) (p : Nat) : State :=
  if s.quiesceIdle p then (s.raiseQuiesce p false).modReset p fun r => { r with step := .quiescing }
  else s.modReset p fun r => { r with step := .ackLow }

/-- Step 3 ends when every lender entry that it recalled is freed or LOST (R198). -/
def State.resetRecalled (s : State) (p : Nat) : State :=
  if (s.part p).reset.step = .recalling ∧ 
      ((s.lendersOf p).all fun e => decide (e.state = .lost ∨ e.num ∉ (s.part p).reset.recalls)) = true then s.resetStep4 p
  else s

/-- Starts a reset of a partition from step 1 with a new epoch. -/
def State.beginReset (s : State) (p : Nat) (new : BitVec 8) (isContext : Bool) (load : Option (BitVec 64)) : State :=
  let s1 := s.modReset p fun r =>
    { r with step := .cancelling, newEpoch := new, isContext := isContext, load := load, overridden := false }
  let s2 := (s1.resetStep1 p).resetStep2 p
  let open_ := (s2.lendersOf p).filter fun e => decide (e.state = .opened)
  ((s2.modReset p fun r => { r with step := .recalling, recalls := open_.map Lender.num }).recallAll open_).resetRecalled p

/-- Starts a reset at this hub (R410): its requests leave at step 1, and the peers that cannot be asked count at once
(R414). -/
def State.startReset (s : State) (p : Nat) (isContext : Bool) (load : Option (BitVec 64)) : State :=
  let new := s.epoch p + 1
  if s.cfg 0x3010 7 p = 0 then s.beginReset p new isContext load
  else
    let named := s.namedHubs p
    let peers := named.filter s.asks
    let n := (s.part p).reset.seq + 1
    let b : PartCtlBody :=
      { oldEpoch := s.epoch p, newEpoch := new, count := BitVec.ofNat 5 s.partCount, seq := Config.firstSeq 2 + n
        status := 0, cause := 0, context := load.getD 0, startTime := s.time }
    let s1 := (s.modReset p fun r => { r with peers := peers, seq := n }).bumpN 0x3010 15 p (named.length - peers.length)
    (s1.askPeers p (if isContext then .ctxReq else .resetReq) b peers).beginReset p new isContext load

/-- A reset of the partition is in progress, AWAIT_PEERS included. -/
def State.inReset (s : State) (p : Nat) : Bool := decide ((s.part p).reset.step ≠ .idle)

/-- R410, R531: a write of PartReset. -/
def State.writeReset (s : State) (p v : Nat) : State × CatStatus :=
  if v = 0 ∨ s.inReset p = true then (s, .done) else (s.startReset p false none, .done)

/-- R407: a write of PartContext. -/
def State.writeContext (s : State) (p : Nat) (v : BitVec 64) : State × CatStatus :=
  if s.resetting p then (s.modReset p fun r => { r with load := some v }, .done)
  else if s.inReset p then (s.modPart p fun x => { x with contextId := v }, .done)
  else if s.sweepMode p then (s.startReset p true (some v), .done)
  else if s.partClean p then (s.modPart p fun x => { x with epoch := x.epoch + 1, contextId := v }, .done)
  else (s.bump 0x3010 19 p, .accessError)

/-! ### The end of the quiesce wait -/

/-- The wait of a partition's quiesce ends for the reset that has it. -/
def State.resetQuiesced (s : State) (p : Nat) (override : Bool) : State :=
  (s.modReset p fun r => { r with step := .sweeping, overridden := r.overridden || override }).resetStep6 p

/-- R334, R410, R418: the hub sees the acknowledgement rise. -/
def State.ackRise (s : State) (p : Nat) : State :=
  let x := s.part p
  let s1 := s.modPart p fun y => { y with quiesceAck := true }
  if x.quiesceAck then s
  else if !x.quiesceReq then s1.bump 0x2B00 6
  else
    let s2 := s1.lowerQuiesce p
    if x.quiesceSlice then (s2.sliceQuiesced p false).tryReslice
    else if x.reset.step = .quiescing then s2.resetQuiesced p false
    else s2

/-- After a handshake is complete, the next request of the partition may rise (R412). -/
def State.nextQuiesce (s : State) (p : Nat) : State :=
  if s.quiesceIdle p && decide ((s.part p).reset.step = .ackLow) then s.resetStep4 p else s.sliceRaise p

/-- R334: the hub sees the acknowledgement fall. -/
def State.ackFall (s : State) (p : Nat) : State :=
  if (s.part p).quiesceAck then (s.modPart p fun x => { x with quiesceAck := false }).nextQuiesce p else s

/-- R412: PartQuiesceOverride ends the waits of the partition's quiesce. -/
def State.override (s : State) (p : Nat) : State :=
  let st := (s.part p).reset.step
  let byReset := decide (st = .quiescing) || decide (st = .ackLow)
  let bySlice := decide (s.reslice.step = .quiescing) && s.reslice.waiting.contains p
  if byReset || bySlice then
    let s1 := ((s.lowerQuiesce p).bump 0x3010 14 p).sliceQuiesced p true
    if byReset then s1.resetQuiesced p true else s1.tryReslice
  else s

/-- R412: the quiesce has lasted PartQuiesceWait. -/
def State.quiesceWait (s : State) (p : Nat) : State :=
  let x := s.part p
  let t := elapsed x.quiesceSince s.clock
  if x.quiesceReq && !x.quiesceNoted && decide (s.cfg 0x3010 12 p ≤ t) then
    (s.modPart p fun y => { y with quiesceNoted := true }).record
      { s.folioOf 0x0D p with aux := 3, data := BitVec.ofNat 64 (t / 256) }
  else s

/-! ### Peers (R413, R414) -/

/-- The newer of two epochs by R404. -/
def newerEpoch (a b : BitVec 8) : BitVec 8 := if a ≠ b ∧ (b - a).toNat ≤ 127 then b else a

/-- R413, R414, R416: a RESET_REQ or CTX_REQ of hub `src`. -/
def State.resetRequest (s : State) (src : HubId) (p : Nat) (ctx : Bool) (b : PartCtlBody) : State :=
  let a : ResetAsker := { hub := src, seq := b.seq, ctx := ctx }
  let own := s.epoch p
  let load := if ctx then some b.context else none
  if s.partCount ≤ p ∨ b.count.toNat ≠ s.partCount ∨
      (s.reslice.step ≠ .idle ∧ s.reslice.affected.contains p = false) then
    s.answerAskers p (fun n => s.doneBody own own n 1) [a]
  else if s.resetting p then
    s.modReset p fun r =>
      { r with newEpoch := newerEpoch r.newEpoch b.newEpoch, askers := r.askers ++ [a]
               load := if ctx then load else r.load }
  else if epochCheck own b.newEpoch = some false then
    (s.modReset p fun r => { r with askers := [a] }).beginReset p b.newEpoch ctx load
  else s.answerAskers p (fun n => s.doneBody own own n 0) [a]

/-- A reset that awaited its last peer is over. -/
def State.peersDone (s : State) (p : Nat) : State :=
  if (s.part p).reset.step = .awaitPeers ∧ (s.part p).reset.peers = [] then
    s.modReset p fun r => { r with step := .idle }
  else s

/-- R410 step 7, R414: a RESET_DONE or CTX_DONE. -/
def State.resetAnswer (s : State) (src : HubId) (p : Nat) (b : PartCtlBody) : State :=
  let r := (s.part p).reset
  if r.peers.contains src && b.seq = r.number then
    let s1 := s.modReset p fun x => { x with peers := x.peers.filter fun h => h ≠ src }
    (if b.status = 1 then s1.bump 0x3010 15 p else s1).peersDone p
  else s

/-- R414: a RESET_DONE is missing. -/
def State.resetMissing (s : State) (p : Nat) (h : HubId) : State :=
  match s.routeLostFor h with
  | some t =>
    if (s.part p).reset.peers.contains h && decide (s.cfg 0x5100 5 ≤ t) then
      ((s.modReset p fun x => { x with peers := x.peers.filter fun q => q ≠ h }).bump 0x3010 15 p).peersDone p
    else s
  | none => s

/-! ### PortPartition (R395, R423) -/

/-- A write of PortPartition. -/
def State.writePortPartition (s : State) (q v : Nat) : State × CatStatus :=
  if (s.port q).rstLow = false ∨ (v ≠ 0xFF ∧ s.partCount ≤ v) then (s, .accessError)
  else (s.setCfg (0x3100 + q) 1 0 v, .done)

end Sys2Proof.Machine
end

