-- ==== Sys2Proof/Machine/Events.lean ====
section
/-! DEFINITION. Events that act on objects and waiters: expiry, the aged walk and cancellation (R116, R258, R283, R284), the
owner's reset of locks and waiters (R242 to R244, R279 to R281, R308), the reset check of registered barriers (R146), the
event inputs (R285 to R290), and the Catalogue's writes to locks and waiters (R233, R245). -/

namespace Sys2Proof.Machine

/-! ### Expiry, ageing, cancellation -/

/-- R115, R116: a deadline of whole nanoseconds modulo 2^43 has passed. -/
def State.passed (s : State) (d : BitVec 43) : Bool := decide ((s.time.ns43 - d).toNat < 2 ^ 42)

/-- The TIMEOUT record of an expiry (R469). -/
def State.recordTimeout (s : State) (o : HomeOp) : State :=
  s.record { s.folioOp 3 o .timeout 0 0 with data := o.deadline.setWidth 64 }

/-- R116 to R118: performs the expiry of one waiter. -/
def State.expire (s : State) (num : Nat) : State :=
  match s.waiters.find? fun w => w.num = num with
  | none => s
  | some w =>
    if w.dlValid && s.passed w.deadline && decide (w.kind ≠ .parkedArrv) then
      let p := w.partition.toNat
      let s1 := ((s.pcount 11 p 1).act p).recordTimeout (s.waiterOp w)
      (s1.endWait w .timeout).serveAfter w
    else s

/-- R258: one walk of the waiter store. -/
def State.agedWalk (s : State) : State :=
  { s with waiters := s.waiters.map fun w => if s.isAged w.stamp then { w with aged := true } else w }

/-- R284: the waiters that a cancellation reaches. -/
def Waiter.cancels (w : Waiter) : Bool := decide (w.kind ≠ .loanReq ∧ w.kind ≠ .fwdArrv)

/-- Cancels waiters by their record numbers, each as one op on its object or entry (R284). -/
def State.cancelAll (s : State) : List Nat → State
  | [] => s
  | n :: ns =>
    match s.waiters.find? fun w => w.num = n with
    | some w => ((s.endWait w .cancelled).serveAfter w).cancelAll ns
    | none => s.cancelAll ns

/-- R284: a write of WaiterCancelObject. -/
def State.cancelObject (s : State) (p : Nat) (h : Handle) : State × CatStatus :=
  match s.translate p h with
  | none => (s, .accessError)
  | some a =>
    let q := if handleHub a = s.hub then s.queue (handleIndex a)
      else match s.ledgerOf p a with | some e => s.ledgerQueue e.num | none => []
    (s.cancelAll ((q.filter Waiter.cancels).map Waiter.num), .done)

/-- R284: a write of WaiterCancelOriginator. -/
def State.cancelOriginator (s : State) (p : Nat) (o : Originator) : State × CatStatus :=
  let q := (getFld o 3 7 : BitVec 7).toNat
  if origHub o = s.hub ∧ s.portBuilt q = true ∧ s.portPart q = p then
    let ws := s.waiters.filter fun w => w.originator = o && w.source = srcPort && w.cancels
    (s.cancelAll (ws.map Waiter.num), .done)
  else (s, .accessError)

/-! ### HOLDER_RESET and WAITER_PURGE at the home (R244, R281, R403) -/

/-- The message checks of R403: what a message of an epoch may do to an index of the share. -/
def State.messageGate (s : State) (p : Nat) (e : BitVec 8) (i : Nat) (inReset : Bool) : Selvedge :=
  s.selvedge p e i false inReset

/-- The checks of R403 where a message names no object of this hub. -/
def State.entryGate (s : State) (p : Nat) (e : BitVec 8) : Selvedge :=
  if s.partCount ≤ p then .rights
  else if s.resetting p then .resetting
  else match epochCheck (s.epoch p) e with
    | some true => .stale
    | some false => .newer
    | none => .pass

/-- A message that fails a check: it is discarded and counted (R182, R244, R281, R403, R404). -/
def State.discardMessage (s : State) (p : Nat) (v : Selvedge) : State := (s.countSelvedge p v).pcount 14 p 1

/-- R244: a HOLDER_RESET at this hub. -/
def State.holderResetMsg (s0 : State) (b : HolderResetBody) : State :=
  let i := handleIndex b.lock
  let s := s0.accessObj i
  match s.messageGate b.partition.toNat b.epoch i false with
  | .pass => s.holderReset i b.originator b.delivered
  | v => s.discardMessage b.partition.toNat v

/-- Removes waiters by their numbers without a response, each as one op (R281). -/
def State.purgeAll (s : State) : List Nat → State
  | [] => s
  | n :: ns =>
    match s.waiters.find? fun w => w.num = n with
    | some w =>
      let s1 := match w.kind with
        | .parkedArrv => s
        | .parkedArrw => s.unwaitParked w
        | _ => (s.freeWaiter w).serveAfter w
      s1.purgeAll ns
    | none => s.purgeAll ns

/-- R281: a WAITER_PURGE at this hub. -/
def State.purge (s : State) (b : WaiterPurgeBody) : State :=
  match s.entryGate b.partition.toNat b.epoch with
  | .pass =>
    s.purgeAll ((s.waiters.filter fun w =>
      w.source = srcPort && origHub w.originator = b.hub && (getFld w.originator 3 7 : BitVec 7) = b.port &&
      w.opcode ≠ opCode .acq).map Waiter.num)
  | v => s.discardMessage b.partition.toNat v

/-! ### Per-core reset (R77, R242, R279, R308, R370) -/

/-- R370: no message of a core reset crosses a level-1 route. -/
def State.resetReaches (s : State) (h : HubId) : Bool :=
  !(entryValid (s.route (s.routeKey h)) && decide (s.routeLevel h = 1))

/-- R242: a HOLDER_RESET for each held-lock entry of a port. -/
def State.sendHolderResets (s : State) (q : Nat) : List HeldLock → State
  | [] => s
  | h :: hs =>
    let p := s.portPart q
    let home := handleHub h.lock
    let b : HolderResetBody :=
      { partition := BitVec.ofNat 4 p, epoch := if p < 16 then s.epoch p else 0, lock := h.lock
        originator := s.orig (q * 8 + h.engine.toNat), delivered := h.delivered }
    let s1 := if home = s.hub then s.holderResetMsg b
      else if s.resetReaches home then s.send { hdr := s.hdrTo home p, body := .holderReset b }
      else s
    s1.sendHolderResets q hs

/-- R279: a WAITER_PURGE for each home. -/
def State.sendPurges (s : State) (q : Nat) (gen : BitVec 4) : List HubId → State
  | [] => s
  | h :: hs =>
    let p := s.portPart q
    let b : WaiterPurgeBody :=
      { partition := BitVec.ofNat 4 p, epoch := if p < 16 then s.epoch p else 0, hub := s.hub, port := BitVec.ofNat 7 q
        generation := gen }
    let s1 := if h = s.hub then s.purge b
      else if s.resetReaches h then s.send { hdr := s.hdrTo h p, body := .waiterPurge b }
      else s
    s1.sendPurges q gen hs

/-- R308: an op discarded before it is forwarded; a posted one counts under R120. -/
def State.discardShimOp (s : State) (q : Nat) (h : ShimOp) : State :=
  if h.op.flags.noresp then
    let s1 := s.pcount 7 (s.portPart q) 1
    s1.record { s1.folioOp 4 (s1.shimOp q h) .ok 1 h.op.operand with status := 0 }
  else s

def State.discardShimOps (s : State) (q : Nat) : List ShimOp → State
  | [] => s
  | h :: hs => (s.discardShimOp q h).discardShimOps q hs

/-- A list without repeats. -/
def distinct {α : Type} [DecidableEq α] : List α → List α
  | [] => []
  | x :: xs => if x ∈ xs then distinct xs else x :: distinct xs

/-- Whether the op of a pending entry waits on a ledger entry of this hub. -/
def State.onLedger (s : State) (q : Nat) (e : Pend) : Bool :=
  s.waiters.any fun w => decide (w.kind = .ledger) && w.source = srcPort && w.originator = s.laneOrig q e.lane &&
    (getFld w.operandB 4 6 : BitVec 6).toNat = e.entry

/-- R279: the homes that hold blocking ops of a port's pending entries, other than ACQ. -/
def State.purgeHomes (s : State) (q : Nat) : List HubId :=
  distinct ((((s.port q).pend.filter fun e => !e.arrived && codeBlocks e.opcode && e.opcode ≠ opCode .acq)).filterMap fun e =>
    if s.onLedger q e then some s.hub else e.home)

/-- Nobody waits any more for the HOLD or RESUME ops of a port. -/
def dropHoldWaiter (q : Nat) (w : HoldWaiter) : HoldWaiter :=
  match w with
  | .op r n => if r = q then .nobody else .op r n
  | w => w

/-- Forgets the HOLD and RESUME ops of a port in every partition. -/
def State.dropHoldOps (s : State) (q : Nat) : State :=
  { s with parts := s.parts.remap partNone fun x =>
      { x with hold := { x.hold with xs := x.hold.xs.map fun e => { e with waiter := dropHoldWaiter q e.waiter } } } }

/-- The port after the assertion of csp_rst_n: what R77, R279, R308 and R309 leave. -/
def Port.afterReset (x : Port) : Port :=
  { rstLow := true, generation := x.generation + 1, tickets := x.tickets, buckets := x.buckets
    away := x.away.filter fun a => a.entry.isNone }

/-- R146: the registered barriers whose slot range includes a port. -/
def State.checkedBarriers (s : State) (q : Nat) : List Nat :=
  (s.objs.filter fun x =>
    decide (x.2.otype = .barrier) && x.2.isRegistered && decide (x.2.firstPort ≤ q ∧ q ≤ x.2.lastPort)).map Prod.fst

/-- R77, R242, R279, R308: the assertion of a port's csp_rst_n. -/
def State.coreReset (s : State) (q : Nat) : State :=
  let x := s.port q
  if x.rstLow then s
  else
    let homes := s.purgeHomes q
    let s1 := s.discardShimOps q (x.drains ++ x.issue.filter fun h => h.entry.isSome)
    let s2 := (s1.modPort q fun y => { y.afterReset with checks := s.checkedBarriers q }).dropHoldOps q
    (s2.sendHolderResets q x.heldLocks).sendPurges q (s2.port q).generation homes

/-- R309: the release of csp_rst_n. -/
def State.coreRelease (s : State) (q : Nat) : State :=
  if (s.port q).rstLow then (s.modPort q fun x => { x with rstLow := false }).wakePort q else s

/-- R146: the reset check of one registered barrier for a port. It ends with the barrier's next INIT. -/
def State.resetCheck (s0 : State) (q i : Nat) : State :=
  let s := (s0.modPort q fun x => { x with checks := x.checks.filter fun j => j ≠ i }).accessObj i
  let r := s.obj i
  if (s0.port q).checks.contains i && decide (r.otype = .barrier) && r.isRegistered && !r.faulted && !r.broken && !s.isBody i &&
      ((numsFrom 0 8).any fun e =>
        match r.slotOf q e with
        | some n => r.body.getLsbD n != r.sense
        | none => false) then s.breakBarrier i
  else s

/-! ### Event inputs (R285 to R290, R294) -/

/-- A setting of an event input. -/
def State.evCfg (s : State) (i sub : Nat) : Nat := s.cfg (0x2600 + i) sub

/-- The op that an input makes (R285, R289). -/
def State.evHome (s : State) (i : Nat) (c : Opcode) (h : Handle) : HomeOp where
  opcode := opCode c
  op := { flags := { rel := false, acq := false, noresp := false, near := false, sense := false, x2 := false }
          tsel := 0, tag := 0, handle := h, operand := 0, opb := 0 }
  originator := s.orig (0x3F0 + i)
  source := srcEvent
  cls := 0
  partition := s.evCfg i 4
  epoch := s.epoch (s.evCfg i 4)
  stamp := s.time.stamp
  aged := false
  context := 0
  dlValid := false
  deadline := 0
  retref := 0
  resent := false
  entered := s.time.low22

/-- R290: a dropped op. -/
def State.evDrop (s : State) (i : Nat) (c : Opcode) (h : Handle) : State :=
  let s1 := s.bump (0x2600 + i) 10
  s1.record { s1.folioOp 9 (s1.evHome i c h) .ok i 0 with status := 0 }

/-- Checks 8 and 9 of R105 and R290 on an op of an input. -/
def State.evAccepts (s : State) (i k : Nat) : Bool :=
  !s.objFaulted k && !s.isBody k && decide ((s.obj k).otype = .event) && !(decide (s.evCfg i 2 = 1) && (s.obj k).auto)

/-- Performs or drops an op of an input. -/
def State.evOp (s0 : State) (i : Nat) (c : Opcode) : State :=
  let p := s0.evCfg i 4
  let rel := BitVec.ofNat 32 (s0.evCfg i 5)
  if s0.partCount ≤ p ∨ s0.stageIsOut 27 = true then s0.evDrop i c rel
  else match s0.translate p rel with
    | none => (s0.act p).evDrop i c rel
    | some h =>
      if handleHub h ≠ s0.hub then (s0.act p).evDrop i c h
      else
        let k := handleIndex h
        let s := s0.accessObj k
        let o := s.evHome i c h
        if s.bankOut k || (s.homeGate o).isSome then (s.performHome o).evDrop i c h
        else if s.evAccepts i k then (s.performHome o).bump (0x2600 + i) 8
        else (s.act p).evDrop i c h

/-- Edges or changes that an input has merged, and their STORM record (R287, R288, R294). -/
def State.evMerge (s : State) (i n : Nat) : State :=
  if n = 0 then s
  else
    let x := s.ev i
    let f : StormSource := { originator := s.orig (0x3F0 + i), source := srcEvent, input := i, partition := s.evCfg i 4 }
    let r := (s.bumpN (0x2600 + i) 9 0 n).stormNote f 2 x.lastNote 0 (x.merged + n)
    r.1.setEv i (if r.2 then { x with merged := 0, lastNote := some s.clock } else { x with merged := x.merged + n })

/-- EvRateInterval has passed since the input's last op. -/
def State.evFree (s : State) (i : Nat) : Bool :=
  match (s.ev i).lastOp with
  | some t => decide (s.evCfg i 7 ≤ elapsed t s.clock)
  | none => true

/-- The input is at its active level. -/
def State.evActive (s : State) (i : Nat) : Bool := (s.ev i).level == decide (s.evCfg i 3 ≠ 0)

/-- Performs a SIG of an input in edge mode. -/
def State.evSig (s : State) (i : Nat) : State :=
  (s.setEv i { s.ev i with lastOp := some s.clock, deferred := false }).evOp i .sig

/-- Applies the input's level in level mode. -/
def State.evApply (s : State) (i : Nat) : State :=
  (s.setEv i { s.ev i with lastOp := some s.clock, applied := s.evActive i, changes := 0 }).evOp i
    (if s.evActive i then .set else .clr)

/-- R286: the input's filtered level changes. -/
def State.evChange (s0 : State) (i : Nat) (level : Bool) : State :=
  if (s0.ev i).level = level then s0
  else
    let s := s0.setEv i { s0.ev i with level := level }
    if s.evCfg i 1 = 0 then s
    else if s.evCfg i 2 = 1 then
      if s.evFree i && decide ((s.ev i).changes = 0) then s.evApply i
      else s.setEv i { s.ev i with changes := (s.ev i).changes + 1 }
    else if !s.evActive i then s
    else if (s.ev i).deferred then s.evMerge i 1
    else if s.evFree i then s.evSig i
    else s.setEv i { s.ev i with deferred := true }

/-- R287: the deferred SIG. -/
def State.evDeferred (s : State) (i : Nat) : State :=
  if (s.ev i).deferred && decide (s.evCfg i 1 ≠ 0) && s.evFree i then s.evSig i else s

/-- R288: the end of a rate interval in level mode. A change that the level applied stands for is not counted (DEDUCED, log
entry 15). -/
def State.evLevel (s : State) (i : Nat) : State :=
  let n := (s.ev i).changes
  if 0 < n ∧ s.evCfg i 1 ≠ 0 ∧ s.evFree i = true then
    if s.evActive i ≠ (s.ev i).applied then (s.evApply i).evMerge i (n - 1)
    else (s.setEv i { s.ev i with changes := 0 }).evMerge i n
  else s

/-- R290: a write of an input's binding. -/
def State.evBinding (s : State) (i sub v : Nat) : State :=
  let x := s.ev i
  let s1 := (s.setCfg (0x2600 + i) sub 0 v).setEv i { x with deferred := false, applied := false, changes := 0 }
  if x.deferred then s1.evMerge i 1 else s1

/-! ### Locks through the Catalogue -/

/-- R245: a write of LockClearAbandoned. -/
def State.clearAbandoned (s : State) (p : Nat) (h : Handle) : State × CatStatus :=
  match s.translate p h with
  | none => (s, .accessError)
  | some a =>
    let i := handleIndex a
    let r := s.obj i
    if handleHub a = s.hub ∧ r.otype = .lock ∧ r.partition.toNat = p ∧ s.isBody i = false then
      (s.setObj i { r with abandoned := false }, .done)
    else (s, .accessError)

/-- Reorders one lock for its group's new mode (R233, R236). -/
def State.lockMode (s : State) (i : Nat) : State := if s.prioMode (s.obj i) then s.reorder i else (s.reorder i).endInherit i 1

/-- R233: a write of LockGroupMode. -/
def State.setLockMode (s : State) (g v : Nat) : State :=
  let was := s.cfg (0x4000 + g) 4
  let s1 := s.setCfg (0x4000 + g) 4 0 v
  if was = v then s1
  else
    s1.each State.lockMode
      ((s1.objs.filter fun x => decide (x.2.otype = .lock) && decide (x.2.group.toNat = g)).map Prod.fst)

/-- R203: a write of LoanRecallToken. -/
def State.recallWrite (s : State) (p : Nat) (h : Handle) : State × CatStatus :=
  match s.translate p h with
  | none => (s, .accessError)
  | some a =>
    let i := handleIndex a
    if handleHub a = s.hub ∧ (s.obj i).loanable = true ∧ (s.obj i).partition.toNat = p ∧ s.isBody i = false then
      (s.recallToken i, .done)
    else (s, .accessError)

end Sys2Proof.Machine
end

