-- ==== Sys2Proof/Machine/Loans.lean ====
section
/-! DEFINITION. Loans between hubs (R182 to R201): the four messages at their receivers and the timed events of a loan; and
what a hub does when a route has been lost for long (R155, R156, R200, R251, R369, R381). -/

namespace Sys2Proof.Machine

/-! ### The home's side (R190, R196, R403, R433) -/

/-- The lender entry that a loan message names by token, borrower and seq; a LOST one is named by none (R200). -/
def State.lenderNamed (s : State) (b : LoanBody) : Option Lender :=
  s.lenders.find? fun e =>
    handleHub b.token = s.hub && e.token = handleIndex b.token && e.borrower = b.borrower && e.seq = b.seq &&
    decide (e.state ≠ .lost)

/-- A discarded loan message (R182). -/
def State.discardLoan (s : State) (b : LoanBody) : State := s.pcount 14 b.partition.toNat 1

/-- A loan request as a waiter (R190): the shortfall is its amount, the target its operand B. -/
def State.loanWaiter (s : State) (b : LoanBody) : Waiter where
  num := 0
  kind := .loanReq
  object := handleIndex b.token
  originator := b.borrower ++ (0 : BitVec 10)
  source := srcHub
  stamp := b.stamp
  aged := s.isAged b.stamp
  opcode := 0
  flags := { rel := false, acq := false, noresp := false, near := false, sense := false, x2 := false }
  tag := 0
  partition := b.partition
  epoch := b.epoch
  context := 0
  cls := 0
  dlValid := false
  deadline := 0
  prio := 0
  operand := b.amountA
  operandB := b.amountB
  since := s.clock

/-- R190: a LOAN_REQ that has passed its checks. -/
def State.queueRequest (s : State) (b : LoanBody) (e : Lender) : State :=
  let s1 := s.recordLoan b.partition.toNat .req b false
  match s1.addWaiter false b.partition.toNat (s1.loanWaiter b) with
  | some s2 => (s2.setLender { e with req := true }).serve e.token
  | none => s1.recallEntry e

/-- A LOAN_REQ at the home. A RECALLING entry's is discarded (R193); so are all of a latched partition (R433). -/
def State.loanReqMsg (s0 : State) (b : LoanBody) : State :=
  let i := handleIndex b.token
  let p := b.partition.toNat
  let s := s0.accessObj i
  match s.messageGate p b.epoch i false with
  | .pass =>
    match s.lenderNamed b with
    | none => s.discardLoan b
    | some e0 =>
      let s1 := s.access (.lender e0.num)
      match s1.lenderNamed b with
      | none => s1.discardLoan b
      | some e =>
        if s1.latched p then s1.discardLoan b
        else if e.state = .recalling then s1
        else s1.queueRequest b e
  | v => s.discardMessage p v

/-- R196: a LOAN_RETURN that has passed its checks. -/
def State.takeReturn (s : State) (b : LoanBody) (e : Lender) : State :=
  let i := e.token
  let s1 := s.recordLoan b.partition.toNat .ret b false
  let o := s1.obj i
  let s2 := s1.setObj i { o.setAmount (o.amount + Int.ofNat b.amountA.toNat) with
    word1 := o.word1 - (b.amountA + b.amountB) }
  let s3 := match (s2.queue i).find? fun w => decide (w.kind = .loanReq) && origHub w.originator = b.borrower with
    | some w => s2.freeWaiter w
    | none => s2
  let s4 := ({ s3 with lenders := s3.lenders.filter fun x => x.num ≠ e.num } : State).serve i
  if b.amountA + b.amountB = e.principal then s4 else s4.markFaulted i

/-- A LOAN_RETURN at the home; a reset lets it through until its Sweep (R403), and it may end the reset's recall. -/
def State.loanReturnMsg (s0 : State) (b : LoanBody) : State :=
  let i := handleIndex b.token
  let p := b.partition.toNat
  let s := s0.accessObj i
  match s.messageGate p b.epoch i true with
  | .pass =>
    match s.lenderNamed b with
    | none => s.discardLoan b
    | some e0 =>
      let s1 := s.access (.lender e0.num)
      match s1.lenderNamed b with
      | none => s1.discardLoan b
      | some e => if s1.objFaulted i then s1.discardLoan b else (s1.takeReturn b e).resetRecalled p
  | v => s.discardMessage p v

/-! ### The borrower's side (R184, R192, R194, R195) -/

/-- The ledger entry that a loan message names. -/
def State.ledgerNamed (s : State) (b : LoanBody) : Option Ledger :=
  s.ledgers.find? fun e => e.partition = b.partition && e.token = b.token && e.seq = b.seq

/-- Sends LOAN_RETURN for a ledger entry. -/
def State.sendReturn (s : State) (e : Ledger) (reason : BitVec 2) : State :=
  let p := e.partition.toNat
  s.sendLoan (handleHub e.token) p .ret
    { s.loanBody p e.seq s.hub e.token with reason := reason, amountA := e.balance, amountB := e.spent }

/-- R184: an opening LOAN_GRANT that has passed its checks. -/
def State.openLedger (s : State) (b : LoanBody) : State :=
  let p := b.partition.toNat
  let s1 := s.recordLoan p .grant b false
  let e : Ledger := { num := 0, req := false, token := b.token, partition := b.partition, seq := b.seq
                      firstFit := b.firstFit, spent := 0, balance := b.amountA, idleSince := s.clock }
  match s1.freeNumber (p * s1.loanShare) s1.loanShare ((s1.ledgersOf p).map Ledger.num) with
  | some n => ({ s1 with ledgers := s1.ledgers ++ [{ e with num := n }] } : State).fresh
  | none => s1.sendReturn e 2

/-- A LOAN_GRANT with open 1 at the borrower. -/
def State.loanOpenMsg (s : State) (b : LoanBody) : State :=
  match s.entryGate b.partition.toNat b.epoch with
  | .pass => s.openLedger b
  | v => s.discardMessage b.partition.toNat v

/-- Finds a message's ledger entry after its word has been checked (R426). -/
def State.usableLedger (s : State) (b : LoanBody) : State × Option Ledger :=
  match s.ledgerNamed b with
  | none => (s, none)
  | some e => let s1 := s.access (.ledger e.num); (s1, s1.ledgerNamed b)

/-- A LOAN_GRANT with open 0 at the borrower (R192). -/
def State.loanGrantMsg (s : State) (b : LoanBody) : State :=
  match s.entryGate b.partition.toNat b.epoch with
  | .pass =>
    match s.usableLedger b with
    | (s1, none) => s1.discardLoan b
    | (s1, some e) =>
      ((s1.recordLoan b.partition.toNat .grant b false).setLedger
        { e with balance := e.balance + b.amountA, req := false, idleSince := s.clock }).serveLedger e.num
  | v => s.discardMessage b.partition.toNat v

/-- Forwards the waiters of a returned entry to the home, in order (R194). The home does not count them again (R455). -/
def State.forwardWaiters (s : State) (token : Handle) : List Waiter → State
  | [] => s
  | w :: ws =>
    let o : HomeOp := { s.waiterOp w with op := { (s.waiterOp w).op with handle := token }, resent := true }
    ((s.freeWaiter w).send (s.opMsg o)).forwardWaiters token ws

/-- R194: LOAN_RECALL at the borrower. -/
def State.loanRecallMsg (s : State) (b : LoanBody) : State :=
  match s.entryGate b.partition.toNat b.epoch with
  | .pass =>
    match s.usableLedger b with
    | (s1, none) => s1.discardLoan b
    | (s1, some e) =>
      let ws := s1.ledgerQueue e.num
      let s2 := ((s1.recordLoan b.partition.toNat .recall b false).sendReturn e 0).forwardWaiters e.token ws
      { s2 with ledgers := s2.ledgers.filter fun x => x.num ≠ e.num }
  | v => s.discardMessage b.partition.toNat v

/-! ### Timed events of a loan (R193, R195) -/

/-- R193: the oldest TAKE or loan request of a token has starved for LoanRecallDelay. -/
def State.recallDelay (s : State) (i : Nat) : State :=
  let o := s.obj i
  match (s.queue i).find? Waiter.takes with
  | none => s
  | some w =>
    if o.loanable && !o.faulted && decide (s.cfg 0x2300 3 o.partition.toNat ≤ elapsed w.since s.clock) &&
        decide (o.amount < Int.ofNat w.operand.toNat) && decide (o.word1 ≠ 0) then
      s.recallAll (s.lenders.filter fun e =>
        e.token = i && !(decide (w.kind = .loanReq) && e.borrower = origHub w.originator))
    else s

/-- R195: an idle ledger entry; a LoanIdleReturn of 0 means never (R202). -/
def State.idleReturn (s : State) (n : Nat) : State :=
  match s.ledgers.find? fun e => e.num = n with
  | none => s
  | some e =>
    let limit := s.cfg 0x2300 4 e.partition.toNat
    if (s.ledgerQueue n).isEmpty && !e.req && decide (limit ≠ 0 ∧ limit ≤ elapsed e.idleSince s.clock) then
      ({ s with ledgers := s.ledgers.filter fun x => x.num ≠ n } : State).sendReturn e 1
    else s

/-! ### Routes lost for long -/

/-- A hub has had no usable route for a time. -/
def State.lostFor (s : State) (h : HubId) (t : Nat) : Bool :=
  match s.routeLostFor h with
  | some d => decide (t ≤ d)
  | none => false

/-- R200, the home's side: one lender entry. -/
def State.lenderLost (s : State) (e : Lender) : State :=
  (s.setLender { e with state := .lost }).failOne { cause := 0x15, index := e.token } (s.partOfIndex e.token)

def State.lendersLost (s : State) : List Lender → State
  | [] => s
  | e :: es => (s.lenderLost e).lendersLost es

/-- R200, the borrower's side: one ledger entry. -/
def State.ledgerLost (s : State) (e : Ledger) : State :=
  let p := e.partition.toNat
  let s1 := s.endWaiters .unreachable (s.ledgerQueue e.num)
  (({ s1 with ledgers := s1.ledgers.filter fun x => x.num ≠ e.num } : State).pcount 18 p e.balance.toNat).failOne
    { cause := 0x15, index := e.num } p

def State.ledgersLost (s : State) : List Ledger → State
  | [] => s
  | e :: es => (s.ledgerLost e).ledgersLost es

/-- R200: no route to a hub for LoanLinkLossTime. -/
def State.loanLinkLoss (s : State) (h : HubId) : State :=
  let late (p : Nat) : Bool := s.lostFor h (s.cfg 0x2300 5 p)
  let lent := s.lenders.filter fun e => e.borrower = h && decide (e.state ≠ .lost) && late (s.partOfIndex e.token)
  let owed := s.ledgers.filter fun e => handleHub e.token = h && late e.partition.toNat
  ((s.lendersLost lent).ledgersLost owed).each State.resetRecalled s.allParts

/-- Completes pending ops of a port that have gone to another hub; a later completion of one is discarded. -/
def State.endSent (s : State) (q : Nat) (st : Status) (counts : Bool) : List Pend → State
  | [] => s
  | e :: es =>
    let v : List Voided := match e.home with
      | some h => [{ entry := e.entry, hub := h, tag := e.op.tag, counts := counts }]
      | none => []
    let s1 := s.modPort q fun x => { x with voided := x.voided ++ v }
    (((s1.countRefused (s1.pendOp q e) st).answerPend q e st 0 0).wakePort q).endSent q st counts es

/-- Completes the op of a busy slot that has gone to another hub. -/
def State.endSlotSent (s : State) (g : Nat) (st : Status) (counts : Bool) : State :=
  match (s.slot g).sent with
  | none => s
  | some e =>
    let v : List Voided := match e.home with
      | some h => [{ entry := 0, hub := h, tag := e.op.tag, counts := counts }]
      | none => []
    ((s.countRefused (s.slotPend g e) st).modSlot g fun x =>
      { x.answer (respWord st e.op.tag 0) (valueBeat e.opcode st 0) with voided := x.voided ++ v }).wakeSlot g

/-- The ops that R251 completes at their originating hub. -/
def codeLocks (c : BitVec 6) : Bool := codeAcquires c || c = opCode .rel || c = opCode .frel

/-- R251, the originating side, at one port. -/
def State.portLockLoss (s : State) (h : HubId) (q : Nat) : State :=
  let p := s.portPart q
  if p < 16 ∧ s.lostFor h (s.cfg 0x2500 2 p) = true then
    let x := s.port q
    let es := x.pend.filter fun e => !e.arrived && e.home = some h && codeLocks e.opcode
    let locks := x.heldLocks.filter fun k => handleHub k.lock = h
    if es = [] ∧ locks = [] then s
    else
      ((s.endSent q .unreachable false es).modPort q fun y =>
        { y with heldLocks := y.heldLocks.filter fun k => handleHub k.lock ≠ h }).failOne { cause := 0x16 } p
  else s

/-- R251, the originating side, at one slot. -/
def State.slotLockLoss (s : State) (h : HubId) (g : Nat) : State :=
  let p := s.slotPart g
  match (s.slot g).sent with
  | some e =>
    if e.home = some h ∧ codeLocks e.opcode = true ∧ s.lostFor h (s.cfg 0x2500 2 p) = true then
      (s.endSlotSent g .unreachable false).failOne { cause := 0x16 } p
    else s
  | none => s

/-- R251, the home's side, at one lock. -/
def State.lockLost (s : State) (h : HubId) (i : Nat) : State :=
  let r := s.obj i
  let p := r.partition.toNat
  let ws := (s.queue i).filter fun w => origHub w.originator = h
  let mine := r.held && origHub r.holder = h
  if s.lostFor h (s.cfg 0x2500 2 p) && (mine || !ws.isEmpty) then
    let s1 := ws.foldl State.freeWaiter s
    (if mine then s1.freeLock i 3 3 true else s1).failOne { cause := 0x16, index := i } p
  else s

/-- R251: no route to a hub for LockLinkLossTime. -/
def State.lockLinkLoss (s : State) (h : HubId) : State :=
  let s1 := s.each (fun s i => s.lockLost h i) ((s.objs.filter fun x => decide (x.2.otype = .lock)).map Prod.fst)
  (s1.each (fun s q => s.portLockLoss h q) s1.ports.keys).each (fun s g => s.slotLockLoss h g) s1.slots.keys

/-- R155: a child's forwarded arrival has had no route to its parent's home. -/
def State.treeLinkLoss (s : State) (i : Nat) : State :=
  let o := s.obj i
  if decide (o.otype = .barrier) && s.awaitsGrant i && !o.broken && !o.faulted &&
      s.lostFor (handleHub o.parent) (s.cfg 0x2200 1 o.partition.toNat) then
    s.childGrant i Status.unreachable.code 0
  else s

/-- R156: a grant of the barrier at `i` that has waited here for a route for TreeLinkLossTime. -/
def State.undelivered (s : State) (i : Nat) : Option WaitMsg :=
  s.waitMsgs.find? fun w =>
    w.about = some i && !w.fwd && decide (w.why = .stranded) &&
    decide (s.cfg 0x2200 1 (s.obj i).partition.toNat ≤ elapsed w.since s.clock)

/-- R156: the parent goes BROKEN. -/
def State.grantUndeliverable (s : State) (i : Nat) : State :=
  match s.undelivered i with
  | some w => ({ s with waitMsgs := s.waitMsgs.erase w } : State).breakBarrier i
  | none => s

/-- R381: discards one waiting message. A non-posted OP of another hub, and an ACQ of this one, is answered with
UNREACHABLE; this hub's other ops are completed as the rule's second part says. -/
def State.strandMsg (s : State) (w : WaitMsg) : State :=
  let p := w.msg.hdr.partition.toNat
  let c := entryPrimary (s.route w.key)
  let s1 := ((s.bump 0x5100 6).recordDiscard c w.msg).failOne { cause := 0x14 } p
  match w.msg.body with
  | .op b =>
    if w.fwd || b.opcode = opCode .acq || b.opcode = 0 then
      match s1.bounce w.msg .unreachable with
      | some r => if s1.reachable r.hdr.dst then s1.sendRaw r none false else s1
      | none => s1
    else s1
  | _ => s1

def State.strandAll (s : State) : List WaitMsg → State
  | [] => s
  | w :: ws => (s.strandMsg w).strandAll ws

/-- R381: the pending ops of a port for a hub without a route. -/
def State.strandPort (s : State) (h : HubId) (q : Nat) : State :=
  let es := (s.port q).pend.filter fun e =>
    !e.arrived && e.home = some h && e.opcode ≠ opCode .acq && !s.onLedger q e
  if es = [] then s else (s.endSent q .unreachable true es).failOne { cause := 0x14 } (s.portPart q)

/-- A slot's op waits on a ledger entry of this hub. -/
def State.slotOnLedger (s : State) (g : Nat) : Bool :=
  s.waiters.any fun w => decide (w.kind = .ledger) && w.source = srcAperture && w.originator = s.orig g

/-- R381: the op of a slot for a hub without a route. -/
def State.strandSlot (s : State) (h : HubId) (g : Nat) : State :=
  match (s.slot g).sent with
  | some e =>
    if e.home = some h && e.opcode ≠ opCode .acq && !s.slotOnLedger g then
      (s.endSlotSent g .unreachable true).failOne { cause := 0x14 } (s.slotPart g)
    else s
  | none => s

/-- R381: a hub has had no usable route for RouteStrandTime. -/
def State.routeStrand (s : State) (h : HubId) : State :=
  let limit := s.cfg 0x5100 5
  let due (w : WaitMsg) : Bool :=
    w.msg.hdr.dst = h && decide (w.why = .stranded) && (w.about.isNone || w.fwd) && decide (limit ≤ elapsed w.since s.clock)
  let s1 := ({ s with waitMsgs := s.waitMsgs.filter fun w => !due w } : State).strandAll (s.waitMsgs.filter due)
  if s1.lostFor h limit then
    (s1.each (fun s q => s.strandPort h q) s1.ports.keys).each (fun s g => s.strandSlot h g) s1.slots.keys
  else s1

/-- R369: the deadline of an ARRW whose home lies across a level-1 route. -/
def State.farExpired (s : State) (e : Pend) : Bool :=
  match e.deadline with
  | some t => decide ((s.time - t).toNat < 2 ^ 63)
  | none => false

/-- The op of an expired entry with the deadline that its hub kept. -/
def withDeadline (e : Pend) (o : HomeOp) : HomeOp := { o with deadline := Time.ns43 (e.deadline.getD 0) }

/-- R369: the deadline of a pending entry's ARRW. -/
def State.w1Deadline (s : State) (q n : Nat) : State :=
  match (s.port q).pend.find? fun e => e.entry = n && !e.arrived && s.farExpired e with
  | some e =>
    let p := s.portPart q
    (((s.pcount 11 p 1).act p).recordTimeout (withDeadline e (s.pendOp q e))).endSent q .timeout false [e]
  | none => s

/-- R369: the deadline of a slot's ARRW. -/
def State.w1SlotDeadline (s : State) (g : Nat) : State :=
  match (s.slot g).sent with
  | some e =>
    if s.farExpired e then
      let p := s.slotPart g
      (((s.pcount 11 p 1).act p).recordTimeout (withDeadline e (s.slotPend g e))).endSlotSent g .timeout false
    else s
  | none => s

end Sys2Proof.Machine
end

