-- ==== Sys2Proof/Machine/Links.lean ====
section
/-! DEFINITION. Links (R353 to R363, R366, R377 to R382), routes (R371 to R376, R379) and fabric time (R383 to R390): the
flits that a link receives and sends, its states, and the messages that it passes on. -/

namespace Sys2Proof.Machine

/-! ### Settings of a link (R391) -/

def State.linkCfg (s : State) (c sub : Nat) : Nat := s.cfg (0x5000 + c) sub
def State.linkBump (s : State) (c sub : Nat) : State := s.bump (0x5000 + c) sub

/-- R362: the vmax that a hub sends. -/
def State.sentVmax (s : State) (c : Nat) : Nat := if s.linkCfg c 1 = 0 then 0 else s.linkCfg c 3

/-- The capability level of a link as it is. -/
def State.levelOf (s : State) (c : Nat) : Nat := linkLevel c (s.link c).version

/-! ### Sending of control flits -/

/-- R342: the fseq field of a flit that is not a data flit. -/
def State.sendControl (s : State) (c : Nat) (ftype : BitVec 4) (payload : BitVec 192) : State :=
  s.sendFlit c ftype false (s.link c).nextSeq payload

/-- R356: the credits of a CTRL flit, 12 bits per buffer. -/
def creditField (l : List Nat) : BitVec 48 :=
  BitVec.ofNat 12 (l.getD 0 0) ++ BitVec.ofNat 12 (l.getD 1 0) ++ BitVec.ofNat 12 (l.getD 2 0) ++ BitVec.ofNat 12 (l.getD 3 0)

/-- The CTRL payload (R356). -/
def ctrlPayload (nseq : BitVec 12) (nak : Bool) (credits : BitVec 48) : BitVec 192 :=
  nseq ++ bit1 nak ++ (0 : BitVec 3) ++ credits ++ (0 : BitVec 128)

/-- Sends a CTRL flit with every credit that is owed (R356). -/
def State.sendCtrl (s : State) (c : Nat) (nak : Bool) : State :=
  let l := s.link c
  (s.setLink c { l with owed := [0, 0, 0, 0] }).sendControl c 1 (ctrlPayload l.rxNext nak (creditField l.owed))

/-- The NEG payload (R360). -/
structure Neg where
  id : HubId
  weft : Bool
  vmin : BitVec 2
  vmax : BitVec 2
  ack : Bool
  agreed : BitVec 2
  lanes : BitVec 3
  credits : BitVec 48
  resume : Bool
  rxNext : BitVec 12
deriving DecidableEq, Repr

def Neg.encode (n : Neg) : BitVec 192 :=
  n.id ++ bit1 n.weft ++ n.vmin ++ n.vmax ++ bit1 n.ack ++ n.agreed ++ n.lanes ++ n.credits ++ bit1 n.resume ++ n.rxNext ++
  (0 : BitVec 105)

def decodeNeg (x : BitVec 192) : Neg where
  id := getFld x 177 15
  weft := x.getLsbD 176
  vmin := getFld x 174 2
  vmax := getFld x 172 2
  ack := x.getLsbD 171
  agreed := getFld x 169 2
  lanes := getFld x 166 3
  credits := getFld x 118 48
  resume := x.getLsbD 117
  rxNext := getFld x 105 12

/-- Sends a NEG flit (R361). -/
def State.sendNeg (s : State) (c : Nat) : State :=
  let l := s.link c
  let n := bufferCap c
  let neg : Neg :=
    { id := s.hub, weft := isWeft c, vmin := BitVec.ofNat 2 (s.linkCfg c 2), vmax := BitVec.ofNat 2 (s.sentVmax c)
      ack := l.sawNeg, agreed := if l.sawNeg then l.version else 0, lanes := if isWeft c then l.lanes else 0
      credits := creditField [n, n, n, n], resume := l.keepReplay, rxNext := l.rxNext }
  (s.setLink c { l with negSent := s.clock }).sendControl c 2 neg.encode

/-! ### Acknowledgements, credits and replays (R353, R356 to R358) -/

/-- What is left of the replay buffer once the flit `aseq` is acknowledged; `none` if it holds no such flit. -/
def dropAcked (aseq : BitVec 12) : List Kept → Option (List Kept)
  | [] => none
  | k :: ks => if k.seq = aseq then some ks else dropAcked aseq ks

/-- The acknowledgement that a flit carries. -/
def Link.acked (l : Link) (aseq : BitVec 12) : Link :=
  match dropAcked aseq l.replay with
  | some ks => { l with replay := ks, replays := 0 }
  | none => l

/-- Adds returned credits to a buffer. -/
def Link.addCredit (l : Link) (b n : Nat) : Link := { l with credits := l.credits.set b (l.credits.getD b 0 + n) }

/-- Sends kept flits again, in order (R357). -/
def State.replayFlits (s : State) (c : Nat) : List Kept → State
  | [] => s
  | k :: ks => (s.sendFlit c (BitVec.ofNat 4 (4 + k.flit.buf)) k.flit.head k.seq k.flit.payload).replayFlits c ks

/-- One replay, from the kept flits given on (R357). -/
def State.replayFrom (s : State) (c : Nat) (ks : List Kept) : State :=
  if ks = [] then s
  else
    let s1 := s.modLink c fun l =>
      { l with replays := l.replays + 1
               replay := l.replay.map fun k => if k ∈ ks then { k with sentAt := s.clock } else k }
    (s1.linkBump c 13).replayFlits c ks

/-- The kept flits from a sequence number on. -/
def keptFrom (nseq : BitVec 12) : List Kept → List Kept
  | [] => []
  | k :: ks => if k.seq = nseq then k :: ks else keptFrom nseq ks

/-- R357: how long the oldest kept flit waits for its acknowledgement. -/
def replayLimit (c : Nat) : Nat := if isWeft c then nsToTime 2000 else nsToTime 200

/-- R357: the replay timeout. -/
def State.replayTimeout (s : State) (c : Nat) : State :=
  let l := s.link c
  match l.replay with
  | [] => s
  | k :: _ => if l.state = .up ∧ replayLimit c ≤ elapsed k.sentAt s.clock then s.replayFrom c l.replay else s

/-! ### Messages that a link passes on (R21, R365, R374, R376) -/

/-- R374, R381: a message whose hops are used up is discarded. -/
def State.hopDiscard (s : State) (c : Nat) (m : Msg) : State :=
  let s1 := ((s.bump 0x5100 6).recordDiscard c m).failOne { cause := 0x14 } m.hdr.partition.toNat
  match m.body with
  | .op _ =>
    match s1.bounce m .unreachable with
    | some r => if s1.reachable r.hdr.dst then s1.sendRaw r none false else s1
    | none => s1
  | _ => s1

/-- R376: a FENCE_ACK that this hub returns for a fence. -/
def State.ackFence (s : State) (h : MsgHdr) (b : FenceBody) : State :=
  s.send { hdr := { dst := h.src, src := s.hub, hops := 0, partition := 0 }, body := .fenceAck b }

/-- R21, R374: forwards a message that is for another hub. -/
def State.forwardMsg (s : State) (c : Nat) (m : Msg) : State :=
  if s.cfg 0x5100 3 ≤ m.hdr.hops.toNat then s.hopDiscard c m
  else
    match m.body with
    | .routeFence b =>
      if entryValid (s.route (s.routeKey m.hdr.dst)) then
        s.send { m with hdr := { m.hdr with hops := m.hdr.hops + 1 } } none true
      else s.ackFence m.hdr b
    | _ => s.send { m with hdr := { m.hdr with hops := m.hdr.hops + 1 } } none true

/-- A whole message that a link has received: it waits to be performed here, or it goes on. -/
def State.arriveMsg (s : State) (c : Nat) (m : Msg) : State :=
  if m.hdr.dst = s.hub then { s with inbox := s.inbox ++ [{ port := some c, msg := m }] } else s.forwardMsg c m

/-! ### Reception of data (R347, R353, R355) -/

/-- The partial message of a buffer. -/
def Link.partialOf (l : Link) (b : Nat) : List (BitVec 192) :=
  ((l.partials.find? fun x => x.1 = b).map Prod.snd).getD []

/-- Puts a data flit's payload behind the others of its message; a head flit begins a new one. -/
def Link.takeFlit (l : Link) (b : Nat) (f : Flit) : Link × List (BitVec 192) :=
  let ps := (if f.head then [] else l.partialOf b) ++ [f.payload]
  ({ l with partials := l.partials.filter fun x => x.1 ≠ b }, ps)

/-- The flit count that the header of a message gives. -/
def headFlits (ps : List (BitVec 192)) : Nat :=
  match ps with
  | p :: _ => (decodeHdr (getFld p 144 48)).2.2
  | [] => 1

/-- The partition that the header of a message names (R380). -/
def headPart (ps : List (BitVec 192)) : Nat :=
  match ps with
  | p :: _ => (decodeHdr (getFld p 144 48)).1.partition.toNat
  | [] => 0

/-- The kind that the header of a message names (R346). -/
def headKind (ps : List (BitVec 192)) : Nat :=
  match ps with
  | p :: _ => (decodeHdr (getFld p 144 48)).2.1.toNat
  | [] => 0

/-- A whole message of payloads; `none` for a reserved kind. -/
def wholeMsg (ps : List (BitVec 192)) : Option Msg :=
  match ps with
  | p :: _ =>
    let h := decodeHdr (getFld p 144 48)
    (decodePayload h.2.1 h.2.2 (joinPayloads ps)).map fun b => { hdr := h.1, body := b }
  | [] => none

/-- The partition of a message received: of an op of a level-1 link the one that the link's setting gives it (R367). -/
def State.rxPart (s : State) (c : Nat) (ps : List (BitVec 192)) : Nat :=
  if s.levelOf c = 1 ∧ headKind ps = 1 then s.linkCfg c 8 else headPart ps

/-- LinkRxBytes counts the flits of the messages of a partition; a fence or its acknowledgement is of none (R456). -/
def State.countRx (s : State) (c : Nat) (ps : List (BitVec 192)) : State :=
  if headKind ps = 7 ∨ headKind ps = 8 then s else s.count 0x6002 (c + 1) (s.rxPart c ps) 32

/-- Accepts a data flit in order (R355). -/
def State.acceptFlit (s : State) (c : Nat) (f : Flit) : State :=
  let b := f.ftype.toNat - 4
  let l0 := s.link c
  let l1 := { l0 with rxNext := l0.rxNext + 1, rxAny := true, nakSent := false, ackOwed := true }
  let r := l1.takeFlit b f
  let s1 := (s.setLink c r.1).countRx c r.2
  if r.2.length < headFlits r.2 then s1.modLink c fun l => { l with partials := l.partials ++ [(b, r.2)] }
  else
    let s2 := s1.modLink c fun l => { l with owed := l.owed.set b (l.owed.getD b 0 + r.2.length) }
    match wholeMsg r.2 with
    | some m => s2.arriveMsg c m
    | none => s2.linkBump c 16

/-- R356: a NAK, unless one is out. -/
def State.nak (s : State) (c : Nat) : State :=
  if (s.link c).nakSent then s else (s.modLink c fun l => { l with nakSent := true }).sendCtrl c true

/-- A good data flit: in order, a duplicate, or out of order (R355, R356). -/
def State.dataFlit (s : State) (c : Nat) (f : Flit) : State :=
  let l := s.link c
  let behind := (l.rxNext - f.fseq).toNat
  if f.fseq = l.rxNext then s.acceptFlit c f
  else if behind ≤ 2048 then s.modLink c fun l => { l with ackOwed := true }
  else s.nak c

/-! ### Leaving UP (R378 to R380) -/

/-- The partitions of the messages that a link abandons: of the kept flits, and of the messages partly sent. -/
def Link.abandonParts (l : Link) : List Nat :=
  distinct ((l.replay.map fun k => k.flit.partition) ++ ((l.txq.filter TxMsg.begun).map fun m => m.msg.hdr.partition.toNat))

/-- R379 steps 1 and 2: abandons the replay buffer; what is left of a message partly sent goes with it. -/
def State.abandonReplay (s : State) (c : Nat) : State :=
  let l := s.link c
  let ps := l.abandonParts
  let s1 := s.bumpN (0x5000 + c) 15 0 l.replay.length
  let s2 := s1.setLink c { l with replay := [], txq := l.txq.filter fun m => !m.begun, keepReplay := false, replays := 0 }
  if ps = [] then s2 else s2.jobFault { cause := 0x12, link := c } (ps.filter fun p => decide (p < s.partCount))

/-- R380: discards the partial messages of a link. -/
def State.dropPartials (s : State) (c : Nat) : State :=
  let ps := distinct ((s.link c).partials.map fun x => headPart x.2)
  let s1 := s.modLink c fun l => { l with partials := [] }
  if ps = [] then s1 else s1.jobFault { cause := 0x13, link := c } (ps.filter fun p => decide (p < s.partCount))

/-- Completes the Catalogue writes that wait for a link (R366). -/
def State.linkSettled (s : State) (c : Nat) : State :=
  let hs := (s.link c).catWaits
  (s.modLink c fun l => { l with catWaits := [] }).catFinishAll .done hs

/-- R379 step 4: the route entries that move from a link to their alternates. -/
def State.movingKeys (s : State) (c : Nat) : List RouteKey :=
  (s.routes.filter fun x =>
    entryValid x.2 && entryPrimary x.2 = c && entryAltValid x.2 && s.linkUp (entryAlt x.2) &&
      !s.changes.any fun y => y.key = x.1).map Prod.fst

/-- Sends again, by their routes, the messages that a link has queued. -/
def State.requeue (s : State) : List TxMsg → State
  | [] => s
  | m :: ms => (s.send m.msg m.about m.fwd).requeue ms

/-- A planned change whose old link is lost goes on as R379 says: its fences count no more, and its covered messages wait
out the settle time, those that the lost link had queued first (R375, R379). -/
def State.changesLost (s : State) (c : Nat) : State :=
  let keys := (s.changes.filter fun x => decide (x.link = c) && !x.fences.isEmpty).map RouteChange.key
  let covered (m : TxMsg) : Bool := !m.begun && keys.contains (s.routeKey m.msg.hdr.dst)
  let ownFence (m : TxMsg) : Bool := m.msg.body.isFence && decide (m.msg.hdr.src = s.hub)
  let later (w : WaitMsg) : Bool := decide (w.why = .fenced) && keys.contains w.key
  let taken := (s.link c).txq.filter fun m => covered m && !ownFence m
  let s1 := s.modLink c fun l => { l with txq := l.txq.filter fun m => !covered m }
  { s1 with
    changes := s.changes.map fun x => if keys.contains x.key then { x with fences := [] } else x
    settles := s.settles ++ keys.map fun k => (k, s.clock)
    waitMsgs := (s.waitMsgs.filter fun w => !later w) ++
      taken.map (fun m => { msg := m.msg, about := m.about, why := .fenced, key := s.routeKey m.msg.hdr.dst, since := s.clock,
                            fwd := m.fwd }) ++
      s.waitMsgs.filter later }

/-- R379 step 4 for a link that has left UP: its covered messages wait out RouteSettleTime. -/
def State.moveRoutes (s : State) (c : Nat) : State :=
  let s1 := s.changesLost c
  let q := (s1.link c).txq
  let s2 := s1.modLink c fun l => { l with txq := [] }
  ({ s2 with settles := s2.settles ++ (s2.movingKeys c).map fun k => (k, s.clock) } : State).requeue q

/-- A link enters HOLD (R378). -/
def State.enterHold (s : State) (c reason : Nat) : State :=
  (s.modLink c fun l => { l with keepReplay := true, since := s.clock, sawNeg := false, timeoutNoted := false }).moveLink c
    .hold reason 0 0

/-- R445: the key of a stage's failed restarts; a link layer's is that of its port. -/
def stageKey (stage port : Nat) : Nat := stage * 16 + (if 30 ≤ stage then port else 0)

/-- R445: the link layer of a port is out. -/
def State.linkOut (s : State) (c : Nat) : Bool :=
  decide (3 ≤ s.stageFails.get natNone (stageKey (if isWeft c then 31 else 30) c))

/-- A link with a PHY begins to negotiate (R361), unless its link layer is out. -/
def State.startNeg (s : State) (c reason parts abandoned : Nat) : State :=
  if s.linkOut c then s else
  ((s.modLink c fun l => { l with since := s.clock, sawNeg := false, timeoutNoted := false }).moveLink c .negotiating reason
    parts abandoned).sendNeg c

/-- R379: LinkHoldTime has passed in HOLD. -/
def State.holdExpiry (s : State) (c : Nat) : State :=
  let l := s.link c
  if l.state = .hold ∧ s.linkCfg c 12 ≤ elapsed l.since s.clock then
    let n := l.replay.length
    let bits := partBits l.abandonParts
    let s1 := ((s.abandonReplay c).dropPartials c).moveLink c .down 6 bits n
    let s2 := (s1.moveRoutes c).linkSettled c
    if l.phyUp && !l.retrain then s2.startNeg c 0 0 0 else s2
  else s

/-! ### Planned route changes (R375) -/

/-- The first fence number of a hub's own sequence is a free value. -/
def State.fenceBase (s : State) : BitVec 8 := Config.firstSeq 3 + s.fenceNum

/-- Sends the fences of a change on the old route's link. -/
def State.sendFences (s : State) (c vl : Nat) : List (HubId × FenceBody) → State
  | [] => s
  | (h, b) :: fs =>
    (s.queueOn c vl
      { hdr := { dst := h, src := s.hub, hops := 0, partition := 0 }, body := .routeFence b } none false).sendFences c vl fs

/-- The fences of a change: one in each class to each covered hub, each hub's with a number of its own. -/
def fenceList (base : BitVec 8) : List HubId → List (HubId × FenceBody)
  | [] => []
  | h :: hs => (h, { num := base, cpl := false }) :: (h, { num := base, cpl := true }) :: fenceList (base + 1) hs

/-- Starts a planned change of a route from a link and VL in use. -/
def State.startChange (s : State) (k : RouteKey) (e : BitVec 32) (c vl : Nat) (cats : List CatHdr) : State :=
  let hubs := (s.routeCovers k).filter fun h => h ≠ s.hub
  let fs := fenceList s.fenceBase hubs
  ({ s with
    changes := s.changes ++ [{ key := k, entry := e, link := c, fences := fs.map fun x => (x.2.cpl, x.2.num), cats := cats }]
    fenceNum := s.fenceNum + BitVec.ofNat 8 hubs.length } : State).sendFences c vl fs

/-- Installs a route entry, and the messages that can leave on it do. -/
def State.installRoute (s : State) (k : RouteKey) (e : BitVec 32) : State :=
  (s.putRoute k e).retryStranded

/-- The key that RouteSelect names (R392). -/
def routeSelected (v : Nat) : RouteKey := if v.testBit 12 then 4096 + v % 4096 else v % 4096

/-- R375: a write of RouteEntry. The answer is `none` while a planned change is under way; a second write of the entry
during one replaces its target (DESIGN CHOICE, log entry 16). -/
def State.writeRoute (s : State) (h : CatHdr) (k : RouteKey) (e : BitVec 32) : State × Option CatStatus :=
  if s.changes.any fun x => x.key = k then
    ({ s with changes := s.changes.map fun x => if x.key = k then { x with entry := e, cats := x.cats ++ [h] } else x },
      none)
  else match s.leave (s.route k) with
    | .on c vl =>
      if s.leave e = .on c vl then (s.installRoute k e, some .done) else (s.startChange k e c vl [h], none)
    | .strand => (s.installRoute k e, some .done)

/-- The end of a planned change (R375 step 4): the entry is installed, and the held messages leave on the new route. -/
def State.finishChange (s : State) (x : RouteChange) : State :=
  let s1 := ({ s with changes := s.changes.erase x } : State).installRoute x.key x.entry
  (s1.releaseWaiting fun w => decide (w.why = .fenced) && w.key = x.key).catFinishAll .done x.cats

/-- Ends the planned changes given. -/
def State.finishChanges (s : State) : List RouteChange → State
  | [] => s
  | x :: xs => (s.finishChange x).finishChanges xs

/-- R379: RouteSettleTime has passed for the routes that left a link; a planned change that lost the link ends. -/
def State.routeSettle (s : State) (c : Nat) : State :=
  let due (x : RouteKey × Time) : Bool :=
    (decide (entryPrimary (s.route x.1) = c) || s.changes.any fun y => decide (y.key = x.1) && decide (y.link = c)) &&
      decide (s.cfg 0x5100 4 ≤ elapsed x.2 s.clock)
  let keys := (s.settles.filter due).map Prod.fst
  let ended := s.changes.filter fun y => y.fences.isEmpty && keys.contains y.key
  (({ s with settles := s.settles.filter fun x => !due x } : State).releaseWaiting fun w =>
    decide (w.why = .settling) && keys.contains w.key).finishChanges ended

/-- R375 steps 3 and 4: an acknowledged fence. -/
def State.fenceAcked (s : State) (b : FenceBody) : State :=
  match s.changes.find? fun x => x.fences.contains (b.cpl, b.num) with
  | none => s
  | some x =>
    let y := { x with fences := x.fences.erase (b.cpl, b.num) }
    if y.fences = [] then s.finishChange x
    else { s with changes := s.changes.map fun z => if z = x then y else z }

/-- R379 step 5: the routes whose primary is up again move back by a planned change. -/
def State.moveBack (s : State) (c : Nat) : List RouteKey → State
  | [] => s
  | k :: ks =>
    let e := s.route k
    let s1 :=
      if s.changes.any fun x => x.key = k then s
      else if s.settles.any fun x => x.1 = k then
        ({ s with settles := s.settles.filter fun x => x.1 ≠ k } : State).releaseWaiting fun w =>
          decide (w.why = .settling) && w.key = k
      else s.startChange k e (entryAlt e) (entryAltVl e) []
    s1.moveBack c ks

/-! ### Negotiation (R360 to R363, R366, R378) -/

/-- R363: the agreed version. -/
def State.agreedVersion (s : State) (c : Nat) (n : Neg) : Option (BitVec 2) :=
  let v := min (s.sentVmax c) n.vmax.toNat
  if v < s.linkCfg c 2 ∨ v < n.vmin.toNat then none else some (BitVec.ofNat 2 v)

/-- R362: why a NEG makes the link REFUSED. -/
def State.negRefusal (s : State) (c : Nat) (n : Neg) : Option Nat :=
  let sameDevice := decide ((getFld n.id 3 12 : BitVec 12) = s.device)
  if n.id = s.hub then some 3
  else if !isWeft c && (!sameDevice || n.weft) then some 0xA
  else if isWeft c && (sameDevice || !n.weft) then some 0xA
  else if s.sentVmax c = 0 ∨ n.vmax = 0 then some 8
  else if s.agreedVersion c n = none then some 4
  else none

/-- A link goes to REFUSED; the routes that used it move (R362, R366). -/
def State.refuseLink (s : State) (c reason : Nat) : State :=
  let l := s.link c
  let held := decide (l.state = .hold)
  let n := if held then l.replay.length else 0
  let bits := if held then partBits l.abandonParts else 0
  let s1 := if held then s.abandonReplay c else s
  let s2 := ((s1.dropPartials c).modLink c fun l => { l with closing := false, keepReplay := false, version := 0 }).moveLink
    c .refused reason bits n
  (s2.moveRoutes c).linkSettled c

/-- The initial credits that a NEG gives (R353). -/
def negCredits (n : Neg) : List Nat :=
  [(getFld n.credits 36 12 : BitVec 12).toNat, (getFld n.credits 24 12 : BitVec 12).toNat,
   (getFld n.credits 12 12 : BitVec 12).toNat, (getFld n.credits 0 12 : BitVec 12).toNat]

/-- The kept flits that the peer has not accepted, by its rx_next. -/
def keptUnseen (rxNext : BitVec 12) (ks : List Kept) : List Kept :=
  ks.filter fun k => decide ((k.seq - rxNext).toNat < 2048)

/-- The link comes UP with sequence numbers from 0. A message that it has queued is sent by its route again, so that its
level is checked anew. -/
def State.upFresh (s : State) (c : Nat) (n : Neg) : State :=
  let l := s.link c
  let s1 := s.setLink c { l with
    nextSeq := 0, rxNext := 0, rxAny := false, nakSent := false, replay := [], credits := negCredits n, owed := [0, 0, 0, 0]
    ackOwed := false, replays := 0, keepReplay := false, closing := false, wasUp := true
    txq := l.txq.filter TxMsg.begun }
  let back := (s1.movingKeys c)
  let s2 := ((s1.moveLink c .up 0 0 0).moveBack c back).requeue (l.txq.filter fun m => !m.begun)
  ((s2.sendNeg c).pump c).linkSettled c

/-- The link resumes (R378): each side replays from the peer's rx_next. -/
def State.upResume (s : State) (c : Nat) (n : Neg) : State :=
  let l := s.link c
  let ks := keptUnseen n.rxNext l.replay
  let s1 := s.setLink c { l with replay := ks, replays := 0, keepReplay := false }
  let s2 := ((s1.moveLink c .up 0 0 0).sendNeg c).replayFlits c ks
  if l.closing then s2.moveLink c .renegotiating 7 0 0 else (s2.pump c).linkSettled c

/-- A NEG with resume agrees with what the hub kept (R378). -/
def State.resumes (s : State) (c : Nat) (n : Neg) : Bool :=
  let l := s.link c
  n.resume && l.keepReplay && l.peer == some n.id && s.agreedVersion c n == some l.version

/-- A held link that cannot resume abandons what it kept and negotiates anew (R378, R380). -/
def State.loseHold (s : State) (c : Nat) (n : Neg) : State :=
  let l := s.link c
  let reason := if l.peer = some n.id then 0 else 5
  let k := l.replay.length
  let bits := partBits l.abandonParts
  (((s.abandonReplay c).dropPartials c).changesLost c).startNeg c reason bits k

/-- Notes the peer's NEG, and goes UP if the two agree (R361). -/
def State.agree (s : State) (c : Nat) (n : Neg) (resumed : Bool) : State :=
  let v := (s.agreedVersion c n).getD 0
  let s1 := s.modLink c fun l => { l with peer := some n.id, peerVmax := n.vmax, version := v, sawNeg := true }
  if n.ack && decide (n.agreed = v) then
    if resumed then s1.upResume c n else s1.upFresh c n
  else s1

/-- Whether a link exchanges NEG flits now. -/
def Link.negotiates (l : Link) : Bool :=
  l.phyUp && (decide (l.state = .negotiating) || (decide (l.state = .hold) && !l.retrain) ||
    (decide (l.state = .renegotiating) && l.replay.isEmpty))

/-- R366: an UP link begins to drain for a renegotiation. -/
def State.startRenegotiation (s : State) (c : Nat) : State :=
  let s1 := (s.modLink c fun l => { l with closing := true, sawNeg := false, timeoutNoted := false, since := s.clock }).moveLink
    c .renegotiating 7 0 0
  if (s1.link c).replay.isEmpty then s1.sendNeg c else s1

/-- A REFUSED link that hears a NEG with ack 0, so from a peer that checks again: it negotiates if nothing of R362 stands
against the NEG, and answers it otherwise (DEDUCED from R366, log entry 33). -/
def State.negRefused (s : State) (c : Nat) (n : Neg) : State :=
  if n.ack = false ∧ (s.link c).phyUp = true ∧ s.linkOut c = false then
    match s.negRefusal c n with
    | some _ => (s.modLink c fun l => { l with sawNeg := true }).sendNeg c
    | none => (s.startNeg c 0 0 0).agree c n false
  else s

/-- A good NEG flit. -/
def State.negFlit (s : State) (c : Nat) (n : Neg) : State :=
  let s0 := if (s.link c).state = .up ∧ n.ack = false then s.startRenegotiation c else s
  let l := s0.link c
  if l.negotiates then
    match s0.negRefusal c n with
    | some reason => s0.refuseLink c reason
    | none =>
      if l.state = .hold then
        if s0.resumes c n then s0.agree c n true else (s0.loseHold c n).agree c n false
      else s0.agree c n false
  else if l.state = .refused then s0.negRefused c n
  else s0

/-- R361: another NEG after 100 ns. -/
def State.negResend (s : State) (c : Nat) : State :=
  let l := s.link c
  if l.negotiates && decide (nsToTime 100 ≤ elapsed l.negSent s.clock) then s.sendNeg c else s

/-- R361: no agreement within 100 µs. -/
def State.negTimeout (s : State) (c : Nat) : State :=
  let l := s.link c
  if (decide (l.state = .negotiating) || (decide (l.state = .hold) && l.phyUp && !l.retrain)) && !l.timeoutNoted &&
      decide (nsToTime 100000 ≤ elapsed l.since s.clock) then
    (s.modLink c fun x => { x with timeoutNoted := true }).linkNote c (linkCode l.state) 9 0 0
  else s

/-- R366: a write of LinkVersionMin, LinkVersionMax or LinkEnable; the answer is `none` until the link is settled. A link
without a PHY has nothing to settle (DESIGN CHOICE, log entry 17). -/
def State.renegotiate (s : State) (h : CatHdr) (c sub v : Nat) : State × Option CatStatus :=
  let s1 := s.setCfg (0x5000 + c) sub 0 v
  let wait := s1.modLink c fun l => { l with catWaits := l.catWaits ++ [h] }
  match (s1.link c).state with
  | .up => (wait.startRenegotiation c, none)
  | .renegotiating => (wait, none)
  | .hold => (wait, none)
  | .negotiating => (wait, none)
  | .refused => if (s1.link c).phyUp then (wait.startNeg c 7 0 0, none) else (s1, some .done)
  | _ => (s1, some .done)

/-- R362: a REFUSED link checks again when an entry of its range is written. -/
def State.recheckLink (s : State) (c : Nat) : State :=
  if (s.link c).state = .refused ∧ (s.link c).phyUp = true then s.startNeg c 7 0 0 else s

/-! ### The PHY (R340, R361, R378) -/

/-- phy_up rises. -/
def State.phyRise (s : State) (c : Nat) (lanes : BitVec 3) : State :=
  let l := s.link c
  if l.phyUp then s
  else
    let s1 := s.setLink c { l with phyUp := true, lanes := if isWeft c then lanes else 0, timeoutNoted := false }
    if l.state = .hold then s1.sendNeg c else s1.startNeg c 0 0 0

/-- phy_up falls. -/
def State.phyFall (s : State) (c : Nat) : State :=
  let l := s.link c
  if l.phyUp then
    let s1 := s.setLink c { l with phyUp := false, retrain := false, sawNeg := if l.state = .hold then false else l.sawNeg }
    match l.state with
    | .up => s1.enterHold c 1
    | .renegotiating => s1.enterHold c 1
    | .hold => s1
    | _ => (s1.moveLink c (if l.wasUp then .down else .training) 1 0 0).linkSettled c
  else s

/-- R358: LinkRetryLimit replays have passed without an advance. -/
def State.retryLimit (s : State) (c : Nat) : State :=
  let l := s.link c
  if (l.state = .up ∨ l.state = .renegotiating) ∧ s.linkCfg c 11 ≤ l.replays then
    (s.modLink c fun x => { x with retrain := true }).enterHold c 2
  else s

/-- R356: a receiver with no reverse data acknowledges. -/
def State.ackCtrl (s : State) (c : Nat) : State :=
  let l := s.link c
  if (l.state = .up ∨ l.state = .renegotiating) ∧ (l.ackOwed = true ∨ l.creditBuf.isSome = true) then s.sendCtrl c false else s

/-! ### Fabric time (R384 to R390) -/

/-- TimeState (R392). -/
def State.timeState (s : State) : TimeState := if s.cfg 0x5200 1 ≠ 0 then .root else s.sync.state

/-- R364, R385: a timestamp as a link of its level carries it. -/
def State.linkTime (s : State) (c : Nat) (t : Time) : Time :=
  if 3 ≤ s.levelOf c then t else (getFld t 8 56 : BitVec 56) ++ (0 : BitVec 8)

/-- The TIME payload (R385). -/
def timePayload (kind : BitVec 4) (xnum : BitVec 8) (ta tb : Time) : BitVec 192 :=
  kind ++ xnum ++ (0 : BitVec 52) ++ ta ++ tb

/-- R385: a child sends a REQ. -/
def State.timeExchange (s : State) : State :=
  match s.parentLink with
  | none => s
  | some c =>
    if s.cfg 0x5200 1 ≠ 0 ∨ (s.sync.asked = true ∧ elapsed s.sync.t1 s.time < s.cfg 0x5200 4) then s
    else
      let t1 := s.linkTime c s.time
      let n := s.sync.xnum + 1
      ({ s with sync := { s.sync with xnum := n, asked := true, t1 := t1 } } : State).sendControl c 3 (timePayload 1 n t1 0)

/-- R385: a hub answers a REQ on a link that is UP. -/
def State.answerTime (s : State) (c : Nat) (payload : BitVec 192) : State :=
  let t := s.linkTime c s.time
  s.sendControl c 3 (timePayload 2 (getFld payload 180 8) t t)

/-- Shifts a stamp by a signed time, toward minus infinity (DESIGN CHOICE, log entry 3). -/
def shiftStamp (d : Int) (st : Stamp) : Stamp := st + BitVec.ofInt 24 (d / 512)
def shiftDeadline (d : Int) (x : BitVec 43) : BitVec 43 := x + BitVec.ofInt 43 (d / 256)
def shiftTime (d : Int) (t : Time) : Time := t + BitVec.ofInt 64 d

/-- A port after the shift of R388. -/
def Port.shifted (d : Int) (x : Port) : Port :=
  let r (q : Rsp) : Rsp := { q with stamp := shiftStamp d q.stamp }
  { x with
    pend := x.pend.map fun e => { e with
      stamp := shiftStamp d e.stamp, deadline := e.deadline.map (shiftTime d) }
    lanes := x.lanes.map r
    parkHeld := x.parkHeld.map r
    holdStore := x.holdStore.map r
    inval := x.inval.map fun q => (r q.1, q.2)
    nearWaits := x.nearWaits.map fun w => { w with stamp := shiftStamp d w.stamp } }

/-- A slot after the shift. -/
def Slot.shifted (d : Int) (x : Slot) : Slot :=
  { x with sent := x.sent.map fun e => { e with
      stamp := shiftStamp d e.stamp, deadline := e.deadline.map (shiftTime d) } }

/-- The body of a message after the shift. -/
def shiftBody (d : Int) : Payload → Payload
  | .op b => .op { b with carry := { b.carry with
      stamp := shiftStamp d b.carry.stamp
      deadline := if b.carry.dlValid then shiftDeadline d b.carry.deadline else b.carry.deadline } }
  | .fwdArrv b => .fwdArrv { b with stamp := shiftStamp d b.stamp }
  | .loan .req b => .loan .req { b with stamp := shiftStamp d b.stamp }
  | b => b

/-- A message that hub `h` originated, after the shift. -/
def shiftMsg (d : Int) (h : HubId) (m : Msg) : Msg := if m.hdr.src = h then { m with body := shiftBody d m.body } else m

/-- A link after the shift: the hub's own messages that it has still to begin. -/
def Link.shifted (d : Int) (h : HubId) (c : Nat) (l : Link) : Link :=
  { l with txq := l.txq.map fun m =>
      if m.begun || m.fwd then m
      else { m with msg := shiftMsg d h m.msg, flits := txFlits (w1Msg (linkLevel c l.version) (shiftMsg d h m.msg)) m.buf } }

/-- R383, R388: steps the time by θ, and shifts every stamp and deadline with it. -/
def State.stepTime (s : State) (d : Int) : State :=
  { s with
    time := shiftTime d s.time
    waiters := s.waiters.map fun w => { w with
      stamp := shiftStamp d w.stamp, deadline := if w.dlValid then shiftDeadline d w.deadline else w.deadline }
    ports := s.ports.remap portNone (Port.shifted d)
    slots := s.slots.remap slotNone (Slot.shifted d)
    inbox := s.inbox.map fun m => { m with msg := shiftMsg d s.hub m.msg }
    waitMsgs := s.waitMsgs.map fun w => { w with msg := shiftMsg d s.hub w.msg }
    links := s.links.remapKey linkNone (Link.shifted d s.hub)
    sync := { s.sync with samples := [], slew := 0 } }

/-- The sample with the smallest δ; of equal ones the newest. -/
def bestSample : List (Int × Int) → Option (Int × Int)
  | [] => none
  | x :: xs =>
    match bestSample xs with
    | some y => if y.2 ≤ x.2 then some y else some x
    | none => some x

/-- R386 to R388, R390: a child uses an exchange that link `c` carried. -/
def State.useExchange (s : State) (c : Nat) (t1 t2 t3 t4 a : BitVec 64) : State :=
  let theta := (((t2 - t1) - (t4 - t3) - a).sshiftRight 1).toInt
  let delta := (((t4 - t1) - (t3 - t2)).sshiftRight 1)
  let samples := (s.sync.samples ++ [(theta, delta.toInt)])
  let kept := samples.drop (samples.length - 8)
  let used := ((bestSample kept).map Prod.fst).getD theta
  let good := if -512 < used ∧ used < 512 then s.sync.good + 1 else 0
  let fresh := decide (s.sync.state = .unsynced)
  let far := decide (256000 < used ∨ used < -256000)
  let st : TimeState := match s.sync.state with
    | .unsynced => if 8 ≤ good then .locked else .unsynced
    | _ => .locked
  let s1 : State := { s.setCfg (0x5000 + c) 10 0 delta.toNat with
    sync := { s.sync with samples := kept, good := good, offset := BitVec.ofInt 64 used, asked := false, state := st
                          slew := used } }
  if fresh || far then
    let s2 := (s1.stepTime used).bump 0x5200 10
    if used < 0 ∧ fresh = false then (s2.bump 0x5200 11).linkNote c (linkCode (s.link c).state) 0x0E 0 0 else s2
  else s1

/-- R385: a RSP on the parent link. -/
def State.timeAnswer (s : State) (c : Nat) (payload : BitVec 192) : State :=
  if s.parentLink = some c ∧ s.cfg 0x5200 1 = 0 ∧ s.sync.asked = true ∧ getFld payload 180 8 = s.sync.xnum then
    s.useExchange c s.sync.t1 (getFld payload 64 64) (getFld payload 0 64) s.time (BitVec.ofNat 64 (s.linkCfg c 9))
  else s

/-- R390: HOLDOVER has lasted longer than its limit. -/
def State.holdoverLimit (s : State) : State :=
  if s.timeState = .holdover ∧ s.sync.holdNoted = false ∧ s.cfg 0x5200 9 < elapsed s.sync.holdSince s.clock then
    let c := s.cfg 0x5200 2
    ({ s with sync := { s.sync with holdNoted := true } } : State).linkNote c (linkCode (s.link c).state) 0x0D 0 0
  else s

/-- R392: a write of TimeSet: once, on the root. -/
def State.writeTimeSet (s : State) (t : Time) : State × CatStatus :=
  if s.cfg 0x5200 1 = 0 ∨ s.sync.setUsed = true then (s, .accessError)
  else ({ s with time := t, sync := { s.sync with setUsed := true } }, .done)

/-! ### Reception of any flit (R342 to R344, R353, R355) -/

/-- A CTRL flit (R356). -/
def State.ctrlFlit (s : State) (c : Nat) (payload : BitVec 192) : State :=
  let k (lsb : Nat) : Nat := (getFld payload lsb 12 : BitVec 12).toNat
  let s1 := s.modLink c fun l =>
    (((l.addCredit 0 (k 164)).addCredit 1 (k 152)).addCredit 2 (k 140)).addCredit 3 (k 128)
  if payload.getLsbD 179 then s1.replayFrom c (keptFrom (getFld payload 180 12) (s1.link c).replay) else s1

/-- A TIME flit (R385). -/
def State.timeFlit (s : State) (c : Nat) (payload : BitVec 192) : State :=
  let kind : BitVec 4 := getFld payload 188 4
  if (s.link c).state ≠ .up then s
  else if kind = 1 then s.answerTime c payload
  else if kind = 2 then s.timeAnswer c payload
  else s

/-- Whether a link's data flits flow, or flow out (R366, R377). -/
def Link.carries (l : Link) : Bool := decide (l.state = .up) || decide (l.state = .renegotiating)

/-- What every good flit carries: an acknowledgement and a credit. -/
def State.takeAck (s : State) (c : Nat) (f : Flit) : State :=
  s.modLink c fun l =>
    let l1 := l.acked f.aseq
    if f.crv then l1.addCredit f.crb.toNat 1 else l1

/-- A link that has drained for a renegotiation sends its NEG (R366). -/
def State.drainedNeg (s : State) (c : Nat) (before : Link) : State :=
  let l := s.link c
  if l.state = .renegotiating ∧ l.replay = [] ∧ before.replay ≠ [] then s.sendNeg c else s

/-- A good flit by its type. -/
def State.goodFlit (s : State) (c : Nat) (f : Flit) : State :=
  let l := s.link c
  if f.ftype = 2 then s.negFlit c (decodeNeg f.payload)
  else if l.carries then
    let s1 := s.takeAck c f
    let s2 := if f.ftype = 1 then s1.ctrlFlit c f.payload
      else if f.ftype = 3 then s1.timeFlit c f.payload
      else if 4 ≤ f.ftype.toNat then s1.dataFlit c f
      else s1
    (s2.drainedNeg c l).pump c
  else s

/-- A flit that a link receives. A discarded flit that reads as a data flit is answered with a NAK (DEDUCED, log entry
18). -/
def State.receiveFlit (s : State) (c : Nat) (flit : BitVec 256) (bad : Bool) : State :=
  let l := s.link c
  if !l.phyUp || !s.live then s
  else
    let s1 := s.count (0x6010 + c) 2 0 1
    if bad || !flitGood flit then
      let s2 := s1.linkBump c 14
      if l.carries && decide (4 ≤ (getFld flit 252 4 : BitVec 4).toNat) then s2.nak c else s2
    else s1.goodFlit c (decodeFlit flit)

end Sys2Proof.Machine
end

