-- ==== Sys2Proof/Machine/Observe.lean ====
section
/-! DEFINITION. Observation: arming and cancelling shelves (R460 to R463), the Folio's control (R471 to R474), Deposit
rules (R483 to R487), HOLD between hubs (R479), and Stocktake (R495 to R502). -/

namespace Sys2Proof.Machine

/-! ### Shelf-read -/

/-- What an arming names (R460). -/
structure Arming where
  shelf : Nat
  mode : Bool
  index : BitVec 17
  round : BitVec 28
  time : Time
  asker : Option (HubId × BitVec 8)
deriving DecidableEq, Repr

/-- R461: the status with which an arming fails at once, if it does. -/
def State.armFails (s : State) (p : Nat) (a : Arming) : Option (BitVec 3) :=
  if a.mode then
    let o := s.obj (s.shareBase p + a.index.toNat)
    if s.shareSize ≤ a.index.toNat ∨ o.otype ≠ .barrier ∨ o.partition.toNat ≠ p then some 2
    else
      let n := (o.round - a.round).toNat
      if 1 ≤ n ∧ n ≤ 2 ^ 27 then some 3 else none
  else if a.time.toNat ≤ s.time.toNat then some 1 else none

/-- R460: arms a shelf of this hub and discards its image. -/
def State.armShelf (s : State) (p : Nat) (a : Arming) : State :=
  let h := s.shelf p a.shelf
  let s1 := s.setShelf p a.shelf { h with
    state := .armed, mode := a.mode, armTime := a.time, armIndex := a.index, armRound := a.round, asker := a.asker
    round := 0, latchTime := 0, counters := [], status := 0, generation := h.generation + 1 }
  match s.armFails p a with
  | some st => s1.failShelf p a.shelf st
  | none => s1

/-- R461: cancels a shelf that is armed. -/
def State.cancelShelf (s : State) (p k : Nat) : State :=
  if (s.shelf p k).state = .armed then s.failShelf p k 4 else s

/-- Sends SHELF messages of a kind to a list of hubs. -/
def State.sendShelf (s : State) (p : Nat) (k : ShelfKind) (b : ShelfBody) : List HubId → State
  | [] => s
  | h :: hs => (s.send { hdr := s.hdrTo h p, body := .shelf k b }).sendShelf p k b hs

/-- The request number that a shelf's present arming uses; the first is a free value. -/
def Shelf.number (h : Shelf) : BitVec 8 := Config.firstSeq 4 + h.seq

/-- R462: a scope-all arming's messages, and the named hubs without a usable level-3 route, which count at once. -/
def State.armPeers (s : State) (p : Nat) (a : Arming) : State :=
  let named := s.namedHubs p
  let peers := named.filter fun h => s.reachableAt h 3
  let s1 := s.modPart p fun x =>
    let h := x.shelf a.shelf
    x.setShelf a.shelf { h with
      seq := h.seq + 1, peers := peers, since := s.clock, peersLatched := 0
      peersFailed := BitVec.ofNat 32 (named.length - peers.length) }
  s1.sendShelf p .arm
    { shelf := a.shelf = 1, mode := a.mode, seq := (s1.shelf p a.shelf).number, status := 0
      index := if a.mode then a.index else 0, round := if a.mode then a.round else 0
      time := if a.mode then 0 else a.time } peers

/-- R460, R462: a write of ShelfArm. -/
def State.writeShelfArm (s : State) (p : Nat) (v : BitVec 8) : State :=
  let a : Arming :=
    { shelf := bitNat (v.getLsbD 0), mode := v.getLsbD 1, index := BitVec.ofNat 17 (s.cfg 0x6020 3 p)
      round := BitVec.ofNat 28 (s.cfg 0x6020 4 p), time := BitVec.ofNat 64 (s.cfg 0x6020 2 p), asker := none }
  (if v.getLsbD 2 then s.armPeers p a else s).armShelf p a

/-- R461, R462: a write of ShelfCancel. A message repeats the number of the shelf's present arming (DEDUCED, log entry
20). -/
def State.writeShelfCancel (s : State) (p : Nat) (v : BitVec 8) : State :=
  let k := bitNat (v.getLsbD 0)
  let h := s.shelf p k
  let s1 :=
    if v.getLsbD 2 then
      s.sendShelf p .cancel
        { shelf := k = 1, mode := h.mode, seq := h.number, status := 0, index := 0, round := 0, time := 0 }
        ((s.namedHubs p).filter fun d => s.reachableAt d 3)
    else s
  s1.cancelShelf p k

/-- R462: a SHELF_ARM of hub `src`. -/
def State.shelfArmMsg (s : State) (src : HubId) (p : Nat) (b : ShelfBody) : State :=
  if s.partCount ≤ p then s
  else s.armShelf p { shelf := bitNat b.shelf, mode := b.mode, index := b.index, round := b.round, time := b.time,
                      asker := some (src, b.seq) }

/-- R462: a SHELF_CANCEL. -/
def State.shelfCancelMsg (s : State) (p : Nat) (b : ShelfBody) : State :=
  if s.partCount ≤ p then s else s.cancelShelf p (bitNat b.shelf)

/-- R462: a SHELF_DONE of hub `src`; one that is not awaited is ignored (DEDUCED, log entry 20). -/
def State.shelfDoneMsg (s : State) (src : HubId) (p : Nat) (b : ShelfBody) : State :=
  let k := bitNat b.shelf
  let h := s.shelf p k
  if h.peers.contains src && b.seq = h.number then
    let h1 := { h with peers := h.peers.filter fun d => d ≠ src }
    s.setShelf p k (if b.status = 0 then { h1 with peersLatched := h.peersLatched + 1 }
                    else { h1 with peersFailed := h.peersFailed + 1 })
  else s

/-- R461: a SHELF_DONE is missing after RouteStrandTime. -/
def State.shelfMissing (s : State) (p k : Nat) : State :=
  let h := s.shelf p k
  if h.peers ≠ [] ∧ s.cfg 0x5100 5 ≤ elapsed h.since s.clock then
    s.setShelf p k { h with peers := [], peersFailed := h.peersFailed + BitVec.ofNat 32 h.peers.length }
  else s

/-- R460: fabric time has reached ShelfArmTime. -/
def State.shelfTime (s : State) (p k : Nat) : State :=
  let h := s.shelf p k
  if h.state = .armed ∧ h.mode = false ∧ h.armTime.toNat ≤ s.time.toNat then s.latchShelf p k 0 else s

/-! ### The Folio's control (R471, R472) -/

/-- Whether the capture is IDLE or STOPPED. -/
def State.folioRests (s : State) : Bool := decide (s.folio.state = .idle) || decide (s.folio.state = .stopped)

/-- A write of 1 to FolioControl. -/
def State.armFolio (s : State) : State × CatStatus :=
  if s.folioRests then
    ({ s with folio := { s.folio with
        state := .armed, pre := [], post := [], lost := 0, lostFlag := false, dumped := false
        generation := s.folio.generation + 1 } }, .done)
  else (s, .accessError)

/-- The trigger MARKER of the capture's scope (R472). -/
def State.markScope (s : State) (cause : Nat) (data : BitVec 64) : State :=
  s.folioMark (s.cfg 0x6030 1 = 0xFF) (s.cfg 0x6030 1) cause data

/-- A write of 2: it triggers an armed capture. The marker's data is the value written (DEDUCED, log entry 21). -/
def State.triggerFolio (s : State) : State := s.markScope 1 2

/-- A write of 3: it stops a capture that runs. -/
def State.stopFolio (s : State) : State :=
  if s.folio.state = .armed ∨ s.folio.state = .triggered then s.folioStop else s

/-- A write of 4: IDLE. -/
def State.clearFolio (s : State) : State := { s with folio := { s.folio with state := .idle } }

/-- A write of FolioMarker: a MARKER record of the capture's scope (R469, R470; DESIGN CHOICE, log entry 22). -/
def State.markFolio (s : State) (v : BitVec 64) : State :=
  s.record { (if s.cfg 0x6030 1 = 0xFF then s.folioHub 0x15 else s.folioOf 0x15 (s.cfg 0x6030 1)) with data := v }

/-- R472: fabric time has reached FolioTrigTime. -/
def State.folioTime (s : State) : State :=
  let t := s.cfg 0x6030 8
  if t ≠ 0 ∧ t ≤ s.time.toNat then s.markScope 2 (BitVec.ofNat 64 t) else s

/-- R474: every dump write has its response. -/
def State.folioDumped (s : State) : State :=
  let s1 : State := { s with mgr := s.mgr.filter fun w => decide (w.kind ≠ .folio) }
  if s.folio.state = .dumping then
    { s1 with folio := { s1.folio with state := .stopped, dumpLeft := 0 } }.folioTrace
  else s1

/-! ### Deposit (R483, R485) -/

/-- The rule that the partition's entries act on (R487). -/
def State.depositSel (s : State) (p : Nat) : Nat := s.cfg 0x6060 1 p

/-- R483: a rule that may be enabled. -/
def State.depositOk (s : State) (p : Nat) (d : Deposit) : Bool :=
  (match s.translate p d.barrier with
   | some h =>
     let o := s.obj (handleIndex h)
     decide (handleHub h = s.hub) && s.inShare p (handleIndex h) && decide (o.otype = .barrier) &&
       decide (o.partition.toNat = p)
   | none => false) &&
  (match depositTarget d.target with
   | .shim q _ => decide ((getFld d.target 14 2 : BitVec 2) = 0) && s.portBuilt q && decide (s.portPart q = p)
   | .ring _ => true)

/-- R483: a write of DepositFlags. -/
def State.writeDepositFlags (s : State) (p : Nat) (v : BitVec 8) : State × CatStatus :=
  let k := s.depositSel p
  let d := (s.part p).deposit k
  if v.getLsbD 0 && !s.depositOk p d then (s, .accessError)
  else (s.modPart p fun x => x.setDeposit k { d with enable := v.getLsbD 0, hold := v.getLsbD 1 }, .done)

/-- R485: a write of DepositAck. -/
def State.ackDeposit (s : State) (p k : Nat) : State × CatStatus :=
  if 8 ≤ k then (s, .accessError)
  else
    let d := (s.part p).deposit k
    if d.waiting then ((s.recordDeposit p k 1 d.index d).endHold p k, .done) else (s, .done)

/-- R485: a hold has lasted DepositHoldLimit. -/
def State.depositLimit (s : State) (p k : Nat) : State :=
  let d := (s.part p).deposit k
  let limit := s.cfg 0x6060 11 p
  if d.waiting = true ∧ limit ≠ 0 ∧ limit ≤ elapsed d.since s.clock then
    let s1 := (s.count32 d.timeouts).modPart p fun x => x.setDeposit k { d with timeouts := s.next32 d.timeouts }
    (s1.recordDeposit p k 2 d.index d).endHold p k
  else s

/-! ### HOLD_CTL messages (R479) -/

/-- A HOLD_REQ or RESUME_REQ. -/
def State.holdMsgReq (s : State) (p : Nat) (resume : Bool) (b : HoldBody) : State :=
  if s.partCount ≤ p then s
  else
    (if resume then s.resumeHere p else s.holdHere p).send
      { hdr := s.hdrTo b.requester p, body := .holdCtl (if resume then .resumeAck else .holdAck) b }

/-- A HOLD_ACK or RESUME_ACK of hub `src`. -/
def State.holdMsgAck (s : State) (src : HubId) (p : Nat) (resume : Bool) (b : HoldBody) : State :=
  match (s.part p).hold.xs.find? fun e => e.resume = resume && e.seq = b.seq && e.peers.contains src with
  | some e =>
    let e1 := { e with peers := e.peers.filter fun h => h ≠ src }
    let s1 := s.modPart p fun x => { x with hold := { x.hold with xs := x.hold.xs.map fun y => if y = e then e1 else y } }
    if e1.peers = [] then s1.holdDone p e1 else s1
  | none => s

/-- Ends the exchanges of a list that have lasted RouteStrandTime. -/
def State.holdLate (s : State) (p : Nat) : List HoldXchg → State
  | [] => s
  | e :: es => (if s.cfg 0x5100 5 ≤ elapsed e.since s.clock then s.holdDone p e else s).holdLate p es

/-- HoldState (R482). -/
def Part.holdState (x : Part) : Nat :=
  if x.hold.xs.any fun e => e.resume then 3 else if x.hold.xs ≠ [] then 1 else if x.hold.held then 2 else 0

/-! ### Stocktake (R495 to R502) -/

/-- R496: the registered issuers of a port. -/
def State.registeredOf (s : State) (p q : Nat) : List Nat :=
  if (s.cfg 0x6070 5 p).testBit q then
    (numsFrom 0 9).filter fun i => (s.cfg 0x6070 6 p).testBit i && s.laneBuilt i
  else []

/-- The number of registered issuers of a partition here that satisfy a condition on their port and lane. -/
def State.countIssuers (s : State) (p : Nat) (f : Port → Nat → Bool) : Nat :=
  (s.partPorts p).foldl (fun n q => n + ((s.registeredOf p q).filter (f (s.port q))).length) 0

/-- R495, R498: this hub's own values, taken in one step. -/
def State.stockReport (s : State) (p : Nat) (round : BitVec 32) (coordinator : HubId) : StockBody :=
  let reg := s.countIssuers p fun _ _ => true
  let wait := s.countIssuers p Port.issuerWaits
  { round := round, coordinator := coordinator, allWaiting := reg = wait
    held := (s.part p).hold.held || (s.part p).deposits.any fun d => d.2.waiting
    waiters := BitVec.ofNat 18 (s.waitersOf p).length, registered := BitVec.ofNat 16 reg
    waiting := BitVec.ofNat 16 wait, sent := BitVec.ofNat 64 (s.cfg 0x6070 10 p)
    recv := BitVec.ofNat 64 (s.cfg 0x6070 11 p), act := BitVec.ofNat 64 (s.cfg 0x6070 12 p) }

/-- A STOCKTAKE message that carries no report. -/
def stockBody (round : BitVec 32) (coordinator : HubId) : StockBody :=
  { round := round, coordinator := coordinator, allWaiting := false, held := false, waiters := 0, registered := 0
    waiting := 0, sent := 0, recv := 0, act := 0 }

/-- Sends Stocktake messages of a kind to a list of hubs. -/
def State.sendStock (s : State) (p : Nat) (k : StockKind) (b : StockBody) : List HubId → State
  | [] => s
  | h :: hs => (s.send { hdr := s.hdrTo h p, body := .stocktake k b }).sendStock p k b hs

/-- R498: a QUERY. -/
def State.stockQuery (s : State) (p : Nat) (b : StockBody) : State :=
  if s.partCount ≤ p then s else s.sendStock p .report (s.stockReport p b.round b.coordinator) [b.coordinator]

/-- R499: a REPORT of hub `src`; one of an earlier round is discarded. -/
def State.stockReported (s : State) (src : HubId) (p : Nat) (b : StockBody) : State :=
  let k := (s.part p).stock
  if k.scope.contains src && b.round = k.round && !(k.reports.any fun r => r.1 = src) then
    s.modPart p fun x => { x with stock := { k with reports := k.reports ++ [(src, b)] } }
  else s

/-- The hubs of a list, in hub order. -/
def hubOrder (hs : List HubId) : List HubId := (sortNat (hs.map BitVec.toNat)).map (BitVec.ofNat 15)

/-- The reports of a round in hub order. -/
def Stocktake.inOrder (k : Stocktake) : List StockBody :=
  k.scope.filterMap fun h => (k.reports.find? fun r => r.1 = h).map Prod.snd

/-- R499: every hub of the scope was asked and has answered. -/
def Stocktake.complete (k : Stocktake) : Bool := k.routed && decide (k.inOrder.length = k.scope.length)

/-- R499: a quiet round. The sums of sent and recv are taken modulo 2^64, as the counters are (DEDUCED, log entry 23). -/
def Stocktake.quiet (k : Stocktake) : Bool :=
  k.complete && !(k.inOrder.any StockBody.held) && k.inOrder.all StockBody.allWaiting &&
  decide (0 < k.inOrder.foldl (fun n r => n + r.registered.toNat) 0) &&
  decide (k.inOrder.foldl (fun n r => n + r.sent) 0 = k.inOrder.foldl (fun n r => n + r.recv) 0)

/-- R499: the values that two rounds are compared by. -/
def Stocktake.values (k : Stocktake) : List (BitVec 64) := k.inOrder.flatMap fun r => [r.sent, r.recv, r.act]

/-- The inventory code of a DEADLOCK record (R500). -/
def State.inventoryCode (s : State) (p : Nat) : BitVec 2 :=
  if s.cfg 0x6040 6 p = 0 then Config.noInventory s.free else BitVec.ofNat 2 (s.inventoryBar p)

/-- R488, R500: takes the Inventory of a declaration, unless it is off or cannot be taken. -/
def State.deadlockInventory (s : State) (p : Nat) (round : BitVec 32) : State :=
  if s.cfg 0x6040 6 p ≠ 0 ∧ s.inventoryBar p = 0 then s.takeInventory p 1 round else s

/-- R500: the coordinator declares a deadlock, `wait` after the first quiet round of the run. -/
def State.declareDeadlock (s : State) (p wait : Nat) : State :=
  let k := (s.part p).stock
  let body : BitVec 96 := pack 96 [⟨64, 32, k.round.toNat⟩, ⟨49, 15, s.hub.toNat⟩, ⟨34, 15, satNat 15 k.scope.length⟩,
    ⟨18, 16, satNat 16 (k.inOrder.foldl (fun n r => n + r.waiting.toNat) 0)⟩, ⟨16, 2, (s.inventoryCode p).toNat⟩,
    ⟨0, 16, satNat 16 (wait / 256000)⟩]
  let s1 := s.fresh.sendStock p .declare (stockBody k.round s.hub) (k.scope.filter fun h => h ≠ s.hub)
  let s2 := (s1.notifyRing p 3 p body).notifyRing 16 3 p body
  let s3 := s2.record { s2.folioOf 0x13 p with data := k.round.setWidth 64 }
  let s4 := if s3.cfg 0x6030 9 ≠ 0 ∧ s3.folioScope false p then (s3.folioMark false p 4 (Config.markerData s3.free)).fresh
    else s3
  (s4.modPart p fun x => { x with stock := { x.stock with state := .declared } }).deadlockInventory p k.round

/-- R499, R501: evaluates the round that has ended. -/
def State.evalRound (s : State) (p : Nat) : State :=
  let k := (s.part p).stock
  let s1 := if k.complete then s else s.bump 0x6070 9 p
  let v := k.values
  let set := fun (s : State) (st : StockState) (r : Option (BitVec 32 × Time × List (BitVec 64))) =>
    s.modPart p fun x => { x with stock := { x.stock with state := st, ref := r } }
  if k.quiet then
    match k.ref with
    | none => set s1 .running (some (k.round, k.startedAt, v))
    | some r =>
      if r.2.2 ≠ v then set s1 .running (some (k.round, k.startedAt, v))
      else if s.cfg 0x6070 4 p ≤ elapsed r.2.1 k.startedAt ∧ s.latched p = false then
        (set s1 .running (some r)).declareDeadlock p (elapsed r.2.1 k.startedAt)
      else set s1 .running (some r)
  else set s1 (if k.inOrder.any StockBody.held then .paused else .running) none

/-- R499: starts the next round: its QUERYs, and this hub's own report. -/
def State.startRound (s : State) (p : Nat) : State :=
  let k := (s.part p).stock
  let named := (s.namedHubs p).filter fun h => h ≠ s.hub
  let routed := named.filter fun h => s.reachableAt h 3
  let n := k.round + 1
  let s1 := s.modPart p fun x => { x with stock := { k with
    round := n, startedAt := s.clock, scope := hubOrder (s.hub :: named), routed := decide (routed = named)
    reports := [(s.hub, s.stockReport p n s.hub)] } }
  s1.sendStock p .query (stockBody n s.hub) routed

/-- R499: whether partition `p` runs rounds at this hub. -/
def State.stockRuns (s : State) (p : Nat) : Bool :=
  decide (s.cfg 0x6070 1 p ≠ 0) && decide (s.cfg 0x6070 2 p ≠ 0) && decide ((s.part p).stock.state ≠ .declared)

/-- R499: a round is due; it ends the one before it. -/
def State.stockRound (s : State) (p : Nat) : State :=
  let k := (s.part p).stock
  if s.stockRuns p && decide (s.cfg 0x6070 3 p ≤ elapsed k.startedAt s.clock) then
    let s1 := if k.scope = [] then s else s.evalRound p
    if (s1.part p).stock.state = .declared then s1 else s1.startRound p
  else s

/-- R500: a DECLARE. -/
def State.stockDeclared (s : State) (p : Nat) (b : StockBody) : State :=
  if s.partCount ≤ p then s else s.deadlockInventory p b.round

/-- R502: a write of StocktakeEnable. -/
def State.enableStock (s : State) (p v : Nat) : State :=
  (s.setCfg 0x6070 1 p v).modPart p fun x => { x with stock := { x.stock with
    state := if v = 0 then .off else .running, startedAt := s.clock, scope := [], reports := [], ref := none } }

/-- StocktakeState as it reads (R502). -/
def State.stockState (s : State) (p : Nat) : Nat :=
  if (s.part p).stock.state = .declared then 3
  else if s.stockRuns p then (if (s.part p).stock.state = .paused then 2 else 1)
  else 0

end Sys2Proof.Machine
end

