-- ==== Sys2Proof/Machine/Faults.lean ====
section
/-! DEFINITION. Faults and service: the scrub (R427), stage restarts (R441 to R445), the reference-clock monitor (R446), and
fault injection (R453). -/

namespace Sys2Proof.Machine

/-! ### The scrub (R427, R428) -/

/-- Whether a store has a word (R425). -/
def wordBuilt : StoreWord → Bool
  | .object i => decide (i < 131072)
  | .waiter i => decide (i < 131072)
  | .lender i => decide (i < 4096)
  | .ledger i => decide (i < 4096)
  | .heldLock i => decide (i < 8192)
  | .ticket i => decide (i < 2048)
  | .config i => decide (i < 24576)

/-- R446: expiries, walks and the scrub take place while the clock is present and the walker is in service. -/
def State.walks (s : State) : Bool := s.live && !s.refLost && !s.stageIsOut 26

/-- The end of a pass (R454): the last word of the configuration store closes it (DESIGN CHOICE, log entry 24). -/
def State.passEnd (s : State) : State :=
  { (s.bump 0x7000 2).setCfg 0x7000 3 0 (elapsed s.scrubStart s.clock) with scrubStart := s.clock }

/-- One access of the scrub. -/
def State.scrub (s : State) (w : StoreWord) : State :=
  if s.walks then
    let s1 := s.access w
    if w = .config 24575 then s1.passEnd else s1
  else s

/-! ### Stage restart (R441 to R445) -/

/-- Whether a stage is built. -/
def State.stageBuilt (s : State) (k : Nat) : Bool :=
  if k < 16 then true
  else if k < 24 then decide (k - 16 < s.build.clusters)
  else if k < 30 then true
  else if k = 30 then decide (s.build.warpMap ≠ 0)
  else decide (k = 31 ∧ s.build.weftMap ≠ 0)

/-- R443: the partitions that have a port or a record in use at the hub. -/
def State.usedParts (s : State) : List Nat :=
  s.allParts.filter fun p =>
    !(s.partPorts p).isEmpty || !(s.objectsOf p).isEmpty || !(s.waitersOf p).isEmpty || !(s.lendersOf p).isEmpty ||
    !(s.ledgersOf p).isEmpty || !(s.bufferedOf p).isEmpty

/-- The captured items that latch their partitions (R441): none of stages 26, 27 and 29; of the AXI5 manager's the tickets,
which name their firing objects. -/
def latchItems (stage : Nat) (items : List CapturedItem) : List CapturedItem :=
  if stage = 26 ∨ stage = 27 ∨ stage = 29 then []
  else if stage = 25 then items.filter fun x => x.object.isSome
  else items

/-- The partitions that a restart latches (R441, R443). -/
def State.capturedParts (s : State) (xs : List CapturedItem) : List Nat :=
  if xs.any fun x => x.partition.isNone then s.usedParts
  else (distinct (xs.filterMap CapturedItem.partition)).filter fun p => decide (p < s.partCount)

/-- R443 step 4: rewrites the objects that captured ops name (R78). -/
def State.rewriteAll (s : State) : List CapturedItem → State
  | [] => s
  | x :: xs =>
    (match x.object with | some i => if i < 131072 then s.rewriteFaulted i else s | none => s).rewriteAll xs

/-- R441: notify records in the manager are counted as lost. -/
def State.loseNotes (s : State) : List CapturedItem → State
  | [] => s
  | x :: xs =>
    (if x.object.isSome then s
     else
       let r := match x.partition with | some p => if p < 16 then p else 16 | none => 16
       s.bump (ringIndex r) 8 (ringPart r)).loseNotes xs

/-- The event input whose binding names an object (R441). -/
def State.inputOf (s : State) (i : Nat) : Option Nat :=
  (numsFrom 0 16).find? fun n => decide (s.translate (s.evCfg n 4) (BitVec.ofNat 32 (s.evCfg n 5)) = some (mkHandle s.hub i))

/-- R441: event ops in the stage are counted in EvDropCount. -/
def State.loseEvents (s : State) : List CapturedItem → State
  | [] => s
  | x :: xs =>
    (match x.object.bind s.inputOf with | some n => s.bump (0x2600 + n) 10 | none => s).loseEvents xs

/-- R519: the Catalogue request in progress completes with INCOMPLETE. -/
def State.loseRequest (s : State) : State :=
  match s.catOpen with
  | o :: _ => (s.bump 0x2C01 6).catFinish o.hdr .incomplete
  | [] => s

/-- What a restart does to the items that it captures (R441, R443 step 4). -/
def State.discardItems (s : State) (stage : Nat) (items : List CapturedItem) : State :=
  if stage = 25 then s.loseNotes items
  else if stage = 27 then s.loseEvents items
  else if stage = 29 then s.loseRequest
  else s.rewriteAll items

/-- The counts and records of a restart (R443). -/
def State.noteRestart (s : State) (stage port : Nat) (ps : List Nat) : State :=
  let s1 := (s.bump 0x7020 2).setCfg 0x7020 3 0 stage
  let s2 := s1.record { (if ps = [] then s1.folioHub 0x10 else s1.folioOf 0x10 (lowest ps)) with aux := stage }
  s2.jobFault { cause := 0x10, stage := stage, link := if 30 ≤ stage then port else 0 } ps

/-- R444: a link layer that is released sends a NAK and replays every flit that is not acknowledged. -/
def State.relink (s : State) (stage port : Nat) : State :=
  if 30 ≤ stage ∧ s.linkUp port = true then (s.sendCtrl port true).replayFrom port (s.link port).replay else s

/-- R445: the partitions that a stage serves. Those of the stages that the manual does not list are a DESIGN CHOICE (log
entry 25). -/
def State.servedParts (s : State) (stage port : Nat) : List Nat :=
  if stage < 16 then s.allParts
  else if stage < 24 then
    s.allParts.filter fun p => (s.partPorts p).any fun q => decide (q / 16 = stage - 16)
  else if 30 ≤ stage then
    s.allParts.filter fun p => (s.namedHubs p).any fun h =>
      let e := s.route (s.routeKey h)
      entryValid e && (decide (entryPrimary e = port) || (entryAltValid e && decide (entryAlt e = port)))
  else if stage = 26 ∨ stage = 27 ∨ stage = 29 then []
  else s.allParts

/-- R445: a link whose layer is out goes DOWN, and its routes move as R379 states. -/
def State.linkOutDown (s : State) (c : Nat) : State :=
  let l := s.link c
  let n := l.replay.length
  let bits := partBits l.abandonParts
  if l.state = .down then s
  else ((((s.abandonReplay c).dropPartials c).moveLink c .down 6 bits n).moveRoutes c).linkSettled c

/-- R445: a stage goes out of service. -/
def State.stageFails3 (s : State) (stage port : Nat) : State :=
  let s1 : State := { s with stageOut := s.stageOut ||| BitVec.ofNat 32 (2 ^ stage) }
  let s2 := s1.jobFault { cause := 0x11, stage := stage, link := if 30 ≤ stage then port else 0 } (s1.servedParts stage port)
  if 30 ≤ stage then s2.linkOutDown port else s2

/-- The failed restarts of a stage in a row. -/
def State.fails (s : State) (stage port : Nat) : Nat := s.stageFails.get natNone (stageKey stage port)
def State.setFails (s : State) (stage port n : Nat) : State :=
  { s with stageFails := s.stageFails.put natNone (stageKey stage port) n }

/-- Whether another port of a link layer is out. -/
def State.otherOut (s : State) (stage port : Nat) : Bool :=
  decide (30 ≤ stage) && s.stageFails.any fun x => decide (x.1 / 16 = stage ∧ x.1 % 16 ≠ port ∧ 3 ≤ x.2)

/-- The test of a restart passes (R443 step 7, R445). -/
def State.restartPasses (s : State) (stage port : Nat) : State :=
  let out := decide (3 ≤ s.fails stage port)
  let s1 := s.setFails stage port 0
  let s2 : State :=
    if s1.otherOut stage port then s1 else { s1 with stageOut := s1.stageOut &&& ~~~(BitVec.ofNat 32 (2 ^ stage)) }
  if out && decide (30 ≤ stage) then (if (s2.link port).phyUp then s2.startNeg port 0 0 0 else s2)
  else s2.relink stage port

/-- The test of a restart fails (R445). -/
def State.restartFails (s : State) (stage port : Nat) : State :=
  let n := s.fails stage port
  if 3 ≤ n then s
  else
    let s1 := s.setFails stage port (n + 1)
    if n + 1 = 3 then s1.stageFails3 stage port else s1

/-- R443, R445: one restart of a stage. -/
def State.restart (s : State) (stage port : Nat) (items : List CapturedItem) (ok : Bool) : State :=
  let s1 := ({ s with stuck := s.stuck.filter fun k => k ≠ stage } : State).discardItems stage items
  let s2 := s1.noteRestart stage port (s1.capturedParts (latchItems stage items))
  if ok then s2.restartPasses stage port else s2.restartFails stage port

/-- R445: the retry of a stage that is out. -/
def State.retryStage (s : State) (stage port : Nat) (ok : Bool) : State :=
  if s.stageIsOut stage && decide (3 ≤ s.fails stage port) then s.restart stage port [] ok else s

/-! ### The reference clock (R446) -/

/-- The monitor declares tb_refclk lost. -/
def State.clockLost (s : State) : State :=
  if s.refLost then s
  else (({ s with refLost := true } : State).bump 0x7050 2).jobFault { cause := 0x18 } s.allParts

/-- The clock is back in its range; time goes on from where it stood. -/
def State.clockBack (s : State) : State := { s with refLost := false }

/-! ### Injection (R453) -/

/-- The store word that FaultInjectSelect names; a ticket-buffer slot is its first word (DESIGN CHOICE, log entry 26). -/
def injectWord (sel : Nat) : Option StoreWord :=
  let i := sel % 2 ^ 26
  let w : Option StoreWord := match sel / 2 ^ 26 with
    | 1 => some (.object i)
    | 2 => some (.waiter i)
    | 3 => some (.lender i)
    | 4 => some (.ledger i)
    | 5 => some (.heldLock i)
    | 6 => some (.ticket (2 * i))
    | 7 => some (.config i)
    | _ => none
  w.filter wordBuilt

/-- The bits in error of a word after `k` more are inverted. -/
def State.moreFlips (s : State) (n k : Nat) : Nat :=
  if n = 0 then k else n + k - 2 * (Config.bitOverlap s.free % (min n k + 1))

/-- Inverts `k` bits of a store word. -/
def State.flipWord (s : State) (w : StoreWord) (k : Nat) : State :=
  let n := s.moreFlips (s.flipsOf w) k
  let s1 := (s.cleanWord w).fresh
  if n = 0 then s1 else { s1 with flips := (w, n) :: s1.flips }

/-- Inverts `k` bits of a near object. -/
def State.flipNear (s : State) (p n k : Nat) : State :=
  (s.modPort p fun x => { x with nearFlips := x.nearFlips.put natNone n (s.moreFlips (x.nearFlips.get natNone n) k) }).fresh

/-- A write of 1 to 3 to FaultInjectKind. -/
def State.injectBits (s : State) (k : Nat) : State × CatStatus :=
  let sel := s.cfg 0x7040 1
  if k = 0 ∨ 3 < k then (s, .accessError)
  else if sel / 2 ^ 26 = 8 then
    let p := sel / 64 % 128
    if sel % 2 ^ 26 < 2 ^ 13 ∧ s.portBuilt p = true then (s.flipNear p (sel % 64) k, .done) else (s, .accessError)
  else match injectWord sel with
    | some w => (s.flipWord w k, .done)
    | none => (s, .accessError)

/-- A write of 4 to FaultInjectKind: the stage withholds its next acknowledgement until it is restarted. -/
def State.injectStage (s : State) : State × CatStatus :=
  let sel := s.cfg 0x7040 1
  let k := sel % 32
  if sel / 2 ^ 26 = 0x10 ∧ s.stageBuilt k = true then
    ({ s with stuck := if s.stuck.contains k then s.stuck else sortNat (k :: s.stuck) }, .done)
  else (s, .accessError)

/-- A write of PartJobFaultInject. -/
def State.injectFault (s : State) (p v : Nat) : State := if v = 0 then s else s.failOne { cause := 0x20 } p

end Sys2Proof.Machine
end

