-- ==== Sys2Proof/Machine/Messages.lean ====
section
/-! DEFINITION. Messages at the hub that they are addressed to (R153, R154, R346 to R351, R366 to R370, R437, R495), and the
op commands: an op of a core, of the aperture, or of a message. -/

namespace Sys2Proof.Machine

/-! ### Ops of messages -/

/-- Bits [21:0] of the time at which an op entered its hub (R38): an ACQ carries its own (R349); of another op the message
carries all but the lowest bit, which is a free value. -/
def State.enteredBits (s : State) (code : BitVec 6) (c : OpCarry) : BitVec 22 :=
  if code = opCode .acq then getFld c.deadline 0 22 else (getFld c.stamp 0 21 : BitVec 21) ++ bit1 (Config.entryBit s.free)

/-- An op as its message carries it (R348). -/
def State.carriedOp (s : State) (h : MsgHdr) (code : BitVec 6) (op : OpFields) (c : OpCarry) : HomeOp where
  opcode := code
  op := op
  originator := c.originator
  source := c.source
  cls := c.cls
  partition := h.partition.toNat
  epoch := c.epoch
  stamp := c.stamp
  aged := c.aged || s.isAged c.stamp
  context := c.context
  dlValid := c.dlValid
  deadline := c.deadline
  retref := c.retref
  resent := c.resent
  entered := s.enteredBits code c

/-- An op that came over a level-1 link (R367). -/
def State.w1HomeOp (s : State) (link : Nat) (code : BitVec 6) (op : OpFields) (c : OpCarry) : HomeOp :=
  let p := s.linkCfg link 8
  { opcode := code, op := op, originator := c.originator, source := srcPort, cls := clsEngine, partition := p
    epoch := if p < 16 then s.epoch p else 0, stamp := s.time.stamp, aged := false, context := 0, dlValid := false
    deadline := 0, retref := c.retref, resent := false, entered := s.time.low22 }

/-- R367: performs an op of a level-1 link. -/
def State.w1OpMsg (s : State) (link : Nat) (b : OpBody) : State :=
  let o := s.w1HomeOp link b.opcode b.op b.carry
  if !opW1Ok o then s.refuse o .badHandle
  else match s.gate o.partition o.opcode with
    | some st => s.refuse o st
    | none => s.performHome o

/-- R323, R349: a template write of another hub, and its completion. -/
def State.templateMsg (s : State) (h : MsgHdr) (b : OpBody) : State :=
  let o := s.carriedOp h b.opcode b.op b.carry
  let r := s.fresh.performTemplate o
  r.1.send { hdr := s.hdrTo (origHub o.originator) o.partition
             body := .cpl { response := respWord r.2 o.op.tag 0, retref := o.retref, target := getFld o.originator 0 10
                            source := o.source, child := 0, value := none } }

/-- An OP message; `w1` is the level-1 link that it came on, if it did. -/
def State.opMessage (s : State) (w1 : Option Nat) (h : MsgHdr) (b : OpBody) : State :=
  match w1 with
  | some c => s.w1OpMsg c b
  | none => if b.opcode = 0 then s.templateMsg h b else s.fresh.performHome (s.carriedOp h b.opcode b.op b.carry)

/-- The arrival that a FWD_ARRV message carries, as an op at its parent (R151, R351). -/
def State.forwardedOp (s : State) (h : MsgHdr) (b : FwdBody) : HomeOp where
  opcode := opCode .arrw
  op :=
    { flags := { rel := false, acq := false, noresp := false, near := false, sense := b.arrival.sense, x2 := false }
      tsel := 0, tag := 0, handle := b.arrival.parent, operand := 0
      opb := b.arrival.child ++ (0 : BitVec 28) ++ b.arrival.depth }
  originator := b.originator
  source := srcHub
  cls := 0
  partition := h.partition.toNat
  epoch := b.epoch
  stamp := b.stamp
  aged := b.aged || s.isAged b.stamp
  context := 0
  dlValid := false
  deadline := 0
  retref := 0
  resent := false
  entered := (getFld b.stamp 0 21 : BitVec 21) ++ bit1 (Config.entryBit s.free)

/-- A FWD_ARRV message (R151, R351). -/
def State.fwdMessage (s : State) (h : MsgHdr) (b : FwdBody) : State :=
  s.fresh.performForwarded (s.forwardedOp h b) b.arrival

/-! ### Completions (R155, R267, R321, R350, R368, R369, R381) -/

/-- A completion that this hub discards. -/
def State.dropCpl (s : State) (p : Nat) : State := s.pcount 13 p 1

/-- Puts a completion on the return path of its target. -/
def State.toReturn (s : State) (t : RspTarget) (b : CplBody) (retref : BitVec 10) : State :=
  { s with rets := s.rets ++ [{ target := t, sel := b.target, retref := retref, word := b.response, value := b.value }] }

/-- The status of a forwarded arrival reaches the child (R154). -/
def State.childCpl (s0 : State) (h : MsgHdr) (b : CplBody) : State :=
  let i := handleIndex b.child
  let s := s0.accessObj i
  if handleHub b.child = s.hub ∧ s.awaitsGrant i = true then
    s.childGrant i (respStatus b.response) (b.value.getD 0)
  else s.dropCpl h.partition.toNat

/-- The completion that an entry of a list of voided ones stands for. -/
def voidedFor (vs : List Voided) (h : HubId) (b : CplBody) : Option Voided :=
  vs.find? fun v => v.entry = (getFld b.retref 4 6 : BitVec 6).toNat && v.hub = h && v.tag = respTag b.response

/-- The child that awaits a grant of hub `h`. -/
def State.childOf (s : State) (h : HubId) : Option Nat :=
  ((s.objs.filter fun x => decide (x.2.otype = .barrier) && s.awaitsGrant x.1 && handleHub x.2.parent = h).map Prod.fst).head?

/-- A completion for an op of a shim. Where the port awaits none of that hub, it is the answer to a child's arrival that a
hub on the way sent on as R157 states (DEDUCED, log entry 27). -/
def State.portCpl (s : State) (h : MsgHdr) (b : CplBody) : State :=
  let q := (getFld b.target 3 7 : BitVec 7).toNat
  match voidedFor (s.port q).voided h.src b with
  | some v =>
    let s1 := s.modPort q fun x => { x with voided := x.voided.erase v }
    if v.counts then s1.dropCpl (s.portPart q) else s1
  | none =>
    match (if (s.port q).pend.any fun e => e.home = some h.src then none else s.childOf h.src) with
    | some i => s.childGrant i (respStatus b.response) 0
    | none => s.toReturn (.port q) b b.retref

/-- The completion of a template write (R323, R349). -/
def State.templateCpl (s : State) (g n : Nat) (b : CplBody) : State :=
  match (s.slot g).away.find? fun a => a.entry = some n with
  | some a =>
    ((s.modSlot g fun x => { x with away := x.away.erase a }).templateAnswer g (respStatus b.response = 0)).wakeSlot g
  | none => s.dropCpl (s.slotPart g)

/-- A completion for an op or a template write of a slot. -/
def State.slotCpl (s : State) (h : MsgHdr) (b : CplBody) : State :=
  let g := b.target.toNat
  let n := (getFld b.retref 4 6 : BitVec 6).toNat
  if n ≠ 0 then s.templateCpl g n b
  else match voidedFor (s.slot g).voided h.src b with
    | some v =>
      let s1 := s.modSlot g fun x => { x with voided := x.voided.erase v }
      if v.counts then s1.dropCpl (s.slotPart g) else s1
    | none => s.toReturn .aperture b b.retref

/-- A completion of a level-1 peer, which returns no return reference (R367, R368): it answers the oldest op of its target
and tag that went to that hub, or else a child's arrival (DEDUCED, log entry 27). -/
def State.w1Cpl (s : State) (h : MsgHdr) (b : CplBody) : State :=
  let q := (getFld b.target 3 7 : BitVec 7).toNat
  let eng := (getFld b.target 0 3 : BitVec 3).toNat
  let g := b.target.toNat
  let tag := respTag b.response
  let gone (v : Voided) : Bool := v.hub = h.src && v.tag = tag
  match (s.port q).voided.find? gone with
  | some v => s.modPort q fun x => { x with voided := x.voided.erase v }
  | none =>
    match (s.slot g).voided.find? gone with
    | some v => s.modSlot g fun x => { x with voided := x.voided.erase v }
    | none =>
      match (s.port q).pend.find? fun e =>
          !e.arrived && e.home = some h.src && laneEngine e.lane = eng && e.op.tag = tag with
      | some e => s.toReturn (.port q) b (BitVec.ofNat 6 e.entry ++ (s.port q).generation)
      | none =>
        match (s.slot g).sent.filter fun e => e.home = some h.src && e.op.tag = tag with
        | some _ => s.toReturn .aperture b ((0 : BitVec 6) ++ (s.slot g).generation)
        | none =>
          match s.childOf h.src with
          | some i => s.childGrant i (respStatus b.response) 0
          | none => s.dropCpl (s.portPart q)

/-- A hub whose route is a level-1 route (R364, R367). -/
def State.w1Home (s : State) (h : HubId) : Bool :=
  decide (h ≠ s.hub) && entryValid (s.route (s.routeKey h)) && decide (s.routeLevel h = 1)

/-- A CPL message. -/
def State.cplMessage (s : State) (w1 : Bool) (h : MsgHdr) (b : CplBody) : State :=
  if w1 || s.w1Home h.src then s.w1Cpl h b
  else if b.source = srcHub then s.childCpl h b
  else if b.source = srcPort then s.portCpl h b
  else if b.source = srcAperture then s.slotCpl h b
  else s.dropCpl h.partition.toNat

/-! ### The other kinds -/

/-- A loan message, while the loan engine is in service (R445). -/
def State.loanMessage (s : State) (k : LoanKind) (b : LoanBody) : State :=
  if s.stageIsOut 28 then s.bump 0x5100 6
  else match k with
    | .req => s.loanReqMsg b
    | .grant => if b.opening then s.loanOpenMsg b else s.loanGrantMsg b
    | .recall => s.loanRecallMsg b
    | .ret => s.loanReturnMsg b

/-- R437: a FAULT_NOTICE. -/
def State.faultNotice (s : State) (p : Nat) (b : PartCtlBody) : State :=
  if s.partCount ≤ p then s
  else match epochCheck (s.epoch p) b.oldEpoch with
    | some true => s.countSelvedge p .stale
    | some false => s
    | none => if s.latched p then s else s.jobFault { cause := 0x21, index := b.cause.toNat } [p]

/-- A PART_CTL message. -/
def State.partMessage (s : State) (h : MsgHdr) (k : PartCtlKind) (b : PartCtlBody) : State :=
  let p := h.partition.toNat
  match k with
  | .resetReq => s.resetRequest h.src p false b
  | .ctxReq => s.resetRequest h.src p true b
  | .resetDone => s.resetAnswer h.src p b
  | .ctxDone => s.resetAnswer h.src p b
  | .faultNotice => s.faultNotice p b

/-- A HOLD_CTL message. -/
def State.holdMessage (s : State) (h : MsgHdr) (k : HoldKind) (b : HoldBody) : State :=
  let p := h.partition.toNat
  match k with
  | .holdReq => s.holdMsgReq p false b
  | .resumeReq => s.holdMsgReq p true b
  | .holdAck => s.holdMsgAck h.src p false b
  | .resumeAck => s.holdMsgAck h.src p true b

/-- A STOCKTAKE message. -/
def State.stockMessage (s : State) (h : MsgHdr) (k : StockKind) (b : StockBody) : State :=
  let p := h.partition.toNat
  match k with
  | .query => s.stockQuery p b
  | .report => s.stockReported h.src p b
  | .declare => s.stockDeclared p b

/-- A SHELF message. -/
def State.shelfMessage (s : State) (h : MsgHdr) (k : ShelfKind) (b : ShelfBody) : State :=
  let p := h.partition.toNat
  match k with
  | .arm => s.shelfArmMsg h.src p b
  | .done => s.shelfDoneMsg h.src p b
  | .cancel => s.shelfCancelMsg p b

/-! ### Performing a message -/

/-- Performs a message by its kind. -/
def State.performBody (s : State) (w1 : Option Nat) (m : Msg) : State :=
  match m.body with
  | .op b => s.opMessage w1 m.hdr b
  | .cpl b => s.cplMessage w1.isSome m.hdr b
  | .fwdArrv b => s.fwdMessage m.hdr b
  | .loan k b => s.loanMessage k b
  | .holderReset b => s.holderResetMsg b
  | .waiterPurge b => s.purge b
  | .routeFence b => s.ackFence m.hdr b
  | .fenceAck b => s.fenceAcked b
  | .holdCtl k b => s.holdMessage m.hdr k b
  | .stocktake k b => s.stockMessage m.hdr k b
  | .shelf k b => s.shelfMessage m.hdr k b
  | .partCtl k b => s.partMessage m.hdr k b

/-- Performs a message that this hub sent itself, or that a link brought; Stocktake counts those of level 2 or higher
(R495). -/
def State.performMsg (s : State) (x : InMsg) : State :=
  match x.port with
  | none => s.performBody none x.msg
  | some c =>
    if s.levelOf c = 1 then s.performBody (some c) x.msg
    else (if s.stockCounts x.msg then s.stockRecv x.msg.hdr.partition.toNat else s).performBody none x.msg

/-- A message command: the message if it waits here, or one that a link of level 2 or higher brings now. -/
def State.messageCommand (s : State) (m : Msg) : State :=
  if s.live then
    match s.inbox.find? fun x => x.msg = m with
    | some x => ({ s with inbox := s.inbox.erase x } : State).performMsg x
    | none =>
      (if s.stockCounts m then s.stockRecv m.hdr.partition.toNat else s).performBody none m
  else s

/-- An OP message that a named link brought, if it waits here, or that it brings now. -/
def State.linkOp (s : State) (c : Nat) (m : Msg) : State :=
  if s.live then
    let x : InMsg := { port := some c, msg := m }
    ({ s with inbox := s.inbox.erase x } : State).performMsg x
  else s

/-- R346: a message of a reserved kind. -/
def State.reservedKind (s : State) (c : Nat) (k : BitVec 6) : State :=
  if s.live && (k = 0 || decide (12 < k.toNat)) then s.linkBump c 16 else s

/-! ### Op commands -/

/-- An op command of any source (R91, R298, R319, R348). -/
def State.opCommand (s : State) (code : BitVec 6) (r : OpReq) : Host.Outcome State Fault Refusal :=
  match r.src with
  | .core p lane ctx =>
    if s.portBuilt p && s.laneBuilt lane then
      .next (if s.phase = .inReset then s else s.coreOp p lane ctx code r.op)
    else .fault .absentPort
  | .aperture g host => if g < 1024 then .next (s.apertureOp g host code r.op) else .fault .absentUnit
  | .link c h carry =>
    if s.linkBuilt c then .next (s.linkOp c { hdr := h, body := .op { opcode := code, op := r.op, carry := carry } })
    else .fault .absentLink

/-- A template write of an issue slot, or of an OP message with opcode 0 (R205, R323, R349). -/
def State.templateCommand (s : State) (src : TemplateSource) (word : BitVec 2) (handle : Handle) (data : BitVec 64) :
    Host.Outcome State Fault Refusal :=
  match src with
  | .slot g host => if g < 1024 then .next (s.apertureTemplate g host word handle data) else .fault .absentUnit
  | .link c h carry =>
    let flags : OpFlags := { rel := false, acq := false, noresp := false, near := false, sense := false, x2 := false }
    let op : OpFields :=
      { flags := flags, tsel := (0 : BitVec 2) ++ word, tag := 0, handle := handle, operand := data, opb := 0 }
    if s.linkBuilt c then .next (s.linkOp c { hdr := h, body := .op { opcode := 0, op := op, carry := carry } })
    else .fault .absentLink

end Sys2Proof.Machine
end

