-- ==== Sys2Proof/Machine/CatRead.lean ====
section
/-! DEFINITION. What the Catalogue shows (R505 to R513, R526, R527, R533 to R538): which entries exist, who reaches them, the
value and the content of each, its descriptor, and the identity data. -/

namespace Sys2Proof.Machine

/-! ### Principals and rights (R511 to R513) -/

/-- The principal of a request, as its rights depend on it: its class, its path, the partition that a tenant is bound to,
and its own view window (R538). -/
structure Who where
  operator : Bool
  apb : Bool
  part : Nat
  window : Nat
deriving DecidableEq, Repr

/-- R512: whether CatPrincipal `k` is valid and names an EID. -/
def State.principalNames (s : State) (e : BitVec 8) (k : Nat) : Bool :=
  (s.cfg 0x2C00 k).testBit 31 && decide (s.cfg 0x2C00 k % 256 = e.toNat)

/-- R511: the principal of a path; `none` for an EID that no valid entry names. -/
def State.whoIs (s : State) (v : CatVia) : Option Who :=
  match v with
  | .apb => some { operator := true, apb := true, part := 0, window := 0 }
  | .mctp e _ =>
    ((numsFrom 1 32).find? (s.principalNames e)).map fun k =>
      { operator := (s.cfg 0x2C00 k).testBit 20, apb := false, part := s.cfg 0x2C00 k / 2 ^ 16 % 16, window := k }

/-- The partition number that an entry is reached with; 0 for an entry that has no partition. -/
def entryPart (r : CatRow) (p : BitVec 4) : Nat := if r.scope = .partition then p.toNat else 0

/-- R505: whether the instance of an index is built. -/
def State.entryBuilt (s : State) (index : Nat) : Bool :=
  if 0x3100 ≤ index ∧ index ≤ 0x317F then s.portBuilt (index - 0x3100)
  else if 0x5000 ≤ index ∧ index ≤ 0x500F then s.linkBuilt (index - 0x5000)
  else if 0x6010 ≤ index ∧ index ≤ 0x601F then s.linkBuilt (index - 0x6010)
  else true

/-- R505, R513: whether an entry of the map exists for a principal. -/
def State.entryExists (s : State) (w : Who) (index : Nat) (r : CatRow) (p : Nat) : Bool :=
  s.entryBuilt index && (decide (r.scope ≠ .partition) || (decide (p < s.partCount) && (w.operator || decide (w.part < s.partCount))))

/-- R505: the entry that a request names. -/
def State.findEntry (s : State) (w : Who) (index sub : Nat) (p : BitVec 4) : Option CatRow :=
  (catRow index sub).filter fun r => s.entryExists w index r (entryPart r p)

/-- R513: whether an entry belongs to a tenant: its own partition's, its own lock group's, its own window's, or one that a
setting gives it for now (R228, R291, R422, R503, R538). -/
def State.tenantOwns (s : State) (w : Who) (index : Nat) (r : CatRow) (p : Nat) : Bool :=
  if r.scope = .partition then p = w.part
  else if r.scope = .lockGroup then (index - 0x4000) * s.partCount / 256 = w.part
  else if 0x8000 ≤ index then (index - 0x8000) / 0x100 = w.window
  else if 0x3100 ≤ index ∧ index ≤ 0x317F then s.portPart (index - 0x3100) = w.part
  else if 0x2600 ≤ index ∧ index ≤ 0x260F then s.evCfg (index - 0x2600) 4 = w.part
  else if index = 0x6030 then s.cfg 0x6030 1 = w.part
  else true

/-- R511, R513: whether a principal may read an entry. -/
def State.mayRead (s : State) (w : Who) (index : Nat) (r : CatRow) (p : Nat) : Bool :=
  w.operator || (r.tenantRead && s.tenantOwns w index r p)

/-- R511 to R513: whether a principal may write an entry. -/
def State.mayWrite (s : State) (w : Who) (index : Nat) (r : CatRow) (p : Nat) : Bool :=
  (w.apb || !r.apbOnly) && (w.operator || (r.tenantWrite && s.tenantOwns w index r p))

/-- Whether an RO entry lies in a block whose entries a tenant writes (R513): a write of it is refused as RO, not as beyond
rights (DEDUCED, log entry 29). -/
def tenantBlock (index : Nat) (r : CatRow) : Bool :=
  decide (index ≠ 0x3010) && decide (index ≠ 0x7030) &&
    (decide (r.scope = .partition) || decide (index = 0x6030) || decide (0x8000 ≤ index))

/-- Whether a write of an entry lies within the principal's rights. -/
def State.writeInRights (s : State) (w : Who) (index : Nat) (r : CatRow) (p : Nat) : Bool :=
  s.mayWrite w index r p ||
    (decide (r.access = .ro) && r.tenantRead && tenantBlock index r && s.tenantOwns w index r p)

/-! ### Values (R506) -/

def ResliceStep.code : ResliceStep → Nat
  | .idle => 0 | .draining => 1 | .quiescing => 2 | .completing => 3

/-- PartResetState (R422). The wait for a low acknowledgement is part of QUIESCING (R412). -/
def ResetStep.code : ResetStep → Nat
  | .idle => 0 | .cancelling => 1 | .recalling => 2 | .ackLow => 3 | .quiescing => 3 | .sweeping => 4 | .awaitPeers => 5

def ShelfState.code : ShelfState → Nat
  | .idle => 0 | .armed => 1 | .latched => 2 | .failed => 3

def FolioState.code : FolioState → Nat
  | .idle => 0 | .armed => 1 | .triggered => 2 | .stopped => 3 | .dumping => 4

def TimeState.code : TimeState → Nat
  | .unsynced => 0 | .locked => 1 | .holdover => 2 | .root => 3

/-- The identity entries that the hub samples (R534). -/
def State.readIdentity (s : State) (sub : Nat) : Nat :=
  match sub with
  | 3 => Config.siliconStep.toNat
  | 5 => s.device.toNat
  | 6 => s.die.toNat
  | 7 => bitNat s.live
  | _ => s.cfg 0x1000 sub

/-- The build entries (R534). -/
def State.readBuild (s : State) (sub : Nat) : Nat :=
  match sub with
  | 1 => s.builtPorts.length
  | 2 => s.build.engines
  | 3 => s.build.clusters
  | 4 => s.build.cores
  | 5 => popCount s.build.warpMap.toNat 4
  | 6 => popCount s.build.weftMap.toNat 8
  | 7 => s.build.weftLanes
  | 8 => s.build.portMap.toNat
  | 9 => s.build.warpMap.toNat
  | 10 => s.build.weftMap.toNat
  | _ => 0

/-- The reslice entries (R422). -/
def State.readReslice (s : State) (sub : Nat) : Nat :=
  match sub with
  | 1 => s.partCount
  | 3 => s.reslice.step.code
  | 5 => partBits s.reslice.affected
  | _ => 0

/-- The partition entries (R398, R406, R422). -/
def State.readPart (s : State) (p sub : Nat) : Nat :=
  match sub with
  | 1 => (s.epoch p).toNat
  | 2 => bitNat (s.sweepMode p)
  | 6 => (s.devEntry p (s.cfg 0x3010 5 p)).toNat
  | 10 => (s.part p).contextId.toNat
  | 11 => (s.part p).reset.step.code
  | 18 => (s.objectsOf p).length
  | _ => s.cfg 0x3010 sub p

/-- LinkPeer (R391). -/
def Link.peerWord (l : Link) : Nat :=
  match l.peer with
  | some h => packNat [⟨31, 1, 1⟩, ⟨16, 2, l.peerVmax.toNat⟩, ⟨0, 15, h.toNat⟩]
  | none => 0

/-- LinkCredits (R391). -/
def Link.creditsRead (l : Link) : Nat :=
  packNat [⟨0, 16, l.credits.getD 0 0⟩, ⟨16, 16, l.credits.getD 1 0⟩, ⟨32, 16, l.credits.getD 2 0⟩,
    ⟨48, 16, l.credits.getD 3 0⟩]

/-- The link entries (R391). -/
def State.readLink (s : State) (c sub : Nat) : Nat :=
  let l := s.link c
  match sub with
  | 4 => linkCode l.state
  | 5 => l.version.toNat
  | 6 => l.peerWord
  | 7 => l.lanes.toNat
  | 17 => l.creditsRead
  | _ => s.linkCfg c sub

/-- The time entries (R392). -/
def State.readTime (s : State) (sub : Nat) : Nat :=
  match sub with
  | 5 => s.timeState.code
  | 6 => s.sync.offset.toNat
  | 7 => s.time.toNat
  | _ => s.cfg 0x5200 sub

/-- The entries of a shelf (R467). -/
def Shelf.readEntry (h : Shelf) (sub : Nat) : Nat :=
  match sub with
  | 1 => h.state.code
  | 3 => h.peersLatched.toNat
  | 4 => h.peersFailed.toNat
  | _ => 0

/-- The Folio entries (R476). -/
def State.readFolio (s : State) (sub : Nat) : Nat :=
  match sub with
  | 3 => s.folio.state.code
  | 11 => s.folio.pre.length
  | 12 => s.folio.post.length
  | 13 => s.folio.lost.toNat
  | 14 => s.folio.afterStop.toNat
  | 15 => s.folio.trigTimeSeen.toNat
  | _ => s.cfg 0x6030 sub

/-- The two bits of DepositState for a rule (R487). -/
def Deposit.stateCode (d : Deposit) : Nat := if d.waiting then 2 else bitNat d.enable

/-- The Deposit entries (R487). -/
def State.readDeposit (s : State) (p sub : Nat) : Nat :=
  let d := (s.part p).deposit (s.depositSel p)
  match sub with
  | 2 => d.barrier.toNat
  | 3 => d.round.toNat
  | 4 => d.period.toNat
  | 5 => d.tensor.toNat
  | 6 => d.aux.toNat
  | 7 => d.target.toNat
  | 8 => bitNat d.enable + 2 * bitNat d.hold
  | 9 => packNat ((numsFrom 0 8).map fun k => ⟨2 * k, 2, ((s.part p).deposit k).stateCode⟩)
  | 12 => d.count.toNat
  | 13 => d.timeouts.toNat
  | _ => s.cfg 0x6060 sub p

/-- ViewStatus (R536). -/
def View.status (v : View) : Nat :=
  packNat [⟨0, 1, bitNat v.valid⟩, ⟨1, 1, bitNat v.more⟩, ⟨2, 7, v.waiters.length⟩, ⟨9, 1, bitNat v.wide⟩,
    ⟨10, 1, bitNat v.near⟩, ⟨16, 16, v.generation.toNat⟩]

/-- The entries of a view window (R536). -/
def View.readEntry (v : View) (sub : Nat) : Nat :=
  match sub with
  | 1 => v.select.toNat
  | 2 => v.status
  | 3 => v.time.toNat
  | 5 => v.value.toNat
  | 6 => v.lastOrig.toNat
  | 7 => v.lastTime.toNat
  | _ => 0

/-- The entries of the observation blocks whose values are computed (R467, R476, R482, R487, R494, R502). -/
def State.readObserve (s : State) (index sub p : Nat) : Nat :=
  if index = 0x6021 ∨ index = 0x6022 then (s.shelf p (index - 0x6021)).readEntry sub
  else if index = 0x6030 then s.readFolio sub
  else if index = 0x6040 ∧ sub = 4 then bitNat (s.part p).inv.running
  else if index = 0x6050 ∧ sub = 3 then (s.part p).holdState
  else if index = 0x6050 ∧ sub = 4 then s.storedCount p
  else if index = 0x6060 then s.readDeposit p sub
  else if index = 0x6070 ∧ sub = 7 then s.stockState p
  else if index = 0x6070 ∧ sub = 8 then (s.part p).stock.round.toNat
  else s.cfg index sub p

/-- The entries of the service blocks and of the view windows (R454, R536). -/
def State.readService (s : State) (index sub p : Nat) : Nat :=
  if 0x8000 ≤ index then (s.view ((index - 0x8000) / 0x100)).readEntry sub
  else if index = 0x7020 ∧ sub = 4 then s.stageOut.toNat
  else if index = 0x7030 ∧ sub = 1 then bitNat (s.latched p)
  else if index = 0x7030 ∧ sub = 2 then (s.part p).cause.toNat
  else if index = 0x7050 ∧ sub = 1 then bitNat s.refLost
  else s.cfg index sub p

/-- The present value of an entry. -/
def State.entryValue (s : State) (index sub p : Nat) : Nat :=
  if 0x7000 ≤ index then s.readService index sub p
  else if 0x6020 ≤ index then s.readObserve index sub p
  else if index = 0x1000 then s.readIdentity sub
  else if index = 0x1001 then s.readBuild sub
  else if index = 0x2800 ∧ sub = 3 then (s.waitersOf p).length
  else if index = 0x2C01 ∧ sub = 1 then s.eid.toNat
  else if index = 0x3000 then s.readReslice sub
  else if index = 0x3010 then s.readPart p sub
  else if 0x5000 ≤ index ∧ index ≤ 0x500F then s.readLink (index - 0x5000) sub
  else if index = 0x5100 ∧ sub = 2 then (s.route (routeSelected (s.cfg 0x5100 1))).toNat
  else if index = 0x5200 then s.readTime sub
  else s.cfg index sub p

/-- The value that READ returns: zero for a WO entry (R507), and never more than the bytes of the type (R506). -/
def State.readEntry (s : State) (index : Nat) (r : CatRow) (p : Nat) : Nat :=
  if r.access = .wo then 0 else s.entryValue index r.sub p % 2 ^ (8 * r.ty.bytes)

/-! ### DOMAIN entries (R509, R510) -/

/-- The content of a DOMAIN entry as it stands: its generation, its bytes, and how many they are. -/
structure Domain where
  generation : BitVec 16
  len : Nat
  data : Nat
deriving DecidableEq, Repr

/-- Words of `w` bits one after another, the first lowest. -/
def joinWords {w : Nat} : List (BitVec w) → Nat
  | [] => 0
  | x :: xs => x.toNat + 2 ^ w * joinWords xs

/-- R474: whether a principal sees a Folio record. -/
def State.seesRecord (s : State) (w : Who) (r : FolioRec) : Bool :=
  w.operator || (!r.hub && decide (r.partition = w.part) && decide (r.epoch = s.epoch w.part))

/-- FolioData (R474). -/
def State.folioDomain (s : State) (w : Who) : Domain :=
  let rs := s.folio.pre ++ s.folio.post
  { generation := s.folio.generation, len := 32 * rs.length
    data := joinWords (rs.map fun r => if s.seesRecord w r then r.word else 0) }

/-- ViewRecord (R536); a window without a valid copy has no content (DESIGN CHOICE, log entry 30). -/
def View.recordDomain (v : View) : Domain :=
  if !v.valid then { generation := v.generation, len := 0, data := 0 }
  else if v.near then { generation := v.generation, len := 16, data := v.nearRec.toNat }
  else { generation := v.generation, len := 32 * v.record.length, data := joinWords v.record }

/-- ViewWaiters (R536). -/
def View.waiterDomain (v : View) : Domain :=
  if !v.valid then { generation := v.generation, len := 0, data := 0 }
  else { generation := v.generation, len := 40 * v.waiters.length, data := joinWords v.waiters }

/-- The content of a DOMAIN entry for a principal. -/
def State.domainOf (s : State) (w : Who) (index sub p : Nat) : Domain :=
  if 0x8000 ≤ index then
    let v := s.view ((index - 0x8000) / 0x100)
    if sub = 4 then v.recordDomain else v.waiterDomain
  else if index = 0x6030 then s.folioDomain w
  else if index = 0x6021 ∨ index = 0x6022 then
    let k := index - 0x6021
    { generation := (s.shelf p k).generation, len := 448, data := (s.shelf p k).image k }
  else { generation := 0, len := 6, data := catDefault index sub }

/-- The bytes of a segment (R510): how many, and what they are. -/
def Domain.slice (d : Domain) (offset length : Nat) : Nat × Nat :=
  let n := min length (d.len - offset)
  (n, d.data / 2 ^ (8 * offset) % 2 ^ (8 * n))

/-- R510: whether a segment may be read under the generation that it names. -/
def Domain.current (d : Domain) (offset : Nat) (g : BitVec 16) : Bool :=
  decide (offset = 0 ∧ g = 0) || decide (g = d.generation)

/-! ### IDENTIFY and DESCRIBE (R526, R527) -/

/-- The 16 bytes of IDENTIFY. -/
def State.identifyData (s : State) (w : Who) : Nat :=
  packNat [⟨0, 1, bitNat w.operator⟩, ⟨1, 1, bitNat w.apb⟩, ⟨8, 4, if w.operator then 0 else w.part⟩,
    ⟨16, 15, s.hub.toNat⟩, ⟨32, 8, 1⟩, ⟨40, 7, w.window⟩, ⟨64, 16, 1024⟩]

/-- A name in ASCII, its first character in the lowest byte. -/
def asciiNat : List Char → Nat
  | [] => 0
  | c :: cs => c.toNat % 256 + 256 * asciiNat cs

/-- The default that a descriptor shows: of the identity and build entries the value itself, of PartDevMapEntry the entry's
own number. -/
def State.shownDefault (s : State) (index : Nat) (r : CatRow) (p : Nat) : Nat :=
  if (index = 0x1000 ∨ index = 0x1001) ∧ r.ty ≠ .domain 6 then s.entryValue index r.sub p
  else if index = 0x3010 ∧ r.sub = 6 then 0x8000 + s.cfg 0x3010 5 p
  else r.dflt

/-- The 64 bytes of DESCRIBE. -/
def State.describeData (s : State) (index : Nat) (r : CatRow) (p : Nat) : Nat :=
  let lo := match r.range with | some x => x.1 | none => 0
  let hi := match r.range with | some x => x.2 | none => 0
  packNat [⟨0, 8, r.ty.code⟩, ⟨8, 8, r.access.code⟩, ⟨16, 8, r.scope.code⟩, ⟨24, 1, bitNat r.range.isSome⟩,
    ⟨25, 1, bitNat r.tenantRead⟩, ⟨26, 1, bitNat r.tenantWrite⟩, ⟨27, 1, bitNat r.apbOnly⟩, ⟨32, 32, r.ty.size⟩,
    ⟨64, 64, s.shownDefault index r p⟩, ⟨128, 64, lo⟩, ⟨192, 64, hi⟩, ⟨256, 256, asciiNat r.name.toList⟩]

/-! ### NEXT (R515) -/

/-- Whether an entry is one that NEXT finds for a principal. -/
def State.nextFinds (s : State) (w : Who) (p : BitVec 4) (index : Nat) (r : CatRow) : Bool :=
  s.entryExists w index r (entryPart r p) &&
    (s.mayRead w index r (entryPart r p) || s.mayWrite w index r (entryPart r p))

/-- The first entry after index.sub at the indices of a list. -/
def State.nextIn (s : State) (w : Who) (p : BitVec 4) (index sub : Nat) : List Nat → Option (Nat × Nat)
  | [] => none
  | i :: is =>
    match (catBlock i).find? fun r => (decide (index < i) || (decide (index = i) && decide (sub < r.sub))) &&
        s.nextFinds w p i r with
    | some r => some (i, r.sub)
    | none => s.nextIn w p index sub is

end Sys2Proof.Machine
end

