-- ==== Sys2Proof/Machine/CatWrite.lean ====
section
/-! DEFINITION. Writes of Catalogue entries (R507, R508, R518): the checks that every write passes, the meaning of each entry,
and the selection of a view (R537, R538). -/

namespace Sys2Proof.Machine

/-! ### The checks (R507) -/

/-- A value as the entry stores it: within the bytes of its type, its reserved bits zero (R12, R507). -/
def CatRow.stored (r : CatRow) (v : Nat) : Nat := (v % 2 ^ (8 * r.ty.bytes)) &&& r.mask

/-- Whether an entry's table allows a value. -/
def CatRow.allows (r : CatRow) (v : Nat) : Bool :=
  (decide (r.ty ≠ .bool) || decide (v ≤ 1)) &&
  (match r.range with
   | some x => (decide (x.1 ≤ v) && decide (v ≤ x.2)) || decide (r.also = some v)
   | none => true) && decide (v % r.align = 0)

/-! ### View windows (R537, R538) -/

/-- The copy of a near object (R90). -/
def State.copyNear (s0 : State) (k v : Nat) : State :=
  let p := v / 2 ^ 24 % 128
  let n := v % 64
  let s := s0.nearCheck p n
  s.setView k {
    valid := true, select := BitVec.ofNat 32 v, near := true, generation := (s.view k).generation + 1, time := s.time
    nearRec := (s.port p).nearWord n, value := (s.nearRead p n 0).getD 0 }

/-- The copy of a record, or of a whole wide group from its header, with its first 64 waiters (R88, R537). -/
def State.copyRecord (s0 : State) (k v j : Nat) : State :=
  let i := if s0.wideBit j then j - j % 4 else j
  let s := s0.accessObj i
  let o := s.obj i
  let q := s.queue i
  s.setView k {
    valid := true, select := BitVec.ofNat 32 v, more := decide (64 < q.length), wide := s.wideBit i
    generation := (s.view k).generation + 1, time := s.time
    record := if s.wideBit i then (numsFrom i 4).map s.recordWord else [s.recordWord i]
    value := (s.readWord i 0).getD 0, lastOrig := o.lastOrig, lastTime := o.lastTime
    waiters := (waiterWords q).take 64 }

/-- A selection of a near object. -/
def State.selectNear (s : State) (w : Who) (k v : Nat) : State × CatStatus :=
  let p := v / 2 ^ 24 % 128
  if w.operator = false ∧ (s.portBuilt p = false ∨ s.portPart p ≠ w.part) then (s, .beyondRights)
  else if s.portBuilt p = false then (s, .accessError)
  else (s.copyNear k v, .done)

/-- A selection of a record of the store. -/
def State.selectRecord (s : State) (w : Who) (k v : Nat) : State × CatStatus :=
  let p := v / 2 ^ 20 % 16
  let rel := v % 2 ^ 17
  let j := s.shareBase p + rel
  if w.operator = false ∧ p ≠ w.part then (s, .beyondRights)
  else if s.partCount ≤ p ∨ s.shareSize ≤ rel then (s, .accessError)
  else if w.operator = false ∧ (s.obj (if s.wideBit j then j - j % 4 else j)).partition.toNat ≠ w.part then
    (s, .beyondRights)
  else (s.copyRecord k v j, .done)

/-- A write of ViewSelect. -/
def State.writeView (s : State) (w : Who) (k v : Nat) : State × CatStatus :=
  if v.testBit 31 then s.selectNear w k v else s.selectRecord w k v

/-! ### The entries with a meaning of their own -/

/-- The answer of a write that completes at once. -/
def atOnce (x : State × CatStatus) : State × Option CatStatus := (x.1, some x.2)

/-- A write that takes effect and completes. -/
def doneWith (s : State) : State × Option CatStatus := (s, some .done)

/-- An index write: accepted, or refused by R215. -/
def indexAnswer (s : State) (x : Option State) : State × Option CatStatus :=
  match x with
  | some t => doneWith t
  | none => (s, some .accessError)

/-- R512: whether a CatPrincipal value is refused. -/
def principalRefused (v : Nat) : Bool := v.testBit 31 && (decide (v % 256 ≤ 7) || decide (v % 256 = 0xFF))

/-- A write of a ticket ring's entry (R215 to R217). -/
def State.writeTicketEntry (s : State) (k sub p v : Nat) : State × Option CatStatus :=
  match sub with
  | 1 => doneWith (s.setTicketRing p k 1 v)
  | 2 => doneWith (s.setTicketRing p k 2 v)
  | 4 => indexAnswer s (s.moveConsumer p (.ticket k) v)
  | _ => doneWith (s.setCfg (0x2400 + k) sub p v)

/-- A write of a notify ring's entry (R331, R332, R336); ring 16 is the hub's. -/
def State.writeNotifyEntry (s : State) (r sub v : Nat) : State × Option CatStatus :=
  match sub with
  | 1 => doneWith (s.setNotifyRing r 1 v)
  | 2 => doneWith (s.setNotifyRing r 2 v)
  | 4 => indexAnswer s (s.moveNotifyConsumer r v)
  | _ => doneWith (s.setCfg (ringIndex r) sub (ringPart r) v)

/-- A write of an event input's entry (R290). -/
def State.writeEventEntry (s : State) (i sub v : Nat) : State × Option CatStatus :=
  if 2 ≤ sub ∧ sub ≤ 5 then doneWith (s.evBinding i sub v) else doneWith (s.setCfg (0x2600 + i) sub 0 v)

/-- A write of waiter cancellation (R284). -/
def State.writeWaiterEntry (s : State) (sub p v : Nat) : State × Option CatStatus :=
  match sub with
  | 1 => atOnce (s.cancelObject p (BitVec.ofNat 32 v))
  | 2 => atOnce (s.cancelOriginator p (BitVec.ofNat 25 v))
  | _ => doneWith (s.setCfg 0x2800 sub p v)

/-- A write of the reslice block (R418, R420). -/
def State.writeResliceEntry (s : State) (sub v : Nat) : State × Option CatStatus :=
  match sub with
  | 2 => atOnce (s.startReslice v)
  | _ => doneWith (if v = 1 then s.abortReslice else s)

/-- A write of the partition block (R398, R407, R410, R412). -/
def State.writePartEntry (s : State) (sub p v : Nat) : State × Option CatStatus :=
  match sub with
  | 6 => doneWith { s with devMap := s.devMap.put devDefault (p * 4096 + s.cfg 0x3010 5 p) (BitVec.ofNat 16 v) }
  | 8 => atOnce (s.writeReset p v)
  | 9 => atOnce (s.writeContext p (BitVec.ofNat 64 v))
  | 13 => doneWith (if v = 1 then s.override p else s)
  | _ => doneWith (s.setCfg 0x3010 sub p v)

/-- A write of a link's entry (R362, R366). -/
def State.writeLinkEntry (s : State) (h : CatHdr) (c sub v : Nat) : State × Option CatStatus :=
  if sub ≤ 3 then s.renegotiate h c sub v else doneWith ((s.setCfg (0x5000 + c) sub 0 v).recheckLink c)

/-- A write of the route block (R375, R392). -/
def State.writeRouteEntry (s : State) (h : CatHdr) (sub v : Nat) : State × Option CatStatus :=
  match sub with
  | 1 => if v.testBit 12 ∧ v / 8 % 512 ≠ 0 then (s, some .accessError) else doneWith (s.setCfg 0x5100 1 0 v)
  | 2 => s.writeRoute h (routeSelected (s.cfg 0x5100 1)) (BitVec.ofNat 32 v)
  | _ => doneWith (s.setCfg 0x5100 sub 0 v)

/-- A write of the time block (R392). -/
def State.writeTimeEntry (s : State) (sub v : Nat) : State × Option CatStatus :=
  match sub with
  | 8 => atOnce (s.writeTimeSet (BitVec.ofNat 64 v))
  | _ => doneWith (s.setCfg 0x5200 sub 0 v)

/-- A write of the shelves' control (R460, R461). -/
def State.writeShelfEntry (s : State) (sub p v : Nat) : State × Option CatStatus :=
  match sub with
  | 1 => doneWith (s.writeShelfArm p (BitVec.ofNat 8 v))
  | 5 => doneWith (s.writeShelfCancel p (BitVec.ofNat 8 v))
  | _ => doneWith (s.setCfg 0x6020 sub p v)

/-- A write of FolioControl (R471). -/
def State.writeFolioControl (s : State) (v : Nat) : State × Option CatStatus :=
  match v with
  | 1 => atOnce s.armFolio
  | 2 => doneWith s.triggerFolio
  | 3 => doneWith s.stopFolio
  | _ => doneWith s.clearFolio

/-- A write of the Folio block (R471, R476): its scope and its division are fixed while a capture runs. -/
def State.writeFolioEntry (s : State) (sub v : Nat) : State × Option CatStatus :=
  match sub with
  | 2 => s.writeFolioControl v
  | 10 => doneWith (s.markFolio (BitVec.ofNat 64 v))
  | _ =>
    if (sub = 1 ∨ sub = 5) ∧ s.folioRests = false then (s, some .accessError) else doneWith (s.setCfg 0x6030 sub 0 v)

/-- A write of the Inventory block (R488). -/
def State.writeInventoryEntry (s : State) (sub p v : Nat) : State × Option CatStatus :=
  if sub ≠ 3 then doneWith (s.setCfg 0x6040 sub p v)
  else if v = 0 then doneWith s
  else if s.inventoryBar p ≠ 0 then (s, some .accessError)
  else doneWith (s.takeInventory p 0 0)

/-- A write of PartHold or PartResume (R479): the exchange completes it. -/
def State.writeHoldEntry (s : State) (h : CatHdr) (sub p v : Nat) : State × Option CatStatus :=
  match sub with
  | 1 => (s.beginHold p (v.testBit 0) (.cat h), none)
  | 2 => (s.startHold p true (v.testBit 0) (.cat h), none)
  | _ => doneWith (s.setCfg 0x6050 sub p v)

/-- A Deposit rule with one of its plain fields written (R487). -/
def Deposit.withField (d : Deposit) (sub v : Nat) : Deposit :=
  match sub with
  | 2 => { d with barrier := BitVec.ofNat 32 v }
  | 3 => { d with round := BitVec.ofNat 28 v }
  | 4 => { d with period := BitVec.ofNat 32 v }
  | 5 => { d with tensor := BitVec.ofNat 64 v }
  | 6 => { d with aux := BitVec.ofNat 64 v }
  | 7 => { d with target := BitVec.ofNat 16 v }
  | _ => d

/-- A write of the Deposit block (R483, R485, R487). -/
def State.writeDepositEntry (s : State) (sub p v : Nat) : State × Option CatStatus :=
  if sub = 8 then atOnce (s.writeDepositFlags p (BitVec.ofNat 8 v))
  else if sub = 10 then atOnce (s.ackDeposit p v)
  else if 2 ≤ sub ∧ sub ≤ 7 then
    doneWith (s.modPart p fun x => x.setDeposit (s.depositSel p) ((x.deposit (s.depositSel p)).withField sub v))
  else doneWith (s.setCfg 0x6060 sub p v)

/-- A write of the injection block (R453). -/
def State.writeInjectEntry (s : State) (sub v : Nat) : State × Option CatStatus :=
  if sub ≠ 2 then doneWith (s.setCfg 0x7040 sub 0 v)
  else if v = 4 then atOnce s.injectStage
  else atOnce (s.injectBits v)

/-- A write of an entry below 0x3000 that has passed the checks. -/
def State.writeLow (s : State) (index sub p v : Nat) : State × Option CatStatus :=
  if 0x2400 ≤ index ∧ index ≤ 0x2403 then s.writeTicketEntry (index - 0x2400) sub p v
  else if 0x2600 ≤ index ∧ index ≤ 0x260F then s.writeEventEntry (index - 0x2600) sub v
  else if index = 0x2300 ∧ sub = 6 then atOnce (s.recallWrite p (BitVec.ofNat 32 v))
  else if index = 0x2500 ∧ sub = 1 then atOnce (s.clearAbandoned p (BitVec.ofNat 32 v))
  else if index = 0x2800 then s.writeWaiterEntry sub p v
  else if index = 0x2900 then s.writeNotifyEntry p sub v
  else if index = 0x2A00 then s.writeNotifyEntry 16 sub v
  else if index = 0x2C00 ∧ principalRefused v = true then (s, some .accessError)
  else doneWith (s.setCfg index sub p v)

/-- A write of an entry from 0x3000 to 0x5FFF that has passed the checks. -/
def State.writeMiddle (s : State) (h : CatHdr) (index sub p v : Nat) : State × Option CatStatus :=
  if index = 0x3000 then s.writeResliceEntry sub v
  else if index = 0x3010 then s.writePartEntry sub p v
  else if 0x3100 ≤ index ∧ index ≤ 0x317F then atOnce (s.writePortPartition (index - 0x3100) v)
  else if 0x4000 ≤ index ∧ index ≤ 0x40FF ∧ sub = 4 then doneWith (s.setLockMode (index - 0x4000) v)
  else if 0x5000 ≤ index ∧ index ≤ 0x500F then s.writeLinkEntry h (index - 0x5000) sub v
  else if index = 0x5100 then s.writeRouteEntry h sub v
  else if index = 0x5200 then s.writeTimeEntry sub v
  else doneWith (s.setCfg index sub p v)

/-- A write of an entry from 0x6000 on that has passed the checks. -/
def State.writeHigh (s : State) (h : CatHdr) (w : Who) (index sub p v : Nat) : State × Option CatStatus :=
  if 0x8000 ≤ index then atOnce (s.writeView w ((index - 0x8000) / 0x100) v)
  else if index = 0x6020 then s.writeShelfEntry sub p v
  else if index = 0x6030 then s.writeFolioEntry sub v
  else if index = 0x6040 then s.writeInventoryEntry sub p v
  else if index = 0x6050 then s.writeHoldEntry h sub p v
  else if index = 0x6060 then s.writeDepositEntry sub p v
  else if index = 0x6070 ∧ sub = 1 then doneWith (s.enableStock p v)
  else if index = 0x7030 ∧ sub = 4 then doneWith (s.injectFault p v)
  else if index = 0x7040 then s.writeInjectEntry sub v
  else doneWith (s.setCfg index sub p v)

/-- A write of an entry that has passed the checks: the state, and the status unless an event is still to complete it
(R518). -/
def State.writeEntry (s : State) (h : CatHdr) (w : Who) (index sub p v : Nat) : State × Option CatStatus :=
  if index < 0x3000 then s.writeLow index sub p v
  else if index < 0x6000 then s.writeMiddle h index sub p v
  else s.writeHigh h w index sub p v

end Sys2Proof.Machine
end

