-- ==== Sys2Proof/Machine/Catalogue.lean ====
section
/-! DEFINITION. The Catalogue's requests (R515 to R519, R525 to R531) and the MCTP endpoint (R522, R524): the order in which
requests are performed, each command, and the discards. -/

namespace Sys2Proof.Machine

/-- What a request names beside its header: its command, and its index and subindex. -/
structure CatAsk where
  command : BitVec 8
  index : BitVec 16
  sub : BitVec 8
deriving DecidableEq, Repr

/-! ### The order of requests (R517) -/

/-- The principal of a command that waits its turn, if the command is a request. -/
def CatOpen.principal (o : CatOpen) : Principal := viaPrincipal o.hdr.via

/-- Whether a request of a principal must wait: another of its own is in progress, or waits, or eight are in progress. -/
def State.mustWait (s : State) (pr : Principal) : Bool :=
  (s.catOpen.any fun o => o.principal = pr) || (s.catHeld.any fun x => x.1 = pr) || decide (8 ≤ s.catOpen.length)

/-- Marks the APB5 registers busy with a request (R529); CAT_SEL is what the request names. -/
def State.apbBusy (s : State) (h : CatHdr) (a : CatAsk) : State :=
  match h.via with
  | .apb => { s with apb := { s.apb with busy := true, sel := (0 : BitVec 4) ++ h.partition ++ a.sub ++ a.index } }
  | _ => s

/-- CAT_DATA holds the value of an APB5 write (R529). -/
def State.apbData (s : State) (h : CatHdr) (v : Nat) : State :=
  match h.via with
  | .apb => { s with apb := { s.apb with data := BitVec.ofNat 128 v } }
  | _ => s

/-- Answers a request with a status alone. -/
def State.catStatus (s : State) (h : CatHdr) (a : CatAsk) (st : CatStatus) : State :=
  s.catAnswer (statusAnswer h a.command a.index a.sub st)

/-- Takes in a request `i`: it is performed by `run`, or waits its turn, or is answered with BUSY (R517). An EID that names no
principal is answered with BEYOND_RIGHTS (R511), as is every request before its command is looked at. -/
def State.catRequest (s : State) (i : Instr) (h : CatHdr) (a : CatAsk) (run : State → Who → State) : State :=
  if !s.live then s
  else if h.via = .apb ∧ s.apb.busy = true then s.drive .pslverr
  else if h.via ≠ .apb ∧ s.eid = 0 then s.bump 0x2C01 5
  else
    let pr := viaPrincipal h.via
    if s.mustWait pr then
      if 4 ≤ (s.catHeld.filter fun x => x.1 = pr).length then s.catStatus h a .busy
      else { s.apbBusy h a with catHeld := s.catHeld ++ [(pr, i)] }
    else match s.whoIs h.via with
      | some w => run (s.apbBusy h a) w
      | none => s.catStatus h a .beyondRights

/-- The first request that waits and whose turn has come (R517). -/
def State.nextHeld (s : State) : Option (Principal × Instr) :=
  s.catHeld.find? fun x => !(s.catOpen.any fun o => o.principal = x.1) && decide (s.catOpen.length < 8)

/-- The state in which a waiting request is performed: none of its principal's requests waits. -/
def State.takeHeld (s : State) (pr : Principal) : State :=
  { s with
    catHeld := s.catHeld.filter fun x => x.1 ≠ pr
    apb := if pr = .apb then { s.apb with busy := false } else s.apb }

/-- The requests of a principal behind its first. -/
def State.heldBehind (s : State) (pr : Principal) : List (Principal × Instr) :=
  (s.catHeld.filter fun x => x.1 = pr).drop 1

/-! ### READ, WRITE, READ_SEG, IDENTIFY, DESCRIBE, NEXT -/

/-- An answer that carries data. -/
def dataAnswer (h : CatHdr) (a : CatAsk) (len data : Nat) : CatAnswer :=
  { statusAnswer h a.command a.index a.sub .done with len := len, data := data % 2 ^ (8 * len) }

/-- IDENTIFY (R526). -/
def State.runIdentify (s : State) (h : CatHdr) (a : CatAsk) (w : Who) : State :=
  s.catAnswer (dataAnswer h a 16 (s.identifyData w))

/-- DESCRIBE (R527): of an entry that the principal may read or write. -/
def State.runDescribe (s : State) (h : CatHdr) (a : CatAsk) (w : Who) : State :=
  let i := a.index.toNat
  match s.findEntry w i a.sub.toNat h.partition with
  | none => s.catStatus h a .noEntry
  | some r =>
    let p := entryPart r h.partition
    if s.mayRead w i r p || s.mayWrite w i r p then s.catAnswer (dataAnswer h a 64 (s.describeData i r p))
    else s.catStatus h a .beyondRights

/-- READ (R506 to R508). A DOMAIN is read by READ_SEG alone. -/
def State.runRead (s : State) (h : CatHdr) (a : CatAsk) (w : Who) : State :=
  let i := a.index.toNat
  match s.findEntry w i a.sub.toNat h.partition with
  | none => s.catStatus h a .noEntry
  | some r =>
    let p := entryPart r h.partition
    if !s.mayRead w i r p then s.catStatus h a .beyondRights
    else if r.ty.bytes = 0 then s.catStatus h a .malformed
    else s.catAnswer (dataAnswer h a r.ty.bytes (s.readEntry i r p))

/-- READ_SEG (R509, R510). -/
def State.runReadSeg (s : State) (h : CatHdr) (a : CatAsk) (offset length : Nat) (g : BitVec 16) (w : Who) : State :=
  let i := a.index.toNat
  match s.findEntry w i a.sub.toNat h.partition with
  | none => s.catStatus h a .noEntry
  | some r =>
    let p := entryPart r h.partition
    if !s.mayRead w i r p then s.catStatus h a .beyondRights
    else if r.ty.bytes ≠ 0 ∨ length = 0 ∨ 1024 < length then s.catStatus h a .malformed
    else
      let d := s.domainOf w i r.sub p
      if !d.current offset g then s.catStatus h a .changed
      else
        s.catAnswer { dataAnswer h a (d.slice offset length).1 (d.slice offset length).2 with
          last := decide (d.len ≤ offset + length), generation := d.generation }

/-- NEXT (R515). -/
def State.runNext (s : State) (h : CatHdr) (a : CatAsk) (w : Who) : State :=
  let i := a.index.toNat
  match s.nextIn w h.partition i a.sub.toNat (catIndices.filter fun k => decide (i ≤ k)) with
  | some x => s.catAnswer (statusAnswer h a.command (BitVec.ofNat 16 x.1) (BitVec.ofNat 8 x.2) .done)
  | none => s.catStatus h a .noEntry

/-- R507: why a write is refused before it changes anything. `count` is the number of data bytes that a message carries. -/
def State.writeRefused (s : State) (h : CatHdr) (a : CatAsk) (w : Who) (count : Option Nat) (v : Nat) : Option CatStatus :=
  let i := a.index.toNat
  match s.findEntry w i a.sub.toNat h.partition with
  | none => some .noEntry
  | some r =>
    if !s.writeInRights w i r (entryPart r h.partition) then some .beyondRights
    else if r.ty.bytes ≠ 0 && decide (count.getD r.ty.bytes ≠ r.ty.bytes) then some .malformed
    else if r.access = .ro || !r.allows (r.stored v) then some .accessError
    else none

/-- The row of an entry, for a write that is not refused. -/
def askRow (a : CatAsk) : CatRow := (catRow a.index.toNat a.sub.toNat).getD (hubRow 0 "" .u8 .ro)

/-- WRITE (R507, R508, R518): open until its status is known. -/
def State.runWrite (s : State) (h : CatHdr) (a : CatAsk) (count : Option Nat) (v : Nat) (w : Who) : State :=
  match s.writeRefused h a w count v with
  | some st => s.catStatus h a st
  | none =>
    let r := askRow a
    let s1 : State := { s with catOpen := s.catOpen ++ [{ hdr := h, index := a.index, sub := a.sub }] }
    let x := s1.writeEntry h w a.index.toNat a.sub.toNat (entryPart r h.partition) (r.stored v)
    match x.2 with
    | some st => x.1.catFinish h st
    | none => x.1

/-! ### The commands -/

/-- The index of the `n`-th of `count` instances from a base; one that does not exist names the unused index 0xFFFF
(R505). -/
def instIndex (base n count : Nat) : BitVec 16 := BitVec.ofNat 16 (if n < count then base + n else 0xFFFF)

/-- A WRITE of an entry with a meaning of its own. -/
def State.entryCommand (s : State) (i : Instr) (h : CatHdr) (index : BitVec 16) (sub : BitVec 8) (v : Nat) : State :=
  let a : CatAsk := { command := cmdWrite, index := index, sub := sub }
  s.catRequest i h a fun s w => (s.apbData h v).runWrite h a none v w

/-- A WRITE. Over APB5 the value stands in CAT_DATA, whatever its length (R530). -/
def State.writeCommand (s : State) (i : Instr) (h : CatHdr) (index : BitVec 16) (sub : BitVec 8) (bytes : Nat)
    (v : BitVec 128) : State :=
  let a : CatAsk := { command := cmdWrite, index := index, sub := sub }
  s.catRequest i h a fun s w => (s.apbData h v.toNat).runWrite h a (if h.via = .apb then none else some bytes) v.toNat w

def State.identifyCommand (s : State) (i : Instr) (h : CatHdr) : State :=
  let a : CatAsk := { command := cmdIdentify, index := 0, sub := 0 }
  s.catRequest i h a fun s w => s.runIdentify h a w

def State.describeCommand (s : State) (i : Instr) (h : CatHdr) (index : BitVec 16) (sub : BitVec 8) : State :=
  let a : CatAsk := { command := cmdDescribe, index := index, sub := sub }
  s.catRequest i h a fun s w => s.runDescribe h a w

def State.readCommand (s : State) (i : Instr) (h : CatHdr) (index : BitVec 16) (sub : BitVec 8) : State :=
  let a : CatAsk := { command := cmdRead, index := index, sub := sub }
  s.catRequest i h a fun s w => s.runRead h a w

/-- READ_SEG. Over APB5 the offset and the length stand in CAT_OFFSET and CAT_LEN (R529). -/
def State.readSegCommand (s : State) (i : Instr) (h : CatHdr) (index : BitVec 16) (sub : BitVec 8) (offset : BitVec 32)
    (length : BitVec 16) (g : BitVec 16) : State :=
  let a : CatAsk := { command := cmdReadSeg, index := index, sub := sub }
  let n := if h.via = .apb then length.toNat % 2 ^ 11 else length.toNat
  s.catRequest i h a fun s w =>
    let s1 : State :=
      if h.via = .apb then { s with apb := { s.apb with offset := offset, len := BitVec.ofNat 32 n } } else s
    s1.runReadSeg h a offset.toNat n g w

def State.nextCommand (s : State) (i : Instr) (h : CatHdr) (index : BitVec 16) (sub : BitVec 8) : State :=
  let a : CatAsk := { command := cmdNext, index := index, sub := sub }
  s.catRequest i h a fun s w => s.runNext h a w

/-- A malformed request (R516): it names no entry. -/
def State.malformedCommand (s : State) (i : Instr) (h : CatHdr) (command : BitVec 8) : State :=
  let a : CatAsk := { command := command, index := 0, sub := 0 }
  s.catRequest i h a fun s _ => s.catStatus h a .malformed

/-! ### The consumer indices through the control block (R215, R324) -/

/-- The Catalogue entry that holds a ring's consumer index. -/
def consumerEntry : RingName → BitVec 16
  | .ticket k => instIndex 0x2400 k 4
  | .notify => 0x2900
  | .hubNotify => 0x2A00

/-- A write of a consumer-index register of a control block: refused by R215, or accepted. A block has no register for the
hub ring, nor for a fifth ticket ring (R320). -/
def State.blockIndex (s : State) (p : Nat) (ring : RingName) (v : BitVec 32) : State :=
  if !s.live then s.notServing none (some p)
  else if s.partCount ≤ p then s.drive (.axiResp none (some p) false true)
  else
    let named := match ring with | .ticket k => decide (k < 4) | .notify => true | .hubNotify => false
    match (if named then s.moveConsumer p ring v.toNat else none) with
    | some t => t.drive (.axiResp none (some p) false false)
    | none => s.slverr none (some p) p

/-- CONSUMER_INDEX_WRITE. -/
def State.indexCommand (s : State) (i : Instr) (via : IndexWriteVia) (ring : RingName) (v : BitVec 32) : State :=
  match via with
  | .cat h => s.entryCommand i h (consumerEntry ring) 4 v.toNat
  | .block p => s.blockIndex p ring v

/-! ### The MCTP endpoint (R522) -/

/-- The completion codes of the MCTP base specification that the hub uses (PRESUMED, log entry 28). -/
def mctpSuccess : BitVec 8 := 0x00
def mctpInvalidData : BitVec 8 := 0x02
def mctpBadType : BitVec 8 := 0x80

/-- The MCTP control command codes (PRESUMED, log entry 28). -/
def ctlSetEid : BitVec 8 := 1
def ctlGetEid : BitVec 8 := 2
def ctlVersion : BitVec 8 := 4
def ctlTypes : BitVec 8 := 5
def ctlVendor : BitVec 8 := 6

/-- Answers a control request. -/
def State.mctpAnswer (s : State) (dst : BitVec 8) (tag : BitVec 3) (command completion : BitVec 8) (data : Nat) : State :=
  if s.live then
    s.drive (.mctp { dst := dst, tag := tag, command := command, completion := completion, data := BitVec.ofNat 64 data })
  else s

/-- Set Endpoint ID: the null and the broadcast EID are no endpoint's. -/
def State.setEid (s : State) (src : BitVec 8) (tag : BitVec 3) (e : BitVec 8) : State :=
  if !s.live then s
  else if e = 0 ∨ e = 0xFF then s.mctpAnswer src tag ctlSetEid mctpInvalidData 0
  else ({ s with eid := e } : State).mctpAnswer src tag ctlSetEid mctpSuccess (e.toNat * 256)

/-- Get Endpoint ID. -/
def State.getEid (s : State) (src : BitVec 8) (tag : BitVec 3) : State :=
  s.mctpAnswer src tag ctlGetEid mctpSuccess s.eid.toNat

/-- Get MCTP Version Support: 1.3 for the base specification and for control messages. -/
def State.getVersion (s : State) (src : BitVec 8) (tag : BitVec 3) (msgType : BitVec 8) : State :=
  if msgType = 0xFF ∨ msgType = 0x00 then s.mctpAnswer src tag ctlVersion mctpSuccess 0x00FFF3F101
  else s.mctpAnswer src tag ctlVersion mctpBadType 0

/-- Get Message Type Support: two types, 0x00 and 0x7F. -/
def State.getTypes (s : State) (src : BitVec 8) (tag : BitVec 3) : State :=
  s.mctpAnswer src tag ctlTypes mctpSuccess 0x7F0002

/-- Get Vendor Defined Message Support: one set, by IANA enterprise number. -/
def State.getVendor (s : State) (src : BitVec 8) (tag : BitVec 3) (selector : BitVec 8) : State :=
  if selector = 0 then s.mctpAnswer src tag ctlVendor mctpSuccess 0x0100A9D2000001FF
  else s.mctpAnswer src tag ctlVendor mctpInvalidData 0

/-- R522: packets that the hub discards. -/
def State.discardPackets (s : State) (n : Nat) : State := if s.live then s.bumpN 0x2C01 5 0 n else s

/-- R522: a message left incomplete for 100 µs. It holds one packet or more; how many, the command does not say: a free
value (log entry 31). -/
def State.dropIncomplete (s : State) : State :=
  if s.live then s.fresh.bumpN 0x2C01 5 0 (1 + Config.incompletePackets s.free) else s

end Sys2Proof.Machine
end

