-- ==== Sys2Proof/Machine/Startup.lean ====
section
/-! DEFINITION. Reset and start-up (R19, R532, R546 to R550, R555), the levels of the pins that the hub does not act on
meanwhile, and the tick of the timebase (R387, R556). -/

namespace Sys2Proof.Machine

/-! ### What a reset keeps -/

/-- A port, a link, an input and a partition of which only the level of a pin stays. -/
def Port.pinsOnly (x : Port) : Port := { rstLow := x.rstLow }
def Link.pinsOnly (l : Link) : Link := { phyUp := l.phyUp, lanes := l.lanes }
def EvInput.pinsOnly (e : EvInput) : EvInput := { level := e.level }
def Part.pinsOnly (x : Part) : Part := { quiesceAck := x.quiesceAck }

/-- Whether a key of the configuration store is a CatPrincipal entry (R512, R535). -/
def principalKey (k : Nat) : Bool := decide (keyIndex k = 0x2C00)

/-- R532, R548: everything is gone but the pins' levels, the identity as it was sampled, and, unless a supply failed,
CatPrincipal. The queue of commands is not the hub's. -/
def State.cleared (s : State) (supply : Bool) : State :=
  { State.reset with
    pending := s.pending, build := s.build, device := s.device, die := s.die, refSel := s.refSel, refLost := s.refLost
    ports := s.ports.remap portNone Port.pinsOnly, links := s.links.remap linkNone Link.pinsOnly
    evs := s.evs.remap evNone EvInput.pinsOnly, parts := s.parts.remap partNone Part.pinsOnly
    cat := if supply then [] else s.cat.dropKeys fun k => !principalKey k
    out := s.out, free := s.free }

/-- HUB_RESET: the reset condition of R546 begins. -/
def State.hubReset (s : State) (supply : Bool) : State := s.cleared supply

/-! ### Start-up (R549, R550, R555) -/

/-- The ports of the build's clusters and cores (R7, R24). -/
def Build.allPorts (b : Build) : Nat :=
  (numsFrom 0 128).foldl (fun m p => if p / 16 < b.clusters ∧ p % 16 < b.cores then m ||| (1 <<< p) else m) 0

/-- STARTUP: the start instant. The identity is sampled, and the ports that are not there are found (R19, R312). It needs
tb_refclk. -/
def State.startup (s : State) (device : BitVec 12) (die refSel : BitVec 3) (absent : BitVec 128) : State :=
  if s.phase = .inReset ∧ s.refLost = false then
    { s.cleared false with
      phase := .starting, running := true, device := device, die := die, refSel := refSel
      build := { s.build with portMap := BitVec.ofNat 128 s.build.allPorts &&& ~~~absent } }
  else s

/-- A link whose PHY is up leaves TRAINING (R361, R550). -/
def State.linkStarts (s : State) (c : Nat) : State := if (s.link c).phyUp then s.startNeg c 0 0 0 else s

/-- The ops presented meanwhile are taken (R550). -/
def State.portStarts (s : State) (p : Nat) : State := if (s.port p).issue = [] then s else s.wakePort p

/-- STARTUP_COMPLETE: step 5. It needs tb_refclk, and a code of tb_ref_sel that is not reserved (R555). -/
def State.startupComplete (s : State) : State :=
  if s.phase = .starting ∧ s.refLost = false ∧ s.refSel.toNat ≤ 4 then
    let s1 : State := { s with phase := .operational, scrubStart := s.clock }
    (s1.each State.linkStarts s1.builtLinks).each State.portStarts s1.builtPorts
  else s

/-! ### Events before the hub is operational (R550) -/

/-- What the hub does only once it is operational. -/
def State.whenLive (s : State) (f : State → State) : State := if s.live then f s else s

/-- REFCLK_LOSS: before the hub is operational it is not counted. -/
def State.refLoss (s : State) : State := if s.live then s.clockLost else { s with refLost := true }

/-- PHY_UP and PHY_DOWN: before the hub is operational the link stays in TRAINING. -/
def State.phyUpEvent (s : State) (c : Nat) (lanes : BitVec 3) : State :=
  if s.live then s.phyRise c lanes
  else s.modLink c fun l => { l with phyUp := true, lanes := if isWeft c then lanes else 0 }

def State.phyDownEvent (s : State) (c : Nat) : State :=
  if s.live then s.phyFall c else s.modLink c fun l => { l with phyUp := false, lanes := 0 }

/-- PART_QUIESCE_ACK_RISE and its fall: before the hub is operational a level stands, and is not counted. -/
def State.ackRiseEvent (s : State) (p : Nat) : State :=
  if s.live then s.ackRise p else s.modPart p fun x => { x with quiesceAck := true }

def State.ackFallEvent (s : State) (p : Nat) : State :=
  if s.live then s.ackFall p else s.modPart p fun x => { x with quiesceAck := false }

/-- EV_INPUT_CHANGE: before the hub is operational only the level is there; while tb_refclk is lost nothing is filtered
(R446). -/
def State.evInput (s : State) (i : Nat) (level : Bool) : State :=
  if !s.live then s.setEv i { s.ev i with level := level }
  else if s.refLost then s
  else s.evChange i level

/-- CORE_RESET and its release: in reset only the level is there; during start-up it is honoured. -/
def State.coreResetEvent (s : State) (q : Nat) : State :=
  if s.phase = .inReset then s.modPort q fun x => { x with rstLow := true } else s.coreReset q

def State.coreReleaseEvent (s : State) (q : Nat) : State :=
  if s.phase = .inReset then s.modPort q fun x => { x with rstLow := false } else s.coreRelease q

/-! ### The timebase (R387, R556) -/

/-- What edge number `n` of tb_refclk adds to fabric time, in units of 1/256 ns (R556). -/
def edgeUnits (refSel n : Nat) : Nat :=
  match refSel with
  | 0 => 512
  | 1 => if n % 5 = 2 ∨ n % 5 = 4 then 409 else 410
  | 2 => 320
  | 3 => 256
  | 4 => if n % 5 = 2 then 204 else 205
  | _ => 0

/-- The units of correction that an edge may apply while the hub is LOCKED: never more than 1 ns per µs (R387); within
that a free value. -/
def State.slewUnits (s : State) (inc : Nat) : Nat :=
  if s.timeState = .locked then
    min (min s.sync.slew.natAbs (Config.slewRate s.free)) ((s.time.toNat + inc) / 1000 - s.time.toNat / 1000)
  else 0

/-- One edge of tb_refclk. -/
def State.edge (s : State) : State :=
  let inc := edgeUnits s.refSel.toNat s.tick
  let n := s.slewUnits inc
  let d : Int := if 0 ≤ s.sync.slew then n else -n
  { s with
    time := s.time + BitVec.ofInt 64 (inc + d), tick := (s.tick + 1) % 5, free := s.free + 1
    clock := s.clock + BitVec.ofNat 64 inc
    sync := { s.sync with slew := s.sync.slew - d } }

/-- The tick: an edge of tb_refclk while the timebase runs; then what waits to hear that an op has been performed at
another hub (R121), and the ops at a shim that have come free to go on. -/
def State.tickOnce (s : State) : State :=
  if s.running && !s.refLost then
    let s1 := s.edge
    let s2 := s1.each (fun s p => if (s.port p).fences = [] ∧ ((s.port p).issue = [] ∨ s.live = false) then s else s.wakePort p) (Sparse.keys s1.ports)
    s2.each (fun s g => if (s.slot g).fence.isSome then s.wakeSlot g else s) (Sparse.keys s2.slots)
  else s

end Sys2Proof.Machine
end

