-- ==== Sys2Proof/Machine/ExecOps.lean ====
section
/-! DEFINITION. The meanings of the op commands, of template writes and of refused aperture accesses. -/

namespace Sys2Proof.Machine

/-- R315: whether a slot or a block of the aperture is there. -/
def areaBuilt : ApertureArea → Bool
  | .slot g => decide (g < 1024)
  | .block p => decide (p < 16)
  | .reserved => true

/-- SIG (R106), from its issuer to its home. -/
def execSig (r : OpReq) (s : State) : Host.Outcome State Fault Refusal :=
  s.opCommand (opCode .sig) r

/-- SET (R106), from its issuer to its home. -/
def execSet (r : OpReq) (s : State) : Host.Outcome State Fault Refusal :=
  s.opCommand (opCode .set) r

/-- CLR (R106), from its issuer to its home. -/
def execClr (r : OpReq) (s : State) : Host.Outcome State Fault Refusal :=
  s.opCommand (opCode .clr) r

/-- WAIT (R106), from its issuer to its home. -/
def execWait (r : OpReq) (s : State) : Host.Outcome State Fault Refusal :=
  s.opCommand (opCode .wait) r

/-- TAKE (R106, R108), from its issuer to its home. -/
def execTake (r : OpReq) (s : State) : Host.Outcome State Fault Refusal :=
  s.opCommand (opCode .take) r

/-- TRYTAKE (R106), from its issuer to its home. -/
def execTryTake (r : OpReq) (s : State) : Host.Outcome State Fault Refusal :=
  s.opCommand (opCode .tryTake) r

/-- ARRV (R141), from its issuer to its home. -/
def execArrv (r : OpReq) (s : State) : Host.Outcome State Fault Refusal :=
  s.opCommand (opCode .arrv) r

/-- ARRW (R142), from its issuer to its home. -/
def execArrw (r : OpReq) (s : State) : Host.Outcome State Fault Refusal :=
  s.opCommand (opCode .arrw) r

/-- WREL (R149), from its issuer to its home. -/
def execWrel (r : OpReq) (s : State) : Host.Outcome State Fault Refusal :=
  s.opCommand (opCode .wrel) r

/-- ACQ (R106, R230), from its issuer to its home. -/
def execAcq (r : OpReq) (s : State) : Host.Outcome State Fault Refusal :=
  s.opCommand (opCode .acq) r

/-- TRYACQ (R106), from its issuer to its home. -/
def execTryAcq (r : OpReq) (s : State) : Host.Outcome State Fault Refusal :=
  s.opCommand (opCode .tryAcq) r

/-- REL (R106, R231), from its issuer to its home. -/
def execRel (r : OpReq) (s : State) : Host.Outcome State Fault Refusal :=
  s.opCommand (opCode .rel) r

/-- FREL (R240), from its issuer to its home. -/
def execFrel (r : OpReq) (s : State) : Host.Outcome State Fault Refusal :=
  s.opCommand (opCode .frel) r

/-- READ (R110), from its issuer to its home. -/
def execRead (r : OpReq) (s : State) : Host.Outcome State Fault Refusal :=
  s.opCommand (opCode .read) r

/-- INIT (R61 to R68), from its issuer to its home. -/
def execInit (r : OpReq) (s : State) : Host.Outcome State Fault Refusal :=
  s.opCommand (opCode .init) r

/-- FADD (R106), from its issuer to its home. -/
def execFadd (r : OpReq) (s : State) : Host.Outcome State Fault Refusal :=
  s.opCommand (opCode .fadd) r

/-- SWAP (R106), from its issuer to its home. -/
def execSwap (r : OpReq) (s : State) : Host.Outcome State Fault Refusal :=
  s.opCommand (opCode .swap) r

/-- CAS (R106), from its issuer to its home. -/
def execCas (r : OpReq) (s : State) : Host.Outcome State Fault Refusal :=
  s.opCommand (opCode .cas) r

/-- ARM (R59), from its issuer to its home. -/
def execArm (r : OpReq) (s : State) : Host.Outcome State Fault Refusal :=
  s.opCommand (opCode .arm) r

/-- DISARM (R60), from its issuer to its home. -/
def execDisarm (r : OpReq) (s : State) : Host.Outcome State Fault Refusal :=
  s.opCommand (opCode .disarm) r

/-- HOLD (R477 to R479), from its issuer to its home. -/
def execHold (r : OpReq) (s : State) : Host.Outcome State Fault Refusal :=
  s.opCommand (opCode .hold) r

/-- RESUME (R477 to R479), from its issuer to its home. -/
def execResume (r : OpReq) (s : State) : Host.Outcome State Fault Refusal :=
  s.opCommand (opCode .resume) r

/-- PARK (R274), from its issuer to its home. -/
def execPark (r : OpReq) (s : State) : Host.Outcome State Fault Refusal :=
  s.opCommand (opCode .park) r

/-- UNPARK (R276), from its issuer to its home. -/
def execUnpark (r : OpReq) (s : State) : Host.Outcome State Fault Refusal :=
  s.opCommand (opCode .unpark) r

/-- FENCE (R121), from its issuer to its home. -/
def execFence (r : OpReq) (s : State) : Host.Outcome State Fault Refusal :=
  s.opCommand (opCode .fence) r

/-- An op word whose opcode the table does not list (R93, R94). -/
def execUnlistedOpcode (opcode : BitVec 6) (r : OpReq) (s : State) : Host.Outcome State Fault Refusal :=
  s.opCommand opcode r

/-- A template write (R205, R206). -/
def execTemplateWrite (src : TemplateSource) (word : BitVec 2) (handle : Handle) (data : BitVec 64) (s : State) :
    Host.Outcome State Fault Refusal :=
  s.templateCommand src word handle data

/-- An access that the AXI5 subordinate refuses (R313, R315, R316, R320). -/
def execApertureRefused (area : ApertureArea) (why : ApertureFault) (isRead : Bool) (s : State) :
    Host.Outcome State Fault Refusal :=
  if areaBuilt area then .next (s.apertureRefuse area why isRead) else .fault .absentUnit

end Sys2Proof.Machine
end

