-- ==== Sys2Proof/Machine/ExecEvents.lean ====
section
/-! DEFINITION. The meanings of the shim, timed, pin, clock, flit and host-port events. -/

namespace Sys2Proof.Machine

/-- A command of a Core Sync Port, which must be built. -/
def State.atPort (s : State) (p : Nat) (f : State → State) : Host.Outcome State Fault Refusal :=
  if s.portBuilt p then .next (f s) else .fault .absentPort

/-- A command of a link, which must be built. -/
def State.atLink (s : State) (c : Nat) (f : State → State) : Host.Outcome State Fault Refusal :=
  if s.linkBuilt c then .next (f s) else .fault .absentLink

/-- A command that names one of a number of units. -/
def State.atUnit (s : State) (n count : Nat) (f : State → State) : Host.Outcome State Fault Refusal :=
  if n < count then .next (f s) else .fault .absentUnit

/-- A command that names one of a number of units of one of a number of others. -/
def State.atPair (s : State) (n count m many : Nat) (f : State → State) : Host.Outcome State Fault Refusal :=
  if n < count ∧ m < many then .next (f s) else .fault .absentUnit

/-- R446: what the walker and the watchdog do while tb_refclk is present. -/
def State.whenClocked (s : State) (f : State → State) : State := if s.live && !s.refLost then f s else s
def State.whenWalks (s : State) (f : State → State) : State := if s.walks then f s else s

/-- R292: whether a bucket's originator is there. -/
def State.bucketBuilt (s : State) (b : BucketId) : Bool :=
  match b with
  | .engine p e => s.portBuilt p && decide (e < s.build.engines)
  | .slot g => decide (g < 1024)

/-- R441: whether a stage, and the link of a link layer, is built. -/
def State.stageThere (s : State) (stage port : Nat) : Bool :=
  s.stageBuilt stage && (decide (stage < 30) || (s.linkBuilt port && decide (isWeft port = (stage == 31))))

/-- R431: the check of the next near object in turn. -/
def State.nearTurn (s : State) (p : Nat) : State :=
  let n := (s.port p).nearNext
  (s.nearCheck p n).modPort p fun x => { x with nearNext := (n + 1) % 64 }

/-- R369: the deadline of an ARRW across a level-1 route; the port number 128 stands for the aperture. -/
def State.w1Expiry (s : State) (q n : Nat) : State := if q = 128 then s.w1SlotDeadline n else s.w1Deadline q n

/-- The oldest outstanding write of some kinds of the manager, given to `f`. -/
def State.onWrite (s : State) (ks : List MgrKind) (f : State → MgrWrite → State) : State :=
  match s.oldestWrite ks with
  | some w => f s w
  | none => s

/-- A response reaches its shim or the aperture (R268, R321). -/
def execCompletionDelivery (t : RspTarget) (s : State) : Host.Outcome State Fault Refusal :=
  match t with
  | .port p => s.atPort p fun s => s.whenLive fun s => s.completionDelivery (.port p)
  | .aperture => .next (s.whenLive fun s => s.completionDelivery .aperture)

/-- The staging invalidate is acknowledged (R305). -/
def execStgInvalAck (port : Nat) (s : State) : Host.Outcome State Fault Refusal :=
  s.atPort port fun s => s.whenLive fun s => s.ackInval port

/-- A release drain ends (R303). -/
def execRelDrainEnd (port : Nat) (s : State) : Host.Outcome State Fault Refusal :=
  s.atPort port fun s => s.whenLive fun s => s.endDrain port

/-- An issuer reads a response beat (R301). -/
def execResponseRead (port : Nat) (lane : Nat) (s : State) : Host.Outcome State Fault Refusal :=
  s.atPort port fun s => s.whenLive fun s => s.readBeat port lane

/-- The core removes its head ticket (R302). -/
def execTicketRemove (port : Nat) (s : State) : Host.Outcome State Fault Refusal :=
  s.atPort port fun s => s.whenLive fun s => s.removeTicket port

/-- A token bucket gains what its refill time has brought (R292). -/
def execBucketRefill (b : BucketId) (s : State) : Host.Outcome State Fault Refusal :=
  if s.bucketBuilt b then .next (s.whenLive fun s => s.refillBucket b) else .fault .absentUnit

/-- A wait for the surroundings is noted (R307). -/
def execShimSurroundWait (port : Nat) (sig : SurroundSignal) (s : State) : Host.Outcome State Fault Refusal :=
  s.atPort port fun s => s.whenLive fun s => s.surroundWait port sig

/-- csp_rst_n of a port is asserted (R279). -/
def execCoreReset (port : Nat) (s : State) : Host.Outcome State Fault Refusal :=
  s.atPort port fun s => s.coreResetEvent port

/-- The reset check of a registered barrier (R146). -/
def execRegisteredBarrierResetCheck (port : Nat) (index : Nat) (s : State) : Host.Outcome State Fault Refusal :=
  s.atPort port fun s => s.whenLive fun s => if index < 131072 then s.resetCheck port index else s

/-- A waiter's deadline passes (R116). -/
def execWaiterExpiry (num : Nat) (s : State) : Host.Outcome State Fault Refusal :=
  s.atUnit num 131072 fun s => s.whenWalks fun s => s.expire num

/-- The walk that sets aged (R258, R259). -/
def execAgedWalk (s : State) : Host.Outcome State Fault Refusal :=
  .next (s.whenWalks State.agedWalk)

/-- A scrub access of a word (R427). -/
def execScrubAccess (w : StoreWord) (s : State) : Host.Outcome State Fault Refusal :=
  if wordBuilt w then .next (s.scrub w) else .fault .absentUnit

/-- The oldest home waiter of a token has starved (R193). -/
def execLoanRecallDelay (index : Nat) (s : State) : Host.Outcome State Fault Refusal :=
  s.atUnit index 131072 fun s => s.whenLive fun s => s.recallDelay index

/-- A ledger entry is idle (R195). -/
def execLoanIdleReturn (entry : Nat) (s : State) : Host.Outcome State Fault Refusal :=
  s.atUnit entry 4096 fun s => s.whenLive fun s => s.idleReturn entry

/-- The route between a home and a borrower has been lost too long (R200). -/
def execLoanLinkLoss (hub : HubId) (s : State) : Host.Outcome State Fault Refusal :=
  .next (s.whenLive fun s => s.loanLinkLoss hub)

/-- The route between a lock's home and a holder has been lost too long (R251). -/
def execLockLinkLoss (hub : HubId) (s : State) : Host.Outcome State Fault Refusal :=
  .next (s.whenLive fun s => s.lockLinkLoss hub)

/-- A child's arrival cannot reach its parent (R155). -/
def execTreeLinkLoss (index : Nat) (s : State) : Host.Outcome State Fault Refusal :=
  s.atUnit index 131072 fun s => s.whenLive fun s => s.treeLinkLoss index

/-- A parent cannot deliver a grant (R156). -/
def execTreeGrantUndeliverable (index : Nat) (s : State) : Host.Outcome State Fault Refusal :=
  s.atUnit index 131072 fun s => s.whenLive fun s => s.grantUndeliverable index

/-- A hub has had no usable route for RouteStrandTime (R381). -/
def execRouteStrand (hub : HubId) (s : State) : Host.Outcome State Fault Refusal :=
  .next (s.whenLive fun s => s.routeStrand hub)

/-- LinkHoldTime passes in HOLD (R379). -/
def execLinkHoldExpiry (port : Nat) (s : State) : Host.Outcome State Fault Refusal :=
  s.atLink port fun s => s.whenLive fun s => s.holdExpiry port

/-- RouteSettleTime passes (R379). -/
def execRouteSettle (port : Nat) (s : State) : Host.Outcome State Fault Refusal :=
  s.atLink port fun s => s.whenLive fun s => s.routeSettle port

/-- The oldest flit that is not acknowledged times out (R357). -/
def execReplayTimeout (port : Nat) (s : State) : Host.Outcome State Fault Refusal :=
  s.atLink port fun s => s.whenLive fun s => s.replayTimeout port

/-- LinkRetryLimit replays have passed without progress (R358). -/
def execRetryLimit (port : Nat) (s : State) : Host.Outcome State Fault Refusal :=
  s.atLink port fun s => s.whenLive fun s => s.retryLimit port

/-- A NEG flit is sent again (R361). -/
def execNegResend (port : Nat) (s : State) : Host.Outcome State Fault Refusal :=
  s.atLink port fun s => s.whenLive fun s => s.negResend port

/-- A negotiation has lasted 100 µs (R361). -/
def execNegotiationTimeout (port : Nat) (s : State) : Host.Outcome State Fault Refusal :=
  s.atLink port fun s => s.whenLive fun s => s.negTimeout port

/-- A receiver acknowledges with a CTRL flit (R356). -/
def execAckCtrlSend (port : Nat) (s : State) : Host.Outcome State Fault Refusal :=
  s.atLink port fun s => s.whenLive fun s => s.ackCtrl port

/-- A child asks its parent for the time (R385). -/
def execTimeExchange (s : State) : Host.Outcome State Fault Refusal :=
  .next (s.whenLive State.timeExchange)

/-- HOLDOVER has lasted too long (R390). -/
def execTimeHoldoverLimit (s : State) : Host.Outcome State Fault Refusal :=
  .next (s.whenLive State.holdoverLimit)

/-- A Stocktake round is due (R499). -/
def execStocktakeRound (partition : Nat) (s : State) : Host.Outcome State Fault Refusal :=
  s.atUnit partition 16 fun s => s.whenLive fun s => s.stockRound partition

/-- A Deposit hold reaches its limit (R485). -/
def execDepositHoldLimit (partition : Nat) (rule : Nat) (s : State) : Host.Outcome State Fault Refusal :=
  s.atPair partition 16 rule 8 fun s => s.whenLive fun s => s.depositLimit partition rule

/-- An aperture op has been held too long (R293). -/
def execApertureStallLimit (slot : Nat) (s : State) : Host.Outcome State Fault Refusal :=
  s.atUnit slot 1024 fun s => s.whenLive fun s => s.stallLimit slot

/-- The watchdog restarts a stage (R441 to R443). -/
def execStageRestart (stage : Nat) (port : Nat) (items : List CapturedItem) (testPasses : Bool) (s : State) :
    Host.Outcome State Fault Refusal :=
  if s.stageThere stage port then .next (s.whenClocked fun s => s.restart stage port items testPasses)
  else .fault .absentUnit

/-- The restart of a stage in StageOut is tried again (R445). -/
def execStageRetry (stage : Nat) (port : Nat) (testPasses : Bool) (s : State) : Host.Outcome State Fault Refusal :=
  if s.stageThere stage port then .next (s.whenClocked fun s => s.retryStage stage port testPasses)
  else .fault .absentUnit

/-- A quiesce has lasted PartQuiesceWait (R412). -/
def execPartQuiesceWait (partition : Nat) (s : State) : Host.Outcome State Fault Refusal :=
  s.atUnit partition 16 fun s => s.whenLive fun s => s.quiesceWait partition

/-- The filtered level of an event input changes (R286). -/
def execEvInputChange (input : Nat) (level : Bool) (s : State) : Host.Outcome State Fault Refusal :=
  s.atUnit input 16 fun s => s.evInput input level

/-- The deferred SIG of an event input (R287). -/
def execEvDeferredSig (input : Nat) (s : State) : Host.Outcome State Fault Refusal :=
  s.atUnit input 16 fun s => s.whenClocked fun s => s.evDeferred input

/-- The end of a rate interval in level mode (R288). -/
def execEvLevelApply (input : Nat) (s : State) : Host.Outcome State Fault Refusal :=
  s.atUnit input 16 fun s => s.whenClocked fun s => s.evLevel input

/-- The holdoff of a ring's interrupt ends (R333); ring 16 is the hub's. -/
def execNotifyIrqHoldoff (ring : Nat) (s : State) : Host.Outcome State Fault Refusal :=
  s.atUnit ring 17 fun s => s.whenLive fun s => s.holdoffEnd ring

/-- A message that is left incomplete is discarded (R522); whose it was has no effect. -/
def execMctpReassemblyTimeout (_eid : BitVec 8) (_tag : BitVec 3) (s : State) : Host.Outcome State Fault Refusal :=
  .next s.dropIncomplete

/-- Fabric time reaches FolioTrigTime (R472). -/
def execFolioTrigTime (s : State) : Host.Outcome State Fault Refusal :=
  .next (s.whenLive State.folioTime)

/-- Fabric time reaches ShelfArmTime (R460). -/
def execShelfTimeLatch (partition : Nat) (shelf : Nat) (s : State) : Host.Outcome State Fault Refusal :=
  s.atPair partition 16 shelf 2 fun s => s.whenLive fun s => s.shelfTime partition shelf

/-- A scope-all HOLD or RESUME lacks acknowledgements (R479). -/
def execHoldPeerTimeout (partition : Nat) (s : State) : Host.Outcome State Fault Refusal :=
  s.atUnit partition 16 fun s => s.whenLive fun s => s.holdLate partition (s.part partition).hold.xs

/-- A RESET_DONE is missing (R414). -/
def execResetPeerTimeout (partition : Nat) (hub : HubId) (s : State) : Host.Outcome State Fault Refusal :=
  s.atUnit partition 16 fun s => s.whenLive fun s => s.resetMissing partition hub

/-- A SHELF_DONE is missing (R461). -/
def execShelfPeerTimeout (partition : Nat) (shelf : Nat) (s : State) : Host.Outcome State Fault Refusal :=
  s.atPair partition 16 shelf 2 fun s => s.whenLive fun s => s.shelfMissing partition shelf

/-- The reset condition of R546 begins. -/
def execHubReset (supply : Bool) (s : State) : Host.Outcome State Fault Refusal :=
  .next (s.hubReset supply)

/-- The start instant (R546, R549). -/
def execStartup (device : BitVec 12) (die : BitVec 3) (refSel : BitVec 3) (portsAbsent : BitVec 128) (s : State) :
    Host.Outcome State Fault Refusal :=
  .next (s.startup device die refSel portsAbsent)

/-- Step 5 of start-up (R549). -/
def execStartupComplete (s : State) : Host.Outcome State Fault Refusal :=
  .next s.startupComplete

/-- tb_refclk is declared lost (R446). -/
def execRefclkLoss (s : State) : Host.Outcome State Fault Refusal :=
  .next s.refLoss

/-- tb_refclk is back (R446). -/
def execRefclkReturn (s : State) : Host.Outcome State Fault Refusal :=
  .next s.clockBack

/-- phy_up of a link rises (R361, R378). -/
def execPhyUp (port : Nat) (lanes : BitVec 3) (s : State) : Host.Outcome State Fault Refusal :=
  s.atLink port fun s => s.phyUpEvent port lanes

/-- phy_up of a link falls (R378). -/
def execPhyDown (port : Nat) (s : State) : Host.Outcome State Fault Refusal :=
  s.atLink port fun s => s.phyDownEvent port

/-- part_quiesce_ack rises (R334, R410). -/
def execPartQuiesceAckRise (partition : Nat) (s : State) : Host.Outcome State Fault Refusal :=
  s.atUnit partition 16 fun s => s.ackRiseEvent partition

/-- part_quiesce_ack falls (R334). -/
def execPartQuiesceAckFall (partition : Nat) (s : State) : Host.Outcome State Fault Refusal :=
  s.atUnit partition 16 fun s => s.ackFallEvent partition

/-- A data flit comes (R355). -/
def execFlitReceive (port : Nat) (flit : BitVec 256) (bad : Bool) (s : State) : Host.Outcome State Fault Refusal :=
  s.atLink port fun s => s.receiveFlit port flit bad

/-- A CTRL flit comes (R356). -/
def execCtrl (port : Nat) (flit : BitVec 256) (bad : Bool) (s : State) : Host.Outcome State Fault Refusal :=
  s.atLink port fun s => s.receiveFlit port flit bad

/-- A NEG flit comes (R362). -/
def execNeg (port : Nat) (flit : BitVec 256) (bad : Bool) (s : State) : Host.Outcome State Fault Refusal :=
  s.atLink port fun s => s.receiveFlit port flit bad

/-- A TIME REQ comes (R385). -/
def execTimeReq (port : Nat) (flit : BitVec 256) (bad : Bool) (s : State) : Host.Outcome State Fault Refusal :=
  s.atLink port fun s => s.receiveFlit port flit bad

/-- A TIME RSP comes (R387). -/
def execTimeRsp (port : Nat) (flit : BitVec 256) (bad : Bool) (s : State) : Host.Outcome State Fault Refusal :=
  s.atLink port fun s => s.receiveFlit port flit bad

/-- An IDLE flit comes (R342, R353). -/
def execIdleFlit (port : Nat) (flit : BitVec 256) (bad : Bool) (s : State) : Host.Outcome State Fault Refusal :=
  s.atLink port fun s => s.receiveFlit port flit bad

/-- csp_rst_n of a port is released (R309). -/
def execCoreResetRelease (port : Nat) (s : State) : Host.Outcome State Fault Refusal :=
  s.atPort port fun s => s.coreReleaseEvent port

/-- A shim checks one near object in turn (R431). -/
def execNearParityCheck (port : Nat) (s : State) : Host.Outcome State Fault Refusal :=
  s.atPort port fun s => s.whenLive fun s => s.nearTurn port

/-- The deadline of an ARRW across a level-1 route (R369). -/
def execW1ArrwDeadline (port : Nat) (entry : Nat) (s : State) : Host.Outcome State Fault Refusal :=
  if port = 128 ∧ entry < 1024 ∨ s.portBuilt port = true then
    .next (s.whenWalks fun s => s.w1Expiry port entry)
  else .fault .absentPort

/-- A ticket's write is answered (R213). -/
def execTicketRingWriteDone (s : State) : Host.Outcome State Fault Refusal :=
  .next (s.whenLive fun s => s.onWrite [.ticket] State.ticketWritten)

/-- A notify record's write is answered (R331). -/
def execNotifyWriteDone (s : State) : Host.Outcome State Fault Refusal :=
  .next (s.whenLive fun s => s.onWrite [.notify] State.notifyWritten)

/-- A producer mirror's write is answered (R213). -/
def execProducerMirrorWriteDone (s : State) : Host.Outcome State Fault Refusal :=
  .next (s.whenLive fun s => s.onWrite [.mirror] State.mirrorWritten)

/-- A write of the manager is answered with SLVERR or DECERR (R327). -/
def execManagerWriteError (kind : BitVec 2) (resp : BitVec 2) (s : State) : Host.Outcome State Fault Refusal :=
  .next (s.whenLive fun s => if resp.toNat < 2 then s else s.onWrite (mgrKinds kind) fun s w => s.writeError w resp)

/-- The dump of the Folio is answered (R474). -/
def execFolioDumpDone (s : State) : Host.Outcome State Fault Refusal :=
  .next (s.whenLive State.folioDumped)

/-- The writes of an Inventory are answered (R493). -/
def execInventoryDone (partition : Nat) (s : State) : Host.Outcome State Fault Refusal :=
  s.atUnit partition 16 fun s => s.whenLive fun s => s.inventoryDone partition

/-- The affected partitions have drained (R418). -/
def execResliceDrained (s : State) : Host.Outcome State Fault Refusal :=
  .next (s.whenLive State.resliceDrained)

end Sys2Proof.Machine
end

