-- ==== Sys2Proof/Machine/ExecMessages.lean ====
section
/-! DEFINITION. The meanings of the messages between hubs. -/

namespace Sys2Proof.Machine

/-- A message reaches the hub and is forwarded, or waits to be performed (R21). -/
def execMessageForward (port : Nat) (m : Msg) (s : State) : Host.Outcome State Fault Refusal :=
  s.atLink port fun s => s.whenLive fun s => s.arriveMsg port m

/-- A message of a reserved kind is discarded (R346). -/
def execReservedMessageKind (port : Nat) (mkind : BitVec 6) (s : State) : Host.Outcome State Fault Refusal :=
  s.atLink port fun s => s.reservedKind port mkind

/-- CPL (R350). -/
def execCpl (h : MsgHdr) (b : CplBody) (s : State) : Host.Outcome State Fault Refusal :=
  .next (s.messageCommand { hdr := h, body := .cpl b })

/-- FWD_ARRV (R153, R351). -/
def execFwdArrv (h : MsgHdr) (b : FwdBody) (s : State) : Host.Outcome State Fault Refusal :=
  .next (s.messageCommand { hdr := h, body := .fwdArrv b })

/-- LOAN_REQ (R190). -/
def execLoanReq (h : MsgHdr) (b : LoanBody) (s : State) : Host.Outcome State Fault Refusal :=
  .next (s.messageCommand { hdr := h, body := .loan .req b })

/-- An opening LOAN_GRANT (R184). -/
def execLoanGrantOpen (h : MsgHdr) (b : LoanBody) (s : State) : Host.Outcome State Fault Refusal :=
  .next (s.messageCommand { hdr := h, body := .loan .grant { b with opening := true } })

/-- A LOAN_GRANT that tops a ledger entry up (R192). -/
def execLoanGrant (h : MsgHdr) (b : LoanBody) (s : State) : Host.Outcome State Fault Refusal :=
  .next (s.messageCommand { hdr := h, body := .loan .grant { b with opening := false } })

/-- LOAN_RECALL (R194). -/
def execLoanRecall (h : MsgHdr) (b : LoanBody) (s : State) : Host.Outcome State Fault Refusal :=
  .next (s.messageCommand { hdr := h, body := .loan .recall b })

/-- LOAN_RETURN (R196). -/
def execLoanReturn (h : MsgHdr) (b : LoanBody) (s : State) : Host.Outcome State Fault Refusal :=
  .next (s.messageCommand { hdr := h, body := .loan .ret b })

/-- HOLDER_RESET (R243, R244). -/
def execHolderReset (h : MsgHdr) (b : HolderResetBody) (s : State) : Host.Outcome State Fault Refusal :=
  .next (s.messageCommand { hdr := h, body := .holderReset b })

/-- WAITER_PURGE (R280, R281). -/
def execWaiterPurge (h : MsgHdr) (b : WaiterPurgeBody) (s : State) : Host.Outcome State Fault Refusal :=
  .next (s.messageCommand { hdr := h, body := .waiterPurge b })

/-- ROUTE_FENCE (R376). -/
def execRouteFence (h : MsgHdr) (b : FenceBody) (s : State) : Host.Outcome State Fault Refusal :=
  .next (s.messageCommand { hdr := h, body := .routeFence b })

/-- FENCE_ACK (R375). -/
def execFenceAck (h : MsgHdr) (b : FenceBody) (s : State) : Host.Outcome State Fault Refusal :=
  .next (s.messageCommand { hdr := h, body := .fenceAck b })

/-- HOLD_REQ (R479). -/
def execHoldReq (h : MsgHdr) (b : HoldBody) (s : State) : Host.Outcome State Fault Refusal :=
  .next (s.messageCommand { hdr := h, body := .holdCtl .holdReq b })

/-- HOLD_ACK (R479). -/
def execHoldAck (h : MsgHdr) (b : HoldBody) (s : State) : Host.Outcome State Fault Refusal :=
  .next (s.messageCommand { hdr := h, body := .holdCtl .holdAck b })

/-- RESUME_REQ (R479). -/
def execResumeReq (h : MsgHdr) (b : HoldBody) (s : State) : Host.Outcome State Fault Refusal :=
  .next (s.messageCommand { hdr := h, body := .holdCtl .resumeReq b })

/-- RESUME_ACK (R479). -/
def execResumeAck (h : MsgHdr) (b : HoldBody) (s : State) : Host.Outcome State Fault Refusal :=
  .next (s.messageCommand { hdr := h, body := .holdCtl .resumeAck b })

/-- QUERY (R498). -/
def execQuery (h : MsgHdr) (b : StockBody) (s : State) : Host.Outcome State Fault Refusal :=
  .next (s.messageCommand { hdr := h, body := .stocktake .query b })

/-- REPORT (R499). -/
def execReport (h : MsgHdr) (b : StockBody) (s : State) : Host.Outcome State Fault Refusal :=
  .next (s.messageCommand { hdr := h, body := .stocktake .report b })

/-- DECLARE (R500). -/
def execDeclare (h : MsgHdr) (b : StockBody) (s : State) : Host.Outcome State Fault Refusal :=
  .next (s.messageCommand { hdr := h, body := .stocktake .declare b })

/-- SHELF_ARM (R462). -/
def execShelfArm (h : MsgHdr) (b : ShelfBody) (s : State) : Host.Outcome State Fault Refusal :=
  .next (s.messageCommand { hdr := h, body := .shelf .arm b })

/-- SHELF_DONE (R462). -/
def execShelfDone (h : MsgHdr) (b : ShelfBody) (s : State) : Host.Outcome State Fault Refusal :=
  .next (s.messageCommand { hdr := h, body := .shelf .done b })

/-- SHELF_CANCEL (R462). -/
def execShelfCancel (h : MsgHdr) (b : ShelfBody) (s : State) : Host.Outcome State Fault Refusal :=
  .next (s.messageCommand { hdr := h, body := .shelf .cancel b })

/-- RESET_REQ (R413). -/
def execResetReq (h : MsgHdr) (b : PartCtlBody) (s : State) : Host.Outcome State Fault Refusal :=
  .next (s.messageCommand { hdr := h, body := .partCtl .resetReq b })

/-- RESET_DONE (R410). -/
def execResetDone (h : MsgHdr) (b : PartCtlBody) (s : State) : Host.Outcome State Fault Refusal :=
  .next (s.messageCommand { hdr := h, body := .partCtl .resetDone b })

/-- CTX_REQ (R416). -/
def execCtxReq (h : MsgHdr) (b : PartCtlBody) (s : State) : Host.Outcome State Fault Refusal :=
  .next (s.messageCommand { hdr := h, body := .partCtl .ctxReq b })

/-- CTX_DONE (R416). -/
def execCtxDone (h : MsgHdr) (b : PartCtlBody) (s : State) : Host.Outcome State Fault Refusal :=
  .next (s.messageCommand { hdr := h, body := .partCtl .ctxDone b })

/-- FAULT_NOTICE (R437). -/
def execFaultNotice (h : MsgHdr) (b : PartCtlBody) (s : State) : Host.Outcome State Fault Refusal :=
  .next (s.messageCommand { hdr := h, body := .partCtl .faultNotice b })

end Sys2Proof.Machine
end

