-- ==== Sys2Proof/Machine/ExecCatalogue.lean ====
section
/-! DEFINITION. The meanings of the Catalogue's requests and of the MCTP endpoint's commands. -/

namespace Sys2Proof.Machine

/-- A write of PartReset (R410). -/
def execPartReset (h : CatHdr) (v : BitVec 8) (s : State) : Host.Outcome State Fault Refusal :=
  .next (s.entryCommand (.partReset h v) h 0x3010 8 v.toNat)

/-- A write of PartContext (R407). -/
def execPartContext (h : CatHdr) (v : BitVec 64) (s : State) : Host.Outcome State Fault Refusal :=
  .next (s.entryCommand (.partContext h v) h 0x3010 9 v.toNat)

/-- A write of PartQuiesceOverride (R412). -/
def execPartQuiesceOverride (h : CatHdr) (v : BitVec 8) (s : State) : Host.Outcome State Fault Refusal :=
  .next (s.entryCommand (.partQuiesceOverride h v) h 0x3010 13 v.toNat)

/-- A write of ResliceTarget (R418). -/
def execResliceTarget (h : CatHdr) (v : BitVec 8) (s : State) : Host.Outcome State Fault Refusal :=
  .next (s.entryCommand (.resliceTarget h v) h 0x3000 2 v.toNat)

/-- A write of ResliceAbort (R420). -/
def execResliceAbort (h : CatHdr) (v : BitVec 8) (s : State) : Host.Outcome State Fault Refusal :=
  .next (s.entryCommand (.resliceAbort h v) h 0x3000 4 v.toNat)

/-- A write of PortPartition (R395). -/
def execPortPartition (h : CatHdr) (port : Nat) (v : BitVec 8) (s : State) : Host.Outcome State Fault Refusal :=
  .next (s.entryCommand (.portPartition h port v) h (instIndex 0x3100 port 128) 1 v.toNat)

/-- A write of WaiterCancelObject (R284). -/
def execWaiterCancelObject (h : CatHdr) (v : BitVec 32) (s : State) : Host.Outcome State Fault Refusal :=
  .next (s.entryCommand (.waiterCancelObject h v) h 0x2800 1 v.toNat)

/-- A write of WaiterCancelOriginator (R284). -/
def execWaiterCancelOriginator (h : CatHdr) (v : BitVec 32) (s : State) : Host.Outcome State Fault Refusal :=
  .next (s.entryCommand (.waiterCancelOriginator h v) h 0x2800 2 v.toNat)

/-- A write of LoanRecallToken (R203). -/
def execLoanRecallToken (h : CatHdr) (v : BitVec 32) (s : State) : Host.Outcome State Fault Refusal :=
  .next (s.entryCommand (.loanRecallToken h v) h 0x2300 6 v.toNat)

/-- A write of LockClearAbandoned (R245). -/
def execLockClearAbandoned (h : CatHdr) (v : BitVec 32) (s : State) : Host.Outcome State Fault Refusal :=
  .next (s.entryCommand (.lockClearAbandoned h v) h 0x2500 1 v.toNat)

/-- A write of LockGroupMode (R233). -/
def execLockGroupMode (h : CatHdr) (group : Nat) (v : BitVec 8) (s : State) : Host.Outcome State Fault Refusal :=
  .next (s.entryCommand (.lockGroupMode h group v) h (instIndex 0x4000 group 256) 4 v.toNat)

/-- A write of LinkEnable, LinkVersionMin or LinkVersionMax (R366). -/
def execLinkRenegotiate (h : CatHdr) (port : Nat) (sub : BitVec 8) (v : BitVec 8) (s : State) :
    Host.Outcome State Fault Refusal :=
  .next (s.entryCommand (.linkRenegotiate h port sub v) h (instIndex 0x5000 port 16) sub v.toNat)

/-- A write of RouteEntry (R375). -/
def execRouteEntry (h : CatHdr) (v : BitVec 32) (s : State) : Host.Outcome State Fault Refusal :=
  .next (s.entryCommand (.routeEntry h v) h 0x5100 2 v.toNat)

/-- A write of TimeSet (R392). -/
def execTimeSet (h : CatHdr) (v : Time) (s : State) : Host.Outcome State Fault Refusal :=
  .next (s.entryCommand (.timeSet h v) h 0x5200 8 v.toNat)

/-- A write of a ticket ring's base or size (R216). -/
def execTicketRingConfigWrite (h : CatHdr) (ring : Nat) (size : Bool) (v : BitVec 64) (s : State) :
    Host.Outcome State Fault Refusal :=
  .next (s.entryCommand (.ticketRingConfigWrite h ring size v) h (instIndex 0x2400 ring 4) (if size then 2 else 1)
    v.toNat)

/-- A write of a notify ring's base or size (R332). -/
def execNotifyRingConfigWrite (h : CatHdr) (hub : Bool) (size : Bool) (v : BitVec 64) (s : State) :
    Host.Outcome State Fault Refusal :=
  .next (s.entryCommand (.notifyRingConfigWrite h hub size v) h (if hub then 0x2A00 else 0x2900)
    (if size then 2 else 1) v.toNat)

/-- A write of ShelfArm (R460). -/
def execShelfArmEntry (h : CatHdr) (v : BitVec 8) (s : State) : Host.Outcome State Fault Refusal :=
  .next (s.entryCommand (.shelfArmEntry h v) h 0x6020 1 v.toNat)

/-- A write of ShelfCancel (R461). -/
def execShelfCancelEntry (h : CatHdr) (v : BitVec 8) (s : State) : Host.Outcome State Fault Refusal :=
  .next (s.entryCommand (.shelfCancelEntry h v) h 0x6020 5 v.toNat)

/-- A write of 1 to FolioControl (R471). -/
def execFolioArm (h : CatHdr) (s : State) : Host.Outcome State Fault Refusal :=
  .next (s.entryCommand (.folioArm h) h 0x6030 2 1)

/-- A write of 2 to FolioControl (R472). -/
def execFolioTrigger (h : CatHdr) (s : State) : Host.Outcome State Fault Refusal :=
  .next (s.entryCommand (.folioTrigger h) h 0x6030 2 2)

/-- A write of 3 to FolioControl (R471). -/
def execFolioStop (h : CatHdr) (s : State) : Host.Outcome State Fault Refusal :=
  .next (s.entryCommand (.folioStop h) h 0x6030 2 3)

/-- A write of 4 to FolioControl (R471). -/
def execFolioClear (h : CatHdr) (s : State) : Host.Outcome State Fault Refusal :=
  .next (s.entryCommand (.folioClear h) h 0x6030 2 4)

/-- A write of FolioMarker (R469). -/
def execFolioMarker (h : CatHdr) (v : BitVec 64) (s : State) : Host.Outcome State Fault Refusal :=
  .next (s.entryCommand (.folioMarker h v) h 0x6030 10 v.toNat)

/-- A write of InventoryTake (R488). -/
def execInventoryTake (h : CatHdr) (v : BitVec 8) (s : State) : Host.Outcome State Fault Refusal :=
  .next (s.entryCommand (.inventoryTake h v) h 0x6040 3 v.toNat)

/-- A write of PartHold (R479). -/
def execPartHold (h : CatHdr) (v : BitVec 8) (s : State) : Host.Outcome State Fault Refusal :=
  .next (s.entryCommand (.partHold h v) h 0x6050 1 v.toNat)

/-- A write of PartResume (R479). -/
def execPartResume (h : CatHdr) (v : BitVec 8) (s : State) : Host.Outcome State Fault Refusal :=
  .next (s.entryCommand (.partResume h v) h 0x6050 2 v.toNat)

/-- A write of DepositAck (R485). -/
def execDepositAck (h : CatHdr) (v : BitVec 8) (s : State) : Host.Outcome State Fault Refusal :=
  .next (s.entryCommand (.depositAck h v) h 0x6060 10 v.toNat)

/-- A write of DepositFlags (R483). -/
def execDepositFlags (h : CatHdr) (v : BitVec 8) (s : State) : Host.Outcome State Fault Refusal :=
  .next (s.entryCommand (.depositFlags h v) h 0x6060 8 v.toNat)

/-- A write of StocktakeEnable (R502). -/
def execStocktakeEnable (h : CatHdr) (v : BitVec 8) (s : State) : Host.Outcome State Fault Refusal :=
  .next (s.entryCommand (.stocktakeEnable h v) h 0x6070 1 v.toNat)

/-- A write of FaultInjectKind that inverts bits (R453). -/
def execFaultInjectBits (h : CatHdr) (v : BitVec 8) (s : State) : Host.Outcome State Fault Refusal :=
  .next (s.entryCommand (.faultInjectBits h v) h 0x7040 2 v.toNat)

/-- A write of 4 to FaultInjectKind (R453). -/
def execFaultInjectStage (h : CatHdr) (s : State) : Host.Outcome State Fault Refusal :=
  .next (s.entryCommand (.faultInjectStage h) h 0x7040 2 4)

/-- A write of PartJobFaultInject (R453). -/
def execPartJobFaultInject (h : CatHdr) (v : BitVec 8) (s : State) : Host.Outcome State Fault Refusal :=
  .next (s.entryCommand (.partJobFaultInject h v) h 0x7030 4 v.toNat)

/-- A write of ViewSelect (R537). -/
def execViewSelect (h : CatHdr) (window : Nat) (v : BitVec 32) (s : State) : Host.Outcome State Fault Refusal :=
  .next (s.entryCommand (.viewSelect h window v) h (instIndex 0x8000 (0x100 * window) 0x4000) 1 v.toNat)

/-- A write of an event input's binding (R290). -/
def execEvBindingWrite (h : CatHdr) (input : Nat) (sub : BitVec 8) (v : BitVec 32) (s : State) :
    Host.Outcome State Fault Refusal :=
  .next (s.entryCommand (.evBindingWrite h input sub v) h (instIndex 0x2600 input 16) sub v.toNat)

/-- IDENTIFY (R526). -/
def execIdentify (h : CatHdr) (s : State) : Host.Outcome State Fault Refusal :=
  .next (s.identifyCommand (.identify h) h)

/-- DESCRIBE (R527). -/
def execDescribe (h : CatHdr) (index : BitVec 16) (sub : BitVec 8) (s : State) : Host.Outcome State Fault Refusal :=
  .next (s.describeCommand (.describe h index sub) h index sub)

/-- READ (R508). -/
def execCatRead (h : CatHdr) (index : BitVec 16) (sub : BitVec 8) (s : State) : Host.Outcome State Fault Refusal :=
  .next (s.readCommand (.catRead h index sub) h index sub)

/-- WRITE (R507). -/
def execCatWrite (h : CatHdr) (index : BitVec 16) (sub : BitVec 8) (bytes : Nat) (v : BitVec 128) (s : State) :
    Host.Outcome State Fault Refusal :=
  .next (s.writeCommand (.catWrite h index sub bytes v) h index sub bytes v)

/-- READ_SEG (R510). -/
def execReadSeg (h : CatHdr) (index : BitVec 16) (sub : BitVec 8) (offset : BitVec 32) (length : BitVec 16)
    (generation : BitVec 16) (s : State) : Host.Outcome State Fault Refusal :=
  .next (s.readSegCommand (.readSeg h index sub offset length generation) h index sub offset length generation)

/-- NEXT (R515). -/
def execNextEntry (h : CatHdr) (index : BitVec 16) (sub : BitVec 8) (s : State) : Host.Outcome State Fault Refusal :=
  .next (s.nextCommand (.nextEntry h index sub) h index sub)

/-- A write of a consumer index (R215). -/
def execConsumerIndexWrite (via : IndexWriteVia) (ring : RingName) (value : BitVec 32) (s : State) :
    Host.Outcome State Fault Refusal :=
  .next (s.indexCommand (.consumerIndexWrite via ring value) via ring value)

/-- A malformed request (R516). -/
def execCatMalformedRequest (h : CatHdr) (command : BitVec 8) (why : Malformation) (s : State) :
    Host.Outcome State Fault Refusal :=
  .next (s.malformedCommand (.catMalformedRequest h command why) h command)

/-- Set Endpoint ID (R522). -/
def execSetEndpointId (src : BitVec 8) (tag : BitVec 3) (eid : BitVec 8) (s : State) :
    Host.Outcome State Fault Refusal :=
  .next (s.setEid src tag eid)

/-- Get Endpoint ID (R522). -/
def execGetEndpointId (src : BitVec 8) (tag : BitVec 3) (s : State) : Host.Outcome State Fault Refusal :=
  .next (s.getEid src tag)

/-- Get MCTP Version Support (R522). -/
def execGetMctpVersionSupport (src : BitVec 8) (tag : BitVec 3) (msgType : BitVec 8) (s : State) :
    Host.Outcome State Fault Refusal :=
  .next (s.getVersion src tag msgType)

/-- Get Message Type Support (R522). -/
def execGetMessageTypeSupport (src : BitVec 8) (tag : BitVec 3) (s : State) : Host.Outcome State Fault Refusal :=
  .next (s.getTypes src tag)

/-- Get Vendor Defined Message Support (R522). -/
def execGetVendorDefinedMessageSupport (src : BitVec 8) (tag : BitVec 3) (selector : BitVec 8) (s : State) :
    Host.Outcome State Fault Refusal :=
  .next (s.getVendor src tag selector)

/-- Packets are discarded and counted, whatever the reason (R522, R524). -/
def execMctpPacketDiscard (_why : PacketFault) (packets : Nat) (s : State) : Host.Outcome State Fault Refusal :=
  .next (s.discardPackets packets)

end Sys2Proof.Machine
end

