-- ==== Sys2Proof/Machine/Dispatch.lean ====
section
/-! DEFINITION. The meaning of every command: one arm for each row of the operation and event table. -/

namespace Sys2Proof.Machine

def exec (i : Instr) (s : State) : Host.Outcome State Fault Refusal :=
  match i with
  | .sig r => Sys2Proof.Machine.execSig r s
  | .set r => Sys2Proof.Machine.execSet r s
  | .clr r => Sys2Proof.Machine.execClr r s
  | .wait r => Sys2Proof.Machine.execWait r s
  | .take r => Sys2Proof.Machine.execTake r s
  | .tryTake r => Sys2Proof.Machine.execTryTake r s
  | .arrv r => Sys2Proof.Machine.execArrv r s
  | .arrw r => Sys2Proof.Machine.execArrw r s
  | .wrel r => Sys2Proof.Machine.execWrel r s
  | .acq r => Sys2Proof.Machine.execAcq r s
  | .tryAcq r => Sys2Proof.Machine.execTryAcq r s
  | .rel r => Sys2Proof.Machine.execRel r s
  | .frel r => Sys2Proof.Machine.execFrel r s
  | .read r => Sys2Proof.Machine.execRead r s
  | .init r => Sys2Proof.Machine.execInit r s
  | .fadd r => Sys2Proof.Machine.execFadd r s
  | .swap r => Sys2Proof.Machine.execSwap r s
  | .cas r => Sys2Proof.Machine.execCas r s
  | .arm r => Sys2Proof.Machine.execArm r s
  | .disarm r => Sys2Proof.Machine.execDisarm r s
  | .hold r => Sys2Proof.Machine.execHold r s
  | .resume r => Sys2Proof.Machine.execResume r s
  | .park r => Sys2Proof.Machine.execPark r s
  | .unpark r => Sys2Proof.Machine.execUnpark r s
  | .fence r => Sys2Proof.Machine.execFence r s
  | .completionDelivery t => Sys2Proof.Machine.execCompletionDelivery t s
  | .stgInvalAck port => Sys2Proof.Machine.execStgInvalAck port s
  | .relDrainEnd port => Sys2Proof.Machine.execRelDrainEnd port s
  | .responseRead port lane => Sys2Proof.Machine.execResponseRead port lane s
  | .ticketRemove port => Sys2Proof.Machine.execTicketRemove port s
  | .bucketRefill b => Sys2Proof.Machine.execBucketRefill b s
  | .shimSurroundWait port sig => Sys2Proof.Machine.execShimSurroundWait port sig s
  | .coreReset port => Sys2Proof.Machine.execCoreReset port s
  | .registeredBarrierResetCheck port index => Sys2Proof.Machine.execRegisteredBarrierResetCheck port index s
  | .waiterExpiry num => Sys2Proof.Machine.execWaiterExpiry num s
  | .agedWalk => Sys2Proof.Machine.execAgedWalk s
  | .scrubAccess w => Sys2Proof.Machine.execScrubAccess w s
  | .loanRecallDelay index => Sys2Proof.Machine.execLoanRecallDelay index s
  | .loanIdleReturn entry => Sys2Proof.Machine.execLoanIdleReturn entry s
  | .loanLinkLoss hub => Sys2Proof.Machine.execLoanLinkLoss hub s
  | .lockLinkLoss hub => Sys2Proof.Machine.execLockLinkLoss hub s
  | .treeLinkLoss index => Sys2Proof.Machine.execTreeLinkLoss index s
  | .treeGrantUndeliverable index => Sys2Proof.Machine.execTreeGrantUndeliverable index s
  | .routeStrand hub => Sys2Proof.Machine.execRouteStrand hub s
  | .linkHoldExpiry port => Sys2Proof.Machine.execLinkHoldExpiry port s
  | .routeSettle port => Sys2Proof.Machine.execRouteSettle port s
  | .replayTimeout port => Sys2Proof.Machine.execReplayTimeout port s
  | .retryLimit port => Sys2Proof.Machine.execRetryLimit port s
  | .negResend port => Sys2Proof.Machine.execNegResend port s
  | .negotiationTimeout port => Sys2Proof.Machine.execNegotiationTimeout port s
  | .ackCtrlSend port => Sys2Proof.Machine.execAckCtrlSend port s
  | .timeExchange => Sys2Proof.Machine.execTimeExchange s
  | .timeHoldoverLimit => Sys2Proof.Machine.execTimeHoldoverLimit s
  | .stocktakeRound partition => Sys2Proof.Machine.execStocktakeRound partition s
  | .depositHoldLimit partition rule => Sys2Proof.Machine.execDepositHoldLimit partition rule s
  | .apertureStallLimit slot => Sys2Proof.Machine.execApertureStallLimit slot s
  | .stageRestart stage port items testPasses => Sys2Proof.Machine.execStageRestart stage port items testPasses s
  | .stageRetry stage port testPasses => Sys2Proof.Machine.execStageRetry stage port testPasses s
  | .partQuiesceWait partition => Sys2Proof.Machine.execPartQuiesceWait partition s
  | .evInputChange input level => Sys2Proof.Machine.execEvInputChange input level s
  | .evDeferredSig input => Sys2Proof.Machine.execEvDeferredSig input s
  | .evLevelApply input => Sys2Proof.Machine.execEvLevelApply input s
  | .notifyIrqHoldoff ring => Sys2Proof.Machine.execNotifyIrqHoldoff ring s
  | .mctpReassemblyTimeout eid tag => Sys2Proof.Machine.execMctpReassemblyTimeout eid tag s
  | .folioTrigTime => Sys2Proof.Machine.execFolioTrigTime s
  | .shelfTimeLatch partition shelf => Sys2Proof.Machine.execShelfTimeLatch partition shelf s
  | .holdPeerTimeout partition => Sys2Proof.Machine.execHoldPeerTimeout partition s
  | .resetPeerTimeout partition hub => Sys2Proof.Machine.execResetPeerTimeout partition hub s
  | .shelfPeerTimeout partition shelf => Sys2Proof.Machine.execShelfPeerTimeout partition shelf s
  | .hubReset supply => Sys2Proof.Machine.execHubReset supply s
  | .startup device die refSel portsAbsent => Sys2Proof.Machine.execStartup device die refSel portsAbsent s
  | .startupComplete => Sys2Proof.Machine.execStartupComplete s
  | .refclkLoss => Sys2Proof.Machine.execRefclkLoss s
  | .refclkReturn => Sys2Proof.Machine.execRefclkReturn s
  | .phyUp port lanes => Sys2Proof.Machine.execPhyUp port lanes s
  | .phyDown port => Sys2Proof.Machine.execPhyDown port s
  | .partQuiesceAckRise partition => Sys2Proof.Machine.execPartQuiesceAckRise partition s
  | .partQuiesceAckFall partition => Sys2Proof.Machine.execPartQuiesceAckFall partition s
  | .flitReceive port flit bad => Sys2Proof.Machine.execFlitReceive port flit bad s
  | .ctrl port flit bad => Sys2Proof.Machine.execCtrl port flit bad s
  | .neg port flit bad => Sys2Proof.Machine.execNeg port flit bad s
  | .timeReq port flit bad => Sys2Proof.Machine.execTimeReq port flit bad s
  | .timeRsp port flit bad => Sys2Proof.Machine.execTimeRsp port flit bad s
  | .messageForward port m => Sys2Proof.Machine.execMessageForward port m s
  | .cpl h b => Sys2Proof.Machine.execCpl h b s
  | .fwdArrv h b => Sys2Proof.Machine.execFwdArrv h b s
  | .loanReq h b => Sys2Proof.Machine.execLoanReq h b s
  | .loanGrantOpen h b => Sys2Proof.Machine.execLoanGrantOpen h b s
  | .loanGrant h b => Sys2Proof.Machine.execLoanGrant h b s
  | .loanRecall h b => Sys2Proof.Machine.execLoanRecall h b s
  | .loanReturn h b => Sys2Proof.Machine.execLoanReturn h b s
  | .holderReset h b => Sys2Proof.Machine.execHolderReset h b s
  | .waiterPurge h b => Sys2Proof.Machine.execWaiterPurge h b s
  | .routeFence h b => Sys2Proof.Machine.execRouteFence h b s
  | .fenceAck h b => Sys2Proof.Machine.execFenceAck h b s
  | .holdReq h b => Sys2Proof.Machine.execHoldReq h b s
  | .holdAck h b => Sys2Proof.Machine.execHoldAck h b s
  | .resumeReq h b => Sys2Proof.Machine.execResumeReq h b s
  | .resumeAck h b => Sys2Proof.Machine.execResumeAck h b s
  | .query h b => Sys2Proof.Machine.execQuery h b s
  | .report h b => Sys2Proof.Machine.execReport h b s
  | .declare h b => Sys2Proof.Machine.execDeclare h b s
  | .shelfArm h b => Sys2Proof.Machine.execShelfArm h b s
  | .shelfDone h b => Sys2Proof.Machine.execShelfDone h b s
  | .shelfCancel h b => Sys2Proof.Machine.execShelfCancel h b s
  | .resetReq h b => Sys2Proof.Machine.execResetReq h b s
  | .resetDone h b => Sys2Proof.Machine.execResetDone h b s
  | .ctxReq h b => Sys2Proof.Machine.execCtxReq h b s
  | .ctxDone h b => Sys2Proof.Machine.execCtxDone h b s
  | .faultNotice h b => Sys2Proof.Machine.execFaultNotice h b s
  | .templateWrite src word handle data => Sys2Proof.Machine.execTemplateWrite src word handle data s
  | .consumerIndexWrite via ring value => Sys2Proof.Machine.execConsumerIndexWrite via ring value s
  | .ticketRingWriteDone => Sys2Proof.Machine.execTicketRingWriteDone s
  | .notifyWriteDone => Sys2Proof.Machine.execNotifyWriteDone s
  | .managerWriteError kind resp => Sys2Proof.Machine.execManagerWriteError kind resp s
  | .folioDumpDone => Sys2Proof.Machine.execFolioDumpDone s
  | .inventoryDone partition => Sys2Proof.Machine.execInventoryDone partition s
  | .partReset h v => Sys2Proof.Machine.execPartReset h v s
  | .partContext h v => Sys2Proof.Machine.execPartContext h v s
  | .partQuiesceOverride h v => Sys2Proof.Machine.execPartQuiesceOverride h v s
  | .resliceTarget h v => Sys2Proof.Machine.execResliceTarget h v s
  | .resliceDrained => Sys2Proof.Machine.execResliceDrained s
  | .resliceAbort h v => Sys2Proof.Machine.execResliceAbort h v s
  | .portPartition h port v => Sys2Proof.Machine.execPortPartition h port v s
  | .waiterCancelObject h v => Sys2Proof.Machine.execWaiterCancelObject h v s
  | .waiterCancelOriginator h v => Sys2Proof.Machine.execWaiterCancelOriginator h v s
  | .loanRecallToken h v => Sys2Proof.Machine.execLoanRecallToken h v s
  | .lockClearAbandoned h v => Sys2Proof.Machine.execLockClearAbandoned h v s
  | .lockGroupMode h group v => Sys2Proof.Machine.execLockGroupMode h group v s
  | .linkRenegotiate h port sub v => Sys2Proof.Machine.execLinkRenegotiate h port sub v s
  | .routeEntry h v => Sys2Proof.Machine.execRouteEntry h v s
  | .timeSet h v => Sys2Proof.Machine.execTimeSet h v s
  | .ticketRingConfigWrite h ring size v => Sys2Proof.Machine.execTicketRingConfigWrite h ring size v s
  | .notifyRingConfigWrite h hub size v => Sys2Proof.Machine.execNotifyRingConfigWrite h hub size v s
  | .shelfArmEntry h v => Sys2Proof.Machine.execShelfArmEntry h v s
  | .shelfCancelEntry h v => Sys2Proof.Machine.execShelfCancelEntry h v s
  | .folioArm h => Sys2Proof.Machine.execFolioArm h s
  | .folioTrigger h => Sys2Proof.Machine.execFolioTrigger h s
  | .folioStop h => Sys2Proof.Machine.execFolioStop h s
  | .folioClear h => Sys2Proof.Machine.execFolioClear h s
  | .folioMarker h v => Sys2Proof.Machine.execFolioMarker h v s
  | .inventoryTake h v => Sys2Proof.Machine.execInventoryTake h v s
  | .partHold h v => Sys2Proof.Machine.execPartHold h v s
  | .partResume h v => Sys2Proof.Machine.execPartResume h v s
  | .depositAck h v => Sys2Proof.Machine.execDepositAck h v s
  | .depositFlags h v => Sys2Proof.Machine.execDepositFlags h v s
  | .stocktakeEnable h v => Sys2Proof.Machine.execStocktakeEnable h v s
  | .faultInjectBits h v => Sys2Proof.Machine.execFaultInjectBits h v s
  | .faultInjectStage h => Sys2Proof.Machine.execFaultInjectStage h s
  | .partJobFaultInject h v => Sys2Proof.Machine.execPartJobFaultInject h v s
  | .viewSelect h window v => Sys2Proof.Machine.execViewSelect h window v s
  | .evBindingWrite h input sub v => Sys2Proof.Machine.execEvBindingWrite h input sub v s
  | .identify h => Sys2Proof.Machine.execIdentify h s
  | .describe h index sub => Sys2Proof.Machine.execDescribe h index sub s
  | .catRead h index sub => Sys2Proof.Machine.execCatRead h index sub s
  | .catWrite h index sub bytes v => Sys2Proof.Machine.execCatWrite h index sub bytes v s
  | .readSeg h index sub offset length generation => Sys2Proof.Machine.execReadSeg h index sub offset length generation s
  | .nextEntry h index sub => Sys2Proof.Machine.execNextEntry h index sub s
  | .setEndpointId src tag eid => Sys2Proof.Machine.execSetEndpointId src tag eid s
  | .getEndpointId src tag => Sys2Proof.Machine.execGetEndpointId src tag s
  | .getMctpVersionSupport src tag msgType => Sys2Proof.Machine.execGetMctpVersionSupport src tag msgType s
  | .getMessageTypeSupport src tag => Sys2Proof.Machine.execGetMessageTypeSupport src tag s
  | .getVendorDefinedMessageSupport src tag selector => Sys2Proof.Machine.execGetVendorDefinedMessageSupport src tag selector s
  | .coreResetRelease port => Sys2Proof.Machine.execCoreResetRelease port s
  | .nearParityCheck port => Sys2Proof.Machine.execNearParityCheck port s
  | .w1ArrwDeadline port entry => Sys2Proof.Machine.execW1ArrwDeadline port entry s
  | .producerMirrorWriteDone => Sys2Proof.Machine.execProducerMirrorWriteDone s
  | .idleFlit port flit bad => Sys2Proof.Machine.execIdleFlit port flit bad s
  | .unlistedOpcode opcode r => Sys2Proof.Machine.execUnlistedOpcode opcode r s
  | .apertureRefused area why isRead => Sys2Proof.Machine.execApertureRefused area why isRead s
  | .reservedMessageKind port mkind => Sys2Proof.Machine.execReservedMessageKind port mkind s
  | .mctpPacketDiscard why packets => Sys2Proof.Machine.execMctpPacketDiscard why packets s
  | .catMalformedRequest h command why => Sys2Proof.Machine.execCatMalformedRequest h command why s

end Sys2Proof.Machine
end

