-- ==== Sys2Proof/Machine/Step.lean ====
section
/-! DEFINITION. One step of the hub: the command at the front of its queue, or, on an empty queue, one thing that the hub
does of itself (DESIGN CHOICE, log entry 32). -/

namespace Sys2Proof.Machine

/-- The requests of a principal wait on behind the one that is performed. -/
def requeue (xs : List (Principal × Instr)) (o : Host.Outcome State Fault Refusal) : Host.Outcome State Fault Refusal :=
  match o with
  | .next s => .next { s with catHeld := s.catHeld ++ xs }
  | r => r

/-- What the hub does of itself: the oldest message that it has received is performed; with none, a Catalogue request whose
turn has come (R517); with none, one edge of tb_refclk passes (R556). -/
def idle (s : State) : Host.Outcome State Fault Refusal :=
  match s.inbox with
  | x :: xs => .next (({ s with inbox := xs } : State).performMsg x)
  | [] =>
    match s.nextHeld with
    | some x => requeue (s.heldBehind x.1) (exec x.2 (s.takeHeld x.1))
    | none => .next s.tickOnce

/-- One step. -/
def step (s : State) : Host.Outcome State Fault Refusal :=
  match s.pending with
  | c :: cs => exec c { s with pending := cs }
  | [] => idle s

/-- The state with the command that a word spells put in front of its queue. -/
def State.withFetchWord (s : State) (nbits w : Nat) : State :=
  match Sys2Proof.decodeTableWord nbits w with
  | some c => { s with pending := c :: s.pending }
  | none => s

end Sys2Proof.Machine
end

