-- ==== Sys2Proof/WellFormed.lean ====
section
/-! DEFINITION. Which commands are well formed: every number in a command lies in the range that the manual gives it. One check
for each kind of number. A build may have less (R7, R8); that is for the machine to see. -/

namespace Sys2Proof

/-- Port numbers (R24), lanes (R297) and issue slots (R317). -/
def portOk (p : Nat) : Bool := decide (p < 128)
def laneOk (l : Nat) : Bool := decide (l ≤ 8)
def slotOk (g : Nat) : Bool := decide (g < 1024)

/-- Port codes of links (R372). -/
def linkOk (c : Nat) : Bool := decide (c < 4) || decide (8 ≤ c ∧ c < 16)

/-- Partition numbers (R394), records (R38), loan entries (R178), inputs (R285), rings with the hub's as 16 (R331). -/
def partOk (p : Nat) : Bool := decide (p < 16)
def recordOk (i : Nat) : Bool := decide (i < 131072)
def loanOk (i : Nat) : Bool := decide (i < 4096)
def inputOk (i : Nat) : Bool := decide (i < 16)
def ringOk (r : Nat) : Bool := decide (r ≤ 16)

/-- Words of the protected stores (R425). -/
def wordOk : StoreWord → Bool
  | .object i => recordOk i
  | .waiter i => recordOk i
  | .lender i => loanOk i
  | .ledger i => loanOk i
  | .heldLock i => decide (i < 8192)
  | .ticket i => decide (i < 2048)
  | .config i => decide (i < 24576)

/-- Stages (R441), with the link of a link layer. -/
def stageOk (stage port : Nat) : Bool := decide (stage < 30) || (decide (stage < 32) && linkOk port)

/-- The entries of LINK_RENEGOTIATE (R366) and EV_BINDING_WRITE (R290). -/
def negSubOk (sub : BitVec 8) : Bool := decide (1 ≤ sub.toNat ∧ sub.toNat ≤ 3)
def evSubOk (sub : BitVec 8) : Bool := decide (2 ≤ sub.toNat ∧ sub.toNat ≤ 5)

/-- Where an op comes from. -/
def sourceOk : OpSource → Bool
  | .core p l _ => portOk p && laneOk l
  | .aperture g _ => slotOk g
  | .link c _ _ => linkOk c

def templateOk : TemplateSource → Bool
  | .slot g _ => slotOk g
  | .link c _ _ => linkOk c

def bucketOk : BucketId → Bool
  | .engine p e => portOk p && decide (e < 8)
  | .slot g => slotOk g

def targetOk : RspTarget → Bool
  | .port p => portOk p
  | .aperture => true

def areaOk : ApertureArea → Bool
  | .slot g => slotOk g
  | .block p => partOk p
  | .reserved => true

def viaOk : IndexWriteVia → Bool
  | .cat _ => true
  | .block p => partOk p

def ringNameOk : RingName → Bool
  | .ticket k => decide (k < 4)
  | _ => true

/-- A message kind that the table of R346 reserves. -/
def mkindReserved (k : BitVec 6) : Bool := decide (k = 0) || decide (12 < k.toNat)

/-- An opcode that the table of R94 does not list. -/
def opcodeUnlisted (c : BitVec 6) : Bool :=
  !([1, 2, 3, 4, 5, 6, 8, 9, 10, 16, 17, 18, 19, 24, 25, 28, 29, 30, 32, 33, 40, 41, 48, 49, 63].contains c.toNat)

/-- Whether a command is well formed. -/
def Instr.wellFormed : Instr → Bool
  | .sig r | .set r | .clr r | .wait r | .take r | .tryTake r | .arrv r | .arrw r | .wrel r | .acq r | .tryAcq r | .rel r
  | .frel r | .read r | .init r | .fadd r | .swap r | .cas r | .arm r | .disarm r | .hold r | .resume r | .park r
  | .unpark r | .fence r => sourceOk r.src
  | .unlistedOpcode c r => opcodeUnlisted c && sourceOk r.src
  | .completionDelivery t => targetOk t
  | .stgInvalAck p | .relDrainEnd p | .ticketRemove p | .shimSurroundWait p _ | .coreReset p | .coreResetRelease p
  | .nearParityCheck p => portOk p
  | .responseRead p l => portOk p && laneOk l
  | .bucketRefill b => bucketOk b
  | .registeredBarrierResetCheck p i => portOk p && recordOk i
  | .waiterExpiry n => recordOk n
  | .scrubAccess w => wordOk w
  | .loanRecallDelay i | .treeLinkLoss i | .treeGrantUndeliverable i => recordOk i
  | .loanIdleReturn e => loanOk e
  | .linkHoldExpiry c | .routeSettle c | .replayTimeout c | .retryLimit c | .negResend c | .negotiationTimeout c
  | .ackCtrlSend c | .phyUp c _ | .phyDown c | .flitReceive c _ _ | .ctrl c _ _ | .neg c _ _ | .timeReq c _ _
  | .timeRsp c _ _ | .idleFlit c _ _ | .messageForward c _ => linkOk c
  | .reservedMessageKind c k => linkOk c && mkindReserved k
  | .stocktakeRound p | .partQuiesceWait p | .holdPeerTimeout p | .resetPeerTimeout p _ | .partQuiesceAckRise p
  | .partQuiesceAckFall p | .inventoryDone p => partOk p
  | .depositHoldLimit p k => partOk p && decide (k < 8)
  | .shelfTimeLatch p k | .shelfPeerTimeout p k => partOk p && decide (k < 2)
  | .apertureStallLimit g => slotOk g
  | .stageRestart st c _ _ | .stageRetry st c _ => stageOk st c
  | .evInputChange i _ | .evDeferredSig i | .evLevelApply i => inputOk i
  | .notifyIrqHoldoff r => ringOk r
  | .w1ArrwDeadline q n => portOk q || (decide (q = 128) && slotOk n)
  | .templateWrite src _ _ _ => templateOk src
  | .consumerIndexWrite via r _ => viaOk via && ringNameOk r
  | .apertureRefused a _ _ => areaOk a
  | .portPartition _ p _ => portOk p
  | .lockGroupMode _ g _ => decide (g < 256)
  | .linkRenegotiate _ c sub _ => linkOk c && negSubOk sub
  | .ticketRingConfigWrite _ k _ _ => decide (k < 4)
  | .viewSelect _ w _ => decide (w < 64)
  | .evBindingWrite _ i sub _ => inputOk i && evSubOk sub
  | .agedWalk | .loanLinkLoss _ | .lockLinkLoss _ | .routeStrand _ | .timeExchange | .timeHoldoverLimit
  | .mctpReassemblyTimeout _ _ | .folioTrigTime | .hubReset _ | .startup _ _ _ _ | .startupComplete | .refclkLoss
  | .refclkReturn | .cpl _ _ | .fwdArrv _ _ | .loanReq _ _ | .loanGrantOpen _ _ | .loanGrant _ _ | .loanRecall _ _
  | .loanReturn _ _ | .holderReset _ _ | .waiterPurge _ _ | .routeFence _ _ | .fenceAck _ _ | .holdReq _ _ | .holdAck _ _
  | .resumeReq _ _ | .resumeAck _ _ | .query _ _ | .report _ _ | .declare _ _ | .shelfArm _ _ | .shelfDone _ _
  | .shelfCancel _ _ | .resetReq _ _ | .resetDone _ _ | .ctxReq _ _ | .ctxDone _ _ | .faultNotice _ _
  | .ticketRingWriteDone | .notifyWriteDone | .producerMirrorWriteDone | .managerWriteError _ _ | .folioDumpDone
  | .partReset _ _ | .partContext _ _ | .partQuiesceOverride _ _ | .resliceTarget _ _ | .resliceDrained
  | .resliceAbort _ _ | .waiterCancelObject _ _ | .waiterCancelOriginator _ _ | .loanRecallToken _ _
  | .lockClearAbandoned _ _ | .routeEntry _ _ | .timeSet _ _ | .notifyRingConfigWrite _ _ _ _ | .shelfArmEntry _ _
  | .shelfCancelEntry _ _ | .folioArm _ | .folioTrigger _ | .folioStop _ | .folioClear _ | .folioMarker _ _
  | .inventoryTake _ _ | .partHold _ _ | .partResume _ _ | .depositAck _ _ | .depositFlags _ _ | .stocktakeEnable _ _
  | .faultInjectBits _ _ | .faultInjectStage _ | .partJobFaultInject _ _ | .identify _ | .describe _ _ _
  | .catRead _ _ _ | .catWrite _ _ _ _ _ | .readSeg _ _ _ _ _ _ | .nextEntry _ _ _ | .setEndpointId _ _ _
  | .getEndpointId _ _ | .getMctpVersionSupport _ _ _ | .getMessageTypeSupport _ _
  | .getVendorDefinedMessageSupport _ _ _ | .mctpPacketDiscard _ _ | .catMalformedRequest _ _ _ => true

end Sys2Proof
end

