-- ==== Sys2Proof/Safety.lean ====
section
/-! DEFINITION. What the statements mean by a sound state, by a command that completes, and by two states that agree on
every field but those named. -/

namespace Sys2Proof

/-- A body whose unsent fields are zero: a Stocktake message other than a REPORT has no counts, and of the PART_CTL
messages only RESET_REQ and CTX_REQ have a context and a start time (R416, R497). -/
def Payload.onlySent : Payload → Prop
  | .stocktake .report _ => True
  | .stocktake _ b => b.sent = 0 ∧ b.recv = 0 ∧ b.act = 0
  | .partCtl .resetReq _ => True
  | .partCtl .ctxReq _ => True
  | .partCtl _ b => b.context = 0 ∧ b.startTime = 0
  | _ => True

end Sys2Proof

namespace Sys2Proof.Machine

/-- A command completes: it takes the hub to a next state, neither to a fault nor to a refusal. -/
def Completes (i : Instr) (s : State) : Prop := ∃ t, exec i s = .next t

/-- Every sparse store is in its canonical form: its keys rise, and it lists nothing that an unlisted key reads as. -/
def State.storesWf (s : State) : Bool :=
  s.objs.wf objNone && (s.wideBits.wf wideNone && (s.ports.wf portNone && (s.slots.wf slotNone &&
  (s.notify.wf ringNone && (s.cat.wf catNone && (s.devMap.wf devDefault && (s.routes.wf routeNone &&
  (s.links.wf linkNone && (s.lostSince.wf timeNone && (s.evs.wf evNone && (s.views.wf viewNone &&
  (s.parts.wf partNone && s.stageFails.wf natNone))))))))))))

/-- The timebase runs exactly while the hub is out of reset (R549), and its place in the increments of R556 is one of the
five. -/
def State.clockInv (s : State) : Prop := (s.running = true ↔ s.phase ≠ .inReset) ∧ s.tick < 5

/-- The fields of `State`. -/
inductive Field where
  | pending | phase | build | device | die | refSel | time | tick | running | refLost | sync | partCount
  | parts | reslice | objs | wideBits | waiters | lenders | ledgers | loanSeq | ports | slots | rets
  | buffered | mgr | notify | cat | devMap | routes | links | inbox | waitMsgs | changes | settles | fenceNum
  | lostSince | evs | folio | views | catOpen | catHeld | apb | eid | flips | stuck | stageFails | stageOut
  | scrubStart | out | free | clock
deriving DecidableEq, Repr

/-- The place of a field in a mask. -/
def Field.bit : Field → Nat
  | .pending => 0 | .phase => 1 | .build => 2 | .device => 3 | .die => 4 | .refSel => 5 | .time => 6 | .tick => 7
  | .running => 8 | .refLost => 9 | .sync => 10 | .partCount => 11 | .parts => 12 | .reslice => 13 | .objs => 14
  | .wideBits => 15 | .waiters => 16 | .lenders => 17 | .ledgers => 18 | .loanSeq => 19 | .ports => 20 | .slots => 21
  | .rets => 22 | .buffered => 23 | .mgr => 24 | .notify => 25 | .cat => 26 | .devMap => 27 | .routes => 28
  | .links => 29 | .inbox => 30 | .waitMsgs => 31 | .changes => 32 | .settles => 33 | .fenceNum => 34
  | .lostSince => 35 | .evs => 36 | .folio => 37 | .views => 38 | .catOpen => 39 | .catHeld => 40 | .apb => 41
  | .eid => 42 | .flips => 43 | .stuck => 44 | .stageFails => 45 | .stageOut => 46 | .scrubStart => 47 | .out => 48
  | .free => 49 | .clock => 50

/-- The mask of a list of fields. -/
def fieldMask (fs : List Field) : Nat := fs.foldr (fun f m => 2 ^ f.bit ||| m) 0

/-- The state with the fields of a mask blotted out. -/
def State.wipe (m : Nat) (s : State) : State where
  pending := bif m.testBit 0 then State.reset.pending else s.pending
  phase := bif m.testBit 1 then State.reset.phase else s.phase
  build := bif m.testBit 2 then State.reset.build else s.build
  device := bif m.testBit 3 then State.reset.device else s.device
  die := bif m.testBit 4 then State.reset.die else s.die
  refSel := bif m.testBit 5 then State.reset.refSel else s.refSel
  time := bif m.testBit 6 then State.reset.time else s.time
  tick := bif m.testBit 7 then State.reset.tick else s.tick
  running := bif m.testBit 8 then State.reset.running else s.running
  refLost := bif m.testBit 9 then State.reset.refLost else s.refLost
  sync := bif m.testBit 10 then State.reset.sync else s.sync
  partCount := bif m.testBit 11 then State.reset.partCount else s.partCount
  parts := bif m.testBit 12 then State.reset.parts else s.parts
  reslice := bif m.testBit 13 then State.reset.reslice else s.reslice
  objs := bif m.testBit 14 then State.reset.objs else s.objs
  wideBits := bif m.testBit 15 then State.reset.wideBits else s.wideBits
  waiters := bif m.testBit 16 then State.reset.waiters else s.waiters
  lenders := bif m.testBit 17 then State.reset.lenders else s.lenders
  ledgers := bif m.testBit 18 then State.reset.ledgers else s.ledgers
  loanSeq := bif m.testBit 19 then State.reset.loanSeq else s.loanSeq
  ports := bif m.testBit 20 then State.reset.ports else s.ports
  slots := bif m.testBit 21 then State.reset.slots else s.slots
  rets := bif m.testBit 22 then State.reset.rets else s.rets
  buffered := bif m.testBit 23 then State.reset.buffered else s.buffered
  mgr := bif m.testBit 24 then State.reset.mgr else s.mgr
  notify := bif m.testBit 25 then State.reset.notify else s.notify
  cat := bif m.testBit 26 then State.reset.cat else s.cat
  devMap := bif m.testBit 27 then State.reset.devMap else s.devMap
  routes := bif m.testBit 28 then State.reset.routes else s.routes
  links := bif m.testBit 29 then State.reset.links else s.links
  inbox := bif m.testBit 30 then State.reset.inbox else s.inbox
  waitMsgs := bif m.testBit 31 then State.reset.waitMsgs else s.waitMsgs
  changes := bif m.testBit 32 then State.reset.changes else s.changes
  settles := bif m.testBit 33 then State.reset.settles else s.settles
  fenceNum := bif m.testBit 34 then State.reset.fenceNum else s.fenceNum
  lostSince := bif m.testBit 35 then State.reset.lostSince else s.lostSince
  evs := bif m.testBit 36 then State.reset.evs else s.evs
  folio := bif m.testBit 37 then State.reset.folio else s.folio
  views := bif m.testBit 38 then State.reset.views else s.views
  catOpen := bif m.testBit 39 then State.reset.catOpen else s.catOpen
  catHeld := bif m.testBit 40 then State.reset.catHeld else s.catHeld
  apb := bif m.testBit 41 then State.reset.apb else s.apb
  eid := bif m.testBit 42 then State.reset.eid else s.eid
  flips := bif m.testBit 43 then State.reset.flips else s.flips
  stuck := bif m.testBit 44 then State.reset.stuck else s.stuck
  stageFails := bif m.testBit 45 then State.reset.stageFails else s.stageFails
  stageOut := bif m.testBit 46 then State.reset.stageOut else s.stageOut
  scrubStart := bif m.testBit 47 then State.reset.scrubStart else s.scrubStart
  out := bif m.testBit 48 then State.reset.out else s.out
  free := bif m.testBit 49 then State.reset.free else s.free
  clock := bif m.testBit 50 then State.reset.clock else s.clock

/-- Two states agree on every field but those named. -/
def SameBut (fs : List Field) (s t : State) : Prop := s.wipe (fieldMask fs) = t.wipe (fieldMask fs)

/-! ### Units that a hub does not have -/

/-- The stop of a command that names an absent unit. -/
def stopIf (present : Bool) (f : Fault) : Option Fault := if present then none else some f

/-- The stop of a command of an issuer that is not there. -/
def State.absentSource (s : State) : OpSource → Option Fault
  | .core p l _ => stopIf (s.portBuilt p && s.laneBuilt l) .absentPort
  | .aperture g _ => stopIf (decide (g < 1024)) .absentUnit
  | .link c _ _ => stopIf (s.linkBuilt c) .absentLink

/-- What stops a command: a unit that it names and the hub does not have (R8, R24, R297, R317, R372, R394, R425, R441). -/
def stopOf (i : Instr) (s : State) : Option Fault :=
  match i with
  | .sig r | .set r | .clr r | .wait r | .take r | .tryTake r | .arrv r | .arrw r | .wrel r | .acq r | .tryAcq r | .rel r
  | .frel r | .read r | .init r | .fadd r | .swap r | .cas r | .arm r | .disarm r | .hold r | .resume r | .park r
  | .unpark r | .fence r | .unlistedOpcode _ r => s.absentSource r.src
  | .templateWrite (.slot g _) _ _ _ => stopIf (decide (g < 1024)) .absentUnit
  | .templateWrite (.link c _ _) _ _ _ => stopIf (s.linkBuilt c) .absentLink
  | .completionDelivery (.port p) => stopIf (s.portBuilt p) .absentPort
  | .stgInvalAck p | .relDrainEnd p | .responseRead p _ | .ticketRemove p | .shimSurroundWait p _ | .coreReset p
  | .coreResetRelease p | .nearParityCheck p | .registeredBarrierResetCheck p _ => stopIf (s.portBuilt p) .absentPort
  | .w1ArrwDeadline q n => stopIf (decide (q = 128 ∧ n < 1024) || s.portBuilt q) .absentPort
  | .linkHoldExpiry c | .routeSettle c | .replayTimeout c | .retryLimit c | .negResend c | .negotiationTimeout c
  | .ackCtrlSend c | .phyUp c _ | .phyDown c | .flitReceive c _ _ | .ctrl c _ _ | .neg c _ _ | .timeReq c _ _
  | .timeRsp c _ _ | .idleFlit c _ _ | .messageForward c _ | .reservedMessageKind c _ => stopIf (s.linkBuilt c) .absentLink
  | .bucketRefill (.engine p e) => stopIf (s.portBuilt p && decide (e < s.build.engines)) .absentUnit
  | .bucketRefill (.slot g) => stopIf (decide (g < 1024)) .absentUnit
  | .waiterExpiry n | .loanRecallDelay n | .treeLinkLoss n | .treeGrantUndeliverable n =>
    stopIf (decide (n < 131072)) .absentUnit
  | .scrubAccess w => stopIf (wordOk w) .absentUnit
  | .loanIdleReturn e => stopIf (decide (e < 4096)) .absentUnit
  | .stocktakeRound p | .partQuiesceWait p | .holdPeerTimeout p | .resetPeerTimeout p _ | .partQuiesceAckRise p
  | .partQuiesceAckFall p | .inventoryDone p | .evInputChange p _ | .evDeferredSig p | .evLevelApply p =>
    stopIf (decide (p < 16)) .absentUnit
  | .depositHoldLimit p k => stopIf (decide (p < 16 ∧ k < 8)) .absentUnit
  | .shelfTimeLatch p k | .shelfPeerTimeout p k => stopIf (decide (p < 16 ∧ k < 2)) .absentUnit
  | .apertureStallLimit g => stopIf (decide (g < 1024)) .absentUnit
  | .notifyIrqHoldoff r => stopIf (decide (r < 17)) .absentUnit
  | .stageRestart st c _ _ | .stageRetry st c _ => stopIf (s.stageThere st c) .absentUnit
  | .apertureRefused a _ _ => stopIf (areaOk a) .absentUnit
  | .completionDelivery .aperture | .agedWalk | .loanLinkLoss _ | .lockLinkLoss _ | .routeStrand _ | .timeExchange
  | .timeHoldoverLimit
  | .mctpReassemblyTimeout _ _ | .folioTrigTime | .hubReset _ | .startup _ _ _ _ | .startupComplete | .refclkLoss
  | .refclkReturn | .cpl _ _ | .fwdArrv _ _ | .loanReq _ _ | .loanGrantOpen _ _ | .loanGrant _ _ | .loanRecall _ _
  | .loanReturn _ _ | .holderReset _ _ | .waiterPurge _ _ | .routeFence _ _ | .fenceAck _ _ | .holdReq _ _ | .holdAck _ _
  | .resumeReq _ _ | .resumeAck _ _ | .query _ _ | .report _ _ | .declare _ _ | .shelfArm _ _ | .shelfDone _ _
  | .shelfCancel _ _ | .resetReq _ _ | .resetDone _ _ | .ctxReq _ _ | .ctxDone _ _ | .faultNotice _ _
  | .ticketRingWriteDone | .notifyWriteDone | .producerMirrorWriteDone | .managerWriteError _ _ | .folioDumpDone
  | .consumerIndexWrite _ _ _ | .portPartition _ _ _ | .lockGroupMode _ _ _ | .linkRenegotiate _ _ _ _
  | .ticketRingConfigWrite _ _ _ _ | .viewSelect _ _ _ | .evBindingWrite _ _ _ _
  | .partReset _ _ | .partContext _ _ | .partQuiesceOverride _ _ | .resliceTarget _ _ | .resliceDrained
  | .resliceAbort _ _ | .waiterCancelObject _ _ | .waiterCancelOriginator _ _ | .loanRecallToken _ _
  | .lockClearAbandoned _ _ | .routeEntry _ _ | .timeSet _ _ | .notifyRingConfigWrite _ _ _ _ | .shelfArmEntry _ _
  | .shelfCancelEntry _ _ | .folioArm _ | .folioTrigger _ | .folioStop _ | .folioClear _ | .folioMarker _ _
  | .inventoryTake _ _ | .partHold _ _ | .partResume _ _ | .depositAck _ _ | .depositFlags _ _ | .stocktakeEnable _ _
  | .faultInjectBits _ _ | .faultInjectStage _ | .partJobFaultInject _ _ | .identify _ | .describe _ _ _
  | .catRead _ _ _ | .catWrite _ _ _ _ _ | .readSeg _ _ _ _ _ _ | .nextEntry _ _ _ | .setEndpointId _ _ _
  | .getEndpointId _ _ | .getMctpVersionSupport _ _ _ | .getMessageTypeSupport _ _
  | .getVendorDefinedMessageSupport _ _ _ | .mctpPacketDiscard _ _ | .catMalformedRequest _ _ _ => none

end Sys2Proof.Machine
end

