-- ==== Sys2Proof/Path.lean ====
section
/-! DEFINITION. The words in which the statements speak of an op: the way from its lane to its home at the same hub
(R91 to R105, R222, R255, R266, R292), and the response that its home sends (R99 to R103). -/

namespace Sys2Proof.Machine

/-- The op word that a lane presents to its shim now, by its opcode field. -/
def State.laneOp (s : State) (lane : Nat) (ctx : BitVec 8) (code : BitVec 6) (op : OpFields) : ShimOp :=
  { lane := lane, opcode := code, op := op, context := ctx, since := s.clock }

/-- The op that a lane presents to its shim now. -/
def State.presented (s : State) (lane : Nat) (ctx : BitVec 8) (c : Opcode) (op : OpFields) : ShimOp :=
  s.laneOp lane ctx (opCode c) op

/-- An op that a lane of a Core Sync Port presents (R91, R297). -/
def coreReq (p lane : Nat) (ctx : BitVec 8) (op : OpFields) : OpReq := { src := .core p lane ctx, op := op }

/-- The shim takes an op at once: no op of its lane waits before it, and nothing of R299 or R126 keeps it. -/
def State.takesNow (s : State) (p : Nat) (h : ShimOp) : Prop :=
  s.portBuilt p = true ∧ s.laneBuilt h.lane = true ∧ ((s.port p).issue.any fun q => q.lane = h.lane) = false ∧
  s.issueHold p h = .free

/-- An op passes check 1 of R105, and it is no release and no near op, so that its shim sends it on at once (R93, R126). -/
def ShimOp.goesOn (h : ShimOp) (c : Opcode) : Prop :=
  opcodeOf h.opcode = some c ∧ h.check = none ∧ h.op.flags.rel = false ∧ h.op.flags.near = false

/-- The hub and the op once the op has left its shim: its pending entry and its storm token are taken, and it carries its
stamp and its partition (R255, R266, R292). -/
def State.leaves (s : State) (p : Nat) (h : ShimOp) : State × HomeOp :=
  let r := s.takeEntry p h
  let s1 := r.1.spendLane p h.lane
  (s1, s1.portOp p r.2)

/-- An op passes checks 1 to 8 of R105, and this hub is its home; `a` is the op with its absolute handle. Checks 2, 3, 5, 7
and 8 are those of the model's own functions of the same state. -/
def State.passes (s : State) (p : Nat) (h : ShimOp) (c : Opcode) (a : HomeOp) : Prop :=
  s.takesNow p h ∧ h.goesOn c ∧ opService c = false ∧ s.portGate p h.opcode = none ∧
  (s.leaves p h).1.entryOut (s.leaves p h).2 = false ∧ (s.leaves p h).1.absolute (s.leaves p h).2 = some a ∧
  handleHub a.op.handle = s.hub ∧ s.bankOut a.index = false ∧ s.flips = [] ∧ s.homeGate a = none ∧
  s.objFaulted a.index = false ∧ s.isBody a.index = false

/-- An op passes every check of R105 up to its home's own rule for it, here: the held-lock table takes an ACQ or TRYACQ
(R222), no ledger entry serves it (R185), and its opcode applies to the object's type (R94). -/
def State.reaches (s : State) (p : Nat) (h : ShimOp) (c : Opcode) (a : HomeOp) : Prop :=
  s.passes p h c a ∧ (codeAcquires h.opcode = true → (s.port a.port).lockRefused a.op.handle a.engine = false) ∧
  s.lendingFor a = none ∧ (c = .init ∨ opApplies c (s.obj a.index).otype = true)

/-- What the held-lock table of its port does with an op on its way (R222, R223). -/
def State.lockStep (s : State) (a : HomeOp) : State :=
  if codeAcquires a.opcode then s.modPort a.port fun x => x.addLock a.op.handle a.engine a.entry
  else if a.opcode = opCode .rel then s.modPort a.port fun x => x.dropLock a.op.handle a.engine
  else s

/-- The hub as the home of an op finds it: the op has left its shim, and what the shim keeps of it is noted. -/
def State.sent (s : State) (p : Nat) (h : ShimOp) (a : HomeOp) : State :=
  ((s.leaves p h).1.lockStep a).noteHere a

/-- The response of an op that a shim waits for, as its home sends it (R99, R100). -/
def HomeOp.ret (a : HomeOp) (st : Status) (result : Nat) (v : BitVec 64) : Ret where
  target := .port a.port
  sel := getFld a.originator 0 10
  retref := a.retref
  word := respWord st a.op.tag result
  value := valueBeat a.opcode st v

/-- The responses of an op: one, unless it was posted (R119). -/
def HomeOp.rets (a : HomeOp) (st : Status) (result : Nat) (v : BitVec 64) : List Ret :=
  if a.op.flags.noresp then [] else [a.ret st result v]

/-- A record with the last_orig and last_time of an op that has written it (R38). -/
def ObjRec.wrote (r : ObjRec) (o : Originator) (t : Time) : ObjRec := { r with lastOrig := o, lastTime := t.low22 }

/-- A record with another word 0. -/
def ObjRec.word (r : ObjRec) (w : BitVec 64) : ObjRec := { r with word0 := w }

/-- The fields of what the hub notes, counts and reports beside an effect: the manager's writes, the notify rings, the
Catalogue's counters, the Folio, and the model's own count of free values. -/
def noteFields : List Field := [.mgr, .notify, .cat, .folio, .free]

/-- An op of a lane is over at its home: the object store, the response, the shim's port as the op left it, and nothing
else but the hub's notes. -/
def OpDone (s t : State) (p : Nat) (h : ShimOp) (a : HomeOp) (objs : Sparse ObjRec) (st : Status) (result : Nat)
    (v : BitVec 64) : Prop :=
  t.objs = objs ∧ t.rets = s.rets ++ a.rets st result v ∧ t.ports = (s.sent p h a).ports ∧
  SameBut ([.objs, .ports, .rets] ++ noteFields) s t

/-- An op of a lane waits at its home: one waiter record more in its place in the queue, the object store, the shim's
port as the op left it, no response yet, and nothing else but the hub's notes. Which free record it takes is left open
(R252). -/
def OpWaits (s t : State) (p : Nat) (h : ShimOp) (a : HomeOp) (objs : Sparse ObjRec) (w : Waiter) : Prop :=
  t.objs = objs ∧ (∃ n, t.waiters = insertWaiter false { w with num := n } s.waiters) ∧
  t.ports = (s.sent p h a).ports ∧ SameBut ([.objs, .ports, .waiters] ++ noteFields) s t

/-- An issuer of a shim can read a response to its op: its lane, its tag and its status. -/
def Answered (t : State) (p lane : Nat) (op : OpFields) (st : Status) : Prop :=
  ∃ r ∈ (t.port p).lanes, r.lane = lane ∧ r.beat2 = false ∧ ∃ n, r.word = respWord st op.tag n

/-- Nothing stands between a response of a lane and the lane: the op carries no ACQ flag, and no response of the lane
waits for an invalidate (R129, R268, R305). -/
def Port.laneClear (x : Port) (lane : Nat) (op : OpFields) : Prop :=
  op.flags.acq = false ∧ (x.inval.any fun q => q.1.lane = lane) = false

/-- Nothing waits at a shim for a change of it: no op at its op-issue interface, and no FENCE (R121, R299). -/
def Port.quiet (x : Port) : Prop := x.issue = [] ∧ x.fences = []

/-- Nothing waits at an issue slot for a change of it (R121, R293). -/
def Slot.quiet (x : Slot) : Prop := x.fence = none ∧ x.held = [] ∧ x.stalled = []

/-- A command brings the hub to the state `t`, but for the hub's notes. -/
def Brings (i : Instr) (s t : State) : Prop := ∃ u, exec i s = .next u ∧ SameBut noteFields t u

/-- A waiter record of the share of an op's partition is free (R112). -/
def State.hasRoom (s : State) (a : HomeOp) : Prop := (s.waitersOf a.partition).length < s.shareSize

end Sys2Proof.Machine
end

