-- ==== Sys2Proof/Arrivals.lean ====
section
/-! DEFINITION. The words in which the statements speak of what comes to the hub from outside: a flit of a link (R342 to
R344, R353), a message that it performs (R346, R495), and a Catalogue request. -/

namespace Sys2Proof.Machine

/-- A link of a live hub hears a flit whose CRC agrees and whose type is not reserved (R343, R344). -/
def State.hears (s : State) (c : Nat) (x : BitVec 256) (f : Flit) : Prop :=
  s.live = true ∧ s.linkBuilt c = true ∧ (s.link c).phyUp = true ∧ flitGood x = true ∧ decodeFlit x = f

/-- The hub once it has counted a flit that a link heard. -/
def State.countedFlit (s : State) (c : Nat) : State := s.count (0x6010 + c) 2 0 1

/-- The hub once it has counted a flit and taken the acknowledgement and the credit in it (R353, R355). -/
def State.heard (s : State) (c : Nat) (f : Flit) : State := (s.countedFlit c).takeAck c f

/-- A link is UP, it does not drain for a renegotiation, and it has no message to send. -/
def Link.atRest (l : Link) : Prop := l.state = .up ∧ l.closing = false ∧ l.txq = []

/-- A message that the hub performs did not come over a level-1 link (R367). -/
def State.notW1 (s : State) (m : Msg) : Prop :=
  ∀ x, (s.inbox.find? fun x => x.msg = m) = some x → ∀ c, x.port = some c → s.levelOf c ≠ 1

/-- The hub once it has begun to perform a message: taken from those that wait here, if it waited, and counted for
Stocktake if a link brought it (R495). -/
def State.taken (s : State) (m : Msg) : State :=
  let counted (s : State) : State := if s.stockCounts m then s.stockRecv m.hdr.partition.toNat else s
  match s.inbox.find? fun x => x.msg = m with
  | some x => if x.port = none then { s with inbox := s.inbox.erase x } else counted { s with inbox := s.inbox.erase x }
  | none => counted s

/-- The fields that a report of a fault may change (R432 to R437), beside the hub's notes. -/
def faultFields : List Field :=
  [.parts, .waiters, .lenders, .ledgers, .ports, .slots, .rets, .links, .inbox, .waitMsgs, .out] ++ noteFields

/-- An op of an event input reaches object `k` of this hub, an EVENT that takes it (R285, R289, R290). -/
def State.inputHits (s : State) (i : Nat) (c : Opcode) (k : Nat) : Prop :=
  s.evCfg i 4 < s.partCount ∧ s.stageIsOut 27 = false ∧ s.flips = [] ∧ s.bankOut k = false ∧ s.evAccepts i k = true ∧
  ∃ h, s.translate (s.evCfg i 4) (BitVec.ofNat 32 (s.evCfg i 5)) = some h ∧ handleHub h = s.hub ∧ handleIndex h = k ∧
    s.homeGate (s.evHome i c h) = none

/-- A partition at this hub in which a reset has nothing to end before it asks the surroundings to quiesce (R410 steps 1
to 3): no waiter, no loan, no buffered ticket, nothing that waits in a shim, no armed shelf, no held release, no running
Inventory, no hold, and the handshake before it complete. -/
def State.resetsAtOnce (s : State) (p : Nat) : Prop :=
  s.waitersOf p = [] ∧ s.lendersOf p = [] ∧ s.ledgersOf p = [] ∧ s.bufferedOf p = [] ∧
  (∀ q, (s.port q).quiet ∧ (s.port q).nearWaits = [] ∧ (s.port q).parkHeld = []) ∧
  (∀ k, (s.shelf p k).state ≠ .armed) ∧ (∀ k, ((s.part p).deposit k).waiting = false) ∧
  (s.part p).inv.running = false ∧ (s.part p).hold.held = false ∧ s.quiesceIdle p = true

/-- The hub once the waiter record of an op of one of its ports has left its queue, and CANCELLED is on its way to the
port (R284). -/
def State.answeredCancelled (u : State) (k : Waiter) : State :=
  { u with
    waiters := u.waiters.filter fun q => q.num ≠ k.num
    rets := u.rets ++ [{ target := .port (getFld k.originator 3 7 : BitVec 7).toNat
                         sel := getFld k.originator 0 10
                         retref := getFld k.operandB 0 10
                         word := respWord .cancelled k.tag 0
                         value := valueBeat k.opcode .cancelled 0 }] }

/-! ### Requests of the Catalogue -/

/-- What a WRITE names (R515). -/
def writeAsk (index : BitVec 16) (sub : BitVec 8) : CatAsk := { command := cmdWrite, index := index, sub := sub }

/-- A request of a principal is performed now: its path is free, no request of the principal is in progress or waits, and
fewer than eight are in progress (R511, R517, R529). -/
def State.serves (s : State) (h : CatHdr) (w : Who) : Prop :=
  s.live = true ∧ (h.via = .apb → s.apb.busy = false) ∧ (h.via ≠ .apb → s.eid ≠ 0) ∧
  s.mustWait (viaPrincipal h.via) = false ∧ s.whoIs h.via = some w

/-- A WRITE is performed now, and nothing of R507 and R511 to R513 refuses it. -/
def State.accepts (s : State) (h : CatHdr) (index : BitVec 16) (sub : BitVec 8) (v : Nat) (w : Who) : Prop :=
  s.serves h w ∧ s.writeRefused h (writeAsk index sub) w none v = none

/-- The hub while a WRITE is in progress (R517, R518, R529). -/
def State.opened (s : State) (h : CatHdr) (index : BitVec 16) (sub : BitVec 8) (v : Nat) : State :=
  let u := (s.apbBusy h (writeAsk index sub)).apbData h v
  { u with catOpen := s.catOpen ++ [{ hdr := h, index := index, sub := sub }] }

/-- A WRITE of a principal is performed now: nothing refuses it, and `u` is the hub while it is in progress. -/
def State.writing (s u : State) (h : CatHdr) (index : BitVec 16) (sub : BitVec 8) (v : Nat) (w : Who) : Prop :=
  s.accepts h index sub v w ∧ u = s.opened h index sub v

/-- The hub once a WRITE that was in progress, and whose effect has led to a state, is answered with a status. -/
def State.answered (s : State) (h : CatHdr) (index : BitVec 16) (sub : BitVec 8) (st : CatStatus) (x : State) : State :=
  ({ x with catOpen := s.catOpen } : State).catAnswer (statusAnswer h cmdWrite index sub st)

/-- The header of a Catalogue request, and what it names (R515, R533). -/
def requestOf : Instr → Option (CatHdr × CatAsk)
  | .identify h => some (h, { command := cmdIdentify, index := 0, sub := 0 })
  | .describe h i k => some (h, { command := cmdDescribe, index := i, sub := k })
  | .catRead h i k => some (h, { command := cmdRead, index := i, sub := k })
  | .catWrite h i k _ _ => some (h, writeAsk i k)
  | .readSeg h i k _ _ _ => some (h, { command := cmdReadSeg, index := i, sub := k })
  | .nextEntry h i k => some (h, { command := cmdNext, index := i, sub := k })
  | .catMalformedRequest h c _ => some (h, { command := c, index := 0, sub := 0 })
  | .consumerIndexWrite (.cat h) r _ => some (h, writeAsk (consumerEntry r) 4)
  | .partReset h _ => some (h, writeAsk 0x3010 8)
  | .partContext h _ => some (h, writeAsk 0x3010 9)
  | .partQuiesceOverride h _ => some (h, writeAsk 0x3010 13)
  | .resliceTarget h _ => some (h, writeAsk 0x3000 2)
  | .resliceAbort h _ => some (h, writeAsk 0x3000 4)
  | .portPartition h q _ => some (h, writeAsk (instIndex 0x3100 q 128) 1)
  | .waiterCancelObject h _ => some (h, writeAsk 0x2800 1)
  | .waiterCancelOriginator h _ => some (h, writeAsk 0x2800 2)
  | .loanRecallToken h _ => some (h, writeAsk 0x2300 6)
  | .lockClearAbandoned h _ => some (h, writeAsk 0x2500 1)
  | .lockGroupMode h g _ => some (h, writeAsk (instIndex 0x4000 g 256) 4)
  | .linkRenegotiate h c k _ => some (h, writeAsk (instIndex 0x5000 c 16) k)
  | .routeEntry h _ => some (h, writeAsk 0x5100 2)
  | .timeSet h _ => some (h, writeAsk 0x5200 8)
  | .ticketRingConfigWrite h r size _ => some (h, writeAsk (instIndex 0x2400 r 4) (if size then 2 else 1))
  | .notifyRingConfigWrite h hub size _ => some (h, writeAsk (if hub then 0x2A00 else 0x2900) (if size then 2 else 1))
  | .shelfArmEntry h _ => some (h, writeAsk 0x6020 1)
  | .shelfCancelEntry h _ => some (h, writeAsk 0x6020 5)
  | .folioArm h => some (h, writeAsk 0x6030 2)
  | .folioTrigger h => some (h, writeAsk 0x6030 2)
  | .folioStop h => some (h, writeAsk 0x6030 2)
  | .folioClear h => some (h, writeAsk 0x6030 2)
  | .folioMarker h _ => some (h, writeAsk 0x6030 10)
  | .inventoryTake h _ => some (h, writeAsk 0x6040 3)
  | .partHold h _ => some (h, writeAsk 0x6050 1)
  | .partResume h _ => some (h, writeAsk 0x6050 2)
  | .depositAck h _ => some (h, writeAsk 0x6060 10)
  | .depositFlags h _ => some (h, writeAsk 0x6060 8)
  | .stocktakeEnable h _ => some (h, writeAsk 0x6070 1)
  | .faultInjectBits h _ => some (h, writeAsk 0x7040 2)
  | .faultInjectStage h => some (h, writeAsk 0x7040 2)
  | .partJobFaultInject h _ => some (h, writeAsk 0x7030 4)
  | .viewSelect h w _ => some (h, writeAsk (instIndex 0x8000 (0x100 * w) 0x4000) 1)
  | .evBindingWrite h i k _ => some (h, writeAsk (instIndex 0x2600 i 16) k)
  | _ => none

end Sys2Proof.Machine
end

