-- ==== Sys2Proof/Certificates/Slice0/Obligations.lean ====
section
/-! DEFINITION. What is to be proved of the hub, stated in the terms of Safety.lean, Path.lean and Arrivals.lean. -/

set_option linter.all false

open Sys2Proof Sys2Proof.Machine

/-- One step: the command at the front of the queue is performed with the queue's rest. On an empty queue the hub
performs the oldest message that it holds; with none, the Catalogue request whose turn has come; with none, one edge
of tb_refclk passes. What a step on an empty queue does is the model's choice (log entry 32). -/
def Obligations.StepRunsTheFront : Prop :=
  ∀ (s : State),
    (∀ c cs, step { s with pending := c :: cs } = exec c { s with pending := cs }) ∧
    (∀ x xs, step { s with pending := [], inbox := x :: xs } =
      .next (({ s with pending := [], inbox := xs } : State).performMsg x)) ∧
    (∀ x, s.pending = [] → s.inbox = [] → s.nextHeld = some x → ∀ t, exec x.2 (s.takeHeld x.1) = .next t →
      step s = .next { t with catHeld := t.catHeld ++ s.heldBehind x.1 }) ∧
    (s.pending = [] → s.inbox = [] → s.nextHeld = none → step s = .next s.tickOnce)

/-- Every command completes, unless it names a unit that the hub does not have: an absent Core Sync Port or lane (R8,
R24, R297), an absent link (R372), or a slot, input, ring, stage, store word or partition beyond those of the hub
(R317, R285, R331, R441, R425, R394). It then stops by name. No command is refused. That a command naming an absent
unit stops is the model's choice (log entry 98). -/
def Obligations.CommandsComplete : Prop :=
  ∀ (i : Instr) (s : State),
    (stopOf i s = none → ∃ t, exec i s = .next t) ∧
    (∀ f, stopOf i s = some f → exec i s = .fault f) ∧
    (∀ r, exec i s ≠ .refused r)

/-- Rules of the whole hub. No command touches the queue. Only HUB_RESET and STARTUP change the identity, the
reference selection and the run of the timebase (R546, R549), and beside them only STARTUP_COMPLETE changes the phase
(R549); only the loss and the return of tb_refclk change whether it is lost (R446); only SET_ENDPOINT_ID changes the
endpoint ID (R522); only a restart and its retry change which stages are out and count their failed tests (R445);
beside those commands only scrub accesses and the end of start-up set the start of a scrub pass (R454). -/
def Obligations.OnlyTheseCommands : Prop :=
  ∀ (i : Instr) (s t : State), exec i s = .next t →
    t.pending = s.pending ∧
    ((∀ b, i ≠ .hubReset b) → (∀ d e r a, i ≠ .startup d e r a) →
      t.build = s.build ∧ t.device = s.device ∧ t.die = s.die ∧ t.refSel = s.refSel ∧ t.running = s.running ∧
      t.tick = s.tick ∧ (i ≠ .startupComplete → t.phase = s.phase) ∧
      (i ≠ .refclkLoss → i ≠ .refclkReturn → t.refLost = s.refLost) ∧
      ((∀ a b c, i ≠ .setEndpointId a b c) → t.eid = s.eid) ∧
      ((∀ a b c d, i ≠ .stageRestart a b c d) → (∀ a b c, i ≠ .stageRetry a b c) →
        t.stageOut = s.stageOut ∧ t.stageFails = s.stageFails) ∧
      ((∀ w, i ≠ .scrubAccess w) → i ≠ .startupComplete → t.scrubStart = s.scrubStart))

/-- An invariant that every step keeps: the sparse stores stay in their canonical form, and the timebase runs exactly
while the hub is out of reset, its place in the five increments of R556 being one of the five (R549, R556). -/
def Obligations.StepsKeepTheHubSound : Prop :=
  ∀ (s t : State), s.storesWf = true → s.clockInv → step s = .next t → t.storesWf = true ∧ t.clockInv

/-- The state at reset meets the invariant, and it is the hub held in reset: no time, one partition of epoch 0 and no
latch, no object, waiter, loan, route or message, every link in TRAINING, and nothing that waits (R546, R547, R549).
Values that no rule gives are the model's choice (log entries 1, 99 and 100). -/
def Obligations.ResetIsSound : Prop :=
  State.reset.storesWf = true ∧ State.reset.clockInv ∧ State.reset.pending = [] ∧ State.reset.phase = .inReset ∧
  State.reset.time = 0 ∧ State.reset.partCount = 1 ∧
  (∀ p, (State.reset.part p).epoch = 0 ∧ (State.reset.part p).fault = false) ∧
  (∀ i, (State.reset.obj i).otype = .none) ∧ (∀ c, (State.reset.link c).state = .training) ∧
  (∀ k, entryValid (State.reset.route k) = false) ∧ State.reset.waiters = [] ∧ State.reset.lenders = [] ∧
  State.reset.ledgers = [] ∧ State.reset.inbox = [] ∧ State.reset.waitMsgs = [] ∧ State.reset.eid = 0

/-- R342, R345 to R351, R360, R376, R416, R463, R479 and R497: what a hub sends reads back as what it meant. Every
message, of every kind and with every field at every value, is read back from the payloads of its flits, whose first
one gives its length; a body that names only what its flits carry is all that is asked. Every NEG payload reads back.
Every flit of an unreserved type passes the check of its CRC and reads back. That reserved bits are ignored and sent
as 0 is DEDUCED where R12 does not say it (log entry 96). -/
def Obligations.MessagesReadBack : Prop :=
  (∀ (m : Msg), m.body.onlySent →
    wholeMsg (flitPayloads m) = some m ∧ headFlits (flitPayloads m) = (flitPayloads m).length ∧
    headPart (flitPayloads m) = m.hdr.partition.toNat) ∧
  (∀ (n : Neg), decodeNeg n.encode = n) ∧
  (∀ (f : Flit), decodeFlit f.encode = f ∧ (f.ftype.toNat < 8 → flitGood f.encode = true) ∧
    (8 ≤ f.ftype.toNat → flitGood f.encode = false))

/-- R106, the rows of EVENT, for an event on which nobody waits: SIG and SET count the signal and set the event, CLR
clears it, a WAIT on a set event is granted at once and clears it if it is an AUTO event. Each answers OK, and writes
last_orig and last_time where it writes the record. CLR leaves an event as it is that an input in level mode holds set
(R288). -/
def Obligations.EventOps : Prop :=
  ∀ (s : State) (p lane : Nat) (ctx : BitVec 8) (op : OpFields) (a : HomeOp) (r : ObjRec),
    r = s.obj a.index → r.otype = .event →
    (s.reaches p (s.presented lane ctx .sig op) .sig a → s.queue a.index = [] →
      ∃ t, exec (.sig (coreReq p lane ctx op)) s = .next t ∧
        OpDone s t p (s.presented lane ctx .sig op) a
          (s.setObj a.index ((r.word ((getFld r.word0 32 32 + 1 : BitVec 32) ++ (getFld r.word0 1 31 : BitVec 31) ++
            (1 : BitVec 1))).wrote (s.laneOrig p lane) s.time)).objs .ok 0 0) ∧
    (s.reaches p (s.presented lane ctx .set op) .set a → s.queue a.index = [] →
      ∃ t, exec (.set (coreReq p lane ctx op)) s = .next t ∧
        OpDone s t p (s.presented lane ctx .set op) a
          (s.setObj a.index ((r.word ((getFld r.word0 32 32 + 1 : BitVec 32) ++ (getFld r.word0 1 31 : BitVec 31) ++
            (1 : BitVec 1))).wrote (s.laneOrig p lane) s.time)).objs .ok 0 0) ∧
    (s.reaches p (s.presented lane ctx .clr op) .clr a →
      ∃ t, exec (.clr (coreReq p lane ctx op)) s = .next t ∧
        OpDone s t p (s.presented lane ctx .clr op) a
          (if s.levelHolds a.index then s.objs
           else (s.setObj a.index ((r.word ((getFld r.word0 1 63 : BitVec 63) ++ (0 : BitVec 1))).wrote
             (s.laneOrig p lane) s.time)).objs) .ok 0 0) ∧
    (s.reaches p (s.presented lane ctx .wait op) .wait a → r.word0.getLsbD 0 = true →
      ∃ t, exec (.wait (coreReq p lane ctx op)) s = .next t ∧
        OpDone s t p (s.presented lane ctx .wait op) a
          (if r.mode.getLsbD 0 then
             (s.setObj a.index ((r.word ((getFld r.word0 1 63 : BitVec 63) ++ (0 : BitVec 1))).wrote
               (s.laneOrig p lane) s.time)).objs
           else s.objs) .ok 0 0)

/-- R106 and R107, SIG, FADD, SWAP and CAS on a TOKEN or a SEM that no waiter and no TRIGGER watches. SIG of a
negative operand is BAD_HANDLE; a result outside the range of the type is OVERRUN and changes nothing; else the value
is replaced, and FADD, SWAP and CAS bring back the old one. A CAS that does not find its operand A changes nothing.
FADD, SWAP and CAS on a LOANABLE token are RIGHTS. -/
def Obligations.AmountOps : Prop :=
  ∀ (s : State) (p lane : Nat) (ctx : BitVec 8) (op : OpFields) (a : HomeOp) (r : ObjRec),
    r = s.obj a.index → r.otype = .token ∨ r.otype = .sem → r.trig = false → s.queue a.index = [] →
    (s.reaches p (s.presented lane ctx .sig op) .sig a →
      ∃ t, exec (.sig (coreReq p lane ctx op)) s = .next t ∧
        (a.op.operand.getLsbD 63 = true → OpDone s t p (s.presented lane ctx .sig op) a s.objs .badHandle 0 0) ∧
        (a.op.operand.getLsbD 63 = false → r.inRange (r.amount + Int.ofNat a.op.operand.toNat) = false →
          OpDone s t p (s.presented lane ctx .sig op) a s.objs .overrun 0 0) ∧
        (a.op.operand.getLsbD 63 = false → r.inRange (r.amount + Int.ofNat a.op.operand.toNat) = true →
          OpDone s t p (s.presented lane ctx .sig op) a
            (s.setObj a.index ((r.word (BitVec.ofInt 64 (r.amount + Int.ofNat a.op.operand.toNat))).wrote
              (s.laneOrig p lane) s.time)).objs .ok 0 0)) ∧
    (s.reaches p (s.presented lane ctx .fadd op) .fadd a →
      ∃ t, exec (.fadd (coreReq p lane ctx op)) s = .next t ∧
        (r.loanable = true → OpDone s t p (s.presented lane ctx .fadd op) a s.objs .rights 0 0) ∧
        (r.loanable = false → r.inRange (r.amount + a.op.operand.toInt) = false →
          OpDone s t p (s.presented lane ctx .fadd op) a s.objs .overrun 0 0) ∧
        (r.loanable = false → r.inRange (r.amount + a.op.operand.toInt) = true →
          OpDone s t p (s.presented lane ctx .fadd op) a
            (s.setObj a.index ((r.word (BitVec.ofInt 64 (r.amount + a.op.operand.toInt))).wrote (s.laneOrig p lane)
              s.time)).objs .ok 0 r.word0)) ∧
    (s.reaches p (s.presented lane ctx .swap op) .swap a →
      ∃ t, exec (.swap (coreReq p lane ctx op)) s = .next t ∧
        (r.loanable = true → OpDone s t p (s.presented lane ctx .swap op) a s.objs .rights 0 0) ∧
        (r.loanable = false → r.inRange (r.operandInt a.op.operand) = false →
          OpDone s t p (s.presented lane ctx .swap op) a s.objs .overrun 0 0) ∧
        (r.loanable = false → r.inRange (r.operandInt a.op.operand) = true →
          OpDone s t p (s.presented lane ctx .swap op) a
            (s.setObj a.index ((r.word a.op.operand).wrote (s.laneOrig p lane) s.time)).objs .ok 0 r.word0)) ∧
    (s.reaches p (s.presented lane ctx .cas op) .cas a →
      ∃ t, exec (.cas (coreReq p lane ctx op)) s = .next t ∧
        (r.loanable = true → OpDone s t p (s.presented lane ctx .cas op) a s.objs .rights 0 0) ∧
        (r.loanable = false → r.word0 ≠ a.op.operand →
          OpDone s t p (s.presented lane ctx .cas op) a s.objs .ok 0 r.word0) ∧
        (r.loanable = false → r.word0 = a.op.operand → r.inRange (r.operandInt a.op.opb) = false →
          OpDone s t p (s.presented lane ctx .cas op) a s.objs .overrun 0 0) ∧
        (r.loanable = false → r.word0 = a.op.operand → r.inRange (r.operandInt a.op.opb) = true →
          OpDone s t p (s.presented lane ctx .cas op) a
            (s.setObj a.index ((r.word a.op.opb).wrote (s.laneOrig p lane) s.time)).objs .ok 1 r.word0))

/-- R106, TAKE and TRYTAKE on a TOKEN that is not LOANABLE or on a SEM, and WAIT on either, where nobody waits. An
operand of TAKE or TRYTAKE outside 1 to 2^63 - 1 is BAD_HANDLE. Where the value covers the operand, both subtract it
and answer OK; where it does not, TRYTAKE answers WOULD_BLOCK and changes nothing. A WAIT that the value covers is
granted and consumes nothing. -/
def Obligations.TakeOps : Prop :=
  ∀ (s : State) (p lane : Nat) (ctx : BitVec 8) (op : OpFields) (a : HomeOp) (r : ObjRec),
    r = s.obj a.index → r.otype = .token ∨ r.otype = .sem → s.queue a.index = [] →
    (s.reaches p (s.presented lane ctx .take op) .take a → r.loanable = false →
      (a.op.operand = 0 ∨ a.op.operand.getLsbD 63 = true →
        ∃ t, exec (.take (coreReq p lane ctx op)) s = .next t ∧
          OpDone s t p (s.presented lane ctx .take op) a s.objs .badHandle 0 0) ∧
      (a.op.operand ≠ 0 → a.op.operand.getLsbD 63 = false → Int.ofNat a.op.operand.toNat ≤ r.amount →
        ∃ t, exec (.take (coreReq p lane ctx op)) s = .next t ∧
          OpDone s t p (s.presented lane ctx .take op) a
            (s.setObj a.index ((r.word (BitVec.ofInt 64 (r.amount - Int.ofNat a.op.operand.toNat))).wrote
              (s.laneOrig p lane) s.time)).objs .ok 0 0)) ∧
    (s.reaches p (s.presented lane ctx .tryTake op) .tryTake a → r.loanable = false →
      ∃ t, exec (.tryTake (coreReq p lane ctx op)) s = .next t ∧
        (a.op.operand = 0 ∨ a.op.operand.getLsbD 63 = true →
          OpDone s t p (s.presented lane ctx .tryTake op) a s.objs .badHandle 0 0) ∧
        (a.op.operand ≠ 0 → a.op.operand.getLsbD 63 = false → r.amount < Int.ofNat a.op.operand.toNat →
          OpDone s t p (s.presented lane ctx .tryTake op) a s.objs .wouldBlock 0 0) ∧
        (a.op.operand ≠ 0 → a.op.operand.getLsbD 63 = false → Int.ofNat a.op.operand.toNat ≤ r.amount →
          OpDone s t p (s.presented lane ctx .tryTake op) a
            (s.setObj a.index ((r.word (BitVec.ofInt 64 (r.amount - Int.ofNat a.op.operand.toNat))).wrote
              (s.laneOrig p lane) s.time)).objs .ok 0 0)) ∧
    (s.reaches p (s.presented lane ctx .wait op) .wait a → r.operandInt a.op.operand ≤ r.amount →
      ∃ t, exec (.wait (coreReq p lane ctx op)) s = .next t ∧
        OpDone s t p (s.presented lane ctx .wait op) a s.objs .ok 0 0)

/-- R106 and R110: READ brings the word that bits [1:0] of its operand select back in the value beat, and changes no
record; a selection that R110 refuses is BAD_HANDLE. DISARM clears TRIGGER and OK is its answer (R60). R59, ARM of a
TOKEN that is not LOANABLE and whose value its threshold does not reach, or of a BARRIER, with a TRIG record beside
it: a token's operand other than 0 replaces the threshold, TRIGGER is set, and the answer is OK. -/
def Obligations.ReadArmAndDisarm : Prop :=
  (∀ (s : State) (p lane : Nat) (ctx : BitVec 8) (op : OpFields) (a : HomeOp) (r : ObjRec), r = s.obj a.index →
    (s.reaches p (s.presented lane ctx .read op) .read a →
      ∃ t, exec (.read (coreReq p lane ctx op)) s = .next t ∧
        ((getFld a.op.operand 0 2 : BitVec 2) = 0 → OpDone s t p (s.presented lane ctx .read op) a s.objs .ok 0 r.word0) ∧
        ((getFld a.op.operand 0 2 : BitVec 2) = 1 → r.otype ≠ .lock →
          OpDone s t p (s.presented lane ctx .read op) a s.objs .ok 0 r.word1) ∧
        ((getFld a.op.operand 0 2 : BitVec 2) = 1 → r.otype = .lock →
          OpDone s t p (s.presented lane ctx .read op) a s.objs .ok 0
            ((getFld r.hi 35 16 : BitVec 16) ++ (0 : BitVec 16) ++ (getFld r.word1 0 32 : BitVec 32))) ∧
        ((getFld a.op.operand 0 2 : BitVec 2) = 2 →
          OpDone s t p (s.presented lane ctx .read op) a s.objs .ok 0
            (typeCode r.otype ++ r.mode ++ r.partition ++ (BitVec.ofBool r.faulted ++ BitVec.ofBool r.broken ++
              BitVec.ofBool r.abandoned ++ BitVec.ofBool r.sense ++ BitVec.ofBool r.trig ++ BitVec.ofBool r.wide) ++
              BitVec.ofBool (decide (r.otype ≠ .trig) && decide (s.queue a.index ≠ [])) ++ (0 : BitVec 21) ++ r.lastOrig)) ∧
        ((getFld a.op.operand 0 2 : BitVec 2) = 3 → r.otype = .barrier → r.isCombining = true →
          OpDone s t p (s.presented lane ctx .read op) a s.objs .ok 0 r.lastResult) ∧
        ((getFld a.op.operand 0 2 : BitVec 2) = 3 → r.otype ≠ .barrier ∨ r.isCombining = false →
          OpDone s t p (s.presented lane ctx .read op) a s.objs .badHandle 0 0)) ∧
    (s.reaches p (s.presented lane ctx .disarm op) .disarm a →
      ∃ t, exec (.disarm (coreReq p lane ctx op)) s = .next t ∧
        OpDone s t p (s.presented lane ctx .disarm op) a
          (s.setObj a.index (({ r with trig := false } : ObjRec).wrote (s.laneOrig p lane) s.time)).objs .ok 0 0)) ∧
  (∀ (s : State) (p lane : Nat) (ctx : BitVec 8) (op : OpFields) (a : HomeOp) (r n : ObjRec), r = s.obj a.index →
    n = ({ r with
      trig := true
      word1 := if r.otype = .token ∧ a.op.operand ≠ 0 then a.op.operand else r.word1 } : ObjRec).wrote
        (s.laneOrig p lane) s.time →
    s.reaches p (s.presented lane ctx .arm op) .arm a → r.loanable = false → s.pairOk r a.index = true →
    (s.obj (trigIndex r a.index)).faulted = false → (r.otype = .token → n.word1 ≠ 0) → n.firings = 0 →
    s.queue a.index = [] →
    ∃ t, exec (.arm (coreReq p lane ctx op)) s = .next t ∧
      OpDone s t p (s.presented lane ctx .arm op) a (s.setObj a.index n).objs .ok 0 0)

/-- R106 and R112, the ops that cannot be granted at once: a WAIT on an event that is not set, a TAKE or a WAIT that
the value does not cover, and an ACQ of a held lock whose group has no priority mode. Each waits in one waiter record
of its partition's share, with no response yet and no change of the object; a WAIT or TAKE that finds no free record
answers OVERRUN, and nothing is queued. Which free record an op takes is left open (log entry 38). -/
def Obligations.OpsThatWait : Prop :=
  ∀ (s : State) (p lane : Nat) (ctx : BitVec 8) (op : OpFields) (a : HomeOp) (r : ObjRec), r = s.obj a.index →
    (s.reaches p (s.presented lane ctx .wait op) .wait a →
      (r.otype = .event ∧ r.word0.getLsbD 0 = false) ∨
        ((r.otype = .token ∨ r.otype = .sem) ∧ r.amount < r.operandInt a.op.operand) →
      ∃ t, exec (.wait (coreReq p lane ctx op)) s = .next t ∧
        (s.hasRoom a → OpWaits s t p (s.presented lane ctx .wait op) a s.objs
          (s.waiterFor .queued a.index a a.op.operand (a.retref.setWidth 64))) ∧
        (¬ s.hasRoom a → OpDone s t p (s.presented lane ctx .wait op) a s.objs .overrun 0 0)) ∧
    (s.reaches p (s.presented lane ctx .take op) .take a → r.otype = .token ∨ r.otype = .sem →
      a.op.operand ≠ 0 → a.op.operand.getLsbD 63 = false → r.amount < Int.ofNat a.op.operand.toNat →
      ∃ t, exec (.take (coreReq p lane ctx op)) s = .next t ∧
        (s.hasRoom a → OpWaits s t p (s.presented lane ctx .take op) a s.objs
          (s.waiterFor .queued a.index a a.op.operand (a.retref.setWidth 64))) ∧
        (¬ s.hasRoom a → OpDone s t p (s.presented lane ctx .take op) a s.objs .overrun 0 0)) ∧
    (s.reaches p (s.presented lane ctx .acq op) .acq a → s.lockRights a r = true → r.word0.getLsbD 25 = true →
      s.prioMode r = false → a.op.tsel.toNat ≤ r.prio.toNat → s.hasRoom a →
      ∃ t, exec (.acq (coreReq p lane ctx op)) s = .next t ∧
        OpWaits s t p (s.presented lane ctx .acq op) a s.objs
          (s.waiterFor .queued a.index (s.lockDeadline a r) 0 (a.retref.setWidth 64)))

/-- R106 and R225, the lock ops. A free lock goes to the originator of an ACQ or TRYACQ, with its priority, the time
and one more acquisition, and the answer is OK, or ABANDONED while the mark is set. TRYACQ of a held lock answers
WOULD_BLOCK. REL by the holder frees the lock and clears the mark; REL by another is RIGHTS. FREL frees a held lock
and keeps the mark. Without its group's rights every one of them is RIGHTS, and changes nothing. -/
def Obligations.LockOps : Prop :=
  ∀ (s : State) (p lane : Nat) (ctx : BitVec 8) (op : OpFields) (a : HomeOp) (r : ObjRec), r = s.obj a.index →
    (s.reaches p (s.presented lane ctx .acq op) .acq a →
      (s.lockRights a r = false → ∃ t, exec (.acq (coreReq p lane ctx op)) s = .next t ∧
        OpDone s t p (s.presented lane ctx .acq op) a s.objs .rights 0 0) ∧
      (s.lockRights a r = true → r.held = false → ∃ t, exec (.acq (coreReq p lane ctx op)) s = .next t ∧
        OpDone s t p (s.presented lane ctx .acq op) a
          (s.setObj a.index ((r.setLock 0 a.op.tsel (BitVec.ofNat 32 s.time.ns) (r.acqCount + 1) true
            (s.laneOrig p lane)).wrote (s.laneOrig p lane) s.time)).objs
          (if r.abandoned then .abandoned else .ok) 0 0)) ∧
    (s.reaches p (s.presented lane ctx .tryAcq op) .tryAcq a →
      ∃ t, exec (.tryAcq (coreReq p lane ctx op)) s = .next t ∧
        (s.lockRights a r = false → OpDone s t p (s.presented lane ctx .tryAcq op) a s.objs .rights 0 0) ∧
        (s.lockRights a r = true → r.held = true →
          OpDone s t p (s.presented lane ctx .tryAcq op) a s.objs .wouldBlock 0 0) ∧
        (s.lockRights a r = true → r.held = false →
          OpDone s t p (s.presented lane ctx .tryAcq op) a
            (s.setObj a.index ((r.setLock 0 a.op.tsel (BitVec.ofNat 32 s.time.ns) (r.acqCount + 1) true
              (s.laneOrig p lane)).wrote (s.laneOrig p lane) s.time)).objs
            (if r.abandoned then .abandoned else .ok) 0 0)) ∧
    (s.reaches p (s.presented lane ctx .rel op) .rel a → s.queue a.index = [] → r.inhPrio = 0 →
      ∃ t, exec (.rel (coreReq p lane ctx op)) s = .next t ∧
        (s.lockRights a r = false ∨ r.held = false ∨ r.holder ≠ s.laneOrig p lane →
          OpDone s t p (s.presented lane ctx .rel op) a s.objs .rights 0 0) ∧
        (s.lockRights a r = true → r.held = true → r.holder = s.laneOrig p lane →
          OpDone s t p (s.presented lane ctx .rel op) a
            (s.setObj a.index { (r.setLock 0 r.prio r.grantTime r.acqCount false r.holder).wrote
              (s.laneOrig p lane) s.time with abandoned := false }).objs .ok 0 0)) ∧
    (s.reaches p (s.presented lane ctx .frel op) .frel a → s.queue a.index = [] → r.inhPrio = 0 →
      ∃ t, exec (.frel (coreReq p lane ctx op)) s = .next t ∧
        (s.lockRights a r = false → OpDone s t p (s.presented lane ctx .frel op) a s.objs .rights 0 0) ∧
        (s.lockRights a r = true → OpDone s t p (s.presented lane ctx .frel op) a
          (if r.held then (s.setObj a.index ((r.setLock 0 r.prio r.grantTime r.acqCount false r.holder).wrote
            (s.laneOrig p lane) s.time)).objs else s.objs) .ok 0 0))

/-- R141, R142, R149 and R164, arrivals at a whole counted or combining barrier in the round that its sense names,
where one more does not complete the round: the arrival counts, a combining barrier folds the contribution into the
round's accumulator, ARRV answers OK with the round, and ARRW waits for the release of that round. WREL answers OK
with the round before, and a combining barrier's last result, if SENSE differs from the barrier's sense, and else
waits. -/
def Obligations.BarrierOps : Prop :=
  ∀ (s : State) (p lane : Nat) (ctx : BitVec 8) (op : OpFields) (a : HomeOp) (r n : ObjRec), r = s.obj a.index →
    r.otype = .barrier → r.broken = false →
    n = ((let n0 := r.setArrivals (r.arrivals + 1) r.nextArrivals
          if r.isCombining then n0.setAccs (r.combCount + 1)
            (accMerge r.oper r.cur (contribution r.oper r.format a.op.operand)) r.next r.lastResult else n0) : ObjRec).wrote
      (s.laneOrig p lane) s.time →
    (s.reaches p (s.presented lane ctx .arrv op) .arrv a → arrivalOperandsOk a r = true → a.op.flags.sense = r.sense →
      r.isRegistered = false → (r.isCombining = true → r.combCount + 1 ≤ 2 ^ 43) → r.arrivals + 1 < r.expected →
      ∃ t, exec (.arrv (coreReq p lane ctx op)) s = .next t ∧
        OpDone s t p (s.presented lane ctx .arrv op) a (s.setObj a.index n).objs .ok
          (r.round.toNat + 2 ^ 28 * bitNat (r.round.getLsbD 0)) 0) ∧
    (s.reaches p (s.presented lane ctx .arrw op) .arrw a → arrivalOperandsOk a r = true → a.op.flags.sense = r.sense →
      r.isRegistered = false → (r.isCombining = true → r.combCount + 1 ≤ 2 ^ 43) → r.arrivals + 1 < r.expected →
      s.hasRoom a →
      ∃ t, exec (.arrw (coreReq p lane ctx op)) s = .next t ∧
        OpWaits s t p (s.presented lane ctx .arrw op) a (s.setObj a.index n).objs
          (s.waiterFor .queued a.index a (r.round.setWidth 64) (a.retref.setWidth 64))) ∧
    (s.reaches p (s.presented lane ctx .wrel op) .wrel a → a.op.flags.sense ≠ r.sense →
      ∃ t, exec (.wrel (coreReq p lane ctx op)) s = .next t ∧
        OpDone s t p (s.presented lane ctx .wrel op) a s.objs .ok
          ((r.round - 1).toNat + 2 ^ 28 * bitNat ((r.round - 1).getLsbD 0)) (if r.isCombining then r.lastResult else 0)) ∧
    (s.reaches p (s.presented lane ctx .wrel op) .wrel a → a.op.flags.sense = r.sense → s.hasRoom a →
      ∃ t, exec (.wrel (coreReq p lane ctx op)) s = .next t ∧
        OpWaits s t p (s.presented lane ctx .wrel op) a s.objs
          (s.waiterFor .queued a.index a (r.round.setWidth 64) (a.retref.setWidth 64)))

/-- R63 to R68, INIT: what its checks refuse or find in use keeps its object; else the record is that of the type
named, in the Reset state but for the operands' fields, its group's width bit is written with it, and the answer is
OK. The record of a deleted object is DEDUCED (log entry 85). -/
def Obligations.InitOp : Prop :=
  ∀ (s : State) (p lane : Nat) (ctx : BitVec 8) (op : OpFields) (a : HomeOp) (x : InitArgs) (base : ObjRec),
    x = { a := a.op.operand, b := a.op.opb } → s.reaches p (s.presented lane ctx .init op) .init a →
    base = ({ mode := x.mode, partition := BitVec.ofNat 4 (s.portPart p), wide := x.wide } : ObjRec).wrote
      (s.laneOrig p lane) s.time →
    (∀ st, s.initRefused a.index x = some st ∨
        (s.initRefused a.index x = none ∧ s.initBlocked a.index a.partition x = some st) →
      ∃ t, exec (.init (coreReq p lane ctx op)) s = .next t ∧
        OpDone s t p (s.presented lane ctx .init op) a s.objs st 0 0) ∧
    (s.initRefused a.index x = none → s.initBlocked a.index a.partition x = none →
      ∃ t, exec (.init (coreReq p lane ctx op)) s = .next t ∧
        t.rets = s.rets ++ a.rets .ok 0 0 ∧
        t.wideBits = (if a.index % 4 = 0 then (s.setWideBit a.index x.wide).wideBits else s.wideBits) ∧
        SameBut ([.objs, .wideBits, .parts, .ports, .rets] ++ noteFields) s t ∧
        (x.otype = some .none → t.objs = (s.setObj a.index {}).objs) ∧
        (x.otype = some .event → t.objs = (s.setObj a.index
          { base with otype := .event, word0 := (getFld x.a 0 1 : BitVec 1).setWidth 64 }).objs) ∧
        (x.otype = some .token → t.objs = (s.setObj a.index
          { base with otype := .token, hi := (getFld x.a 54 3 : BitVec 3).setWidth 64 <<< 48,
                      word1 := if x.loanable then 0 else x.b,
                      word0 := BitVec.signExtend 64 (getFld x.a 0 54 : BitVec 54) }).objs) ∧
        (x.otype = some .sem → t.objs = (s.setObj a.index
          { base with otype := .sem, word1 := x.b, word0 := (getFld x.a 0 54 : BitVec 54).setWidth 64 }).objs) ∧
        (x.otype = some .lock → t.objs = (s.setObj a.index
          { base with otype := .lock, hi := (getFld x.a 0 8 : BitVec 8).setWidth 64 <<< 35 }).objs) ∧
        (x.otype = some .trig → t.objs = (s.setObj a.index { base with otype := .trig }).objs) ∧
        (x.otype = some .barrier → x.kind = 0 → x.hasParent = false → t.objs = (s.setObj a.index
          { base with otype := .barrier, word1 := (0 : BitVec 32) ++ (getFld x.a 0 32 : BitVec 32) }).objs))

/-- R113, R274 and R276, PARK and UNPARK of a control core: the entry that the operand names joins the parked set, and
OK is the answer; an entry that is there already changes nothing; a 33rd entry is OVERRUN. UNPARK takes the entry out,
keeps held what another entry still covers, and answers OK. Nothing but the shim changes, and the hub's notes. R113,
R121, R477 and R478, HOLD and RESUME of this hub alone, and FENCE. HOLD puts the issuer's partition on hold and RESUME
ends the hold, each with OK. A FENCE whose originator has no op outstanding answers OK at once; one whose originator's
op has not been performed yet stays in the shim without an answer. When a FENCE learns of an op at another hub is left
open (log entry 35). -/
def Obligations.ServiceOps : Prop :=
  (∀ (s : State) (p lane : Nat) (ctx : BitVec 8) (op : OpFields) (e : ParkEntry), e = parkOperand op.operand →
    (s.port p).laneClear lane op →
    (s.takesNow p (s.presented lane ctx .park op) → (s.presented lane ctx .park op).goesOn .park →
      s.portGate p (opCode .park) = none →
      ∃ t, exec (.park (coreReq p lane ctx op)) s = .next t ∧ SameBut ([.ports] ++ noteFields) s t ∧
        (e ∈ (s.port p).parked → Answered t p lane op .ok ∧ (t.port p).parked = (s.port p).parked) ∧
        (e ∉ (s.port p).parked → (s.port p).parked.length < 32 →
          Answered t p lane op .ok ∧ (t.port p).parked = (s.port p).parked ++ [e]) ∧
        (e ∉ (s.port p).parked → 32 ≤ (s.port p).parked.length →
          Answered t p lane op .overrun ∧ (t.port p).parked = (s.port p).parked)) ∧
    (s.takesNow p (s.presented lane ctx .unpark op) → (s.presented lane ctx .unpark op).goesOn .unpark →
      s.portGate p (opCode .unpark) = none →
      ∃ t, exec (.unpark (coreReq p lane ctx op)) s = .next t ∧ SameBut ([.ports] ++ noteFields) s t ∧
        (t.port p).parked = (s.port p).parked.erase e ∧
        (t.port p).parkHeld = (s.port p).parkHeld.filter (fun r => !codeService r.opcode &&
          ((s.port p).parked.erase e).any fun q => q.covers r.lane r.context) ∧
        ((s.port p).parkHeld = [] → Answered t p lane op .ok))) ∧
  (∀ (s : State) (p lane : Nat) (ctx : BitVec 8) (op : OpFields), (s.port p).laneClear lane op →
    (s.takesNow p (s.presented lane ctx .hold op) → (s.presented lane ctx .hold op).goesOn .hold →
      s.portGate p (opCode .hold) = none → op.operand.getLsbD 0 = false →
      ∃ t, exec (.hold (coreReq p lane ctx op)) s = .next t ∧ SameBut ([.ports, .parts] ++ noteFields) s t ∧
        (t.part (s.portPart p)).hold.held = true ∧ Answered t p lane op .ok) ∧
    (s.takesNow p (s.presented lane ctx .resume op) → (s.presented lane ctx .resume op).goesOn .resume →
      s.portGate p (opCode .resume) = none → op.operand.getLsbD 0 = false → (∀ j, (s.port j).holdStore = []) →
      ∃ t, exec (.resume (coreReq p lane ctx op)) s = .next t ∧ SameBut ([.ports, .parts] ++ noteFields) s t ∧
        (t.part (s.portPart p)).hold.held = false ∧ Answered t p lane op .ok) ∧
    (s.takesNow p (s.presented lane ctx .fence op) → (s.presented lane ctx .fence op).goesOn .fence →
      s.portGate p (opCode .fence) = none →
      ∃ t, exec (.fence (coreReq p lane ctx op)) s = .next t ∧
        ((s.port p).away = [] → Answered t p lane op .ok ∧ (t.port p).fences = (s.port p).fences) ∧
        ((∃ w ∈ (s.port p).away, w.silent = false ∧ w.engine = laneEngine lane) →
          (t.port p).lanes = (s.port p).lanes ∧
          ∃ n, (t.port p).fences = (s.port p).fences ++ [{ s.presented lane ctx .fence op with entry := some n }])))

/-- R93 and R94: an op word whose opcode the table does not list is BAD_HANDLE, whatever its flags and its handle, and
nothing but the shim changes, and the hub's notes. -/
def Obligations.UnlistedOpcodes : Prop :=
  ∀ (s : State) (p lane : Nat) (ctx : BitVec 8) (code : BitVec 6) (op : OpFields), opcodeOf code = none →
    s.takesNow p (s.laneOp lane ctx code op) → (s.port p).laneClear lane op → (s.port p).parked = [] →
    (∀ q, q < 16 → (s.part q).hold.held = false) →
    ∃ t, exec (.unlistedOpcode code (coreReq p lane ctx op)) s = .next t ∧ Answered t p lane op .badHandle ∧
      SameBut ([.ports] ++ noteFields) s t

/-- R301 and R266: an issuer reads a beat of the response on its lane. A response with a value that shows its first
beat then shows the second; any other read takes the response off its lane and frees its pending entry. Nothing else
changes while nothing waits at the shim. A read of a lane that shows no response changes nothing. R267, R268, R275,
R278, R321 and R455: the oldest response on the return path reaches its target. At a shim it becomes readable on the
lane of the pending entry that its return reference names, unless the parked set covers it, or the hold of its
partition stores it. Where the generation differs, or the entry awaits no response, it is discarded, and the
partition's LateDiscards counts it. At the aperture, RESP, VALUE, busy and done of its slot change in one step. -/
def Obligations.Responses : Prop :=
  (∀ (s : State) (p lane : Nat), s.live = true → s.portBuilt p = true →
    ((s.port p).lanes.find? (fun q => q.lane = lane) = none → exec (.responseRead p lane) s = .next s) ∧
    (∀ r, (s.port p).lanes.find? (fun q => q.lane = lane) = some r →
      ((r.value.isSome = true ∧ r.beat2 = false) →
        exec (.responseRead p lane) s = .next (s.setPort p { s.port p with
          lanes := (s.port p).lanes.map fun q => if q = r then { q with beat2 := true } else q })) ∧
      ((r.value = none ∨ r.beat2 = true) → (s.port p).quiet →
        exec (.responseRead p lane) s = .next (s.setPort p { s.port p with
          lanes := (s.port p).lanes.erase r
          pend := (s.port p).pend.filter fun e => some e.entry ≠ r.entry })))) ∧
  (∀ (s : State), s.live = true →
    (∀ p r, s.portBuilt p = true → s.rets.find? (fun q => q.target = .port p) = some r → (s.port p).quiet →
      (∀ e, (s.port p).pend.find? (fun q => q.entry = (getFld r.retref 4 6 : BitVec 6).toNat && !q.arrived) = some e →
        (s.port p).generation = getFld r.retref 0 4 → e.lock = false →
        ∃ t, exec (.completionDelivery (.port p)) s = .next t ∧ t.rets = s.rets.erase r ∧
          SameBut [.rets, .ports] s t ∧
          (t.port p).pend = (s.port p).pend.map (fun q => if q.entry = e.entry then { q with arrived := true } else q) ∧
          ((s.port p).parks (s.pendRsp p e r.word r.value) = true →
            (t.port p).parkHeld = (s.port p).parkHeld ++ [s.pendRsp p e r.word r.value] ∧
            (t.port p).lanes = (s.port p).lanes) ∧
          ((s.port p).parks (s.pendRsp p e r.word r.value) = false → s.portHeld p = true →
            codeService e.opcode = false →
            (t.port p).holdStore = (s.port p).holdStore ++ [s.pendRsp p e r.word r.value] ∧
            (t.port p).lanes = (s.port p).lanes) ∧
          ((s.port p).parks (s.pendRsp p e r.word r.value) = false →
            (s.portHeld p = false ∨ codeService e.opcode = true) → (s.port p).laneClear e.lane e.op →
            (t.port p).lanes = (s.port p).lanes ++ [s.pendRsp p e r.word r.value])) ∧
      (((s.port p).pend.find? (fun q => q.entry = (getFld r.retref 4 6 : BitVec 6).toNat && !q.arrived) = none ∨
          (s.port p).generation ≠ getFld r.retref 0 4) → s.portPart p < 16 →
        exec (.completionDelivery (.port p)) s = .next
          (({ s with rets := s.rets.erase r } : State).setCfg 0x6000 13 (s.portPart p)
            ((s.cfg 0x6000 13 (s.portPart p) + 1) % 2 ^ 64)))) ∧
    (∀ r, s.rets.find? (fun q => q.target = .aperture) = some r → (s.slot r.sel.toNat).quiet →
      ((s.slot r.sel.toNat).busy = true → (s.slot r.sel.toNat).generation = getFld r.retref 0 4 →
        exec (.completionDelivery .aperture) s = .next
          (({ s with rets := s.rets.erase r } : State).setSlot r.sel.toNat
            { s.slot r.sel.toNat with
              resp := r.word
              value := r.value.getD 0
              busy := false
              done := true
              sent := none
              away := (s.slot r.sel.toNat).away.filter fun a => a.entry ≠ some 0 }))))

/-- R71, R75, R106 and R303, SET on a near EVENT that nothing waits on, as a lane presents it and at the end of the
release drain of one that carried the REL flag: the shim sets its flag and answers OK, and nothing but the shim
changes, and the hub's notes. -/
def Obligations.NearSets : Prop :=
  ∀ (s : State) (p n : Nat) (h : ShimOp), h.opcode = opCode .set → h.check = none → h.op.flags.near = true →
    n = (getFld h.op.handle 0 6 : BitVec 6).toNat → s.portBuilt p = true → s.live = true →
    s.portGate p (opCode .set) = none → (s.port p).nearFlips = [] → s.latched (s.portPart p) = false →
    (s.port p).nearFault.getLsbD n = false → (s.near p n).otype = .event → (s.port p).waitsOn n = [] →
    (s.port p).laneClear h.lane h.op → (s.port p).parked = [] → (∀ q, q < 16 → (s.part q).hold.held = false) →
    (h.op.flags.rel = false → h = s.presented h.lane h.context .set h.op → s.takesNow p h →
      ∃ t, exec (.set (coreReq p h.lane h.context h.op)) s = .next t ∧ t.near p n = (s.near p n).withSet true ∧
        (h.op.flags.noresp = false → Answered t p h.lane h.op .ok) ∧ SameBut ([.ports] ++ noteFields) s t) ∧
    ((s.port p).drains = [h] → (s.port p).quiet →
      ∃ t, exec (.relDrainEnd p) s = .next t ∧ t.near p n = (s.near p n).withSet true ∧ (t.port p).drains = [] ∧
        (h.op.flags.noresp = false → Answered t p h.lane h.op .ok) ∧ SameBut ([.ports] ++ noteFields) s t)

/-- R302, R305 and R218: the acknowledged invalidate makes the ACQ response that it covers readable; an
acknowledgement with no pulse outstanding is only counted. A core that removes its head ticket leaves the others in
their order, and a ticket that the hub has buffered for its queue takes the room. -/
def Obligations.InvalidatesAndTickets : Prop :=
  ∀ (s : State) (p : Nat), s.live = true → s.portBuilt p = true →
    (∀ r, (s.port p).inval = [(r, true)] → (s.port p).parked = [] → s.portHeld p = false → (s.port p).quiet →
      ∃ t, exec (.stgInvalAck p) s = .next t ∧ (t.port p).lanes = (s.port p).lanes ++ [r] ∧ (t.port p).inval = [] ∧
        SameBut [.ports] s t) ∧
    ((s.port p).stgInval = false → s.cfg 0x2B00 6 + 1 < 2 ^ 32 →
      exec (.stgInvalAck p) s = .next (s.setCfg 0x2B00 6 0 (s.cfg 0x2B00 6 + 1))) ∧
    (∀ k ks, (s.port p).tickets = k :: ks → s.portPart p < 16 →
      (s.buffered = [] → exec (.ticketRemove p) s = .next
        ((s.setPort p { s.port p with tickets := ks }).setCfg 0x6070 12 (s.portPart p)
          ((s.cfg 0x6070 12 (s.portPart p) + 1) % 2 ^ 64))) ∧
      (∀ b w, s.buffered = [b] → b.target = .shim p w → ks.length < 16 →
        ∃ t, exec (.ticketRemove p) s = .next t ∧ t.buffered = [] ∧
          (t.port p).tickets = ks ++ [{ data := b.data, wake := w }] ∧ SameBut [.ports, .cat, .buffered] s t))

/-- R292 and R307: a token bucket holds what its originator had and what the time since has brought, up to
BucketDepth; a release drain or an invalidate that has waited on the surroundings longer than ShimSurroundWait is
counted once. -/
def Obligations.BucketsAndLongWaits : Prop :=
  ∀ (s : State), s.live = true →
    (∀ p e, s.portBuilt p = true → e < s.build.engines → (s.port p).quiet →
      ∃ t, exec (.bucketRefill (.engine p e)) s = .next t ∧ SameBut [.ports] s t ∧
        ((t.port p).bucket e).tokens = min (s.cfg 0x2700 1)
          (((s.port p).bucket e).tokens + elapsed ((s.port p).bucket e).lastRefill s.clock / s.cfg 0x2700 2)) ∧
    (∀ g, g < 1024 → (s.slot g).quiet →
      ∃ t, exec (.bucketRefill (.slot g)) s = .next t ∧ SameBut [.slots] s t ∧
        (t.slot g).bucket.tokens = min (s.cfg 0x2700 1)
          ((s.slot g).bucket.tokens + elapsed (s.slot g).bucket.lastRefill s.clock / s.cfg 0x2700 2)) ∧
    (∀ p, s.portBuilt p = true → s.cfg 0x6030 4 = 0 → s.cfg 0x2B00 5 + 1 < 2 ^ 32 →
      (∀ d ds, (s.port p).drains = d :: ds → (s.port p).drainNoted = false →
        s.cfg 0x2B00 4 < elapsed d.since s.clock →
        exec (.shimSurroundWait p .drain) s = .next
          ((s.setPort p { s.port p with drainNoted := true }).setCfg 0x2B00 5 0 (s.cfg 0x2B00 5 + 1))) ∧
      ((s.port p).stgInval = true → (s.port p).invalNoted = false →
        s.cfg 0x2B00 4 < elapsed (s.port p).invalSince s.clock →
        exec (.shimSurroundWait p .invalidate) s = .next
          ((s.setPort p { s.port p with invalNoted := true }).setCfg 0x2B00 5 0 (s.cfg 0x2B00 5 + 1))) ∧
      ((s.port p).drains = [] ∨ (s.port p).drainNoted = true → exec (.shimSurroundWait p .drain) s = .next s))

/-- R77, R279, R308 and R309: the assertion of csp_rst_n clears the shim: its pending entries, responses, near
objects, parked set and held ops are gone, its generation advances, and its tickets and token buckets stay. Here the
port holds no lock and no op of it is pending, so that no message leaves. The release lets the shim take ops again. An
assertion that finds the reset asserted, and a release that finds it released, change nothing. What of the shim a
reset clears is in part DEDUCED (log entry 79). -/
def Obligations.CoreResets : Prop :=
  ∀ (s : State) (p : Nat), s.live = true → s.portBuilt p = true →
    ((s.port p).rstLow = true → exec (.coreReset p) s = .next s) ∧
    ((s.port p).rstLow = false → (s.port p).heldLocks = [] → (s.port p).pend = [] →
      ∃ t, exec (.coreReset p) s = .next t ∧ SameBut ([.ports, .parts] ++ noteFields) s t ∧
        t.port p =
          { rstLow := true
            generation := (s.port p).generation + 1
            tickets := (s.port p).tickets
            buckets := (s.port p).buckets
            away := (s.port p).away.filter fun a => a.entry.isNone
            checks := s.checkedBarriers p }) ∧
    ((s.port p).rstLow = false → exec (.coreResetRelease p) s = .next s) ∧
    ((s.port p).rstLow = true → (s.port p).quiet →
      exec (.coreResetRelease p) s = .next (s.setPort p { s.port p with rstLow := false }))

/-- R146, R369 and R431, the checks in turn: a near object whose parity is good is passed over; the reset check of a
registered barrier breaks it if an arrival bit of the port shows an arrival of the round, and else only ends; an ARRW
across a level-1 route whose deadline has passed is answered with TIMEOUT, and its later completion is awaited to be
discarded. That each check follows the reset that lists it, and that the deadline stays at the shim, is DEDUCED (log
entries 84 and 97). -/
def Obligations.ChecksInTurn : Prop :=
  ∀ (s : State) (p : Nat), s.live = true → s.portBuilt p = true →
    ((s.port p).nearFlips = [] → exec (.nearParityCheck p) s =
      .next (s.setPort p { s.port p with nearNext := ((s.port p).nearNext + 1) % 64 })) ∧
    (∀ i, i < 131072 → s.flips = [] →
      ((s.port p).checks.contains i = false →
        ∃ t, exec (.registeredBarrierResetCheck p i) s = .next t ∧ t.objs = s.objs ∧ SameBut [.ports] s t) ∧
      ((s.port p).checks.contains i = true → (s.obj i).otype = .barrier → (s.obj i).isRegistered = true →
        (s.obj i).faulted = false → (s.obj i).broken = false → s.isBody i = false →
        ((∀ e n, e < 8 → (s.obj i).slotOf p e = some n → (s.obj i).body.getLsbD n = (s.obj i).sense) →
          ∃ t, exec (.registeredBarrierResetCheck p i) s = .next t ∧
            (t.port p).checks = (s.port p).checks.filter (fun j => j ≠ i) ∧ SameBut [.ports] s t) ∧
        ((∃ e n, e < 8 ∧ (s.obj i).slotOf p e = some n ∧ (s.obj i).body.getLsbD n ≠ (s.obj i).sense) →
          s.queue i = [] → (s.obj i).hasParent = false →
          ∃ t, exec (.registeredBarrierResetCheck p i) s = .next t ∧
            t.obj i = { s.obj i with broken := true } ∧ SameBut [.ports, .objs] s t))) ∧
    (∀ n e, s.walks = true → (s.port p).quiet →
      (s.port p).pend.find? (fun q => q.entry = n && !q.arrived && s.farExpired q) = some e →
      (s.port p).laneClear e.lane e.op → (s.port p).parked = [] → (∀ q, q < 16 → (s.part q).hold.held = false) →
      p ≠ 128 →
      ∃ t, exec (.w1ArrwDeadline p n) s = .next t ∧ Answered t p e.lane e.op .timeout ∧
        SameBut ([.ports] ++ noteFields) s t)

/-- R116, R258, R259 and R427, what the waiter walker and the scrub do. A queued op whose deadline has passed leaves
its queue and is answered with TIMEOUT; one whose deadline has not passed, or that has none, stays. A walk marks as
aged every waiter whose stamp lies 2^22 units or more behind. The scrub leaves a good word as it is, and writes one
with one or two wrong bits back with a count. -/
def Obligations.WalkerEvents : Prop :=
  ∀ (s : State), s.walks = true →
    (∀ n w, n < 131072 → s.waiters.find? (fun q => q.num = n) = some w →
      ((w.dlValid = false ∨ s.passed w.deadline = false) → exec (.waiterExpiry n) s = .next s) ∧
      (w.dlValid = true → s.passed w.deadline = true → w.kind = .queued → s.queue w.object = [w] →
        w.source = srcPort → origHub w.originator = s.hub → w.flags.noresp = false →
        Brings (.waiterExpiry n) s { s with
          waiters := s.waiters.filter fun q => q.num ≠ n
          rets := s.rets ++ [{ target := .port (getFld w.originator 3 7 : BitVec 7).toNat
                               sel := getFld w.originator 0 10
                               retref := getFld w.operandB 0 10
                               word := respWord .timeout w.tag 0
                               value := valueBeat w.opcode .timeout 0 }] })) ∧
    exec .agedWalk s = .next { s with
      waiters := s.waiters.map fun w =>
        if 2 ^ 22 ≤ (s.time.stamp - w.stamp).toNat then { w with aged := true } else w } ∧
    (∀ w, wordBuilt w = true → w ≠ .config 24575 →
      (s.flips = [] → exec (.scrubAccess w) s = .next s) ∧
      (∀ n, s.flips = [(w, n)] → n = 1 ∨ n = 2 → s.cfg 0x7010 (correctedSub w) + 1 < 2 ^ 32 →
        exec (.scrubAccess w) s = .next (({ s with flips := [] } : State).setCfg 0x7010 (correctedSub w) 0
          (s.cfg 0x7010 (correctedSub w) + 1))))

/-- R193, R195 and R200, what time does to loans. A token whose oldest waiting TAKE has starved for LoanRecallDelay
has its open loan recalled. A ledger entry that has been idle for LoanIdleTime returns what it holds and is freed.
When the route between two hubs has been lost for LoanLinkLossTime, the home marks its lender entry LOST and the
borrower frees its ledger entry; here in a partition whose job-fault latch is set already, so that the loss is only
reported. -/
def Obligations.LoanTimes : Prop :=
  ∀ (s : State), s.live = true →
    (∀ i w e, i < 131072 → (s.queue i).find? Waiter.takes = some w → (s.obj i).loanable = true →
      (s.obj i).faulted = false → s.cfg 0x2300 3 (s.obj i).partition.toNat ≤ elapsed w.since s.clock →
      (s.obj i).amount < Int.ofNat w.operand.toNat → (s.obj i).word1 ≠ 0 → w.kind ≠ .loanReq →
      s.lenders.filter (fun e => e.token = i) = [e] → e.state = .opened →
      Brings (.loanRecallDelay i) s
        ((s.setLender { e with state := .recalling }).send
          { hdr := s.hdrTo e.borrower (s.partOfIndex i)
            body := .loan .recall
              { s.loanBody (s.partOfIndex i) e.seq e.borrower (mkHandle s.hub i) with amountA := 0 } })) ∧
    (∀ n e, n < 4096 → s.ledgers.find? (fun x => x.num = n) = some e → s.ledgerQueue n = [] →
      (e.req = false → s.cfg 0x2300 4 e.partition.toNat ≠ 0 → s.cfg 0x2300 4 e.partition.toNat ≤ elapsed e.idleSince s.clock →
        Brings (.loanIdleReturn n) s
          (({ s with ledgers := s.ledgers.filter fun x => x.num ≠ n } : State).send
            { hdr := s.hdrTo (handleHub e.token) e.partition.toNat
              body := .loan .ret { s.loanBody e.partition.toNat e.seq s.hub e.token with
                reason := 1
                amountA := e.balance
                amountB := e.spent } })) ∧
      ((e.req = true ∨ s.cfg 0x2300 4 e.partition.toNat = 0 ∨
          elapsed e.idleSince s.clock < s.cfg 0x2300 4 e.partition.toNat) →
        exec (.loanIdleReturn n) s = .next s)) ∧
    (∀ h, (∀ p, (s.part p).reset.step ≠ .recalling) →
      (∀ e, s.lenders = [e] → s.ledgers = [] → e.borrower = h → e.state ≠ .lost →
        s.latched (s.partOfIndex e.token) = true → s.lostFor h (s.cfg 0x2300 5 (s.partOfIndex e.token)) = true →
        ∃ t, exec (.loanLinkLoss h) s = .next t ∧ t.lenders = [{ e with state := .lost }] ∧
          SameBut ([.lenders, .parts] ++ noteFields) s t) ∧
      (∀ e, s.ledgers = [e] → s.lenders = [] → s.ledgerQueue e.num = [] → handleHub e.token = h →
        s.latched e.partition.toNat = true → s.lostFor h (s.cfg 0x2300 5 e.partition.toNat) = true →
        ∃ t, exec (.loanLinkLoss h) s = .next t ∧ t.ledgers = [] ∧
          SameBut ([.ledgers, .parts] ++ noteFields) s t))

/-- R155, R156 and R251, what a lost route does to barriers and locks. A child barrier whose forwarded arrival has had
no route to its parent for TreeLinkLossTime goes BROKEN, and so does a parent whose grant has waited that long. A lock
whose holder's hub has had no route for LockLinkLossTime is freed and marked abandoned; here in a partition whose
job-fault latch is set already, so that the loss is only reported. -/
def Obligations.LostRoutes : Prop :=
  ∀ (s : State), s.live = true →
    (∀ i, i < 131072 → (s.obj i).otype = .barrier → s.awaitsGrant i = true → (s.obj i).broken = false →
      (s.obj i).faulted = false →
      s.lostFor (handleHub (s.obj i).parent) (s.cfg 0x2200 1 (s.obj i).partition.toNat) = true →
      ∃ t, exec (.treeLinkLoss i) s = .next t ∧ t.objs = (s.setObj i { s.obj i with broken := true }).objs) ∧
    (∀ i w, i < 131072 → s.undelivered i = some w → (s.obj i).broken = false →
      ∃ t, exec (.treeGrantUndeliverable i) s = .next t ∧
        t.objs = (s.setObj i { s.obj i with broken := true }).objs ∧
        (s.queue i = [] → (s.obj i).hasParent = false → t.waitMsgs = s.waitMsgs.erase w)) ∧
    (∀ i r h, s.objs = [(i, r)] → r.otype = .lock → r.held = true → origHub r.holder = h → r.inhPrio = 0 →
      s.queue i = [] → s.latched r.partition.toNat = true → s.lostFor h (s.cfg 0x2500 2 r.partition.toNat) = true →
      (∀ q, (s.port q).pend = [] ∧ (s.port q).heldLocks = []) → (∀ g, (s.slot g).sent = none) →
      ∃ t, exec (.lockLinkLoss h) s = .next t ∧
        t.obj i = { r.setLock 0 r.prio r.grantTime r.acqCount false r.holder with abandoned := true } ∧
        SameBut ([.objs, .parts] ++ noteFields) s t)

/-- R379 and R381, what time does to routes and held links. A link that is still in HOLD after LinkHoldTime goes DOWN;
here it has nothing to abandon, and no message waits. After RouteSettleTime the message that waited out a settle time
leaves. A message that has had no usable route for RouteStrandTime is discarded; here it is no op, in a partition
whose job-fault latch is set already, and no op of this hub awaits an answer. -/
def Obligations.RouteTimes : Prop :=
  ∀ (s : State), s.live = true →
    (∀ c, s.linkBuilt c = true → (s.link c).state = .hold → s.linkCfg c 12 ≤ elapsed (s.link c).since s.clock →
      (s.link c).replay = [] → (s.link c).txq = [] → (s.link c).partials = [] → (s.link c).catWaits = [] →
      (s.link c).phyUp = false → s.waitMsgs = [] → s.changes = [] →
      ∃ t, exec (.linkHoldExpiry c) s = .next t ∧ SameBut ([.links, .lostSince, .sync, .settles] ++ noteFields) s t ∧
        t.link c = { s.link c with state := .down, version := 0, keepReplay := false, replays := 0 }) ∧
    (∀ c w k t0, s.linkBuilt c = true → s.settles = [(k, t0)] → entryPrimary (s.route k) = c →
      s.cfg 0x5100 4 ≤ elapsed t0 s.clock → s.changes = [] → s.waitMsgs = [w] → w.why = .settling → w.key = k →
      exec (.routeSettle c) s = .next
        (({ s with
            settles := []
            waitMsgs := [] } : State).send w.msg w.about w.fwd)) ∧
    (∀ w h b, s.waitMsgs = [w] → w.msg.hdr.dst = h → w.why = .stranded → w.about = none →
      w.msg.body = .cpl b → s.cfg 0x5100 5 ≤ elapsed w.since s.clock → s.latched w.msg.hdr.partition.toNat = true →
      (∀ q, (s.port q).pend = []) → (∀ g, (s.slot g).sent = none) →
      ∃ t, exec (.routeStrand h) s = .next t ∧ t.waitMsgs = [] ∧ SameBut ([.waitMsgs, .parts] ++ noteFields) s t)

/-- R356, R357, R358 and R361, the timers of a link. When its oldest kept flit has not been acknowledged in time, an
UP link sends every kept flit again, in order; after LinkRetryLimit replays it goes to HOLD and asks its PHY to
retrain. A link that negotiates sends its NEG again after 100 ns, and notes once that 100 µs have passed. A receiver
that owes an acknowledgement or credits sends them in a CTRL flit. -/
def Obligations.LinkTimers : Prop :=
  ∀ (s : State) (c : Nat), s.live = true → s.linkBuilt c = true →
    (∀ k ks, (s.link c).replay = k :: ks → (s.link c).state = .up → replayLimit c ≤ elapsed k.sentAt s.clock →
      (s.link c).owed = [0, 0, 0, 0] →
      ∃ t, exec (.replayTimeout c) s = .next t ∧ SameBut [.links, .cat, .out, .free] s t ∧
        (t.link c).replays = (s.link c).replays + 1 ∧
        t.out = s.out ++ (k :: ks).map fun k => .flit c (Flit.encode
          { ftype := BitVec.ofNat 4 (4 + k.flit.buf)
            head := k.flit.head
            fseq := k.seq
            aseq := (s.link c).aseq
            crv := false
            crb := 0
            payload := k.flit.payload })) ∧
    ((s.link c).state = .up → s.linkCfg c 11 ≤ (s.link c).replays → s.waitMsgs = [] →
      ∃ t, exec (.retryLimit c) s = .next t ∧ SameBut ([.links, .lostSince, .sync] ++ noteFields) s t ∧
        t.link c = { s.link c with
          state := .hold
          retrain := true
          keepReplay := true
          since := s.clock
          sawNeg := false
          timeoutNoted := false }) ∧
    ((s.link c).negotiates = true →
      (nsToTime 100 ≤ elapsed (s.link c).negSent s.clock →
        ∃ t f, exec (.negResend c) s = .next t ∧ SameBut [.links, .cat, .out] s t ∧ (t.link c).negSent = s.clock ∧
          t.out = s.out ++ [.flit c (Flit.encode f)] ∧ f.ftype = 2 ∧
          f.payload = Neg.encode
            { id := s.hub
              weft := isWeft c
              vmin := BitVec.ofNat 2 (s.linkCfg c 2)
              vmax := BitVec.ofNat 2 (s.sentVmax c)
              ack := (s.link c).sawNeg
              agreed := if (s.link c).sawNeg then (s.link c).version else 0
              lanes := if isWeft c then (s.link c).lanes else 0
              credits := creditField [bufferCap c, bufferCap c, bufferCap c, bufferCap c]
              resume := (s.link c).keepReplay
              rxNext := (s.link c).rxNext }) ∧
      (elapsed (s.link c).negSent s.clock < nsToTime 100 → exec (.negResend c) s = .next s)) ∧
    ((s.link c).state = .negotiating → (s.link c).timeoutNoted = false →
      nsToTime 100000 ≤ elapsed (s.link c).since s.clock →
      Brings (.negotiationTimeout c) s (s.setLink c { s.link c with timeoutNoted := true })) ∧
    ((s.link c).state = .up → (s.link c).ackOwed = true ∨ (s.link c).creditBuf.isSome = true →
      ∃ t f, exec (.ackCtrlSend c) s = .next t ∧ SameBut [.links, .cat, .out] s t ∧
        (t.link c).ackOwed = false ∧ (t.link c).owed = [0, 0, 0, 0] ∧ t.out = s.out ++ [.flit c (Flit.encode f)] ∧
        f.ftype = 1 ∧ f.payload = ctrlPayload (s.link c).rxNext false (creditField (s.link c).owed))

/-- R361, R372 and R378, the PHY. phy_up of a link in TRAINING begins a negotiation with a NEG flit; its fall takes an
UP link to HOLD, which keeps what it may have to send again, and a link that has never been UP back to TRAINING. -/
def Obligations.PhyEvents : Prop :=
  ∀ (s : State) (c : Nat) (lanes : BitVec 3), s.live = true → s.linkBuilt c = true → s.waitMsgs = [] →
    ((s.link c).phyUp = false → (s.link c).state = .training → s.linkOut c = false →
      ∃ t f, exec (.phyUp c lanes) s = .next t ∧ SameBut ([.links, .lostSince, .sync, .out] ++ noteFields) s t ∧
        (t.link c).state = .negotiating ∧ (t.link c).phyUp = true ∧
        (t.link c).lanes = (if isWeft c then lanes else 0) ∧ t.out = s.out ++ [.flit c (Flit.encode f)] ∧ f.ftype = 2) ∧
    ((s.link c).phyUp = true → (s.link c).state = .up →
      ∃ t, exec (.phyDown c) s = .next t ∧ SameBut ([.links, .lostSince, .sync] ++ noteFields) s t ∧
        t.link c = { s.link c with
          state := .hold
          phyUp := false
          retrain := false
          keepReplay := true
          since := s.clock
          sawNeg := false
          timeoutNoted := false }) ∧
    ((s.link c).phyUp = true → (s.link c).state = .negotiating → (s.link c).wasUp = false →
      (s.link c).catWaits = [] →
      ∃ t, exec (.phyDown c) s = .next t ∧ SameBut ([.links, .lostSince, .sync] ++ noteFields) s t ∧
        t.link c = { s.link c with
          state := .training
          phyUp := false
          retrain := false
          version := 0 }) ∧
    ((s.link c).phyUp = false → exec (.phyDown c) s = .next s)

/-- R385 to R388 and R390, what a hub does for fabric time. A child whose exchange is due sends a REQ with its
exchange number and T1. A hub answers a REQ on a link that is UP with a RSP of the same exchange number, T2 and T3. A
child takes the RSP of its exchange as a sample of offset and delay, keeps the last eight samples, and uses the one of
smallest delay; where it has no time yet or lies 1 us or more away, it steps its time by the offset. A HOLDOVER longer
than its limit is noted once. That a step of time clears the samples is DEDUCED (log entry 69). -/
def Obligations.FabricTime : Prop :=
  ∀ (s : State),
    (∀ c, s.live = true → s.parentLink = some c → s.cfg 0x5200 1 = 0 →
      (s.sync.asked = true → s.cfg 0x5200 4 ≤ elapsed s.sync.t1 s.time) →
      ∃ t, ∃ f : Flit, exec .timeExchange s = .next t ∧
        t.sync = { s.sync with xnum := s.sync.xnum + 1, asked := true, t1 := s.linkTime c s.time } ∧
        t.out = s.out ++ [.flit c f.encode] ∧ f.ftype = 3 ∧
        f.payload = timePayload 1 (s.sync.xnum + 1) (s.linkTime c s.time) 0 ∧
        SameBut [.sync, .cat, .links, .out] s t) ∧
    (s.live = true → s.timeState = .holdover → s.sync.holdNoted = false →
      s.cfg 0x5200 9 < elapsed s.sync.holdSince s.clock →
      Brings .timeHoldoverLimit s { s with sync := { s.sync with holdNoted := true } }) ∧
    (∀ c x, ∀ f : Flit, s.hears c x f → (s.link c).atRest → f.ftype = 3 → (getFld f.payload 188 4 : BitVec 4) = 1 →
      ∃ t, ∃ g : Flit, exec (.timeReq c x false) s = .next t ∧ t.out = s.out ++ [.flit c g.encode] ∧ g.ftype = 3 ∧
        g.payload = timePayload 2 (getFld f.payload 180 8) (s.linkTime c s.time) (s.linkTime c s.time) ∧
        SameBut [.cat, .links, .out] s t) ∧
    (∀ c x, ∀ f : Flit, s.hears c x f → (s.link c).atRest → f.ftype = 3 → (getFld f.payload 188 4 : BitVec 4) = 2 →
      (s.heard c f).parentLink = some c → (s.heard c f).cfg 0x5200 1 = 0 → s.sync.asked = true →
      getFld f.payload 180 8 = s.sync.xnum →
      ∀ (theta delta used : Int) (samples : List (Int × Int)),
        theta = ((((getFld f.payload 64 64 : BitVec 64) - s.sync.t1) - (s.time - (getFld f.payload 0 64 : BitVec 64)) -
          BitVec.ofNat 64 ((s.heard c f).linkCfg c 9)).sshiftRight 1).toInt →
        delta = (((s.time - s.sync.t1) -
          ((getFld f.payload 0 64 : BitVec 64) - (getFld f.payload 64 64 : BitVec 64))).sshiftRight 1).toInt →
        samples = (s.sync.samples ++ [(theta, delta)]).drop (s.sync.samples.length + 1 - 8) →
        used = ((bestSample samples).map Prod.fst).getD theta →
        ((s.sync.state ≠ .unsynced → -256000 ≤ used → used ≤ 256000 →
          ∃ t, exec (.timeRsp c x false) s = .next t ∧
            t.sync = { s.sync with
              samples := samples
              good := if -512 < used ∧ used < 512 then s.sync.good + 1 else 0
              offset := BitVec.ofInt 64 used
              asked := false
              state := .locked
              slew := used } ∧
            SameBut [.sync, .cat, .links, .out] s t) ∧
         (s.sync.state = .unsynced →
          ∃ t, exec (.timeRsp c x false) s = .next t ∧ t.time = shiftTime used s.time ∧ t.sync.asked = false ∧
            t.sync.samples = [] ∧
            t.waiters = s.waiters.map (fun w => { w with
              stamp := shiftStamp used w.stamp
              deadline := if w.dlValid then shiftDeadline used w.deadline else w.deadline }) ∧
            t.ports = s.ports.remap portNone (Port.shifted used) ∧ t.slots = s.slots.remap slotNone (Slot.shifted used) ∧
            SameBut ([.sync, .time, .waiters, .ports, .slots, .inbox, .waitMsgs, .links, .out] ++ noteFields) s t)))

/-- R412, R414, R460, R461, R479 and R499, what time does to a partition. A quiesce that lasts PartQuiesceWait is
noted once. A reset no longer awaits a peer whose route has been lost for RouteStrandTime, and is over when it was the
last. An armed shelf latches its counters when its time comes; the hubs that have not answered its arming within
RouteStrandTime count as failed. A HOLD of scope all whose acknowledgements are missing for as long completes with
UNREACHABLE. A Stocktake round that is due asks every other hub of the partition and takes this hub's own report. -/
def Obligations.PartitionDeadlines : Prop :=
  ∀ (s : State) (p : Nat), s.live = true → p < 16 →
    ((s.part p).quiesceReq = true → (s.part p).quiesceNoted = false →
      s.cfg 0x3010 12 p ≤ elapsed (s.part p).quiesceSince s.clock →
      Brings (.partQuiesceWait p) s (s.setPart p { s.part p with quiesceNoted := true })) ∧
    (∀ h t, s.routeLostFor h = some t → s.cfg 0x5100 5 ≤ t → (s.part p).reset.peers.contains h = true →
      Brings (.resetPeerTimeout p h) s (s.setPart p { s.part p with
        reset := { (s.part p).reset with
          peers := (s.part p).reset.peers.filter fun q => q ≠ h
          step := if (s.part p).reset.step = .awaitPeers ∧ ((s.part p).reset.peers.filter fun q => q ≠ h) = [] then .idle
                  else (s.part p).reset.step } })) ∧
    (∀ k, k < 2 →
      ((s.shelf p k).state = .armed → (s.shelf p k).mode = false → (s.shelf p k).armTime.toNat ≤ s.time.toNat →
        (s.shelf p k).asker = none →
        Brings (.shelfTimeLatch p k) s (s.setShelf p k { s.shelf p k with
          state := .latched
          status := 0
          latches := (s.shelf p k).latches + 1
          latchTime := s.time
          round := 0
          counters := s.shelfCounters p
          generation := (s.shelf p k).generation + 1 })) ∧
      ((s.shelf p k).peers ≠ [] → s.cfg 0x5100 5 ≤ elapsed (s.shelf p k).since s.clock →
        exec (.shelfPeerTimeout p k) s = .next (s.setShelf p k { s.shelf p k with
          peers := []
          peersFailed := (s.shelf p k).peersFailed + BitVec.ofNat 32 (s.shelf p k).peers.length }))) ∧
    (∀ e, (s.part p).hold.xs = [e] → e.peers ≠ [] → s.cfg 0x5100 5 ≤ elapsed e.since s.clock →
      (e.waiter = .nobody →
        Brings (.holdPeerTimeout p) s (s.setPart p { s.part p with hold := { (s.part p).hold with xs := [] } })) ∧
      (∀ q n r, e.waiter = .op q n → (s.port q).pend.find? (fun r => r.entry = n && !r.arrived) = some r →
        codeService r.opcode = true → (s.port q).laneClear r.lane r.op →
        ∃ t, exec (.holdPeerTimeout p) s = .next t ∧ Answered t q r.lane r.op .unreachable ∧ (t.part p).hold.xs = [] ∧
          SameBut ([.parts, .ports] ++ noteFields) s t)) ∧
    (s.stockRuns p = true → s.cfg 0x6070 3 p ≤ elapsed (s.part p).stock.startedAt s.clock → (s.part p).stock.scope = [] →
      exec (.stocktakeRound p) s = .next ((s.setPart p { s.part p with
        stock := { (s.part p).stock with
          round := (s.part p).stock.round + 1
          startedAt := s.clock
          scope := hubOrder (s.hub :: (s.namedHubs p).filter fun h => h ≠ s.hub)
          routed := decide ((((s.namedHubs p).filter fun h => h ≠ s.hub).filter fun h => s.reachableAt h 3) =
            (s.namedHubs p).filter fun h => h ≠ s.hub)
          reports := [(s.hub, s.stockReport p ((s.part p).stock.round + 1) s.hub)] } }).sendStock p .query
        (stockBody ((s.part p).stock.round + 1) s.hub)
        (((s.namedHubs p).filter fun h => h ≠ s.hub).filter fun h => s.reachableAt h 3)))

/-- R485 and R293, the two waits that a limit ends. A Deposit rule that has held a release for DepositHoldLimit counts
a timeout and holds it no longer, and if no other rule holds it the release goes on; here while the Folio records
nothing. A write of an op that an empty bucket has held at its issue slot for ApertureStallLimit is accepted, and its
op answered with STORM_LIMITED; `u` is the hub once the write is accepted and its slot is busy. That a held write
spends and waits as an op write does is DEDUCED (log entries 81 and 82). -/
def Obligations.HoldsThatEnd : Prop :=
  ∀ (s : State), s.live = true →
    (∀ p k d, p < 16 → k < 8 → d = (s.part p).deposit k → d.waiting = true → s.cfg 0x6060 11 p ≠ 0 →
      s.cfg 0x6060 11 p ≤ elapsed d.since s.clock → d.timeouts.toNat + 1 < 2 ^ 32 → s.cfg 0x6030 4 = 0 →
      ∀ u, u = s.setPart p ((s.part p).setDeposit k { d with timeouts := d.timeouts + 1, waiting := false }) →
      (((u.obj d.index).otype = .barrier ∧ (u.obj d.index).faulted = false ∧
          (u.obj d.index).arrivals = (u.obj d.index).expected ∧ u.depositHolds d.index = false) →
        exec (.depositHoldLimit p k) s = .next (u.releaseOn d.index d.cause)) ∧
      (((u.obj d.index).otype ≠ .barrier ∨ (u.obj d.index).faulted = true ∨
          (u.obj d.index).arrivals ≠ (u.obj d.index).expected ∨ u.depositHolds d.index = true) →
        exec (.depositHoldLimit p k) s = .next u)) ∧
    (∀ g h c b a u, g < 1024 → (s.slot g).stalled = [h] → h.opcode = opCode c → c ≠ .fence →
      checkOne (some c) h.op false true = none → opPosted (some c) h.op.flags = false → h.op.flags.noresp = false →
      (s.slot g).busy = false → (s.slot g).fence = none → b = s.refilled (s.slot g).bucket → b.tokens = 0 →
      s.cfg 0x2700 3 ≤ elapsed h.since s.clock →
      u = (((s.setSlot g { s.slot g with
          stalled := []
          bucket := { b with longest := max b.longest (elapsed h.since s.clock) } }).pcount 19 (s.slotPart g)
            (if h.op.flags.x2 then 32 else 16)).drive (.axiResp (some g) none false false)).modSlot g
              (fun x => x.begin h s.time) →
      u.gate (s.slotPart g) h.opcode = none → u.absolute (u.slotHome g h 0) = some a →
      ∃ t, exec (.apertureStallLimit g) s = .next t ∧ t.out = u.out ∧ (t.slot g).stalled = [] ∧
        t.rets = s.rets ++ [{ target := .aperture
                              sel := getFld a.originator 0 10
                              retref := a.retref
                              word := respWord .stormLimited a.op.tag 0
                              value := valueBeat a.opcode .stormLimited 0 }] ∧
        SameBut ([.slots, .rets, .out] ++ noteFields) s t)

/-- R441, R443 and R445, a restart of a stage below the link layers that captures nothing, and the retry of one that
is out. A restart whose test passes clears the count of failed restarts and puts the stage into service; one whose
test fails adds one to the count, and the third in a row takes the stage out, here for the stages that serve no
partition. What a restart discards is named by the command (log entry 91). -/
def Obligations.StageRestarts : Prop :=
  ∀ (s : State) (k port : Nat), s.live = true → s.refLost = false → s.stageThere k port = true → k < 30 → k ≠ 29 →
    Brings (.stageRestart k port [] true) s { s with
      stuck := s.stuck.filter fun j => j ≠ k
      stageFails := s.stageFails.put natNone (stageKey k port) 0
      stageOut := s.stageOut &&& ~~~(BitVec.ofNat 32 (2 ^ k)) } ∧
    (s.fails k port < 2 →
      Brings (.stageRestart k port [] false) s { s with
        stuck := s.stuck.filter fun j => j ≠ k
        stageFails := s.stageFails.put natNone (stageKey k port) (s.fails k port + 1) }) ∧
    (s.fails k port = 2 → k = 26 ∨ k = 27 →
      Brings (.stageRestart k port [] false) s { s with
        stuck := s.stuck.filter fun j => j ≠ k
        stageFails := s.stageFails.put natNone (stageKey k port) 3
        stageOut := s.stageOut ||| BitVec.ofNat 32 (2 ^ k) }) ∧
    (s.stageIsOut k = true → 3 ≤ s.fails k port →
      Brings (.stageRetry k port true) s { s with
        stuck := s.stuck.filter fun j => j ≠ k
        stageFails := s.stageFails.put natNone (stageKey k port) 0
        stageOut := s.stageOut &&& ~~~(BitVec.ofNat 32 (2 ^ k)) } ∧
      Brings (.stageRetry k port false) s { s with stuck := s.stuck.filter fun j => j ≠ k })

/-- R286 to R288, the event inputs. A change of the filtered level is noted. In edge mode an active edge makes a SIG
at once, or after the rest of the rate interval; in level mode a change applies the level with SET or CLR at once, or
at the end of the interval. The op acts on an EVENT of this hub that nothing waits on, and no one receives a response.
The binding to an EVENT of this hub and the counts are in part DEDUCED (log entry 83). -/
def Obligations.EventInputs : Prop :=
  ∀ (s : State) (i k : Nat) (x : EvInput) (u : State) (r : ObjRec), i < 16 → s.live = true → s.refLost = false →
    x = s.ev i → r = s.obj k → s.queue k = [] →
    (∀ l, l ≠ x.level →
      (s.evCfg i 1 = 0 → exec (.evInputChange i l) s = .next (s.setEv i { x with level := l })) ∧
      (s.evCfg i 1 ≠ 0 → s.evCfg i 2 ≠ 1 → l = decide (s.evCfg i 3 ≠ 0) → x.deferred = false →
        (s.evFree i = false →
          exec (.evInputChange i l) s = .next (s.setEv i { x with level := l, deferred := true })) ∧
        (s.evFree i = true → u = s.setEv i { x with level := l, lastOp := some s.clock, deferred := false } →
          u.inputHits i .sig k →
          Brings (.evInputChange i l) s
            (u.setObj k ((r.countSig.withSet true).wrote (s.orig (0x3F0 + i)) s.time)))) ∧
      (s.evCfg i 1 ≠ 0 → s.evCfg i 2 = 1 → (s.evFree i = false ∨ x.changes ≠ 0) →
        exec (.evInputChange i l) s = .next (s.setEv i { x with level := l, changes := x.changes + 1 }))) ∧
    (x.deferred = true → s.evCfg i 1 ≠ 0 → s.evFree i = true →
      u = s.setEv i { x with lastOp := some s.clock, deferred := false } → u.inputHits i .sig k →
      Brings (.evDeferredSig i) s (u.setObj k ((r.countSig.withSet true).wrote (s.orig (0x3F0 + i)) s.time))) ∧
    (x.changes = 1 → s.evCfg i 1 ≠ 0 → s.evFree i = true → s.evActive i ≠ x.applied →
      u = s.setEv i { x with lastOp := some s.clock, applied := s.evActive i, changes := 0 } →
      (s.evActive i = true → u.inputHits i .set k →
        Brings (.evLevelApply i) s (u.setObj k ((r.countSig.withSet true).wrote (s.orig (0x3F0 + i)) s.time))) ∧
      (s.evActive i = false → u.inputHits i .clr k → u.levelHolds k = false →
        Brings (.evLevelApply i) s (u.setObj k ((r.withSet false).wrote (s.orig (0x3F0 + i)) s.time))))

/-- R333, R472 and R522, three more waits that end. The interrupt that a ring owes is pulsed at the end of its
holdoff. An armed Folio triggers when fabric time reaches FolioTrigTime, and stores its MARKER. The packets of an MCTP
message left incomplete are dropped and counted, at least one; how many is left open. The MARKER of a trigger is
stored whatever the kind mask, which is DEDUCED (log entries 31 and 88). -/
def Obligations.LateEnds : Prop :=
  ∀ (s : State), s.live = true →
    (∀ r t, r < 17 → (s.ring r).owed = true → (s.ring r).lastPulse = some t → s.ringCfg r 7 ≤ elapsed t s.clock →
      s.refLost = false → s.ringCfg r 6 ≠ 0 →
      exec (.notifyIrqHoldoff r) s = .next
        ((s.setRing r { s.ring r with owed := false, lastPulse := some s.clock }).drive (.irq r))) ∧
    (s.folio.state = .armed → s.cfg 0x6030 8 ≠ 0 → s.cfg 0x6030 8 ≤ s.time.toNat → s.cfg 0x6030 1 ≠ 0xFF →
      s.folio.post.length + 1 < s.folioPostCap →
      exec .folioTrigTime s = .next { s with folio := { s.folio with
        state := .triggered
        trigTimeSeen := s.time
        post := s.folio.post ++ [{ s.folioOf 0x15 (s.cfg 0x6030 1) with
          aux := 2, data := BitVec.ofNat 64 (s.cfg 0x6030 8), trig := true }]
        lostFlag := false
        generation := s.folio.generation + 1 } }) ∧
    (∀ e g n, n = 1 + Config.incompletePackets s.free →
      ∃ t, exec (.mctpReassemblyTimeout e g) s = .next t ∧
        (s.cfg 0x2C01 5 + n < 2 ^ 32 → t.cfg 0x2C01 5 = s.cfg 0x2C01 5 + n) ∧ SameBut [.cat, .free] s t)

/-- R19, R546 to R550 and R555, the reset of the hub, the start instant and the end of start-up. HUB_RESET returns
every store to its reset value, whatever state the hub is in: the levels of the pins stand, and CatPrincipal stays
unless a supply failed. STARTUP samples the identity and the absent ports, and the time starts; it does nothing
outside reset or without tb_refclk. STARTUP_COMPLETE makes the hub operational if tb_ref_sel is no reserved code; here
with no link whose PHY is up and no op presented meanwhile. That the time counts from STARTUP is the model's choice.
(Log entries 51 and 52.) -/
def Obligations.ResetAndStart : Prop :=
  ∀ (s : State), s.storesWf = true →
    (∀ supply, ∃ t, exec (.hubReset supply) s = .next t ∧ t.phase = .inReset ∧ t.running = false ∧ t.time = 0 ∧
      t.objs = [] ∧ t.wideBits = [] ∧ t.waiters = [] ∧ t.lenders = [] ∧ t.ledgers = [] ∧ t.slots = [] ∧ t.rets = [] ∧
      t.buffered = [] ∧ t.mgr = [] ∧ t.devMap = [] ∧ t.routes = [] ∧ t.inbox = [] ∧ t.waitMsgs = [] ∧ t.views = [] ∧
      t.partCount = 1 ∧ t.stageOut = 0 ∧ t.folio = {} ∧ t.sync = {} ∧
      (∀ p, t.port p = { rstLow := (s.port p).rstLow }) ∧
      (∀ c, t.link c = { phyUp := (s.link c).phyUp, lanes := (s.link c).lanes }) ∧
      (∀ p, t.part p = { quiesceAck := (s.part p).quiesceAck }) ∧ (∀ i, t.ev i = { level := (s.ev i).level }) ∧
      (∀ i b p, t.cfg i b p = if supply = false ∧ keyIndex (catKey i b p) = 0x2C00 then s.cfg i b p
        else State.reset.cfg i b p)) ∧
    (∀ dev die sel absent,
      (s.phase = .inReset → s.refLost = false →
        ∃ t, exec (.startup dev die sel absent) s = .next t ∧ t.phase = .starting ∧ t.running = true ∧ t.time = 0 ∧
          t.device = dev ∧ t.die = die ∧ t.refSel = sel ∧ t.build = { s.build with portMap := t.build.portMap } ∧
          ∀ p, p < 128 → t.build.portMap.getLsbD p =
            (decide (p / 16 < s.build.clusters ∧ p % 16 < s.build.cores) && !absent.getLsbD p)) ∧
      (s.phase ≠ .inReset ∨ s.refLost = true → exec (.startup dev die sel absent) s = .next s)) ∧
    (s.phase = .starting → s.refLost = false → s.refSel.toNat ≤ 4 → (∀ c, (s.link c).phyUp = false) →
      (∀ p, (s.port p).issue = []) →
      exec .startupComplete s = .next { s with phase := .operational, scrubStart := s.clock }) ∧
    (s.phase ≠ .starting ∨ s.refLost = true ∨ 4 < s.refSel.toNat → exec .startupComplete s = .next s)

/-- R446: the declared loss of tb_refclk latches every partition of an operational hub, and is only noted before; its
return lets the time go on from where it stood. R556: what each edge of tb_refclk adds to fabric time, for each code
of tb_ref_sel, and that the increments repeat; here with no correction under way, and nothing else for the hub to do.
While tb_refclk is lost or the timebase is stopped no time passes. That a step on an empty queue is an edge is the
model's choice (log entry 32). So is that nothing timed happens while the clock is lost (log entry 53). -/
def Obligations.TheReferenceClock : Prop :=
  (∀ (s : State),
    (s.live = true → s.refLost = false →
      ∃ t, exec .refclkLoss s = .next t ∧ t.refLost = true ∧
        (∀ p, p < s.partCount → (t.part p).fault = true) ∧ SameBut (.refLost :: faultFields) s t) ∧
    (s.live = false → exec .refclkLoss s = .next { s with refLost := true }) ∧
    (s.live = true → s.refLost = true → exec .refclkLoss s = .next s) ∧
    exec .refclkReturn s = .next { s with refLost := false }) ∧
  (∀ (s : State), s.pending = [] → s.inbox = [] → s.nextHeld = none →
    (s.running = true → s.refLost = false → s.sync.slew = 0 → s.tick < 5 → ∀ r, s.refSel.toNat = r → r ≤ 4 →
      ∃ t, step s = .next t ∧ t.tick = (s.tick + 1) % 5 ∧
        t.time = s.time + BitVec.ofNat 64 ((([[512, 512, 512, 512, 512], [410, 410, 409, 410, 409], [320, 320, 320, 320, 320],
          [256, 256, 256, 256, 256], [205, 205, 204, 205, 205]] : List (List Nat)).getD r []).getD s.tick 0)) ∧
    (s.running = false ∨ s.refLost = true → step s = .next s))

/-- R334, R410, R412 and R418, the quiesce handshake. A rising acknowledgement that answers no request is only
counted. One that answers a reset lets the hub sweep the partition: its objects and its waiters are gone, and its
epoch is the reset's. One that answers a reslice leaves that waiting for the others. A falling acknowledgement
completes the handshake, and a reset that waited for it raises its request. A reslice whose partitions have drained
raises theirs. When a reslice completes beside a reset is the model's choice (log entry 12). -/
def Obligations.QuiesceHandshake : Prop :=
  ∀ (s : State) (p : Nat) (x : Part), p < 16 → x = s.part p →
    (s.live = false → exec (.partQuiesceAckRise p) s = .next (s.setPart p { x with quiesceAck := true }) ∧
      exec (.partQuiesceAckFall p) s = .next (s.setPart p { x with quiesceAck := false })) ∧
    (s.live = true → x.quiesceAck = false → x.quiesceReq = false → s.cfg 0x2B00 6 + 1 < 2 ^ 32 →
      exec (.partQuiesceAckRise p) s =
        .next ((s.setPart p { x with quiesceAck := true }).setCfg 0x2B00 6 0 (s.cfg 0x2B00 6 + 1))) ∧
    (s.live = true → x.quiesceAck = false → x.quiesceReq = true → x.quiesceSlice = false → x.reset.step = .quiescing →
      s.reslice.step = .idle → x.reset.askers = [] →
      ∃ t, exec (.partQuiesceAckRise p) s = .next t ∧ (t.part p).epoch = x.reset.newEpoch ∧ (t.part p).fault = false ∧
        (t.part p).quiesceReq = false ∧
        (t.part p).reset.step = (if x.reset.peers = [] then .idle else .awaitPeers) ∧
        t.objs = s.objs.dropKeys (fun i => s.partOfIndex i = p) ∧
        t.waiters = s.waiters.filter (fun w => s.partOfIndex w.num ≠ p)) ∧
    (s.live = true → x.quiesceAck = false → x.quiesceReq = true → x.quiesceSlice = true → s.reslice.step = .quiescing →
      s.reslice.waiting.contains p = true → (s.reslice.waiting.filter fun q => q ≠ p) ≠ [] →
      exec (.partQuiesceAckRise p) s =
        .next { s.setPart p { x with quiesceAck := true, quiesceReq := false } with
          reslice := { s.reslice with waiting := s.reslice.waiting.filter fun q => q ≠ p } }) ∧
    (s.live = true → x.quiesceAck = true →
      (x.quiesceReq = false → x.reset.step = .ackLow →
        exec (.partQuiesceAckFall p) s = .next (s.setPart p { x with
          quiesceAck := false
          quiesceReq := true
          quiesceSlice := false
          quiesceSince := s.clock
          quiesceNoted := false
          reset := { x.reset with step := .quiescing } })) ∧
      (x.reset.step ≠ .ackLow → s.reslice.step = .idle →
        exec (.partQuiesceAckFall p) s = .next (s.setPart p { x with quiesceAck := false }))) ∧
    (s.live = true → s.reslice.step = .draining → (∀ q ∈ s.reslice.affected, s.drained q = true) →
      ∃ t, exec .resliceDrained s = .next t ∧
        t.reslice = { s.reslice with step := .quiescing, waiting := s.reslice.affected } ∧
        (∀ q, t.part q = if q ∈ s.reslice.affected ∧ s.quiesceIdle q = true then
          { s.part q with quiesceReq := true, quiesceSlice := true, quiesceSince := s.clock, quiesceNoted := false }
          else s.part q) ∧
        SameBut [.reslice, .parts] s t)

/-- R342 to R344, R347, R353, R355 and R356, what a link that is UP and at rest does with a flit. A flit with a wrong
CRC is counted, and answered with a NAK if it reads as a data flit. A data flit in order is kept until its message is
whole; one that was received before is only acknowledged; one that is ahead is answered with a NAK. A whole message
for this hub waits to be performed. A CTRL without NAK returns credits, and an IDLE flit carries only its
acknowledgement and its credit. Which bad flits are answered, and that a good flit out of order still acknowledges, is
DEDUCED (log entries 18 and 68). -/
def Obligations.FlitsReceived : Prop :=
  ∀ (s : State) (c : Nat) (x : BitVec 256) (f : Flit) (l : Link), s.hears c x f → (s.link c).atRest →
    l = (s.heard c f).link c →
    (f.ftype = 0 → ∃ t, exec (.idleFlit c x false) s = .next t ∧ t.link c = l ∧ SameBut [.cat, .links] s t) ∧
    (f.ftype = 1 → f.payload.getLsbD 179 = false →
      ∃ t, exec (.ctrl c x false) s = .next t ∧ t.link c = (((l.addCredit 0 (getFld f.payload 164 12 : BitVec 12).toNat).addCredit
        1 (getFld f.payload 152 12 : BitVec 12).toNat).addCredit 2 (getFld f.payload 140 12 : BitVec 12).toNat).addCredit
        3 (getFld f.payload 128 12 : BitVec 12).toNat ∧ SameBut [.cat, .links] s t) ∧
    (4 ≤ f.ftype.toNat → f.fseq ≠ l.rxNext → (l.rxNext - f.fseq).toNat ≤ 2048 →
      ∃ t, exec (.flitReceive c x false) s = .next t ∧ t.link c = { l with ackOwed := true } ∧
        SameBut [.cat, .links] s t) ∧
    (4 ≤ f.ftype.toNat → 2048 < (l.rxNext - f.fseq).toNat → l.nakSent = false →
      ∃ t g, exec (.flitReceive c x false) s = .next t ∧ t.out = s.out ++ [.flit c (Flit.encode g)] ∧ g.ftype = 1 ∧
        g.payload = ctrlPayload l.rxNext true (creditField l.owed) ∧ (t.link c).nakSent = true ∧
        SameBut [.cat, .links, .out] s t) ∧
    (∀ b ps, 4 ≤ f.ftype.toNat → f.fseq = l.rxNext → b = f.ftype.toNat - 4 →
      ps = (if f.head then [] else l.partialOf b) ++ [f.payload] →
      (ps.length < headFlits ps →
        ∃ t, exec (.flitReceive c x false) s = .next t ∧
          t.link c = { l with
            rxNext := l.rxNext + 1
            rxAny := true
            nakSent := false
            ackOwed := true
            partials := l.partials.filter (fun y => y.1 ≠ b) ++ [(b, ps)] } ∧
          SameBut [.cat, .links] s t) ∧
      (∀ m, headFlits ps ≤ ps.length → wholeMsg ps = some m → m.hdr.dst = s.hub →
        ∃ t, exec (.flitReceive c x false) s = .next t ∧ t.inbox = s.inbox ++ [{ port := some c, msg := m }] ∧
          t.link c = { l with
            rxNext := l.rxNext + 1
            rxAny := true
            nakSent := false
            ackOwed := true
            partials := l.partials.filter (fun y => y.1 ≠ b)
            owed := l.owed.set b (l.owed.getD b 0 + ps.length) } ∧
          SameBut [.cat, .links, .inbox] s t)) ∧
    (∀ y : BitVec 256, flitGood y = false → 4 ≤ (getFld y 252 4 : BitVec 4).toNat → (s.link c).nakSent = false →
      ∃ t g, exec (.flitReceive c y false) s = .next t ∧ t.out = s.out ++ [.flit c (Flit.encode g)] ∧ g.ftype = 1 ∧
        g.payload = ctrlPayload (s.link c).rxNext true (creditField (s.link c).owed) ∧ (t.link c).nakSent = true ∧
        SameBut ([.links, .out] ++ noteFields) s t)

/-- R360, R361, R362 and R366, what a NEG does to a link that negotiates. One that offers a common version is noted,
and the link waits for the acknowledgement. One from a hub with this hub's own identity, or of a kind of link that
cannot be, takes the link to REFUSED; here for a link with no message to send. -/
def Obligations.NegReceived : Prop :=
  ∀ (s : State) (c : Nat) (x : BitVec 256) (f : Flit) (n : Neg), s.hears c x f → f.ftype = 2 → n = decodeNeg f.payload →
    (s.link c).state = .negotiating → s.waitMsgs = [] →
    (∀ v, (s.countedFlit c).negRefusal c n = none → (s.countedFlit c).agreedVersion c n = some v → n.ack = false →
      ∃ t, exec (.neg c x false) s = .next t ∧
        t.link c = { s.link c with peer := some n.id, peerVmax := n.vmax, version := v, sawNeg := true } ∧
        SameBut [.cat, .links] s t) ∧
    (∀ r, (s.countedFlit c).negRefusal c n = some r → (s.link c).partials = [] → (s.link c).txq = [] →
      (s.link c).catWaits = [] →
      ∃ t, exec (.neg c x false) s = .next t ∧ (t.link c).state = .refused ∧ (t.link c).version = 0 ∧
        SameBut ([.sync, .links, .waitMsgs, .changes, .settles, .lostSince] ++ noteFields) s t)

/-- R21, R346, R374 and R381, what a message does that a link has brought whole. One for this hub waits to be
performed. One for another hub goes on with one hop more, on the primary of its route while that link is UP, and
strands here while nothing of its route is UP; one whose hops are used up is discarded, counted, and faults its
partition. One of a reserved kind is discarded and counted. -/
def Obligations.MessagesInTransit : Prop :=
  ∀ (s : State) (c : Nat) (m n : Msg) (e : BitVec 32), s.live = true → s.linkBuilt c = true →
    e = s.route (s.routeKey m.hdr.dst) → n = { m with hdr := { m.hdr with hops := m.hdr.hops + 1 } } →
    (m.hdr.dst = s.hub →
      exec (.messageForward c m) s = .next { s with inbox := s.inbox ++ [{ port := some c, msg := m }] }) ∧
    (m.hdr.dst ≠ s.hub → m.body.isFence = false → m.hdr.hops.toNat < s.cfg 0x5100 3 →
      (s.changes.any fun x => x.key = s.routeKey m.hdr.dst) = false →
      (s.settles.any fun x => x.1 = s.routeKey m.hdr.dst) = false →
      (entryValid e = true → (s.link (entryPrimary e)).state = .up →
        m.body.level ≤ linkLevel (entryPrimary e) (s.link (entryPrimary e)).version →
        exec (.messageForward c m) s = .next (s.queueOn (entryPrimary e) (entryVl e) n none true)) ∧
      (s.leave e = .strand →
        exec (.messageForward c m) s = .next { s with
          waitMsgs := s.waitMsgs ++ [{ msg := n, about := none, why := .stranded, key := s.routeKey m.hdr.dst,
                                       since := s.clock, fwd := true }] })) ∧
    (m.hdr.dst ≠ s.hub → s.cfg 0x5100 3 ≤ m.hdr.hops.toNat → m.body.isCpl = true →
      ∃ t, exec (.messageForward c m) s = .next t ∧ (t.part m.hdr.partition.toNat).fault = true ∧
        SameBut faultFields s t) ∧
    (∀ k : BitVec 6, (k = 0 ∨ 12 < k.toNat) →
      exec (.reservedMessageKind c k) s = .next (s.bump (0x5000 + c) 16)) ∧
    (∀ k : BitVec 6, 1 ≤ k.toNat → k.toNat ≤ 12 → exec (.reservedMessageKind c k) s = .next s)

/-- R101, R321, R323, R350 and R368, what a completion does that has come back to the hub of its op. A core's op or a
slot's gets its response put on the return path; a completion for an op that its shim has voided only frees that note;
one for a child that awaits no grant is discarded and counted. R151, R153 and R252, what the arrival of a child
barrier does at its parent: it counts as an arrival of the round, its partial result is merged, and it waits for the
grant in a waiter record; here for one that does not complete the round. -/
def Obligations.CompletionsAndArrivals : Prop :=
  (∀ (s u : State) (h : MsgHdr) (b : CplBody) (m : Msg) (q : Nat), s.live = true → m = { hdr := h, body := .cpl b } →
    s.notW1 m → u = s.taken m → u.w1Home h.src = false → q = (getFld b.target 3 7 : BitVec 7).toNat →
    (b.source = srcPort → voidedFor (u.port q).voided h.src b = none →
      (u.port q).pend.any (fun e => e.home = some h.src) = true →
      exec (.cpl h b) s = .next { u with
        rets := u.rets ++ [{ target := .port q, sel := b.target, retref := b.retref, word := b.response,
                             value := b.value }] }) ∧
    (∀ v, b.source = srcPort → voidedFor (u.port q).voided h.src b = some v → v.counts = false →
      exec (.cpl h b) s = .next (u.setPort q { u.port q with voided := (u.port q).voided.erase v })) ∧
    (b.source = srcAperture → (getFld b.retref 4 6 : BitVec 6) = 0 →
      voidedFor (u.slot b.target.toNat).voided h.src b = none →
      exec (.cpl h b) s = .next { u with
        rets := u.rets ++ [{ target := .aperture, sel := b.target, retref := b.retref, word := b.response,
                             value := b.value }] }) ∧
    (b.source = srcHub → u.flips = [] → u.awaitsGrant (handleIndex b.child) = false →
      exec (.cpl h b) s = .next (u.pcount 13 h.partition.toNat 1))) ∧
  (∀ (s u : State) (h : MsgHdr) (b : FwdBody) (m : Msg) (o : HomeOp) (r : ObjRec), s.live = true →
    m = { hdr := h, body := .fwdArrv b } → s.notW1 m → u = s.taken m → o = u.forwardedOp h b →
    r = u.obj o.index → u.bankOut o.index = false → u.flips = [] → u.homeGate o = none → u.objFaulted o.index = false →
    u.isBody o.index = false → r.otype = .barrier → r.broken = false → u.forwardedCheck b.arrival r = none →
    b.arrival.broken = false → u.hasRoom o → ((r.countForwarded b.arrival).by o).complete = false →
    ∃ t n, exec (.fwdArrv h b) s = .next t ∧ t.objs = (u.setObj o.index ((r.countForwarded b.arrival).by o)).objs ∧
      t.waiters = insertWaiter false { u.waiterFor .fwdArrv o.index o (r.round.setWidth 64) o.op.opb with num := n }
        u.waiters ∧
      SameBut ([.objs, .waiters] ++ noteFields) u t)

/-- R190, R193, R194 and R196, what the loan messages do at the home of their token. A LOAN_REQ of an open entry that
the token cannot cover waits in the token's queue, and the entry notes it; one of an entry that is being recalled is
discarded. A LOAN_RETURN gives the token back what was not spent, takes the whole from what is lent, and frees the
entry. R184, R192 and R194, what the loan messages do at the borrower. An opening LOAN_GRANT makes a ledger entry that
holds the amount; a later one adds to the balance; a LOAN_RECALL sends back what is left and what was spent, and frees
the entry. Here for entries on which nothing waits. The check of a return's sum and stale grants are DEDUCED (log
entry 70). -/
def Obligations.LoanMessages : Prop :=
  (∀ (s u : State) (h : MsgHdr) (b : LoanBody) (e : Lender) (i p : Nat), s.live = true →
    i = handleIndex b.token → p = b.partition.toNat → u.stageIsOut 28 = false → u.flips = [] →
    u.lenderNamed b = some e → u.queue i = [] →
    (∀ m, m = { hdr := h, body := .loan .req b } → s.notW1 m → u = s.taken m →
      u.messageGate p b.epoch i false = .pass → u.latched p = false →
      (e.state = .recalling → exec (.loanReq h b) s = .next u) ∧
      (e.state ≠ .recalling → (u.obj i).otype = .token → (u.obj i).amount < Int.ofNat b.amountA.toNat →
        (u.waitersOf p).length < u.shareSize →
        ∃ t n, exec (.loanReq h b) s = .next t ∧
          t.waiters = insertWaiter false { u.loanWaiter b with num := n } u.waiters ∧
          t.lenders = u.lenders.map (fun x => if x.num = e.num then { e with req := true } else x) ∧
          SameBut ([.waiters, .lenders] ++ noteFields) u t)) ∧
    (∀ m, m = { hdr := h, body := .loan .ret b } → s.notW1 m → u = s.taken m →
      u.messageGate p b.epoch i true = .pass → u.objFaulted i = false → b.amountA + b.amountB = e.principal →
      (u.part p).reset.step ≠ .recalling →
      ∃ t, exec (.loanReturn h b) s = .next t ∧
        t.objs = (u.setObj i { (u.obj i).setAmount ((u.obj i).amount + Int.ofNat b.amountA.toNat) with
          word1 := (u.obj i).word1 - e.principal }).objs ∧
        t.lenders = u.lenders.filter (fun x => x.num ≠ e.num) ∧
        SameBut ([.objs, .lenders] ++ noteFields) u t)) ∧
  (∀ (s u : State) (h : MsgHdr) (b : LoanBody) (p : Nat), s.live = true → p = b.partition.toNat →
    u.stageIsOut 28 = false → u.entryGate p b.epoch = .pass →
    (∀ m, m = { hdr := h, body := .loan .grant { b with opening := true } } → s.notW1 m → u = s.taken m →
      (u.ledgersOf p).length < u.loanShare →
      ∃ t n, exec (.loanGrantOpen h b) s = .next t ∧
        t.ledgers = u.ledgers ++ [{ num := n, req := false, token := b.token, partition := b.partition, seq := b.seq
                                    firstFit := b.firstFit, spent := 0, balance := b.amountA, idleSince := u.clock }] ∧
        SameBut ([.ledgers] ++ noteFields) u t) ∧
    (∀ m e, m = { hdr := h, body := .loan .grant { b with opening := false } } → s.notW1 m → u = s.taken m →
      u.flips = [] → u.ledgerNamed b = some e → u.ledgerQueue e.num = [] →
      ∃ t, exec (.loanGrant h b) s = .next t ∧
        t.ledgers = u.ledgers.map (fun x => if x.num = e.num then
          { e with balance := e.balance + b.amountA, req := false, idleSince := u.clock } else x) ∧
        SameBut ([.ledgers] ++ noteFields) u t) ∧
    (∀ m e t, m = { hdr := h, body := .loan .recall b } → s.notW1 m → u = s.taken m →
      u.flips = [] → u.ledgerNamed b = some e → u.ledgerQueue e.num = [] → u.cfg 0x6030 4 = 0 →
      t = u.send { hdr := u.hdrTo (handleHub e.token) e.partition.toNat
                   body := .loan .ret { u.loanBody e.partition.toNat e.seq u.hub e.token with
                     amountA := e.balance
                     amountB := e.spent } } →
      Brings (.loanRecall h b) s { t with ledgers := t.ledgers.filter fun x => x.num ≠ e.num }))

/-- R244, R281, R437 and R404, what the messages do that tell of a core reset or of a fault at another hub. A
HOLDER_RESET frees the lock that its originator holds, with the abandoned mark if the lock had been delivered; one
whose originator does not hold the lock and waits for nothing there does nothing. A WAITER_PURGE removes the waiter of
the named port without a response. A FAULT_NOTICE of the present epoch sets the latch of its partition; one for a
partition whose latch is set, or from a newer epoch, does nothing. Which hubs are told is DEDUCED (log entry 78). -/
def Obligations.ResetsOfOthers : Prop :=
  ∀ (s u : State) (h : MsgHdr) (m : Msg), s.live = true → s.notW1 m → u = s.taken m → u.flips = [] →
    (∀ b i r, m = { hdr := h, body := .holderReset b } → i = handleIndex b.lock → r = u.obj i →
      u.messageGate b.partition.toNat b.epoch i false = .pass → r.otype = .lock → r.faulted = false → u.queue i = [] →
      (r.held = true → r.holder = b.originator → r.inhPrio = 0 →
        ∃ t, exec (.holderReset h b) s = .next t ∧
          t.objs = (u.setObj i { r.setLock 0 r.prio r.grantTime r.acqCount false r.holder with
            abandoned := r.abandoned || b.delivered }).objs ∧
          SameBut ([.objs] ++ noteFields) u t) ∧
      ((r.held = false ∨ r.holder ≠ b.originator) → exec (.holderReset h b) s = .next u)) ∧
    (∀ b ws, m = { hdr := h, body := .waiterPurge b } → u.entryGate b.partition.toNat b.epoch = .pass →
      ws = u.waiters.filter (fun w => w.source = srcPort && origHub w.originator = b.hub &&
        (getFld w.originator 3 7 : BitVec 7) = b.port && w.opcode ≠ opCode .acq) →
      (ws = [] → exec (.waiterPurge h b) s = .next u) ∧
      (∀ w, ws = [w] → w.kind = .queued → u.queue w.object = [w] →
        (∀ x ∈ u.waiters, x.num = w.num → x = w) →
        exec (.waiterPurge h b) s = .next { u with waiters := u.waiters.filter fun x => x.num ≠ w.num })) ∧
    (∀ b p, m = { hdr := h, body := .partCtl .faultNotice b } → p = h.partition.toNat → p < u.partCount →
      (b.oldEpoch = u.epoch p → u.latched p = false →
        ∃ t, exec (.faultNotice h b) s = .next t ∧ (t.part p).fault = true ∧ SameBut faultFields u t) ∧
      (b.oldEpoch = u.epoch p → u.latched p = true → exec (.faultNotice h b) s = .next u) ∧
      (127 < (u.epoch p - b.oldEpoch).toNat → exec (.faultNotice h b) s = .next u) ∧
      (b.oldEpoch ≠ u.epoch p → (u.epoch p - b.oldEpoch).toNat ≤ 127 →
        exec (.faultNotice h b) s = .next (u.bump 0x3010 16 p)))

/-- R376, with what R375 makes of the acknowledgement. The body of a ROUTE_FENCE holds its number in [7:0] and its
class in [8]. A ROUTE_FENCE for this hub is acknowledged to the hub that sent it, with the fence's own body; one for a
hub to which no valid entry leads is acknowledged by this hub itself, and goes no further. A FENCE_ACK ends the wait
for that fence; the last one of a change installs the new entry and ends the change; one that no change awaits does
nothing. -/
def Obligations.RouteFences : Prop :=
  (∀ b : FenceBody, (getFld (encodeFence b) 0 8 : BitVec 8) = b.num ∧ (encodeFence b).getLsbD 8 = b.cpl) ∧
  (∀ (s : State) (c : Nat) (h : MsgHdr) (b : FenceBody), s.live = true → s.linkBuilt c = true → h.dst ≠ s.hub →
    h.hops.toNat < s.cfg 0x5100 3 → entryValid (s.route (s.routeKey h.dst)) = false →
    exec (.messageForward c { hdr := h, body := .routeFence b }) s = .next
      (s.send { hdr := { dst := h.src, src := s.hub, hops := 0, partition := 0 }, body := .fenceAck b })) ∧
  (∀ (s u : State) (h : MsgHdr) (b : FenceBody) (m : Msg), s.live = true → s.notW1 m → u = s.taken m →
    (m = { hdr := h, body := .routeFence b } →
      exec (.routeFence h b) s = .next
        (u.send { hdr := { dst := h.src, src := u.hub, hops := 0, partition := 0 }, body := .fenceAck b })) ∧
    (m = { hdr := h, body := .fenceAck b } →
      (u.changes.find? (fun x => x.fences.contains (b.cpl, b.num)) = none → exec (.fenceAck h b) s = .next u) ∧
      (∀ x, u.changes.find? (fun x => x.fences.contains (b.cpl, b.num)) = some x →
        (x.fences.erase (b.cpl, b.num) ≠ [] →
          exec (.fenceAck h b) s = .next { u with changes := u.changes.map fun z => if z = x then
            { x with fences := x.fences.erase (b.cpl, b.num) } else z }) ∧
        (x.fences = [(b.cpl, b.num)] → u.waitMsgs = [] → x.cats = [] →
          ∃ t, exec (.fenceAck h b) s = .next t ∧ t.changes = u.changes.erase x ∧
            t.routes = u.routes.put routeNone x.key x.entry ∧
            SameBut [.changes, .routes, .lostSince] u t))))

/-- R477 to R479, the messages of a hold between hubs. A HOLD_REQ puts the hold in force here and a RESUME_REQ ends
it, and each is acknowledged to its requester with its own number. A HOLD_ACK or RESUME_ACK takes its sender from the
hubs that an exchange awaits; the last one ends the exchange; one that no exchange awaits does nothing. R495, R498 to
R500, the messages of Stocktake. A QUERY is answered with this hub's own values, taken in one step. A REPORT of the
present round from a hub that it asked is kept; any other is discarded. A DECLARE makes the hub take its Inventory, if
that is on and can be taken. -/
def Obligations.HoldAndStocktakeMessages : Prop :=
  (∀ (s u : State) (h : MsgHdr) (b : HoldBody) (m : Msg) (p : Nat), s.live = true → s.notW1 m → u = s.taken m →
    p = h.partition.toNat →
    (m = { hdr := h, body := .holdCtl .holdReq b } → p < u.partCount →
      exec (.holdReq h b) s = .next ((u.holdHere p).send { hdr := u.hdrTo b.requester p, body := .holdCtl .holdAck b }) ∧
      ((u.holdHere p).part p).hold = { (u.part p).hold with held := true } ∧
      SameBut ([.parts] ++ noteFields) u (u.holdHere p)) ∧
    (m = { hdr := h, body := .holdCtl .resumeReq b } → p < u.partCount →
      exec (.resumeReq h b) s =
        .next ((u.resumeHere p).send { hdr := u.hdrTo b.requester p, body := .holdCtl .resumeAck b }) ∧
      ((u.resumeHere p).part p).hold = { (u.part p).hold with held := false } ∧
      SameBut ([.parts, .ports] ++ noteFields) u (u.resumeHere p)) ∧
    (∀ i x k, (i = Instr.holdAck h b ∧ k = HoldKind.holdAck ∧ x = false ∨
        i = Instr.resumeAck h b ∧ k = HoldKind.resumeAck ∧ x = true) →
      m = { hdr := h, body := .holdCtl k b } →
      ((u.part p).hold.xs.any (fun e => e.resume = x && e.seq = b.seq && e.peers.contains h.src) = false →
        exec i s = .next u) ∧
      (∀ e, (u.part p).hold.xs = [e] → e.resume = x → e.seq = b.seq → e.peers.contains h.src = true →
        (e.peers.filter (fun d => d ≠ h.src) ≠ [] →
          exec i s = .next (u.setPart p { u.part p with hold := { (u.part p).hold with
            xs := [{ e with peers := e.peers.filter fun d => d ≠ h.src }] } })) ∧
        (e.peers = [h.src] → e.waiter = .nobody →
          exec i s = .next (u.setPart p { u.part p with hold := { (u.part p).hold with xs := [] } }))))) ∧
  (∀ (s u : State) (h : MsgHdr) (b : StockBody) (m : Msg) (p : Nat) (k : Stocktake), s.live = true → s.notW1 m →
    u = s.taken m → p = h.partition.toNat → k = (u.part p).stock →
    (m = { hdr := h, body := .stocktake .query b } → p < u.partCount →
      exec (.query h b) s = .next (u.send
        { hdr := u.hdrTo b.coordinator p, body := .stocktake .report (u.stockReport p b.round b.coordinator) })) ∧
    (m = { hdr := h, body := .stocktake .report b } →
      (k.scope.contains h.src = true → b.round = k.round → (k.reports.any fun r => r.1 = h.src) = false →
        exec (.report h b) s =
          .next (u.setPart p { u.part p with stock := { k with reports := k.reports ++ [(h.src, b)] } })) ∧
      (b.round ≠ k.round → exec (.report h b) s = .next u)) ∧
    (m = { hdr := h, body := .stocktake .declare b } → p < u.partCount →
      (u.cfg 0x6040 6 p = 0 → exec (.declare h b) s = .next u) ∧
      (u.cfg 0x6040 6 p ≠ 0 → u.cfg 0x6040 1 p ≠ 0 → (u.part p).inv.running = false →
        ∃ t, exec (.declare h b) s = .next t ∧ (t.part p).inv.running = true ∧ (t.part p).inv.reason = 1 ∧
          SameBut ([.parts] ++ noteFields) u t)))

/-- R460 to R462, the messages of a shelf. A SHELF_ARM arms the shelf that it names, for the time or the round that it
carries. A SHELF_DONE of a hub that the present arming awaits is counted as latched or as failed; any other is
ignored. A SHELF_CANCEL ends an arming as cancelled, and does nothing to a shelf that is not armed. That a SHELF_DONE
not awaited is ignored is DEDUCED (log entry 20). -/
def Obligations.ShelfMessages : Prop :=
  ∀ (s u : State) (h : MsgHdr) (b : ShelfBody) (m : Msg) (p n : Nat) (x : Shelf), s.live = true → s.notW1 m →
    u = s.taken m → p = h.partition.toNat → n = bitNat b.shelf → x = u.shelf p n →
    (m = { hdr := h, body := .shelf .arm b } → p < u.partCount →
      u.armFails p { shelf := n, mode := b.mode, index := b.index, round := b.round, time := b.time,
                     asker := some (h.src, b.seq) } = none →
      exec (.shelfArm h b) s = .next (u.setShelf p n { x with
        state := .armed
        mode := b.mode
        armTime := b.time
        armIndex := b.index
        armRound := b.round
        asker := some (h.src, b.seq)
        round := 0
        latchTime := 0
        counters := []
        status := 0
        generation := x.generation + 1 })) ∧
    (m = { hdr := h, body := .shelf .done b } →
      (x.peers.contains h.src = true → b.seq = x.number →
        (b.status = 0 → exec (.shelfDone h b) s = .next (u.setShelf p n { x with
          peers := x.peers.filter fun d => d ≠ h.src
          peersLatched := x.peersLatched + 1 })) ∧
        (b.status ≠ 0 → exec (.shelfDone h b) s = .next (u.setShelf p n { x with
          peers := x.peers.filter fun d => d ≠ h.src
          peersFailed := x.peersFailed + 1 }))) ∧
      ((x.peers.contains h.src = false ∨ b.seq ≠ x.number) → exec (.shelfDone h b) s = .next u)) ∧
    (m = { hdr := h, body := .shelf .cancel b } → p < u.partCount →
      (x.state = .armed → x.asker = none →
        exec (.shelfCancel h b) s = .next (u.setShelf p n { x with state := .failed, status := 4 })) ∧
      (x.state ≠ .armed → exec (.shelfCancel h b) s = .next u))

/-- R410, R413, R414 and R416, the messages of a reset between hubs. A RESET_REQ or CTX_REQ with another partition
count is answered at once with status 1; one whose epoch this hub has reached already with status 0; one during a
reset joins it; and one with a newer epoch starts the reset here, which asks the surroundings to quiesce where it has
nothing to end first. A RESET_DONE or CTX_DONE takes its sender from the hubs awaited, and the last one ends the
reset. The epochs in a DONE of a hub that reset nothing are the model's choice (log entry 13). -/
def Obligations.ResetMessages : Prop :=
  ∀ (s u : State) (h : MsgHdr) (b : PartCtlBody) (m : Msg) (p : Nat) (r : ResetSeq), s.live = true → s.notW1 m →
    u = s.taken m → p = h.partition.toNat → r = (u.part p).reset →
    (∀ i k c done, (i = Instr.resetReq h b ∧ k = PartCtlKind.resetReq ∧ c = false ∧ done = PartCtlKind.resetDone ∨
        i = Instr.ctxReq h b ∧ k = PartCtlKind.ctxReq ∧ c = true ∧ done = PartCtlKind.ctxDone) →
      m = { hdr := h, body := .partCtl k b } →
      (b.count.toNat ≠ u.partCount →
        exec i s = .next (u.send { hdr := u.hdrTo h.src p
                                   body := .partCtl done (u.doneBody (u.epoch p) (u.epoch p) b.seq 1) })) ∧
      (p < u.partCount → b.count.toNat = u.partCount → u.reslice.step = .idle →
        (u.resetting p = true →
          exec i s = .next (u.setPart p { u.part p with reset := { r with
            newEpoch := newerEpoch r.newEpoch b.newEpoch
            askers := r.askers ++ [{ hub := h.src, seq := b.seq, ctx := c }]
            load := if c then some b.context else r.load } })) ∧
        (u.resetting p = false → (u.epoch p - b.newEpoch).toNat ≤ 127 →
          exec i s = .next (u.send { hdr := u.hdrTo h.src p
                                     body := .partCtl done (u.doneBody (u.epoch p) (u.epoch p) b.seq 0) })) ∧
        (u.resetting p = false → 127 < (u.epoch p - b.newEpoch).toNat → u.resetsAtOnce p →
          ∃ t, exec i s = .next t ∧ (t.part p).quiesceReq = true ∧ (t.part p).epoch = u.epoch p ∧
            (t.part p).reset = { r with
              step := .quiescing
              newEpoch := b.newEpoch
              isContext := c
              load := if c then some b.context else none
              askers := [{ hub := h.src, seq := b.seq, ctx := c }]
              overridden := false
              recalls := [] } ∧
            SameBut ([.parts, .ports] ++ noteFields) u t))) ∧
    (∀ i k, (i = Instr.resetDone h b ∧ k = PartCtlKind.resetDone ∨ i = Instr.ctxDone h b ∧ k = PartCtlKind.ctxDone) →
      m = { hdr := h, body := .partCtl k b } →
      ((r.peers.contains h.src = false ∨ b.seq ≠ r.number) → exec i s = .next u) ∧
      (b.seq = r.number → b.status ≠ 1 →
        (r.peers.contains h.src = true → r.peers.filter (fun d => d ≠ h.src) ≠ [] →
          exec i s = .next (u.setPart p { u.part p with reset := { r with
            peers := r.peers.filter fun d => d ≠ h.src } })) ∧
        (r.peers = [h.src] → r.step = .awaitPeers →
          exec i s = .next (u.setPart p { u.part p with reset := { r with step := .idle, peers := [] } }))))

/-- R205, R206 and R323, a write of a TRIG record's template word at an issue slot. The home of this hub writes the
word and the record's last originator and time, and the access completes with OKAY; a TRIG that may not be written is
left as it is, and the access completes with SLVERR; here for a slot at which nothing waits. Word code 3 is SLVERR at
once. R313, R315, R316 and R320, an access that the AXI5 subordinate does not perform. At a reserved address, and at
the block of a partition that there is not, it is answered with DECERR; a bad write or a bad transfer with SLVERR,
counted for the partition; a read of a reserved offset of the right size with OKAY. -/
def Obligations.ApertureAccesses : Prop :=
  (∀ (s : State) (g : Nat) (host : Bool) (word : BitVec 2) (handle hd : Handle) (data : BitVec 64) (p i n : Nat),
    s.live = true → g < 1024 → p = s.slotPart g → i = handleIndex hd →
    (word = 3 → exec (.templateWrite (.slot g host) word handle data) s =
      .next ((s.bump 0x2900 9 p).drive (.axiResp (some g) none true false))) ∧
    (word ≠ 3 → (∀ q, (s.slot q).stalled = []) → s.slotEmpty g = false → lowestFree 1 16 s.templateNums = some n →
      (s.slot g).fence = none → s.gate p 0 = none → s.translate p handle = some hd → s.stageIsOut 24 = false →
      handleHub hd = s.hub → s.bankOut i = false → s.flips = [] → s.selvedge p (s.epoch p) i false false = .pass →
      s.latched p = false →
      (s.templateOk p i word data = true →
        ∃ t, exec (.templateWrite (.slot g host) word handle data) s = .next t ∧
          t.objs = (s.setObj i (((s.obj i).setTemplate word data).wrote (s.orig g) s.time)).objs ∧
          t.out = s.out ++ [.axiResp (some g) none false false] ∧ SameBut ([.objs, .slots, .out] ++ noteFields) s t) ∧
      (s.templateOk p i word data = false →
        ∃ t, exec (.templateWrite (.slot g host) word handle data) s = .next t ∧
          t.out = s.out ++ [.axiResp (some g) none true false] ∧ SameBut ([.slots, .out] ++ noteFields) s t))) ∧
  (∀ (s : State) (why : ApertureFault) (isRead : Bool), s.live = true →
    exec (.apertureRefused .reserved why isRead) s = .next (s.drive (.axiResp none none false true)) ∧
    (∀ g, g < 1024 →
      (isRead = false ∨ why = .badTransfer → exec (.apertureRefused (.slot g) why isRead) s =
        .next ((s.bump 0x2900 9 (s.slotPart g)).drive (.axiResp (some g) none true false))) ∧
      (isRead = true → why ≠ .badTransfer → exec (.apertureRefused (.slot g) why isRead) s =
        .next (s.drive (.axiResp (some g) none false false)))) ∧
    (∀ p, p < 16 →
      (s.partCount ≤ p → exec (.apertureRefused (.block p) why isRead) s =
        .next (s.drive (.axiResp none (some p) false true))) ∧
      (p < s.partCount → (isRead = false ∨ why = .badTransfer) → exec (.apertureRefused (.block p) why isRead) s =
        .next ((s.bump 0x2900 9 p).drive (.axiResp none (some p) true false))) ∧
      (p < s.partCount → isRead = true → why ≠ .badTransfer → exec (.apertureRefused (.block p) why isRead) s =
        .next (s.drive (.axiResp none (some p) false false)))))

/-- R213, R327, R331, R333 and R455, the responses to the hub's own writes. A ticket's write that is done advances the
ring's producer index, and the index is written to its mirror where there is one; a mirror's write that is done is
followed by the TRIGGER record where it is on; a notify record's write that is done advances its ring's producer index
and raises the ring's interrupt. Each counts its bytes. R327, R474, R475 and R493, a failed write, and the end of a
dump and of an Inventory. A failed write of a notify record turns its ring off and counts the record as lost; of a
mirror, turns the mirror off; of a region, is only counted. A response of OKAY is no failure. When every write of a
dump is done the capture is stopped; when every write of an Inventory is done it no longer runs. That counts are made
at the response, and what follows a failed mirror write, is DEDUCED (log entries 10 and 95). -/
def Obligations.ManagerWrites : Prop :=
  (∀ (s d : State) (w : MgrWrite), s.live = true →
    d = ({ s with mgr := s.mgr.erase w } : State).pcount 20 w.partition w.bytes →
    (∀ k p n a, s.oldestWrite [.ticket] = some w → k = w.ring → p = w.partition → n = (s.tring k 3 p + 1) % 2 ^ 32 →
      a = (d.setCfg (0x2400 + k) 3 p n).act p →
      (a.tring k 5 p ≠ 0 → exec .ticketRingWriteDone s = .next { a with
        mgr := a.mgr ++ [{ kind := .mirror, partition := p, ring := k, addr := BitVec.ofNat 64 (a.tring k 5 p)
                           data := BitVec.ofNat 512 n, bytes := 8, ticket := none }] }) ∧
      (a.tring k 5 p = 0 → a.tring k 6 p = 0 → exec .ticketRingWriteDone s = .next a) ∧
      (a.tring k 5 p = 0 → a.tring k 6 p ≠ 0 →
        exec .ticketRingWriteDone s = .next (a.notifyRing p 1 p (pack 96 [⟨64, 32, n⟩, ⟨62, 2, k⟩])))) ∧
    (s.oldestWrite [.mirror] = some w →
      (d.tring w.ring 6 w.partition = 0 → exec .producerMirrorWriteDone s = .next d) ∧
      (d.tring w.ring 6 w.partition ≠ 0 → exec .producerMirrorWriteDone s = .next (d.notifyRing w.partition 1 w.partition
        (pack 96 [⟨64, 32, (getFld w.data 0 32 : BitVec 32).toNat⟩, ⟨62, 2, w.ring⟩])))) ∧
    (∀ r a, s.oldestWrite [.notify] = some w → r = w.partition →
      a = d.setCfg (ringIndex r) 3 (ringPart r) ((s.ringCfg r 3 + 1) % 2 ^ 32) →
      (a.ringCfg r 6 = 0 → exec .notifyWriteDone s = .next a) ∧
      (a.ringCfg r 6 ≠ 0 → s.refLost = false → (a.ring r).lastPulse = none →
        exec .notifyWriteDone s = .next ((a.setRing r { a.ring r with lastPulse := some a.clock }).drive (.irq r))) ∧
      (a.ringCfg r 6 ≠ 0 → s.refLost = true →
        exec .notifyWriteDone s = .next (a.setRing r { a.ring r with owed := true })))) ∧
  (∀ (s : State), s.live = true →
    (∀ w f resp, 2 ≤ resp.toNat → f = s.writeFailed w resp →
      (s.oldestWrite [.notify] = some w → w.kind = .notify → exec (.managerWriteError 2 resp) s =
        .next ((f.setCfg (ringIndex w.partition) 2 (ringPart w.partition) 0).bump (ringIndex w.partition) 8
          (ringPart w.partition))) ∧
      (s.oldestWrite [.mirror] = some w → w.kind = .mirror → f.tring w.ring 6 w.partition = 0 → w.ring < 4 →
        w.partition < 16 →
        exec (.managerWriteError 1 resp) s = .next (f.setCfg (0x2400 + w.ring) 5 w.partition 0)) ∧
      (s.oldestWrite [.folio, .inventory] = some w → (w.kind = .folio ∨ w.kind = .inventory) →
        exec (.managerWriteError 3 resp) s = .next f) ∧
      (s.oldestWrite [.ticket] = some w → w.kind = .ticket → w.ticket = none → s.buffered = [] →
        exec (.managerWriteError 0 resp) s = .next (f.setCfg (0x2400 + w.ring) 2 w.partition 0)) ∧
      (s.cfg 0x6030 4 = 0 → f.mgr = s.mgr.erase w) ∧ SameBut noteFields s f) ∧
    (∀ k resp, resp.toNat < 2 → exec (.managerWriteError k resp) s = .next s) ∧
    (∃ t, exec .folioDumpDone s = .next t ∧ SameBut noteFields s t ∧
      (s.folio.state = .dumping → t.folio.state = .stopped) ∧
      (s.folio.state ≠ .dumping → t = { s with mgr := s.mgr.filter fun w => decide (w.kind ≠ .folio) })) ∧
    (∀ p, p < 16 →
      ((s.part p).inv.running = false → exec (.inventoryDone p) s = .next s) ∧
      ((s.part p).inv.running = true → ∃ t, exec (.inventoryDone p) s = .next t ∧
        t.part p = { s.part p with inv := { (s.part p).inv with running := false } } ∧
        SameBut ([.parts] ++ noteFields) s t)))

/-- R407, R410, R412 and R531, the writes that end the work of a partition. PartReset with 0, and during a reset, does
nothing; otherwise it starts the reset, whose request to quiesce rises at once where it has nothing to end first.
PartContext during a reset is loaded by it, or, where only peers are awaited, at once; in Sweep mode it starts a reset
that loads it; a clean partition only advances its epoch; and a partition that is not clean refuses it.
PartQuiesceOverride ends the wait of a quiesce as its acknowledgement would, and is counted. -/
def Obligations.PartitionWrites : Prop :=
  ∀ (s u : State) (h : CatHdr) (w : Who) (p : Nat) (r : ResetSeq), p = h.partition.toNat → r = (u.part p).reset →
    (∀ v : BitVec 8, s.writing u h 0x3010 8 v.toNat w →
      ((v = 0 ∨ r.step ≠ .idle) → exec (.partReset h v) s = .next (s.answered h 0x3010 8 .done u)) ∧
      (v ≠ 0 → r.step = .idle →
        exec (.partReset h v) s = .next ((u.startReset p false none).catFinish h .done) ∧
        (u.cfg 0x3010 7 p = 0 → u.resetsAtOnce p →
          ∃ x, exec (.partReset h v) s = .next (s.answered h 0x3010 8 .done x) ∧ (x.part p).quiesceReq = true ∧
            (x.part p).epoch = u.epoch p ∧ (x.part p).reset = { r with
              step := .quiescing
              newEpoch := u.epoch p + 1
              isContext := false
              load := none
              overridden := false
              recalls := [] } ∧ SameBut ([.parts, .ports] ++ noteFields) u x))) ∧
    (∀ v : BitVec 64, s.writing u h 0x3010 9 v.toNat w →
      (u.resetting p = true →
        exec (.partContext h v) s = .next (s.answered h 0x3010 9 .done
          (u.setPart p { u.part p with reset := { r with load := some v } }))) ∧
      (r.step = .awaitPeers →
        exec (.partContext h v) s = .next (s.answered h 0x3010 9 .done (u.setPart p { u.part p with contextId := v }))) ∧
      (r.step = .idle → u.sweepMode p = true → u.cfg 0x3010 7 p = 0 → u.resetsAtOnce p →
        ∃ x, exec (.partContext h v) s = .next (s.answered h 0x3010 9 .done x) ∧ (x.part p).quiesceReq = true ∧
          (x.part p).epoch = u.epoch p ∧ (x.part p).reset = { r with
            step := .quiescing
            newEpoch := u.epoch p + 1
            isContext := true
            load := some v
            overridden := false
            recalls := [] } ∧ SameBut ([.parts, .ports] ++ noteFields) u x) ∧
      (r.step = .idle → u.sweepMode p = false → u.partClean p = true →
        exec (.partContext h v) s = .next (s.answered h 0x3010 9 .done
          (u.setPart p { u.part p with epoch := u.epoch p + 1, contextId := v }))) ∧
      (r.step = .idle → u.sweepMode p = false → u.partClean p = false →
        exec (.partContext h v) s = .next (s.answered h 0x3010 9 .accessError (u.bump 0x3010 19 p)))) ∧
    (∀ v : BitVec 8, s.writing u h 0x3010 13 v.toNat w →
      ((v ≠ 1 ∨ (r.step ≠ .quiescing ∧ r.step ≠ .ackLow ∧ u.reslice.step ≠ .quiescing)) →
        exec (.partQuiesceOverride h v) s = .next (s.answered h 0x3010 13 .done u)) ∧
      (v = 1 → r.step = .quiescing → u.reslice.step = .idle → r.askers = [] →
        ∃ x, exec (.partQuiesceOverride h v) s = .next (s.answered h 0x3010 13 .done x) ∧
          (x.part p).epoch = r.newEpoch ∧ (x.part p).fault = false ∧ (x.part p).quiesceReq = false ∧
          (x.part p).reset.step = (if r.peers = [] then .idle else .awaitPeers) ∧
          x.objs = u.objs.dropKeys (fun i => u.partOfIndex i = p) ∧
          x.waiters = u.waiters.filter (fun k => u.partOfIndex k.num ≠ p)))

/-- R395, R418, R420 and R453, the writes that give the hub's parts to partitions and that fail a partition.
ResliceTarget takes 1, 2, 4, 8 or 16, if it is another count than the present one and no reset and no reslice goes on,
recalls what the affected partitions have lent, and lets them drain. ResliceAbort ends a reslice that has not
completed. PortPartition takes a partition of the present count, or none, while the port's core is in reset.
PartJobFaultInject latches a job fault. R478 and R479, the writes of PartHold and PartResume. A hold of this hub alone
takes force at once, and the write completes; one of a partition that is already held changes nothing. One of all the
partition's hubs asks those that can be reached, and completes when they have acknowledged; the others count as
failed. -/
def Obligations.ResliceFaultAndHoldWrites : Prop :=
  (∀ (s u : State) (h : CatHdr) (w : Who) (v : BitVec 8),
    (s.writing u h 0x3000 2 v.toNat w →
      ((v.toNat ∉ [1, 2, 4, 8, 16] ∨ v.toNat = u.partCount ∨ u.reslice.step ≠ .idle ∨
          (∃ x ∈ u.parts, x.2.reset.step ≠ .idle)) →
        exec (.resliceTarget h v) s = .next (s.answered h 0x3000 2 .accessError u)) ∧
      (v.toNat ∈ [1, 2, 4, 8, 16] → v.toNat ≠ u.partCount → u.reslice.step = .idle →
        (∀ x ∈ u.parts, x.2.reset.step = .idle) →
        ∃ x, exec (.resliceTarget h v) s = .next (s.answered h 0x3000 2 .done x) ∧
          x.reslice = { step := .draining, target := v.toNat, affected := resliceAffects u.partCount v.toNat,
                        startedAt := u.clock } ∧
          SameBut ([.reslice, .lenders, .links, .inbox, .waitMsgs, .out] ++ noteFields) u x ∧
          (u.lenders = [] → SameBut [.reslice] u x))) ∧
    (s.writing u h 0x3000 4 v.toNat w →
      ((v ≠ 1 ∨ u.reslice.step = .idle) → exec (.resliceAbort h v) s = .next (s.answered h 0x3000 4 .done u)) ∧
      (v = 1 → (u.reslice.step = .draining ∨ u.reslice.step = .quiescing) →
        ∃ x, exec (.resliceAbort h v) s = .next (s.answered h 0x3000 4 .done x) ∧ x.reslice = {} ∧
          SameBut ([.reslice] ++ noteFields) u x)) ∧
    (∀ q i, q < 128 → i = BitVec.ofNat 16 (0x3100 + q) → s.writing u h i 1 v.toNat w →
      (((u.port q).rstLow = false ∨ (v ≠ 0xFF ∧ u.partCount ≤ v.toNat)) →
        exec (.portPartition h q v) s = .next (s.answered h i 1 .accessError u)) ∧
      ((u.port q).rstLow = true → (v = 0xFF ∨ v.toNat < u.partCount) →
        exec (.portPartition h q v) s = .next (s.answered h i 1 .done (u.setCfg (0x3100 + q) 1 0 v.toNat)))) ∧
    (∀ p, p = h.partition.toNat → s.writing u h 0x7030 4 v.toNat w →
      (v = 0 → exec (.partJobFaultInject h v) s = .next (s.answered h 0x7030 4 .done u)) ∧
      (v ≠ 0 → ∃ x, exec (.partJobFaultInject h v) s = .next (s.answered h 0x7030 4 .done x) ∧
        (x.part p).fault = true ∧ SameBut faultFields u x))) ∧
  (∀ (s u : State) (h : CatHdr) (w : Who) (v : BitVec 8) (p : Nat), p = h.partition.toNat →
    (s.writing u h 0x6050 1 v.toNat w →
      ((u.part p).hold.held = true → exec (.partHold h v) s = .next (s.answered h 0x6050 1 .done u)) ∧
      ((u.part p).hold.held = false → v.getLsbD 0 = false →
        ∃ x, exec (.partHold h v) s = .next (s.answered h 0x6050 1 .done x) ∧
          (x.part p).hold = { (u.part p).hold with held := true } ∧ SameBut ([.parts] ++ noteFields) u x) ∧
      (∀ y ns, (u.part p).hold.held = false → v.getLsbD 0 = true → y = u.holdHere p →
        ns = (y.namedHubs p).filter (fun d => y.reachableAt d 2) → ns ≠ [] →
        ∃ t, exec (.partHold h v) s = .next t ∧ t.catOpen = u.catOpen ∧ (t.part p).hold.held = true ∧
          (t.part p).hold.xs = (u.part p).hold.xs ++ [{
            resume := false, peers := ns, failed := decide (0 < (y.namedHubs p).length - ns.length)
            seq := Config.firstSeq 1 + ((u.part p).hold.seq + 1), since := u.clock, waiter := .cat h }] ∧
          SameBut ([.parts, .links, .inbox, .waitMsgs, .out] ++ noteFields) u t)) ∧
    (s.writing u h 0x6050 2 v.toNat w → v.getLsbD 0 = false →
      ∃ x, exec (.partResume h v) s = .next (s.answered h 0x6050 2 .done x) ∧
        (x.part p).hold = { (u.part p).hold with held := false } ∧ SameBut ([.parts, .ports] ++ noteFields) u x))

/-- R203, R233, R245 and R284, the writes that act on objects and waiters. A handle that the device map does not name,
and an object that the entry is not for, is refused. A cancellation ends its waits with CANCELLED; LoanRecallToken
recalls what the token has lent; LockClearAbandoned clears a lock's mark; a new LockGroupMode orders the waiters of
the group's locks anew. -/
def Obligations.ObjectWrites : Prop :=
  ∀ (s u : State) (h : CatHdr) (w : Who) (p : Nat), p = h.partition.toNat →
    (∀ v : BitVec 32, s.writing u h 0x2800 1 v.toNat w →
      (u.translate p v = none → exec (.waiterCancelObject h v) s = .next (s.answered h 0x2800 1 .accessError u)) ∧
      (∀ a, u.translate p v = some a → handleHub a = u.hub →
        ((∀ k ∈ u.queue (handleIndex a), k.cancels = false) →
          exec (.waiterCancelObject h v) s = .next (s.answered h 0x2800 1 .done u)) ∧
        (∀ k, u.queue (handleIndex a) = [k] → u.waiters.find? (fun q => q.num = k.num) = some k → k.kind = .queued →
          k.source = srcPort → origHub k.originator = u.hub → k.flags.noresp = false →
          ∃ x, exec (.waiterCancelObject h v) s = .next (s.answered h 0x2800 1 .done x) ∧
            SameBut noteFields (u.answeredCancelled k) x))) ∧
    (∀ (v : BitVec 32) (o : Originator) (q : Nat), s.writing u h 0x2800 2 v.toNat w → o = v.setWidth 25 →
      q = (getFld o 3 7 : BitVec 7).toNat →
      (¬(origHub o = u.hub ∧ u.portBuilt q = true ∧ u.portPart q = p) →
        exec (.waiterCancelOriginator h v) s = .next (s.answered h 0x2800 2 .accessError u)) ∧
      (origHub o = u.hub → u.portBuilt q = true → u.portPart q = p →
        ((∀ k ∈ u.waiters, k.originator ≠ o) →
          exec (.waiterCancelOriginator h v) s = .next (s.answered h 0x2800 2 .done u)) ∧
        (∀ k, u.waiters.filter (fun k => k.originator = o && k.source = srcPort && k.cancels) = [k] →
          u.queue k.object = [k] → u.waiters.find? (fun q => q.num = k.num) = some k → k.kind = .queued →
          k.flags.noresp = false →
          ∃ x, exec (.waiterCancelOriginator h v) s = .next (s.answered h 0x2800 2 .done x) ∧
            SameBut noteFields (u.answeredCancelled k) x))) ∧
    (∀ v : BitVec 32, s.writing u h 0x2300 6 v.toNat w →
      (u.translate p v = none → exec (.loanRecallToken h v) s = .next (s.answered h 0x2300 6 .accessError u)) ∧
      (∀ a i, u.translate p v = some a → i = handleIndex a →
        (¬(handleHub a = u.hub ∧ (u.obj i).loanable = true ∧ (u.obj i).partition.toNat = p ∧ u.isBody i = false) →
          exec (.loanRecallToken h v) s = .next (s.answered h 0x2300 6 .accessError u)) ∧
        (handleHub a = u.hub → (u.obj i).loanable = true → (u.obj i).partition.toNat = p → u.isBody i = false →
          (u.lenders.filter (fun e => e.token = i) = [] →
            exec (.loanRecallToken h v) s = .next (s.answered h 0x2300 6 .done u)) ∧
          (∀ e, u.lenders.filter (fun e => e.token = i) = [e] → e.state = .opened →
            ∃ x, exec (.loanRecallToken h v) s = .next (s.answered h 0x2300 6 .done x) ∧
              SameBut noteFields ((u.setLender { e with state := .recalling }).send
                { hdr := u.hdrTo e.borrower (u.partOfIndex i)
                  body := .loan .recall (u.loanBody (u.partOfIndex i) e.seq e.borrower (mkHandle u.hub i)) }) x)))) ∧
    (∀ v : BitVec 32, s.writing u h 0x2500 1 v.toNat w →
      (u.translate p v = none → exec (.lockClearAbandoned h v) s = .next (s.answered h 0x2500 1 .accessError u)) ∧
      (∀ a i, u.translate p v = some a → i = handleIndex a →
        (¬(handleHub a = u.hub ∧ (u.obj i).otype = .lock ∧ (u.obj i).partition.toNat = p ∧ u.isBody i = false) →
          exec (.lockClearAbandoned h v) s = .next (s.answered h 0x2500 1 .accessError u)) ∧
        (handleHub a = u.hub → (u.obj i).otype = .lock → (u.obj i).partition.toNat = p → u.isBody i = false →
          exec (.lockClearAbandoned h v) s =
            .next (s.answered h 0x2500 1 .done (u.setObj i { u.obj i with abandoned := false }))))) ∧
    (∀ (v : BitVec 8) (g : Nat) (j : BitVec 16) (x : State), g < 256 → j = BitVec.ofNat 16 (0x4000 + g) →
      s.writing u h j 4 v.toNat w → x = u.setCfg (0x4000 + g) 4 0 v.toNat →
      ((u.cfg (0x4000 + g) 4 = v.toNat ∨ (∀ y ∈ u.objs, ¬(y.2.otype = .lock ∧ y.2.group.toNat = g))) →
        exec (.lockGroupMode h g v) s = .next (s.answered h j 4 .done x)) ∧
      (∀ i, u.cfg (0x4000 + g) 4 ≠ v.toNat → (u.objs.filter fun y => y.2.otype = .lock && y.2.group.toNat = g).map Prod.fst = [i] →
        (u.obj i).otype = .lock → (u.obj i).group.toNat = g → (v = 1 ∨ (u.obj i).inhPrio = 0) →
        exec (.lockGroupMode h g v) s = .next (s.answered h j 4 .done (x.reorder i))))

/-- R290, R453, R537 and R538, the writes of an event input's binding, of the injection block and of ViewSelect. A new
binding drops what the input has kept. FaultInjectKind inverts bits of the word selected, or lets the stage selected
withhold its next acknowledgement. ViewSelect copies the object selected into its window; a tenant reaches its own
objects alone. Which word an index names, and what a new binding drops, are in part the model's choice (log entries
26, 42 and 83). -/
def Obligations.BindingInjectionAndViewWrites : Prop :=
  ∀ (s u : State) (h : CatHdr) (w : Who),
    (∀ (i n : Nat) (sub : BitVec 8) (j : BitVec 16) (v : BitVec 32) (x : State), i < 16 → sub = 2 ∨ sub = 3 ∨ sub = 4 ∨ sub = 5 →
      j = BitVec.ofNat 16 (0x2600 + i) → s.writing u h j sub v.toNat w →
      n = (if sub = 5 then v.toNat else v.toNat % 256) →
      x = (u.setCfg (0x2600 + i) sub.toNat 0 n).setEv i { u.ev i with deferred := false, applied := false, changes := 0 } →
      ((u.ev i).deferred = false → exec (.evBindingWrite h i sub v) s = .next (s.answered h j sub .done x)) ∧
      ((u.ev i).deferred = true → ∃ t, exec (.evBindingWrite h i sub v) s = .next (s.answered h j sub .done t) ∧
        SameBut ([.evs] ++ noteFields) x t)) ∧
    (∀ (v : BitVec 8) (sel : Nat), s.writing u h 0x7040 2 v.toNat w → sel = u.cfg 0x7040 1 → 1 ≤ v.toNat → v.toNat ≤ 3 →
      (∀ k, sel / 2 ^ 26 ≠ 8 → injectWord sel = some k → u.flips = [] →
        exec (.faultInjectBits h v) s = .next (s.answered h 0x7040 2 .done { u with
          flips := [(k, v.toNat)]
          free := u.free + 1 })) ∧
      (sel / 2 ^ 26 ≠ 8 → injectWord sel = none →
        exec (.faultInjectBits h v) s = .next (s.answered h 0x7040 2 .accessError u)) ∧
      (∀ q, sel / 2 ^ 26 = 8 → q = sel / 64 % 128 →
        (sel % 2 ^ 26 < 2 ^ 13 → u.portBuilt q = true → (u.port q).nearFlips.get natNone (sel % 64) = 0 →
          exec (.faultInjectBits h v) s = .next (s.answered h 0x7040 2 .done { u.setPort q { u.port q with
            nearFlips := (u.port q).nearFlips.put natNone (sel % 64) v.toNat } with free := u.free + 1 })) ∧
        ((2 ^ 13 ≤ sel % 2 ^ 26 ∨ u.portBuilt q = false) →
          exec (.faultInjectBits h v) s = .next (s.answered h 0x7040 2 .accessError u)))) ∧
    (∀ sel, s.writing u h 0x7040 2 4 w → sel = u.cfg 0x7040 1 →
      (¬(sel / 2 ^ 26 = 16 ∧ u.stageBuilt (sel % 32) = true) →
        exec (.faultInjectStage h) s = .next (s.answered h 0x7040 2 .accessError u)) ∧
      (sel / 2 ^ 26 = 16 → u.stageBuilt (sel % 32) = true → u.stuck.contains (sel % 32) = false →
        exec (.faultInjectStage h) s = .next (s.answered h 0x7040 2 .done { u with
          stuck := sortNat (sel % 32 :: u.stuck) }))) ∧
    (∀ (v : BitVec 32) (k n : Nat) (j : BitVec 16), k < 64 → j = BitVec.ofNat 16 (0x8000 + 0x100 * k) →
      s.writing u h j 1 v.toNat w → n = v.toNat &&& 0xFFF1FFFF →
      (∀ q, n.testBit 31 = true → q = n / 2 ^ 24 % 128 →
        (w.operator = false → (u.portBuilt q = false ∨ u.portPart q ≠ w.part) →
          exec (.viewSelect h k v) s = .next (s.answered h j 1 .beyondRights u)) ∧
        (w.operator = true → u.portBuilt q = false →
          exec (.viewSelect h k v) s = .next (s.answered h j 1 .accessError u)) ∧
        (u.portBuilt q = true → (w.operator = true ∨ u.portPart q = w.part) →
          (u.port q).nearFlips.get natNone (n % 64) = 0 →
          exec (.viewSelect h k v) s = .next (s.answered h j 1 .done (u.setView k {
            valid := true, select := BitVec.ofNat 32 n, near := true, generation := (u.view k).generation + 1
            time := u.time, nearRec := (u.port q).nearWord (n % 64), value := (u.nearRead q (n % 64) 0).getD 0 })))) ∧
      (∀ q i, n.testBit 31 = false → q = n / 2 ^ 20 % 16 → i = u.shareBase q + n % 2 ^ 17 →
        (w.operator = false → q ≠ w.part →
          exec (.viewSelect h k v) s = .next (s.answered h j 1 .beyondRights u)) ∧
        ((w.operator = true ∨ q = w.part) → (u.partCount ≤ q ∨ u.shareSize ≤ n % 2 ^ 17) →
          exec (.viewSelect h k v) s = .next (s.answered h j 1 .accessError u)) ∧
        (q < u.partCount → n % 2 ^ 17 < u.shareSize → u.wideBit i = false →
          (w.operator = false → q = w.part → (u.obj i).partition.toNat ≠ w.part →
            exec (.viewSelect h k v) s = .next (s.answered h j 1 .beyondRights u)) ∧
          ((w.operator = true ∨ (q = w.part ∧ (u.obj i).partition.toNat = w.part)) → u.flips = [] →
            exec (.viewSelect h k v) s = .next (s.answered h j 1 .done (u.setView k {
              valid := true, select := BitVec.ofNat 32 n, more := decide (64 < (u.queue i).length), wide := false
              generation := (u.view k).generation + 1, time := u.time, record := [u.recordWord i]
              value := (u.obj i).word0, lastOrig := (u.obj i).lastOrig, lastTime := (u.obj i).lastTime
              waiters := (waiterWords (u.queue i)).take 64 }))))))

/-- R366, R375 and R392, the writes of a link's range, of a route and of TimeSet. A write of LinkEnable,
LinkVersionMin or LinkVersionMax takes an UP link into renegotiation, waits out one that is under way, lets a REFUSED
link negotiate again, and completes at once where there is nothing to settle. A route that no message of this hub
leaves on, or whose port and VL do not change, is installed at once; another is changed under fences. TimeSet is the
time root's, once after each reset. That a write with nothing to settle completes at once is the model's choice (log
entry 17), and so is what a second write of a route does during a change (log entry 16). -/
def Obligations.LinkRouteAndTimeWrites : Prop :=
  ∀ (s u : State) (h : CatHdr) (w : Who),
    (∀ (c : Nat) (sub v : BitVec 8) (j : BitVec 16) (x y : State), (c < 4 ∨ (8 ≤ c ∧ c < 16)) → sub = 1 ∨ sub = 2 ∨ sub = 3 →
      j = BitVec.ofNat 16 (0x5000 + c) → s.writing u h j sub v.toNat w → x = u.setCfg (0x5000 + c) sub.toNat 0 v.toNat →
      y = x.setLink c { u.link c with catWaits := (u.link c).catWaits ++ [h] } →
      (((u.link c).state = .down ∨ (u.link c).state = .training ∨ ((u.link c).state = .refused ∧ (u.link c).phyUp = false)) →
        exec (.linkRenegotiate h c sub v) s = .next (s.answered h j sub .done x)) ∧
      (((u.link c).state = .renegotiating ∨ (u.link c).state = .hold ∨ (u.link c).state = .negotiating) →
        exec (.linkRenegotiate h c sub v) s = .next y) ∧
      ((u.link c).state = .refused → (u.link c).phyUp = true → u.linkOut c = false → u.waitMsgs = [] →
        ∃ t f, exec (.linkRenegotiate h c sub v) s = .next t ∧
          SameBut ([.links, .lostSince, .sync, .out] ++ noteFields) y t ∧ (t.link c).state = .negotiating ∧
          (t.link c).catWaits = (u.link c).catWaits ++ [h] ∧ t.out = u.out ++ [.flit c (Flit.encode f)] ∧ f.ftype = 2) ∧
      ((u.link c).state = .up → u.waitMsgs = [] →
        ∃ t, exec (.linkRenegotiate h c sub v) s = .next t ∧
          SameBut ([.links, .lostSince, .sync, .out] ++ noteFields) y t ∧ (t.link c).state = .renegotiating ∧
          (t.link c).closing = true ∧ (t.link c).catWaits = (u.link c).catWaits ++ [h] ∧
          ((u.link c).replay ≠ [] → t.out = u.out) ∧
          ((u.link c).replay = [] → ∃ f : Flit, t.out = u.out ++ [.flit c f.encode] ∧ f.ftype = 2))) ∧
    (∀ (v e : BitVec 32) (k : RouteKey), s.writing u h 0x5100 2 v.toNat w → k = routeSelected (u.cfg 0x5100 1) →
      e = v &&& 0xFFFC0000 →
      ((∀ x ∈ u.changes, x.key ≠ k) → (u.leave (u.route k) = .strand ∨ u.leave e = u.leave (u.route k)) → u.waitMsgs = [] →
        ∃ t, exec (.routeEntry h v) s = .next (s.answered h 0x5100 2 .done t) ∧
          t.routes = u.routes.put routeNone k e ∧ SameBut [.routes, .lostSince] u t) ∧
      (∀ c vl, (∀ x ∈ u.changes, x.key ≠ k) → u.leave (u.route k) = .on c vl → u.leave e ≠ .on c vl →
        ∃ t, exec (.routeEntry h v) s = .next t ∧ t.changes = u.changes ++ [{
            key := k
            entry := e
            link := c
            fences := (fenceList u.fenceBase ((u.routeCovers k).filter fun d => d ≠ u.hub)).map fun x => (x.2.cpl, x.2.num)
            cats := [h] }] ∧
          SameBut [.changes, .fenceNum, .links, .cat, .out] u t) ∧
      ((∃ x ∈ u.changes, x.key = k) →
        exec (.routeEntry h v) s = .next { u with
          changes := u.changes.map fun x => if x.key = k then { x with entry := e, cats := x.cats ++ [h] } else x })) ∧
    (∀ v : Time, s.writing u h 0x5200 8 v.toNat w →
      ((u.cfg 0x5200 1 = 0 ∨ u.sync.setUsed = true) →
        exec (.timeSet h v) s = .next (s.answered h 0x5200 8 .accessError u)) ∧
      (u.cfg 0x5200 1 ≠ 0 → u.sync.setUsed = false →
        exec (.timeSet h v) s = .next (s.answered h 0x5200 8 .done
          { u with time := v, sync := { u.sync with setUsed := true } })))

/-- R215, R216, R332 and R336, the writes of rings. A new base or size of a ring clears its indices, and a notify
ring's records are numbered from the start. A consumer index is taken where no more records lie between it and the
producer index than lay between the old one and it; otherwise it is refused, by the Catalogue with ACCESS_ERROR and by
the control block with SLVERR. -/
def Obligations.RingWrites : Prop :=
  ∀ (s u : State) (h : CatHdr) (w : Who) (p : Nat), p = h.partition.toNat →
    (∀ (k : Nat) (size : Bool) (v : BitVec 64) (j : BitVec 16) (sub : BitVec 8) (n : Nat), k < 4 →
      j = BitVec.ofNat 16 (0x2400 + k) → sub = (if size then 2 else 1) → n = (if size then v.toNat % 256 else v.toNat) →
      s.writing u h j sub v.toNat w → u.buffered = [] →
      exec (.ticketRingConfigWrite h k size v) s = .next (s.answered h j sub .done
        (((u.setCfg (0x2400 + k) sub.toNat p n).setCfg (0x2400 + k) 3 p 0).setCfg (0x2400 + k) 4 p 0))) ∧
    (∀ (hub size : Bool) (v : BitVec 64) (i r : Nat) (j : BitVec 16) (sub : BitVec 8) (n : Nat),
      r = (if hub then 16 else p) → i = ringIndex r → j = BitVec.ofNat 16 i →
      sub = (if size then 2 else 1) → n = (if size then v.toNat % 256 else v.toNat) → s.writing u h j sub v.toNat w →
      exec (.notifyRingConfigWrite h hub size v) s = .next (s.answered h j sub .done
        ((((u.setCfg i sub.toNat (ringPart r) n).setCfg i 3 (ringPart r) 0).setCfg i 4 (ringPart r) 0).setRing r
          { u.ring r with nextSeq := 1 }))) ∧
    (∀ (k : Nat) (v : BitVec 32) (j : BitVec 16), k < 4 → j = BitVec.ofNat 16 (0x2400 + k) → s.writing u h j 4 v.toNat w →
      (consumerOk (u.tring k 3 p) (u.tring k 4 p) v.toNat = true → u.buffered = [] →
        exec (.consumerIndexWrite (.cat h) (.ticket k) v) s =
          .next (s.answered h j 4 .done (u.setCfg (0x2400 + k) 4 p v.toNat))) ∧
      (consumerOk (u.tring k 3 p) (u.tring k 4 p) v.toNat = false →
        exec (.consumerIndexWrite (.cat h) (.ticket k) v) s = .next (s.answered h j 4 .accessError u))) ∧
    (∀ (hub : Bool) (v : BitVec 32) (i r : Nat) (j : BitVec 16), r = (if hub then 16 else p) →
      i = ringIndex r → j = BitVec.ofNat 16 i → s.writing u h j 4 v.toNat w →
      (consumerOk (u.ringCfg r 3) (u.ringCfg r 4) v.toNat = true →
        exec (.consumerIndexWrite (.cat h) (if hub then .hubNotify else .notify) v) s =
          .next (s.answered h j 4 .done (u.setCfg i 4 (ringPart r) v.toNat))) ∧
      (consumerOk (u.ringCfg r 3) (u.ringCfg r 4) v.toNat = false →
        exec (.consumerIndexWrite (.cat h) (if hub then .hubNotify else .notify) v) s =
          .next (s.answered h j 4 .accessError u))) ∧
    (∀ (b k : Nat) (v : BitVec 32), s.live = true → b < s.partCount → b < 16 → k < 4 →
      (consumerOk (s.tring k 3 b) (s.tring k 4 b) v.toNat = true → s.buffered = [] →
        exec (.consumerIndexWrite (.block b) (.ticket k) v) s =
          .next ((s.setCfg (0x2400 + k) 4 b v.toNat).drive (.axiResp none (some b) false false))) ∧
      (consumerOk (s.tring k 3 b) (s.tring k 4 b) v.toNat = false →
        exec (.consumerIndexWrite (.block b) (.ticket k) v) s =
          .next ((s.bump 0x2900 9 b).drive (.axiResp none (some b) true false))) ∧
      (consumerOk (s.ringCfg b 3) (s.ringCfg b 4) v.toNat = true →
        exec (.consumerIndexWrite (.block b) .notify v) s =
          .next ((s.setCfg 0x2900 4 b v.toNat).drive (.axiResp none (some b) false false))) ∧
      (consumerOk (s.ringCfg b 3) (s.ringCfg b 4) v.toNat = false →
        exec (.consumerIndexWrite (.block b) .notify v) s =
          .next ((s.bump 0x2900 9 b).drive (.axiResp none (some b) true false))))

/-- R460, R461, R488, R493 and R502, the writes of shelves, of the Inventory and of Stocktake. ShelfArm arms the shelf
that bit 0 names by the entries beside it, at the partition's other hubs too where bit 2 says so; ShelfCancel fails an
armed one with status 4. InventoryTake is refused without a base and while one runs; otherwise its entries are
written, an END the last, and it runs until they are. StocktakeEnable begins the rounds anew, or ends them. R483 and
R485, the writes of a Deposit rule. DepositFlags enables the rule selected, and is refused where the rule names no
barrier of the partition at this hub or no target that takes tickets. DepositAck ends the hold of a rule, and if no
other rule holds the release it goes on; here while the Folio records nothing. That an Inventory is read at one
instant is the model's choice (log entry 87). -/
def Obligations.SnapshotAndDepositWrites : Prop :=
  (∀ (s u : State) (h : CatHdr) (w : Who) (v : BitVec 8) (p k : Nat), p = h.partition.toNat → k = bitNat (v.getLsbD 0) →
    (∀ a y, s.writing u h 0x6020 1 v.toNat w →
      a = { shelf := k, mode := v.getLsbD 1, index := BitVec.ofNat 17 (u.cfg 0x6020 3 p)
            round := BitVec.ofNat 28 (u.cfg 0x6020 4 p), time := BitVec.ofNat 64 (u.cfg 0x6020 2 p), asker := none } →
      y = (if v.getLsbD 2 then u.armPeers p a else u) → y.armFails p a = none →
      exec (.shelfArmEntry h v) s = .next (s.answered h 0x6020 1 .done (y.setShelf p k { y.shelf p k with
        state := .armed
        mode := a.mode
        armTime := a.time
        armIndex := a.index
        armRound := a.round
        asker := none
        round := 0
        latchTime := 0
        counters := []
        status := 0
        generation := (y.shelf p k).generation + 1 }))) ∧
    (s.writing u h 0x6020 5 v.toNat w →
      ((u.shelf p k).state = .armed → (u.shelf p k).asker = none → v.getLsbD 2 = false →
        exec (.shelfCancelEntry h v) s =
          .next (s.answered h 0x6020 5 .done (u.setShelf p k { u.shelf p k with state := .failed, status := 4 }))) ∧
      ((u.shelf p k).state ≠ .armed → v.getLsbD 2 = false →
        exec (.shelfCancelEntry h v) s = .next (s.answered h 0x6020 5 .done u))) ∧
    (s.writing u h 0x6040 3 v.toNat w →
      (v = 0 → exec (.inventoryTake h v) s = .next (s.answered h 0x6040 3 .done u)) ∧
      (v ≠ 0 → (u.cfg 0x6040 1 p = 0 ∨ (u.part p).inv.running = true) →
        exec (.inventoryTake h v) s = .next (s.answered h 0x6040 3 .accessError u)) ∧
      (v ≠ 0 → u.cfg 0x6040 1 p ≠ 0 → (u.part p).inv.running = false →
        ∃ x n c ws, exec (.inventoryTake h v) s = .next (s.answered h 0x6040 3 .done x) ∧
          (x.part p).inv = { running := true, entries := n, truncated := c, aborted := false, reason := 0 } ∧
          x.mgr = u.mgr ++ ws ∧ ws.length = n ∧ (∀ q ∈ ws, q.kind = .inventory ∧ q.partition = p) ∧
          SameBut [.parts, .mgr, .cat] u x)) ∧
    (s.writing u h 0x6070 1 v.toNat w →
      exec (.stocktakeEnable h v) s = .next (s.answered h 0x6070 1 .done
        ((u.setCfg 0x6070 1 p v.toNat).setPart p { u.part p with stock := { (u.part p).stock with
          state := if v.toNat = 0 then .off else .running
          startedAt := u.clock
          scope := []
          reports := []
          ref := none } })))) ∧
  (∀ (s u : State) (h : CatHdr) (w : Who) (v : BitVec 8) (p k : Nat) (d : Deposit), p = h.partition.toNat →
    d = (u.part p).deposit k →
    (s.writing u h 0x6060 8 v.toNat w → k = u.cfg 0x6060 1 p →
      (v.getLsbD 0 = true → u.depositOk p d = false →
        exec (.depositFlags h v) s = .next (s.answered h 0x6060 8 .accessError u)) ∧
      ((v.getLsbD 0 = false ∨ u.depositOk p d = true) →
        exec (.depositFlags h v) s = .next (s.answered h 0x6060 8 .done
          (u.setPart p ((u.part p).setDeposit k { d with enable := v.getLsbD 0, hold := v.getLsbD 1 }))))) ∧
    (s.writing u h 0x6060 10 v.toNat w → k = v.toNat →
      (8 ≤ k → exec (.depositAck h v) s = .next (s.answered h 0x6060 10 .accessError u)) ∧
      (k < 8 → d.waiting = false → exec (.depositAck h v) s = .next (s.answered h 0x6060 10 .done u)) ∧
      (∀ x, k < 8 → d.waiting = true → u.cfg 0x6030 4 = 0 →
        x = u.setPart p ((u.part p).setDeposit k { d with waiting := false }) →
        (((x.obj d.index).otype = .barrier ∧ (x.obj d.index).faulted = false ∧
            (x.obj d.index).arrivals = (x.obj d.index).expected ∧ x.depositHolds d.index = false) →
          exec (.depositAck h v) s = .next ((x.releaseOn d.index d.cause).catFinish h .done)) ∧
        (((x.obj d.index).otype ≠ .barrier ∨ (x.obj d.index).faulted = true ∨
            (x.obj d.index).arrivals ≠ (x.obj d.index).expected ∨ x.depositHolds d.index = true) →
          exec (.depositAck h v) s = .next (s.answered h 0x6060 10 .done x)))))

/-- R469, R471, R472 and R476, the writes of the Folio. 1 to FolioControl arms a capture that rests and is refused
while one runs; 2 triggers an armed capture with a MARKER record; 3 stops a capture that runs, here one without a dump
base; 4 makes it IDLE. A write of FolioMarker is a MARKER record with its value. The partition of the MARKER is the
model's choice (log entry 22); whether the Folio's queue has room for it is left open (log entry 88). -/
def Obligations.FolioWrites : Prop :=
  ∀ (s u : State) (h : CatHdr) (w : Who),
    (s.writing u h 0x6030 2 1 w →
      ((u.folio.state = .idle ∨ u.folio.state = .stopped) →
        exec (.folioArm h) s = .next (s.answered h 0x6030 2 .done { u with folio := { u.folio with
          state := .armed
          pre := []
          post := []
          lost := 0
          lostFlag := false
          dumped := false
          generation := u.folio.generation + 1 } })) ∧
      (u.folio.state ≠ .idle → u.folio.state ≠ .stopped →
        exec (.folioArm h) s = .next (s.answered h 0x6030 2 .accessError u))) ∧
    (s.writing u h 0x6030 2 2 w →
      (u.folio.state ≠ .armed → exec (.folioTrigger h) s = .next (s.answered h 0x6030 2 .done u)) ∧
      (u.folio.state = .armed → u.folio.post.length + 1 < u.folioPostCap →
        ∃ r, exec (.folioTrigger h) s = .next (s.answered h 0x6030 2 .done { u with folio := { u.folio with
            state := .triggered
            trigTimeSeen := u.time
            post := u.folio.post ++ [r]
            lostFlag := false
            generation := u.folio.generation + 1 } }) ∧
          r.rkind = 0x15 ∧ r.trig = true ∧ r.aux = 1 ∧ r.time = u.time)) ∧
    (s.writing u h 0x6030 2 3 w →
      (u.folio.state ≠ .armed → u.folio.state ≠ .triggered →
        exec (.folioStop h) s = .next (s.answered h 0x6030 2 .done u)) ∧
      ((u.folio.state = .armed ∨ u.folio.state = .triggered) → u.cfg 0x6030 17 = 0 →
        ∃ x, exec (.folioStop h) s = .next (s.answered h 0x6030 2 .done x) ∧
          x.folio = { u.folio with state := .stopped, dumped := false } ∧ SameBut noteFields u x)) ∧
    (s.writing u h 0x6030 2 4 w →
      exec (.folioClear h) s = .next (s.answered h 0x6030 2 .done { u with folio := { u.folio with state := .idle } })) ∧
    (∀ v : BitVec 64, s.writing u h 0x6030 10 v.toNat w →
      ∃ r, exec (.folioMarker h v) s = .next (s.answered h 0x6030 10 .done (u.record r)) ∧ r.rkind = 0x15 ∧ r.data = v ∧
        r.time = u.time ∧ SameBut noteFields u (u.record r))

/-- R511, R517, R522 and R529, the turn of every Catalogue request. A hub that serves no longer, or not yet, performs
none. A request over APB5 while one is in progress there is answered with PSLVERR; an MCTP request to a hub without an
endpoint ID is discarded and counted. While a request of its principal is in progress or waits, or eight are in
progress, up to four wait and the next is answered with BUSY. A request of an EID that no CatPrincipal entry names is
answered with BEYOND_RIGHTS. What a hub that does not serve does, and the order of the checks, are the model's reading
(log entries 51, 54 and 55). -/
def Obligations.RequestTurns : Prop :=
  ∀ (s : State) (i : Instr) (h : CatHdr) (a : CatAsk), requestOf i = some (h, a) →
    (s.live = false → exec i s = .next s) ∧
    (s.live = true → h.via = .apb → s.apb.busy = true → exec i s = .next (s.drive .pslverr)) ∧
    (s.live = true → h.via ≠ .apb → s.eid = 0 → exec i s = .next (s.bump 0x2C01 5)) ∧
    (s.live = true → (h.via = .apb → s.apb.busy = false) → (h.via ≠ .apb → s.eid ≠ 0) →
      (s.mustWait (viaPrincipal h.via) = true → (s.catHeld.filter fun x => x.1 = viaPrincipal h.via).length < 4 →
        exec i s = .next { s.apbBusy h a with catHeld := s.catHeld ++ [(viaPrincipal h.via, i)] }) ∧
      (s.mustWait (viaPrincipal h.via) = true → 4 ≤ (s.catHeld.filter fun x => x.1 = viaPrincipal h.via).length →
        exec i s = .next (s.catAnswer (statusAnswer h a.command a.index a.sub .busy))) ∧
      (s.mustWait (viaPrincipal h.via) = false → s.whoIs h.via = none →
        exec i s = .next (s.catAnswer (statusAnswer h a.command a.index a.sub .beyondRights))))

/-- R507 to R510, R515, R516, R526 and R527, the Catalogue's commands once their turn has come. An entry that is not
there is NO_ENTRY; one that the principal has no right to is BEYOND_RIGHTS; a READ of a DOMAIN, and a READ_SEG of
anything else or of a length outside 1 to 1,024, is MALFORMED, as is every malformed request; and the others are
answered with their data. A WRITE of an entry without a meaning of its own stores the value. The order of the refusals
is DEDUCED (log entry 54). -/
def Obligations.CatalogueCommands : Prop :=
  ∀ (s b : State) (h : CatHdr) (w : Who) (i : BitVec 16) (k : BitVec 8), s.serves h w →
    (∀ a, a = { command := cmdIdentify, index := 0, sub := 0 } →
      exec (.identify h) s = .next ((s.apbBusy h a).catAnswer (dataAnswer h a 16 ((s.apbBusy h a).identifyData w)))) ∧
    (∀ a, a = { command := cmdDescribe, index := i, sub := k } → b = s.apbBusy h a →
      (b.findEntry w i.toNat k.toNat h.partition = none →
        exec (.describe h i k) s = .next (b.catAnswer (statusAnswer h a.command i k .noEntry))) ∧
      (∀ r p, b.findEntry w i.toNat k.toNat h.partition = some r → p = entryPart r h.partition →
        ((b.mayRead w i.toNat r p = true ∨ b.mayWrite w i.toNat r p = true) →
          exec (.describe h i k) s = .next (b.catAnswer (dataAnswer h a 64 (b.describeData i.toNat r p)))) ∧
        (b.mayRead w i.toNat r p = false → b.mayWrite w i.toNat r p = false →
          exec (.describe h i k) s = .next (b.catAnswer (statusAnswer h a.command i k .beyondRights))))) ∧
    (∀ a, a = { command := cmdRead, index := i, sub := k } → b = s.apbBusy h a →
      (b.findEntry w i.toNat k.toNat h.partition = none →
        exec (.catRead h i k) s = .next (b.catAnswer (statusAnswer h a.command i k .noEntry))) ∧
      (∀ r p, b.findEntry w i.toNat k.toNat h.partition = some r → p = entryPart r h.partition →
        (b.mayRead w i.toNat r p = false →
          exec (.catRead h i k) s = .next (b.catAnswer (statusAnswer h a.command i k .beyondRights))) ∧
        (b.mayRead w i.toNat r p = true → r.ty.bytes = 0 →
          exec (.catRead h i k) s = .next (b.catAnswer (statusAnswer h a.command i k .malformed))) ∧
        (b.mayRead w i.toNat r p = true → r.ty.bytes ≠ 0 →
          exec (.catRead h i k) s = .next (b.catAnswer (dataAnswer h a r.ty.bytes (b.readEntry i.toNat r p)))))) ∧
    (∀ a offset len n g, a = { command := cmdReadSeg, index := i, sub := k } →
      n = (if h.via = .apb then (len : BitVec 16).toNat % 2 ^ 11 else len.toNat) →
      b = (if h.via = .apb then { s.apbBusy h a with apb := { (s.apbBusy h a).apb with
        offset := offset
        len := BitVec.ofNat 32 n } } else s.apbBusy h a) →
      (b.findEntry w i.toNat k.toNat h.partition = none →
        exec (.readSeg h i k offset len g) s = .next (b.catAnswer (statusAnswer h a.command i k .noEntry))) ∧
      (∀ r p d, b.findEntry w i.toNat k.toNat h.partition = some r → p = entryPart r h.partition →
        d = b.domainOf w i.toNat r.sub p →
        (b.mayRead w i.toNat r p = false →
          exec (.readSeg h i k offset len g) s = .next (b.catAnswer (statusAnswer h a.command i k .beyondRights))) ∧
        (b.mayRead w i.toNat r p = true → (r.ty.bytes ≠ 0 ∨ n = 0 ∨ 1024 < n) →
          exec (.readSeg h i k offset len g) s = .next (b.catAnswer (statusAnswer h a.command i k .malformed))) ∧
        (b.mayRead w i.toNat r p = true → r.ty.bytes = 0 → 1 ≤ n → n ≤ 1024 →
          (d.current offset.toNat g = false →
            exec (.readSeg h i k offset len g) s = .next (b.catAnswer (statusAnswer h a.command i k .changed))) ∧
          (d.current offset.toNat g = true →
            exec (.readSeg h i k offset len g) s = .next (b.catAnswer {
              dataAnswer h a (d.slice offset.toNat n).1 (d.slice offset.toNat n).2 with
              last := decide (d.len ≤ offset.toNat + n)
              generation := d.generation }))))) ∧
    (∀ a, a = { command := cmdNext, index := i, sub := k } → b = s.apbBusy h a →
      (∀ x, b.nextIn w h.partition i.toNat k.toNat (catIndices.filter fun j => decide (i.toNat ≤ j)) = some x →
        exec (.nextEntry h i k) s =
          .next (b.catAnswer (statusAnswer h cmdNext (BitVec.ofNat 16 x.1) (BitVec.ofNat 8 x.2) .done))) ∧
      (b.nextIn w h.partition i.toNat k.toNat (catIndices.filter fun j => decide (i.toNat ≤ j)) = none →
        exec (.nextEntry h i k) s = .next (b.catAnswer (statusAnswer h cmdNext i k .noEntry)))) ∧
    (∀ c why, exec (.catMalformedRequest h c why) s =
      .next ((s.apbBusy h { command := c, index := 0, sub := 0 }).catAnswer (statusAnswer h c 0 0 .malformed))) ∧
    (∀ n v o u, o = (if h.via = .apb then none else some n) → b = (s.apbBusy h (writeAsk i k)).apbData h (v : BitVec 128).toNat →
      u = s.opened h i k v.toNat →
      (∀ st, b.writeRefused h (writeAsk i k) w o v.toNat = some st →
        exec (.catWrite h i k n v) s = .next (b.catAnswer (statusAnswer h cmdWrite i k st))) ∧
      (b.writeRefused h (writeAsk i k) w o v.toNat = none →
        i.toNat ∈ [0x2100, 0x2200, 0x2404, 0x2700, 0x2B00, 0x2C01, 0x4100, 0x7000, 0x7010, 0x7020, 0x7050] →
        exec (.catWrite h i k n v) s = .next (s.answered h i k .done
          (u.setCfg i.toNat k.toNat (entryPart (askRow (writeAsk i k)) h.partition) ((askRow (writeAsk i k)).stored v.toNat)))))

/-- R522 and R524, the MCTP endpoint. It takes the endpoint ID that it is given, but for 0 and 0xFF, and answers the
control commands of the base specification that the rule names; packets that it discards are counted. The values of
the answers are the model's (PRESUMED, log entry 28). -/
def Obligations.MctpEndpoint : Prop :=
  ∀ (s : State) (src : BitVec 8) (tag : BitVec 3) (m : BitVec 8 → BitVec 8 → Nat → Output), s.live = true →
    (∀ c st d, m c st d = .mctp { dst := src, tag := tag, command := c, completion := st, data := BitVec.ofNat 64 d }) →
    (∀ e, e ≠ 0 → e ≠ 0xFF →
      exec (.setEndpointId src tag e) s = .next (({ s with eid := e } : State).drive (m 1 0 (e.toNat * 256)))) ∧
    (∀ e, e = 0 ∨ e = 0xFF → exec (.setEndpointId src tag e) s = .next (s.drive (m 1 2 0))) ∧
    exec (.getEndpointId src tag) s = .next (s.drive (m 2 0 s.eid.toNat)) ∧
    (∀ t, t = 0xFF ∨ t = 0 → exec (.getMctpVersionSupport src tag t) s = .next (s.drive (m 4 0 0x00FFF3F101))) ∧
    (∀ t, t ≠ 0xFF → t ≠ 0 → exec (.getMctpVersionSupport src tag t) s = .next (s.drive (m 4 0x80 0))) ∧
    exec (.getMessageTypeSupport src tag) s = .next (s.drive (m 5 0 0x7F0002)) ∧
    exec (.getVendorDefinedMessageSupport src tag 0) s = .next (s.drive (m 6 0 0x0100A9D2000001FF)) ∧
    (∀ k, k ≠ 0 → exec (.getVendorDefinedMessageSupport src tag k) s = .next (s.drive (m 6 2 0))) ∧
    (∀ why n, exec (.mctpPacketDiscard why n) s = .next (s.bumpN 0x2C01 5 0 n))
end

