-- ==== Sys2Proof/Laws/Wipe.lean ====
section
/-! SUPPORT. Blotting out fields: what an update of a state changes, field by field. -/

namespace Sys2Proof.Machine

theorem wipe_wipe (m k : Nat) (s : State) : (s.wipe k).wipe m = s.wipe (m ||| k) := by
  simp only [State.wipe, Nat.testBit_or]
  congr 1 <;> (cases m.testBit _ <;> rfl)

/-- Two states that agree but for a mask agree but for every larger mask. -/
theorem wipe_mono {k m : Nat} {s t : State} (h : k ||| m = m) (e : s.wipe k = t.wipe k) : s.wipe m = t.wipe m := by
  have e2 := congrArg (State.wipe m) e
  rwa [wipe_wipe, wipe_wipe, Nat.or_comm, h] at e2

/-- A part of a mask that a larger mask holds. -/
theorem mask_sub {k n m : Nat} (h : n ||| m = m) (hk : k ||| n = n) : k ||| m = m := by
  rw [← h, ← Nat.or_assoc, hk]

theorem testBit_sub {n m i : Nat} (h : n ||| m = m) (hi : n.testBit i = true) : m.testBit i = true := by
  rw [← h, Nat.testBit_or, hi, Bool.true_or]

theorem wipe_ite {c : Prop} [Decidable c] (m : Nat) (a b : State) :
    (if c then a else b).wipe m = if c then a.wipe m else b.wipe m := by split <;> rfl

theorem wipe_ite_fst {c : Prop} [Decidable c] {α : Type} (m : Nat) (a b : State × α) :
    ((if c then a else b).1).wipe m = if c then a.1.wipe m else b.1.wipe m := by split <;> rfl

theorem wipe_pending (m : Nat) (h0 : m.testBit 0 = true) (s : State) (x0 : List Instr) :
    ({ s with pending := x0 } : State).wipe m = s.wipe m := by
  simp only [State.wipe, h0, cond_true]

theorem wipe_refLost (m : Nat) (h0 : m.testBit 9 = true) (s : State) (x0 : Bool) :
    ({ s with refLost := x0 } : State).wipe m = s.wipe m := by
  simp only [State.wipe, h0, cond_true]

theorem wipe_sync (m : Nat) (h0 : m.testBit 10 = true) (s : State) (x0 : TimeSync) :
    ({ s with sync := x0 } : State).wipe m = s.wipe m := by
  simp only [State.wipe, h0, cond_true]

theorem wipe_parts (m : Nat) (h0 : m.testBit 12 = true) (s : State) (x0 : Sparse Part) :
    ({ s with parts := x0 } : State).wipe m = s.wipe m := by
  simp only [State.wipe, h0, cond_true]

theorem wipe_reslice (m : Nat) (h0 : m.testBit 13 = true) (s : State) (x0 : Reslice) :
    ({ s with reslice := x0 } : State).wipe m = s.wipe m := by
  simp only [State.wipe, h0, cond_true]

theorem wipe_objs (m : Nat) (h0 : m.testBit 14 = true) (s : State) (x0 : Sparse ObjRec) :
    ({ s with objs := x0 } : State).wipe m = s.wipe m := by
  simp only [State.wipe, h0, cond_true]

theorem wipe_wideBits (m : Nat) (h0 : m.testBit 15 = true) (s : State) (x0 : Sparse Bool) :
    ({ s with wideBits := x0 } : State).wipe m = s.wipe m := by
  simp only [State.wipe, h0, cond_true]

theorem wipe_waiters (m : Nat) (h0 : m.testBit 16 = true) (s : State) (x0 : List Waiter) :
    ({ s with waiters := x0 } : State).wipe m = s.wipe m := by
  simp only [State.wipe, h0, cond_true]

theorem wipe_lenders (m : Nat) (h0 : m.testBit 17 = true) (s : State) (x0 : List Lender) :
    ({ s with lenders := x0 } : State).wipe m = s.wipe m := by
  simp only [State.wipe, h0, cond_true]

theorem wipe_ledgers (m : Nat) (h0 : m.testBit 18 = true) (s : State) (x0 : List Ledger) :
    ({ s with ledgers := x0 } : State).wipe m = s.wipe m := by
  simp only [State.wipe, h0, cond_true]

theorem wipe_ports (m : Nat) (h0 : m.testBit 20 = true) (s : State) (x0 : Sparse Port) :
    ({ s with ports := x0 } : State).wipe m = s.wipe m := by
  simp only [State.wipe, h0, cond_true]

theorem wipe_slots (m : Nat) (h0 : m.testBit 21 = true) (s : State) (x0 : Sparse Slot) :
    ({ s with slots := x0 } : State).wipe m = s.wipe m := by
  simp only [State.wipe, h0, cond_true]

theorem wipe_rets (m : Nat) (h0 : m.testBit 22 = true) (s : State) (x0 : List Ret) :
    ({ s with rets := x0 } : State).wipe m = s.wipe m := by
  simp only [State.wipe, h0, cond_true]

theorem wipe_buffered (m : Nat) (h0 : m.testBit 23 = true) (s : State) (x0 : List Ticket) :
    ({ s with buffered := x0 } : State).wipe m = s.wipe m := by
  simp only [State.wipe, h0, cond_true]

theorem wipe_mgr (m : Nat) (h0 : m.testBit 24 = true) (s : State) (x0 : List MgrWrite) :
    ({ s with mgr := x0 } : State).wipe m = s.wipe m := by
  simp only [State.wipe, h0, cond_true]

theorem wipe_notify (m : Nat) (h0 : m.testBit 25 = true) (s : State) (x0 : Sparse NotifyRing) :
    ({ s with notify := x0 } : State).wipe m = s.wipe m := by
  simp only [State.wipe, h0, cond_true]

theorem wipe_cat (m : Nat) (h0 : m.testBit 26 = true) (s : State) (x0 : Sparse (BitVec 128)) :
    ({ s with cat := x0 } : State).wipe m = s.wipe m := by
  simp only [State.wipe, h0, cond_true]

theorem wipe_devMap (m : Nat) (h0 : m.testBit 27 = true) (s : State) (x0 : Sparse (BitVec 16)) :
    ({ s with devMap := x0 } : State).wipe m = s.wipe m := by
  simp only [State.wipe, h0, cond_true]

theorem wipe_routes (m : Nat) (h0 : m.testBit 28 = true) (s : State) (x0 : Sparse (BitVec 32)) :
    ({ s with routes := x0 } : State).wipe m = s.wipe m := by
  simp only [State.wipe, h0, cond_true]

theorem wipe_links (m : Nat) (h0 : m.testBit 29 = true) (s : State) (x0 : Sparse Link) :
    ({ s with links := x0 } : State).wipe m = s.wipe m := by
  simp only [State.wipe, h0, cond_true]

theorem wipe_inbox (m : Nat) (h0 : m.testBit 30 = true) (s : State) (x0 : List InMsg) :
    ({ s with inbox := x0 } : State).wipe m = s.wipe m := by
  simp only [State.wipe, h0, cond_true]

theorem wipe_waitMsgs (m : Nat) (h0 : m.testBit 31 = true) (s : State) (x0 : List WaitMsg) :
    ({ s with waitMsgs := x0 } : State).wipe m = s.wipe m := by
  simp only [State.wipe, h0, cond_true]

theorem wipe_changes (m : Nat) (h0 : m.testBit 32 = true) (s : State) (x0 : List RouteChange) :
    ({ s with changes := x0 } : State).wipe m = s.wipe m := by
  simp only [State.wipe, h0, cond_true]

theorem wipe_settles (m : Nat) (h0 : m.testBit 33 = true) (s : State) (x0 : List (RouteKey × Time)) :
    ({ s with settles := x0 } : State).wipe m = s.wipe m := by
  simp only [State.wipe, h0, cond_true]

theorem wipe_lostSince (m : Nat) (h0 : m.testBit 35 = true) (s : State) (x0 : Sparse (Option Time)) :
    ({ s with lostSince := x0 } : State).wipe m = s.wipe m := by
  simp only [State.wipe, h0, cond_true]

theorem wipe_evs (m : Nat) (h0 : m.testBit 36 = true) (s : State) (x0 : Sparse EvInput) :
    ({ s with evs := x0 } : State).wipe m = s.wipe m := by
  simp only [State.wipe, h0, cond_true]

theorem wipe_folio (m : Nat) (h0 : m.testBit 37 = true) (s : State) (x0 : Folio) :
    ({ s with folio := x0 } : State).wipe m = s.wipe m := by
  simp only [State.wipe, h0, cond_true]

theorem wipe_views (m : Nat) (h0 : m.testBit 38 = true) (s : State) (x0 : Sparse View) :
    ({ s with views := x0 } : State).wipe m = s.wipe m := by
  simp only [State.wipe, h0, cond_true]

theorem wipe_catOpen (m : Nat) (h0 : m.testBit 39 = true) (s : State) (x0 : List CatOpen) :
    ({ s with catOpen := x0 } : State).wipe m = s.wipe m := by
  simp only [State.wipe, h0, cond_true]

theorem wipe_catHeld (m : Nat) (h0 : m.testBit 40 = true) (s : State) (x0 : List (Principal × Instr)) :
    ({ s with catHeld := x0 } : State).wipe m = s.wipe m := by
  simp only [State.wipe, h0, cond_true]

theorem wipe_apb (m : Nat) (h0 : m.testBit 41 = true) (s : State) (x0 : ApbRegs) :
    ({ s with apb := x0 } : State).wipe m = s.wipe m := by
  simp only [State.wipe, h0, cond_true]

theorem wipe_eid (m : Nat) (h0 : m.testBit 42 = true) (s : State) (x0 : BitVec 8) :
    ({ s with eid := x0 } : State).wipe m = s.wipe m := by
  simp only [State.wipe, h0, cond_true]

theorem wipe_flips (m : Nat) (h0 : m.testBit 43 = true) (s : State) (x0 : List (StoreWord × Nat)) :
    ({ s with flips := x0 } : State).wipe m = s.wipe m := by
  simp only [State.wipe, h0, cond_true]

theorem wipe_stuck (m : Nat) (h0 : m.testBit 44 = true) (s : State) (x0 : List Nat) :
    ({ s with stuck := x0 } : State).wipe m = s.wipe m := by
  simp only [State.wipe, h0, cond_true]

theorem wipe_stageFails (m : Nat) (h0 : m.testBit 45 = true) (s : State) (x0 : Sparse Nat) :
    ({ s with stageFails := x0 } : State).wipe m = s.wipe m := by
  simp only [State.wipe, h0, cond_true]

theorem wipe_stageOut (m : Nat) (h0 : m.testBit 46 = true) (s : State) (x0 : BitVec 32) :
    ({ s with stageOut := x0 } : State).wipe m = s.wipe m := by
  simp only [State.wipe, h0, cond_true]

theorem wipe_scrubStart (m : Nat) (h0 : m.testBit 47 = true) (s : State) (x0 : Time) :
    ({ s with scrubStart := x0 } : State).wipe m = s.wipe m := by
  simp only [State.wipe, h0, cond_true]

theorem wipe_out (m : Nat) (h0 : m.testBit 48 = true) (s : State) (x0 : List Output) :
    ({ s with out := x0 } : State).wipe m = s.wipe m := by
  simp only [State.wipe, h0, cond_true]

theorem wipe_free (m : Nat) (h0 : m.testBit 49 = true) (s : State) (x0 : Nat) :
    ({ s with free := x0 } : State).wipe m = s.wipe m := by
  simp only [State.wipe, h0, cond_true]

theorem wipe_time_sync (m : Nat) (h0 : m.testBit 6 = true) (h1 : m.testBit 10 = true) (s : State) (x0 : Time) (x1 :
    TimeSync) :
    ({ s with time := x0, sync := x1 } : State).wipe m = s.wipe m := by
  simp only [State.wipe, h0, h1, cond_true]

theorem wipe_waiters_ledgers (m : Nat) (h0 : m.testBit 16 = true) (h1 : m.testBit 18 = true) (s : State) (x0 : List
    Waiter) (x1 : List Ledger) :
    ({ s with waiters := x0, ledgers := x1 } : State).wipe m = s.wipe m := by
  simp only [State.wipe, h0, h1, cond_true]

theorem wipe_lenders_loanSeq (m : Nat) (h0 : m.testBit 17 = true) (h1 : m.testBit 19 = true) (s : State) (x0 : List
    Lender) (x1 : BitVec 8) :
    ({ s with lenders := x0, loanSeq := x1 } : State).wipe m = s.wipe m := by
  simp only [State.wipe, h0, h1, cond_true]

theorem wipe_changes_fenceNum (m : Nat) (h0 : m.testBit 32 = true) (h1 : m.testBit 34 = true) (s : State) (x0 : List
    RouteChange) (x1 : BitVec 8) :
    ({ s with changes := x0, fenceNum := x1 } : State).wipe m = s.wipe m := by
  simp only [State.wipe, h0, h1, cond_true]

theorem wipe_mgr_folio (m : Nat) (h0 : m.testBit 24 = true) (h1 : m.testBit 37 = true) (s : State) (x0 : List
    MgrWrite) (x1 : Folio) :
    ({ s with mgr := x0, folio := x1 } : State).wipe m = s.wipe m := by
  simp only [State.wipe, h0, h1, cond_true]

theorem wipe_catHeld_apb (m : Nat) (h0 : m.testBit 40 = true) (h1 : m.testBit 41 = true) (s : State) (x0 : List
    (Principal × Instr)) (x1 : ApbRegs) :
    ({ s with catHeld := x0, apb := x1 } : State).wipe m = s.wipe m := by
  simp only [State.wipe, h0, h1, cond_true]

theorem wipe_phase_scrubStart (m : Nat) (h0 : m.testBit 1 = true) (h1 : m.testBit 47 = true) (s : State) (x0 : Phase)
    (x1 : Time) :
    ({ s with phase := x0, scrubStart := x1 } : State).wipe m = s.wipe m := by
  simp only [State.wipe, h0, h1, cond_true]

theorem wipe_waitMsgs_changes_settles (m : Nat) (h0 : m.testBit 31 = true) (h1 : m.testBit 32 = true) (h2 : m.testBit
    33 = true) (s : State) (x0 : List WaitMsg) (x1 : List RouteChange) (x2 : List (RouteKey × Time)) :
    ({ s with
      waitMsgs := x0, changes := x1, settles := x2 } : State).wipe m = s.wipe m := by
  simp only [State.wipe, h0, h1, h2, cond_true]

theorem wipe_partCount_reslice_notify_cat_devMap (m : Nat) (h0 : m.testBit 11 = true) (h1 : m.testBit 13 = true) (h2 :
    m.testBit 25 = true) (h3 : m.testBit 26 = true) (h4 : m.testBit 27 = true) (s : State) (x0 : Nat) (x1 : Reslice)
    (x2 : Sparse NotifyRing) (x3 : Sparse (BitVec 128)) (x4 : Sparse (BitVec 16)) :
    ({ s with
      partCount := x0, reslice := x1, notify := x2, cat := x3, devMap := x4 } : State).wipe m = s.wipe m := by
  simp only [State.wipe, h0, h1, h2, h3, h4, cond_true]

theorem wipe_parts_ports_cat_links_evs (m : Nat) (h0 : m.testBit 12 = true) (h1 : m.testBit 20 = true) (h2 : m.testBit
    26 = true) (h3 : m.testBit 29 = true) (h4 : m.testBit 36 = true) (s : State) (x0 : Sparse Part) (x1 : Sparse Port)
    (x2 : Sparse (BitVec 128)) (x3 : Sparse Link) (x4 : Sparse EvInput) :
    ({ s with
      parts := x0, ports := x1, cat := x2, links := x3, evs := x4 } : State).wipe m = s.wipe m := by
  simp only [State.wipe, h0, h1, h2, h3, h4, cond_true]

theorem wipe_time_tick_sync_free_clock (m : Nat) (h0 : m.testBit 6 = true) (h1 : m.testBit 7 = true) (h2 : m.testBit
    10 = true) (h3 : m.testBit 49 = true) (h4 : m.testBit 50 = true) (s : State) (x0 : Time) (x1 : Nat) (x2 :
    TimeSync) (x3 : Nat) (x4 : Time) :
    ({ s with
      time := x0, tick := x1, sync := x2, free := x3, clock := x4 } : State).wipe m = s.wipe m := by
  simp only [State.wipe, h0, h1, h2, h3, h4, cond_true]

theorem wipe_phase_build_device_die_refSel_running (m : Nat) (h0 : m.testBit 1 = true) (h1 : m.testBit 2 = true) (h2 :
    m.testBit 3 = true) (h3 : m.testBit 4 = true) (h4 : m.testBit 5 = true) (h5 : m.testBit 8 = true) (s : State) (x0
    : Phase) (x1 : Build) (x2 : BitVec 12) (x3 : BitVec 3) (x4 : BitVec 3) (x5 : Bool) :
    ({ s with
      phase := x0, build := x1, device := x2, die := x3, refSel := x4, running := x5 } : State).wipe m = s.wipe m
      := by
  simp only [State.wipe, h0, h1, h2, h3, h4, h5, cond_true]

theorem wipe_time_sync_waiters_ports_slots_links_inbox_waitMsgs (m : Nat) (h0 : m.testBit 6 = true) (h1 : m.testBit 10
    = true) (h2 : m.testBit 16 = true) (h3 : m.testBit 20 = true) (h4 : m.testBit 21 = true) (h5 : m.testBit 29 =
    true) (h6 : m.testBit 30 = true) (h7 : m.testBit 31 = true) (s : State) (x0 : Time) (x1 : TimeSync) (x2 : List
    Waiter) (x3 : Sparse Port) (x4 : Sparse Slot) (x5 : Sparse Link) (x6 : List InMsg) (x7 : List WaitMsg) :
    ({ s with
      time := x0, sync := x1, waiters := x2, ports := x3, slots := x4, links := x5, inbox := x6, waitMsgs := x7 }
      : State).wipe m = s.wipe m := by
  simp only [State.wipe, h0, h1, h2, h3, h4, h5, h6, h7, cond_true]

theorem wipe_objs_wideBits_waiters_lenders_ledgers_buffered_cat_flips (m : Nat) (h0 : m.testBit 14 = true) (h1 :
    m.testBit 15 = true) (h2 : m.testBit 16 = true) (h3 : m.testBit 17 = true) (h4 : m.testBit 18 = true) (h5 :
    m.testBit 23 = true) (h6 : m.testBit 26 = true) (h7 : m.testBit 43 = true) (s : State) (x0 : Sparse ObjRec) (x1 :
    Sparse Bool) (x2 : List Waiter) (x3 : List Lender) (x4 : List Ledger) (x5 : List Ticket) (x6 : Sparse (BitVec
    128)) (x7 : List (StoreWord × Nat)) :
    ({ s with
      objs := x0, wideBits := x1, waiters := x2, lenders := x3, ledgers := x4, buffered := x5, cat := x6, flips :=
      x7 } : State).wipe m = s.wipe m := by
  simp only [State.wipe, h0, h1, h2, h3, h4, h5, h6, h7, cond_true]

theorem pending_of_wipe {s t : State} {m : Nat} (hm : m.testBit 0 = false) (e : t.wipe m = s.wipe m) :
    t.pending = s.pending := by
  have k := congrArg State.pending e
  simpa only [State.wipe, hm, cond_false] using k

theorem phase_of_wipe {s t : State} {m : Nat} (hm : m.testBit 1 = false) (e : t.wipe m = s.wipe m) :
    t.phase = s.phase := by
  have k := congrArg State.phase e
  simpa only [State.wipe, hm, cond_false] using k

theorem build_of_wipe {s t : State} {m : Nat} (hm : m.testBit 2 = false) (e : t.wipe m = s.wipe m) :
    t.build = s.build := by
  have k := congrArg State.build e
  simpa only [State.wipe, hm, cond_false] using k

theorem device_of_wipe {s t : State} {m : Nat} (hm : m.testBit 3 = false) (e : t.wipe m = s.wipe m) :
    t.device = s.device := by
  have k := congrArg State.device e
  simpa only [State.wipe, hm, cond_false] using k

theorem die_of_wipe {s t : State} {m : Nat} (hm : m.testBit 4 = false) (e : t.wipe m = s.wipe m) :
    t.die = s.die := by
  have k := congrArg State.die e
  simpa only [State.wipe, hm, cond_false] using k

theorem refSel_of_wipe {s t : State} {m : Nat} (hm : m.testBit 5 = false) (e : t.wipe m = s.wipe m) :
    t.refSel = s.refSel := by
  have k := congrArg State.refSel e
  simpa only [State.wipe, hm, cond_false] using k

theorem time_of_wipe {s t : State} {m : Nat} (hm : m.testBit 6 = false) (e : t.wipe m = s.wipe m) :
    t.time = s.time := by
  have k := congrArg State.time e
  simpa only [State.wipe, hm, cond_false] using k

theorem tick_of_wipe {s t : State} {m : Nat} (hm : m.testBit 7 = false) (e : t.wipe m = s.wipe m) :
    t.tick = s.tick := by
  have k := congrArg State.tick e
  simpa only [State.wipe, hm, cond_false] using k

theorem running_of_wipe {s t : State} {m : Nat} (hm : m.testBit 8 = false) (e : t.wipe m = s.wipe m) :
    t.running = s.running := by
  have k := congrArg State.running e
  simpa only [State.wipe, hm, cond_false] using k

theorem refLost_of_wipe {s t : State} {m : Nat} (hm : m.testBit 9 = false) (e : t.wipe m = s.wipe m) :
    t.refLost = s.refLost := by
  have k := congrArg State.refLost e
  simpa only [State.wipe, hm, cond_false] using k

theorem sync_of_wipe {s t : State} {m : Nat} (hm : m.testBit 10 = false) (e : t.wipe m = s.wipe m) :
    t.sync = s.sync := by
  have k := congrArg State.sync e
  simpa only [State.wipe, hm, cond_false] using k

theorem partCount_of_wipe {s t : State} {m : Nat} (hm : m.testBit 11 = false) (e : t.wipe m = s.wipe m) :
    t.partCount = s.partCount := by
  have k := congrArg State.partCount e
  simpa only [State.wipe, hm, cond_false] using k

theorem parts_of_wipe {s t : State} {m : Nat} (hm : m.testBit 12 = false) (e : t.wipe m = s.wipe m) :
    t.parts = s.parts := by
  have k := congrArg State.parts e
  simpa only [State.wipe, hm, cond_false] using k

theorem reslice_of_wipe {s t : State} {m : Nat} (hm : m.testBit 13 = false) (e : t.wipe m = s.wipe m) :
    t.reslice = s.reslice := by
  have k := congrArg State.reslice e
  simpa only [State.wipe, hm, cond_false] using k

theorem objs_of_wipe {s t : State} {m : Nat} (hm : m.testBit 14 = false) (e : t.wipe m = s.wipe m) :
    t.objs = s.objs := by
  have k := congrArg State.objs e
  simpa only [State.wipe, hm, cond_false] using k

theorem wideBits_of_wipe {s t : State} {m : Nat} (hm : m.testBit 15 = false) (e : t.wipe m = s.wipe m) :
    t.wideBits = s.wideBits := by
  have k := congrArg State.wideBits e
  simpa only [State.wipe, hm, cond_false] using k

theorem waiters_of_wipe {s t : State} {m : Nat} (hm : m.testBit 16 = false) (e : t.wipe m = s.wipe m) :
    t.waiters = s.waiters := by
  have k := congrArg State.waiters e
  simpa only [State.wipe, hm, cond_false] using k

theorem lenders_of_wipe {s t : State} {m : Nat} (hm : m.testBit 17 = false) (e : t.wipe m = s.wipe m) :
    t.lenders = s.lenders := by
  have k := congrArg State.lenders e
  simpa only [State.wipe, hm, cond_false] using k

theorem ledgers_of_wipe {s t : State} {m : Nat} (hm : m.testBit 18 = false) (e : t.wipe m = s.wipe m) :
    t.ledgers = s.ledgers := by
  have k := congrArg State.ledgers e
  simpa only [State.wipe, hm, cond_false] using k

theorem loanSeq_of_wipe {s t : State} {m : Nat} (hm : m.testBit 19 = false) (e : t.wipe m = s.wipe m) :
    t.loanSeq = s.loanSeq := by
  have k := congrArg State.loanSeq e
  simpa only [State.wipe, hm, cond_false] using k

theorem ports_of_wipe {s t : State} {m : Nat} (hm : m.testBit 20 = false) (e : t.wipe m = s.wipe m) :
    t.ports = s.ports := by
  have k := congrArg State.ports e
  simpa only [State.wipe, hm, cond_false] using k

theorem slots_of_wipe {s t : State} {m : Nat} (hm : m.testBit 21 = false) (e : t.wipe m = s.wipe m) :
    t.slots = s.slots := by
  have k := congrArg State.slots e
  simpa only [State.wipe, hm, cond_false] using k

theorem rets_of_wipe {s t : State} {m : Nat} (hm : m.testBit 22 = false) (e : t.wipe m = s.wipe m) :
    t.rets = s.rets := by
  have k := congrArg State.rets e
  simpa only [State.wipe, hm, cond_false] using k

theorem buffered_of_wipe {s t : State} {m : Nat} (hm : m.testBit 23 = false) (e : t.wipe m = s.wipe m) :
    t.buffered = s.buffered := by
  have k := congrArg State.buffered e
  simpa only [State.wipe, hm, cond_false] using k

theorem mgr_of_wipe {s t : State} {m : Nat} (hm : m.testBit 24 = false) (e : t.wipe m = s.wipe m) :
    t.mgr = s.mgr := by
  have k := congrArg State.mgr e
  simpa only [State.wipe, hm, cond_false] using k

theorem notify_of_wipe {s t : State} {m : Nat} (hm : m.testBit 25 = false) (e : t.wipe m = s.wipe m) :
    t.notify = s.notify := by
  have k := congrArg State.notify e
  simpa only [State.wipe, hm, cond_false] using k

theorem cat_of_wipe {s t : State} {m : Nat} (hm : m.testBit 26 = false) (e : t.wipe m = s.wipe m) :
    t.cat = s.cat := by
  have k := congrArg State.cat e
  simpa only [State.wipe, hm, cond_false] using k

theorem devMap_of_wipe {s t : State} {m : Nat} (hm : m.testBit 27 = false) (e : t.wipe m = s.wipe m) :
    t.devMap = s.devMap := by
  have k := congrArg State.devMap e
  simpa only [State.wipe, hm, cond_false] using k

theorem routes_of_wipe {s t : State} {m : Nat} (hm : m.testBit 28 = false) (e : t.wipe m = s.wipe m) :
    t.routes = s.routes := by
  have k := congrArg State.routes e
  simpa only [State.wipe, hm, cond_false] using k

theorem links_of_wipe {s t : State} {m : Nat} (hm : m.testBit 29 = false) (e : t.wipe m = s.wipe m) :
    t.links = s.links := by
  have k := congrArg State.links e
  simpa only [State.wipe, hm, cond_false] using k

theorem inbox_of_wipe {s t : State} {m : Nat} (hm : m.testBit 30 = false) (e : t.wipe m = s.wipe m) :
    t.inbox = s.inbox := by
  have k := congrArg State.inbox e
  simpa only [State.wipe, hm, cond_false] using k

theorem waitMsgs_of_wipe {s t : State} {m : Nat} (hm : m.testBit 31 = false) (e : t.wipe m = s.wipe m) :
    t.waitMsgs = s.waitMsgs := by
  have k := congrArg State.waitMsgs e
  simpa only [State.wipe, hm, cond_false] using k

theorem changes_of_wipe {s t : State} {m : Nat} (hm : m.testBit 32 = false) (e : t.wipe m = s.wipe m) :
    t.changes = s.changes := by
  have k := congrArg State.changes e
  simpa only [State.wipe, hm, cond_false] using k

theorem settles_of_wipe {s t : State} {m : Nat} (hm : m.testBit 33 = false) (e : t.wipe m = s.wipe m) :
    t.settles = s.settles := by
  have k := congrArg State.settles e
  simpa only [State.wipe, hm, cond_false] using k

theorem fenceNum_of_wipe {s t : State} {m : Nat} (hm : m.testBit 34 = false) (e : t.wipe m = s.wipe m) :
    t.fenceNum = s.fenceNum := by
  have k := congrArg State.fenceNum e
  simpa only [State.wipe, hm, cond_false] using k

theorem lostSince_of_wipe {s t : State} {m : Nat} (hm : m.testBit 35 = false) (e : t.wipe m = s.wipe m) :
    t.lostSince = s.lostSince := by
  have k := congrArg State.lostSince e
  simpa only [State.wipe, hm, cond_false] using k

theorem evs_of_wipe {s t : State} {m : Nat} (hm : m.testBit 36 = false) (e : t.wipe m = s.wipe m) :
    t.evs = s.evs := by
  have k := congrArg State.evs e
  simpa only [State.wipe, hm, cond_false] using k

theorem folio_of_wipe {s t : State} {m : Nat} (hm : m.testBit 37 = false) (e : t.wipe m = s.wipe m) :
    t.folio = s.folio := by
  have k := congrArg State.folio e
  simpa only [State.wipe, hm, cond_false] using k

theorem views_of_wipe {s t : State} {m : Nat} (hm : m.testBit 38 = false) (e : t.wipe m = s.wipe m) :
    t.views = s.views := by
  have k := congrArg State.views e
  simpa only [State.wipe, hm, cond_false] using k

theorem catOpen_of_wipe {s t : State} {m : Nat} (hm : m.testBit 39 = false) (e : t.wipe m = s.wipe m) :
    t.catOpen = s.catOpen := by
  have k := congrArg State.catOpen e
  simpa only [State.wipe, hm, cond_false] using k

theorem catHeld_of_wipe {s t : State} {m : Nat} (hm : m.testBit 40 = false) (e : t.wipe m = s.wipe m) :
    t.catHeld = s.catHeld := by
  have k := congrArg State.catHeld e
  simpa only [State.wipe, hm, cond_false] using k

theorem apb_of_wipe {s t : State} {m : Nat} (hm : m.testBit 41 = false) (e : t.wipe m = s.wipe m) :
    t.apb = s.apb := by
  have k := congrArg State.apb e
  simpa only [State.wipe, hm, cond_false] using k

theorem eid_of_wipe {s t : State} {m : Nat} (hm : m.testBit 42 = false) (e : t.wipe m = s.wipe m) :
    t.eid = s.eid := by
  have k := congrArg State.eid e
  simpa only [State.wipe, hm, cond_false] using k

theorem flips_of_wipe {s t : State} {m : Nat} (hm : m.testBit 43 = false) (e : t.wipe m = s.wipe m) :
    t.flips = s.flips := by
  have k := congrArg State.flips e
  simpa only [State.wipe, hm, cond_false] using k

theorem stuck_of_wipe {s t : State} {m : Nat} (hm : m.testBit 44 = false) (e : t.wipe m = s.wipe m) :
    t.stuck = s.stuck := by
  have k := congrArg State.stuck e
  simpa only [State.wipe, hm, cond_false] using k

theorem stageFails_of_wipe {s t : State} {m : Nat} (hm : m.testBit 45 = false) (e : t.wipe m = s.wipe m) :
    t.stageFails = s.stageFails := by
  have k := congrArg State.stageFails e
  simpa only [State.wipe, hm, cond_false] using k

theorem stageOut_of_wipe {s t : State} {m : Nat} (hm : m.testBit 46 = false) (e : t.wipe m = s.wipe m) :
    t.stageOut = s.stageOut := by
  have k := congrArg State.stageOut e
  simpa only [State.wipe, hm, cond_false] using k

theorem scrubStart_of_wipe {s t : State} {m : Nat} (hm : m.testBit 47 = false) (e : t.wipe m = s.wipe m) :
    t.scrubStart = s.scrubStart := by
  have k := congrArg State.scrubStart e
  simpa only [State.wipe, hm, cond_false] using k

theorem out_of_wipe {s t : State} {m : Nat} (hm : m.testBit 48 = false) (e : t.wipe m = s.wipe m) :
    t.out = s.out := by
  have k := congrArg State.out e
  simpa only [State.wipe, hm, cond_false] using k

theorem free_of_wipe {s t : State} {m : Nat} (hm : m.testBit 49 = false) (e : t.wipe m = s.wipe m) :
    t.free = s.free := by
  have k := congrArg State.free e
  simpa only [State.wipe, hm, cond_false] using k

theorem clock_of_wipe {s t : State} {m : Nat} (hm : m.testBit 50 = false) (e : t.wipe m = s.wipe m) :
    t.clock = s.clock := by
  have k := congrArg State.clock e
  simpa only [State.wipe, hm, cond_false] using k

end Sys2Proof.Machine
end

