-- ==== Sys2Proof/Laws/KeepsOps.lean ====
section
/-! SUPPORT. What each operation of Ops.lean changes at most: blotting out the fields of its mask takes away every
difference that it makes. -/

set_option linter.all false

namespace Sys2Proof.Machine

theorem State.setObj_wipe (s : State) (i : Nat) (o : ObjRec) (m : Nat) (h : 0x4000 ||| m = m) :
    (s.setObj i o).wipe m = s.wipe m := by
  refine wipe_mono h ?_
  unfold State.setObj
  try simp +zetaDelta (decide := true) only [wipe_objs, wipe_ite, wipe_ite_fst, ite_self, implies_true]
  all_goals repeat' (split <;> try simp +zetaDelta (decide := true) only [wipe_objs, wipe_ite, wipe_ite_fst,
      ite_self, implies_true])

theorem State.setPort_wipe (s : State) (p : Nat) (x : Port) (m : Nat) (h : 0x100000 ||| m = m) :
    (s.setPort p x).wipe m = s.wipe m := by
  refine wipe_mono h ?_
  unfold State.setPort
  try simp +zetaDelta (decide := true) only [wipe_ports, wipe_ite, wipe_ite_fst, ite_self, implies_true]
  all_goals repeat' (split <;> try simp +zetaDelta (decide := true) only [wipe_ports, wipe_ite, wipe_ite_fst,
      ite_self, implies_true])

theorem State.setSlot_wipe (s : State) (g : Nat) (x : Slot) (m : Nat) (h : 0x200000 ||| m = m) :
    (s.setSlot g x).wipe m = s.wipe m := by
  refine wipe_mono h ?_
  unfold State.setSlot
  try simp +zetaDelta (decide := true) only [wipe_slots, wipe_ite, wipe_ite_fst, ite_self, implies_true]
  all_goals repeat' (split <;> try simp +zetaDelta (decide := true) only [wipe_slots, wipe_ite, wipe_ite_fst,
      ite_self, implies_true])

theorem State.setLink_wipe (s : State) (c : Nat) (l : Link) (m : Nat) (h : 0x20000000 ||| m = m) :
    (s.setLink c l).wipe m = s.wipe m := by
  refine wipe_mono h ?_
  unfold State.setLink
  try simp +zetaDelta (decide := true) only [wipe_links, wipe_ite, wipe_ite_fst, ite_self, implies_true]
  all_goals repeat' (split <;> try simp +zetaDelta (decide := true) only [wipe_links, wipe_ite, wipe_ite_fst,
      ite_self, implies_true])

theorem State.setPart_wipe (s : State) (p : Nat) (x : Part) (m : Nat) (h : 0x1000 ||| m = m) :
    (s.setPart p x).wipe m = s.wipe m := by
  refine wipe_mono h ?_
  unfold State.setPart
  try simp +zetaDelta (decide := true) only [wipe_parts, wipe_ite, wipe_ite_fst, ite_self, implies_true]
  all_goals repeat' (split <;> try simp +zetaDelta (decide := true) only [wipe_parts, wipe_ite, wipe_ite_fst,
      ite_self, implies_true])

theorem State.setEv_wipe (s : State) (i : Nat) (x : EvInput) (m : Nat) (h : 0x1000000000 ||| m = m) :
    (s.setEv i x).wipe m = s.wipe m := by
  refine wipe_mono h ?_
  unfold State.setEv
  try simp +zetaDelta (decide := true) only [wipe_evs, wipe_ite, wipe_ite_fst, ite_self, implies_true]
  all_goals repeat' (split <;> try simp +zetaDelta (decide := true) only [wipe_evs, wipe_ite, wipe_ite_fst,
      ite_self, implies_true])

theorem State.setView_wipe (s : State) (w : Nat) (x : View) (m : Nat) (h : 0x4000000000 ||| m = m) :
    (s.setView w x).wipe m = s.wipe m := by
  refine wipe_mono h ?_
  unfold State.setView
  try simp +zetaDelta (decide := true) only [wipe_views, wipe_ite, wipe_ite_fst, ite_self, implies_true]
  all_goals repeat' (split <;> try simp +zetaDelta (decide := true) only [wipe_views, wipe_ite, wipe_ite_fst,
      ite_self, implies_true])

theorem State.setRing_wipe (s : State) (r : Nat) (x : NotifyRing) (m : Nat) (h : 0x2000000 ||| m = m) :
    (s.setRing r x).wipe m = s.wipe m := by
  refine wipe_mono h ?_
  unfold State.setRing
  try simp +zetaDelta (decide := true) only [wipe_notify, wipe_ite, wipe_ite_fst, ite_self, implies_true]
  all_goals repeat' (split <;> try simp +zetaDelta (decide := true) only [wipe_notify, wipe_ite, wipe_ite_fst,
      ite_self, implies_true])

theorem State.setWideBit_wipe (s : State) (i : Nat) (b : Bool) (m : Nat) (h : 0x8000 ||| m = m) :
    (s.setWideBit i b).wipe m = s.wipe m := by
  refine wipe_mono h ?_
  unfold State.setWideBit
  try simp +zetaDelta (decide := true) only [wipe_wideBits, wipe_ite, wipe_ite_fst, ite_self, implies_true]
  all_goals repeat' (split <;> try simp +zetaDelta (decide := true) only [wipe_wideBits, wipe_ite, wipe_ite_fst,
      ite_self, implies_true])

theorem State.modPort_wipe (s : State) (p : Nat) (f : Port → Port) (m : Nat) (h : 0x100000 ||| m = m) :
    (s.modPort p f).wipe m = s.wipe m := by
  refine wipe_mono h ?_
  unfold State.modPort
  try simp +zetaDelta (decide := true) only [State.setPort_wipe, wipe_ite, wipe_ite_fst, ite_self, implies_true]
  all_goals repeat' (split <;> try simp +zetaDelta (decide := true) only [State.setPort_wipe, wipe_ite,
      wipe_ite_fst, ite_self, implies_true])

theorem State.modSlot_wipe (s : State) (g : Nat) (f : Slot → Slot) (m : Nat) (h : 0x200000 ||| m = m) :
    (s.modSlot g f).wipe m = s.wipe m := by
  refine wipe_mono h ?_
  unfold State.modSlot
  try simp +zetaDelta (decide := true) only [State.setSlot_wipe, wipe_ite, wipe_ite_fst, ite_self, implies_true]
  all_goals repeat' (split <;> try simp +zetaDelta (decide := true) only [State.setSlot_wipe, wipe_ite,
      wipe_ite_fst, ite_self, implies_true])

theorem State.modPart_wipe (s : State) (p : Nat) (f : Part → Part) (m : Nat) (h : 0x1000 ||| m = m) :
    (s.modPart p f).wipe m = s.wipe m := by
  refine wipe_mono h ?_
  unfold State.modPart
  try simp +zetaDelta (decide := true) only [State.setPart_wipe, wipe_ite, wipe_ite_fst, ite_self, implies_true]
  all_goals repeat' (split <;> try simp +zetaDelta (decide := true) only [State.setPart_wipe, wipe_ite,
      wipe_ite_fst, ite_self, implies_true])

theorem State.modLink_wipe (s : State) (c : Nat) (f : Link → Link) (m : Nat) (h : 0x20000000 ||| m = m) :
    (s.modLink c f).wipe m = s.wipe m := by
  refine wipe_mono h ?_
  unfold State.modLink
  try simp +zetaDelta (decide := true) only [State.setLink_wipe, wipe_ite, wipe_ite_fst, ite_self, implies_true]
  all_goals repeat' (split <;> try simp +zetaDelta (decide := true) only [State.setLink_wipe, wipe_ite,
      wipe_ite_fst, ite_self, implies_true])

theorem State.modObj_wipe (s : State) (i : Nat) (f : ObjRec → ObjRec) (m : Nat) (h : 0x4000 ||| m = m) :
    (s.modObj i f).wipe m = s.wipe m := by
  refine wipe_mono h ?_
  unfold State.modObj
  try simp +zetaDelta (decide := true) only [State.setObj_wipe, wipe_ite, wipe_ite_fst, ite_self, implies_true]
  all_goals repeat' (split <;> try simp +zetaDelta (decide := true) only [State.setObj_wipe, wipe_ite,
      wipe_ite_fst, ite_self, implies_true])

theorem State.fresh_wipe (s : State) (m : Nat) (h : 0x2000000000000 ||| m = m) :
    (s.fresh).wipe m = s.wipe m := by
  refine wipe_mono h ?_
  unfold State.fresh
  try simp +zetaDelta (decide := true) only [wipe_free, wipe_ite, wipe_ite_fst, ite_self, implies_true]
  all_goals repeat' (split <;> try simp +zetaDelta (decide := true) only [wipe_free, wipe_ite, wipe_ite_fst,
      ite_self, implies_true])

theorem State.drive_wipe (s : State) (o : Output) (m : Nat) (h : 0x1000000000000 ||| m = m) :
    (s.drive o).wipe m = s.wipe m := by
  refine wipe_mono h ?_
  unfold State.drive
  try simp +zetaDelta (decide := true) only [wipe_out, wipe_ite, wipe_ite_fst, ite_self, implies_true]
  all_goals repeat' (split <;> try simp +zetaDelta (decide := true) only [wipe_out, wipe_ite, wipe_ite_fst,
      ite_self, implies_true])

theorem State.setCfg_wipe (s : State) (index : Nat) (sub : Nat) (part : Nat) (v : Nat) (m : Nat) (h : 0x4000000 |||
    m = m) :
    (s.setCfg index sub part v).wipe m = s.wipe m := by
  refine wipe_mono h ?_
  unfold State.setCfg
  try simp +zetaDelta (decide := true) only [wipe_cat, wipe_ite, wipe_ite_fst, ite_self, implies_true]
  all_goals repeat' (split <;> try simp +zetaDelta (decide := true) only [wipe_cat, wipe_ite, wipe_ite_fst,
      ite_self, implies_true])

theorem State.count_wipe (s : State) (index : Nat) (sub : Nat) (part : Nat) (n : Nat) (m : Nat) (h : 0x4000000 ||| m
    = m) :
    (s.count index sub part n).wipe m = s.wipe m := by
  refine wipe_mono h ?_
  unfold State.count
  try simp +zetaDelta (decide := true) only [State.setCfg_wipe, wipe_ite, wipe_ite_fst, ite_self, implies_true]
  all_goals repeat' (split <;> try simp +zetaDelta (decide := true) only [State.setCfg_wipe, wipe_ite,
      wipe_ite_fst, ite_self, implies_true])

theorem State.bump_wipe (s : State) (index : Nat) (sub : Nat) (part : optParam Nat 0) (m : Nat) (h : 0x2000004000000
    ||| m = m) :
    (s.bump index sub part).wipe m = s.wipe m := by
  refine wipe_mono h ?_
  unfold State.bump
  try simp +zetaDelta (decide := true) only [State.setCfg_wipe, State.fresh_wipe, wipe_ite, wipe_ite_fst,
      ite_self, implies_true]
  all_goals repeat' (split <;> try simp +zetaDelta (decide := true) only [State.setCfg_wipe, State.fresh_wipe,
      wipe_ite, wipe_ite_fst, ite_self, implies_true])

theorem State.count32_wipe (s : State) (v : BitVec 32) (m : Nat) (h : 0x2000000000000 ||| m = m) :
    (s.count32 v).wipe m = s.wipe m := by
  refine wipe_mono h ?_
  unfold State.count32
  try simp +zetaDelta (decide := true) only [State.fresh_wipe, wipe_ite, wipe_ite_fst, ite_self, implies_true]
  all_goals repeat' (split <;> try simp +zetaDelta (decide := true) only [State.fresh_wipe, wipe_ite,
      wipe_ite_fst, ite_self, implies_true])

theorem State.bumpN_wipe (s : State) (index : Nat) (sub : Nat) (part : Nat) (x4 : Nat) (m : Nat) (h :
    0x2000004000000 ||| m = m) :
    (s.bumpN index sub part x4).wipe m = s.wipe m := by
  refine wipe_mono h ?_
  fun_induction State.bumpN s index sub part x4
  all_goals try simp +zetaDelta (decide := true) only [*, State.bump_wipe, wipe_ite, wipe_ite_fst, ite_self,
      implies_true]
  all_goals repeat' (split <;> try simp +zetaDelta (decide := true) only [*, State.bump_wipe, wipe_ite,
      wipe_ite_fst, ite_self, implies_true])

theorem State.countMax_wipe (s : State) (index : Nat) (sub : Nat) (part : Nat) (n : Nat) (m : Nat) (h : 0x4000000
    ||| m = m) :
    (s.countMax index sub part n).wipe m = s.wipe m := by
  refine wipe_mono h ?_
  unfold State.countMax
  try simp +zetaDelta (decide := true) only [State.setCfg_wipe, wipe_ite, wipe_ite_fst, ite_self, implies_true]
  all_goals repeat' (split <;> try simp +zetaDelta (decide := true) only [State.setCfg_wipe, wipe_ite,
      wipe_ite_fst, ite_self, implies_true])

theorem State.mgrIssue_wipe (s : State) (w : MgrWrite) (m : Nat) (h : 0x1000000 ||| m = m) :
    (s.mgrIssue w).wipe m = s.wipe m := by
  refine wipe_mono h ?_
  unfold State.mgrIssue
  try simp +zetaDelta (decide := true) only [wipe_mgr, wipe_ite, wipe_ite_fst, ite_self, implies_true]
  all_goals repeat' (split <;> try simp +zetaDelta (decide := true) only [wipe_mgr, wipe_ite, wipe_ite_fst,
      ite_self, implies_true])

theorem State.notifyRing_wipe (s : State) (r : Nat) (kind : Nat) (part : Nat) (body : BitVec 96) (m : Nat) (h :
    0x2000007000000 ||| m = m) :
    (s.notifyRing r kind part body).wipe m = s.wipe m := by
  refine wipe_mono h ?_
  unfold State.notifyRing
  try simp +zetaDelta (decide := true) only [State.setRing_wipe, State.bump_wipe, State.mgrIssue_wipe, wipe_ite,
      wipe_ite_fst, ite_self, implies_true]
  all_goals repeat' (split <;> try simp +zetaDelta (decide := true) only [State.setRing_wipe, State.bump_wipe,
      State.mgrIssue_wipe, wipe_ite, wipe_ite_fst, ite_self, implies_true])

theorem State.irq_wipe (s : State) (r : Nat) (m : Nat) (h : 0x1000002000000 ||| m = m) :
    (s.irq r).wipe m = s.wipe m := by
  refine wipe_mono h ?_
  unfold State.irq
  try simp +zetaDelta (decide := true) only [State.setRing_wipe, State.drive_wipe, wipe_ite, wipe_ite_fst,
      ite_self, implies_true]
  all_goals repeat' (split <;> try simp +zetaDelta (decide := true) only [State.setRing_wipe, State.drive_wipe,
      wipe_ite, wipe_ite_fst, ite_self, implies_true])

theorem State.folioTrace_wipe (s : State) (m : Nat) (h : 0x2000007000000 ||| m = m) :
    (s.folioTrace).wipe m = s.wipe m := by
  refine wipe_mono h ?_
  unfold State.folioTrace
  try simp +zetaDelta (decide := true) only [State.notifyRing_wipe, wipe_ite, wipe_ite_fst, ite_self,
      implies_true]
  all_goals repeat' (split <;> try simp +zetaDelta (decide := true) only [State.notifyRing_wipe, wipe_ite,
      wipe_ite_fst, ite_self, implies_true])

theorem State.folioDump_wipe (s : State) (i : Nat) (x2 : List FolioRec) (m : Nat) (h : 0x1000000 ||| m = m) :
    (s.folioDump i x2).wipe m = s.wipe m := by
  refine wipe_mono h ?_
  fun_induction State.folioDump s i x2
  all_goals try simp +zetaDelta (decide := true) only [*, State.mgrIssue_wipe, wipe_ite, wipe_ite_fst, ite_self,
      implies_true]
  all_goals repeat' (split <;> try simp +zetaDelta (decide := true) only [*, State.mgrIssue_wipe, wipe_ite,
      wipe_ite_fst, ite_self, implies_true])

theorem State.folioStop_wipe (s : State) (m : Nat) (h : 0x2002007000000 ||| m = m) :
    (s.folioStop).wipe m = s.wipe m := by
  refine wipe_mono h ?_
  unfold State.folioStop
  try simp +zetaDelta (decide := true) only [wipe_folio, State.folioTrace_wipe, State.folioDump_wipe, wipe_ite,
      wipe_ite_fst, ite_self, implies_true]
  all_goals repeat' (split <;> try simp +zetaDelta (decide := true) only [wipe_folio, State.folioTrace_wipe,
      State.folioDump_wipe, wipe_ite, wipe_ite_fst, ite_self, implies_true])

theorem State.folioPost_wipe (s : State) (r : FolioRec) (m : Nat) (h : 0x2002007000000 ||| m = m) :
    (s.folioPost r).wipe m = s.wipe m := by
  refine wipe_mono h ?_
  unfold State.folioPost
  try simp +zetaDelta (decide := true) only [wipe_folio, State.folioStop_wipe, wipe_ite, wipe_ite_fst, ite_self,
      implies_true]
  all_goals repeat' (split <;> try simp +zetaDelta (decide := true) only [wipe_folio, State.folioStop_wipe,
      wipe_ite, wipe_ite_fst, ite_self, implies_true])

theorem State.folioTrigger_wipe (s : State) (r : FolioRec) (m : Nat) (h : 0x2002007000000 ||| m = m) :
    (s.folioTrigger r).wipe m = s.wipe m := by
  refine wipe_mono h ?_
  unfold State.folioTrigger
  try simp +zetaDelta (decide := true) only [wipe_folio, State.folioPost_wipe, wipe_ite, wipe_ite_fst, ite_self,
      implies_true]
  all_goals repeat' (split <;> try simp +zetaDelta (decide := true) only [wipe_folio, State.folioPost_wipe,
      wipe_ite, wipe_ite_fst, ite_self, implies_true])

theorem State.folioLose_wipe (s : State) (m : Nat) (h : 0x2002007000000 ||| m = m) :
    s.folioLose.wipe m = s.wipe m := by
  refine wipe_mono h ?_
  unfold State.folioLose
  try simp +zetaDelta (decide := true) only [wipe_folio, State.count32_wipe, wipe_ite, wipe_ite_fst, ite_self,
      implies_true]

theorem State.record_wipe (s : State) (r0 : FolioRec) (m : Nat) (h : 0x2002007000000 ||| m = m) :
    (s.record r0).wipe m = s.wipe m := by
  refine wipe_mono h ?_
  unfold State.record
  try simp +zetaDelta (decide := true) only [wipe_folio, State.folioTrigger_wipe, State.folioPost_wipe,
      State.folioLose_wipe, State.count32_wipe, wipe_ite, wipe_ite_fst, ite_self, implies_true]
  all_goals repeat' (split <;> try simp +zetaDelta (decide := true) only [wipe_folio, State.folioTrigger_wipe,
      State.folioPost_wipe, State.folioLose_wipe, State.count32_wipe, wipe_ite, wipe_ite_fst, ite_self, implies_true])

theorem State.folioMark_wipe (s : State) (hub : Bool) (p : Nat) (cause : Nat) (data : BitVec 64) (m : Nat) (h :
    0x2002007000000 ||| m = m) :
    (s.folioMark hub p cause data).wipe m = s.wipe m := by
  refine wipe_mono h ?_
  unfold State.folioMark
  try simp +zetaDelta (decide := true) only [State.folioTrigger_wipe, wipe_ite, wipe_ite_fst, ite_self,
      implies_true]
  all_goals repeat' (split <;> try simp +zetaDelta (decide := true) only [State.folioTrigger_wipe, wipe_ite,
      wipe_ite_fst, ite_self, implies_true])

end Sys2Proof.Machine
end

