-- ==== Sys2Proof/Laws/KeepsNet.lean ====
section
/-! SUPPORT. What each operation of Net.lean changes at most: blotting out the fields of its mask takes away every
difference that it makes. -/

set_option linter.all false

namespace Sys2Proof.Machine

theorem State.noteRoutes_wipe (before : State) (s : State) (m : Nat) (h : 0x800000000 ||| m = m) :
    (State.noteRoutes before s).wipe m = s.wipe m := by
  refine wipe_mono h ?_
  unfold State.noteRoutes
  try simp +zetaDelta (decide := true) only [wipe_lostSince, wipe_ite, wipe_ite_fst, ite_self, implies_true]
  all_goals repeat' (split <;> try simp +zetaDelta (decide := true) only [wipe_lostSince, wipe_ite, wipe_ite_fst,
      ite_self, implies_true])

theorem State.putRoute_wipe (s : State) (k : RouteKey) (e : BitVec 32) (m : Nat) (h : 0x810000000 ||| m = m) :
    (s.putRoute k e).wipe m = s.wipe m := by
  refine wipe_mono h ?_
  unfold State.putRoute
  try simp +zetaDelta (decide := true) only [wipe_routes, State.noteRoutes_wipe, wipe_ite, wipe_ite_fst, ite_self,
      implies_true]
  all_goals repeat' (split <;> try simp +zetaDelta (decide := true) only [wipe_routes, State.noteRoutes_wipe,
      wipe_ite, wipe_ite_fst, ite_self, implies_true])

theorem State.sendFlit_wipe (s : State) (c : Nat) (ftype : BitVec 4) (head : Bool) (fseq : BitVec 12) (payload :
    BitVec 192) (m : Nat) (h : 0x1000024000000 ||| m = m) :
    (s.sendFlit c ftype head fseq payload).wipe m = s.wipe m := by
  refine wipe_mono h ?_
  unfold State.sendFlit
  try simp +zetaDelta (decide := true) only [State.count_wipe, State.drive_wipe, State.setLink_wipe, wipe_ite,
      wipe_ite_fst, ite_self, implies_true]
  all_goals repeat' (split <;> try simp +zetaDelta (decide := true) only [State.count_wipe, State.drive_wipe,
      State.setLink_wipe, wipe_ite, wipe_ite_fst, ite_self, implies_true])

theorem State.stockSent_wipe (s : State) (p : Nat) (m : Nat) (h : 0x4000000 ||| m = m) :
    (s.stockSent p).wipe m = s.wipe m := by
  refine wipe_mono h ?_
  unfold State.stockSent
  try simp +zetaDelta (decide := true) only [State.count_wipe, wipe_ite, wipe_ite_fst, ite_self, implies_true]
  all_goals repeat' (split <;> try simp +zetaDelta (decide := true) only [State.count_wipe, wipe_ite,
      wipe_ite_fst, ite_self, implies_true])

theorem State.stockRecv_wipe (s : State) (p : Nat) (m : Nat) (h : 0x4000000 ||| m = m) :
    (s.stockRecv p).wipe m = s.wipe m := by
  refine wipe_mono h ?_
  unfold State.stockRecv
  try simp +zetaDelta (decide := true) only [State.count_wipe, wipe_ite, wipe_ite_fst, ite_self, implies_true]
  all_goals repeat' (split <;> try simp +zetaDelta (decide := true) only [State.count_wipe, wipe_ite,
      wipe_ite_fst, ite_self, implies_true])

theorem State.stockAct_wipe (s : State) (p : Nat) (m : Nat) (h : 0x4000000 ||| m = m) :
    (s.stockAct p).wipe m = s.wipe m := by
  refine wipe_mono h ?_
  unfold State.stockAct
  try simp +zetaDelta (decide := true) only [State.count_wipe, wipe_ite, wipe_ite_fst, ite_self, implies_true]
  all_goals repeat' (split <;> try simp +zetaDelta (decide := true) only [State.count_wipe, wipe_ite,
      wipe_ite_fst, ite_self, implies_true])

theorem State.sendFlits_wipe (s : State) (c : Nat) (m : TxMsg) (x3 : List TxFlit) (mk : Nat) (h : 0x1000024000000
    ||| mk = mk) :
    (s.sendFlits c m x3).1.wipe mk = s.wipe mk := by
  refine wipe_mono h ?_
  fun_induction State.sendFlits s c m x3
  all_goals try simp +zetaDelta (decide := true) only [*, State.sendFlit_wipe, State.setLink_wipe,
      State.count_wipe, State.stockSent_wipe, wipe_ite, wipe_ite_fst, ite_self, implies_true]
  all_goals repeat' (split <;> try simp +zetaDelta (decide := true) only [*, State.sendFlit_wipe,
      State.setLink_wipe, State.count_wipe, State.stockSent_wipe, wipe_ite, wipe_ite_fst, ite_self, implies_true])

theorem State.sendQueue_wipe (s : State) (c : Nat) (blocked : List Nat) (x3 : List TxMsg) (m : Nat) (h :
    0x1000024000000 ||| m = m) :
    (s.sendQueue c blocked x3).1.wipe m = s.wipe m := by
  refine wipe_mono h ?_
  fun_induction State.sendQueue s c blocked x3
  · rfl
  · rename_i e ih; rw [e] at ih; exact ih
  · rename_i s1 b1 m1 ms1 hb s0 e ih
    have k := State.sendFlits_wipe s1 c m1 m1.flits 0x1000024000000 (by decide); rw [e] at k; exact ih.trans k
  · rename_i s1 b1 m1 ms1 hb s0 fs1 hne e s2 r2 e2 ih
    have k := State.sendFlits_wipe s1 c m1 m1.flits 0x1000024000000 (by decide); rw [e] at k; rw [e2] at ih
    exact ih.trans k

theorem State.pump_wipe (s : State) (c : Nat) (m : Nat) (h : 0x1000024000000 ||| m = m) :
    (s.pump c).wipe m = s.wipe m := by
  refine wipe_mono h ?_
  unfold State.pump
  try simp +zetaDelta (decide := true) only [State.sendQueue_wipe, State.setLink_wipe, State.modLink_wipe,
      wipe_ite, wipe_ite_fst, ite_self, implies_true]
  all_goals repeat' (split <;> try simp +zetaDelta (decide := true) only [State.sendQueue_wipe,
      State.setLink_wipe, State.modLink_wipe, wipe_ite, wipe_ite_fst, ite_self, implies_true])

theorem State.queueOn_wipe (s : State) (c : Nat) (vl : Nat) (m : Msg) (about : Option Nat) (fwd : Bool) (mk : Nat)
    (h : 0x1000024000000 ||| mk = mk) :
    (s.queueOn c vl m about fwd).wipe mk = s.wipe mk := by
  refine wipe_mono h ?_
  unfold State.queueOn
  try simp +zetaDelta (decide := true) only [State.pump_wipe, State.modLink_wipe, wipe_ite, wipe_ite_fst,
      ite_self, implies_true]
  all_goals repeat' (split <;> try simp +zetaDelta (decide := true) only [State.pump_wipe, State.modLink_wipe,
      wipe_ite, wipe_ite_fst, ite_self, implies_true])

theorem State.holdMsg_wipe (s : State) (m : Msg) (why : WaitWhy) (about : Option Nat) (fwd : Bool) (mk : Nat) (h :
    0x80000000 ||| mk = mk) :
    (s.holdMsg m why about fwd).wipe mk = s.wipe mk := by
  refine wipe_mono h ?_
  unfold State.holdMsg
  try simp +zetaDelta (decide := true) only [wipe_waitMsgs, wipe_ite, wipe_ite_fst, ite_self, implies_true]
  all_goals repeat' (split <;> try simp +zetaDelta (decide := true) only [wipe_waitMsgs, wipe_ite, wipe_ite_fst,
      ite_self, implies_true])

theorem State.sendRaw_wipe (s : State) (m : Msg) (about : Option Nat) (fwd : Bool) (mk : Nat) (h : 0x10000e4000000
    ||| mk = mk) :
    (s.sendRaw m about fwd).wipe mk = s.wipe mk := by
  refine wipe_mono h ?_
  unfold State.sendRaw
  try simp +zetaDelta (decide := true) only [wipe_inbox, State.holdMsg_wipe, State.queueOn_wipe, wipe_ite,
      wipe_ite_fst, ite_self, implies_true]
  all_goals repeat' (split <;> try simp +zetaDelta (decide := true) only [wipe_inbox, State.holdMsg_wipe,
      State.queueOn_wipe, wipe_ite, wipe_ite_fst, ite_self, implies_true])

theorem State.recordDiscard_wipe (s : State) (c : Nat) (m : Msg) (mk : Nat) (h : 0x2002007000000 ||| mk = mk) :
    (s.recordDiscard c m).wipe mk = s.wipe mk := by
  refine wipe_mono h ?_
  unfold State.recordDiscard
  try simp +zetaDelta (decide := true) only [State.record_wipe, wipe_ite, wipe_ite_fst, ite_self, implies_true]
  all_goals repeat' (split <;> try simp +zetaDelta (decide := true) only [State.record_wipe, wipe_ite,
      wipe_ite_fst, ite_self, implies_true])

theorem State.refuseLevel_wipe (s : State) (c : Nat) (m : Msg) (mk : Nat) (h : 0x30020e7000000 ||| mk = mk) :
    (s.refuseLevel c m).wipe mk = s.wipe mk := by
  refine wipe_mono h ?_
  unfold State.refuseLevel
  try simp +zetaDelta (decide := true) only [State.recordDiscard_wipe, State.bump_wipe, State.sendRaw_wipe,
      wipe_ite, wipe_ite_fst, ite_self, implies_true]
  all_goals repeat' (split <;> try simp +zetaDelta (decide := true) only [State.recordDiscard_wipe,
      State.bump_wipe, State.sendRaw_wipe, wipe_ite, wipe_ite_fst, ite_self, implies_true])

theorem State.send_wipe (s : State) (m : Msg) (about : optParam (Option Nat) Option.none) (fwd : optParam Bool
    Bool.false) (mk : Nat) (h : 0x30020e7000000 ||| mk = mk) :
    (s.send m about fwd).wipe mk = s.wipe mk := by
  refine wipe_mono h ?_
  unfold State.send
  try simp +zetaDelta (decide := true) only [State.sendRaw_wipe, State.refuseLevel_wipe, wipe_ite, wipe_ite_fst,
      ite_self, implies_true]
  all_goals repeat' (split <;> try simp +zetaDelta (decide := true) only [State.sendRaw_wipe,
      State.refuseLevel_wipe, wipe_ite, wipe_ite_fst, ite_self, implies_true])

theorem State.resend_wipe (s : State) (x1 : List WaitMsg) (m : Nat) (h : 0x30020e7000000 ||| m = m) :
    (s.resend x1).wipe m = s.wipe m := by
  refine wipe_mono h ?_
  fun_induction State.resend s x1
  all_goals try simp +zetaDelta (decide := true) only [*, State.send_wipe, wipe_ite, wipe_ite_fst, ite_self,
      implies_true]
  all_goals repeat' (split <;> try simp +zetaDelta (decide := true) only [*, State.send_wipe, wipe_ite,
      wipe_ite_fst, ite_self, implies_true])

theorem State.releaseWaiting_wipe (s : State) (p : WaitMsg → Bool) (m : Nat) (h : 0x30020e7000000 ||| m = m) :
    (s.releaseWaiting p).wipe m = s.wipe m := by
  refine wipe_mono h ?_
  unfold State.releaseWaiting
  try simp +zetaDelta (decide := true) only [wipe_waitMsgs, State.resend_wipe, wipe_ite, wipe_ite_fst, ite_self,
      implies_true]
  all_goals repeat' (split <;> try simp +zetaDelta (decide := true) only [wipe_waitMsgs, State.resend_wipe,
      wipe_ite, wipe_ite_fst, ite_self, implies_true])

theorem State.retryStranded_wipe (s : State) (m : Nat) (h : 0x30020e7000000 ||| m = m) :
    (s.retryStranded).wipe m = s.wipe m := by
  refine wipe_mono h ?_
  unfold State.retryStranded
  try simp +zetaDelta (decide := true) only [State.releaseWaiting_wipe, wipe_ite, wipe_ite_fst, ite_self,
      implies_true]
  all_goals repeat' (split <;> try simp +zetaDelta (decide := true) only [State.releaseWaiting_wipe, wipe_ite,
      wipe_ite_fst, ite_self, implies_true])

theorem State.linkNote_wipe (s : State) (c : Nat) (prev : Nat) (reason : Nat) (parts : Nat) (abandoned : Nat) (m :
    Nat) (h : 0x2000007000000 ||| m = m) :
    (s.linkNote c prev reason parts abandoned).wipe m = s.wipe m := by
  refine wipe_mono h ?_
  unfold State.linkNote
  try simp +zetaDelta (decide := true) only [State.notifyRing_wipe, wipe_ite, wipe_ite_fst, ite_self,
      implies_true]
  all_goals repeat' (split <;> try simp +zetaDelta (decide := true) only [State.notifyRing_wipe, wipe_ite,
      wipe_ite_fst, ite_self, implies_true])

theorem State.checkHoldover_wipe (s : State) (c : Nat) (m : Nat) (h : 0x2000007000400 ||| m = m) :
    (s.checkHoldover c).wipe m = s.wipe m := by
  refine wipe_mono h ?_
  unfold State.checkHoldover
  try simp +zetaDelta (decide := true) only [wipe_sync, State.linkNote_wipe, wipe_ite, wipe_ite_fst, ite_self,
      implies_true]
  all_goals repeat' (split <;> try simp +zetaDelta (decide := true) only [wipe_sync, State.linkNote_wipe,
      wipe_ite, wipe_ite_fst, ite_self, implies_true])

theorem State.moveLink_wipe (s : State) (c : Nat) (st : LinkState) (reason : Nat) (parts : Nat) (abandoned : Nat) (m
    : Nat) (h : 0x30028e7000400 ||| m = m) :
    (s.moveLink c st reason parts abandoned).wipe m = s.wipe m := by
  refine wipe_mono h ?_
  unfold State.moveLink
  try simp +zetaDelta (decide := true) only [State.modLink_wipe, State.linkNote_wipe, State.noteRoutes_wipe,
      State.retryStranded_wipe, State.pump_wipe, State.checkHoldover_wipe, wipe_ite, wipe_ite_fst, ite_self,
      implies_true]
  all_goals repeat' (split <;> try simp +zetaDelta (decide := true) only [State.modLink_wipe, State.linkNote_wipe,
      State.noteRoutes_wipe, State.retryStranded_wipe, State.pump_wipe, State.checkHoldover_wipe, wipe_ite,
      wipe_ite_fst, ite_self, implies_true])

end Sys2Proof.Machine
end

