-- ==== Sys2Proof/Laws/KeepsDelivery.lean ====
section
/-! SUPPORT. What each operation of Delivery.lean changes at most: blotting out the fields of its mask takes away every
difference that it makes. -/

set_option linter.all false

namespace Sys2Proof.Machine

theorem State.pcount_wipe (s : State) (sub : Nat) (p : Nat) (n : Nat) (m : Nat) (h : 0x4000000 ||| m = m) :
    (s.pcount sub p n).wipe m = s.wipe m := by
  refine wipe_mono h ?_
  unfold State.pcount
  try simp +zetaDelta (decide := true) only [State.count_wipe, wipe_ite, wipe_ite_fst, ite_self, implies_true]
  all_goals repeat' (split <;> try simp +zetaDelta (decide := true) only [State.count_wipe, wipe_ite,
      wipe_ite_fst, ite_self, implies_true])

theorem State.act_wipe (s : State) (p : Nat) (m : Nat) (h : 0x4000000 ||| m = m) :
    (s.act p).wipe m = s.wipe m := by
  refine wipe_mono h ?_
  unfold State.act
  try simp +zetaDelta (decide := true) only [State.stockAct_wipe, wipe_ite, wipe_ite_fst, ite_self, implies_true]
  all_goals repeat' (split <;> try simp +zetaDelta (decide := true) only [State.stockAct_wipe, wipe_ite,
      wipe_ite_fst, ite_self, implies_true])

theorem State.respond_wipe (s : State) (o : HomeOp) (st : Status) (result : Nat) (v : BitVec 64) (m : Nat) (h :
    0x30020e7400000 ||| m = m) :
    (s.respond o st result v).wipe m = s.wipe m := by
  refine wipe_mono h ?_
  unfold State.respond
  try simp +zetaDelta (decide := true) only [wipe_rets, State.send_wipe, wipe_ite, wipe_ite_fst, ite_self,
      implies_true]
  all_goals repeat' (split <;> try simp +zetaDelta (decide := true) only [wipe_rets, State.send_wipe, wipe_ite,
      wipe_ite_fst, ite_self, implies_true])

theorem State.countRefused_wipe (s : State) (o : HomeOp) (st : Status) (m : Nat) (h : 0x2002007000000 ||| m = m) :
    (s.countRefused o st).wipe m = s.wipe m := by
  refine wipe_mono h ?_
  unfold State.countRefused
  try simp +zetaDelta (decide := true) only [State.count_wipe, State.pcount_wipe, State.record_wipe, wipe_ite,
      wipe_ite_fst, ite_self, implies_true]
  all_goals repeat' (split <;> try simp +zetaDelta (decide := true) only [State.count_wipe, State.pcount_wipe,
      State.record_wipe, wipe_ite, wipe_ite_fst, ite_self, implies_true])

theorem State.conclude_wipe (s : State) (o : HomeOp) (st : Status) (result : Nat) (v : BitVec 64) (m : Nat) (h :
    0x30020e7400000 ||| m = m) :
    (s.conclude o st result v).wipe m = s.wipe m := by
  refine wipe_mono h ?_
  unfold State.conclude
  try simp +zetaDelta (decide := true) only [State.respond_wipe, State.countRefused_wipe, wipe_ite, wipe_ite_fst,
      ite_self, implies_true]
  all_goals repeat' (split <;> try simp +zetaDelta (decide := true) only [State.respond_wipe,
      State.countRefused_wipe, wipe_ite, wipe_ite_fst, ite_self, implies_true])

theorem State.actOp_wipe (s : State) (o : HomeOp) (m : Nat) (h : 0x4000000 ||| m = m) :
    (s.actOp o).wipe m = s.wipe m := by
  refine wipe_mono h ?_
  unfold State.actOp
  try simp +zetaDelta (decide := true) only [State.act_wipe, wipe_ite, wipe_ite_fst, ite_self, implies_true]
  all_goals repeat' (split <;> try simp +zetaDelta (decide := true) only [State.act_wipe, wipe_ite, wipe_ite_fst,
      ite_self, implies_true])

theorem State.refuse_wipe (s : State) (o : HomeOp) (st : Status) (m : Nat) (h : 0x30020e7400000 ||| m = m) :
    (s.refuse o st).wipe m = s.wipe m := by
  refine wipe_mono h ?_
  unfold State.refuse
  try simp +zetaDelta (decide := true) only [State.conclude_wipe, State.actOp_wipe, wipe_ite, wipe_ite_fst,
      ite_self, implies_true]
  all_goals repeat' (split <;> try simp +zetaDelta (decide := true) only [State.conclude_wipe, State.actOp_wipe,
      wipe_ite, wipe_ite_fst, ite_self, implies_true])

theorem State.reach12_wipe (s : State) (o : HomeOp) (m : Nat) (h : 0x2000004000000 ||| m = m) :
    (s.reach12 o).wipe m = s.wipe m := by
  refine wipe_mono h ?_
  unfold State.reach12
  try simp +zetaDelta (decide := true) only [State.count_wipe, State.pcount_wipe, State.actOp_wipe,
      State.fresh_wipe, State.countMax_wipe, wipe_ite, wipe_ite_fst, ite_self, implies_true]
  all_goals repeat' (split <;> try simp +zetaDelta (decide := true) only [State.count_wipe, State.pcount_wipe,
      State.actOp_wipe, State.fresh_wipe, State.countMax_wipe, wipe_ite, wipe_ite_fst, ite_self, implies_true])

theorem State.recordOp_wipe (s : State) (o : HomeOp) (st : Status) (result : Nat) (m : Nat) (h : 0x2002007000000 |||
    m = m) :
    (s.recordOp o st result).wipe m = s.wipe m := by
  refine wipe_mono h ?_
  unfold State.recordOp
  try simp +zetaDelta (decide := true) only [State.record_wipe, wipe_ite, wipe_ite_fst, ite_self, implies_true]
  all_goals repeat' (split <;> try simp +zetaDelta (decide := true) only [State.record_wipe, wipe_ite,
      wipe_ite_fst, ite_self, implies_true])

theorem State.finish_wipe (s : State) (o : HomeOp) (st : Status) (result : Nat) (v : BitVec 64) (m : Nat) (h :
    0x30020e7400000 ||| m = m) :
    (s.finish o st result v).wipe m = s.wipe m := by
  refine wipe_mono h ?_
  unfold State.finish
  try simp +zetaDelta (decide := true) only [State.conclude_wipe, State.recordOp_wipe, wipe_ite, wipe_ite_fst,
      ite_self, implies_true]
  all_goals repeat' (split <;> try simp +zetaDelta (decide := true) only [State.conclude_wipe,
      State.recordOp_wipe, wipe_ite, wipe_ite_fst, ite_self, implies_true])

theorem State.countGrant_wipe (s : State) (o : HomeOp) (m : Nat) (h : 0x4000000 ||| m = m) :
    (s.countGrant o).wipe m = s.wipe m := by
  refine wipe_mono h ?_
  unfold State.countGrant
  try simp +zetaDelta (decide := true) only [State.pcount_wipe, State.countMax_wipe, wipe_ite, wipe_ite_fst,
      ite_self, implies_true]
  all_goals repeat' (split <;> try simp +zetaDelta (decide := true) only [State.pcount_wipe, State.countMax_wipe,
      wipe_ite, wipe_ite_fst, ite_self, implies_true])

theorem State.recordGrant_wipe (s : State) (o : HomeOp) (st : Status) (m : Nat) (h : 0x2002007000000 ||| m = m) :
    (s.recordGrant o st).wipe m = s.wipe m := by
  refine wipe_mono h ?_
  unfold State.recordGrant
  try simp +zetaDelta (decide := true) only [State.record_wipe, wipe_ite, wipe_ite_fst, ite_self, implies_true]
  all_goals repeat' (split <;> try simp +zetaDelta (decide := true) only [State.record_wipe, wipe_ite,
      wipe_ite_fst, ite_self, implies_true])

theorem State.offer_wipe (s : State) (p : Nat) (r : Rsp) (m : Nat) (h : 0x100000 ||| m = m) :
    (s.offer p r).wipe m = s.wipe m := by
  refine wipe_mono h ?_
  unfold State.offer
  try simp +zetaDelta (decide := true) only [State.setPort_wipe, wipe_ite, wipe_ite_fst, ite_self, implies_true]
  all_goals repeat' (split <;> try simp +zetaDelta (decide := true) only [State.setPort_wipe, wipe_ite,
      wipe_ite_fst, ite_self, implies_true])

theorem State.offerAll_wipe (s : State) (p : Nat) (x2 : List Rsp) (m : Nat) (h : 0x100000 ||| m = m) :
    (s.offerAll p x2).wipe m = s.wipe m := by
  refine wipe_mono h ?_
  fun_induction State.offerAll s p x2
  all_goals try simp +zetaDelta (decide := true) only [*, State.offer_wipe, wipe_ite, wipe_ite_fst, ite_self,
      implies_true]
  all_goals repeat' (split <;> try simp +zetaDelta (decide := true) only [*, State.offer_wipe, wipe_ite,
      wipe_ite_fst, ite_self, implies_true])

theorem State.deliverCovered_wipe (s : State) (p : Nat) (x2 : List Rsp) (m : Nat) (h : 0x100000 ||| m = m) :
    (s.deliverCovered p x2).wipe m = s.wipe m := by
  refine wipe_mono h ?_
  fun_induction State.deliverCovered s p x2
  all_goals try simp +zetaDelta (decide := true) only [*, State.setPort_wipe, wipe_ite, wipe_ite_fst, ite_self,
      implies_true]
  all_goals repeat' (split <;> try simp +zetaDelta (decide := true) only [*, State.setPort_wipe, wipe_ite,
      wipe_ite_fst, ite_self, implies_true])

theorem State.pendArrive_wipe (s : State) (p : Nat) (e : Pend) (word : BitVec 64) (v : Option (BitVec 64)) (m : Nat)
    (h : 0x100000 ||| m = m) :
    (s.pendArrive p e word v).wipe m = s.wipe m := by
  refine wipe_mono h ?_
  unfold State.pendArrive
  try simp +zetaDelta (decide := true) only [State.offer_wipe, State.setPort_wipe, wipe_ite, wipe_ite_fst,
      ite_self, implies_true]
  all_goals repeat' (split <;> try simp +zetaDelta (decide := true) only [State.offer_wipe, State.setPort_wipe,
      wipe_ite, wipe_ite_fst, ite_self, implies_true])

theorem State.retPort_wipe (s : State) (p : Nat) (r : Ret) (m : Nat) (h : 0x4100000 ||| m = m) :
    (s.retPort p r).wipe m = s.wipe m := by
  refine wipe_mono h ?_
  unfold State.retPort
  try simp +zetaDelta (decide := true) only [State.pendArrive_wipe, State.pcount_wipe, wipe_ite, wipe_ite_fst,
      ite_self, implies_true]
  all_goals repeat' (split <;> try simp +zetaDelta (decide := true) only [State.pendArrive_wipe,
      State.pcount_wipe, wipe_ite, wipe_ite_fst, ite_self, implies_true])

theorem State.retSlot_wipe (s : State) (r : Ret) (m : Nat) (h : 0x4200000 ||| m = m) :
    (s.retSlot r).wipe m = s.wipe m := by
  refine wipe_mono h ?_
  unfold State.retSlot
  try simp +zetaDelta (decide := true) only [State.setSlot_wipe, State.pcount_wipe, wipe_ite, wipe_ite_fst,
      ite_self, implies_true]
  all_goals repeat' (split <;> try simp +zetaDelta (decide := true) only [State.setSlot_wipe, State.pcount_wipe,
      wipe_ite, wipe_ite_fst, ite_self, implies_true])

theorem State.deliverNext_wipe (s : State) (t : RspTarget) (m : Nat) (h : 0x4700000 ||| m = m) :
    (s.deliverNext t).wipe m = s.wipe m := by
  refine wipe_mono h ?_
  unfold State.deliverNext
  try simp +zetaDelta (decide := true) only [wipe_rets, State.retPort_wipe, State.retSlot_wipe, wipe_ite,
      wipe_ite_fst, ite_self, implies_true]
  all_goals repeat' (split <;> try simp +zetaDelta (decide := true) only [wipe_rets, State.retPort_wipe,
      State.retSlot_wipe, wipe_ite, wipe_ite_fst, ite_self, implies_true])

theorem State.answerPend_wipe (s : State) (p : Nat) (e : Pend) (st : Status) (result : Nat) (v : BitVec 64) (m :
    Nat) (h : 0x100000 ||| m = m) :
    (s.answerPend p e st result v).wipe m = s.wipe m := by
  refine wipe_mono h ?_
  unfold State.answerPend
  try simp +zetaDelta (decide := true) only [State.pendArrive_wipe, wipe_ite, wipe_ite_fst, ite_self,
      implies_true]
  all_goals repeat' (split <;> try simp +zetaDelta (decide := true) only [State.pendArrive_wipe, wipe_ite,
      wipe_ite_fst, ite_self, implies_true])

end Sys2Proof.Machine
end

