-- ==== Sys2Proof/Laws/KeepsWaiters.lean ====
section
/-! SUPPORT. What each operation of Waiters.lean changes at most: blotting out the fields of its mask takes away every
difference that it makes. -/

set_option linter.all false

namespace Sys2Proof.Machine

theorem State.addWaiter_wipe (s : State) (pm : Bool) (p : Nat) (w : Waiter) (m : Nat) (h : 0x2000004010000 ||| m =
    m) :
    ∀ t, s.addWaiter pm p w = some t → t.wipe m = s.wipe m := by
  intro t e
  refine wipe_mono h ?_
  unfold State.addWaiter at e
  obtain ⟨n, -, e2⟩ := Option.map_eq_some_iff.mp e
  subst e2
  simp +zetaDelta (decide := true) only [wipe_waiters, State.fresh_wipe, State.countMax_wipe, wipe_ite,
      wipe_ite_fst, ite_self, implies_true]

theorem State.exhausted_wipe (s : State) (p : Nat) (m : Nat) (h : 0x4000000 ||| m = m) :
    (s.exhausted p).wipe m = s.wipe m := by
  refine wipe_mono h ?_
  unfold State.exhausted
  try simp +zetaDelta (decide := true) only [State.pcount_wipe, wipe_ite, wipe_ite_fst, ite_self, implies_true]
  all_goals repeat' (split <;> try simp +zetaDelta (decide := true) only [State.pcount_wipe, wipe_ite,
      wipe_ite_fst, ite_self, implies_true])

theorem State.freeWaiter_wipe (s : State) (w : Waiter) (m : Nat) (h : 0x50000 ||| m = m) :
    (s.freeWaiter w).wipe m = s.wipe m := by
  refine wipe_mono h ?_
  unfold State.freeWaiter
  try simp +zetaDelta (decide := true) only [wipe_waiters_ledgers, wipe_ite, wipe_ite_fst, ite_self, implies_true]
  all_goals repeat' (split <;> try simp +zetaDelta (decide := true) only [wipe_waiters_ledgers, wipe_ite,
      wipe_ite_fst, ite_self, implies_true])

theorem State.setLender_wipe (s : State) (e : Lender) (m : Nat) (h : 0x20000 ||| m = m) :
    (s.setLender e).wipe m = s.wipe m := by
  refine wipe_mono h ?_
  unfold State.setLender
  try simp +zetaDelta (decide := true) only [wipe_lenders, wipe_ite, wipe_ite_fst, ite_self, implies_true]
  all_goals repeat' (split <;> try simp +zetaDelta (decide := true) only [wipe_lenders, wipe_ite, wipe_ite_fst,
      ite_self, implies_true])

theorem State.setLedger_wipe (s : State) (e : Ledger) (m : Nat) (h : 0x40000 ||| m = m) :
    (s.setLedger e).wipe m = s.wipe m := by
  refine wipe_mono h ?_
  unfold State.setLedger
  try simp +zetaDelta (decide := true) only [wipe_ledgers, wipe_ite, wipe_ite_fst, ite_self, implies_true]
  all_goals repeat' (split <;> try simp +zetaDelta (decide := true) only [wipe_ledgers, wipe_ite, wipe_ite_fst,
      ite_self, implies_true])

theorem State.clearReq_wipe (s : State) (w : Waiter) (m : Nat) (h : 0x20000 ||| m = m) :
    (s.clearReq w).wipe m = s.wipe m := by
  refine wipe_mono h ?_
  unfold State.clearReq
  try simp +zetaDelta (decide := true) only [State.setLender_wipe, wipe_ite, wipe_ite_fst, ite_self, implies_true]
  all_goals repeat' (split <;> try simp +zetaDelta (decide := true) only [State.setLender_wipe, wipe_ite,
      wipe_ite_fst, ite_self, implies_true])

theorem State.endWaiter_wipe (s : State) (w : Waiter) (st : Status) (m : Nat) (h : 0x30020e7470000 ||| m = m) :
    (s.endWaiter w st).wipe m = s.wipe m := by
  refine wipe_mono h ?_
  unfold State.endWaiter
  try simp +zetaDelta (decide := true) only [State.freeWaiter_wipe, State.clearReq_wipe, State.conclude_wipe,
      wipe_ite, wipe_ite_fst, ite_self, implies_true]
  all_goals repeat' (split <;> try simp +zetaDelta (decide := true) only [State.freeWaiter_wipe,
      State.clearReq_wipe, State.conclude_wipe, wipe_ite, wipe_ite_fst, ite_self, implies_true])

theorem State.endWaiters_wipe (s : State) (st : Status) (x2 : List Waiter) (m : Nat) (h : 0x30020e7470000 ||| m = m)
    :
    (s.endWaiters st x2).wipe m = s.wipe m := by
  refine wipe_mono h ?_
  fun_induction State.endWaiters s st x2
  all_goals try simp +zetaDelta (decide := true) only [*, State.endWaiter_wipe, wipe_ite, wipe_ite_fst, ite_self,
      implies_true]
  all_goals repeat' (split <;> try simp +zetaDelta (decide := true) only [*, State.endWaiter_wipe, wipe_ite,
      wipe_ite_fst, ite_self, implies_true])

theorem State.unwaitParked_wipe (s : State) (w : Waiter) (m : Nat) (h : 0x10000 ||| m = m) :
    (s.unwaitParked w).wipe m = s.wipe m := by
  refine wipe_mono h ?_
  unfold State.unwaitParked
  try simp +zetaDelta (decide := true) only [wipe_waiters, wipe_ite, wipe_ite_fst, ite_self, implies_true]
  all_goals repeat' (split <;> try simp +zetaDelta (decide := true) only [wipe_waiters, wipe_ite, wipe_ite_fst,
      ite_self, implies_true])

theorem State.endWait_wipe (s : State) (w : Waiter) (st : Status) (m : Nat) (h : 0x30020e7470000 ||| m = m) :
    (s.endWait w st).wipe m = s.wipe m := by
  refine wipe_mono h ?_
  unfold State.endWait
  try simp +zetaDelta (decide := true) only [State.conclude_wipe, State.unwaitParked_wipe, State.endWaiter_wipe,
      wipe_ite, wipe_ite_fst, ite_self, implies_true]
  all_goals repeat' (split <;> try simp +zetaDelta (decide := true) only [State.conclude_wipe,
      State.unwaitParked_wipe, State.endWaiter_wipe, wipe_ite, wipe_ite_fst, ite_self, implies_true])

theorem State.grant_wipe (s : State) (w : Waiter) (st : Status) (result : Nat) (v : BitVec 64) (m : Nat) (h :
    0x30020e7450000 ||| m = m) :
    (s.grant w st result v).wipe m = s.wipe m := by
  refine wipe_mono h ?_
  unfold State.grant
  try simp +zetaDelta (decide := true) only [State.conclude_wipe, State.recordGrant_wipe, State.countGrant_wipe,
      State.freeWaiter_wipe, wipe_ite, wipe_ite_fst, ite_self, implies_true]
  all_goals repeat' (split <;> try simp +zetaDelta (decide := true) only [State.conclude_wipe,
      State.recordGrant_wipe, State.countGrant_wipe, State.freeWaiter_wipe, wipe_ite, wipe_ite_fst, ite_self,
      implies_true])

end Sys2Proof.Machine
end

