-- ==== Sys2Proof/Laws/KeepsLatch.lean ====
section
/-! SUPPORT. What each operation of Latch.lean changes at most: blotting out the fields of its mask takes away every
difference that it makes. -/

set_option linter.all false

namespace Sys2Proof.Machine

theorem State.endNear_wipe (s : State) (p : Nat) (st : Status) (w : NearWait) (m : Nat) (h : 0x2002007100000 ||| m =
    m) :
    (s.endNear p st w).wipe m = s.wipe m := by
  refine wipe_mono h ?_
  unfold State.endNear
  try simp +zetaDelta (decide := true) only [State.modPort_wipe, State.offer_wipe, State.countRefused_wipe,
      wipe_ite, wipe_ite_fst, ite_self, implies_true]
  all_goals repeat' (split <;> try simp +zetaDelta (decide := true) only [State.modPort_wipe, State.offer_wipe,
      State.countRefused_wipe, wipe_ite, wipe_ite_fst, ite_self, implies_true])

theorem State.endNears_wipe (s : State) (p : Nat) (st : Status) (x3 : List NearWait) (m : Nat) (h : 0x2002007100000
    ||| m = m) :
    (s.endNears p st x3).wipe m = s.wipe m := by
  refine wipe_mono h ?_
  fun_induction State.endNears s p st x3
  all_goals try simp +zetaDelta (decide := true) only [*, State.endNear_wipe, wipe_ite, wipe_ite_fst, ite_self,
      implies_true]
  all_goals repeat' (split <;> try simp +zetaDelta (decide := true) only [*, State.endNear_wipe, wipe_ite,
      wipe_ite_fst, ite_self, implies_true])

theorem State.discardOps_wipe (s : State) (x1 : List HomeOp) (m : Nat) (h : 0x2002007000000 ||| m = m) :
    (s.discardOps x1).wipe m = s.wipe m := by
  refine wipe_mono h ?_
  fun_induction State.discardOps s x1
  all_goals try simp +zetaDelta (decide := true) only [*, State.countRefused_wipe, wipe_ite, wipe_ite_fst,
      ite_self, implies_true]
  all_goals repeat' (split <;> try simp +zetaDelta (decide := true) only [*, State.countRefused_wipe, wipe_ite,
      wipe_ite_fst, ite_self, implies_true])

theorem State.endPends_wipe (s : State) (p : Nat) (st : Status) (x3 : List Pend) (m : Nat) (h : 0x2002007100000 |||
    m = m) :
    (s.endPends p st x3).wipe m = s.wipe m := by
  refine wipe_mono h ?_
  fun_induction State.endPends s p st x3
  all_goals try simp +zetaDelta (decide := true) only [*, State.answerPend_wipe, State.countRefused_wipe,
      wipe_ite, wipe_ite_fst, ite_self, implies_true]
  all_goals repeat' (split <;> try simp +zetaDelta (decide := true) only [*, State.answerPend_wipe,
      State.countRefused_wipe, wipe_ite, wipe_ite_fst, ite_self, implies_true])

theorem State.latchPort_wipe (s : State) (p : Nat) (m : Nat) (h : 0x2002007100000 ||| m = m) :
    (s.latchPort p).wipe m = s.wipe m := by
  refine wipe_mono h ?_
  unfold State.latchPort
  try simp +zetaDelta (decide := true) only [State.setPort_wipe, State.discardOps_wipe, State.endNears_wipe,
      State.endPends_wipe, wipe_ite, wipe_ite_fst, ite_self, implies_true]
  all_goals repeat' (split <;> try simp +zetaDelta (decide := true) only [State.setPort_wipe,
      State.discardOps_wipe, State.endNears_wipe, State.endPends_wipe, wipe_ite, wipe_ite_fst, ite_self,
      implies_true])

theorem State.each_wipe (s : State) (f : State → Nat → State) (x2 : List Nat) (m : Nat) (h : 0x0 ||| m = m) (hf : ∀
    s n, (f s n).wipe m = s.wipe m) :
    (s.each f x2).wipe m = s.wipe m := by
  fun_induction State.each s f x2 <;> simp only [*]

theorem State.latchSlot_wipe (s : State) (g : Nat) (m : Nat) (h : 0x2002007200000 ||| m = m) :
    (s.latchSlot g).wipe m = s.wipe m := by
  refine wipe_mono h ?_
  unfold State.latchSlot
  try simp +zetaDelta (decide := true) only [State.discardOps_wipe, State.countRefused_wipe, State.setSlot_wipe,
      wipe_ite, wipe_ite_fst, ite_self, implies_true]
  all_goals repeat' (split <;> try simp +zetaDelta (decide := true) only [State.discardOps_wipe,
      State.countRefused_wipe, State.setSlot_wipe, wipe_ite, wipe_ite_fst, ite_self, implies_true])

theorem State.failPart_wipe (s : State) (p : Nat) (m : Nat) (h : 0x30020e7771000 ||| m = m) :
    (s.failPart p).wipe m = s.wipe m := by
  refine wipe_mono h ?_
  unfold State.failPart
  try simp +zetaDelta (decide := true) only [State.each_wipe, State.latchPort_wipe, State.latchSlot_wipe,
      State.modPart_wipe, State.endWaiters_wipe, wipe_ite, wipe_ite_fst, ite_self, implies_true]
  all_goals repeat' (split <;> try simp +zetaDelta (decide := true) only [State.each_wipe, State.latchPort_wipe,
      State.latchSlot_wipe, State.modPart_wipe, State.endWaiters_wipe, wipe_ite, wipe_ite_fst, ite_self,
      implies_true])

theorem State.notice_wipe (s : State) (p : Nat) (cause : Nat) (x3 : List HubId) (m : Nat) (h : 0x30020e7000000 ||| m
    = m) :
    (s.notice p cause x3).wipe m = s.wipe m := by
  refine wipe_mono h ?_
  fun_induction State.notice s p cause x3
  all_goals try simp +zetaDelta (decide := true) only [*, State.send_wipe, State.bump_wipe, wipe_ite,
      wipe_ite_fst, ite_self, implies_true]
  all_goals repeat' (split <;> try simp +zetaDelta (decide := true) only [*, State.send_wipe, State.bump_wipe,
      wipe_ite, wipe_ite_fst, ite_self, implies_true])

theorem State.latchOne_wipe (d : Detection) (ps : List Nat) (s : State) (p : Nat) (m : Nat) (h : 0x30020e7771000 |||
    m = m) :
    (State.latchOne d ps s p).wipe m = s.wipe m := by
  refine wipe_mono h ?_
  unfold State.latchOne
  try simp +zetaDelta (decide := true) only [State.bump_wipe, State.notifyRing_wipe, State.modPart_wipe,
      State.folioMark_wipe, State.notice_wipe, State.failPart_wipe, wipe_ite, wipe_ite_fst, ite_self,
      implies_true]
  all_goals repeat' (split <;> try simp +zetaDelta (decide := true) only [State.bump_wipe, State.notifyRing_wipe,
      State.modPart_wipe, State.folioMark_wipe, State.notice_wipe, State.failPart_wipe, wipe_ite, wipe_ite_fst,
      ite_self, implies_true])

theorem State.jobFault_wipe (s : State) (d : Detection) (ps : List Nat) (m : Nat) (h : 0x30020e7771000 ||| m = m) :
    (s.jobFault d ps).wipe m = s.wipe m := by
  refine wipe_mono h ?_
  unfold State.jobFault
  try simp +zetaDelta (decide := true) only [State.each_wipe, State.latchOne_wipe, State.notifyRing_wipe,
      wipe_ite, wipe_ite_fst, ite_self, implies_true]
  all_goals repeat' (split <;> try simp +zetaDelta (decide := true) only [State.each_wipe, State.latchOne_wipe,
      State.notifyRing_wipe, wipe_ite, wipe_ite_fst, ite_self, implies_true])

theorem State.failOne_wipe (s : State) (d : Detection) (p : Nat) (m : Nat) (h : 0x30020e7771000 ||| m = m) :
    (s.failOne d p).wipe m = s.wipe m := by
  refine wipe_mono h ?_
  unfold State.failOne
  try simp +zetaDelta (decide := true) only [State.jobFault_wipe, wipe_ite, wipe_ite_fst, ite_self, implies_true]
  all_goals repeat' (split <;> try simp +zetaDelta (decide := true) only [State.jobFault_wipe, wipe_ite,
      wipe_ite_fst, ite_self, implies_true])

theorem State.recordLoan_wipe (s : State) (p : Nat) (k : LoanKind) (b : LoanBody) (sent : Bool) (m : Nat) (h :
    0x2002007000000 ||| m = m) :
    (s.recordLoan p k b sent).wipe m = s.wipe m := by
  refine wipe_mono h ?_
  unfold State.recordLoan
  try simp +zetaDelta (decide := true) only [State.record_wipe, wipe_ite, wipe_ite_fst, ite_self, implies_true]
  all_goals repeat' (split <;> try simp +zetaDelta (decide := true) only [State.record_wipe, wipe_ite,
      wipe_ite_fst, ite_self, implies_true])

theorem State.sendLoan_wipe (s : State) (dst : HubId) (p : Nat) (k : LoanKind) (b : LoanBody) (m : Nat) (h :
    0x30020e7000000 ||| m = m) :
    (s.sendLoan dst p k b).wipe m = s.wipe m := by
  refine wipe_mono h ?_
  unfold State.sendLoan
  try simp +zetaDelta (decide := true) only [State.recordLoan_wipe, State.send_wipe, wipe_ite, wipe_ite_fst,
      ite_self, implies_true]
  all_goals repeat' (split <;> try simp +zetaDelta (decide := true) only [State.recordLoan_wipe, State.send_wipe,
      wipe_ite, wipe_ite_fst, ite_self, implies_true])

theorem State.recallEntry_wipe (s : State) (e : Lender) (m : Nat) (h : 0x30020e7020000 ||| m = m) :
    (s.recallEntry e).wipe m = s.wipe m := by
  refine wipe_mono h ?_
  unfold State.recallEntry
  try simp +zetaDelta (decide := true) only [State.sendLoan_wipe, State.setLender_wipe, wipe_ite, wipe_ite_fst,
      ite_self, implies_true]
  all_goals repeat' (split <;> try simp +zetaDelta (decide := true) only [State.sendLoan_wipe,
      State.setLender_wipe, wipe_ite, wipe_ite_fst, ite_self, implies_true])

theorem State.recallAll_wipe (s : State) (x1 : List Lender) (m : Nat) (h : 0x30020e7020000 ||| m = m) :
    (s.recallAll x1).wipe m = s.wipe m := by
  refine wipe_mono h ?_
  fun_induction State.recallAll s x1
  all_goals try simp +zetaDelta (decide := true) only [*, State.recallEntry_wipe, wipe_ite, wipe_ite_fst,
      ite_self, implies_true]
  all_goals repeat' (split <;> try simp +zetaDelta (decide := true) only [*, State.recallEntry_wipe, wipe_ite,
      wipe_ite_fst, ite_self, implies_true])

theorem State.recallToken_wipe (s : State) (i : Nat) (m : Nat) (h : 0x30020e7020000 ||| m = m) :
    (s.recallToken i).wipe m = s.wipe m := by
  refine wipe_mono h ?_
  unfold State.recallToken
  try simp +zetaDelta (decide := true) only [State.recallAll_wipe, wipe_ite, wipe_ite_fst, ite_self, implies_true]
  all_goals repeat' (split <;> try simp +zetaDelta (decide := true) only [State.recallAll_wipe, wipe_ite,
      wipe_ite_fst, ite_self, implies_true])

theorem State.errLocation_wipe (s : State) (cause : Nat) (index : Nat) (m : Nat) (h : 0x4000000 ||| m = m) :
    (s.errLocation cause index).wipe m = s.wipe m := by
  refine wipe_mono h ?_
  unfold State.errLocation
  try simp +zetaDelta (decide := true) only [State.setCfg_wipe, wipe_ite, wipe_ite_fst, ite_self, implies_true]
  all_goals repeat' (split <;> try simp +zetaDelta (decide := true) only [State.setCfg_wipe, wipe_ite,
      wipe_ite_fst, ite_self, implies_true])

theorem State.rewriteFaulted_wipe (s : State) (i : Nat) (m : Nat) (h : 0x30020e7474000 ||| m = m) :
    (s.rewriteFaulted i).wipe m = s.wipe m := by
  refine wipe_mono h ?_
  unfold State.rewriteFaulted
  try simp +zetaDelta (decide := true) only [State.setObj_wipe, State.fresh_wipe, State.endWaiters_wipe,
      State.recallToken_wipe, wipe_ite, wipe_ite_fst, ite_self, implies_true]
  all_goals repeat' (split <;> try simp +zetaDelta (decide := true) only [State.setObj_wipe, State.fresh_wipe,
      State.endWaiters_wipe, State.recallToken_wipe, wipe_ite, wipe_ite_fst, ite_self, implies_true])

theorem State.markFaulted_wipe (s : State) (i : Nat) (m : Nat) (h : 0x30020e7775000 ||| m = m) :
    (s.markFaulted i).wipe m = s.wipe m := by
  refine wipe_mono h ?_
  unfold State.markFaulted
  try simp +zetaDelta (decide := true) only [State.errLocation_wipe, State.rewriteFaulted_wipe, State.record_wipe,
      State.jobFault_wipe, wipe_ite, wipe_ite_fst, ite_self, implies_true]
  all_goals repeat' (split <;> try simp +zetaDelta (decide := true) only [State.errLocation_wipe,
      State.rewriteFaulted_wipe, State.record_wipe, State.jobFault_wipe, wipe_ite, wipe_ite_fst, ite_self,
      implies_true])

end Sys2Proof.Machine
end

