-- ==== Sys2Proof/Laws/KeepsEcc.lean ====
section
/-! SUPPORT. What each operation of Ecc.lean changes at most: blotting out the fields of its mask takes away every
difference that it makes. -/

set_option linter.all false

namespace Sys2Proof.Machine

theorem State.cleanWord_wipe (s : State) (w : StoreWord) (m : Nat) (h : 0x80000000000 ||| m = m) :
    (s.cleanWord w).wipe m = s.wipe m := by
  refine wipe_mono h ?_
  unfold State.cleanWord
  try simp +zetaDelta (decide := true) only [wipe_flips, wipe_ite, wipe_ite_fst, ite_self, implies_true]
  all_goals repeat' (split <;> try simp +zetaDelta (decide := true) only [wipe_flips, wipe_ite, wipe_ite_fst,
      ite_self, implies_true])

theorem State.countDiscard_wipe (s : State) (t : Ticket) (m : Nat) (h : 0x2002007000000 ||| m = m) :
    (s.countDiscard t).wipe m = s.wipe m := by
  refine wipe_mono h ?_
  unfold State.countDiscard
  try simp +zetaDelta (decide := true) only [State.pcount_wipe, State.record_wipe, wipe_ite, wipe_ite_fst,
      ite_self, implies_true]
  all_goals repeat' (split <;> try simp +zetaDelta (decide := true) only [State.pcount_wipe, State.record_wipe,
      wipe_ite, wipe_ite_fst, ite_self, implies_true])

theorem State.replaceEntry_wipe (s : State) (index : Nat) (r : CatRow) (p : Nat) (m : Nat) (h : 0x4000000 ||| m = m)
    :
    (s.replaceEntry index r p).1.wipe m = s.wipe m := by
  refine wipe_mono h ?_
  unfold State.replaceEntry
  try simp +zetaDelta (decide := true) only [State.setCfg_wipe, wipe_ite, wipe_ite_fst, ite_self, implies_true]
  all_goals repeat' (split <;> try simp +zetaDelta (decide := true) only [State.setCfg_wipe, wipe_ite,
      wipe_ite_fst, ite_self, implies_true])

theorem State.replaceConfig_wipe (s : State) (w : Nat) (m : Nat) (h : 0x81c000000 ||| m = m) :
    (s.replaceConfig w).1.wipe m = s.wipe m := by
  refine wipe_mono h ?_
  unfold State.replaceConfig
  try simp +zetaDelta (decide := true) only [wipe_devMap, State.putRoute_wipe, State.replaceEntry_wipe, wipe_ite,
      wipe_ite_fst, ite_self, implies_true]
  all_goals repeat' (split <;> try simp +zetaDelta (decide := true) only [wipe_devMap, State.putRoute_wipe,
      State.replaceEntry_wipe, wipe_ite, wipe_ite_fst, ite_self, implies_true])

theorem State.miscorrectConfig_wipe (s : State) (n : Nat) (v : BitVec 64) (m : Nat) (h : 0x81c000000 ||| m = m) :
    (s.miscorrectConfig n v).wipe m = s.wipe m := by
  refine wipe_mono h ?_
  unfold State.miscorrectConfig
  try simp +zetaDelta (decide := true) only [wipe_devMap, State.putRoute_wipe, State.setCfg_wipe, wipe_ite,
      wipe_ite_fst, ite_self, implies_true]
  all_goals repeat' (split <;> try simp +zetaDelta (decide := true) only [wipe_devMap, State.putRoute_wipe,
      State.setCfg_wipe, wipe_ite, wipe_ite_fst, ite_self, implies_true])

theorem State.miscorrect_wipe (s : State) (w : StoreWord) (m : Nat) (h : 0x200081c974000 ||| m = m) :
    (s.miscorrect w).wipe m = s.wipe m := by
  refine wipe_mono h ?_
  unfold State.miscorrect
  try simp +zetaDelta (decide := true) only [wipe_waiters, wipe_lenders, wipe_ledgers, wipe_buffered,
      State.fresh_wipe, State.modObj_wipe, State.modPort_wipe, State.miscorrectConfig_wipe, wipe_ite,
      wipe_ite_fst, ite_self, implies_true]
  all_goals repeat' (split <;> try simp +zetaDelta (decide := true) only [wipe_waiters, wipe_lenders,
      wipe_ledgers, wipe_buffered, State.fresh_wipe, State.modObj_wipe, State.modPort_wipe,
      State.miscorrectConfig_wipe, wipe_ite, wipe_ite_fst, ite_self, implies_true])

theorem State.reportWord_wipe (s : State) (cause : Nat) (index : Nat) (ps : List Nat) (m : Nat) (h : 0x30020e7771000
    ||| m = m) :
    (s.reportWord cause index ps).wipe m = s.wipe m := by
  refine wipe_mono h ?_
  unfold State.reportWord
  try simp +zetaDelta (decide := true) only [State.errLocation_wipe, State.record_wipe, State.jobFault_wipe,
      wipe_ite, wipe_ite_fst, ite_self, implies_true]
  all_goals repeat' (split <;> try simp +zetaDelta (decide := true) only [State.errLocation_wipe,
      State.record_wipe, State.jobFault_wipe, wipe_ite, wipe_ite_fst, ite_self, implies_true])

theorem State.lostWaiter_wipe (s : State) (i : Nat) (walked : Option Nat) (m : Nat) (h : 0x30020e7775000 ||| m = m)
    :
    (s.lostWaiter i walked).wipe m = s.wipe m := by
  refine wipe_mono h ?_
  unfold State.lostWaiter
  try simp +zetaDelta (decide := true) only [wipe_waiters, State.reportWord_wipe, State.rewriteFaulted_wipe,
      wipe_ite, wipe_ite_fst, ite_self, implies_true]
  all_goals repeat' (split <;> try simp +zetaDelta (decide := true) only [wipe_waiters, State.reportWord_wipe,
      State.rewriteFaulted_wipe, wipe_ite, wipe_ite_fst, ite_self, implies_true])

theorem State.uncorrectable_wipe (s : State) (w : StoreWord) (walked : Option Nat) (m : Nat) (h : 0x30828fff75000
    ||| m = m) :
    (s.uncorrectable w walked).wipe m = s.wipe m := by
  refine wipe_mono h ?_
  unfold State.uncorrectable
  try simp +zetaDelta (decide := true) only [wipe_lenders, wipe_ledgers, wipe_buffered, State.bump_wipe,
      State.cleanWord_wipe, State.markFaulted_wipe, State.lostWaiter_wipe, State.reportWord_wipe,
      State.pcount_wipe, State.endWaiters_wipe, State.modPort_wipe, State.countDiscard_wipe,
      State.replaceConfig_wipe, State.errLocation_wipe, State.record_wipe, State.jobFault_wipe, wipe_ite,
      wipe_ite_fst, ite_self, implies_true]
  all_goals repeat' (split <;> try simp +zetaDelta (decide := true) only [wipe_lenders, wipe_ledgers,
      wipe_buffered, State.bump_wipe, State.cleanWord_wipe, State.markFaulted_wipe, State.lostWaiter_wipe,
      State.reportWord_wipe, State.pcount_wipe, State.endWaiters_wipe, State.modPort_wipe,
      State.countDiscard_wipe, State.replaceConfig_wipe, State.errLocation_wipe, State.record_wipe,
      State.jobFault_wipe, wipe_ite, wipe_ite_fst, ite_self, implies_true])

theorem State.access_wipe (s : State) (w : StoreWord) (walked : optParam (Option Nat) Option.none) (m : Nat) (h :
    0x30828fff75000 ||| m = m) :
    (s.access w walked).wipe m = s.wipe m := by
  refine wipe_mono h ?_
  unfold State.access
  try simp +zetaDelta (decide := true) only [State.bump_wipe, State.cleanWord_wipe, State.uncorrectable_wipe,
      State.fresh_wipe, State.miscorrect_wipe, wipe_ite, wipe_ite_fst, ite_self, implies_true]
  all_goals repeat' (split <;> try simp +zetaDelta (decide := true) only [State.bump_wipe, State.cleanWord_wipe,
      State.uncorrectable_wipe, State.fresh_wipe, State.miscorrect_wipe, wipe_ite, wipe_ite_fst, ite_self,
      implies_true])

theorem State.walkWords_wipe (s : State) (i : Nat) (x2 : List Waiter) (m : Nat) (h : 0x30828fff75000 ||| m = m) :
    (s.walkWords i x2).wipe m = s.wipe m := by
  refine wipe_mono h ?_
  fun_induction State.walkWords s i x2
  all_goals try simp +zetaDelta (decide := true) only [*, State.access_wipe, wipe_ite, wipe_ite_fst, ite_self,
      implies_true]
  all_goals repeat' (split <;> try simp +zetaDelta (decide := true) only [*, State.access_wipe, wipe_ite,
      wipe_ite_fst, ite_self, implies_true])

theorem State.accessObj_wipe (s : State) (i : Nat) (m : Nat) (h : 0x30828fff75000 ||| m = m) :
    (s.accessObj i).wipe m = s.wipe m := by
  refine wipe_mono h ?_
  unfold State.accessObj
  try simp +zetaDelta (decide := true) only [State.walkWords_wipe, State.access_wipe, wipe_ite, wipe_ite_fst,
      ite_self, implies_true]
  all_goals repeat' (split <;> try simp +zetaDelta (decide := true) only [State.walkWords_wipe, State.access_wipe,
      wipe_ite, wipe_ite_fst, ite_self, implies_true])

end Sys2Proof.Machine
end

