-- ==== Sys2Proof/Laws/KeepsTickets.lean ====
section
/-! SUPPORT. What each operation of Tickets.lean changes at most: blotting out the fields of its mask takes away every
difference that it makes. -/

set_option linter.all false

namespace Sys2Proof.Machine

theorem State.tringWrite_wipe (s : State) (k : Nat) (t : Ticket) (m : Nat) (h : 0x1000000 ||| m = m) :
    (s.tringWrite k t).wipe m = s.wipe m := by
  refine wipe_mono h ?_
  unfold State.tringWrite
  try simp +zetaDelta (decide := true) only [State.mgrIssue_wipe, wipe_ite, wipe_ite_fst, ite_self, implies_true]
  all_goals repeat' (split <;> try simp +zetaDelta (decide := true) only [State.mgrIssue_wipe, wipe_ite,
      wipe_ite_fst, ite_self, implies_true])

theorem State.overflowTicket_wipe (s : State) (t : Ticket) (m : Nat) (h : 0x30020e7771000 ||| m = m) :
    (s.overflowTicket t).wipe m = s.wipe m := by
  refine wipe_mono h ?_
  unfold State.overflowTicket
  try simp +zetaDelta (decide := true) only [State.failOne_wipe, State.countDiscard_wipe, State.pcount_wipe,
      State.tringWrite_wipe, wipe_ite, wipe_ite_fst, ite_self, implies_true]
  all_goals repeat' (split <;> try simp +zetaDelta (decide := true) only [State.failOne_wipe,
      State.countDiscard_wipe, State.pcount_wipe, State.tringWrite_wipe, wipe_ite, wipe_ite_fst, ite_self,
      implies_true])

theorem State.bufferTicket_wipe (s : State) (t : Ticket) (m : Nat) (h : 0x30020e7f71000 ||| m = m) :
    (s.bufferTicket t).wipe m = s.wipe m := by
  refine wipe_mono h ?_
  unfold State.bufferTicket
  try simp +zetaDelta (decide := true) only [wipe_buffered, State.overflowTicket_wipe, wipe_ite, wipe_ite_fst,
      ite_self, implies_true]
  all_goals repeat' (split <;> try simp +zetaDelta (decide := true) only [wipe_buffered,
      State.overflowTicket_wipe, wipe_ite, wipe_ite_fst, ite_self, implies_true])

theorem State.enterQueue_wipe (s : State) (port : Nat) (wake : Bool) (t : Ticket) (m : Nat) (h : 0x4100000 ||| m =
    m) :
    (s.enterQueue port wake t).wipe m = s.wipe m := by
  refine wipe_mono h ?_
  unfold State.enterQueue
  try simp +zetaDelta (decide := true) only [State.act_wipe, State.modPort_wipe, wipe_ite, wipe_ite_fst, ite_self,
      implies_true]
  all_goals repeat' (split <;> try simp +zetaDelta (decide := true) only [State.act_wipe, State.modPort_wipe,
      wipe_ite, wipe_ite_fst, ite_self, implies_true])

theorem State.enterTicket_wipe (s : State) (t : Ticket) (m : Nat) (h : 0x5100000 ||| m = m) :
    (s.enterTicket t).wipe m = s.wipe m := by
  refine wipe_mono h ?_
  unfold State.enterTicket
  try simp +zetaDelta (decide := true) only [State.enterQueue_wipe, State.tringWrite_wipe, wipe_ite, wipe_ite_fst,
      ite_self, implies_true]
  all_goals repeat' (split <;> try simp +zetaDelta (decide := true) only [State.enterQueue_wipe,
      State.tringWrite_wipe, wipe_ite, wipe_ite_fst, ite_self, implies_true])

theorem State.deliverTicket_wipe (s : State) (t : Ticket) (m : Nat) (h : 0x30020e7f71000 ||| m = m) :
    (s.deliverTicket t).wipe m = s.wipe m := by
  refine wipe_mono h ?_
  unfold State.deliverTicket
  try simp +zetaDelta (decide := true) only [State.overflowTicket_wipe, State.bufferTicket_wipe,
      State.enterTicket_wipe, wipe_ite, wipe_ite_fst, ite_self, implies_true]
  all_goals repeat' (split <;> try simp +zetaDelta (decide := true) only [State.overflowTicket_wipe,
      State.bufferTicket_wipe, State.enterTicket_wipe, wipe_ite, wipe_ite_fst, ite_self, implies_true])

theorem State.drainBuffer_wipe (s : State) (kept : List Ticket) (x2 : List Ticket) (m : Nat) (h : 0x30020e7f71000
    ||| m = m) :
    (s.drainBuffer kept x2).wipe m = s.wipe m := by
  refine wipe_mono h ?_
  fun_induction State.drainBuffer s kept x2
  all_goals try simp +zetaDelta (decide := true) only [*, wipe_buffered, State.enterTicket_wipe,
      State.overflowTicket_wipe, wipe_ite, wipe_ite_fst, ite_self, implies_true]
  all_goals repeat' (split <;> try simp +zetaDelta (decide := true) only [*, wipe_buffered,
      State.enterTicket_wipe, State.overflowTicket_wipe, wipe_ite, wipe_ite_fst, ite_self, implies_true])

theorem State.drainTickets_wipe (s : State) (m : Nat) (h : 0x30020e7f71000 ||| m = m) :
    (s.drainTickets).wipe m = s.wipe m := by
  refine wipe_mono h ?_
  unfold State.drainTickets
  try simp +zetaDelta (decide := true) only [State.drainBuffer_wipe, wipe_ite, wipe_ite_fst, ite_self,
      implies_true]
  all_goals repeat' (split <;> try simp +zetaDelta (decide := true) only [State.drainBuffer_wipe, wipe_ite,
      wipe_ite_fst, ite_self, implies_true])

theorem State.fireOnce_wipe (s : State) (i : Nat) (ti : Nat) (state : BitVec 64) (amount : BitVec 64) (cause :
    Originator) (kind : BitVec 8) (armed : Bool) (m : Nat) (h : 0x30020e7f75000 ||| m = m) :
    (s.fireOnce i ti state amount cause kind armed).wipe m = s.wipe m := by
  refine wipe_mono h ?_
  unfold State.fireOnce
  try simp +zetaDelta (decide := true) only [State.setObj_wipe, State.record_wipe, State.deliverTicket_wipe,
      wipe_ite, wipe_ite_fst, ite_self, implies_true]
  all_goals repeat' (split <;> try simp +zetaDelta (decide := true) only [State.setObj_wipe, State.record_wipe,
      State.deliverTicket_wipe, wipe_ite, wipe_ite_fst, ite_self, implies_true])

theorem State.fireToken_wipe (s : State) (i : Nat) (cause : Originator) (armed : Bool) (x4 : Nat) (m : Nat) (h :
    0x30020e7f75000 ||| m = m) :
    (s.fireToken i cause armed x4).wipe m = s.wipe m := by
  refine wipe_mono h ?_
  fun_induction State.fireToken s i cause armed x4
  all_goals try simp +zetaDelta (decide := true) only [*, State.fireOnce_wipe, State.setObj_wipe, wipe_ite,
      wipe_ite_fst, ite_self, implies_true]
  all_goals repeat' (split <;> try simp +zetaDelta (decide := true) only [*, State.fireOnce_wipe,
      State.setObj_wipe, wipe_ite, wipe_ite_fst, ite_self, implies_true])

theorem State.fireBarrier_wipe (s : State) (i : Nat) (round : BitVec 28) (cause : Originator) (m : Nat) (h :
    0x30020e7f75000 ||| m = m) :
    (s.fireBarrier i round cause).wipe m = s.wipe m := by
  refine wipe_mono h ?_
  unfold State.fireBarrier
  try simp +zetaDelta (decide := true) only [State.fireOnce_wipe, wipe_ite, wipe_ite_fst, ite_self, implies_true]
  all_goals repeat' (split <;> try simp +zetaDelta (decide := true) only [State.fireOnce_wipe, wipe_ite,
      wipe_ite_fst, ite_self, implies_true])

theorem State.readTrig_wipe (s : State) (i : Nat) (m : Nat) (h : 0x30828fff75000 ||| m = m) :
    (s.readTrig i).wipe m = s.wipe m := by
  refine wipe_mono h ?_
  unfold State.readTrig
  try simp +zetaDelta (decide := true) only [State.access_wipe, wipe_ite, wipe_ite_fst, ite_self, implies_true]
  all_goals repeat' (split <;> try simp +zetaDelta (decide := true) only [State.access_wipe, wipe_ite,
      wipe_ite_fst, ite_self, implies_true])

end Sys2Proof.Machine
end

