-- ==== Sys2Proof/Laws/KeepsServe.lean ====
section
/-! SUPPORT. What each operation of Serve.lean changes at most: blotting out the fields of its mask takes away every
difference that it makes. -/

set_option linter.all false

namespace Sys2Proof.Machine

theorem State.recordLock_wipe (s : State) (i : Nat) (how : Nat) (holder : Originator) (m : Nat) (h : 0x2002007000000
    ||| m = m) :
    (s.recordLock i how holder).wipe m = s.wipe m := by
  refine wipe_mono h ?_
  unfold State.recordLock
  try simp +zetaDelta (decide := true) only [State.record_wipe, wipe_ite, wipe_ite_fst, ite_self, implies_true]
  all_goals repeat' (split <;> try simp +zetaDelta (decide := true) only [State.record_wipe, wipe_ite,
      wipe_ite_fst, ite_self, implies_true])

theorem State.openLoan_wipe (s : State) (i : Nat) (h : HubId) (n : Nat) (m : Nat) (hm : 0x30020e70a4000 ||| m = m) :
    (s.openLoan i h n).wipe m = s.wipe m := by
  refine wipe_mono hm ?_
  unfold State.openLoan
  try simp +zetaDelta (decide := true) only [wipe_lenders_loanSeq, State.fresh_wipe, State.setObj_wipe,
      State.sendLoan_wipe, wipe_ite, wipe_ite_fst, ite_self, implies_true]
  all_goals repeat' (split <;> try simp +zetaDelta (decide := true) only [wipe_lenders_loanSeq, State.fresh_wipe,
      State.setObj_wipe, State.sendLoan_wipe, wipe_ite, wipe_ite_fst, ite_self, implies_true])

theorem State.grantLoan_wipe (s : State) (i : Nat) (w : Waiter) (e : Lender) (m : Nat) (h : 0x30020e7074000 ||| m =
    m) :
    (s.grantLoan i w e).wipe m = s.wipe m := by
  refine wipe_mono h ?_
  unfold State.grantLoan
  try simp +zetaDelta (decide := true) only [State.setLender_wipe, State.setObj_wipe, State.sendLoan_wipe,
      State.freeWaiter_wipe, wipe_ite, wipe_ite_fst, ite_self, implies_true]
  all_goals repeat' (split <;> try simp +zetaDelta (decide := true) only [State.setLender_wipe, State.setObj_wipe,
      State.sendLoan_wipe, State.freeWaiter_wipe, wipe_ite, wipe_ite_fst, ite_self, implies_true])

theorem State.grantTake_wipe (s : State) (i : Nat) (w : Waiter) (m : Nat) (h : 0x30020e74f4000 ||| m = m) :
    (s.grantTake i w).wipe m = s.wipe m := by
  refine wipe_mono h ?_
  unfold State.grantTake
  try simp +zetaDelta (decide := true) only [State.setObj_wipe, State.openLoan_wipe, State.grant_wipe, wipe_ite,
      wipe_ite_fst, ite_self, implies_true]
  all_goals repeat' (split <;> try simp +zetaDelta (decide := true) only [State.setObj_wipe, State.openLoan_wipe,
      State.grant_wipe, wipe_ite, wipe_ite_fst, ite_self, implies_true])

theorem State.serveList_wipe (s : State) (i : Nat) (held : Bool) (n : Nat) (x4 : List Waiter) (m : Nat) (h :
    0x30020e74f4000 ||| m = m) :
    (s.serveList i held n x4).1.wipe m = s.wipe m := by
  refine wipe_mono h ?_
  fun_induction State.serveList s i held n x4
  all_goals try simp +zetaDelta (decide := true) only [*, State.grant_wipe, State.setObj_wipe,
      State.recordLock_wipe, State.grantLoan_wipe, State.grantTake_wipe, wipe_ite, wipe_ite_fst, ite_self,
      implies_true]
  all_goals repeat' (split <;> try simp +zetaDelta (decide := true) only [*, State.grant_wipe, State.setObj_wipe,
      State.recordLock_wipe, State.grantLoan_wipe, State.grantTake_wipe, wipe_ite, wipe_ite_fst, ite_self,
      implies_true])
  all_goals simp_all +zetaDelta (decide := true) only [State.grant_wipe, State.setObj_wipe, State.recordLock_wipe,
      State.grantLoan_wipe, State.grantTake_wipe, wipe_ite, wipe_ite_fst, ite_self, implies_true]

theorem State.serveCount_wipe (s : State) (i : Nat) (m : Nat) (h : 0x30020e74f4000 ||| m = m) :
    (s.serveCount i).1.wipe m = s.wipe m := by
  refine wipe_mono h ?_
  unfold State.serveCount
  try simp +zetaDelta (decide := true) only [State.serveList_wipe, wipe_ite, wipe_ite_fst, ite_self, implies_true]
  all_goals repeat' (split <;> try simp +zetaDelta (decide := true) only [State.serveList_wipe, wipe_ite,
      wipe_ite_fst, ite_self, implies_true])

theorem State.serve_wipe (s : State) (i : Nat) (m : Nat) (h : 0x30020e74f4000 ||| m = m) :
    (s.serve i).wipe m = s.wipe m := by
  refine wipe_mono h ?_
  unfold State.serve
  try simp +zetaDelta (decide := true) only [State.serveCount_wipe, wipe_ite, wipe_ite_fst, ite_self,
      implies_true]
  all_goals repeat' (split <;> try simp +zetaDelta (decide := true) only [State.serveCount_wipe, wipe_ite,
      wipe_ite_fst, ite_self, implies_true])

theorem State.grantLedger_wipe (s : State) (e : Ledger) (w : Waiter) (m : Nat) (h : 0x30020e7450000 ||| m = m) :
    (s.grantLedger e w).wipe m = s.wipe m := by
  refine wipe_mono h ?_
  unfold State.grantLedger
  try simp +zetaDelta (decide := true) only [State.grant_wipe, State.setLedger_wipe, wipe_ite, wipe_ite_fst,
      ite_self, implies_true]
  all_goals repeat' (split <;> try simp +zetaDelta (decide := true) only [State.grant_wipe, State.setLedger_wipe,
      wipe_ite, wipe_ite_fst, ite_self, implies_true])

theorem State.serveEntry_wipe (s : State) (num : Nat) (held : Bool) (x3 : List Waiter) (m : Nat) (h :
    0x30020e7450000 ||| m = m) :
    (s.serveEntry num held x3).wipe m = s.wipe m := by
  refine wipe_mono h ?_
  fun_induction State.serveEntry s num held x3
  all_goals try simp +zetaDelta (decide := true) only [*, State.grantLedger_wipe, wipe_ite, wipe_ite_fst,
      ite_self, implies_true]
  all_goals repeat' (split <;> try simp +zetaDelta (decide := true) only [*, State.grantLedger_wipe, wipe_ite,
      wipe_ite_fst, ite_self, implies_true])
  all_goals simp_all +zetaDelta (decide := true) only [State.grantLedger_wipe, wipe_ite, wipe_ite_fst, ite_self,
      implies_true]

theorem State.topUp_wipe (s : State) (num : Nat) (m : Nat) (h : 0x30020e7040000 ||| m = m) :
    (s.topUp num).wipe m = s.wipe m := by
  refine wipe_mono h ?_
  unfold State.topUp
  try simp +zetaDelta (decide := true) only [State.sendLoan_wipe, State.setLedger_wipe, wipe_ite, wipe_ite_fst,
      ite_self, implies_true]
  all_goals repeat' (split <;> try simp +zetaDelta (decide := true) only [State.sendLoan_wipe,
      State.setLedger_wipe, wipe_ite, wipe_ite_fst, ite_self, implies_true])

theorem State.serveLedger_wipe (s : State) (num : Nat) (m : Nat) (h : 0x30020e7450000 ||| m = m) :
    (s.serveLedger num).wipe m = s.wipe m := by
  refine wipe_mono h ?_
  unfold State.serveLedger
  try simp +zetaDelta (decide := true) only [State.topUp_wipe, State.serveEntry_wipe, wipe_ite, wipe_ite_fst,
      ite_self, implies_true]
  all_goals repeat' (split <;> try simp +zetaDelta (decide := true) only [State.topUp_wipe, State.serveEntry_wipe,
      wipe_ite, wipe_ite_fst, ite_self, implies_true])

theorem State.serveAfter_wipe (s : State) (w : Waiter) (m : Nat) (h : 0x30020e74f4000 ||| m = m) :
    (s.serveAfter w).wipe m = s.wipe m := by
  refine wipe_mono h ?_
  unfold State.serveAfter
  try simp +zetaDelta (decide := true) only [State.serveLedger_wipe, State.serve_wipe, wipe_ite, wipe_ite_fst,
      ite_self, implies_true]
  all_goals repeat' (split <;> try simp +zetaDelta (decide := true) only [State.serveLedger_wipe,
      State.serve_wipe, wipe_ite, wipe_ite_fst, ite_self, implies_true])

end Sys2Proof.Machine
end

