-- ==== Sys2Proof/Laws/KeepsObjects.lean ====
section
/-! SUPPORT. What each operation of Objects.lean changes at most: blotting out the fields of its mask takes away every
difference that it makes. -/

set_option linter.all false

namespace Sys2Proof.Machine

theorem State.countSelvedge_wipe (s : State) (p : Nat) (v : Selvedge) (m : Nat) (h : 0x2000004000000 ||| m = m) :
    (s.countSelvedge p v).wipe m = s.wipe m := by
  refine wipe_mono h ?_
  unfold State.countSelvedge
  try simp +zetaDelta (decide := true) only [State.bump_wipe, wipe_ite, wipe_ite_fst, ite_self, implies_true]
  all_goals repeat' (split <;> try simp +zetaDelta (decide := true) only [State.bump_wipe, wipe_ite, wipe_ite_fst,
      ite_self, implies_true])

theorem State.write_wipe (s : State) (o : HomeOp) (r : ObjRec) (m : Nat) (h : 0x4000 ||| m = m) :
    (s.write o r).wipe m = s.wipe m := by
  refine wipe_mono h ?_
  unfold State.write
  try simp +zetaDelta (decide := true) only [State.setObj_wipe, wipe_ite, wipe_ite_fst, ite_self, implies_true]
  all_goals repeat' (split <;> try simp +zetaDelta (decide := true) only [State.setObj_wipe, wipe_ite,
      wipe_ite_fst, ite_self, implies_true])

theorem State.queueOn?_wipe (s : State) (o : HomeOp) (operand : BitVec 64) (m : Nat) (h : 0x30020e7410000 ||| m = m)
    :
    (s.queueOn? o operand).wipe m = s.wipe m := by
  refine wipe_mono h ?_
  unfold State.queueOn?
  try simp +zetaDelta (decide := true) only [State.recordOp_wipe, State.finish_wipe, State.exhausted_wipe,
      wipe_ite, wipe_ite_fst, ite_self, implies_true]
  all_goals repeat' (split <;> try simp +zetaDelta (decide := true) only [State.recordOp_wipe, State.finish_wipe,
      State.exhausted_wipe, wipe_ite, wipe_ite_fst, ite_self, implies_true])
  all_goals
    rename_i e
    have k := State.addWaiter_wipe _ _ _ _ (m := 0x30020e7410000) (h := by decide) _ e
    simp +zetaDelta (decide := true) only [k, State.recordOp_wipe, State.finish_wipe, State.exhausted_wipe,
        wipe_ite, wipe_ite_fst, ite_self, implies_true]

theorem State.signalEvent_wipe (s : State) (o : HomeOp) (m : Nat) (h : 0x30020e74f4000 ||| m = m) :
    (s.signalEvent o).wipe m = s.wipe m := by
  refine wipe_mono h ?_
  unfold State.signalEvent
  try simp +zetaDelta (decide := true) only [State.serveCount_wipe, State.write_wipe, State.reach12_wipe,
      State.finish_wipe, wipe_ite, wipe_ite_fst, ite_self, implies_true]
  all_goals repeat' (split <;> try simp +zetaDelta (decide := true) only [State.serveCount_wipe, State.write_wipe,
      State.reach12_wipe, State.finish_wipe, wipe_ite, wipe_ite_fst, ite_self, implies_true])

theorem State.clearEvent_wipe (s : State) (o : HomeOp) (m : Nat) (h : 0x30020e7404000 ||| m = m) :
    (s.clearEvent o).wipe m = s.wipe m := by
  refine wipe_mono h ?_
  unfold State.clearEvent
  try simp +zetaDelta (decide := true) only [State.reach12_wipe, State.finish_wipe, State.write_wipe, wipe_ite,
      wipe_ite_fst, ite_self, implies_true]
  all_goals repeat' (split <;> try simp +zetaDelta (decide := true) only [State.reach12_wipe, State.finish_wipe,
      State.write_wipe, wipe_ite, wipe_ite_fst, ite_self, implies_true])

theorem State.countBytes_wipe (s : State) (r : ObjRec) (n : Nat) (m : Nat) (h : 0x4000000 ||| m = m) :
    (s.countBytes r n).wipe m = s.wipe m := by
  refine wipe_mono h ?_
  unfold State.countBytes
  try simp +zetaDelta (decide := true) only [State.pcount_wipe, wipe_ite, wipe_ite_fst, ite_self, implies_true]
  all_goals repeat' (split <;> try simp +zetaDelta (decide := true) only [State.pcount_wipe, wipe_ite,
      wipe_ite_fst, ite_self, implies_true])

theorem State.changeAmount_wipe (s : State) (o : HomeOp) (v : Int) (count : Bool) (old : BitVec 64) (result : Nat →
    Nat) (m : Nat) (h : 0x30828ffff5000 ||| m = m) :
    (s.changeAmount o v count old result).wipe m = s.wipe m := by
  refine wipe_mono h ?_
  unfold State.changeAmount
  try simp +zetaDelta (decide := true) only [State.reach12_wipe, State.readTrig_wipe, State.conclude_wipe,
      State.markFaulted_wipe, State.finish_wipe, State.countBytes_wipe, State.serveCount_wipe,
      State.fireToken_wipe, State.setObj_wipe, wipe_ite, wipe_ite_fst, ite_self, implies_true]
  all_goals repeat' (split <;> try simp +zetaDelta (decide := true) only [State.reach12_wipe, State.readTrig_wipe,
      State.conclude_wipe, State.markFaulted_wipe, State.finish_wipe, State.countBytes_wipe,
      State.serveCount_wipe, State.fireToken_wipe, State.setObj_wipe, wipe_ite, wipe_ite_fst, ite_self,
      implies_true])

theorem State.signalAmount_wipe (s : State) (o : HomeOp) (m : Nat) (h : 0x30828ffff5000 ||| m = m) :
    (s.signalAmount o).wipe m = s.wipe m := by
  refine wipe_mono h ?_
  unfold State.signalAmount
  try simp +zetaDelta (decide := true) only [State.refuse_wipe, State.changeAmount_wipe, State.finish_wipe,
      State.reach12_wipe, wipe_ite, wipe_ite_fst, ite_self, implies_true]
  all_goals repeat' (split <;> try simp +zetaDelta (decide := true) only [State.refuse_wipe,
      State.changeAmount_wipe, State.finish_wipe, State.reach12_wipe, wipe_ite, wipe_ite_fst, ite_self,
      implies_true])

theorem State.addAmount_wipe (s : State) (o : HomeOp) (m : Nat) (h : 0x30828ffff5000 ||| m = m) :
    (s.addAmount o).wipe m = s.wipe m := by
  refine wipe_mono h ?_
  unfold State.addAmount
  try simp +zetaDelta (decide := true) only [State.finish_wipe, State.reach12_wipe, State.changeAmount_wipe,
      wipe_ite, wipe_ite_fst, ite_self, implies_true]
  all_goals repeat' (split <;> try simp +zetaDelta (decide := true) only [State.finish_wipe, State.reach12_wipe,
      State.changeAmount_wipe, wipe_ite, wipe_ite_fst, ite_self, implies_true])

theorem State.swapAmount_wipe (s : State) (o : HomeOp) (m : Nat) (h : 0x30828ffff5000 ||| m = m) :
    (s.swapAmount o).wipe m = s.wipe m := by
  refine wipe_mono h ?_
  unfold State.swapAmount
  try simp +zetaDelta (decide := true) only [State.finish_wipe, State.reach12_wipe, State.changeAmount_wipe,
      wipe_ite, wipe_ite_fst, ite_self, implies_true]
  all_goals repeat' (split <;> try simp +zetaDelta (decide := true) only [State.finish_wipe, State.reach12_wipe,
      State.changeAmount_wipe, wipe_ite, wipe_ite_fst, ite_self, implies_true])

theorem State.casAmount_wipe (s : State) (o : HomeOp) (m : Nat) (h : 0x30828ffff5000 ||| m = m) :
    (s.casAmount o).wipe m = s.wipe m := by
  refine wipe_mono h ?_
  unfold State.casAmount
  try simp +zetaDelta (decide := true) only [State.finish_wipe, State.reach12_wipe, State.changeAmount_wipe,
      wipe_ite, wipe_ite_fst, ite_self, implies_true]
  all_goals repeat' (split <;> try simp +zetaDelta (decide := true) only [State.finish_wipe, State.reach12_wipe,
      State.changeAmount_wipe, wipe_ite, wipe_ite_fst, ite_self, implies_true])

theorem State.takeNow_wipe (s : State) (o : HomeOp) (result : Nat) (m : Nat) (h : 0x30020e74a4000 ||| m = m) :
    (s.takeNow o result).wipe m = s.wipe m := by
  refine wipe_mono h ?_
  unfold State.takeNow
  try simp +zetaDelta (decide := true) only [State.write_wipe, State.openLoan_wipe, State.finish_wipe,
      State.countGrant_wipe, wipe_ite, wipe_ite_fst, ite_self, implies_true]
  all_goals repeat' (split <;> try simp +zetaDelta (decide := true) only [State.write_wipe, State.openLoan_wipe,
      State.finish_wipe, State.countGrant_wipe, wipe_ite, wipe_ite_fst, ite_self, implies_true])

theorem State.takeAmount_wipe (s : State) (o : HomeOp) (m : Nat) (h : 0x30020e74b4000 ||| m = m) :
    (s.takeAmount o).wipe m = s.wipe m := by
  refine wipe_mono h ?_
  unfold State.takeAmount
  try simp +zetaDelta (decide := true) only [State.refuse_wipe, State.reach12_wipe, State.takeNow_wipe,
      State.queueOn?_wipe, wipe_ite, wipe_ite_fst, ite_self, implies_true]
  all_goals repeat' (split <;> try simp +zetaDelta (decide := true) only [State.refuse_wipe, State.reach12_wipe,
      State.takeNow_wipe, State.queueOn?_wipe, wipe_ite, wipe_ite_fst, ite_self, implies_true])

theorem State.tryTakeAmount_wipe (s : State) (o : HomeOp) (m : Nat) (h : 0x30020e74a4000 ||| m = m) :
    (s.tryTakeAmount o).wipe m = s.wipe m := by
  refine wipe_mono h ?_
  unfold State.tryTakeAmount
  try simp +zetaDelta (decide := true) only [State.refuse_wipe, State.reach12_wipe, State.takeNow_wipe,
      State.finish_wipe, wipe_ite, wipe_ite_fst, ite_self, implies_true]
  all_goals repeat' (split <;> try simp +zetaDelta (decide := true) only [State.refuse_wipe, State.reach12_wipe,
      State.takeNow_wipe, State.finish_wipe, wipe_ite, wipe_ite_fst, ite_self, implies_true])

theorem State.waitAmount_wipe (s : State) (o : HomeOp) (m : Nat) (h : 0x30020e7410000 ||| m = m) :
    (s.waitAmount o).wipe m = s.wipe m := by
  refine wipe_mono h ?_
  unfold State.waitAmount
  try simp +zetaDelta (decide := true) only [State.reach12_wipe, State.finish_wipe, State.countGrant_wipe,
      State.queueOn?_wipe, wipe_ite, wipe_ite_fst, ite_self, implies_true]
  all_goals repeat' (split <;> try simp +zetaDelta (decide := true) only [State.reach12_wipe, State.finish_wipe,
      State.countGrant_wipe, State.queueOn?_wipe, wipe_ite, wipe_ite_fst, ite_self, implies_true])

theorem State.waitEvent_wipe (s : State) (o : HomeOp) (m : Nat) (h : 0x30020e7414000 ||| m = m) :
    (s.waitEvent o).wipe m = s.wipe m := by
  refine wipe_mono h ?_
  unfold State.waitEvent
  try simp +zetaDelta (decide := true) only [State.reach12_wipe, State.write_wipe, State.finish_wipe,
      State.countGrant_wipe, State.queueOn?_wipe, wipe_ite, wipe_ite_fst, ite_self, implies_true]
  all_goals repeat' (split <;> try simp +zetaDelta (decide := true) only [State.reach12_wipe, State.write_wipe,
      State.finish_wipe, State.countGrant_wipe, State.queueOn?_wipe, wipe_ite, wipe_ite_fst, ite_self,
      implies_true])

theorem State.readObj_wipe (s : State) (o : HomeOp) (m : Nat) (h : 0x30020e7400000 ||| m = m) :
    (s.readObj o).wipe m = s.wipe m := by
  refine wipe_mono h ?_
  unfold State.readObj
  try simp +zetaDelta (decide := true) only [State.finish_wipe, State.reach12_wipe, State.refuse_wipe, wipe_ite,
      wipe_ite_fst, ite_self, implies_true]
  all_goals repeat' (split <;> try simp +zetaDelta (decide := true) only [State.finish_wipe, State.reach12_wipe,
      State.refuse_wipe, wipe_ite, wipe_ite_fst, ite_self, implies_true])

theorem State.armObj_wipe (s : State) (o : HomeOp) (m : Nat) (h : 0x30828ffff5000 ||| m = m) :
    (s.armObj o).wipe m = s.wipe m := by
  refine wipe_mono h ?_
  unfold State.armObj
  try simp +zetaDelta (decide := true) only [State.readTrig_wipe, State.reach12_wipe, State.finish_wipe,
      State.fireToken_wipe, State.setObj_wipe, State.serve_wipe, wipe_ite, wipe_ite_fst, ite_self, implies_true]
  all_goals repeat' (split <;> try simp +zetaDelta (decide := true) only [State.readTrig_wipe, State.reach12_wipe,
      State.finish_wipe, State.fireToken_wipe, State.setObj_wipe, State.serve_wipe, wipe_ite, wipe_ite_fst,
      ite_self, implies_true])

theorem State.disarmObj_wipe (s : State) (o : HomeOp) (m : Nat) (h : 0x30020e7404000 ||| m = m) :
    (s.disarmObj o).wipe m = s.wipe m := by
  refine wipe_mono h ?_
  unfold State.disarmObj
  try simp +zetaDelta (decide := true) only [State.finish_wipe, State.write_wipe, State.reach12_wipe, wipe_ite,
      wipe_ite_fst, ite_self, implies_true]
  all_goals repeat' (split <;> try simp +zetaDelta (decide := true) only [State.finish_wipe, State.write_wipe,
      State.reach12_wipe, wipe_ite, wipe_ite_fst, ite_self, implies_true])

end Sys2Proof.Machine
end

