-- ==== Sys2Proof/Laws/KeepsShelf.lean ====
section
/-! SUPPORT. What each operation of Shelf.lean changes at most: blotting out the fields of its mask takes away every
difference that it makes. -/

set_option linter.all false

namespace Sys2Proof.Machine

theorem State.setShelf_wipe (s : State) (p : Nat) (k : Nat) (h : Shelf) (m : Nat) (hm : 0x1000 ||| m = m) :
    (s.setShelf p k h).wipe m = s.wipe m := by
  refine wipe_mono hm ?_
  unfold State.setShelf
  try simp +zetaDelta (decide := true) only [State.modPart_wipe, wipe_ite, wipe_ite_fst, ite_self, implies_true]
  all_goals repeat' (split <;> try simp +zetaDelta (decide := true) only [State.modPart_wipe, wipe_ite,
      wipe_ite_fst, ite_self, implies_true])

theorem State.shelfDone_wipe (s : State) (p : Nat) (k : Nat) (h : Shelf) (m : Nat) (hm : 0x30020e7000000 ||| m = m)
    :
    (s.shelfDone p k h).wipe m = s.wipe m := by
  refine wipe_mono hm ?_
  unfold State.shelfDone
  try simp +zetaDelta (decide := true) only [State.send_wipe, wipe_ite, wipe_ite_fst, ite_self, implies_true]
  all_goals repeat' (split <;> try simp +zetaDelta (decide := true) only [State.send_wipe, wipe_ite, wipe_ite_fst,
      ite_self, implies_true])

theorem State.latchShelf_wipe (s : State) (p : Nat) (k : Nat) (round : BitVec 28) (m : Nat) (h : 0x30020e7001000 |||
    m = m) :
    (s.latchShelf p k round).wipe m = s.wipe m := by
  refine wipe_mono h ?_
  unfold State.latchShelf
  try simp +zetaDelta (decide := true) only [State.record_wipe, State.setShelf_wipe, State.notifyRing_wipe,
      State.shelfDone_wipe, wipe_ite, wipe_ite_fst, ite_self, implies_true]
  all_goals repeat' (split <;> try simp +zetaDelta (decide := true) only [State.record_wipe, State.setShelf_wipe,
      State.notifyRing_wipe, State.shelfDone_wipe, wipe_ite, wipe_ite_fst, ite_self, implies_true])

theorem State.failShelf_wipe (s : State) (p : Nat) (k : Nat) (status : BitVec 3) (m : Nat) (h : 0x30020e7001000 |||
    m = m) :
    (s.failShelf p k status).wipe m = s.wipe m := by
  refine wipe_mono h ?_
  unfold State.failShelf
  try simp +zetaDelta (decide := true) only [State.shelfDone_wipe, State.setShelf_wipe, wipe_ite, wipe_ite_fst,
      ite_self, implies_true]
  all_goals repeat' (split <;> try simp +zetaDelta (decide := true) only [State.shelfDone_wipe,
      State.setShelf_wipe, wipe_ite, wipe_ite_fst, ite_self, implies_true])

theorem State.shelvesAt_wipe (s : State) (p : Nat) (rel : Nat) (round : BitVec 28) (m : Nat) (h : 0x30020e7001000
    ||| m = m) :
    (s.shelvesAt p rel round).wipe m = s.wipe m := by
  refine wipe_mono h ?_
  unfold State.shelvesAt
  try simp +zetaDelta (decide := true) only [State.each_wipe, State.latchShelf_wipe, wipe_ite, wipe_ite_fst,
      ite_self, implies_true]
  all_goals repeat' (split <;> try simp +zetaDelta (decide := true) only [State.each_wipe, State.latchShelf_wipe,
      wipe_ite, wipe_ite_fst, ite_self, implies_true])

end Sys2Proof.Machine
end

