-- ==== Sys2Proof/Laws/KeepsBarriers.lean ====
section
/-! SUPPORT. What each operation of Barriers.lean changes at most: blotting out the fields of its mask takes away every
difference that it makes. -/

set_option linter.all false

namespace Sys2Proof.Machine

theorem State.recordDeposit_wipe (s : State) (p : Nat) (k : Nat) (how : Nat) (i : Nat) (d : Deposit) (m : Nat) (h :
    0x2002007000000 ||| m = m) :
    (s.recordDeposit p k how i d).wipe m = s.wipe m := by
  refine wipe_mono h ?_
  unfold State.recordDeposit
  try simp +zetaDelta (decide := true) only [State.record_wipe, wipe_ite, wipe_ite_fst, ite_self, implies_true]
  all_goals repeat' (split <;> try simp +zetaDelta (decide := true) only [State.record_wipe, wipe_ite,
      wipe_ite_fst, ite_self, implies_true])

theorem State.dumpTicket_wipe (s : State) (p : Nat) (i : Nat) (k : Nat) (cause : Originator) (m : Nat) (h :
    0x30020e7f71000 ||| m = m) :
    (s.dumpTicket p i k cause).wipe m = s.wipe m := by
  refine wipe_mono h ?_
  unfold State.dumpTicket
  try simp +zetaDelta (decide := true) only [State.deliverTicket_wipe, State.count32_wipe,
      State.recordDeposit_wipe, State.modPart_wipe, wipe_ite, wipe_ite_fst, ite_self, implies_true]
  all_goals repeat' (split <;> try simp +zetaDelta (decide := true) only [State.deliverTicket_wipe,
      State.count32_wipe, State.recordDeposit_wipe, State.modPart_wipe, wipe_ite, wipe_ite_fst, ite_self,
      implies_true])

theorem State.runDeposits_wipe (s : State) (i : Nat) (cause : Originator) (m : Nat) (h : 0x30020e7f71000 ||| m = m)
    :
    (s.runDeposits i cause).wipe m = s.wipe m := by
  refine wipe_mono h ?_
  unfold State.runDeposits
  try simp +zetaDelta (decide := true) only [State.each_wipe, State.dumpTicket_wipe, wipe_ite, wipe_ite_fst,
      ite_self, implies_true]
  all_goals repeat' (split <;> try simp +zetaDelta (decide := true) only [State.each_wipe, State.dumpTicket_wipe,
      wipe_ite, wipe_ite_fst, ite_self, implies_true])

theorem State.dropHolds_wipe (s : State) (p : Nat) (i : Nat) (m : Nat) (h : 0x1000 ||| m = m) :
    (s.dropHolds p i).wipe m = s.wipe m := by
  refine wipe_mono h ?_
  unfold State.dropHolds
  try simp +zetaDelta (decide := true) only [State.each_wipe, State.modPart_wipe, wipe_ite, wipe_ite_fst,
      ite_self, implies_true]
  all_goals repeat' (split <;> try simp +zetaDelta (decide := true) only [State.each_wipe, State.modPart_wipe,
      wipe_ite, wipe_ite_fst, ite_self, implies_true])

theorem State.forward_wipe (s : State) (i : Nat) (broken : Bool) (m : Nat) (h : 0x30020e7000000 ||| m = m) :
    (s.forward i broken).1.wipe m = s.wipe m := by
  refine wipe_mono h ?_
  unfold State.forward
  try simp +zetaDelta (decide := true) only [State.send_wipe, wipe_ite, wipe_ite_fst, ite_self, implies_true]
  all_goals repeat' (split <;> try simp +zetaDelta (decide := true) only [State.send_wipe, wipe_ite, wipe_ite_fst,
      ite_self, implies_true])

theorem State.breakBarrier_wipe (s : State) (i : Nat) (m : Nat) (h : 0x30020e7474000 ||| m = m) :
    (s.breakBarrier i).wipe m = s.wipe m := by
  refine wipe_mono h ?_
  unfold State.breakBarrier
  try simp +zetaDelta (decide := true) only [State.endWaiters_wipe, State.setObj_wipe, State.forward_wipe,
      wipe_ite, wipe_ite_fst, ite_self, implies_true]
  all_goals repeat' (split <;> try simp +zetaDelta (decide := true) only [State.endWaiters_wipe,
      State.setObj_wipe, State.forward_wipe, wipe_ite, wipe_ite_fst, ite_self, implies_true])

theorem State.treeBreak_wipe (s : State) (i : Nat) (st : Nat) (m : Nat) (h : 0x30020e7474000 ||| m = m) :
    (s.treeBreak i st).wipe m = s.wipe m := by
  refine wipe_mono h ?_
  unfold State.treeBreak
  try simp +zetaDelta (decide := true) only [State.breakBarrier_wipe, State.record_wipe, wipe_ite, wipe_ite_fst,
      ite_self, implies_true]
  all_goals repeat' (split <;> try simp +zetaDelta (decide := true) only [State.breakBarrier_wipe,
      State.record_wipe, wipe_ite, wipe_ite_fst, ite_self, implies_true])

theorem State.forwardRound_wipe (s : State) (i : Nat) (m : Nat) (h : 0x30020e7474000 ||| m = m) :
    (s.forwardRound i).wipe m = s.wipe m := by
  refine wipe_mono h ?_
  unfold State.forwardRound
  have k := State.forward_wipe s i false 0x30020e7474000 (by decide)
  split
  · rename_i e; rw [e] at k; simp +zetaDelta (decide := true) only [k, State.forward_wipe, State.treeBreak_wipe,
      wipe_ite, wipe_ite_fst, ite_self, implies_true]
  · rename_i e; rw [e] at k; exact k

theorem State.grantRound_wipe (s : State) (r : BitVec 28) (v : BitVec 64) (x3 : List Waiter) (m : Nat) (h :
    0x30020e7450000 ||| m = m) :
    (s.grantRound r v x3).wipe m = s.wipe m := by
  refine wipe_mono h ?_
  fun_induction State.grantRound s r v x3
  all_goals try simp +zetaDelta (decide := true) only [*, State.grant_wipe, wipe_ite, wipe_ite_fst, ite_self,
      implies_true]
  all_goals repeat' (split <;> try simp +zetaDelta (decide := true) only [*, State.grant_wipe, wipe_ite,
      wipe_ite_fst, ite_self, implies_true])

theorem State.performParked_wipe (s : State) (i : Nat) (x2 : List Waiter) (m : Nat) (h : 0x54000 ||| m = m) :
    (s.performParked i x2).wipe m = s.wipe m := by
  refine wipe_mono h ?_
  fun_induction State.performParked s i x2
  all_goals try simp +zetaDelta (decide := true) only [*, wipe_waiters, State.setObj_wipe, State.freeWaiter_wipe,
      wipe_ite, wipe_ite_fst, ite_self, implies_true]
  all_goals repeat' (split <;> try simp +zetaDelta (decide := true) only [*, wipe_waiters, State.setObj_wipe,
      State.freeWaiter_wipe, wipe_ite, wipe_ite_fst, ite_self, implies_true])

theorem State.releaseFire_wipe (s : State) (i : Nat) (r : BitVec 28) (cause : Originator) (m : Nat) (h :
    0x30828fff75000 ||| m = m) :
    (s.releaseFire i r cause).wipe m = s.wipe m := by
  refine wipe_mono h ?_
  unfold State.releaseFire
  try simp +zetaDelta (decide := true) only [State.readTrig_wipe, State.markFaulted_wipe, State.fireBarrier_wipe,
      wipe_ite, wipe_ite_fst, ite_self, implies_true]
  all_goals repeat' (split <;> try simp +zetaDelta (decide := true) only [State.readTrig_wipe,
      State.markFaulted_wipe, State.fireBarrier_wipe, wipe_ite, wipe_ite_fst, ite_self, implies_true])

theorem State.recordRelease_wipe (s : State) (i : Nat) (r : BitVec 28) (m : Nat) (h : 0x2002007000000 ||| m = m) :
    (s.recordRelease i r).wipe m = s.wipe m := by
  refine wipe_mono h ?_
  unfold State.recordRelease
  try simp +zetaDelta (decide := true) only [State.record_wipe, wipe_ite, wipe_ite_fst, ite_self, implies_true]
  all_goals repeat' (split <;> try simp +zetaDelta (decide := true) only [State.record_wipe, wipe_ite,
      wipe_ite_fst, ite_self, implies_true])

theorem State.releaseSteps_wipe (s : State) (i : Nat) (cause : Originator) (m : Nat) (h : 0x30828fff75000 ||| m = m)
    :
    (s.releaseSteps i cause).wipe m = s.wipe m := by
  refine wipe_mono h ?_
  unfold State.releaseSteps
  try simp +zetaDelta (decide := true) only [State.shelvesAt_wipe, State.setObj_wipe, State.grantRound_wipe,
      State.recordRelease_wipe, State.performParked_wipe, State.releaseFire_wipe, wipe_ite, wipe_ite_fst,
      ite_self, implies_true]
  all_goals repeat' (split <;> try simp +zetaDelta (decide := true) only [State.shelvesAt_wipe, State.setObj_wipe,
      State.grantRound_wipe, State.recordRelease_wipe, State.performParked_wipe, State.releaseFire_wipe, wipe_ite,
      wipe_ite_fst, ite_self, implies_true])

theorem State.formResult_wipe (s : State) (i : Nat) (fromParent : Option (BitVec 64)) (m : Nat) (h : 0x4000 ||| m =
    m) :
    (s.formResult i fromParent).wipe m = s.wipe m := by
  refine wipe_mono h ?_
  unfold State.formResult
  try simp +zetaDelta (decide := true) only [State.setObj_wipe, wipe_ite, wipe_ite_fst, ite_self, implies_true]
  all_goals repeat' (split <;> try simp +zetaDelta (decide := true) only [State.setObj_wipe, wipe_ite,
      wipe_ite_fst, ite_self, implies_true])

theorem State.releaseOn_wipe (s : State) (i : Nat) (cause : Originator) (m : Nat) (h : 0x30828fff75000 ||| m = m) :
    (s.releaseOn i cause).wipe m = s.wipe m := by
  refine wipe_mono h ?_
  unfold State.releaseOn
  try simp +zetaDelta (decide := true) only [State.releaseSteps_wipe, State.forwardRound_wipe,
      State.runDeposits_wipe, State.formResult_wipe, wipe_ite, wipe_ite_fst, ite_self, implies_true]
  all_goals repeat' (split <;> try simp +zetaDelta (decide := true) only [State.releaseSteps_wipe,
      State.forwardRound_wipe, State.runDeposits_wipe, State.formResult_wipe, wipe_ite, wipe_ite_fst, ite_self,
      implies_true])

theorem State.release_wipe (s : State) (i : Nat) (fromParent : Option (BitVec 64)) (cause : Originator) (m : Nat) (h
    : 0x30828fff75000 ||| m = m) :
    (s.release i fromParent cause).wipe m = s.wipe m := by
  refine wipe_mono h ?_
  unfold State.release
  try simp +zetaDelta (decide := true) only [State.runDeposits_wipe, State.formResult_wipe, State.releaseOn_wipe,
      wipe_ite, wipe_ite_fst, ite_self, implies_true]
  all_goals repeat' (split <;> try simp +zetaDelta (decide := true) only [State.runDeposits_wipe,
      State.formResult_wipe, State.releaseOn_wipe, wipe_ite, wipe_ite_fst, ite_self, implies_true])

theorem State.complete_wipe (s : State) (i : Nat) (cause : Originator) (m : Nat) (h : 0x30828fff75000 ||| m = m) :
    (s.complete i cause).wipe m = s.wipe m := by
  refine wipe_mono h ?_
  unfold State.complete
  try simp +zetaDelta (decide := true) only [State.forwardRound_wipe, State.release_wipe, wipe_ite, wipe_ite_fst,
      ite_self, implies_true]
  all_goals repeat' (split <;> try simp +zetaDelta (decide := true) only [State.forwardRound_wipe,
      State.release_wipe, wipe_ite, wipe_ite_fst, ite_self, implies_true])

theorem State.endHold_wipe (s : State) (p : Nat) (k : Nat) (m : Nat) (h : 0x30828fff75000 ||| m = m) :
    (s.endHold p k).wipe m = s.wipe m := by
  refine wipe_mono h ?_
  unfold State.endHold
  try simp +zetaDelta (decide := true) only [State.modPart_wipe, State.releaseOn_wipe, wipe_ite, wipe_ite_fst,
      ite_self, implies_true]
  all_goals repeat' (split <;> try simp +zetaDelta (decide := true) only [State.modPart_wipe,
      State.releaseOn_wipe, wipe_ite, wipe_ite_fst, ite_self, implies_true])

theorem State.childGrant_wipe (s : State) (i : Nat) (st : Nat) (v : BitVec 64) (m : Nat) (h : 0x30828fff75000 ||| m
    = m) :
    (s.childGrant i st v).wipe m = s.wipe m := by
  refine wipe_mono h ?_
  unfold State.childGrant
  try simp +zetaDelta (decide := true) only [State.release_wipe, State.breakBarrier_wipe, State.treeBreak_wipe,
      wipe_ite, wipe_ite_fst, ite_self, implies_true]
  all_goals repeat' (split <;> try simp +zetaDelta (decide := true) only [State.release_wipe,
      State.breakBarrier_wipe, State.treeBreak_wipe, wipe_ite, wipe_ite_fst, ite_self, implies_true])

theorem State.breakPosted_wipe (s : State) (o : HomeOp) (m : Nat) (h : 0x30020e7474000 ||| m = m) :
    (s.breakPosted o).wipe m = s.wipe m := by
  refine wipe_mono h ?_
  unfold State.breakPosted
  try simp +zetaDelta (decide := true) only [State.breakBarrier_wipe, wipe_ite, wipe_ite_fst, ite_self,
      implies_true]
  all_goals repeat' (split <;> try simp +zetaDelta (decide := true) only [State.breakBarrier_wipe, wipe_ite,
      wipe_ite_fst, ite_self, implies_true])

theorem State.takeArrival_wipe (s : State) (o : HomeOp) (way : ArrivalWay) (wait : Bool) (m : Nat) (h :
    0x30828fff75000 ||| m = m) :
    (s.takeArrival o way wait).wipe m = s.wipe m := by
  refine wipe_mono h ?_
  have hq : ∀ t, (match s.arrivalWaiter o (s.obj o.index) way wait with
      | some w => s.addWaiter false o.partition w
      | none => some s) = some t → t.wipe 0x30828fff75000 = s.wipe 0x30828fff75000 := by
    intro t e
    split at e
    · exact State.addWaiter_wipe _ _ _ _ _ (by decide) _ e
    · cases e; rfl
  unfold State.takeArrival
  simp only []
  split
  · simp +zetaDelta (decide := true) only [State.breakPosted_wipe, State.finish_wipe, State.exhausted_wipe,
      State.write_wipe, State.recordOp_wipe, State.complete_wipe, wipe_ite, wipe_ite_fst, ite_self, implies_true]
  · rename_i s1 e
    have k := hq _ e
    cases wait <;> (repeat' split) <;> simp_all +zetaDelta (decide := true) only [k, State.breakPosted_wipe,
        State.finish_wipe, State.exhausted_wipe, State.write_wipe, State.recordOp_wipe, State.complete_wipe,
        wipe_ite, wipe_ite_fst, ite_self, implies_true]

theorem State.arrive_wipe (s : State) (o : HomeOp) (wait : Bool) (m : Nat) (h : 0x30828fff75000 ||| m = m) :
    (s.arrive o wait).wipe m = s.wipe m := by
  refine wipe_mono h ?_
  unfold State.arrive
  try simp +zetaDelta (decide := true) only [State.breakPosted_wipe, State.refuse_wipe, State.reach12_wipe,
      State.finish_wipe, State.takeArrival_wipe, wipe_ite, wipe_ite_fst, ite_self, implies_true]
  all_goals repeat' (split <;> try simp +zetaDelta (decide := true) only [State.breakPosted_wipe,
      State.refuse_wipe, State.reach12_wipe, State.finish_wipe, State.takeArrival_wipe, wipe_ite, wipe_ite_fst,
      ite_self, implies_true])

theorem State.waitRelease_wipe (s : State) (o : HomeOp) (m : Nat) (h : 0x30020e7410000 ||| m = m) :
    (s.waitRelease o).wipe m = s.wipe m := by
  refine wipe_mono h ?_
  unfold State.waitRelease
  try simp +zetaDelta (decide := true) only [State.refuse_wipe, State.reach12_wipe, State.queueOn?_wipe,
      State.finish_wipe, wipe_ite, wipe_ite_fst, ite_self, implies_true]
  all_goals repeat' (split <;> try simp +zetaDelta (decide := true) only [State.refuse_wipe, State.reach12_wipe,
      State.queueOn?_wipe, State.finish_wipe, wipe_ite, wipe_ite_fst, ite_self, implies_true])

theorem State.arriveForwarded_wipe (s : State) (o : HomeOp) (b : PartialArrival) (m : Nat) (h : 0x30828fff75000 |||
    m = m) :
    (s.arriveForwarded o b).wipe m = s.wipe m := by
  refine wipe_mono h ?_
  unfold State.arriveForwarded
  by_cases hb : (s.obj o.index).broken = true
  · simp +zetaDelta (decide := true) only [hb, if_true, State.refuse_wipe, State.reach12_wipe, State.finish_wipe,
      State.breakBarrier_wipe, State.exhausted_wipe, State.recordOp_wipe, State.write_wipe, State.complete_wipe,
      wipe_ite, wipe_ite_fst, ite_self, implies_true]
  · simp only [if_neg hb]
    cases hc : s.forwardedCheck b (s.obj o.index) with
    | some st => simp +zetaDelta (decide := true) only [State.refuse_wipe, State.reach12_wipe, State.finish_wipe,
        State.breakBarrier_wipe, State.exhausted_wipe, State.recordOp_wipe, State.write_wipe, State.complete_wipe,
        wipe_ite, wipe_ite_fst, ite_self, implies_true]
    | none =>
      by_cases hd : b.broken = true
      · simp +zetaDelta (decide := true) only [hd, if_true, State.refuse_wipe, State.reach12_wipe,
          State.finish_wipe, State.breakBarrier_wipe, State.exhausted_wipe, State.recordOp_wipe, State.write_wipe,
          State.complete_wipe, wipe_ite, wipe_ite_fst, ite_self, implies_true]
      · simp only [if_neg hd]
        split
        · simp +zetaDelta (decide := true) only [State.refuse_wipe, State.reach12_wipe, State.finish_wipe,
            State.breakBarrier_wipe, State.exhausted_wipe, State.recordOp_wipe, State.write_wipe,
            State.complete_wipe, wipe_ite, wipe_ite_fst, ite_self, implies_true]
        · rename_i e
          have k := State.addWaiter_wipe _ _ _ _ 0x30828fff75000 (by decide) _ e
          simp +zetaDelta (decide := true) only [k, State.refuse_wipe, State.reach12_wipe, State.finish_wipe,
              State.breakBarrier_wipe, State.exhausted_wipe, State.recordOp_wipe, State.write_wipe,
              State.complete_wipe, wipe_ite, wipe_ite_fst, ite_self, implies_true]

end Sys2Proof.Machine
end

