-- ==== Sys2Proof/Laws/KeepsLockOps.lean ====
section
/-! SUPPORT. What each operation of LockOps.lean changes at most: blotting out the fields of its mask takes away every
difference that it makes. -/

set_option linter.all false

namespace Sys2Proof.Machine

theorem State.inheritNotice_wipe (s : State) (i : Nat) (waiter : Originator) (boosted : BitVec 4) (cause : Nat) (m :
    Nat) (h : 0x2000007000000 ||| m = m) :
    (s.inheritNotice i waiter boosted cause).wipe m = s.wipe m := by
  refine wipe_mono h ?_
  unfold State.inheritNotice
  try simp +zetaDelta (decide := true) only [State.notifyRing_wipe, wipe_ite, wipe_ite_fst, ite_self,
      implies_true]
  all_goals repeat' (split <;> try simp +zetaDelta (decide := true) only [State.notifyRing_wipe, wipe_ite,
      wipe_ite_fst, ite_self, implies_true])

theorem State.endInherit_wipe (s : State) (i : Nat) (cause : Nat) (m : Nat) (h : 0x2000007004000 ||| m = m) :
    (s.endInherit i cause).wipe m = s.wipe m := by
  refine wipe_mono h ?_
  unfold State.endInherit
  try simp +zetaDelta (decide := true) only [State.inheritNotice_wipe, State.setObj_wipe, wipe_ite, wipe_ite_fst,
      ite_self, implies_true]
  all_goals repeat' (split <;> try simp +zetaDelta (decide := true) only [State.inheritNotice_wipe,
      State.setObj_wipe, wipe_ite, wipe_ite_fst, ite_self, implies_true])

theorem State.freeLock_wipe (s : State) (i : Nat) (how : Nat) (endCause : Nat) (abandon : Bool) (m : Nat) (h :
    0x30020e74f4000 ||| m = m) :
    (s.freeLock i how endCause abandon).wipe m = s.wipe m := by
  refine wipe_mono h ?_
  unfold State.freeLock
  try simp +zetaDelta (decide := true) only [State.endInherit_wipe, State.recordLock_wipe, State.serve_wipe,
      State.setObj_wipe, wipe_ite, wipe_ite_fst, ite_self, implies_true]
  all_goals repeat' (split <;> try simp +zetaDelta (decide := true) only [State.endInherit_wipe,
      State.recordLock_wipe, State.serve_wipe, State.setObj_wipe, wipe_ite, wipe_ite_fst, ite_self, implies_true])

theorem State.lockNow_wipe (s : State) (o : HomeOp) (result : Nat) (m : Nat) (h : 0x30020e7404000 ||| m = m) :
    (s.lockNow o result).wipe m = s.wipe m := by
  refine wipe_mono h ?_
  unfold State.lockNow
  try simp +zetaDelta (decide := true) only [State.recordLock_wipe, State.write_wipe, State.finish_wipe,
      State.countGrant_wipe, wipe_ite, wipe_ite_fst, ite_self, implies_true]
  all_goals repeat' (split <;> try simp +zetaDelta (decide := true) only [State.recordLock_wipe, State.write_wipe,
      State.finish_wipe, State.countGrant_wipe, wipe_ite, wipe_ite_fst, ite_self, implies_true])

theorem State.boost_wipe (s : State) (o : HomeOp) (m : Nat) (h : 0x2000007004000 ||| m = m) :
    (s.boost o).wipe m = s.wipe m := by
  refine wipe_mono h ?_
  unfold State.boost
  try simp +zetaDelta (decide := true) only [State.inheritNotice_wipe, State.setObj_wipe, wipe_ite, wipe_ite_fst,
      ite_self, implies_true]
  all_goals repeat' (split <;> try simp +zetaDelta (decide := true) only [State.inheritNotice_wipe,
      State.setObj_wipe, wipe_ite, wipe_ite_fst, ite_self, implies_true])

theorem State.lockQueue_wipe (s : State) (o : HomeOp) (m : Nat) (h : 0x30020e7414000 ||| m = m) :
    (s.lockQueue o).wipe m = s.wipe m := by
  refine wipe_mono h ?_
  unfold State.lockQueue
  try simp +zetaDelta (decide := true) only [State.boost_wipe, State.recordOp_wipe, State.finish_wipe,
      State.exhausted_wipe, wipe_ite, wipe_ite_fst, ite_self, implies_true]
  all_goals repeat' (split <;> try simp +zetaDelta (decide := true) only [State.boost_wipe, State.recordOp_wipe,
      State.finish_wipe, State.exhausted_wipe, wipe_ite, wipe_ite_fst, ite_self, implies_true])
  all_goals
    rename_i e
    have k := State.addWaiter_wipe _ _ _ _ (m := 0x30020e7414000) (h := by decide) _ e
    simp +zetaDelta (decide := true) only [k, State.boost_wipe, State.recordOp_wipe, State.finish_wipe,
        State.exhausted_wipe, wipe_ite, wipe_ite_fst, ite_self, implies_true]

theorem State.acquire_wipe (s : State) (o : HomeOp) (m : Nat) (h : 0x30020e7414000 ||| m = m) :
    (s.acquire o).wipe m = s.wipe m := by
  refine wipe_mono h ?_
  unfold State.acquire
  try simp +zetaDelta (decide := true) only [State.refuse_wipe, State.reach12_wipe, State.lockQueue_wipe,
      State.lockNow_wipe, wipe_ite, wipe_ite_fst, ite_self, implies_true]
  all_goals repeat' (split <;> try simp +zetaDelta (decide := true) only [State.refuse_wipe, State.reach12_wipe,
      State.lockQueue_wipe, State.lockNow_wipe, wipe_ite, wipe_ite_fst, ite_self, implies_true])

theorem State.tryAcquire_wipe (s : State) (o : HomeOp) (m : Nat) (h : 0x30020e7404000 ||| m = m) :
    (s.tryAcquire o).wipe m = s.wipe m := by
  refine wipe_mono h ?_
  unfold State.tryAcquire
  try simp +zetaDelta (decide := true) only [State.refuse_wipe, State.reach12_wipe, State.finish_wipe,
      State.lockNow_wipe, wipe_ite, wipe_ite_fst, ite_self, implies_true]
  all_goals repeat' (split <;> try simp +zetaDelta (decide := true) only [State.refuse_wipe, State.reach12_wipe,
      State.finish_wipe, State.lockNow_wipe, wipe_ite, wipe_ite_fst, ite_self, implies_true])

theorem State.releaseLock_wipe (s : State) (o : HomeOp) (m : Nat) (h : 0x30020e74f4000 ||| m = m) :
    (s.releaseLock o).wipe m = s.wipe m := by
  refine wipe_mono h ?_
  unfold State.releaseLock
  try simp +zetaDelta (decide := true) only [State.refuse_wipe, State.reach12_wipe, State.finish_wipe,
      State.freeLock_wipe, State.write_wipe, wipe_ite, wipe_ite_fst, ite_self, implies_true]
  all_goals repeat' (split <;> try simp +zetaDelta (decide := true) only [State.refuse_wipe, State.reach12_wipe,
      State.finish_wipe, State.freeLock_wipe, State.write_wipe, wipe_ite, wipe_ite_fst, ite_self, implies_true])

theorem State.forceRelease_wipe (s : State) (o : HomeOp) (m : Nat) (h : 0x30020e74f4000 ||| m = m) :
    (s.forceRelease o).wipe m = s.wipe m := by
  refine wipe_mono h ?_
  unfold State.forceRelease
  try simp +zetaDelta (decide := true) only [State.refuse_wipe, State.reach12_wipe, State.finish_wipe,
      State.freeLock_wipe, State.write_wipe, wipe_ite, wipe_ite_fst, ite_self, implies_true]
  all_goals repeat' (split <;> try simp +zetaDelta (decide := true) only [State.refuse_wipe, State.reach12_wipe,
      State.finish_wipe, State.freeLock_wipe, State.write_wipe, wipe_ite, wipe_ite_fst, ite_self, implies_true])

theorem State.holderReset_wipe (s : State) (i : Nat) (who : Originator) (delivered : Bool) (m : Nat) (h :
    0x30020e74f4000 ||| m = m) :
    (s.holderReset i who delivered).wipe m = s.wipe m := by
  refine wipe_mono h ?_
  unfold State.holderReset
  try simp +zetaDelta (decide := true) only [State.freeLock_wipe, State.freeWaiter_wipe, wipe_ite, wipe_ite_fst,
      ite_self, implies_true]
  all_goals repeat' (split <;> try simp +zetaDelta (decide := true) only [State.freeLock_wipe,
      State.freeWaiter_wipe, wipe_ite, wipe_ite_fst, ite_self, implies_true])

theorem State.reorder_wipe (s : State) (i : Nat) (m : Nat) (h : 0x10000 ||| m = m) :
    (s.reorder i).wipe m = s.wipe m := by
  refine wipe_mono h ?_
  unfold State.reorder
  try simp +zetaDelta (decide := true) only [wipe_waiters, wipe_ite, wipe_ite_fst, ite_self, implies_true]
  all_goals repeat' (split <;> try simp +zetaDelta (decide := true) only [wipe_waiters, wipe_ite, wipe_ite_fst,
      ite_self, implies_true])

end Sys2Proof.Machine
end

