-- ==== Sys2Proof/Laws/KeepsHome.lean ====
section
/-! SUPPORT. What each operation of Home.lean changes at most: blotting out the fields of its mask takes away every
difference that it makes. -/

set_option linter.all false

namespace Sys2Proof.Machine

theorem State.dropChecks_wipe (s : State) (i : Nat) (m : Nat) (h : 0x100000 ||| m = m) :
    (s.dropChecks i).wipe m = s.wipe m := by
  refine wipe_mono h ?_
  unfold State.dropChecks
  try simp +zetaDelta (decide := true) only [State.each_wipe, State.modPort_wipe, wipe_ite, wipe_ite_fst,
      ite_self, implies_true]
  all_goals repeat' (split <;> try simp +zetaDelta (decide := true) only [State.each_wipe, State.modPort_wipe,
      wipe_ite, wipe_ite_fst, ite_self, implies_true])

theorem State.initObj_wipe (s : State) (o : HomeOp) (m : Nat) (h : 0x30020e750d000 ||| m = m) :
    (s.initObj o).wipe m = s.wipe m := by
  refine wipe_mono h ?_
  unfold State.initObj
  try simp +zetaDelta (decide := true) only [State.refuse_wipe, State.reach12_wipe, State.finish_wipe,
      State.setObj_wipe, State.dropChecks_wipe, State.dropHolds_wipe, State.setWideBit_wipe, wipe_ite,
      wipe_ite_fst, ite_self, implies_true]
  all_goals repeat' (split <;> try simp +zetaDelta (decide := true) only [State.refuse_wipe, State.reach12_wipe,
      State.finish_wipe, State.setObj_wipe, State.dropChecks_wipe, State.dropHolds_wipe, State.setWideBit_wipe,
      wipe_ite, wipe_ite_fst, ite_self, implies_true])

theorem State.effect_wipe (s : State) (o : HomeOp) (c : Opcode) (m : Nat) (h : 0x30828ffffd000 ||| m = m) :
    (s.effect o c).wipe m = s.wipe m := by
  refine wipe_mono h ?_
  unfold State.effect
  try simp +zetaDelta (decide := true) only [State.signalEvent_wipe, State.signalAmount_wipe,
      State.clearEvent_wipe, State.waitEvent_wipe, State.waitAmount_wipe, State.takeAmount_wipe,
      State.tryTakeAmount_wipe, State.arrive_wipe, State.waitRelease_wipe, State.acquire_wipe,
      State.tryAcquire_wipe, State.releaseLock_wipe, State.forceRelease_wipe, State.readObj_wipe,
      State.initObj_wipe, State.addAmount_wipe, State.swapAmount_wipe, State.casAmount_wipe, State.armObj_wipe,
      State.disarmObj_wipe, State.refuse_wipe, wipe_ite, wipe_ite_fst, ite_self, implies_true]
  all_goals repeat' (split <;> try simp +zetaDelta (decide := true) only [State.signalEvent_wipe,
      State.signalAmount_wipe, State.clearEvent_wipe, State.waitEvent_wipe, State.waitAmount_wipe,
      State.takeAmount_wipe, State.tryTakeAmount_wipe, State.arrive_wipe, State.waitRelease_wipe,
      State.acquire_wipe, State.tryAcquire_wipe, State.releaseLock_wipe, State.forceRelease_wipe,
      State.readObj_wipe, State.initObj_wipe, State.addAmount_wipe, State.swapAmount_wipe, State.casAmount_wipe,
      State.armObj_wipe, State.disarmObj_wipe, State.refuse_wipe, wipe_ite, wipe_ite_fst, ite_self, implies_true])

theorem State.performOp_wipe (s : State) (o : HomeOp) (c : Opcode) (m : Nat) (h : 0x30828ffffd000 ||| m = m) :
    (s.performOp o c).wipe m = s.wipe m := by
  refine wipe_mono h ?_
  unfold State.performOp
  try simp +zetaDelta (decide := true) only [State.refuse_wipe, State.effect_wipe, wipe_ite, wipe_ite_fst,
      ite_self, implies_true]
  all_goals repeat' (split <;> try simp +zetaDelta (decide := true) only [State.refuse_wipe, State.effect_wipe,
      wipe_ite, wipe_ite_fst, ite_self, implies_true])

theorem State.performHome_wipe (s0 : State) (o : HomeOp) (m : Nat) (h : 0x30828ffffd000 ||| m = m) :
    (s0.performHome o).wipe m = s0.wipe m := by
  refine wipe_mono h ?_
  unfold State.performHome
  try simp +zetaDelta (decide := true) only [State.refuse_wipe, State.accessObj_wipe, State.countSelvedge_wipe,
      State.initObj_wipe, State.performOp_wipe, wipe_ite, wipe_ite_fst, ite_self, implies_true]
  all_goals repeat' (split <;> try simp +zetaDelta (decide := true) only [State.refuse_wipe, State.accessObj_wipe,
      State.countSelvedge_wipe, State.initObj_wipe, State.performOp_wipe, wipe_ite, wipe_ite_fst, ite_self,
      implies_true])

theorem State.performForwarded_wipe (s0 : State) (o : HomeOp) (b : PartialArrival) (m : Nat) (h : 0x30828fff75000
    ||| m = m) :
    (s0.performForwarded o b).wipe m = s0.wipe m := by
  refine wipe_mono h ?_
  unfold State.performForwarded
  try simp +zetaDelta (decide := true) only [State.refuse_wipe, State.accessObj_wipe, State.countSelvedge_wipe,
      State.arriveForwarded_wipe, wipe_ite, wipe_ite_fst, ite_self, implies_true]
  all_goals repeat' (split <;> try simp +zetaDelta (decide := true) only [State.refuse_wipe, State.accessObj_wipe,
      State.countSelvedge_wipe, State.arriveForwarded_wipe, wipe_ite, wipe_ite_fst, ite_self, implies_true])

theorem State.templateRefused_wipe (s : State) (p : Nat) (m : Nat) (h : 0x4000000 ||| m = m) :
    (s.templateRefused p).wipe m = s.wipe m := by
  refine wipe_mono h ?_
  unfold State.templateRefused
  try simp +zetaDelta (decide := true) only [State.pcount_wipe, wipe_ite, wipe_ite_fst, ite_self, implies_true]
  all_goals repeat' (split <;> try simp +zetaDelta (decide := true) only [State.pcount_wipe, wipe_ite,
      wipe_ite_fst, ite_self, implies_true])

theorem State.performTemplate_wipe (s0 : State) (o : HomeOp) (m : Nat) (h : 0x30828fff75000 ||| m = m) :
    (s0.performTemplate o).1.wipe m = s0.wipe m := by
  refine wipe_mono h ?_
  unfold State.performTemplate
  try simp +zetaDelta (decide := true) only [State.templateRefused_wipe, State.accessObj_wipe, State.write_wipe,
      State.countSelvedge_wipe, wipe_ite, wipe_ite_fst, ite_self, implies_true]
  all_goals repeat' (split <;> try simp +zetaDelta (decide := true) only [State.templateRefused_wipe,
      State.accessObj_wipe, State.write_wipe, State.countSelvedge_wipe, wipe_ite, wipe_ite_fst, ite_self,
      implies_true])

end Sys2Proof.Machine
end

