-- ==== Sys2Proof/Laws/KeepsNear.lean ====
section
/-! SUPPORT. What each operation of Near.lean changes at most: blotting out the fields of its mask takes away every
difference that it makes. -/

set_option linter.all false

namespace Sys2Proof.Machine

theorem State.nearAnswer_wipe (s : State) (p : Nat) (w : NearWait) (st : Status) (result : Nat) (v : BitVec 64) (m :
    Nat) (h : 0x2002007100000 ||| m = m) :
    (s.nearAnswer p w st result v).wipe m = s.wipe m := by
  refine wipe_mono h ?_
  unfold State.nearAnswer
  try simp +zetaDelta (decide := true) only [State.countRefused_wipe, State.offer_wipe, wipe_ite, wipe_ite_fst,
      ite_self, implies_true]
  all_goals repeat' (split <;> try simp +zetaDelta (decide := true) only [State.countRefused_wipe,
      State.offer_wipe, wipe_ite, wipe_ite_fst, ite_self, implies_true])

theorem State.shimReach_wipe (s : State) (o : HomeOp) (m : Nat) (h : 0x4000000 ||| m = m) :
    (s.shimReach o).wipe m = s.wipe m := by
  refine wipe_mono h ?_
  unfold State.shimReach
  try simp +zetaDelta (decide := true) only [State.count_wipe, State.pcount_wipe, State.actOp_wipe, wipe_ite,
      wipe_ite_fst, ite_self, implies_true]
  all_goals repeat' (split <;> try simp +zetaDelta (decide := true) only [State.count_wipe, State.pcount_wipe,
      State.actOp_wipe, wipe_ite, wipe_ite_fst, ite_self, implies_true])

theorem State.nearRefuse_wipe (s : State) (p : Nat) (w : NearWait) (st : Status) (m : Nat) (h : 0x2002007100000 |||
    m = m) :
    (s.nearRefuse p w st).wipe m = s.wipe m := by
  refine wipe_mono h ?_
  unfold State.nearRefuse
  try simp +zetaDelta (decide := true) only [State.nearAnswer_wipe, State.actOp_wipe, wipe_ite, wipe_ite_fst,
      ite_self, implies_true]
  all_goals repeat' (split <;> try simp +zetaDelta (decide := true) only [State.nearAnswer_wipe, State.actOp_wipe,
      wipe_ite, wipe_ite_fst, ite_self, implies_true])

theorem State.nearFinish_wipe (s : State) (p : Nat) (w : NearWait) (st : Status) (result : Nat) (v : BitVec 64) (m :
    Nat) (h : 0x2002007100000 ||| m = m) :
    (s.nearFinish p w st result v).wipe m = s.wipe m := by
  refine wipe_mono h ?_
  unfold State.nearFinish
  try simp +zetaDelta (decide := true) only [State.shimReach_wipe, State.nearAnswer_wipe, State.recordOp_wipe,
      wipe_ite, wipe_ite_fst, ite_self, implies_true]
  all_goals repeat' (split <;> try simp +zetaDelta (decide := true) only [State.shimReach_wipe,
      State.nearAnswer_wipe, State.recordOp_wipe, wipe_ite, wipe_ite_fst, ite_self, implies_true])

theorem State.nearGrant_wipe (s : State) (p : Nat) (w : NearWait) (result : Nat) (m : Nat) (h : 0x2002007100000 |||
    m = m) :
    (s.nearGrant p w result).wipe m = s.wipe m := by
  refine wipe_mono h ?_
  unfold State.nearGrant
  try simp +zetaDelta (decide := true) only [State.modPort_wipe, State.offer_wipe, State.recordGrant_wipe,
      wipe_ite, wipe_ite_fst, ite_self, implies_true]
  all_goals repeat' (split <;> try simp +zetaDelta (decide := true) only [State.modPort_wipe, State.offer_wipe,
      State.recordGrant_wipe, wipe_ite, wipe_ite_fst, ite_self, implies_true])

theorem State.setNear_wipe (s : State) (p : Nat) (n : Nat) (o : NearObj) (m : Nat) (h : 0x100000 ||| m = m) :
    (s.setNear p n o).wipe m = s.wipe m := by
  refine wipe_mono h ?_
  unfold State.setNear
  try simp +zetaDelta (decide := true) only [State.modPort_wipe, wipe_ite, wipe_ite_fst, ite_self, implies_true]
  all_goals repeat' (split <;> try simp +zetaDelta (decide := true) only [State.modPort_wipe, wipe_ite,
      wipe_ite_fst, ite_self, implies_true])

theorem State.nearServe_wipe (s : State) (p : Nat) (n : Nat) (held : Bool) (k : Nat) (x5 : List NearWait) (m : Nat)
    (h : 0x2002007100000 ||| m = m) :
    (s.nearServe p n held k x5).1.wipe m = s.wipe m := by
  refine wipe_mono h ?_
  fun_induction State.nearServe s p n held k x5
  all_goals try simp +zetaDelta (decide := true) only [*, State.fresh_wipe, State.nearGrant_wipe,
      State.setNear_wipe, wipe_ite, wipe_ite_fst, ite_self, implies_true]
  all_goals repeat' (split <;> try simp +zetaDelta (decide := true) only [*, State.fresh_wipe,
      State.nearGrant_wipe, State.setNear_wipe, wipe_ite, wipe_ite_fst, ite_self, implies_true])
  all_goals simp_all +zetaDelta (decide := true) only [State.fresh_wipe, State.nearGrant_wipe, State.setNear_wipe,
      wipe_ite, wipe_ite_fst, ite_self, implies_true]

theorem State.nearQueue_wipe (s : State) (p : Nat) (w : NearWait) (m : Nat) (h : 0x2002007100000 ||| m = m) :
    (s.nearQueue p w).wipe m = s.wipe m := by
  refine wipe_mono h ?_
  unfold State.nearQueue
  try simp +zetaDelta (decide := true) only [State.modPort_wipe, State.recordOp_wipe, State.shimReach_wipe,
      wipe_ite, wipe_ite_fst, ite_self, implies_true]
  all_goals repeat' (split <;> try simp +zetaDelta (decide := true) only [State.modPort_wipe, State.recordOp_wipe,
      State.shimReach_wipe, wipe_ite, wipe_ite_fst, ite_self, implies_true])

theorem State.nearSignal_wipe (s : State) (p : Nat) (w : NearWait) (o : NearObj) (m : Nat) (h : 0x2002007100000 |||
    m = m) :
    (s.nearSignal p w o).wipe m = s.wipe m := by
  refine wipe_mono h ?_
  unfold State.nearSignal
  try simp +zetaDelta (decide := true) only [State.nearServe_wipe, State.setNear_wipe, State.nearFinish_wipe,
      wipe_ite, wipe_ite_fst, ite_self, implies_true]
  all_goals repeat' (split <;> try simp +zetaDelta (decide := true) only [State.nearServe_wipe,
      State.setNear_wipe, State.nearFinish_wipe, wipe_ite, wipe_ite_fst, ite_self, implies_true])

theorem State.nearRelease_wipe (s : State) (p : Nat) (sense : Bool) (x3 : List NearWait) (m : Nat) (h :
    0x2002007100000 ||| m = m) :
    (s.nearRelease p sense x3).wipe m = s.wipe m := by
  refine wipe_mono h ?_
  fun_induction State.nearRelease s p sense x3
  all_goals try simp +zetaDelta (decide := true) only [*, State.nearGrant_wipe, wipe_ite, wipe_ite_fst, ite_self,
      implies_true]
  all_goals repeat' (split <;> try simp +zetaDelta (decide := true) only [*, State.nearGrant_wipe, wipe_ite,
      wipe_ite_fst, ite_self, implies_true])

theorem State.nearRound_wipe (s : State) (p : Nat) (n : Nat) (m : Nat) (h : 0x2002007100000 ||| m = m) :
    (s.nearRound p n).wipe m = s.wipe m := by
  refine wipe_mono h ?_
  unfold State.nearRound
  try simp +zetaDelta (decide := true) only [State.nearRelease_wipe, State.setNear_wipe, wipe_ite, wipe_ite_fst,
      ite_self, implies_true]
  all_goals repeat' (split <;> try simp +zetaDelta (decide := true) only [State.nearRelease_wipe,
      State.setNear_wipe, wipe_ite, wipe_ite_fst, ite_self, implies_true])

theorem State.nearComplete_wipe (s : State) (p : Nat) (n : Nat) (m : Nat) (h : 0x2002007100000 ||| m = m) :
    (s.nearComplete p n).wipe m = s.wipe m := by
  refine wipe_mono h ?_
  unfold State.nearComplete
  try simp +zetaDelta (decide := true) only [State.nearRound_wipe, wipe_ite, wipe_ite_fst, ite_self, implies_true]
  all_goals repeat' (split <;> try simp +zetaDelta (decide := true) only [State.nearRound_wipe, wipe_ite,
      wipe_ite_fst, ite_self, implies_true])

theorem State.nearBreak_wipe (s : State) (p : Nat) (w : NearWait) (m : Nat) (h : 0x2002007100000 ||| m = m) :
    (s.nearBreak p w).wipe m = s.wipe m := by
  refine wipe_mono h ?_
  unfold State.nearBreak
  try simp +zetaDelta (decide := true) only [State.setNear_wipe, State.endNears_wipe, wipe_ite, wipe_ite_fst,
      ite_self, implies_true]
  all_goals repeat' (split <;> try simp +zetaDelta (decide := true) only [State.setNear_wipe, State.endNears_wipe,
      wipe_ite, wipe_ite_fst, ite_self, implies_true])

theorem State.nearArrive_wipe (s : State) (p : Nat) (w : NearWait) (wait : Bool) (m : Nat) (h : 0x2002007100000 |||
    m = m) :
    (s.nearArrive p w wait).wipe m = s.wipe m := by
  refine wipe_mono h ?_
  unfold State.nearArrive
  try simp +zetaDelta (decide := true) only [State.nearBreak_wipe, State.nearRefuse_wipe, State.nearFinish_wipe,
      State.setNear_wipe, State.nearQueue_wipe, State.nearComplete_wipe, wipe_ite, wipe_ite_fst, ite_self,
      implies_true]
  all_goals repeat' (split <;> try simp +zetaDelta (decide := true) only [State.nearBreak_wipe,
      State.nearRefuse_wipe, State.nearFinish_wipe, State.setNear_wipe, State.nearQueue_wipe,
      State.nearComplete_wipe, wipe_ite, wipe_ite_fst, ite_self, implies_true])

theorem State.nearParity_wipe (s : State) (p : Nat) (n : Nat) (m : Nat) (h : 0x30020e7771000 ||| m = m) :
    (s.nearParity p n).wipe m = s.wipe m := by
  refine wipe_mono h ?_
  unfold State.nearParity
  try simp +zetaDelta (decide := true) only [State.setPort_wipe, State.endNears_wipe, State.errLocation_wipe,
      State.bump_wipe, State.failOne_wipe, wipe_ite, wipe_ite_fst, ite_self, implies_true]
  all_goals repeat' (split <;> try simp +zetaDelta (decide := true) only [State.setPort_wipe, State.endNears_wipe,
      State.errLocation_wipe, State.bump_wipe, State.failOne_wipe, wipe_ite, wipe_ite_fst, ite_self,
      implies_true])

theorem State.nearCheck_wipe (s : State) (p : Nat) (n : Nat) (m : Nat) (h : 0x30020e7771000 ||| m = m) :
    (s.nearCheck p n).wipe m = s.wipe m := by
  refine wipe_mono h ?_
  unfold State.nearCheck
  try simp +zetaDelta (decide := true) only [State.nearParity_wipe, State.fresh_wipe, State.setPort_wipe,
      wipe_ite, wipe_ite_fst, ite_self, implies_true]
  all_goals repeat' (split <;> try simp +zetaDelta (decide := true) only [State.nearParity_wipe, State.fresh_wipe,
      State.setPort_wipe, wipe_ite, wipe_ite_fst, ite_self, implies_true])

theorem State.nearEffect_wipe (s : State) (p : Nat) (w : NearWait) (c : Opcode) (m : Nat) (h : 0x2002007100000 ||| m
    = m) :
    (s.nearEffect p w c).wipe m = s.wipe m := by
  refine wipe_mono h ?_
  unfold State.nearEffect
  try simp +zetaDelta (decide := true) only [State.nearSignal_wipe, State.nearRefuse_wipe, State.nearFinish_wipe,
      State.setNear_wipe, State.fresh_wipe, State.nearQueue_wipe, State.nearArrive_wipe, wipe_ite, wipe_ite_fst,
      ite_self, implies_true]
  all_goals repeat' (split <;> try simp +zetaDelta (decide := true) only [State.nearSignal_wipe,
      State.nearRefuse_wipe, State.nearFinish_wipe, State.setNear_wipe, State.fresh_wipe, State.nearQueue_wipe,
      State.nearArrive_wipe, wipe_ite, wipe_ite_fst, ite_self, implies_true])

theorem State.performNear_wipe (s0 : State) (p : Nat) (w : NearWait) (c : Opcode) (m : Nat) (h : 0x30020e7771000 |||
    m = m) :
    (s0.performNear p w c).wipe m = s0.wipe m := by
  refine wipe_mono h ?_
  unfold State.performNear
  try simp +zetaDelta (decide := true) only [State.nearRefuse_wipe, State.nearCheck_wipe, State.nearEffect_wipe,
      wipe_ite, wipe_ite_fst, ite_self, implies_true]
  all_goals repeat' (split <;> try simp +zetaDelta (decide := true) only [State.nearRefuse_wipe,
      State.nearCheck_wipe, State.nearEffect_wipe, wipe_ite, wipe_ite_fst, ite_self, implies_true])

end Sys2Proof.Machine
end

