-- ==== Sys2Proof/Laws/KeepsAnswer.lean ====
section
/-! SUPPORT. What each operation of Answer.lean changes at most: blotting out the fields of its mask takes away every
difference that it makes. -/

set_option linter.all false

namespace Sys2Proof.Machine

theorem State.catAnswer_wipe (s : State) (a : CatAnswer) (m : Nat) (h : 0x3020004000000 ||| m = m) :
    (s.catAnswer a).wipe m = s.wipe m := by
  refine wipe_mono h ?_
  unfold State.catAnswer
  try simp +zetaDelta (decide := true) only [wipe_apb, State.bump_wipe, State.drive_wipe, State.setCfg_wipe,
      wipe_ite, wipe_ite_fst, ite_self, implies_true]
  all_goals repeat' (split <;> try simp +zetaDelta (decide := true) only [wipe_apb, State.bump_wipe,
      State.drive_wipe, State.setCfg_wipe, wipe_ite, wipe_ite_fst, ite_self, implies_true])

theorem State.catFinish_wipe (s : State) (h : CatHdr) (st : CatStatus) (m : Nat) (hm : 0x3028004000000 ||| m = m) :
    (s.catFinish h st).wipe m = s.wipe m := by
  refine wipe_mono hm ?_
  unfold State.catFinish
  try simp +zetaDelta (decide := true) only [wipe_catOpen, State.catAnswer_wipe, wipe_ite, wipe_ite_fst, ite_self,
      implies_true]
  all_goals repeat' (split <;> try simp +zetaDelta (decide := true) only [wipe_catOpen, State.catAnswer_wipe,
      wipe_ite, wipe_ite_fst, ite_self, implies_true])

theorem State.catFinishAll_wipe (s : State) (st : CatStatus) (x2 : List CatHdr) (m : Nat) (h : 0x3028004000000 ||| m
    = m) :
    (s.catFinishAll st x2).wipe m = s.wipe m := by
  refine wipe_mono h ?_
  fun_induction State.catFinishAll s st x2
  all_goals try simp +zetaDelta (decide := true) only [*, State.catFinish_wipe, wipe_ite, wipe_ite_fst, ite_self,
      implies_true]
  all_goals repeat' (split <;> try simp +zetaDelta (decide := true) only [*, State.catFinish_wipe, wipe_ite,
      wipe_ite_fst, ite_self, implies_true])

end Sys2Proof.Machine
end

