-- ==== Sys2Proof/Laws/KeepsShim.lean ====
section
/-! SUPPORT. What each operation of Shim.lean changes at most: blotting out the fields of its mask takes away every
difference that it makes. -/

set_option linter.all false

namespace Sys2Proof.Machine

theorem State.noteSent_wipe (s : State) (o : HomeOp) (m : Nat) (h : 0x300000 ||| m = m) :
    (s.noteSent o).wipe m = s.wipe m := by
  refine wipe_mono h ?_
  unfold State.noteSent
  try simp +zetaDelta (decide := true) only [State.modPort_wipe, State.modSlot_wipe, wipe_ite, wipe_ite_fst,
      ite_self, implies_true]
  all_goals repeat' (split <;> try simp +zetaDelta (decide := true) only [State.modPort_wipe, State.modSlot_wipe,
      wipe_ite, wipe_ite_fst, ite_self, implies_true])

theorem State.noteHere_wipe (s : State) (o : HomeOp) (m : Nat) (h : 0x300000 ||| m = m) :
    (s.noteHere o).wipe m = s.wipe m := by
  refine wipe_mono h ?_
  unfold State.noteHere
  try simp +zetaDelta (decide := true) only [State.modPort_wipe, State.modSlot_wipe, wipe_ite, wipe_ite_fst,
      ite_self, implies_true]
  all_goals repeat' (split <;> try simp +zetaDelta (decide := true) only [State.modPort_wipe, State.modSlot_wipe,
      wipe_ite, wipe_ite_fst, ite_self, implies_true])

theorem State.toHome_wipe (s : State) (o : HomeOp) (m : Nat) (h : 0x30828ffffd000 ||| m = m) :
    (s.toHome o).wipe m = s.wipe m := by
  refine wipe_mono h ?_
  unfold State.toHome
  try simp +zetaDelta (decide := true) only [State.performHome_wipe, State.noteHere_wipe, State.send_wipe,
      State.noteSent_wipe, wipe_ite, wipe_ite_fst, ite_self, implies_true]
  all_goals repeat' (split <;> try simp +zetaDelta (decide := true) only [State.performHome_wipe,
      State.noteHere_wipe, State.send_wipe, State.noteSent_wipe, wipe_ite, wipe_ite_fst, ite_self, implies_true])

theorem State.accessLocks_wipe (s : State) (p : Nat) (x2 : List HeldLock) (m : Nat) (h : 0x30828fff75000 ||| m = m)
    :
    (s.accessLocks p x2).wipe m = s.wipe m := by
  refine wipe_mono h ?_
  fun_induction State.accessLocks s p x2
  all_goals try simp +zetaDelta (decide := true) only [*, State.access_wipe, wipe_ite, wipe_ite_fst, ite_self,
      implies_true]
  all_goals repeat' (split <;> try simp +zetaDelta (decide := true) only [*, State.access_wipe, wipe_ite,
      wipe_ite_fst, ite_self, implies_true])

theorem State.ledgerNow_wipe (s : State) (e : Ledger) (o : HomeOp) (m : Nat) (h : 0x30020e7440000 ||| m = m) :
    (s.ledgerNow e o).wipe m = s.wipe m := by
  refine wipe_mono h ?_
  unfold State.ledgerNow
  try simp +zetaDelta (decide := true) only [State.setLedger_wipe, State.finish_wipe, State.countGrant_wipe,
      State.reach12_wipe, wipe_ite, wipe_ite_fst, ite_self, implies_true]
  all_goals repeat' (split <;> try simp +zetaDelta (decide := true) only [State.setLedger_wipe, State.finish_wipe,
      State.countGrant_wipe, State.reach12_wipe, wipe_ite, wipe_ite_fst, ite_self, implies_true])

theorem State.ledgerWait_wipe (s : State) (e : Ledger) (o : HomeOp) (m : Nat) (h : 0x30020e7450000 ||| m = m) :
    (s.ledgerWait e o).wipe m = s.wipe m := by
  refine wipe_mono h ?_
  unfold State.ledgerWait
  try simp +zetaDelta (decide := true) only [State.reach12_wipe, State.topUp_wipe, State.recordOp_wipe,
      State.finish_wipe, State.exhausted_wipe, wipe_ite, wipe_ite_fst, ite_self, implies_true]
  all_goals repeat' (split <;> try simp +zetaDelta (decide := true) only [State.reach12_wipe, State.topUp_wipe,
      State.recordOp_wipe, State.finish_wipe, State.exhausted_wipe, wipe_ite, wipe_ite_fst, ite_self,
      implies_true])
  all_goals
    rename_i e
    have k := State.addWaiter_wipe _ _ _ _ (m := 0x30020e7450000) (h := by decide) _ e
    simp +zetaDelta (decide := true) only [k, State.reach12_wipe, State.topUp_wipe, State.recordOp_wipe,
        State.finish_wipe, State.exhausted_wipe, wipe_ite, wipe_ite_fst, ite_self, implies_true]

theorem State.fromLedger_wipe (s : State) (e : Ledger) (o : HomeOp) (m : Nat) (h : 0x30828ffffd000 ||| m = m) :
    (s.fromLedger e o).wipe m = s.wipe m := by
  refine wipe_mono h ?_
  unfold State.fromLedger
  try simp +zetaDelta (decide := true) only [State.refuse_wipe, State.noteHere_wipe, State.ledgerNow_wipe,
      State.ledgerWait_wipe, State.toHome_wipe, wipe_ite, wipe_ite_fst, ite_self, implies_true]
  all_goals repeat' (split <;> try simp +zetaDelta (decide := true) only [State.refuse_wipe, State.noteHere_wipe,
      State.ledgerNow_wipe, State.ledgerWait_wipe, State.toHome_wipe, wipe_ite, wipe_ite_fst, ite_self,
      implies_true])

theorem State.launch_wipe (s : State) (o : HomeOp) (m : Nat) (h : 0x30828ffffd000 ||| m = m) :
    (s.launch o).wipe m = s.wipe m := by
  refine wipe_mono h ?_
  unfold State.launch
  try simp +zetaDelta (decide := true) only [State.accessLocks_wipe, State.refuse_wipe, State.noteHere_wipe,
      State.toHome_wipe, State.modPort_wipe, State.access_wipe, State.fromLedger_wipe, wipe_ite, wipe_ite_fst,
      ite_self, implies_true]
  all_goals repeat' (split <;> try simp +zetaDelta (decide := true) only [State.accessLocks_wipe,
      State.refuse_wipe, State.noteHere_wipe, State.toHome_wipe, State.modPort_wipe, State.access_wipe,
      State.fromLedger_wipe, wipe_ite, wipe_ite_fst, ite_self, implies_true])

theorem State.forwardOp_wipe (s : State) (o : HomeOp) (m : Nat) (h : 0x30828ffffd000 ||| m = m) :
    (s.forwardOp o).wipe m = s.wipe m := by
  refine wipe_mono h ?_
  unfold State.forwardOp
  try simp +zetaDelta (decide := true) only [State.refuse_wipe, State.launch_wipe, wipe_ite, wipe_ite_fst,
      ite_self, implies_true]
  all_goals repeat' (split <;> try simp +zetaDelta (decide := true) only [State.refuse_wipe, State.launch_wipe,
      wipe_ite, wipe_ite_fst, ite_self, implies_true])

theorem State.stormNote_wipe (s : State) (f : StormSource) (reason : Nat) (last : Option Time) (longest : Nat)
    (count : Nat) (m : Nat) (h : 0x2000007000000 ||| m = m) :
    (s.stormNote f reason last longest count).1.wipe m = s.wipe m := by
  refine wipe_mono h ?_
  unfold State.stormNote
  try simp +zetaDelta (decide := true) only [State.notifyRing_wipe, wipe_ite, wipe_ite_fst, ite_self,
      implies_true]
  all_goals repeat' (split <;> try simp +zetaDelta (decide := true) only [State.notifyRing_wipe, wipe_ite,
      wipe_ite_fst, ite_self, implies_true])

theorem State.stormBucket_wipe (s : State) (f : StormSource) (reason : Nat) (b : Bucket) (n : Nat) (m : Nat) (h :
    0x2000007000000 ||| m = m) :
    (s.stormBucket f reason b n).1.wipe m = s.wipe m := by
  refine wipe_mono h ?_
  unfold State.stormBucket
  try simp +zetaDelta (decide := true) only [State.stormNote_wipe, wipe_ite, wipe_ite_fst, ite_self, implies_true]
  all_goals repeat' (split <;> try simp +zetaDelta (decide := true) only [State.stormNote_wipe, wipe_ite,
      wipe_ite_fst, ite_self, implies_true])

theorem State.refillLane_wipe (s : State) (p : Nat) (lane : Nat) (m : Nat) (h : 0x100000 ||| m = m) :
    (s.refillLane p lane).wipe m = s.wipe m := by
  refine wipe_mono h ?_
  unfold State.refillLane
  try simp +zetaDelta (decide := true) only [State.modPort_wipe, wipe_ite, wipe_ite_fst, ite_self, implies_true]
  all_goals repeat' (split <;> try simp +zetaDelta (decide := true) only [State.modPort_wipe, wipe_ite,
      wipe_ite_fst, ite_self, implies_true])

theorem State.spendLane_wipe (s : State) (p : Nat) (lane : Nat) (m : Nat) (h : 0x100000 ||| m = m) :
    (s.spendLane p lane).wipe m = s.wipe m := by
  refine wipe_mono h ?_
  unfold State.spendLane
  try simp +zetaDelta (decide := true) only [State.modPort_wipe, State.refillLane_wipe, wipe_ite, wipe_ite_fst,
      ite_self, implies_true]
  all_goals repeat' (split <;> try simp +zetaDelta (decide := true) only [State.modPort_wipe,
      State.refillLane_wipe, wipe_ite, wipe_ite_fst, ite_self, implies_true])

theorem State.bucketHold_wipe (s : State) (p : Nat) (lane : Nat) (m : Nat) (h : 0x2000007100000 ||| m = m) :
    (s.bucketHold p lane).wipe m = s.wipe m := by
  refine wipe_mono h ?_
  unfold State.bucketHold
  try simp +zetaDelta (decide := true) only [State.stormBucket_wipe, State.modPort_wipe, wipe_ite, wipe_ite_fst,
      ite_self, implies_true]
  all_goals repeat' (split <;> try simp +zetaDelta (decide := true) only [State.stormBucket_wipe,
      State.modPort_wipe, wipe_ite, wipe_ite_fst, ite_self, implies_true])

theorem State.bucketHeld_wipe (s : State) (p : Nat) (h : ShimOp) (m : Nat) (hm : 0x100000 ||| m = m) :
    (s.bucketHeld p h).wipe m = s.wipe m := by
  refine wipe_mono hm ?_
  unfold State.bucketHeld
  try simp +zetaDelta (decide := true) only [State.modPort_wipe, wipe_ite, wipe_ite_fst, ite_self, implies_true]
  all_goals repeat' (split <;> try simp +zetaDelta (decide := true) only [State.modPort_wipe, wipe_ite,
      wipe_ite_fst, ite_self, implies_true])

theorem State.park_wipe (s : State) (p : Nat) (v : BitVec 64) (m : Nat) (h : 0x100000 ||| m = m) :
    (s.park p v).1.wipe m = s.wipe m := by
  refine wipe_mono h ?_
  unfold State.park
  try simp +zetaDelta (decide := true) only [State.setPort_wipe, wipe_ite, wipe_ite_fst, ite_self, implies_true]
  all_goals repeat' (split <;> try simp +zetaDelta (decide := true) only [State.setPort_wipe, wipe_ite,
      wipe_ite_fst, ite_self, implies_true])

theorem State.unpark_wipe (s : State) (p : Nat) (v : BitVec 64) (m : Nat) (h : 0x100000 ||| m = m) :
    (s.unpark p v).1.wipe m = s.wipe m := by
  refine wipe_mono h ?_
  unfold State.unpark
  try simp +zetaDelta (decide := true) only [State.offerAll_wipe, State.setPort_wipe, wipe_ite, wipe_ite_fst,
      ite_self, implies_true]
  all_goals repeat' (split <;> try simp +zetaDelta (decide := true) only [State.offerAll_wipe, State.setPort_wipe,
      wipe_ite, wipe_ite_fst, ite_self, implies_true])

theorem State.releaseStore_wipe (s : State) (p : Nat) (m : Nat) (h : 0x100000 ||| m = m) :
    (s.releaseStore p).wipe m = s.wipe m := by
  refine wipe_mono h ?_
  unfold State.releaseStore
  try simp +zetaDelta (decide := true) only [State.offerAll_wipe, State.modPort_wipe, wipe_ite, wipe_ite_fst,
      ite_self, implies_true]
  all_goals repeat' (split <;> try simp +zetaDelta (decide := true) only [State.offerAll_wipe, State.modPort_wipe,
      wipe_ite, wipe_ite_fst, ite_self, implies_true])

theorem State.recordHold_wipe (s : State) (q : Nat) (how : Nat) (m : Nat) (h : 0x2002007000000 ||| m = m) :
    (s.recordHold q how).wipe m = s.wipe m := by
  refine wipe_mono h ?_
  unfold State.recordHold
  try simp +zetaDelta (decide := true) only [State.record_wipe, wipe_ite, wipe_ite_fst, ite_self, implies_true]
  all_goals repeat' (split <;> try simp +zetaDelta (decide := true) only [State.record_wipe, wipe_ite,
      wipe_ite_fst, ite_self, implies_true])

theorem State.holdHere_wipe (s : State) (q : Nat) (m : Nat) (h : 0x2002007001000 ||| m = m) :
    (s.holdHere q).wipe m = s.wipe m := by
  refine wipe_mono h ?_
  unfold State.holdHere
  try simp +zetaDelta (decide := true) only [State.recordHold_wipe, State.modPart_wipe, wipe_ite, wipe_ite_fst,
      ite_self, implies_true]
  all_goals repeat' (split <;> try simp +zetaDelta (decide := true) only [State.recordHold_wipe,
      State.modPart_wipe, wipe_ite, wipe_ite_fst, ite_self, implies_true])

theorem State.resumeHere_wipe (s : State) (q : Nat) (m : Nat) (h : 0x2002007101000 ||| m = m) :
    (s.resumeHere q).wipe m = s.wipe m := by
  refine wipe_mono h ?_
  unfold State.resumeHere
  try simp +zetaDelta (decide := true) only [State.each_wipe, State.modPart_wipe, State.recordHold_wipe,
      State.releaseStore_wipe, wipe_ite, wipe_ite_fst, ite_self, implies_true]
  all_goals repeat' (split <;> try simp +zetaDelta (decide := true) only [State.each_wipe, State.modPart_wipe,
      State.recordHold_wipe, State.releaseStore_wipe, wipe_ite, wipe_ite_fst, ite_self, implies_true])

theorem State.serviceDone_wipe (s : State) (p : Nat) (e : Pend) (st : Status) (result : Nat) (m : Nat) (h :
    0x2002007100000 ||| m = m) :
    (s.serviceDone p e st result).wipe m = s.wipe m := by
  refine wipe_mono h ?_
  unfold State.serviceDone
  try simp +zetaDelta (decide := true) only [State.shimReach_wipe, State.recordOp_wipe, State.countRefused_wipe,
      State.answerPend_wipe, wipe_ite, wipe_ite_fst, ite_self, implies_true]
  all_goals repeat' (split <;> try simp +zetaDelta (decide := true) only [State.shimReach_wipe,
      State.recordOp_wipe, State.countRefused_wipe, State.answerPend_wipe, wipe_ite, wipe_ite_fst, ite_self,
      implies_true])

theorem State.answerHold_wipe (s : State) (w : HoldWaiter) (failed : Bool) (m : Nat) (h : 0x302a007100000 ||| m = m)
    :
    (s.answerHold w failed).wipe m = s.wipe m := by
  refine wipe_mono h ?_
  unfold State.answerHold
  try simp +zetaDelta (decide := true) only [State.serviceDone_wipe, State.catFinish_wipe, wipe_ite, wipe_ite_fst,
      ite_self, implies_true]
  all_goals repeat' (split <;> try simp +zetaDelta (decide := true) only [State.serviceDone_wipe,
      State.catFinish_wipe, wipe_ite, wipe_ite_fst, ite_self, implies_true])

theorem State.holdDone_wipe (s : State) (q : Nat) (e : HoldXchg) (m : Nat) (h : 0x302a007101000 ||| m = m) :
    (s.holdDone q e).wipe m = s.wipe m := by
  refine wipe_mono h ?_
  unfold State.holdDone
  try simp +zetaDelta (decide := true) only [State.modPart_wipe, State.answerHold_wipe, State.bumpN_wipe,
      wipe_ite, wipe_ite_fst, ite_self, implies_true]
  all_goals repeat' (split <;> try simp +zetaDelta (decide := true) only [State.modPart_wipe,
      State.answerHold_wipe, State.bumpN_wipe, wipe_ite, wipe_ite_fst, ite_self, implies_true])

theorem State.sendHold_wipe (s : State) (q : Nat) (k : HoldKind) (seq : BitVec 8) (x4 : List HubId) (m : Nat) (h :
    0x30020e7000000 ||| m = m) :
    (s.sendHold q k seq x4).wipe m = s.wipe m := by
  refine wipe_mono h ?_
  fun_induction State.sendHold s q k seq x4
  all_goals try simp +zetaDelta (decide := true) only [*, State.send_wipe, wipe_ite, wipe_ite_fst, ite_self,
      implies_true]
  all_goals repeat' (split <;> try simp +zetaDelta (decide := true) only [*, State.send_wipe, wipe_ite,
      wipe_ite_fst, ite_self, implies_true])

theorem State.startHold_wipe (s : State) (q : Nat) (resume : Bool) (all : Bool) (w : HoldWaiter) (m : Nat) (h :
    0x302a0e7101000 ||| m = m) :
    (s.startHold q resume all w).wipe m = s.wipe m := by
  refine wipe_mono h ?_
  unfold State.startHold
  try simp +zetaDelta (decide := true) only [State.resumeHere_wipe, State.holdHere_wipe, State.modPart_wipe,
      State.sendHold_wipe, State.bumpN_wipe, State.holdDone_wipe, State.answerHold_wipe, wipe_ite, wipe_ite_fst,
      ite_self, implies_true]
  all_goals repeat' (split <;> try simp +zetaDelta (decide := true) only [State.resumeHere_wipe,
      State.holdHere_wipe, State.modPart_wipe, State.sendHold_wipe, State.bumpN_wipe, State.holdDone_wipe,
      State.answerHold_wipe, wipe_ite, wipe_ite_fst, ite_self, implies_true])

theorem State.beginHold_wipe (s : State) (q : Nat) (all : Bool) (w : HoldWaiter) (m : Nat) (h : 0x302a0e7101000 |||
    m = m) :
    (s.beginHold q all w).wipe m = s.wipe m := by
  refine wipe_mono h ?_
  unfold State.beginHold
  try simp +zetaDelta (decide := true) only [State.answerHold_wipe, State.startHold_wipe, wipe_ite, wipe_ite_fst,
      ite_self, implies_true]
  all_goals repeat' (split <;> try simp +zetaDelta (decide := true) only [State.answerHold_wipe,
      State.startHold_wipe, wipe_ite, wipe_ite_fst, ite_self, implies_true])

theorem State.pollAway_wipe (s : State) (kept : List AwayOp) (x2 : List AwayOp) (m : Nat) (h : 0x2000000000000 ||| m
    = m) :
    (s.pollAway kept x2).1.wipe m = s.wipe m := by
  refine wipe_mono h ?_
  fun_induction State.pollAway s kept x2
  all_goals try simp +zetaDelta (decide := true) only [*, State.fresh_wipe, wipe_ite, wipe_ite_fst, ite_self,
      implies_true]
  all_goals repeat' (split <;> try simp +zetaDelta (decide := true) only [*, State.fresh_wipe, wipe_ite,
      wipe_ite_fst, ite_self, implies_true])

theorem State.pollPort_wipe (s : State) (p : Nat) (m : Nat) (h : 0x2000000100000 ||| m = m) :
    (s.pollPort p).wipe m = s.wipe m := by
  refine wipe_mono h ?_
  unfold State.pollPort
  try simp +zetaDelta (decide := true) only [State.pollAway_wipe, State.modPort_wipe, wipe_ite, wipe_ite_fst,
      ite_self, implies_true]
  all_goals repeat' (split <;> try simp +zetaDelta (decide := true) only [State.pollAway_wipe, State.modPort_wipe,
      wipe_ite, wipe_ite_fst, ite_self, implies_true])

theorem State.tryFence_wipe (s : State) (p : Nat) (h : ShimOp) (m : Nat) (hm : 0x2002007100000 ||| m = m) :
    (s.tryFence p h).wipe m = s.wipe m := by
  refine wipe_mono hm ?_
  unfold State.tryFence
  try simp +zetaDelta (decide := true) only [State.setPort_wipe, State.serviceDone_wipe, wipe_ite, wipe_ite_fst,
      ite_self, implies_true]
  all_goals repeat' (split <;> try simp +zetaDelta (decide := true) only [State.setPort_wipe,
      State.serviceDone_wipe, wipe_ite, wipe_ite_fst, ite_self, implies_true])

theorem State.tryFences_wipe (s : State) (p : Nat) (x2 : List ShimOp) (m : Nat) (h : 0x2002007100000 ||| m = m) :
    (s.tryFences p x2).wipe m = s.wipe m := by
  refine wipe_mono h ?_
  fun_induction State.tryFences s p x2
  all_goals try simp +zetaDelta (decide := true) only [*, State.tryFence_wipe, wipe_ite, wipe_ite_fst, ite_self,
      implies_true]
  all_goals repeat' (split <;> try simp +zetaDelta (decide := true) only [*, State.tryFence_wipe, wipe_ite,
      wipe_ite_fst, ite_self, implies_true])

theorem State.serviceOp_wipe (s : State) (p : Nat) (h : ShimOp) (e : Pend) (c : Opcode) (m : Nat) (hm :
    0x302a0e7101000 ||| m = m) :
    (s.serviceOp p h e c).wipe m = s.wipe m := by
  refine wipe_mono hm ?_
  unfold State.serviceOp
  try simp +zetaDelta (decide := true) only [State.answerPend_wipe, State.countRefused_wipe, State.actOp_wipe,
      State.park_wipe, State.serviceDone_wipe, State.unpark_wipe, State.beginHold_wipe, State.spendLane_wipe,
      State.startHold_wipe, State.pollPort_wipe, State.tryFence_wipe, State.modPort_wipe, wipe_ite, wipe_ite_fst,
      ite_self, implies_true]
  all_goals repeat' (split <;> try simp +zetaDelta (decide := true) only [State.answerPend_wipe,
      State.countRefused_wipe, State.actOp_wipe, State.park_wipe, State.serviceDone_wipe, State.unpark_wipe,
      State.beginHold_wipe, State.spendLane_wipe, State.startHold_wipe, State.pollPort_wipe, State.tryFence_wipe,
      State.modPort_wipe, wipe_ite, wipe_ite_fst, ite_self, implies_true])

theorem State.runOp_wipe (s : State) (p : Nat) (h : ShimOp) (m : Nat) (hm : 0x30aa8ffffd000 ||| m = m) :
    (s.runOp p h).wipe m = s.wipe m := by
  refine wipe_mono hm ?_
  unfold State.runOp
  try simp +zetaDelta (decide := true) only [State.performNear_wipe, State.serviceOp_wipe, State.spendLane_wipe,
      State.refuse_wipe, State.forwardOp_wipe, wipe_ite, wipe_ite_fst, ite_self, implies_true]
  all_goals repeat' (split <;> try simp +zetaDelta (decide := true) only [State.performNear_wipe,
      State.serviceOp_wipe, State.spendLane_wipe, State.refuse_wipe, State.forwardOp_wipe, wipe_ite, wipe_ite_fst,
      ite_self, implies_true])

theorem State.takeEntry_wipe (s : State) (p : Nat) (h : ShimOp) (m : Nat) (hm : 0x100000 ||| m = m) :
    (s.takeEntry p h).1.wipe m = s.wipe m := by
  refine wipe_mono hm ?_
  unfold State.takeEntry
  try simp +zetaDelta (decide := true) only [State.setPort_wipe, wipe_ite, wipe_ite_fst, ite_self, implies_true]
  all_goals repeat' (split <;> try simp +zetaDelta (decide := true) only [State.setPort_wipe, wipe_ite,
      wipe_ite_fst, ite_self, implies_true])

theorem State.acceptOp_wipe (s : State) (p : Nat) (h : ShimOp) (m : Nat) (hm : 0x30aa8ffffd000 ||| m = m) :
    (s.acceptOp p h).wipe m = s.wipe m := by
  refine wipe_mono hm ?_
  unfold State.acceptOp
  try simp +zetaDelta (decide := true) only [State.takeEntry_wipe, State.answerPend_wipe, State.countRefused_wipe,
      State.actOp_wipe, State.modPort_wipe, State.runOp_wipe, wipe_ite, wipe_ite_fst, ite_self, implies_true]
  all_goals repeat' (split <;> try simp +zetaDelta (decide := true) only [State.takeEntry_wipe,
      State.answerPend_wipe, State.countRefused_wipe, State.actOp_wipe, State.modPort_wipe, State.runOp_wipe,
      wipe_ite, wipe_ite_fst, ite_self, implies_true])

theorem State.issueOp_wipe (s : State) (p : Nat) (h : ShimOp) (m : Nat) (hm : 0x30aa8ffffd000 ||| m = m) :
    (s.issueOp p h).wipe m = s.wipe m := by
  refine wipe_mono hm ?_
  unfold State.issueOp
  try simp +zetaDelta (decide := true) only [State.acceptOp_wipe, State.modPort_wipe, State.bucketHold_wipe,
      State.refillLane_wipe, wipe_ite, wipe_ite_fst, ite_self, implies_true]
  all_goals repeat' (split <;> try simp +zetaDelta (decide := true) only [State.acceptOp_wipe, State.modPort_wipe,
      State.bucketHold_wipe, State.refillLane_wipe, wipe_ite, wipe_ite_fst, ite_self, implies_true])

theorem State.retryOps_wipe (s : State) (p : Nat) (x2 : List ShimOp) (m : Nat) (h : 0x30aa8ffffd000 ||| m = m) :
    (s.retryOps p x2).wipe m = s.wipe m := by
  refine wipe_mono h ?_
  fun_induction State.retryOps s p x2
  all_goals try simp +zetaDelta (decide := true) only [*, State.setPort_wipe, State.acceptOp_wipe,
      State.bucketHeld_wipe, wipe_ite, wipe_ite_fst, ite_self, implies_true]
  all_goals repeat' (split <;> try simp +zetaDelta (decide := true) only [*, State.setPort_wipe,
      State.acceptOp_wipe, State.bucketHeld_wipe, wipe_ite, wipe_ite_fst, ite_self, implies_true])

theorem State.wakePort_wipe (s : State) (p : Nat) (m : Nat) (h : 0x30aa8ffffd000 ||| m = m) :
    (s.wakePort p).wipe m = s.wipe m := by
  refine wipe_mono h ?_
  unfold State.wakePort
  try simp +zetaDelta (decide := true) only [State.pollPort_wipe, State.tryFences_wipe, State.retryOps_wipe,
      wipe_ite, wipe_ite_fst, ite_self, implies_true]
  all_goals repeat' (split <;> try simp +zetaDelta (decide := true) only [State.pollPort_wipe,
      State.tryFences_wipe, State.retryOps_wipe, wipe_ite, wipe_ite_fst, ite_self, implies_true])

theorem State.coreOp_wipe (s : State) (p : Nat) (lane : Nat) (ctx : BitVec 8) (code : BitVec 6) (op : OpFields) (m :
    Nat) (h : 0x30aa8ffffd000 ||| m = m) :
    (s.coreOp p lane ctx code op).wipe m = s.wipe m := by
  refine wipe_mono h ?_
  unfold State.coreOp
  try simp +zetaDelta (decide := true) only [State.issueOp_wipe, wipe_ite, wipe_ite_fst, ite_self, implies_true]
  all_goals repeat' (split <;> try simp +zetaDelta (decide := true) only [State.issueOp_wipe, wipe_ite,
      wipe_ite_fst, ite_self, implies_true])

theorem State.endDrain_wipe (s : State) (p : Nat) (m : Nat) (h : 0x30aa8ffffd000 ||| m = m) :
    (s.endDrain p).wipe m = s.wipe m := by
  refine wipe_mono h ?_
  unfold State.endDrain
  try simp +zetaDelta (decide := true) only [State.wakePort_wipe, State.runOp_wipe, State.setPort_wipe, wipe_ite,
      wipe_ite_fst, ite_self, implies_true]
  all_goals repeat' (split <;> try simp +zetaDelta (decide := true) only [State.wakePort_wipe, State.runOp_wipe,
      State.setPort_wipe, wipe_ite, wipe_ite_fst, ite_self, implies_true])

theorem State.ackInval_wipe (s : State) (p : Nat) (m : Nat) (h : 0x30aa8ffffd000 ||| m = m) :
    (s.ackInval p).wipe m = s.wipe m := by
  refine wipe_mono h ?_
  unfold State.ackInval
  try simp +zetaDelta (decide := true) only [State.deliverCovered_wipe, State.setPort_wipe, State.wakePort_wipe,
      State.modPort_wipe, State.bump_wipe, wipe_ite, wipe_ite_fst, ite_self, implies_true]
  all_goals repeat' (split <;> try simp +zetaDelta (decide := true) only [State.deliverCovered_wipe,
      State.setPort_wipe, State.wakePort_wipe, State.modPort_wipe, State.bump_wipe, wipe_ite, wipe_ite_fst,
      ite_self, implies_true])

theorem State.readBeat_wipe (s : State) (p : Nat) (lane : Nat) (m : Nat) (h : 0x30aa8ffffd000 ||| m = m) :
    (s.readBeat p lane).wipe m = s.wipe m := by
  refine wipe_mono h ?_
  unfold State.readBeat
  try simp +zetaDelta (decide := true) only [State.setPort_wipe, State.wakePort_wipe, wipe_ite, wipe_ite_fst,
      ite_self, implies_true]
  all_goals repeat' (split <;> try simp +zetaDelta (decide := true) only [State.setPort_wipe, State.wakePort_wipe,
      wipe_ite, wipe_ite_fst, ite_self, implies_true])

theorem State.removeTicket_wipe (s : State) (p : Nat) (m : Nat) (h : 0x30020e7f71000 ||| m = m) :
    (s.removeTicket p).wipe m = s.wipe m := by
  refine wipe_mono h ?_
  unfold State.removeTicket
  try simp +zetaDelta (decide := true) only [State.drainTickets_wipe, State.act_wipe, State.setPort_wipe,
      wipe_ite, wipe_ite_fst, ite_self, implies_true]
  all_goals repeat' (split <;> try simp +zetaDelta (decide := true) only [State.drainTickets_wipe, State.act_wipe,
      State.setPort_wipe, wipe_ite, wipe_ite_fst, ite_self, implies_true])

theorem State.surroundWait_wipe (s : State) (p : Nat) (sig : SurroundSignal) (m : Nat) (h : 0x2002007100000 ||| m =
    m) :
    (s.surroundWait p sig).wipe m = s.wipe m := by
  refine wipe_mono h ?_
  unfold State.surroundWait
  try simp +zetaDelta (decide := true) only [State.bump_wipe, State.modPort_wipe, State.record_wipe, wipe_ite,
      wipe_ite_fst, ite_self, implies_true]
  all_goals repeat' (split <;> try simp +zetaDelta (decide := true) only [State.bump_wipe, State.modPort_wipe,
      State.record_wipe, wipe_ite, wipe_ite_fst, ite_self, implies_true])

end Sys2Proof.Machine
end

