-- ==== Sys2Proof/Laws/KeepsAperture.lean ====
section
/-! SUPPORT. What each operation of Aperture.lean changes at most: blotting out the fields of its mask takes away every
difference that it makes. -/

set_option linter.all false

namespace Sys2Proof.Machine

theorem State.slverr_wipe (s : State) (slot : Option Nat) (block : Option Nat) (p : Nat) (m : Nat) (h :
    0x3000004000000 ||| m = m) :
    (s.slverr slot block p).wipe m = s.wipe m := by
  refine wipe_mono h ?_
  unfold State.slverr
  try simp +zetaDelta (decide := true) only [State.drive_wipe, State.bump_wipe, wipe_ite, wipe_ite_fst, ite_self,
      implies_true]
  all_goals repeat' (split <;> try simp +zetaDelta (decide := true) only [State.drive_wipe, State.bump_wipe,
      wipe_ite, wipe_ite_fst, ite_self, implies_true])

theorem State.spendSlot_wipe (s : State) (g : Nat) (m : Nat) (h : 0x200000 ||| m = m) :
    (s.spendSlot g).wipe m = s.wipe m := by
  refine wipe_mono h ?_
  unfold State.spendSlot
  try simp +zetaDelta (decide := true) only [State.modSlot_wipe, wipe_ite, wipe_ite_fst, ite_self, implies_true]
  all_goals repeat' (split <;> try simp +zetaDelta (decide := true) only [State.modSlot_wipe, wipe_ite,
      wipe_ite_fst, ite_self, implies_true])

theorem State.slotStorm_wipe (s : State) (g : Nat) (reason : Nat) (m : Nat) (h : 0x2000007200000 ||| m = m) :
    (s.slotStorm g reason).wipe m = s.wipe m := by
  refine wipe_mono h ?_
  unfold State.slotStorm
  try simp +zetaDelta (decide := true) only [State.stormBucket_wipe, State.modSlot_wipe, wipe_ite, wipe_ite_fst,
      ite_self, implies_true]
  all_goals repeat' (split <;> try simp +zetaDelta (decide := true) only [State.stormBucket_wipe,
      State.modSlot_wipe, wipe_ite, wipe_ite_fst, ite_self, implies_true])

theorem State.slotDone_wipe (s : State) (g : Nat) (h : SlotOp) (st : Status) (m : Nat) (hm : 0x2002007200000 ||| m =
    m) :
    (s.slotDone g h st).wipe m = s.wipe m := by
  refine wipe_mono hm ?_
  unfold State.slotDone
  try simp +zetaDelta (decide := true) only [State.shimReach_wipe, State.recordOp_wipe, State.countRefused_wipe,
      State.modSlot_wipe, wipe_ite, wipe_ite_fst, ite_self, implies_true]
  all_goals repeat' (split <;> try simp +zetaDelta (decide := true) only [State.shimReach_wipe,
      State.recordOp_wipe, State.countRefused_wipe, State.modSlot_wipe, wipe_ite, wipe_ite_fst, ite_self,
      implies_true])

theorem State.slotRefuse_wipe (s : State) (g : Nat) (h : SlotOp) (st : Status) (m : Nat) (hm : 0x2002007200000 ||| m
    = m) :
    (s.slotRefuse g h st).wipe m = s.wipe m := by
  refine wipe_mono hm ?_
  unfold State.slotRefuse
  try simp +zetaDelta (decide := true) only [State.countRefused_wipe, State.actOp_wipe, State.modSlot_wipe,
      wipe_ite, wipe_ite_fst, ite_self, implies_true]
  all_goals repeat' (split <;> try simp +zetaDelta (decide := true) only [State.countRefused_wipe,
      State.actOp_wipe, State.modSlot_wipe, wipe_ite, wipe_ite_fst, ite_self, implies_true])

theorem State.slotForward_wipe (s : State) (g : Nat) (h : SlotOp) (limited : Bool) (m : Nat) (hm : 0x30828ffffd000
    ||| m = m) :
    (s.slotForward g h limited).wipe m = s.wipe m := by
  refine wipe_mono hm ?_
  unfold State.slotForward
  try simp +zetaDelta (decide := true) only [State.refuse_wipe, State.slotStorm_wipe, State.forwardOp_wipe,
      State.spendSlot_wipe, wipe_ite, wipe_ite_fst, ite_self, implies_true]
  all_goals repeat' (split <;> try simp +zetaDelta (decide := true) only [State.refuse_wipe, State.slotStorm_wipe,
      State.forwardOp_wipe, State.spendSlot_wipe, wipe_ite, wipe_ite_fst, ite_self, implies_true])

theorem State.pollSlot_wipe (s : State) (g : Nat) (m : Nat) (h : 0x2000000200000 ||| m = m) :
    (s.pollSlot g).wipe m = s.wipe m := by
  refine wipe_mono h ?_
  unfold State.pollSlot
  try simp +zetaDelta (decide := true) only [State.pollAway_wipe, State.modSlot_wipe, wipe_ite, wipe_ite_fst,
      ite_self, implies_true]
  all_goals repeat' (split <;> try simp +zetaDelta (decide := true) only [State.pollAway_wipe, State.modSlot_wipe,
      wipe_ite, wipe_ite_fst, ite_self, implies_true])

theorem State.trySlotFence_wipe (s : State) (g : Nat) (m : Nat) (h : 0x2002007200000 ||| m = m) :
    (s.trySlotFence g).wipe m = s.wipe m := by
  refine wipe_mono h ?_
  unfold State.trySlotFence
  try simp +zetaDelta (decide := true) only [State.pollSlot_wipe, State.slotDone_wipe, State.modSlot_wipe,
      wipe_ite, wipe_ite_fst, ite_self, implies_true]
  all_goals repeat' (split <;> try simp +zetaDelta (decide := true) only [State.pollSlot_wipe,
      State.slotDone_wipe, State.modSlot_wipe, wipe_ite, wipe_ite_fst, ite_self, implies_true])

theorem State.templateAnswer_wipe (s : State) (g : Nat) (ok : Bool) (m : Nat) (h : 0x3000004000000 ||| m = m) :
    (s.templateAnswer g ok).wipe m = s.wipe m := by
  refine wipe_mono h ?_
  unfold State.templateAnswer
  try simp +zetaDelta (decide := true) only [State.drive_wipe, State.slverr_wipe, wipe_ite, wipe_ite_fst,
      ite_self, implies_true]
  all_goals repeat' (split <;> try simp +zetaDelta (decide := true) only [State.drive_wipe, State.slverr_wipe,
      wipe_ite, wipe_ite_fst, ite_self, implies_true])

theorem State.templateFails_wipe (s : State) (g : Nat) (m : Nat) (h : 0x3000004000000 ||| m = m) :
    (s.templateFails g).wipe m = s.wipe m := by
  refine wipe_mono h ?_
  unfold State.templateFails
  try simp +zetaDelta (decide := true) only [State.templateAnswer_wipe, State.templateRefused_wipe, wipe_ite,
      wipe_ite_fst, ite_self, implies_true]
  all_goals repeat' (split <;> try simp +zetaDelta (decide := true) only [State.templateAnswer_wipe,
      State.templateRefused_wipe, wipe_ite, wipe_ite_fst, ite_self, implies_true])

theorem State.templateForward_wipe (s : State) (g : Nat) (h : SlotOp) (n : Nat) (limited : Bool) (m : Nat) (hm :
    0x30828fff75000 ||| m = m) :
    (s.templateForward g h n limited).wipe m = s.wipe m := by
  refine wipe_mono hm ?_
  unfold State.templateForward
  try simp +zetaDelta (decide := true) only [State.templateFails_wipe, State.slotStorm_wipe, State.spendSlot_wipe,
      State.performTemplate_wipe, State.templateAnswer_wipe, State.send_wipe, State.modSlot_wipe, wipe_ite,
      wipe_ite_fst, ite_self, implies_true]
  all_goals repeat' (split <;> try simp +zetaDelta (decide := true) only [State.templateFails_wipe,
      State.slotStorm_wipe, State.spendSlot_wipe, State.performTemplate_wipe, State.templateAnswer_wipe,
      State.send_wipe, State.modSlot_wipe, wipe_ite, wipe_ite_fst, ite_self, implies_true])

theorem State.slotRun_wipe (s : State) (g : Nat) (h : SlotOp) (limited : Bool) (m : Nat) (hm : 0x30828ffffd000 ||| m
    = m) :
    (s.slotRun g h limited).wipe m = s.wipe m := by
  refine wipe_mono hm ?_
  unfold State.slotRun
  try simp +zetaDelta (decide := true) only [State.templateForward_wipe, State.templateFails_wipe,
      State.slotForward_wipe, wipe_ite, wipe_ite_fst, ite_self, implies_true]
  all_goals repeat' (split <;> try simp +zetaDelta (decide := true) only [State.templateForward_wipe,
      State.templateFails_wipe, State.slotForward_wipe, wipe_ite, wipe_ite_fst, ite_self, implies_true])

theorem State.slotAccept_wipe (s : State) (g : Nat) (h : SlotOp) (limited : Bool) (m : Nat) (hm : 0x30828ffffd000
    ||| m = m) :
    (s.slotAccept g h limited).wipe m = s.wipe m := by
  refine wipe_mono hm ?_
  unfold State.slotAccept
  try simp +zetaDelta (decide := true) only [State.pcount_wipe, State.setSlot_wipe, State.slotRun_wipe,
      State.slverr_wipe, State.drive_wipe, State.slotRefuse_wipe, State.modSlot_wipe, State.trySlotFence_wipe,
      wipe_ite, wipe_ite_fst, ite_self, implies_true]
  all_goals repeat' (split <;> try simp +zetaDelta (decide := true) only [State.pcount_wipe, State.setSlot_wipe,
      State.slotRun_wipe, State.slverr_wipe, State.drive_wipe, State.slotRefuse_wipe, State.modSlot_wipe,
      State.trySlotFence_wipe, wipe_ite, wipe_ite_fst, ite_self, implies_true])

theorem State.acceptStalled_wipe (s : State) (g : Nat) (force : Bool) (x3 : List SlotOp) (m : Nat) (h :
    0x30828ffffd000 ||| m = m) :
    (s.acceptStalled g force x3).wipe m = s.wipe m := by
  refine wipe_mono h ?_
  fun_induction State.acceptStalled s g force x3
  all_goals try simp +zetaDelta (decide := true) only [*, State.modSlot_wipe, State.slotAccept_wipe, wipe_ite,
      wipe_ite_fst, ite_self, implies_true]
  all_goals repeat' (split <;> try simp +zetaDelta (decide := true) only [*, State.modSlot_wipe,
      State.slotAccept_wipe, wipe_ite, wipe_ite_fst, ite_self, implies_true])

theorem State.runHeld_wipe (s : State) (g : Nat) (x2 : List SlotOp) (m : Nat) (h : 0x30828ffffd000 ||| m = m) :
    (s.runHeld g x2).wipe m = s.wipe m := by
  refine wipe_mono h ?_
  fun_induction State.runHeld s g x2
  all_goals try simp +zetaDelta (decide := true) only [*, State.slotRun_wipe, wipe_ite, wipe_ite_fst, ite_self,
      implies_true]
  all_goals repeat' (split <;> try simp +zetaDelta (decide := true) only [*, State.slotRun_wipe, wipe_ite,
      wipe_ite_fst, ite_self, implies_true])

theorem State.wakeSlot_wipe (s : State) (g : Nat) (m : Nat) (h : 0x30828ffffd000 ||| m = m) :
    (s.wakeSlot g).wipe m = s.wipe m := by
  refine wipe_mono h ?_
  unfold State.wakeSlot
  try simp +zetaDelta (decide := true) only [State.trySlotFence_wipe, State.runHeld_wipe, State.modSlot_wipe,
      State.acceptStalled_wipe, wipe_ite, wipe_ite_fst, ite_self, implies_true]
  all_goals repeat' (split <;> try simp +zetaDelta (decide := true) only [State.trySlotFence_wipe,
      State.runHeld_wipe, State.modSlot_wipe, State.acceptStalled_wipe, wipe_ite, wipe_ite_fst, ite_self,
      implies_true])

theorem State.endStalls_wipe (s : State) (g : Nat) (m : Nat) (h : 0x30828ffffd000 ||| m = m) :
    (s.endStalls g).wipe m = s.wipe m := by
  refine wipe_mono h ?_
  unfold State.endStalls
  try simp +zetaDelta (decide := true) only [State.each_wipe, State.acceptStalled_wipe, wipe_ite, wipe_ite_fst,
      ite_self, implies_true]
  all_goals repeat' (split <;> try simp +zetaDelta (decide := true) only [State.each_wipe,
      State.acceptStalled_wipe, wipe_ite, wipe_ite_fst, ite_self, implies_true])

theorem State.slotWrite_wipe (s : State) (g : Nat) (h : SlotOp) (m : Nat) (hm : 0x30828ffffd000 ||| m = m) :
    (s.slotWrite g h).wipe m = s.wipe m := by
  refine wipe_mono hm ?_
  unfold State.slotWrite
  try simp +zetaDelta (decide := true) only [State.endStalls_wipe, State.slotStorm_wipe, State.modSlot_wipe,
      State.slotAccept_wipe, wipe_ite, wipe_ite_fst, ite_self, implies_true]
  all_goals repeat' (split <;> try simp +zetaDelta (decide := true) only [State.endStalls_wipe,
      State.slotStorm_wipe, State.modSlot_wipe, State.slotAccept_wipe, wipe_ite, wipe_ite_fst, ite_self,
      implies_true])

theorem State.notServing_wipe (s : State) (slot : Option Nat) (block : Option Nat) (m : Nat) (h : 0x1000000000000
    ||| m = m) :
    (s.notServing slot block).wipe m = s.wipe m := by
  refine wipe_mono h ?_
  unfold State.notServing
  try simp +zetaDelta (decide := true) only [State.drive_wipe, wipe_ite, wipe_ite_fst, ite_self, implies_true]
  all_goals repeat' (split <;> try simp +zetaDelta (decide := true) only [State.drive_wipe, wipe_ite,
      wipe_ite_fst, ite_self, implies_true])

theorem State.apertureOp_wipe (s : State) (g : Nat) (host : Bool) (code : BitVec 6) (op : OpFields) (m : Nat) (h :
    0x30828ffffd000 ||| m = m) :
    (s.apertureOp g host code op).wipe m = s.wipe m := by
  refine wipe_mono h ?_
  unfold State.apertureOp
  try simp +zetaDelta (decide := true) only [State.slotWrite_wipe, State.notServing_wipe, wipe_ite, wipe_ite_fst,
      ite_self, implies_true]
  all_goals repeat' (split <;> try simp +zetaDelta (decide := true) only [State.slotWrite_wipe,
      State.notServing_wipe, wipe_ite, wipe_ite_fst, ite_self, implies_true])

theorem State.apertureTemplate_wipe (s : State) (g : Nat) (host : Bool) (word : BitVec 2) (handle : Handle) (data :
    BitVec 64) (m : Nat) (h : 0x30828ffffd000 ||| m = m) :
    (s.apertureTemplate g host word handle data).wipe m = s.wipe m := by
  refine wipe_mono h ?_
  unfold State.apertureTemplate
  try simp +zetaDelta (decide := true) only [State.notServing_wipe, State.slverr_wipe, State.slotWrite_wipe,
      wipe_ite, wipe_ite_fst, ite_self, implies_true]
  all_goals repeat' (split <;> try simp +zetaDelta (decide := true) only [State.notServing_wipe,
      State.slverr_wipe, State.slotWrite_wipe, wipe_ite, wipe_ite_fst, ite_self, implies_true])

theorem State.apertureRefuse_wipe (s : State) (area : ApertureArea) (why : ApertureFault) (isRead : Bool) (m : Nat)
    (h : 0x3000004000000 ||| m = m) :
    (s.apertureRefuse area why isRead).wipe m = s.wipe m := by
  refine wipe_mono h ?_
  unfold State.apertureRefuse
  try simp +zetaDelta (decide := true) only [State.notServing_wipe, State.drive_wipe, State.slverr_wipe, wipe_ite,
      wipe_ite_fst, ite_self, implies_true]
  all_goals repeat' (split <;> try simp +zetaDelta (decide := true) only [State.notServing_wipe, State.drive_wipe,
      State.slverr_wipe, wipe_ite, wipe_ite_fst, ite_self, implies_true])

theorem State.stallLimit_wipe (s : State) (g : Nat) (m : Nat) (h : 0x30828ffffd000 ||| m = m) :
    (s.stallLimit g).wipe m = s.wipe m := by
  refine wipe_mono h ?_
  unfold State.stallLimit
  try simp +zetaDelta (decide := true) only [State.modSlot_wipe, State.acceptStalled_wipe, wipe_ite, wipe_ite_fst,
      ite_self, implies_true]
  all_goals repeat' (split <;> try simp +zetaDelta (decide := true) only [State.modSlot_wipe,
      State.acceptStalled_wipe, wipe_ite, wipe_ite_fst, ite_self, implies_true])

theorem State.refillBucket_wipe (s : State) (b : BucketId) (m : Nat) (h : 0x30aa8ffffd000 ||| m = m) :
    (s.refillBucket b).wipe m = s.wipe m := by
  refine wipe_mono h ?_
  unfold State.refillBucket
  try simp +zetaDelta (decide := true) only [State.wakePort_wipe, State.refillLane_wipe, State.wakeSlot_wipe,
      State.modSlot_wipe, wipe_ite, wipe_ite_fst, ite_self, implies_true]
  all_goals repeat' (split <;> try simp +zetaDelta (decide := true) only [State.wakePort_wipe,
      State.refillLane_wipe, State.wakeSlot_wipe, State.modSlot_wipe, wipe_ite, wipe_ite_fst, ite_self,
      implies_true])

theorem State.completionDelivery_wipe (s : State) (t : RspTarget) (m : Nat) (h : 0x30aa8ffffd000 ||| m = m) :
    (s.completionDelivery t).wipe m = s.wipe m := by
  refine wipe_mono h ?_
  unfold State.completionDelivery
  try simp +zetaDelta (decide := true) only [State.deliverNext_wipe, State.wakePort_wipe, State.wakeSlot_wipe,
      wipe_ite, wipe_ite_fst, ite_self, implies_true]
  all_goals repeat' (split <;> try simp +zetaDelta (decide := true) only [State.deliverNext_wipe,
      State.wakePort_wipe, State.wakeSlot_wipe, wipe_ite, wipe_ite_fst, ite_self, implies_true])

end Sys2Proof.Machine
end

