-- ==== Sys2Proof/Laws/KeepsManager.lean ====
section
/-! SUPPORT. What each operation of Manager.lean changes at most: blotting out the fields of its mask takes away every
difference that it makes. -/

set_option linter.all false

namespace Sys2Proof.Machine

theorem State.wrote_wipe (s : State) (w : MgrWrite) (m : Nat) (h : 0x5000000 ||| m = m) :
    (s.wrote w).wipe m = s.wipe m := by
  refine wipe_mono h ?_
  unfold State.wrote
  try simp +zetaDelta (decide := true) only [wipe_mgr, State.pcount_wipe, wipe_ite, wipe_ite_fst, ite_self,
      implies_true]
  all_goals repeat' (split <;> try simp +zetaDelta (decide := true) only [wipe_mgr, State.pcount_wipe, wipe_ite,
      wipe_ite_fst, ite_self, implies_true])

theorem State.triggerNote_wipe (s : State) (p : Nat) (k : Nat) (producer : Nat) (m : Nat) (h : 0x2000007000000 ||| m
    = m) :
    (s.triggerNote p k producer).wipe m = s.wipe m := by
  refine wipe_mono h ?_
  unfold State.triggerNote
  try simp +zetaDelta (decide := true) only [State.notifyRing_wipe, wipe_ite, wipe_ite_fst, ite_self,
      implies_true]
  all_goals repeat' (split <;> try simp +zetaDelta (decide := true) only [State.notifyRing_wipe, wipe_ite,
      wipe_ite_fst, ite_self, implies_true])

theorem State.ticketWritten_wipe (s : State) (w : MgrWrite) (m : Nat) (h : 0x2000007000000 ||| m = m) :
    (s.ticketWritten w).wipe m = s.wipe m := by
  refine wipe_mono h ?_
  unfold State.ticketWritten
  try simp +zetaDelta (decide := true) only [State.act_wipe, State.setCfg_wipe, State.wrote_wipe,
      State.mgrIssue_wipe, State.triggerNote_wipe, wipe_ite, wipe_ite_fst, ite_self, implies_true]
  all_goals repeat' (split <;> try simp +zetaDelta (decide := true) only [State.act_wipe, State.setCfg_wipe,
      State.wrote_wipe, State.mgrIssue_wipe, State.triggerNote_wipe, wipe_ite, wipe_ite_fst, ite_self,
      implies_true])

theorem State.mirrorWritten_wipe (s : State) (w : MgrWrite) (m : Nat) (h : 0x2000007000000 ||| m = m) :
    (s.mirrorWritten w).wipe m = s.wipe m := by
  refine wipe_mono h ?_
  unfold State.mirrorWritten
  try simp +zetaDelta (decide := true) only [State.triggerNote_wipe, State.wrote_wipe, wipe_ite, wipe_ite_fst,
      ite_self, implies_true]
  all_goals repeat' (split <;> try simp +zetaDelta (decide := true) only [State.triggerNote_wipe,
      State.wrote_wipe, wipe_ite, wipe_ite_fst, ite_self, implies_true])

theorem State.notifyWritten_wipe (s : State) (w : MgrWrite) (m : Nat) (h : 0x1000007000000 ||| m = m) :
    (s.notifyWritten w).wipe m = s.wipe m := by
  refine wipe_mono h ?_
  unfold State.notifyWritten
  try simp +zetaDelta (decide := true) only [State.irq_wipe, State.setCfg_wipe, State.wrote_wipe, wipe_ite,
      wipe_ite_fst, ite_self, implies_true]
  all_goals repeat' (split <;> try simp +zetaDelta (decide := true) only [State.irq_wipe, State.setCfg_wipe,
      State.wrote_wipe, wipe_ite, wipe_ite_fst, ite_self, implies_true])

theorem State.writeFailed_wipe (s : State) (w : MgrWrite) (resp : BitVec 2) (m : Nat) (h : 0x2002007000000 ||| m =
    m) :
    (s.writeFailed w resp).wipe m = s.wipe m := by
  refine wipe_mono h ?_
  unfold State.writeFailed
  try simp +zetaDelta (decide := true) only [wipe_mgr, State.bump_wipe, State.record_wipe, wipe_ite, wipe_ite_fst,
      ite_self, implies_true]
  all_goals repeat' (split <;> try simp +zetaDelta (decide := true) only [wipe_mgr, State.bump_wipe,
      State.record_wipe, wipe_ite, wipe_ite_fst, ite_self, implies_true])

theorem State.writeError_wipe (s : State) (w : MgrWrite) (resp : BitVec 2) (m : Nat) (h : 0x30020e7f71000 ||| m = m)
    :
    (s.writeError w resp).wipe m = s.wipe m := by
  refine wipe_mono h ?_
  unfold State.writeError
  try simp +zetaDelta (decide := true) only [State.writeFailed_wipe, State.setCfg_wipe, State.drainTickets_wipe,
      State.overflowTicket_wipe, State.triggerNote_wipe, State.bump_wipe, wipe_ite, wipe_ite_fst, ite_self,
      implies_true]
  all_goals repeat' (split <;> try simp +zetaDelta (decide := true) only [State.writeFailed_wipe,
      State.setCfg_wipe, State.drainTickets_wipe, State.overflowTicket_wipe, State.triggerNote_wipe,
      State.bump_wipe, wipe_ite, wipe_ite_fst, ite_self, implies_true])

theorem State.holdoffEnd_wipe (s : State) (r : Nat) (m : Nat) (h : 0x1000002000000 ||| m = m) :
    (s.holdoffEnd r).wipe m = s.wipe m := by
  refine wipe_mono h ?_
  unfold State.holdoffEnd
  try simp +zetaDelta (decide := true) only [State.irq_wipe, State.setRing_wipe, wipe_ite, wipe_ite_fst, ite_self,
      implies_true]
  all_goals repeat' (split <;> try simp +zetaDelta (decide := true) only [State.irq_wipe, State.setRing_wipe,
      wipe_ite, wipe_ite_fst, ite_self, implies_true])

theorem State.moveTicketConsumer_wipe (s : State) (p : Nat) (k : Nat) (c : Nat) (m : Nat) (h : 0x30020e7f71000 ||| m
    = m) :
    ∀ t, s.moveTicketConsumer p k c = some t → t.wipe m = s.wipe m := by
  intro t e
  refine wipe_mono h ?_
  unfold State.moveTicketConsumer at e
  revert e
  (repeat' split) <;> simp +zetaDelta (decide := true) only [reduceCtorEq, Option.some.injEq, false_imp_iff]
  all_goals (intro e; subst e; simp +zetaDelta (decide := true) only [State.drainTickets_wipe, State.setCfg_wipe,
      wipe_ite, wipe_ite_fst, ite_self, implies_true])

theorem State.moveNotifyConsumer_wipe (s : State) (r : Nat) (c : Nat) (m : Nat) (h : 0x4000000 ||| m = m) :
    ∀ t, s.moveNotifyConsumer r c = some t → t.wipe m = s.wipe m := by
  intro t e
  refine wipe_mono h ?_
  unfold State.moveNotifyConsumer at e
  revert e
  (repeat' split) <;> simp +zetaDelta (decide := true) only [reduceCtorEq, Option.some.injEq, false_imp_iff]
  all_goals (intro e; subst e; simp +zetaDelta (decide := true) only [State.setCfg_wipe, wipe_ite, wipe_ite_fst,
      ite_self, implies_true])

theorem State.moveConsumer_wipe (s : State) (p : Nat) (ring : RingName) (c : Nat) (m : Nat) (h : 0x30020e7f71000 |||
    m = m) :
    ∀ t, s.moveConsumer p ring c = some t → t.wipe m = s.wipe m := by
  intro t e
  refine wipe_mono h ?_
  unfold State.moveConsumer at e
  split at e
  · exact State.moveTicketConsumer_wipe _ _ _ _ _ (by decide) _ e
  · exact State.moveNotifyConsumer_wipe _ _ _ _ (by decide) _ e
  · exact State.moveNotifyConsumer_wipe _ _ _ _ (by decide) _ e

theorem State.setTicketRing_wipe (s : State) (p : Nat) (k : Nat) (sub : Nat) (v : Nat) (m : Nat) (h :
    0x30020e7f71000 ||| m = m) :
    (s.setTicketRing p k sub v).wipe m = s.wipe m := by
  refine wipe_mono h ?_
  unfold State.setTicketRing
  try simp +zetaDelta (decide := true) only [State.drainTickets_wipe, State.setCfg_wipe, wipe_ite, wipe_ite_fst,
      ite_self, implies_true]
  all_goals repeat' (split <;> try simp +zetaDelta (decide := true) only [State.drainTickets_wipe,
      State.setCfg_wipe, wipe_ite, wipe_ite_fst, ite_self, implies_true])

theorem State.setNotifyRing_wipe (s : State) (r : Nat) (sub : Nat) (v : Nat) (m : Nat) (h : 0x6000000 ||| m = m) :
    (s.setNotifyRing r sub v).wipe m = s.wipe m := by
  refine wipe_mono h ?_
  unfold State.setNotifyRing
  try simp +zetaDelta (decide := true) only [State.setRing_wipe, State.setCfg_wipe, wipe_ite, wipe_ite_fst,
      ite_self, implies_true]
  all_goals repeat' (split <;> try simp +zetaDelta (decide := true) only [State.setRing_wipe, State.setCfg_wipe,
      wipe_ite, wipe_ite_fst, ite_self, implies_true])

theorem State.invIssue_wipe (s : State) (p : Nat) (n : Nat) (x3 : List InvEntry) (m : Nat) (h : 0x1000000 ||| m = m)
    :
    (s.invIssue p n x3).wipe m = s.wipe m := by
  refine wipe_mono h ?_
  fun_induction State.invIssue s p n x3
  all_goals try simp +zetaDelta (decide := true) only [*, State.mgrIssue_wipe, wipe_ite, wipe_ite_fst, ite_self,
      implies_true]
  all_goals repeat' (split <;> try simp +zetaDelta (decide := true) only [*, State.mgrIssue_wipe, wipe_ite,
      wipe_ite_fst, ite_self, implies_true])

theorem State.takeInventory_wipe (s : State) (p : Nat) (reason : Nat) (round : BitVec 32) (m : Nat) (h : 0x5001000
    ||| m = m) :
    (s.takeInventory p reason round).wipe m = s.wipe m := by
  refine wipe_mono h ?_
  unfold State.takeInventory
  try simp +zetaDelta (decide := true) only [State.invIssue_wipe, State.modPart_wipe, State.setCfg_wipe, wipe_ite,
      wipe_ite_fst, ite_self, implies_true]
  all_goals repeat' (split <;> try simp +zetaDelta (decide := true) only [State.invIssue_wipe, State.modPart_wipe,
      State.setCfg_wipe, wipe_ite, wipe_ite_fst, ite_self, implies_true])

theorem State.abortInventory_wipe (s : State) (p : Nat) (m : Nat) (h : 0x5001000 ||| m = m) :
    (s.abortInventory p).wipe m = s.wipe m := by
  refine wipe_mono h ?_
  unfold State.abortInventory
  try simp +zetaDelta (decide := true) only [wipe_mgr, State.invIssue_wipe, State.modPart_wipe, State.setCfg_wipe,
      wipe_ite, wipe_ite_fst, ite_self, implies_true]
  all_goals repeat' (split <;> try simp +zetaDelta (decide := true) only [wipe_mgr, State.invIssue_wipe,
      State.modPart_wipe, State.setCfg_wipe, wipe_ite, wipe_ite_fst, ite_self, implies_true])

theorem State.inventoryDone_wipe (s : State) (p : Nat) (m : Nat) (h : 0x2000007001000 ||| m = m) :
    (s.inventoryDone p).wipe m = s.wipe m := by
  refine wipe_mono h ?_
  unfold State.inventoryDone
  try simp +zetaDelta (decide := true) only [wipe_mgr, State.pcount_wipe, State.notifyRing_wipe,
      State.modPart_wipe, wipe_ite, wipe_ite_fst, ite_self, implies_true]
  all_goals repeat' (split <;> try simp +zetaDelta (decide := true) only [wipe_mgr, State.pcount_wipe,
      State.notifyRing_wipe, State.modPart_wipe, wipe_ite, wipe_ite_fst, ite_self, implies_true])

end Sys2Proof.Machine
end

