-- ==== Sys2Proof/Laws/KeepsPartitions.lean ====
section
/-! SUPPORT. What each operation of Partitions.lean changes at most: blotting out the fields of its mask takes away every
difference that it makes. -/

set_option linter.all false

namespace Sys2Proof.Machine

theorem State.clearNears_wipe (s : State) (q : Nat) (m : Nat) (h : 0x100000 ||| m = m) :
    (s.clearNears q).wipe m = s.wipe m := by
  refine wipe_mono h ?_
  unfold State.clearNears
  try simp +zetaDelta (decide := true) only [State.modPort_wipe, wipe_ite, wipe_ite_fst, ite_self, implies_true]
  all_goals repeat' (split <;> try simp +zetaDelta (decide := true) only [State.modPort_wipe, wipe_ite,
      wipe_ite_fst, ite_self, implies_true])

theorem State.clearView_wipe (s : State) (w : Nat) (m : Nat) (h : 0x4000000000 ||| m = m) :
    (s.clearView w).wipe m = s.wipe m := by
  refine wipe_mono h ?_
  unfold State.clearView
  try simp +zetaDelta (decide := true) only [State.setView_wipe, wipe_ite, wipe_ite_fst, ite_self, implies_true]
  all_goals repeat' (split <;> try simp +zetaDelta (decide := true) only [State.setView_wipe, wipe_ite,
      wipe_ite_fst, ite_self, implies_true])

theorem State.sweep_wipe (s : State) (p : Nat) (m : Nat) (h : 0x8400497d000 ||| m = m) :
    (s.sweep p).wipe m = s.wipe m := by
  refine wipe_mono h ?_
  unfold State.sweep
  try simp +zetaDelta (decide := true) only [wipe_objs_wideBits_waiters_lenders_ledgers_buffered_cat_flips,
      State.modPart_wipe, State.each_wipe, State.clearNears_wipe, State.clearView_wipe, wipe_ite, wipe_ite_fst,
      ite_self, implies_true]
  all_goals repeat' (split <;> try simp +zetaDelta (decide := true) only
      [wipe_objs_wideBits_waiters_lenders_ledgers_buffered_cat_flips, State.modPart_wipe, State.each_wipe,
      State.clearNears_wipe, State.clearView_wipe, wipe_ite, wipe_ite_fst, ite_self, implies_true])

theorem State.raiseQuiesce_wipe (s : State) (p : Nat) (slice : Bool) (m : Nat) (h : 0x1000 ||| m = m) :
    (s.raiseQuiesce p slice).wipe m = s.wipe m := by
  refine wipe_mono h ?_
  unfold State.raiseQuiesce
  try simp +zetaDelta (decide := true) only [State.modPart_wipe, wipe_ite, wipe_ite_fst, ite_self, implies_true]
  all_goals repeat' (split <;> try simp +zetaDelta (decide := true) only [State.modPart_wipe, wipe_ite,
      wipe_ite_fst, ite_self, implies_true])

theorem State.lowerQuiesce_wipe (s : State) (p : Nat) (m : Nat) (h : 0x1000 ||| m = m) :
    (s.lowerQuiesce p).wipe m = s.wipe m := by
  refine wipe_mono h ?_
  unfold State.lowerQuiesce
  try simp +zetaDelta (decide := true) only [State.modPart_wipe, wipe_ite, wipe_ite_fst, ite_self, implies_true]
  all_goals repeat' (split <;> try simp +zetaDelta (decide := true) only [State.modPart_wipe, wipe_ite,
      wipe_ite_fst, ite_self, implies_true])

theorem State.resliceNote_wipe (s : State) (old : Nat) (new : Nat) (swept : Nat) (outcome : Nat) (startedAt : Time)
    (m : Nat) (h : 0x2000007000000 ||| m = m) :
    (s.resliceNote old new swept outcome startedAt).wipe m = s.wipe m := by
  refine wipe_mono h ?_
  unfold State.resliceNote
  try simp +zetaDelta (decide := true) only [State.notifyRing_wipe, wipe_ite, wipe_ite_fst, ite_self,
      implies_true]
  all_goals repeat' (split <;> try simp +zetaDelta (decide := true) only [State.notifyRing_wipe, wipe_ite,
      wipe_ite_fst, ite_self, implies_true])

theorem State.sliceNames_wipe (s : State) (n : Nat) (m : Nat) (h : 0x1004000000 ||| m = m) :
    (s.sliceNames n).wipe m = s.wipe m := by
  refine wipe_mono h ?_
  unfold State.sliceNames
  try simp +zetaDelta (decide := true) only [State.each_wipe, State.setCfg_wipe, State.setEv_wipe, wipe_ite,
      wipe_ite_fst, ite_self, implies_true]
  all_goals repeat' (split <;> try simp +zetaDelta (decide := true) only [State.each_wipe, State.setCfg_wipe,
      State.setEv_wipe, wipe_ite, wipe_ite_fst, ite_self, implies_true])

theorem State.resliceComplete_wipe (s : State) (m : Nat) (h : 0x30878fffff800 ||| m = m) :
    (s.resliceComplete).wipe m = s.wipe m := by
  refine wipe_mono h ?_
  unfold State.resliceComplete
  simp +zetaDelta (maxDischargeDepth := 8) (decide := true) only [wipe_partCount_reslice_notify_cat_devMap,
      State.each_wipe, State.resumeHere_wipe, State.abortInventory_wipe, State.clearNears_wipe,
      State.clearView_wipe, State.modSlot_wipe, State.sweep_wipe, State.modPart_wipe, State.resliceNote_wipe,
      State.sliceNames_wipe, State.wakeSlot_wipe, wipe_ite, wipe_ite_fst, ite_self, implies_true]

theorem State.tryReslice_wipe (s : State) (m : Nat) (h : 0x30878fffff800 ||| m = m) :
    (s.tryReslice).wipe m = s.wipe m := by
  refine wipe_mono h ?_
  unfold State.tryReslice
  try simp +zetaDelta (decide := true) only [State.resliceComplete_wipe, wipe_ite, wipe_ite_fst, ite_self,
      implies_true]
  all_goals repeat' (split <;> try simp +zetaDelta (decide := true) only [State.resliceComplete_wipe, wipe_ite,
      wipe_ite_fst, ite_self, implies_true])

theorem State.sliceRaise_wipe (s : State) (p : Nat) (m : Nat) (h : 0x1000 ||| m = m) :
    (s.sliceRaise p).wipe m = s.wipe m := by
  refine wipe_mono h ?_
  unfold State.sliceRaise
  try simp +zetaDelta (decide := true) only [State.raiseQuiesce_wipe, wipe_ite, wipe_ite_fst, ite_self,
      implies_true]
  all_goals repeat' (split <;> try simp +zetaDelta (decide := true) only [State.raiseQuiesce_wipe, wipe_ite,
      wipe_ite_fst, ite_self, implies_true])

theorem State.sliceQuiesced_wipe (s : State) (p : Nat) (override : Bool) (m : Nat) (h : 0x2000 ||| m = m) :
    (s.sliceQuiesced p override).wipe m = s.wipe m := by
  refine wipe_mono h ?_
  unfold State.sliceQuiesced
  try simp +zetaDelta (decide := true) only [wipe_reslice, wipe_ite, wipe_ite_fst, ite_self, implies_true]
  all_goals repeat' (split <;> try simp +zetaDelta (decide := true) only [wipe_reslice, wipe_ite, wipe_ite_fst,
      ite_self, implies_true])

theorem State.startReslice_wipe (s : State) (n : Nat) (m : Nat) (h : 0x30020e7022000 ||| m = m) :
    (s.startReslice n).1.wipe m = s.wipe m := by
  refine wipe_mono h ?_
  unfold State.startReslice
  try simp +zetaDelta (decide := true) only [wipe_reslice, State.recallAll_wipe, wipe_ite, wipe_ite_fst, ite_self,
      implies_true]
  all_goals repeat' (split <;> try simp +zetaDelta (decide := true) only [wipe_reslice, State.recallAll_wipe,
      wipe_ite, wipe_ite_fst, ite_self, implies_true])

theorem State.resliceDrained_wipe (s : State) (m : Nat) (h : 0x3000 ||| m = m) :
    (s.resliceDrained).wipe m = s.wipe m := by
  refine wipe_mono h ?_
  unfold State.resliceDrained
  try simp +zetaDelta (decide := true) only [wipe_reslice, State.each_wipe, State.sliceRaise_wipe, wipe_ite,
      wipe_ite_fst, ite_self, implies_true]
  all_goals repeat' (split <;> try simp +zetaDelta (decide := true) only [wipe_reslice, State.each_wipe,
      State.sliceRaise_wipe, wipe_ite, wipe_ite_fst, ite_self, implies_true])

theorem State.abortReslice_wipe (s : State) (m : Nat) (h : 0x2000007002000 ||| m = m) :
    (s.abortReslice).wipe m = s.wipe m := by
  refine wipe_mono h ?_
  unfold State.abortReslice
  try simp +zetaDelta (decide := true) only [wipe_reslice, State.resliceNote_wipe, wipe_ite, wipe_ite_fst,
      ite_self, implies_true]
  all_goals repeat' (split <;> try simp +zetaDelta (decide := true) only [wipe_reslice, State.resliceNote_wipe,
      wipe_ite, wipe_ite_fst, ite_self, implies_true])

theorem State.sendPart_wipe (s : State) (dst : HubId) (p : Nat) (k : PartCtlKind) (b : PartCtlBody) (m : Nat) (h :
    0x30020e7000000 ||| m = m) :
    (s.sendPart dst p k b).wipe m = s.wipe m := by
  refine wipe_mono h ?_
  unfold State.sendPart
  try simp +zetaDelta (decide := true) only [State.send_wipe, wipe_ite, wipe_ite_fst, ite_self, implies_true]
  all_goals repeat' (split <;> try simp +zetaDelta (decide := true) only [State.send_wipe, wipe_ite, wipe_ite_fst,
      ite_self, implies_true])

theorem State.answerAskers_wipe (s : State) (p : Nat) (b : BitVec 8 → PartCtlBody) (x3 : List ResetAsker) (m : Nat)
    (h : 0x30020e7000000 ||| m = m) :
    (s.answerAskers p b x3).wipe m = s.wipe m := by
  refine wipe_mono h ?_
  fun_induction State.answerAskers s p b x3
  all_goals try simp +zetaDelta (decide := true) only [*, State.sendPart_wipe, wipe_ite, wipe_ite_fst, ite_self,
      implies_true]
  all_goals repeat' (split <;> try simp +zetaDelta (decide := true) only [*, State.sendPart_wipe, wipe_ite,
      wipe_ite_fst, ite_self, implies_true])

theorem State.askPeers_wipe (s : State) (p : Nat) (k : PartCtlKind) (b : PartCtlBody) (x4 : List HubId) (m : Nat) (h
    : 0x30020e7000000 ||| m = m) :
    (s.askPeers p k b x4).wipe m = s.wipe m := by
  refine wipe_mono h ?_
  fun_induction State.askPeers s p k b x4
  all_goals try simp +zetaDelta (decide := true) only [*, State.sendPart_wipe, wipe_ite, wipe_ite_fst, ite_self,
      implies_true]
  all_goals repeat' (split <;> try simp +zetaDelta (decide := true) only [*, State.sendPart_wipe, wipe_ite,
      wipe_ite_fst, ite_self, implies_true])

theorem State.modReset_wipe (s : State) (p : Nat) (f : ResetSeq → ResetSeq) (m : Nat) (h : 0x1000 ||| m = m) :
    (s.modReset p f).wipe m = s.wipe m := by
  refine wipe_mono h ?_
  unfold State.modReset
  try simp +zetaDelta (decide := true) only [State.modPart_wipe, wipe_ite, wipe_ite_fst, ite_self, implies_true]
  all_goals repeat' (split <;> try simp +zetaDelta (decide := true) only [State.modPart_wipe, wipe_ite,
      wipe_ite_fst, ite_self, implies_true])

theorem State.endDeposits_wipe (s : State) (p : Nat) (m : Nat) (h : 0x30828fff75000 ||| m = m) :
    (s.endDeposits p).wipe m = s.wipe m := by
  refine wipe_mono h ?_
  unfold State.endDeposits
  try simp +zetaDelta (decide := true) only [State.each_wipe, State.modPart_wipe, State.endHold_wipe, wipe_ite,
      wipe_ite_fst, ite_self, implies_true]
  all_goals repeat' (split <;> try simp +zetaDelta (decide := true) only [State.each_wipe, State.modPart_wipe,
      State.endHold_wipe, wipe_ite, wipe_ite_fst, ite_self, implies_true])

theorem State.resetStep1_wipe (s : State) (p : Nat) (m : Nat) (h : 0x30828fff75000 ||| m = m) :
    (s.resetStep1 p).wipe m = s.wipe m := by
  refine wipe_mono h ?_
  unfold State.resetStep1
  try simp +zetaDelta (decide := true) only [State.each_wipe, State.failShelf_wipe, State.abortInventory_wipe,
      State.endDeposits_wipe, wipe_ite, wipe_ite_fst, ite_self, implies_true]
  all_goals repeat' (split <;> try simp +zetaDelta (decide := true) only [State.each_wipe, State.failShelf_wipe,
      State.abortInventory_wipe, State.endDeposits_wipe, wipe_ite, wipe_ite_fst, ite_self, implies_true])

theorem State.returnReset_wipe (s : State) (p : Nat) (e : Ledger) (m : Nat) (h : 0x30020e7040000 ||| m = m) :
    (s.returnReset p e).wipe m = s.wipe m := by
  refine wipe_mono h ?_
  unfold State.returnReset
  try simp +zetaDelta (decide := true) only [wipe_ledgers, State.sendLoan_wipe, wipe_ite, wipe_ite_fst, ite_self,
      implies_true]
  all_goals repeat' (split <;> try simp +zetaDelta (decide := true) only [wipe_ledgers, State.sendLoan_wipe,
      wipe_ite, wipe_ite_fst, ite_self, implies_true])

theorem State.returnAll_wipe (s : State) (p : Nat) (x2 : List Ledger) (m : Nat) (h : 0x30020e7040000 ||| m = m) :
    (s.returnAll p x2).wipe m = s.wipe m := by
  refine wipe_mono h ?_
  fun_induction State.returnAll s p x2
  all_goals try simp +zetaDelta (decide := true) only [*, State.returnReset_wipe, wipe_ite, wipe_ite_fst,
      ite_self, implies_true]
  all_goals repeat' (split <;> try simp +zetaDelta (decide := true) only [*, State.returnReset_wipe, wipe_ite,
      wipe_ite_fst, ite_self, implies_true])

theorem State.resetPort_wipe (s : State) (p : Nat) (q : Nat) (m : Nat) (h : 0x30aa8ffffd000 ||| m = m) :
    (s.resetPort p q).wipe m = s.wipe m := by
  refine wipe_mono h ?_
  unfold State.resetPort
  try simp +zetaDelta (decide := true) only [State.endNears_wipe, State.setPort_wipe, State.wakePort_wipe,
      State.offerAll_wipe, State.pcount_wipe, wipe_ite, wipe_ite_fst, ite_self, implies_true]
  all_goals repeat' (split <;> try simp +zetaDelta (decide := true) only [State.endNears_wipe, State.setPort_wipe,
      State.wakePort_wipe, State.offerAll_wipe, State.pcount_wipe, wipe_ite, wipe_ite_fst, ite_self,
      implies_true])

theorem State.resetStep2_wipe (s : State) (p : Nat) (m : Nat) (h : 0x30aa8ffffd000 ||| m = m) :
    (s.resetStep2 p).wipe m = s.wipe m := by
  refine wipe_mono h ?_
  unfold State.resetStep2
  try simp +zetaDelta (decide := true) only [wipe_buffered, State.bumpN_wipe, State.endWaiters_wipe,
      State.resumeHere_wipe, State.returnAll_wipe, State.pcount_wipe, State.each_wipe, State.resetPort_wipe,
      wipe_ite, wipe_ite_fst, ite_self, implies_true]
  all_goals repeat' (split <;> try simp +zetaDelta (decide := true) only [wipe_buffered, State.bumpN_wipe,
      State.endWaiters_wipe, State.resumeHere_wipe, State.returnAll_wipe, State.pcount_wipe, State.each_wipe,
      State.resetPort_wipe, wipe_ite, wipe_ite_fst, ite_self, implies_true])

theorem State.resetStep6_wipe (s : State) (p : Nat) (m : Nat) (h : 0x30878fffff800 ||| m = m) :
    (s.resetStep6 p).wipe m = s.wipe m := by
  refine wipe_mono h ?_
  unfold State.resetStep6
  try simp +zetaDelta (decide := true) only [State.modPart_wipe, State.sweep_wipe, State.tryReslice_wipe,
      State.answerAskers_wipe, wipe_ite, wipe_ite_fst, ite_self, implies_true]
  all_goals repeat' (split <;> try simp +zetaDelta (decide := true) only [State.modPart_wipe, State.sweep_wipe,
      State.tryReslice_wipe, State.answerAskers_wipe, wipe_ite, wipe_ite_fst, ite_self, implies_true])

theorem State.resetStep4_wipe (s : State) (p : Nat) (m : Nat) (h : 0x1000 ||| m = m) :
    (s.resetStep4 p).wipe m = s.wipe m := by
  refine wipe_mono h ?_
  unfold State.resetStep4
  try simp +zetaDelta (decide := true) only [State.modReset_wipe, State.raiseQuiesce_wipe, wipe_ite, wipe_ite_fst,
      ite_self, implies_true]
  all_goals repeat' (split <;> try simp +zetaDelta (decide := true) only [State.modReset_wipe,
      State.raiseQuiesce_wipe, wipe_ite, wipe_ite_fst, ite_self, implies_true])

theorem State.resetRecalled_wipe (s : State) (p : Nat) (m : Nat) (h : 0x1000 ||| m = m) :
    (s.resetRecalled p).wipe m = s.wipe m := by
  refine wipe_mono h ?_
  unfold State.resetRecalled
  try simp +zetaDelta (decide := true) only [State.resetStep4_wipe, wipe_ite, wipe_ite_fst, ite_self,
      implies_true]
  all_goals repeat' (split <;> try simp +zetaDelta (decide := true) only [State.resetStep4_wipe, wipe_ite,
      wipe_ite_fst, ite_self, implies_true])

theorem State.beginReset_wipe (s : State) (p : Nat) (new : BitVec 8) (isContext : Bool) (load : Option (BitVec 64))
    (m : Nat) (h : 0x30aa8ffffd000 ||| m = m) :
    (s.beginReset p new isContext load).wipe m = s.wipe m := by
  refine wipe_mono h ?_
  unfold State.beginReset
  try simp +zetaDelta (decide := true) only [State.modReset_wipe, State.resetStep2_wipe, State.resetStep1_wipe,
      State.resetRecalled_wipe, State.recallAll_wipe, wipe_ite, wipe_ite_fst, ite_self, implies_true]
  all_goals repeat' (split <;> try simp +zetaDelta (decide := true) only [State.modReset_wipe,
      State.resetStep2_wipe, State.resetStep1_wipe, State.resetRecalled_wipe, State.recallAll_wipe, wipe_ite,
      wipe_ite_fst, ite_self, implies_true])

theorem State.startReset_wipe (s : State) (p : Nat) (isContext : Bool) (load : Option (BitVec 64)) (m : Nat) (h :
    0x30aa8ffffd000 ||| m = m) :
    (s.startReset p isContext load).wipe m = s.wipe m := by
  refine wipe_mono h ?_
  unfold State.startReset
  try simp +zetaDelta (decide := true) only [State.beginReset_wipe, State.bumpN_wipe, State.modReset_wipe,
      State.askPeers_wipe, wipe_ite, wipe_ite_fst, ite_self, implies_true]
  all_goals repeat' (split <;> try simp +zetaDelta (decide := true) only [State.beginReset_wipe, State.bumpN_wipe,
      State.modReset_wipe, State.askPeers_wipe, wipe_ite, wipe_ite_fst, ite_self, implies_true])

theorem State.writeReset_wipe (s : State) (p : Nat) (v : Nat) (m : Nat) (h : 0x30aa8ffffd000 ||| m = m) :
    (s.writeReset p v).1.wipe m = s.wipe m := by
  refine wipe_mono h ?_
  unfold State.writeReset
  try simp +zetaDelta (decide := true) only [State.startReset_wipe, wipe_ite, wipe_ite_fst, ite_self,
      implies_true]
  all_goals repeat' (split <;> try simp +zetaDelta (decide := true) only [State.startReset_wipe, wipe_ite,
      wipe_ite_fst, ite_self, implies_true])

theorem State.writeContext_wipe (s : State) (p : Nat) (v : BitVec 64) (m : Nat) (h : 0x30aa8ffffd000 ||| m = m) :
    (s.writeContext p v).1.wipe m = s.wipe m := by
  refine wipe_mono h ?_
  unfold State.writeContext
  try simp +zetaDelta (decide := true) only [State.modReset_wipe, State.modPart_wipe, State.startReset_wipe,
      State.bump_wipe, wipe_ite, wipe_ite_fst, ite_self, implies_true]
  all_goals repeat' (split <;> try simp +zetaDelta (decide := true) only [State.modReset_wipe, State.modPart_wipe,
      State.startReset_wipe, State.bump_wipe, wipe_ite, wipe_ite_fst, ite_self, implies_true])

theorem State.resetQuiesced_wipe (s : State) (p : Nat) (override : Bool) (m : Nat) (h : 0x30878fffff800 ||| m = m) :
    (s.resetQuiesced p override).wipe m = s.wipe m := by
  refine wipe_mono h ?_
  unfold State.resetQuiesced
  try simp +zetaDelta (decide := true) only [State.resetStep6_wipe, State.modReset_wipe, wipe_ite, wipe_ite_fst,
      ite_self, implies_true]
  all_goals repeat' (split <;> try simp +zetaDelta (decide := true) only [State.resetStep6_wipe,
      State.modReset_wipe, wipe_ite, wipe_ite_fst, ite_self, implies_true])

theorem State.ackRise_wipe (s : State) (p : Nat) (m : Nat) (h : 0x30878fffff800 ||| m = m) :
    (s.ackRise p).wipe m = s.wipe m := by
  refine wipe_mono h ?_
  unfold State.ackRise
  try simp +zetaDelta (decide := true) only [State.modPart_wipe, State.bump_wipe, State.lowerQuiesce_wipe,
      State.tryReslice_wipe, State.sliceQuiesced_wipe, State.resetQuiesced_wipe, wipe_ite, wipe_ite_fst, ite_self,
      implies_true]
  all_goals repeat' (split <;> try simp +zetaDelta (decide := true) only [State.modPart_wipe, State.bump_wipe,
      State.lowerQuiesce_wipe, State.tryReslice_wipe, State.sliceQuiesced_wipe, State.resetQuiesced_wipe,
      wipe_ite, wipe_ite_fst, ite_self, implies_true])

theorem State.nextQuiesce_wipe (s : State) (p : Nat) (m : Nat) (h : 0x1000 ||| m = m) :
    (s.nextQuiesce p).wipe m = s.wipe m := by
  refine wipe_mono h ?_
  unfold State.nextQuiesce
  try simp +zetaDelta (decide := true) only [State.resetStep4_wipe, State.sliceRaise_wipe, wipe_ite, wipe_ite_fst,
      ite_self, implies_true]
  all_goals repeat' (split <;> try simp +zetaDelta (decide := true) only [State.resetStep4_wipe,
      State.sliceRaise_wipe, wipe_ite, wipe_ite_fst, ite_self, implies_true])

theorem State.ackFall_wipe (s : State) (p : Nat) (m : Nat) (h : 0x1000 ||| m = m) :
    (s.ackFall p).wipe m = s.wipe m := by
  refine wipe_mono h ?_
  unfold State.ackFall
  try simp +zetaDelta (decide := true) only [State.nextQuiesce_wipe, State.modPart_wipe, wipe_ite, wipe_ite_fst,
      ite_self, implies_true]
  all_goals repeat' (split <;> try simp +zetaDelta (decide := true) only [State.nextQuiesce_wipe,
      State.modPart_wipe, wipe_ite, wipe_ite_fst, ite_self, implies_true])

theorem State.override_wipe (s : State) (p : Nat) (m : Nat) (h : 0x30878fffff800 ||| m = m) :
    (s.override p).wipe m = s.wipe m := by
  refine wipe_mono h ?_
  unfold State.override
  try simp +zetaDelta (decide := true) only [State.sliceQuiesced_wipe, State.bump_wipe, State.lowerQuiesce_wipe,
      State.resetQuiesced_wipe, State.tryReslice_wipe, wipe_ite, wipe_ite_fst, ite_self, implies_true]
  all_goals repeat' (split <;> try simp +zetaDelta (decide := true) only [State.sliceQuiesced_wipe,
      State.bump_wipe, State.lowerQuiesce_wipe, State.resetQuiesced_wipe, State.tryReslice_wipe, wipe_ite,
      wipe_ite_fst, ite_self, implies_true])

theorem State.quiesceWait_wipe (s : State) (p : Nat) (m : Nat) (h : 0x2002007001000 ||| m = m) :
    (s.quiesceWait p).wipe m = s.wipe m := by
  refine wipe_mono h ?_
  unfold State.quiesceWait
  try simp +zetaDelta (decide := true) only [State.record_wipe, State.modPart_wipe, wipe_ite, wipe_ite_fst,
      ite_self, implies_true]
  all_goals repeat' (split <;> try simp +zetaDelta (decide := true) only [State.record_wipe, State.modPart_wipe,
      wipe_ite, wipe_ite_fst, ite_self, implies_true])

theorem State.resetRequest_wipe (s : State) (src : HubId) (p : Nat) (ctx : Bool) (b : PartCtlBody) (m : Nat) (h :
    0x30aa8ffffd000 ||| m = m) :
    (s.resetRequest src p ctx b).wipe m = s.wipe m := by
  refine wipe_mono h ?_
  unfold State.resetRequest
  try simp +zetaDelta (decide := true) only [State.answerAskers_wipe, State.modReset_wipe, State.beginReset_wipe,
      wipe_ite, wipe_ite_fst, ite_self, implies_true]
  all_goals repeat' (split <;> try simp +zetaDelta (decide := true) only [State.answerAskers_wipe,
      State.modReset_wipe, State.beginReset_wipe, wipe_ite, wipe_ite_fst, ite_self, implies_true])

theorem State.peersDone_wipe (s : State) (p : Nat) (m : Nat) (h : 0x1000 ||| m = m) :
    (s.peersDone p).wipe m = s.wipe m := by
  refine wipe_mono h ?_
  unfold State.peersDone
  try simp +zetaDelta (decide := true) only [State.modReset_wipe, wipe_ite, wipe_ite_fst, ite_self, implies_true]
  all_goals repeat' (split <;> try simp +zetaDelta (decide := true) only [State.modReset_wipe, wipe_ite,
      wipe_ite_fst, ite_self, implies_true])

theorem State.resetAnswer_wipe (s : State) (src : HubId) (p : Nat) (b : PartCtlBody) (m : Nat) (h : 0x2000004001000
    ||| m = m) :
    (s.resetAnswer src p b).wipe m = s.wipe m := by
  refine wipe_mono h ?_
  unfold State.resetAnswer
  try simp +zetaDelta (decide := true) only [State.modReset_wipe, State.peersDone_wipe, State.bump_wipe, wipe_ite,
      wipe_ite_fst, ite_self, implies_true]
  all_goals repeat' (split <;> try simp +zetaDelta (decide := true) only [State.modReset_wipe,
      State.peersDone_wipe, State.bump_wipe, wipe_ite, wipe_ite_fst, ite_self, implies_true])

theorem State.resetMissing_wipe (s : State) (p : Nat) (h : HubId) (m : Nat) (hm : 0x2000004001000 ||| m = m) :
    (s.resetMissing p h).wipe m = s.wipe m := by
  refine wipe_mono hm ?_
  unfold State.resetMissing
  try simp +zetaDelta (decide := true) only [State.peersDone_wipe, State.bump_wipe, State.modReset_wipe, wipe_ite,
      wipe_ite_fst, ite_self, implies_true]
  all_goals repeat' (split <;> try simp +zetaDelta (decide := true) only [State.peersDone_wipe, State.bump_wipe,
      State.modReset_wipe, wipe_ite, wipe_ite_fst, ite_self, implies_true])

theorem State.writePortPartition_wipe (s : State) (q : Nat) (v : Nat) (m : Nat) (h : 0x4000000 ||| m = m) :
    (s.writePortPartition q v).1.wipe m = s.wipe m := by
  refine wipe_mono h ?_
  unfold State.writePortPartition
  try simp +zetaDelta (decide := true) only [State.setCfg_wipe, wipe_ite, wipe_ite_fst, ite_self, implies_true]
  all_goals repeat' (split <;> try simp +zetaDelta (decide := true) only [State.setCfg_wipe, wipe_ite,
      wipe_ite_fst, ite_self, implies_true])

end Sys2Proof.Machine
end

