-- ==== Sys2Proof/Laws/KeepsEvents.lean ====
section
/-! SUPPORT. What each operation of Events.lean changes at most: blotting out the fields of its mask takes away every
difference that it makes. -/

set_option linter.all false

namespace Sys2Proof.Machine

theorem State.recordTimeout_wipe (s : State) (o : HomeOp) (m : Nat) (h : 0x2002007000000 ||| m = m) :
    (s.recordTimeout o).wipe m = s.wipe m := by
  refine wipe_mono h ?_
  unfold State.recordTimeout
  try simp +zetaDelta (decide := true) only [State.record_wipe, wipe_ite, wipe_ite_fst, ite_self, implies_true]
  all_goals repeat' (split <;> try simp +zetaDelta (decide := true) only [State.record_wipe, wipe_ite,
      wipe_ite_fst, ite_self, implies_true])

theorem State.expire_wipe (s : State) (num : Nat) (m : Nat) (h : 0x30020e74f4000 ||| m = m) :
    (s.expire num).wipe m = s.wipe m := by
  refine wipe_mono h ?_
  unfold State.expire
  try simp +zetaDelta (decide := true) only [State.recordTimeout_wipe, State.act_wipe, State.pcount_wipe,
      State.serveAfter_wipe, State.endWait_wipe, wipe_ite, wipe_ite_fst, ite_self, implies_true]
  all_goals repeat' (split <;> try simp +zetaDelta (decide := true) only [State.recordTimeout_wipe,
      State.act_wipe, State.pcount_wipe, State.serveAfter_wipe, State.endWait_wipe, wipe_ite, wipe_ite_fst,
      ite_self, implies_true])

theorem State.agedWalk_wipe (s : State) (m : Nat) (h : 0x10000 ||| m = m) :
    (s.agedWalk).wipe m = s.wipe m := by
  refine wipe_mono h ?_
  unfold State.agedWalk
  try simp +zetaDelta (decide := true) only [wipe_waiters, wipe_ite, wipe_ite_fst, ite_self, implies_true]
  all_goals repeat' (split <;> try simp +zetaDelta (decide := true) only [wipe_waiters, wipe_ite, wipe_ite_fst,
      ite_self, implies_true])

theorem State.cancelAll_wipe (s : State) (x1 : List Nat) (m : Nat) (h : 0x30020e74f4000 ||| m = m) :
    (s.cancelAll x1).wipe m = s.wipe m := by
  refine wipe_mono h ?_
  fun_induction State.cancelAll s x1
  all_goals try simp +zetaDelta (decide := true) only [*, State.serveAfter_wipe, State.endWait_wipe, wipe_ite,
      wipe_ite_fst, ite_self, implies_true]
  all_goals repeat' (split <;> try simp +zetaDelta (decide := true) only [*, State.serveAfter_wipe,
      State.endWait_wipe, wipe_ite, wipe_ite_fst, ite_self, implies_true])

theorem State.cancelObject_wipe (s : State) (p : Nat) (h : Handle) (m : Nat) (hm : 0x30020e74f4000 ||| m = m) :
    (s.cancelObject p h).1.wipe m = s.wipe m := by
  refine wipe_mono hm ?_
  unfold State.cancelObject
  try simp +zetaDelta (decide := true) only [State.cancelAll_wipe, wipe_ite, wipe_ite_fst, ite_self, implies_true]
  all_goals repeat' (split <;> try simp +zetaDelta (decide := true) only [State.cancelAll_wipe, wipe_ite,
      wipe_ite_fst, ite_self, implies_true])

theorem State.cancelOriginator_wipe (s : State) (p : Nat) (o : Originator) (m : Nat) (h : 0x30020e74f4000 ||| m = m)
    :
    (s.cancelOriginator p o).1.wipe m = s.wipe m := by
  refine wipe_mono h ?_
  unfold State.cancelOriginator
  try simp +zetaDelta (decide := true) only [State.cancelAll_wipe, wipe_ite, wipe_ite_fst, ite_self, implies_true]
  all_goals repeat' (split <;> try simp +zetaDelta (decide := true) only [State.cancelAll_wipe, wipe_ite,
      wipe_ite_fst, ite_self, implies_true])

theorem State.discardMessage_wipe (s : State) (p : Nat) (v : Selvedge) (m : Nat) (h : 0x2000004000000 ||| m = m) :
    (s.discardMessage p v).wipe m = s.wipe m := by
  refine wipe_mono h ?_
  unfold State.discardMessage
  try simp +zetaDelta (decide := true) only [State.pcount_wipe, State.countSelvedge_wipe, wipe_ite, wipe_ite_fst,
      ite_self, implies_true]
  all_goals repeat' (split <;> try simp +zetaDelta (decide := true) only [State.pcount_wipe,
      State.countSelvedge_wipe, wipe_ite, wipe_ite_fst, ite_self, implies_true])

theorem State.holderResetMsg_wipe (s0 : State) (b : HolderResetBody) (m : Nat) (h : 0x30828ffff5000 ||| m = m) :
    (s0.holderResetMsg b).wipe m = s0.wipe m := by
  refine wipe_mono h ?_
  unfold State.holderResetMsg
  try simp +zetaDelta (decide := true) only [State.accessObj_wipe, State.holderReset_wipe,
      State.discardMessage_wipe, wipe_ite, wipe_ite_fst, ite_self, implies_true]
  all_goals repeat' (split <;> try simp +zetaDelta (decide := true) only [State.accessObj_wipe,
      State.holderReset_wipe, State.discardMessage_wipe, wipe_ite, wipe_ite_fst, ite_self, implies_true])

theorem State.purgeAll_wipe (s : State) (x1 : List Nat) (m : Nat) (h : 0x30020e74f4000 ||| m = m) :
    (s.purgeAll x1).wipe m = s.wipe m := by
  refine wipe_mono h ?_
  fun_induction State.purgeAll s x1
  all_goals try simp +zetaDelta (decide := true) only [*, State.unwaitParked_wipe, State.serveAfter_wipe,
      State.freeWaiter_wipe, wipe_ite, wipe_ite_fst, ite_self, implies_true]
  all_goals repeat' (split <;> try simp +zetaDelta (decide := true) only [*, State.unwaitParked_wipe,
      State.serveAfter_wipe, State.freeWaiter_wipe, wipe_ite, wipe_ite_fst, ite_self, implies_true])

theorem State.purge_wipe (s : State) (b : WaiterPurgeBody) (m : Nat) (h : 0x30020e74f4000 ||| m = m) :
    (s.purge b).wipe m = s.wipe m := by
  refine wipe_mono h ?_
  unfold State.purge
  try simp +zetaDelta (decide := true) only [State.purgeAll_wipe, State.discardMessage_wipe, wipe_ite,
      wipe_ite_fst, ite_self, implies_true]
  all_goals repeat' (split <;> try simp +zetaDelta (decide := true) only [State.purgeAll_wipe,
      State.discardMessage_wipe, wipe_ite, wipe_ite_fst, ite_self, implies_true])

theorem State.sendHolderResets_wipe (s : State) (q : Nat) (x2 : List HeldLock) (m : Nat) (h : 0x30828ffff5000 ||| m
    = m) :
    (s.sendHolderResets q x2).wipe m = s.wipe m := by
  refine wipe_mono h ?_
  fun_induction State.sendHolderResets s q x2
  all_goals try simp +zetaDelta (decide := true) only [*, State.holderResetMsg_wipe, State.send_wipe, wipe_ite,
      wipe_ite_fst, ite_self, implies_true]
  all_goals repeat' (split <;> try simp +zetaDelta (decide := true) only [*, State.holderResetMsg_wipe,
      State.send_wipe, wipe_ite, wipe_ite_fst, ite_self, implies_true])

theorem State.sendPurges_wipe (s : State) (q : Nat) (gen : BitVec 4) (x3 : List HubId) (m : Nat) (h :
    0x30020e74f4000 ||| m = m) :
    (s.sendPurges q gen x3).wipe m = s.wipe m := by
  refine wipe_mono h ?_
  fun_induction State.sendPurges s q gen x3
  all_goals try simp +zetaDelta (decide := true) only [*, State.purge_wipe, State.send_wipe, wipe_ite,
      wipe_ite_fst, ite_self, implies_true]
  all_goals repeat' (split <;> try simp +zetaDelta (decide := true) only [*, State.purge_wipe, State.send_wipe,
      wipe_ite, wipe_ite_fst, ite_self, implies_true])

theorem State.discardShimOp_wipe (s : State) (q : Nat) (h : ShimOp) (m : Nat) (hm : 0x2002007000000 ||| m = m) :
    (s.discardShimOp q h).wipe m = s.wipe m := by
  refine wipe_mono hm ?_
  unfold State.discardShimOp
  try simp +zetaDelta (decide := true) only [State.pcount_wipe, State.record_wipe, wipe_ite, wipe_ite_fst,
      ite_self, implies_true]
  all_goals repeat' (split <;> try simp +zetaDelta (decide := true) only [State.pcount_wipe, State.record_wipe,
      wipe_ite, wipe_ite_fst, ite_self, implies_true])

theorem State.discardShimOps_wipe (s : State) (q : Nat) (x2 : List ShimOp) (m : Nat) (h : 0x2002007000000 ||| m = m)
    :
    (s.discardShimOps q x2).wipe m = s.wipe m := by
  refine wipe_mono h ?_
  fun_induction State.discardShimOps s q x2
  all_goals try simp +zetaDelta (decide := true) only [*, State.discardShimOp_wipe, wipe_ite, wipe_ite_fst,
      ite_self, implies_true]
  all_goals repeat' (split <;> try simp +zetaDelta (decide := true) only [*, State.discardShimOp_wipe, wipe_ite,
      wipe_ite_fst, ite_self, implies_true])

theorem State.dropHoldOps_wipe (s : State) (q : Nat) (m : Nat) (h : 0x1000 ||| m = m) :
    (s.dropHoldOps q).wipe m = s.wipe m := by
  refine wipe_mono h ?_
  unfold State.dropHoldOps
  try simp +zetaDelta (decide := true) only [wipe_parts, wipe_ite, wipe_ite_fst, ite_self, implies_true]
  all_goals repeat' (split <;> try simp +zetaDelta (decide := true) only [wipe_parts, wipe_ite, wipe_ite_fst,
      ite_self, implies_true])

theorem State.coreReset_wipe (s : State) (q : Nat) (m : Nat) (h : 0x30828ffff5000 ||| m = m) :
    (s.coreReset q).wipe m = s.wipe m := by
  refine wipe_mono h ?_
  unfold State.coreReset
  try simp +zetaDelta (decide := true) only [State.discardShimOps_wipe, State.dropHoldOps_wipe,
      State.modPort_wipe, State.sendPurges_wipe, State.sendHolderResets_wipe, wipe_ite, wipe_ite_fst, ite_self,
      implies_true]
  all_goals repeat' (split <;> try simp +zetaDelta (decide := true) only [State.discardShimOps_wipe,
      State.dropHoldOps_wipe, State.modPort_wipe, State.sendPurges_wipe, State.sendHolderResets_wipe, wipe_ite,
      wipe_ite_fst, ite_self, implies_true])

theorem State.coreRelease_wipe (s : State) (q : Nat) (m : Nat) (h : 0x30aa8ffffd000 ||| m = m) :
    (s.coreRelease q).wipe m = s.wipe m := by
  refine wipe_mono h ?_
  unfold State.coreRelease
  try simp +zetaDelta (decide := true) only [State.wakePort_wipe, State.modPort_wipe, wipe_ite, wipe_ite_fst,
      ite_self, implies_true]
  all_goals repeat' (split <;> try simp +zetaDelta (decide := true) only [State.wakePort_wipe, State.modPort_wipe,
      wipe_ite, wipe_ite_fst, ite_self, implies_true])

theorem State.resetCheck_wipe (s0 : State) (q : Nat) (i : Nat) (m : Nat) (h : 0x30828fff75000 ||| m = m) :
    (s0.resetCheck q i).wipe m = s0.wipe m := by
  refine wipe_mono h ?_
  unfold State.resetCheck
  try simp +zetaDelta (decide := true) only [State.accessObj_wipe, State.modPort_wipe, State.breakBarrier_wipe,
      wipe_ite, wipe_ite_fst, ite_self, implies_true]
  all_goals repeat' (split <;> try simp +zetaDelta (decide := true) only [State.accessObj_wipe,
      State.modPort_wipe, State.breakBarrier_wipe, wipe_ite, wipe_ite_fst, ite_self, implies_true])

theorem State.evDrop_wipe (s : State) (i : Nat) (c : Opcode) (h : Handle) (m : Nat) (hm : 0x2002007000000 ||| m = m)
    :
    (s.evDrop i c h).wipe m = s.wipe m := by
  refine wipe_mono hm ?_
  unfold State.evDrop
  try simp +zetaDelta (decide := true) only [State.bump_wipe, State.record_wipe, wipe_ite, wipe_ite_fst, ite_self,
      implies_true]
  all_goals repeat' (split <;> try simp +zetaDelta (decide := true) only [State.bump_wipe, State.record_wipe,
      wipe_ite, wipe_ite_fst, ite_self, implies_true])

theorem State.evOp_wipe (s0 : State) (i : Nat) (c : Opcode) (m : Nat) (h : 0x30828ffffd000 ||| m = m) :
    (s0.evOp i c).wipe m = s0.wipe m := by
  refine wipe_mono h ?_
  unfold State.evOp
  try simp +zetaDelta (decide := true) only [State.evDrop_wipe, State.act_wipe, State.accessObj_wipe,
      State.performHome_wipe, State.bump_wipe, wipe_ite, wipe_ite_fst, ite_self, implies_true]
  all_goals repeat' (split <;> try simp +zetaDelta (decide := true) only [State.evDrop_wipe, State.act_wipe,
      State.accessObj_wipe, State.performHome_wipe, State.bump_wipe, wipe_ite, wipe_ite_fst, ite_self,
      implies_true])

theorem State.evMerge_wipe (s : State) (i : Nat) (n : Nat) (m : Nat) (h : 0x2001007000000 ||| m = m) :
    (s.evMerge i n).wipe m = s.wipe m := by
  refine wipe_mono h ?_
  unfold State.evMerge
  try simp +zetaDelta (decide := true) only [State.stormNote_wipe, State.bumpN_wipe, State.setEv_wipe, wipe_ite,
      wipe_ite_fst, ite_self, implies_true]
  all_goals repeat' (split <;> try simp +zetaDelta (decide := true) only [State.stormNote_wipe, State.bumpN_wipe,
      State.setEv_wipe, wipe_ite, wipe_ite_fst, ite_self, implies_true])

theorem State.evSig_wipe (s : State) (i : Nat) (m : Nat) (h : 0x30838ffffd000 ||| m = m) :
    (s.evSig i).wipe m = s.wipe m := by
  refine wipe_mono h ?_
  unfold State.evSig
  try simp +zetaDelta (decide := true) only [State.evOp_wipe, State.setEv_wipe, wipe_ite, wipe_ite_fst, ite_self,
      implies_true]
  all_goals repeat' (split <;> try simp +zetaDelta (decide := true) only [State.evOp_wipe, State.setEv_wipe,
      wipe_ite, wipe_ite_fst, ite_self, implies_true])

theorem State.evApply_wipe (s : State) (i : Nat) (m : Nat) (h : 0x30838ffffd000 ||| m = m) :
    (s.evApply i).wipe m = s.wipe m := by
  refine wipe_mono h ?_
  unfold State.evApply
  try simp +zetaDelta (decide := true) only [State.evOp_wipe, State.setEv_wipe, wipe_ite, wipe_ite_fst, ite_self,
      implies_true]
  all_goals repeat' (split <;> try simp +zetaDelta (decide := true) only [State.evOp_wipe, State.setEv_wipe,
      wipe_ite, wipe_ite_fst, ite_self, implies_true])

theorem State.evChange_wipe (s0 : State) (i : Nat) (level : Bool) (m : Nat) (h : 0x30838ffffd000 ||| m = m) :
    (s0.evChange i level).wipe m = s0.wipe m := by
  refine wipe_mono h ?_
  unfold State.evChange
  try simp +zetaDelta (decide := true) only [State.setEv_wipe, State.evApply_wipe, State.evMerge_wipe,
      State.evSig_wipe, wipe_ite, wipe_ite_fst, ite_self, implies_true]
  all_goals repeat' (split <;> try simp +zetaDelta (decide := true) only [State.setEv_wipe, State.evApply_wipe,
      State.evMerge_wipe, State.evSig_wipe, wipe_ite, wipe_ite_fst, ite_self, implies_true])

theorem State.evDeferred_wipe (s : State) (i : Nat) (m : Nat) (h : 0x30838ffffd000 ||| m = m) :
    (s.evDeferred i).wipe m = s.wipe m := by
  refine wipe_mono h ?_
  unfold State.evDeferred
  try simp +zetaDelta (decide := true) only [State.evSig_wipe, wipe_ite, wipe_ite_fst, ite_self, implies_true]
  all_goals repeat' (split <;> try simp +zetaDelta (decide := true) only [State.evSig_wipe, wipe_ite,
      wipe_ite_fst, ite_self, implies_true])

theorem State.evLevel_wipe (s : State) (i : Nat) (m : Nat) (h : 0x30838ffffd000 ||| m = m) :
    (s.evLevel i).wipe m = s.wipe m := by
  refine wipe_mono h ?_
  unfold State.evLevel
  try simp +zetaDelta (decide := true) only [State.evMerge_wipe, State.evApply_wipe, State.setEv_wipe, wipe_ite,
      wipe_ite_fst, ite_self, implies_true]
  all_goals repeat' (split <;> try simp +zetaDelta (decide := true) only [State.evMerge_wipe, State.evApply_wipe,
      State.setEv_wipe, wipe_ite, wipe_ite_fst, ite_self, implies_true])

theorem State.evBinding_wipe (s : State) (i : Nat) (sub : Nat) (v : Nat) (m : Nat) (h : 0x2001007000000 ||| m = m) :
    (s.evBinding i sub v).wipe m = s.wipe m := by
  refine wipe_mono h ?_
  unfold State.evBinding
  try simp +zetaDelta (decide := true) only [State.setEv_wipe, State.setCfg_wipe, State.evMerge_wipe, wipe_ite,
      wipe_ite_fst, ite_self, implies_true]
  all_goals repeat' (split <;> try simp +zetaDelta (decide := true) only [State.setEv_wipe, State.setCfg_wipe,
      State.evMerge_wipe, wipe_ite, wipe_ite_fst, ite_self, implies_true])

theorem State.clearAbandoned_wipe (s : State) (p : Nat) (h : Handle) (m : Nat) (hm : 0x4000 ||| m = m) :
    (s.clearAbandoned p h).1.wipe m = s.wipe m := by
  refine wipe_mono hm ?_
  unfold State.clearAbandoned
  try simp +zetaDelta (decide := true) only [State.setObj_wipe, wipe_ite, wipe_ite_fst, ite_self, implies_true]
  all_goals repeat' (split <;> try simp +zetaDelta (decide := true) only [State.setObj_wipe, wipe_ite,
      wipe_ite_fst, ite_self, implies_true])

theorem State.lockMode_wipe (s : State) (i : Nat) (m : Nat) (h : 0x2000007014000 ||| m = m) :
    (s.lockMode i).wipe m = s.wipe m := by
  refine wipe_mono h ?_
  unfold State.lockMode
  try simp +zetaDelta (decide := true) only [State.reorder_wipe, State.endInherit_wipe, wipe_ite, wipe_ite_fst,
      ite_self, implies_true]
  all_goals repeat' (split <;> try simp +zetaDelta (decide := true) only [State.reorder_wipe,
      State.endInherit_wipe, wipe_ite, wipe_ite_fst, ite_self, implies_true])

theorem State.setLockMode_wipe (s : State) (g : Nat) (v : Nat) (m : Nat) (h : 0x2000007014000 ||| m = m) :
    (s.setLockMode g v).wipe m = s.wipe m := by
  refine wipe_mono h ?_
  unfold State.setLockMode
  try simp +zetaDelta (decide := true) only [State.setCfg_wipe, State.each_wipe, State.lockMode_wipe, wipe_ite,
      wipe_ite_fst, ite_self, implies_true]
  all_goals repeat' (split <;> try simp +zetaDelta (decide := true) only [State.setCfg_wipe, State.each_wipe,
      State.lockMode_wipe, wipe_ite, wipe_ite_fst, ite_self, implies_true])

theorem State.recallWrite_wipe (s : State) (p : Nat) (h : Handle) (m : Nat) (hm : 0x30020e7020000 ||| m = m) :
    (s.recallWrite p h).1.wipe m = s.wipe m := by
  refine wipe_mono hm ?_
  unfold State.recallWrite
  try simp +zetaDelta (decide := true) only [State.recallToken_wipe, wipe_ite, wipe_ite_fst, ite_self,
      implies_true]
  all_goals repeat' (split <;> try simp +zetaDelta (decide := true) only [State.recallToken_wipe, wipe_ite,
      wipe_ite_fst, ite_self, implies_true])

end Sys2Proof.Machine
end

