-- ==== Sys2Proof/Laws/KeepsLoans.lean ====
section
/-! SUPPORT. What each operation of Loans.lean changes at most: blotting out the fields of its mask takes away every
difference that it makes. -/

set_option linter.all false

namespace Sys2Proof.Machine

theorem State.discardLoan_wipe (s : State) (b : LoanBody) (m : Nat) (h : 0x4000000 ||| m = m) :
    (s.discardLoan b).wipe m = s.wipe m := by
  refine wipe_mono h ?_
  unfold State.discardLoan
  try simp +zetaDelta (decide := true) only [State.pcount_wipe, wipe_ite, wipe_ite_fst, ite_self, implies_true]
  all_goals repeat' (split <;> try simp +zetaDelta (decide := true) only [State.pcount_wipe, wipe_ite,
      wipe_ite_fst, ite_self, implies_true])

theorem State.queueRequest_wipe (s : State) (b : LoanBody) (e : Lender) (m : Nat) (h : 0x30020e74f4000 ||| m = m) :
    (s.queueRequest b e).wipe m = s.wipe m := by
  refine wipe_mono h ?_
  unfold State.queueRequest
  try simp +zetaDelta (decide := true) only [State.recordLoan_wipe, State.serve_wipe, State.setLender_wipe,
      State.recallEntry_wipe, wipe_ite, wipe_ite_fst, ite_self, implies_true]
  all_goals repeat' (split <;> try simp +zetaDelta (decide := true) only [State.recordLoan_wipe, State.serve_wipe,
      State.setLender_wipe, State.recallEntry_wipe, wipe_ite, wipe_ite_fst, ite_self, implies_true])
  all_goals
    rename_i e
    have k := State.addWaiter_wipe _ _ _ _ (m := 0x30020e74f4000) (h := by decide) _ e
    simp +zetaDelta (decide := true) only [k, State.recordLoan_wipe, State.serve_wipe, State.setLender_wipe,
        State.recallEntry_wipe, wipe_ite, wipe_ite_fst, ite_self, implies_true]

theorem State.loanReqMsg_wipe (s0 : State) (b : LoanBody) (m : Nat) (h : 0x30828ffff5000 ||| m = m) :
    (s0.loanReqMsg b).wipe m = s0.wipe m := by
  refine wipe_mono h ?_
  unfold State.loanReqMsg
  try simp +zetaDelta (decide := true) only [State.accessObj_wipe, State.discardLoan_wipe, State.access_wipe,
      State.queueRequest_wipe, State.discardMessage_wipe, wipe_ite, wipe_ite_fst, ite_self, implies_true]
  all_goals repeat' (split <;> try simp +zetaDelta (decide := true) only [State.accessObj_wipe,
      State.discardLoan_wipe, State.access_wipe, State.queueRequest_wipe, State.discardMessage_wipe, wipe_ite,
      wipe_ite_fst, ite_self, implies_true])

theorem State.takeReturn_wipe (s : State) (b : LoanBody) (e : Lender) (m : Nat) (h : 0x30020e77f5000 ||| m = m) :
    (s.takeReturn b e).wipe m = s.wipe m := by
  refine wipe_mono h ?_
  unfold State.takeReturn
  try simp +zetaDelta (decide := true) only [wipe_lenders, State.recordLoan_wipe, State.setObj_wipe,
      State.freeWaiter_wipe, State.serve_wipe, State.markFaulted_wipe, wipe_ite, wipe_ite_fst, ite_self,
      implies_true]
  all_goals repeat' (split <;> try simp +zetaDelta (decide := true) only [wipe_lenders, State.recordLoan_wipe,
      State.setObj_wipe, State.freeWaiter_wipe, State.serve_wipe, State.markFaulted_wipe, wipe_ite, wipe_ite_fst,
      ite_self, implies_true])

theorem State.loanReturnMsg_wipe (s0 : State) (b : LoanBody) (m : Nat) (h : 0x30828ffff5000 ||| m = m) :
    (s0.loanReturnMsg b).wipe m = s0.wipe m := by
  refine wipe_mono h ?_
  unfold State.loanReturnMsg
  try simp +zetaDelta (decide := true) only [State.accessObj_wipe, State.discardLoan_wipe, State.access_wipe,
      State.resetRecalled_wipe, State.takeReturn_wipe, State.discardMessage_wipe, wipe_ite, wipe_ite_fst,
      ite_self, implies_true]
  all_goals repeat' (split <;> try simp +zetaDelta (decide := true) only [State.accessObj_wipe,
      State.discardLoan_wipe, State.access_wipe, State.resetRecalled_wipe, State.takeReturn_wipe,
      State.discardMessage_wipe, wipe_ite, wipe_ite_fst, ite_self, implies_true])

theorem State.sendReturn_wipe (s : State) (e : Ledger) (reason : BitVec 2) (m : Nat) (h : 0x30020e7000000 ||| m = m)
    :
    (s.sendReturn e reason).wipe m = s.wipe m := by
  refine wipe_mono h ?_
  unfold State.sendReturn
  try simp +zetaDelta (decide := true) only [State.sendLoan_wipe, wipe_ite, wipe_ite_fst, ite_self, implies_true]
  all_goals repeat' (split <;> try simp +zetaDelta (decide := true) only [State.sendLoan_wipe, wipe_ite,
      wipe_ite_fst, ite_self, implies_true])

theorem State.openLedger_wipe (s : State) (b : LoanBody) (m : Nat) (h : 0x30020e7040000 ||| m = m) :
    (s.openLedger b).wipe m = s.wipe m := by
  refine wipe_mono h ?_
  unfold State.openLedger
  try simp +zetaDelta (decide := true) only [wipe_ledgers, State.recordLoan_wipe, State.fresh_wipe,
      State.sendReturn_wipe, wipe_ite, wipe_ite_fst, ite_self, implies_true]
  all_goals repeat' (split <;> try simp +zetaDelta (decide := true) only [wipe_ledgers, State.recordLoan_wipe,
      State.fresh_wipe, State.sendReturn_wipe, wipe_ite, wipe_ite_fst, ite_self, implies_true])

theorem State.loanOpenMsg_wipe (s : State) (b : LoanBody) (m : Nat) (h : 0x30020e7040000 ||| m = m) :
    (s.loanOpenMsg b).wipe m = s.wipe m := by
  refine wipe_mono h ?_
  unfold State.loanOpenMsg
  try simp +zetaDelta (decide := true) only [State.openLedger_wipe, State.discardMessage_wipe, wipe_ite,
      wipe_ite_fst, ite_self, implies_true]
  all_goals repeat' (split <;> try simp +zetaDelta (decide := true) only [State.openLedger_wipe,
      State.discardMessage_wipe, wipe_ite, wipe_ite_fst, ite_self, implies_true])

theorem State.usableLedger_wipe (s : State) (b : LoanBody) (m : Nat) (h : 0x30828fff75000 ||| m = m) :
    (s.usableLedger b).1.wipe m = s.wipe m := by
  refine wipe_mono h ?_
  unfold State.usableLedger
  try simp +zetaDelta (decide := true) only [State.access_wipe, wipe_ite, wipe_ite_fst, ite_self, implies_true]
  all_goals repeat' (split <;> try simp +zetaDelta (decide := true) only [State.access_wipe, wipe_ite,
      wipe_ite_fst, ite_self, implies_true])

theorem State.loanGrantMsg_wipe (s : State) (b : LoanBody) (m : Nat) (h : 0x30828fff75000 ||| m = m) :
    (s.loanGrantMsg b).wipe m = s.wipe m := by
  refine wipe_mono h ?_
  unfold State.loanGrantMsg
  have k := State.usableLedger_wipe s b 0x30828fff75000 (by decide)
  split
  · split
    · rename_i e
      rw [e] at k
      simp +zetaDelta (decide := true) only [k, State.usableLedger_wipe, State.discardLoan_wipe,
          State.serveLedger_wipe, State.setLedger_wipe, State.recordLoan_wipe, State.discardMessage_wipe,
          wipe_ite, wipe_ite_fst, ite_self, implies_true]
    · rename_i e
      rw [e] at k
      simp +zetaDelta (decide := true) only [k, State.usableLedger_wipe, State.discardLoan_wipe,
          State.serveLedger_wipe, State.setLedger_wipe, State.recordLoan_wipe, State.discardMessage_wipe,
          wipe_ite, wipe_ite_fst, ite_self, implies_true]
  · simp +zetaDelta (decide := true) only [State.usableLedger_wipe, State.discardLoan_wipe,
      State.serveLedger_wipe, State.setLedger_wipe, State.recordLoan_wipe, State.discardMessage_wipe, wipe_ite,
      wipe_ite_fst, ite_self, implies_true]

theorem State.forwardWaiters_wipe (s : State) (token : Handle) (x2 : List Waiter) (m : Nat) (h : 0x30020e7050000 |||
    m = m) :
    (s.forwardWaiters token x2).wipe m = s.wipe m := by
  refine wipe_mono h ?_
  fun_induction State.forwardWaiters s token x2
  all_goals try simp +zetaDelta (decide := true) only [*, State.send_wipe, State.freeWaiter_wipe, wipe_ite,
      wipe_ite_fst, ite_self, implies_true]
  all_goals repeat' (split <;> try simp +zetaDelta (decide := true) only [*, State.send_wipe,
      State.freeWaiter_wipe, wipe_ite, wipe_ite_fst, ite_self, implies_true])

theorem State.loanRecallMsg_wipe (s : State) (b : LoanBody) (m : Nat) (h : 0x30828fff75000 ||| m = m) :
    (s.loanRecallMsg b).wipe m = s.wipe m := by
  refine wipe_mono h ?_
  unfold State.loanRecallMsg
  have k := State.usableLedger_wipe s b 0x30828fff75000 (by decide)
  split
  · split
    · rename_i e
      rw [e] at k
      simp +zetaDelta (decide := true) only [k, wipe_ledgers, State.usableLedger_wipe, State.discardLoan_wipe,
          State.forwardWaiters_wipe, State.sendReturn_wipe, State.recordLoan_wipe, State.discardMessage_wipe,
          wipe_ite, wipe_ite_fst, ite_self, implies_true]
    · rename_i e
      rw [e] at k
      simp +zetaDelta (decide := true) only [k, wipe_ledgers, State.usableLedger_wipe, State.discardLoan_wipe,
          State.forwardWaiters_wipe, State.sendReturn_wipe, State.recordLoan_wipe, State.discardMessage_wipe,
          wipe_ite, wipe_ite_fst, ite_self, implies_true]
  · simp +zetaDelta (decide := true) only [wipe_ledgers, State.usableLedger_wipe, State.discardLoan_wipe,
      State.forwardWaiters_wipe, State.sendReturn_wipe, State.recordLoan_wipe, State.discardMessage_wipe,
      wipe_ite, wipe_ite_fst, ite_self, implies_true]

theorem State.recallDelay_wipe (s : State) (i : Nat) (m : Nat) (h : 0x30020e7020000 ||| m = m) :
    (s.recallDelay i).wipe m = s.wipe m := by
  refine wipe_mono h ?_
  unfold State.recallDelay
  try simp +zetaDelta (decide := true) only [State.recallAll_wipe, wipe_ite, wipe_ite_fst, ite_self, implies_true]
  all_goals repeat' (split <;> try simp +zetaDelta (decide := true) only [State.recallAll_wipe, wipe_ite,
      wipe_ite_fst, ite_self, implies_true])

theorem State.idleReturn_wipe (s : State) (n : Nat) (m : Nat) (h : 0x30020e7040000 ||| m = m) :
    (s.idleReturn n).wipe m = s.wipe m := by
  refine wipe_mono h ?_
  unfold State.idleReturn
  try simp +zetaDelta (decide := true) only [wipe_ledgers, State.sendReturn_wipe, wipe_ite, wipe_ite_fst,
      ite_self, implies_true]
  all_goals repeat' (split <;> try simp +zetaDelta (decide := true) only [wipe_ledgers, State.sendReturn_wipe,
      wipe_ite, wipe_ite_fst, ite_self, implies_true])

theorem State.lenderLost_wipe (s : State) (e : Lender) (m : Nat) (h : 0x30020e7771000 ||| m = m) :
    (s.lenderLost e).wipe m = s.wipe m := by
  refine wipe_mono h ?_
  unfold State.lenderLost
  try simp +zetaDelta (decide := true) only [State.failOne_wipe, State.setLender_wipe, wipe_ite, wipe_ite_fst,
      ite_self, implies_true]
  all_goals repeat' (split <;> try simp +zetaDelta (decide := true) only [State.failOne_wipe,
      State.setLender_wipe, wipe_ite, wipe_ite_fst, ite_self, implies_true])

theorem State.lendersLost_wipe (s : State) (x1 : List Lender) (m : Nat) (h : 0x30020e7771000 ||| m = m) :
    (s.lendersLost x1).wipe m = s.wipe m := by
  refine wipe_mono h ?_
  fun_induction State.lendersLost s x1
  all_goals try simp +zetaDelta (decide := true) only [*, State.lenderLost_wipe, wipe_ite, wipe_ite_fst, ite_self,
      implies_true]
  all_goals repeat' (split <;> try simp +zetaDelta (decide := true) only [*, State.lenderLost_wipe, wipe_ite,
      wipe_ite_fst, ite_self, implies_true])

theorem State.ledgerLost_wipe (s : State) (e : Ledger) (m : Nat) (h : 0x30020e7771000 ||| m = m) :
    (s.ledgerLost e).wipe m = s.wipe m := by
  refine wipe_mono h ?_
  unfold State.ledgerLost
  try simp +zetaDelta (decide := true) only [wipe_ledgers, State.endWaiters_wipe, State.failOne_wipe,
      State.pcount_wipe, wipe_ite, wipe_ite_fst, ite_self, implies_true]
  all_goals repeat' (split <;> try simp +zetaDelta (decide := true) only [wipe_ledgers, State.endWaiters_wipe,
      State.failOne_wipe, State.pcount_wipe, wipe_ite, wipe_ite_fst, ite_self, implies_true])

theorem State.ledgersLost_wipe (s : State) (x1 : List Ledger) (m : Nat) (h : 0x30020e7771000 ||| m = m) :
    (s.ledgersLost x1).wipe m = s.wipe m := by
  refine wipe_mono h ?_
  fun_induction State.ledgersLost s x1
  all_goals try simp +zetaDelta (decide := true) only [*, State.ledgerLost_wipe, wipe_ite, wipe_ite_fst, ite_self,
      implies_true]
  all_goals repeat' (split <;> try simp +zetaDelta (decide := true) only [*, State.ledgerLost_wipe, wipe_ite,
      wipe_ite_fst, ite_self, implies_true])

theorem State.loanLinkLoss_wipe (s : State) (h : HubId) (m : Nat) (hm : 0x30020e7771000 ||| m = m) :
    (s.loanLinkLoss h).wipe m = s.wipe m := by
  refine wipe_mono hm ?_
  unfold State.loanLinkLoss
  try simp +zetaDelta (decide := true) only [State.each_wipe, State.ledgersLost_wipe, State.lendersLost_wipe,
      State.resetRecalled_wipe, wipe_ite, wipe_ite_fst, ite_self, implies_true]
  all_goals repeat' (split <;> try simp +zetaDelta (decide := true) only [State.each_wipe, State.ledgersLost_wipe,
      State.lendersLost_wipe, State.resetRecalled_wipe, wipe_ite, wipe_ite_fst, ite_self, implies_true])

theorem State.endSent_wipe (s : State) (q : Nat) (st : Status) (counts : Bool) (x4 : List Pend) (m : Nat) (h :
    0x30aa8ffffd000 ||| m = m) :
    (s.endSent q st counts x4).wipe m = s.wipe m := by
  refine wipe_mono h ?_
  fun_induction State.endSent s q st counts x4
  all_goals try simp +zetaDelta (decide := true) only [*, State.modPort_wipe, State.wakePort_wipe,
      State.answerPend_wipe, State.countRefused_wipe, wipe_ite, wipe_ite_fst, ite_self, implies_true]
  all_goals repeat' (split <;> try simp +zetaDelta (decide := true) only [*, State.modPort_wipe,
      State.wakePort_wipe, State.answerPend_wipe, State.countRefused_wipe, wipe_ite, wipe_ite_fst, ite_self,
      implies_true])

theorem State.endSlotSent_wipe (s : State) (g : Nat) (st : Status) (counts : Bool) (m : Nat) (h : 0x30828ffffd000
    ||| m = m) :
    (s.endSlotSent g st counts).wipe m = s.wipe m := by
  refine wipe_mono h ?_
  unfold State.endSlotSent
  try simp +zetaDelta (decide := true) only [State.wakeSlot_wipe, State.modSlot_wipe, State.countRefused_wipe,
      wipe_ite, wipe_ite_fst, ite_self, implies_true]
  all_goals repeat' (split <;> try simp +zetaDelta (decide := true) only [State.wakeSlot_wipe, State.modSlot_wipe,
      State.countRefused_wipe, wipe_ite, wipe_ite_fst, ite_self, implies_true])

theorem State.portLockLoss_wipe (s : State) (h : HubId) (q : Nat) (m : Nat) (hm : 0x30aa8ffffd000 ||| m = m) :
    (s.portLockLoss h q).wipe m = s.wipe m := by
  refine wipe_mono hm ?_
  unfold State.portLockLoss
  try simp +zetaDelta (decide := true) only [State.failOne_wipe, State.modPort_wipe, State.endSent_wipe, wipe_ite,
      wipe_ite_fst, ite_self, implies_true]
  all_goals repeat' (split <;> try simp +zetaDelta (decide := true) only [State.failOne_wipe, State.modPort_wipe,
      State.endSent_wipe, wipe_ite, wipe_ite_fst, ite_self, implies_true])

theorem State.slotLockLoss_wipe (s : State) (h : HubId) (g : Nat) (m : Nat) (hm : 0x30828ffffd000 ||| m = m) :
    (s.slotLockLoss h g).wipe m = s.wipe m := by
  refine wipe_mono hm ?_
  unfold State.slotLockLoss
  try simp +zetaDelta (decide := true) only [State.failOne_wipe, State.endSlotSent_wipe, wipe_ite, wipe_ite_fst,
      ite_self, implies_true]
  all_goals repeat' (split <;> try simp +zetaDelta (decide := true) only [State.failOne_wipe,
      State.endSlotSent_wipe, wipe_ite, wipe_ite_fst, ite_self, implies_true])

theorem freeWaiters_wipe (s : State) (ws : List Waiter) (m : Nat)
    (hf : ∀ s w, (State.freeWaiter s w).wipe m = s.wipe m) : (ws.foldl State.freeWaiter s).wipe m = s.wipe m := by
  induction ws generalizing s with
  | nil => rfl
  | cons w ws ih => simp only [List.foldl_cons, ih, hf]

theorem State.lockLost_wipe (s : State) (h : HubId) (i : Nat) (m : Nat) (hm : 0x30020e77f5000 ||| m = m) :
    (s.lockLost h i).wipe m = s.wipe m := by
  refine wipe_mono hm ?_
  unfold State.lockLost
  try simp +zetaDelta (decide := true) only [State.freeWaiter_wipe, State.failOne_wipe, State.freeLock_wipe,
      wipe_ite, wipe_ite_fst, ite_self, implies_true, freeWaiters_wipe]
  all_goals repeat' (split <;> try simp +zetaDelta (decide := true) only [State.freeWaiter_wipe,
      State.failOne_wipe, State.freeLock_wipe, wipe_ite, wipe_ite_fst, ite_self, implies_true, freeWaiters_wipe])

theorem State.lockLinkLoss_wipe (s : State) (h : HubId) (m : Nat) (hm : 0x30aa8ffffd000 ||| m = m) :
    (s.lockLinkLoss h).wipe m = s.wipe m := by
  refine wipe_mono hm ?_
  unfold State.lockLinkLoss
  try simp +zetaDelta (decide := true) only [State.each_wipe, State.lockLost_wipe, State.portLockLoss_wipe,
      State.slotLockLoss_wipe, wipe_ite, wipe_ite_fst, ite_self, implies_true]
  all_goals repeat' (split <;> try simp +zetaDelta (decide := true) only [State.each_wipe, State.lockLost_wipe,
      State.portLockLoss_wipe, State.slotLockLoss_wipe, wipe_ite, wipe_ite_fst, ite_self, implies_true])

theorem State.treeLinkLoss_wipe (s : State) (i : Nat) (m : Nat) (h : 0x30828fff75000 ||| m = m) :
    (s.treeLinkLoss i).wipe m = s.wipe m := by
  refine wipe_mono h ?_
  unfold State.treeLinkLoss
  try simp +zetaDelta (decide := true) only [State.childGrant_wipe, wipe_ite, wipe_ite_fst, ite_self,
      implies_true]
  all_goals repeat' (split <;> try simp +zetaDelta (decide := true) only [State.childGrant_wipe, wipe_ite,
      wipe_ite_fst, ite_self, implies_true])

theorem State.grantUndeliverable_wipe (s : State) (i : Nat) (m : Nat) (h : 0x30020e7474000 ||| m = m) :
    (s.grantUndeliverable i).wipe m = s.wipe m := by
  refine wipe_mono h ?_
  unfold State.grantUndeliverable
  try simp +zetaDelta (decide := true) only [wipe_waitMsgs, State.breakBarrier_wipe, wipe_ite, wipe_ite_fst,
      ite_self, implies_true]
  all_goals repeat' (split <;> try simp +zetaDelta (decide := true) only [wipe_waitMsgs, State.breakBarrier_wipe,
      wipe_ite, wipe_ite_fst, ite_self, implies_true])

theorem State.strandMsg_wipe (s : State) (w : WaitMsg) (m : Nat) (h : 0x30020e7771000 ||| m = m) :
    (s.strandMsg w).wipe m = s.wipe m := by
  refine wipe_mono h ?_
  unfold State.strandMsg
  try simp +zetaDelta (decide := true) only [State.failOne_wipe, State.recordDiscard_wipe, State.bump_wipe,
      State.sendRaw_wipe, wipe_ite, wipe_ite_fst, ite_self, implies_true]
  all_goals repeat' (split <;> try simp +zetaDelta (decide := true) only [State.failOne_wipe,
      State.recordDiscard_wipe, State.bump_wipe, State.sendRaw_wipe, wipe_ite, wipe_ite_fst, ite_self,
      implies_true])

theorem State.strandAll_wipe (s : State) (x1 : List WaitMsg) (m : Nat) (h : 0x30020e7771000 ||| m = m) :
    (s.strandAll x1).wipe m = s.wipe m := by
  refine wipe_mono h ?_
  fun_induction State.strandAll s x1
  all_goals try simp +zetaDelta (decide := true) only [*, State.strandMsg_wipe, wipe_ite, wipe_ite_fst, ite_self,
      implies_true]
  all_goals repeat' (split <;> try simp +zetaDelta (decide := true) only [*, State.strandMsg_wipe, wipe_ite,
      wipe_ite_fst, ite_self, implies_true])

theorem State.strandPort_wipe (s : State) (h : HubId) (q : Nat) (m : Nat) (hm : 0x30aa8ffffd000 ||| m = m) :
    (s.strandPort h q).wipe m = s.wipe m := by
  refine wipe_mono hm ?_
  unfold State.strandPort
  try simp +zetaDelta (decide := true) only [State.failOne_wipe, State.endSent_wipe, wipe_ite, wipe_ite_fst,
      ite_self, implies_true]
  all_goals repeat' (split <;> try simp +zetaDelta (decide := true) only [State.failOne_wipe, State.endSent_wipe,
      wipe_ite, wipe_ite_fst, ite_self, implies_true])

theorem State.strandSlot_wipe (s : State) (h : HubId) (g : Nat) (m : Nat) (hm : 0x30828ffffd000 ||| m = m) :
    (s.strandSlot h g).wipe m = s.wipe m := by
  refine wipe_mono hm ?_
  unfold State.strandSlot
  try simp +zetaDelta (decide := true) only [State.failOne_wipe, State.endSlotSent_wipe, wipe_ite, wipe_ite_fst,
      ite_self, implies_true]
  all_goals repeat' (split <;> try simp +zetaDelta (decide := true) only [State.failOne_wipe,
      State.endSlotSent_wipe, wipe_ite, wipe_ite_fst, ite_self, implies_true])

theorem State.routeStrand_wipe (s : State) (h : HubId) (m : Nat) (hm : 0x30aa8ffffd000 ||| m = m) :
    (s.routeStrand h).wipe m = s.wipe m := by
  refine wipe_mono hm ?_
  unfold State.routeStrand
  try simp +zetaDelta (decide := true) only [wipe_waitMsgs, State.strandAll_wipe, State.each_wipe,
      State.strandPort_wipe, State.strandSlot_wipe, wipe_ite, wipe_ite_fst, ite_self, implies_true]
  all_goals repeat' (split <;> try simp +zetaDelta (decide := true) only [wipe_waitMsgs, State.strandAll_wipe,
      State.each_wipe, State.strandPort_wipe, State.strandSlot_wipe, wipe_ite, wipe_ite_fst, ite_self,
      implies_true])

theorem State.w1Deadline_wipe (s : State) (q : Nat) (n : Nat) (m : Nat) (h : 0x30aa8ffffd000 ||| m = m) :
    (s.w1Deadline q n).wipe m = s.wipe m := by
  refine wipe_mono h ?_
  unfold State.w1Deadline
  try simp +zetaDelta (decide := true) only [State.endSent_wipe, State.recordTimeout_wipe, State.act_wipe,
      State.pcount_wipe, wipe_ite, wipe_ite_fst, ite_self, implies_true]
  all_goals repeat' (split <;> try simp +zetaDelta (decide := true) only [State.endSent_wipe,
      State.recordTimeout_wipe, State.act_wipe, State.pcount_wipe, wipe_ite, wipe_ite_fst, ite_self,
      implies_true])

theorem State.w1SlotDeadline_wipe (s : State) (g : Nat) (m : Nat) (h : 0x30828ffffd000 ||| m = m) :
    (s.w1SlotDeadline g).wipe m = s.wipe m := by
  refine wipe_mono h ?_
  unfold State.w1SlotDeadline
  try simp +zetaDelta (decide := true) only [State.endSlotSent_wipe, State.recordTimeout_wipe, State.act_wipe,
      State.pcount_wipe, wipe_ite, wipe_ite_fst, ite_self, implies_true]
  all_goals repeat' (split <;> try simp +zetaDelta (decide := true) only [State.endSlotSent_wipe,
      State.recordTimeout_wipe, State.act_wipe, State.pcount_wipe, wipe_ite, wipe_ite_fst, ite_self,
      implies_true])

end Sys2Proof.Machine
end

