-- ==== Sys2Proof/Laws/KeepsLinks.lean ====
section
/-! SUPPORT. What each operation of Links.lean changes at most: blotting out the fields of its mask takes away every
difference that it makes. -/

set_option linter.all false

namespace Sys2Proof.Machine

theorem State.linkBump_wipe (s : State) (c : Nat) (sub : Nat) (m : Nat) (h : 0x2000004000000 ||| m = m) :
    (s.linkBump c sub).wipe m = s.wipe m := by
  refine wipe_mono h ?_
  unfold State.linkBump
  try simp +zetaDelta (decide := true) only [State.bump_wipe, wipe_ite, wipe_ite_fst, ite_self, implies_true]
  all_goals repeat' (split <;> try simp +zetaDelta (decide := true) only [State.bump_wipe, wipe_ite, wipe_ite_fst,
      ite_self, implies_true])

theorem State.sendControl_wipe (s : State) (c : Nat) (ftype : BitVec 4) (payload : BitVec 192) (m : Nat) (h :
    0x1000024000000 ||| m = m) :
    (s.sendControl c ftype payload).wipe m = s.wipe m := by
  refine wipe_mono h ?_
  unfold State.sendControl
  try simp +zetaDelta (decide := true) only [State.sendFlit_wipe, wipe_ite, wipe_ite_fst, ite_self, implies_true]
  all_goals repeat' (split <;> try simp +zetaDelta (decide := true) only [State.sendFlit_wipe, wipe_ite,
      wipe_ite_fst, ite_self, implies_true])

theorem State.sendCtrl_wipe (s : State) (c : Nat) (nak : Bool) (m : Nat) (h : 0x1000024000000 ||| m = m) :
    (s.sendCtrl c nak).wipe m = s.wipe m := by
  refine wipe_mono h ?_
  unfold State.sendCtrl
  try simp +zetaDelta (decide := true) only [State.sendControl_wipe, State.setLink_wipe, wipe_ite, wipe_ite_fst,
      ite_self, implies_true]
  all_goals repeat' (split <;> try simp +zetaDelta (decide := true) only [State.sendControl_wipe,
      State.setLink_wipe, wipe_ite, wipe_ite_fst, ite_self, implies_true])

theorem State.sendNeg_wipe (s : State) (c : Nat) (m : Nat) (h : 0x1000024000000 ||| m = m) :
    (s.sendNeg c).wipe m = s.wipe m := by
  refine wipe_mono h ?_
  unfold State.sendNeg
  try simp +zetaDelta (decide := true) only [State.sendControl_wipe, State.setLink_wipe, wipe_ite, wipe_ite_fst,
      ite_self, implies_true]
  all_goals repeat' (split <;> try simp +zetaDelta (decide := true) only [State.sendControl_wipe,
      State.setLink_wipe, wipe_ite, wipe_ite_fst, ite_self, implies_true])

theorem State.replayFlits_wipe (s : State) (c : Nat) (x2 : List Kept) (m : Nat) (h : 0x1000024000000 ||| m = m) :
    (s.replayFlits c x2).wipe m = s.wipe m := by
  refine wipe_mono h ?_
  fun_induction State.replayFlits s c x2
  all_goals try simp +zetaDelta (decide := true) only [*, State.sendFlit_wipe, wipe_ite, wipe_ite_fst, ite_self,
      implies_true]
  all_goals repeat' (split <;> try simp +zetaDelta (decide := true) only [*, State.sendFlit_wipe, wipe_ite,
      wipe_ite_fst, ite_self, implies_true])

theorem State.replayFrom_wipe (s : State) (c : Nat) (ks : List Kept) (m : Nat) (h : 0x3000024000000 ||| m = m) :
    (s.replayFrom c ks).wipe m = s.wipe m := by
  refine wipe_mono h ?_
  unfold State.replayFrom
  try simp +zetaDelta (decide := true) only [State.modLink_wipe, State.replayFlits_wipe, State.linkBump_wipe,
      wipe_ite, wipe_ite_fst, ite_self, implies_true]
  all_goals repeat' (split <;> try simp +zetaDelta (decide := true) only [State.modLink_wipe,
      State.replayFlits_wipe, State.linkBump_wipe, wipe_ite, wipe_ite_fst, ite_self, implies_true])

theorem State.replayTimeout_wipe (s : State) (c : Nat) (m : Nat) (h : 0x3000024000000 ||| m = m) :
    (s.replayTimeout c).wipe m = s.wipe m := by
  refine wipe_mono h ?_
  unfold State.replayTimeout
  try simp +zetaDelta (decide := true) only [State.replayFrom_wipe, wipe_ite, wipe_ite_fst, ite_self,
      implies_true]
  all_goals repeat' (split <;> try simp +zetaDelta (decide := true) only [State.replayFrom_wipe, wipe_ite,
      wipe_ite_fst, ite_self, implies_true])

theorem State.hopDiscard_wipe (s : State) (c : Nat) (m : Msg) (mk : Nat) (h : 0x30020e7771000 ||| mk = mk) :
    (s.hopDiscard c m).wipe mk = s.wipe mk := by
  refine wipe_mono h ?_
  unfold State.hopDiscard
  try simp +zetaDelta (decide := true) only [State.failOne_wipe, State.recordDiscard_wipe, State.bump_wipe,
      State.sendRaw_wipe, wipe_ite, wipe_ite_fst, ite_self, implies_true]
  all_goals repeat' (split <;> try simp +zetaDelta (decide := true) only [State.failOne_wipe,
      State.recordDiscard_wipe, State.bump_wipe, State.sendRaw_wipe, wipe_ite, wipe_ite_fst, ite_self,
      implies_true])

theorem State.ackFence_wipe (s : State) (h : MsgHdr) (b : FenceBody) (m : Nat) (hm : 0x30020e7000000 ||| m = m) :
    (s.ackFence h b).wipe m = s.wipe m := by
  refine wipe_mono hm ?_
  unfold State.ackFence
  try simp +zetaDelta (decide := true) only [State.send_wipe, wipe_ite, wipe_ite_fst, ite_self, implies_true]
  all_goals repeat' (split <;> try simp +zetaDelta (decide := true) only [State.send_wipe, wipe_ite, wipe_ite_fst,
      ite_self, implies_true])

theorem State.forwardMsg_wipe (s : State) (c : Nat) (m : Msg) (mk : Nat) (h : 0x30020e7771000 ||| mk = mk) :
    (s.forwardMsg c m).wipe mk = s.wipe mk := by
  refine wipe_mono h ?_
  unfold State.forwardMsg
  try simp +zetaDelta (decide := true) only [State.hopDiscard_wipe, State.send_wipe, State.ackFence_wipe,
      wipe_ite, wipe_ite_fst, ite_self, implies_true]
  all_goals repeat' (split <;> try simp +zetaDelta (decide := true) only [State.hopDiscard_wipe, State.send_wipe,
      State.ackFence_wipe, wipe_ite, wipe_ite_fst, ite_self, implies_true])

theorem State.arriveMsg_wipe (s : State) (c : Nat) (m : Msg) (mk : Nat) (h : 0x30020e7771000 ||| mk = mk) :
    (s.arriveMsg c m).wipe mk = s.wipe mk := by
  refine wipe_mono h ?_
  unfold State.arriveMsg
  try simp +zetaDelta (decide := true) only [wipe_inbox, State.forwardMsg_wipe, wipe_ite, wipe_ite_fst, ite_self,
      implies_true]
  all_goals repeat' (split <;> try simp +zetaDelta (decide := true) only [wipe_inbox, State.forwardMsg_wipe,
      wipe_ite, wipe_ite_fst, ite_self, implies_true])

theorem State.countRx_wipe (s : State) (c : Nat) (ps : List (BitVec 192)) (m : Nat) (h : 0x4000000 ||| m = m) :
    (s.countRx c ps).wipe m = s.wipe m := by
  refine wipe_mono h ?_
  unfold State.countRx
  try simp +zetaDelta (decide := true) only [State.count_wipe, wipe_ite, wipe_ite_fst, ite_self, implies_true]
  all_goals repeat' (split <;> try simp +zetaDelta (decide := true) only [State.count_wipe, wipe_ite,
      wipe_ite_fst, ite_self, implies_true])

theorem State.acceptFlit_wipe (s : State) (c : Nat) (f : Flit) (m : Nat) (h : 0x30020e7771000 ||| m = m) :
    (s.acceptFlit c f).wipe m = s.wipe m := by
  refine wipe_mono h ?_
  unfold State.acceptFlit
  try simp +zetaDelta (decide := true) only [State.countRx_wipe, State.setLink_wipe, State.modLink_wipe,
      State.arriveMsg_wipe, State.linkBump_wipe, wipe_ite, wipe_ite_fst, ite_self, implies_true]
  all_goals repeat' (split <;> try simp +zetaDelta (decide := true) only [State.countRx_wipe, State.setLink_wipe,
      State.modLink_wipe, State.arriveMsg_wipe, State.linkBump_wipe, wipe_ite, wipe_ite_fst, ite_self,
      implies_true])

theorem State.nak_wipe (s : State) (c : Nat) (m : Nat) (h : 0x1000024000000 ||| m = m) :
    (s.nak c).wipe m = s.wipe m := by
  refine wipe_mono h ?_
  unfold State.nak
  try simp +zetaDelta (decide := true) only [State.sendCtrl_wipe, State.modLink_wipe, wipe_ite, wipe_ite_fst,
      ite_self, implies_true]
  all_goals repeat' (split <;> try simp +zetaDelta (decide := true) only [State.sendCtrl_wipe, State.modLink_wipe,
      wipe_ite, wipe_ite_fst, ite_self, implies_true])

theorem State.dataFlit_wipe (s : State) (c : Nat) (f : Flit) (m : Nat) (h : 0x30020e7771000 ||| m = m) :
    (s.dataFlit c f).wipe m = s.wipe m := by
  refine wipe_mono h ?_
  unfold State.dataFlit
  try simp +zetaDelta (decide := true) only [State.acceptFlit_wipe, State.modLink_wipe, State.nak_wipe, wipe_ite,
      wipe_ite_fst, ite_self, implies_true]
  all_goals repeat' (split <;> try simp +zetaDelta (decide := true) only [State.acceptFlit_wipe,
      State.modLink_wipe, State.nak_wipe, wipe_ite, wipe_ite_fst, ite_self, implies_true])

theorem State.abandonReplay_wipe (s : State) (c : Nat) (m : Nat) (h : 0x30020e7771000 ||| m = m) :
    (s.abandonReplay c).wipe m = s.wipe m := by
  refine wipe_mono h ?_
  unfold State.abandonReplay
  try simp +zetaDelta (decide := true) only [State.bumpN_wipe, State.setLink_wipe, State.jobFault_wipe, wipe_ite,
      wipe_ite_fst, ite_self, implies_true]
  all_goals repeat' (split <;> try simp +zetaDelta (decide := true) only [State.bumpN_wipe, State.setLink_wipe,
      State.jobFault_wipe, wipe_ite, wipe_ite_fst, ite_self, implies_true])

theorem State.dropPartials_wipe (s : State) (c : Nat) (m : Nat) (h : 0x30020e7771000 ||| m = m) :
    (s.dropPartials c).wipe m = s.wipe m := by
  refine wipe_mono h ?_
  unfold State.dropPartials
  try simp +zetaDelta (decide := true) only [State.modLink_wipe, State.jobFault_wipe, wipe_ite, wipe_ite_fst,
      ite_self, implies_true]
  all_goals repeat' (split <;> try simp +zetaDelta (decide := true) only [State.modLink_wipe, State.jobFault_wipe,
      wipe_ite, wipe_ite_fst, ite_self, implies_true])

theorem State.linkSettled_wipe (s : State) (c : Nat) (m : Nat) (h : 0x3028024000000 ||| m = m) :
    (s.linkSettled c).wipe m = s.wipe m := by
  refine wipe_mono h ?_
  unfold State.linkSettled
  try simp +zetaDelta (decide := true) only [State.catFinishAll_wipe, State.modLink_wipe, wipe_ite, wipe_ite_fst,
      ite_self, implies_true]
  all_goals repeat' (split <;> try simp +zetaDelta (decide := true) only [State.catFinishAll_wipe,
      State.modLink_wipe, wipe_ite, wipe_ite_fst, ite_self, implies_true])

theorem State.requeue_wipe (s : State) (x1 : List TxMsg) (m : Nat) (h : 0x30020e7000000 ||| m = m) :
    (s.requeue x1).wipe m = s.wipe m := by
  refine wipe_mono h ?_
  fun_induction State.requeue s x1
  all_goals try simp +zetaDelta (decide := true) only [*, State.send_wipe, wipe_ite, wipe_ite_fst, ite_self,
      implies_true]
  all_goals repeat' (split <;> try simp +zetaDelta (decide := true) only [*, State.send_wipe, wipe_ite,
      wipe_ite_fst, ite_self, implies_true])

theorem State.changesLost_wipe (s : State) (c : Nat) (m : Nat) (h : 0x3a0000000 ||| m = m) :
    (s.changesLost c).wipe m = s.wipe m := by
  refine wipe_mono h ?_
  unfold State.changesLost
  try simp +zetaDelta (decide := true) only [wipe_waitMsgs_changes_settles, State.modLink_wipe, wipe_ite,
      wipe_ite_fst, ite_self, implies_true]
  all_goals repeat' (split <;> try simp +zetaDelta (decide := true) only [wipe_waitMsgs_changes_settles,
      State.modLink_wipe, wipe_ite, wipe_ite_fst, ite_self, implies_true])

theorem State.moveRoutes_wipe (s : State) (c : Nat) (m : Nat) (h : 0x30023e7000000 ||| m = m) :
    (s.moveRoutes c).wipe m = s.wipe m := by
  refine wipe_mono h ?_
  unfold State.moveRoutes
  try simp +zetaDelta (decide := true) only [wipe_settles, State.changesLost_wipe, State.modLink_wipe,
      State.requeue_wipe, wipe_ite, wipe_ite_fst, ite_self, implies_true]
  all_goals repeat' (split <;> try simp +zetaDelta (decide := true) only [wipe_settles, State.changesLost_wipe,
      State.modLink_wipe, State.requeue_wipe, wipe_ite, wipe_ite_fst, ite_self, implies_true])

theorem State.enterHold_wipe (s : State) (c : Nat) (reason : Nat) (m : Nat) (h : 0x30028e7000400 ||| m = m) :
    (s.enterHold c reason).wipe m = s.wipe m := by
  refine wipe_mono h ?_
  unfold State.enterHold
  try simp +zetaDelta (decide := true) only [State.moveLink_wipe, State.modLink_wipe, wipe_ite, wipe_ite_fst,
      ite_self, implies_true]
  all_goals repeat' (split <;> try simp +zetaDelta (decide := true) only [State.moveLink_wipe, State.modLink_wipe,
      wipe_ite, wipe_ite_fst, ite_self, implies_true])

theorem State.startNeg_wipe (s : State) (c : Nat) (reason : Nat) (parts : Nat) (abandoned : Nat) (m : Nat) (h :
    0x30028e7000400 ||| m = m) :
    (s.startNeg c reason parts abandoned).wipe m = s.wipe m := by
  refine wipe_mono h ?_
  unfold State.startNeg
  try simp +zetaDelta (decide := true) only [State.sendNeg_wipe, State.moveLink_wipe, State.modLink_wipe,
      wipe_ite, wipe_ite_fst, ite_self, implies_true]
  all_goals repeat' (split <;> try simp +zetaDelta (decide := true) only [State.sendNeg_wipe, State.moveLink_wipe,
      State.modLink_wipe, wipe_ite, wipe_ite_fst, ite_self, implies_true])

theorem State.holdExpiry_wipe (s : State) (c : Nat) (m : Nat) (h : 0x302abe7771400 ||| m = m) :
    (s.holdExpiry c).wipe m = s.wipe m := by
  refine wipe_mono h ?_
  unfold State.holdExpiry
  try simp +zetaDelta (decide := true) only [State.moveLink_wipe, State.dropPartials_wipe,
      State.abandonReplay_wipe, State.linkSettled_wipe, State.moveRoutes_wipe, State.startNeg_wipe, wipe_ite,
      wipe_ite_fst, ite_self, implies_true]
  all_goals repeat' (split <;> try simp +zetaDelta (decide := true) only [State.moveLink_wipe,
      State.dropPartials_wipe, State.abandonReplay_wipe, State.linkSettled_wipe, State.moveRoutes_wipe,
      State.startNeg_wipe, wipe_ite, wipe_ite_fst, ite_self, implies_true])

theorem State.sendFences_wipe (s : State) (c : Nat) (vl : Nat) (x3 : List (HubId × FenceBody)) (m : Nat) (h :
    0x1000024000000 ||| m = m) :
    (s.sendFences c vl x3).wipe m = s.wipe m := by
  refine wipe_mono h ?_
  fun_induction State.sendFences s c vl x3
  all_goals try simp +zetaDelta (decide := true) only [*, State.queueOn_wipe, wipe_ite, wipe_ite_fst, ite_self,
      implies_true]
  all_goals repeat' (split <;> try simp +zetaDelta (decide := true) only [*, State.queueOn_wipe, wipe_ite,
      wipe_ite_fst, ite_self, implies_true])

theorem State.startChange_wipe (s : State) (k : RouteKey) (e : BitVec 32) (c : Nat) (vl : Nat) (cats : List CatHdr)
    (m : Nat) (h : 0x1000524000000 ||| m = m) :
    (s.startChange k e c vl cats).wipe m = s.wipe m := by
  refine wipe_mono h ?_
  unfold State.startChange
  try simp +zetaDelta (decide := true) only [wipe_changes_fenceNum, State.sendFences_wipe, wipe_ite, wipe_ite_fst,
      ite_self, implies_true]
  all_goals repeat' (split <;> try simp +zetaDelta (decide := true) only [wipe_changes_fenceNum,
      State.sendFences_wipe, wipe_ite, wipe_ite_fst, ite_self, implies_true])

theorem State.installRoute_wipe (s : State) (k : RouteKey) (e : BitVec 32) (m : Nat) (h : 0x30028f7000000 ||| m = m)
    :
    (s.installRoute k e).wipe m = s.wipe m := by
  refine wipe_mono h ?_
  unfold State.installRoute
  try simp +zetaDelta (decide := true) only [State.retryStranded_wipe, State.putRoute_wipe, wipe_ite,
      wipe_ite_fst, ite_self, implies_true]
  all_goals repeat' (split <;> try simp +zetaDelta (decide := true) only [State.retryStranded_wipe,
      State.putRoute_wipe, wipe_ite, wipe_ite_fst, ite_self, implies_true])

theorem State.writeRoute_wipe (s : State) (h : CatHdr) (k : RouteKey) (e : BitVec 32) (m : Nat) (hm :
    0x3002df7000000 ||| m = m) :
    (s.writeRoute h k e).1.wipe m = s.wipe m := by
  refine wipe_mono hm ?_
  unfold State.writeRoute
  try simp +zetaDelta (decide := true) only [wipe_changes, State.installRoute_wipe, State.startChange_wipe,
      wipe_ite, wipe_ite_fst, ite_self, implies_true]
  all_goals repeat' (split <;> try simp +zetaDelta (decide := true) only [wipe_changes, State.installRoute_wipe,
      State.startChange_wipe, wipe_ite, wipe_ite_fst, ite_self, implies_true])

theorem State.finishChange_wipe (s : State) (x : RouteChange) (m : Nat) (h : 0x302a9f7000000 ||| m = m) :
    (s.finishChange x).wipe m = s.wipe m := by
  refine wipe_mono h ?_
  unfold State.finishChange
  try simp +zetaDelta (decide := true) only [wipe_changes, State.installRoute_wipe, State.catFinishAll_wipe,
      State.releaseWaiting_wipe, wipe_ite, wipe_ite_fst, ite_self, implies_true]
  all_goals repeat' (split <;> try simp +zetaDelta (decide := true) only [wipe_changes, State.installRoute_wipe,
      State.catFinishAll_wipe, State.releaseWaiting_wipe, wipe_ite, wipe_ite_fst, ite_self, implies_true])

theorem State.finishChanges_wipe (s : State) (x1 : List RouteChange) (m : Nat) (h : 0x302a9f7000000 ||| m = m) :
    (s.finishChanges x1).wipe m = s.wipe m := by
  refine wipe_mono h ?_
  fun_induction State.finishChanges s x1
  all_goals try simp +zetaDelta (decide := true) only [*, State.finishChange_wipe, wipe_ite, wipe_ite_fst,
      ite_self, implies_true]
  all_goals repeat' (split <;> try simp +zetaDelta (decide := true) only [*, State.finishChange_wipe, wipe_ite,
      wipe_ite_fst, ite_self, implies_true])

theorem State.routeSettle_wipe (s : State) (c : Nat) (m : Nat) (h : 0x302abf7000000 ||| m = m) :
    (s.routeSettle c).wipe m = s.wipe m := by
  refine wipe_mono h ?_
  unfold State.routeSettle
  try simp +zetaDelta (decide := true) only [wipe_settles, State.finishChanges_wipe, State.releaseWaiting_wipe,
      wipe_ite, wipe_ite_fst, ite_self, implies_true]
  all_goals repeat' (split <;> try simp +zetaDelta (decide := true) only [wipe_settles, State.finishChanges_wipe,
      State.releaseWaiting_wipe, wipe_ite, wipe_ite_fst, ite_self, implies_true])

theorem State.fenceAcked_wipe (s : State) (b : FenceBody) (m : Nat) (h : 0x302a9f7000000 ||| m = m) :
    (s.fenceAcked b).wipe m = s.wipe m := by
  refine wipe_mono h ?_
  unfold State.fenceAcked
  try simp +zetaDelta (decide := true) only [wipe_changes, State.finishChange_wipe, wipe_ite, wipe_ite_fst,
      ite_self, implies_true]
  all_goals repeat' (split <;> try simp +zetaDelta (decide := true) only [wipe_changes, State.finishChange_wipe,
      wipe_ite, wipe_ite_fst, ite_self, implies_true])

theorem State.moveBack_wipe (s : State) (c : Nat) (x2 : List RouteKey) (m : Nat) (h : 0x30027e7000000 ||| m = m) :
    (s.moveBack c x2).wipe m = s.wipe m := by
  refine wipe_mono h ?_
  fun_induction State.moveBack s c x2
  all_goals try simp +zetaDelta (decide := true) only [*, wipe_settles, State.releaseWaiting_wipe,
      State.startChange_wipe, wipe_ite, wipe_ite_fst, ite_self, implies_true]
  all_goals repeat' (split <;> try simp +zetaDelta (decide := true) only [*, wipe_settles,
      State.releaseWaiting_wipe, State.startChange_wipe, wipe_ite, wipe_ite_fst, ite_self, implies_true])

theorem State.refuseLink_wipe (s : State) (c : Nat) (reason : Nat) (m : Nat) (h : 0x302abe7771400 ||| m = m) :
    (s.refuseLink c reason).wipe m = s.wipe m := by
  refine wipe_mono h ?_
  unfold State.refuseLink
  try simp +zetaDelta (decide := true) only [State.abandonReplay_wipe, State.moveLink_wipe, State.modLink_wipe,
      State.dropPartials_wipe, State.linkSettled_wipe, State.moveRoutes_wipe, wipe_ite, wipe_ite_fst, ite_self,
      implies_true]
  all_goals repeat' (split <;> try simp +zetaDelta (decide := true) only [State.abandonReplay_wipe,
      State.moveLink_wipe, State.modLink_wipe, State.dropPartials_wipe, State.linkSettled_wipe,
      State.moveRoutes_wipe, wipe_ite, wipe_ite_fst, ite_self, implies_true])

theorem State.upFresh_wipe (s : State) (c : Nat) (n : Neg) (m : Nat) (h : 0x302afe7000400 ||| m = m) :
    (s.upFresh c n).wipe m = s.wipe m := by
  refine wipe_mono h ?_
  unfold State.upFresh
  try simp +zetaDelta (decide := true) only [State.setLink_wipe, State.requeue_wipe, State.moveBack_wipe,
      State.moveLink_wipe, State.linkSettled_wipe, State.pump_wipe, State.sendNeg_wipe, wipe_ite, wipe_ite_fst,
      ite_self, implies_true]
  all_goals repeat' (split <;> try simp +zetaDelta (decide := true) only [State.setLink_wipe, State.requeue_wipe,
      State.moveBack_wipe, State.moveLink_wipe, State.linkSettled_wipe, State.pump_wipe, State.sendNeg_wipe,
      wipe_ite, wipe_ite_fst, ite_self, implies_true])

theorem State.upResume_wipe (s : State) (c : Nat) (n : Neg) (m : Nat) (h : 0x302a8e7000400 ||| m = m) :
    (s.upResume c n).wipe m = s.wipe m := by
  refine wipe_mono h ?_
  unfold State.upResume
  try simp +zetaDelta (decide := true) only [State.setLink_wipe, State.replayFlits_wipe, State.sendNeg_wipe,
      State.moveLink_wipe, State.linkSettled_wipe, State.pump_wipe, wipe_ite, wipe_ite_fst, ite_self,
      implies_true]
  all_goals repeat' (split <;> try simp +zetaDelta (decide := true) only [State.setLink_wipe,
      State.replayFlits_wipe, State.sendNeg_wipe, State.moveLink_wipe, State.linkSettled_wipe, State.pump_wipe,
      wipe_ite, wipe_ite_fst, ite_self, implies_true])

theorem State.loseHold_wipe (s : State) (c : Nat) (n : Neg) (m : Nat) (h : 0x3002be7771400 ||| m = m) :
    (s.loseHold c n).wipe m = s.wipe m := by
  refine wipe_mono h ?_
  unfold State.loseHold
  try simp +zetaDelta (decide := true) only [State.startNeg_wipe, State.changesLost_wipe, State.dropPartials_wipe,
      State.abandonReplay_wipe, wipe_ite, wipe_ite_fst, ite_self, implies_true]
  all_goals repeat' (split <;> try simp +zetaDelta (decide := true) only [State.startNeg_wipe,
      State.changesLost_wipe, State.dropPartials_wipe, State.abandonReplay_wipe, wipe_ite, wipe_ite_fst, ite_self,
      implies_true])

theorem State.agree_wipe (s : State) (c : Nat) (n : Neg) (resumed : Bool) (m : Nat) (h : 0x302afe7000400 ||| m = m)
    :
    (s.agree c n resumed).wipe m = s.wipe m := by
  refine wipe_mono h ?_
  unfold State.agree
  try simp +zetaDelta (decide := true) only [State.modLink_wipe, State.upResume_wipe, State.upFresh_wipe,
      wipe_ite, wipe_ite_fst, ite_self, implies_true]
  all_goals repeat' (split <;> try simp +zetaDelta (decide := true) only [State.modLink_wipe, State.upResume_wipe,
      State.upFresh_wipe, wipe_ite, wipe_ite_fst, ite_self, implies_true])

theorem State.startRenegotiation_wipe (s : State) (c : Nat) (m : Nat) (h : 0x30028e7000400 ||| m = m) :
    (s.startRenegotiation c).wipe m = s.wipe m := by
  refine wipe_mono h ?_
  unfold State.startRenegotiation
  try simp +zetaDelta (decide := true) only [State.moveLink_wipe, State.modLink_wipe, State.sendNeg_wipe,
      wipe_ite, wipe_ite_fst, ite_self, implies_true]
  all_goals repeat' (split <;> try simp +zetaDelta (decide := true) only [State.moveLink_wipe, State.modLink_wipe,
      State.sendNeg_wipe, wipe_ite, wipe_ite_fst, ite_self, implies_true])

theorem State.negRefused_wipe (s : State) (c : Nat) (n : Neg) (m : Nat) (h : 0x302afe7000400 ||| m = m) :
    (s.negRefused c n).wipe m = s.wipe m := by
  refine wipe_mono h ?_
  unfold State.negRefused
  try simp +zetaDelta (decide := true) only [State.sendNeg_wipe, State.modLink_wipe, State.agree_wipe,
      State.startNeg_wipe, wipe_ite, wipe_ite_fst, ite_self, implies_true]
  all_goals repeat' (split <;> try simp +zetaDelta (decide := true) only [State.sendNeg_wipe, State.modLink_wipe,
      State.agree_wipe, State.startNeg_wipe, wipe_ite, wipe_ite_fst, ite_self, implies_true])

theorem State.negFlit_wipe (s : State) (c : Nat) (n : Neg) (m : Nat) (h : 0x302afe7771400 ||| m = m) :
    (s.negFlit c n).wipe m = s.wipe m := by
  refine wipe_mono h ?_
  unfold State.negFlit
  try simp +zetaDelta (decide := true) only [State.startRenegotiation_wipe, State.refuseLink_wipe,
      State.agree_wipe, State.loseHold_wipe, State.negRefused_wipe, wipe_ite, wipe_ite_fst, ite_self,
      implies_true]
  all_goals repeat' (split <;> try simp +zetaDelta (decide := true) only [State.startRenegotiation_wipe,
      State.refuseLink_wipe, State.agree_wipe, State.loseHold_wipe, State.negRefused_wipe, wipe_ite, wipe_ite_fst,
      ite_self, implies_true])

theorem State.negResend_wipe (s : State) (c : Nat) (m : Nat) (h : 0x1000024000000 ||| m = m) :
    (s.negResend c).wipe m = s.wipe m := by
  refine wipe_mono h ?_
  unfold State.negResend
  try simp +zetaDelta (decide := true) only [State.sendNeg_wipe, wipe_ite, wipe_ite_fst, ite_self, implies_true]
  all_goals repeat' (split <;> try simp +zetaDelta (decide := true) only [State.sendNeg_wipe, wipe_ite,
      wipe_ite_fst, ite_self, implies_true])

theorem State.negTimeout_wipe (s : State) (c : Nat) (m : Nat) (h : 0x2000027000000 ||| m = m) :
    (s.negTimeout c).wipe m = s.wipe m := by
  refine wipe_mono h ?_
  unfold State.negTimeout
  try simp +zetaDelta (decide := true) only [State.linkNote_wipe, State.modLink_wipe, wipe_ite, wipe_ite_fst,
      ite_self, implies_true]
  all_goals repeat' (split <;> try simp +zetaDelta (decide := true) only [State.linkNote_wipe, State.modLink_wipe,
      wipe_ite, wipe_ite_fst, ite_self, implies_true])

theorem State.renegotiate_wipe (s : State) (h : CatHdr) (c : Nat) (sub : Nat) (v : Nat) (m : Nat) (hm :
    0x30028e7000400 ||| m = m) :
    (s.renegotiate h c sub v).1.wipe m = s.wipe m := by
  refine wipe_mono hm ?_
  unfold State.renegotiate
  try simp +zetaDelta (decide := true) only [State.setCfg_wipe, State.modLink_wipe, State.startRenegotiation_wipe,
      State.startNeg_wipe, wipe_ite, wipe_ite_fst, ite_self, implies_true]
  all_goals repeat' (split <;> try simp +zetaDelta (decide := true) only [State.setCfg_wipe, State.modLink_wipe,
      State.startRenegotiation_wipe, State.startNeg_wipe, wipe_ite, wipe_ite_fst, ite_self, implies_true])

theorem State.recheckLink_wipe (s : State) (c : Nat) (m : Nat) (h : 0x30028e7000400 ||| m = m) :
    (s.recheckLink c).wipe m = s.wipe m := by
  refine wipe_mono h ?_
  unfold State.recheckLink
  try simp +zetaDelta (decide := true) only [State.startNeg_wipe, wipe_ite, wipe_ite_fst, ite_self, implies_true]
  all_goals repeat' (split <;> try simp +zetaDelta (decide := true) only [State.startNeg_wipe, wipe_ite,
      wipe_ite_fst, ite_self, implies_true])

theorem State.phyRise_wipe (s : State) (c : Nat) (lanes : BitVec 3) (m : Nat) (h : 0x30028e7000400 ||| m = m) :
    (s.phyRise c lanes).wipe m = s.wipe m := by
  refine wipe_mono h ?_
  unfold State.phyRise
  try simp +zetaDelta (decide := true) only [State.setLink_wipe, State.sendNeg_wipe, State.startNeg_wipe,
      wipe_ite, wipe_ite_fst, ite_self, implies_true]
  all_goals repeat' (split <;> try simp +zetaDelta (decide := true) only [State.setLink_wipe, State.sendNeg_wipe,
      State.startNeg_wipe, wipe_ite, wipe_ite_fst, ite_self, implies_true])

theorem State.phyFall_wipe (s : State) (c : Nat) (m : Nat) (h : 0x302a8e7000400 ||| m = m) :
    (s.phyFall c).wipe m = s.wipe m := by
  refine wipe_mono h ?_
  unfold State.phyFall
  try simp +zetaDelta (decide := true) only [State.setLink_wipe, State.enterHold_wipe, State.linkSettled_wipe,
      State.moveLink_wipe, wipe_ite, wipe_ite_fst, ite_self, implies_true]
  all_goals repeat' (split <;> try simp +zetaDelta (decide := true) only [State.setLink_wipe,
      State.enterHold_wipe, State.linkSettled_wipe, State.moveLink_wipe, wipe_ite, wipe_ite_fst, ite_self,
      implies_true])

theorem State.retryLimit_wipe (s : State) (c : Nat) (m : Nat) (h : 0x30028e7000400 ||| m = m) :
    (s.retryLimit c).wipe m = s.wipe m := by
  refine wipe_mono h ?_
  unfold State.retryLimit
  try simp +zetaDelta (decide := true) only [State.enterHold_wipe, State.modLink_wipe, wipe_ite, wipe_ite_fst,
      ite_self, implies_true]
  all_goals repeat' (split <;> try simp +zetaDelta (decide := true) only [State.enterHold_wipe,
      State.modLink_wipe, wipe_ite, wipe_ite_fst, ite_self, implies_true])

theorem State.ackCtrl_wipe (s : State) (c : Nat) (m : Nat) (h : 0x1000024000000 ||| m = m) :
    (s.ackCtrl c).wipe m = s.wipe m := by
  refine wipe_mono h ?_
  unfold State.ackCtrl
  try simp +zetaDelta (decide := true) only [State.sendCtrl_wipe, wipe_ite, wipe_ite_fst, ite_self, implies_true]
  all_goals repeat' (split <;> try simp +zetaDelta (decide := true) only [State.sendCtrl_wipe, wipe_ite,
      wipe_ite_fst, ite_self, implies_true])

theorem State.timeExchange_wipe (s : State) (m : Nat) (h : 0x1000024000400 ||| m = m) :
    (s.timeExchange).wipe m = s.wipe m := by
  refine wipe_mono h ?_
  unfold State.timeExchange
  try simp +zetaDelta (decide := true) only [wipe_sync, State.sendControl_wipe, wipe_ite, wipe_ite_fst, ite_self,
      implies_true]
  all_goals repeat' (split <;> try simp +zetaDelta (decide := true) only [wipe_sync, State.sendControl_wipe,
      wipe_ite, wipe_ite_fst, ite_self, implies_true])

theorem State.answerTime_wipe (s : State) (c : Nat) (payload : BitVec 192) (m : Nat) (h : 0x1000024000000 ||| m = m)
    :
    (s.answerTime c payload).wipe m = s.wipe m := by
  refine wipe_mono h ?_
  unfold State.answerTime
  try simp +zetaDelta (decide := true) only [State.sendControl_wipe, wipe_ite, wipe_ite_fst, ite_self,
      implies_true]
  all_goals repeat' (split <;> try simp +zetaDelta (decide := true) only [State.sendControl_wipe, wipe_ite,
      wipe_ite_fst, ite_self, implies_true])

theorem State.stepTime_wipe (s : State) (d : Int) (m : Nat) (h : 0xe0310440 ||| m = m) :
    (s.stepTime d).wipe m = s.wipe m := by
  refine wipe_mono h ?_
  unfold State.stepTime
  try simp +zetaDelta (decide := true) only [wipe_time_sync_waiters_ports_slots_links_inbox_waitMsgs, wipe_ite,
      wipe_ite_fst, ite_self, implies_true]
  all_goals repeat' (split <;> try simp +zetaDelta (decide := true) only
      [wipe_time_sync_waiters_ports_slots_links_inbox_waitMsgs, wipe_ite, wipe_ite_fst, ite_self, implies_true])

theorem State.useExchange_wipe (s : State) (c : Nat) (t1 : BitVec 64) (t2 : BitVec 64) (t3 : BitVec 64) (t4 : BitVec
    64) (a : BitVec 64) (m : Nat) (h : 0x20000e7310440 ||| m = m) :
    (s.useExchange c t1 t2 t3 t4 a).wipe m = s.wipe m := by
  refine wipe_mono h ?_
  unfold State.useExchange
  try simp +zetaDelta (decide := true) only [wipe_sync, State.setCfg_wipe, State.bump_wipe, State.stepTime_wipe,
      State.linkNote_wipe, wipe_ite, wipe_ite_fst, ite_self, implies_true]
  all_goals repeat' (split <;> try simp +zetaDelta (decide := true) only [wipe_sync, State.setCfg_wipe,
      State.bump_wipe, State.stepTime_wipe, State.linkNote_wipe, wipe_ite, wipe_ite_fst, ite_self, implies_true])

theorem State.timeAnswer_wipe (s : State) (c : Nat) (payload : BitVec 192) (m : Nat) (h : 0x20000e7310440 ||| m = m)
    :
    (s.timeAnswer c payload).wipe m = s.wipe m := by
  refine wipe_mono h ?_
  unfold State.timeAnswer
  try simp +zetaDelta (decide := true) only [State.useExchange_wipe, wipe_ite, wipe_ite_fst, ite_self,
      implies_true]
  all_goals repeat' (split <;> try simp +zetaDelta (decide := true) only [State.useExchange_wipe, wipe_ite,
      wipe_ite_fst, ite_self, implies_true])

theorem State.holdoverLimit_wipe (s : State) (m : Nat) (h : 0x2000007000400 ||| m = m) :
    (s.holdoverLimit).wipe m = s.wipe m := by
  refine wipe_mono h ?_
  unfold State.holdoverLimit
  try simp +zetaDelta (decide := true) only [wipe_sync, State.linkNote_wipe, wipe_ite, wipe_ite_fst, ite_self,
      implies_true]
  all_goals repeat' (split <;> try simp +zetaDelta (decide := true) only [wipe_sync, State.linkNote_wipe,
      wipe_ite, wipe_ite_fst, ite_self, implies_true])

theorem State.writeTimeSet_wipe (s : State) (t : Time) (m : Nat) (h : 0x440 ||| m = m) :
    (s.writeTimeSet t).1.wipe m = s.wipe m := by
  refine wipe_mono h ?_
  unfold State.writeTimeSet
  try simp +zetaDelta (decide := true) only [wipe_time_sync, wipe_ite, wipe_ite_fst, ite_self, implies_true]
  all_goals repeat' (split <;> try simp +zetaDelta (decide := true) only [wipe_time_sync, wipe_ite, wipe_ite_fst,
      ite_self, implies_true])

theorem State.ctrlFlit_wipe (s : State) (c : Nat) (payload : BitVec 192) (m : Nat) (h : 0x3000024000000 ||| m = m) :
    (s.ctrlFlit c payload).wipe m = s.wipe m := by
  refine wipe_mono h ?_
  unfold State.ctrlFlit
  try simp +zetaDelta (decide := true) only [State.modLink_wipe, State.replayFrom_wipe, wipe_ite, wipe_ite_fst,
      ite_self, implies_true]
  all_goals repeat' (split <;> try simp +zetaDelta (decide := true) only [State.modLink_wipe,
      State.replayFrom_wipe, wipe_ite, wipe_ite_fst, ite_self, implies_true])

theorem State.timeFlit_wipe (s : State) (c : Nat) (payload : BitVec 192) (m : Nat) (h : 0x30000e7310440 ||| m = m) :
    (s.timeFlit c payload).wipe m = s.wipe m := by
  refine wipe_mono h ?_
  unfold State.timeFlit
  try simp +zetaDelta (decide := true) only [State.answerTime_wipe, State.timeAnswer_wipe, wipe_ite, wipe_ite_fst,
      ite_self, implies_true]
  all_goals repeat' (split <;> try simp +zetaDelta (decide := true) only [State.answerTime_wipe,
      State.timeAnswer_wipe, wipe_ite, wipe_ite_fst, ite_self, implies_true])

theorem State.takeAck_wipe (s : State) (c : Nat) (f : Flit) (m : Nat) (h : 0x20000000 ||| m = m) :
    (s.takeAck c f).wipe m = s.wipe m := by
  refine wipe_mono h ?_
  unfold State.takeAck
  try simp +zetaDelta (decide := true) only [State.modLink_wipe, wipe_ite, wipe_ite_fst, ite_self, implies_true]
  all_goals repeat' (split <;> try simp +zetaDelta (decide := true) only [State.modLink_wipe, wipe_ite,
      wipe_ite_fst, ite_self, implies_true])

theorem State.drainedNeg_wipe (s : State) (c : Nat) (before : Link) (m : Nat) (h : 0x1000024000000 ||| m = m) :
    (s.drainedNeg c before).wipe m = s.wipe m := by
  refine wipe_mono h ?_
  unfold State.drainedNeg
  try simp +zetaDelta (decide := true) only [State.sendNeg_wipe, wipe_ite, wipe_ite_fst, ite_self, implies_true]
  all_goals repeat' (split <;> try simp +zetaDelta (decide := true) only [State.sendNeg_wipe, wipe_ite,
      wipe_ite_fst, ite_self, implies_true])

theorem State.goodFlit_wipe (s : State) (c : Nat) (f : Flit) (m : Nat) (h : 0x302afe7771440 ||| m = m) :
    (s.goodFlit c f).wipe m = s.wipe m := by
  refine wipe_mono h ?_
  unfold State.goodFlit
  try simp +zetaDelta (decide := true) only [State.negFlit_wipe, State.takeAck_wipe, State.ctrlFlit_wipe,
      State.timeFlit_wipe, State.dataFlit_wipe, State.pump_wipe, State.drainedNeg_wipe, wipe_ite, wipe_ite_fst,
      ite_self, implies_true]
  all_goals repeat' (split <;> try simp +zetaDelta (decide := true) only [State.negFlit_wipe, State.takeAck_wipe,
      State.ctrlFlit_wipe, State.timeFlit_wipe, State.dataFlit_wipe, State.pump_wipe, State.drainedNeg_wipe,
      wipe_ite, wipe_ite_fst, ite_self, implies_true])

theorem State.receiveFlit_wipe (s : State) (c : Nat) (flit : BitVec 256) (bad : Bool) (m : Nat) (h : 0x302afe7771440
    ||| m = m) :
    (s.receiveFlit c flit bad).wipe m = s.wipe m := by
  refine wipe_mono h ?_
  unfold State.receiveFlit
  try simp +zetaDelta (decide := true) only [State.count_wipe, State.linkBump_wipe, State.nak_wipe,
      State.goodFlit_wipe, wipe_ite, wipe_ite_fst, ite_self, implies_true]
  all_goals repeat' (split <;> try simp +zetaDelta (decide := true) only [State.count_wipe, State.linkBump_wipe,
      State.nak_wipe, State.goodFlit_wipe, wipe_ite, wipe_ite_fst, ite_self, implies_true])

end Sys2Proof.Machine
end

