-- ==== Sys2Proof/Laws/KeepsObserve.lean ====
section
/-! SUPPORT. What each operation of Observe.lean changes at most: blotting out the fields of its mask takes away every
difference that it makes. -/

set_option linter.all false

namespace Sys2Proof.Machine

theorem State.armShelf_wipe (s : State) (p : Nat) (a : Arming) (m : Nat) (h : 0x30020e7001000 ||| m = m) :
    (s.armShelf p a).wipe m = s.wipe m := by
  refine wipe_mono h ?_
  unfold State.armShelf
  try simp +zetaDelta (decide := true) only [State.setShelf_wipe, State.failShelf_wipe, wipe_ite, wipe_ite_fst,
      ite_self, implies_true]
  all_goals repeat' (split <;> try simp +zetaDelta (decide := true) only [State.setShelf_wipe,
      State.failShelf_wipe, wipe_ite, wipe_ite_fst, ite_self, implies_true])

theorem State.cancelShelf_wipe (s : State) (p : Nat) (k : Nat) (m : Nat) (h : 0x30020e7001000 ||| m = m) :
    (s.cancelShelf p k).wipe m = s.wipe m := by
  refine wipe_mono h ?_
  unfold State.cancelShelf
  try simp +zetaDelta (decide := true) only [State.failShelf_wipe, wipe_ite, wipe_ite_fst, ite_self, implies_true]
  all_goals repeat' (split <;> try simp +zetaDelta (decide := true) only [State.failShelf_wipe, wipe_ite,
      wipe_ite_fst, ite_self, implies_true])

theorem State.sendShelf_wipe (s : State) (p : Nat) (k : ShelfKind) (b : ShelfBody) (x4 : List HubId) (m : Nat) (h :
    0x30020e7000000 ||| m = m) :
    (s.sendShelf p k b x4).wipe m = s.wipe m := by
  refine wipe_mono h ?_
  fun_induction State.sendShelf s p k b x4
  all_goals try simp +zetaDelta (decide := true) only [*, State.send_wipe, wipe_ite, wipe_ite_fst, ite_self,
      implies_true]
  all_goals repeat' (split <;> try simp +zetaDelta (decide := true) only [*, State.send_wipe, wipe_ite,
      wipe_ite_fst, ite_self, implies_true])

theorem State.armPeers_wipe (s : State) (p : Nat) (a : Arming) (m : Nat) (h : 0x30020e7001000 ||| m = m) :
    (s.armPeers p a).wipe m = s.wipe m := by
  refine wipe_mono h ?_
  unfold State.armPeers
  try simp +zetaDelta (decide := true) only [State.modPart_wipe, State.sendShelf_wipe, wipe_ite, wipe_ite_fst,
      ite_self, implies_true]
  all_goals repeat' (split <;> try simp +zetaDelta (decide := true) only [State.modPart_wipe,
      State.sendShelf_wipe, wipe_ite, wipe_ite_fst, ite_self, implies_true])

theorem State.writeShelfArm_wipe (s : State) (p : Nat) (v : BitVec 8) (m : Nat) (h : 0x30020e7001000 ||| m = m) :
    (s.writeShelfArm p v).wipe m = s.wipe m := by
  refine wipe_mono h ?_
  unfold State.writeShelfArm
  try simp +zetaDelta (decide := true) only [State.armShelf_wipe, State.armPeers_wipe, wipe_ite, wipe_ite_fst,
      ite_self, implies_true]
  all_goals repeat' (split <;> try simp +zetaDelta (decide := true) only [State.armShelf_wipe,
      State.armPeers_wipe, wipe_ite, wipe_ite_fst, ite_self, implies_true])

theorem State.writeShelfCancel_wipe (s : State) (p : Nat) (v : BitVec 8) (m : Nat) (h : 0x30020e7001000 ||| m = m) :
    (s.writeShelfCancel p v).wipe m = s.wipe m := by
  refine wipe_mono h ?_
  unfold State.writeShelfCancel
  try simp +zetaDelta (decide := true) only [State.sendShelf_wipe, State.cancelShelf_wipe, wipe_ite, wipe_ite_fst,
      ite_self, implies_true]
  all_goals repeat' (split <;> try simp +zetaDelta (decide := true) only [State.sendShelf_wipe,
      State.cancelShelf_wipe, wipe_ite, wipe_ite_fst, ite_self, implies_true])

theorem State.shelfArmMsg_wipe (s : State) (src : HubId) (p : Nat) (b : ShelfBody) (m : Nat) (h : 0x30020e7001000
    ||| m = m) :
    (s.shelfArmMsg src p b).wipe m = s.wipe m := by
  refine wipe_mono h ?_
  unfold State.shelfArmMsg
  try simp +zetaDelta (decide := true) only [State.armShelf_wipe, wipe_ite, wipe_ite_fst, ite_self, implies_true]
  all_goals repeat' (split <;> try simp +zetaDelta (decide := true) only [State.armShelf_wipe, wipe_ite,
      wipe_ite_fst, ite_self, implies_true])

theorem State.shelfCancelMsg_wipe (s : State) (p : Nat) (b : ShelfBody) (m : Nat) (h : 0x30020e7001000 ||| m = m) :
    (s.shelfCancelMsg p b).wipe m = s.wipe m := by
  refine wipe_mono h ?_
  unfold State.shelfCancelMsg
  try simp +zetaDelta (decide := true) only [State.cancelShelf_wipe, wipe_ite, wipe_ite_fst, ite_self,
      implies_true]
  all_goals repeat' (split <;> try simp +zetaDelta (decide := true) only [State.cancelShelf_wipe, wipe_ite,
      wipe_ite_fst, ite_self, implies_true])

theorem State.shelfDoneMsg_wipe (s : State) (src : HubId) (p : Nat) (b : ShelfBody) (m : Nat) (h : 0x1000 ||| m = m)
    :
    (s.shelfDoneMsg src p b).wipe m = s.wipe m := by
  refine wipe_mono h ?_
  unfold State.shelfDoneMsg
  try simp +zetaDelta (decide := true) only [State.setShelf_wipe, wipe_ite, wipe_ite_fst, ite_self, implies_true]
  all_goals repeat' (split <;> try simp +zetaDelta (decide := true) only [State.setShelf_wipe, wipe_ite,
      wipe_ite_fst, ite_self, implies_true])

theorem State.shelfMissing_wipe (s : State) (p : Nat) (k : Nat) (m : Nat) (h : 0x1000 ||| m = m) :
    (s.shelfMissing p k).wipe m = s.wipe m := by
  refine wipe_mono h ?_
  unfold State.shelfMissing
  try simp +zetaDelta (decide := true) only [State.setShelf_wipe, wipe_ite, wipe_ite_fst, ite_self, implies_true]
  all_goals repeat' (split <;> try simp +zetaDelta (decide := true) only [State.setShelf_wipe, wipe_ite,
      wipe_ite_fst, ite_self, implies_true])

theorem State.shelfTime_wipe (s : State) (p : Nat) (k : Nat) (m : Nat) (h : 0x30020e7001000 ||| m = m) :
    (s.shelfTime p k).wipe m = s.wipe m := by
  refine wipe_mono h ?_
  unfold State.shelfTime
  try simp +zetaDelta (decide := true) only [State.latchShelf_wipe, wipe_ite, wipe_ite_fst, ite_self,
      implies_true]
  all_goals repeat' (split <;> try simp +zetaDelta (decide := true) only [State.latchShelf_wipe, wipe_ite,
      wipe_ite_fst, ite_self, implies_true])

theorem State.armFolio_wipe (s : State) (m : Nat) (h : 0x2000000000 ||| m = m) :
    (s.armFolio).1.wipe m = s.wipe m := by
  refine wipe_mono h ?_
  unfold State.armFolio
  try simp +zetaDelta (decide := true) only [wipe_folio, wipe_ite, wipe_ite_fst, ite_self, implies_true]
  all_goals repeat' (split <;> try simp +zetaDelta (decide := true) only [wipe_folio, wipe_ite, wipe_ite_fst,
      ite_self, implies_true])

theorem State.markScope_wipe (s : State) (cause : Nat) (data : BitVec 64) (m : Nat) (h : 0x2002007000000 ||| m = m)
    :
    (s.markScope cause data).wipe m = s.wipe m := by
  refine wipe_mono h ?_
  unfold State.markScope
  try simp +zetaDelta (decide := true) only [State.folioMark_wipe, wipe_ite, wipe_ite_fst, ite_self, implies_true]
  all_goals repeat' (split <;> try simp +zetaDelta (decide := true) only [State.folioMark_wipe, wipe_ite,
      wipe_ite_fst, ite_self, implies_true])

theorem State.triggerFolio_wipe (s : State) (m : Nat) (h : 0x2002007000000 ||| m = m) :
    (s.triggerFolio).wipe m = s.wipe m := by
  refine wipe_mono h ?_
  unfold State.triggerFolio
  try simp +zetaDelta (decide := true) only [State.markScope_wipe, wipe_ite, wipe_ite_fst, ite_self, implies_true]
  all_goals repeat' (split <;> try simp +zetaDelta (decide := true) only [State.markScope_wipe, wipe_ite,
      wipe_ite_fst, ite_self, implies_true])

theorem State.stopFolio_wipe (s : State) (m : Nat) (h : 0x2002007000000 ||| m = m) :
    (s.stopFolio).wipe m = s.wipe m := by
  refine wipe_mono h ?_
  unfold State.stopFolio
  try simp +zetaDelta (decide := true) only [State.folioStop_wipe, wipe_ite, wipe_ite_fst, ite_self, implies_true]
  all_goals repeat' (split <;> try simp +zetaDelta (decide := true) only [State.folioStop_wipe, wipe_ite,
      wipe_ite_fst, ite_self, implies_true])

theorem State.clearFolio_wipe (s : State) (m : Nat) (h : 0x2000000000 ||| m = m) :
    (s.clearFolio).wipe m = s.wipe m := by
  refine wipe_mono h ?_
  unfold State.clearFolio
  try simp +zetaDelta (decide := true) only [wipe_folio, wipe_ite, wipe_ite_fst, ite_self, implies_true]
  all_goals repeat' (split <;> try simp +zetaDelta (decide := true) only [wipe_folio, wipe_ite, wipe_ite_fst,
      ite_self, implies_true])

theorem State.markFolio_wipe (s : State) (v : BitVec 64) (m : Nat) (h : 0x2002007000000 ||| m = m) :
    (s.markFolio v).wipe m = s.wipe m := by
  refine wipe_mono h ?_
  unfold State.markFolio
  try simp +zetaDelta (decide := true) only [State.record_wipe, wipe_ite, wipe_ite_fst, ite_self, implies_true]
  all_goals repeat' (split <;> try simp +zetaDelta (decide := true) only [State.record_wipe, wipe_ite,
      wipe_ite_fst, ite_self, implies_true])

theorem State.folioTime_wipe (s : State) (m : Nat) (h : 0x2002007000000 ||| m = m) :
    (s.folioTime).wipe m = s.wipe m := by
  refine wipe_mono h ?_
  unfold State.folioTime
  try simp +zetaDelta (decide := true) only [State.markScope_wipe, wipe_ite, wipe_ite_fst, ite_self, implies_true]
  all_goals repeat' (split <;> try simp +zetaDelta (decide := true) only [State.markScope_wipe, wipe_ite,
      wipe_ite_fst, ite_self, implies_true])

theorem State.folioDumped_wipe (s : State) (m : Nat) (h : 0x2002007000000 ||| m = m) :
    (s.folioDumped).wipe m = s.wipe m := by
  refine wipe_mono h ?_
  unfold State.folioDumped
  try simp +zetaDelta (decide := true) only [wipe_mgr, wipe_folio, State.folioTrace_wipe, wipe_ite, wipe_ite_fst,
      ite_self, implies_true, wipe_mgr_folio]
  all_goals repeat' (split <;> try simp +zetaDelta (decide := true) only [wipe_mgr, wipe_folio,
      State.folioTrace_wipe, wipe_ite, wipe_ite_fst, ite_self, implies_true, wipe_mgr_folio])

theorem State.writeDepositFlags_wipe (s : State) (p : Nat) (v : BitVec 8) (m : Nat) (h : 0x1000 ||| m = m) :
    (s.writeDepositFlags p v).1.wipe m = s.wipe m := by
  refine wipe_mono h ?_
  unfold State.writeDepositFlags
  try simp +zetaDelta (decide := true) only [State.modPart_wipe, wipe_ite, wipe_ite_fst, ite_self, implies_true]
  all_goals repeat' (split <;> try simp +zetaDelta (decide := true) only [State.modPart_wipe, wipe_ite,
      wipe_ite_fst, ite_self, implies_true])

theorem State.ackDeposit_wipe (s : State) (p : Nat) (k : Nat) (m : Nat) (h : 0x30828fff75000 ||| m = m) :
    (s.ackDeposit p k).1.wipe m = s.wipe m := by
  refine wipe_mono h ?_
  unfold State.ackDeposit
  try simp +zetaDelta (decide := true) only [State.endHold_wipe, State.recordDeposit_wipe, wipe_ite, wipe_ite_fst,
      ite_self, implies_true]
  all_goals repeat' (split <;> try simp +zetaDelta (decide := true) only [State.endHold_wipe,
      State.recordDeposit_wipe, wipe_ite, wipe_ite_fst, ite_self, implies_true])

theorem State.depositLimit_wipe (s : State) (p : Nat) (k : Nat) (m : Nat) (h : 0x30828fff75000 ||| m = m) :
    (s.depositLimit p k).wipe m = s.wipe m := by
  refine wipe_mono h ?_
  unfold State.depositLimit
  try simp +zetaDelta (decide := true) only [State.modPart_wipe, State.count32_wipe, State.endHold_wipe,
      State.recordDeposit_wipe, wipe_ite, wipe_ite_fst, ite_self, implies_true]
  all_goals repeat' (split <;> try simp +zetaDelta (decide := true) only [State.modPart_wipe, State.count32_wipe,
      State.endHold_wipe, State.recordDeposit_wipe, wipe_ite, wipe_ite_fst, ite_self, implies_true])

theorem State.holdMsgReq_wipe (s : State) (p : Nat) (resume : Bool) (b : HoldBody) (m : Nat) (h : 0x30020e7101000
    ||| m = m) :
    (s.holdMsgReq p resume b).wipe m = s.wipe m := by
  refine wipe_mono h ?_
  unfold State.holdMsgReq
  try simp +zetaDelta (decide := true) only [State.send_wipe, State.resumeHere_wipe, State.holdHere_wipe,
      wipe_ite, wipe_ite_fst, ite_self, implies_true]
  all_goals repeat' (split <;> try simp +zetaDelta (decide := true) only [State.send_wipe, State.resumeHere_wipe,
      State.holdHere_wipe, wipe_ite, wipe_ite_fst, ite_self, implies_true])

theorem State.holdMsgAck_wipe (s : State) (src : HubId) (p : Nat) (resume : Bool) (b : HoldBody) (m : Nat) (h :
    0x302a007101000 ||| m = m) :
    (s.holdMsgAck src p resume b).wipe m = s.wipe m := by
  refine wipe_mono h ?_
  unfold State.holdMsgAck
  try simp +zetaDelta (decide := true) only [State.modPart_wipe, State.holdDone_wipe, wipe_ite, wipe_ite_fst,
      ite_self, implies_true]
  all_goals repeat' (split <;> try simp +zetaDelta (decide := true) only [State.modPart_wipe, State.holdDone_wipe,
      wipe_ite, wipe_ite_fst, ite_self, implies_true])

theorem State.holdLate_wipe (s : State) (p : Nat) (x2 : List HoldXchg) (m : Nat) (h : 0x302a007101000 ||| m = m) :
    (s.holdLate p x2).wipe m = s.wipe m := by
  refine wipe_mono h ?_
  fun_induction State.holdLate s p x2
  all_goals try simp +zetaDelta (decide := true) only [*, State.holdDone_wipe, wipe_ite, wipe_ite_fst, ite_self,
      implies_true]
  all_goals repeat' (split <;> try simp +zetaDelta (decide := true) only [*, State.holdDone_wipe, wipe_ite,
      wipe_ite_fst, ite_self, implies_true])

theorem State.sendStock_wipe (s : State) (p : Nat) (k : StockKind) (b : StockBody) (x4 : List HubId) (m : Nat) (h :
    0x30020e7000000 ||| m = m) :
    (s.sendStock p k b x4).wipe m = s.wipe m := by
  refine wipe_mono h ?_
  fun_induction State.sendStock s p k b x4
  all_goals try simp +zetaDelta (decide := true) only [*, State.send_wipe, wipe_ite, wipe_ite_fst, ite_self,
      implies_true]
  all_goals repeat' (split <;> try simp +zetaDelta (decide := true) only [*, State.send_wipe, wipe_ite,
      wipe_ite_fst, ite_self, implies_true])

theorem State.stockQuery_wipe (s : State) (p : Nat) (b : StockBody) (m : Nat) (h : 0x30020e7000000 ||| m = m) :
    (s.stockQuery p b).wipe m = s.wipe m := by
  refine wipe_mono h ?_
  unfold State.stockQuery
  try simp +zetaDelta (decide := true) only [State.sendStock_wipe, wipe_ite, wipe_ite_fst, ite_self, implies_true]
  all_goals repeat' (split <;> try simp +zetaDelta (decide := true) only [State.sendStock_wipe, wipe_ite,
      wipe_ite_fst, ite_self, implies_true])

theorem State.stockReported_wipe (s : State) (src : HubId) (p : Nat) (b : StockBody) (m : Nat) (h : 0x1000 ||| m =
    m) :
    (s.stockReported src p b).wipe m = s.wipe m := by
  refine wipe_mono h ?_
  unfold State.stockReported
  try simp +zetaDelta (decide := true) only [State.modPart_wipe, wipe_ite, wipe_ite_fst, ite_self, implies_true]
  all_goals repeat' (split <;> try simp +zetaDelta (decide := true) only [State.modPart_wipe, wipe_ite,
      wipe_ite_fst, ite_self, implies_true])

theorem State.deadlockInventory_wipe (s : State) (p : Nat) (round : BitVec 32) (m : Nat) (h : 0x5001000 ||| m = m) :
    (s.deadlockInventory p round).wipe m = s.wipe m := by
  refine wipe_mono h ?_
  unfold State.deadlockInventory
  try simp +zetaDelta (decide := true) only [State.takeInventory_wipe, wipe_ite, wipe_ite_fst, ite_self,
      implies_true]
  all_goals repeat' (split <;> try simp +zetaDelta (decide := true) only [State.takeInventory_wipe, wipe_ite,
      wipe_ite_fst, ite_self, implies_true])

theorem State.declareDeadlock_wipe (s : State) (p : Nat) (wait : Nat) (m : Nat) (h : 0x30020e7001000 ||| m = m) :
    (s.declareDeadlock p wait).wipe m = s.wipe m := by
  refine wipe_mono h ?_
  unfold State.declareDeadlock
  try simp +zetaDelta (decide := true) only [State.sendStock_wipe, State.fresh_wipe, State.notifyRing_wipe,
      State.record_wipe, State.folioMark_wipe, State.deadlockInventory_wipe, State.modPart_wipe, wipe_ite,
      wipe_ite_fst, ite_self, implies_true]
  all_goals repeat' (split <;> try simp +zetaDelta (decide := true) only [State.sendStock_wipe, State.fresh_wipe,
      State.notifyRing_wipe, State.record_wipe, State.folioMark_wipe, State.deadlockInventory_wipe,
      State.modPart_wipe, wipe_ite, wipe_ite_fst, ite_self, implies_true])

theorem State.evalRound_wipe (s : State) (p : Nat) (m : Nat) (h : 0x30020e7001000 ||| m = m) :
    (s.evalRound p).wipe m = s.wipe m := by
  refine wipe_mono h ?_
  unfold State.evalRound
  try simp +zetaDelta (decide := true) only [State.bump_wipe, State.modPart_wipe, State.declareDeadlock_wipe,
      wipe_ite, wipe_ite_fst, ite_self, implies_true]
  all_goals repeat' (split <;> try simp +zetaDelta (decide := true) only [State.bump_wipe, State.modPart_wipe,
      State.declareDeadlock_wipe, wipe_ite, wipe_ite_fst, ite_self, implies_true])

theorem State.startRound_wipe (s : State) (p : Nat) (m : Nat) (h : 0x30020e7001000 ||| m = m) :
    (s.startRound p).wipe m = s.wipe m := by
  refine wipe_mono h ?_
  unfold State.startRound
  try simp +zetaDelta (decide := true) only [State.modPart_wipe, State.sendStock_wipe, wipe_ite, wipe_ite_fst,
      ite_self, implies_true]
  all_goals repeat' (split <;> try simp +zetaDelta (decide := true) only [State.modPart_wipe,
      State.sendStock_wipe, wipe_ite, wipe_ite_fst, ite_self, implies_true])

theorem State.stockRound_wipe (s : State) (p : Nat) (m : Nat) (h : 0x30020e7001000 ||| m = m) :
    (s.stockRound p).wipe m = s.wipe m := by
  refine wipe_mono h ?_
  unfold State.stockRound
  try simp +zetaDelta (decide := true) only [State.evalRound_wipe, State.startRound_wipe, wipe_ite, wipe_ite_fst,
      ite_self, implies_true]
  all_goals repeat' (split <;> try simp +zetaDelta (decide := true) only [State.evalRound_wipe,
      State.startRound_wipe, wipe_ite, wipe_ite_fst, ite_self, implies_true])

theorem State.stockDeclared_wipe (s : State) (p : Nat) (b : StockBody) (m : Nat) (h : 0x5001000 ||| m = m) :
    (s.stockDeclared p b).wipe m = s.wipe m := by
  refine wipe_mono h ?_
  unfold State.stockDeclared
  try simp +zetaDelta (decide := true) only [State.deadlockInventory_wipe, wipe_ite, wipe_ite_fst, ite_self,
      implies_true]
  all_goals repeat' (split <;> try simp +zetaDelta (decide := true) only [State.deadlockInventory_wipe, wipe_ite,
      wipe_ite_fst, ite_self, implies_true])

theorem State.enableStock_wipe (s : State) (p : Nat) (v : Nat) (m : Nat) (h : 0x4001000 ||| m = m) :
    (s.enableStock p v).wipe m = s.wipe m := by
  refine wipe_mono h ?_
  unfold State.enableStock
  try simp +zetaDelta (decide := true) only [State.modPart_wipe, State.setCfg_wipe, wipe_ite, wipe_ite_fst,
      ite_self, implies_true]
  all_goals repeat' (split <;> try simp +zetaDelta (decide := true) only [State.modPart_wipe, State.setCfg_wipe,
      wipe_ite, wipe_ite_fst, ite_self, implies_true])

end Sys2Proof.Machine
end

