-- ==== Sys2Proof/Laws/KeepsFaults.lean ====
section
/-! SUPPORT. What each operation of Faults.lean changes at most: blotting out the fields of its mask takes away every
difference that it makes. -/

set_option linter.all false

namespace Sys2Proof.Machine

theorem State.passEnd_wipe (s : State) (m : Nat) (h : 0x2800004000000 ||| m = m) :
    (s.passEnd).wipe m = s.wipe m := by
  refine wipe_mono h ?_
  unfold State.passEnd
  try simp +zetaDelta (decide := true) only [wipe_scrubStart, State.setCfg_wipe, State.bump_wipe, wipe_ite,
      wipe_ite_fst, ite_self, implies_true]
  all_goals repeat' (split <;> try simp +zetaDelta (decide := true) only [wipe_scrubStart, State.setCfg_wipe,
      State.bump_wipe, wipe_ite, wipe_ite_fst, ite_self, implies_true])

theorem State.scrub_wipe (s : State) (w : StoreWord) (m : Nat) (h : 0x38828fff75000 ||| m = m) :
    (s.scrub w).wipe m = s.wipe m := by
  refine wipe_mono h ?_
  unfold State.scrub
  try simp +zetaDelta (decide := true) only [State.access_wipe, State.passEnd_wipe, wipe_ite, wipe_ite_fst,
      ite_self, implies_true]
  all_goals repeat' (split <;> try simp +zetaDelta (decide := true) only [State.access_wipe, State.passEnd_wipe,
      wipe_ite, wipe_ite_fst, ite_self, implies_true])

theorem State.rewriteAll_wipe (s : State) (x1 : List CapturedItem) (m : Nat) (h : 0x30020e7474000 ||| m = m) :
    (s.rewriteAll x1).wipe m = s.wipe m := by
  refine wipe_mono h ?_
  fun_induction State.rewriteAll s x1
  all_goals try simp +zetaDelta (decide := true) only [*, State.rewriteFaulted_wipe, wipe_ite, wipe_ite_fst,
      ite_self, implies_true]
  all_goals repeat' (split <;> try simp +zetaDelta (decide := true) only [*, State.rewriteFaulted_wipe, wipe_ite,
      wipe_ite_fst, ite_self, implies_true])

theorem State.loseNotes_wipe (s : State) (x1 : List CapturedItem) (m : Nat) (h : 0x2000004000000 ||| m = m) :
    (s.loseNotes x1).wipe m = s.wipe m := by
  refine wipe_mono h ?_
  fun_induction State.loseNotes s x1
  all_goals try simp +zetaDelta (decide := true) only [*, State.bump_wipe, wipe_ite, wipe_ite_fst, ite_self,
      implies_true]
  all_goals repeat' (split <;> try simp +zetaDelta (decide := true) only [*, State.bump_wipe, wipe_ite,
      wipe_ite_fst, ite_self, implies_true])

theorem State.loseEvents_wipe (s : State) (x1 : List CapturedItem) (m : Nat) (h : 0x2000004000000 ||| m = m) :
    (s.loseEvents x1).wipe m = s.wipe m := by
  refine wipe_mono h ?_
  fun_induction State.loseEvents s x1
  all_goals try simp +zetaDelta (decide := true) only [*, State.bump_wipe, wipe_ite, wipe_ite_fst, ite_self,
      implies_true]
  all_goals repeat' (split <;> try simp +zetaDelta (decide := true) only [*, State.bump_wipe, wipe_ite,
      wipe_ite_fst, ite_self, implies_true])

theorem State.loseRequest_wipe (s : State) (m : Nat) (h : 0x3028004000000 ||| m = m) :
    (s.loseRequest).wipe m = s.wipe m := by
  refine wipe_mono h ?_
  unfold State.loseRequest
  try simp +zetaDelta (decide := true) only [State.catFinish_wipe, State.bump_wipe, wipe_ite, wipe_ite_fst,
      ite_self, implies_true]
  all_goals repeat' (split <;> try simp +zetaDelta (decide := true) only [State.catFinish_wipe, State.bump_wipe,
      wipe_ite, wipe_ite_fst, ite_self, implies_true])

theorem State.discardItems_wipe (s : State) (stage : Nat) (items : List CapturedItem) (m : Nat) (h : 0x302a0e7474000
    ||| m = m) :
    (s.discardItems stage items).wipe m = s.wipe m := by
  refine wipe_mono h ?_
  unfold State.discardItems
  try simp +zetaDelta (decide := true) only [State.loseNotes_wipe, State.loseEvents_wipe, State.loseRequest_wipe,
      State.rewriteAll_wipe, wipe_ite, wipe_ite_fst, ite_self, implies_true]
  all_goals repeat' (split <;> try simp +zetaDelta (decide := true) only [State.loseNotes_wipe,
      State.loseEvents_wipe, State.loseRequest_wipe, State.rewriteAll_wipe, wipe_ite, wipe_ite_fst, ite_self,
      implies_true])

theorem State.noteRestart_wipe (s : State) (stage : Nat) (port : Nat) (ps : List Nat) (m : Nat) (h : 0x30020e7771000
    ||| m = m) :
    (s.noteRestart stage port ps).wipe m = s.wipe m := by
  refine wipe_mono h ?_
  unfold State.noteRestart
  try simp +zetaDelta (decide := true) only [State.setCfg_wipe, State.bump_wipe, State.record_wipe,
      State.jobFault_wipe, wipe_ite, wipe_ite_fst, ite_self, implies_true]
  all_goals repeat' (split <;> try simp +zetaDelta (decide := true) only [State.setCfg_wipe, State.bump_wipe,
      State.record_wipe, State.jobFault_wipe, wipe_ite, wipe_ite_fst, ite_self, implies_true])

theorem State.relink_wipe (s : State) (stage : Nat) (port : Nat) (m : Nat) (h : 0x3000024000000 ||| m = m) :
    (s.relink stage port).wipe m = s.wipe m := by
  refine wipe_mono h ?_
  unfold State.relink
  try simp +zetaDelta (decide := true) only [State.replayFrom_wipe, State.sendCtrl_wipe, wipe_ite, wipe_ite_fst,
      ite_self, implies_true]
  all_goals repeat' (split <;> try simp +zetaDelta (decide := true) only [State.replayFrom_wipe,
      State.sendCtrl_wipe, wipe_ite, wipe_ite_fst, ite_self, implies_true])

theorem State.linkOutDown_wipe (s : State) (c : Nat) (m : Nat) (h : 0x302abe7771400 ||| m = m) :
    (s.linkOutDown c).wipe m = s.wipe m := by
  refine wipe_mono h ?_
  unfold State.linkOutDown
  try simp +zetaDelta (decide := true) only [State.linkSettled_wipe, State.moveRoutes_wipe, State.moveLink_wipe,
      State.dropPartials_wipe, State.abandonReplay_wipe, wipe_ite, wipe_ite_fst, ite_self, implies_true]
  all_goals repeat' (split <;> try simp +zetaDelta (decide := true) only [State.linkSettled_wipe,
      State.moveRoutes_wipe, State.moveLink_wipe, State.dropPartials_wipe, State.abandonReplay_wipe, wipe_ite,
      wipe_ite_fst, ite_self, implies_true])

theorem State.stageFails3_wipe (s : State) (stage : Nat) (port : Nat) (m : Nat) (h : 0x342abe7771400 ||| m = m) :
    (s.stageFails3 stage port).wipe m = s.wipe m := by
  refine wipe_mono h ?_
  unfold State.stageFails3
  try simp +zetaDelta (decide := true) only [wipe_stageOut, State.jobFault_wipe, State.linkOutDown_wipe, wipe_ite,
      wipe_ite_fst, ite_self, implies_true]
  all_goals repeat' (split <;> try simp +zetaDelta (decide := true) only [wipe_stageOut, State.jobFault_wipe,
      State.linkOutDown_wipe, wipe_ite, wipe_ite_fst, ite_self, implies_true])

theorem State.setFails_wipe (s : State) (stage : Nat) (port : Nat) (n : Nat) (m : Nat) (h : 0x200000000000 ||| m =
    m) :
    (s.setFails stage port n).wipe m = s.wipe m := by
  refine wipe_mono h ?_
  unfold State.setFails
  try simp +zetaDelta (decide := true) only [wipe_stageFails, wipe_ite, wipe_ite_fst, ite_self, implies_true]
  all_goals repeat' (split <;> try simp +zetaDelta (decide := true) only [wipe_stageFails, wipe_ite, wipe_ite_fst,
      ite_self, implies_true])

theorem State.restartPasses_wipe (s : State) (stage : Nat) (port : Nat) (m : Nat) (h : 0x36028e7000400 ||| m = m) :
    (s.restartPasses stage port).wipe m = s.wipe m := by
  refine wipe_mono h ?_
  unfold State.restartPasses
  try simp +zetaDelta (decide := true) only [wipe_stageOut, State.setFails_wipe, State.startNeg_wipe,
      State.relink_wipe, wipe_ite, wipe_ite_fst, ite_self, implies_true]
  all_goals repeat' (split <;> try simp +zetaDelta (decide := true) only [wipe_stageOut, State.setFails_wipe,
      State.startNeg_wipe, State.relink_wipe, wipe_ite, wipe_ite_fst, ite_self, implies_true])

theorem State.restartFails_wipe (s : State) (stage : Nat) (port : Nat) (m : Nat) (h : 0x362abe7771400 ||| m = m) :
    (s.restartFails stage port).wipe m = s.wipe m := by
  refine wipe_mono h ?_
  unfold State.restartFails
  try simp +zetaDelta (decide := true) only [State.setFails_wipe, State.stageFails3_wipe, wipe_ite, wipe_ite_fst,
      ite_self, implies_true]
  all_goals repeat' (split <;> try simp +zetaDelta (decide := true) only [State.setFails_wipe,
      State.stageFails3_wipe, wipe_ite, wipe_ite_fst, ite_self, implies_true])

theorem State.restart_wipe (s : State) (stage : Nat) (port : Nat) (items : List CapturedItem) (ok : Bool) (m : Nat)
    (h : 0x372abe7775400 ||| m = m) :
    (s.restart stage port items ok).wipe m = s.wipe m := by
  refine wipe_mono h ?_
  unfold State.restart
  try simp +zetaDelta (decide := true) only [wipe_stuck, State.discardItems_wipe, State.noteRestart_wipe,
      State.restartPasses_wipe, State.restartFails_wipe, wipe_ite, wipe_ite_fst, ite_self, implies_true]
  all_goals repeat' (split <;> try simp +zetaDelta (decide := true) only [wipe_stuck, State.discardItems_wipe,
      State.noteRestart_wipe, State.restartPasses_wipe, State.restartFails_wipe, wipe_ite, wipe_ite_fst, ite_self,
      implies_true])

theorem State.retryStage_wipe (s : State) (stage : Nat) (port : Nat) (ok : Bool) (m : Nat) (h : 0x372abe7775400 |||
    m = m) :
    (s.retryStage stage port ok).wipe m = s.wipe m := by
  refine wipe_mono h ?_
  unfold State.retryStage
  try simp +zetaDelta (decide := true) only [State.restart_wipe, wipe_ite, wipe_ite_fst, ite_self, implies_true]
  all_goals repeat' (split <;> try simp +zetaDelta (decide := true) only [State.restart_wipe, wipe_ite,
      wipe_ite_fst, ite_self, implies_true])

theorem State.clockLost_wipe (s : State) (m : Nat) (h : 0x30020e7771200 ||| m = m) :
    (s.clockLost).wipe m = s.wipe m := by
  refine wipe_mono h ?_
  unfold State.clockLost
  try simp +zetaDelta (decide := true) only [wipe_refLost, State.jobFault_wipe, State.bump_wipe, wipe_ite,
      wipe_ite_fst, ite_self, implies_true]
  all_goals repeat' (split <;> try simp +zetaDelta (decide := true) only [wipe_refLost, State.jobFault_wipe,
      State.bump_wipe, wipe_ite, wipe_ite_fst, ite_self, implies_true])

theorem State.clockBack_wipe (s : State) (m : Nat) (h : 0x200 ||| m = m) :
    (s.clockBack).wipe m = s.wipe m := by
  refine wipe_mono h ?_
  unfold State.clockBack
  try simp +zetaDelta (decide := true) only [wipe_refLost, wipe_ite, wipe_ite_fst, ite_self, implies_true]
  all_goals repeat' (split <;> try simp +zetaDelta (decide := true) only [wipe_refLost, wipe_ite, wipe_ite_fst,
      ite_self, implies_true])

theorem State.flipWord_wipe (s : State) (w : StoreWord) (k : Nat) (m : Nat) (h : 0x2080000000000 ||| m = m) :
    (s.flipWord w k).wipe m = s.wipe m := by
  refine wipe_mono h ?_
  unfold State.flipWord
  try simp +zetaDelta (decide := true) only [wipe_flips, State.fresh_wipe, State.cleanWord_wipe, wipe_ite,
      wipe_ite_fst, ite_self, implies_true]
  all_goals repeat' (split <;> try simp +zetaDelta (decide := true) only [wipe_flips, State.fresh_wipe,
      State.cleanWord_wipe, wipe_ite, wipe_ite_fst, ite_self, implies_true])

theorem State.flipNear_wipe (s : State) (p : Nat) (n : Nat) (k : Nat) (m : Nat) (h : 0x2000000100000 ||| m = m) :
    (s.flipNear p n k).wipe m = s.wipe m := by
  refine wipe_mono h ?_
  unfold State.flipNear
  try simp +zetaDelta (decide := true) only [State.fresh_wipe, State.modPort_wipe, wipe_ite, wipe_ite_fst,
      ite_self, implies_true]
  all_goals repeat' (split <;> try simp +zetaDelta (decide := true) only [State.fresh_wipe, State.modPort_wipe,
      wipe_ite, wipe_ite_fst, ite_self, implies_true])

theorem State.injectBits_wipe (s : State) (k : Nat) (m : Nat) (h : 0x2080000100000 ||| m = m) :
    (s.injectBits k).1.wipe m = s.wipe m := by
  refine wipe_mono h ?_
  unfold State.injectBits
  try simp +zetaDelta (decide := true) only [State.flipNear_wipe, State.flipWord_wipe, wipe_ite, wipe_ite_fst,
      ite_self, implies_true]
  all_goals repeat' (split <;> try simp +zetaDelta (decide := true) only [State.flipNear_wipe,
      State.flipWord_wipe, wipe_ite, wipe_ite_fst, ite_self, implies_true])

theorem State.injectStage_wipe (s : State) (m : Nat) (h : 0x100000000000 ||| m = m) :
    (s.injectStage).1.wipe m = s.wipe m := by
  refine wipe_mono h ?_
  unfold State.injectStage
  try simp +zetaDelta (decide := true) only [wipe_stuck, wipe_ite, wipe_ite_fst, ite_self, implies_true]
  all_goals repeat' (split <;> try simp +zetaDelta (decide := true) only [wipe_stuck, wipe_ite, wipe_ite_fst,
      ite_self, implies_true])

theorem State.injectFault_wipe (s : State) (p : Nat) (v : Nat) (m : Nat) (h : 0x30020e7771000 ||| m = m) :
    (s.injectFault p v).wipe m = s.wipe m := by
  refine wipe_mono h ?_
  unfold State.injectFault
  try simp +zetaDelta (decide := true) only [State.failOne_wipe, wipe_ite, wipe_ite_fst, ite_self, implies_true]
  all_goals repeat' (split <;> try simp +zetaDelta (decide := true) only [State.failOne_wipe, wipe_ite,
      wipe_ite_fst, ite_self, implies_true])

end Sys2Proof.Machine
end

