-- ==== Sys2Proof/Laws/KeepsMessages.lean ====
section
/-! SUPPORT. What each operation of Messages.lean changes at most: blotting out the fields of its mask takes away every
difference that it makes. -/

set_option linter.all false

namespace Sys2Proof.Machine

theorem State.w1OpMsg_wipe (s : State) (link : Nat) (b : OpBody) (m : Nat) (h : 0x30828ffffd000 ||| m = m) :
    (s.w1OpMsg link b).wipe m = s.wipe m := by
  refine wipe_mono h ?_
  unfold State.w1OpMsg
  try simp +zetaDelta (decide := true) only [State.refuse_wipe, State.performHome_wipe, wipe_ite, wipe_ite_fst,
      ite_self, implies_true]
  all_goals repeat' (split <;> try simp +zetaDelta (decide := true) only [State.refuse_wipe,
      State.performHome_wipe, wipe_ite, wipe_ite_fst, ite_self, implies_true])

theorem State.templateMsg_wipe (s : State) (h : MsgHdr) (b : OpBody) (m : Nat) (hm : 0x30828fff75000 ||| m = m) :
    (s.templateMsg h b).wipe m = s.wipe m := by
  refine wipe_mono hm ?_
  unfold State.templateMsg
  try simp +zetaDelta (decide := true) only [State.performTemplate_wipe, State.fresh_wipe, State.send_wipe,
      wipe_ite, wipe_ite_fst, ite_self, implies_true]
  all_goals repeat' (split <;> try simp +zetaDelta (decide := true) only [State.performTemplate_wipe,
      State.fresh_wipe, State.send_wipe, wipe_ite, wipe_ite_fst, ite_self, implies_true])

theorem State.opMessage_wipe (s : State) (w1 : Option Nat) (h : MsgHdr) (b : OpBody) (m : Nat) (hm : 0x30828ffffd000
    ||| m = m) :
    (s.opMessage w1 h b).wipe m = s.wipe m := by
  refine wipe_mono hm ?_
  unfold State.opMessage
  try simp +zetaDelta (decide := true) only [State.w1OpMsg_wipe, State.templateMsg_wipe, State.performHome_wipe,
      State.fresh_wipe, wipe_ite, wipe_ite_fst, ite_self, implies_true]
  all_goals repeat' (split <;> try simp +zetaDelta (decide := true) only [State.w1OpMsg_wipe,
      State.templateMsg_wipe, State.performHome_wipe, State.fresh_wipe, wipe_ite, wipe_ite_fst, ite_self,
      implies_true])

theorem State.fwdMessage_wipe (s : State) (h : MsgHdr) (b : FwdBody) (m : Nat) (hm : 0x30828fff75000 ||| m = m) :
    (s.fwdMessage h b).wipe m = s.wipe m := by
  refine wipe_mono hm ?_
  unfold State.fwdMessage
  try simp +zetaDelta (decide := true) only [State.performForwarded_wipe, State.fresh_wipe, wipe_ite,
      wipe_ite_fst, ite_self, implies_true]
  all_goals repeat' (split <;> try simp +zetaDelta (decide := true) only [State.performForwarded_wipe,
      State.fresh_wipe, wipe_ite, wipe_ite_fst, ite_self, implies_true])

theorem State.dropCpl_wipe (s : State) (p : Nat) (m : Nat) (h : 0x4000000 ||| m = m) :
    (s.dropCpl p).wipe m = s.wipe m := by
  refine wipe_mono h ?_
  unfold State.dropCpl
  try simp +zetaDelta (decide := true) only [State.pcount_wipe, wipe_ite, wipe_ite_fst, ite_self, implies_true]
  all_goals repeat' (split <;> try simp +zetaDelta (decide := true) only [State.pcount_wipe, wipe_ite,
      wipe_ite_fst, ite_self, implies_true])

theorem State.toReturn_wipe (s : State) (t : RspTarget) (b : CplBody) (retref : BitVec 10) (m : Nat) (h : 0x400000
    ||| m = m) :
    (s.toReturn t b retref).wipe m = s.wipe m := by
  refine wipe_mono h ?_
  unfold State.toReturn
  try simp +zetaDelta (decide := true) only [wipe_rets, wipe_ite, wipe_ite_fst, ite_self, implies_true]
  all_goals repeat' (split <;> try simp +zetaDelta (decide := true) only [wipe_rets, wipe_ite, wipe_ite_fst,
      ite_self, implies_true])

theorem State.childCpl_wipe (s0 : State) (h : MsgHdr) (b : CplBody) (m : Nat) (hm : 0x30828fff75000 ||| m = m) :
    (s0.childCpl h b).wipe m = s0.wipe m := by
  refine wipe_mono hm ?_
  unfold State.childCpl
  try simp +zetaDelta (decide := true) only [State.accessObj_wipe, State.childGrant_wipe, State.dropCpl_wipe,
      wipe_ite, wipe_ite_fst, ite_self, implies_true]
  all_goals repeat' (split <;> try simp +zetaDelta (decide := true) only [State.accessObj_wipe,
      State.childGrant_wipe, State.dropCpl_wipe, wipe_ite, wipe_ite_fst, ite_self, implies_true])

theorem State.portCpl_wipe (s : State) (h : MsgHdr) (b : CplBody) (m : Nat) (hm : 0x30828fff75000 ||| m = m) :
    (s.portCpl h b).wipe m = s.wipe m := by
  refine wipe_mono hm ?_
  unfold State.portCpl
  try simp +zetaDelta (decide := true) only [State.modPort_wipe, State.dropCpl_wipe, State.childGrant_wipe,
      State.toReturn_wipe, wipe_ite, wipe_ite_fst, ite_self, implies_true]
  all_goals repeat' (split <;> try simp +zetaDelta (decide := true) only [State.modPort_wipe, State.dropCpl_wipe,
      State.childGrant_wipe, State.toReturn_wipe, wipe_ite, wipe_ite_fst, ite_self, implies_true])

theorem State.templateCpl_wipe (s : State) (g : Nat) (n : Nat) (b : CplBody) (m : Nat) (h : 0x30828ffffd000 ||| m =
    m) :
    (s.templateCpl g n b).wipe m = s.wipe m := by
  refine wipe_mono h ?_
  unfold State.templateCpl
  try simp +zetaDelta (decide := true) only [State.wakeSlot_wipe, State.templateAnswer_wipe, State.modSlot_wipe,
      State.dropCpl_wipe, wipe_ite, wipe_ite_fst, ite_self, implies_true]
  all_goals repeat' (split <;> try simp +zetaDelta (decide := true) only [State.wakeSlot_wipe,
      State.templateAnswer_wipe, State.modSlot_wipe, State.dropCpl_wipe, wipe_ite, wipe_ite_fst, ite_self,
      implies_true])

theorem State.slotCpl_wipe (s : State) (h : MsgHdr) (b : CplBody) (m : Nat) (hm : 0x30828ffffd000 ||| m = m) :
    (s.slotCpl h b).wipe m = s.wipe m := by
  refine wipe_mono hm ?_
  unfold State.slotCpl
  try simp +zetaDelta (decide := true) only [State.templateCpl_wipe, State.modSlot_wipe, State.dropCpl_wipe,
      State.toReturn_wipe, wipe_ite, wipe_ite_fst, ite_self, implies_true]
  all_goals repeat' (split <;> try simp +zetaDelta (decide := true) only [State.templateCpl_wipe,
      State.modSlot_wipe, State.dropCpl_wipe, State.toReturn_wipe, wipe_ite, wipe_ite_fst, ite_self,
      implies_true])

theorem State.w1Cpl_wipe (s : State) (h : MsgHdr) (b : CplBody) (m : Nat) (hm : 0x30828fff75000 ||| m = m) :
    (s.w1Cpl h b).wipe m = s.wipe m := by
  refine wipe_mono hm ?_
  unfold State.w1Cpl
  try simp +zetaDelta (decide := true) only [State.modPort_wipe, State.modSlot_wipe, State.toReturn_wipe,
      State.childGrant_wipe, State.dropCpl_wipe, wipe_ite, wipe_ite_fst, ite_self, implies_true]
  all_goals repeat' (split <;> try simp +zetaDelta (decide := true) only [State.modPort_wipe, State.modSlot_wipe,
      State.toReturn_wipe, State.childGrant_wipe, State.dropCpl_wipe, wipe_ite, wipe_ite_fst, ite_self,
      implies_true])

theorem State.cplMessage_wipe (s : State) (w1 : Bool) (h : MsgHdr) (b : CplBody) (m : Nat) (hm : 0x30828ffffd000 |||
    m = m) :
    (s.cplMessage w1 h b).wipe m = s.wipe m := by
  refine wipe_mono hm ?_
  unfold State.cplMessage
  try simp +zetaDelta (decide := true) only [State.w1Cpl_wipe, State.childCpl_wipe, State.portCpl_wipe,
      State.slotCpl_wipe, State.dropCpl_wipe, wipe_ite, wipe_ite_fst, ite_self, implies_true]
  all_goals repeat' (split <;> try simp +zetaDelta (decide := true) only [State.w1Cpl_wipe, State.childCpl_wipe,
      State.portCpl_wipe, State.slotCpl_wipe, State.dropCpl_wipe, wipe_ite, wipe_ite_fst, ite_self, implies_true])

theorem State.loanMessage_wipe (s : State) (k : LoanKind) (b : LoanBody) (m : Nat) (h : 0x30828ffff5000 ||| m = m) :
    (s.loanMessage k b).wipe m = s.wipe m := by
  refine wipe_mono h ?_
  unfold State.loanMessage
  try simp +zetaDelta (decide := true) only [State.bump_wipe, State.loanReqMsg_wipe, State.loanOpenMsg_wipe,
      State.loanGrantMsg_wipe, State.loanRecallMsg_wipe, State.loanReturnMsg_wipe, wipe_ite, wipe_ite_fst,
      ite_self, implies_true]
  all_goals repeat' (split <;> try simp +zetaDelta (decide := true) only [State.bump_wipe, State.loanReqMsg_wipe,
      State.loanOpenMsg_wipe, State.loanGrantMsg_wipe, State.loanRecallMsg_wipe, State.loanReturnMsg_wipe,
      wipe_ite, wipe_ite_fst, ite_self, implies_true])

theorem State.faultNotice_wipe (s : State) (p : Nat) (b : PartCtlBody) (m : Nat) (h : 0x30020e7771000 ||| m = m) :
    (s.faultNotice p b).wipe m = s.wipe m := by
  refine wipe_mono h ?_
  unfold State.faultNotice
  try simp +zetaDelta (decide := true) only [State.countSelvedge_wipe, State.jobFault_wipe, wipe_ite,
      wipe_ite_fst, ite_self, implies_true]
  all_goals repeat' (split <;> try simp +zetaDelta (decide := true) only [State.countSelvedge_wipe,
      State.jobFault_wipe, wipe_ite, wipe_ite_fst, ite_self, implies_true])

theorem State.partMessage_wipe (s : State) (h : MsgHdr) (k : PartCtlKind) (b : PartCtlBody) (m : Nat) (hm :
    0x30aa8ffffd000 ||| m = m) :
    (s.partMessage h k b).wipe m = s.wipe m := by
  refine wipe_mono hm ?_
  unfold State.partMessage
  try simp +zetaDelta (decide := true) only [State.resetRequest_wipe, State.resetAnswer_wipe,
      State.faultNotice_wipe, wipe_ite, wipe_ite_fst, ite_self, implies_true]
  all_goals repeat' (split <;> try simp +zetaDelta (decide := true) only [State.resetRequest_wipe,
      State.resetAnswer_wipe, State.faultNotice_wipe, wipe_ite, wipe_ite_fst, ite_self, implies_true])

theorem State.holdMessage_wipe (s : State) (h : MsgHdr) (k : HoldKind) (b : HoldBody) (m : Nat) (hm :
    0x302a0e7101000 ||| m = m) :
    (s.holdMessage h k b).wipe m = s.wipe m := by
  refine wipe_mono hm ?_
  unfold State.holdMessage
  try simp +zetaDelta (decide := true) only [State.holdMsgReq_wipe, State.holdMsgAck_wipe, wipe_ite, wipe_ite_fst,
      ite_self, implies_true]
  all_goals repeat' (split <;> try simp +zetaDelta (decide := true) only [State.holdMsgReq_wipe,
      State.holdMsgAck_wipe, wipe_ite, wipe_ite_fst, ite_self, implies_true])

theorem State.stockMessage_wipe (s : State) (h : MsgHdr) (k : StockKind) (b : StockBody) (m : Nat) (hm :
    0x30020e7001000 ||| m = m) :
    (s.stockMessage h k b).wipe m = s.wipe m := by
  refine wipe_mono hm ?_
  unfold State.stockMessage
  try simp +zetaDelta (decide := true) only [State.stockQuery_wipe, State.stockReported_wipe,
      State.stockDeclared_wipe, wipe_ite, wipe_ite_fst, ite_self, implies_true]
  all_goals repeat' (split <;> try simp +zetaDelta (decide := true) only [State.stockQuery_wipe,
      State.stockReported_wipe, State.stockDeclared_wipe, wipe_ite, wipe_ite_fst, ite_self, implies_true])

theorem State.shelfMessage_wipe (s : State) (h : MsgHdr) (k : ShelfKind) (b : ShelfBody) (m : Nat) (hm :
    0x30020e7001000 ||| m = m) :
    (s.shelfMessage h k b).wipe m = s.wipe m := by
  refine wipe_mono hm ?_
  unfold State.shelfMessage
  try simp +zetaDelta (decide := true) only [State.shelfArmMsg_wipe, State.shelfDoneMsg_wipe,
      State.shelfCancelMsg_wipe, wipe_ite, wipe_ite_fst, ite_self, implies_true]
  all_goals repeat' (split <;> try simp +zetaDelta (decide := true) only [State.shelfArmMsg_wipe,
      State.shelfDoneMsg_wipe, State.shelfCancelMsg_wipe, wipe_ite, wipe_ite_fst, ite_self, implies_true])

theorem State.performBody_wipe (s : State) (w1 : Option Nat) (m : Msg) (mk : Nat) (h : 0x30aa9ffffd000 ||| mk = mk)
    :
    (s.performBody w1 m).wipe mk = s.wipe mk := by
  refine wipe_mono h ?_
  unfold State.performBody
  try simp +zetaDelta (decide := true) only [State.opMessage_wipe, State.cplMessage_wipe, State.fwdMessage_wipe,
      State.loanMessage_wipe, State.holderResetMsg_wipe, State.purge_wipe, State.ackFence_wipe,
      State.fenceAcked_wipe, State.holdMessage_wipe, State.stockMessage_wipe, State.shelfMessage_wipe,
      State.partMessage_wipe, wipe_ite, wipe_ite_fst, ite_self, implies_true]
  all_goals repeat' (split <;> try simp +zetaDelta (decide := true) only [State.opMessage_wipe,
      State.cplMessage_wipe, State.fwdMessage_wipe, State.loanMessage_wipe, State.holderResetMsg_wipe,
      State.purge_wipe, State.ackFence_wipe, State.fenceAcked_wipe, State.holdMessage_wipe,
      State.stockMessage_wipe, State.shelfMessage_wipe, State.partMessage_wipe, wipe_ite, wipe_ite_fst, ite_self,
      implies_true])

theorem State.performMsg_wipe (s : State) (x : InMsg) (m : Nat) (h : 0x30aa9ffffd000 ||| m = m) :
    (s.performMsg x).wipe m = s.wipe m := by
  refine wipe_mono h ?_
  unfold State.performMsg
  try simp +zetaDelta (decide := true) only [State.performBody_wipe, State.stockRecv_wipe, wipe_ite, wipe_ite_fst,
      ite_self, implies_true]
  all_goals repeat' (split <;> try simp +zetaDelta (decide := true) only [State.performBody_wipe,
      State.stockRecv_wipe, wipe_ite, wipe_ite_fst, ite_self, implies_true])

theorem State.messageCommand_wipe (s : State) (m : Msg) (mk : Nat) (h : 0x30aa9ffffd000 ||| mk = mk) :
    (s.messageCommand m).wipe mk = s.wipe mk := by
  refine wipe_mono h ?_
  unfold State.messageCommand
  try simp +zetaDelta (decide := true) only [wipe_inbox, State.performMsg_wipe, State.performBody_wipe,
      State.stockRecv_wipe, wipe_ite, wipe_ite_fst, ite_self, implies_true]
  all_goals repeat' (split <;> try simp +zetaDelta (decide := true) only [wipe_inbox, State.performMsg_wipe,
      State.performBody_wipe, State.stockRecv_wipe, wipe_ite, wipe_ite_fst, ite_self, implies_true])

theorem State.linkOp_wipe (s : State) (c : Nat) (m : Msg) (mk : Nat) (h : 0x30aa9ffffd000 ||| mk = mk) :
    (s.linkOp c m).wipe mk = s.wipe mk := by
  refine wipe_mono h ?_
  unfold State.linkOp
  try simp +zetaDelta (decide := true) only [wipe_inbox, State.performMsg_wipe, wipe_ite, wipe_ite_fst, ite_self,
      implies_true]
  all_goals repeat' (split <;> try simp +zetaDelta (decide := true) only [wipe_inbox, State.performMsg_wipe,
      wipe_ite, wipe_ite_fst, ite_self, implies_true])

theorem State.reservedKind_wipe (s : State) (c : Nat) (k : BitVec 6) (m : Nat) (h : 0x2000004000000 ||| m = m) :
    (s.reservedKind c k).wipe m = s.wipe m := by
  refine wipe_mono h ?_
  unfold State.reservedKind
  try simp +zetaDelta (decide := true) only [State.linkBump_wipe, wipe_ite, wipe_ite_fst, ite_self, implies_true]
  all_goals repeat' (split <;> try simp +zetaDelta (decide := true) only [State.linkBump_wipe, wipe_ite,
      wipe_ite_fst, ite_self, implies_true])

end Sys2Proof.Machine
end

