-- ==== Sys2Proof/Laws/KeepsCatWrite.lean ====
section
/-! SUPPORT. What each operation of CatWrite.lean changes at most: blotting out the fields of its mask takes away every
difference that it makes. -/

set_option linter.all false

namespace Sys2Proof.Machine

theorem State.copyNear_wipe (s0 : State) (k : Nat) (v : Nat) (m : Nat) (h : 0x30060e7771000 ||| m = m) :
    (s0.copyNear k v).wipe m = s0.wipe m := by
  refine wipe_mono h ?_
  unfold State.copyNear
  try simp +zetaDelta (decide := true) only [State.nearCheck_wipe, State.setView_wipe, wipe_ite, wipe_ite_fst,
      ite_self, implies_true]
  all_goals repeat' (split <;> try simp +zetaDelta (decide := true) only [State.nearCheck_wipe,
      State.setView_wipe, wipe_ite, wipe_ite_fst, ite_self, implies_true])

theorem State.copyRecord_wipe (s0 : State) (k : Nat) (v : Nat) (j : Nat) (m : Nat) (h : 0x30868fff75000 ||| m = m) :
    (s0.copyRecord k v j).wipe m = s0.wipe m := by
  refine wipe_mono h ?_
  unfold State.copyRecord
  try simp +zetaDelta (decide := true) only [State.accessObj_wipe, State.setView_wipe, wipe_ite, wipe_ite_fst,
      ite_self, implies_true]
  all_goals repeat' (split <;> try simp +zetaDelta (decide := true) only [State.accessObj_wipe,
      State.setView_wipe, wipe_ite, wipe_ite_fst, ite_self, implies_true])

theorem State.selectNear_wipe (s : State) (w : Who) (k : Nat) (v : Nat) (m : Nat) (h : 0x30060e7771000 ||| m = m) :
    (s.selectNear w k v).1.wipe m = s.wipe m := by
  refine wipe_mono h ?_
  unfold State.selectNear
  try simp +zetaDelta (decide := true) only [State.copyNear_wipe, wipe_ite, wipe_ite_fst, ite_self, implies_true]
  all_goals repeat' (split <;> try simp +zetaDelta (decide := true) only [State.copyNear_wipe, wipe_ite,
      wipe_ite_fst, ite_self, implies_true])

theorem State.selectRecord_wipe (s : State) (w : Who) (k : Nat) (v : Nat) (m : Nat) (h : 0x30868fff75000 ||| m = m)
    :
    (s.selectRecord w k v).1.wipe m = s.wipe m := by
  refine wipe_mono h ?_
  unfold State.selectRecord
  try simp +zetaDelta (decide := true) only [State.copyRecord_wipe, wipe_ite, wipe_ite_fst, ite_self,
      implies_true]
  all_goals repeat' (split <;> try simp +zetaDelta (decide := true) only [State.copyRecord_wipe, wipe_ite,
      wipe_ite_fst, ite_self, implies_true])

theorem State.writeView_wipe (s : State) (w : Who) (k : Nat) (v : Nat) (m : Nat) (h : 0x30868fff75000 ||| m = m) :
    (s.writeView w k v).1.wipe m = s.wipe m := by
  refine wipe_mono h ?_
  unfold State.writeView
  try simp +zetaDelta (decide := true) only [State.selectNear_wipe, State.selectRecord_wipe, wipe_ite,
      wipe_ite_fst, ite_self, implies_true]
  all_goals repeat' (split <;> try simp +zetaDelta (decide := true) only [State.selectNear_wipe,
      State.selectRecord_wipe, wipe_ite, wipe_ite_fst, ite_self, implies_true])

theorem doneWith_wipe (s : State) (m : Nat) (h : 0x0 ||| m = m) :
    (doneWith s).1.wipe m = s.wipe m := by
  refine wipe_mono h ?_
  unfold doneWith
  try simp +zetaDelta (decide := true) only [wipe_ite, wipe_ite_fst, ite_self, implies_true]
  all_goals repeat' (split <;> try simp +zetaDelta (decide := true) only [wipe_ite, wipe_ite_fst, ite_self,
      implies_true])

theorem atOnce_wipe (x : State × CatStatus) (m : Nat) : (atOnce x).1.wipe m = x.1.wipe m := rfl

theorem indexAnswer_wipe (s : State) (x : Option State) (m : Nat) (h : ∀ t, x = some t → t.wipe m = s.wipe m) :
    (indexAnswer s x).1.wipe m = s.wipe m := by
  cases x with
  | none => rfl
  | some t => exact h t rfl

theorem State.writeTicketEntry_wipe (s : State) (k : Nat) (sub : Nat) (p : Nat) (v : Nat) (m : Nat) (h :
    0x30020e7f71000 ||| m = m) :
    (s.writeTicketEntry k sub p v).1.wipe m = s.wipe m := by
  refine wipe_mono h ?_
  unfold State.writeTicketEntry
  split
  all_goals try simp +zetaDelta (decide := true) only [doneWith_wipe, State.setTicketRing_wipe, State.setCfg_wipe,
      wipe_ite, wipe_ite_fst, ite_self, implies_true]
  refine (indexAnswer_wipe _ _ _ fun t e => ?_).trans rfl
  exact State.moveConsumer_wipe _ _ _ _ _ (by decide) _ e

theorem State.writeNotifyEntry_wipe (s : State) (r : Nat) (sub : Nat) (v : Nat) (m : Nat) (h : 0x6000000 ||| m = m)
    :
    (s.writeNotifyEntry r sub v).1.wipe m = s.wipe m := by
  refine wipe_mono h ?_
  unfold State.writeNotifyEntry
  split
  all_goals try simp +zetaDelta (decide := true) only [doneWith_wipe, State.setNotifyRing_wipe, State.setCfg_wipe,
      wipe_ite, wipe_ite_fst, ite_self, implies_true]
  refine (indexAnswer_wipe _ _ _ fun t e => ?_).trans rfl
  exact State.moveNotifyConsumer_wipe _ _ _ _ (by decide) _ e

theorem State.writeEventEntry_wipe (s : State) (i : Nat) (sub : Nat) (v : Nat) (m : Nat) (h : 0x2001007000000 ||| m
    = m) :
    (s.writeEventEntry i sub v).1.wipe m = s.wipe m := by
  refine wipe_mono h ?_
  unfold State.writeEventEntry
  try simp +zetaDelta (decide := true) only [doneWith_wipe, State.evBinding_wipe, State.setCfg_wipe, wipe_ite,
      wipe_ite_fst, ite_self, implies_true]
  all_goals repeat' (split <;> try simp +zetaDelta (decide := true) only [doneWith_wipe, State.evBinding_wipe,
      State.setCfg_wipe, wipe_ite, wipe_ite_fst, ite_self, implies_true])

theorem State.writeWaiterEntry_wipe (s : State) (sub : Nat) (p : Nat) (v : Nat) (m : Nat) (h : 0x30020e74f4000 ||| m
    = m) :
    (s.writeWaiterEntry sub p v).1.wipe m = s.wipe m := by
  refine wipe_mono h ?_
  unfold State.writeWaiterEntry
  try simp +zetaDelta (decide := true) only [State.cancelObject_wipe, State.cancelOriginator_wipe, doneWith_wipe,
      State.setCfg_wipe, wipe_ite, wipe_ite_fst, ite_self, implies_true, atOnce_wipe]
  all_goals repeat' (split <;> try simp +zetaDelta (decide := true) only [State.cancelObject_wipe,
      State.cancelOriginator_wipe, doneWith_wipe, State.setCfg_wipe, wipe_ite, wipe_ite_fst, ite_self,
      implies_true, atOnce_wipe])

theorem State.writeResliceEntry_wipe (s : State) (sub : Nat) (v : Nat) (m : Nat) (h : 0x30020e7022000 ||| m = m) :
    (s.writeResliceEntry sub v).1.wipe m = s.wipe m := by
  refine wipe_mono h ?_
  unfold State.writeResliceEntry
  try simp +zetaDelta (decide := true) only [State.startReslice_wipe, doneWith_wipe, State.abortReslice_wipe,
      wipe_ite, wipe_ite_fst, ite_self, implies_true, atOnce_wipe]
  all_goals repeat' (split <;> try simp +zetaDelta (decide := true) only [State.startReslice_wipe, doneWith_wipe,
      State.abortReslice_wipe, wipe_ite, wipe_ite_fst, ite_self, implies_true, atOnce_wipe])

theorem State.writePartEntry_wipe (s : State) (sub : Nat) (p : Nat) (v : Nat) (m : Nat) (h : 0x30af8fffff800 ||| m =
    m) :
    (s.writePartEntry sub p v).1.wipe m = s.wipe m := by
  refine wipe_mono h ?_
  unfold State.writePartEntry
  try simp +zetaDelta (decide := true) only [wipe_devMap, doneWith_wipe, State.writeReset_wipe,
      State.writeContext_wipe, State.override_wipe, State.setCfg_wipe, wipe_ite, wipe_ite_fst, ite_self,
      implies_true, atOnce_wipe]
  all_goals repeat' (split <;> try simp +zetaDelta (decide := true) only [wipe_devMap, doneWith_wipe,
      State.writeReset_wipe, State.writeContext_wipe, State.override_wipe, State.setCfg_wipe, wipe_ite,
      wipe_ite_fst, ite_self, implies_true, atOnce_wipe])

theorem State.writeLinkEntry_wipe (s : State) (h : CatHdr) (c : Nat) (sub : Nat) (v : Nat) (m : Nat) (hm :
    0x30028e7000400 ||| m = m) :
    (s.writeLinkEntry h c sub v).1.wipe m = s.wipe m := by
  refine wipe_mono hm ?_
  unfold State.writeLinkEntry
  try simp +zetaDelta (decide := true) only [State.renegotiate_wipe, doneWith_wipe, State.recheckLink_wipe,
      State.setCfg_wipe, wipe_ite, wipe_ite_fst, ite_self, implies_true]
  all_goals repeat' (split <;> try simp +zetaDelta (decide := true) only [State.renegotiate_wipe, doneWith_wipe,
      State.recheckLink_wipe, State.setCfg_wipe, wipe_ite, wipe_ite_fst, ite_self, implies_true])

theorem State.writeRouteEntry_wipe (s : State) (h : CatHdr) (sub : Nat) (v : Nat) (m : Nat) (hm : 0x3002df7000000
    ||| m = m) :
    (s.writeRouteEntry h sub v).1.wipe m = s.wipe m := by
  refine wipe_mono hm ?_
  unfold State.writeRouteEntry
  try simp +zetaDelta (decide := true) only [doneWith_wipe, State.setCfg_wipe, State.writeRoute_wipe, wipe_ite,
      wipe_ite_fst, ite_self, implies_true]
  all_goals repeat' (split <;> try simp +zetaDelta (decide := true) only [doneWith_wipe, State.setCfg_wipe,
      State.writeRoute_wipe, wipe_ite, wipe_ite_fst, ite_self, implies_true])

theorem State.writeTimeEntry_wipe (s : State) (sub : Nat) (v : Nat) (m : Nat) (h : 0x4000440 ||| m = m) :
    (s.writeTimeEntry sub v).1.wipe m = s.wipe m := by
  refine wipe_mono h ?_
  unfold State.writeTimeEntry
  try simp +zetaDelta (decide := true) only [State.writeTimeSet_wipe, doneWith_wipe, State.setCfg_wipe, wipe_ite,
      wipe_ite_fst, ite_self, implies_true, atOnce_wipe]
  all_goals repeat' (split <;> try simp +zetaDelta (decide := true) only [State.writeTimeSet_wipe, doneWith_wipe,
      State.setCfg_wipe, wipe_ite, wipe_ite_fst, ite_self, implies_true, atOnce_wipe])

theorem State.writeShelfEntry_wipe (s : State) (sub : Nat) (p : Nat) (v : Nat) (m : Nat) (h : 0x30020e7001000 ||| m
    = m) :
    (s.writeShelfEntry sub p v).1.wipe m = s.wipe m := by
  refine wipe_mono h ?_
  unfold State.writeShelfEntry
  try simp +zetaDelta (decide := true) only [doneWith_wipe, State.writeShelfArm_wipe, State.writeShelfCancel_wipe,
      State.setCfg_wipe, wipe_ite, wipe_ite_fst, ite_self, implies_true]
  all_goals repeat' (split <;> try simp +zetaDelta (decide := true) only [doneWith_wipe, State.writeShelfArm_wipe,
      State.writeShelfCancel_wipe, State.setCfg_wipe, wipe_ite, wipe_ite_fst, ite_self, implies_true])

theorem State.writeFolioControl_wipe (s : State) (v : Nat) (m : Nat) (h : 0x2002007000000 ||| m = m) :
    (s.writeFolioControl v).1.wipe m = s.wipe m := by
  refine wipe_mono h ?_
  unfold State.writeFolioControl
  try simp +zetaDelta (decide := true) only [State.armFolio_wipe, doneWith_wipe, State.triggerFolio_wipe,
      State.stopFolio_wipe, State.clearFolio_wipe, wipe_ite, wipe_ite_fst, ite_self, implies_true, atOnce_wipe]
  all_goals repeat' (split <;> try simp +zetaDelta (decide := true) only [State.armFolio_wipe, doneWith_wipe,
      State.triggerFolio_wipe, State.stopFolio_wipe, State.clearFolio_wipe, wipe_ite, wipe_ite_fst, ite_self,
      implies_true, atOnce_wipe])

theorem State.writeFolioEntry_wipe (s : State) (sub : Nat) (v : Nat) (m : Nat) (h : 0x2002007000000 ||| m = m) :
    (s.writeFolioEntry sub v).1.wipe m = s.wipe m := by
  refine wipe_mono h ?_
  unfold State.writeFolioEntry
  try simp +zetaDelta (decide := true) only [State.writeFolioControl_wipe, doneWith_wipe, State.markFolio_wipe,
      State.setCfg_wipe, wipe_ite, wipe_ite_fst, ite_self, implies_true]
  all_goals repeat' (split <;> try simp +zetaDelta (decide := true) only [State.writeFolioControl_wipe,
      doneWith_wipe, State.markFolio_wipe, State.setCfg_wipe, wipe_ite, wipe_ite_fst, ite_self, implies_true])

theorem State.writeInventoryEntry_wipe (s : State) (sub : Nat) (p : Nat) (v : Nat) (m : Nat) (h : 0x5001000 ||| m =
    m) :
    (s.writeInventoryEntry sub p v).1.wipe m = s.wipe m := by
  refine wipe_mono h ?_
  unfold State.writeInventoryEntry
  try simp +zetaDelta (decide := true) only [doneWith_wipe, State.setCfg_wipe, State.takeInventory_wipe, wipe_ite,
      wipe_ite_fst, ite_self, implies_true]
  all_goals repeat' (split <;> try simp +zetaDelta (decide := true) only [doneWith_wipe, State.setCfg_wipe,
      State.takeInventory_wipe, wipe_ite, wipe_ite_fst, ite_self, implies_true])

theorem State.writeHoldEntry_wipe (s : State) (h : CatHdr) (sub : Nat) (p : Nat) (v : Nat) (m : Nat) (hm :
    0x302a0e7101000 ||| m = m) :
    (s.writeHoldEntry h sub p v).1.wipe m = s.wipe m := by
  refine wipe_mono hm ?_
  unfold State.writeHoldEntry
  try simp +zetaDelta (decide := true) only [State.beginHold_wipe, State.startHold_wipe, doneWith_wipe,
      State.setCfg_wipe, wipe_ite, wipe_ite_fst, ite_self, implies_true]
  all_goals repeat' (split <;> try simp +zetaDelta (decide := true) only [State.beginHold_wipe,
      State.startHold_wipe, doneWith_wipe, State.setCfg_wipe, wipe_ite, wipe_ite_fst, ite_self, implies_true])

theorem State.writeDepositEntry_wipe (s : State) (sub : Nat) (p : Nat) (v : Nat) (m : Nat) (h : 0x30828fff75000 |||
    m = m) :
    (s.writeDepositEntry sub p v).1.wipe m = s.wipe m := by
  refine wipe_mono h ?_
  unfold State.writeDepositEntry
  try simp +zetaDelta (decide := true) only [State.writeDepositFlags_wipe, State.ackDeposit_wipe, doneWith_wipe,
      State.modPart_wipe, State.setCfg_wipe, wipe_ite, wipe_ite_fst, ite_self, implies_true, atOnce_wipe]
  all_goals repeat' (split <;> try simp +zetaDelta (decide := true) only [State.writeDepositFlags_wipe,
      State.ackDeposit_wipe, doneWith_wipe, State.modPart_wipe, State.setCfg_wipe, wipe_ite, wipe_ite_fst,
      ite_self, implies_true, atOnce_wipe])

theorem State.writeInjectEntry_wipe (s : State) (sub : Nat) (v : Nat) (m : Nat) (h : 0x2180004100000 ||| m = m) :
    (s.writeInjectEntry sub v).1.wipe m = s.wipe m := by
  refine wipe_mono h ?_
  unfold State.writeInjectEntry
  try simp +zetaDelta (decide := true) only [doneWith_wipe, State.setCfg_wipe, State.injectStage_wipe,
      State.injectBits_wipe, wipe_ite, wipe_ite_fst, ite_self, implies_true, atOnce_wipe]
  all_goals repeat' (split <;> try simp +zetaDelta (decide := true) only [doneWith_wipe, State.setCfg_wipe,
      State.injectStage_wipe, State.injectBits_wipe, wipe_ite, wipe_ite_fst, ite_self, implies_true, atOnce_wipe])

theorem State.writeLow_wipe (s : State) (index : Nat) (sub : Nat) (p : Nat) (v : Nat) (m : Nat) (h : 0x30030e7ff5000
    ||| m = m) :
    (s.writeLow index sub p v).1.wipe m = s.wipe m := by
  refine wipe_mono h ?_
  unfold State.writeLow
  try simp +zetaDelta (decide := true) only [State.writeTicketEntry_wipe, State.writeEventEntry_wipe,
      State.recallWrite_wipe, State.clearAbandoned_wipe, State.writeWaiterEntry_wipe, State.writeNotifyEntry_wipe,
      doneWith_wipe, State.setCfg_wipe, wipe_ite, wipe_ite_fst, ite_self, implies_true, atOnce_wipe]
  all_goals repeat' (split <;> try simp +zetaDelta (decide := true) only [State.writeTicketEntry_wipe,
      State.writeEventEntry_wipe, State.recallWrite_wipe, State.clearAbandoned_wipe, State.writeWaiterEntry_wipe,
      State.writeNotifyEntry_wipe, doneWith_wipe, State.setCfg_wipe, wipe_ite, wipe_ite_fst, ite_self,
      implies_true, atOnce_wipe])

theorem State.writeMiddle_wipe (s : State) (h : CatHdr) (index : Nat) (sub : Nat) (p : Nat) (v : Nat) (m : Nat) (hm
    : 0x30afdfffffc40 ||| m = m) :
    (s.writeMiddle h index sub p v).1.wipe m = s.wipe m := by
  refine wipe_mono hm ?_
  unfold State.writeMiddle
  try simp +zetaDelta (decide := true) only [State.writeResliceEntry_wipe, State.writePartEntry_wipe,
      State.writePortPartition_wipe, doneWith_wipe, State.setLockMode_wipe, State.writeLinkEntry_wipe,
      State.writeRouteEntry_wipe, State.writeTimeEntry_wipe, State.setCfg_wipe, wipe_ite, wipe_ite_fst, ite_self,
      implies_true, atOnce_wipe]
  all_goals repeat' (split <;> try simp +zetaDelta (decide := true) only [State.writeResliceEntry_wipe,
      State.writePartEntry_wipe, State.writePortPartition_wipe, doneWith_wipe, State.setLockMode_wipe,
      State.writeLinkEntry_wipe, State.writeRouteEntry_wipe, State.writeTimeEntry_wipe, State.setCfg_wipe,
      wipe_ite, wipe_ite_fst, ite_self, implies_true, atOnce_wipe])

theorem State.writeHigh_wipe (s : State) (h : CatHdr) (w : Who) (index : Nat) (sub : Nat) (p : Nat) (v : Nat) (m :
    Nat) (hm : 0x31ae8fff75000 ||| m = m) :
    (s.writeHigh h w index sub p v).1.wipe m = s.wipe m := by
  refine wipe_mono hm ?_
  unfold State.writeHigh
  try simp +zetaDelta (decide := true) only [State.writeView_wipe, State.writeShelfEntry_wipe,
      State.writeFolioEntry_wipe, State.writeInventoryEntry_wipe, State.writeHoldEntry_wipe,
      State.writeDepositEntry_wipe, doneWith_wipe, State.enableStock_wipe, State.injectFault_wipe,
      State.writeInjectEntry_wipe, State.setCfg_wipe, wipe_ite, wipe_ite_fst, ite_self, implies_true, atOnce_wipe]
  all_goals repeat' (split <;> try simp +zetaDelta (decide := true) only [State.writeView_wipe,
      State.writeShelfEntry_wipe, State.writeFolioEntry_wipe, State.writeInventoryEntry_wipe,
      State.writeHoldEntry_wipe, State.writeDepositEntry_wipe, doneWith_wipe, State.enableStock_wipe,
      State.injectFault_wipe, State.writeInjectEntry_wipe, State.setCfg_wipe, wipe_ite, wipe_ite_fst, ite_self,
      implies_true, atOnce_wipe])

theorem State.writeEntry_wipe (s : State) (h : CatHdr) (w : Who) (index : Nat) (sub : Nat) (p : Nat) (v : Nat) (m :
    Nat) (hm : 0x31afdfffffc40 ||| m = m) :
    (s.writeEntry h w index sub p v).1.wipe m = s.wipe m := by
  refine wipe_mono hm ?_
  unfold State.writeEntry
  try simp +zetaDelta (decide := true) only [State.writeLow_wipe, State.writeMiddle_wipe, State.writeHigh_wipe,
      wipe_ite, wipe_ite_fst, ite_self, implies_true]
  all_goals repeat' (split <;> try simp +zetaDelta (decide := true) only [State.writeLow_wipe,
      State.writeMiddle_wipe, State.writeHigh_wipe, wipe_ite, wipe_ite_fst, ite_self, implies_true])

end Sys2Proof.Machine
end

