-- ==== Sys2Proof/Laws/KeepsCatalogue.lean ====
section
/-! SUPPORT. What each operation of Catalogue.lean changes at most: blotting out the fields of its mask takes away every
difference that it makes. -/

set_option linter.all false

namespace Sys2Proof.Machine

theorem State.apbBusy_wipe (s : State) (h : CatHdr) (a : CatAsk) (m : Nat) (hm : 0x20000000000 ||| m = m) :
    (s.apbBusy h a).wipe m = s.wipe m := by
  refine wipe_mono hm ?_
  unfold State.apbBusy
  try simp +zetaDelta (decide := true) only [wipe_apb, wipe_ite, wipe_ite_fst, ite_self, implies_true]
  all_goals repeat' (split <;> try simp +zetaDelta (decide := true) only [wipe_apb, wipe_ite, wipe_ite_fst,
      ite_self, implies_true])

theorem State.apbData_wipe (s : State) (h : CatHdr) (v : Nat) (m : Nat) (hm : 0x20000000000 ||| m = m) :
    (s.apbData h v).wipe m = s.wipe m := by
  refine wipe_mono hm ?_
  unfold State.apbData
  try simp +zetaDelta (decide := true) only [wipe_apb, wipe_ite, wipe_ite_fst, ite_self, implies_true]
  all_goals repeat' (split <;> try simp +zetaDelta (decide := true) only [wipe_apb, wipe_ite, wipe_ite_fst,
      ite_self, implies_true])

theorem State.catStatus_wipe (s : State) (h : CatHdr) (a : CatAsk) (st : CatStatus) (m : Nat) (hm : 0x3020004000000
    ||| m = m) :
    (s.catStatus h a st).wipe m = s.wipe m := by
  refine wipe_mono hm ?_
  unfold State.catStatus
  try simp +zetaDelta (decide := true) only [State.catAnswer_wipe, wipe_ite, wipe_ite_fst, ite_self, implies_true]
  all_goals repeat' (split <;> try simp +zetaDelta (decide := true) only [State.catAnswer_wipe, wipe_ite,
      wipe_ite_fst, ite_self, implies_true])

theorem State.catRequest_wipe (s : State) (i : Instr) (h : CatHdr) (a : CatAsk) (run : State → Who → State) (m :
    Nat) (hm : 0x3030004000000 ||| m = m) (hf : ∀ s w, (run s w).wipe m = s.wipe m) :
    (s.catRequest i h a run).wipe m = s.wipe m := by

  unfold State.catRequest
  split
  · rfl
  · split
    · exact State.drive_wipe _ _ _ (mask_sub hm (by decide))
    · split
      · exact State.bump_wipe _ _ _ _ _ (mask_sub hm (by decide))
      · simp only []
        split
        · split
          · exact State.catStatus_wipe _ _ _ _ _ (mask_sub hm (by decide))
          · rw [wipe_catHeld _ (testBit_sub hm (by decide))]
            exact State.apbBusy_wipe _ _ _ _ (mask_sub hm (by decide))
        · split
          · rw [hf]
            exact State.apbBusy_wipe _ _ _ _ (mask_sub hm (by decide))
          · exact State.catStatus_wipe _ _ _ _ _ (mask_sub hm (by decide))

theorem State.takeHeld_wipe (s : State) (pr : Principal) (m : Nat) (h : 0x30000000000 ||| m = m) :
    (s.takeHeld pr).wipe m = s.wipe m := by
  refine wipe_mono h ?_
  unfold State.takeHeld
  try simp +zetaDelta (decide := true) only [wipe_catHeld_apb, wipe_ite, wipe_ite_fst, ite_self, implies_true]
  all_goals repeat' (split <;> try simp +zetaDelta (decide := true) only [wipe_catHeld_apb, wipe_ite,
      wipe_ite_fst, ite_self, implies_true])

theorem State.runIdentify_wipe (s : State) (h : CatHdr) (a : CatAsk) (w : Who) (m : Nat) (hm : 0x3020004000000 ||| m
    = m) :
    (s.runIdentify h a w).wipe m = s.wipe m := by
  refine wipe_mono hm ?_
  unfold State.runIdentify
  try simp +zetaDelta (decide := true) only [State.catAnswer_wipe, wipe_ite, wipe_ite_fst, ite_self, implies_true]
  all_goals repeat' (split <;> try simp +zetaDelta (decide := true) only [State.catAnswer_wipe, wipe_ite,
      wipe_ite_fst, ite_self, implies_true])

theorem State.runDescribe_wipe (s : State) (h : CatHdr) (a : CatAsk) (w : Who) (m : Nat) (hm : 0x3020004000000 ||| m
    = m) :
    (s.runDescribe h a w).wipe m = s.wipe m := by
  refine wipe_mono hm ?_
  unfold State.runDescribe
  try simp +zetaDelta (decide := true) only [State.catStatus_wipe, State.catAnswer_wipe, wipe_ite, wipe_ite_fst,
      ite_self, implies_true]
  all_goals repeat' (split <;> try simp +zetaDelta (decide := true) only [State.catStatus_wipe,
      State.catAnswer_wipe, wipe_ite, wipe_ite_fst, ite_self, implies_true])

theorem State.runRead_wipe (s : State) (h : CatHdr) (a : CatAsk) (w : Who) (m : Nat) (hm : 0x3020004000000 ||| m =
    m) :
    (s.runRead h a w).wipe m = s.wipe m := by
  refine wipe_mono hm ?_
  unfold State.runRead
  try simp +zetaDelta (decide := true) only [State.catStatus_wipe, State.catAnswer_wipe, wipe_ite, wipe_ite_fst,
      ite_self, implies_true]
  all_goals repeat' (split <;> try simp +zetaDelta (decide := true) only [State.catStatus_wipe,
      State.catAnswer_wipe, wipe_ite, wipe_ite_fst, ite_self, implies_true])

theorem State.runReadSeg_wipe (s : State) (h : CatHdr) (a : CatAsk) (offset : Nat) (length : Nat) (g : BitVec 16) (w
    : Who) (m : Nat) (hm : 0x3020004000000 ||| m = m) :
    (s.runReadSeg h a offset length g w).wipe m = s.wipe m := by
  refine wipe_mono hm ?_
  unfold State.runReadSeg
  try simp +zetaDelta (decide := true) only [State.catStatus_wipe, State.catAnswer_wipe, wipe_ite, wipe_ite_fst,
      ite_self, implies_true]
  all_goals repeat' (split <;> try simp +zetaDelta (decide := true) only [State.catStatus_wipe,
      State.catAnswer_wipe, wipe_ite, wipe_ite_fst, ite_self, implies_true])

theorem State.runNext_wipe (s : State) (h : CatHdr) (a : CatAsk) (w : Who) (m : Nat) (hm : 0x3020004000000 ||| m =
    m) :
    (s.runNext h a w).wipe m = s.wipe m := by
  refine wipe_mono hm ?_
  unfold State.runNext
  try simp +zetaDelta (decide := true) only [State.catAnswer_wipe, State.catStatus_wipe, wipe_ite, wipe_ite_fst,
      ite_self, implies_true]
  all_goals repeat' (split <;> try simp +zetaDelta (decide := true) only [State.catAnswer_wipe,
      State.catStatus_wipe, wipe_ite, wipe_ite_fst, ite_self, implies_true])

theorem State.runWrite_wipe (s : State) (h : CatHdr) (a : CatAsk) (count : Option Nat) (v : Nat) (w : Who) (m : Nat)
    (hm : 0x31afdfffffc40 ||| m = m) :
    (s.runWrite h a count v w).wipe m = s.wipe m := by
  refine wipe_mono hm ?_
  unfold State.runWrite
  try simp +zetaDelta (decide := true) only [wipe_catOpen, State.catStatus_wipe, State.writeEntry_wipe,
      State.catFinish_wipe, wipe_ite, wipe_ite_fst, ite_self, implies_true]
  all_goals repeat' (split <;> try simp +zetaDelta (decide := true) only [wipe_catOpen, State.catStatus_wipe,
      State.writeEntry_wipe, State.catFinish_wipe, wipe_ite, wipe_ite_fst, ite_self, implies_true])

theorem State.entryCommand_wipe (s : State) (i : Instr) (h : CatHdr) (index : BitVec 16) (sub : BitVec 8) (v : Nat)
    (m : Nat) (hm : 0x31bfdfffffc40 ||| m = m) :
    (s.entryCommand i h index sub v).wipe m = s.wipe m := by
  refine wipe_mono hm ?_
  unfold State.entryCommand
  try simp +zetaDelta (decide := true) only [State.catRequest_wipe, State.runWrite_wipe, State.apbData_wipe,
      wipe_ite, wipe_ite_fst, ite_self, implies_true]
  all_goals repeat' (split <;> try simp +zetaDelta (decide := true) only [State.catRequest_wipe,
      State.runWrite_wipe, State.apbData_wipe, wipe_ite, wipe_ite_fst, ite_self, implies_true])

theorem State.writeCommand_wipe (s : State) (i : Instr) (h : CatHdr) (index : BitVec 16) (sub : BitVec 8) (bytes :
    Nat) (v : BitVec 128) (m : Nat) (hm : 0x31bfdfffffc40 ||| m = m) :
    (s.writeCommand i h index sub bytes v).wipe m = s.wipe m := by
  refine wipe_mono hm ?_
  unfold State.writeCommand
  try simp +zetaDelta (decide := true) only [State.catRequest_wipe, State.runWrite_wipe, State.apbData_wipe,
      wipe_ite, wipe_ite_fst, ite_self, implies_true]
  all_goals repeat' (split <;> try simp +zetaDelta (decide := true) only [State.catRequest_wipe,
      State.runWrite_wipe, State.apbData_wipe, wipe_ite, wipe_ite_fst, ite_self, implies_true])

theorem State.identifyCommand_wipe (s : State) (i : Instr) (h : CatHdr) (m : Nat) (hm : 0x3030004000000 ||| m = m) :
    (s.identifyCommand i h).wipe m = s.wipe m := by
  refine wipe_mono hm ?_
  unfold State.identifyCommand
  try simp +zetaDelta (decide := true) only [State.catRequest_wipe, State.runIdentify_wipe, wipe_ite,
      wipe_ite_fst, ite_self, implies_true]
  all_goals repeat' (split <;> try simp +zetaDelta (decide := true) only [State.catRequest_wipe,
      State.runIdentify_wipe, wipe_ite, wipe_ite_fst, ite_self, implies_true])

theorem State.describeCommand_wipe (s : State) (i : Instr) (h : CatHdr) (index : BitVec 16) (sub : BitVec 8) (m :
    Nat) (hm : 0x3030004000000 ||| m = m) :
    (s.describeCommand i h index sub).wipe m = s.wipe m := by
  refine wipe_mono hm ?_
  unfold State.describeCommand
  try simp +zetaDelta (decide := true) only [State.catRequest_wipe, State.runDescribe_wipe, wipe_ite,
      wipe_ite_fst, ite_self, implies_true]
  all_goals repeat' (split <;> try simp +zetaDelta (decide := true) only [State.catRequest_wipe,
      State.runDescribe_wipe, wipe_ite, wipe_ite_fst, ite_self, implies_true])

theorem State.readCommand_wipe (s : State) (i : Instr) (h : CatHdr) (index : BitVec 16) (sub : BitVec 8) (m : Nat)
    (hm : 0x3030004000000 ||| m = m) :
    (s.readCommand i h index sub).wipe m = s.wipe m := by
  refine wipe_mono hm ?_
  unfold State.readCommand
  try simp +zetaDelta (decide := true) only [State.catRequest_wipe, State.runRead_wipe, wipe_ite, wipe_ite_fst,
      ite_self, implies_true]
  all_goals repeat' (split <;> try simp +zetaDelta (decide := true) only [State.catRequest_wipe,
      State.runRead_wipe, wipe_ite, wipe_ite_fst, ite_self, implies_true])

theorem State.readSegCommand_wipe (s : State) (i : Instr) (h : CatHdr) (index : BitVec 16) (sub : BitVec 8) (offset
    : BitVec 32) (length : BitVec 16) (g : BitVec 16) (m : Nat) (hm : 0x3030004000000 ||| m = m) :
    (s.readSegCommand i h index sub offset length g).wipe m = s.wipe m := by
  refine wipe_mono hm ?_
  unfold State.readSegCommand
  try simp +zetaDelta (decide := true) only [wipe_apb, State.catRequest_wipe, State.runReadSeg_wipe, wipe_ite,
      wipe_ite_fst, ite_self, implies_true]
  all_goals repeat' (split <;> try simp +zetaDelta (decide := true) only [wipe_apb, State.catRequest_wipe,
      State.runReadSeg_wipe, wipe_ite, wipe_ite_fst, ite_self, implies_true])

theorem State.nextCommand_wipe (s : State) (i : Instr) (h : CatHdr) (index : BitVec 16) (sub : BitVec 8) (m : Nat)
    (hm : 0x3030004000000 ||| m = m) :
    (s.nextCommand i h index sub).wipe m = s.wipe m := by
  refine wipe_mono hm ?_
  unfold State.nextCommand
  try simp +zetaDelta (decide := true) only [State.catRequest_wipe, State.runNext_wipe, wipe_ite, wipe_ite_fst,
      ite_self, implies_true]
  all_goals repeat' (split <;> try simp +zetaDelta (decide := true) only [State.catRequest_wipe,
      State.runNext_wipe, wipe_ite, wipe_ite_fst, ite_self, implies_true])

theorem State.malformedCommand_wipe (s : State) (i : Instr) (h : CatHdr) (command : BitVec 8) (m : Nat) (hm :
    0x3030004000000 ||| m = m) :
    (s.malformedCommand i h command).wipe m = s.wipe m := by
  refine wipe_mono hm ?_
  unfold State.malformedCommand
  try simp +zetaDelta (decide := true) only [State.catRequest_wipe, State.catStatus_wipe, wipe_ite, wipe_ite_fst,
      ite_self, implies_true]
  all_goals repeat' (split <;> try simp +zetaDelta (decide := true) only [State.catRequest_wipe,
      State.catStatus_wipe, wipe_ite, wipe_ite_fst, ite_self, implies_true])

theorem State.blockIndex_wipe (s : State) (p : Nat) (ring : RingName) (v : BitVec 32) (m : Nat) (h : 0x30020e7f71000
    ||| m = m) :
    (s.blockIndex p ring v).wipe m = s.wipe m := by
  refine wipe_mono h ?_
  unfold State.blockIndex
  split
  · simp +zetaDelta (decide := true) only [State.notServing_wipe, State.drive_wipe, State.slverr_wipe, wipe_ite,
      wipe_ite_fst, ite_self, implies_true]
  · split
    · simp +zetaDelta (decide := true) only [State.notServing_wipe, State.drive_wipe, State.slverr_wipe, wipe_ite,
        wipe_ite_fst, ite_self, implies_true]
    · simp only []
      split
      · rename_i t e
        have e2 : s.moveConsumer p ring v.toNat = some t := by
          revert e
          generalize s.moveConsumer p ring v.toNat = x
          cases ring <;> simp
        have k := State.moveConsumer_wipe _ _ _ _ 0x30020e7f71000 (by decide) _ e2
        simp +zetaDelta (decide := true) only [k, State.notServing_wipe, State.drive_wipe, State.slverr_wipe,
            wipe_ite, wipe_ite_fst, ite_self, implies_true]
      · simp +zetaDelta (decide := true) only [State.notServing_wipe, State.drive_wipe, State.slverr_wipe,
          wipe_ite, wipe_ite_fst, ite_self, implies_true]

theorem State.indexCommand_wipe (s : State) (i : Instr) (via : IndexWriteVia) (ring : RingName) (v : BitVec 32) (m :
    Nat) (h : 0x31bfdfffffc40 ||| m = m) :
    (s.indexCommand i via ring v).wipe m = s.wipe m := by
  refine wipe_mono h ?_
  unfold State.indexCommand
  try simp +zetaDelta (decide := true) only [State.entryCommand_wipe, State.blockIndex_wipe, wipe_ite,
      wipe_ite_fst, ite_self, implies_true]
  all_goals repeat' (split <;> try simp +zetaDelta (decide := true) only [State.entryCommand_wipe,
      State.blockIndex_wipe, wipe_ite, wipe_ite_fst, ite_self, implies_true])

theorem State.mctpAnswer_wipe (s : State) (dst : BitVec 8) (tag : BitVec 3) (command : BitVec 8) (completion :
    BitVec 8) (data : Nat) (m : Nat) (h : 0x1000000000000 ||| m = m) :
    (s.mctpAnswer dst tag command completion data).wipe m = s.wipe m := by
  refine wipe_mono h ?_
  unfold State.mctpAnswer
  try simp +zetaDelta (decide := true) only [State.drive_wipe, wipe_ite, wipe_ite_fst, ite_self, implies_true]
  all_goals repeat' (split <;> try simp +zetaDelta (decide := true) only [State.drive_wipe, wipe_ite,
      wipe_ite_fst, ite_self, implies_true])

theorem State.setEid_wipe (s : State) (src : BitVec 8) (tag : BitVec 3) (e : BitVec 8) (m : Nat) (h :
    0x1040000000000 ||| m = m) :
    (s.setEid src tag e).wipe m = s.wipe m := by
  refine wipe_mono h ?_
  unfold State.setEid
  try simp +zetaDelta (decide := true) only [wipe_eid, State.mctpAnswer_wipe, wipe_ite, wipe_ite_fst, ite_self,
      implies_true]
  all_goals repeat' (split <;> try simp +zetaDelta (decide := true) only [wipe_eid, State.mctpAnswer_wipe,
      wipe_ite, wipe_ite_fst, ite_self, implies_true])

theorem State.getEid_wipe (s : State) (src : BitVec 8) (tag : BitVec 3) (m : Nat) (h : 0x1000000000000 ||| m = m) :
    (s.getEid src tag).wipe m = s.wipe m := by
  refine wipe_mono h ?_
  unfold State.getEid
  try simp +zetaDelta (decide := true) only [State.mctpAnswer_wipe, wipe_ite, wipe_ite_fst, ite_self,
      implies_true]
  all_goals repeat' (split <;> try simp +zetaDelta (decide := true) only [State.mctpAnswer_wipe, wipe_ite,
      wipe_ite_fst, ite_self, implies_true])

theorem State.getVersion_wipe (s : State) (src : BitVec 8) (tag : BitVec 3) (msgType : BitVec 8) (m : Nat) (h :
    0x1000000000000 ||| m = m) :
    (s.getVersion src tag msgType).wipe m = s.wipe m := by
  refine wipe_mono h ?_
  unfold State.getVersion
  try simp +zetaDelta (decide := true) only [State.mctpAnswer_wipe, wipe_ite, wipe_ite_fst, ite_self,
      implies_true]
  all_goals repeat' (split <;> try simp +zetaDelta (decide := true) only [State.mctpAnswer_wipe, wipe_ite,
      wipe_ite_fst, ite_self, implies_true])

theorem State.getTypes_wipe (s : State) (src : BitVec 8) (tag : BitVec 3) (m : Nat) (h : 0x1000000000000 ||| m = m)
    :
    (s.getTypes src tag).wipe m = s.wipe m := by
  refine wipe_mono h ?_
  unfold State.getTypes
  try simp +zetaDelta (decide := true) only [State.mctpAnswer_wipe, wipe_ite, wipe_ite_fst, ite_self,
      implies_true]
  all_goals repeat' (split <;> try simp +zetaDelta (decide := true) only [State.mctpAnswer_wipe, wipe_ite,
      wipe_ite_fst, ite_self, implies_true])

theorem State.getVendor_wipe (s : State) (src : BitVec 8) (tag : BitVec 3) (selector : BitVec 8) (m : Nat) (h :
    0x1000000000000 ||| m = m) :
    (s.getVendor src tag selector).wipe m = s.wipe m := by
  refine wipe_mono h ?_
  unfold State.getVendor
  try simp +zetaDelta (decide := true) only [State.mctpAnswer_wipe, wipe_ite, wipe_ite_fst, ite_self,
      implies_true]
  all_goals repeat' (split <;> try simp +zetaDelta (decide := true) only [State.mctpAnswer_wipe, wipe_ite,
      wipe_ite_fst, ite_self, implies_true])

theorem State.discardPackets_wipe (s : State) (n : Nat) (m : Nat) (h : 0x2000004000000 ||| m = m) :
    (s.discardPackets n).wipe m = s.wipe m := by
  refine wipe_mono h ?_
  unfold State.discardPackets
  try simp +zetaDelta (decide := true) only [State.bumpN_wipe, wipe_ite, wipe_ite_fst, ite_self, implies_true]
  all_goals repeat' (split <;> try simp +zetaDelta (decide := true) only [State.bumpN_wipe, wipe_ite,
      wipe_ite_fst, ite_self, implies_true])

theorem State.dropIncomplete_wipe (s : State) (m : Nat) (h : 0x2000004000000 ||| m = m) :
    (s.dropIncomplete).wipe m = s.wipe m := by
  refine wipe_mono h ?_
  unfold State.dropIncomplete
  try simp +zetaDelta (decide := true) only [State.bumpN_wipe, State.fresh_wipe, wipe_ite, wipe_ite_fst, ite_self,
      implies_true]
  all_goals repeat' (split <;> try simp +zetaDelta (decide := true) only [State.bumpN_wipe, State.fresh_wipe,
      wipe_ite, wipe_ite_fst, ite_self, implies_true])

end Sys2Proof.Machine
end

