-- ==== Sys2Proof/Laws/KeepsStartup.lean ====
section
/-! SUPPORT. What each operation of Startup.lean changes at most: blotting out the fields of its mask takes away every
difference that it makes. -/

set_option linter.all false

namespace Sys2Proof.Machine

theorem State.linkStarts_wipe (s : State) (c : Nat) (m : Nat) (h : 0x30028e7000400 ||| m = m) :
    (s.linkStarts c).wipe m = s.wipe m := by
  refine wipe_mono h ?_
  unfold State.linkStarts
  try simp +zetaDelta (decide := true) only [State.startNeg_wipe, wipe_ite, wipe_ite_fst, ite_self, implies_true]
  all_goals repeat' (split <;> try simp +zetaDelta (decide := true) only [State.startNeg_wipe, wipe_ite,
      wipe_ite_fst, ite_self, implies_true])

theorem State.portStarts_wipe (s : State) (p : Nat) (m : Nat) (h : 0x30aa8ffffd000 ||| m = m) :
    (s.portStarts p).wipe m = s.wipe m := by
  refine wipe_mono h ?_
  unfold State.portStarts
  try simp +zetaDelta (decide := true) only [State.wakePort_wipe, wipe_ite, wipe_ite_fst, ite_self, implies_true]
  all_goals repeat' (split <;> try simp +zetaDelta (decide := true) only [State.wakePort_wipe, wipe_ite,
      wipe_ite_fst, ite_self, implies_true])

theorem State.startupComplete_wipe (s : State) (m : Nat) (h : 0x38aa8ffffd402 ||| m = m) :
    (s.startupComplete).wipe m = s.wipe m := by
  refine wipe_mono h ?_
  unfold State.startupComplete
  try simp +zetaDelta (decide := true) only [wipe_phase_scrubStart, State.each_wipe, State.linkStarts_wipe,
      State.portStarts_wipe, wipe_ite, wipe_ite_fst, ite_self, implies_true]
  all_goals repeat' (split <;> try simp +zetaDelta (decide := true) only [wipe_phase_scrubStart, State.each_wipe,
      State.linkStarts_wipe, State.portStarts_wipe, wipe_ite, wipe_ite_fst, ite_self, implies_true])

theorem State.whenLive_wipe (s : State) (f : State → State) (m : Nat) (h : 0x0 ||| m = m) (hf : (f s).wipe m =
    s.wipe m) :
    (s.whenLive f).wipe m = s.wipe m := by
  unfold State.whenLive
  split <;> simp only [hf]

theorem State.refLoss_wipe (s : State) (m : Nat) (h : 0x30020e7771200 ||| m = m) :
    (s.refLoss).wipe m = s.wipe m := by
  refine wipe_mono h ?_
  unfold State.refLoss
  try simp +zetaDelta (decide := true) only [wipe_refLost, State.clockLost_wipe, wipe_ite, wipe_ite_fst, ite_self,
      implies_true]
  all_goals repeat' (split <;> try simp +zetaDelta (decide := true) only [wipe_refLost, State.clockLost_wipe,
      wipe_ite, wipe_ite_fst, ite_self, implies_true])

theorem State.phyUpEvent_wipe (s : State) (c : Nat) (lanes : BitVec 3) (m : Nat) (h : 0x30028e7000400 ||| m = m) :
    (s.phyUpEvent c lanes).wipe m = s.wipe m := by
  refine wipe_mono h ?_
  unfold State.phyUpEvent
  try simp +zetaDelta (decide := true) only [State.phyRise_wipe, State.modLink_wipe, wipe_ite, wipe_ite_fst,
      ite_self, implies_true]
  all_goals repeat' (split <;> try simp +zetaDelta (decide := true) only [State.phyRise_wipe, State.modLink_wipe,
      wipe_ite, wipe_ite_fst, ite_self, implies_true])

theorem State.phyDownEvent_wipe (s : State) (c : Nat) (m : Nat) (h : 0x302a8e7000400 ||| m = m) :
    (s.phyDownEvent c).wipe m = s.wipe m := by
  refine wipe_mono h ?_
  unfold State.phyDownEvent
  try simp +zetaDelta (decide := true) only [State.phyFall_wipe, State.modLink_wipe, wipe_ite, wipe_ite_fst,
      ite_self, implies_true]
  all_goals repeat' (split <;> try simp +zetaDelta (decide := true) only [State.phyFall_wipe, State.modLink_wipe,
      wipe_ite, wipe_ite_fst, ite_self, implies_true])

theorem State.ackRiseEvent_wipe (s : State) (p : Nat) (m : Nat) (h : 0x30878fffff800 ||| m = m) :
    (s.ackRiseEvent p).wipe m = s.wipe m := by
  refine wipe_mono h ?_
  unfold State.ackRiseEvent
  try simp +zetaDelta (decide := true) only [State.ackRise_wipe, State.modPart_wipe, wipe_ite, wipe_ite_fst,
      ite_self, implies_true]
  all_goals repeat' (split <;> try simp +zetaDelta (decide := true) only [State.ackRise_wipe, State.modPart_wipe,
      wipe_ite, wipe_ite_fst, ite_self, implies_true])

theorem State.ackFallEvent_wipe (s : State) (p : Nat) (m : Nat) (h : 0x1000 ||| m = m) :
    (s.ackFallEvent p).wipe m = s.wipe m := by
  refine wipe_mono h ?_
  unfold State.ackFallEvent
  try simp +zetaDelta (decide := true) only [State.ackFall_wipe, State.modPart_wipe, wipe_ite, wipe_ite_fst,
      ite_self, implies_true]
  all_goals repeat' (split <;> try simp +zetaDelta (decide := true) only [State.ackFall_wipe, State.modPart_wipe,
      wipe_ite, wipe_ite_fst, ite_self, implies_true])

theorem State.evInput_wipe (s : State) (i : Nat) (level : Bool) (m : Nat) (h : 0x30838ffffd000 ||| m = m) :
    (s.evInput i level).wipe m = s.wipe m := by
  refine wipe_mono h ?_
  unfold State.evInput
  try simp +zetaDelta (decide := true) only [State.setEv_wipe, State.evChange_wipe, wipe_ite, wipe_ite_fst,
      ite_self, implies_true]
  all_goals repeat' (split <;> try simp +zetaDelta (decide := true) only [State.setEv_wipe, State.evChange_wipe,
      wipe_ite, wipe_ite_fst, ite_self, implies_true])

theorem State.coreResetEvent_wipe (s : State) (q : Nat) (m : Nat) (h : 0x30828ffff5000 ||| m = m) :
    (s.coreResetEvent q).wipe m = s.wipe m := by
  refine wipe_mono h ?_
  unfold State.coreResetEvent
  try simp +zetaDelta (decide := true) only [State.modPort_wipe, State.coreReset_wipe, wipe_ite, wipe_ite_fst,
      ite_self, implies_true]
  all_goals repeat' (split <;> try simp +zetaDelta (decide := true) only [State.modPort_wipe,
      State.coreReset_wipe, wipe_ite, wipe_ite_fst, ite_self, implies_true])

theorem State.coreReleaseEvent_wipe (s : State) (q : Nat) (m : Nat) (h : 0x30aa8ffffd000 ||| m = m) :
    (s.coreReleaseEvent q).wipe m = s.wipe m := by
  refine wipe_mono h ?_
  unfold State.coreReleaseEvent
  try simp +zetaDelta (decide := true) only [State.modPort_wipe, State.coreRelease_wipe, wipe_ite, wipe_ite_fst,
      ite_self, implies_true]
  all_goals repeat' (split <;> try simp +zetaDelta (decide := true) only [State.modPort_wipe,
      State.coreRelease_wipe, wipe_ite, wipe_ite_fst, ite_self, implies_true])

theorem State.edge_wipe (s : State) (m : Nat) (h : 0x60000000004c0 ||| m = m) :
    (s.edge).wipe m = s.wipe m := by
  refine wipe_mono h ?_
  unfold State.edge
  try simp +zetaDelta (decide := true) only [wipe_time_tick_sync_free_clock, wipe_ite, wipe_ite_fst, ite_self,
      implies_true]
  all_goals repeat' (split <;> try simp +zetaDelta (decide := true) only [wipe_time_tick_sync_free_clock,
      wipe_ite, wipe_ite_fst, ite_self, implies_true])

theorem State.tickOnce_wipe (s : State) (m : Nat) (h : 0x70aa8ffffd4c0 ||| m = m) :
    (s.tickOnce).wipe m = s.wipe m := by
  refine wipe_mono h ?_
  unfold State.tickOnce
  try simp +zetaDelta (decide := true) only [State.edge_wipe, State.each_wipe, State.wakePort_wipe,
      State.wakeSlot_wipe, wipe_ite, wipe_ite_fst, ite_self, implies_true]
  all_goals repeat' (split <;> try simp +zetaDelta (decide := true) only [State.edge_wipe, State.each_wipe,
      State.wakePort_wipe, State.wakeSlot_wipe, wipe_ite, wipe_ite_fst, ite_self, implies_true])

end Sys2Proof.Machine
end

