-- ==== Sys2Proof/Laws/KeepsExecEvents.lean ====
section
/-! SUPPORT. What each operation of ExecEvents.lean changes at most: blotting out the fields of its mask takes away every
difference that it makes. -/

set_option linter.all false

namespace Sys2Proof.Machine

theorem State.whenClocked_wipe (s : State) (f : State → State) (m : Nat) (h : 0x0 ||| m = m) (hf : (f s).wipe m =
    s.wipe m) :
    (s.whenClocked f).wipe m = s.wipe m := by
  unfold State.whenClocked
  split <;> simp only [hf]

theorem State.whenWalks_wipe (s : State) (f : State → State) (m : Nat) (h : 0x0 ||| m = m) (hf : (f s).wipe m =
    s.wipe m) :
    (s.whenWalks f).wipe m = s.wipe m := by
  unfold State.whenWalks
  split <;> simp only [hf]

theorem State.nearTurn_wipe (s : State) (p : Nat) (m : Nat) (h : 0x30020e7771000 ||| m = m) :
    (s.nearTurn p).wipe m = s.wipe m := by
  refine wipe_mono h ?_
  unfold State.nearTurn
  try simp +zetaDelta (decide := true) only [State.modPort_wipe, State.nearCheck_wipe, wipe_ite, wipe_ite_fst,
      ite_self, implies_true]
  all_goals repeat' (split <;> try simp +zetaDelta (decide := true) only [State.modPort_wipe,
      State.nearCheck_wipe, wipe_ite, wipe_ite_fst, ite_self, implies_true])

theorem State.w1Expiry_wipe (s : State) (q : Nat) (n : Nat) (m : Nat) (h : 0x30aa8ffffd000 ||| m = m) :
    (s.w1Expiry q n).wipe m = s.wipe m := by
  refine wipe_mono h ?_
  unfold State.w1Expiry
  try simp +zetaDelta (decide := true) only [State.w1SlotDeadline_wipe, State.w1Deadline_wipe, wipe_ite,
      wipe_ite_fst, ite_self, implies_true]
  all_goals repeat' (split <;> try simp +zetaDelta (decide := true) only [State.w1SlotDeadline_wipe,
      State.w1Deadline_wipe, wipe_ite, wipe_ite_fst, ite_self, implies_true])

theorem State.onWrite_wipe (s : State) (ks : List MgrKind) (f : State → MgrWrite → State) (m : Nat) (h : 0x0 ||| m =
    m) (hf : ∀ w, (f s w).wipe m = s.wipe m) :
    (s.onWrite ks f).wipe m = s.wipe m := by
  unfold State.onWrite
  split <;> simp only [hf]

end Sys2Proof.Machine
end

