-- ==== Sys2Proof/Laws/KeepsStep.lean ====
section
/-! SUPPORT. What each operation of Step.lean changes at most: blotting out the fields of its mask takes away every
difference that it makes. -/

set_option linter.all false

namespace Sys2Proof.Machine

theorem State.withFetchWord_wipe (s : State) (nbits : Nat) (w : Nat) (m : Nat) (h : 0x1 ||| m = m) :
    (s.withFetchWord nbits w).wipe m = s.wipe m := by
  refine wipe_mono h ?_
  unfold State.withFetchWord
  try simp +zetaDelta (decide := true) only [wipe_pending, wipe_ite, wipe_ite_fst, ite_self, implies_true]
  all_goals repeat' (split <;> try simp +zetaDelta (decide := true) only [wipe_pending, wipe_ite, wipe_ite_fst,
      ite_self, implies_true])

end Sys2Proof.Machine
end

