-- ==== Sys2Proof/Laws/KeepsExec.lean ====
section
/-! SUPPORT. What each command changes at most. -/

set_option linter.all false

namespace Sys2Proof.Machine

/-- The next state of a command that names a unit. -/
theorem atPort_next {s t : State} {p : Nat} {f : State → State} (h : s.atPort p f = .next t) : t = f s := by
  unfold State.atPort at h
  split at h <;> cases h
  rfl

theorem atLink_next {s t : State} {c : Nat} {f : State → State} (h : s.atLink c f = .next t) : t = f s := by
  unfold State.atLink at h
  split at h <;> cases h
  rfl

theorem atUnit_next {s t : State} {n k : Nat} {f : State → State} (h : s.atUnit n k f = .next t) : t = f s := by
  unfold State.atUnit at h
  split at h <;> cases h
  rfl

theorem atPair_next {s t : State} {n k m j : Nat} {f : State → State} (h : s.atPair n k m j f = .next t) : t = f s := by
  unfold State.atPair at h
  split at h <;> cases h
  rfl

theorem State.opCommand_wipe {s u : State} (code : BitVec 6) (r : OpReq) (mk : Nat) (hm : 0x30aa9ffffd000 ||| mk =
    mk)
    (h : s.opCommand code r = .next u) : u.wipe mk = s.wipe mk := by
  refine wipe_mono hm ?_
  unfold State.opCommand at h
  split at h <;> (try simp only [] at h) <;> split at h <;> cases h
  all_goals simp +zetaDelta (decide := true) only [State.coreOp_wipe, State.apertureOp_wipe, State.linkOp_wipe,
    wipe_ite, ite_self]

theorem State.templateCommand_wipe {s u : State} (src : TemplateSource) (word : BitVec 2) (handle : Handle) (data
    : BitVec 64) (mk : Nat) (hm : 0x30aa9ffffd000 ||| mk = mk)
    (h : s.templateCommand src word handle data = .next u) : u.wipe mk = s.wipe mk := by
  refine wipe_mono hm ?_
  unfold State.templateCommand at h
  split at h <;> (try simp only [] at h) <;> split at h <;> cases h
  all_goals simp +zetaDelta (decide := true) only [State.apertureTemplate_wipe, State.linkOp_wipe, wipe_ite,
    ite_self]

theorem execSig_wipe {s u : State} (r : OpReq) (mk : Nat) (hm : 0x30aa9ffffd000 ||| mk = mk) (h : execSig r s =
    .next u) :
    u.wipe mk = s.wipe mk := by
  exact State.opCommand_wipe _ _ mk hm h

theorem execSet_wipe {s u : State} (r : OpReq) (mk : Nat) (hm : 0x30aa9ffffd000 ||| mk = mk) (h : execSet r s =
    .next u) :
    u.wipe mk = s.wipe mk := by
  exact State.opCommand_wipe _ _ mk hm h

theorem execClr_wipe {s u : State} (r : OpReq) (mk : Nat) (hm : 0x30aa9ffffd000 ||| mk = mk) (h : execClr r s =
    .next u) :
    u.wipe mk = s.wipe mk := by
  exact State.opCommand_wipe _ _ mk hm h

theorem execWait_wipe {s u : State} (r : OpReq) (mk : Nat) (hm : 0x30aa9ffffd000 ||| mk = mk) (h : execWait r s =
    .next u) :
    u.wipe mk = s.wipe mk := by
  exact State.opCommand_wipe _ _ mk hm h

theorem execTake_wipe {s u : State} (r : OpReq) (mk : Nat) (hm : 0x30aa9ffffd000 ||| mk = mk) (h : execTake r s =
    .next u) :
    u.wipe mk = s.wipe mk := by
  exact State.opCommand_wipe _ _ mk hm h

theorem execTryTake_wipe {s u : State} (r : OpReq) (mk : Nat) (hm : 0x30aa9ffffd000 ||| mk = mk) (h : execTryTake
    r s = .next u) :
    u.wipe mk = s.wipe mk := by
  exact State.opCommand_wipe _ _ mk hm h

theorem execArrv_wipe {s u : State} (r : OpReq) (mk : Nat) (hm : 0x30aa9ffffd000 ||| mk = mk) (h : execArrv r s =
    .next u) :
    u.wipe mk = s.wipe mk := by
  exact State.opCommand_wipe _ _ mk hm h

theorem execArrw_wipe {s u : State} (r : OpReq) (mk : Nat) (hm : 0x30aa9ffffd000 ||| mk = mk) (h : execArrw r s =
    .next u) :
    u.wipe mk = s.wipe mk := by
  exact State.opCommand_wipe _ _ mk hm h

theorem execWrel_wipe {s u : State} (r : OpReq) (mk : Nat) (hm : 0x30aa9ffffd000 ||| mk = mk) (h : execWrel r s =
    .next u) :
    u.wipe mk = s.wipe mk := by
  exact State.opCommand_wipe _ _ mk hm h

theorem execAcq_wipe {s u : State} (r : OpReq) (mk : Nat) (hm : 0x30aa9ffffd000 ||| mk = mk) (h : execAcq r s =
    .next u) :
    u.wipe mk = s.wipe mk := by
  exact State.opCommand_wipe _ _ mk hm h

theorem execTryAcq_wipe {s u : State} (r : OpReq) (mk : Nat) (hm : 0x30aa9ffffd000 ||| mk = mk) (h : execTryAcq r
    s = .next u) :
    u.wipe mk = s.wipe mk := by
  exact State.opCommand_wipe _ _ mk hm h

theorem execRel_wipe {s u : State} (r : OpReq) (mk : Nat) (hm : 0x30aa9ffffd000 ||| mk = mk) (h : execRel r s =
    .next u) :
    u.wipe mk = s.wipe mk := by
  exact State.opCommand_wipe _ _ mk hm h

theorem execFrel_wipe {s u : State} (r : OpReq) (mk : Nat) (hm : 0x30aa9ffffd000 ||| mk = mk) (h : execFrel r s =
    .next u) :
    u.wipe mk = s.wipe mk := by
  exact State.opCommand_wipe _ _ mk hm h

theorem execRead_wipe {s u : State} (r : OpReq) (mk : Nat) (hm : 0x30aa9ffffd000 ||| mk = mk) (h : execRead r s =
    .next u) :
    u.wipe mk = s.wipe mk := by
  exact State.opCommand_wipe _ _ mk hm h

theorem execInit_wipe {s u : State} (r : OpReq) (mk : Nat) (hm : 0x30aa9ffffd000 ||| mk = mk) (h : execInit r s =
    .next u) :
    u.wipe mk = s.wipe mk := by
  exact State.opCommand_wipe _ _ mk hm h

theorem execFadd_wipe {s u : State} (r : OpReq) (mk : Nat) (hm : 0x30aa9ffffd000 ||| mk = mk) (h : execFadd r s =
    .next u) :
    u.wipe mk = s.wipe mk := by
  exact State.opCommand_wipe _ _ mk hm h

theorem execSwap_wipe {s u : State} (r : OpReq) (mk : Nat) (hm : 0x30aa9ffffd000 ||| mk = mk) (h : execSwap r s =
    .next u) :
    u.wipe mk = s.wipe mk := by
  exact State.opCommand_wipe _ _ mk hm h

theorem execCas_wipe {s u : State} (r : OpReq) (mk : Nat) (hm : 0x30aa9ffffd000 ||| mk = mk) (h : execCas r s =
    .next u) :
    u.wipe mk = s.wipe mk := by
  exact State.opCommand_wipe _ _ mk hm h

theorem execArm_wipe {s u : State} (r : OpReq) (mk : Nat) (hm : 0x30aa9ffffd000 ||| mk = mk) (h : execArm r s =
    .next u) :
    u.wipe mk = s.wipe mk := by
  exact State.opCommand_wipe _ _ mk hm h

theorem execDisarm_wipe {s u : State} (r : OpReq) (mk : Nat) (hm : 0x30aa9ffffd000 ||| mk = mk) (h : execDisarm r
    s = .next u) :
    u.wipe mk = s.wipe mk := by
  exact State.opCommand_wipe _ _ mk hm h

theorem execHold_wipe {s u : State} (r : OpReq) (mk : Nat) (hm : 0x30aa9ffffd000 ||| mk = mk) (h : execHold r s =
    .next u) :
    u.wipe mk = s.wipe mk := by
  exact State.opCommand_wipe _ _ mk hm h

theorem execResume_wipe {s u : State} (r : OpReq) (mk : Nat) (hm : 0x30aa9ffffd000 ||| mk = mk) (h : execResume r
    s = .next u) :
    u.wipe mk = s.wipe mk := by
  exact State.opCommand_wipe _ _ mk hm h

theorem execPark_wipe {s u : State} (r : OpReq) (mk : Nat) (hm : 0x30aa9ffffd000 ||| mk = mk) (h : execPark r s =
    .next u) :
    u.wipe mk = s.wipe mk := by
  exact State.opCommand_wipe _ _ mk hm h

theorem execUnpark_wipe {s u : State} (r : OpReq) (mk : Nat) (hm : 0x30aa9ffffd000 ||| mk = mk) (h : execUnpark r
    s = .next u) :
    u.wipe mk = s.wipe mk := by
  exact State.opCommand_wipe _ _ mk hm h

theorem execFence_wipe {s u : State} (r : OpReq) (mk : Nat) (hm : 0x30aa9ffffd000 ||| mk = mk) (h : execFence r s
    = .next u) :
    u.wipe mk = s.wipe mk := by
  exact State.opCommand_wipe _ _ mk hm h

theorem execCompletionDelivery_wipe {s u : State} (t : RspTarget) (mk : Nat) (hm : 0x30aa8ffffd000 ||| mk = mk) (h
    : execCompletionDelivery t s = .next u) :
    u.wipe mk = s.wipe mk := by
  refine wipe_mono hm ?_
  unfold execCompletionDelivery at h
  split at h
  · rw [atPort_next h]
    simp +zetaDelta (maxDischargeDepth := 6) (decide := true) only [State.whenLive_wipe,
      State.completionDelivery_wipe, wipe_ite, wipe_ite_fst, ite_self, implies_true]
  · cases h
    simp +zetaDelta (maxDischargeDepth := 6) (decide := true) only [State.whenLive_wipe,
      State.completionDelivery_wipe, wipe_ite, wipe_ite_fst, ite_self, implies_true]

theorem execStgInvalAck_wipe {s u : State} (port : Nat) (mk : Nat) (hm : 0x30aa8ffffd000 ||| mk = mk) (h :
    execStgInvalAck port s = .next u) :
    u.wipe mk = s.wipe mk := by
  refine wipe_mono hm ?_
  unfold execStgInvalAck at h
  rw [atPort_next h]
  simp +zetaDelta (maxDischargeDepth := 6) (decide := true) only [State.whenLive_wipe, State.ackInval_wipe,
    wipe_ite, wipe_ite_fst, ite_self, implies_true]

theorem execRelDrainEnd_wipe {s u : State} (port : Nat) (mk : Nat) (hm : 0x30aa8ffffd000 ||| mk = mk) (h :
    execRelDrainEnd port s = .next u) :
    u.wipe mk = s.wipe mk := by
  refine wipe_mono hm ?_
  unfold execRelDrainEnd at h
  rw [atPort_next h]
  simp +zetaDelta (maxDischargeDepth := 6) (decide := true) only [State.whenLive_wipe, State.endDrain_wipe,
    wipe_ite, wipe_ite_fst, ite_self, implies_true]

theorem execResponseRead_wipe {s u : State} (port : Nat) (lane : Nat) (mk : Nat) (hm : 0x30aa8ffffd000 ||| mk =
    mk) (h : execResponseRead port lane s = .next u) :
    u.wipe mk = s.wipe mk := by
  refine wipe_mono hm ?_
  unfold execResponseRead at h
  rw [atPort_next h]
  simp +zetaDelta (maxDischargeDepth := 6) (decide := true) only [State.whenLive_wipe, State.readBeat_wipe,
    wipe_ite, wipe_ite_fst, ite_self, implies_true]

theorem execTicketRemove_wipe {s u : State} (port : Nat) (mk : Nat) (hm : 0x30020e7f71000 ||| mk = mk) (h :
    execTicketRemove port s = .next u) :
    u.wipe mk = s.wipe mk := by
  refine wipe_mono hm ?_
  unfold execTicketRemove at h
  rw [atPort_next h]
  simp +zetaDelta (maxDischargeDepth := 6) (decide := true) only [State.whenLive_wipe, State.removeTicket_wipe,
    wipe_ite, wipe_ite_fst, ite_self, implies_true]

theorem execBucketRefill_wipe {s u : State} (b : BucketId) (mk : Nat) (hm : 0x30aa8ffffd000 ||| mk = mk) (h :
    execBucketRefill b s = .next u) :
    u.wipe mk = s.wipe mk := by
  refine wipe_mono hm ?_
  unfold execBucketRefill at h
  split at h <;> cases h
  simp +zetaDelta (maxDischargeDepth := 6) (decide := true) only [State.whenLive_wipe, State.refillBucket_wipe,
    wipe_ite, wipe_ite_fst, ite_self, implies_true]

theorem execShimSurroundWait_wipe {s u : State} (port : Nat) (sig : SurroundSignal) (mk : Nat) (hm :
    0x2002007100000 ||| mk = mk) (h : execShimSurroundWait port sig s = .next u) :
    u.wipe mk = s.wipe mk := by
  refine wipe_mono hm ?_
  unfold execShimSurroundWait at h
  rw [atPort_next h]
  simp +zetaDelta (maxDischargeDepth := 6) (decide := true) only [State.whenLive_wipe, State.surroundWait_wipe,
    wipe_ite, wipe_ite_fst, ite_self, implies_true]

theorem execCoreReset_wipe {s u : State} (port : Nat) (mk : Nat) (hm : 0x30828ffff5000 ||| mk = mk) (h :
    execCoreReset port s = .next u) :
    u.wipe mk = s.wipe mk := by
  refine wipe_mono hm ?_
  unfold execCoreReset at h
  rw [atPort_next h]
  simp +zetaDelta (maxDischargeDepth := 6) (decide := true) only [State.coreResetEvent_wipe, wipe_ite,
    wipe_ite_fst, ite_self, implies_true]

theorem execRegisteredBarrierResetCheck_wipe {s u : State} (port : Nat) (index : Nat) (mk : Nat) (hm :
    0x30828fff75000 ||| mk = mk) (h : execRegisteredBarrierResetCheck port index s = .next u) :
    u.wipe mk = s.wipe mk := by
  refine wipe_mono hm ?_
  unfold execRegisteredBarrierResetCheck at h
  rw [atPort_next h]
  simp +zetaDelta (maxDischargeDepth := 6) (decide := true) only [State.whenLive_wipe, State.resetCheck_wipe,
    wipe_ite, wipe_ite_fst, ite_self, implies_true]

theorem execWaiterExpiry_wipe {s u : State} (num : Nat) (mk : Nat) (hm : 0x30020e74f4000 ||| mk = mk) (h :
    execWaiterExpiry num s = .next u) :
    u.wipe mk = s.wipe mk := by
  refine wipe_mono hm ?_
  unfold execWaiterExpiry at h
  rw [atUnit_next h]
  simp +zetaDelta (maxDischargeDepth := 6) (decide := true) only [State.whenWalks_wipe, State.expire_wipe,
    wipe_ite, wipe_ite_fst, ite_self, implies_true]

theorem execAgedWalk_wipe {s u : State}  (mk : Nat) (hm : 0x10000 ||| mk = mk) (h : execAgedWalk s = .next u) :
    u.wipe mk = s.wipe mk := by
  refine wipe_mono hm ?_
  unfold execAgedWalk at h
  cases h
  simp +zetaDelta (maxDischargeDepth := 6) (decide := true) only [State.whenWalks_wipe, State.agedWalk_wipe,
    wipe_ite, wipe_ite_fst, ite_self, implies_true]

theorem execScrubAccess_wipe {s u : State} (w : StoreWord) (mk : Nat) (hm : 0x38828fff75000 ||| mk = mk) (h :
    execScrubAccess w s = .next u) :
    u.wipe mk = s.wipe mk := by
  refine wipe_mono hm ?_
  unfold execScrubAccess at h
  split at h <;> cases h
  simp +zetaDelta (maxDischargeDepth := 6) (decide := true) only [State.scrub_wipe, wipe_ite, wipe_ite_fst,
    ite_self, implies_true]

theorem execLoanRecallDelay_wipe {s u : State} (index : Nat) (mk : Nat) (hm : 0x30020e7020000 ||| mk = mk) (h :
    execLoanRecallDelay index s = .next u) :
    u.wipe mk = s.wipe mk := by
  refine wipe_mono hm ?_
  unfold execLoanRecallDelay at h
  rw [atUnit_next h]
  simp +zetaDelta (maxDischargeDepth := 6) (decide := true) only [State.whenLive_wipe, State.recallDelay_wipe,
    wipe_ite, wipe_ite_fst, ite_self, implies_true]

theorem execLoanIdleReturn_wipe {s u : State} (entry : Nat) (mk : Nat) (hm : 0x30020e7040000 ||| mk = mk) (h :
    execLoanIdleReturn entry s = .next u) :
    u.wipe mk = s.wipe mk := by
  refine wipe_mono hm ?_
  unfold execLoanIdleReturn at h
  rw [atUnit_next h]
  simp +zetaDelta (maxDischargeDepth := 6) (decide := true) only [State.whenLive_wipe, State.idleReturn_wipe,
    wipe_ite, wipe_ite_fst, ite_self, implies_true]

theorem execLoanLinkLoss_wipe {s u : State} (hub : HubId) (mk : Nat) (hm : 0x30020e7771000 ||| mk = mk) (h :
    execLoanLinkLoss hub s = .next u) :
    u.wipe mk = s.wipe mk := by
  refine wipe_mono hm ?_
  unfold execLoanLinkLoss at h
  cases h
  simp +zetaDelta (maxDischargeDepth := 6) (decide := true) only [State.whenLive_wipe, State.loanLinkLoss_wipe,
    wipe_ite, wipe_ite_fst, ite_self, implies_true]

theorem execLockLinkLoss_wipe {s u : State} (hub : HubId) (mk : Nat) (hm : 0x30aa8ffffd000 ||| mk = mk) (h :
    execLockLinkLoss hub s = .next u) :
    u.wipe mk = s.wipe mk := by
  refine wipe_mono hm ?_
  unfold execLockLinkLoss at h
  cases h
  simp +zetaDelta (maxDischargeDepth := 6) (decide := true) only [State.whenLive_wipe, State.lockLinkLoss_wipe,
    wipe_ite, wipe_ite_fst, ite_self, implies_true]

theorem execTreeLinkLoss_wipe {s u : State} (index : Nat) (mk : Nat) (hm : 0x30828fff75000 ||| mk = mk) (h :
    execTreeLinkLoss index s = .next u) :
    u.wipe mk = s.wipe mk := by
  refine wipe_mono hm ?_
  unfold execTreeLinkLoss at h
  rw [atUnit_next h]
  simp +zetaDelta (maxDischargeDepth := 6) (decide := true) only [State.whenLive_wipe, State.treeLinkLoss_wipe,
    wipe_ite, wipe_ite_fst, ite_self, implies_true]

theorem execTreeGrantUndeliverable_wipe {s u : State} (index : Nat) (mk : Nat) (hm : 0x30020e7474000 ||| mk = mk)
    (h : execTreeGrantUndeliverable index s = .next u) :
    u.wipe mk = s.wipe mk := by
  refine wipe_mono hm ?_
  unfold execTreeGrantUndeliverable at h
  rw [atUnit_next h]
  simp +zetaDelta (maxDischargeDepth := 6) (decide := true) only [State.whenLive_wipe,
    State.grantUndeliverable_wipe, wipe_ite, wipe_ite_fst, ite_self, implies_true]

theorem execRouteStrand_wipe {s u : State} (hub : HubId) (mk : Nat) (hm : 0x30aa8ffffd000 ||| mk = mk) (h :
    execRouteStrand hub s = .next u) :
    u.wipe mk = s.wipe mk := by
  refine wipe_mono hm ?_
  unfold execRouteStrand at h
  cases h
  simp +zetaDelta (maxDischargeDepth := 6) (decide := true) only [State.whenLive_wipe, State.routeStrand_wipe,
    wipe_ite, wipe_ite_fst, ite_self, implies_true]

theorem execLinkHoldExpiry_wipe {s u : State} (port : Nat) (mk : Nat) (hm : 0x302abe7771400 ||| mk = mk) (h :
    execLinkHoldExpiry port s = .next u) :
    u.wipe mk = s.wipe mk := by
  refine wipe_mono hm ?_
  unfold execLinkHoldExpiry at h
  rw [atLink_next h]
  simp +zetaDelta (maxDischargeDepth := 6) (decide := true) only [State.whenLive_wipe, State.holdExpiry_wipe,
    wipe_ite, wipe_ite_fst, ite_self, implies_true]

theorem execRouteSettle_wipe {s u : State} (port : Nat) (mk : Nat) (hm : 0x302abf7000000 ||| mk = mk) (h :
    execRouteSettle port s = .next u) :
    u.wipe mk = s.wipe mk := by
  refine wipe_mono hm ?_
  unfold execRouteSettle at h
  rw [atLink_next h]
  simp +zetaDelta (maxDischargeDepth := 6) (decide := true) only [State.whenLive_wipe, State.routeSettle_wipe,
    wipe_ite, wipe_ite_fst, ite_self, implies_true]

theorem execReplayTimeout_wipe {s u : State} (port : Nat) (mk : Nat) (hm : 0x3000024000000 ||| mk = mk) (h :
    execReplayTimeout port s = .next u) :
    u.wipe mk = s.wipe mk := by
  refine wipe_mono hm ?_
  unfold execReplayTimeout at h
  rw [atLink_next h]
  simp +zetaDelta (maxDischargeDepth := 6) (decide := true) only [State.whenLive_wipe, State.replayTimeout_wipe,
    wipe_ite, wipe_ite_fst, ite_self, implies_true]

theorem execRetryLimit_wipe {s u : State} (port : Nat) (mk : Nat) (hm : 0x30028e7000400 ||| mk = mk) (h :
    execRetryLimit port s = .next u) :
    u.wipe mk = s.wipe mk := by
  refine wipe_mono hm ?_
  unfold execRetryLimit at h
  rw [atLink_next h]
  simp +zetaDelta (maxDischargeDepth := 6) (decide := true) only [State.whenLive_wipe, State.retryLimit_wipe,
    wipe_ite, wipe_ite_fst, ite_self, implies_true]

theorem execNegResend_wipe {s u : State} (port : Nat) (mk : Nat) (hm : 0x1000024000000 ||| mk = mk) (h :
    execNegResend port s = .next u) :
    u.wipe mk = s.wipe mk := by
  refine wipe_mono hm ?_
  unfold execNegResend at h
  rw [atLink_next h]
  simp +zetaDelta (maxDischargeDepth := 6) (decide := true) only [State.whenLive_wipe, State.negResend_wipe,
    wipe_ite, wipe_ite_fst, ite_self, implies_true]

theorem execNegotiationTimeout_wipe {s u : State} (port : Nat) (mk : Nat) (hm : 0x2000027000000 ||| mk = mk) (h :
    execNegotiationTimeout port s = .next u) :
    u.wipe mk = s.wipe mk := by
  refine wipe_mono hm ?_
  unfold execNegotiationTimeout at h
  rw [atLink_next h]
  simp +zetaDelta (maxDischargeDepth := 6) (decide := true) only [State.whenLive_wipe, State.negTimeout_wipe,
    wipe_ite, wipe_ite_fst, ite_self, implies_true]

theorem execAckCtrlSend_wipe {s u : State} (port : Nat) (mk : Nat) (hm : 0x1000024000000 ||| mk = mk) (h :
    execAckCtrlSend port s = .next u) :
    u.wipe mk = s.wipe mk := by
  refine wipe_mono hm ?_
  unfold execAckCtrlSend at h
  rw [atLink_next h]
  simp +zetaDelta (maxDischargeDepth := 6) (decide := true) only [State.whenLive_wipe, State.ackCtrl_wipe,
    wipe_ite, wipe_ite_fst, ite_self, implies_true]

theorem execTimeExchange_wipe {s u : State}  (mk : Nat) (hm : 0x1000024000400 ||| mk = mk) (h : execTimeExchange s
    = .next u) :
    u.wipe mk = s.wipe mk := by
  refine wipe_mono hm ?_
  unfold execTimeExchange at h
  cases h
  simp +zetaDelta (maxDischargeDepth := 6) (decide := true) only [State.whenLive_wipe, State.timeExchange_wipe,
    wipe_ite, wipe_ite_fst, ite_self, implies_true]

theorem execTimeHoldoverLimit_wipe {s u : State}  (mk : Nat) (hm : 0x2000007000400 ||| mk = mk) (h :
    execTimeHoldoverLimit s = .next u) :
    u.wipe mk = s.wipe mk := by
  refine wipe_mono hm ?_
  unfold execTimeHoldoverLimit at h
  cases h
  simp +zetaDelta (maxDischargeDepth := 6) (decide := true) only [State.whenLive_wipe, State.holdoverLimit_wipe,
    wipe_ite, wipe_ite_fst, ite_self, implies_true]

theorem execStocktakeRound_wipe {s u : State} (partition : Nat) (mk : Nat) (hm : 0x30020e7001000 ||| mk = mk) (h :
    execStocktakeRound partition s = .next u) :
    u.wipe mk = s.wipe mk := by
  refine wipe_mono hm ?_
  unfold execStocktakeRound at h
  rw [atUnit_next h]
  simp +zetaDelta (maxDischargeDepth := 6) (decide := true) only [State.whenLive_wipe, State.stockRound_wipe,
    wipe_ite, wipe_ite_fst, ite_self, implies_true]

theorem execDepositHoldLimit_wipe {s u : State} (partition : Nat) (rule : Nat) (mk : Nat) (hm : 0x30828fff75000
    ||| mk = mk) (h : execDepositHoldLimit partition rule s = .next u) :
    u.wipe mk = s.wipe mk := by
  refine wipe_mono hm ?_
  unfold execDepositHoldLimit at h
  rw [atPair_next h]
  simp +zetaDelta (maxDischargeDepth := 6) (decide := true) only [State.whenLive_wipe, State.depositLimit_wipe,
    wipe_ite, wipe_ite_fst, ite_self, implies_true]

theorem execApertureStallLimit_wipe {s u : State} (slot : Nat) (mk : Nat) (hm : 0x30828ffffd000 ||| mk = mk) (h :
    execApertureStallLimit slot s = .next u) :
    u.wipe mk = s.wipe mk := by
  refine wipe_mono hm ?_
  unfold execApertureStallLimit at h
  rw [atUnit_next h]
  simp +zetaDelta (maxDischargeDepth := 6) (decide := true) only [State.whenLive_wipe, State.stallLimit_wipe,
    wipe_ite, wipe_ite_fst, ite_self, implies_true]

theorem execStageRestart_wipe {s u : State} (stage : Nat) (port : Nat) (items : List CapturedItem) (testPasses :
    Bool) (mk : Nat) (hm : 0x372abe7775400 ||| mk = mk) (h : execStageRestart stage port items testPasses s =
    .next u) :
    u.wipe mk = s.wipe mk := by
  refine wipe_mono hm ?_
  unfold execStageRestart at h
  split at h <;> cases h
  simp +zetaDelta (maxDischargeDepth := 6) (decide := true) only [State.whenClocked_wipe, State.restart_wipe,
    wipe_ite, wipe_ite_fst, ite_self, implies_true]

theorem execStageRetry_wipe {s u : State} (stage : Nat) (port : Nat) (testPasses : Bool) (mk : Nat) (hm :
    0x372abe7775400 ||| mk = mk) (h : execStageRetry stage port testPasses s = .next u) :
    u.wipe mk = s.wipe mk := by
  refine wipe_mono hm ?_
  unfold execStageRetry at h
  split at h <;> cases h
  simp +zetaDelta (maxDischargeDepth := 6) (decide := true) only [State.whenClocked_wipe, State.retryStage_wipe,
    wipe_ite, wipe_ite_fst, ite_self, implies_true]

theorem execPartQuiesceWait_wipe {s u : State} (partition : Nat) (mk : Nat) (hm : 0x2002007001000 ||| mk = mk) (h
    : execPartQuiesceWait partition s = .next u) :
    u.wipe mk = s.wipe mk := by
  refine wipe_mono hm ?_
  unfold execPartQuiesceWait at h
  rw [atUnit_next h]
  simp +zetaDelta (maxDischargeDepth := 6) (decide := true) only [State.whenLive_wipe, State.quiesceWait_wipe,
    wipe_ite, wipe_ite_fst, ite_self, implies_true]

theorem execEvInputChange_wipe {s u : State} (input : Nat) (level : Bool) (mk : Nat) (hm : 0x30838ffffd000 ||| mk
    = mk) (h : execEvInputChange input level s = .next u) :
    u.wipe mk = s.wipe mk := by
  refine wipe_mono hm ?_
  unfold execEvInputChange at h
  rw [atUnit_next h]
  simp +zetaDelta (maxDischargeDepth := 6) (decide := true) only [State.evInput_wipe, wipe_ite, wipe_ite_fst,
    ite_self, implies_true]

theorem execEvDeferredSig_wipe {s u : State} (input : Nat) (mk : Nat) (hm : 0x30838ffffd000 ||| mk = mk) (h :
    execEvDeferredSig input s = .next u) :
    u.wipe mk = s.wipe mk := by
  refine wipe_mono hm ?_
  unfold execEvDeferredSig at h
  rw [atUnit_next h]
  simp +zetaDelta (maxDischargeDepth := 6) (decide := true) only [State.whenClocked_wipe, State.evDeferred_wipe,
    wipe_ite, wipe_ite_fst, ite_self, implies_true]

theorem execEvLevelApply_wipe {s u : State} (input : Nat) (mk : Nat) (hm : 0x30838ffffd000 ||| mk = mk) (h :
    execEvLevelApply input s = .next u) :
    u.wipe mk = s.wipe mk := by
  refine wipe_mono hm ?_
  unfold execEvLevelApply at h
  rw [atUnit_next h]
  simp +zetaDelta (maxDischargeDepth := 6) (decide := true) only [State.whenClocked_wipe, State.evLevel_wipe,
    wipe_ite, wipe_ite_fst, ite_self, implies_true]

theorem execNotifyIrqHoldoff_wipe {s u : State} (ring : Nat) (mk : Nat) (hm : 0x1000002000000 ||| mk = mk) (h :
    execNotifyIrqHoldoff ring s = .next u) :
    u.wipe mk = s.wipe mk := by
  refine wipe_mono hm ?_
  unfold execNotifyIrqHoldoff at h
  rw [atUnit_next h]
  simp +zetaDelta (maxDischargeDepth := 6) (decide := true) only [State.whenLive_wipe, State.holdoffEnd_wipe,
    wipe_ite, wipe_ite_fst, ite_self, implies_true]

theorem execMctpReassemblyTimeout_wipe {s u : State} (eid : BitVec 8) (tag : BitVec 3) (mk : Nat) (hm :
    0x2000004000000 ||| mk = mk) (h : execMctpReassemblyTimeout eid tag s = .next u) :
    u.wipe mk = s.wipe mk := by
  refine wipe_mono hm ?_
  unfold execMctpReassemblyTimeout at h
  cases h
  simp +zetaDelta (maxDischargeDepth := 6) (decide := true) only [State.dropIncomplete_wipe, wipe_ite,
    wipe_ite_fst, ite_self, implies_true]

theorem execFolioTrigTime_wipe {s u : State}  (mk : Nat) (hm : 0x2002007000000 ||| mk = mk) (h : execFolioTrigTime
    s = .next u) :
    u.wipe mk = s.wipe mk := by
  refine wipe_mono hm ?_
  unfold execFolioTrigTime at h
  cases h
  simp +zetaDelta (maxDischargeDepth := 6) (decide := true) only [State.whenLive_wipe, State.folioTime_wipe,
    wipe_ite, wipe_ite_fst, ite_self, implies_true]

theorem execShelfTimeLatch_wipe {s u : State} (partition : Nat) (shelf : Nat) (mk : Nat) (hm : 0x30020e7001000 |||
    mk = mk) (h : execShelfTimeLatch partition shelf s = .next u) :
    u.wipe mk = s.wipe mk := by
  refine wipe_mono hm ?_
  unfold execShelfTimeLatch at h
  rw [atPair_next h]
  simp +zetaDelta (maxDischargeDepth := 6) (decide := true) only [State.whenLive_wipe, State.shelfTime_wipe,
    wipe_ite, wipe_ite_fst, ite_self, implies_true]

theorem execHoldPeerTimeout_wipe {s u : State} (partition : Nat) (mk : Nat) (hm : 0x302a007101000 ||| mk = mk) (h
    : execHoldPeerTimeout partition s = .next u) :
    u.wipe mk = s.wipe mk := by
  refine wipe_mono hm ?_
  unfold execHoldPeerTimeout at h
  rw [atUnit_next h]
  simp +zetaDelta (maxDischargeDepth := 6) (decide := true) only [State.whenLive_wipe, State.holdLate_wipe,
    wipe_ite, wipe_ite_fst, ite_self, implies_true]

theorem execResetPeerTimeout_wipe {s u : State} (partition : Nat) (hub : HubId) (mk : Nat) (hm : 0x2000004001000
    ||| mk = mk) (h : execResetPeerTimeout partition hub s = .next u) :
    u.wipe mk = s.wipe mk := by
  refine wipe_mono hm ?_
  unfold execResetPeerTimeout at h
  rw [atUnit_next h]
  simp +zetaDelta (maxDischargeDepth := 6) (decide := true) only [State.whenLive_wipe, State.resetMissing_wipe,
    wipe_ite, wipe_ite_fst, ite_self, implies_true]

theorem execShelfPeerTimeout_wipe {s u : State} (partition : Nat) (shelf : Nat) (mk : Nat) (hm : 0x1000 ||| mk =
    mk) (h : execShelfPeerTimeout partition shelf s = .next u) :
    u.wipe mk = s.wipe mk := by
  refine wipe_mono hm ?_
  unfold execShelfPeerTimeout at h
  rw [atPair_next h]
  simp +zetaDelta (maxDischargeDepth := 6) (decide := true) only [State.whenLive_wipe, State.shelfMissing_wipe,
    wipe_ite, wipe_ite_fst, ite_self, implies_true]

theorem execStartupComplete_wipe {s u : State}  (mk : Nat) (hm : 0x38aa8ffffd402 ||| mk = mk) (h :
    execStartupComplete s = .next u) :
    u.wipe mk = s.wipe mk := by
  refine wipe_mono hm ?_
  unfold execStartupComplete at h
  cases h
  simp +zetaDelta (maxDischargeDepth := 6) (decide := true) only [State.startupComplete_wipe, wipe_ite,
    wipe_ite_fst, ite_self, implies_true]

theorem execRefclkLoss_wipe {s u : State}  (mk : Nat) (hm : 0x30020e7771200 ||| mk = mk) (h : execRefclkLoss s =
    .next u) :
    u.wipe mk = s.wipe mk := by
  refine wipe_mono hm ?_
  unfold execRefclkLoss at h
  cases h
  simp +zetaDelta (maxDischargeDepth := 6) (decide := true) only [State.refLoss_wipe, wipe_ite, wipe_ite_fst,
    ite_self, implies_true]

theorem execRefclkReturn_wipe {s u : State}  (mk : Nat) (hm : 0x200 ||| mk = mk) (h : execRefclkReturn s = .next
    u) :
    u.wipe mk = s.wipe mk := by
  refine wipe_mono hm ?_
  unfold execRefclkReturn at h
  cases h
  simp +zetaDelta (maxDischargeDepth := 6) (decide := true) only [State.clockBack_wipe, wipe_ite, wipe_ite_fst,
    ite_self, implies_true]

theorem execPhyUp_wipe {s u : State} (port : Nat) (lanes : BitVec 3) (mk : Nat) (hm : 0x30028e7000400 ||| mk = mk)
    (h : execPhyUp port lanes s = .next u) :
    u.wipe mk = s.wipe mk := by
  refine wipe_mono hm ?_
  unfold execPhyUp at h
  rw [atLink_next h]
  simp +zetaDelta (maxDischargeDepth := 6) (decide := true) only [State.phyUpEvent_wipe, wipe_ite, wipe_ite_fst,
    ite_self, implies_true]

theorem execPhyDown_wipe {s u : State} (port : Nat) (mk : Nat) (hm : 0x302a8e7000400 ||| mk = mk) (h : execPhyDown
    port s = .next u) :
    u.wipe mk = s.wipe mk := by
  refine wipe_mono hm ?_
  unfold execPhyDown at h
  rw [atLink_next h]
  simp +zetaDelta (maxDischargeDepth := 6) (decide := true) only [State.phyDownEvent_wipe, wipe_ite, wipe_ite_fst,
    ite_self, implies_true]

theorem execPartQuiesceAckRise_wipe {s u : State} (partition : Nat) (mk : Nat) (hm : 0x30878fffff800 ||| mk = mk)
    (h : execPartQuiesceAckRise partition s = .next u) :
    u.wipe mk = s.wipe mk := by
  refine wipe_mono hm ?_
  unfold execPartQuiesceAckRise at h
  rw [atUnit_next h]
  simp +zetaDelta (maxDischargeDepth := 6) (decide := true) only [State.ackRiseEvent_wipe, wipe_ite, wipe_ite_fst,
    ite_self, implies_true]

theorem execPartQuiesceAckFall_wipe {s u : State} (partition : Nat) (mk : Nat) (hm : 0x1000 ||| mk = mk) (h :
    execPartQuiesceAckFall partition s = .next u) :
    u.wipe mk = s.wipe mk := by
  refine wipe_mono hm ?_
  unfold execPartQuiesceAckFall at h
  rw [atUnit_next h]
  simp +zetaDelta (maxDischargeDepth := 6) (decide := true) only [State.ackFallEvent_wipe, wipe_ite, wipe_ite_fst,
    ite_self, implies_true]

theorem execFlitReceive_wipe {s u : State} (port : Nat) (flit : BitVec 256) (bad : Bool) (mk : Nat) (hm :
    0x302afe7771440 ||| mk = mk) (h : execFlitReceive port flit bad s = .next u) :
    u.wipe mk = s.wipe mk := by
  refine wipe_mono hm ?_
  unfold execFlitReceive at h
  rw [atLink_next h]
  simp +zetaDelta (maxDischargeDepth := 6) (decide := true) only [State.receiveFlit_wipe, wipe_ite, wipe_ite_fst,
    ite_self, implies_true]

theorem execCtrl_wipe {s u : State} (port : Nat) (flit : BitVec 256) (bad : Bool) (mk : Nat) (hm : 0x302afe7771440
    ||| mk = mk) (h : execCtrl port flit bad s = .next u) :
    u.wipe mk = s.wipe mk := by
  refine wipe_mono hm ?_
  unfold execCtrl at h
  rw [atLink_next h]
  simp +zetaDelta (maxDischargeDepth := 6) (decide := true) only [State.receiveFlit_wipe, wipe_ite, wipe_ite_fst,
    ite_self, implies_true]

theorem execNeg_wipe {s u : State} (port : Nat) (flit : BitVec 256) (bad : Bool) (mk : Nat) (hm : 0x302afe7771440
    ||| mk = mk) (h : execNeg port flit bad s = .next u) :
    u.wipe mk = s.wipe mk := by
  refine wipe_mono hm ?_
  unfold execNeg at h
  rw [atLink_next h]
  simp +zetaDelta (maxDischargeDepth := 6) (decide := true) only [State.receiveFlit_wipe, wipe_ite, wipe_ite_fst,
    ite_self, implies_true]

theorem execTimeReq_wipe {s u : State} (port : Nat) (flit : BitVec 256) (bad : Bool) (mk : Nat) (hm :
    0x302afe7771440 ||| mk = mk) (h : execTimeReq port flit bad s = .next u) :
    u.wipe mk = s.wipe mk := by
  refine wipe_mono hm ?_
  unfold execTimeReq at h
  rw [atLink_next h]
  simp +zetaDelta (maxDischargeDepth := 6) (decide := true) only [State.receiveFlit_wipe, wipe_ite, wipe_ite_fst,
    ite_self, implies_true]

theorem execTimeRsp_wipe {s u : State} (port : Nat) (flit : BitVec 256) (bad : Bool) (mk : Nat) (hm :
    0x302afe7771440 ||| mk = mk) (h : execTimeRsp port flit bad s = .next u) :
    u.wipe mk = s.wipe mk := by
  refine wipe_mono hm ?_
  unfold execTimeRsp at h
  rw [atLink_next h]
  simp +zetaDelta (maxDischargeDepth := 6) (decide := true) only [State.receiveFlit_wipe, wipe_ite, wipe_ite_fst,
    ite_self, implies_true]

theorem execMessageForward_wipe {s u : State} (port : Nat) (m : Msg) (mk : Nat) (hm : 0x30020e7771000 ||| mk = mk)
    (h : execMessageForward port m s = .next u) :
    u.wipe mk = s.wipe mk := by
  refine wipe_mono hm ?_
  unfold execMessageForward at h
  rw [atLink_next h]
  simp +zetaDelta (maxDischargeDepth := 6) (decide := true) only [State.whenLive_wipe, State.arriveMsg_wipe,
    wipe_ite, wipe_ite_fst, ite_self, implies_true]

theorem execCpl_wipe {s u : State} (h : MsgHdr) (b : CplBody) (mk : Nat) (hm : 0x30aa9ffffd000 ||| mk = mk) (hn :
    execCpl h b s = .next u) :
    u.wipe mk = s.wipe mk := by
  refine wipe_mono hm ?_
  unfold execCpl at hn
  cases hn
  simp +zetaDelta (maxDischargeDepth := 6) (decide := true) only [State.messageCommand_wipe, wipe_ite,
    wipe_ite_fst, ite_self, implies_true]

theorem execFwdArrv_wipe {s u : State} (h : MsgHdr) (b : FwdBody) (mk : Nat) (hm : 0x30aa9ffffd000 ||| mk = mk)
    (hn : execFwdArrv h b s = .next u) :
    u.wipe mk = s.wipe mk := by
  refine wipe_mono hm ?_
  unfold execFwdArrv at hn
  cases hn
  simp +zetaDelta (maxDischargeDepth := 6) (decide := true) only [State.messageCommand_wipe, wipe_ite,
    wipe_ite_fst, ite_self, implies_true]

theorem execLoanReq_wipe {s u : State} (h : MsgHdr) (b : LoanBody) (mk : Nat) (hm : 0x30aa9ffffd000 ||| mk = mk)
    (hn : execLoanReq h b s = .next u) :
    u.wipe mk = s.wipe mk := by
  refine wipe_mono hm ?_
  unfold execLoanReq at hn
  cases hn
  simp +zetaDelta (maxDischargeDepth := 6) (decide := true) only [State.messageCommand_wipe, wipe_ite,
    wipe_ite_fst, ite_self, implies_true]

theorem execLoanGrantOpen_wipe {s u : State} (h : MsgHdr) (b : LoanBody) (mk : Nat) (hm : 0x30aa9ffffd000 ||| mk =
    mk) (hn : execLoanGrantOpen h b s = .next u) :
    u.wipe mk = s.wipe mk := by
  refine wipe_mono hm ?_
  unfold execLoanGrantOpen at hn
  cases hn
  simp +zetaDelta (maxDischargeDepth := 6) (decide := true) only [State.messageCommand_wipe, wipe_ite,
    wipe_ite_fst, ite_self, implies_true]

theorem execLoanGrant_wipe {s u : State} (h : MsgHdr) (b : LoanBody) (mk : Nat) (hm : 0x30aa9ffffd000 ||| mk = mk)
    (hn : execLoanGrant h b s = .next u) :
    u.wipe mk = s.wipe mk := by
  refine wipe_mono hm ?_
  unfold execLoanGrant at hn
  cases hn
  simp +zetaDelta (maxDischargeDepth := 6) (decide := true) only [State.messageCommand_wipe, wipe_ite,
    wipe_ite_fst, ite_self, implies_true]

theorem execLoanRecall_wipe {s u : State} (h : MsgHdr) (b : LoanBody) (mk : Nat) (hm : 0x30aa9ffffd000 ||| mk =
    mk) (hn : execLoanRecall h b s = .next u) :
    u.wipe mk = s.wipe mk := by
  refine wipe_mono hm ?_
  unfold execLoanRecall at hn
  cases hn
  simp +zetaDelta (maxDischargeDepth := 6) (decide := true) only [State.messageCommand_wipe, wipe_ite,
    wipe_ite_fst, ite_self, implies_true]

theorem execLoanReturn_wipe {s u : State} (h : MsgHdr) (b : LoanBody) (mk : Nat) (hm : 0x30aa9ffffd000 ||| mk =
    mk) (hn : execLoanReturn h b s = .next u) :
    u.wipe mk = s.wipe mk := by
  refine wipe_mono hm ?_
  unfold execLoanReturn at hn
  cases hn
  simp +zetaDelta (maxDischargeDepth := 6) (decide := true) only [State.messageCommand_wipe, wipe_ite,
    wipe_ite_fst, ite_self, implies_true]

theorem execHolderReset_wipe {s u : State} (h : MsgHdr) (b : HolderResetBody) (mk : Nat) (hm : 0x30aa9ffffd000 |||
    mk = mk) (hn : execHolderReset h b s = .next u) :
    u.wipe mk = s.wipe mk := by
  refine wipe_mono hm ?_
  unfold execHolderReset at hn
  cases hn
  simp +zetaDelta (maxDischargeDepth := 6) (decide := true) only [State.messageCommand_wipe, wipe_ite,
    wipe_ite_fst, ite_self, implies_true]

theorem execWaiterPurge_wipe {s u : State} (h : MsgHdr) (b : WaiterPurgeBody) (mk : Nat) (hm : 0x30aa9ffffd000 |||
    mk = mk) (hn : execWaiterPurge h b s = .next u) :
    u.wipe mk = s.wipe mk := by
  refine wipe_mono hm ?_
  unfold execWaiterPurge at hn
  cases hn
  simp +zetaDelta (maxDischargeDepth := 6) (decide := true) only [State.messageCommand_wipe, wipe_ite,
    wipe_ite_fst, ite_self, implies_true]

theorem execRouteFence_wipe {s u : State} (h : MsgHdr) (b : FenceBody) (mk : Nat) (hm : 0x30aa9ffffd000 ||| mk =
    mk) (hn : execRouteFence h b s = .next u) :
    u.wipe mk = s.wipe mk := by
  refine wipe_mono hm ?_
  unfold execRouteFence at hn
  cases hn
  simp +zetaDelta (maxDischargeDepth := 6) (decide := true) only [State.messageCommand_wipe, wipe_ite,
    wipe_ite_fst, ite_self, implies_true]

theorem execFenceAck_wipe {s u : State} (h : MsgHdr) (b : FenceBody) (mk : Nat) (hm : 0x30aa9ffffd000 ||| mk = mk)
    (hn : execFenceAck h b s = .next u) :
    u.wipe mk = s.wipe mk := by
  refine wipe_mono hm ?_
  unfold execFenceAck at hn
  cases hn
  simp +zetaDelta (maxDischargeDepth := 6) (decide := true) only [State.messageCommand_wipe, wipe_ite,
    wipe_ite_fst, ite_self, implies_true]

theorem execHoldReq_wipe {s u : State} (h : MsgHdr) (b : HoldBody) (mk : Nat) (hm : 0x30aa9ffffd000 ||| mk = mk)
    (hn : execHoldReq h b s = .next u) :
    u.wipe mk = s.wipe mk := by
  refine wipe_mono hm ?_
  unfold execHoldReq at hn
  cases hn
  simp +zetaDelta (maxDischargeDepth := 6) (decide := true) only [State.messageCommand_wipe, wipe_ite,
    wipe_ite_fst, ite_self, implies_true]

theorem execHoldAck_wipe {s u : State} (h : MsgHdr) (b : HoldBody) (mk : Nat) (hm : 0x30aa9ffffd000 ||| mk = mk)
    (hn : execHoldAck h b s = .next u) :
    u.wipe mk = s.wipe mk := by
  refine wipe_mono hm ?_
  unfold execHoldAck at hn
  cases hn
  simp +zetaDelta (maxDischargeDepth := 6) (decide := true) only [State.messageCommand_wipe, wipe_ite,
    wipe_ite_fst, ite_self, implies_true]

theorem execResumeReq_wipe {s u : State} (h : MsgHdr) (b : HoldBody) (mk : Nat) (hm : 0x30aa9ffffd000 ||| mk = mk)
    (hn : execResumeReq h b s = .next u) :
    u.wipe mk = s.wipe mk := by
  refine wipe_mono hm ?_
  unfold execResumeReq at hn
  cases hn
  simp +zetaDelta (maxDischargeDepth := 6) (decide := true) only [State.messageCommand_wipe, wipe_ite,
    wipe_ite_fst, ite_self, implies_true]

theorem execResumeAck_wipe {s u : State} (h : MsgHdr) (b : HoldBody) (mk : Nat) (hm : 0x30aa9ffffd000 ||| mk = mk)
    (hn : execResumeAck h b s = .next u) :
    u.wipe mk = s.wipe mk := by
  refine wipe_mono hm ?_
  unfold execResumeAck at hn
  cases hn
  simp +zetaDelta (maxDischargeDepth := 6) (decide := true) only [State.messageCommand_wipe, wipe_ite,
    wipe_ite_fst, ite_self, implies_true]

theorem execQuery_wipe {s u : State} (h : MsgHdr) (b : StockBody) (mk : Nat) (hm : 0x30aa9ffffd000 ||| mk = mk)
    (hn : execQuery h b s = .next u) :
    u.wipe mk = s.wipe mk := by
  refine wipe_mono hm ?_
  unfold execQuery at hn
  cases hn
  simp +zetaDelta (maxDischargeDepth := 6) (decide := true) only [State.messageCommand_wipe, wipe_ite,
    wipe_ite_fst, ite_self, implies_true]

theorem execReport_wipe {s u : State} (h : MsgHdr) (b : StockBody) (mk : Nat) (hm : 0x30aa9ffffd000 ||| mk = mk)
    (hn : execReport h b s = .next u) :
    u.wipe mk = s.wipe mk := by
  refine wipe_mono hm ?_
  unfold execReport at hn
  cases hn
  simp +zetaDelta (maxDischargeDepth := 6) (decide := true) only [State.messageCommand_wipe, wipe_ite,
    wipe_ite_fst, ite_self, implies_true]

theorem execDeclare_wipe {s u : State} (h : MsgHdr) (b : StockBody) (mk : Nat) (hm : 0x30aa9ffffd000 ||| mk = mk)
    (hn : execDeclare h b s = .next u) :
    u.wipe mk = s.wipe mk := by
  refine wipe_mono hm ?_
  unfold execDeclare at hn
  cases hn
  simp +zetaDelta (maxDischargeDepth := 6) (decide := true) only [State.messageCommand_wipe, wipe_ite,
    wipe_ite_fst, ite_self, implies_true]

theorem execShelfArm_wipe {s u : State} (h : MsgHdr) (b : ShelfBody) (mk : Nat) (hm : 0x30aa9ffffd000 ||| mk = mk)
    (hn : execShelfArm h b s = .next u) :
    u.wipe mk = s.wipe mk := by
  refine wipe_mono hm ?_
  unfold execShelfArm at hn
  cases hn
  simp +zetaDelta (maxDischargeDepth := 6) (decide := true) only [State.messageCommand_wipe, wipe_ite,
    wipe_ite_fst, ite_self, implies_true]

theorem execShelfDone_wipe {s u : State} (h : MsgHdr) (b : ShelfBody) (mk : Nat) (hm : 0x30aa9ffffd000 ||| mk =
    mk) (hn : execShelfDone h b s = .next u) :
    u.wipe mk = s.wipe mk := by
  refine wipe_mono hm ?_
  unfold execShelfDone at hn
  cases hn
  simp +zetaDelta (maxDischargeDepth := 6) (decide := true) only [State.messageCommand_wipe, wipe_ite,
    wipe_ite_fst, ite_self, implies_true]

theorem execShelfCancel_wipe {s u : State} (h : MsgHdr) (b : ShelfBody) (mk : Nat) (hm : 0x30aa9ffffd000 ||| mk =
    mk) (hn : execShelfCancel h b s = .next u) :
    u.wipe mk = s.wipe mk := by
  refine wipe_mono hm ?_
  unfold execShelfCancel at hn
  cases hn
  simp +zetaDelta (maxDischargeDepth := 6) (decide := true) only [State.messageCommand_wipe, wipe_ite,
    wipe_ite_fst, ite_self, implies_true]

theorem execResetReq_wipe {s u : State} (h : MsgHdr) (b : PartCtlBody) (mk : Nat) (hm : 0x30aa9ffffd000 ||| mk =
    mk) (hn : execResetReq h b s = .next u) :
    u.wipe mk = s.wipe mk := by
  refine wipe_mono hm ?_
  unfold execResetReq at hn
  cases hn
  simp +zetaDelta (maxDischargeDepth := 6) (decide := true) only [State.messageCommand_wipe, wipe_ite,
    wipe_ite_fst, ite_self, implies_true]

theorem execResetDone_wipe {s u : State} (h : MsgHdr) (b : PartCtlBody) (mk : Nat) (hm : 0x30aa9ffffd000 ||| mk =
    mk) (hn : execResetDone h b s = .next u) :
    u.wipe mk = s.wipe mk := by
  refine wipe_mono hm ?_
  unfold execResetDone at hn
  cases hn
  simp +zetaDelta (maxDischargeDepth := 6) (decide := true) only [State.messageCommand_wipe, wipe_ite,
    wipe_ite_fst, ite_self, implies_true]

theorem execCtxReq_wipe {s u : State} (h : MsgHdr) (b : PartCtlBody) (mk : Nat) (hm : 0x30aa9ffffd000 ||| mk = mk)
    (hn : execCtxReq h b s = .next u) :
    u.wipe mk = s.wipe mk := by
  refine wipe_mono hm ?_
  unfold execCtxReq at hn
  cases hn
  simp +zetaDelta (maxDischargeDepth := 6) (decide := true) only [State.messageCommand_wipe, wipe_ite,
    wipe_ite_fst, ite_self, implies_true]

theorem execCtxDone_wipe {s u : State} (h : MsgHdr) (b : PartCtlBody) (mk : Nat) (hm : 0x30aa9ffffd000 ||| mk =
    mk) (hn : execCtxDone h b s = .next u) :
    u.wipe mk = s.wipe mk := by
  refine wipe_mono hm ?_
  unfold execCtxDone at hn
  cases hn
  simp +zetaDelta (maxDischargeDepth := 6) (decide := true) only [State.messageCommand_wipe, wipe_ite,
    wipe_ite_fst, ite_self, implies_true]

theorem execFaultNotice_wipe {s u : State} (h : MsgHdr) (b : PartCtlBody) (mk : Nat) (hm : 0x30aa9ffffd000 ||| mk
    = mk) (hn : execFaultNotice h b s = .next u) :
    u.wipe mk = s.wipe mk := by
  refine wipe_mono hm ?_
  unfold execFaultNotice at hn
  cases hn
  simp +zetaDelta (maxDischargeDepth := 6) (decide := true) only [State.messageCommand_wipe, wipe_ite,
    wipe_ite_fst, ite_self, implies_true]

theorem execTemplateWrite_wipe {s u : State} (src : TemplateSource) (word : BitVec 2) (handle : Handle) (data :
    BitVec 64) (mk : Nat) (hm : 0x30aa9ffffd000 ||| mk = mk) (h : execTemplateWrite src word handle data s = .next
    u) :
    u.wipe mk = s.wipe mk := by
  exact State.templateCommand_wipe _ _ _ _ mk hm h

theorem execConsumerIndexWrite_wipe {s u : State} (via : IndexWriteVia) (ring : RingName) (value : BitVec 32) (mk
    : Nat) (hm : 0x31bfdfffffc40 ||| mk = mk) (h : execConsumerIndexWrite via ring value s = .next u) :
    u.wipe mk = s.wipe mk := by
  refine wipe_mono hm ?_
  unfold execConsumerIndexWrite at h
  cases h
  simp +zetaDelta (maxDischargeDepth := 6) (decide := true) only [State.indexCommand_wipe, wipe_ite, wipe_ite_fst,
    ite_self, implies_true]

theorem execTicketRingWriteDone_wipe {s u : State}  (mk : Nat) (hm : 0x2000007000000 ||| mk = mk) (h :
    execTicketRingWriteDone s = .next u) :
    u.wipe mk = s.wipe mk := by
  refine wipe_mono hm ?_
  unfold execTicketRingWriteDone at h
  cases h
  simp +zetaDelta (maxDischargeDepth := 6) (decide := true) only [State.whenLive_wipe, State.onWrite_wipe,
    State.ticketWritten_wipe, wipe_ite, wipe_ite_fst, ite_self, implies_true]

theorem execNotifyWriteDone_wipe {s u : State}  (mk : Nat) (hm : 0x1000007000000 ||| mk = mk) (h :
    execNotifyWriteDone s = .next u) :
    u.wipe mk = s.wipe mk := by
  refine wipe_mono hm ?_
  unfold execNotifyWriteDone at h
  cases h
  simp +zetaDelta (maxDischargeDepth := 6) (decide := true) only [State.whenLive_wipe, State.onWrite_wipe,
    State.notifyWritten_wipe, wipe_ite, wipe_ite_fst, ite_self, implies_true]

theorem execManagerWriteError_wipe {s u : State} (kind : BitVec 2) (resp : BitVec 2) (mk : Nat) (hm :
    0x30020e7f71000 ||| mk = mk) (h : execManagerWriteError kind resp s = .next u) :
    u.wipe mk = s.wipe mk := by
  refine wipe_mono hm ?_
  unfold execManagerWriteError at h
  cases h
  simp +zetaDelta (maxDischargeDepth := 6) (decide := true) only [State.whenLive_wipe, State.onWrite_wipe,
    State.writeError_wipe, wipe_ite, wipe_ite_fst, ite_self, implies_true]

theorem execFolioDumpDone_wipe {s u : State}  (mk : Nat) (hm : 0x2002007000000 ||| mk = mk) (h : execFolioDumpDone
    s = .next u) :
    u.wipe mk = s.wipe mk := by
  refine wipe_mono hm ?_
  unfold execFolioDumpDone at h
  cases h
  simp +zetaDelta (maxDischargeDepth := 6) (decide := true) only [State.whenLive_wipe, State.folioDumped_wipe,
    wipe_ite, wipe_ite_fst, ite_self, implies_true]

theorem execInventoryDone_wipe {s u : State} (partition : Nat) (mk : Nat) (hm : 0x2000007001000 ||| mk = mk) (h :
    execInventoryDone partition s = .next u) :
    u.wipe mk = s.wipe mk := by
  refine wipe_mono hm ?_
  unfold execInventoryDone at h
  rw [atUnit_next h]
  simp +zetaDelta (maxDischargeDepth := 6) (decide := true) only [State.whenLive_wipe, State.inventoryDone_wipe,
    wipe_ite, wipe_ite_fst, ite_self, implies_true]

theorem execPartReset_wipe {s u : State} (h : CatHdr) (v : BitVec 8) (mk : Nat) (hm : 0x31bfdfffffc40 ||| mk = mk)
    (hn : execPartReset h v s = .next u) :
    u.wipe mk = s.wipe mk := by
  refine wipe_mono hm ?_
  unfold execPartReset at hn
  cases hn
  simp +zetaDelta (maxDischargeDepth := 6) (decide := true) only [State.entryCommand_wipe, wipe_ite, wipe_ite_fst,
    ite_self, implies_true]

theorem execPartContext_wipe {s u : State} (h : CatHdr) (v : BitVec 64) (mk : Nat) (hm : 0x31bfdfffffc40 ||| mk =
    mk) (hn : execPartContext h v s = .next u) :
    u.wipe mk = s.wipe mk := by
  refine wipe_mono hm ?_
  unfold execPartContext at hn
  cases hn
  simp +zetaDelta (maxDischargeDepth := 6) (decide := true) only [State.entryCommand_wipe, wipe_ite, wipe_ite_fst,
    ite_self, implies_true]

theorem execPartQuiesceOverride_wipe {s u : State} (h : CatHdr) (v : BitVec 8) (mk : Nat) (hm : 0x31bfdfffffc40
    ||| mk = mk) (hn : execPartQuiesceOverride h v s = .next u) :
    u.wipe mk = s.wipe mk := by
  refine wipe_mono hm ?_
  unfold execPartQuiesceOverride at hn
  cases hn
  simp +zetaDelta (maxDischargeDepth := 6) (decide := true) only [State.entryCommand_wipe, wipe_ite, wipe_ite_fst,
    ite_self, implies_true]

theorem execResliceTarget_wipe {s u : State} (h : CatHdr) (v : BitVec 8) (mk : Nat) (hm : 0x31bfdfffffc40 ||| mk =
    mk) (hn : execResliceTarget h v s = .next u) :
    u.wipe mk = s.wipe mk := by
  refine wipe_mono hm ?_
  unfold execResliceTarget at hn
  cases hn
  simp +zetaDelta (maxDischargeDepth := 6) (decide := true) only [State.entryCommand_wipe, wipe_ite, wipe_ite_fst,
    ite_self, implies_true]

theorem execResliceDrained_wipe {s u : State}  (mk : Nat) (hm : 0x3000 ||| mk = mk) (h : execResliceDrained s =
    .next u) :
    u.wipe mk = s.wipe mk := by
  refine wipe_mono hm ?_
  unfold execResliceDrained at h
  cases h
  simp +zetaDelta (maxDischargeDepth := 6) (decide := true) only [State.whenLive_wipe, State.resliceDrained_wipe,
    wipe_ite, wipe_ite_fst, ite_self, implies_true]

theorem execResliceAbort_wipe {s u : State} (h : CatHdr) (v : BitVec 8) (mk : Nat) (hm : 0x31bfdfffffc40 ||| mk =
    mk) (hn : execResliceAbort h v s = .next u) :
    u.wipe mk = s.wipe mk := by
  refine wipe_mono hm ?_
  unfold execResliceAbort at hn
  cases hn
  simp +zetaDelta (maxDischargeDepth := 6) (decide := true) only [State.entryCommand_wipe, wipe_ite, wipe_ite_fst,
    ite_self, implies_true]

theorem execPortPartition_wipe {s u : State} (h : CatHdr) (port : Nat) (v : BitVec 8) (mk : Nat) (hm :
    0x31bfdfffffc40 ||| mk = mk) (hn : execPortPartition h port v s = .next u) :
    u.wipe mk = s.wipe mk := by
  refine wipe_mono hm ?_
  unfold execPortPartition at hn
  cases hn
  simp +zetaDelta (maxDischargeDepth := 6) (decide := true) only [State.entryCommand_wipe, wipe_ite, wipe_ite_fst,
    ite_self, implies_true]

theorem execWaiterCancelObject_wipe {s u : State} (h : CatHdr) (v : BitVec 32) (mk : Nat) (hm : 0x31bfdfffffc40
    ||| mk = mk) (hn : execWaiterCancelObject h v s = .next u) :
    u.wipe mk = s.wipe mk := by
  refine wipe_mono hm ?_
  unfold execWaiterCancelObject at hn
  cases hn
  simp +zetaDelta (maxDischargeDepth := 6) (decide := true) only [State.entryCommand_wipe, wipe_ite, wipe_ite_fst,
    ite_self, implies_true]

theorem execWaiterCancelOriginator_wipe {s u : State} (h : CatHdr) (v : BitVec 32) (mk : Nat) (hm :
    0x31bfdfffffc40 ||| mk = mk) (hn : execWaiterCancelOriginator h v s = .next u) :
    u.wipe mk = s.wipe mk := by
  refine wipe_mono hm ?_
  unfold execWaiterCancelOriginator at hn
  cases hn
  simp +zetaDelta (maxDischargeDepth := 6) (decide := true) only [State.entryCommand_wipe, wipe_ite, wipe_ite_fst,
    ite_self, implies_true]

theorem execLoanRecallToken_wipe {s u : State} (h : CatHdr) (v : BitVec 32) (mk : Nat) (hm : 0x31bfdfffffc40 |||
    mk = mk) (hn : execLoanRecallToken h v s = .next u) :
    u.wipe mk = s.wipe mk := by
  refine wipe_mono hm ?_
  unfold execLoanRecallToken at hn
  cases hn
  simp +zetaDelta (maxDischargeDepth := 6) (decide := true) only [State.entryCommand_wipe, wipe_ite, wipe_ite_fst,
    ite_self, implies_true]

theorem execLockClearAbandoned_wipe {s u : State} (h : CatHdr) (v : BitVec 32) (mk : Nat) (hm : 0x31bfdfffffc40
    ||| mk = mk) (hn : execLockClearAbandoned h v s = .next u) :
    u.wipe mk = s.wipe mk := by
  refine wipe_mono hm ?_
  unfold execLockClearAbandoned at hn
  cases hn
  simp +zetaDelta (maxDischargeDepth := 6) (decide := true) only [State.entryCommand_wipe, wipe_ite, wipe_ite_fst,
    ite_self, implies_true]

theorem execLockGroupMode_wipe {s u : State} (h : CatHdr) (group : Nat) (v : BitVec 8) (mk : Nat) (hm :
    0x31bfdfffffc40 ||| mk = mk) (hn : execLockGroupMode h group v s = .next u) :
    u.wipe mk = s.wipe mk := by
  refine wipe_mono hm ?_
  unfold execLockGroupMode at hn
  cases hn
  simp +zetaDelta (maxDischargeDepth := 6) (decide := true) only [State.entryCommand_wipe, wipe_ite, wipe_ite_fst,
    ite_self, implies_true]

theorem execLinkRenegotiate_wipe {s u : State} (h : CatHdr) (port : Nat) (sub : BitVec 8) (v : BitVec 8) (mk :
    Nat) (hm : 0x31bfdfffffc40 ||| mk = mk) (hn : execLinkRenegotiate h port sub v s = .next u) :
    u.wipe mk = s.wipe mk := by
  refine wipe_mono hm ?_
  unfold execLinkRenegotiate at hn
  cases hn
  simp +zetaDelta (maxDischargeDepth := 6) (decide := true) only [State.entryCommand_wipe, wipe_ite, wipe_ite_fst,
    ite_self, implies_true]

theorem execRouteEntry_wipe {s u : State} (h : CatHdr) (v : BitVec 32) (mk : Nat) (hm : 0x31bfdfffffc40 ||| mk =
    mk) (hn : execRouteEntry h v s = .next u) :
    u.wipe mk = s.wipe mk := by
  refine wipe_mono hm ?_
  unfold execRouteEntry at hn
  cases hn
  simp +zetaDelta (maxDischargeDepth := 6) (decide := true) only [State.entryCommand_wipe, wipe_ite, wipe_ite_fst,
    ite_self, implies_true]

theorem execTimeSet_wipe {s u : State} (h : CatHdr) (v : Time) (mk : Nat) (hm : 0x31bfdfffffc40 ||| mk = mk) (hn :
    execTimeSet h v s = .next u) :
    u.wipe mk = s.wipe mk := by
  refine wipe_mono hm ?_
  unfold execTimeSet at hn
  cases hn
  simp +zetaDelta (maxDischargeDepth := 6) (decide := true) only [State.entryCommand_wipe, wipe_ite, wipe_ite_fst,
    ite_self, implies_true]

theorem execTicketRingConfigWrite_wipe {s u : State} (h : CatHdr) (ring : Nat) (size : Bool) (v : BitVec 64) (mk :
    Nat) (hm : 0x31bfdfffffc40 ||| mk = mk) (hn : execTicketRingConfigWrite h ring size v s = .next u) :
    u.wipe mk = s.wipe mk := by
  refine wipe_mono hm ?_
  unfold execTicketRingConfigWrite at hn
  cases hn
  simp +zetaDelta (maxDischargeDepth := 6) (decide := true) only [State.entryCommand_wipe, wipe_ite, wipe_ite_fst,
    ite_self, implies_true]

theorem execNotifyRingConfigWrite_wipe {s u : State} (h : CatHdr) (hub : Bool) (size : Bool) (v : BitVec 64) (mk :
    Nat) (hm : 0x31bfdfffffc40 ||| mk = mk) (hn : execNotifyRingConfigWrite h hub size v s = .next u) :
    u.wipe mk = s.wipe mk := by
  refine wipe_mono hm ?_
  unfold execNotifyRingConfigWrite at hn
  cases hn
  simp +zetaDelta (maxDischargeDepth := 6) (decide := true) only [State.entryCommand_wipe, wipe_ite, wipe_ite_fst,
    ite_self, implies_true]

theorem execShelfArmEntry_wipe {s u : State} (h : CatHdr) (v : BitVec 8) (mk : Nat) (hm : 0x31bfdfffffc40 ||| mk =
    mk) (hn : execShelfArmEntry h v s = .next u) :
    u.wipe mk = s.wipe mk := by
  refine wipe_mono hm ?_
  unfold execShelfArmEntry at hn
  cases hn
  simp +zetaDelta (maxDischargeDepth := 6) (decide := true) only [State.entryCommand_wipe, wipe_ite, wipe_ite_fst,
    ite_self, implies_true]

theorem execShelfCancelEntry_wipe {s u : State} (h : CatHdr) (v : BitVec 8) (mk : Nat) (hm : 0x31bfdfffffc40 |||
    mk = mk) (hn : execShelfCancelEntry h v s = .next u) :
    u.wipe mk = s.wipe mk := by
  refine wipe_mono hm ?_
  unfold execShelfCancelEntry at hn
  cases hn
  simp +zetaDelta (maxDischargeDepth := 6) (decide := true) only [State.entryCommand_wipe, wipe_ite, wipe_ite_fst,
    ite_self, implies_true]

theorem execFolioArm_wipe {s u : State} (h : CatHdr) (mk : Nat) (hm : 0x31bfdfffffc40 ||| mk = mk) (hn :
    execFolioArm h s = .next u) :
    u.wipe mk = s.wipe mk := by
  refine wipe_mono hm ?_
  unfold execFolioArm at hn
  cases hn
  simp +zetaDelta (maxDischargeDepth := 6) (decide := true) only [State.entryCommand_wipe, wipe_ite, wipe_ite_fst,
    ite_self, implies_true]

theorem execFolioTrigger_wipe {s u : State} (h : CatHdr) (mk : Nat) (hm : 0x31bfdfffffc40 ||| mk = mk) (hn :
    execFolioTrigger h s = .next u) :
    u.wipe mk = s.wipe mk := by
  refine wipe_mono hm ?_
  unfold execFolioTrigger at hn
  cases hn
  simp +zetaDelta (maxDischargeDepth := 6) (decide := true) only [State.entryCommand_wipe, wipe_ite, wipe_ite_fst,
    ite_self, implies_true]

theorem execFolioStop_wipe {s u : State} (h : CatHdr) (mk : Nat) (hm : 0x31bfdfffffc40 ||| mk = mk) (hn :
    execFolioStop h s = .next u) :
    u.wipe mk = s.wipe mk := by
  refine wipe_mono hm ?_
  unfold execFolioStop at hn
  cases hn
  simp +zetaDelta (maxDischargeDepth := 6) (decide := true) only [State.entryCommand_wipe, wipe_ite, wipe_ite_fst,
    ite_self, implies_true]

theorem execFolioClear_wipe {s u : State} (h : CatHdr) (mk : Nat) (hm : 0x31bfdfffffc40 ||| mk = mk) (hn :
    execFolioClear h s = .next u) :
    u.wipe mk = s.wipe mk := by
  refine wipe_mono hm ?_
  unfold execFolioClear at hn
  cases hn
  simp +zetaDelta (maxDischargeDepth := 6) (decide := true) only [State.entryCommand_wipe, wipe_ite, wipe_ite_fst,
    ite_self, implies_true]

theorem execFolioMarker_wipe {s u : State} (h : CatHdr) (v : BitVec 64) (mk : Nat) (hm : 0x31bfdfffffc40 ||| mk =
    mk) (hn : execFolioMarker h v s = .next u) :
    u.wipe mk = s.wipe mk := by
  refine wipe_mono hm ?_
  unfold execFolioMarker at hn
  cases hn
  simp +zetaDelta (maxDischargeDepth := 6) (decide := true) only [State.entryCommand_wipe, wipe_ite, wipe_ite_fst,
    ite_self, implies_true]

theorem execInventoryTake_wipe {s u : State} (h : CatHdr) (v : BitVec 8) (mk : Nat) (hm : 0x31bfdfffffc40 ||| mk =
    mk) (hn : execInventoryTake h v s = .next u) :
    u.wipe mk = s.wipe mk := by
  refine wipe_mono hm ?_
  unfold execInventoryTake at hn
  cases hn
  simp +zetaDelta (maxDischargeDepth := 6) (decide := true) only [State.entryCommand_wipe, wipe_ite, wipe_ite_fst,
    ite_self, implies_true]

theorem execPartHold_wipe {s u : State} (h : CatHdr) (v : BitVec 8) (mk : Nat) (hm : 0x31bfdfffffc40 ||| mk = mk)
    (hn : execPartHold h v s = .next u) :
    u.wipe mk = s.wipe mk := by
  refine wipe_mono hm ?_
  unfold execPartHold at hn
  cases hn
  simp +zetaDelta (maxDischargeDepth := 6) (decide := true) only [State.entryCommand_wipe, wipe_ite, wipe_ite_fst,
    ite_self, implies_true]

theorem execPartResume_wipe {s u : State} (h : CatHdr) (v : BitVec 8) (mk : Nat) (hm : 0x31bfdfffffc40 ||| mk =
    mk) (hn : execPartResume h v s = .next u) :
    u.wipe mk = s.wipe mk := by
  refine wipe_mono hm ?_
  unfold execPartResume at hn
  cases hn
  simp +zetaDelta (maxDischargeDepth := 6) (decide := true) only [State.entryCommand_wipe, wipe_ite, wipe_ite_fst,
    ite_self, implies_true]

theorem execDepositAck_wipe {s u : State} (h : CatHdr) (v : BitVec 8) (mk : Nat) (hm : 0x31bfdfffffc40 ||| mk =
    mk) (hn : execDepositAck h v s = .next u) :
    u.wipe mk = s.wipe mk := by
  refine wipe_mono hm ?_
  unfold execDepositAck at hn
  cases hn
  simp +zetaDelta (maxDischargeDepth := 6) (decide := true) only [State.entryCommand_wipe, wipe_ite, wipe_ite_fst,
    ite_self, implies_true]

theorem execDepositFlags_wipe {s u : State} (h : CatHdr) (v : BitVec 8) (mk : Nat) (hm : 0x31bfdfffffc40 ||| mk =
    mk) (hn : execDepositFlags h v s = .next u) :
    u.wipe mk = s.wipe mk := by
  refine wipe_mono hm ?_
  unfold execDepositFlags at hn
  cases hn
  simp +zetaDelta (maxDischargeDepth := 6) (decide := true) only [State.entryCommand_wipe, wipe_ite, wipe_ite_fst,
    ite_self, implies_true]

theorem execStocktakeEnable_wipe {s u : State} (h : CatHdr) (v : BitVec 8) (mk : Nat) (hm : 0x31bfdfffffc40 ||| mk
    = mk) (hn : execStocktakeEnable h v s = .next u) :
    u.wipe mk = s.wipe mk := by
  refine wipe_mono hm ?_
  unfold execStocktakeEnable at hn
  cases hn
  simp +zetaDelta (maxDischargeDepth := 6) (decide := true) only [State.entryCommand_wipe, wipe_ite, wipe_ite_fst,
    ite_self, implies_true]

theorem execFaultInjectBits_wipe {s u : State} (h : CatHdr) (v : BitVec 8) (mk : Nat) (hm : 0x31bfdfffffc40 ||| mk
    = mk) (hn : execFaultInjectBits h v s = .next u) :
    u.wipe mk = s.wipe mk := by
  refine wipe_mono hm ?_
  unfold execFaultInjectBits at hn
  cases hn
  simp +zetaDelta (maxDischargeDepth := 6) (decide := true) only [State.entryCommand_wipe, wipe_ite, wipe_ite_fst,
    ite_self, implies_true]

theorem execFaultInjectStage_wipe {s u : State} (h : CatHdr) (mk : Nat) (hm : 0x31bfdfffffc40 ||| mk = mk) (hn :
    execFaultInjectStage h s = .next u) :
    u.wipe mk = s.wipe mk := by
  refine wipe_mono hm ?_
  unfold execFaultInjectStage at hn
  cases hn
  simp +zetaDelta (maxDischargeDepth := 6) (decide := true) only [State.entryCommand_wipe, wipe_ite, wipe_ite_fst,
    ite_self, implies_true]

theorem execPartJobFaultInject_wipe {s u : State} (h : CatHdr) (v : BitVec 8) (mk : Nat) (hm : 0x31bfdfffffc40 |||
    mk = mk) (hn : execPartJobFaultInject h v s = .next u) :
    u.wipe mk = s.wipe mk := by
  refine wipe_mono hm ?_
  unfold execPartJobFaultInject at hn
  cases hn
  simp +zetaDelta (maxDischargeDepth := 6) (decide := true) only [State.entryCommand_wipe, wipe_ite, wipe_ite_fst,
    ite_self, implies_true]

theorem execViewSelect_wipe {s u : State} (h : CatHdr) (window : Nat) (v : BitVec 32) (mk : Nat) (hm :
    0x31bfdfffffc40 ||| mk = mk) (hn : execViewSelect h window v s = .next u) :
    u.wipe mk = s.wipe mk := by
  refine wipe_mono hm ?_
  unfold execViewSelect at hn
  cases hn
  simp +zetaDelta (maxDischargeDepth := 6) (decide := true) only [State.entryCommand_wipe, wipe_ite, wipe_ite_fst,
    ite_self, implies_true]

theorem execEvBindingWrite_wipe {s u : State} (h : CatHdr) (input : Nat) (sub : BitVec 8) (v : BitVec 32) (mk :
    Nat) (hm : 0x31bfdfffffc40 ||| mk = mk) (hn : execEvBindingWrite h input sub v s = .next u) :
    u.wipe mk = s.wipe mk := by
  refine wipe_mono hm ?_
  unfold execEvBindingWrite at hn
  cases hn
  simp +zetaDelta (maxDischargeDepth := 6) (decide := true) only [State.entryCommand_wipe, wipe_ite, wipe_ite_fst,
    ite_self, implies_true]

theorem execIdentify_wipe {s u : State} (h : CatHdr) (mk : Nat) (hm : 0x3030004000000 ||| mk = mk) (hn :
    execIdentify h s = .next u) :
    u.wipe mk = s.wipe mk := by
  refine wipe_mono hm ?_
  unfold execIdentify at hn
  cases hn
  simp +zetaDelta (maxDischargeDepth := 6) (decide := true) only [State.identifyCommand_wipe, wipe_ite,
    wipe_ite_fst, ite_self, implies_true]

theorem execDescribe_wipe {s u : State} (h : CatHdr) (index : BitVec 16) (sub : BitVec 8) (mk : Nat) (hm :
    0x3030004000000 ||| mk = mk) (hn : execDescribe h index sub s = .next u) :
    u.wipe mk = s.wipe mk := by
  refine wipe_mono hm ?_
  unfold execDescribe at hn
  cases hn
  simp +zetaDelta (maxDischargeDepth := 6) (decide := true) only [State.describeCommand_wipe, wipe_ite,
    wipe_ite_fst, ite_self, implies_true]

theorem execCatRead_wipe {s u : State} (h : CatHdr) (index : BitVec 16) (sub : BitVec 8) (mk : Nat) (hm :
    0x3030004000000 ||| mk = mk) (hn : execCatRead h index sub s = .next u) :
    u.wipe mk = s.wipe mk := by
  refine wipe_mono hm ?_
  unfold execCatRead at hn
  cases hn
  simp +zetaDelta (maxDischargeDepth := 6) (decide := true) only [State.readCommand_wipe, wipe_ite, wipe_ite_fst,
    ite_self, implies_true]

theorem execCatWrite_wipe {s u : State} (h : CatHdr) (index : BitVec 16) (sub : BitVec 8) (bytes : Nat) (v :
    BitVec 128) (mk : Nat) (hm : 0x31bfdfffffc40 ||| mk = mk) (hn : execCatWrite h index sub bytes v s = .next u)
    :
    u.wipe mk = s.wipe mk := by
  refine wipe_mono hm ?_
  unfold execCatWrite at hn
  cases hn
  simp +zetaDelta (maxDischargeDepth := 6) (decide := true) only [State.writeCommand_wipe, wipe_ite, wipe_ite_fst,
    ite_self, implies_true]

theorem execReadSeg_wipe {s u : State} (h : CatHdr) (index : BitVec 16) (sub : BitVec 8) (offset : BitVec 32)
    (length : BitVec 16) (generation : BitVec 16) (mk : Nat) (hm : 0x3030004000000 ||| mk = mk) (hn : execReadSeg
    h index sub offset length generation s = .next u) :
    u.wipe mk = s.wipe mk := by
  refine wipe_mono hm ?_
  unfold execReadSeg at hn
  cases hn
  simp +zetaDelta (maxDischargeDepth := 6) (decide := true) only [State.readSegCommand_wipe, wipe_ite,
    wipe_ite_fst, ite_self, implies_true]

theorem execNextEntry_wipe {s u : State} (h : CatHdr) (index : BitVec 16) (sub : BitVec 8) (mk : Nat) (hm :
    0x3030004000000 ||| mk = mk) (hn : execNextEntry h index sub s = .next u) :
    u.wipe mk = s.wipe mk := by
  refine wipe_mono hm ?_
  unfold execNextEntry at hn
  cases hn
  simp +zetaDelta (maxDischargeDepth := 6) (decide := true) only [State.nextCommand_wipe, wipe_ite, wipe_ite_fst,
    ite_self, implies_true]

theorem execSetEndpointId_wipe {s u : State} (src : BitVec 8) (tag : BitVec 3) (eid : BitVec 8) (mk : Nat) (hm :
    0x1040000000000 ||| mk = mk) (h : execSetEndpointId src tag eid s = .next u) :
    u.wipe mk = s.wipe mk := by
  refine wipe_mono hm ?_
  unfold execSetEndpointId at h
  cases h
  simp +zetaDelta (maxDischargeDepth := 6) (decide := true) only [State.setEid_wipe, wipe_ite, wipe_ite_fst,
    ite_self, implies_true]

theorem execGetEndpointId_wipe {s u : State} (src : BitVec 8) (tag : BitVec 3) (mk : Nat) (hm : 0x1000000000000
    ||| mk = mk) (h : execGetEndpointId src tag s = .next u) :
    u.wipe mk = s.wipe mk := by
  refine wipe_mono hm ?_
  unfold execGetEndpointId at h
  cases h
  simp +zetaDelta (maxDischargeDepth := 6) (decide := true) only [State.getEid_wipe, wipe_ite, wipe_ite_fst,
    ite_self, implies_true]

theorem execGetMctpVersionSupport_wipe {s u : State} (src : BitVec 8) (tag : BitVec 3) (msgType : BitVec 8) (mk :
    Nat) (hm : 0x1000000000000 ||| mk = mk) (h : execGetMctpVersionSupport src tag msgType s = .next u) :
    u.wipe mk = s.wipe mk := by
  refine wipe_mono hm ?_
  unfold execGetMctpVersionSupport at h
  cases h
  simp +zetaDelta (maxDischargeDepth := 6) (decide := true) only [State.getVersion_wipe, wipe_ite, wipe_ite_fst,
    ite_self, implies_true]

theorem execGetMessageTypeSupport_wipe {s u : State} (src : BitVec 8) (tag : BitVec 3) (mk : Nat) (hm :
    0x1000000000000 ||| mk = mk) (h : execGetMessageTypeSupport src tag s = .next u) :
    u.wipe mk = s.wipe mk := by
  refine wipe_mono hm ?_
  unfold execGetMessageTypeSupport at h
  cases h
  simp +zetaDelta (maxDischargeDepth := 6) (decide := true) only [State.getTypes_wipe, wipe_ite, wipe_ite_fst,
    ite_self, implies_true]

theorem execGetVendorDefinedMessageSupport_wipe {s u : State} (src : BitVec 8) (tag : BitVec 3) (selector : BitVec
    8) (mk : Nat) (hm : 0x1000000000000 ||| mk = mk) (h : execGetVendorDefinedMessageSupport src tag selector s =
    .next u) :
    u.wipe mk = s.wipe mk := by
  refine wipe_mono hm ?_
  unfold execGetVendorDefinedMessageSupport at h
  cases h
  simp +zetaDelta (maxDischargeDepth := 6) (decide := true) only [State.getVendor_wipe, wipe_ite, wipe_ite_fst,
    ite_self, implies_true]

theorem execCoreResetRelease_wipe {s u : State} (port : Nat) (mk : Nat) (hm : 0x30aa8ffffd000 ||| mk = mk) (h :
    execCoreResetRelease port s = .next u) :
    u.wipe mk = s.wipe mk := by
  refine wipe_mono hm ?_
  unfold execCoreResetRelease at h
  rw [atPort_next h]
  simp +zetaDelta (maxDischargeDepth := 6) (decide := true) only [State.coreReleaseEvent_wipe, wipe_ite,
    wipe_ite_fst, ite_self, implies_true]

theorem execNearParityCheck_wipe {s u : State} (port : Nat) (mk : Nat) (hm : 0x30020e7771000 ||| mk = mk) (h :
    execNearParityCheck port s = .next u) :
    u.wipe mk = s.wipe mk := by
  refine wipe_mono hm ?_
  unfold execNearParityCheck at h
  rw [atPort_next h]
  simp +zetaDelta (maxDischargeDepth := 6) (decide := true) only [State.whenLive_wipe, State.nearTurn_wipe,
    wipe_ite, wipe_ite_fst, ite_self, implies_true]

theorem execW1ArrwDeadline_wipe {s u : State} (port : Nat) (entry : Nat) (mk : Nat) (hm : 0x30aa8ffffd000 ||| mk =
    mk) (h : execW1ArrwDeadline port entry s = .next u) :
    u.wipe mk = s.wipe mk := by
  refine wipe_mono hm ?_
  unfold execW1ArrwDeadline at h
  split at h <;> cases h
  simp +zetaDelta (maxDischargeDepth := 6) (decide := true) only [State.whenWalks_wipe, State.w1Expiry_wipe,
    wipe_ite, wipe_ite_fst, ite_self, implies_true]

theorem execProducerMirrorWriteDone_wipe {s u : State}  (mk : Nat) (hm : 0x2000007000000 ||| mk = mk) (h :
    execProducerMirrorWriteDone s = .next u) :
    u.wipe mk = s.wipe mk := by
  refine wipe_mono hm ?_
  unfold execProducerMirrorWriteDone at h
  cases h
  simp +zetaDelta (maxDischargeDepth := 6) (decide := true) only [State.whenLive_wipe, State.onWrite_wipe,
    State.mirrorWritten_wipe, wipe_ite, wipe_ite_fst, ite_self, implies_true]

theorem execIdleFlit_wipe {s u : State} (port : Nat) (flit : BitVec 256) (bad : Bool) (mk : Nat) (hm :
    0x302afe7771440 ||| mk = mk) (h : execIdleFlit port flit bad s = .next u) :
    u.wipe mk = s.wipe mk := by
  refine wipe_mono hm ?_
  unfold execIdleFlit at h
  rw [atLink_next h]
  simp +zetaDelta (maxDischargeDepth := 6) (decide := true) only [State.receiveFlit_wipe, wipe_ite, wipe_ite_fst,
    ite_self, implies_true]

theorem execUnlistedOpcode_wipe {s u : State} (opcode : BitVec 6) (r : OpReq) (mk : Nat) (hm : 0x30aa9ffffd000 |||
    mk = mk) (h : execUnlistedOpcode opcode r s = .next u) :
    u.wipe mk = s.wipe mk := by
  exact State.opCommand_wipe _ _ mk hm h

theorem execApertureRefused_wipe {s u : State} (area : ApertureArea) (why : ApertureFault) (isRead : Bool) (mk :
    Nat) (hm : 0x3000004000000 ||| mk = mk) (h : execApertureRefused area why isRead s = .next u) :
    u.wipe mk = s.wipe mk := by
  refine wipe_mono hm ?_
  unfold execApertureRefused at h
  split at h <;> cases h
  simp +zetaDelta (maxDischargeDepth := 6) (decide := true) only [State.apertureRefuse_wipe, wipe_ite,
    wipe_ite_fst, ite_self, implies_true]

theorem execReservedMessageKind_wipe {s u : State} (port : Nat) (mkind : BitVec 6) (mk : Nat) (hm :
    0x2000004000000 ||| mk = mk) (h : execReservedMessageKind port mkind s = .next u) :
    u.wipe mk = s.wipe mk := by
  refine wipe_mono hm ?_
  unfold execReservedMessageKind at h
  rw [atLink_next h]
  simp +zetaDelta (maxDischargeDepth := 6) (decide := true) only [State.reservedKind_wipe, wipe_ite, wipe_ite_fst,
    ite_self, implies_true]

theorem execMctpPacketDiscard_wipe {s u : State} (why : PacketFault) (packets : Nat) (mk : Nat) (hm :
    0x2000004000000 ||| mk = mk) (h : execMctpPacketDiscard why packets s = .next u) :
    u.wipe mk = s.wipe mk := by
  refine wipe_mono hm ?_
  unfold execMctpPacketDiscard at h
  cases h
  simp +zetaDelta (maxDischargeDepth := 6) (decide := true) only [State.discardPackets_wipe, wipe_ite,
    wipe_ite_fst, ite_self, implies_true]

theorem execCatMalformedRequest_wipe {s u : State} (h : CatHdr) (command : BitVec 8) (why : Malformation) (mk :
    Nat) (hm : 0x3030004000000 ||| mk = mk) (hn : execCatMalformedRequest h command why s = .next u) :
    u.wipe mk = s.wipe mk := by
  refine wipe_mono hm ?_
  unfold execCatMalformedRequest at hn
  cases hn
  simp +zetaDelta (maxDischargeDepth := 6) (decide := true) only [State.malformedCommand_wipe, wipe_ite,
    wipe_ite_fst, ite_self, implies_true]

end Sys2Proof.Machine
end

