-- ==== Sys2Proof/Laws/Sparse.lean ====
section
/-! SUPPORT. The laws of sparse stores: reading after writing, and the canonical form, which every operation keeps. -/

namespace Sys2Proof

variable {α : Type}

/-! ### Reading -/

theorem Sparse.get_erase_self (d : Nat → α) (m : Sparse α) (k : Nat) : (m.erase k).get d k = d k := by
  induction m with
  | nil => rfl
  | cons x t ih =>
    obtain ⟨j, v⟩ := x
    unfold Sparse.erase
    split
    · exact ih
    · rename_i h
      simp only [Sparse.get, if_neg h, ih]

theorem Sparse.get_erase_ne (d : Nat → α) (m : Sparse α) {k j : Nat} (h : j ≠ k) : (m.erase k).get d j = m.get d j := by
  induction m with
  | nil => rfl
  | cons x t ih =>
    obtain ⟨i, v⟩ := x
    unfold Sparse.erase
    split
    · rename_i e
      subst e
      simp only [Sparse.get, if_neg h, ih]
    · simp only [Sparse.get, ih]

theorem Sparse.get_insert_ne (d : Nat → α) (m : Sparse α) {k j : Nat} (v : α) (h : j ≠ k) :
    (m.insert k v).get d j = m.get d j := by
  induction m with
  | nil => simp only [Sparse.insert, Sparse.get, if_neg h]
  | cons x t ih =>
    obtain ⟨i, w⟩ := x
    unfold Sparse.insert
    split
    · simp only [Sparse.get, if_neg h]
    · simp only [Sparse.get, ih]

/-- No entry has the key. -/
theorem Sparse.get_insert_self (d : Nat → α) (m : Sparse α) (k : Nat) (v : α) (h : k ∉ m.map Prod.fst) :
    (m.insert k v).get d k = v := by
  induction m with
  | nil => simp only [Sparse.insert, Sparse.get, if_true]
  | cons x t ih =>
    obtain ⟨i, w⟩ := x
    simp only [List.map_cons, List.mem_cons, not_or] at h
    unfold Sparse.insert
    split
    · simp only [Sparse.get, if_true]
    · simp only [Sparse.get, if_neg h.1, ih h.2]

theorem Sparse.erase_notMem (m : Sparse α) (k : Nat) : k ∉ (m.erase k).map Prod.fst := by
  induction m with
  | nil => exact List.not_mem_nil
  | cons x t ih =>
    obtain ⟨i, w⟩ := x
    unfold Sparse.erase
    split
    · exact ih
    · rename_i h
      simp only [List.map_cons, List.mem_cons, not_or]
      exact ⟨h, ih⟩

/-- Reading what was written. -/
theorem Sparse.get_put_self [DecidableEq α] (d : Nat → α) (m : Sparse α) (k : Nat) (v : α) :
    (m.put d k v).get d k = v := by
  unfold Sparse.put
  split
  · rename_i h
    rw [Sparse.get_erase_self, h]
  · exact Sparse.get_insert_self d _ k v (m.erase_notMem k)

/-- A write leaves every other entry alone. -/
theorem Sparse.get_put_ne [DecidableEq α] (d : Nat → α) (m : Sparse α) {k j : Nat} (v : α) (h : j ≠ k) :
    (m.put d k v).get d j = m.get d j := by
  unfold Sparse.put
  split
  · exact m.get_erase_ne d h
  · rw [Sparse.get_insert_ne d _ v h, m.get_erase_ne d h]

theorem Sparse.get_put [DecidableEq α] (d : Nat → α) (m : Sparse α) (k j : Nat) (v : α) :
    (m.put d k v).get d j = if j = k then v else m.get d j := by
  split
  · rename_i h
    rw [h, Sparse.get_put_self]
  · rename_i h
    exact Sparse.get_put_ne d m v h

theorem Sparse.erase_insert (m : Sparse α) (k : Nat) (v : α) : (m.insert k v).erase k = m.erase k := by
  induction m with
  | nil => simp only [Sparse.insert, Sparse.erase, if_true]
  | cons x t ih =>
    obtain ⟨k', v'⟩ := x
    unfold Sparse.insert
    split
    · rw [Sparse.erase, if_pos rfl]
    · rw [Sparse.erase, Sparse.erase, ih]

theorem Sparse.erase_erase (m : Sparse α) (k : Nat) : (m.erase k).erase k = m.erase k := by
  induction m with
  | nil => rfl
  | cons x t ih =>
    obtain ⟨k', v'⟩ := x
    by_cases h : k = k'
    · simp only [Sparse.erase, if_pos h]
      exact ih
    · simp only [Sparse.erase, if_neg h, ih]

/-- A second write of one key replaces the first. -/
theorem Sparse.put_put [DecidableEq α] (d : Nat → α) (m : Sparse α) (k : Nat) (v w : α) :
    (m.put d k v).put d k w = m.put d k w := by
  have e : (m.put d k v).erase k = m.erase k := by
    unfold Sparse.put
    split
    · exact Sparse.erase_erase _ _
    · rw [Sparse.erase_insert, Sparse.erase_erase]
  unfold Sparse.put at e ⊢
  split <;> rw [e]

theorem Sparse.get_dropKeys (d : Nat → α) (p : Nat → Bool) (m : Sparse α) (k : Nat) :
    (m.dropKeys p).get d k = if p k then d k else m.get d k := by
  induction m with
  | nil => simp only [Sparse.dropKeys, Sparse.get, ite_self]
  | cons x t ih =>
    obtain ⟨i, v⟩ := x
    unfold Sparse.dropKeys
    split
    · rename_i h
      rw [ih, Sparse.get]
      by_cases e : k = i
      · subst e
        simp only [h, if_true]
      · simp only [if_neg e]
    · rename_i h
      simp only [Sparse.get, ih]
      by_cases e : k = i
      · subst e
        simp only [h, if_true, if_false, Bool.false_eq_true]
      · simp only [if_neg e]

/-! ### The canonical form -/

theorem Sparse.above_mono {k j : Nat} (h : k ≤ j) : {m : Sparse α} → m.above j = true → m.above k = true
  | [], _ => rfl
  | (i, _) :: t, e => by
    simp only [Sparse.above, Bool.and_eq_true, decide_eq_true_eq] at e ⊢
    exact ⟨Nat.lt_of_le_of_lt h e.1, Sparse.above_mono h e.2⟩

theorem Sparse.above_erase {k j : Nat} : {m : Sparse α} → m.above j = true → (m.erase k).above j = true
  | [], _ => rfl
  | (i, _) :: t, e => by
    simp only [Sparse.above, Bool.and_eq_true, decide_eq_true_eq] at e
    unfold Sparse.erase
    split
    · exact Sparse.above_erase e.2
    · simp only [Sparse.above, Bool.and_eq_true, decide_eq_true_eq]
      exact ⟨e.1, Sparse.above_erase e.2⟩

theorem Sparse.above_insert {k j : Nat} {v : α} (h : j < k) :
    {m : Sparse α} → m.above j = true → (m.insert k v).above j = true
  | [], _ => by simp only [Sparse.insert, Sparse.above, Bool.and_true, decide_eq_true_eq, h]
  | (i, _) :: t, e => by
    simp only [Sparse.above, Bool.and_eq_true, decide_eq_true_eq] at e
    unfold Sparse.insert
    split
    · simp only [Sparse.above, Bool.and_eq_true, decide_eq_true_eq]
      exact ⟨h, e⟩
    · simp only [Sparse.above, Bool.and_eq_true, decide_eq_true_eq]
      exact ⟨e.1, Sparse.above_insert h e.2⟩

theorem Sparse.above_dropKeys {j : Nat} {p : Nat → Bool} : {m : Sparse α} → m.above j = true → (m.dropKeys p).above j = true
  | [], _ => rfl
  | (i, _) :: t, e => by
    simp only [Sparse.above, Bool.and_eq_true, decide_eq_true_eq] at e
    unfold Sparse.dropKeys
    split
    · exact Sparse.above_dropKeys e.2
    · simp only [Sparse.above, Bool.and_eq_true, decide_eq_true_eq]
      exact ⟨e.1, Sparse.above_dropKeys e.2⟩

variable [DecidableEq α] {d : Nat → α}

theorem Sparse.above_remap {j : Nat} {f : α → α} : {m : Sparse α} → m.above j = true → (m.remap d f).above j = true
  | [], _ => rfl
  | (i, _) :: t, e => by
    simp only [Sparse.above, Bool.and_eq_true, decide_eq_true_eq] at e
    unfold Sparse.remap
    split
    · exact Sparse.above_remap e.2
    · simp only [Sparse.above, Bool.and_eq_true, decide_eq_true_eq]
      exact ⟨e.1, Sparse.above_remap e.2⟩

theorem Sparse.above_remapKey {j : Nat} {f : Nat → α → α} : {m : Sparse α} → m.above j = true →
    (m.remapKey d f).above j = true
  | [], _ => rfl
  | (i, _) :: t, e => by
    simp only [Sparse.above, Bool.and_eq_true, decide_eq_true_eq] at e
    unfold Sparse.remapKey
    split
    · exact Sparse.above_remapKey e.2
    · simp only [Sparse.above, Bool.and_eq_true, decide_eq_true_eq]
      exact ⟨e.1, Sparse.above_remapKey e.2⟩

theorem Sparse.wf_cons {k : Nat} {v : α} {t : Sparse α} :
    Sparse.wf d ((k, v) :: t) = true ↔ t.above k = true ∧ v ≠ d k ∧ t.wf d = true := by
  simp only [Sparse.wf, Bool.and_eq_true, decide_eq_true_eq, and_assoc]

theorem Sparse.wf_nil : Sparse.wf d [] = true := rfl

theorem Sparse.wf_erase {k : Nat} : {m : Sparse α} → m.wf d = true → (m.erase k).wf d = true
  | [], _ => rfl
  | (i, _) :: t, e => by
    rw [Sparse.wf_cons] at e
    unfold Sparse.erase
    split
    · exact Sparse.wf_erase e.2.2
    · exact Sparse.wf_cons.mpr ⟨Sparse.above_erase e.1, e.2.1, Sparse.wf_erase e.2.2⟩

theorem Sparse.wf_insert {k : Nat} {v : α} (hv : v ≠ d k) :
    {m : Sparse α} → m.wf d = true → k ∉ m.map Prod.fst → (m.insert k v).wf d = true
  | [], _, _ => Sparse.wf_cons.mpr ⟨rfl, hv, rfl⟩
  | (i, w) :: t, e, hk => by
    rw [Sparse.wf_cons] at e
    simp only [List.map_cons, List.mem_cons, not_or] at hk
    unfold Sparse.insert
    split
    · rename_i h
      refine Sparse.wf_cons.mpr ⟨?_, hv, Sparse.wf_cons.mpr e⟩
      simp only [Sparse.above, Bool.and_eq_true, decide_eq_true_eq]
      exact ⟨h, Sparse.above_mono (Nat.le_of_lt h) e.1⟩
    · rename_i h
      have hlt : i < k := by omega
      exact Sparse.wf_cons.mpr ⟨Sparse.above_insert hlt e.1, e.2.1, Sparse.wf_insert hv e.2.2 hk.2⟩

/-- A write keeps the canonical form. -/
theorem Sparse.wf_put {m : Sparse α} (k : Nat) (v : α) (h : m.wf d = true) : (m.put d k v).wf d = true := by
  unfold Sparse.put
  split
  · exact Sparse.wf_erase h
  · rename_i hv
    exact Sparse.wf_insert hv (Sparse.wf_erase h) (m.erase_notMem k)

/-- So does dropping keys, and so does replacing every entry. -/
theorem Sparse.wf_dropKeys {p : Nat → Bool} : {m : Sparse α} → m.wf d = true → (m.dropKeys p).wf d = true
  | [], _ => rfl
  | (i, _) :: t, e => by
    rw [Sparse.wf_cons] at e
    unfold Sparse.dropKeys
    split
    · exact Sparse.wf_dropKeys e.2.2
    · exact Sparse.wf_cons.mpr ⟨Sparse.above_dropKeys e.1, e.2.1, Sparse.wf_dropKeys e.2.2⟩

theorem Sparse.wf_remap {f : α → α} : {m : Sparse α} → m.wf d = true → (m.remap d f).wf d = true
  | [], _ => rfl
  | (i, w) :: t, e => by
    rw [Sparse.wf_cons] at e
    unfold Sparse.remap
    split
    · exact Sparse.wf_remap e.2.2
    · rename_i h
      exact Sparse.wf_cons.mpr ⟨Sparse.above_remap e.1, h, Sparse.wf_remap e.2.2⟩

theorem Sparse.wf_remapKey {f : Nat → α → α} : {m : Sparse α} → m.wf d = true → (m.remapKey d f).wf d = true
  | [], _ => rfl
  | (i, w) :: t, e => by
    rw [Sparse.wf_cons] at e
    unfold Sparse.remapKey
    split
    · exact Sparse.wf_remapKey e.2.2
    · rename_i h
      exact Sparse.wf_cons.mpr ⟨Sparse.above_remapKey e.1, h, Sparse.wf_remapKey e.2.2⟩

/-- A value that is listed, and that the change does not make equal to an unlisted one, is changed. -/
theorem Sparse.get_remapKey {f : Nat → α → α} {k : Nat} : {m : Sparse α} → m.get d k ≠ d k → f k (m.get d k) ≠ d k →
    (m.remapKey d f).get d k = f k (m.get d k)
  | [], h, _ => absurd rfl h
  | (i, w) :: t, h, h' => by
    unfold Sparse.remapKey
    by_cases e : i = k
    · subst e
      have g : Sparse.get d ((i, w) :: t) i = w := by simp [Sparse.get]
      rw [g] at h' ⊢
      rw [if_neg h']
      simp [Sparse.get]
    · have g : Sparse.get d ((i, w) :: t) k = Sparse.get d t k := by
        simp only [Sparse.get]
        rw [if_neg (fun x => e x.symm)]
      rw [g] at h h' ⊢
      split
      · exact Sparse.get_remapKey h h'
      · show Sparse.get d ((i, f i w) :: Sparse.remapKey t d f) k = _
        simp only [Sparse.get]
        rw [if_neg (fun x => e x.symm)]
        exact Sparse.get_remapKey h h'

omit [DecidableEq α] in
theorem Sparse.get_of_above {k j : Nat} (h : j ≤ k) : {m : Sparse α} → m.above k = true → m.get d j = d j
  | [], _ => rfl
  | (i, _) :: t, e => by
    simp only [Sparse.above, Bool.and_eq_true, decide_eq_true_eq] at e
    have hne : j ≠ i := by omega
    simp only [Sparse.get, if_neg hne]
    exact Sparse.get_of_above h e.2

/-- Two stores in the canonical form that read alike are the same data. -/
theorem Sparse.eq_of_get : {m n : Sparse α} → m.wf d = true → n.wf d = true →
    (∀ k, m.get d k = n.get d k) → m = n
  | [], [], _, _, _ => rfl
  | [], (i, v) :: t, _, hn, h => by
    rw [Sparse.wf_cons] at hn
    have := h i
    simp only [Sparse.get, if_true] at this
    exact absurd this.symm hn.2.1
  | (i, v) :: t, [], hm, _, h => by
    rw [Sparse.wf_cons] at hm
    have := h i
    simp only [Sparse.get, if_true] at this
    exact absurd this hm.2.1
  | (i, v) :: t, (j, w) :: u, hm, hn, h => by
    rw [Sparse.wf_cons] at hm hn
    have hij : i = j := by
      rcases Nat.lt_trichotomy i j with c | c | c
      · have e := h i
        have hne : i ≠ j := by omega
        simp only [Sparse.get, if_true, if_neg hne] at e
        rw [Sparse.get_of_above (Nat.le_of_lt c) hn.1] at e
        exact absurd e hm.2.1
      · exact c
      · have e := h j
        have hne : j ≠ i := by omega
        simp only [Sparse.get, if_true, if_neg hne] at e
        rw [Sparse.get_of_above (Nat.le_of_lt c) hm.1] at e
        exact absurd e.symm hn.2.1
    subst hij
    have hv : v = w := by
      have e := h i
      simpa only [Sparse.get, if_true] using e
    subst hv
    have ht : t = u := Sparse.eq_of_get hm.2.2 hn.2.2 fun k => by
      by_cases c : k = i
      · subst c
        rw [Sparse.get_of_above (Nat.le_refl _) hm.1, Sparse.get_of_above (Nat.le_refl _) hn.1]
      · have e := h k
        simpa only [Sparse.get, if_neg c] using e
    rw [ht]

end Sys2Proof
end

