-- ==== Sys2Proof/Laws/State.lean ====
section
/-! SUPPORT. The writes of the state's registers and stores: what each leaves as it was, field by field, and what is read
after it. -/

namespace Sys2Proof.Machine

/-! ### setObj -/

@[simp] theorem State.setObj_pending (s : State) (i : Nat) (x : ObjRec) : (s.setObj i x).pending = s.pending := rfl
@[simp] theorem State.setObj_phase (s : State) (i : Nat) (x : ObjRec) : (s.setObj i x).phase = s.phase := rfl
@[simp] theorem State.setObj_build (s : State) (i : Nat) (x : ObjRec) : (s.setObj i x).build = s.build := rfl
@[simp] theorem State.setObj_device (s : State) (i : Nat) (x : ObjRec) : (s.setObj i x).device = s.device := rfl
@[simp] theorem State.setObj_die (s : State) (i : Nat) (x : ObjRec) : (s.setObj i x).die = s.die := rfl
@[simp] theorem State.setObj_refSel (s : State) (i : Nat) (x : ObjRec) : (s.setObj i x).refSel = s.refSel := rfl
@[simp] theorem State.setObj_time (s : State) (i : Nat) (x : ObjRec) : (s.setObj i x).time = s.time := rfl
@[simp] theorem State.setObj_tick (s : State) (i : Nat) (x : ObjRec) : (s.setObj i x).tick = s.tick := rfl
@[simp] theorem State.setObj_running (s : State) (i : Nat) (x : ObjRec) : (s.setObj i x).running = s.running := rfl
@[simp] theorem State.setObj_refLost (s : State) (i : Nat) (x : ObjRec) : (s.setObj i x).refLost = s.refLost := rfl
@[simp] theorem State.setObj_sync (s : State) (i : Nat) (x : ObjRec) : (s.setObj i x).sync = s.sync := rfl
@[simp] theorem State.setObj_partCount (s : State) (i : Nat) (x : ObjRec) : (s.setObj i x).partCount = s.partCount :=
  rfl
@[simp] theorem State.setObj_parts (s : State) (i : Nat) (x : ObjRec) : (s.setObj i x).parts = s.parts := rfl
@[simp] theorem State.setObj_reslice (s : State) (i : Nat) (x : ObjRec) : (s.setObj i x).reslice = s.reslice := rfl
@[simp] theorem State.setObj_wideBits (s : State) (i : Nat) (x : ObjRec) : (s.setObj i x).wideBits = s.wideBits := rfl
@[simp] theorem State.setObj_waiters (s : State) (i : Nat) (x : ObjRec) : (s.setObj i x).waiters = s.waiters := rfl
@[simp] theorem State.setObj_lenders (s : State) (i : Nat) (x : ObjRec) : (s.setObj i x).lenders = s.lenders := rfl
@[simp] theorem State.setObj_ledgers (s : State) (i : Nat) (x : ObjRec) : (s.setObj i x).ledgers = s.ledgers := rfl
@[simp] theorem State.setObj_loanSeq (s : State) (i : Nat) (x : ObjRec) : (s.setObj i x).loanSeq = s.loanSeq := rfl
@[simp] theorem State.setObj_ports (s : State) (i : Nat) (x : ObjRec) : (s.setObj i x).ports = s.ports := rfl
@[simp] theorem State.setObj_slots (s : State) (i : Nat) (x : ObjRec) : (s.setObj i x).slots = s.slots := rfl
@[simp] theorem State.setObj_rets (s : State) (i : Nat) (x : ObjRec) : (s.setObj i x).rets = s.rets := rfl
@[simp] theorem State.setObj_buffered (s : State) (i : Nat) (x : ObjRec) : (s.setObj i x).buffered = s.buffered := rfl
@[simp] theorem State.setObj_mgr (s : State) (i : Nat) (x : ObjRec) : (s.setObj i x).mgr = s.mgr := rfl
@[simp] theorem State.setObj_notify (s : State) (i : Nat) (x : ObjRec) : (s.setObj i x).notify = s.notify := rfl
@[simp] theorem State.setObj_cat (s : State) (i : Nat) (x : ObjRec) : (s.setObj i x).cat = s.cat := rfl
@[simp] theorem State.setObj_devMap (s : State) (i : Nat) (x : ObjRec) : (s.setObj i x).devMap = s.devMap := rfl
@[simp] theorem State.setObj_routes (s : State) (i : Nat) (x : ObjRec) : (s.setObj i x).routes = s.routes := rfl
@[simp] theorem State.setObj_links (s : State) (i : Nat) (x : ObjRec) : (s.setObj i x).links = s.links := rfl
@[simp] theorem State.setObj_inbox (s : State) (i : Nat) (x : ObjRec) : (s.setObj i x).inbox = s.inbox := rfl
@[simp] theorem State.setObj_waitMsgs (s : State) (i : Nat) (x : ObjRec) : (s.setObj i x).waitMsgs = s.waitMsgs := rfl
@[simp] theorem State.setObj_changes (s : State) (i : Nat) (x : ObjRec) : (s.setObj i x).changes = s.changes := rfl
@[simp] theorem State.setObj_settles (s : State) (i : Nat) (x : ObjRec) : (s.setObj i x).settles = s.settles := rfl
@[simp] theorem State.setObj_fenceNum (s : State) (i : Nat) (x : ObjRec) : (s.setObj i x).fenceNum = s.fenceNum := rfl
@[simp] theorem State.setObj_lostSince (s : State) (i : Nat) (x : ObjRec) : (s.setObj i x).lostSince = s.lostSince :=
  rfl
@[simp] theorem State.setObj_evs (s : State) (i : Nat) (x : ObjRec) : (s.setObj i x).evs = s.evs := rfl
@[simp] theorem State.setObj_folio (s : State) (i : Nat) (x : ObjRec) : (s.setObj i x).folio = s.folio := rfl
@[simp] theorem State.setObj_views (s : State) (i : Nat) (x : ObjRec) : (s.setObj i x).views = s.views := rfl
@[simp] theorem State.setObj_catOpen (s : State) (i : Nat) (x : ObjRec) : (s.setObj i x).catOpen = s.catOpen := rfl
@[simp] theorem State.setObj_catHeld (s : State) (i : Nat) (x : ObjRec) : (s.setObj i x).catHeld = s.catHeld := rfl
@[simp] theorem State.setObj_apb (s : State) (i : Nat) (x : ObjRec) : (s.setObj i x).apb = s.apb := rfl
@[simp] theorem State.setObj_eid (s : State) (i : Nat) (x : ObjRec) : (s.setObj i x).eid = s.eid := rfl
@[simp] theorem State.setObj_flips (s : State) (i : Nat) (x : ObjRec) : (s.setObj i x).flips = s.flips := rfl
@[simp] theorem State.setObj_stuck (s : State) (i : Nat) (x : ObjRec) : (s.setObj i x).stuck = s.stuck := rfl
@[simp] theorem State.setObj_stageFails (s : State) (i : Nat) (x : ObjRec) : (s.setObj i x).stageFails = s.stageFails :=
  rfl
@[simp] theorem State.setObj_stageOut (s : State) (i : Nat) (x : ObjRec) : (s.setObj i x).stageOut = s.stageOut := rfl
@[simp] theorem State.setObj_scrubStart (s : State) (i : Nat) (x : ObjRec) : (s.setObj i x).scrubStart = s.scrubStart :=
  rfl
@[simp] theorem State.setObj_out (s : State) (i : Nat) (x : ObjRec) : (s.setObj i x).out = s.out := rfl
@[simp] theorem State.setObj_free (s : State) (i : Nat) (x : ObjRec) : (s.setObj i x).free = s.free := rfl
@[simp] theorem State.setObj_clock (s : State) (i : Nat) (x : ObjRec) : (s.setObj i x).clock = s.clock := rfl

/-! ### setPort -/

@[simp] theorem State.setPort_pending (s : State) (p : Nat) (x : Port) : (s.setPort p x).pending = s.pending := rfl
@[simp] theorem State.setPort_phase (s : State) (p : Nat) (x : Port) : (s.setPort p x).phase = s.phase := rfl
@[simp] theorem State.setPort_build (s : State) (p : Nat) (x : Port) : (s.setPort p x).build = s.build := rfl
@[simp] theorem State.setPort_device (s : State) (p : Nat) (x : Port) : (s.setPort p x).device = s.device := rfl
@[simp] theorem State.setPort_die (s : State) (p : Nat) (x : Port) : (s.setPort p x).die = s.die := rfl
@[simp] theorem State.setPort_refSel (s : State) (p : Nat) (x : Port) : (s.setPort p x).refSel = s.refSel := rfl
@[simp] theorem State.setPort_time (s : State) (p : Nat) (x : Port) : (s.setPort p x).time = s.time := rfl
@[simp] theorem State.setPort_tick (s : State) (p : Nat) (x : Port) : (s.setPort p x).tick = s.tick := rfl
@[simp] theorem State.setPort_running (s : State) (p : Nat) (x : Port) : (s.setPort p x).running = s.running := rfl
@[simp] theorem State.setPort_refLost (s : State) (p : Nat) (x : Port) : (s.setPort p x).refLost = s.refLost := rfl
@[simp] theorem State.setPort_sync (s : State) (p : Nat) (x : Port) : (s.setPort p x).sync = s.sync := rfl
@[simp] theorem State.setPort_partCount (s : State) (p : Nat) (x : Port) : (s.setPort p x).partCount = s.partCount :=
  rfl
@[simp] theorem State.setPort_parts (s : State) (p : Nat) (x : Port) : (s.setPort p x).parts = s.parts := rfl
@[simp] theorem State.setPort_reslice (s : State) (p : Nat) (x : Port) : (s.setPort p x).reslice = s.reslice := rfl
@[simp] theorem State.setPort_objs (s : State) (p : Nat) (x : Port) : (s.setPort p x).objs = s.objs := rfl
@[simp] theorem State.setPort_wideBits (s : State) (p : Nat) (x : Port) : (s.setPort p x).wideBits = s.wideBits := rfl
@[simp] theorem State.setPort_waiters (s : State) (p : Nat) (x : Port) : (s.setPort p x).waiters = s.waiters := rfl
@[simp] theorem State.setPort_lenders (s : State) (p : Nat) (x : Port) : (s.setPort p x).lenders = s.lenders := rfl
@[simp] theorem State.setPort_ledgers (s : State) (p : Nat) (x : Port) : (s.setPort p x).ledgers = s.ledgers := rfl
@[simp] theorem State.setPort_loanSeq (s : State) (p : Nat) (x : Port) : (s.setPort p x).loanSeq = s.loanSeq := rfl
@[simp] theorem State.setPort_slots (s : State) (p : Nat) (x : Port) : (s.setPort p x).slots = s.slots := rfl
@[simp] theorem State.setPort_rets (s : State) (p : Nat) (x : Port) : (s.setPort p x).rets = s.rets := rfl
@[simp] theorem State.setPort_buffered (s : State) (p : Nat) (x : Port) : (s.setPort p x).buffered = s.buffered := rfl
@[simp] theorem State.setPort_mgr (s : State) (p : Nat) (x : Port) : (s.setPort p x).mgr = s.mgr := rfl
@[simp] theorem State.setPort_notify (s : State) (p : Nat) (x : Port) : (s.setPort p x).notify = s.notify := rfl
@[simp] theorem State.setPort_cat (s : State) (p : Nat) (x : Port) : (s.setPort p x).cat = s.cat := rfl
@[simp] theorem State.setPort_devMap (s : State) (p : Nat) (x : Port) : (s.setPort p x).devMap = s.devMap := rfl
@[simp] theorem State.setPort_routes (s : State) (p : Nat) (x : Port) : (s.setPort p x).routes = s.routes := rfl
@[simp] theorem State.setPort_links (s : State) (p : Nat) (x : Port) : (s.setPort p x).links = s.links := rfl
@[simp] theorem State.setPort_inbox (s : State) (p : Nat) (x : Port) : (s.setPort p x).inbox = s.inbox := rfl
@[simp] theorem State.setPort_waitMsgs (s : State) (p : Nat) (x : Port) : (s.setPort p x).waitMsgs = s.waitMsgs := rfl
@[simp] theorem State.setPort_changes (s : State) (p : Nat) (x : Port) : (s.setPort p x).changes = s.changes := rfl
@[simp] theorem State.setPort_settles (s : State) (p : Nat) (x : Port) : (s.setPort p x).settles = s.settles := rfl
@[simp] theorem State.setPort_fenceNum (s : State) (p : Nat) (x : Port) : (s.setPort p x).fenceNum = s.fenceNum := rfl
@[simp] theorem State.setPort_lostSince (s : State) (p : Nat) (x : Port) : (s.setPort p x).lostSince = s.lostSince :=
  rfl
@[simp] theorem State.setPort_evs (s : State) (p : Nat) (x : Port) : (s.setPort p x).evs = s.evs := rfl
@[simp] theorem State.setPort_folio (s : State) (p : Nat) (x : Port) : (s.setPort p x).folio = s.folio := rfl
@[simp] theorem State.setPort_views (s : State) (p : Nat) (x : Port) : (s.setPort p x).views = s.views := rfl
@[simp] theorem State.setPort_catOpen (s : State) (p : Nat) (x : Port) : (s.setPort p x).catOpen = s.catOpen := rfl
@[simp] theorem State.setPort_catHeld (s : State) (p : Nat) (x : Port) : (s.setPort p x).catHeld = s.catHeld := rfl
@[simp] theorem State.setPort_apb (s : State) (p : Nat) (x : Port) : (s.setPort p x).apb = s.apb := rfl
@[simp] theorem State.setPort_eid (s : State) (p : Nat) (x : Port) : (s.setPort p x).eid = s.eid := rfl
@[simp] theorem State.setPort_flips (s : State) (p : Nat) (x : Port) : (s.setPort p x).flips = s.flips := rfl
@[simp] theorem State.setPort_stuck (s : State) (p : Nat) (x : Port) : (s.setPort p x).stuck = s.stuck := rfl
@[simp] theorem State.setPort_stageFails (s : State) (p : Nat) (x : Port) : (s.setPort p x).stageFails = s.stageFails :=
  rfl
@[simp] theorem State.setPort_stageOut (s : State) (p : Nat) (x : Port) : (s.setPort p x).stageOut = s.stageOut := rfl
@[simp] theorem State.setPort_scrubStart (s : State) (p : Nat) (x : Port) : (s.setPort p x).scrubStart = s.scrubStart :=
  rfl
@[simp] theorem State.setPort_out (s : State) (p : Nat) (x : Port) : (s.setPort p x).out = s.out := rfl
@[simp] theorem State.setPort_free (s : State) (p : Nat) (x : Port) : (s.setPort p x).free = s.free := rfl
@[simp] theorem State.setPort_clock (s : State) (p : Nat) (x : Port) : (s.setPort p x).clock = s.clock := rfl

/-! ### setSlot -/

@[simp] theorem State.setSlot_pending (s : State) (g : Nat) (x : Slot) : (s.setSlot g x).pending = s.pending := rfl
@[simp] theorem State.setSlot_phase (s : State) (g : Nat) (x : Slot) : (s.setSlot g x).phase = s.phase := rfl
@[simp] theorem State.setSlot_build (s : State) (g : Nat) (x : Slot) : (s.setSlot g x).build = s.build := rfl
@[simp] theorem State.setSlot_device (s : State) (g : Nat) (x : Slot) : (s.setSlot g x).device = s.device := rfl
@[simp] theorem State.setSlot_die (s : State) (g : Nat) (x : Slot) : (s.setSlot g x).die = s.die := rfl
@[simp] theorem State.setSlot_refSel (s : State) (g : Nat) (x : Slot) : (s.setSlot g x).refSel = s.refSel := rfl
@[simp] theorem State.setSlot_time (s : State) (g : Nat) (x : Slot) : (s.setSlot g x).time = s.time := rfl
@[simp] theorem State.setSlot_tick (s : State) (g : Nat) (x : Slot) : (s.setSlot g x).tick = s.tick := rfl
@[simp] theorem State.setSlot_running (s : State) (g : Nat) (x : Slot) : (s.setSlot g x).running = s.running := rfl
@[simp] theorem State.setSlot_refLost (s : State) (g : Nat) (x : Slot) : (s.setSlot g x).refLost = s.refLost := rfl
@[simp] theorem State.setSlot_sync (s : State) (g : Nat) (x : Slot) : (s.setSlot g x).sync = s.sync := rfl
@[simp] theorem State.setSlot_partCount (s : State) (g : Nat) (x : Slot) : (s.setSlot g x).partCount = s.partCount :=
  rfl
@[simp] theorem State.setSlot_parts (s : State) (g : Nat) (x : Slot) : (s.setSlot g x).parts = s.parts := rfl
@[simp] theorem State.setSlot_reslice (s : State) (g : Nat) (x : Slot) : (s.setSlot g x).reslice = s.reslice := rfl
@[simp] theorem State.setSlot_objs (s : State) (g : Nat) (x : Slot) : (s.setSlot g x).objs = s.objs := rfl
@[simp] theorem State.setSlot_wideBits (s : State) (g : Nat) (x : Slot) : (s.setSlot g x).wideBits = s.wideBits := rfl
@[simp] theorem State.setSlot_waiters (s : State) (g : Nat) (x : Slot) : (s.setSlot g x).waiters = s.waiters := rfl
@[simp] theorem State.setSlot_lenders (s : State) (g : Nat) (x : Slot) : (s.setSlot g x).lenders = s.lenders := rfl
@[simp] theorem State.setSlot_ledgers (s : State) (g : Nat) (x : Slot) : (s.setSlot g x).ledgers = s.ledgers := rfl
@[simp] theorem State.setSlot_loanSeq (s : State) (g : Nat) (x : Slot) : (s.setSlot g x).loanSeq = s.loanSeq := rfl
@[simp] theorem State.setSlot_ports (s : State) (g : Nat) (x : Slot) : (s.setSlot g x).ports = s.ports := rfl
@[simp] theorem State.setSlot_rets (s : State) (g : Nat) (x : Slot) : (s.setSlot g x).rets = s.rets := rfl
@[simp] theorem State.setSlot_buffered (s : State) (g : Nat) (x : Slot) : (s.setSlot g x).buffered = s.buffered := rfl
@[simp] theorem State.setSlot_mgr (s : State) (g : Nat) (x : Slot) : (s.setSlot g x).mgr = s.mgr := rfl
@[simp] theorem State.setSlot_notify (s : State) (g : Nat) (x : Slot) : (s.setSlot g x).notify = s.notify := rfl
@[simp] theorem State.setSlot_cat (s : State) (g : Nat) (x : Slot) : (s.setSlot g x).cat = s.cat := rfl
@[simp] theorem State.setSlot_devMap (s : State) (g : Nat) (x : Slot) : (s.setSlot g x).devMap = s.devMap := rfl
@[simp] theorem State.setSlot_routes (s : State) (g : Nat) (x : Slot) : (s.setSlot g x).routes = s.routes := rfl
@[simp] theorem State.setSlot_links (s : State) (g : Nat) (x : Slot) : (s.setSlot g x).links = s.links := rfl
@[simp] theorem State.setSlot_inbox (s : State) (g : Nat) (x : Slot) : (s.setSlot g x).inbox = s.inbox := rfl
@[simp] theorem State.setSlot_waitMsgs (s : State) (g : Nat) (x : Slot) : (s.setSlot g x).waitMsgs = s.waitMsgs := rfl
@[simp] theorem State.setSlot_changes (s : State) (g : Nat) (x : Slot) : (s.setSlot g x).changes = s.changes := rfl
@[simp] theorem State.setSlot_settles (s : State) (g : Nat) (x : Slot) : (s.setSlot g x).settles = s.settles := rfl
@[simp] theorem State.setSlot_fenceNum (s : State) (g : Nat) (x : Slot) : (s.setSlot g x).fenceNum = s.fenceNum := rfl
@[simp] theorem State.setSlot_lostSince (s : State) (g : Nat) (x : Slot) : (s.setSlot g x).lostSince = s.lostSince :=
  rfl
@[simp] theorem State.setSlot_evs (s : State) (g : Nat) (x : Slot) : (s.setSlot g x).evs = s.evs := rfl
@[simp] theorem State.setSlot_folio (s : State) (g : Nat) (x : Slot) : (s.setSlot g x).folio = s.folio := rfl
@[simp] theorem State.setSlot_views (s : State) (g : Nat) (x : Slot) : (s.setSlot g x).views = s.views := rfl
@[simp] theorem State.setSlot_catOpen (s : State) (g : Nat) (x : Slot) : (s.setSlot g x).catOpen = s.catOpen := rfl
@[simp] theorem State.setSlot_catHeld (s : State) (g : Nat) (x : Slot) : (s.setSlot g x).catHeld = s.catHeld := rfl
@[simp] theorem State.setSlot_apb (s : State) (g : Nat) (x : Slot) : (s.setSlot g x).apb = s.apb := rfl
@[simp] theorem State.setSlot_eid (s : State) (g : Nat) (x : Slot) : (s.setSlot g x).eid = s.eid := rfl
@[simp] theorem State.setSlot_flips (s : State) (g : Nat) (x : Slot) : (s.setSlot g x).flips = s.flips := rfl
@[simp] theorem State.setSlot_stuck (s : State) (g : Nat) (x : Slot) : (s.setSlot g x).stuck = s.stuck := rfl
@[simp] theorem State.setSlot_stageFails (s : State) (g : Nat) (x : Slot) : (s.setSlot g x).stageFails = s.stageFails :=
  rfl
@[simp] theorem State.setSlot_stageOut (s : State) (g : Nat) (x : Slot) : (s.setSlot g x).stageOut = s.stageOut := rfl
@[simp] theorem State.setSlot_scrubStart (s : State) (g : Nat) (x : Slot) : (s.setSlot g x).scrubStart = s.scrubStart :=
  rfl
@[simp] theorem State.setSlot_out (s : State) (g : Nat) (x : Slot) : (s.setSlot g x).out = s.out := rfl
@[simp] theorem State.setSlot_free (s : State) (g : Nat) (x : Slot) : (s.setSlot g x).free = s.free := rfl
@[simp] theorem State.setSlot_clock (s : State) (g : Nat) (x : Slot) : (s.setSlot g x).clock = s.clock := rfl

/-! ### setLink -/

@[simp] theorem State.setLink_pending (s : State) (c : Nat) (x : Link) : (s.setLink c x).pending = s.pending := rfl
@[simp] theorem State.setLink_phase (s : State) (c : Nat) (x : Link) : (s.setLink c x).phase = s.phase := rfl
@[simp] theorem State.setLink_build (s : State) (c : Nat) (x : Link) : (s.setLink c x).build = s.build := rfl
@[simp] theorem State.setLink_device (s : State) (c : Nat) (x : Link) : (s.setLink c x).device = s.device := rfl
@[simp] theorem State.setLink_die (s : State) (c : Nat) (x : Link) : (s.setLink c x).die = s.die := rfl
@[simp] theorem State.setLink_refSel (s : State) (c : Nat) (x : Link) : (s.setLink c x).refSel = s.refSel := rfl
@[simp] theorem State.setLink_time (s : State) (c : Nat) (x : Link) : (s.setLink c x).time = s.time := rfl
@[simp] theorem State.setLink_tick (s : State) (c : Nat) (x : Link) : (s.setLink c x).tick = s.tick := rfl
@[simp] theorem State.setLink_running (s : State) (c : Nat) (x : Link) : (s.setLink c x).running = s.running := rfl
@[simp] theorem State.setLink_refLost (s : State) (c : Nat) (x : Link) : (s.setLink c x).refLost = s.refLost := rfl
@[simp] theorem State.setLink_sync (s : State) (c : Nat) (x : Link) : (s.setLink c x).sync = s.sync := rfl
@[simp] theorem State.setLink_partCount (s : State) (c : Nat) (x : Link) : (s.setLink c x).partCount = s.partCount :=
  rfl
@[simp] theorem State.setLink_parts (s : State) (c : Nat) (x : Link) : (s.setLink c x).parts = s.parts := rfl
@[simp] theorem State.setLink_reslice (s : State) (c : Nat) (x : Link) : (s.setLink c x).reslice = s.reslice := rfl
@[simp] theorem State.setLink_objs (s : State) (c : Nat) (x : Link) : (s.setLink c x).objs = s.objs := rfl
@[simp] theorem State.setLink_wideBits (s : State) (c : Nat) (x : Link) : (s.setLink c x).wideBits = s.wideBits := rfl
@[simp] theorem State.setLink_waiters (s : State) (c : Nat) (x : Link) : (s.setLink c x).waiters = s.waiters := rfl
@[simp] theorem State.setLink_lenders (s : State) (c : Nat) (x : Link) : (s.setLink c x).lenders = s.lenders := rfl
@[simp] theorem State.setLink_ledgers (s : State) (c : Nat) (x : Link) : (s.setLink c x).ledgers = s.ledgers := rfl
@[simp] theorem State.setLink_loanSeq (s : State) (c : Nat) (x : Link) : (s.setLink c x).loanSeq = s.loanSeq := rfl
@[simp] theorem State.setLink_ports (s : State) (c : Nat) (x : Link) : (s.setLink c x).ports = s.ports := rfl
@[simp] theorem State.setLink_slots (s : State) (c : Nat) (x : Link) : (s.setLink c x).slots = s.slots := rfl
@[simp] theorem State.setLink_rets (s : State) (c : Nat) (x : Link) : (s.setLink c x).rets = s.rets := rfl
@[simp] theorem State.setLink_buffered (s : State) (c : Nat) (x : Link) : (s.setLink c x).buffered = s.buffered := rfl
@[simp] theorem State.setLink_mgr (s : State) (c : Nat) (x : Link) : (s.setLink c x).mgr = s.mgr := rfl
@[simp] theorem State.setLink_notify (s : State) (c : Nat) (x : Link) : (s.setLink c x).notify = s.notify := rfl
@[simp] theorem State.setLink_cat (s : State) (c : Nat) (x : Link) : (s.setLink c x).cat = s.cat := rfl
@[simp] theorem State.setLink_devMap (s : State) (c : Nat) (x : Link) : (s.setLink c x).devMap = s.devMap := rfl
@[simp] theorem State.setLink_routes (s : State) (c : Nat) (x : Link) : (s.setLink c x).routes = s.routes := rfl
@[simp] theorem State.setLink_inbox (s : State) (c : Nat) (x : Link) : (s.setLink c x).inbox = s.inbox := rfl
@[simp] theorem State.setLink_waitMsgs (s : State) (c : Nat) (x : Link) : (s.setLink c x).waitMsgs = s.waitMsgs := rfl
@[simp] theorem State.setLink_changes (s : State) (c : Nat) (x : Link) : (s.setLink c x).changes = s.changes := rfl
@[simp] theorem State.setLink_settles (s : State) (c : Nat) (x : Link) : (s.setLink c x).settles = s.settles := rfl
@[simp] theorem State.setLink_fenceNum (s : State) (c : Nat) (x : Link) : (s.setLink c x).fenceNum = s.fenceNum := rfl
@[simp] theorem State.setLink_lostSince (s : State) (c : Nat) (x : Link) : (s.setLink c x).lostSince = s.lostSince :=
  rfl
@[simp] theorem State.setLink_evs (s : State) (c : Nat) (x : Link) : (s.setLink c x).evs = s.evs := rfl
@[simp] theorem State.setLink_folio (s : State) (c : Nat) (x : Link) : (s.setLink c x).folio = s.folio := rfl
@[simp] theorem State.setLink_views (s : State) (c : Nat) (x : Link) : (s.setLink c x).views = s.views := rfl
@[simp] theorem State.setLink_catOpen (s : State) (c : Nat) (x : Link) : (s.setLink c x).catOpen = s.catOpen := rfl
@[simp] theorem State.setLink_catHeld (s : State) (c : Nat) (x : Link) : (s.setLink c x).catHeld = s.catHeld := rfl
@[simp] theorem State.setLink_apb (s : State) (c : Nat) (x : Link) : (s.setLink c x).apb = s.apb := rfl
@[simp] theorem State.setLink_eid (s : State) (c : Nat) (x : Link) : (s.setLink c x).eid = s.eid := rfl
@[simp] theorem State.setLink_flips (s : State) (c : Nat) (x : Link) : (s.setLink c x).flips = s.flips := rfl
@[simp] theorem State.setLink_stuck (s : State) (c : Nat) (x : Link) : (s.setLink c x).stuck = s.stuck := rfl
@[simp] theorem State.setLink_stageFails (s : State) (c : Nat) (x : Link) : (s.setLink c x).stageFails = s.stageFails :=
  rfl
@[simp] theorem State.setLink_stageOut (s : State) (c : Nat) (x : Link) : (s.setLink c x).stageOut = s.stageOut := rfl
@[simp] theorem State.setLink_scrubStart (s : State) (c : Nat) (x : Link) : (s.setLink c x).scrubStart = s.scrubStart :=
  rfl
@[simp] theorem State.setLink_out (s : State) (c : Nat) (x : Link) : (s.setLink c x).out = s.out := rfl
@[simp] theorem State.setLink_free (s : State) (c : Nat) (x : Link) : (s.setLink c x).free = s.free := rfl
@[simp] theorem State.setLink_clock (s : State) (c : Nat) (x : Link) : (s.setLink c x).clock = s.clock := rfl

/-! ### setPart -/

@[simp] theorem State.setPart_pending (s : State) (p : Nat) (x : Part) : (s.setPart p x).pending = s.pending := rfl
@[simp] theorem State.setPart_phase (s : State) (p : Nat) (x : Part) : (s.setPart p x).phase = s.phase := rfl
@[simp] theorem State.setPart_build (s : State) (p : Nat) (x : Part) : (s.setPart p x).build = s.build := rfl
@[simp] theorem State.setPart_device (s : State) (p : Nat) (x : Part) : (s.setPart p x).device = s.device := rfl
@[simp] theorem State.setPart_die (s : State) (p : Nat) (x : Part) : (s.setPart p x).die = s.die := rfl
@[simp] theorem State.setPart_refSel (s : State) (p : Nat) (x : Part) : (s.setPart p x).refSel = s.refSel := rfl
@[simp] theorem State.setPart_time (s : State) (p : Nat) (x : Part) : (s.setPart p x).time = s.time := rfl
@[simp] theorem State.setPart_tick (s : State) (p : Nat) (x : Part) : (s.setPart p x).tick = s.tick := rfl
@[simp] theorem State.setPart_running (s : State) (p : Nat) (x : Part) : (s.setPart p x).running = s.running := rfl
@[simp] theorem State.setPart_refLost (s : State) (p : Nat) (x : Part) : (s.setPart p x).refLost = s.refLost := rfl
@[simp] theorem State.setPart_sync (s : State) (p : Nat) (x : Part) : (s.setPart p x).sync = s.sync := rfl
@[simp] theorem State.setPart_partCount (s : State) (p : Nat) (x : Part) : (s.setPart p x).partCount = s.partCount :=
  rfl
@[simp] theorem State.setPart_reslice (s : State) (p : Nat) (x : Part) : (s.setPart p x).reslice = s.reslice := rfl
@[simp] theorem State.setPart_objs (s : State) (p : Nat) (x : Part) : (s.setPart p x).objs = s.objs := rfl
@[simp] theorem State.setPart_wideBits (s : State) (p : Nat) (x : Part) : (s.setPart p x).wideBits = s.wideBits := rfl
@[simp] theorem State.setPart_waiters (s : State) (p : Nat) (x : Part) : (s.setPart p x).waiters = s.waiters := rfl
@[simp] theorem State.setPart_lenders (s : State) (p : Nat) (x : Part) : (s.setPart p x).lenders = s.lenders := rfl
@[simp] theorem State.setPart_ledgers (s : State) (p : Nat) (x : Part) : (s.setPart p x).ledgers = s.ledgers := rfl
@[simp] theorem State.setPart_loanSeq (s : State) (p : Nat) (x : Part) : (s.setPart p x).loanSeq = s.loanSeq := rfl
@[simp] theorem State.setPart_ports (s : State) (p : Nat) (x : Part) : (s.setPart p x).ports = s.ports := rfl
@[simp] theorem State.setPart_slots (s : State) (p : Nat) (x : Part) : (s.setPart p x).slots = s.slots := rfl
@[simp] theorem State.setPart_rets (s : State) (p : Nat) (x : Part) : (s.setPart p x).rets = s.rets := rfl
@[simp] theorem State.setPart_buffered (s : State) (p : Nat) (x : Part) : (s.setPart p x).buffered = s.buffered := rfl
@[simp] theorem State.setPart_mgr (s : State) (p : Nat) (x : Part) : (s.setPart p x).mgr = s.mgr := rfl
@[simp] theorem State.setPart_notify (s : State) (p : Nat) (x : Part) : (s.setPart p x).notify = s.notify := rfl
@[simp] theorem State.setPart_cat (s : State) (p : Nat) (x : Part) : (s.setPart p x).cat = s.cat := rfl
@[simp] theorem State.setPart_devMap (s : State) (p : Nat) (x : Part) : (s.setPart p x).devMap = s.devMap := rfl
@[simp] theorem State.setPart_routes (s : State) (p : Nat) (x : Part) : (s.setPart p x).routes = s.routes := rfl
@[simp] theorem State.setPart_links (s : State) (p : Nat) (x : Part) : (s.setPart p x).links = s.links := rfl
@[simp] theorem State.setPart_inbox (s : State) (p : Nat) (x : Part) : (s.setPart p x).inbox = s.inbox := rfl
@[simp] theorem State.setPart_waitMsgs (s : State) (p : Nat) (x : Part) : (s.setPart p x).waitMsgs = s.waitMsgs := rfl
@[simp] theorem State.setPart_changes (s : State) (p : Nat) (x : Part) : (s.setPart p x).changes = s.changes := rfl
@[simp] theorem State.setPart_settles (s : State) (p : Nat) (x : Part) : (s.setPart p x).settles = s.settles := rfl
@[simp] theorem State.setPart_fenceNum (s : State) (p : Nat) (x : Part) : (s.setPart p x).fenceNum = s.fenceNum := rfl
@[simp] theorem State.setPart_lostSince (s : State) (p : Nat) (x : Part) : (s.setPart p x).lostSince = s.lostSince :=
  rfl
@[simp] theorem State.setPart_evs (s : State) (p : Nat) (x : Part) : (s.setPart p x).evs = s.evs := rfl
@[simp] theorem State.setPart_folio (s : State) (p : Nat) (x : Part) : (s.setPart p x).folio = s.folio := rfl
@[simp] theorem State.setPart_views (s : State) (p : Nat) (x : Part) : (s.setPart p x).views = s.views := rfl
@[simp] theorem State.setPart_catOpen (s : State) (p : Nat) (x : Part) : (s.setPart p x).catOpen = s.catOpen := rfl
@[simp] theorem State.setPart_catHeld (s : State) (p : Nat) (x : Part) : (s.setPart p x).catHeld = s.catHeld := rfl
@[simp] theorem State.setPart_apb (s : State) (p : Nat) (x : Part) : (s.setPart p x).apb = s.apb := rfl
@[simp] theorem State.setPart_eid (s : State) (p : Nat) (x : Part) : (s.setPart p x).eid = s.eid := rfl
@[simp] theorem State.setPart_flips (s : State) (p : Nat) (x : Part) : (s.setPart p x).flips = s.flips := rfl
@[simp] theorem State.setPart_stuck (s : State) (p : Nat) (x : Part) : (s.setPart p x).stuck = s.stuck := rfl
@[simp] theorem State.setPart_stageFails (s : State) (p : Nat) (x : Part) : (s.setPart p x).stageFails = s.stageFails :=
  rfl
@[simp] theorem State.setPart_stageOut (s : State) (p : Nat) (x : Part) : (s.setPart p x).stageOut = s.stageOut := rfl
@[simp] theorem State.setPart_scrubStart (s : State) (p : Nat) (x : Part) : (s.setPart p x).scrubStart = s.scrubStart :=
  rfl
@[simp] theorem State.setPart_out (s : State) (p : Nat) (x : Part) : (s.setPart p x).out = s.out := rfl
@[simp] theorem State.setPart_free (s : State) (p : Nat) (x : Part) : (s.setPart p x).free = s.free := rfl
@[simp] theorem State.setPart_clock (s : State) (p : Nat) (x : Part) : (s.setPart p x).clock = s.clock := rfl

/-! ### setEv -/

@[simp] theorem State.setEv_pending (s : State) (i : Nat) (x : EvInput) : (s.setEv i x).pending = s.pending := rfl
@[simp] theorem State.setEv_phase (s : State) (i : Nat) (x : EvInput) : (s.setEv i x).phase = s.phase := rfl
@[simp] theorem State.setEv_build (s : State) (i : Nat) (x : EvInput) : (s.setEv i x).build = s.build := rfl
@[simp] theorem State.setEv_device (s : State) (i : Nat) (x : EvInput) : (s.setEv i x).device = s.device := rfl
@[simp] theorem State.setEv_die (s : State) (i : Nat) (x : EvInput) : (s.setEv i x).die = s.die := rfl
@[simp] theorem State.setEv_refSel (s : State) (i : Nat) (x : EvInput) : (s.setEv i x).refSel = s.refSel := rfl
@[simp] theorem State.setEv_time (s : State) (i : Nat) (x : EvInput) : (s.setEv i x).time = s.time := rfl
@[simp] theorem State.setEv_tick (s : State) (i : Nat) (x : EvInput) : (s.setEv i x).tick = s.tick := rfl
@[simp] theorem State.setEv_running (s : State) (i : Nat) (x : EvInput) : (s.setEv i x).running = s.running := rfl
@[simp] theorem State.setEv_refLost (s : State) (i : Nat) (x : EvInput) : (s.setEv i x).refLost = s.refLost := rfl
@[simp] theorem State.setEv_sync (s : State) (i : Nat) (x : EvInput) : (s.setEv i x).sync = s.sync := rfl
@[simp] theorem State.setEv_partCount (s : State) (i : Nat) (x : EvInput) : (s.setEv i x).partCount = s.partCount :=
  rfl
@[simp] theorem State.setEv_parts (s : State) (i : Nat) (x : EvInput) : (s.setEv i x).parts = s.parts := rfl
@[simp] theorem State.setEv_reslice (s : State) (i : Nat) (x : EvInput) : (s.setEv i x).reslice = s.reslice := rfl
@[simp] theorem State.setEv_objs (s : State) (i : Nat) (x : EvInput) : (s.setEv i x).objs = s.objs := rfl
@[simp] theorem State.setEv_wideBits (s : State) (i : Nat) (x : EvInput) : (s.setEv i x).wideBits = s.wideBits := rfl
@[simp] theorem State.setEv_waiters (s : State) (i : Nat) (x : EvInput) : (s.setEv i x).waiters = s.waiters := rfl
@[simp] theorem State.setEv_lenders (s : State) (i : Nat) (x : EvInput) : (s.setEv i x).lenders = s.lenders := rfl
@[simp] theorem State.setEv_ledgers (s : State) (i : Nat) (x : EvInput) : (s.setEv i x).ledgers = s.ledgers := rfl
@[simp] theorem State.setEv_loanSeq (s : State) (i : Nat) (x : EvInput) : (s.setEv i x).loanSeq = s.loanSeq := rfl
@[simp] theorem State.setEv_ports (s : State) (i : Nat) (x : EvInput) : (s.setEv i x).ports = s.ports := rfl
@[simp] theorem State.setEv_slots (s : State) (i : Nat) (x : EvInput) : (s.setEv i x).slots = s.slots := rfl
@[simp] theorem State.setEv_rets (s : State) (i : Nat) (x : EvInput) : (s.setEv i x).rets = s.rets := rfl
@[simp] theorem State.setEv_buffered (s : State) (i : Nat) (x : EvInput) : (s.setEv i x).buffered = s.buffered := rfl
@[simp] theorem State.setEv_mgr (s : State) (i : Nat) (x : EvInput) : (s.setEv i x).mgr = s.mgr := rfl
@[simp] theorem State.setEv_notify (s : State) (i : Nat) (x : EvInput) : (s.setEv i x).notify = s.notify := rfl
@[simp] theorem State.setEv_cat (s : State) (i : Nat) (x : EvInput) : (s.setEv i x).cat = s.cat := rfl
@[simp] theorem State.setEv_devMap (s : State) (i : Nat) (x : EvInput) : (s.setEv i x).devMap = s.devMap := rfl
@[simp] theorem State.setEv_routes (s : State) (i : Nat) (x : EvInput) : (s.setEv i x).routes = s.routes := rfl
@[simp] theorem State.setEv_links (s : State) (i : Nat) (x : EvInput) : (s.setEv i x).links = s.links := rfl
@[simp] theorem State.setEv_inbox (s : State) (i : Nat) (x : EvInput) : (s.setEv i x).inbox = s.inbox := rfl
@[simp] theorem State.setEv_waitMsgs (s : State) (i : Nat) (x : EvInput) : (s.setEv i x).waitMsgs = s.waitMsgs := rfl
@[simp] theorem State.setEv_changes (s : State) (i : Nat) (x : EvInput) : (s.setEv i x).changes = s.changes := rfl
@[simp] theorem State.setEv_settles (s : State) (i : Nat) (x : EvInput) : (s.setEv i x).settles = s.settles := rfl
@[simp] theorem State.setEv_fenceNum (s : State) (i : Nat) (x : EvInput) : (s.setEv i x).fenceNum = s.fenceNum := rfl
@[simp] theorem State.setEv_lostSince (s : State) (i : Nat) (x : EvInput) : (s.setEv i x).lostSince = s.lostSince :=
  rfl
@[simp] theorem State.setEv_folio (s : State) (i : Nat) (x : EvInput) : (s.setEv i x).folio = s.folio := rfl
@[simp] theorem State.setEv_views (s : State) (i : Nat) (x : EvInput) : (s.setEv i x).views = s.views := rfl
@[simp] theorem State.setEv_catOpen (s : State) (i : Nat) (x : EvInput) : (s.setEv i x).catOpen = s.catOpen := rfl
@[simp] theorem State.setEv_catHeld (s : State) (i : Nat) (x : EvInput) : (s.setEv i x).catHeld = s.catHeld := rfl
@[simp] theorem State.setEv_apb (s : State) (i : Nat) (x : EvInput) : (s.setEv i x).apb = s.apb := rfl
@[simp] theorem State.setEv_eid (s : State) (i : Nat) (x : EvInput) : (s.setEv i x).eid = s.eid := rfl
@[simp] theorem State.setEv_flips (s : State) (i : Nat) (x : EvInput) : (s.setEv i x).flips = s.flips := rfl
@[simp] theorem State.setEv_stuck (s : State) (i : Nat) (x : EvInput) : (s.setEv i x).stuck = s.stuck := rfl
@[simp] theorem State.setEv_stageFails (s : State) (i : Nat) (x : EvInput) : (s.setEv i x).stageFails = s.stageFails :=
  rfl
@[simp] theorem State.setEv_stageOut (s : State) (i : Nat) (x : EvInput) : (s.setEv i x).stageOut = s.stageOut := rfl
@[simp] theorem State.setEv_scrubStart (s : State) (i : Nat) (x : EvInput) : (s.setEv i x).scrubStart = s.scrubStart :=
  rfl
@[simp] theorem State.setEv_out (s : State) (i : Nat) (x : EvInput) : (s.setEv i x).out = s.out := rfl
@[simp] theorem State.setEv_free (s : State) (i : Nat) (x : EvInput) : (s.setEv i x).free = s.free := rfl
@[simp] theorem State.setEv_clock (s : State) (i : Nat) (x : EvInput) : (s.setEv i x).clock = s.clock := rfl

/-! ### setView -/

@[simp] theorem State.setView_pending (s : State) (w : Nat) (x : View) : (s.setView w x).pending = s.pending := rfl
@[simp] theorem State.setView_phase (s : State) (w : Nat) (x : View) : (s.setView w x).phase = s.phase := rfl
@[simp] theorem State.setView_build (s : State) (w : Nat) (x : View) : (s.setView w x).build = s.build := rfl
@[simp] theorem State.setView_device (s : State) (w : Nat) (x : View) : (s.setView w x).device = s.device := rfl
@[simp] theorem State.setView_die (s : State) (w : Nat) (x : View) : (s.setView w x).die = s.die := rfl
@[simp] theorem State.setView_refSel (s : State) (w : Nat) (x : View) : (s.setView w x).refSel = s.refSel := rfl
@[simp] theorem State.setView_time (s : State) (w : Nat) (x : View) : (s.setView w x).time = s.time := rfl
@[simp] theorem State.setView_tick (s : State) (w : Nat) (x : View) : (s.setView w x).tick = s.tick := rfl
@[simp] theorem State.setView_running (s : State) (w : Nat) (x : View) : (s.setView w x).running = s.running := rfl
@[simp] theorem State.setView_refLost (s : State) (w : Nat) (x : View) : (s.setView w x).refLost = s.refLost := rfl
@[simp] theorem State.setView_sync (s : State) (w : Nat) (x : View) : (s.setView w x).sync = s.sync := rfl
@[simp] theorem State.setView_partCount (s : State) (w : Nat) (x : View) : (s.setView w x).partCount = s.partCount :=
  rfl
@[simp] theorem State.setView_parts (s : State) (w : Nat) (x : View) : (s.setView w x).parts = s.parts := rfl
@[simp] theorem State.setView_reslice (s : State) (w : Nat) (x : View) : (s.setView w x).reslice = s.reslice := rfl
@[simp] theorem State.setView_objs (s : State) (w : Nat) (x : View) : (s.setView w x).objs = s.objs := rfl
@[simp] theorem State.setView_wideBits (s : State) (w : Nat) (x : View) : (s.setView w x).wideBits = s.wideBits := rfl
@[simp] theorem State.setView_waiters (s : State) (w : Nat) (x : View) : (s.setView w x).waiters = s.waiters := rfl
@[simp] theorem State.setView_lenders (s : State) (w : Nat) (x : View) : (s.setView w x).lenders = s.lenders := rfl
@[simp] theorem State.setView_ledgers (s : State) (w : Nat) (x : View) : (s.setView w x).ledgers = s.ledgers := rfl
@[simp] theorem State.setView_loanSeq (s : State) (w : Nat) (x : View) : (s.setView w x).loanSeq = s.loanSeq := rfl
@[simp] theorem State.setView_ports (s : State) (w : Nat) (x : View) : (s.setView w x).ports = s.ports := rfl
@[simp] theorem State.setView_slots (s : State) (w : Nat) (x : View) : (s.setView w x).slots = s.slots := rfl
@[simp] theorem State.setView_rets (s : State) (w : Nat) (x : View) : (s.setView w x).rets = s.rets := rfl
@[simp] theorem State.setView_buffered (s : State) (w : Nat) (x : View) : (s.setView w x).buffered = s.buffered := rfl
@[simp] theorem State.setView_mgr (s : State) (w : Nat) (x : View) : (s.setView w x).mgr = s.mgr := rfl
@[simp] theorem State.setView_notify (s : State) (w : Nat) (x : View) : (s.setView w x).notify = s.notify := rfl
@[simp] theorem State.setView_cat (s : State) (w : Nat) (x : View) : (s.setView w x).cat = s.cat := rfl
@[simp] theorem State.setView_devMap (s : State) (w : Nat) (x : View) : (s.setView w x).devMap = s.devMap := rfl
@[simp] theorem State.setView_routes (s : State) (w : Nat) (x : View) : (s.setView w x).routes = s.routes := rfl
@[simp] theorem State.setView_links (s : State) (w : Nat) (x : View) : (s.setView w x).links = s.links := rfl
@[simp] theorem State.setView_inbox (s : State) (w : Nat) (x : View) : (s.setView w x).inbox = s.inbox := rfl
@[simp] theorem State.setView_waitMsgs (s : State) (w : Nat) (x : View) : (s.setView w x).waitMsgs = s.waitMsgs := rfl
@[simp] theorem State.setView_changes (s : State) (w : Nat) (x : View) : (s.setView w x).changes = s.changes := rfl
@[simp] theorem State.setView_settles (s : State) (w : Nat) (x : View) : (s.setView w x).settles = s.settles := rfl
@[simp] theorem State.setView_fenceNum (s : State) (w : Nat) (x : View) : (s.setView w x).fenceNum = s.fenceNum := rfl
@[simp] theorem State.setView_lostSince (s : State) (w : Nat) (x : View) : (s.setView w x).lostSince = s.lostSince :=
  rfl
@[simp] theorem State.setView_evs (s : State) (w : Nat) (x : View) : (s.setView w x).evs = s.evs := rfl
@[simp] theorem State.setView_folio (s : State) (w : Nat) (x : View) : (s.setView w x).folio = s.folio := rfl
@[simp] theorem State.setView_catOpen (s : State) (w : Nat) (x : View) : (s.setView w x).catOpen = s.catOpen := rfl
@[simp] theorem State.setView_catHeld (s : State) (w : Nat) (x : View) : (s.setView w x).catHeld = s.catHeld := rfl
@[simp] theorem State.setView_apb (s : State) (w : Nat) (x : View) : (s.setView w x).apb = s.apb := rfl
@[simp] theorem State.setView_eid (s : State) (w : Nat) (x : View) : (s.setView w x).eid = s.eid := rfl
@[simp] theorem State.setView_flips (s : State) (w : Nat) (x : View) : (s.setView w x).flips = s.flips := rfl
@[simp] theorem State.setView_stuck (s : State) (w : Nat) (x : View) : (s.setView w x).stuck = s.stuck := rfl
@[simp] theorem State.setView_stageFails (s : State) (w : Nat) (x : View) : (s.setView w x).stageFails = s.stageFails :=
  rfl
@[simp] theorem State.setView_stageOut (s : State) (w : Nat) (x : View) : (s.setView w x).stageOut = s.stageOut := rfl
@[simp] theorem State.setView_scrubStart (s : State) (w : Nat) (x : View) : (s.setView w x).scrubStart = s.scrubStart :=
  rfl
@[simp] theorem State.setView_out (s : State) (w : Nat) (x : View) : (s.setView w x).out = s.out := rfl
@[simp] theorem State.setView_free (s : State) (w : Nat) (x : View) : (s.setView w x).free = s.free := rfl
@[simp] theorem State.setView_clock (s : State) (w : Nat) (x : View) : (s.setView w x).clock = s.clock := rfl

/-! ### setRing -/

@[simp] theorem State.setRing_pending (s : State) (r : Nat) (x : NotifyRing) : (s.setRing r x).pending = s.pending :=
  rfl
@[simp] theorem State.setRing_phase (s : State) (r : Nat) (x : NotifyRing) : (s.setRing r x).phase = s.phase := rfl
@[simp] theorem State.setRing_build (s : State) (r : Nat) (x : NotifyRing) : (s.setRing r x).build = s.build := rfl
@[simp] theorem State.setRing_device (s : State) (r : Nat) (x : NotifyRing) : (s.setRing r x).device = s.device := rfl
@[simp] theorem State.setRing_die (s : State) (r : Nat) (x : NotifyRing) : (s.setRing r x).die = s.die := rfl
@[simp] theorem State.setRing_refSel (s : State) (r : Nat) (x : NotifyRing) : (s.setRing r x).refSel = s.refSel := rfl
@[simp] theorem State.setRing_time (s : State) (r : Nat) (x : NotifyRing) : (s.setRing r x).time = s.time := rfl
@[simp] theorem State.setRing_tick (s : State) (r : Nat) (x : NotifyRing) : (s.setRing r x).tick = s.tick := rfl
@[simp] theorem State.setRing_running (s : State) (r : Nat) (x : NotifyRing) : (s.setRing r x).running = s.running :=
  rfl
@[simp] theorem State.setRing_refLost (s : State) (r : Nat) (x : NotifyRing) : (s.setRing r x).refLost = s.refLost :=
  rfl
@[simp] theorem State.setRing_sync (s : State) (r : Nat) (x : NotifyRing) : (s.setRing r x).sync = s.sync := rfl
@[simp] theorem State.setRing_partCount (s : State) (r : Nat) (x : NotifyRing) : (s.setRing r x).partCount = s.partCount :=
  rfl
@[simp] theorem State.setRing_parts (s : State) (r : Nat) (x : NotifyRing) : (s.setRing r x).parts = s.parts := rfl
@[simp] theorem State.setRing_reslice (s : State) (r : Nat) (x : NotifyRing) : (s.setRing r x).reslice = s.reslice :=
  rfl
@[simp] theorem State.setRing_objs (s : State) (r : Nat) (x : NotifyRing) : (s.setRing r x).objs = s.objs := rfl
@[simp] theorem State.setRing_wideBits (s : State) (r : Nat) (x : NotifyRing) : (s.setRing r x).wideBits = s.wideBits :=
  rfl
@[simp] theorem State.setRing_waiters (s : State) (r : Nat) (x : NotifyRing) : (s.setRing r x).waiters = s.waiters :=
  rfl
@[simp] theorem State.setRing_lenders (s : State) (r : Nat) (x : NotifyRing) : (s.setRing r x).lenders = s.lenders :=
  rfl
@[simp] theorem State.setRing_ledgers (s : State) (r : Nat) (x : NotifyRing) : (s.setRing r x).ledgers = s.ledgers :=
  rfl
@[simp] theorem State.setRing_loanSeq (s : State) (r : Nat) (x : NotifyRing) : (s.setRing r x).loanSeq = s.loanSeq :=
  rfl
@[simp] theorem State.setRing_ports (s : State) (r : Nat) (x : NotifyRing) : (s.setRing r x).ports = s.ports := rfl
@[simp] theorem State.setRing_slots (s : State) (r : Nat) (x : NotifyRing) : (s.setRing r x).slots = s.slots := rfl
@[simp] theorem State.setRing_rets (s : State) (r : Nat) (x : NotifyRing) : (s.setRing r x).rets = s.rets := rfl
@[simp] theorem State.setRing_buffered (s : State) (r : Nat) (x : NotifyRing) : (s.setRing r x).buffered = s.buffered :=
  rfl
@[simp] theorem State.setRing_mgr (s : State) (r : Nat) (x : NotifyRing) : (s.setRing r x).mgr = s.mgr := rfl
@[simp] theorem State.setRing_cat (s : State) (r : Nat) (x : NotifyRing) : (s.setRing r x).cat = s.cat := rfl
@[simp] theorem State.setRing_devMap (s : State) (r : Nat) (x : NotifyRing) : (s.setRing r x).devMap = s.devMap := rfl
@[simp] theorem State.setRing_routes (s : State) (r : Nat) (x : NotifyRing) : (s.setRing r x).routes = s.routes := rfl
@[simp] theorem State.setRing_links (s : State) (r : Nat) (x : NotifyRing) : (s.setRing r x).links = s.links := rfl
@[simp] theorem State.setRing_inbox (s : State) (r : Nat) (x : NotifyRing) : (s.setRing r x).inbox = s.inbox := rfl
@[simp] theorem State.setRing_waitMsgs (s : State) (r : Nat) (x : NotifyRing) : (s.setRing r x).waitMsgs = s.waitMsgs :=
  rfl
@[simp] theorem State.setRing_changes (s : State) (r : Nat) (x : NotifyRing) : (s.setRing r x).changes = s.changes :=
  rfl
@[simp] theorem State.setRing_settles (s : State) (r : Nat) (x : NotifyRing) : (s.setRing r x).settles = s.settles :=
  rfl
@[simp] theorem State.setRing_fenceNum (s : State) (r : Nat) (x : NotifyRing) : (s.setRing r x).fenceNum = s.fenceNum :=
  rfl
@[simp] theorem State.setRing_lostSince (s : State) (r : Nat) (x : NotifyRing) : (s.setRing r x).lostSince = s.lostSince :=
  rfl
@[simp] theorem State.setRing_evs (s : State) (r : Nat) (x : NotifyRing) : (s.setRing r x).evs = s.evs := rfl
@[simp] theorem State.setRing_folio (s : State) (r : Nat) (x : NotifyRing) : (s.setRing r x).folio = s.folio := rfl
@[simp] theorem State.setRing_views (s : State) (r : Nat) (x : NotifyRing) : (s.setRing r x).views = s.views := rfl
@[simp] theorem State.setRing_catOpen (s : State) (r : Nat) (x : NotifyRing) : (s.setRing r x).catOpen = s.catOpen :=
  rfl
@[simp] theorem State.setRing_catHeld (s : State) (r : Nat) (x : NotifyRing) : (s.setRing r x).catHeld = s.catHeld :=
  rfl
@[simp] theorem State.setRing_apb (s : State) (r : Nat) (x : NotifyRing) : (s.setRing r x).apb = s.apb := rfl
@[simp] theorem State.setRing_eid (s : State) (r : Nat) (x : NotifyRing) : (s.setRing r x).eid = s.eid := rfl
@[simp] theorem State.setRing_flips (s : State) (r : Nat) (x : NotifyRing) : (s.setRing r x).flips = s.flips := rfl
@[simp] theorem State.setRing_stuck (s : State) (r : Nat) (x : NotifyRing) : (s.setRing r x).stuck = s.stuck := rfl
@[simp] theorem State.setRing_stageFails (s : State) (r : Nat) (x : NotifyRing) : (s.setRing r x).stageFails = s.stageFails :=
  rfl
@[simp] theorem State.setRing_stageOut (s : State) (r : Nat) (x : NotifyRing) : (s.setRing r x).stageOut = s.stageOut :=
  rfl
@[simp] theorem State.setRing_scrubStart (s : State) (r : Nat) (x : NotifyRing) : (s.setRing r x).scrubStart = s.scrubStart :=
  rfl
@[simp] theorem State.setRing_out (s : State) (r : Nat) (x : NotifyRing) : (s.setRing r x).out = s.out := rfl
@[simp] theorem State.setRing_free (s : State) (r : Nat) (x : NotifyRing) : (s.setRing r x).free = s.free := rfl
@[simp] theorem State.setRing_clock (s : State) (r : Nat) (x : NotifyRing) : (s.setRing r x).clock = s.clock := rfl

/-! ### setWideBit -/

@[simp] theorem State.setWideBit_pending (s : State) (i : Nat) (b : Bool) : (s.setWideBit i b).pending = s.pending :=
  rfl
@[simp] theorem State.setWideBit_phase (s : State) (i : Nat) (b : Bool) : (s.setWideBit i b).phase = s.phase := rfl
@[simp] theorem State.setWideBit_build (s : State) (i : Nat) (b : Bool) : (s.setWideBit i b).build = s.build := rfl
@[simp] theorem State.setWideBit_device (s : State) (i : Nat) (b : Bool) : (s.setWideBit i b).device = s.device := rfl
@[simp] theorem State.setWideBit_die (s : State) (i : Nat) (b : Bool) : (s.setWideBit i b).die = s.die := rfl
@[simp] theorem State.setWideBit_refSel (s : State) (i : Nat) (b : Bool) : (s.setWideBit i b).refSel = s.refSel := rfl
@[simp] theorem State.setWideBit_time (s : State) (i : Nat) (b : Bool) : (s.setWideBit i b).time = s.time := rfl
@[simp] theorem State.setWideBit_tick (s : State) (i : Nat) (b : Bool) : (s.setWideBit i b).tick = s.tick := rfl
@[simp] theorem State.setWideBit_running (s : State) (i : Nat) (b : Bool) : (s.setWideBit i b).running = s.running :=
  rfl
@[simp] theorem State.setWideBit_refLost (s : State) (i : Nat) (b : Bool) : (s.setWideBit i b).refLost = s.refLost :=
  rfl
@[simp] theorem State.setWideBit_sync (s : State) (i : Nat) (b : Bool) : (s.setWideBit i b).sync = s.sync := rfl
@[simp] theorem State.setWideBit_partCount (s : State) (i : Nat) (b : Bool) : (s.setWideBit i b).partCount = s.partCount :=
  rfl
@[simp] theorem State.setWideBit_parts (s : State) (i : Nat) (b : Bool) : (s.setWideBit i b).parts = s.parts := rfl
@[simp] theorem State.setWideBit_reslice (s : State) (i : Nat) (b : Bool) : (s.setWideBit i b).reslice = s.reslice :=
  rfl
@[simp] theorem State.setWideBit_objs (s : State) (i : Nat) (b : Bool) : (s.setWideBit i b).objs = s.objs := rfl
@[simp] theorem State.setWideBit_waiters (s : State) (i : Nat) (b : Bool) : (s.setWideBit i b).waiters = s.waiters :=
  rfl
@[simp] theorem State.setWideBit_lenders (s : State) (i : Nat) (b : Bool) : (s.setWideBit i b).lenders = s.lenders :=
  rfl
@[simp] theorem State.setWideBit_ledgers (s : State) (i : Nat) (b : Bool) : (s.setWideBit i b).ledgers = s.ledgers :=
  rfl
@[simp] theorem State.setWideBit_loanSeq (s : State) (i : Nat) (b : Bool) : (s.setWideBit i b).loanSeq = s.loanSeq :=
  rfl
@[simp] theorem State.setWideBit_ports (s : State) (i : Nat) (b : Bool) : (s.setWideBit i b).ports = s.ports := rfl
@[simp] theorem State.setWideBit_slots (s : State) (i : Nat) (b : Bool) : (s.setWideBit i b).slots = s.slots := rfl
@[simp] theorem State.setWideBit_rets (s : State) (i : Nat) (b : Bool) : (s.setWideBit i b).rets = s.rets := rfl
@[simp] theorem State.setWideBit_buffered (s : State) (i : Nat) (b : Bool) : (s.setWideBit i b).buffered = s.buffered :=
  rfl
@[simp] theorem State.setWideBit_mgr (s : State) (i : Nat) (b : Bool) : (s.setWideBit i b).mgr = s.mgr := rfl
@[simp] theorem State.setWideBit_notify (s : State) (i : Nat) (b : Bool) : (s.setWideBit i b).notify = s.notify := rfl
@[simp] theorem State.setWideBit_cat (s : State) (i : Nat) (b : Bool) : (s.setWideBit i b).cat = s.cat := rfl
@[simp] theorem State.setWideBit_devMap (s : State) (i : Nat) (b : Bool) : (s.setWideBit i b).devMap = s.devMap := rfl
@[simp] theorem State.setWideBit_routes (s : State) (i : Nat) (b : Bool) : (s.setWideBit i b).routes = s.routes := rfl
@[simp] theorem State.setWideBit_links (s : State) (i : Nat) (b : Bool) : (s.setWideBit i b).links = s.links := rfl
@[simp] theorem State.setWideBit_inbox (s : State) (i : Nat) (b : Bool) : (s.setWideBit i b).inbox = s.inbox := rfl
@[simp] theorem State.setWideBit_waitMsgs (s : State) (i : Nat) (b : Bool) : (s.setWideBit i b).waitMsgs = s.waitMsgs :=
  rfl
@[simp] theorem State.setWideBit_changes (s : State) (i : Nat) (b : Bool) : (s.setWideBit i b).changes = s.changes :=
  rfl
@[simp] theorem State.setWideBit_settles (s : State) (i : Nat) (b : Bool) : (s.setWideBit i b).settles = s.settles :=
  rfl
@[simp] theorem State.setWideBit_fenceNum (s : State) (i : Nat) (b : Bool) : (s.setWideBit i b).fenceNum = s.fenceNum :=
  rfl
@[simp] theorem State.setWideBit_lostSince (s : State) (i : Nat) (b : Bool) : (s.setWideBit i b).lostSince = s.lostSince :=
  rfl
@[simp] theorem State.setWideBit_evs (s : State) (i : Nat) (b : Bool) : (s.setWideBit i b).evs = s.evs := rfl
@[simp] theorem State.setWideBit_folio (s : State) (i : Nat) (b : Bool) : (s.setWideBit i b).folio = s.folio := rfl
@[simp] theorem State.setWideBit_views (s : State) (i : Nat) (b : Bool) : (s.setWideBit i b).views = s.views := rfl
@[simp] theorem State.setWideBit_catOpen (s : State) (i : Nat) (b : Bool) : (s.setWideBit i b).catOpen = s.catOpen :=
  rfl
@[simp] theorem State.setWideBit_catHeld (s : State) (i : Nat) (b : Bool) : (s.setWideBit i b).catHeld = s.catHeld :=
  rfl
@[simp] theorem State.setWideBit_apb (s : State) (i : Nat) (b : Bool) : (s.setWideBit i b).apb = s.apb := rfl
@[simp] theorem State.setWideBit_eid (s : State) (i : Nat) (b : Bool) : (s.setWideBit i b).eid = s.eid := rfl
@[simp] theorem State.setWideBit_flips (s : State) (i : Nat) (b : Bool) : (s.setWideBit i b).flips = s.flips := rfl
@[simp] theorem State.setWideBit_stuck (s : State) (i : Nat) (b : Bool) : (s.setWideBit i b).stuck = s.stuck := rfl
@[simp] theorem State.setWideBit_stageFails (s : State) (i : Nat) (b : Bool) : (s.setWideBit i b).stageFails = s.stageFails :=
  rfl
@[simp] theorem State.setWideBit_stageOut (s : State) (i : Nat) (b : Bool) : (s.setWideBit i b).stageOut = s.stageOut :=
  rfl
@[simp] theorem State.setWideBit_scrubStart (s : State) (i : Nat) (b : Bool) : (s.setWideBit i b).scrubStart = s.scrubStart :=
  rfl
@[simp] theorem State.setWideBit_out (s : State) (i : Nat) (b : Bool) : (s.setWideBit i b).out = s.out := rfl
@[simp] theorem State.setWideBit_free (s : State) (i : Nat) (b : Bool) : (s.setWideBit i b).free = s.free := rfl
@[simp] theorem State.setWideBit_clock (s : State) (i : Nat) (b : Bool) : (s.setWideBit i b).clock = s.clock := rfl

/-! ### setCfg -/

@[simp] theorem State.setCfg_pending (s : State) (index sub part v : Nat) : (s.setCfg index sub part v).pending = s.pending :=
  rfl
@[simp] theorem State.setCfg_phase (s : State) (index sub part v : Nat) : (s.setCfg index sub part v).phase = s.phase :=
  rfl
@[simp] theorem State.setCfg_build (s : State) (index sub part v : Nat) : (s.setCfg index sub part v).build = s.build :=
  rfl
@[simp] theorem State.setCfg_device (s : State) (index sub part v : Nat) : (s.setCfg index sub part v).device = s.device :=
  rfl
@[simp] theorem State.setCfg_die (s : State) (index sub part v : Nat) : (s.setCfg index sub part v).die = s.die := rfl
@[simp] theorem State.setCfg_refSel (s : State) (index sub part v : Nat) : (s.setCfg index sub part v).refSel = s.refSel :=
  rfl
@[simp] theorem State.setCfg_time (s : State) (index sub part v : Nat) : (s.setCfg index sub part v).time = s.time :=
  rfl
@[simp] theorem State.setCfg_tick (s : State) (index sub part v : Nat) : (s.setCfg index sub part v).tick = s.tick :=
  rfl
@[simp] theorem State.setCfg_running (s : State) (index sub part v : Nat) : (s.setCfg index sub part v).running = s.running :=
  rfl
@[simp] theorem State.setCfg_refLost (s : State) (index sub part v : Nat) : (s.setCfg index sub part v).refLost = s.refLost :=
  rfl
@[simp] theorem State.setCfg_sync (s : State) (index sub part v : Nat) : (s.setCfg index sub part v).sync = s.sync :=
  rfl
@[simp] theorem State.setCfg_partCount (s : State) (index sub part v : Nat) : (s.setCfg index sub part v).partCount = s.partCount :=
  rfl
@[simp] theorem State.setCfg_parts (s : State) (index sub part v : Nat) : (s.setCfg index sub part v).parts = s.parts :=
  rfl
@[simp] theorem State.setCfg_reslice (s : State) (index sub part v : Nat) : (s.setCfg index sub part v).reslice = s.reslice :=
  rfl
@[simp] theorem State.setCfg_objs (s : State) (index sub part v : Nat) : (s.setCfg index sub part v).objs = s.objs :=
  rfl
@[simp] theorem State.setCfg_wideBits (s : State) (index sub part v : Nat) : (s.setCfg index sub part v).wideBits = s.wideBits :=
  rfl
@[simp] theorem State.setCfg_waiters (s : State) (index sub part v : Nat) : (s.setCfg index sub part v).waiters = s.waiters :=
  rfl
@[simp] theorem State.setCfg_lenders (s : State) (index sub part v : Nat) : (s.setCfg index sub part v).lenders = s.lenders :=
  rfl
@[simp] theorem State.setCfg_ledgers (s : State) (index sub part v : Nat) : (s.setCfg index sub part v).ledgers = s.ledgers :=
  rfl
@[simp] theorem State.setCfg_loanSeq (s : State) (index sub part v : Nat) : (s.setCfg index sub part v).loanSeq = s.loanSeq :=
  rfl
@[simp] theorem State.setCfg_ports (s : State) (index sub part v : Nat) : (s.setCfg index sub part v).ports = s.ports :=
  rfl
@[simp] theorem State.setCfg_slots (s : State) (index sub part v : Nat) : (s.setCfg index sub part v).slots = s.slots :=
  rfl
@[simp] theorem State.setCfg_rets (s : State) (index sub part v : Nat) : (s.setCfg index sub part v).rets = s.rets :=
  rfl
@[simp] theorem State.setCfg_buffered (s : State) (index sub part v : Nat) : (s.setCfg index sub part v).buffered = s.buffered :=
  rfl
@[simp] theorem State.setCfg_mgr (s : State) (index sub part v : Nat) : (s.setCfg index sub part v).mgr = s.mgr := rfl
@[simp] theorem State.setCfg_notify (s : State) (index sub part v : Nat) : (s.setCfg index sub part v).notify = s.notify :=
  rfl
@[simp] theorem State.setCfg_devMap (s : State) (index sub part v : Nat) : (s.setCfg index sub part v).devMap = s.devMap :=
  rfl
@[simp] theorem State.setCfg_routes (s : State) (index sub part v : Nat) : (s.setCfg index sub part v).routes = s.routes :=
  rfl
@[simp] theorem State.setCfg_links (s : State) (index sub part v : Nat) : (s.setCfg index sub part v).links = s.links :=
  rfl
@[simp] theorem State.setCfg_inbox (s : State) (index sub part v : Nat) : (s.setCfg index sub part v).inbox = s.inbox :=
  rfl
@[simp] theorem State.setCfg_waitMsgs (s : State) (index sub part v : Nat) : (s.setCfg index sub part v).waitMsgs = s.waitMsgs :=
  rfl
@[simp] theorem State.setCfg_changes (s : State) (index sub part v : Nat) : (s.setCfg index sub part v).changes = s.changes :=
  rfl
@[simp] theorem State.setCfg_settles (s : State) (index sub part v : Nat) : (s.setCfg index sub part v).settles = s.settles :=
  rfl
@[simp] theorem State.setCfg_fenceNum (s : State) (index sub part v : Nat) : (s.setCfg index sub part v).fenceNum = s.fenceNum :=
  rfl
@[simp] theorem State.setCfg_lostSince (s : State) (index sub part v : Nat) : (s.setCfg index sub part v).lostSince = s.lostSince :=
  rfl
@[simp] theorem State.setCfg_evs (s : State) (index sub part v : Nat) : (s.setCfg index sub part v).evs = s.evs := rfl
@[simp] theorem State.setCfg_folio (s : State) (index sub part v : Nat) : (s.setCfg index sub part v).folio = s.folio :=
  rfl
@[simp] theorem State.setCfg_views (s : State) (index sub part v : Nat) : (s.setCfg index sub part v).views = s.views :=
  rfl
@[simp] theorem State.setCfg_catOpen (s : State) (index sub part v : Nat) : (s.setCfg index sub part v).catOpen = s.catOpen :=
  rfl
@[simp] theorem State.setCfg_catHeld (s : State) (index sub part v : Nat) : (s.setCfg index sub part v).catHeld = s.catHeld :=
  rfl
@[simp] theorem State.setCfg_apb (s : State) (index sub part v : Nat) : (s.setCfg index sub part v).apb = s.apb := rfl
@[simp] theorem State.setCfg_eid (s : State) (index sub part v : Nat) : (s.setCfg index sub part v).eid = s.eid := rfl
@[simp] theorem State.setCfg_flips (s : State) (index sub part v : Nat) : (s.setCfg index sub part v).flips = s.flips :=
  rfl
@[simp] theorem State.setCfg_stuck (s : State) (index sub part v : Nat) : (s.setCfg index sub part v).stuck = s.stuck :=
  rfl
@[simp] theorem State.setCfg_stageFails (s : State) (index sub part v : Nat) : (s.setCfg index sub part v).stageFails = s.stageFails :=
  rfl
@[simp] theorem State.setCfg_stageOut (s : State) (index sub part v : Nat) : (s.setCfg index sub part v).stageOut = s.stageOut :=
  rfl
@[simp] theorem State.setCfg_scrubStart (s : State) (index sub part v : Nat) : (s.setCfg index sub part v).scrubStart = s.scrubStart :=
  rfl
@[simp] theorem State.setCfg_out (s : State) (index sub part v : Nat) : (s.setCfg index sub part v).out = s.out := rfl
@[simp] theorem State.setCfg_free (s : State) (index sub part v : Nat) : (s.setCfg index sub part v).free = s.free :=
  rfl
@[simp] theorem State.setCfg_clock (s : State) (index sub part v : Nat) : (s.setCfg index sub part v).clock = s.clock :=
  rfl

/-! ### fresh -/

@[simp] theorem State.fresh_pending (s : State) : (s.fresh).pending = s.pending := rfl
@[simp] theorem State.fresh_phase (s : State) : (s.fresh).phase = s.phase := rfl
@[simp] theorem State.fresh_build (s : State) : (s.fresh).build = s.build := rfl
@[simp] theorem State.fresh_device (s : State) : (s.fresh).device = s.device := rfl
@[simp] theorem State.fresh_die (s : State) : (s.fresh).die = s.die := rfl
@[simp] theorem State.fresh_refSel (s : State) : (s.fresh).refSel = s.refSel := rfl
@[simp] theorem State.fresh_time (s : State) : (s.fresh).time = s.time := rfl
@[simp] theorem State.fresh_tick (s : State) : (s.fresh).tick = s.tick := rfl
@[simp] theorem State.fresh_running (s : State) : (s.fresh).running = s.running := rfl
@[simp] theorem State.fresh_refLost (s : State) : (s.fresh).refLost = s.refLost := rfl
@[simp] theorem State.fresh_sync (s : State) : (s.fresh).sync = s.sync := rfl
@[simp] theorem State.fresh_partCount (s : State) : (s.fresh).partCount = s.partCount := rfl
@[simp] theorem State.fresh_parts (s : State) : (s.fresh).parts = s.parts := rfl
@[simp] theorem State.fresh_reslice (s : State) : (s.fresh).reslice = s.reslice := rfl
@[simp] theorem State.fresh_objs (s : State) : (s.fresh).objs = s.objs := rfl
@[simp] theorem State.fresh_wideBits (s : State) : (s.fresh).wideBits = s.wideBits := rfl
@[simp] theorem State.fresh_waiters (s : State) : (s.fresh).waiters = s.waiters := rfl
@[simp] theorem State.fresh_lenders (s : State) : (s.fresh).lenders = s.lenders := rfl
@[simp] theorem State.fresh_ledgers (s : State) : (s.fresh).ledgers = s.ledgers := rfl
@[simp] theorem State.fresh_loanSeq (s : State) : (s.fresh).loanSeq = s.loanSeq := rfl
@[simp] theorem State.fresh_ports (s : State) : (s.fresh).ports = s.ports := rfl
@[simp] theorem State.fresh_slots (s : State) : (s.fresh).slots = s.slots := rfl
@[simp] theorem State.fresh_rets (s : State) : (s.fresh).rets = s.rets := rfl
@[simp] theorem State.fresh_buffered (s : State) : (s.fresh).buffered = s.buffered := rfl
@[simp] theorem State.fresh_mgr (s : State) : (s.fresh).mgr = s.mgr := rfl
@[simp] theorem State.fresh_notify (s : State) : (s.fresh).notify = s.notify := rfl
@[simp] theorem State.fresh_cat (s : State) : (s.fresh).cat = s.cat := rfl
@[simp] theorem State.fresh_devMap (s : State) : (s.fresh).devMap = s.devMap := rfl
@[simp] theorem State.fresh_routes (s : State) : (s.fresh).routes = s.routes := rfl
@[simp] theorem State.fresh_links (s : State) : (s.fresh).links = s.links := rfl
@[simp] theorem State.fresh_inbox (s : State) : (s.fresh).inbox = s.inbox := rfl
@[simp] theorem State.fresh_waitMsgs (s : State) : (s.fresh).waitMsgs = s.waitMsgs := rfl
@[simp] theorem State.fresh_changes (s : State) : (s.fresh).changes = s.changes := rfl
@[simp] theorem State.fresh_settles (s : State) : (s.fresh).settles = s.settles := rfl
@[simp] theorem State.fresh_fenceNum (s : State) : (s.fresh).fenceNum = s.fenceNum := rfl
@[simp] theorem State.fresh_lostSince (s : State) : (s.fresh).lostSince = s.lostSince := rfl
@[simp] theorem State.fresh_evs (s : State) : (s.fresh).evs = s.evs := rfl
@[simp] theorem State.fresh_folio (s : State) : (s.fresh).folio = s.folio := rfl
@[simp] theorem State.fresh_views (s : State) : (s.fresh).views = s.views := rfl
@[simp] theorem State.fresh_catOpen (s : State) : (s.fresh).catOpen = s.catOpen := rfl
@[simp] theorem State.fresh_catHeld (s : State) : (s.fresh).catHeld = s.catHeld := rfl
@[simp] theorem State.fresh_apb (s : State) : (s.fresh).apb = s.apb := rfl
@[simp] theorem State.fresh_eid (s : State) : (s.fresh).eid = s.eid := rfl
@[simp] theorem State.fresh_flips (s : State) : (s.fresh).flips = s.flips := rfl
@[simp] theorem State.fresh_stuck (s : State) : (s.fresh).stuck = s.stuck := rfl
@[simp] theorem State.fresh_stageFails (s : State) : (s.fresh).stageFails = s.stageFails := rfl
@[simp] theorem State.fresh_stageOut (s : State) : (s.fresh).stageOut = s.stageOut := rfl
@[simp] theorem State.fresh_scrubStart (s : State) : (s.fresh).scrubStart = s.scrubStart := rfl
@[simp] theorem State.fresh_out (s : State) : (s.fresh).out = s.out := rfl
@[simp] theorem State.fresh_clock (s : State) : (s.fresh).clock = s.clock := rfl

/-! ### drive -/

@[simp] theorem State.drive_pending (s : State) (x : Output) : (s.drive x).pending = s.pending := rfl
@[simp] theorem State.drive_phase (s : State) (x : Output) : (s.drive x).phase = s.phase := rfl
@[simp] theorem State.drive_build (s : State) (x : Output) : (s.drive x).build = s.build := rfl
@[simp] theorem State.drive_device (s : State) (x : Output) : (s.drive x).device = s.device := rfl
@[simp] theorem State.drive_die (s : State) (x : Output) : (s.drive x).die = s.die := rfl
@[simp] theorem State.drive_refSel (s : State) (x : Output) : (s.drive x).refSel = s.refSel := rfl
@[simp] theorem State.drive_time (s : State) (x : Output) : (s.drive x).time = s.time := rfl
@[simp] theorem State.drive_tick (s : State) (x : Output) : (s.drive x).tick = s.tick := rfl
@[simp] theorem State.drive_running (s : State) (x : Output) : (s.drive x).running = s.running := rfl
@[simp] theorem State.drive_refLost (s : State) (x : Output) : (s.drive x).refLost = s.refLost := rfl
@[simp] theorem State.drive_sync (s : State) (x : Output) : (s.drive x).sync = s.sync := rfl
@[simp] theorem State.drive_partCount (s : State) (x : Output) : (s.drive x).partCount = s.partCount := rfl
@[simp] theorem State.drive_parts (s : State) (x : Output) : (s.drive x).parts = s.parts := rfl
@[simp] theorem State.drive_reslice (s : State) (x : Output) : (s.drive x).reslice = s.reslice := rfl
@[simp] theorem State.drive_objs (s : State) (x : Output) : (s.drive x).objs = s.objs := rfl
@[simp] theorem State.drive_wideBits (s : State) (x : Output) : (s.drive x).wideBits = s.wideBits := rfl
@[simp] theorem State.drive_waiters (s : State) (x : Output) : (s.drive x).waiters = s.waiters := rfl
@[simp] theorem State.drive_lenders (s : State) (x : Output) : (s.drive x).lenders = s.lenders := rfl
@[simp] theorem State.drive_ledgers (s : State) (x : Output) : (s.drive x).ledgers = s.ledgers := rfl
@[simp] theorem State.drive_loanSeq (s : State) (x : Output) : (s.drive x).loanSeq = s.loanSeq := rfl
@[simp] theorem State.drive_ports (s : State) (x : Output) : (s.drive x).ports = s.ports := rfl
@[simp] theorem State.drive_slots (s : State) (x : Output) : (s.drive x).slots = s.slots := rfl
@[simp] theorem State.drive_rets (s : State) (x : Output) : (s.drive x).rets = s.rets := rfl
@[simp] theorem State.drive_buffered (s : State) (x : Output) : (s.drive x).buffered = s.buffered := rfl
@[simp] theorem State.drive_mgr (s : State) (x : Output) : (s.drive x).mgr = s.mgr := rfl
@[simp] theorem State.drive_notify (s : State) (x : Output) : (s.drive x).notify = s.notify := rfl
@[simp] theorem State.drive_cat (s : State) (x : Output) : (s.drive x).cat = s.cat := rfl
@[simp] theorem State.drive_devMap (s : State) (x : Output) : (s.drive x).devMap = s.devMap := rfl
@[simp] theorem State.drive_routes (s : State) (x : Output) : (s.drive x).routes = s.routes := rfl
@[simp] theorem State.drive_links (s : State) (x : Output) : (s.drive x).links = s.links := rfl
@[simp] theorem State.drive_inbox (s : State) (x : Output) : (s.drive x).inbox = s.inbox := rfl
@[simp] theorem State.drive_waitMsgs (s : State) (x : Output) : (s.drive x).waitMsgs = s.waitMsgs := rfl
@[simp] theorem State.drive_changes (s : State) (x : Output) : (s.drive x).changes = s.changes := rfl
@[simp] theorem State.drive_settles (s : State) (x : Output) : (s.drive x).settles = s.settles := rfl
@[simp] theorem State.drive_fenceNum (s : State) (x : Output) : (s.drive x).fenceNum = s.fenceNum := rfl
@[simp] theorem State.drive_lostSince (s : State) (x : Output) : (s.drive x).lostSince = s.lostSince := rfl
@[simp] theorem State.drive_evs (s : State) (x : Output) : (s.drive x).evs = s.evs := rfl
@[simp] theorem State.drive_folio (s : State) (x : Output) : (s.drive x).folio = s.folio := rfl
@[simp] theorem State.drive_views (s : State) (x : Output) : (s.drive x).views = s.views := rfl
@[simp] theorem State.drive_catOpen (s : State) (x : Output) : (s.drive x).catOpen = s.catOpen := rfl
@[simp] theorem State.drive_catHeld (s : State) (x : Output) : (s.drive x).catHeld = s.catHeld := rfl
@[simp] theorem State.drive_apb (s : State) (x : Output) : (s.drive x).apb = s.apb := rfl
@[simp] theorem State.drive_eid (s : State) (x : Output) : (s.drive x).eid = s.eid := rfl
@[simp] theorem State.drive_flips (s : State) (x : Output) : (s.drive x).flips = s.flips := rfl
@[simp] theorem State.drive_stuck (s : State) (x : Output) : (s.drive x).stuck = s.stuck := rfl
@[simp] theorem State.drive_stageFails (s : State) (x : Output) : (s.drive x).stageFails = s.stageFails := rfl
@[simp] theorem State.drive_stageOut (s : State) (x : Output) : (s.drive x).stageOut = s.stageOut := rfl
@[simp] theorem State.drive_scrubStart (s : State) (x : Output) : (s.drive x).scrubStart = s.scrubStart := rfl
@[simp] theorem State.drive_free (s : State) (x : Output) : (s.drive x).free = s.free := rfl
@[simp] theorem State.drive_clock (s : State) (x : Output) : (s.drive x).clock = s.clock := rfl

/-! ### Reading after a write -/

theorem State.obj_setObj (s : State) (i : Nat) (x : ObjRec) (j : Nat) :
    (s.setObj i x).obj j = if j = i then x else s.obj j := Sparse.get_put _ _ _ _ _

@[simp] theorem State.obj_setObj_self (s : State) (i : Nat) (x : ObjRec) : (s.setObj i x).obj i = x :=
  Sparse.get_put_self _ _ _ _

theorem State.port_setPort (s : State) (p : Nat) (x : Port) (q : Nat) :
    (s.setPort p x).port q = if q = p then x else s.port q := Sparse.get_put _ _ _ _ _

@[simp] theorem State.port_setPort_self (s : State) (p : Nat) (x : Port) : (s.setPort p x).port p = x :=
  Sparse.get_put_self _ _ _ _

theorem State.slot_setSlot (s : State) (g : Nat) (x : Slot) (j : Nat) :
    (s.setSlot g x).slot j = if j = g then x else s.slot j := Sparse.get_put _ _ _ _ _

@[simp] theorem State.slot_setSlot_self (s : State) (g : Nat) (x : Slot) : (s.setSlot g x).slot g = x :=
  Sparse.get_put_self _ _ _ _

theorem State.link_setLink (s : State) (c : Nat) (x : Link) (j : Nat) :
    (s.setLink c x).link j = if j = c then x else s.link j := Sparse.get_put _ _ _ _ _

@[simp] theorem State.link_setLink_self (s : State) (c : Nat) (x : Link) : (s.setLink c x).link c = x :=
  Sparse.get_put_self _ _ _ _

theorem State.part_setPart (s : State) (p : Nat) (x : Part) (q : Nat) :
    (s.setPart p x).part q = if q = p then x else s.part q := Sparse.get_put _ _ _ _ _

@[simp] theorem State.part_setPart_self (s : State) (p : Nat) (x : Part) : (s.setPart p x).part p = x :=
  Sparse.get_put_self _ _ _ _

theorem State.ev_setEv (s : State) (i : Nat) (x : EvInput) (j : Nat) :
    (s.setEv i x).ev j = if j = i then x else s.ev j := Sparse.get_put _ _ _ _ _

@[simp] theorem State.ev_setEv_self (s : State) (i : Nat) (x : EvInput) : (s.setEv i x).ev i = x :=
  Sparse.get_put_self _ _ _ _

theorem State.view_setView (s : State) (w : Nat) (x : View) (j : Nat) :
    (s.setView w x).view j = if j = w then x else s.view j := Sparse.get_put _ _ _ _ _

@[simp] theorem State.view_setView_self (s : State) (w : Nat) (x : View) : (s.setView w x).view w = x :=
  Sparse.get_put_self _ _ _ _

theorem State.ring_setRing (s : State) (r : Nat) (x : NotifyRing) (j : Nat) :
    (s.setRing r x).ring j = if j = r then x else s.ring j := Sparse.get_put _ _ _ _ _

@[simp] theorem State.ring_setRing_self (s : State) (r : Nat) (x : NotifyRing) : (s.setRing r x).ring r = x :=
  Sparse.get_put_self _ _ _ _

end Sys2Proof.Machine
end

