-- ==== Sys2Proof/Laws/Path.lean ====
section
/-! SUPPORT. The way of an op from its lane to its home at the same hub, and what concluding it leaves. -/

namespace Sys2Proof.Machine

/-- A state that differs in its ports alone. -/
theorem eq_with_ports {s t : State} (h : t.wipe 0x100000 = s.wipe 0x100000) : t = { s with ports := t.ports } := by
  cases s
  cases t
  obtain ⟨h0, h1, h2, h3, h4, h5, h6, h7, h8, h9, h10, h11, h12, h13, h14, h15, h16, h17, h18, h19, h20, h21,
    h22, h23, h24, h25, h26, h27, h28, h29, h30, h31, h32, h33, h34, h35, h36, h37, h38, h39, h40, h41, h42,
    h43, h44, h45, h46, h47, h48, h49⟩ := State.mk.inj h
  rw [State.mk.injEq]
  exact ⟨h0, h1, h2, h3, h4, h5, h6, h7, h8, h9, h10, h11, h12, h13, h14, h15, h16, h17, h18, h19, rfl, h21,
    h22, h23, h24, h25, h26, h27, h28, h29, h30, h31, h32, h33, h34, h35, h36, h37, h38, h39, h40, h41, h42,
    h43, h44, h45, h46, h47, h48, h49⟩

theorem leaves_wipe (s : State) (p : Nat) (h : ShimOp) (m : Nat) (hm : 0x100000 ||| m = m) :
    (s.leaves p h).1.wipe m = s.wipe m := by
  unfold State.leaves
  simp only []
  rw [State.spendLane_wipe _ _ _ _ hm, State.takeEntry_wipe _ _ _ _ hm]

theorem leaves_eq (s : State) (p : Nat) (h : ShimOp) :
    (s.leaves p h).1 = { s with ports := (s.leaves p h).1.ports } :=
  eq_with_ports (leaves_wipe s p h _ (by decide))

theorem sent_wipe (s : State) (p : Nat) (h : ShimOp) (a : HomeOp) (m : Nat) (hm : 0x300000 ||| m = m) :
    (s.sent p h a).wipe m = s.wipe m := by
  unfold State.sent State.lockStep
  rw [State.noteHere_wipe _ _ _ (mask_sub hm (by decide))]
  have hp : 0x100000 ||| m = m := mask_sub hm (by decide)
  split
  · rw [State.modPort_wipe _ _ _ _ hp, leaves_wipe _ _ _ _ hp]
  · split
    · rw [State.modPort_wipe _ _ _ _ hp, leaves_wipe _ _ _ _ hp]
    · rw [leaves_wipe _ _ _ _ hp]

theorem portOp_source (s : State) (p : Nat) (h : ShimOp) : (s.portOp p h).source = srcPort := rfl
theorem portOp_opcode (s : State) (p : Nat) (h : ShimOp) : (s.portOp p h).opcode = h.opcode := rfl

/-- Check 3 changes the handle, and for INIT the parent's. -/
theorem absolute_keeps {s : State} {o a : HomeOp} (e : s.absolute o = some a) :
    a.source = o.source ∧ a.opcode = o.opcode ∧ a.op.flags = o.op.flags ∧ a.originator = o.originator ∧
    a.op.operand = o.op.operand ∧ a.op.tag = o.op.tag ∧ a.partition = o.partition ∧ a.retref = o.retref ∧
    a.entered = o.entered ∧ a.stamp = o.stamp := by
  unfold State.absolute at e
  split at e
  · cases e
  · simp only [] at e
    split at e
    · obtain ⟨_, _, e2⟩ := Option.map_eq_some_iff.mp e
      subst e2
      exact ⟨rfl, rfl, rfl, rfl, rfl, rfl, rfl, rfl, rfl, rfl⟩
    · cases e
      exact ⟨rfl, rfl, rfl, rfl, rfl, rfl, rfl, rfl, rfl, rfl⟩

theorem takeEntry_op (s : State) (p : Nat) (h : ShimOp) :
    (s.takeEntry p h).2.opcode = h.opcode ∧ (s.takeEntry p h).2.op = h.op ∧ (s.takeEntry p h).2.lane = h.lane := by
  unfold State.takeEntry
  simp only []
  split <;> exact ⟨rfl, rfl, rfl⟩

theorem opcodeOf_opCode (c : Opcode) : opcodeOf (opCode c) = some c := by cases c <;> decide

/-- The facts that an op which passes carries with it. -/
theorem passes_facts {s : State} {p : Nat} {h : ShimOp} {c : Opcode} {a : HomeOp} (hp : s.passes p h c a) :
    a.source = srcPort ∧ a.opcode = h.opcode ∧ a.op.flags = h.op.flags ∧ a.originator = s.laneOrig p h.lane ∧
    a.op.operand = h.op.operand ∧ a.op.tag = h.op.tag ∧ a.partition = s.portPart p ∧ a.entered = s.time.low22 ∧
    a.stamp = s.time.stamp := by
  obtain ⟨-, -, -, -, -, e, -⟩ := hp
  have k := absolute_keeps e
  have q := takeEntry_op s p h
  have l := leaves_eq s p h
  have hpp : (s.leaves p h).1.portPart p = s.portPart p := by rw [l]; rfl
  refine ⟨k.1, k.2.1.trans ?_, k.2.2.1.trans ?_, k.2.2.2.1.trans ?_, k.2.2.2.2.1.trans ?_, k.2.2.2.2.2.1.trans ?_,
    k.2.2.2.2.2.2.1.trans ?_, k.2.2.2.2.2.2.2.2.1.trans ?_, k.2.2.2.2.2.2.2.2.2.trans ?_⟩
  · exact q.1
  · exact congrArg OpFields.flags q.2.1
  · show (s.leaves p h).1.laneOrig p (s.takeEntry p h).2.lane = _
    rw [q.2.2, l]
    rfl
  · exact congrArg OpFields.operand q.2.1
  · exact congrArg OpFields.tag q.2.1
  · exact hpp
  · show (s.leaves p h).1.time.low22 = _
    rw [l]
  · show (s.leaves p h).1.time.stamp = _
    rw [l]

/-- An op word that its shim takes at once, whatever comes of it. -/
theorem exec_accepts {s : State} {p lane : Nat} {ctx : BitVec 8} {code : BitVec 6} {op : OpFields}
    (ht : s.takesNow p (s.laneOp lane ctx code op)) :
    s.opCommand code { src := .core p lane ctx, op := op } = .next (s.acceptOp p (s.laneOp lane ctx code op)) := by
  obtain ⟨h1, h2, h3, h4⟩ := ht
  have hlive : s.phase = .operational := by
    unfold State.issueHold at h4
    simp only [] at h4
    split at h4
    · cases h4
    · rename_i hc
      simp only [State.live, Bool.or_eq_true, Bool.not_eq_true', decide_eq_false_iff_not, not_or, not_not] at hc
      exact hc.1
  unfold State.opCommand
  change s.laneBuilt lane = true at h2
  simp only [h1, h2, Bool.and_self, if_true, hlive, reduceCtorEq, if_false]
  unfold State.coreOp State.issueOp
  have e : ({ lane := lane, opcode := code, op := op, context := ctx, since := s.clock } : ShimOp) =
      s.laneOp lane ctx code op := rfl
  rw [e]
  have h3' : ((s.port p).issue.any fun q => decide (q.lane = (s.laneOp lane ctx code op).lane)) = false := h3
  rw [h3', h4]
  simp only [Bool.false_eq_true, if_false]

/-- An op that its shim takes at once and that goes into the hub leaves the shim. -/
theorem exec_takes {s : State} {p lane : Nat} {ctx : BitVec 8} {c : Opcode} {op : OpFields}
    (ht : s.takesNow p (s.presented lane ctx c op)) (hg : (s.presented lane ctx c op).goesOn c)
    (hs : opService c = false) :
    s.opCommand (opCode c) { src := .core p lane ctx, op := op } =
      .next (match s.portGate p (opCode c) with
        | some st => (s.leaves p (s.presented lane ctx c op)).1.refuse (s.leaves p (s.presented lane ctx c op)).2 st
        | none => (s.leaves p (s.presented lane ctx c op)).1.forwardOp (s.leaves p (s.presented lane ctx c op)).2) := by
  rw [exec_accepts (code := opCode c) ht]
  congr 1
  change s.acceptOp p (s.presented lane ctx c op) = _
  obtain ⟨h5, h6, h7, h8⟩ := hg
  unfold State.acceptOp
  simp only [h6, h7, Bool.false_eq_true, if_false]
  have q := takeEntry_op s p (s.presented lane ctx c op)
  unfold State.runOp
  rw [q.1, h5]
  simp only []
  have hn : (s.takeEntry p (s.presented lane ctx c op)).2.isNear = false := by
    unfold ShimOp.isNear
    rw [q.2.1, h8]
    rfl
  simp only [hn, hs, Bool.false_eq_true, if_false, q.2.2]
  have hgt : (((s.takeEntry p (s.presented lane ctx c op)).1.spendLane p (s.presented lane ctx c op).lane).portGate p
      (s.presented lane ctx c op).opcode) = s.portGate p (opCode c) := by
    have l := leaves_eq s p (s.presented lane ctx c op)
    change (s.leaves p (s.presented lane ctx c op)).1.portGate p (opCode c) = _
    rw [l]
    rfl
  rw [hgt]
  rfl

theorem access_clean (s : State) (w : StoreWord) (x : Option Nat) (h : s.flips = []) : s.access w x = s := by
  unfold State.access State.flipsOf
  rw [h]
  rfl

theorem accessLocks_clean (s : State) (p : Nat) (hs : List HeldLock) (h : s.flips = []) : s.accessLocks p hs = s := by
  induction hs with
  | nil => rfl
  | cons x xs ih =>
    unfold State.accessLocks
    rw [access_clean _ _ _ h, ih]

theorem addLock_heldLocks_ports (s : State) (p q : Nat) (h : ShimOp) :
    ((s.leaves p h).1.port q).heldLocks = (s.port q).heldLocks := by
  have mp : ∀ (t : State) (f : Port → Port), (∀ x, (f x).heldLocks = x.heldLocks) →
      ((t.modPort p f).port q).heldLocks = (t.port q).heldLocks := by
    intro t f hf
    unfold State.modPort
    rw [State.port_setPort]
    split
    · rename_i e
      rw [hf, e]
    · rfl
  have sp : ∀ (t : State) (x : Port), x.heldLocks = (t.port p).heldLocks →
      ((t.setPort p x).port q).heldLocks = (t.port q).heldLocks := by
    intro t x hx
    rw [State.port_setPort]
    split
    · rename_i e
      rw [hx, e]
    · rfl
  unfold State.leaves
  simp only []
  unfold State.spendLane State.refillLane
  rw [mp, mp]
  · unfold State.takeEntry
    simp only []
    split
    · exact sp _ _ rfl
    · rfl
  · exact fun _ => rfl
  · exact fun _ => rfl

/-- Two states that differ in their ports alone answer a check that reads none of them alike. -/
theorem sent_ports {s : State} {p : Nat} {h : ShimOp} {a : HomeOp} (ha : a.source = srcPort) :
    s.sent p h a = { s with ports := (s.sent p h a).ports } := by
  apply eq_with_ports
  have e : ((s.leaves p h).1.lockStep a).wipe 0x100000 = s.wipe 0x100000 := by
    unfold State.lockStep
    split
    · rw [State.modPort_wipe _ _ _ _ (by decide), leaves_wipe _ _ _ _ (by decide)]
    · split
      · rw [State.modPort_wipe _ _ _ _ (by decide), leaves_wipe _ _ _ _ (by decide)]
      · exact leaves_wipe _ _ _ _ (by decide)
  unfold State.sent State.noteHere
  simp only []
  split
  · exact e
  · try rw [if_pos ha]
    rw [State.modPort_wipe _ _ _ _ (by decide)]
    exact e

/-- An op that passes the checks and whose home is here comes to its home's rule for it. -/
theorem exec_reaches {s : State} {p lane : Nat} {ctx : BitVec 8} {c : Opcode} {op : OpFields} {a : HomeOp}
    (hr : s.reaches p (s.presented lane ctx c op) c a) :
    s.opCommand (opCode c) { src := .core p lane ctx, op := op } =
      .next ((s.sent p (s.presented lane ctx c op) a).effect a c) := by
  obtain ⟨hp, hq, hl, happ⟩ := hr
  have hp0 := hp
  obtain ⟨ht, hgo, hs, hg, hout, habs, hhome, hbank, hflips, hgate, hfault, hbody⟩ := hp
  have f := passes_facts hp0
  rw [exec_takes ht hgo hs, show s.portGate p (opCode c) = none from hg]
  simp only []
  congr 1
  have l := leaves_eq s p (s.presented lane ctx c op)
  have n := sent_ports (s := s) (p := p) (h := s.presented lane ctx c op) f.1
  unfold State.forwardOp
  rw [hout, habs]
  simp only [Bool.false_eq_true, if_false]
  have hh : (s.leaves p (s.presented lane ctx c op)).1.hub = s.hub := by rw [l]; rfl
  have hreach : (s.leaves p (s.presented lane ctx c op)).1.reachable (handleHub a.op.handle) = true := by
    unfold State.reachable
    rw [hh, hhome]
    simp
  rw [hreach]
  simp only [Bool.not_true, Bool.false_eq_true, if_false, hhome, hh, ne_eq, not_true_eq_false, false_and]
  have hfl : (s.leaves p (s.presented lane ctx c op)).1.flips = [] := by rw [l]; exact hflips
  have hlaunch : (s.leaves p (s.presented lane ctx c op)).1.launch a =
      ((s.leaves p (s.presented lane ctx c op)).1.lockStep a).toHome a := by
    unfold State.launch State.lockStep
    simp only [accessLocks_clean _ _ _ hfl, f.1, decide_true, Bool.true_and, addLock_heldLocks_ports]
    by_cases hacq : codeAcquires a.opcode = true
    · have hr2 := hq (by rw [← f.2.1]; exact hacq)
      have e : ((s.leaves p (s.presented lane ctx c op)).1.port a.port).lockRefused a.op.handle a.engine = false := by
        rw [← hr2]
        unfold Port.lockRefused
        rw [addLock_heldLocks_ports]
      simp only [hacq, if_true, e, Bool.false_eq_true, if_false]
    · simp only [hacq, Bool.false_eq_true, if_false]
      by_cases hrel : a.opcode = opCode .rel
      · simp only [hrel, decide_true, if_true]
      · have hlend : (s.leaves p (s.presented lane ctx c op)).1.lendingFor a = none := by rw [l]; exact hl
        simp only [hrel, decide_false, Bool.false_eq_true, if_false, hlend]
  rw [hlaunch]
  have hls : ((s.leaves p (s.presented lane ctx c op)).1.lockStep a).hub = s.hub := by
    unfold State.lockStep
    split
    · exact hh
    · split <;> exact hh
  unfold State.toHome
  rw [hls, if_pos hhome]
  change (s.sent p (s.presented lane ctx c op) a).performHome a = _
  rw [n]
  unfold State.performHome
  have hb : ∀ P, ({ s with ports := P } : State).bankOut a.index = false := fun P => hbank
  have ha : ∀ P, ({ s with ports := P } : State).accessObj a.index = { s with ports := P } := by
    intro P
    unfold State.accessObj
    rw [if_pos hflips]
  have hgt : ∀ P, ({ s with ports := P } : State).homeGate a = none := fun P => hgate
  have hfl : ∀ P, ({ s with ports := P } : State).objFaulted a.index = false := fun P => hfault
  have hbd : ∀ P, ({ s with ports := P } : State).isBody a.index = false := fun P => hbody
  simp only [hb, ha, hgt, Bool.false_eq_true, if_false, f.2.1]
  change (match opcodeOf (opCode c) with
    | none => _ | some .init => _ | some c => _) = _
  rw [opcodeOf_opCode]
  have hx : c ≠ .init → ∀ P, ({ s with ports := P } : State).performOp a c = ({ s with ports := P } : State).effect a c := by
    intro hc P
    unfold State.performOp
    have hap : opApplies c (({ s with ports := P } : State).obj a.index).otype = true := happ.resolve_left hc
    simp only [hfl, hbd, hap, Bool.not_true, Bool.or_self, Bool.false_eq_true, if_false]
  cases c <;> first | rfl | exact hx (by decide) _

end Sys2Proof.Machine
end

