-- ==== Sys2Proof/Laws/Conclude.lean ====
section
/-! SUPPORT. What concluding an op of this hub leaves: its response on the return path, and the hub's notes. -/

namespace Sys2Proof.Machine

theorem origHub_orig (s : State) (n : Nat) : origHub (s.orig n) = s.hub := by
  unfold origHub State.orig
  apply BitVec.eq_of_toNat_eq
  have h1 := s.hub.isLt
  have h2 : n % 1024 < 1024 := Nat.mod_lt _ (by decide)
  simp only [getFld, BitVec.extractLsb'_toNat, BitVec.toNat_append, BitVec.toNat_ofNat, Nat.shiftRight_eq_div_pow,
    Nat.reducePow]
  rw [← Nat.shiftLeft_add_eq_or_of_lt (by simpa using h2), Nat.shiftLeft_eq]
  simp only [Nat.reducePow] at *
  omega

/-- The hub of an op of a lane is this hub. -/
theorem passes_origHub {s : State} {p : Nat} {h : ShimOp} {c : Opcode} {a : HomeOp} (hp : s.passes p h c a) :
    origHub a.originator = s.hub := by
  rw [(passes_facts hp).2.2.2.1]
  exact origHub_orig _ _

theorem respond_here {s : State} {a : HomeOp} (ha : a.source = srcPort) (ho : origHub a.originator = s.hub) (st : Status)
    (r : Nat) (v : BitVec 64) : s.respond a st r v = { s with rets := s.rets ++ a.rets st r v } := by
  have e1 : srcPort ≠ srcEvent := by decide
  have e2 : srcPort ≠ srcHub := by decide
  have e3 : srcPort ≠ srcAperture := by decide
  unfold State.respond HomeOp.rets
  simp only [ha, e1, e2, e3, ho, decide_false, Bool.or_false, if_false, if_true]
  split
  · simp only [List.append_nil]
  · rfl

theorem conclude_here {s : State} {a : HomeOp} (ha : a.source = srcPort) (ho : origHub a.originator = s.hub)
    (st : Status) (r : Nat) (v : BitVec 64) :
    (s.conclude a st r v).rets = s.rets ++ a.rets st r v ∧
    ∀ m, 0x2002007400000 ||| m = m → (s.conclude a st r v).wipe m = s.wipe m := by
  have w := State.countRefused_wipe s a st 0x2002007000000 (by decide)
  have hh : (s.countRefused a st).hub = s.hub := by
    unfold State.hub
    rw [device_of_wipe (by decide) w, die_of_wipe (by decide) w]
  unfold State.conclude
  rw [respond_here ha (by rw [hh]; exact ho)]
  refine ⟨by rw [← rets_of_wipe (by decide) w], fun m hm => ?_⟩
  rw [wipe_rets _ (testBit_sub hm (by decide))]
  exact State.countRefused_wipe _ _ _ _ (mask_sub hm (by decide))

theorem finish_here {s : State} {a : HomeOp} (ha : a.source = srcPort) (ho : origHub a.originator = s.hub) (st : Status)
    (r : Nat) (v : BitVec 64) :
    (s.finish a st r v).rets = s.rets ++ a.rets st r v ∧
    ∀ m, 0x2002007400000 ||| m = m → (s.finish a st r v).wipe m = s.wipe m := by
  unfold State.finish
  have w : ∀ m, 0x2002007000000 ||| m = m → (if st.good = true then s.recordOp a st r else s).wipe m = s.wipe m := by
    intro m hm
    split
    · exact State.recordOp_wipe _ _ _ _ _ hm
    · rfl
  have hh : (if st.good = true then s.recordOp a st r else s).hub = s.hub := by
    unfold State.hub
    rw [device_of_wipe (by decide) (w 0x2002007000000 (by decide)), die_of_wipe (by decide) (w 0x2002007000000 (by decide))]
  have c := conclude_here (s := if st.good = true then s.recordOp a st r else s) ha (by rw [hh]; exact ho) st r v
  refine ⟨by rw [c.1, rets_of_wipe (by decide) (w 0x2002007000000 (by decide))], fun m hm => ?_⟩
  rw [c.2 m hm]
  exact w _ (mask_sub hm (by decide))

theorem refuse_here {s : State} {a : HomeOp} (ha : a.source = srcPort) (ho : origHub a.originator = s.hub) (st : Status) :
    (s.refuse a st).rets = s.rets ++ a.rets st 0 0 ∧
    ∀ m, 0x2002007400000 ||| m = m → (s.refuse a st).wipe m = s.wipe m := by
  unfold State.refuse
  have w := State.actOp_wipe s a
  have hh : (s.actOp a).hub = s.hub := by
    unfold State.hub
    rw [device_of_wipe (by decide) (w 0x2002007000000 (by decide)), die_of_wipe (by decide) (w 0x2002007000000 (by decide))]
  have c := conclude_here (s := s.actOp a) ha (by rw [hh]; exact ho) st 0 0
  refine ⟨by rw [c.1, rets_of_wipe (by decide) (w 0x2002007000000 (by decide))], fun m hm => ?_⟩
  rw [c.2 m hm]
  exact w _ (mask_sub hm (by decide))

/-- The end of an op that its home finishes, given what came of the hub before. -/
theorem opDone_finish {s X : State} {p : Nat} {h : ShimOp} {c : Opcode} {a : HomeOp} {objs : Sparse ObjRec} {st : Status}
    {r : Nat} {v : BitVec 64} (hp : s.passes p h c a)
    (hX : X.wipe 0x2002007004000 = (s.sent p h a).wipe 0x2002007004000) (ho : X.objs = objs) :
    OpDone s (X.finish a st r v) p h a objs st r v := by
  have f := passes_facts hp
  have w0 := sent_ports (s := s) (p := p) (h := h) f.1
  have hh : X.hub = s.hub := by
    unfold State.hub
    rw [device_of_wipe (by decide) hX, die_of_wipe (by decide) hX, w0]
  have k := finish_here (s := X) f.1 (by rw [hh]; exact passes_origHub hp) st r v
  have w := k.2 0x2002007400000 (by decide)
  refine ⟨by rw [objs_of_wipe (by decide) w, ho], ?_, ?_, ?_⟩
  · rw [k.1, rets_of_wipe (by decide) hX, w0]
  · rw [ports_of_wipe (by decide) w, ports_of_wipe (by decide) hX]
  · unfold SameBut
    have e := wipe_mono (m := fieldMask ([.objs, .ports, .rets] ++ noteFields)) (by decide) hX
    rw [k.2 _ (by decide), e, w0]
    exact (wipe_ports _ (by decide) _ _).symm

/-- The end of an op that its home refuses. -/
theorem opDone_refuse {s : State} {p : Nat} {h : ShimOp} {c : Opcode} {a : HomeOp} {st : Status}
    (hp : s.passes p h c a) : OpDone s ((s.sent p h a).refuse a st) p h a s.objs st 0 0 := by
  have f := passes_facts hp
  have w0 := sent_ports (s := s) (p := p) (h := h) f.1
  have hh : (s.sent p h a).hub = s.hub := by rw [w0]; rfl
  have k := refuse_here (s := s.sent p h a) f.1 (by rw [hh]; exact passes_origHub hp) st
  have w := k.2 0x2002007400000 (by decide)
  refine ⟨by rw [objs_of_wipe (by decide) w, w0], ?_, ?_, ?_⟩
  · rw [k.1, w0]
  · rw [ports_of_wipe (by decide) w]
  · unfold SameBut
    rw [k.2 _ (by decide), w0]
    exact (wipe_ports _ (by decide) _ _).symm

end Sys2Proof.Machine
end

