-- ==== Sys2Proof/Laws/Effects.lean ====
section
/-! SUPPORT. What the ops do to their objects at their home (R106 to R112), each with the response that it ends in. -/

set_option linter.all false

namespace Sys2Proof.Machine

/-- A command of a lane that reaches its home's rule, as a next state. -/
theorem exec_op {s : State} {p lane : Nat} {ctx : BitVec 8} {c : Opcode} {op : OpFields} {a : HomeOp}
    (hr : s.reaches p (s.presented lane ctx c op) c a) :
    s.opCommand (opCode c) (coreReq p lane ctx op) = .next ((s.sent p (s.presented lane ctx c op) a).effect a c) :=
  exec_reaches hr

theorem obj_of_objs {s t : State} (h : t.objs = s.objs) (i : Nat) : t.obj i = s.obj i := by unfold State.obj; rw [h]

theorem queue_of_waiters {s t : State} (h : t.waiters = s.waiters) (i : Nat) : t.queue i = s.queue i := by
  unfold State.queue
  rw [h]

theorem serveCount_empty {s : State} {i : Nat} (h : s.queue i = []) : s.serveCount i = (s, 0) := by
  unfold State.serveCount
  rw [h]
  rfl

section
variable {s : State} {p : Nat} {h : ShimOp} {c : Opcode} {a : HomeOp}

theorem sent_obj (hp : s.passes p h c a) (i : Nat) : (s.sent p h a).obj i = s.obj i := by
  rw [sent_ports (passes_facts hp).1]
  rfl

theorem sent_queue (hp : s.passes p h c a) (i : Nat) : (s.sent p h a).queue i = s.queue i := by
  rw [sent_ports (passes_facts hp).1]
  rfl

/-- A wait of no time: an op that is granted on its arrival. -/
theorem sent_waitTime (hp : s.passes p h c a) : (s.sent p h a).waitTime a.stamp = 0 := by
  have f := passes_facts hp
  rw [sent_ports f.1]
  unfold State.waitTime
  simp only [f.2.2.2.2.2.2.2.2, BitVec.sub_self, BitVec.toNat_zero]

theorem reach12_sent_wipe : ((s.sent p h a).reach12 a).wipe 0x2002007004000 = (s.sent p h a).wipe 0x2002007004000 :=
  State.reach12_wipe _ _ _ (by decide)

theorem reach12_objs : ((s.sent p h a).reach12 a).objs = (s.sent p h a).objs :=
  objs_of_wipe (m := 0x2000004000000) (by decide) (State.reach12_wipe _ _ _ (by decide))

theorem sent_objs (hp : s.passes p h c a) : (s.sent p h a).objs = s.objs := by
  rw [sent_ports (passes_facts hp).1]

theorem reach12_obj (hp : s.passes p h c a) (i : Nat) : ((s.sent p h a).reach12 a).obj i = s.obj i :=
  obj_of_objs (reach12_objs.trans (sent_objs hp)) i

theorem reach12_queue (hp : s.passes p h c a) (i : Nat) : ((s.sent p h a).reach12 a).queue i = s.queue i :=
  (queue_of_waiters (waiters_of_wipe (m := 0x2000004000000) (by decide) (State.reach12_wipe _ _ _ (by decide))) i).trans
    (sent_queue hp i)

/-- An op that its home finishes with one change of its object's record. -/
theorem opDone_write (hp : s.passes p h c a) (r : ObjRec) (st : Status) (n : Nat) (v : BitVec 64) :
    OpDone s ((((s.sent p h a).reach12 a).setObj a.index r).finish a st n v) p h a (s.setObj a.index r).objs st n v := by
  apply opDone_finish hp
  · unfold State.setObj
    rw [wipe_objs _ (by decide)]
    exact reach12_sent_wipe
  · unfold State.setObj
    simp only [reach12_objs, sent_objs hp]

/-- An op that its home finishes without a change of a record. -/
theorem opDone_same (hp : s.passes p h c a) (st : Status) (n : Nat) (v : BitVec 64) :
    OpDone s (((s.sent p h a).reach12 a).finish a st n v) p h a s.objs st n v :=
  opDone_finish hp reach12_sent_wipe (reach12_objs.trans (sent_objs hp))

/-- SIG and SET on an EVENT that nobody waits on (R106). -/
theorem signalEvent_done (hp : s.passes p h c a) (hq : s.queue a.index = []) :
    OpDone s ((s.sent p h a).signalEvent a) p h a
      (s.setObj a.index (((s.obj a.index).countSig.withSet true).by a)).objs .ok 0 0 := by
  unfold State.signalEvent State.write
  rw [sent_obj hp]
  have e : (((s.sent p h a).reach12 a).setObj a.index (((s.obj a.index).countSig.withSet true).by a)).queue a.index = [] :=
    (reach12_queue hp _).trans hq
  simp only [serveCount_empty e]
  exact opDone_write hp _ _ _ _

/-- CLR (R106, R288). -/
theorem clearEvent_done (hp : s.passes p h c a) (hl : s.levelHolds a.index = false) :
    OpDone s ((s.sent p h a).clearEvent a) p h a (s.setObj a.index (((s.obj a.index).withSet false).by a)).objs .ok 0 0 := by
  unfold State.clearEvent State.write
  rw [sent_obj hp]
  have e : (s.sent p h a).levelHolds a.index = false := by
    rw [sent_ports (passes_facts hp).1]
    exact hl
  simp only [e, Bool.false_eq_true, if_false]
  exact opDone_write hp _ _ _ _

/-- CLR on an EVENT that a level input holds set (R288). -/
theorem clearEvent_held (hp : s.passes p h c a) (hl : s.levelHolds a.index = true) :
    OpDone s ((s.sent p h a).clearEvent a) p h a s.objs .ok 0 0 := by
  unfold State.clearEvent
  have e : (s.sent p h a).levelHolds a.index = true := by
    rw [sent_ports (passes_facts hp).1]
    exact hl
  simp only [e, if_true]
  exact opDone_same hp _ _ _

/-- WAIT on an EVENT that is set (R106). -/
theorem waitEvent_done (hp : s.passes p h c a) (hs : (s.obj a.index).isSet = true) :
    OpDone s ((s.sent p h a).waitEvent a) p h a
      (if (s.obj a.index).auto then (s.setObj a.index (((s.obj a.index).withSet false).by a)).objs else s.objs) .ok 0 0 := by
  unfold State.waitEvent State.write
  rw [sent_obj hp, sent_waitTime hp, if_pos hs]
  have w := State.countGrant_wipe
  split <;> rename_i e <;> simp only [e, if_true, if_false, Bool.false_eq_true]
  · apply opDone_finish hp
    · rw [w _ _ _ (by decide)]
      unfold State.setObj
      rw [wipe_objs _ (by decide)]
      exact reach12_sent_wipe
    · rw [objs_of_wipe (m := 0x4000000) (by decide) (w _ _ _ (by decide))]
      unfold State.setObj
      simp only [reach12_objs, sent_objs hp]
  · apply opDone_finish hp
    · rw [w _ _ _ (by decide)]
      exact reach12_sent_wipe
    · rw [objs_of_wipe (m := 0x4000000) (by decide) (w _ _ _ (by decide))]
      exact reach12_objs.trans (sent_objs hp)

/-- WAIT on a TOKEN or SEM that covers it (R106). -/
theorem waitAmount_done (hp : s.passes p h c a)
    (hs : (s.obj a.index).operandInt a.op.operand ≤ (s.obj a.index).amount) :
    OpDone s ((s.sent p h a).waitAmount a) p h a s.objs .ok 0 0 := by
  unfold State.waitAmount
  rw [sent_obj hp, sent_waitTime hp, if_pos hs]
  have w := State.countGrant_wipe
  apply opDone_finish hp
  · rw [w _ _ _ (by decide)]
    exact reach12_sent_wipe
  · rw [objs_of_wipe (m := 0x4000000) (by decide) (w _ _ _ (by decide))]
    exact reach12_objs.trans (sent_objs hp)

/-- READ (R110). -/
theorem readObj_done (hp : s.passes p h c a) :
    (∀ v, s.readWord a.index (getFld a.op.operand 0 2) = some v →
      OpDone s ((s.sent p h a).readObj a) p h a s.objs .ok 0 v) ∧
    (s.readWord a.index (getFld a.op.operand 0 2) = none →
      OpDone s ((s.sent p h a).readObj a) p h a s.objs .badHandle 0 0) := by
  have e : (s.sent p h a).readWord a.index (getFld a.op.operand 0 2) = s.readWord a.index (getFld a.op.operand 0 2) := by
    rw [sent_ports (passes_facts hp).1]
    rfl
  unfold State.readObj
  rw [e]
  refine ⟨fun v hv => ?_, fun hv => ?_⟩ <;> rw [hv]
  · exact opDone_same hp _ _ _
  · exact opDone_refuse hp

/-- DISARM (R60). -/
theorem disarmObj_done (hp : s.passes p h c a) :
    OpDone s ((s.sent p h a).disarmObj a) p h a
      (s.setObj a.index (({ s.obj a.index with trig := false } : ObjRec).by a)).objs .ok 0 0 := by
  unfold State.disarmObj State.write
  rw [sent_obj hp]
  exact opDone_write hp _ _ _ _

/-- A change of a TOKEN or SEM that fires nothing and that nobody waits for (R106). -/
theorem changeAmount_done (hp : s.passes p h c a) (n : Int) (count : Bool) (old : BitVec 64) (res : Nat → Nat)
    (hf : (((s.obj a.index).setAmount n).by a).firings = 0) (hq : s.queue a.index = []) :
    OpDone s ((s.sent p h a).changeAmount a n count old res) p h a
      (s.setObj a.index (((s.obj a.index).setAmount n).by a)).objs .ok (res 0) old := by
  unfold State.changeAmount
  simp only [sent_obj hp, hf, Nat.lt_irrefl, false_and, if_false, if_true, Nat.not_lt_zero, State.fireToken]
  have cb : ∀ (t : State) m, 0x4000000 ||| m = m → (if count = true then t.countBytes (s.obj a.index) a.op.operand.toNat else t).wipe m = t.wipe m := by
    intro t m hm
    split
    · exact State.countBytes_wipe _ _ _ _ hm
    · rfl
  have e : ((if count = true then ((s.sent p h a).reach12 a).countBytes (s.obj a.index) a.op.operand.toNat
      else (s.sent p h a).reach12 a).setObj a.index (((s.obj a.index).setAmount n).by a)).queue a.index = [] := by
    have x := queue_of_waiters (waiters_of_wipe (m := 0x4000000) (by decide) (cb ((s.sent p h a).reach12 a) 0x4000000 (by decide))) a.index
    exact (x.trans (reach12_queue hp _)).trans hq
  simp only [serveCount_empty e]
  apply opDone_finish hp
  · unfold State.setObj
    rw [wipe_objs _ (by decide), cb _ _ (by decide)]
    exact reach12_sent_wipe
  · unfold State.setObj
    simp only []
    rw [objs_of_wipe (m := 0x4000000) (by decide) (cb ((s.sent p h a).reach12 a) 0x4000000 (by decide)), reach12_objs, sent_objs hp]

/-- TAKE and TRYTAKE that are granted on their arrival, without a loan (R106). -/
theorem takeNow_done (hp : s.passes p h c a) (n : Nat) (hl : (s.obj a.index).loanable = false) :
    OpDone s (((s.sent p h a).reach12 a).takeNow a n) p h a
      (s.setObj a.index (((s.obj a.index).setAmount ((s.obj a.index).amount - Int.ofNat a.op.operand.toNat)).by a)).objs
      .ok n 0 := by
  unfold State.takeNow State.write
  simp only [reach12_obj hp]
  have w := State.countGrant_wipe
  have d : OpDone s (((((s.sent p h a).reach12 a).setObj a.index
      (((s.obj a.index).setAmount ((s.obj a.index).amount - Int.ofNat a.op.operand.toNat)).by a)).countGrant a).finish a .ok n
      0) p h a (s.setObj a.index (((s.obj a.index).setAmount ((s.obj a.index).amount -
        Int.ofNat a.op.operand.toNat)).by a)).objs .ok n 0 := by
    apply opDone_finish hp
    · rw [w _ _ _ (by decide)]
      unfold State.setObj
      rw [wipe_objs _ (by decide)]
      exact reach12_sent_wipe
    · rw [objs_of_wipe (m := 0x4000000) (by decide) (w _ _ _ (by decide))]
      unfold State.setObj
      simp only [reach12_objs, sent_objs hp]
  have hno : ∀ (t : State) (hb : HubId) (k : Nat), (t.obj a.index).loanable = false → t.openLoan a.index hb k = t := by
    intro t hb k hk
    unfold State.openLoan State.opensLoan
    simp only [hk, Bool.false_and, Bool.false_eq_true, if_false]
  rw [hno]
  · exact d
  · rw [obj_of_objs d.1, State.obj_setObj_self]
    exact hl

/-- A TAKE of a value that covers it, on an object that nobody waits on (R106, R108). -/
theorem takeFits_empty {t : State} (hq : t.queue a.index = []) :
    t.takeFits a = decide (Int.ofNat a.op.operand.toNat ≤ (t.obj a.index).amount) := by
  unfold State.takeFits
  simp only [hq, List.filter_nil, List.any_nil, Bool.not_false, Bool.or_true, Bool.and_true]

theorem takeAmount_done (hp : s.passes p h c a) (hl : (s.obj a.index).loanable = false)
    (ho : takeOperandOk a.op.operand = true) (hq : s.queue a.index = [])
    (hv : Int.ofNat a.op.operand.toNat ≤ (s.obj a.index).amount) :
    OpDone s ((s.sent p h a).takeAmount a) p h a
      (s.setObj a.index (((s.obj a.index).setAmount ((s.obj a.index).amount - Int.ofNat a.op.operand.toNat)).by a)).objs
      .ok 0 0 := by
  unfold State.takeAmount
  simp only [ho, Bool.not_true, Bool.false_eq_true, if_false, takeFits_empty ((sent_queue hp _).trans hq), sent_obj hp,
    hv, decide_true, if_true, sent_waitTime hp]
  exact takeNow_done hp 0 hl

theorem tryTakeAmount_done (hp : s.passes p h c a) (hl : (s.obj a.index).loanable = false)
    (ho : takeOperandOk a.op.operand = true) (hq : s.queue a.index = []) :
    OpDone s ((s.sent p h a).tryTakeAmount a) p h a
      (if Int.ofNat a.op.operand.toNat ≤ (s.obj a.index).amount then
        (s.setObj a.index (((s.obj a.index).setAmount ((s.obj a.index).amount - Int.ofNat a.op.operand.toNat)).by a)).objs
       else s.objs)
      (if Int.ofNat a.op.operand.toNat ≤ (s.obj a.index).amount then .ok else .wouldBlock) 0 0 := by
  unfold State.tryTakeAmount
  simp only [ho, Bool.not_true, Bool.false_eq_true, if_false, takeFits_empty ((sent_queue hp _).trans hq), sent_obj hp,
    sent_queue hp, hq, List.any_nil, Bool.not_false, Bool.or_true, Bool.and_true]
  by_cases hv : Int.ofNat a.op.operand.toNat ≤ (s.obj a.index).amount
  · simp only [hv, decide_true, if_true]
    exact takeNow_done hp 0 hl
  · simp only [hv, decide_false, Bool.false_eq_true, if_false]
    exact opDone_same hp _ _ _

/-- An operand of TAKE or TRYTAKE outside its range (R106). -/
theorem take_bad (hp : s.passes p h c a) (ho : takeOperandOk a.op.operand = false) :
    OpDone s ((s.sent p h a).takeAmount a) p h a s.objs .badHandle 0 0 ∧
    OpDone s ((s.sent p h a).tryTakeAmount a) p h a s.objs .badHandle 0 0 := by
  unfold State.takeAmount State.tryTakeAmount
  simp only [ho, Bool.not_false, if_true]
  exact ⟨opDone_refuse hp, opDone_refuse hp⟩

/-- SIG, FADD, SWAP and CAS on a TOKEN or SEM that nobody waits on and that no TRIGGER watches (R106, R107). -/
theorem firings_unarmed {r : ObjRec} (ht : r.trig = false) (n : Int) : ((r.setAmount n).by a).firings = 0 := by
  unfold ObjRec.firings ObjRec.by ObjRec.setAmount
  simp only [ht, Bool.false_and, Bool.false_eq_true, if_false]

theorem signalAmount_done (hp : s.passes p h c a) (ht : (s.obj a.index).trig = false) (hq : s.queue a.index = []) :
    (a.op.operand.getLsbD 63 = true → OpDone s ((s.sent p h a).signalAmount a) p h a s.objs .badHandle 0 0) ∧
    (a.op.operand.getLsbD 63 = false →
      (s.obj a.index).inRange ((s.obj a.index).amount + Int.ofNat a.op.operand.toNat) = true →
      OpDone s ((s.sent p h a).signalAmount a) p h a
        (s.setObj a.index (((s.obj a.index).setAmount
          ((s.obj a.index).amount + Int.ofNat a.op.operand.toNat)).by a)).objs .ok 0 0) ∧
    (a.op.operand.getLsbD 63 = false →
      (s.obj a.index).inRange ((s.obj a.index).amount + Int.ofNat a.op.operand.toNat) = false →
      OpDone s ((s.sent p h a).signalAmount a) p h a s.objs .overrun 0 0) := by
  unfold State.signalAmount
  simp only [sent_obj hp]
  refine ⟨fun h1 => ?_, fun h1 h2 => ?_, fun h1 h2 => ?_⟩ <;> simp only [h1, if_true, Bool.false_eq_true, if_false]
  · exact opDone_refuse hp
  · simp only [h2, if_true]
    exact changeAmount_done hp _ _ _ _ (firings_unarmed ht _) hq
  · simp only [h2, Bool.false_eq_true, if_false]
    exact opDone_same hp _ _ _

theorem addAmount_done (hp : s.passes p h c a) (ht : (s.obj a.index).trig = false) (hq : s.queue a.index = [])
    (hl : (s.obj a.index).loanable = false) :
    ((s.obj a.index).inRange ((s.obj a.index).amount + a.op.operand.toInt) = true →
      OpDone s ((s.sent p h a).addAmount a) p h a
        (s.setObj a.index (((s.obj a.index).setAmount ((s.obj a.index).amount + a.op.operand.toInt)).by a)).objs .ok 0
        (s.obj a.index).word0) ∧
    ((s.obj a.index).inRange ((s.obj a.index).amount + a.op.operand.toInt) = false →
      OpDone s ((s.sent p h a).addAmount a) p h a s.objs .overrun 0 0) := by
  unfold State.addAmount
  simp only [sent_obj hp, hl, Bool.false_eq_true, if_false]
  refine ⟨fun h2 => ?_, fun h2 => ?_⟩ <;> simp only [h2, if_true, Bool.false_eq_true, if_false]
  · exact changeAmount_done hp _ _ _ _ (firings_unarmed ht _) hq
  · exact opDone_same hp _ _ _

theorem swapAmount_done (hp : s.passes p h c a) (ht : (s.obj a.index).trig = false) (hq : s.queue a.index = [])
    (hl : (s.obj a.index).loanable = false) :
    ((s.obj a.index).inRange ((s.obj a.index).operandInt a.op.operand) = true →
      OpDone s ((s.sent p h a).swapAmount a) p h a
        (s.setObj a.index (((s.obj a.index).setAmount ((s.obj a.index).operandInt a.op.operand)).by a)).objs .ok 0
        (s.obj a.index).word0) ∧
    ((s.obj a.index).inRange ((s.obj a.index).operandInt a.op.operand) = false →
      OpDone s ((s.sent p h a).swapAmount a) p h a s.objs .overrun 0 0) := by
  unfold State.swapAmount
  simp only [sent_obj hp, hl, Bool.false_eq_true, if_false]
  refine ⟨fun h2 => ?_, fun h2 => ?_⟩ <;> simp only [h2, if_true, Bool.false_eq_true, if_false]
  · exact changeAmount_done hp _ _ _ _ (firings_unarmed ht _) hq
  · exact opDone_same hp _ _ _

theorem casAmount_done (hp : s.passes p h c a) (ht : (s.obj a.index).trig = false) (hq : s.queue a.index = [])
    (hl : (s.obj a.index).loanable = false) :
    ((s.obj a.index).word0 ≠ a.op.operand →
      OpDone s ((s.sent p h a).casAmount a) p h a s.objs .ok 0 (s.obj a.index).word0) ∧
    ((s.obj a.index).word0 = a.op.operand → (s.obj a.index).inRange ((s.obj a.index).operandInt a.op.opb) = true →
      OpDone s ((s.sent p h a).casAmount a) p h a
        (s.setObj a.index (((s.obj a.index).setAmount ((s.obj a.index).operandInt a.op.opb)).by a)).objs .ok 1
        (s.obj a.index).word0) ∧
    ((s.obj a.index).word0 = a.op.operand → (s.obj a.index).inRange ((s.obj a.index).operandInt a.op.opb) = false →
      OpDone s ((s.sent p h a).casAmount a) p h a s.objs .overrun 0 0) := by
  unfold State.casAmount
  simp only [sent_obj hp, hl, Bool.false_eq_true, if_false]
  refine ⟨fun h1 => ?_, fun h1 h2 => ?_, fun h1 h2 => ?_⟩
  · rw [if_pos h1]
    exact opDone_same hp _ _ _
  · rw [if_neg (by simpa using h1), if_pos h2]
    exact changeAmount_done hp _ _ _ _ (firings_unarmed ht _) hq
  · rw [if_neg (by simpa using h1), if_neg (by simpa using h2)]
    exact opDone_same hp _ _ _

/-- FADD, SWAP and CAS on a LOANABLE token (R107). -/
theorem loanable_rights (hp : s.passes p h c a) (hl : (s.obj a.index).loanable = true) :
    OpDone s ((s.sent p h a).addAmount a) p h a s.objs .rights 0 0 ∧
    OpDone s ((s.sent p h a).swapAmount a) p h a s.objs .rights 0 0 ∧
    OpDone s ((s.sent p h a).casAmount a) p h a s.objs .rights 0 0 := by
  unfold State.addAmount State.swapAmount State.casAmount
  simp only [sent_obj hp, hl, if_true]
  exact ⟨opDone_same hp _ _ _, opDone_same hp _ _ _, opDone_same hp _ _ _⟩

/-! ### Ops that wait -/

theorem addWaiter_some {X : State} {q : Nat} (pm : Bool) (w : Waiter) (hr : (X.waitersOf q).length < X.shareSize) :
    ∃ n t, X.addWaiter pm q w = some t ∧ t.waiters = insertWaiter pm { w with num := n } X.waiters ∧
      ∀ m, 0x2000004010000 ||| m = m → t.wipe m = X.wipe m := by
  unfold State.addWaiter State.freeNumber
  simp only [List.length_map, hr, if_true, Option.map_some]
  refine ⟨kthFree (X.shareBase q) (Config.freePick X.free % (X.shareSize - (X.waitersOf q).length))
    (sortNat ((X.waitersOf q).map Waiter.num)), _, rfl, ?_, fun m hm => ?_⟩
  · exact waiters_of_wipe (m := 0x4000000) (by decide) (State.countMax_wipe _ _ _ _ _ _ (by decide))
  · have e := State.addWaiter_wipe X pm q w m hm
    unfold State.addWaiter State.freeNumber at e
    simp only [List.length_map, hr, if_true, Option.map_some] at e
    exact e _ rfl

theorem addWaiter_none {X : State} {q : Nat} (pm : Bool) (w : Waiter) (hr : ¬ (X.waitersOf q).length < X.shareSize) :
    X.addWaiter pm q w = none := by
  unfold State.addWaiter State.freeNumber
  simp only [List.length_map, hr, if_false, Option.map_none]

theorem opWaits_intro {X : State} {objs : Sparse ObjRec} {w : Waiter} (hp : s.passes p h c a)
    (hX : X.wipe 0x2002007014000 = (s.sent p h a).wipe 0x2002007014000) (ho : X.objs = objs)
    (hw : ∃ n, X.waiters = insertWaiter false { w with num := n } s.waiters) : OpWaits s X p h a objs w := by
  have f := passes_facts hp
  have w0 := sent_ports (s := s) (p := p) (h := h) f.1
  refine ⟨ho, hw, ports_of_wipe (by decide) hX, ?_⟩
  unfold SameBut
  have e := wipe_mono (m := fieldMask ([.objs, .ports, .waiters] ++ noteFields)) (by decide) hX
  rw [e, w0]
  exact (wipe_ports _ (by decide) _ _).symm

theorem reach12_room (hp : s.passes p h c a) (hr : s.hasRoom a) :
    (((s.sent p h a).reach12 a).waitersOf a.partition).length < ((s.sent p h a).reach12 a).shareSize := by
  have w := State.reach12_wipe (s.sent p h a) a 0x2000004000000 (by decide)
  have e1 := partCount_of_wipe (by decide) w
  have e2 := waiters_of_wipe (by decide) w
  have w0 := sent_ports (s := s) (p := p) (h := h) (passes_facts hp).1
  have g1 : ((s.sent p h a).reach12 a).partCount = s.partCount := by rw [e1, w0]
  have g2 : ((s.sent p h a).reach12 a).waiters = s.waiters := by rw [e2, w0]
  unfold State.hasRoom State.waitersOf State.partOfIndex State.shareSize at hr
  unfold State.waitersOf State.partOfIndex State.shareSize
  rw [g1, g2]
  exact hr

theorem reach12_waiters (hp : s.passes p h c a) : ((s.sent p h a).reach12 a).waiters = s.waiters := by
  have w := State.reach12_wipe (s.sent p h a) a 0x2000004000000 (by decide)
  rw [waiters_of_wipe (by decide) w, sent_ports (s := s) (p := p) (h := h) (passes_facts hp).1]

theorem reach12_time (hp : s.passes p h c a) : ((s.sent p h a).reach12 a).time = s.time := by
  have w := State.reach12_wipe (s.sent p h a) a 0x2000004000000 (by decide)
  rw [time_of_wipe (by decide) w, sent_ports (s := s) (p := p) (h := h) (passes_facts hp).1]

theorem reach12_clock (hp : s.passes p h c a) : ((s.sent p h a).reach12 a).clock = s.clock := by
  have w := State.reach12_wipe (s.sent p h a) a 0x2000004000000 (by decide)
  rw [clock_of_wipe (by decide) w, sent_ports (s := s) (p := p) (h := h) (passes_facts hp).1]

theorem waiterFor_clock {X Y : State} (ht : X.clock = Y.clock) (k : WaiterKind) (i : Nat) (o : HomeOp) (x y : BitVec 64) :
    X.waiterFor k i o x y = Y.waiterFor k i o x y := by
  unfold State.waiterFor
  rw [ht]

/-- An op queued on its object, a LOCK in priority mode apart (R112). -/
theorem queueOn_waits (hp : s.passes p h c a) (x : BitVec 64) (hl : (s.obj a.index).otype ≠ .lock) (hr : s.hasRoom a) :
    OpWaits s (((s.sent p h a).reach12 a).queueOn? a x) p h a s.objs
      (s.waiterFor .queued a.index a x (a.retref.setWidth 64)) := by
  unfold State.queueOn?
  simp only [reach12_obj hp]
  have pm : ((s.sent p h a).reach12 a).prioMode (s.obj a.index) = false := by
    unfold State.prioMode
    rw [decide_eq_false hl]
    rfl
  rw [pm, waiterFor_clock (reach12_clock hp)]
  obtain ⟨n, t, e, ew, ek⟩ := addWaiter_some false (s.waiterFor .queued a.index a x (a.retref.setWidth 64))
    (reach12_room hp hr)
  rw [e]
  have k := State.recordOp_wipe t a .ok 0
  apply opWaits_intro hp
  · rw [k _ (by decide), ek _ (by decide)]
    exact wipe_mono (by decide) reach12_sent_wipe
  · rw [objs_of_wipe (m := 0x2002007000000) (by decide) (k _ (by decide)), objs_of_wipe (m := 0x2000004010000) (by decide) (ek _ (by decide))]
    exact reach12_objs.trans (sent_objs hp)
  · refine ⟨n, ?_⟩
    rw [waiters_of_wipe (m := 0x2002007000000) (by decide) (k _ (by decide)), ew, reach12_waiters hp]

/-- An op that finds no waiter record (R112). -/
theorem queueOn_overrun (hp : s.passes p h c a) (x : BitVec 64) (hr : ¬ s.hasRoom a) :
    OpDone s (((s.sent p h a).reach12 a).queueOn? a x) p h a s.objs .overrun 0 0 := by
  unfold State.queueOn?
  simp only []
  rw [addWaiter_none]
  · have k := State.exhausted_wipe ((s.sent p h a).reach12 a) a.partition
    apply opDone_finish hp
    · rw [k _ (by decide)]
      exact reach12_sent_wipe
    · rw [objs_of_wipe (m := 0x4000000) (by decide) (k _ (by decide))]
      exact reach12_objs.trans (sent_objs hp)
  · have w := State.reach12_wipe (s.sent p h a) a 0x2000004000000 (by decide)
    have e1 := partCount_of_wipe (by decide) w
    have e2 := waiters_of_wipe (by decide) w
    have w0 := sent_ports (s := s) (p := p) (h := h) (passes_facts hp).1
    have g1 : ((s.sent p h a).reach12 a).partCount = s.partCount := by rw [e1, w0]
    have g2 : ((s.sent p h a).reach12 a).waiters = s.waiters := by rw [e2, w0]
    unfold State.hasRoom State.waitersOf State.partOfIndex State.shareSize at hr
    unfold State.waitersOf State.partOfIndex State.shareSize
    rw [g1, g2]
    exact hr

theorem waitEvent_waits (hp : s.passes p h c a) (he : (s.obj a.index).otype = .event)
    (hs : (s.obj a.index).isSet = false) :
    (s.hasRoom a → OpWaits s ((s.sent p h a).waitEvent a) p h a s.objs
      (s.waiterFor .queued a.index a a.op.operand (a.retref.setWidth 64))) ∧
    (¬ s.hasRoom a → OpDone s ((s.sent p h a).waitEvent a) p h a s.objs .overrun 0 0) := by
  unfold State.waitEvent
  simp only [sent_obj hp, hs, Bool.false_eq_true, if_false]
  exact ⟨queueOn_waits hp _ (by rw [he]; decide), queueOn_overrun hp _⟩

theorem waitAmount_waits (hp : s.passes p h c a) (he : (s.obj a.index).otype ≠ .lock)
    (hs : ¬ (s.obj a.index).operandInt a.op.operand ≤ (s.obj a.index).amount) :
    (s.hasRoom a → OpWaits s ((s.sent p h a).waitAmount a) p h a s.objs
      (s.waiterFor .queued a.index a a.op.operand (a.retref.setWidth 64))) ∧
    (¬ s.hasRoom a → OpDone s ((s.sent p h a).waitAmount a) p h a s.objs .overrun 0 0) := by
  unfold State.waitAmount
  simp only [sent_obj hp, hs, if_false]
  exact ⟨queueOn_waits hp _ he, queueOn_overrun hp _⟩

theorem takeAmount_waits (hp : s.passes p h c a) (he : (s.obj a.index).otype ≠ .lock)
    (ho : takeOperandOk a.op.operand = true) (hs : (s.obj a.index).amount < Int.ofNat a.op.operand.toNat) :
    (s.hasRoom a → OpWaits s ((s.sent p h a).takeAmount a) p h a s.objs
      (s.waiterFor .queued a.index a a.op.operand (a.retref.setWidth 64))) ∧
    (¬ s.hasRoom a → OpDone s ((s.sent p h a).takeAmount a) p h a s.objs .overrun 0 0) := by
  have e : (s.sent p h a).takeFits a = false := by
    unfold State.takeFits
    simp only [sent_obj hp, decide_eq_false (Int.not_le.mpr hs), Bool.false_and]
  unfold State.takeAmount
  simp only [ho, e, Bool.not_true, Bool.false_eq_true, if_false]
  exact ⟨queueOn_waits hp _ he, queueOn_overrun hp _⟩

/-! ### Barriers -/

theorem operands_plain {r : ObjRec} (hx : a.op.flags.x2 = false) (hk : r.isCombining = false) :
    arrivalOperandsOk a r = true := by
  unfold arrivalOperandsOk
  simp only [hx, hk, Bool.false_eq_true, if_false, Bool.false_and, Bool.not_false, Bool.and_self]

theorem way_now {X : State} {r : ObjRec} (hs : a.op.flags.sense = r.sense) (hg : r.isRegistered = false)
    (hc : r.isCombining = true → r.combCount + 1 ≤ 2 ^ 43) (hn : r.arrivals ≠ r.expected) : X.arrivalWay a r = .now := by
  have e : (r.isCombining && decide (2 ^ 43 < r.combCount + 1)) = false := by
    cases hk : r.isCombining
    · rfl
    · simp only [Bool.true_and, decide_eq_false_iff_not, Nat.not_lt]
      exact hc hk
  unfold State.arrivalWay
  simp only [hg, e, hs, beq_self_eq_true, Bool.false_eq_true, if_false, if_true, hn]

theorem arrivals_count {X : State} {r : ObjRec} (hg : r.isRegistered = false) (hn : r.arrivals + 1 < 2 ^ 32) :
    (X.countArrival a r .now).arrivals = r.arrivals + 1 := by
  have hm : ∀ n m : Nat, (r.setArrivals n m).mode = r.mode := by
    intro n m
    unfold ObjRec.setArrivals
    split <;> rfl
  have h0 : ∀ n m : Nat, n < 2 ^ 32 → (r.setArrivals n m).arrivals = n := by
    intro n m hn
    unfold ObjRec.arrivals ObjRec.isRegistered ObjRec.kind
    rw [hm]
    unfold ObjRec.isRegistered ObjRec.kind at hg
    rw [hg]
    simp only [Bool.false_eq_true, if_false]
    unfold ObjRec.setArrivals ObjRec.isRegistered ObjRec.kind
    rw [hg]
    simp only [Bool.false_eq_true, if_false, getFld, BitVec.extractLsb'_toNat, BitVec.toNat_append, BitVec.toNat_ofNat,
      Nat.shiftRight_zero]
    rw [Nat.or_mod_two_pow, Nat.shiftLeft_eq, Nat.mul_mod_left, Nat.zero_or, Nat.mod_mod, Nat.mod_eq_of_lt hn]
  unfold State.countArrival
  simp only [hg, Bool.false_eq_true, if_false]
  split
  · have e : ((r.setArrivals (r.arrivals + 1) r.nextArrivals).setAccs (r.combCount + 1)
        (accMerge r.oper r.cur (contribution r.oper r.format a.op.operand)) r.next r.lastResult).arrivals =
        (r.setArrivals (r.arrivals + 1) r.nextArrivals).arrivals := rfl
    rw [e, h0 _ _ hn]
  · exact h0 _ _ hn

theorem countArrival_expected {X : State} {r : ObjRec} (hg : r.isRegistered = false) :
    (X.countArrival a r .now).expected = r.expected := by
  unfold State.countArrival
  simp only [hg, Bool.false_eq_true, if_false]
  split <;> (unfold ObjRec.setArrivals; split <;> rfl)

theorem countArrival_plain {X Y : State} {r : ObjRec} (hg : r.isRegistered = false) :
    X.countArrival a r .now = Y.countArrival a r .now := by
  unfold State.countArrival
  simp only [hg, Bool.false_eq_true, if_false]

/-- An arrival in the current round that does not complete it (R141). -/
theorem arrive_counts (hp : s.passes p h c a) (ho : arrivalOperandsOk a (s.obj a.index) = true)
    (hb : (s.obj a.index).broken = false) (hs : a.op.flags.sense = (s.obj a.index).sense)
    (hg : (s.obj a.index).isRegistered = false)
    (hc : (s.obj a.index).isCombining = true → (s.obj a.index).combCount + 1 ≤ 2 ^ 43)
    (hn : (s.obj a.index).arrivals + 1 < (s.obj a.index).expected) :
    OpDone s ((s.sent p h a).arrive a false) p h a
      (s.setObj a.index ((s.countArrival a (s.obj a.index) .now).by a)).objs .ok (arrivalResult (s.obj a.index) false) 0 ∧
    (s.hasRoom a → OpWaits s ((s.sent p h a).arrive a true) p h a
      (s.setObj a.index ((s.countArrival a (s.obj a.index) .now).by a)).objs
      (s.waiterFor .queued a.index a ((s.obj a.index).round.setWidth 64) (a.retref.setWidth 64))) := by
  have hlt : (s.obj a.index).arrivals + 1 < 2 ^ 32 := by
    have : (s.obj a.index).expected < 2 ^ 32 := (getFld (s.obj a.index).word1 0 32).isLt
    omega
  have hnc : ((s.countArrival a (s.obj a.index) .now).by a).complete = false := by
    have e1 : ((s.countArrival a (s.obj a.index) .now).by a).arrivals = (s.obj a.index).arrivals + 1 :=
      arrivals_count hg hlt
    have e2 : ((s.countArrival a (s.obj a.index) .now).by a).expected = (s.obj a.index).expected :=
      countArrival_expected hg
    unfold ObjRec.complete
    rw [e1, e2, decide_eq_false (p := (s.obj a.index).arrivals + 1 = (s.obj a.index).expected) (by omega), Bool.and_false]
  have hne : (s.obj a.index).arrivals ≠ (s.obj a.index).expected := by omega
  unfold State.arrive
  simp only [sent_obj hp, ho, hb, Bool.not_true, Bool.false_eq_true, if_false, way_now hs hg hc hne]
  unfold State.takeArrival State.arrivalWaiter State.write
  simp only [reach12_obj hp, hg, Bool.false_eq_true, and_false, if_false, decide_true, Bool.and_true, reduceCtorEq,
    decide_false, if_true]
  rw [countArrival_plain (Y := s) hg]
  constructor
  · have d := opDone_write hp ((s.countArrival a (s.obj a.index) .now).by a) .ok (arrivalResult (s.obj a.index) false) 0
    have e := obj_of_objs d.1 a.index
    rw [State.obj_setObj_self] at e
    rw [e, hnc]
    exact d
  · intro hr
    rw [waiterFor_clock (reach12_clock hp)]
    obtain ⟨n, t, e, ew, ek⟩ := addWaiter_some false (s.waiterFor .queued a.index a
      ((s.obj a.index).round.setWidth 64) (a.retref.setWidth 64)) (reach12_room hp hr)
    rw [e]
    simp only []
    rw [countArrival_plain (Y := s) hg]
    have k := State.recordOp_wipe (t.setObj a.index ((s.countArrival a (s.obj a.index) .now).by a)) a .ok 0
    have o : ((t.setObj a.index ((s.countArrival a (s.obj a.index) .now).by a)).recordOp a .ok 0).objs =
        (s.setObj a.index ((s.countArrival a (s.obj a.index) .now).by a)).objs := by
      rw [objs_of_wipe (m := 0x2002007000000) (by decide) (k _ (by decide))]
      unfold State.setObj
      simp only []
      rw [objs_of_wipe (m := 0x2000004010000) (by decide) (ek _ (by decide)), reach12_objs, sent_objs hp]
    rw [obj_of_objs o, State.obj_setObj_self, hnc]
    apply opWaits_intro hp
    · rw [if_neg (by decide), k _ (by decide)]
      unfold State.setObj
      rw [wipe_objs _ (by decide), ek _ (by decide)]
      exact wipe_mono (by decide) reach12_sent_wipe
    · rw [if_neg (by decide)]
      exact o
    · refine ⟨n, ?_⟩
      rw [if_neg (by decide), waiters_of_wipe (m := 0x2002007000000) (by decide) (k _ (by decide))]
      exact ew.trans (by rw [reach12_waiters hp])

/-- WREL (R149). -/
theorem waitRelease_done (hp : s.passes p h c a) (hb : (s.obj a.index).broken = false) :
    (a.op.flags.sense ≠ (s.obj a.index).sense →
      OpDone s ((s.sent p h a).waitRelease a) p h a s.objs .ok
        (((s.obj a.index).round - 1).toNat + 2 ^ 28 * bitNat (((s.obj a.index).round - 1).getLsbD 0))
        (if (s.obj a.index).isCombining then (s.obj a.index).lastResult else 0)) ∧
    (a.op.flags.sense = (s.obj a.index).sense → (s.obj a.index).otype ≠ .lock → s.hasRoom a →
      OpWaits s ((s.sent p h a).waitRelease a) p h a s.objs
        (s.waiterFor .queued a.index a ((s.obj a.index).round.setWidth 64) (a.retref.setWidth 64))) := by
  unfold State.waitRelease
  simp only [sent_obj hp, hb, Bool.false_eq_true, if_false]
  refine ⟨fun e => ?_, fun e hl hr => ?_⟩
  · rw [if_neg (by simpa using e)]
    exact opDone_same hp _ _ _
  · rw [if_pos (by simpa using e)]
    exact queueOn_waits hp _ hl hr

/-! ### Locks -/

theorem lockRights_sent (hp : s.passes p h c a) (r : ObjRec) : (s.sent p h a).lockRights a r = s.lockRights a r := by
  rw [sent_ports (passes_facts hp).1]
  rfl

/-- A free lock taken on arrival (R106). -/
theorem lockNow_done (hp : s.passes p h c a) (n : Nat) :
    OpDone s (((s.sent p h a).reach12 a).lockNow a n) p h a
      (s.setObj a.index (((s.obj a.index).taken s.time a.originator a.op.tsel).by a)).objs
      (s.obj a.index).grantStatus n 0 := by
  unfold State.lockNow State.write
  simp only [reach12_obj hp, reach12_time hp]
  have w := State.countGrant_wipe
  have k := State.recordLock_wipe (((s.sent p h a).reach12 a).setObj a.index
    (((s.obj a.index).taken s.time a.originator a.op.tsel).by a)) a.index 0 a.originator
  apply opDone_finish hp
  · rw [w _ _ _ (by decide), k _ (by decide)]
    unfold State.setObj
    rw [wipe_objs _ (by decide)]
    exact reach12_sent_wipe
  · rw [objs_of_wipe (m := 0x4000000) (by decide) (w _ _ _ (by decide)),
      objs_of_wipe (m := 0x2002007000000) (by decide) (k _ (by decide))]
    unfold State.setObj
    simp only [reach12_objs, sent_objs hp]

theorem acquire_free (hp : s.passes p h c a) (hr : s.lockRights a (s.obj a.index) = true)
    (hh : (s.obj a.index).held = false) :
    OpDone s ((s.sent p h a).acquire a) p h a
      (s.setObj a.index (((s.obj a.index).taken s.time a.originator a.op.tsel).by a)).objs
      (s.obj a.index).grantStatus 0 0 ∧
    OpDone s ((s.sent p h a).tryAcquire a) p h a
      (s.setObj a.index (((s.obj a.index).taken s.time a.originator a.op.tsel).by a)).objs
      (s.obj a.index).grantStatus 0 0 := by
  unfold State.acquire State.tryAcquire
  simp only [sent_obj hp, lockRights_sent hp, hr, hh, Bool.not_true, Bool.false_eq_true, if_false, sent_waitTime hp]
  exact ⟨lockNow_done hp 0, lockNow_done hp 0⟩

/-- A lock op that its group's rights refuse (R225). -/
theorem lock_refused (hp : s.passes p h c a) (hr : s.lockRights a (s.obj a.index) = false) :
    OpDone s ((s.sent p h a).acquire a) p h a s.objs .rights 0 0 ∧
    OpDone s ((s.sent p h a).tryAcquire a) p h a s.objs .rights 0 0 ∧
    OpDone s ((s.sent p h a).releaseLock a) p h a s.objs .rights 0 0 ∧
    OpDone s ((s.sent p h a).forceRelease a) p h a s.objs .rights 0 0 := by
  unfold State.acquire State.tryAcquire State.releaseLock State.forceRelease
  simp only [sent_obj hp, lockRights_sent hp, hr, Bool.not_false, if_true]
  exact ⟨opDone_refuse hp, opDone_refuse hp, opDone_refuse hp, opDone_refuse hp⟩

theorem tryAcquire_held (hp : s.passes p h c a) (hr : s.lockRights a (s.obj a.index) = true)
    (hh : (s.obj a.index).held = true) : OpDone s ((s.sent p h a).tryAcquire a) p h a s.objs .wouldBlock 0 0 := by
  unfold State.tryAcquire
  simp only [sent_obj hp, lockRights_sent hp, hr, hh, Bool.not_true, Bool.false_eq_true, if_false, if_true]
  exact opDone_same hp _ _ _

/-- An op's counts stand in the counter blocks from 0x6000 on, and leave the settings below as they are. -/
theorem setCfg_low {X : State} {i sub q v k : Nat} (hk : k < 0x6000 * 4096) (hi : 0x6000 ≤ i) :
    (X.setCfg i sub q v).cat.get catNone k = X.cat.get catNone k := by
  unfold State.setCfg
  apply Sparse.get_put_ne
  unfold catKey
  omega

theorem count_low {X : State} {i sub q n k : Nat} (hk : k < 0x6000 * 4096) (hi : 0x6000 ≤ i) :
    (X.count i sub q n).cat.get catNone k = X.cat.get catNone k := setCfg_low hk hi

theorem reach12_low {X : State} {k : Nat} (hk : k < 0x6000 * 4096) :
    (X.reach12 a).cat.get catNone k = X.cat.get catNone k := by
  have hp : ∀ (Y : State) (sub q n : Nat), (Y.pcount sub q n).cat.get catNone k = Y.cat.get catNone k := by
    intro Y sub q n
    unfold State.pcount
    split
    · exact count_low hk (by decide)
    · rfl
  have ha : (X.actOp a).cat.get catNone k = X.cat.get catNone k := by
    unfold State.actOp State.act
    split
    · rfl
    · split
      · unfold State.stockAct
        exact count_low hk (by decide)
      · rfl
  have hc : ∀ (Y : State) (sub n : Nat), (Y.count 0x6008 sub 0 n).cat.get catNone k = Y.cat.get catNone k :=
    fun Y sub n => count_low hk (by decide)
  have hm : ∀ (Y : State) (n : Nat), (Y.countMax 0x6008 11 0 n).cat.get catNone k = Y.cat.get catNone k := by
    intro Y n
    unfold State.countMax
    split
    · exact setCfg_low hk (by decide)
    · rfl
  have hf : ∀ Y : State, Y.fresh.cat = Y.cat := fun _ => rfl
  unfold State.reach12
  generalize Config.serviceBucket _ = z
  simp only []
  split
  · rw [hm, hf, hc, hc, hp, ha]
  · rw [hf, hc, hc, hp, ha]

theorem groupCfg_reach12 (hp : s.passes p h c a) (g : BitVec 8) (sub : Nat) (hs : sub < 16) :
    ((s.sent p h a).reach12 a).groupCfg g sub = s.groupCfg g sub := by
  have w0 := sent_ports (s := s) (p := p) (h := h) (passes_facts hp).1
  unfold State.groupCfg State.cfg
  rw [reach12_low, w0]
  unfold catKey
  have := g.isLt
  omega

/-- ACQ on a held lock of a group without priority mode (R106, R239). -/
theorem acquire_waits (hp : s.passes p h c a) (hr : s.lockRights a (s.obj a.index) = true)
    (hh : (s.obj a.index).held = true) (hm : s.prioMode (s.obj a.index) = false)
    (ht : a.op.tsel.toNat ≤ (s.obj a.index).prio.toNat) (hroom : s.hasRoom a) :
    OpWaits s ((s.sent p h a).acquire a) p h a s.objs
      (s.waiterFor .queued a.index (s.lockDeadline a (s.obj a.index)) 0 (a.retref.setWidth 64)) := by
  unfold State.acquire
  simp only [sent_obj hp, lockRights_sent hp, hr, hh, Bool.not_true, Bool.false_eq_true, if_false, if_true]
  unfold State.lockQueue
  have e1 : ((s.sent p h a).reach12 a).prioMode (s.obj a.index) = false := by
    rw [← hm]
    unfold State.prioMode
    rw [groupCfg_reach12 hp _ _ (by decide)]
  have e2 : ((s.sent p h a).reach12 a).lockDeadline a (s.obj a.index) = s.lockDeadline a (s.obj a.index) := by
    unfold State.lockDeadline
    rw [groupCfg_reach12 hp _ _ (by decide)]
  simp only [reach12_obj hp, e1, e2]
  rw [waiterFor_clock (reach12_clock hp)]
  obtain ⟨n, t, e, ew, ek⟩ := addWaiter_some false (s.waiterFor .queued a.index (s.lockDeadline a (s.obj a.index)) 0
    (a.retref.setWidth 64)) (reach12_room hp hroom)
  rw [e]
  have k := State.recordOp_wipe t a .ok 0
  have ko : (t.recordOp a .ok 0).objs = s.objs := by
    rw [objs_of_wipe (m := 0x2002007000000) (by decide) (k _ (by decide)), objs_of_wipe (m := 0x2000004010000) (by decide) (ek _ (by decide))]
    exact reach12_objs.trans (sent_objs hp)
  have kb : (t.recordOp a .ok 0).boost a = t.recordOp a .ok 0 := by
    unfold State.boost
    simp only [obj_of_objs ko, decide_eq_false (Nat.not_lt.mpr ht), Bool.and_false, Bool.false_and, Bool.false_eq_true,
      if_false]
  simp only [kb]
  apply opWaits_intro hp
  · rw [k _ (by decide), ek _ (by decide)]
    exact wipe_mono (by decide) reach12_sent_wipe
  · exact ko
  · refine ⟨n, ?_⟩
    rw [waiters_of_wipe (m := 0x2002007000000) (by decide) (k _ (by decide)), ew, reach12_waiters hp]

/-- REL by the holder of a lock that nobody waits for (R106, R245). -/
theorem freeLock_alone {X : State} {i how ec : Nat} {ab : Bool} (hi : (X.obj i).inhPrio = 0) (hq : X.queue i = []) :
    (X.freeLock i how ec ab).objs = (X.setObj i { (X.obj i).setLock 0 (X.obj i).prio (X.obj i).grantTime
      (X.obj i).acqCount false (X.obj i).holder with abandoned := ab }).objs ∧
    ∀ m, 0x2002007004000 ||| m = m → (X.freeLock i how ec ab).wipe m = X.wipe m := by
  have k := State.recordLock_wipe X i how (X.obj i).holder
  have ko := objs_of_wipe (m := 0x2002007000000) (by decide) (k _ (by decide))
  have ke : (X.recordLock i how (X.obj i).holder).endInherit i ec = X.recordLock i how (X.obj i).holder := by
    unfold State.endInherit
    simp only [obj_of_objs ko, hi, if_true]
  unfold State.freeLock
  simp only [ke, obj_of_objs ko, hi]
  have hq2 : ((X.recordLock i how (X.obj i).holder).setObj i { (X.obj i).setLock 0 (X.obj i).prio (X.obj i).grantTime
      (X.obj i).acqCount false (X.obj i).holder with abandoned := ab }).queue i = [] :=
    (queue_of_waiters (waiters_of_wipe (m := 0x2002007000000) (by decide) (k _ (by decide))) i).trans hq
  unfold State.serve
  rw [serveCount_empty hq2]
  refine ⟨?_, fun m hm => ?_⟩
  · unfold State.setObj
    simp only [ko]
  · unfold State.setObj
    rw [wipe_objs _ (testBit_sub hm (by decide))]
    exact k _ (mask_sub hm (by decide))

theorem releaseLock_done (hp : s.passes p h c a) (hr : s.lockRights a (s.obj a.index) = true)
    (hh : (s.obj a.index).held = true) (ho : (s.obj a.index).holder = a.originator)
    (hi : (s.obj a.index).inhPrio = 0) (hq : s.queue a.index = []) :
    (OpDone s ((s.sent p h a).releaseLock a) p h a
      (s.setObj a.index { ((s.obj a.index).setLock 0 (s.obj a.index).prio (s.obj a.index).grantTime
        (s.obj a.index).acqCount false (s.obj a.index).holder).by a with abandoned := false }).objs .ok 0 0) := by
  unfold State.releaseLock State.write
  simp only [sent_obj hp, lockRights_sent hp, hr, Bool.not_true, Bool.false_eq_true, if_false]
  rw [if_pos ⟨hh, ho⟩]
  have f := freeLock_alone (X := ((s.sent p h a).reach12 a).setObj a.index
    (({ s.obj a.index with abandoned := false } : ObjRec).by a)) (i := a.index) (how := 1) (ec := 1) (ab := false)
    (by rw [State.obj_setObj_self]; exact hi) ((reach12_queue hp _).trans hq)
  apply opDone_finish hp
  · rw [f.2 _ (by decide)]
    unfold State.setObj
    rw [wipe_objs _ (by decide)]
    exact reach12_sent_wipe
  · rw [f.1, State.obj_setObj_self]
    unfold State.setObj
    simp only [reach12_objs, sent_objs hp, Sparse.put_put]
    rfl

theorem releaseLock_other (hp : s.passes p h c a) (hr : s.lockRights a (s.obj a.index) = true)
    (ho : (s.obj a.index).held = false ∨ (s.obj a.index).holder ≠ a.originator) :
    OpDone s ((s.sent p h a).releaseLock a) p h a s.objs .rights 0 0 := by
  have n : ¬ ((s.obj a.index).held = true ∧ (s.obj a.index).holder = a.originator) := by
    rintro ⟨h1, h2⟩
    rcases ho with ho | ho
    · rw [h1] at ho
      cases ho
    · exact ho h2
  unfold State.releaseLock
  simp only [sent_obj hp, lockRights_sent hp, hr, Bool.not_true, Bool.false_eq_true, if_false, n]
  exact opDone_same hp _ _ _

/-- FREL of a lock that nobody waits for (R106, R240). -/
theorem forceRelease_done (hp : s.passes p h c a) (hr : s.lockRights a (s.obj a.index) = true)
    (hi : (s.obj a.index).inhPrio = 0) (hq : s.queue a.index = []) :
    OpDone s ((s.sent p h a).forceRelease a) p h a
      (if (s.obj a.index).held then (s.setObj a.index (((s.obj a.index).setLock 0 (s.obj a.index).prio
        (s.obj a.index).grantTime (s.obj a.index).acqCount false (s.obj a.index).holder).by a)).objs else s.objs) .ok 0 0 := by
  unfold State.forceRelease State.write
  simp only [sent_obj hp, lockRights_sent hp, hr, Bool.not_true, Bool.false_eq_true, if_false]
  split
  · have f := freeLock_alone (X := ((s.sent p h a).reach12 a).setObj a.index ((s.obj a.index).by a)) (i := a.index)
      (how := 2) (ec := 2) (ab := (s.obj a.index).abandoned)
      (by rw [State.obj_setObj_self]; exact hi) ((reach12_queue hp _).trans hq)
    apply opDone_finish hp
    · rw [f.2 _ (by decide)]
      unfold State.setObj
      rw [wipe_objs _ (by decide)]
      exact reach12_sent_wipe
    · rw [f.1, State.obj_setObj_self]
      unfold State.setObj
      simp only [reach12_objs, sent_objs hp, Sparse.put_put]
      rfl
  · exact opDone_same hp _ _ _

/-! ### INIT and ARM -/

theorem mem_numsFrom {q : Nat} : ∀ (n lo : Nat), q ∈ numsFrom lo n → lo ≤ q ∧ q < lo + n
  | 0, _, h => by cases h
  | n + 1, lo, h => by
    rcases List.mem_cons.mp h with h | h
    · omega
    · have := mem_numsFrom n (lo + 1) h
      omega

theorem initBlocked_sent (hp : s.passes p h c a) (i q : Nat) (x : InitArgs) :
    (s.sent p h a).initBlocked i q x = s.initBlocked i q x := by
  rw [sent_ports (passes_facts hp).1]
  rfl

theorem initRefused_sent (hp : s.passes p h c a) (i : Nat) (x : InitArgs) :
    (s.sent p h a).initRefused i x = s.initRefused i x := by
  rw [sent_ports (passes_facts hp).1]
  rfl

/-- INIT (R63 to R68). -/
theorem initObj_done (hp : s.passes p h c a) (x : InitArgs) (hx : x = { a := a.op.operand, b := a.op.opb }) :
    (∀ st, s.initRefused a.index x = some st → OpDone s ((s.sent p h a).initObj a) p h a s.objs st 0 0) ∧
    (∀ st, s.initRefused a.index x = none → s.initBlocked a.index a.partition x = some st →
      OpDone s ((s.sent p h a).initObj a) p h a s.objs st 0 0) ∧
    (s.initRefused a.index x = none → s.initBlocked a.index a.partition x = none →
      ((s.sent p h a).initObj a).objs = (s.setObj a.index (initRecord a.partition a x)).objs ∧
      ((s.sent p h a).initObj a).wideBits =
        (if a.index % 4 = 0 then (s.setWideBit a.index x.wide).wideBits else s.wideBits) ∧
      ((s.sent p h a).initObj a).rets = s.rets ++ a.rets .ok 0 0 ∧
      SameBut ([.objs, .wideBits, .parts, .ports, .rets] ++ noteFields) s ((s.sent p h a).initObj a)) := by
  have er := initRefused_sent hp a.index x
  have eb := initBlocked_sent hp a.index a.partition x
  subst hx
  unfold State.initObj
  refine ⟨fun st h1 => ?_, fun st h1 h2 => ?_, fun h1 h2 => ?_⟩
  · simp only [er, h1]
    exact opDone_refuse hp
  · simp only [er, eb, h1, h2]
    exact opDone_same hp _ _ _
  · simp only [er, eb, h1, h2]
    have f := passes_facts hp
    have w0 := sent_ports (s := s) (p := p) (h := h) f.1
    have k1 := State.dropHolds_wipe ((s.sent p h a).reach12 a) a.partition a.index
    have k2 := State.dropChecks_wipe (((s.sent p h a).reach12 a).dropHolds a.partition a.index) a.index
    generalize hY : (((s.sent p h a).reach12 a).dropHolds a.partition a.index).dropChecks a.index = Y at *
    have kY : ∀ m, 0x2000004101000 ||| m = m → Y.wipe m = (s.sent p h a).wipe m := by
      intro m hm
      rw [k2 m (mask_sub hm (by decide)), k1 m (mask_sub hm (by decide))]
      exact State.reach12_wipe _ _ _ (mask_sub hm (by decide))
    generalize hX : (if a.index % 4 = 0 then (Y.setObj a.index (initRecord a.partition a
        { a := a.op.operand, b := a.op.opb })).setWideBit a.index
        (InitArgs.wide { a := a.op.operand, b := a.op.opb }) else
        Y.setObj a.index (initRecord a.partition a { a := a.op.operand, b := a.op.opb })) = X
    have kX : ∀ m, 0x200000410d000 ||| m = m → X.wipe m = (s.sent p h a).wipe m := by
      intro m hm
      rw [← kY m (mask_sub hm (by decide)), ← hX]
      split
      · unfold State.setWideBit State.setObj
        rw [wipe_wideBits _ (testBit_sub hm (by decide)), wipe_objs _ (testBit_sub hm (by decide))]
      · unfold State.setObj
        rw [wipe_objs _ (testBit_sub hm (by decide))]
    have xo : X.objs = (s.setObj a.index (initRecord a.partition a { a := a.op.operand, b := a.op.opb })).objs := by
      have yo : Y.objs = s.objs := by
        rw [objs_of_wipe (m := 0x2000004101000) (by decide) (kY _ (by decide)), w0]
      rw [← hX]
      split <;> (unfold State.setObj; simp only [State.setWideBit, yo])
    have xw : X.wideBits = (if a.index % 4 = 0 then (s.setWideBit a.index
        (InitArgs.wide { a := a.op.operand, b := a.op.opb })).wideBits else s.wideBits) := by
      have yo : Y.wideBits = s.wideBits := by
        rw [wideBits_of_wipe (m := 0x2000004101000) (by decide) (kY _ (by decide)), w0]
      rw [← hX]
      split <;> simp only [State.setObj, State.setWideBit, yo]
    have hh : X.hub = s.hub := by
      unfold State.hub
      rw [device_of_wipe (m := 0x200000410d000) (by decide) (kX _ (by decide)),
        die_of_wipe (m := 0x200000410d000) (by decide) (kX _ (by decide)), w0]
    have k := finish_here (s := X) f.1 (by rw [hh]; exact passes_origHub hp) .ok 0 0
    have w := k.2 0x2002007400000 (by decide)
    refine ⟨by rw [objs_of_wipe (by decide) w, xo], by rw [wideBits_of_wipe (by decide) w, xw], ?_, ?_⟩
    · rw [k.1, rets_of_wipe (m := 0x200000410d000) (by decide) (kX _ (by decide)), w0]
    · unfold SameBut
      rw [k.2 _ (by decide), kX _ (by decide), w0]
      exact (wipe_ports _ (by decide) _ _).symm

/-- ARM of a TOKEN whose value fires nothing, or of a BARRIER (R59, R106). -/
theorem armObj_done (hp : s.passes p h c a) (hf : s.flips = []) (hl : (s.obj a.index).loanable = false)
    (hk : s.pairOk (s.obj a.index) a.index = true) (hj : (s.obj (trigIndex (s.obj a.index) a.index)).faulted = false)
    (r : ObjRec) (hr : r = ({ s.obj a.index with
      trig := true
      word1 := if (s.obj a.index).otype = .token ∧ a.op.operand ≠ 0 then a.op.operand else (s.obj a.index).word1 } : ObjRec).by a)
    (h1 : (s.obj a.index).otype = .token → r.word1 ≠ 0) (h2 : r.firings = 0) (hq : s.queue a.index = []) :
    OpDone s ((s.sent p h a).armObj a) p h a (s.setObj a.index r).objs .ok 0 0 := by
  have w := State.reach12_wipe (s.sent p h a) a 0x2000004000000 (by decide)
  have w0 := sent_ports (s := s) (p := p) (h := h) (passes_facts hp).1
  have hfl : ((s.sent p h a).reach12 a).flips = [] := by rw [flips_of_wipe (by decide) w, w0]; exact hf
  have ew : ∀ j, ((s.sent p h a).reach12 a).wideBit j = s.wideBit j := by
    intro j
    unfold State.wideBit
    rw [wideBits_of_wipe (by decide) w, w0]
  have ert : ((s.sent p h a).reach12 a).readTrig a.index = (s.sent p h a).reach12 a := by
    unfold State.readTrig
    exact access_clean _ _ _ hfl
  have ep : ((s.sent p h a).reach12 a).pairOk (s.obj a.index) a.index = true := by
    rw [← hk]
    unfold State.pairOk State.isBody
    simp only [reach12_obj hp, ew]
  unfold State.armObj
  simp only [sent_obj hp, ert, hl, ep, reach12_obj hp, hj, Bool.not_true, Bool.false_eq_true, if_false, decide_eq_true_eq]
  rw [← hr]
  have e1 : (decide ((s.obj a.index).otype = ObjType.token) && decide (r.word1 = 0)) = false := by
    by_cases e : (s.obj a.index).otype = .token
    · simp only [e, decide_true, decide_eq_false (h1 e), Bool.and_false]
    · simp only [e, decide_false, Bool.false_and]
  simp only [e1, h2, Bool.false_eq_true, if_false, Nat.not_lt_zero, State.fireToken]
  unfold State.serve
  rw [serveCount_empty (s := ((s.sent p h a).reach12 a).setObj a.index r) ((reach12_queue hp _).trans hq)]
  exact opDone_write hp _ _ _ _

end

end Sys2Proof.Machine
end

