-- ==== Sys2Proof/Laws/Services.lean ====
section
/-! SUPPORT. The ops that a shim answers itself (R113), and an op word that it refuses (R93): the pending entry, the
response and the lane on which it shows. -/

set_option linter.all false

namespace Sys2Proof.Machine

/-! ### A free number -/

/-- Every later number of a rising list is no smaller. -/
def rising : List Nat → Prop
  | [] => True
  | n :: ns => (∀ m ∈ ns, n ≤ m) ∧ rising ns

theorem mem_insertNat {n m : Nat} : ∀ {l : List Nat}, m ∈ insertNat n l ↔ m = n ∨ m ∈ l
  | [] => by simp [insertNat]
  | k :: ks => by
    unfold insertNat
    split
    · simp
    · rw [List.mem_cons, mem_insertNat, List.mem_cons]
      constructor
      · rintro (h | h | h)
        · exact .inr (.inl h)
        · exact .inl h
        · exact .inr (.inr h)
      · rintro (h | h | h)
        · exact .inr (.inl h)
        · exact .inl h
        · exact .inr (.inr h)

theorem rising_insertNat {n : Nat} : ∀ {l : List Nat}, rising l → rising (insertNat n l)
  | [], _ => ⟨fun m h => absurd h (List.not_mem_nil), trivial⟩
  | k :: ks, h => by
    unfold insertNat
    split
    · rename_i g
      refine ⟨fun m hm => ?_, h⟩
      rcases List.mem_cons.mp hm with e | e
      · omega
      · have := h.1 m e
        omega
    · rename_i g
      refine ⟨fun m hm => ?_, rising_insertNat h.2⟩
      rcases mem_insertNat.mp hm with e | e
      · omega
      · exact h.1 m e

theorem mem_sortNat {m : Nat} : ∀ {l : List Nat}, m ∈ sortNat l ↔ m ∈ l
  | [] => Iff.rfl
  | n :: ns => by
    unfold sortNat
    rw [mem_insertNat, mem_sortNat, List.mem_cons]

theorem rising_sortNat : ∀ l : List Nat, rising (sortNat l)
  | [] => trivial
  | n :: ns => rising_insertNat (rising_sortNat ns)

theorem foldl_free : ∀ (l : List Nat) (n : Nat), rising l →
    n ≤ l.foldl (fun n u => if u ≤ n then n + 1 else n) n ∧ l.foldl (fun n u => if u ≤ n then n + 1 else n) n ∉ l
  | [], n, _ => ⟨Nat.le_refl _, by intro h; cases h⟩
  | u :: us, n, h => by
    rw [List.foldl_cons]
    by_cases g : u ≤ n
    · rw [if_pos g]
      have k := foldl_free us (n + 1) h.2
      refine ⟨by omega, fun e => ?_⟩
      rcases List.mem_cons.mp e with e | e
      · omega
      · exact k.2 e
    · rw [if_neg g]
      have k := foldl_free us n h.2
      have fix : ∀ (l : List Nat), (∀ m ∈ l, n < m) → l.foldl (fun n u => if u ≤ n then n + 1 else n) n = n := by
        intro l
        induction l with
        | nil => intro _; rfl
        | cons v vs ih =>
          intro hv
          have := hv v (List.mem_cons_self ..)
          rw [List.foldl_cons, if_neg (by omega)]
          exact ih fun m hm => hv m (List.mem_cons_of_mem _ hm)
      refine ⟨k.1, fun e => ?_⟩
      rcases List.mem_cons.mp e with e | e
      · rw [fix us fun m hm => by have := h.1 m hm; omega] at e
        omega
      · exact k.2 e

/-- The lowest free number is none of the numbers in use. -/
theorem lowestFree_free {base size : Nat} {used : List Nat} {n : Nat} (h : lowestFree base size used = some n) : n ∉ used := by
  unfold lowestFree at h
  split at h
  · cases h
    unfold kthFree
    have k := foldl_free (sortNat used) (base + 0) (rising_sortNat used)
    exact fun e => k.2 (mem_sortNat.mpr e)
  · cases h

theorem kthFree_lt : ∀ (l : List Nat) (n : Nat), l.foldl (fun n u => if u ≤ n then n + 1 else n) n ≤ n + l.length
  | [], _ => Nat.le_refl _
  | u :: us, n => by
    rw [List.foldl_cons]
    have := kthFree_lt us (if u ≤ n then n + 1 else n)
    have h : (if u ≤ n then n + 1 else n) ≤ n + 1 := by split <;> omega
    simp only [List.length_cons]
    omega

theorem length_insertNat (n : Nat) : ∀ l : List Nat, (insertNat n l).length = l.length + 1
  | [] => rfl
  | k :: ks => by
    unfold insertNat
    split
    · rfl
    · rw [List.length_cons, length_insertNat, List.length_cons]

theorem length_sortNat : ∀ l : List Nat, (sortNat l).length = l.length
  | [] => rfl
  | n :: ns => by rw [sortNat, length_insertNat, length_sortNat, List.length_cons]

theorem lowestFree_lt {base size : Nat} {used : List Nat} {n : Nat} (h : lowestFree base size used = some n) :
    n < base + size := by
  unfold lowestFree at h
  split at h
  · cases h
    unfold kthFree
    have := kthFree_lt (sortNat used) (base + 0)
    rw [length_sortNat] at this
    omega
  · cases h

/-- A pending entry that a shim may take is not in use. -/
theorem usableEntry_free {x : Port} {h : ShimOp} {n : Nat} (e : x.usableEntry h = some n) : ∀ q ∈ x.pend, q.entry ≠ n := by
  unfold Port.usableEntry at e
  simp only [] at e
  split at e
  · rename_i g
    cases e
    intro q hq k
    have : (x.pend.map Pend.entry).contains 63 = true := by
      rw [List.contains_iff_mem]
      exact List.mem_map.mpr ⟨q, hq, k⟩
    rw [this] at g
    exact absurd g.2.2 (by decide)
  · intro q hq k
    have f := lowestFree_free e
    have l := lowestFree_lt e
    apply f
    rw [List.mem_filter]
    exact ⟨List.mem_map.mpr ⟨q, hq, k⟩, by simpa using l⟩

/-! ### The response -/

section
variable {s : State} {p : Nat} {e : Pend}

/-- A response that nothing keeps goes to its lane. -/
theorem offer_lane {r : Rsp} (ha : r.acq = false) (hi : ((s.port p).inval.any fun q => decide (q.1.lane = r.lane)) = false)
    (hpk : codeService r.opcode = true ∨ (s.port p).parked = []) (hh : codeService r.opcode = true ∨ s.portHeld p = false) :
    s.offer p r = s.setPort p ((s.port p).toLane r) := by
  have h1 : (s.port p).parks r = false := by
    unfold Port.parks
    rcases hpk with h | h <;> rw [h] <;> simp
  have h2 : (s.portHeld p && !codeService r.opcode) = false := by
    rcases hh with h | h <;> rw [h] <;> simp
  unfold State.offer
  simp only [h1, h2, Bool.false_eq_true, if_false]
  unfold Port.ready
  simp only [ha, hi, Bool.or_self, Bool.false_eq_true, if_false]

/-- What its own hub or shim answers to a pending entry of an op, where nothing keeps the response from its lane. -/
theorem answerPend_lane (st : Status) (n : Nat) (v : BitVec 64) (hc : (s.port p).laneClear e.lane e.op)
    (hpk : codeService e.opcode = true ∨ (s.port p).parked = [])
    (hh : codeService e.opcode = true ∨ s.portHeld p = false) :
    (∃ r, r.lane = e.lane ∧ r.beat2 = false ∧ r.word = respWord st e.op.tag n ∧
      ((s.answerPend p e st n v).port p).lanes = (s.port p).lanes ++ [r]) ∧
    ((s.answerPend p e st n v).port p).parked = (s.port p).parked ∧
    ((s.answerPend p e st n v).port p).parkHeld = (s.port p).parkHeld ∧
    ((s.answerPend p e st n v).port p).fences = (s.port p).fences ∧
    (∀ q, q ≠ p → (s.answerPend p e st n v).port q = s.port q) := by
  have k : ∃ x2 : Port, x2.lanes = (s.port p).lanes ∧ x2.parked = (s.port p).parked ∧ x2.parkHeld = (s.port p).parkHeld ∧
      x2.fences = (s.port p).fences ∧ x2.inval = (s.port p).inval ∧
      s.answerPend p e st n v = (s.setPort p x2).offer p (s.pendRsp p e (respWord st e.op.tag n) (valueBeat e.opcode st v)) := by
    refine ⟨_, ?_, ?_, ?_, ?_, ?_, rfl⟩ <;> (dsimp only; split <;> rfl)
  obtain ⟨x2, g1, g2, g3, g4, g5, e1⟩ := k
  have hph : (s.setPort p x2).portHeld p = s.portHeld p := rfl
  rw [e1, offer_lane (s := s.setPort p x2)]
  · refine ⟨⟨s.pendRsp p e (respWord st e.op.tag n) (valueBeat e.opcode st v), rfl, rfl, rfl, ?_⟩, ?_, ?_, ?_, ?_⟩
    · rw [State.port_setPort_self, State.port_setPort_self]
      unfold Port.toLane
      simp only [g1]
    · rw [State.port_setPort_self, State.port_setPort_self]
      exact g2
    · rw [State.port_setPort_self, State.port_setPort_self]
      exact g3
    · rw [State.port_setPort_self, State.port_setPort_self]
      exact g4
    · intro q hq
      rw [State.port_setPort, if_neg hq, State.port_setPort, if_neg hq]
  · exact hc.1
  · rw [State.port_setPort_self, g5]
    exact hc.2
  · rw [State.port_setPort_self, g2]
    exact hpk
  · rw [hph]
    exact hh

end

/-! ### The way of an op that its shim answers -/

/-- The pending entry that an op takes. -/
def State.newPend (s : State) (h : ShimOp) (n : Nat) : Pend :=
  { entry := n, lane := h.lane, opcode := h.opcode
    op := if h.check.isSome then refusedOp (opcodeOf h.opcode) h.op else h.op, context := h.context
    stamp := s.time.stamp, handle := h.op.handle }

/-- The hub once an op has taken its pending entry. -/
def State.pending' (s : State) (p : Nat) (h : ShimOp) (n : Nat) : State :=
  s.setPort p { s.port p with pend := (s.port p).pend ++ [s.newPend h n] }

section
variable {s : State} {p : Nat} {h : ShimOp}

/-- An op that its shim takes at once and that needs a pending entry takes one. -/
theorem takeEntry_some (ht : s.takesNow p h) (hn : h.needsEntry = true) :
    ∃ n, s.takeEntry p h = (s.pending' p h n, { h with entry := some n }) ∧
      ((s.pending' p h n).port p).pend.find? (fun e => some e.entry = some n) = some (s.newPend h n) ∧
      ((s.pending' p h n).port p).pend.find? (fun e => e.entry = n && !e.arrived) = some (s.newPend h n) := by
  have hi := ht.2.2.2
  have hu : ∃ n, (s.port p).usableEntry h = some n := by
    unfold State.issueHold at hi
    simp only [hn, Bool.true_and] at hi
    cases hq : (s.port p).usableEntry h with
    | some n => exact ⟨n, rfl⟩
    | none =>
      rw [hq] at hi
      split at hi
      · cases hi
      · simp only [Option.isNone_none, if_true] at hi
        cases hi
  obtain ⟨n, hu⟩ := hu
  refine ⟨n, ?_, ?_, ?_⟩
  · unfold State.takeEntry
    simp only [hn, if_true, hu]
    rfl
  · unfold State.pending'
    rw [State.port_setPort_self]
    simp only []
    rw [List.find?_append]
    have f : (s.port p).pend.find? (fun e => decide (some e.entry = some n)) = none := by
      rw [List.find?_eq_none]
      intro q hq
      have := usableEntry_free hu q hq
      simpa using this
    rw [f]
    simp [State.newPend]
  · unfold State.pending'
    rw [State.port_setPort_self]
    simp only []
    rw [List.find?_append]
    have f : (s.port p).pend.find? (fun e => decide (e.entry = n) && !e.arrived) = none := by
      rw [List.find?_eq_none]
      intro q hq
      have := usableEntry_free hu q hq
      simp [this]
    rw [f]
    simp [State.newPend]

/-- HOLD, RESUME, PARK, UNPARK and FENCE come to their rule in the shim. -/
theorem exec_service {lane : Nat} {ctx : BitVec 8} {c : Opcode} {op : OpFields}
    (ht : s.takesNow p (s.presented lane ctx c op)) (hg : (s.presented lane ctx c op).goesOn c) (hs : opService c = true) :
    ∃ n, s.opCommand (opCode c) (coreReq p lane ctx op) =
      .next ((s.pending' p (s.presented lane ctx c op) n).serviceOp p { s.presented lane ctx c op with entry := some n }
        (s.newPend (s.presented lane ctx c op) n) c) ∧
      ((s.pending' p (s.presented lane ctx c op) n).port p).pend.find? (fun e => some e.entry = some n) =
        some (s.newPend (s.presented lane ctx c op) n) ∧
      ((s.pending' p (s.presented lane ctx c op) n).port p).pend.find? (fun e => e.entry = n && !e.arrived) =
        some (s.newPend (s.presented lane ctx c op) n) := by
  obtain ⟨h5, h6, h7, h8⟩ := hg
  have hpost : opPosted (opcodeOf (s.presented lane ctx c op).opcode) (s.presented lane ctx c op).op.flags = false := by
    rw [h5]
    have hm : opMayPost c = false := by cases c <;> first | rfl | cases hs
    unfold opPosted
    simp only [Option.any_some, hm, Bool.and_false]
  have hn : (s.presented lane ctx c op).needsEntry = true := by
    unfold ShimOp.needsEntry
    rw [hpost, h8]
    simp
  obtain ⟨n, e1, e2, e3⟩ := takeEntry_some ht hn
  refine ⟨n, ?_, e2, e3⟩
  unfold coreReq
  rw [exec_accepts (code := opCode c) ht]
  congr 1
  change s.acceptOp p (s.presented lane ctx c op) = _
  unfold State.acceptOp
  simp only [h6, h7, Bool.false_eq_true, if_false, e1]
  unfold State.runOp
  have h5' : opcodeOf ({ s.presented lane ctx c op with entry := some n } : ShimOp).opcode = some c := h5
  rw [h5']
  have hnear : ({ s.presented lane ctx c op with entry := some n } : ShimOp).isNear = false := by
    unfold ShimOp.isNear
    rw [show ({ s.presented lane ctx c op with entry := some n } : ShimOp).op.flags.near = false from h8]
    rfl
  simp only [hnear, hs, Bool.false_eq_true, if_false, if_true, e2]

/-- An op that its shim or hub concludes in the shim, as its lane sees it. -/
theorem serviceDone_lane {X : State} {e : Pend} (st : Status) (n : Nat) (hs : codeService e.opcode = true)
    (hc : (X.port p).laneClear e.lane e.op) :
    (∃ r, r.lane = e.lane ∧ r.beat2 = false ∧ r.word = respWord st e.op.tag n ∧
      ((X.serviceDone p e st n).port p).lanes = (X.port p).lanes ++ [r]) ∧
    ((X.serviceDone p e st n).port p).parked = (X.port p).parked ∧
    ((X.serviceDone p e st n).port p).parkHeld = (X.port p).parkHeld ∧
    ((X.serviceDone p e st n).port p).fences = (X.port p).fences ∧
    (∀ q, q ≠ p → (X.serviceDone p e st n).port q = X.port q) ∧
    (∀ m, 0x2002007100000 ||| m = m → (X.serviceDone p e st n).wipe m = X.wipe m) := by
  have k : ∃ Y : State, X.serviceDone p e st n = Y.answerPend p e st n 0 ∧
      ∀ m, 0x2002007000000 ||| m = m → Y.wipe m = X.wipe m := by
    refine ⟨_, rfl, fun m hm => ?_⟩
    split
    · rw [State.recordOp_wipe _ _ _ _ _ hm]
      exact State.shimReach_wipe _ _ _ (mask_sub hm (by decide))
    · rw [State.countRefused_wipe _ _ _ _ hm]
      exact State.shimReach_wipe _ _ _ (mask_sub hm (by decide))
  obtain ⟨Y, e1, e2⟩ := k
  have ep : ∀ q, Y.port q = X.port q := fun q => by
    unfold State.port
    rw [ports_of_wipe (m := 0x2002007000000) (by decide) (e2 _ (by decide))]
  have a := answerPend_lane (s := Y) (p := p) (e := e) st n 0 (by rw [ep]; exact hc) (.inl hs) (.inl hs)
  simp only [ep] at a
  rw [e1]
  refine ⟨a.1, a.2.1, a.2.2.1, a.2.2.2.1, a.2.2.2.2, fun m hm => ?_⟩
  rw [State.answerPend_wipe _ _ _ _ _ _ _ (mask_sub hm (by decide))]
  exact e2 m (mask_sub hm (by decide))

theorem pending_port (n : Nat) : (s.pending' p h n).port p =
    { s.port p with pend := (s.port p).pend ++ [s.newPend h n] } := State.port_setPort_self _ _ _

theorem pending_wipe (n m : Nat) (hm : 0x100000 ||| m = m) : (s.pending' p h n).wipe m = s.wipe m :=
  wipe_ports _ (testBit_sub hm (by decide)) _ _

theorem port_of_ports {X Y : State} (e : X.ports = Y.ports) (q : Nat) : X.port q = Y.port q := by
  unfold State.port
  rw [e]

theorem answered_of {X : State} {lane : Nat} {op : OpFields} {st : Status} {n : Nat} {ls : List Rsp}
    (k : ∃ r, r.lane = lane ∧ r.beat2 = false ∧ r.word = respWord st op.tag n ∧ (X.port p).lanes = ls ++ [r]) :
    Answered X p lane op st := by
  obtain ⟨r, h1, h2, h3, h4⟩ := k
  exact ⟨r, by rw [h4]; simp, h1, h2, n, h3⟩

theorem filter_any_false {α : Type} {f g : α → Bool} : ∀ {l : List α}, l.any g = false → (l.filter f).any g = false
  | [], _ => rfl
  | x :: l, h => by
    rw [List.any_cons, Bool.or_eq_false_iff] at h
    rw [List.filter_cons]
    split
    · rw [List.any_cons, h.1, filter_any_false h.2]
      rfl
    · exact filter_any_false h.2

/-- PARK (R113, R274). -/
theorem park_lane {X : State} {e : Pend} (v : BitVec 64) (hs : codeService e.opcode = true)
    (hc : (X.port p).laneClear e.lane e.op) :
    Answered ((X.park p v).1.serviceDone p e (X.park p v).2.1 (X.park p v).2.2) p e.lane e.op
      (if (X.port p).parked.contains (parkOperand v) = false ∧ 32 ≤ (X.port p).parked.length then .overrun else .ok) ∧
    (((X.park p v).1.serviceDone p e (X.park p v).2.1 (X.park p v).2.2).port p).parked =
      (if (X.port p).parked.contains (parkOperand v) = true ∨ 32 ≤ (X.port p).parked.length then (X.port p).parked
       else (X.port p).parked ++ [parkOperand v]) := by
  unfold State.park
  simp only []
  by_cases h1 : (X.port p).parked.contains (parkOperand v) = true
  · simp only [h1, if_true, true_or, Bool.true_eq_false, false_and, if_false]
    have k := serviceDone_lane (X := X) .ok (satResult 16 ((X.port p).undelivered (parkOperand v))) hs hc
    exact ⟨answered_of k.1, k.2.1⟩
  · have h1' : (X.port p).parked.contains (parkOperand v) = false := by simpa using h1
    by_cases h2 : 32 ≤ (X.port p).parked.length
    · simp only [h1', h2, if_true, or_true, and_self, Bool.false_eq_true, if_false]
      have k := serviceDone_lane (X := X) .overrun 0 hs hc
      exact ⟨answered_of k.1, k.2.1⟩
    · simp only [h1', h2, if_false, or_self, and_false, Bool.false_eq_true]
      generalize hY : X.setPort p ({ X.port p with parked := (X.port p).parked ++ [parkOperand v] } : Port).parkNow = Y
      have hp : Y.port p = ({ X.port p with parked := (X.port p).parked ++ [parkOperand v] } : Port).parkNow := by
        rw [← hY, State.port_setPort_self]
      have k := serviceDone_lane (X := Y) (e := e) (p := p) .ok (satResult 16 ((X.port p).undelivered (parkOperand v))) hs
        ⟨hc.1, by rw [hp]; exact filter_any_false hc.2⟩
      refine ⟨answered_of k.1, ?_⟩
      rw [k.2.1, hp]
      rfl

/-- The responses that UNPARK offers are none that a remaining entry holds. -/
theorem offerAll_parks {X : State} : ∀ {rs : List Rsp}, (∀ r ∈ rs, (X.port p).parks r = false) →
    ((X.offerAll p rs).port p).parked = (X.port p).parked ∧ ((X.offerAll p rs).port p).parkHeld = (X.port p).parkHeld := by
  intro rs
  induction rs generalizing X with
  | nil => intro _; exact ⟨rfl, rfl⟩
  | cons r rs ih =>
    intro hr
    have h1 := hr r (List.mem_cons_self ..)
    have k : ((X.offer p r).port p).parked = (X.port p).parked ∧ ((X.offer p r).port p).parkHeld = (X.port p).parkHeld := by
      unfold State.offer
      simp only [h1, Bool.false_eq_true, if_false]
      split
      · rw [State.port_setPort_self]
        exact ⟨rfl, rfl⟩
      · rw [State.port_setPort_self]
        unfold Port.ready
        split
        · unfold Port.raisePulse
          split <;> exact ⟨rfl, rfl⟩
        · exact ⟨rfl, rfl⟩
    have g : ∀ q ∈ rs, ((X.offer p r).port p).parks q = false := by
      intro q hq
      have := hr q (List.mem_cons_of_mem _ hq)
      unfold Port.parks at this ⊢
      rw [k.1]
      exact this
    have := ih g
    exact ⟨this.1.trans k.1, this.2.trans k.2⟩

/-- UNPARK (R113, R276). -/
theorem unpark_lane {X : State} {e : Pend} (v : BitVec 64) (hs : codeService e.opcode = true)
    (hc : (X.port p).laneClear e.lane e.op) (ho : (X.port p).parkHeld = []) :
    Answered ((X.unpark p v).1.serviceDone p e (X.unpark p v).2.1 (X.unpark p v).2.2) p e.lane e.op .ok ∧
    (((X.unpark p v).1.serviceDone p e (X.unpark p v).2.1 (X.unpark p v).2.2).port p).parked =
      (X.port p).parked.erase (parkOperand v) := by
  unfold State.unpark
  simp only [ho, List.filter_nil, State.offerAll]
  generalize hY : X.setPort p { X.port p with parked := (X.port p).parked.erase (parkOperand v), parkHeld := [] } = Y
  have hp : Y.port p = { X.port p with parked := (X.port p).parked.erase (parkOperand v), parkHeld := [] } := by
    rw [← hY, State.port_setPort_self]
  have k := serviceDone_lane (X := Y) (e := e) (p := p) .ok (satResult 16 ([] : List Rsp).length) hs
    ⟨hc.1, by rw [hp]; exact hc.2⟩
  exact ⟨answered_of k.1, by rw [k.2.1, hp]⟩

/-- What UNPARK leaves held (R276). -/
theorem unpark_held {X : State} {e : Pend} (v : BitVec 64) :
    (((X.unpark p v).1).port p).parked = (X.port p).parked.erase (parkOperand v) ∧
    (((X.unpark p v).1).port p).parkHeld = (X.port p).parkHeld.filter
      fun r => !codeService r.opcode && ((X.port p).parked.erase (parkOperand v)).any fun q => q.covers r.lane r.context := by
  unfold State.unpark
  simp only []
  generalize hY : X.setPort p { X.port p with
    parked := (X.port p).parked.erase (parkOperand v)
    parkHeld := (X.port p).parkHeld.filter ({ X.port p with parked := (X.port p).parked.erase (parkOperand v) } : Port).parks } = Y
  have hp : Y.port p = { X.port p with
      parked := (X.port p).parked.erase (parkOperand v)
      parkHeld := (X.port p).parkHeld.filter ({ X.port p with parked := (X.port p).parked.erase (parkOperand v) } : Port).parks } := by
    rw [← hY, State.port_setPort_self]
  have k := offerAll_parks (X := Y) (p := p) (rs := (X.port p).parkHeld.filter fun r =>
      !({ X.port p with parked := (X.port p).parked.erase (parkOperand v) } : Port).parks r) (by
    intro r hr
    have h2 := (List.mem_filter.mp hr).2
    rw [hp]
    have h3 := (Bool.not_eq_true' _).mp h2
    unfold Port.parks at h3 ⊢
    exact h3)
  rw [k.1, k.2, hp]
  exact ⟨rfl, rfl⟩

/-- HOLD at this hub (R477). -/
theorem hold_lane {X : State} {e : Pend} (q : Nat) (hs : codeService e.opcode = true)
    (hc : (X.port p).laneClear e.lane e.op)
    (hf : (X.port p).pend.find? (fun r => r.entry = e.entry && !r.arrived) = some e) :
    Answered (X.beginHold q false (.op p e.entry)) p e.lane e.op .ok ∧
    ((X.beginHold q false (.op p e.entry)).part q).hold.held = true ∧
    ∀ m, 0x2002007101000 ||| m = m → (X.beginHold q false (.op p e.entry)).wipe m = X.wipe m := by
  have ans : ∀ Y : State, (∀ r, Y.port r = X.port r) → Y.answerHold (.op p e.entry) false = Y.serviceDone p e .ok 0 := by
    intro Y hY
    unfold State.answerHold
    simp only [hY, hf]
    rfl
  unfold State.beginHold
  by_cases hh : (X.part q).hold.held = true
  · simp only [hh, if_true]
    rw [ans X fun _ => rfl]
    have k := serviceDone_lane (X := X) .ok 0 hs hc
    refine ⟨answered_of k.1, ?_, fun m hm => k.2.2.2.2.2 m (mask_sub hm (by decide))⟩
    rw [show (X.serviceDone p e .ok 0).part q = X.part q from by
      unfold State.part
      rw [parts_of_wipe (m := 0x2002007100000) (by decide) (k.2.2.2.2.2 _ (by decide))]]
    exact hh
  · simp only [hh, if_false, Bool.false_eq_true]
    unfold State.startHold
    simp only [Bool.false_eq_true, if_false]
    have w := State.holdHere_wipe X q
    have hp : ∀ r, (X.holdHere q).port r = X.port r :=
      port_of_ports (ports_of_wipe (m := 0x2002007001000) (by decide) (w _ (by decide)))
    rw [ans _ hp]
    have k := serviceDone_lane (X := X.holdHere q) (p := p) (e := e) .ok 0 hs (by rw [hp]; exact hc)
    refine ⟨answered_of k.1, ?_, fun m hm => ?_⟩
    · rw [show ((X.holdHere q).serviceDone p e .ok 0).part q = (X.holdHere q).part q from by
        unfold State.part
        rw [parts_of_wipe (m := 0x2002007100000) (by decide) (k.2.2.2.2.2 _ (by decide))]]
      unfold State.holdHere
      simp only [hh, if_false, Bool.false_eq_true]
      rw [show ∀ Y : State, (Y.recordHold q 0).part q = Y.part q from fun Y => by
        unfold State.part
        rw [parts_of_wipe (m := 0x2002007000000) (by decide) (State.recordHold_wipe Y q 0 _ (by decide))]]
      unfold State.modPart
      rw [State.part_setPart_self]
    · rw [k.2.2.2.2.2 m (mask_sub hm (by decide))]
      exact w m (mask_sub hm (by decide))

/-- RESUME at this hub, where nothing is stored (R113, R478). -/
theorem releaseStore_none {X : State} (hn : (X.port p).holdStore = []) (q : Nat) :
    (X.releaseStore p).port q = X.port q := by
  unfold State.releaseStore State.storedOrder
  rw [hn]
  simp only [List.map_nil, List.foldl_nil, State.offerAll]
  unfold State.modPort
  rw [State.port_setPort]
  split
  · rename_i e
    rw [e]
    conv_rhs => rw [show X.port p = { X.port p with holdStore := (X.port p).holdStore } from rfl, hn]
  · rfl

theorem eachRelease_none : ∀ {ps : List Nat} {X : State}, (∀ j ∈ ps, (X.port j).holdStore = []) →
    ∀ q, (X.each State.releaseStore ps).port q = X.port q
  | [], _, _, _ => rfl
  | j :: ps, X, h, q => by
    have k := releaseStore_none (X := X) (p := j) (h j (List.mem_cons_self ..))
    unfold State.each
    rw [eachRelease_none (fun i hi => by rw [k]; exact h i (List.mem_cons_of_mem _ hi)), k]

theorem resume_lane {X : State} {e : Pend} (q : Nat) (hs : codeService e.opcode = true)
    (hc : (X.port p).laneClear e.lane e.op)
    (hf : (X.port p).pend.find? (fun r => r.entry = e.entry && !r.arrived) = some e)
    (hn : ∀ j, (X.port j).holdStore = []) :
    Answered (X.startHold q true false (.op p e.entry)) p e.lane e.op .ok ∧
    ((X.startHold q true false (.op p e.entry)).part q).hold.held = false ∧
    ∀ m, 0x2002007101000 ||| m = m → (X.startHold q true false (.op p e.entry)).wipe m = X.wipe m := by
  unfold State.startHold
  simp only [Bool.false_eq_true, if_false, if_true]
  have w := State.resumeHere_wipe X q
  have hp : ∀ r, (X.resumeHere q).port r = X.port r := by
    intro r
    unfold State.resumeHere
    split
    · generalize hY : (X.recordHold q 1).modPart q (fun x => { x with hold := { x.hold with held := false } }) = Y
      have ey : ∀ j, Y.port j = X.port j := by
        intro j
        apply port_of_ports
        rw [← hY]
        show (X.recordHold q 1).ports = X.ports
        exact ports_of_wipe (m := 0x2002007000000) (by decide) (State.recordHold_wipe X q 1 0x2002007000000 (by decide))
      rw [eachRelease_none (fun j _ => by rw [ey]; exact hn j), ey]
    · rfl
  have hheld : ((X.resumeHere q).part q).hold.held = false := by
    unfold State.resumeHere
    split
    · have g : ∀ (ps : List Nat) (Y : State), (Y.each State.releaseStore ps).parts = Y.parts := by
        intro ps
        induction ps with
        | nil => intro Y; rfl
        | cons j ps ih =>
          intro Y
          unfold State.each
          rw [ih]
          exact parts_of_wipe (m := 0x100000) (by decide) (State.releaseStore_wipe _ _ _ (by decide))
      unfold State.part
      rw [g]
      unfold State.modPart
      have := State.part_setPart_self (X.recordHold q 1) q { (X.recordHold q 1).part q with
        hold := { ((X.recordHold q 1).part q).hold with held := false } }
      unfold State.part at this ⊢
      rw [this]
    · rename_i h
      simpa using h
  unfold State.answerHold
  simp only [hp, hf, Bool.false_eq_true, if_false]
  have k := serviceDone_lane (X := X.resumeHere q) (p := p) (e := e) .ok 0 hs (by rw [hp]; exact hc)
  refine ⟨answered_of k.1, ?_, fun m hm => ?_⟩
  · rw [show ((X.resumeHere q).serviceDone p e .ok 0).part q = (X.resumeHere q).part q from by
      unfold State.part
      rw [parts_of_wipe (m := 0x2002007100000) (by decide) (k.2.2.2.2.2 _ (by decide))]]
    exact hheld
  · rw [k.2.2.2.2.2 m (mask_sub hm (by decide))]
    exact w m (mask_sub hm (by decide))

theorem spendLane_port {X : State} (lane q : Nat) : ∃ b, (X.spendLane p lane).port q = { X.port q with buckets := b } := by
  unfold State.spendLane State.refillLane State.modPort
  rw [State.port_setPort, State.port_setPort_self]
  split
  · rename_i e
    subst e
    exact ⟨_, rfl⟩
  · rename_i e
    rw [State.port_setPort, if_neg e]
    exact ⟨_, rfl⟩

/-- FENCE (R121). -/
theorem fence_lane {X : State} {e : Pend} {d : ShimOp} (hs : codeService e.opcode = true)
    (hc : (X.port p).laneClear e.lane e.op) (hf : (X.port p).pend.find? (fun r => some r.entry = d.entry) = some e)
    (hd : d ∉ (X.port p).fences) :
    ((X.port p).away = [] →
      Answered (((X.pollPort p).modPort p fun x => { x with fences := x.fences ++ [d] }).tryFence p d) p e.lane e.op .ok ∧
      ((((X.pollPort p).modPort p fun x => { x with fences := x.fences ++ [d] }).tryFence p d).port p).fences =
        (X.port p).fences) ∧
    ((∃ w ∈ (X.port p).away, w.silent = false ∧ w.engine = laneEngine d.lane) →
      ((((X.pollPort p).modPort p fun x => { x with fences := x.fences ++ [d] }).tryFence p d).port p).fences =
        (X.port p).fences ++ [d] ∧
      ((((X.pollPort p).modPort p fun x => { x with fences := x.fences ++ [d] }).tryFence p d).port p).lanes =
        (X.port p).lanes) := by
  have poll : ∀ (ws kept : List AwayOp) (Y : State),
      (∀ w, (w ∈ kept ∨ (w ∈ ws ∧ w.silent = false)) → w ∈ (Y.pollAway kept ws).2) ∧
      (∀ q, (Y.pollAway kept ws).1.port q = Y.port q) := by
    intro ws
    induction ws with
    | nil => exact fun kept Y => ⟨fun w h => h.elim id fun h => absurd h.1 (List.not_mem_nil), fun q => rfl⟩
    | cons a ws ih =>
      intro kept Y
      unfold State.pollAway
      simp only []
      split
      · rename_i hsil
        split
        · refine ⟨fun w h => (ih kept Y.fresh).1 w ?_, fun q => (ih kept Y.fresh).2 q⟩
          rcases h with h | ⟨h, h2⟩
          · exact .inl h
          · rcases List.mem_cons.mp h with h | h
            · subst h
              rw [hsil] at h2
              cases h2
            · exact .inr ⟨h, h2⟩
        · refine ⟨fun w h => (ih (kept ++ [a]) Y.fresh).1 w ?_, fun q => (ih (kept ++ [a]) Y.fresh).2 q⟩
          rcases h with h | ⟨h, h2⟩
          · exact .inl (List.mem_append_left _ h)
          · rcases List.mem_cons.mp h with h | h
            · exact .inl (List.mem_append_right _ (by simp [h]))
            · exact .inr ⟨h, h2⟩
      · refine ⟨fun w h => (ih (kept ++ [a]) Y).1 w ?_, fun q => (ih (kept ++ [a]) Y).2 q⟩
        rcases h with h | ⟨h, h2⟩
        · exact .inl (List.mem_append_left _ h)
        · rcases List.mem_cons.mp h with h | h
          · exact .inl (List.mem_append_right _ (by simp [h]))
          · exact .inr ⟨h, h2⟩
  have pp : (X.pollPort p).port p = { X.port p with away := (X.pollAway [] (X.port p).away).2 } := by
    unfold State.pollPort State.modPort
    simp only []
    rw [State.port_setPort_self, (poll _ _ _).2]
  generalize hZ : (X.pollPort p).modPort p (fun x => { x with fences := x.fences ++ [d] }) = Z
  have zp : Z.port p = { X.port p with away := (X.pollAway [] (X.port p).away).2, fences := (X.port p).fences ++ [d] } := by
    rw [← hZ]
    unfold State.modPort
    rw [State.port_setPort_self, pp]
  refine ⟨fun ha => ?_, fun ⟨w, hw, hw1, hw2⟩ => ?_⟩
  · have clear : (Z.port p).fenceClear d.lane = true := by
      unfold Port.fenceClear
      rw [zp, ha]
      rfl
    unfold State.tryFence
    simp only [clear, if_true]
    have f2 : (Z.port p).pend.find? (fun r => some r.entry = d.entry) = some e := by
      rw [zp]
      exact hf
    rw [f2]
    simp only []
    have er : ((X.port p).fences ++ [d]).erase d = (X.port p).fences := by
      rw [List.erase_append_right _ hd]
      simp
    generalize hV : Z.setPort p { Z.port p with fences := (Z.port p).fences.erase d } = V
    have vp : V.port p = { Z.port p with fences := (Z.port p).fences.erase d } := by rw [← hV, State.port_setPort_self]
    have k := serviceDone_lane (X := V) (p := p) (e := e) .ok 0 hs ⟨hc.1, by rw [vp, zp]; exact hc.2⟩
    refine ⟨answered_of k.1, ?_⟩
    rw [k.2.2.2.1, vp, zp]
    exact er
  · have m := (poll (X.port p).away [] X).1 w (.inr ⟨hw, hw1⟩)
    have busy : (Z.port p).fenceClear d.lane = false := by
      unfold Port.fenceClear
      rw [zp]
      simp only [Bool.not_eq_false', List.any_eq_true, decide_eq_true_eq]
      exact ⟨w, m, hw2⟩
    unfold State.tryFence
    simp only [busy, Bool.false_eq_true, if_false]
    rw [zp]
    exact ⟨rfl, rfl⟩

/-- An op word that check 1 refuses (R93, R119). -/
theorem exec_checkOne {lane : Nat} {ctx : BitVec 8} {code : BitVec 6} {op : OpFields} {st : Status}
    (ht : s.takesNow p (s.laneOp lane ctx code op)) (hk : (s.laneOp lane ctx code op).check = some st)
    (hpost : opPosted (opcodeOf code) op.flags = false) (hc : (s.port p).laneClear lane op)
    (h1 : (s.port p).parked = []) (h2 : ∀ q, q < 16 → (s.part q).hold.held = false) :
    ∃ t, s.opCommand code (coreReq p lane ctx op) = .next t ∧ Answered t p lane op st ∧
      ∀ m, 0x2002007100000 ||| m = m → t.wipe m = s.wipe m := by
  have hn : (s.laneOp lane ctx code op).needsEntry = true := by
    unfold ShimOp.needsEntry
    rw [show opPosted (opcodeOf (s.laneOp lane ctx code op).opcode) (s.laneOp lane ctx code op).op.flags = false from hpost, hk]
    rfl
  obtain ⟨n, e1, e2, e3⟩ := takeEntry_some ht hn
  unfold coreReq
  rw [exec_accepts ht]
  refine ⟨_, rfl, ?_⟩
  unfold State.acceptOp
  simp only [hk, e1, e2]
  generalize hX : s.pending' p (s.laneOp lane ctx code op) n = X
  generalize he : s.newPend (s.laneOp lane ctx code op) n = e
  have xp : X.port p = { s.port p with pend := (s.port p).pend ++ [s.newPend (s.laneOp lane ctx code op) n] } := by
    rw [← hX, pending_port]
  have el : e.lane = lane := by rw [← he]; rfl
  have eo : e.op = unpost op := by
    rw [← he]
    unfold State.newPend refusedOp
    rw [hk]
    simp only [Option.isSome_some, if_true]
    rw [show opPosted (opcodeOf (s.laneOp lane ctx code op).opcode) (s.laneOp lane ctx code op).op.flags = false from hpost]
    rfl
  generalize hY : (X.actOp (X.pendOp p e)).countRefused (X.pendOp p e) st = Y
  have wy : ∀ m, 0x2002007000000 ||| m = m → Y.wipe m = X.wipe m := by
    intro m hm
    rw [← hY, State.countRefused_wipe _ _ _ _ hm, State.actOp_wipe _ _ _ (mask_sub hm (by decide))]
  have yp : Y.port p = X.port p := port_of_ports (ports_of_wipe (m := 0x2002007000000) (by decide) (wy _ (by decide))) _
  have yh : Y.portHeld p = false := by
    have e1 : ∀ q, Y.part q = s.part q := by
      intro q
      unfold State.part
      rw [parts_of_wipe (m := 0x2002007000000) (by decide) (wy _ (by decide)), ← hX]
      rfl
    unfold State.portHeld
    by_cases g : Y.portPart p < 16
    · rw [e1, h2 _ g]
      simp
    · simp only [g, decide_false, Bool.false_and]
  have k := answerPend_lane (s := Y) (p := p) (e := e) st 0 0
    (by
      rw [yp, xp]
      refine ⟨by rw [eo]; exact hc.1, ?_⟩
      rw [el]
      exact hc.2)
    (.inr (by rw [yp, xp]; exact h1)) (.inr yh)
  refine ⟨?_, fun m hm => ?_⟩
  · obtain ⟨r, k1, k2, k3, k4⟩ := k.1
    refine ⟨r, by rw [k4]; simp, by rw [k1, el], k2, 0, ?_⟩
    rw [k3, eo]
    rfl
  · rw [State.answerPend_wipe _ _ _ _ _ _ _ (mask_sub hm (by decide)), wy m (mask_sub hm (by decide)), ← hX]
    exact pending_wipe _ _ (mask_sub hm (by decide))

/-- What an op concluded in its shim leaves of the parked set and of what it holds. -/
theorem serviceDone_park {X : State} {e : Pend} (st : Status) (n : Nat) (hs : codeService e.opcode = true) :
    ((X.serviceDone p e st n).port p).parked = (X.port p).parked ∧
    ((X.serviceDone p e st n).port p).parkHeld = (X.port p).parkHeld := by
  have k : ∃ Y : State, X.serviceDone p e st n = Y.answerPend p e st n 0 ∧
      ∀ m, 0x2002007000000 ||| m = m → Y.wipe m = X.wipe m := by
    refine ⟨_, rfl, fun m hm => ?_⟩
    split
    · rw [State.recordOp_wipe _ _ _ _ _ hm]
      exact State.shimReach_wipe _ _ _ (mask_sub hm (by decide))
    · rw [State.countRefused_wipe _ _ _ _ hm]
      exact State.shimReach_wipe _ _ _ (mask_sub hm (by decide))
  obtain ⟨Y, e1, e2⟩ := k
  have ep : Y.port p = X.port p :=
    port_of_ports (ports_of_wipe (m := 0x2002007000000) (by decide) (e2 _ (by decide))) p
  have k2 : ∃ x2 : Port, x2.parked = (Y.port p).parked ∧ x2.parkHeld = (Y.port p).parkHeld ∧
      Y.answerPend p e st n 0 = (Y.setPort p x2).offer p (Y.pendRsp p e (respWord st e.op.tag n) (valueBeat e.opcode st 0)) := by
    refine ⟨_, ?_, ?_, rfl⟩ <;> (dsimp only; split <;> rfl)
  obtain ⟨x2, g1, g2, g3⟩ := k2
  rw [e1, g3]
  have h1 : (((Y.setPort p x2).port p).parks (Y.pendRsp p e (respWord st e.op.tag n) (valueBeat e.opcode st 0))) = false := by
    unfold Port.parks
    show (!codeService e.opcode && _) = false
    rw [hs]
    rfl
  have h2 : ((Y.setPort p x2).portHeld p && !codeService (Y.pendRsp p e (respWord st e.op.tag n)
      (valueBeat e.opcode st 0)).opcode) = false := by
    show (_ && !codeService e.opcode) = false
    rw [hs]
    simp
  unfold State.offer
  simp only [h1, h2, Bool.false_eq_true, if_false]
  rw [State.port_setPort_self, State.port_setPort_self, ← ep, ← g1, ← g2]
  unfold Port.ready
  split
  · unfold Port.raisePulse
    split <;> exact ⟨rfl, rfl⟩
  · exact ⟨rfl, rfl⟩

end

end Sys2Proof.Machine
end

