-- ==== Sys2Proof/Laws/Commands.lean ====
section
/-! SUPPORT. What the frames of the commands come to when the hub is operational, and shims and slots at which nothing
waits. -/

namespace Sys2Proof.Machine

theorem whenLive_live {s : State} (f : State → State) (hl : s.live = true) : s.whenLive f = f s := by
  unfold State.whenLive
  simp only [hl, if_true]

theorem atPort_live {s : State} {p : Nat} (f : State → State) (hl : s.live = true) (hb : s.portBuilt p = true) :
    s.atPort p (fun s => s.whenLive f) = .next (f s) := by
  unfold State.atPort
  simp only [hb, if_true, whenLive_live f hl]

theorem atLink_live {s : State} {c : Nat} (f : State → State) (hl : s.live = true) (hb : s.linkBuilt c = true) :
    s.atLink c (fun s => s.whenLive f) = .next (f s) := by
  unfold State.atLink
  simp only [hb, if_true, whenLive_live f hl]

theorem atUnit_live {s : State} {n m : Nat} (f : State → State) (hl : s.live = true) (hn : n < m) :
    s.atUnit n m (fun s => s.whenLive f) = .next (f s) := by
  unfold State.atUnit
  simp only [hn, if_true, whenLive_live f hl]

theorem atPair_live {s : State} {n m k j : Nat} (f : State → State) (hl : s.live = true) (hn : n < m) (hk : k < j) :
    s.atPair n m k j (fun s => s.whenLive f) = .next (f s) := by
  unfold State.atPair
  simp only [hn, hk, and_self, if_true, whenLive_live f hl]

theorem whenWalks_walks {s : State} (f : State → State) (hw : s.walks = true) : s.whenWalks f = f s := by
  unfold State.whenWalks
  simp only [hw, if_true]

theorem wakePort_quiet {s : State} {p : Nat} (h : (s.port p).quiet) : s.wakePort p = s := by
  unfold State.wakePort
  simp only [h.2, if_true, State.tryFences, h.1, State.retryOps]

/-- Writing an entry of a sparse store twice is writing it once. -/
theorem setSlot_setSlot (s : State) (g : Nat) (x y : Slot) : (s.setSlot g x).setSlot g y = s.setSlot g y := by
  unfold State.setSlot
  simp only [Sparse.put_put]

theorem setPort_setPort (s : State) (p : Nat) (x y : Port) : (s.setPort p x).setPort p y = s.setPort p y := by
  unfold State.setPort
  simp only [Sparse.put_put]

theorem setPart_setPart (s : State) (p : Nat) (x y : Part) : (s.setPart p x).setPart p y = s.setPart p y := by
  unfold State.setPart
  simp only [Sparse.put_put]

theorem setLink_setLink (s : State) (p : Nat) (x y : Link) : (s.setLink p x).setLink p y = s.setLink p y := by
  unfold State.setLink
  simp only [Sparse.put_put]

theorem setEv_setEv (s : State) (p : Nat) (x y : EvInput) : (s.setEv p x).setEv p y = s.setEv p y := by
  unfold State.setEv
  simp only [Sparse.put_put]

/-- A slot that has just been written, at which nothing waits. -/
theorem wakeSlot_quiet (s : State) (g : Nat) (x : Slot) (h : x.quiet) : (s.setSlot g x).wakeSlot g = s.setSlot g x := by
  obtain ⟨h1, h2, h3⟩ := h
  have e : ({ x with fence := none, held := [] } : Slot) = x := by rw [← h1, ← h2]
  unfold State.wakeSlot State.trySlotFence
  simp only [State.slot_setSlot_self, h1, Option.isNone_none, if_true, h2, State.runHeld, State.modSlot, setSlot_setSlot]
  rw [e, h3]
  rfl

/-- A command's next state is known up to the hub's notes. -/
theorem brings_of {i : Instr} {s t u : State} (e : exec i s = .next u)
    (h : u.wipe 0x2002007000000 = t.wipe 0x2002007000000) : Brings i s t :=
  ⟨u, e, h.symm⟩

/-- A record of a kind that FolioKinds leaves out changes nothing (R470). -/
theorem record_silent {X : State} (r : FolioRec) (h : X.cfg 0x6030 4 = 0) : X.record r = X := by
  unfold State.record State.folioWants
  rw [h]
  simp

theorem accessObj_clean {s : State} (h : s.flips = []) (i : Nat) : s.accessObj i = s := by
  unfold State.accessObj
  rw [if_pos h]

/-- R432, R433: a fault of a partition whose latch is set already is only reported. -/
theorem failOne_latched {s : State} {d : Detection} {p : Nat} (h : s.latched p = true) :
    (∀ m, 0x2002007001000 ||| m = m → (s.failOne d p).wipe m = s.wipe m) ∧
    ((s.failOne d p).part p).fault = true ∧ (∀ q, ((s.failOne d p).part q).reset = (s.part q).reset) := by
  have e1 : ∀ ps, ∃ X : State, ∃ r : Part → List Nat, State.latchOne d ps s p = X.modPart p (fun y => { y with reported := r y }) ∧
      ∀ m, 0x2002007000000 ||| m = m → X.wipe m = s.wipe m := by
    intro ps
    unfold State.latchOne
    unfold State.latched at h
    simp only [h, if_true]
    refine ⟨_, _, rfl, ?_⟩
    intro m hm
    split
    · exact State.bump_wipe _ _ _ _ _ (mask_sub hm (by decide))
    · rw [State.notifyRing_wipe _ _ _ _ _ _ (mask_sub hm (by decide))]
      exact State.bump_wipe _ _ _ _ _ (mask_sub hm (by decide))
  have e2 : ∃ Y : State, s.failOne d p = Y ∧ (Y = s ∨ ∃ (ps : List Nat) (X : State) (r : Part → List Nat), State.latchOne d ps s p = X.modPart p (fun y => { y with reported := r y }) ∧
      (∀ m, 0x2002007000000 ||| m = m → X.wipe m = s.wipe m) ∧
      ∀ m, 0x2000007000000 ||| m = m → Y.wipe m = (State.latchOne d ps s p).wipe m) := by
    refine ⟨_, rfl, ?_⟩
    unfold State.failOne
    split
    · right
      obtain ⟨X, r, x1, x2⟩ := e1 [p]
      refine ⟨[p], X, r, x1, x2, ?_⟩
      intro m hm
      unfold State.jobFault
      simp only [State.each]
      split
      · exact State.notifyRing_wipe _ _ _ _ _ _ hm
      · rfl
    · left
      rfl
  obtain ⟨Y, y1, y2⟩ := e2
  rw [y1]
  rcases y2 with y2 | ⟨ps, X, r, x1, x2, y2⟩
  · rw [y2]
    exact ⟨fun _ _ => rfl, h, fun _ => rfl⟩
  · have xparts : X.parts = s.parts := parts_of_wipe (m := 0x2002007000000) (by decide) (x2 _ (by decide))
    have yparts : Y.parts = (State.latchOne d ps s p).parts := parts_of_wipe (m := 0x2000007000000) (by decide) (y2 _ (by decide))
    have xp : ∀ q, X.part q = s.part q := by
      intro q
      unfold State.part
      rw [xparts]
    have yp : ∀ q, Y.part q = (X.modPart p (fun y => { y with reported := r y })).part q := by
      intro q
      rw [← x1]
      unfold State.part
      rw [yparts]
    refine ⟨fun m hm => ?_, ?_, fun q => ?_⟩
    · rw [y2 m (mask_sub hm (by decide)), x1, State.modPart_wipe _ _ _ _ (mask_sub hm (by decide))]
      exact x2 m (mask_sub hm (by decide))
    · rw [yp]
      unfold State.modPart
      rw [State.part_setPart_self, xp]
      exact h
    · rw [yp]
      unfold State.modPart
      rw [State.part_setPart]
      split
      · rename_i e
        rw [e, xp]
      · rw [xp]

end Sys2Proof.Machine
end

