-- ==== Sys2Proof/Laws/Fill.lean ====
section
/-! SUPPORT. Two states that agree on every field of a mask but one, and on that one too, agree on the mask. -/

namespace Sys2Proof.Machine

theorem wipe_fill_phase {m : Nat} {s t : State} (h : s.wipe (0x2 ||| m) = t.wipe (0x2 ||| m))
    (e : s.phase = t.phase) : s.wipe m = t.wipe m := by
  simp only [State.wipe, State.mk.injEq, Nat.testBit_or] at h ⊢
  obtain ⟨h0, h1, h2, h3, h4, h5, h6, h7, h8, h9, h10, h11, h12, h13, h14, h15, h16, h17, h18, h19, h20, h21, h22,
    h23, h24, h25, h26, h27, h28, h29, h30, h31, h32, h33, h34, h35, h36, h37, h38, h39, h40, h41, h42, h43, h44,
    h45, h46, h47, h48, h49, h50⟩ := h
  exact ⟨h0, by rw [e], h2, h3, h4, h5, h6, h7, h8, h9, h10, h11, h12, h13, h14, h15, h16, h17, h18, h19, h20, h21,
    h22, h23, h24, h25, h26, h27, h28, h29, h30, h31, h32, h33, h34, h35, h36, h37, h38, h39, h40, h41, h42, h43,
    h44, h45, h46, h47, h48, h49, h50⟩

theorem wipe_fill_time {m : Nat} {s t : State} (h : s.wipe (0x40 ||| m) = t.wipe (0x40 ||| m))
    (e : s.time = t.time) : s.wipe m = t.wipe m := by
  simp only [State.wipe, State.mk.injEq, Nat.testBit_or] at h ⊢
  obtain ⟨h0, h1, h2, h3, h4, h5, h6, h7, h8, h9, h10, h11, h12, h13, h14, h15, h16, h17, h18, h19, h20, h21, h22,
    h23, h24, h25, h26, h27, h28, h29, h30, h31, h32, h33, h34, h35, h36, h37, h38, h39, h40, h41, h42, h43, h44,
    h45, h46, h47, h48, h49, h50⟩ := h
  exact ⟨h0, h1, h2, h3, h4, h5, by rw [e], h7, h8, h9, h10, h11, h12, h13, h14, h15, h16, h17, h18, h19, h20, h21,
    h22, h23, h24, h25, h26, h27, h28, h29, h30, h31, h32, h33, h34, h35, h36, h37, h38, h39, h40, h41, h42, h43,
    h44, h45, h46, h47, h48, h49, h50⟩

theorem wipe_fill_running {m : Nat} {s t : State} (h : s.wipe (0x100 ||| m) = t.wipe (0x100 ||| m))
    (e : s.running = t.running) : s.wipe m = t.wipe m := by
  simp only [State.wipe, State.mk.injEq, Nat.testBit_or] at h ⊢
  obtain ⟨h0, h1, h2, h3, h4, h5, h6, h7, h8, h9, h10, h11, h12, h13, h14, h15, h16, h17, h18, h19, h20, h21, h22,
    h23, h24, h25, h26, h27, h28, h29, h30, h31, h32, h33, h34, h35, h36, h37, h38, h39, h40, h41, h42, h43, h44,
    h45, h46, h47, h48, h49, h50⟩ := h
  exact ⟨h0, h1, h2, h3, h4, h5, h6, h7, by rw [e], h9, h10, h11, h12, h13, h14, h15, h16, h17, h18, h19, h20, h21,
    h22, h23, h24, h25, h26, h27, h28, h29, h30, h31, h32, h33, h34, h35, h36, h37, h38, h39, h40, h41, h42, h43,
    h44, h45, h46, h47, h48, h49, h50⟩

theorem wipe_fill_refLost {m : Nat} {s t : State} (h : s.wipe (0x200 ||| m) = t.wipe (0x200 ||| m))
    (e : s.refLost = t.refLost) : s.wipe m = t.wipe m := by
  simp only [State.wipe, State.mk.injEq, Nat.testBit_or] at h ⊢
  obtain ⟨h0, h1, h2, h3, h4, h5, h6, h7, h8, h9, h10, h11, h12, h13, h14, h15, h16, h17, h18, h19, h20, h21, h22,
    h23, h24, h25, h26, h27, h28, h29, h30, h31, h32, h33, h34, h35, h36, h37, h38, h39, h40, h41, h42, h43, h44,
    h45, h46, h47, h48, h49, h50⟩ := h
  exact ⟨h0, h1, h2, h3, h4, h5, h6, h7, h8, by rw [e], h10, h11, h12, h13, h14, h15, h16, h17, h18, h19, h20, h21,
    h22, h23, h24, h25, h26, h27, h28, h29, h30, h31, h32, h33, h34, h35, h36, h37, h38, h39, h40, h41, h42, h43,
    h44, h45, h46, h47, h48, h49, h50⟩

theorem wipe_fill_sync {m : Nat} {s t : State} (h : s.wipe (0x400 ||| m) = t.wipe (0x400 ||| m))
    (e : s.sync = t.sync) : s.wipe m = t.wipe m := by
  simp only [State.wipe, State.mk.injEq, Nat.testBit_or] at h ⊢
  obtain ⟨h0, h1, h2, h3, h4, h5, h6, h7, h8, h9, h10, h11, h12, h13, h14, h15, h16, h17, h18, h19, h20, h21, h22,
    h23, h24, h25, h26, h27, h28, h29, h30, h31, h32, h33, h34, h35, h36, h37, h38, h39, h40, h41, h42, h43, h44,
    h45, h46, h47, h48, h49, h50⟩ := h
  exact ⟨h0, h1, h2, h3, h4, h5, h6, h7, h8, h9, by rw [e], h11, h12, h13, h14, h15, h16, h17, h18, h19, h20, h21,
    h22, h23, h24, h25, h26, h27, h28, h29, h30, h31, h32, h33, h34, h35, h36, h37, h38, h39, h40, h41, h42, h43,
    h44, h45, h46, h47, h48, h49, h50⟩

theorem wipe_fill_partCount {m : Nat} {s t : State} (h : s.wipe (0x800 ||| m) = t.wipe (0x800 ||| m))
    (e : s.partCount = t.partCount) : s.wipe m = t.wipe m := by
  simp only [State.wipe, State.mk.injEq, Nat.testBit_or] at h ⊢
  obtain ⟨h0, h1, h2, h3, h4, h5, h6, h7, h8, h9, h10, h11, h12, h13, h14, h15, h16, h17, h18, h19, h20, h21, h22,
    h23, h24, h25, h26, h27, h28, h29, h30, h31, h32, h33, h34, h35, h36, h37, h38, h39, h40, h41, h42, h43, h44,
    h45, h46, h47, h48, h49, h50⟩ := h
  exact ⟨h0, h1, h2, h3, h4, h5, h6, h7, h8, h9, h10, by rw [e], h12, h13, h14, h15, h16, h17, h18, h19, h20, h21,
    h22, h23, h24, h25, h26, h27, h28, h29, h30, h31, h32, h33, h34, h35, h36, h37, h38, h39, h40, h41, h42, h43,
    h44, h45, h46, h47, h48, h49, h50⟩

theorem wipe_fill_parts {m : Nat} {s t : State} (h : s.wipe (0x1000 ||| m) = t.wipe (0x1000 ||| m))
    (e : s.parts = t.parts) : s.wipe m = t.wipe m := by
  simp only [State.wipe, State.mk.injEq, Nat.testBit_or] at h ⊢
  obtain ⟨h0, h1, h2, h3, h4, h5, h6, h7, h8, h9, h10, h11, h12, h13, h14, h15, h16, h17, h18, h19, h20, h21, h22,
    h23, h24, h25, h26, h27, h28, h29, h30, h31, h32, h33, h34, h35, h36, h37, h38, h39, h40, h41, h42, h43, h44,
    h45, h46, h47, h48, h49, h50⟩ := h
  exact ⟨h0, h1, h2, h3, h4, h5, h6, h7, h8, h9, h10, h11, by rw [e], h13, h14, h15, h16, h17, h18, h19, h20, h21,
    h22, h23, h24, h25, h26, h27, h28, h29, h30, h31, h32, h33, h34, h35, h36, h37, h38, h39, h40, h41, h42, h43,
    h44, h45, h46, h47, h48, h49, h50⟩

theorem wipe_fill_reslice {m : Nat} {s t : State} (h : s.wipe (0x2000 ||| m) = t.wipe (0x2000 ||| m))
    (e : s.reslice = t.reslice) : s.wipe m = t.wipe m := by
  simp only [State.wipe, State.mk.injEq, Nat.testBit_or] at h ⊢
  obtain ⟨h0, h1, h2, h3, h4, h5, h6, h7, h8, h9, h10, h11, h12, h13, h14, h15, h16, h17, h18, h19, h20, h21, h22,
    h23, h24, h25, h26, h27, h28, h29, h30, h31, h32, h33, h34, h35, h36, h37, h38, h39, h40, h41, h42, h43, h44,
    h45, h46, h47, h48, h49, h50⟩ := h
  exact ⟨h0, h1, h2, h3, h4, h5, h6, h7, h8, h9, h10, h11, h12, by rw [e], h14, h15, h16, h17, h18, h19, h20, h21,
    h22, h23, h24, h25, h26, h27, h28, h29, h30, h31, h32, h33, h34, h35, h36, h37, h38, h39, h40, h41, h42, h43,
    h44, h45, h46, h47, h48, h49, h50⟩

theorem wipe_fill_objs {m : Nat} {s t : State} (h : s.wipe (0x4000 ||| m) = t.wipe (0x4000 ||| m))
    (e : s.objs = t.objs) : s.wipe m = t.wipe m := by
  simp only [State.wipe, State.mk.injEq, Nat.testBit_or] at h ⊢
  obtain ⟨h0, h1, h2, h3, h4, h5, h6, h7, h8, h9, h10, h11, h12, h13, h14, h15, h16, h17, h18, h19, h20, h21, h22,
    h23, h24, h25, h26, h27, h28, h29, h30, h31, h32, h33, h34, h35, h36, h37, h38, h39, h40, h41, h42, h43, h44,
    h45, h46, h47, h48, h49, h50⟩ := h
  exact ⟨h0, h1, h2, h3, h4, h5, h6, h7, h8, h9, h10, h11, h12, h13, by rw [e], h15, h16, h17, h18, h19, h20, h21,
    h22, h23, h24, h25, h26, h27, h28, h29, h30, h31, h32, h33, h34, h35, h36, h37, h38, h39, h40, h41, h42, h43,
    h44, h45, h46, h47, h48, h49, h50⟩

theorem wipe_fill_wideBits {m : Nat} {s t : State} (h : s.wipe (0x8000 ||| m) = t.wipe (0x8000 ||| m))
    (e : s.wideBits = t.wideBits) : s.wipe m = t.wipe m := by
  simp only [State.wipe, State.mk.injEq, Nat.testBit_or] at h ⊢
  obtain ⟨h0, h1, h2, h3, h4, h5, h6, h7, h8, h9, h10, h11, h12, h13, h14, h15, h16, h17, h18, h19, h20, h21, h22,
    h23, h24, h25, h26, h27, h28, h29, h30, h31, h32, h33, h34, h35, h36, h37, h38, h39, h40, h41, h42, h43, h44,
    h45, h46, h47, h48, h49, h50⟩ := h
  exact ⟨h0, h1, h2, h3, h4, h5, h6, h7, h8, h9, h10, h11, h12, h13, h14, by rw [e], h16, h17, h18, h19, h20, h21,
    h22, h23, h24, h25, h26, h27, h28, h29, h30, h31, h32, h33, h34, h35, h36, h37, h38, h39, h40, h41, h42, h43,
    h44, h45, h46, h47, h48, h49, h50⟩

theorem wipe_fill_waiters {m : Nat} {s t : State} (h : s.wipe (0x10000 ||| m) = t.wipe (0x10000 ||| m))
    (e : s.waiters = t.waiters) : s.wipe m = t.wipe m := by
  simp only [State.wipe, State.mk.injEq, Nat.testBit_or] at h ⊢
  obtain ⟨h0, h1, h2, h3, h4, h5, h6, h7, h8, h9, h10, h11, h12, h13, h14, h15, h16, h17, h18, h19, h20, h21, h22,
    h23, h24, h25, h26, h27, h28, h29, h30, h31, h32, h33, h34, h35, h36, h37, h38, h39, h40, h41, h42, h43, h44,
    h45, h46, h47, h48, h49, h50⟩ := h
  exact ⟨h0, h1, h2, h3, h4, h5, h6, h7, h8, h9, h10, h11, h12, h13, h14, h15, by rw [e], h17, h18, h19, h20, h21,
    h22, h23, h24, h25, h26, h27, h28, h29, h30, h31, h32, h33, h34, h35, h36, h37, h38, h39, h40, h41, h42, h43,
    h44, h45, h46, h47, h48, h49, h50⟩

theorem wipe_fill_lenders {m : Nat} {s t : State} (h : s.wipe (0x20000 ||| m) = t.wipe (0x20000 ||| m))
    (e : s.lenders = t.lenders) : s.wipe m = t.wipe m := by
  simp only [State.wipe, State.mk.injEq, Nat.testBit_or] at h ⊢
  obtain ⟨h0, h1, h2, h3, h4, h5, h6, h7, h8, h9, h10, h11, h12, h13, h14, h15, h16, h17, h18, h19, h20, h21, h22,
    h23, h24, h25, h26, h27, h28, h29, h30, h31, h32, h33, h34, h35, h36, h37, h38, h39, h40, h41, h42, h43, h44,
    h45, h46, h47, h48, h49, h50⟩ := h
  exact ⟨h0, h1, h2, h3, h4, h5, h6, h7, h8, h9, h10, h11, h12, h13, h14, h15, h16, by rw [e], h18, h19, h20, h21,
    h22, h23, h24, h25, h26, h27, h28, h29, h30, h31, h32, h33, h34, h35, h36, h37, h38, h39, h40, h41, h42, h43,
    h44, h45, h46, h47, h48, h49, h50⟩

theorem wipe_fill_ledgers {m : Nat} {s t : State} (h : s.wipe (0x40000 ||| m) = t.wipe (0x40000 ||| m))
    (e : s.ledgers = t.ledgers) : s.wipe m = t.wipe m := by
  simp only [State.wipe, State.mk.injEq, Nat.testBit_or] at h ⊢
  obtain ⟨h0, h1, h2, h3, h4, h5, h6, h7, h8, h9, h10, h11, h12, h13, h14, h15, h16, h17, h18, h19, h20, h21, h22,
    h23, h24, h25, h26, h27, h28, h29, h30, h31, h32, h33, h34, h35, h36, h37, h38, h39, h40, h41, h42, h43, h44,
    h45, h46, h47, h48, h49, h50⟩ := h
  exact ⟨h0, h1, h2, h3, h4, h5, h6, h7, h8, h9, h10, h11, h12, h13, h14, h15, h16, h17, by rw [e], h19, h20, h21,
    h22, h23, h24, h25, h26, h27, h28, h29, h30, h31, h32, h33, h34, h35, h36, h37, h38, h39, h40, h41, h42, h43,
    h44, h45, h46, h47, h48, h49, h50⟩

theorem wipe_fill_loanSeq {m : Nat} {s t : State} (h : s.wipe (0x80000 ||| m) = t.wipe (0x80000 ||| m))
    (e : s.loanSeq = t.loanSeq) : s.wipe m = t.wipe m := by
  simp only [State.wipe, State.mk.injEq, Nat.testBit_or] at h ⊢
  obtain ⟨h0, h1, h2, h3, h4, h5, h6, h7, h8, h9, h10, h11, h12, h13, h14, h15, h16, h17, h18, h19, h20, h21, h22,
    h23, h24, h25, h26, h27, h28, h29, h30, h31, h32, h33, h34, h35, h36, h37, h38, h39, h40, h41, h42, h43, h44,
    h45, h46, h47, h48, h49, h50⟩ := h
  exact ⟨h0, h1, h2, h3, h4, h5, h6, h7, h8, h9, h10, h11, h12, h13, h14, h15, h16, h17, h18, by rw [e], h20, h21,
    h22, h23, h24, h25, h26, h27, h28, h29, h30, h31, h32, h33, h34, h35, h36, h37, h38, h39, h40, h41, h42, h43,
    h44, h45, h46, h47, h48, h49, h50⟩

theorem wipe_fill_ports {m : Nat} {s t : State} (h : s.wipe (0x100000 ||| m) = t.wipe (0x100000 ||| m))
    (e : s.ports = t.ports) : s.wipe m = t.wipe m := by
  simp only [State.wipe, State.mk.injEq, Nat.testBit_or] at h ⊢
  obtain ⟨h0, h1, h2, h3, h4, h5, h6, h7, h8, h9, h10, h11, h12, h13, h14, h15, h16, h17, h18, h19, h20, h21, h22,
    h23, h24, h25, h26, h27, h28, h29, h30, h31, h32, h33, h34, h35, h36, h37, h38, h39, h40, h41, h42, h43, h44,
    h45, h46, h47, h48, h49, h50⟩ := h
  exact ⟨h0, h1, h2, h3, h4, h5, h6, h7, h8, h9, h10, h11, h12, h13, h14, h15, h16, h17, h18, h19, by rw [e], h21,
    h22, h23, h24, h25, h26, h27, h28, h29, h30, h31, h32, h33, h34, h35, h36, h37, h38, h39, h40, h41, h42, h43,
    h44, h45, h46, h47, h48, h49, h50⟩

theorem wipe_fill_slots {m : Nat} {s t : State} (h : s.wipe (0x200000 ||| m) = t.wipe (0x200000 ||| m))
    (e : s.slots = t.slots) : s.wipe m = t.wipe m := by
  simp only [State.wipe, State.mk.injEq, Nat.testBit_or] at h ⊢
  obtain ⟨h0, h1, h2, h3, h4, h5, h6, h7, h8, h9, h10, h11, h12, h13, h14, h15, h16, h17, h18, h19, h20, h21, h22,
    h23, h24, h25, h26, h27, h28, h29, h30, h31, h32, h33, h34, h35, h36, h37, h38, h39, h40, h41, h42, h43, h44,
    h45, h46, h47, h48, h49, h50⟩ := h
  exact ⟨h0, h1, h2, h3, h4, h5, h6, h7, h8, h9, h10, h11, h12, h13, h14, h15, h16, h17, h18, h19, h20, by rw [e],
    h22, h23, h24, h25, h26, h27, h28, h29, h30, h31, h32, h33, h34, h35, h36, h37, h38, h39, h40, h41, h42, h43,
    h44, h45, h46, h47, h48, h49, h50⟩

theorem wipe_fill_rets {m : Nat} {s t : State} (h : s.wipe (0x400000 ||| m) = t.wipe (0x400000 ||| m))
    (e : s.rets = t.rets) : s.wipe m = t.wipe m := by
  simp only [State.wipe, State.mk.injEq, Nat.testBit_or] at h ⊢
  obtain ⟨h0, h1, h2, h3, h4, h5, h6, h7, h8, h9, h10, h11, h12, h13, h14, h15, h16, h17, h18, h19, h20, h21, h22,
    h23, h24, h25, h26, h27, h28, h29, h30, h31, h32, h33, h34, h35, h36, h37, h38, h39, h40, h41, h42, h43, h44,
    h45, h46, h47, h48, h49, h50⟩ := h
  exact ⟨h0, h1, h2, h3, h4, h5, h6, h7, h8, h9, h10, h11, h12, h13, h14, h15, h16, h17, h18, h19, h20, h21, by rw
    [e], h23, h24, h25, h26, h27, h28, h29, h30, h31, h32, h33, h34, h35, h36, h37, h38, h39, h40, h41, h42, h43,
    h44, h45, h46, h47, h48, h49, h50⟩

theorem wipe_fill_buffered {m : Nat} {s t : State} (h : s.wipe (0x800000 ||| m) = t.wipe (0x800000 ||| m))
    (e : s.buffered = t.buffered) : s.wipe m = t.wipe m := by
  simp only [State.wipe, State.mk.injEq, Nat.testBit_or] at h ⊢
  obtain ⟨h0, h1, h2, h3, h4, h5, h6, h7, h8, h9, h10, h11, h12, h13, h14, h15, h16, h17, h18, h19, h20, h21, h22,
    h23, h24, h25, h26, h27, h28, h29, h30, h31, h32, h33, h34, h35, h36, h37, h38, h39, h40, h41, h42, h43, h44,
    h45, h46, h47, h48, h49, h50⟩ := h
  exact ⟨h0, h1, h2, h3, h4, h5, h6, h7, h8, h9, h10, h11, h12, h13, h14, h15, h16, h17, h18, h19, h20, h21, h22, by
    rw [e], h24, h25, h26, h27, h28, h29, h30, h31, h32, h33, h34, h35, h36, h37, h38, h39, h40, h41, h42, h43, h44,
    h45, h46, h47, h48, h49, h50⟩

theorem wipe_fill_devMap {m : Nat} {s t : State} (h : s.wipe (0x8000000 ||| m) = t.wipe (0x8000000 ||| m))
    (e : s.devMap = t.devMap) : s.wipe m = t.wipe m := by
  simp only [State.wipe, State.mk.injEq, Nat.testBit_or] at h ⊢
  obtain ⟨h0, h1, h2, h3, h4, h5, h6, h7, h8, h9, h10, h11, h12, h13, h14, h15, h16, h17, h18, h19, h20, h21, h22,
    h23, h24, h25, h26, h27, h28, h29, h30, h31, h32, h33, h34, h35, h36, h37, h38, h39, h40, h41, h42, h43, h44,
    h45, h46, h47, h48, h49, h50⟩ := h
  exact ⟨h0, h1, h2, h3, h4, h5, h6, h7, h8, h9, h10, h11, h12, h13, h14, h15, h16, h17, h18, h19, h20, h21, h22,
    h23, h24, h25, h26, by rw [e], h28, h29, h30, h31, h32, h33, h34, h35, h36, h37, h38, h39, h40, h41, h42, h43,
    h44, h45, h46, h47, h48, h49, h50⟩

theorem wipe_fill_routes {m : Nat} {s t : State} (h : s.wipe (0x10000000 ||| m) = t.wipe (0x10000000 ||| m))
    (e : s.routes = t.routes) : s.wipe m = t.wipe m := by
  simp only [State.wipe, State.mk.injEq, Nat.testBit_or] at h ⊢
  obtain ⟨h0, h1, h2, h3, h4, h5, h6, h7, h8, h9, h10, h11, h12, h13, h14, h15, h16, h17, h18, h19, h20, h21, h22,
    h23, h24, h25, h26, h27, h28, h29, h30, h31, h32, h33, h34, h35, h36, h37, h38, h39, h40, h41, h42, h43, h44,
    h45, h46, h47, h48, h49, h50⟩ := h
  exact ⟨h0, h1, h2, h3, h4, h5, h6, h7, h8, h9, h10, h11, h12, h13, h14, h15, h16, h17, h18, h19, h20, h21, h22,
    h23, h24, h25, h26, h27, by rw [e], h29, h30, h31, h32, h33, h34, h35, h36, h37, h38, h39, h40, h41, h42, h43,
    h44, h45, h46, h47, h48, h49, h50⟩

theorem wipe_fill_links {m : Nat} {s t : State} (h : s.wipe (0x20000000 ||| m) = t.wipe (0x20000000 ||| m))
    (e : s.links = t.links) : s.wipe m = t.wipe m := by
  simp only [State.wipe, State.mk.injEq, Nat.testBit_or] at h ⊢
  obtain ⟨h0, h1, h2, h3, h4, h5, h6, h7, h8, h9, h10, h11, h12, h13, h14, h15, h16, h17, h18, h19, h20, h21, h22,
    h23, h24, h25, h26, h27, h28, h29, h30, h31, h32, h33, h34, h35, h36, h37, h38, h39, h40, h41, h42, h43, h44,
    h45, h46, h47, h48, h49, h50⟩ := h
  exact ⟨h0, h1, h2, h3, h4, h5, h6, h7, h8, h9, h10, h11, h12, h13, h14, h15, h16, h17, h18, h19, h20, h21, h22,
    h23, h24, h25, h26, h27, h28, by rw [e], h30, h31, h32, h33, h34, h35, h36, h37, h38, h39, h40, h41, h42, h43,
    h44, h45, h46, h47, h48, h49, h50⟩

theorem wipe_fill_inbox {m : Nat} {s t : State} (h : s.wipe (0x40000000 ||| m) = t.wipe (0x40000000 ||| m))
    (e : s.inbox = t.inbox) : s.wipe m = t.wipe m := by
  simp only [State.wipe, State.mk.injEq, Nat.testBit_or] at h ⊢
  obtain ⟨h0, h1, h2, h3, h4, h5, h6, h7, h8, h9, h10, h11, h12, h13, h14, h15, h16, h17, h18, h19, h20, h21, h22,
    h23, h24, h25, h26, h27, h28, h29, h30, h31, h32, h33, h34, h35, h36, h37, h38, h39, h40, h41, h42, h43, h44,
    h45, h46, h47, h48, h49, h50⟩ := h
  exact ⟨h0, h1, h2, h3, h4, h5, h6, h7, h8, h9, h10, h11, h12, h13, h14, h15, h16, h17, h18, h19, h20, h21, h22,
    h23, h24, h25, h26, h27, h28, h29, by rw [e], h31, h32, h33, h34, h35, h36, h37, h38, h39, h40, h41, h42, h43,
    h44, h45, h46, h47, h48, h49, h50⟩

theorem wipe_fill_waitMsgs {m : Nat} {s t : State} (h : s.wipe (0x80000000 ||| m) = t.wipe (0x80000000 ||| m))
    (e : s.waitMsgs = t.waitMsgs) : s.wipe m = t.wipe m := by
  simp only [State.wipe, State.mk.injEq, Nat.testBit_or] at h ⊢
  obtain ⟨h0, h1, h2, h3, h4, h5, h6, h7, h8, h9, h10, h11, h12, h13, h14, h15, h16, h17, h18, h19, h20, h21, h22,
    h23, h24, h25, h26, h27, h28, h29, h30, h31, h32, h33, h34, h35, h36, h37, h38, h39, h40, h41, h42, h43, h44,
    h45, h46, h47, h48, h49, h50⟩ := h
  exact ⟨h0, h1, h2, h3, h4, h5, h6, h7, h8, h9, h10, h11, h12, h13, h14, h15, h16, h17, h18, h19, h20, h21, h22,
    h23, h24, h25, h26, h27, h28, h29, h30, by rw [e], h32, h33, h34, h35, h36, h37, h38, h39, h40, h41, h42, h43,
    h44, h45, h46, h47, h48, h49, h50⟩

theorem wipe_fill_changes {m : Nat} {s t : State} (h : s.wipe (0x100000000 ||| m) = t.wipe (0x100000000 ||| m))
    (e : s.changes = t.changes) : s.wipe m = t.wipe m := by
  simp only [State.wipe, State.mk.injEq, Nat.testBit_or] at h ⊢
  obtain ⟨h0, h1, h2, h3, h4, h5, h6, h7, h8, h9, h10, h11, h12, h13, h14, h15, h16, h17, h18, h19, h20, h21, h22,
    h23, h24, h25, h26, h27, h28, h29, h30, h31, h32, h33, h34, h35, h36, h37, h38, h39, h40, h41, h42, h43, h44,
    h45, h46, h47, h48, h49, h50⟩ := h
  exact ⟨h0, h1, h2, h3, h4, h5, h6, h7, h8, h9, h10, h11, h12, h13, h14, h15, h16, h17, h18, h19, h20, h21, h22,
    h23, h24, h25, h26, h27, h28, h29, h30, h31, by rw [e], h33, h34, h35, h36, h37, h38, h39, h40, h41, h42, h43,
    h44, h45, h46, h47, h48, h49, h50⟩

theorem wipe_fill_settles {m : Nat} {s t : State} (h : s.wipe (0x200000000 ||| m) = t.wipe (0x200000000 ||| m))
    (e : s.settles = t.settles) : s.wipe m = t.wipe m := by
  simp only [State.wipe, State.mk.injEq, Nat.testBit_or] at h ⊢
  obtain ⟨h0, h1, h2, h3, h4, h5, h6, h7, h8, h9, h10, h11, h12, h13, h14, h15, h16, h17, h18, h19, h20, h21, h22,
    h23, h24, h25, h26, h27, h28, h29, h30, h31, h32, h33, h34, h35, h36, h37, h38, h39, h40, h41, h42, h43, h44,
    h45, h46, h47, h48, h49, h50⟩ := h
  exact ⟨h0, h1, h2, h3, h4, h5, h6, h7, h8, h9, h10, h11, h12, h13, h14, h15, h16, h17, h18, h19, h20, h21, h22,
    h23, h24, h25, h26, h27, h28, h29, h30, h31, h32, by rw [e], h34, h35, h36, h37, h38, h39, h40, h41, h42, h43,
    h44, h45, h46, h47, h48, h49, h50⟩

theorem wipe_fill_fenceNum {m : Nat} {s t : State} (h : s.wipe (0x400000000 ||| m) = t.wipe (0x400000000 ||| m))
    (e : s.fenceNum = t.fenceNum) : s.wipe m = t.wipe m := by
  simp only [State.wipe, State.mk.injEq, Nat.testBit_or] at h ⊢
  obtain ⟨h0, h1, h2, h3, h4, h5, h6, h7, h8, h9, h10, h11, h12, h13, h14, h15, h16, h17, h18, h19, h20, h21, h22,
    h23, h24, h25, h26, h27, h28, h29, h30, h31, h32, h33, h34, h35, h36, h37, h38, h39, h40, h41, h42, h43, h44,
    h45, h46, h47, h48, h49, h50⟩ := h
  exact ⟨h0, h1, h2, h3, h4, h5, h6, h7, h8, h9, h10, h11, h12, h13, h14, h15, h16, h17, h18, h19, h20, h21, h22,
    h23, h24, h25, h26, h27, h28, h29, h30, h31, h32, h33, by rw [e], h35, h36, h37, h38, h39, h40, h41, h42, h43,
    h44, h45, h46, h47, h48, h49, h50⟩

theorem wipe_fill_lostSince {m : Nat} {s t : State} (h : s.wipe (0x800000000 ||| m) = t.wipe (0x800000000 ||| m))
    (e : s.lostSince = t.lostSince) : s.wipe m = t.wipe m := by
  simp only [State.wipe, State.mk.injEq, Nat.testBit_or] at h ⊢
  obtain ⟨h0, h1, h2, h3, h4, h5, h6, h7, h8, h9, h10, h11, h12, h13, h14, h15, h16, h17, h18, h19, h20, h21, h22,
    h23, h24, h25, h26, h27, h28, h29, h30, h31, h32, h33, h34, h35, h36, h37, h38, h39, h40, h41, h42, h43, h44,
    h45, h46, h47, h48, h49, h50⟩ := h
  exact ⟨h0, h1, h2, h3, h4, h5, h6, h7, h8, h9, h10, h11, h12, h13, h14, h15, h16, h17, h18, h19, h20, h21, h22,
    h23, h24, h25, h26, h27, h28, h29, h30, h31, h32, h33, h34, by rw [e], h36, h37, h38, h39, h40, h41, h42, h43,
    h44, h45, h46, h47, h48, h49, h50⟩

theorem wipe_fill_evs {m : Nat} {s t : State} (h : s.wipe (0x1000000000 ||| m) = t.wipe (0x1000000000 ||| m))
    (e : s.evs = t.evs) : s.wipe m = t.wipe m := by
  simp only [State.wipe, State.mk.injEq, Nat.testBit_or] at h ⊢
  obtain ⟨h0, h1, h2, h3, h4, h5, h6, h7, h8, h9, h10, h11, h12, h13, h14, h15, h16, h17, h18, h19, h20, h21, h22,
    h23, h24, h25, h26, h27, h28, h29, h30, h31, h32, h33, h34, h35, h36, h37, h38, h39, h40, h41, h42, h43, h44,
    h45, h46, h47, h48, h49, h50⟩ := h
  exact ⟨h0, h1, h2, h3, h4, h5, h6, h7, h8, h9, h10, h11, h12, h13, h14, h15, h16, h17, h18, h19, h20, h21, h22,
    h23, h24, h25, h26, h27, h28, h29, h30, h31, h32, h33, h34, h35, by rw [e], h37, h38, h39, h40, h41, h42, h43,
    h44, h45, h46, h47, h48, h49, h50⟩

theorem wipe_fill_views {m : Nat} {s t : State} (h : s.wipe (0x4000000000 ||| m) = t.wipe (0x4000000000 ||| m))
    (e : s.views = t.views) : s.wipe m = t.wipe m := by
  simp only [State.wipe, State.mk.injEq, Nat.testBit_or] at h ⊢
  obtain ⟨h0, h1, h2, h3, h4, h5, h6, h7, h8, h9, h10, h11, h12, h13, h14, h15, h16, h17, h18, h19, h20, h21, h22,
    h23, h24, h25, h26, h27, h28, h29, h30, h31, h32, h33, h34, h35, h36, h37, h38, h39, h40, h41, h42, h43, h44,
    h45, h46, h47, h48, h49, h50⟩ := h
  exact ⟨h0, h1, h2, h3, h4, h5, h6, h7, h8, h9, h10, h11, h12, h13, h14, h15, h16, h17, h18, h19, h20, h21, h22,
    h23, h24, h25, h26, h27, h28, h29, h30, h31, h32, h33, h34, h35, h36, h37, by rw [e], h39, h40, h41, h42, h43,
    h44, h45, h46, h47, h48, h49, h50⟩

theorem wipe_fill_catOpen {m : Nat} {s t : State} (h : s.wipe (0x8000000000 ||| m) = t.wipe (0x8000000000 ||| m))
    (e : s.catOpen = t.catOpen) : s.wipe m = t.wipe m := by
  simp only [State.wipe, State.mk.injEq, Nat.testBit_or] at h ⊢
  obtain ⟨h0, h1, h2, h3, h4, h5, h6, h7, h8, h9, h10, h11, h12, h13, h14, h15, h16, h17, h18, h19, h20, h21, h22,
    h23, h24, h25, h26, h27, h28, h29, h30, h31, h32, h33, h34, h35, h36, h37, h38, h39, h40, h41, h42, h43, h44,
    h45, h46, h47, h48, h49, h50⟩ := h
  exact ⟨h0, h1, h2, h3, h4, h5, h6, h7, h8, h9, h10, h11, h12, h13, h14, h15, h16, h17, h18, h19, h20, h21, h22,
    h23, h24, h25, h26, h27, h28, h29, h30, h31, h32, h33, h34, h35, h36, h37, h38, by rw [e], h40, h41, h42, h43,
    h44, h45, h46, h47, h48, h49, h50⟩

theorem wipe_fill_catHeld {m : Nat} {s t : State} (h : s.wipe (0x10000000000 ||| m) = t.wipe (0x10000000000 ||| m))
    (e : s.catHeld = t.catHeld) : s.wipe m = t.wipe m := by
  simp only [State.wipe, State.mk.injEq, Nat.testBit_or] at h ⊢
  obtain ⟨h0, h1, h2, h3, h4, h5, h6, h7, h8, h9, h10, h11, h12, h13, h14, h15, h16, h17, h18, h19, h20, h21, h22,
    h23, h24, h25, h26, h27, h28, h29, h30, h31, h32, h33, h34, h35, h36, h37, h38, h39, h40, h41, h42, h43, h44,
    h45, h46, h47, h48, h49, h50⟩ := h
  exact ⟨h0, h1, h2, h3, h4, h5, h6, h7, h8, h9, h10, h11, h12, h13, h14, h15, h16, h17, h18, h19, h20, h21, h22,
    h23, h24, h25, h26, h27, h28, h29, h30, h31, h32, h33, h34, h35, h36, h37, h38, h39, by rw [e], h41, h42, h43,
    h44, h45, h46, h47, h48, h49, h50⟩

theorem wipe_fill_apb {m : Nat} {s t : State} (h : s.wipe (0x20000000000 ||| m) = t.wipe (0x20000000000 ||| m))
    (e : s.apb = t.apb) : s.wipe m = t.wipe m := by
  simp only [State.wipe, State.mk.injEq, Nat.testBit_or] at h ⊢
  obtain ⟨h0, h1, h2, h3, h4, h5, h6, h7, h8, h9, h10, h11, h12, h13, h14, h15, h16, h17, h18, h19, h20, h21, h22,
    h23, h24, h25, h26, h27, h28, h29, h30, h31, h32, h33, h34, h35, h36, h37, h38, h39, h40, h41, h42, h43, h44,
    h45, h46, h47, h48, h49, h50⟩ := h
  exact ⟨h0, h1, h2, h3, h4, h5, h6, h7, h8, h9, h10, h11, h12, h13, h14, h15, h16, h17, h18, h19, h20, h21, h22,
    h23, h24, h25, h26, h27, h28, h29, h30, h31, h32, h33, h34, h35, h36, h37, h38, h39, h40, by rw [e], h42, h43,
    h44, h45, h46, h47, h48, h49, h50⟩

theorem wipe_fill_eid {m : Nat} {s t : State} (h : s.wipe (0x40000000000 ||| m) = t.wipe (0x40000000000 ||| m))
    (e : s.eid = t.eid) : s.wipe m = t.wipe m := by
  simp only [State.wipe, State.mk.injEq, Nat.testBit_or] at h ⊢
  obtain ⟨h0, h1, h2, h3, h4, h5, h6, h7, h8, h9, h10, h11, h12, h13, h14, h15, h16, h17, h18, h19, h20, h21, h22,
    h23, h24, h25, h26, h27, h28, h29, h30, h31, h32, h33, h34, h35, h36, h37, h38, h39, h40, h41, h42, h43, h44,
    h45, h46, h47, h48, h49, h50⟩ := h
  exact ⟨h0, h1, h2, h3, h4, h5, h6, h7, h8, h9, h10, h11, h12, h13, h14, h15, h16, h17, h18, h19, h20, h21, h22,
    h23, h24, h25, h26, h27, h28, h29, h30, h31, h32, h33, h34, h35, h36, h37, h38, h39, h40, h41, by rw [e], h43,
    h44, h45, h46, h47, h48, h49, h50⟩

theorem wipe_fill_flips {m : Nat} {s t : State} (h : s.wipe (0x80000000000 ||| m) = t.wipe (0x80000000000 ||| m))
    (e : s.flips = t.flips) : s.wipe m = t.wipe m := by
  simp only [State.wipe, State.mk.injEq, Nat.testBit_or] at h ⊢
  obtain ⟨h0, h1, h2, h3, h4, h5, h6, h7, h8, h9, h10, h11, h12, h13, h14, h15, h16, h17, h18, h19, h20, h21, h22,
    h23, h24, h25, h26, h27, h28, h29, h30, h31, h32, h33, h34, h35, h36, h37, h38, h39, h40, h41, h42, h43, h44,
    h45, h46, h47, h48, h49, h50⟩ := h
  exact ⟨h0, h1, h2, h3, h4, h5, h6, h7, h8, h9, h10, h11, h12, h13, h14, h15, h16, h17, h18, h19, h20, h21, h22,
    h23, h24, h25, h26, h27, h28, h29, h30, h31, h32, h33, h34, h35, h36, h37, h38, h39, h40, h41, h42, by rw [e],
    h44, h45, h46, h47, h48, h49, h50⟩

theorem wipe_fill_stuck {m : Nat} {s t : State} (h : s.wipe (0x100000000000 ||| m) = t.wipe (0x100000000000 ||| m))
    (e : s.stuck = t.stuck) : s.wipe m = t.wipe m := by
  simp only [State.wipe, State.mk.injEq, Nat.testBit_or] at h ⊢
  obtain ⟨h0, h1, h2, h3, h4, h5, h6, h7, h8, h9, h10, h11, h12, h13, h14, h15, h16, h17, h18, h19, h20, h21, h22,
    h23, h24, h25, h26, h27, h28, h29, h30, h31, h32, h33, h34, h35, h36, h37, h38, h39, h40, h41, h42, h43, h44,
    h45, h46, h47, h48, h49, h50⟩ := h
  exact ⟨h0, h1, h2, h3, h4, h5, h6, h7, h8, h9, h10, h11, h12, h13, h14, h15, h16, h17, h18, h19, h20, h21, h22,
    h23, h24, h25, h26, h27, h28, h29, h30, h31, h32, h33, h34, h35, h36, h37, h38, h39, h40, h41, h42, h43, by rw
    [e], h45, h46, h47, h48, h49, h50⟩

theorem wipe_fill_stageFails {m : Nat} {s t : State} (h : s.wipe (0x200000000000 ||| m) = t.wipe (0x200000000000 ||| m))
    (e : s.stageFails = t.stageFails) : s.wipe m = t.wipe m := by
  simp only [State.wipe, State.mk.injEq, Nat.testBit_or] at h ⊢
  obtain ⟨h0, h1, h2, h3, h4, h5, h6, h7, h8, h9, h10, h11, h12, h13, h14, h15, h16, h17, h18, h19, h20, h21, h22,
    h23, h24, h25, h26, h27, h28, h29, h30, h31, h32, h33, h34, h35, h36, h37, h38, h39, h40, h41, h42, h43, h44,
    h45, h46, h47, h48, h49, h50⟩ := h
  exact ⟨h0, h1, h2, h3, h4, h5, h6, h7, h8, h9, h10, h11, h12, h13, h14, h15, h16, h17, h18, h19, h20, h21, h22,
    h23, h24, h25, h26, h27, h28, h29, h30, h31, h32, h33, h34, h35, h36, h37, h38, h39, h40, h41, h42, h43, h44, by
    rw [e], h46, h47, h48, h49, h50⟩

theorem wipe_fill_stageOut {m : Nat} {s t : State} (h : s.wipe (0x400000000000 ||| m) = t.wipe (0x400000000000 ||| m))
    (e : s.stageOut = t.stageOut) : s.wipe m = t.wipe m := by
  simp only [State.wipe, State.mk.injEq, Nat.testBit_or] at h ⊢
  obtain ⟨h0, h1, h2, h3, h4, h5, h6, h7, h8, h9, h10, h11, h12, h13, h14, h15, h16, h17, h18, h19, h20, h21, h22,
    h23, h24, h25, h26, h27, h28, h29, h30, h31, h32, h33, h34, h35, h36, h37, h38, h39, h40, h41, h42, h43, h44,
    h45, h46, h47, h48, h49, h50⟩ := h
  exact ⟨h0, h1, h2, h3, h4, h5, h6, h7, h8, h9, h10, h11, h12, h13, h14, h15, h16, h17, h18, h19, h20, h21, h22,
    h23, h24, h25, h26, h27, h28, h29, h30, h31, h32, h33, h34, h35, h36, h37, h38, h39, h40, h41, h42, h43, h44,
    h45, by rw [e], h47, h48, h49, h50⟩

theorem wipe_fill_scrubStart {m : Nat} {s t : State} (h : s.wipe (0x800000000000 ||| m) = t.wipe (0x800000000000 ||| m))
    (e : s.scrubStart = t.scrubStart) : s.wipe m = t.wipe m := by
  simp only [State.wipe, State.mk.injEq, Nat.testBit_or] at h ⊢
  obtain ⟨h0, h1, h2, h3, h4, h5, h6, h7, h8, h9, h10, h11, h12, h13, h14, h15, h16, h17, h18, h19, h20, h21, h22,
    h23, h24, h25, h26, h27, h28, h29, h30, h31, h32, h33, h34, h35, h36, h37, h38, h39, h40, h41, h42, h43, h44,
    h45, h46, h47, h48, h49, h50⟩ := h
  exact ⟨h0, h1, h2, h3, h4, h5, h6, h7, h8, h9, h10, h11, h12, h13, h14, h15, h16, h17, h18, h19, h20, h21, h22,
    h23, h24, h25, h26, h27, h28, h29, h30, h31, h32, h33, h34, h35, h36, h37, h38, h39, h40, h41, h42, h43, h44,
    h45, h46, by rw [e], h48, h49, h50⟩

theorem wipe_fill_out {m : Nat} {s t : State} (h : s.wipe (0x1000000000000 ||| m) = t.wipe (0x1000000000000 ||| m))
    (e : s.out = t.out) : s.wipe m = t.wipe m := by
  simp only [State.wipe, State.mk.injEq, Nat.testBit_or] at h ⊢
  obtain ⟨h0, h1, h2, h3, h4, h5, h6, h7, h8, h9, h10, h11, h12, h13, h14, h15, h16, h17, h18, h19, h20, h21, h22,
    h23, h24, h25, h26, h27, h28, h29, h30, h31, h32, h33, h34, h35, h36, h37, h38, h39, h40, h41, h42, h43, h44,
    h45, h46, h47, h48, h49, h50⟩ := h
  exact ⟨h0, h1, h2, h3, h4, h5, h6, h7, h8, h9, h10, h11, h12, h13, h14, h15, h16, h17, h18, h19, h20, h21, h22,
    h23, h24, h25, h26, h27, h28, h29, h30, h31, h32, h33, h34, h35, h36, h37, h38, h39, h40, h41, h42, h43, h44,
    h45, h46, h47, by rw [e], h49, h50⟩

theorem wipe_fill_clock {m : Nat} {s t : State} (h : s.wipe (0x4000000000000 ||| m) = t.wipe (0x4000000000000 ||| m))
    (e : s.clock = t.clock) : s.wipe m = t.wipe m := by
  simp only [State.wipe, State.mk.injEq, Nat.testBit_or] at h ⊢
  obtain ⟨h0, h1, h2, h3, h4, h5, h6, h7, h8, h9, h10, h11, h12, h13, h14, h15, h16, h17, h18, h19, h20, h21, h22,
    h23, h24, h25, h26, h27, h28, h29, h30, h31, h32, h33, h34, h35, h36, h37, h38, h39, h40, h41, h42, h43, h44,
    h45, h46, h47, h48, h49, h50⟩ := h
  exact ⟨h0, h1, h2, h3, h4, h5, h6, h7, h8, h9, h10, h11, h12, h13, h14, h15, h16, h17, h18, h19, h20, h21, h22,
    h23, h24, h25, h26, h27, h28, h29, h30, h31, h32, h33, h34, h35, h36, h37, h38, h39, h40, h41, h42, h43, h44,
    h45, h46, h47, h48, h49, by rw [e]⟩

end Sys2Proof.Machine
end

