-- ==== Sys2Proof/Laws/LinkMoves.lean ====
section
/-! SUPPORT. What a link's change of state and the flits that it drives leave, where no message waits at the hub. -/

namespace Sys2Proof.Machine

theorem link_of_links {s t : State} (h : t.links = s.links) (c : Nat) : t.link c = s.link c := by
  unfold State.link
  rw [h]

theorem retryStranded_none {s : State} (h : s.waitMsgs = []) : s.retryStranded = s := by
  unfold State.retryStranded State.releaseWaiting
  rw [h]
  simp only [List.filter_nil, State.resend]
  rw [← h]

theorem pump_down {s : State} {c : Nat} (h : (s.link c).state ≠ .up) : s.pump c = s := by
  unfold State.pump
  simp only [h, false_and, if_false]

/-- A link that is not to come UP changes its state and its version alone, and no message leaves. -/
theorem moveLink_quiet {s : State} {c : Nat} {st : LinkState} {r p a : Nat} (hne : (s.link c).state ≠ st) (hst : st ≠ .up)
    (hw : s.waitMsgs = []) :
    (s.moveLink c st r p a).link c =
      { s.link c with state := st, version := if st = .down ∨ st = .training then 0 else (s.link c).version } ∧
    (s.moveLink c st r p a).waitMsgs = [] ∧
    ∀ m, 0x2000827000400 ||| m = m → (s.moveLink c st r p a).wipe m = s.wipe m := by
  generalize hl : ({ s.link c with state := st, version := if st = .down ∨ st = .training then 0 else (s.link c).version } : Link) = l
  generalize hX : ((State.noteRoutes s (s.setLink c l)).linkNote c (linkCode (s.link c).state) r p a).checkHoldover c = X
  have xw : ∀ m, 0x2000807000400 ||| m = m → X.wipe m = (s.setLink c l).wipe m := by
    intro m hm
    rw [← hX, State.checkHoldover_wipe _ _ _ (mask_sub hm (by decide)), State.linkNote_wipe _ _ _ _ _ _ _ (mask_sub hm (by decide)),
      State.noteRoutes_wipe _ _ _ (mask_sub hm (by decide))]
  have xl : X.links = (s.setLink c l).links := links_of_wipe (m := 0x2000807000400) (by decide) (xw _ (by decide))
  have xwm : X.waitMsgs = [] := (waitMsgs_of_wipe (m := 0x2000807000400) (by decide) (xw _ (by decide))).trans hw
  have xlc : X.link c = l := by
    rw [link_of_links xl, State.link_setLink_self]
  have e : s.moveLink c st r p a = X := by
    unfold State.moveLink
    simp only [hne, if_false]
    have : (s.modLink c fun l => { l with state := st, version := if st = .down ∨ st = .training then 0 else l.version }) =
        s.setLink c l := by
      rw [← hl]
      rfl
    rw [this, hX, pump_down (by rw [xlc, ← hl]; exact hst), retryStranded_none xwm]
  rw [e]
  refine ⟨xlc, xwm, fun m hm => ?_⟩
  rw [xw m (mask_sub hm (by decide))]
  exact State.setLink_wipe _ _ _ _ (mask_sub hm (by decide))

/-- A flit is driven behind what the hub has driven; its link keeps no debt of an acknowledgement. -/
theorem sendFlit_out (s : State) (c : Nat) (ft : BitVec 4) (head : Bool) (seq : BitVec 12) (x : BitVec 192) :
    ∃ f : Flit, (s.sendFlit c ft head seq x).out = s.out ++ [.flit c f.encode] ∧ f.ftype = ft ∧ f.payload = x ∧
      f.head = head ∧ f.fseq = seq ∧
      ∃ o, (s.sendFlit c ft head seq x).link c = { s.link c with ackOwed := false, owed := o } ∧
        ((s.link c).owed = [0, 0, 0, 0] → o = [0, 0, 0, 0] ∧
          f = { ftype := ft, head := head, fseq := seq, aseq := (s.link c).aseq, crv := false, crb := 0, payload := x }) := by
  refine ⟨_, rfl, rfl, rfl, rfl, rfl, ?_⟩
  have : (s.sendFlit c ft head seq x).link c = { s.link c with
      ackOwed := false
      owed := match (s.link c).creditBuf with
        | some i => (s.link c).owed.set i ((s.link c).owed.getD i 0 - 1)
        | none => (s.link c).owed } := by
    exact State.link_setLink_self _ _ _
  rw [this]
  refine ⟨_, rfl, fun h => ?_⟩
  have hb : (s.link c).creditBuf = none := by
    unfold Link.creditBuf
    rw [h]
    decide
  rw [hb]
  exact ⟨h, rfl⟩

/-- A control flit. -/
theorem sendControl_out (s : State) (c : Nat) (ft : BitVec 4) (x : BitVec 192) :
    ∃ f : Flit, (s.sendControl c ft x).out = s.out ++ [.flit c f.encode] ∧ f.ftype = ft ∧ f.payload = x ∧
      ∃ o, (s.sendControl c ft x).link c = { s.link c with ackOwed := false, owed := o } ∧
        ((s.link c).owed = [0, 0, 0, 0] → o = [0, 0, 0, 0]) := by
  obtain ⟨f, h1, h2, h3, -, -, o, h4, h5⟩ := sendFlit_out s c ft false (s.link c).nextSeq x
  exact ⟨f, h1, h2, h3, o, h4, fun h => (h5 h).1⟩

/-- The NEG flit that a hub sends (R360). -/
def State.negOf (s : State) (c : Nat) : Neg :=
  { id := s.hub, weft := isWeft c, vmin := BitVec.ofNat 2 (s.linkCfg c 2), vmax := BitVec.ofNat 2 (s.sentVmax c)
    ack := (s.link c).sawNeg, agreed := if (s.link c).sawNeg then (s.link c).version else 0
    lanes := if isWeft c then (s.link c).lanes else 0
    credits := creditField [bufferCap c, bufferCap c, bufferCap c, bufferCap c], resume := (s.link c).keepReplay
    rxNext := (s.link c).rxNext }

theorem sendNeg_out (s : State) (c : Nat) :
    ∃ f : Flit, (s.sendNeg c).out = s.out ++ [.flit c f.encode] ∧ f.ftype = 2 ∧ f.payload = (s.negOf c).encode ∧
      ∃ o, (s.sendNeg c).link c = { s.link c with negSent := s.clock, ackOwed := false, owed := o } := by
  obtain ⟨f, h1, h2, h3, o, h4, -⟩ := sendControl_out (s.setLink c { s.link c with negSent := s.clock }) c 2 (s.negOf c).encode
  refine ⟨f, h1, h2, h3, o, ?_⟩
  have : s.sendNeg c = (s.setLink c { s.link c with negSent := s.clock }).sendControl c 2 (s.negOf c).encode := rfl
  rw [this, h4, State.link_setLink_self]

end Sys2Proof.Machine
end

