-- ==== Sys2Proof/Laws/Arrivals.lean ====
section
/-! SUPPORT. What a flit or a message that comes to the hub does before its own effect. -/

namespace Sys2Proof.Machine

theorem messageCommand_taken {s : State} {m : Msg} (hl : s.live = true) (h1 : s.notW1 m) :
    s.messageCommand m = (s.taken m).performBody none m := by
  unfold State.messageCommand State.taken
  rw [if_pos hl]
  cases h : s.inbox.find? fun x => x.msg = m with
  | none => rfl
  | some x =>
    have hm : x.msg = m := by simpa using List.find?_some h
    unfold State.performMsg
    cases hp : x.port with
    | none =>
      simp only [hm, hp, if_true]
    | some c =>
      have := h1 x h c hp
      have hv : ({ s with inbox := s.inbox.erase x } : State).levelOf c ≠ 1 := this
      simp only [hm, hp, hv, if_false, reduceCtorEq]

theorem receiveFlit_good {s : State} {c : Nat} {x : BitVec 256} {f : Flit} (h : s.hears c x f) :
    s.receiveFlit c x false = (s.countedFlit c).goodFlit c f := by
  obtain ⟨hl, -, hp, hg, hd⟩ := h
  unfold State.receiveFlit
  simp only [hp, hl, Bool.not_true, Bool.or_self, Bool.false_eq_true, if_false, hg, Bool.or_false, hd]
  rfl

theorem receiveFlit_next {s : State} {c : Nat} {x : BitVec 256} {f : Flit} (h : s.hears c x f) :
    s.atLink c (fun s => s.receiveFlit c x false) = .next ((s.countedFlit c).goodFlit c f) := by
  unfold State.atLink
  rw [if_pos h.2.1]
  exact congrArg _ (receiveFlit_good h)

theorem addCredit_state (l : Link) (b n : Nat) : (l.addCredit b n).state = l.state := rfl

theorem acked_keeps (l : Link) (a : BitVec 12) : ∃ r n, l.acked a = { l with replay := r, replays := n } := by
  unfold Link.acked
  split
  · exact ⟨_, _, rfl⟩
  · exact ⟨l.replay, l.replays, rfl⟩

/-- What a flit's acknowledgement and credit leave of its link. -/
theorem heard_link (s : State) (c : Nat) (f : Flit) :
    ∃ r n k, (s.heard c f).link c = { s.link c with replay := r, replays := n, credits := k } := by
  unfold State.heard State.takeAck State.modLink
  rw [State.link_setLink_self]
  obtain ⟨r, n, h⟩ := acked_keeps (s.link c) f.aseq
  have e : (s.countedFlit c).link c = s.link c := rfl
  simp only [e]
  rw [h]
  split
  · exact ⟨r, n, _, rfl⟩
  · exact ⟨r, n, (s.link c).credits, rfl⟩

theorem heard_state (s : State) (c : Nat) (f : Flit) : ((s.heard c f).link c).state = (s.link c).state := by
  obtain ⟨r, n, k, h⟩ := heard_link s c f
  rw [h]

/-- A link with nothing to send sends nothing. -/
theorem pump_rest {s : State} {c : Nat} (h : (s.link c).txq = []) :
    (s.pump c).link c = s.link c ∧ (s.pump c).out = s.out ∧ ∀ m, 0x20000000 ||| m = m → (s.pump c).wipe m = s.wipe m := by
  by_cases hc : (s.link c).state = .up ∧ (s.link c).closing = false
  · have e : s.pump c = s.setLink c { s.link c with txq := [] } := by
      unfold State.pump
      simp only []
      rw [if_pos hc, h]
      unfold State.sendQueue State.modLink
      simp only [State.link_setLink_self]
      rw [setLink_setLink]
    rw [e]
    refine ⟨?_, rfl, fun m hm => State.setLink_wipe _ _ _ _ hm⟩
    rw [State.link_setLink_self, ← h]
  · have e : s.pump c = s := by
      unfold State.pump
      simp only []
      rw [if_neg hc]
    rw [e]
    exact ⟨rfl, rfl, fun _ _ => rfl⟩

/-- A link that is not about to renegotiate owes its peer no NEG. -/
theorem drainedNeg_none {s : State} {c : Nat} {l : Link} (h : (s.link c).state ≠ .renegotiating) : s.drainedNeg c l = s := by
  unfold State.drainedNeg
  simp only [h, false_and, if_false]

/-- A good flit of a link that is UP, but a NEG: its acknowledgement and its credit, its own effect, and what the link can
send then. -/
theorem goodFlit_up {s : State} {c : Nat} {f : Flit} (hu : (s.link c).state = .up) (hn : f.ftype ≠ 2) :
    (s.countedFlit c).goodFlit c f =
      (((if f.ftype = 1 then (s.heard c f).ctrlFlit c f.payload
        else if f.ftype = 3 then (s.heard c f).timeFlit c f.payload
        else if 4 ≤ f.ftype.toNat then (s.heard c f).dataFlit c f
        else s.heard c f).drainedNeg c ((s.countedFlit c).link c)).pump c) := by
  unfold State.goodFlit
  have e : ((s.countedFlit c).link c).carries = true := by
    change (s.link c).carries = true
    unfold Link.carries
    simp only [hu, decide_true, Bool.true_or]
  simp only [hn, if_false, e, if_true]
  rfl

/-- An op of an event input that its home finishes leaves nothing but the hub's notes: it has no response (R285). -/
theorem finish_silent {X : State} {o : HomeOp} (h : o.source = srcEvent) (st : Status) (n : Nat) (v : BitVec 64) (m : Nat)
    (hm : 0x2002007000000 ||| m = m) : (X.finish o st n v).wipe m = X.wipe m := by
  unfold State.finish State.conclude State.respond
  simp only [h, decide_true, Bool.or_true, if_true]
  split
  · rw [State.countRefused_wipe _ _ _ _ hm]
    exact State.recordOp_wipe _ _ _ _ _ hm
  · exact State.countRefused_wipe _ _ _ _ hm

theorem signalEvent_silent {X : State} {o : HomeOp} (h : o.source = srcEvent) (hq : X.queue o.index = []) (m : Nat)
    (hm : 0x2002007000000 ||| m = m) : (X.signalEvent o).wipe m =
      (X.setObj o.index (((X.obj o.index).countSig.withSet true).by o)).wipe m := by
  unfold State.signalEvent State.write
  have rw12 : (X.reach12 o).wipe 0x2000004000000 = X.wipe 0x2000004000000 := State.reach12_wipe _ _ _ (by decide)
  have e : ((X.reach12 o).setObj o.index (((X.obj o.index).countSig.withSet true).by o)).queue o.index = [] :=
    (queue_of_waiters (waiters_of_wipe (m := 0x2000004000000) (by decide) rw12) _).trans hq
  simp only [serveCount_empty e]
  rw [finish_silent h _ _ _ _ hm]
  refine wipe_mono hm ?_
  refine wipe_fill_objs (m := 0x2002007000000) ?_ ?_
  · refine (State.setObj_wipe _ _ _ _ (by decide)).trans (Eq.trans ?_ (State.setObj_wipe _ _ _ _ (by decide)).symm)
    exact State.reach12_wipe _ _ _ (by decide)
  · unfold State.setObj
    rw [objs_of_wipe (m := 0x2000004000000) (by decide) rw12]

theorem clearEvent_silent {X : State} {o : HomeOp} (h : o.source = srcEvent) (hl : X.levelHolds o.index = false) (m : Nat)
    (hm : 0x2002007000000 ||| m = m) : (X.clearEvent o).wipe m =
      (X.setObj o.index (((X.obj o.index).withSet false).by o)).wipe m := by
  unfold State.clearEvent State.write
  have rw12 : (X.reach12 o).wipe 0x2000004000000 = X.wipe 0x2000004000000 := State.reach12_wipe _ _ _ (by decide)
  simp only [hl, Bool.false_eq_true, if_false]
  rw [finish_silent h _ _ _ _ hm]
  refine wipe_mono hm ?_
  refine wipe_fill_objs (m := 0x2002007000000) ?_ ?_
  · refine (State.setObj_wipe _ _ _ _ (by decide)).trans (Eq.trans ?_ (State.setObj_wipe _ _ _ _ (by decide)).symm)
    exact State.reach12_wipe _ _ _ (by decide)
  · unfold State.setObj
    rw [objs_of_wipe (m := 0x2000004000000) (by decide) rw12]

/-- An op of an event input at the EVENT that takes it: its own rule, and the input's count. -/
theorem evOp_hits {X : State} {i k : Nat} {c : Opcode} (h : X.inputHits i c k) (hc : c = .sig ∨ c = .set ∨ c = .clr) :
    ∃ hd, handleIndex hd = k ∧ handleHub hd = X.hub ∧ ∀ m, 0x2000004000000 ||| m = m →
      (X.evOp i c).wipe m = (if c = .clr then X.clearEvent (X.evHome i c hd) else X.signalEvent (X.evHome i c hd)).wipe m := by
  obtain ⟨h1, h2, h3, h4, h5, hd, h6, h7, h8, h9⟩ := h
  refine ⟨hd, h8, h7, fun m hm => ?_⟩
  have he : (X.obj k).otype = .event := by
    unfold State.evAccepts at h5
    simp only [Bool.and_eq_true, decide_eq_true_eq] at h5
    exact h5.1.2
  have hf : X.objFaulted k = false ∧ X.isBody k = false := by
    unfold State.evAccepts at h5
    simp only [Bool.and_eq_true, Bool.not_eq_true'] at h5
    exact ⟨h5.1.1.1, h5.1.1.2⟩
  have hi : (X.evHome i c hd).index = k := h8
  have hp : X.performHome (X.evHome i c hd) = X.effect (X.evHome i c hd) c := by
    unfold State.performHome
    simp only [hi, h4, Bool.false_eq_true, if_false, accessObj_clean h3, h9]
    have : opcodeOf (X.evHome i c hd).opcode = some c := opcodeOf_opCode c
    rw [this]
    rcases hc with hc | hc | hc <;> subst hc <;> simp only [State.performOp, hi, hf, he, opApplies, Bool.false_eq_true, if_false, Bool.not_true, Bool.or_self]
  have hev : X.evOp i c = (X.effect (X.evHome i c hd) c).bump (0x2600 + i) 8 := by
    unfold State.evOp
    simp only [h6, h7, h8, h2, Nat.not_le.mpr h1, Bool.false_eq_true, or_self, if_false, ne_eq, not_true_eq_false,
      accessObj_clean h3, h4, h9, h5, Option.isSome_none, Bool.or_self, if_true, hp]
  rw [hev, State.bump_wipe _ _ _ _ _ hm]
  rcases hc with hc | hc | hc <;> subst hc <;> unfold State.effect <;>
    simp only [hi, he, decide_true, if_true, if_false, reduceCtorEq]

end Sys2Proof.Machine
end

