-- ==== Sys2Proof/Laws/CatWrites.lean ====
section
/-! SUPPORT. What a WRITE of a Catalogue entry does around the entry's own effect (R507, R517, R518). -/

namespace Sys2Proof.Machine

theorem apb_writeRefused (s : State) (h h' : CatHdr) (a b : CatAsk) (v w' : Nat) (w : Who) (n : Option Nat) :
    ((s.apbBusy h' b).apbData h' w').writeRefused h a w n v = s.writeRefused h a w n v := by
  unfold State.apbBusy State.apbData
  cases h'.via <;> rfl

theorem apb_catOpen (s : State) (h : CatHdr) (b : CatAsk) (v : Nat) : ((s.apbBusy h b).apbData h v).catOpen = s.catOpen := by
  unfold State.apbBusy State.apbData
  cases h.via <;> rfl

/-- A request that is performed now. -/
theorem catRequest_serves {s : State} {h : CatHdr} {w : Who} (hs : s.serves h w) (i : Instr) (a : CatAsk)
    (run : State → Who → State) : s.catRequest i h a run = run (s.apbBusy h a) w := by
  obtain ⟨h1, h2, h3, h4, h5⟩ := hs
  unfold State.catRequest
  have e1 : ¬ (h.via = .apb ∧ s.apb.busy = true) := by
    rintro ⟨a, b⟩
    rw [h2 a] at b
    cases b
  have e2 : ¬ (h.via ≠ .apb ∧ s.eid = 0) := fun c => h3 c.1 c.2
  simp only [h1, e1, e2, h4, h5, Bool.not_true, Bool.false_eq_true, if_false]

/-- No request in progress has the header of a request that is performed now. -/
theorem serves_new {s : State} {h : CatHdr} {w : Who} (hs : s.serves h w) : ∀ o ∈ s.catOpen, o.hdr ≠ h := by
  intro o ho e
  have := hs.2.2.2.1
  unfold State.mustWait at this
  simp only [Bool.or_eq_false_iff, List.any_eq_false] at this
  exact this.1.1 o ho (by unfold CatOpen.principal; rw [e]; simp)

theorem find_append {h : CatHdr} {index : BitVec 16} {sub : BitVec 8} {l : List CatOpen} (hn : ∀ o ∈ l, o.hdr ≠ h) :
    (l ++ [({ hdr := h, index := index, sub := sub } : CatOpen)]).find? (fun o => o.hdr = h) =
      some { hdr := h, index := index, sub := sub } ∧
    (l ++ [({ hdr := h, index := index, sub := sub } : CatOpen)]).erase { hdr := h, index := index, sub := sub } = l := by
  constructor
  · rw [List.find?_append]
    have : l.find? (fun o => o.hdr = h) = none := by
      rw [List.find?_eq_none]
      intro o ho
      simpa using hn o ho
    rw [this]
    simp
  · have : ({ hdr := h, index := index, sub := sub } : CatOpen) ∉ l := fun c => hn _ c rfl
    rw [List.erase_append_right _ this]
    simp

/-- A WRITE that nothing refuses: its entry's effect, and its answer where the effect gives one. -/
theorem entryCommand_accepts {s : State} {h : CatHdr} {index : BitVec 16} {sub : BitVec 8} {v : Nat} {w : Who}
    (ha : s.accepts h index sub v w) (i : Instr) {x : State} {o : Option CatStatus}
    (hw : (s.opened h index sub v).writeEntry h w index.toNat sub.toNat
      (entryPart (askRow (writeAsk index sub)) h.partition) ((askRow (writeAsk index sub)).stored v) = (x, o)) :
    s.entryCommand i h index sub v = o.elim x (fun st => x.catFinish h st) := by
  have hr := ha.2
  unfold writeAsk at hr
  have ho : ({ (s.apbBusy h (writeAsk index sub)).apbData h v with
      catOpen := ((s.apbBusy h (writeAsk index sub)).apbData h v).catOpen ++ [{ hdr := h, index := index, sub := sub }] } : State)
      = s.opened h index sub v := by
    rw [apb_catOpen]
    rfl
  unfold writeAsk at ho hw
  unfold State.entryCommand
  rw [catRequest_serves ha.1]
  unfold State.runWrite
  simp only [apb_writeRefused, hr, ho, hw]
  cases o <;> rfl

/-- The answer of a WRITE in progress whose effect has left the requests in progress as they were. -/
theorem catFinish_opened {s : State} {h : CatHdr} {index : BitVec 16} {sub : BitVec 8} {v : Nat} {w : Who}
    (hs : s.serves h w) {x : State} (hx : x.catOpen = (s.opened h index sub v).catOpen) (st : CatStatus) :
    x.catFinish h st = s.answered h index sub st x := by
  unfold State.catFinish State.answered
  have k := find_append (index := index) (sub := sub) (serves_new hs)
  have e : (s.opened h index sub v).catOpen = s.catOpen ++ [{ hdr := h, index := index, sub := sub }] := rfl
  rw [hx, e, k.1]
  simp only [k.2]

/-- A WRITE that is answered at once. -/
theorem entryCommand_writes {s : State} {h : CatHdr} {index : BitVec 16} {sub : BitVec 8} {v : Nat} {w : Who}
    (ha : s.accepts h index sub v w) (i : Instr) {x : State} {st : CatStatus}
    (hw : (s.opened h index sub v).writeEntry h w index.toNat sub.toNat
      (entryPart (askRow (writeAsk index sub)) h.partition) ((askRow (writeAsk index sub)).stored v) = (x, some st))
    (hx : x.catOpen = (s.opened h index sub v).catOpen) :
    s.entryCommand i h index sub v = s.answered h index sub st x := by
  rw [entryCommand_accepts ha i hw]
  exact catFinish_opened ha.1 hx st

/-- A WRITE that is answered at once, by what it does to the hub while it is in progress. -/
theorem entryCommand_answers {s u : State} {h : CatHdr} {index : BitVec 16} {sub : BitVec 8} {v : Nat} {w : Who}
    (ha : s.writing u h index sub v w) (i : Instr) {x : State} {st : CatStatus} {p n : Nat}
    (hp : entryPart (askRow (writeAsk index sub)) h.partition = p) (hn : (askRow (writeAsk index sub)).stored v = n)
    (hw : u.writeEntry h w index.toNat sub.toNat p n = (x, some st)) (hx : x.catOpen = u.catOpen) :
    s.entryCommand i h index sub v = s.answered h index sub st x := by
  obtain ⟨ha, hu⟩ := ha
  subst hu; subst hp; subst hn
  exact entryCommand_writes ha i hw hx

/-- A WRITE that an event is still to complete (R518). -/
theorem entryCommand_opens {s u : State} {h : CatHdr} {index : BitVec 16} {sub : BitVec 8} {v : Nat} {w : Who}
    (ha : s.writing u h index sub v w) (i : Instr) {x : State} {p n : Nat}
    (hp : entryPart (askRow (writeAsk index sub)) h.partition = p) (hn : (askRow (writeAsk index sub)).stored v = n)
    (hw : u.writeEntry h w index.toNat sub.toNat p n = (x, none)) : s.entryCommand i h index sub v = x := by
  obtain ⟨ha, hu⟩ := ha
  subst hu; subst hp; subst hn
  exact entryCommand_accepts ha i hw

/-- A WRITE that its own effect answers. -/
theorem finish_answers {s u : State} {h : CatHdr} {index : BitVec 16} {sub : BitVec 8} {v : Nat} {w : Who}
    (ha : s.writing u h index sub v w) {x : State} (hx : x.catOpen = u.catOpen) (st : CatStatus) :
    x.catFinish h st = s.answered h index sub st x := by
  obtain ⟨ha, hu⟩ := ha
  subst hu
  exact catFinish_opened ha.1 hx st

/-! ### The rows of the entries -/

theorem askPart {a : CatAsk} (h : (askRow a).scope = .partition) (p : BitVec 4) : entryPart (askRow a) p = p.toNat := by
  unfold entryPart
  rw [if_pos h]

theorem askWhole {a : CatAsk} (h : (askRow a).scope ≠ .partition) (p : BitVec 4) : entryPart (askRow a) p = 0 := by
  unfold entryPart
  rw [if_neg h]

/-- A value of an entry without reserved bits is stored as it is (R507). -/
theorem stored_all {a : CatAsk} {n v : Nat} (hb : (askRow a).ty.bytes = n) (hm : (askRow a).mask = 2 ^ 128 - 1)
    (hv : v < 2 ^ (8 * n)) (hn : n ≤ 16) : (askRow a).stored v = v := by
  unfold CatRow.stored
  rw [hb, hm, Nat.mod_eq_of_lt hv, Nat.and_two_pow_sub_one_eq_mod]
  exact Nat.mod_eq_of_lt (Nat.lt_of_lt_of_le hv (Nat.pow_le_pow_right (by omega) (by omega)))

/-- A value of an entry with reserved bits is stored without them (R507). -/
theorem stored_mask {a : CatAsk} {n v m : Nat} (hb : (askRow a).ty.bytes = n) (hm : (askRow a).mask = m)
    (hv : v < 2 ^ (8 * n)) : (askRow a).stored v = v &&& m := by
  unfold CatRow.stored
  rw [hb, hm, Nat.mod_eq_of_lt hv]

/-! ### Requests as commands -/

theorem entry_request (s : State) (i : Instr) (h : CatHdr) (index : BitVec 16) (sub : BitVec 8) (v : Nat) :
    ∃ run, s.entryCommand i h index sub v = s.catRequest i h (writeAsk index sub) run :=
  ⟨fun s w => (s.apbData h v).runWrite h (writeAsk index sub) none v w, rfl⟩

/-- Every request takes its turn in one way. -/
theorem exec_request {i : Instr} {h : CatHdr} {a : CatAsk} (hi : requestOf i = some (h, a)) (s : State) :
    ∃ run, exec i s = .next (s.catRequest i h a run) := by
  cases i <;> unfold requestOf at hi <;> try cases hi
  case consumerIndexWrite via r v =>
    cases via <;> cases hi
    exact (entry_request _ _ _ _ _ _).imp fun _ e => congrArg Host.Outcome.next e
  case identify => exact ⟨fun s w => s.runIdentify h { command := cmdIdentify, index := 0, sub := 0 } w, rfl⟩
  case describe index sub =>
    exact ⟨fun s w => s.runDescribe h { command := cmdDescribe, index := index, sub := sub } w, rfl⟩
  case catRead index sub => exact ⟨fun s w => s.runRead h { command := cmdRead, index := index, sub := sub } w, rfl⟩
  case catWrite index sub bytes v =>
    exact ⟨fun s w => (s.apbData h v.toNat).runWrite h (writeAsk index sub) (if h.via = .apb then none else some bytes)
      v.toNat w, rfl⟩
  case readSeg index sub offset length g =>
    exact ⟨fun s w =>
      State.runReadSeg
        (if h.via = .apb then { s with apb := { s.apb with
            offset := offset
            len := BitVec.ofNat 32 (if h.via = .apb then length.toNat % 2 ^ 11 else length.toNat) } } else s)
        h { command := cmdReadSeg, index := index, sub := sub } offset.toNat
        (if h.via = .apb then length.toNat % 2 ^ 11 else length.toNat) g w, rfl⟩
  case nextEntry index sub => exact ⟨fun s w => s.runNext h { command := cmdNext, index := index, sub := sub } w, rfl⟩
  case catMalformedRequest c y => exact ⟨fun s _ => s.catStatus h { command := c, index := 0, sub := 0 } .malformed, rfl⟩
  all_goals exact (entry_request _ _ _ _ _ _).imp fun _ e => congrArg Host.Outcome.next e

end Sys2Proof.Machine
end

