-- ==== Sys2Proof/Laws/Codec.lean ====
section
/-! SUPPORT. Messages, NEG payloads and flits are read back from their bits. -/

set_option linter.all false
namespace Sys2Proof

theorem getFld_append_hi {m n : Nat} (x : BitVec m) (y : BitVec n) {lsb w : Nat} (h : n ≤ lsb) :
    getFld (x ++ y) lsb w = (getFld x (lsb - n) w : BitVec w) := by
  unfold getFld
  apply BitVec.eq_of_getLsbD_eq
  intro i hi
  simp only [BitVec.getLsbD_extractLsb', BitVec.getLsbD_append]
  rw [if_neg (by omega)]
  congr 2
  omega

theorem getFld_append_lo {m n : Nat} (x : BitVec m) (y : BitVec n) {lsb w : Nat} (h : lsb + w ≤ n) :
    getFld (x ++ y) lsb w = (getFld y lsb w : BitVec w) := by
  unfold getFld
  apply BitVec.eq_of_getLsbD_eq
  intro i hi
  simp only [BitVec.getLsbD_extractLsb', BitVec.getLsbD_append]
  rw [if_pos (by omega)]

theorem getFld_all {w : Nat} (x : BitVec w) : getFld x 0 w = x := by
  unfold getFld
  apply BitVec.eq_of_getLsbD_eq
  intro i hi
  simp [BitVec.getLsbD_extractLsb', hi]

theorem getFld_zero {n lsb w : Nat} : (getFld (0 : BitVec n) lsb w : BitVec w) = 0 := by
  unfold getFld
  apply BitVec.eq_of_getLsbD_eq
  intro i hi
  simp [BitVec.getLsbD_extractLsb']

theorem getLsbD_append_hi {m n : Nat} (x : BitVec m) (y : BitVec n) {i : Nat} (h : n ≤ i) :
    (x ++ y).getLsbD i = x.getLsbD (i - n) := by
  rw [BitVec.getLsbD_append, if_neg (by omega)]

theorem getLsbD_append_lo {m n : Nat} (x : BitVec m) (y : BitVec n) {i : Nat} (h : i < n) :
    (x ++ y).getLsbD i = y.getLsbD i := by
  rw [BitVec.getLsbD_append, if_pos h]

theorem getLsbD_bit1 (b : Bool) : (bit1 b).getLsbD 0 = b := by cases b <;> rfl

theorem getFld_bit1 (b : Bool) : (getFld (bit1 b) 0 1 : BitVec 1) = bit1 b := getFld_all _


theorem decodePartial_encode (r : PartialArrival) : decodePartial (encodePartial r) = r := by
  cases r
  unfold decodePartial encodePartial
  simp only [PartialArrival.mk.injEq]
  refine ⟨?_, ?_, ?_, ?_, ?_, ?_, ?_, ?_, ?_, ?_, ?_⟩ <;>
    repeat (first
      | refine (getFld_append_lo _ _ (by omega)).trans ?_
      | refine (getFld_append_hi _ _ (by omega)).trans ?_
      | refine (getLsbD_append_lo _ _ (by omega)).trans ?_
      | refine (getLsbD_append_hi _ _ (by omega)).trans ?_
      | (simp only [Nat.reduceAdd, Nat.reduceSub]; first | exact getFld_all _ | exact getLsbD_bit1 _)
      | exact getFld_all _
      | exact getLsbD_bit1 _)

theorem decodeLoan_encode (k : LoanKind) (r : LoanBody) : decodeLoan (encodeLoan k r) = r := by
  cases r
  unfold decodeLoan encodeLoan
  simp only [LoanBody.mk.injEq]
  refine ⟨?_, ?_, ?_, ?_, ?_, ?_, ?_, ?_, ?_, ?_, ?_⟩ <;>
    repeat (first
      | refine (getFld_append_lo _ _ (by omega)).trans ?_
      | refine (getFld_append_hi _ _ (by omega)).trans ?_
      | refine (getLsbD_append_lo _ _ (by omega)).trans ?_
      | refine (getLsbD_append_hi _ _ (by omega)).trans ?_
      | (simp only [Nat.reduceAdd, Nat.reduceSub]; first | exact getFld_all _ | exact getLsbD_bit1 _)
      | exact getFld_all _
      | exact getLsbD_bit1 _)

theorem decodeHolder_encode (r : HolderResetBody) : decodeHolder (encodeHolder r) = r := by
  cases r
  unfold decodeHolder encodeHolder
  simp only [HolderResetBody.mk.injEq]
  refine ⟨?_, ?_, ?_, ?_, ?_⟩ <;>
    repeat (first
      | refine (getFld_append_lo _ _ (by omega)).trans ?_
      | refine (getFld_append_hi _ _ (by omega)).trans ?_
      | refine (getLsbD_append_lo _ _ (by omega)).trans ?_
      | refine (getLsbD_append_hi _ _ (by omega)).trans ?_
      | (simp only [Nat.reduceAdd, Nat.reduceSub]; first | exact getFld_all _ | exact getLsbD_bit1 _)
      | exact getFld_all _
      | exact getLsbD_bit1 _)

theorem decodePurge_encode (r : WaiterPurgeBody) : decodePurge (encodePurge r) = r := by
  cases r
  unfold decodePurge encodePurge
  simp only [WaiterPurgeBody.mk.injEq]
  refine ⟨?_, ?_, ?_, ?_, ?_⟩ <;>
    repeat (first
      | refine (getFld_append_lo _ _ (by omega)).trans ?_
      | refine (getFld_append_hi _ _ (by omega)).trans ?_
      | refine (getLsbD_append_lo _ _ (by omega)).trans ?_
      | refine (getLsbD_append_hi _ _ (by omega)).trans ?_
      | (simp only [Nat.reduceAdd, Nat.reduceSub]; first | exact getFld_all _ | exact getLsbD_bit1 _)
      | exact getFld_all _
      | exact getLsbD_bit1 _)

theorem decodeFence_encode (r : FenceBody) : decodeFence (encodeFence r) = r := by
  cases r
  unfold decodeFence encodeFence
  simp only [FenceBody.mk.injEq]
  refine ⟨?_, ?_⟩ <;>
    repeat (first
      | refine (getFld_append_lo _ _ (by omega)).trans ?_
      | refine (getFld_append_hi _ _ (by omega)).trans ?_
      | refine (getLsbD_append_lo _ _ (by omega)).trans ?_
      | refine (getLsbD_append_hi _ _ (by omega)).trans ?_
      | (simp only [Nat.reduceAdd, Nat.reduceSub]; first | exact getFld_all _ | exact getLsbD_bit1 _)
      | exact getFld_all _
      | exact getLsbD_bit1 _)

theorem decodeHold_encode (k : HoldKind) (r : HoldBody) : decodeHold (encodeHold k r) = r := by
  cases r
  unfold decodeHold encodeHold
  simp only [HoldBody.mk.injEq]
  refine ⟨?_, ?_⟩ <;>
    repeat (first
      | refine (getFld_append_lo _ _ (by omega)).trans ?_
      | refine (getFld_append_hi _ _ (by omega)).trans ?_
      | refine (getLsbD_append_lo _ _ (by omega)).trans ?_
      | refine (getLsbD_append_hi _ _ (by omega)).trans ?_
      | (simp only [Nat.reduceAdd, Nat.reduceSub]; first | exact getFld_all _ | exact getLsbD_bit1 _)
      | exact getFld_all _
      | exact getLsbD_bit1 _)

theorem decodeStock_encode (k : StockKind) (r : StockBody) : decodeStock (encodeStock k r) = r := by
  cases r
  unfold decodeStock encodeStock
  simp only [StockBody.mk.injEq]
  refine ⟨?_, ?_, ?_, ?_, ?_, ?_, ?_, ?_, ?_, ?_⟩ <;>
    repeat (first
      | refine (getFld_append_lo _ _ (by omega)).trans ?_
      | refine (getFld_append_hi _ _ (by omega)).trans ?_
      | refine (getLsbD_append_lo _ _ (by omega)).trans ?_
      | refine (getLsbD_append_hi _ _ (by omega)).trans ?_
      | (simp only [Nat.reduceAdd, Nat.reduceSub]; first | exact getFld_all _ | exact getLsbD_bit1 _)
      | exact getFld_all _
      | exact getLsbD_bit1 _)

theorem decodeShelf_encode (k : ShelfKind) (r : ShelfBody) : decodeShelf (encodeShelf k r) = r := by
  cases r
  unfold decodeShelf encodeShelf
  simp only [ShelfBody.mk.injEq]
  refine ⟨?_, ?_, ?_, ?_, ?_, ?_, ?_⟩ <;>
    repeat (first
      | refine (getFld_append_lo _ _ (by omega)).trans ?_
      | refine (getFld_append_hi _ _ (by omega)).trans ?_
      | refine (getLsbD_append_lo _ _ (by omega)).trans ?_
      | refine (getLsbD_append_hi _ _ (by omega)).trans ?_
      | (simp only [Nat.reduceAdd, Nat.reduceSub]; first | exact getFld_all _ | exact getLsbD_bit1 _)
      | exact getFld_all _
      | exact getLsbD_bit1 _)

theorem decodePartCtl_encode (k : PartCtlKind) (r : PartCtlBody) : decodePartCtl (encodePartCtl k r) = r := by
  cases r
  unfold decodePartCtl encodePartCtl
  simp only [PartCtlBody.mk.injEq]
  refine ⟨?_, ?_, ?_, ?_, ?_, ?_, ?_, ?_⟩ <;>
    repeat (first
      | refine (getFld_append_lo _ _ (by omega)).trans ?_
      | refine (getFld_append_hi _ _ (by omega)).trans ?_
      | refine (getLsbD_append_lo _ _ (by omega)).trans ?_
      | refine (getLsbD_append_hi _ _ (by omega)).trans ?_
      | (simp only [Nat.reduceAdd, Nat.reduceSub]; first | exact getFld_all _ | exact getLsbD_bit1 _)
      | exact getFld_all _
      | exact getLsbD_bit1 _)


theorem ofBits_bits (f : OpFlags) : OpFlags.ofBits f.bits = f := by
  obtain ⟨a, b, c, d, e, g⟩ := f
  cases a <;> cases b <;> cases c <;> cases d <;> cases e <;> cases g <;> rfl

theorem opFieldsOf_opWord (opcode : BitVec 6) (o : OpFields) : opFieldsOf (opWord opcode o) o.opb = o := by
  cases o
  unfold opFieldsOf opWord
  simp only [OpFields.mk.injEq]
  refine ⟨(congrArg OpFlags.ofBits ?_).trans (ofBits_bits _), ?_, ?_, ?_, ?_, trivial⟩ <;>
    repeat (first
      | refine (getFld_append_lo _ _ (by omega)).trans ?_
      | refine (getFld_append_hi _ _ (by omega)).trans ?_
      | refine (getLsbD_append_lo _ _ (by omega)).trans ?_
      | refine (getLsbD_append_hi _ _ (by omega)).trans ?_
      | (simp only [Nat.reduceAdd, Nat.reduceSub]; first | exact getFld_all _ | exact getLsbD_bit1 _)
      | exact getFld_all _
      | exact getLsbD_bit1 _)

theorem opWord_opcode (opcode : BitVec 6) (o : OpFields) : (getFld (opWord opcode o) 122 6 : BitVec 6) = opcode := by
  unfold opWord
  repeat (first
      | refine (getFld_append_lo _ _ (by omega)).trans ?_
      | refine (getFld_append_hi _ _ (by omega)).trans ?_
      | refine (getLsbD_append_lo _ _ (by omega)).trans ?_
      | refine (getLsbD_append_hi _ _ (by omega)).trans ?_
      | (simp only [Nat.reduceAdd, Nat.reduceSub]; first | exact getFld_all _ | exact getLsbD_bit1 _)
      | exact getFld_all _
      | exact getLsbD_bit1 _)

theorem encodeOp_low (b : OpBody) : (getFld (encodeOp b) 0 128 : BitVec 128) = opWord b.opcode b.op ∧
    (getFld (encodeOp b) 128 64 : BitVec 64) = b.op.opb ∧ (getFld (encodeOp b) 122 6 : BitVec 6) = b.opcode := by
  unfold encodeOp
  refine ⟨?_, ?_, ?_⟩
  rotate_left 2
  · repeat (refine (getFld_append_lo _ _ (by omega)).trans ?_)
    exact opWord_opcode _ _
  all_goals
    repeat (first
      | refine (getFld_append_lo _ _ (by omega)).trans ?_
      | refine (getFld_append_hi _ _ (by omega)).trans ?_
      | refine (getLsbD_append_lo _ _ (by omega)).trans ?_
      | refine (getLsbD_append_hi _ _ (by omega)).trans ?_
      | (simp only [Nat.reduceAdd, Nat.reduceSub]; first | exact getFld_all _ | exact getLsbD_bit1 _)
      | exact getFld_all _
      | exact getLsbD_bit1 _)

theorem decodeOp_encode (b : OpBody) : decodeOp (encodeOp b) = b := by
  obtain ⟨h1, h2, h3⟩ := encodeOp_low b
  unfold decodeOp
  rw [h1, h2, h3, opFieldsOf_opWord]
  obtain ⟨opcode, op, carry⟩ := b
  cases carry
  unfold encodeOp
  simp only [OpBody.mk.injEq, OpCarry.mk.injEq, true_and]
  refine ⟨?_, ?_, ?_, ?_, ?_, ?_, ?_, ?_, ?_, ?_, ?_⟩ <;>
    repeat (first
      | refine (getFld_append_lo _ _ (by omega)).trans ?_
      | refine (getFld_append_hi _ _ (by omega)).trans ?_
      | refine (getLsbD_append_lo _ _ (by omega)).trans ?_
      | refine (getLsbD_append_hi _ _ (by omega)).trans ?_
      | (simp only [Nat.reduceAdd, Nat.reduceSub]; first | exact getFld_all _ | exact getLsbD_bit1 _)
      | exact getFld_all _
      | exact getLsbD_bit1 _)

theorem decodeCpl_encode (b : CplBody) : decodeCpl b.value.isSome (encodeCpl b) = b := by
  obtain ⟨a1, a2, a3, a4, a5, v⟩ := b
  unfold decodeCpl encodeCpl
  simp only [CplBody.mk.injEq]
  refine ⟨?_, ?_, ?_, ?_, ?_, ?_⟩
  rotate_left 5
  · cases v with
    | none => rfl
    | some v =>
      show (some _ : Option (BitVec 64)) = some v
      congr 1
      repeat (first
        | refine (getFld_append_lo _ _ (by omega)).trans ?_
        | refine (getFld_append_hi _ _ (by omega)).trans ?_
        | refine (getLsbD_append_lo _ _ (by omega)).trans ?_
        | refine (getLsbD_append_hi _ _ (by omega)).trans ?_
        | (simp only [Nat.reduceAdd, Nat.reduceSub]; first | exact getFld_all _ | exact getLsbD_bit1 _)
        | exact getFld_all _
        | exact getLsbD_bit1 _)
  all_goals
    repeat (first
      | refine (getFld_append_lo _ _ (by omega)).trans ?_
      | refine (getFld_append_hi _ _ (by omega)).trans ?_
      | refine (getLsbD_append_lo _ _ (by omega)).trans ?_
      | refine (getLsbD_append_hi _ _ (by omega)).trans ?_
      | (simp only [Nat.reduceAdd, Nat.reduceSub]; first | exact getFld_all _ | exact getLsbD_bit1 _)
      | exact getFld_all _
      | exact getLsbD_bit1 _)

theorem decodeFwd_encode (b : FwdBody) : decodeFwd (encodeFwd b) = b := by
  obtain ⟨r, a2, a3, a4, a5⟩ := b
  unfold decodeFwd encodeFwd
  simp only [FwdBody.mk.injEq]
  refine ⟨(congrArg decodePartial ?_).trans (decodePartial_encode r), ?_, ?_, ?_, ?_⟩ <;>
    repeat (first
      | refine (getFld_append_lo _ _ (by omega)).trans ?_
      | refine (getFld_append_hi _ _ (by omega)).trans ?_
      | refine (getLsbD_append_lo _ _ (by omega)).trans ?_
      | refine (getLsbD_append_hi _ _ (by omega)).trans ?_
      | (simp only [Nat.reduceAdd, Nat.reduceSub]; first | exact getFld_all _ | exact getLsbD_bit1 _)
      | exact getFld_all _
      | exact getLsbD_bit1 _)

theorem decodeHdr_encode (h : MsgHdr) (k : BitVec 6) {n : Nat} (h1 : 1 ≤ n) (h4 : n ≤ 4) :
    decodeHdr (encodeHdr h k n) = (h, k, n) := by
  obtain ⟨a1, a2, a3, a4⟩ := h
  have e : (getFld (encodeHdr { dst := a1, src := a2, hops := a3, partition := a4 } k n) 10 2 : BitVec 2) = BitVec.ofNat 2 (n - 1) := by
    unfold encodeHdr
    repeat (first
      | refine (getFld_append_lo _ _ (by omega)).trans ?_
      | refine (getFld_append_hi _ _ (by omega)).trans ?_
      | refine (getLsbD_append_lo _ _ (by omega)).trans ?_
      | refine (getLsbD_append_hi _ _ (by omega)).trans ?_
      | (simp only [Nat.reduceAdd, Nat.reduceSub]; first | exact getFld_all _ | exact getLsbD_bit1 _)
      | exact getFld_all _
      | exact getLsbD_bit1 _)
  unfold decodeHdr
  rw [e]
  unfold encodeHdr
  simp only [Prod.mk.injEq, MsgHdr.mk.injEq]
  refine ⟨⟨?_, ?_, ?_, ?_⟩, ?_, ?_⟩
  rotate_left 5
  · rw [BitVec.toNat_ofNat]
    omega
  all_goals
    repeat (first
      | refine (getFld_append_lo _ _ (by omega)).trans ?_
      | refine (getFld_append_hi _ _ (by omega)).trans ?_
      | refine (getLsbD_append_lo _ _ (by omega)).trans ?_
      | refine (getLsbD_append_hi _ _ (by omega)).trans ?_
      | (simp only [Nat.reduceAdd, Nat.reduceSub]; first | exact getFld_all _ | exact getLsbD_bit1 _)
      | exact getFld_all _
      | exact getLsbD_bit1 _)

/-- A body whose high bits are zero is put together again from the payloads of its flits (R347). -/
theorem join_payloads (m : Msg)
    (h : (m.body.flits = 1 ∧ (getFld m.body.encode 144 576 : BitVec 576) = 0) ∨
      (m.body.flits = 2 ∧ (getFld m.body.encode 336 384 : BitVec 384) = 0) ∨ m.body.flits = 4) :
    joinPayloads (flitPayloads m) = m.body.encode := by
  have p0 : (getFld (flitPayload m 0) 0 144 : BitVec 144) = getFld m.body.encode 0 144 := by
    unfold flitPayload
    rw [if_pos rfl]
    refine (getFld_append_lo _ _ (by omega)).trans ?_
    exact getFld_all _
  have pk : ∀ k, k ≠ 0 → flitPayload m k = getFld m.body.encode (144 + 192 * (k - 1)) 192 := fun k hk => by
    unfold flitPayload
    rw [if_neg hk]
  have bits : ∀ {n lsb w : Nat} {x : BitVec n}, (getFld x lsb w : BitVec w) = 0 → ∀ i, lsb ≤ i → i < lsb + w → x.getLsbD i = false := by
    intro n lsb w x hx i h1 h2
    have := congrArg (fun y => y.getLsbD (i - lsb)) hx
    simp only [BitVec.getLsbD_extractLsb', BitVec.getLsbD_zero] at this
    rw [show lsb + (i - lsb) = i by omega] at this
    simpa [show i - lsb < w by omega] using this
  generalize hb : m.body.encode = b at *
  unfold joinPayloads flitPayloads
  rcases h with ⟨h, hz⟩ | ⟨h, hz⟩ | h
  · rw [h]
    show (0 : BitVec 192) ++ (0 : BitVec 192) ++ (0 : BitVec 192) ++ getFld (flitPayload m 0) 0 144 = b
    rw [p0]
    apply BitVec.eq_of_getLsbD_eq
    intro i hi
    have hz' := bits hz
    simp only [BitVec.getLsbD_append, BitVec.getLsbD_zero, BitVec.getLsbD_extractLsb', Nat.zero_add]
    by_cases c : i < 144
    · simp [c]
    · rw [hz' i (by omega) (by omega)]
      simp [c]
  · rw [h]
    show (0 : BitVec 192) ++ (0 : BitVec 192) ++ flitPayload m 1 ++ getFld (flitPayload m 0) 0 144 = b
    rw [p0, pk 1 (by decide)]
    apply BitVec.eq_of_getLsbD_eq
    intro i hi
    have hz' := bits hz
    simp only [BitVec.getLsbD_append, BitVec.getLsbD_zero, BitVec.getLsbD_extractLsb', Nat.zero_add]
    by_cases c : i < 144
    · simp [c]
    · by_cases d : i - 144 < 192
      · simp only [c, d, if_false, if_true, decide_true, Bool.true_and]
        exact congrArg b.getLsbD (by omega)
      · rw [hz' i (by omega) (by omega)]
        simp [c, d]
  · rw [h]
    show flitPayload m 3 ++ flitPayload m 2 ++ flitPayload m 1 ++ getFld (flitPayload m 0) 0 144 = b
    rw [p0, pk 1 (by decide), pk 2 (by decide), pk 3 (by decide)]
    apply BitVec.eq_of_getLsbD_eq
    intro i hi
    simp only [BitVec.getLsbD_append, BitVec.getLsbD_extractLsb', Nat.zero_add]
    by_cases c : i < 144
    · simp [c]
    · by_cases d : i - 144 < 192
      · simp only [c, d, if_false, if_true, decide_true, Bool.true_and]
        exact congrArg b.getLsbD (by omega)
      · by_cases e : i - 144 - 192 < 192
        · simp only [c, d, e, if_false, if_true, decide_true, Bool.true_and]
          exact congrArg b.getLsbD (by omega)
        · have f : i - 144 - 192 - 192 < 192 := by omega
          simp only [c, d, e, f, if_false, if_true, decide_true, Bool.true_and]
          exact congrArg b.getLsbD (by omega)

theorem highStock (k : StockKind) (b : StockBody) (h0 : b.sent = 0) (h1 : b.recv = 0) (h2 : b.act = 0) :
    (getFld (encodeStock k b) 144 576 : BitVec 576) = 0 := by
  unfold encodeStock
  rw [h0, h1, h2]
  rw [show (0 : BitVec 384) ++ (0 : BitVec 64) ++ (0 : BitVec 64) ++ (0 : BitVec 64) = (0 : BitVec 576) by decide]
  repeat (first
    | with_reducible refine (getFld_append_hi _ _ (by omega)).trans ?_
    | with_reducible exact getFld_zero)

theorem highPartCtl (k : PartCtlKind) (b : PartCtlBody) (h0 : b.context = 0) (h1 : b.startTime = 0) :
    (getFld (encodePartCtl k b) 144 576 : BitVec 576) = 0 := by
  unfold encodePartCtl
  rw [h0, h1]
  rw [show (0 : BitVec 448) ++ (0 : BitVec 64) ++ (0 : Time) = (0 : BitVec 576) by decide]
  repeat (first
    | with_reducible refine (getFld_append_hi _ _ (by omega)).trans ?_
    | with_reducible exact getFld_zero)

theorem highStock2 (k : StockKind) (b : StockBody) : (getFld (encodeStock k b) 336 384 : BitVec 384) = 0 := by
  unfold encodeStock
  repeat (first
    | with_reducible refine (getFld_append_hi _ _ (by omega)).trans ?_
    | with_reducible exact getFld_zero)

theorem highPartCtl2 (k : PartCtlKind) (b : PartCtlBody) : (getFld (encodePartCtl k b) 336 384 : BitVec 384) = 0 := by
  unfold encodePartCtl
  repeat (first
    | with_reducible refine (getFld_append_hi _ _ (by omega)).trans ?_
    | with_reducible exact getFld_zero)

theorem zero_append (m n : Nat) : (0 : BitVec m) ++ (0 : BitVec n) = (0 : BitVec (m + n)) := by
  apply BitVec.eq_of_getLsbD_eq
  intro i hi
  simp [BitVec.getLsbD_append]

/-- The bits of a body that its flits do not carry are zero (R346 to R351). -/
theorem high_zero (p : Payload) (h : p.onlySent) :
    (p.flits = 1 ∧ (getFld p.encode 144 576 : BitVec 576) = 0) ∨
      (p.flits = 2 ∧ (getFld p.encode 336 384 : BitVec 384) = 0) ∨ p.flits = 4 := by
  cases p with
  | op b =>
    refine .inr (.inl ⟨rfl, ?_⟩)
    show getFld (encodeOp b) 336 384 = (0 : BitVec 384)
    unfold encodeOp
    repeat (first
      | with_reducible refine (getFld_append_hi _ _ (by omega)).trans ?_
      | with_reducible exact getFld_zero)
  | cpl b =>
    obtain ⟨a1, a2, a3, a4, a5, v⟩ := b
    cases v with
    | none =>
      refine .inl ⟨rfl, ?_⟩
      show getFld ((0 : BitVec 512) ++ (0 : BitVec 64) ++ (0 : BitVec 26) ++ a5 ++ a4 ++ a3 ++ a2 ++ a1) 144 576 = (0 : BitVec 576)
      rw [zero_append 512 64]
      repeat (first
        | with_reducible refine (getFld_append_hi _ _ (by omega)).trans ?_
        | with_reducible exact getFld_zero)
    | some v =>
      refine .inr (.inl ⟨rfl, ?_⟩)
      show getFld (encodeCpl _) 336 384 = (0 : BitVec 384)
      unfold encodeCpl
      repeat (first
        | with_reducible refine (getFld_append_hi _ _ (by omega)).trans ?_
        | with_reducible exact getFld_zero)
  | fwdArrv b => exact .inr (.inr rfl)
  | loan k b =>
    refine .inr (.inl ⟨rfl, ?_⟩)
    show getFld (encodeLoan k b) 336 384 = (0 : BitVec 384)
    unfold encodeLoan
    repeat (first
      | with_reducible refine (getFld_append_hi _ _ (by omega)).trans ?_
      | with_reducible exact getFld_zero)
  | holderReset b =>
    refine .inl ⟨rfl, ?_⟩
    show getFld (encodeHolder b) 144 576 = (0 : BitVec 576)
    unfold encodeHolder
    repeat (first
      | with_reducible refine (getFld_append_hi _ _ (by omega)).trans ?_
      | with_reducible exact getFld_zero)
  | waiterPurge b =>
    refine .inl ⟨rfl, ?_⟩
    show getFld (encodePurge b) 144 576 = (0 : BitVec 576)
    unfold encodePurge
    repeat (first
      | with_reducible refine (getFld_append_hi _ _ (by omega)).trans ?_
      | with_reducible exact getFld_zero)
  | routeFence b =>
    refine .inl ⟨rfl, ?_⟩
    show getFld (encodeFence b) 144 576 = (0 : BitVec 576)
    unfold encodeFence
    repeat (first
      | with_reducible refine (getFld_append_hi _ _ (by omega)).trans ?_
      | with_reducible exact getFld_zero)
  | fenceAck b =>
    refine .inl ⟨rfl, ?_⟩
    show getFld (encodeFence b) 144 576 = (0 : BitVec 576)
    unfold encodeFence
    repeat (first
      | with_reducible refine (getFld_append_hi _ _ (by omega)).trans ?_
      | with_reducible exact getFld_zero)
  | holdCtl k b =>
    refine .inl ⟨rfl, ?_⟩
    show getFld (encodeHold k b) 144 576 = (0 : BitVec 576)
    unfold encodeHold
    repeat (first
      | with_reducible refine (getFld_append_hi _ _ (by omega)).trans ?_
      | with_reducible exact getFld_zero)
  | stocktake k b =>
    cases k with
    | report => exact .inr (.inl ⟨rfl, highStock2 _ b⟩)
    | query => exact .inl ⟨rfl, highStock _ b h.1 h.2.1 h.2.2⟩
    | declare => exact .inl ⟨rfl, highStock _ b h.1 h.2.1 h.2.2⟩
  | shelf k b =>
    refine .inl ⟨rfl, ?_⟩
    show getFld (encodeShelf k b) 144 576 = (0 : BitVec 576)
    unfold encodeShelf
    repeat (first
      | with_reducible refine (getFld_append_hi _ _ (by omega)).trans ?_
      | with_reducible exact getFld_zero)
  | partCtl k b =>
    cases k with
    | resetReq => exact .inr (.inl ⟨rfl, highPartCtl2 _ b⟩)
    | ctxReq => exact .inr (.inl ⟨rfl, highPartCtl2 _ b⟩)
    | resetDone => exact .inl ⟨rfl, highPartCtl _ b h.1 h.2⟩
    | ctxDone => exact .inl ⟨rfl, highPartCtl _ b h.1 h.2⟩
    | faultNotice => exact .inl ⟨rfl, highPartCtl _ b h.1 h.2⟩


/-- The codes of the kinds are read back. -/
theorem loan_code (k : LoanKind) (b : LoanBody) : loanKindOf (getFld (encodeLoan k b) 252 4) = some k := by
  have e : (getFld (encodeLoan k b) 252 4 : BitVec 4) = k.code := by
    unfold encodeLoan
    repeat (first
      | refine (getFld_append_lo _ _ (by omega)).trans ?_
      | refine (getFld_append_hi _ _ (by omega)).trans ?_
      | (simp only [Nat.reduceAdd, Nat.reduceSub]; exact getFld_all _))
  rw [e]
  cases k <;> rfl

theorem hold_code (k : HoldKind) (b : HoldBody) : holdKindOf (getFld (encodeHold k b) 140 4) = some k := by
  have e : (getFld (encodeHold k b) 140 4 : BitVec 4) = k.code := by
    unfold encodeHold
    repeat (first
      | refine (getFld_append_lo _ _ (by omega)).trans ?_
      | refine (getFld_append_hi _ _ (by omega)).trans ?_
      | (simp only [Nat.reduceAdd, Nat.reduceSub]; exact getFld_all _))
  rw [e]
  cases k <;> rfl

theorem stock_code (k : StockKind) (b : StockBody) : stockKindOf (getFld (encodeStock k b) 140 4) = some k := by
  have e : (getFld (encodeStock k b) 140 4 : BitVec 4) = k.code := by
    unfold encodeStock
    repeat (first
      | refine (getFld_append_lo _ _ (by omega)).trans ?_
      | refine (getFld_append_hi _ _ (by omega)).trans ?_
      | (simp only [Nat.reduceAdd, Nat.reduceSub]; exact getFld_all _))
  rw [e]
  cases k <;> rfl

theorem shelf_code (k : ShelfKind) (b : ShelfBody) : shelfKindOf (getFld (encodeShelf k b) 140 4) = some k := by
  have e : (getFld (encodeShelf k b) 140 4 : BitVec 4) = k.code := by
    unfold encodeShelf
    repeat (first
      | refine (getFld_append_lo _ _ (by omega)).trans ?_
      | refine (getFld_append_hi _ _ (by omega)).trans ?_
      | (simp only [Nat.reduceAdd, Nat.reduceSub]; exact getFld_all _))
  rw [e]
  cases k <;> rfl

theorem partCtl_code (k : PartCtlKind) (b : PartCtlBody) :
    partCtlKindOf (getFld (encodePartCtl k b) 140 4) = some k := by
  have e : (getFld (encodePartCtl k b) 140 4 : BitVec 4) = k.code := by
    unfold encodePartCtl
    repeat (first
      | refine (getFld_append_lo _ _ (by omega)).trans ?_
      | refine (getFld_append_hi _ _ (by omega)).trans ?_
      | (simp only [Nat.reduceAdd, Nat.reduceSub]; exact getFld_all _))
  rw [e]
  cases k <;> rfl

theorem holder_code (b : HolderResetBody) : (getFld (encodeHolder b) 124 4 : BitVec 4) = 1 := by
  unfold encodeHolder
  repeat (first
    | refine (getFld_append_lo _ _ (by omega)).trans ?_
    | refine (getFld_append_hi _ _ (by omega)).trans ?_
    | (simp only [Nat.reduceAdd, Nat.reduceSub]; exact getFld_all _))

theorem purge_code (b : WaiterPurgeBody) : (getFld (encodePurge b) 124 4 : BitVec 4) = 2 := by
  unfold encodePurge
  repeat (first
    | refine (getFld_append_lo _ _ (by omega)).trans ?_
    | refine (getFld_append_hi _ _ (by omega)).trans ?_
    | (simp only [Nat.reduceAdd, Nat.reduceSub]; exact getFld_all _))

theorem flits_range (p : Payload) : 1 ≤ p.flits ∧ p.flits ≤ 4 := by
  cases p with
  | cpl b => obtain ⟨_, _, _, _, _, v⟩ := b; cases v <;> simp [Payload.flits]
  | stocktake k b => cases k <;> simp [Payload.flits]
  | partCtl k b => cases k <;> simp [Payload.flits]
  | _ => simp [Payload.flits]

/-- A body is read back from its own bits. -/
theorem decodePayload_encode (p : Payload) : decodePayload p.mkind p.flits p.encode = some p := by
  cases p with
  | op b => exact congrArg (fun x => some (Payload.op x)) (decodeOp_encode b)
  | cpl b =>
    have e : decide ((Payload.cpl b).flits = 2) = b.value.isSome := by
      obtain ⟨_, _, _, _, _, v⟩ := b
      cases v <;> rfl
    show some (Payload.cpl (decodeCpl (decide ((Payload.cpl b).flits = 2)) (encodeCpl b))) = some (.cpl b)
    rw [e, decodeCpl_encode]
  | fwdArrv b => exact congrArg (fun x => some (Payload.fwdArrv x)) (decodeFwd_encode b)
  | loan k b =>
    show (loanKindOf (getFld (encodeLoan k b) 252 4)).map (fun k' => Payload.loan k' (decodeLoan (encodeLoan k b))) = _
    rw [loan_code, decodeLoan_encode]
    rfl
  | holderReset b =>
    show (if getFld (encodeHolder b) 124 4 = (1 : BitVec 4) then some (Payload.holderReset (decodeHolder (encodeHolder b))) else none) = _
    rw [if_pos (holder_code b), decodeHolder_encode]
  | waiterPurge b =>
    show (if getFld (encodePurge b) 124 4 = (2 : BitVec 4) then some (Payload.waiterPurge (decodePurge (encodePurge b))) else none) = _
    rw [if_pos (purge_code b), decodePurge_encode]
  | routeFence b => exact congrArg (fun x => some (Payload.routeFence x)) (decodeFence_encode b)
  | fenceAck b => exact congrArg (fun x => some (Payload.fenceAck x)) (decodeFence_encode b)
  | holdCtl k b =>
    show (holdKindOf (getFld (encodeHold k b) 140 4)).map (fun k' => Payload.holdCtl k' (decodeHold (encodeHold k b))) = _
    rw [hold_code, decodeHold_encode]
    rfl
  | stocktake k b =>
    show (stockKindOf (getFld (encodeStock k b) 140 4)).map (fun k' => Payload.stocktake k' (decodeStock (encodeStock k b))) = _
    rw [stock_code, decodeStock_encode]
    rfl
  | shelf k b =>
    show (shelfKindOf (getFld (encodeShelf k b) 140 4)).map (fun k' => Payload.shelf k' (decodeShelf (encodeShelf k b))) = _
    rw [shelf_code, decodeShelf_encode]
    rfl
  | partCtl k b =>
    show (partCtlKindOf (getFld (encodePartCtl k b) 140 4)).map (fun k' => Payload.partCtl k' (decodePartCtl (encodePartCtl k b))) = _
    rw [partCtl_code, decodePartCtl_encode]
    rfl

theorem head_payload (m : Msg) : (getFld (flitPayload m 0) 144 48 : BitVec 48) = encodeHdr m.hdr m.body.mkind m.body.flits := by
  unfold flitPayload
  rw [if_pos rfl]
  refine (getFld_append_hi _ _ (by omega)).trans ?_
  exact getFld_all _

theorem payloads_cons (m : Msg) : ∃ ps, Sys2Proof.flitPayloads m = flitPayload m 0 :: ps := by
  unfold flitPayloads
  obtain ⟨h1, h4⟩ := flits_range m.body
  obtain ⟨n, hn⟩ : ∃ n, m.body.flits = n + 1 := ⟨m.body.flits - 1, by omega⟩
  rw [hn]
  exact ⟨_, rfl⟩

namespace Machine

theorem decodeNeg_encode (n : Neg) : decodeNeg n.encode = n := by
  cases n
  unfold decodeNeg Neg.encode
  simp only [Neg.mk.injEq]
  refine ⟨?_, ?_, ?_, ?_, ?_, ?_, ?_, ?_, ?_, ?_⟩ <;>
    repeat (first
      | refine (getFld_append_lo _ _ (by omega)).trans ?_
      | refine (getFld_append_hi _ _ (by omega)).trans ?_
      | refine (getLsbD_append_lo _ _ (by omega)).trans ?_
      | refine (getLsbD_append_hi _ _ (by omega)).trans ?_
      | (simp only [Nat.reduceAdd, Nat.reduceSub]; first | exact getFld_all _ | exact getLsbD_bit1 _)
      | exact getFld_all _
      | exact getLsbD_bit1 _)

end Machine

/-- The CRC depends on the bits above the CRC alone. -/
theorem crcFrom_congr (x y : BitVec 256) (h : ∀ i, 32 ≤ i → x.getLsbD i = y.getLsbD i) :
    ∀ (n : Nat) (c : BitVec 32), crcFrom x c n = crcFrom y c n
  | 0, _ => rfl
  | n + 1, c => by
    unfold crcFrom
    rw [h (32 + n) (by omega)]
    exact crcFrom_congr x y h n _

/-- A flit without its CRC. -/
def Flit.bare (f : Flit) : BitVec 256 :=
  f.ftype ++ bit1 f.head ++ f.fseq ++ f.aseq ++ bit1 f.crv ++ f.crb ++ f.payload ++ (0 : BitVec 32)

theorem encode_high (f : Flit) (i : Nat) (h : 32 ≤ i) : f.encode.getLsbD i = f.bare.getLsbD i := by
  show (f.bare ||| (flitCrc f.bare).setWidth 256).getLsbD i = _
  rw [BitVec.getLsbD_or, BitVec.getLsbD_setWidth, BitVec.getLsbD_of_ge (flitCrc f.bare) i h]
  simp

theorem encode_low (f : Flit) : (getFld f.encode 0 32 : BitVec 32) = flitCrc f.bare := by
  apply BitVec.eq_of_getLsbD_eq
  intro i hi
  show (getFld (f.bare ||| (flitCrc f.bare).setWidth 256) 0 32 : BitVec 32).getLsbD i = _
  rw [BitVec.getLsbD_extractLsb', Nat.zero_add, BitVec.getLsbD_or, BitVec.getLsbD_setWidth]
  have : f.bare.getLsbD i = false := by
    unfold Flit.bare
    exact (getLsbD_append_lo _ _ hi).trans (by simp)
  rw [this]
  simp [hi, show i < 256 by omega]

theorem getFld_congr {n lsb w : Nat} {x y : BitVec n} (h : ∀ i, lsb ≤ i → x.getLsbD i = y.getLsbD i) :
    (getFld x lsb w : BitVec w) = getFld y lsb w := by
  apply BitVec.eq_of_getLsbD_eq
  intro i hi
  rw [BitVec.getLsbD_extractLsb', BitVec.getLsbD_extractLsb', h _ (by omega)]

theorem decodeFlit_encode (f : Flit) : decodeFlit f.encode = f := by
  have e : decodeFlit f.encode = decodeFlit f.bare := by
    unfold decodeFlit
    simp only [Flit.mk.injEq]
    refine ⟨getFld_congr fun i hi => encode_high f i (by omega), encode_high f _ (by omega),
      getFld_congr fun i hi => encode_high f i (by omega), getFld_congr fun i hi => encode_high f i (by omega),
      encode_high f _ (by omega), getFld_congr fun i hi => encode_high f i (by omega),
      getFld_congr fun i hi => encode_high f i (by omega)⟩
  rw [e]
  cases f
  unfold decodeFlit Flit.bare
  simp only [Flit.mk.injEq]
  refine ⟨?_, ?_, ?_, ?_, ?_, ?_, ?_⟩ <;>
    repeat (first
      | refine (getFld_append_lo _ _ (by omega)).trans ?_
      | refine (getFld_append_hi _ _ (by omega)).trans ?_
      | refine (getLsbD_append_lo _ _ (by omega)).trans ?_
      | refine (getLsbD_append_hi _ _ (by omega)).trans ?_
      | (simp only [Nat.reduceAdd, Nat.reduceSub]; first | exact getFld_all _ | exact getLsbD_bit1 _)
      | exact getFld_all _
      | exact getLsbD_bit1 _)

theorem flitGood_encode (f : Flit) : flitGood f.encode = decide (f.ftype.toNat < 8) := by
  unfold flitGood
  have e1 : flitCrc f.encode = getFld f.encode 0 32 := by
    rw [encode_low]
    exact crcFrom_congr _ _ (encode_high f) 224 _
  have e2 : (getFld f.encode 252 4 : BitVec 4) = f.ftype := congrArg Flit.ftype (decodeFlit_encode f)
  rw [e2, decide_eq_true e1, Bool.true_and]

end Sys2Proof
end

