-- ==== Sys2Proof/Laws/Stores.lean ====
section
/-! SUPPORT. The canonical form of the sparse stores: what an update of a state does to it. -/

set_option linter.all false

namespace Sys2Proof.Machine

theorem stores_ite {c : Prop} [Decidable c] {a b : State} (ha : a.storesWf = true) (hb : b.storesWf = true) :
    (if c then a else b).storesWf = true := by split <;> assumption

theorem stores_ite_fst {c : Prop} [Decidable c] {α : Type} {a b : State × α} (ha : a.1.storesWf = true)
    (hb : b.1.storesWf = true) : ((if c then a else b).1).storesWf = true := by split <;> assumption

theorem storesWf_iff (s : State) : s.storesWf = true ↔
    s.objs.wf objNone = true ∧ s.wideBits.wf wideNone = true ∧ s.ports.wf portNone = true ∧ s.slots.wf slotNone
    = true ∧ s.notify.wf ringNone = true ∧ s.cat.wf catNone = true ∧ s.devMap.wf devDefault = true ∧ s.routes.wf
    routeNone = true ∧ s.links.wf linkNone = true ∧ s.lostSince.wf timeNone = true ∧ s.evs.wf evNone = true ∧
    s.views.wf viewNone = true ∧ s.parts.wf partNone = true ∧ s.stageFails.wf natNone = true := by
  simp only [State.storesWf, Bool.and_eq_true, and_assoc]

theorem stores_pending (s : State) (x0 : List Instr) :
    ({ s with
      pending := x0 } : State).storesWf = s.storesWf := rfl

theorem stores_refLost (s : State) (x0 : Bool) :
    ({ s with
      refLost := x0 } : State).storesWf = s.storesWf := rfl

theorem stores_sync (s : State) (x0 : TimeSync) :
    ({ s with
      sync := x0 } : State).storesWf = s.storesWf := rfl

theorem stores_reslice (s : State) (x0 : Reslice) :
    ({ s with
      reslice := x0 } : State).storesWf = s.storesWf := rfl

theorem stores_waiters (s : State) (x0 : List Waiter) :
    ({ s with
      waiters := x0 } : State).storesWf = s.storesWf := rfl

theorem stores_lenders (s : State) (x0 : List Lender) :
    ({ s with
      lenders := x0 } : State).storesWf = s.storesWf := rfl

theorem stores_ledgers (s : State) (x0 : List Ledger) :
    ({ s with
      ledgers := x0 } : State).storesWf = s.storesWf := rfl

theorem stores_rets (s : State) (x0 : List Ret) :
    ({ s with
      rets := x0 } : State).storesWf = s.storesWf := rfl

theorem stores_buffered (s : State) (x0 : List Ticket) :
    ({ s with
      buffered := x0 } : State).storesWf = s.storesWf := rfl

theorem stores_mgr (s : State) (x0 : List MgrWrite) :
    ({ s with
      mgr := x0 } : State).storesWf = s.storesWf := rfl

theorem stores_inbox (s : State) (x0 : List InMsg) :
    ({ s with
      inbox := x0 } : State).storesWf = s.storesWf := rfl

theorem stores_waitMsgs (s : State) (x0 : List WaitMsg) :
    ({ s with
      waitMsgs := x0 } : State).storesWf = s.storesWf := rfl

theorem stores_changes (s : State) (x0 : List RouteChange) :
    ({ s with
      changes := x0 } : State).storesWf = s.storesWf := rfl

theorem stores_settles (s : State) (x0 : List (RouteKey × Time)) :
    ({ s with
      settles := x0 } : State).storesWf = s.storesWf := rfl

theorem stores_folio (s : State) (x0 : Folio) :
    ({ s with
      folio := x0 } : State).storesWf = s.storesWf := rfl

theorem stores_catOpen (s : State) (x0 : List CatOpen) :
    ({ s with
      catOpen := x0 } : State).storesWf = s.storesWf := rfl

theorem stores_catHeld (s : State) (x0 : List (Principal × Instr)) :
    ({ s with
      catHeld := x0 } : State).storesWf = s.storesWf := rfl

theorem stores_apb (s : State) (x0 : ApbRegs) :
    ({ s with
      apb := x0 } : State).storesWf = s.storesWf := rfl

theorem stores_eid (s : State) (x0 : BitVec 8) :
    ({ s with
      eid := x0 } : State).storesWf = s.storesWf := rfl

theorem stores_flips (s : State) (x0 : List (StoreWord × Nat)) :
    ({ s with
      flips := x0 } : State).storesWf = s.storesWf := rfl

theorem stores_stuck (s : State) (x0 : List Nat) :
    ({ s with
      stuck := x0 } : State).storesWf = s.storesWf := rfl

theorem stores_stageOut (s : State) (x0 : BitVec 32) :
    ({ s with
      stageOut := x0 } : State).storesWf = s.storesWf := rfl

theorem stores_scrubStart (s : State) (x0 : Time) :
    ({ s with
      scrubStart := x0 } : State).storesWf = s.storesWf := rfl

theorem stores_out (s : State) (x0 : List Output) :
    ({ s with
      out := x0 } : State).storesWf = s.storesWf := rfl

theorem stores_free (s : State) (x0 : Nat) :
    ({ s with
      free := x0 } : State).storesWf = s.storesWf := rfl

theorem stores_time_sync (s : State) (x0 : Time) (x1 : TimeSync) :
    ({ s with
      time := x0, sync := x1 } : State).storesWf = s.storesWf := rfl

theorem stores_waiters_ledgers (s : State) (x0 : List Waiter) (x1 : List Ledger) :
    ({ s with
      waiters := x0, ledgers := x1 } : State).storesWf = s.storesWf := rfl

theorem stores_lenders_loanSeq (s : State) (x0 : List Lender) (x1 : BitVec 8) :
    ({ s with
      lenders := x0, loanSeq := x1 } : State).storesWf = s.storesWf := rfl

theorem stores_changes_fenceNum (s : State) (x0 : List RouteChange) (x1 : BitVec 8) :
    ({ s with
      changes := x0, fenceNum := x1 } : State).storesWf = s.storesWf := rfl

theorem stores_mgr_folio (s : State) (x0 : List MgrWrite) (x1 : Folio) :
    ({ s with
      mgr := x0, folio := x1 } : State).storesWf = s.storesWf := rfl

theorem stores_catHeld_apb (s : State) (x0 : List (Principal × Instr)) (x1 : ApbRegs) :
    ({ s with
      catHeld := x0, apb := x1 } : State).storesWf = s.storesWf := rfl

theorem stores_phase_scrubStart (s : State) (x0 : Phase) (x1 : Time) :
    ({ s with
      phase := x0, scrubStart := x1 } : State).storesWf = s.storesWf := rfl

theorem stores_waitMsgs_changes_settles (s : State) (x0 : List WaitMsg) (x1 : List RouteChange) (x2 : List (RouteKey
    × Time)) :
    ({ s with
      waitMsgs := x0, changes := x1, settles := x2 } : State).storesWf = s.storesWf := rfl

theorem stores_time_tick_sync_free_clock (s : State) (x0 : Time) (x1 : Nat) (x2 : TimeSync) (x3 : Nat) (x4 : Time) :
    ({ s with
      time := x0, tick := x1, sync := x2, free := x3, clock := x4 } : State).storesWf = s.storesWf := rfl

theorem stores_phase_build_device_die_refSel_running (s : State) (x0 : Phase) (x1 : Build) (x2 : BitVec 12) (x3 :
    BitVec 3) (x4 : BitVec 3) (x5 : Bool) :
    ({ s with
      phase := x0, build := x1, device := x2, die := x3, refSel := x4, running := x5 } : State).storesWf =
      s.storesWf := rfl

theorem objs_wf {s : State} (h : s.storesWf = true) : s.objs.wf objNone = true := ((storesWf_iff s).mp h).1

theorem wideBits_wf {s : State} (h : s.storesWf = true) : s.wideBits.wf wideNone = true := ((storesWf_iff s).mp h).2.1

theorem ports_wf {s : State} (h : s.storesWf = true) : s.ports.wf portNone = true := ((storesWf_iff s).mp h).2.2.1

theorem slots_wf {s : State} (h : s.storesWf = true) : s.slots.wf slotNone = true := ((storesWf_iff s).mp h).2.2.2.1

theorem notify_wf {s : State} (h : s.storesWf = true) : s.notify.wf ringNone = true := ((storesWf_iff s).mp h).2.2.2.2.1

theorem cat_wf {s : State} (h : s.storesWf = true) : s.cat.wf catNone = true := ((storesWf_iff s).mp h).2.2.2.2.2.1

theorem devMap_wf {s : State} (h : s.storesWf = true) : s.devMap.wf devDefault = true := ((storesWf_iff s).mp h).2.2.2.2.2.2.1

theorem routes_wf {s : State} (h : s.storesWf = true) : s.routes.wf routeNone = true := ((storesWf_iff s).mp h).2.2.2.2.2.2.2.1

theorem links_wf {s : State} (h : s.storesWf = true) : s.links.wf linkNone = true := ((storesWf_iff s).mp h).2.2.2.2.2.2.2.2.1

theorem lostSince_wf {s : State} (h : s.storesWf = true) : s.lostSince.wf timeNone = true := ((storesWf_iff s).mp h).2.2.2.2.2.2.2.2.2.1

theorem evs_wf {s : State} (h : s.storesWf = true) : s.evs.wf evNone = true := ((storesWf_iff s).mp h).2.2.2.2.2.2.2.2.2.2.1

theorem views_wf {s : State} (h : s.storesWf = true) : s.views.wf viewNone = true := ((storesWf_iff s).mp h).2.2.2.2.2.2.2.2.2.2.2.1

theorem parts_wf {s : State} (h : s.storesWf = true) : s.parts.wf partNone = true := ((storesWf_iff s).mp h).2.2.2.2.2.2.2.2.2.2.2.2.1

theorem stageFails_wf {s : State} (h : s.storesWf = true) : s.stageFails.wf natNone = true := ((storesWf_iff s).mp h).2.2.2.2.2.2.2.2.2.2.2.2.2

theorem stores_objs (s : State) (x : Sparse ObjRec) (h : s.storesWf = true) (hx : x.wf objNone = true) :
    ({ s with objs := x } : State).storesWf = true := by
  rw [storesWf_iff] at h ⊢
  simp only [h, hx, and_self]

theorem stores_wideBits (s : State) (x : Sparse Bool) (h : s.storesWf = true) (hx : x.wf wideNone = true) :
    ({ s with wideBits := x } : State).storesWf = true := by
  rw [storesWf_iff] at h ⊢
  simp only [h, hx, and_self]

theorem stores_ports (s : State) (x : Sparse Port) (h : s.storesWf = true) (hx : x.wf portNone = true) :
    ({ s with ports := x } : State).storesWf = true := by
  rw [storesWf_iff] at h ⊢
  simp only [h, hx, and_self]

theorem stores_slots (s : State) (x : Sparse Slot) (h : s.storesWf = true) (hx : x.wf slotNone = true) :
    ({ s with slots := x } : State).storesWf = true := by
  rw [storesWf_iff] at h ⊢
  simp only [h, hx, and_self]

theorem stores_notify (s : State) (x : Sparse NotifyRing) (h : s.storesWf = true) (hx : x.wf ringNone = true) :
    ({ s with notify := x } : State).storesWf = true := by
  rw [storesWf_iff] at h ⊢
  simp only [h, hx, and_self]

theorem stores_cat (s : State) (x : Sparse (BitVec 128)) (h : s.storesWf = true) (hx : x.wf catNone = true) :
    ({ s with cat := x } : State).storesWf = true := by
  rw [storesWf_iff] at h ⊢
  simp only [h, hx, and_self]

theorem stores_devMap (s : State) (x : Sparse (BitVec 16)) (h : s.storesWf = true) (hx : x.wf devDefault = true) :
    ({ s with devMap := x } : State).storesWf = true := by
  rw [storesWf_iff] at h ⊢
  simp only [h, hx, and_self]

theorem stores_routes (s : State) (x : Sparse (BitVec 32)) (h : s.storesWf = true) (hx : x.wf routeNone = true) :
    ({ s with routes := x } : State).storesWf = true := by
  rw [storesWf_iff] at h ⊢
  simp only [h, hx, and_self]

theorem stores_links (s : State) (x : Sparse Link) (h : s.storesWf = true) (hx : x.wf linkNone = true) :
    ({ s with links := x } : State).storesWf = true := by
  rw [storesWf_iff] at h ⊢
  simp only [h, hx, and_self]

theorem stores_lostSince (s : State) (x : Sparse (Option Time)) (h : s.storesWf = true) (hx : x.wf timeNone = true) :
    ({ s with lostSince := x } : State).storesWf = true := by
  rw [storesWf_iff] at h ⊢
  simp only [h, hx, and_self]

theorem stores_evs (s : State) (x : Sparse EvInput) (h : s.storesWf = true) (hx : x.wf evNone = true) :
    ({ s with evs := x } : State).storesWf = true := by
  rw [storesWf_iff] at h ⊢
  simp only [h, hx, and_self]

theorem stores_views (s : State) (x : Sparse View) (h : s.storesWf = true) (hx : x.wf viewNone = true) :
    ({ s with views := x } : State).storesWf = true := by
  rw [storesWf_iff] at h ⊢
  simp only [h, hx, and_self]

theorem stores_parts (s : State) (x : Sparse Part) (h : s.storesWf = true) (hx : x.wf partNone = true) :
    ({ s with parts := x } : State).storesWf = true := by
  rw [storesWf_iff] at h ⊢
  simp only [h, hx, and_self]

theorem stores_stageFails (s : State) (x : Sparse Nat) (h : s.storesWf = true) (hx : x.wf natNone = true) :
    ({ s with stageFails := x } : State).storesWf = true := by
  rw [storesWf_iff] at h ⊢
  simp only [h, hx, and_self]

/-- An operation that leaves the stores alone keeps their form. -/
theorem stores_of_wipe {s t : State} (e : t.wipe 0x7dfa7c1cf2fff = s.wipe 0x7dfa7c1cf2fff)
    (h : s.storesWf = true) : t.storesWf = true := by
  rw [storesWf_iff] at h ⊢
  have e_objs : t.objs = s.objs := objs_of_wipe (by decide) e
  have e_wideBits : t.wideBits = s.wideBits := wideBits_of_wipe (by decide) e
  have e_ports : t.ports = s.ports := ports_of_wipe (by decide) e
  have e_slots : t.slots = s.slots := slots_of_wipe (by decide) e
  have e_notify : t.notify = s.notify := notify_of_wipe (by decide) e
  have e_cat : t.cat = s.cat := cat_of_wipe (by decide) e
  have e_devMap : t.devMap = s.devMap := devMap_of_wipe (by decide) e
  have e_routes : t.routes = s.routes := routes_of_wipe (by decide) e
  have e_links : t.links = s.links := links_of_wipe (by decide) e
  have e_lostSince : t.lostSince = s.lostSince := lostSince_of_wipe (by decide) e
  have e_evs : t.evs = s.evs := evs_of_wipe (by decide) e
  have e_views : t.views = s.views := views_of_wipe (by decide) e
  have e_parts : t.parts = s.parts := parts_of_wipe (by decide) e
  have e_stageFails : t.stageFails = s.stageFails := stageFails_of_wipe (by decide) e
  rw [e_objs, e_wideBits, e_ports, e_slots, e_notify, e_cat, e_devMap, e_routes, e_links, e_lostSince, e_evs, e_views, e_parts, e_stageFails]
  exact h

end Sys2Proof.Machine
end

