-- ==== Sys2Proof/Laws/StoresOps.lean ====
section
/-! SUPPORT. The operations of Ops.lean keep the sparse stores in their canonical form. -/

set_option linter.all false

namespace Sys2Proof.Machine

theorem State.setObj_stores (s : State) (i : Nat) (o : ObjRec) (h : s.storesWf = true) :
    (s.setObj i o).storesWf = true := by
  unfold State.setObj
  exact stores_objs _ _ h (Sparse.wf_put _ _ (objs_wf h))

theorem State.setPort_stores (s : State) (p : Nat) (x : Port) (h : s.storesWf = true) :
    (s.setPort p x).storesWf = true := by
  unfold State.setPort
  exact stores_ports _ _ h (Sparse.wf_put _ _ (ports_wf h))

theorem State.setSlot_stores (s : State) (g : Nat) (x : Slot) (h : s.storesWf = true) :
    (s.setSlot g x).storesWf = true := by
  unfold State.setSlot
  exact stores_slots _ _ h (Sparse.wf_put _ _ (slots_wf h))

theorem State.setLink_stores (s : State) (c : Nat) (l : Link) (h : s.storesWf = true) :
    (s.setLink c l).storesWf = true := by
  unfold State.setLink
  exact stores_links _ _ h (Sparse.wf_put _ _ (links_wf h))

theorem State.setPart_stores (s : State) (p : Nat) (x : Part) (h : s.storesWf = true) :
    (s.setPart p x).storesWf = true := by
  unfold State.setPart
  exact stores_parts _ _ h (Sparse.wf_put _ _ (parts_wf h))

theorem State.setEv_stores (s : State) (i : Nat) (x : EvInput) (h : s.storesWf = true) :
    (s.setEv i x).storesWf = true := by
  unfold State.setEv
  exact stores_evs _ _ h (Sparse.wf_put _ _ (evs_wf h))

theorem State.setView_stores (s : State) (w : Nat) (x : View) (h : s.storesWf = true) :
    (s.setView w x).storesWf = true := by
  unfold State.setView
  exact stores_views _ _ h (Sparse.wf_put _ _ (views_wf h))

theorem State.setRing_stores (s : State) (r : Nat) (x : NotifyRing) (h : s.storesWf = true) :
    (s.setRing r x).storesWf = true := by
  unfold State.setRing
  exact stores_notify _ _ h (Sparse.wf_put _ _ (notify_wf h))

theorem State.setWideBit_stores (s : State) (i : Nat) (b : Bool) (h : s.storesWf = true) :
    (s.setWideBit i b).storesWf = true := by
  unfold State.setWideBit
  exact stores_wideBits _ _ h (Sparse.wf_put _ _ (wideBits_wf h))

theorem State.modPort_stores (s : State) (p : Nat) (f : Port → Port) (h : s.storesWf = true) :
    (s.modPort p f).storesWf = true := by
  unfold State.modPort
  try simp +zetaDelta (maxDischargeDepth := 40) (decide := false) only [h, State.setPort_stores, stores_ite,
      stores_ite_fst, implies_true, forall_const]
  all_goals repeat' (split <;> try simp +zetaDelta (maxDischargeDepth := 40) (decide := false) only [h,
      State.setPort_stores, stores_ite, stores_ite_fst, implies_true, forall_const])

theorem State.modSlot_stores (s : State) (g : Nat) (f : Slot → Slot) (h : s.storesWf = true) :
    (s.modSlot g f).storesWf = true := by
  unfold State.modSlot
  try simp +zetaDelta (maxDischargeDepth := 40) (decide := false) only [h, State.setSlot_stores, stores_ite,
      stores_ite_fst, implies_true, forall_const]
  all_goals repeat' (split <;> try simp +zetaDelta (maxDischargeDepth := 40) (decide := false) only [h,
      State.setSlot_stores, stores_ite, stores_ite_fst, implies_true, forall_const])

theorem State.modPart_stores (s : State) (p : Nat) (f : Part → Part) (h : s.storesWf = true) :
    (s.modPart p f).storesWf = true := by
  unfold State.modPart
  try simp +zetaDelta (maxDischargeDepth := 40) (decide := false) only [h, State.setPart_stores, stores_ite,
      stores_ite_fst, implies_true, forall_const]
  all_goals repeat' (split <;> try simp +zetaDelta (maxDischargeDepth := 40) (decide := false) only [h,
      State.setPart_stores, stores_ite, stores_ite_fst, implies_true, forall_const])

theorem State.modLink_stores (s : State) (c : Nat) (f : Link → Link) (h : s.storesWf = true) :
    (s.modLink c f).storesWf = true := by
  unfold State.modLink
  try simp +zetaDelta (maxDischargeDepth := 40) (decide := false) only [h, State.setLink_stores, stores_ite,
      stores_ite_fst, implies_true, forall_const]
  all_goals repeat' (split <;> try simp +zetaDelta (maxDischargeDepth := 40) (decide := false) only [h,
      State.setLink_stores, stores_ite, stores_ite_fst, implies_true, forall_const])

theorem State.modObj_stores (s : State) (i : Nat) (f : ObjRec → ObjRec) (h : s.storesWf = true) :
    (s.modObj i f).storesWf = true := by
  unfold State.modObj
  try simp +zetaDelta (maxDischargeDepth := 40) (decide := false) only [h, State.setObj_stores, stores_ite,
      stores_ite_fst, implies_true, forall_const]
  all_goals repeat' (split <;> try simp +zetaDelta (maxDischargeDepth := 40) (decide := false) only [h,
      State.setObj_stores, stores_ite, stores_ite_fst, implies_true, forall_const])

theorem State.fresh_stores (s : State) (h : s.storesWf = true) :
    (s.fresh).storesWf = true := by
  exact stores_of_wipe (State.fresh_wipe s 0x7dfa7c1cf2fff (by decide)) h

theorem State.drive_stores (s : State) (o : Output) (h : s.storesWf = true) :
    (s.drive o).storesWf = true := by
  exact stores_of_wipe (State.drive_wipe s o 0x7dfa7c1cf2fff (by decide)) h

theorem State.setCfg_stores (s : State) (index : Nat) (sub : Nat) (part : Nat) (v : Nat) (h : s.storesWf = true) :
    (s.setCfg index sub part v).storesWf = true := by
  unfold State.setCfg
  exact stores_cat _ _ h (Sparse.wf_put _ _ (cat_wf h))

theorem State.count_stores (s : State) (index : Nat) (sub : Nat) (part : Nat) (n : Nat) (h : s.storesWf = true) :
    (s.count index sub part n).storesWf = true := by
  unfold State.count
  try simp +zetaDelta (maxDischargeDepth := 40) (decide := false) only [h, State.setCfg_stores, stores_ite,
      stores_ite_fst, implies_true, forall_const]
  all_goals repeat' (split <;> try simp +zetaDelta (maxDischargeDepth := 40) (decide := false) only [h,
      State.setCfg_stores, stores_ite, stores_ite_fst, implies_true, forall_const])

theorem State.bump_stores (s : State) (index : Nat) (sub : Nat) (part : optParam Nat 0) (h : s.storesWf = true) :
    (s.bump index sub part).storesWf = true := by
  unfold State.bump
  try simp +zetaDelta (maxDischargeDepth := 40) (decide := false) only [h, State.setCfg_stores,
      State.fresh_stores, stores_ite, stores_ite_fst, implies_true, forall_const]
  all_goals repeat' (split <;> try simp +zetaDelta (maxDischargeDepth := 40) (decide := false) only [h,
      State.setCfg_stores, State.fresh_stores, stores_ite, stores_ite_fst, implies_true, forall_const])

theorem State.count32_stores (s : State) (v : BitVec 32) (h : s.storesWf = true) :
    (s.count32 v).storesWf = true := by
  exact stores_of_wipe (State.count32_wipe s v 0x7dfa7c1cf2fff (by decide)) h

theorem State.bumpN_stores (s : State) (index : Nat) (sub : Nat) (part : Nat) (x4 : Nat) (h : s.storesWf = true) :
    (s.bumpN index sub part x4).storesWf = true := by
  fun_induction State.bumpN s index sub part x4
  all_goals try simp +zetaDelta (maxDischargeDepth := 40) only [*, State.bump_stores, stores_ite, stores_ite_fst,
      implies_true, forall_const]
  all_goals repeat' (split <;> try simp +zetaDelta (maxDischargeDepth := 40) only [*, State.bump_stores,
      stores_ite, stores_ite_fst, implies_true, forall_const])

theorem State.countMax_stores (s : State) (index : Nat) (sub : Nat) (part : Nat) (n : Nat) (h : s.storesWf = true) :
    (s.countMax index sub part n).storesWf = true := by
  unfold State.countMax
  try simp +zetaDelta (maxDischargeDepth := 40) (decide := false) only [h, State.setCfg_stores, stores_ite,
      stores_ite_fst, implies_true, forall_const]
  all_goals repeat' (split <;> try simp +zetaDelta (maxDischargeDepth := 40) (decide := false) only [h,
      State.setCfg_stores, stores_ite, stores_ite_fst, implies_true, forall_const])

theorem State.mgrIssue_stores (s : State) (w : MgrWrite) (h : s.storesWf = true) :
    (s.mgrIssue w).storesWf = true := by
  exact stores_of_wipe (State.mgrIssue_wipe s w 0x7dfa7c1cf2fff (by decide)) h

theorem State.notifyRing_stores (s : State) (r : Nat) (kind : Nat) (part : Nat) (body : BitVec 96) (h : s.storesWf =
    true) :
    (s.notifyRing r kind part body).storesWf = true := by
  unfold State.notifyRing
  try simp +zetaDelta (maxDischargeDepth := 40) (decide := false) only [h, State.setRing_stores,
      State.bump_stores, State.mgrIssue_stores, stores_ite, stores_ite_fst, implies_true, forall_const]
  all_goals repeat' (split <;> try simp +zetaDelta (maxDischargeDepth := 40) (decide := false) only [h,
      State.setRing_stores, State.bump_stores, State.mgrIssue_stores, stores_ite, stores_ite_fst, implies_true,
      forall_const])

theorem State.irq_stores (s : State) (r : Nat) (h : s.storesWf = true) :
    (s.irq r).storesWf = true := by
  unfold State.irq
  try simp +zetaDelta (maxDischargeDepth := 40) (decide := false) only [h, State.setRing_stores,
      State.drive_stores, stores_ite, stores_ite_fst, implies_true, forall_const]
  all_goals repeat' (split <;> try simp +zetaDelta (maxDischargeDepth := 40) (decide := false) only [h,
      State.setRing_stores, State.drive_stores, stores_ite, stores_ite_fst, implies_true, forall_const])

theorem State.folioTrace_stores (s : State) (h : s.storesWf = true) :
    (s.folioTrace).storesWf = true := by
  unfold State.folioTrace
  try simp +zetaDelta (maxDischargeDepth := 40) (decide := false) only [h, State.notifyRing_stores, stores_ite,
      stores_ite_fst, implies_true, forall_const]
  all_goals repeat' (split <;> try simp +zetaDelta (maxDischargeDepth := 40) (decide := false) only [h,
      State.notifyRing_stores, stores_ite, stores_ite_fst, implies_true, forall_const])

theorem State.folioDump_stores (s : State) (i : Nat) (x2 : List FolioRec) (h : s.storesWf = true) :
    (s.folioDump i x2).storesWf = true := by
  exact stores_of_wipe (State.folioDump_wipe s i x2 0x7dfa7c1cf2fff (by decide)) h

theorem State.folioStop_stores (s : State) (h : s.storesWf = true) :
    (s.folioStop).storesWf = true := by
  unfold State.folioStop
  try simp +zetaDelta (maxDischargeDepth := 40) (decide := false) only [h, stores_folio, State.folioTrace_stores,
      State.folioDump_stores, stores_ite, stores_ite_fst, implies_true, forall_const]
  all_goals repeat' (split <;> try simp +zetaDelta (maxDischargeDepth := 40) (decide := false) only [h,
      stores_folio, State.folioTrace_stores, State.folioDump_stores, stores_ite, stores_ite_fst, implies_true,
      forall_const])

theorem State.folioPost_stores (s : State) (r : FolioRec) (h : s.storesWf = true) :
    (s.folioPost r).storesWf = true := by
  unfold State.folioPost
  try simp +zetaDelta (maxDischargeDepth := 40) (decide := false) only [h, stores_folio, State.folioStop_stores,
      stores_ite, stores_ite_fst, implies_true, forall_const]
  all_goals repeat' (split <;> try simp +zetaDelta (maxDischargeDepth := 40) (decide := false) only [h,
      stores_folio, State.folioStop_stores, stores_ite, stores_ite_fst, implies_true, forall_const])

theorem State.folioTrigger_stores (s : State) (r : FolioRec) (h : s.storesWf = true) :
    (s.folioTrigger r).storesWf = true := by
  unfold State.folioTrigger
  try simp +zetaDelta (maxDischargeDepth := 40) (decide := false) only [h, stores_folio, State.folioPost_stores,
      stores_ite, stores_ite_fst, implies_true, forall_const]
  all_goals repeat' (split <;> try simp +zetaDelta (maxDischargeDepth := 40) (decide := false) only [h,
      stores_folio, State.folioPost_stores, stores_ite, stores_ite_fst, implies_true, forall_const])

theorem State.folioLose_stores (s : State) (h : s.storesWf = true) : s.folioLose.storesWf = true := by
  unfold State.folioLose
  simp +zetaDelta (maxDischargeDepth := 40) (decide := false) only [h, stores_folio, State.count32_stores,
      stores_ite, stores_ite_fst, implies_true, forall_const]

theorem State.record_stores (s : State) (r0 : FolioRec) (h : s.storesWf = true) :
    (s.record r0).storesWf = true := by
  unfold State.record
  try simp +zetaDelta (maxDischargeDepth := 40) (decide := false) only [h, stores_folio,
      State.folioTrigger_stores, State.folioPost_stores, State.folioLose_stores, State.count32_stores, stores_ite, stores_ite_fst,
      implies_true, forall_const]
  all_goals repeat' (split <;> try simp +zetaDelta (maxDischargeDepth := 40) (decide := false) only [h,
      stores_folio, State.folioTrigger_stores, State.folioPost_stores, State.folioLose_stores, State.count32_stores, stores_ite,
      stores_ite_fst, implies_true, forall_const])

theorem State.folioMark_stores (s : State) (hub : Bool) (p : Nat) (cause : Nat) (data : BitVec 64) (h : s.storesWf =
    true) :
    (s.folioMark hub p cause data).storesWf = true := by
  unfold State.folioMark
  try simp +zetaDelta (maxDischargeDepth := 40) (decide := false) only [h, State.folioTrigger_stores, stores_ite,
      stores_ite_fst, implies_true, forall_const]
  all_goals repeat' (split <;> try simp +zetaDelta (maxDischargeDepth := 40) (decide := false) only [h,
      State.folioTrigger_stores, stores_ite, stores_ite_fst, implies_true, forall_const])

end Sys2Proof.Machine
end

