-- ==== Sys2Proof/Laws/StoresNet.lean ====
section
/-! SUPPORT. The operations of Net.lean keep the sparse stores in their canonical form. -/

set_option linter.all false

namespace Sys2Proof.Machine

theorem State.noteRoutes_stores (before : State) (s : State) (h : s.storesWf = true) :
    (State.noteRoutes before s).storesWf = true := by
  unfold State.noteRoutes
  refine stores_lostSince _ _ h ?_
  have hl := lostSince_wf h
  generalize s.lostSince = l at hl ⊢
  generalize s.routes = r
  induction r generalizing l with
  | nil => exact hl
  | cons x xs ih =>
    simp only [List.foldl_cons]
    apply ih
    split
    · exact Sparse.wf_put _ _ hl
    · exact hl

theorem State.putRoute_stores (s : State) (k : RouteKey) (e : BitVec 32) (h : s.storesWf = true) :
    (s.putRoute k e).storesWf = true := by
  unfold State.putRoute
  exact State.noteRoutes_stores _ _ (stores_routes _ _ h (Sparse.wf_put _ _ (routes_wf h)))

theorem State.sendFlit_stores (s : State) (c : Nat) (ftype : BitVec 4) (head : Bool) (fseq : BitVec 12) (payload :
    BitVec 192) (h : s.storesWf = true) :
    (s.sendFlit c ftype head fseq payload).storesWf = true := by
  unfold State.sendFlit
  try simp +zetaDelta (maxDischargeDepth := 40) (decide := false) only [h, State.count_stores, State.drive_stores,
      State.setLink_stores, stores_ite, stores_ite_fst, implies_true, forall_const]
  all_goals repeat' (split <;> try simp +zetaDelta (maxDischargeDepth := 40) (decide := false) only [h,
      State.count_stores, State.drive_stores, State.setLink_stores, stores_ite, stores_ite_fst, implies_true,
      forall_const])

theorem State.stockSent_stores (s : State) (p : Nat) (h : s.storesWf = true) :
    (s.stockSent p).storesWf = true := by
  unfold State.stockSent
  try simp +zetaDelta (maxDischargeDepth := 40) (decide := false) only [h, State.count_stores, stores_ite,
      stores_ite_fst, implies_true, forall_const]
  all_goals repeat' (split <;> try simp +zetaDelta (maxDischargeDepth := 40) (decide := false) only [h,
      State.count_stores, stores_ite, stores_ite_fst, implies_true, forall_const])

theorem State.stockRecv_stores (s : State) (p : Nat) (h : s.storesWf = true) :
    (s.stockRecv p).storesWf = true := by
  unfold State.stockRecv
  try simp +zetaDelta (maxDischargeDepth := 40) (decide := false) only [h, State.count_stores, stores_ite,
      stores_ite_fst, implies_true, forall_const]
  all_goals repeat' (split <;> try simp +zetaDelta (maxDischargeDepth := 40) (decide := false) only [h,
      State.count_stores, stores_ite, stores_ite_fst, implies_true, forall_const])

theorem State.stockAct_stores (s : State) (p : Nat) (h : s.storesWf = true) :
    (s.stockAct p).storesWf = true := by
  unfold State.stockAct
  try simp +zetaDelta (maxDischargeDepth := 40) (decide := false) only [h, State.count_stores, stores_ite,
      stores_ite_fst, implies_true, forall_const]
  all_goals repeat' (split <;> try simp +zetaDelta (maxDischargeDepth := 40) (decide := false) only [h,
      State.count_stores, stores_ite, stores_ite_fst, implies_true, forall_const])

theorem State.sendFlits_stores (s : State) (c : Nat) (m : TxMsg) (x3 : List TxFlit) (h : s.storesWf = true) :
    (s.sendFlits c m x3).1.storesWf = true := by
  fun_induction State.sendFlits s c m x3
  all_goals try simp +zetaDelta (maxDischargeDepth := 40) only [*, State.sendFlit_stores, State.setLink_stores,
      State.count_stores, State.stockSent_stores, stores_ite, stores_ite_fst, implies_true, forall_const]
  all_goals repeat' (split <;> try simp +zetaDelta (maxDischargeDepth := 40) only [*, State.sendFlit_stores,
      State.setLink_stores, State.count_stores, State.stockSent_stores, stores_ite, stores_ite_fst, implies_true,
      forall_const])

theorem State.sendQueue_stores (s : State) (c : Nat) (blocked : List Nat) (x3 : List TxMsg) (h : s.storesWf = true)
    :
    (s.sendQueue c blocked x3).1.storesWf = true := by
  fun_induction State.sendQueue s c blocked x3
  · exact h
  · rename_i e ih; rw [e] at ih; exact ih h
  · rename_i s1 b1 m1 ms1 hb s0 e ih
    have k := State.sendFlits_stores s1 c m1 m1.flits h; rw [e] at k; exact ih k
  · rename_i s1 b1 m1 ms1 hb s0 fs1 hne e s2 r2 e2 ih
    have k := State.sendFlits_stores s1 c m1 m1.flits h; rw [e] at k; rw [e2] at ih
    exact ih k

theorem State.pump_stores (s : State) (c : Nat) (h : s.storesWf = true) :
    (s.pump c).storesWf = true := by
  unfold State.pump
  try simp +zetaDelta (maxDischargeDepth := 40) (decide := false) only [h, State.sendQueue_stores,
      State.setLink_stores, State.modLink_stores, stores_ite, stores_ite_fst, implies_true, forall_const]
  all_goals repeat' (split <;> try simp +zetaDelta (maxDischargeDepth := 40) (decide := false) only [h,
      State.sendQueue_stores, State.setLink_stores, State.modLink_stores, stores_ite, stores_ite_fst,
      implies_true, forall_const])

theorem State.queueOn_stores (s : State) (c : Nat) (vl : Nat) (m : Msg) (about : Option Nat) (fwd : Bool) (h :
    s.storesWf = true) :
    (s.queueOn c vl m about fwd).storesWf = true := by
  unfold State.queueOn
  try simp +zetaDelta (maxDischargeDepth := 40) (decide := false) only [h, State.pump_stores,
      State.modLink_stores, stores_ite, stores_ite_fst, implies_true, forall_const]
  all_goals repeat' (split <;> try simp +zetaDelta (maxDischargeDepth := 40) (decide := false) only [h,
      State.pump_stores, State.modLink_stores, stores_ite, stores_ite_fst, implies_true, forall_const])

theorem State.holdMsg_stores (s : State) (m : Msg) (why : WaitWhy) (about : Option Nat) (fwd : Bool) (h : s.storesWf
    = true) :
    (s.holdMsg m why about fwd).storesWf = true := by
  exact stores_of_wipe (State.holdMsg_wipe s m why about fwd 0x7dfa7c1cf2fff (by decide)) h

theorem State.sendRaw_stores (s : State) (m : Msg) (about : Option Nat) (fwd : Bool) (h : s.storesWf = true) :
    (s.sendRaw m about fwd).storesWf = true := by
  unfold State.sendRaw
  try simp +zetaDelta (maxDischargeDepth := 40) (decide := false) only [h, stores_inbox, State.holdMsg_stores,
      State.queueOn_stores, stores_ite, stores_ite_fst, implies_true, forall_const]
  all_goals repeat' (split <;> try simp +zetaDelta (maxDischargeDepth := 40) (decide := false) only [h,
      stores_inbox, State.holdMsg_stores, State.queueOn_stores, stores_ite, stores_ite_fst, implies_true,
      forall_const])

theorem State.recordDiscard_stores (s : State) (c : Nat) (m : Msg) (h : s.storesWf = true) :
    (s.recordDiscard c m).storesWf = true := by
  unfold State.recordDiscard
  try simp +zetaDelta (maxDischargeDepth := 40) (decide := false) only [h, State.record_stores, stores_ite,
      stores_ite_fst, implies_true, forall_const]
  all_goals repeat' (split <;> try simp +zetaDelta (maxDischargeDepth := 40) (decide := false) only [h,
      State.record_stores, stores_ite, stores_ite_fst, implies_true, forall_const])

theorem State.refuseLevel_stores (s : State) (c : Nat) (m : Msg) (h : s.storesWf = true) :
    (s.refuseLevel c m).storesWf = true := by
  unfold State.refuseLevel
  try simp +zetaDelta (maxDischargeDepth := 40) (decide := false) only [h, State.recordDiscard_stores,
      State.bump_stores, State.sendRaw_stores, stores_ite, stores_ite_fst, implies_true, forall_const]
  all_goals repeat' (split <;> try simp +zetaDelta (maxDischargeDepth := 40) (decide := false) only [h,
      State.recordDiscard_stores, State.bump_stores, State.sendRaw_stores, stores_ite, stores_ite_fst,
      implies_true, forall_const])

theorem State.send_stores (s : State) (m : Msg) (about : optParam (Option Nat) Option.none) (fwd : optParam Bool
    Bool.false) (h : s.storesWf = true) :
    (s.send m about fwd).storesWf = true := by
  unfold State.send
  try simp +zetaDelta (maxDischargeDepth := 40) (decide := false) only [h, State.sendRaw_stores,
      State.refuseLevel_stores, stores_ite, stores_ite_fst, implies_true, forall_const]
  all_goals repeat' (split <;> try simp +zetaDelta (maxDischargeDepth := 40) (decide := false) only [h,
      State.sendRaw_stores, State.refuseLevel_stores, stores_ite, stores_ite_fst, implies_true, forall_const])

theorem State.resend_stores (s : State) (x1 : List WaitMsg) (h : s.storesWf = true) :
    (s.resend x1).storesWf = true := by
  fun_induction State.resend s x1
  all_goals try simp +zetaDelta (maxDischargeDepth := 40) only [*, State.send_stores, stores_ite, stores_ite_fst,
      implies_true, forall_const]
  all_goals repeat' (split <;> try simp +zetaDelta (maxDischargeDepth := 40) only [*, State.send_stores,
      stores_ite, stores_ite_fst, implies_true, forall_const])

theorem State.releaseWaiting_stores (s : State) (p : WaitMsg → Bool) (h : s.storesWf = true) :
    (s.releaseWaiting p).storesWf = true := by
  unfold State.releaseWaiting
  try simp +zetaDelta (maxDischargeDepth := 40) (decide := false) only [h, stores_waitMsgs, State.resend_stores,
      stores_ite, stores_ite_fst, implies_true, forall_const]
  all_goals repeat' (split <;> try simp +zetaDelta (maxDischargeDepth := 40) (decide := false) only [h,
      stores_waitMsgs, State.resend_stores, stores_ite, stores_ite_fst, implies_true, forall_const])

theorem State.retryStranded_stores (s : State) (h : s.storesWf = true) :
    (s.retryStranded).storesWf = true := by
  unfold State.retryStranded
  try simp +zetaDelta (maxDischargeDepth := 40) (decide := false) only [h, State.releaseWaiting_stores,
      stores_ite, stores_ite_fst, implies_true, forall_const]
  all_goals repeat' (split <;> try simp +zetaDelta (maxDischargeDepth := 40) (decide := false) only [h,
      State.releaseWaiting_stores, stores_ite, stores_ite_fst, implies_true, forall_const])

theorem State.linkNote_stores (s : State) (c : Nat) (prev : Nat) (reason : Nat) (parts : Nat) (abandoned : Nat) (h :
    s.storesWf = true) :
    (s.linkNote c prev reason parts abandoned).storesWf = true := by
  unfold State.linkNote
  try simp +zetaDelta (maxDischargeDepth := 40) (decide := false) only [h, State.notifyRing_stores, stores_ite,
      stores_ite_fst, implies_true, forall_const]
  all_goals repeat' (split <;> try simp +zetaDelta (maxDischargeDepth := 40) (decide := false) only [h,
      State.notifyRing_stores, stores_ite, stores_ite_fst, implies_true, forall_const])

theorem State.checkHoldover_stores (s : State) (c : Nat) (h : s.storesWf = true) :
    (s.checkHoldover c).storesWf = true := by
  unfold State.checkHoldover
  try simp +zetaDelta (maxDischargeDepth := 40) (decide := false) only [h, stores_sync, State.linkNote_stores,
      stores_ite, stores_ite_fst, implies_true, forall_const]
  all_goals repeat' (split <;> try simp +zetaDelta (maxDischargeDepth := 40) (decide := false) only [h,
      stores_sync, State.linkNote_stores, stores_ite, stores_ite_fst, implies_true, forall_const])

theorem State.moveLink_stores (s : State) (c : Nat) (st : LinkState) (reason : Nat) (parts : Nat) (abandoned : Nat)
    (h : s.storesWf = true) :
    (s.moveLink c st reason parts abandoned).storesWf = true := by
  unfold State.moveLink
  try simp +zetaDelta (maxDischargeDepth := 40) (decide := false) only [h, State.modLink_stores,
      State.linkNote_stores, State.noteRoutes_stores, State.retryStranded_stores, State.pump_stores,
      State.checkHoldover_stores, stores_ite, stores_ite_fst, implies_true, forall_const]
  all_goals repeat' (split <;> try simp +zetaDelta (maxDischargeDepth := 40) (decide := false) only [h,
      State.modLink_stores, State.linkNote_stores, State.noteRoutes_stores, State.retryStranded_stores,
      State.pump_stores, State.checkHoldover_stores, stores_ite, stores_ite_fst, implies_true, forall_const])

end Sys2Proof.Machine
end

