-- ==== Sys2Proof/Laws/StoresDelivery.lean ====
section
/-! SUPPORT. The operations of Delivery.lean keep the sparse stores in their canonical form. -/

set_option linter.all false

namespace Sys2Proof.Machine

theorem State.pcount_stores (s : State) (sub : Nat) (p : Nat) (n : Nat) (h : s.storesWf = true) :
    (s.pcount sub p n).storesWf = true := by
  unfold State.pcount
  try simp +zetaDelta (maxDischargeDepth := 40) (decide := false) only [h, State.count_stores, stores_ite,
      stores_ite_fst, implies_true, forall_const]
  all_goals repeat' (split <;> try simp +zetaDelta (maxDischargeDepth := 40) (decide := false) only [h,
      State.count_stores, stores_ite, stores_ite_fst, implies_true, forall_const])

theorem State.act_stores (s : State) (p : Nat) (h : s.storesWf = true) :
    (s.act p).storesWf = true := by
  unfold State.act
  try simp +zetaDelta (maxDischargeDepth := 40) (decide := false) only [h, State.stockAct_stores, stores_ite,
      stores_ite_fst, implies_true, forall_const]
  all_goals repeat' (split <;> try simp +zetaDelta (maxDischargeDepth := 40) (decide := false) only [h,
      State.stockAct_stores, stores_ite, stores_ite_fst, implies_true, forall_const])

theorem State.respond_stores (s : State) (o : HomeOp) (st : Status) (result : Nat) (v : BitVec 64) (h : s.storesWf =
    true) :
    (s.respond o st result v).storesWf = true := by
  unfold State.respond
  try simp +zetaDelta (maxDischargeDepth := 40) (decide := false) only [h, stores_rets, State.send_stores,
      stores_ite, stores_ite_fst, implies_true, forall_const]
  all_goals repeat' (split <;> try simp +zetaDelta (maxDischargeDepth := 40) (decide := false) only [h,
      stores_rets, State.send_stores, stores_ite, stores_ite_fst, implies_true, forall_const])

theorem State.countRefused_stores (s : State) (o : HomeOp) (st : Status) (h : s.storesWf = true) :
    (s.countRefused o st).storesWf = true := by
  unfold State.countRefused
  try simp +zetaDelta (maxDischargeDepth := 40) (decide := false) only [h, State.count_stores,
      State.pcount_stores, State.record_stores, stores_ite, stores_ite_fst, implies_true, forall_const]
  all_goals repeat' (split <;> try simp +zetaDelta (maxDischargeDepth := 40) (decide := false) only [h,
      State.count_stores, State.pcount_stores, State.record_stores, stores_ite, stores_ite_fst, implies_true,
      forall_const])

theorem State.conclude_stores (s : State) (o : HomeOp) (st : Status) (result : Nat) (v : BitVec 64) (h : s.storesWf
    = true) :
    (s.conclude o st result v).storesWf = true := by
  unfold State.conclude
  try simp +zetaDelta (maxDischargeDepth := 40) (decide := false) only [h, State.respond_stores,
      State.countRefused_stores, stores_ite, stores_ite_fst, implies_true, forall_const]
  all_goals repeat' (split <;> try simp +zetaDelta (maxDischargeDepth := 40) (decide := false) only [h,
      State.respond_stores, State.countRefused_stores, stores_ite, stores_ite_fst, implies_true, forall_const])

theorem State.actOp_stores (s : State) (o : HomeOp) (h : s.storesWf = true) :
    (s.actOp o).storesWf = true := by
  unfold State.actOp
  try simp +zetaDelta (maxDischargeDepth := 40) (decide := false) only [h, State.act_stores, stores_ite,
      stores_ite_fst, implies_true, forall_const]
  all_goals repeat' (split <;> try simp +zetaDelta (maxDischargeDepth := 40) (decide := false) only [h,
      State.act_stores, stores_ite, stores_ite_fst, implies_true, forall_const])

theorem State.refuse_stores (s : State) (o : HomeOp) (st : Status) (h : s.storesWf = true) :
    (s.refuse o st).storesWf = true := by
  unfold State.refuse
  try simp +zetaDelta (maxDischargeDepth := 40) (decide := false) only [h, State.conclude_stores,
      State.actOp_stores, stores_ite, stores_ite_fst, implies_true, forall_const]
  all_goals repeat' (split <;> try simp +zetaDelta (maxDischargeDepth := 40) (decide := false) only [h,
      State.conclude_stores, State.actOp_stores, stores_ite, stores_ite_fst, implies_true, forall_const])

theorem State.reach12_stores (s : State) (o : HomeOp) (h : s.storesWf = true) :
    (s.reach12 o).storesWf = true := by
  unfold State.reach12
  try simp +zetaDelta (maxDischargeDepth := 40) (decide := false) only [h, State.count_stores,
      State.pcount_stores, State.actOp_stores, State.fresh_stores, State.countMax_stores, stores_ite,
      stores_ite_fst, implies_true, forall_const]
  all_goals repeat' (split <;> try simp +zetaDelta (maxDischargeDepth := 40) (decide := false) only [h,
      State.count_stores, State.pcount_stores, State.actOp_stores, State.fresh_stores, State.countMax_stores,
      stores_ite, stores_ite_fst, implies_true, forall_const])

theorem State.recordOp_stores (s : State) (o : HomeOp) (st : Status) (result : Nat) (h : s.storesWf = true) :
    (s.recordOp o st result).storesWf = true := by
  unfold State.recordOp
  try simp +zetaDelta (maxDischargeDepth := 40) (decide := false) only [h, State.record_stores, stores_ite,
      stores_ite_fst, implies_true, forall_const]
  all_goals repeat' (split <;> try simp +zetaDelta (maxDischargeDepth := 40) (decide := false) only [h,
      State.record_stores, stores_ite, stores_ite_fst, implies_true, forall_const])

theorem State.finish_stores (s : State) (o : HomeOp) (st : Status) (result : Nat) (v : BitVec 64) (h : s.storesWf =
    true) :
    (s.finish o st result v).storesWf = true := by
  unfold State.finish
  try simp +zetaDelta (maxDischargeDepth := 40) (decide := false) only [h, State.conclude_stores,
      State.recordOp_stores, stores_ite, stores_ite_fst, implies_true, forall_const]
  all_goals repeat' (split <;> try simp +zetaDelta (maxDischargeDepth := 40) (decide := false) only [h,
      State.conclude_stores, State.recordOp_stores, stores_ite, stores_ite_fst, implies_true, forall_const])

theorem State.countGrant_stores (s : State) (o : HomeOp) (h : s.storesWf = true) :
    (s.countGrant o).storesWf = true := by
  unfold State.countGrant
  try simp +zetaDelta (maxDischargeDepth := 40) (decide := false) only [h, State.pcount_stores,
      State.countMax_stores, stores_ite, stores_ite_fst, implies_true, forall_const]
  all_goals repeat' (split <;> try simp +zetaDelta (maxDischargeDepth := 40) (decide := false) only [h,
      State.pcount_stores, State.countMax_stores, stores_ite, stores_ite_fst, implies_true, forall_const])

theorem State.recordGrant_stores (s : State) (o : HomeOp) (st : Status) (h : s.storesWf = true) :
    (s.recordGrant o st).storesWf = true := by
  unfold State.recordGrant
  try simp +zetaDelta (maxDischargeDepth := 40) (decide := false) only [h, State.record_stores, stores_ite,
      stores_ite_fst, implies_true, forall_const]
  all_goals repeat' (split <;> try simp +zetaDelta (maxDischargeDepth := 40) (decide := false) only [h,
      State.record_stores, stores_ite, stores_ite_fst, implies_true, forall_const])

theorem State.offer_stores (s : State) (p : Nat) (r : Rsp) (h : s.storesWf = true) :
    (s.offer p r).storesWf = true := by
  unfold State.offer
  try simp +zetaDelta (maxDischargeDepth := 40) (decide := false) only [h, State.setPort_stores, stores_ite,
      stores_ite_fst, implies_true, forall_const]
  all_goals repeat' (split <;> try simp +zetaDelta (maxDischargeDepth := 40) (decide := false) only [h,
      State.setPort_stores, stores_ite, stores_ite_fst, implies_true, forall_const])

theorem State.offerAll_stores (s : State) (p : Nat) (x2 : List Rsp) (h : s.storesWf = true) :
    (s.offerAll p x2).storesWf = true := by
  fun_induction State.offerAll s p x2
  all_goals try simp +zetaDelta (maxDischargeDepth := 40) only [*, State.offer_stores, stores_ite, stores_ite_fst,
      implies_true, forall_const]
  all_goals repeat' (split <;> try simp +zetaDelta (maxDischargeDepth := 40) only [*, State.offer_stores,
      stores_ite, stores_ite_fst, implies_true, forall_const])

theorem State.deliverCovered_stores (s : State) (p : Nat) (x2 : List Rsp) (h : s.storesWf = true) :
    (s.deliverCovered p x2).storesWf = true := by
  fun_induction State.deliverCovered s p x2
  all_goals try simp +zetaDelta (maxDischargeDepth := 40) only [*, State.setPort_stores, stores_ite,
      stores_ite_fst, implies_true, forall_const]
  all_goals repeat' (split <;> try simp +zetaDelta (maxDischargeDepth := 40) only [*, State.setPort_stores,
      stores_ite, stores_ite_fst, implies_true, forall_const])

theorem State.pendArrive_stores (s : State) (p : Nat) (e : Pend) (word : BitVec 64) (v : Option (BitVec 64)) (h :
    s.storesWf = true) :
    (s.pendArrive p e word v).storesWf = true := by
  unfold State.pendArrive
  try simp +zetaDelta (maxDischargeDepth := 40) (decide := false) only [h, State.offer_stores,
      State.setPort_stores, stores_ite, stores_ite_fst, implies_true, forall_const]
  all_goals repeat' (split <;> try simp +zetaDelta (maxDischargeDepth := 40) (decide := false) only [h,
      State.offer_stores, State.setPort_stores, stores_ite, stores_ite_fst, implies_true, forall_const])

theorem State.retPort_stores (s : State) (p : Nat) (r : Ret) (h : s.storesWf = true) :
    (s.retPort p r).storesWf = true := by
  unfold State.retPort
  try simp +zetaDelta (maxDischargeDepth := 40) (decide := false) only [h, State.pendArrive_stores,
      State.pcount_stores, stores_ite, stores_ite_fst, implies_true, forall_const]
  all_goals repeat' (split <;> try simp +zetaDelta (maxDischargeDepth := 40) (decide := false) only [h,
      State.pendArrive_stores, State.pcount_stores, stores_ite, stores_ite_fst, implies_true, forall_const])

theorem State.retSlot_stores (s : State) (r : Ret) (h : s.storesWf = true) :
    (s.retSlot r).storesWf = true := by
  unfold State.retSlot
  try simp +zetaDelta (maxDischargeDepth := 40) (decide := false) only [h, State.setSlot_stores,
      State.pcount_stores, stores_ite, stores_ite_fst, implies_true, forall_const]
  all_goals repeat' (split <;> try simp +zetaDelta (maxDischargeDepth := 40) (decide := false) only [h,
      State.setSlot_stores, State.pcount_stores, stores_ite, stores_ite_fst, implies_true, forall_const])

theorem State.deliverNext_stores (s : State) (t : RspTarget) (h : s.storesWf = true) :
    (s.deliverNext t).storesWf = true := by
  unfold State.deliverNext
  try simp +zetaDelta (maxDischargeDepth := 40) (decide := false) only [h, stores_rets, State.retPort_stores,
      State.retSlot_stores, stores_ite, stores_ite_fst, implies_true, forall_const]
  all_goals repeat' (split <;> try simp +zetaDelta (maxDischargeDepth := 40) (decide := false) only [h,
      stores_rets, State.retPort_stores, State.retSlot_stores, stores_ite, stores_ite_fst, implies_true,
      forall_const])

theorem State.answerPend_stores (s : State) (p : Nat) (e : Pend) (st : Status) (result : Nat) (v : BitVec 64) (h :
    s.storesWf = true) :
    (s.answerPend p e st result v).storesWf = true := by
  unfold State.answerPend
  try simp +zetaDelta (maxDischargeDepth := 40) (decide := false) only [h, State.pendArrive_stores, stores_ite,
      stores_ite_fst, implies_true, forall_const]
  all_goals repeat' (split <;> try simp +zetaDelta (maxDischargeDepth := 40) (decide := false) only [h,
      State.pendArrive_stores, stores_ite, stores_ite_fst, implies_true, forall_const])

end Sys2Proof.Machine
end

