-- ==== Sys2Proof/Laws/StoresWaiters.lean ====
section
/-! SUPPORT. The operations of Waiters.lean keep the sparse stores in their canonical form. -/

set_option linter.all false

namespace Sys2Proof.Machine

theorem State.addWaiter_stores (s : State) (pm : Bool) (p : Nat) (w : Waiter) (h : s.storesWf = true) :
    ∀ t, s.addWaiter pm p w = some t → t.storesWf = true := by
  intro t e
  unfold State.addWaiter at e
  obtain ⟨n, -, e2⟩ := Option.map_eq_some_iff.mp e
  subst e2
  simp +zetaDelta (maxDischargeDepth := 40) (decide := false) only [h, stores_waiters, State.fresh_stores,
      State.countMax_stores, stores_ite, stores_ite_fst, implies_true, forall_const]

theorem State.exhausted_stores (s : State) (p : Nat) (h : s.storesWf = true) :
    (s.exhausted p).storesWf = true := by
  unfold State.exhausted
  try simp +zetaDelta (maxDischargeDepth := 40) (decide := false) only [h, State.pcount_stores, stores_ite,
      stores_ite_fst, implies_true, forall_const]
  all_goals repeat' (split <;> try simp +zetaDelta (maxDischargeDepth := 40) (decide := false) only [h,
      State.pcount_stores, stores_ite, stores_ite_fst, implies_true, forall_const])

theorem State.freeWaiter_stores (s : State) (w : Waiter) (h : s.storesWf = true) :
    (s.freeWaiter w).storesWf = true := by
  exact stores_of_wipe (State.freeWaiter_wipe s w 0x7dfa7c1cf2fff (by decide)) h

theorem State.setLender_stores (s : State) (e : Lender) (h : s.storesWf = true) :
    (s.setLender e).storesWf = true := by
  exact stores_of_wipe (State.setLender_wipe s e 0x7dfa7c1cf2fff (by decide)) h

theorem State.setLedger_stores (s : State) (e : Ledger) (h : s.storesWf = true) :
    (s.setLedger e).storesWf = true := by
  exact stores_of_wipe (State.setLedger_wipe s e 0x7dfa7c1cf2fff (by decide)) h

theorem State.clearReq_stores (s : State) (w : Waiter) (h : s.storesWf = true) :
    (s.clearReq w).storesWf = true := by
  exact stores_of_wipe (State.clearReq_wipe s w 0x7dfa7c1cf2fff (by decide)) h

theorem State.endWaiter_stores (s : State) (w : Waiter) (st : Status) (h : s.storesWf = true) :
    (s.endWaiter w st).storesWf = true := by
  unfold State.endWaiter
  try simp +zetaDelta (maxDischargeDepth := 40) (decide := false) only [h, State.freeWaiter_stores,
      State.clearReq_stores, State.conclude_stores, stores_ite, stores_ite_fst, implies_true, forall_const]
  all_goals repeat' (split <;> try simp +zetaDelta (maxDischargeDepth := 40) (decide := false) only [h,
      State.freeWaiter_stores, State.clearReq_stores, State.conclude_stores, stores_ite, stores_ite_fst,
      implies_true, forall_const])

theorem State.endWaiters_stores (s : State) (st : Status) (x2 : List Waiter) (h : s.storesWf = true) :
    (s.endWaiters st x2).storesWf = true := by
  fun_induction State.endWaiters s st x2
  all_goals try simp +zetaDelta (maxDischargeDepth := 40) only [*, State.endWaiter_stores, stores_ite,
      stores_ite_fst, implies_true, forall_const]
  all_goals repeat' (split <;> try simp +zetaDelta (maxDischargeDepth := 40) only [*, State.endWaiter_stores,
      stores_ite, stores_ite_fst, implies_true, forall_const])

theorem State.unwaitParked_stores (s : State) (w : Waiter) (h : s.storesWf = true) :
    (s.unwaitParked w).storesWf = true := by
  exact stores_of_wipe (State.unwaitParked_wipe s w 0x7dfa7c1cf2fff (by decide)) h

theorem State.endWait_stores (s : State) (w : Waiter) (st : Status) (h : s.storesWf = true) :
    (s.endWait w st).storesWf = true := by
  unfold State.endWait
  try simp +zetaDelta (maxDischargeDepth := 40) (decide := false) only [h, State.conclude_stores,
      State.unwaitParked_stores, State.endWaiter_stores, stores_ite, stores_ite_fst, implies_true, forall_const]
  all_goals repeat' (split <;> try simp +zetaDelta (maxDischargeDepth := 40) (decide := false) only [h,
      State.conclude_stores, State.unwaitParked_stores, State.endWaiter_stores, stores_ite, stores_ite_fst,
      implies_true, forall_const])

theorem State.grant_stores (s : State) (w : Waiter) (st : Status) (result : Nat) (v : BitVec 64) (h : s.storesWf =
    true) :
    (s.grant w st result v).storesWf = true := by
  unfold State.grant
  try simp +zetaDelta (maxDischargeDepth := 40) (decide := false) only [h, State.conclude_stores,
      State.recordGrant_stores, State.countGrant_stores, State.freeWaiter_stores, stores_ite, stores_ite_fst,
      implies_true, forall_const]
  all_goals repeat' (split <;> try simp +zetaDelta (maxDischargeDepth := 40) (decide := false) only [h,
      State.conclude_stores, State.recordGrant_stores, State.countGrant_stores, State.freeWaiter_stores,
      stores_ite, stores_ite_fst, implies_true, forall_const])

end Sys2Proof.Machine
end

