-- ==== Sys2Proof/Laws/StoresLatch.lean ====
section
/-! SUPPORT. The operations of Latch.lean keep the sparse stores in their canonical form. -/

set_option linter.all false

namespace Sys2Proof.Machine

theorem State.endNear_stores (s : State) (p : Nat) (st : Status) (w : NearWait) (h : s.storesWf = true) :
    (s.endNear p st w).storesWf = true := by
  unfold State.endNear
  try simp +zetaDelta (maxDischargeDepth := 40) (decide := false) only [h, State.modPort_stores,
      State.offer_stores, State.countRefused_stores, stores_ite, stores_ite_fst, implies_true, forall_const]
  all_goals repeat' (split <;> try simp +zetaDelta (maxDischargeDepth := 40) (decide := false) only [h,
      State.modPort_stores, State.offer_stores, State.countRefused_stores, stores_ite, stores_ite_fst,
      implies_true, forall_const])

theorem State.endNears_stores (s : State) (p : Nat) (st : Status) (x3 : List NearWait) (h : s.storesWf = true) :
    (s.endNears p st x3).storesWf = true := by
  fun_induction State.endNears s p st x3
  all_goals try simp +zetaDelta (maxDischargeDepth := 40) only [*, State.endNear_stores, stores_ite,
      stores_ite_fst, implies_true, forall_const]
  all_goals repeat' (split <;> try simp +zetaDelta (maxDischargeDepth := 40) only [*, State.endNear_stores,
      stores_ite, stores_ite_fst, implies_true, forall_const])

theorem State.discardOps_stores (s : State) (x1 : List HomeOp) (h : s.storesWf = true) :
    (s.discardOps x1).storesWf = true := by
  fun_induction State.discardOps s x1
  all_goals try simp +zetaDelta (maxDischargeDepth := 40) only [*, State.countRefused_stores, stores_ite,
      stores_ite_fst, implies_true, forall_const]
  all_goals repeat' (split <;> try simp +zetaDelta (maxDischargeDepth := 40) only [*, State.countRefused_stores,
      stores_ite, stores_ite_fst, implies_true, forall_const])

theorem State.endPends_stores (s : State) (p : Nat) (st : Status) (x3 : List Pend) (h : s.storesWf = true) :
    (s.endPends p st x3).storesWf = true := by
  fun_induction State.endPends s p st x3
  all_goals try simp +zetaDelta (maxDischargeDepth := 40) only [*, State.answerPend_stores,
      State.countRefused_stores, stores_ite, stores_ite_fst, implies_true, forall_const]
  all_goals repeat' (split <;> try simp +zetaDelta (maxDischargeDepth := 40) only [*, State.answerPend_stores,
      State.countRefused_stores, stores_ite, stores_ite_fst, implies_true, forall_const])

theorem State.latchPort_stores (s : State) (p : Nat) (h : s.storesWf = true) :
    (s.latchPort p).storesWf = true := by
  unfold State.latchPort
  try simp +zetaDelta (maxDischargeDepth := 40) (decide := false) only [h, State.setPort_stores,
      State.discardOps_stores, State.endNears_stores, State.endPends_stores, stores_ite, stores_ite_fst,
      implies_true, forall_const]
  all_goals repeat' (split <;> try simp +zetaDelta (maxDischargeDepth := 40) (decide := false) only [h,
      State.setPort_stores, State.discardOps_stores, State.endNears_stores, State.endPends_stores, stores_ite,
      stores_ite_fst, implies_true, forall_const])

theorem State.each_stores (s : State) (f : State → Nat → State) (x2 : List Nat) (h : s.storesWf = true) (hf : ∀ s n,
    s.storesWf = true → (f s n).storesWf = true) :
    (s.each f x2).storesWf = true := by
  fun_induction State.each s f x2
  · exact h
  · rename_i ih
    exact ih (hf _ _ h)

theorem State.latchSlot_stores (s : State) (g : Nat) (h : s.storesWf = true) :
    (s.latchSlot g).storesWf = true := by
  unfold State.latchSlot
  try simp +zetaDelta (maxDischargeDepth := 40) (decide := false) only [h, State.discardOps_stores,
      State.countRefused_stores, State.setSlot_stores, stores_ite, stores_ite_fst, implies_true, forall_const]
  all_goals repeat' (split <;> try simp +zetaDelta (maxDischargeDepth := 40) (decide := false) only [h,
      State.discardOps_stores, State.countRefused_stores, State.setSlot_stores, stores_ite, stores_ite_fst,
      implies_true, forall_const])

theorem State.failPart_stores (s : State) (p : Nat) (h : s.storesWf = true) :
    (s.failPart p).storesWf = true := by
  unfold State.failPart
  try simp +contextual +zetaDelta (maxDischargeDepth := 40) (decide := false) only [h, State.each_stores,
      State.latchPort_stores, State.latchSlot_stores, State.modPart_stores, State.endWaiters_stores, stores_ite,
      stores_ite_fst, implies_true, forall_const]
  all_goals repeat' (split <;> try simp +contextual +zetaDelta (maxDischargeDepth := 40) (decide := false) only
      [h, State.each_stores, State.latchPort_stores, State.latchSlot_stores, State.modPart_stores,
      State.endWaiters_stores, stores_ite, stores_ite_fst, implies_true, forall_const])

theorem State.notice_stores (s : State) (p : Nat) (cause : Nat) (x3 : List HubId) (h : s.storesWf = true) :
    (s.notice p cause x3).storesWf = true := by
  fun_induction State.notice s p cause x3
  all_goals try simp +zetaDelta (maxDischargeDepth := 40) only [*, State.send_stores, State.bump_stores,
      stores_ite, stores_ite_fst, implies_true, forall_const]
  all_goals repeat' (split <;> try simp +zetaDelta (maxDischargeDepth := 40) only [*, State.send_stores,
      State.bump_stores, stores_ite, stores_ite_fst, implies_true, forall_const])

theorem State.latchOne_stores (d : Detection) (ps : List Nat) (s : State) (p : Nat) (h : s.storesWf = true) :
    (State.latchOne d ps s p).storesWf = true := by
  unfold State.latchOne
  try simp +zetaDelta (maxDischargeDepth := 40) (decide := false) only [h, State.bump_stores,
      State.notifyRing_stores, State.modPart_stores, State.folioMark_stores, State.notice_stores,
      State.failPart_stores, stores_ite, stores_ite_fst, implies_true, forall_const]
  all_goals repeat' (split <;> try simp +zetaDelta (maxDischargeDepth := 40) (decide := false) only [h,
      State.bump_stores, State.notifyRing_stores, State.modPart_stores, State.folioMark_stores,
      State.notice_stores, State.failPart_stores, stores_ite, stores_ite_fst, implies_true, forall_const])

theorem State.jobFault_stores (s : State) (d : Detection) (ps : List Nat) (h : s.storesWf = true) :
    (s.jobFault d ps).storesWf = true := by
  unfold State.jobFault
  try simp +contextual +zetaDelta (maxDischargeDepth := 40) (decide := false) only [h, State.each_stores,
      State.latchOne_stores, State.notifyRing_stores, stores_ite, stores_ite_fst, implies_true, forall_const]
  all_goals repeat' (split <;> try simp +contextual +zetaDelta (maxDischargeDepth := 40) (decide := false) only
      [h, State.each_stores, State.latchOne_stores, State.notifyRing_stores, stores_ite, stores_ite_fst,
      implies_true, forall_const])

theorem State.failOne_stores (s : State) (d : Detection) (p : Nat) (h : s.storesWf = true) :
    (s.failOne d p).storesWf = true := by
  unfold State.failOne
  try simp +zetaDelta (maxDischargeDepth := 40) (decide := false) only [h, State.jobFault_stores, stores_ite,
      stores_ite_fst, implies_true, forall_const]
  all_goals repeat' (split <;> try simp +zetaDelta (maxDischargeDepth := 40) (decide := false) only [h,
      State.jobFault_stores, stores_ite, stores_ite_fst, implies_true, forall_const])

theorem State.recordLoan_stores (s : State) (p : Nat) (k : LoanKind) (b : LoanBody) (sent : Bool) (h : s.storesWf =
    true) :
    (s.recordLoan p k b sent).storesWf = true := by
  unfold State.recordLoan
  try simp +zetaDelta (maxDischargeDepth := 40) (decide := false) only [h, State.record_stores, stores_ite,
      stores_ite_fst, implies_true, forall_const]
  all_goals repeat' (split <;> try simp +zetaDelta (maxDischargeDepth := 40) (decide := false) only [h,
      State.record_stores, stores_ite, stores_ite_fst, implies_true, forall_const])

theorem State.sendLoan_stores (s : State) (dst : HubId) (p : Nat) (k : LoanKind) (b : LoanBody) (h : s.storesWf =
    true) :
    (s.sendLoan dst p k b).storesWf = true := by
  unfold State.sendLoan
  try simp +zetaDelta (maxDischargeDepth := 40) (decide := false) only [h, State.recordLoan_stores,
      State.send_stores, stores_ite, stores_ite_fst, implies_true, forall_const]
  all_goals repeat' (split <;> try simp +zetaDelta (maxDischargeDepth := 40) (decide := false) only [h,
      State.recordLoan_stores, State.send_stores, stores_ite, stores_ite_fst, implies_true, forall_const])

theorem State.recallEntry_stores (s : State) (e : Lender) (h : s.storesWf = true) :
    (s.recallEntry e).storesWf = true := by
  unfold State.recallEntry
  try simp +zetaDelta (maxDischargeDepth := 40) (decide := false) only [h, State.sendLoan_stores,
      State.setLender_stores, stores_ite, stores_ite_fst, implies_true, forall_const]
  all_goals repeat' (split <;> try simp +zetaDelta (maxDischargeDepth := 40) (decide := false) only [h,
      State.sendLoan_stores, State.setLender_stores, stores_ite, stores_ite_fst, implies_true, forall_const])

theorem State.recallAll_stores (s : State) (x1 : List Lender) (h : s.storesWf = true) :
    (s.recallAll x1).storesWf = true := by
  fun_induction State.recallAll s x1
  all_goals try simp +zetaDelta (maxDischargeDepth := 40) only [*, State.recallEntry_stores, stores_ite,
      stores_ite_fst, implies_true, forall_const]
  all_goals repeat' (split <;> try simp +zetaDelta (maxDischargeDepth := 40) only [*, State.recallEntry_stores,
      stores_ite, stores_ite_fst, implies_true, forall_const])

theorem State.recallToken_stores (s : State) (i : Nat) (h : s.storesWf = true) :
    (s.recallToken i).storesWf = true := by
  unfold State.recallToken
  try simp +zetaDelta (maxDischargeDepth := 40) (decide := false) only [h, State.recallAll_stores, stores_ite,
      stores_ite_fst, implies_true, forall_const]
  all_goals repeat' (split <;> try simp +zetaDelta (maxDischargeDepth := 40) (decide := false) only [h,
      State.recallAll_stores, stores_ite, stores_ite_fst, implies_true, forall_const])

theorem State.errLocation_stores (s : State) (cause : Nat) (index : Nat) (h : s.storesWf = true) :
    (s.errLocation cause index).storesWf = true := by
  unfold State.errLocation
  try simp +zetaDelta (maxDischargeDepth := 40) (decide := false) only [h, State.setCfg_stores, stores_ite,
      stores_ite_fst, implies_true, forall_const]
  all_goals repeat' (split <;> try simp +zetaDelta (maxDischargeDepth := 40) (decide := false) only [h,
      State.setCfg_stores, stores_ite, stores_ite_fst, implies_true, forall_const])

theorem State.rewriteFaulted_stores (s : State) (i : Nat) (h : s.storesWf = true) :
    (s.rewriteFaulted i).storesWf = true := by
  unfold State.rewriteFaulted
  try simp +zetaDelta (maxDischargeDepth := 40) (decide := false) only [h, State.setObj_stores,
      State.fresh_stores, State.endWaiters_stores, State.recallToken_stores, stores_ite, stores_ite_fst,
      implies_true, forall_const]
  all_goals repeat' (split <;> try simp +zetaDelta (maxDischargeDepth := 40) (decide := false) only [h,
      State.setObj_stores, State.fresh_stores, State.endWaiters_stores, State.recallToken_stores, stores_ite,
      stores_ite_fst, implies_true, forall_const])

theorem State.markFaulted_stores (s : State) (i : Nat) (h : s.storesWf = true) :
    (s.markFaulted i).storesWf = true := by
  unfold State.markFaulted
  try simp +zetaDelta (maxDischargeDepth := 40) (decide := false) only [h, State.errLocation_stores,
      State.rewriteFaulted_stores, State.record_stores, State.jobFault_stores, stores_ite, stores_ite_fst,
      implies_true, forall_const]
  all_goals repeat' (split <;> try simp +zetaDelta (maxDischargeDepth := 40) (decide := false) only [h,
      State.errLocation_stores, State.rewriteFaulted_stores, State.record_stores, State.jobFault_stores,
      stores_ite, stores_ite_fst, implies_true, forall_const])

end Sys2Proof.Machine
end

