-- ==== Sys2Proof/Laws/StoresEcc.lean ====
section
/-! SUPPORT. The operations of Ecc.lean keep the sparse stores in their canonical form. -/

set_option linter.all false

namespace Sys2Proof.Machine

theorem State.cleanWord_stores (s : State) (w : StoreWord) (h : s.storesWf = true) :
    (s.cleanWord w).storesWf = true := by
  exact stores_of_wipe (State.cleanWord_wipe s w 0x7dfa7c1cf2fff (by decide)) h

theorem State.countDiscard_stores (s : State) (t : Ticket) (h : s.storesWf = true) :
    (s.countDiscard t).storesWf = true := by
  unfold State.countDiscard
  try simp +zetaDelta (maxDischargeDepth := 40) (decide := false) only [h, State.pcount_stores,
      State.record_stores, stores_ite, stores_ite_fst, implies_true, forall_const]
  all_goals repeat' (split <;> try simp +zetaDelta (maxDischargeDepth := 40) (decide := false) only [h,
      State.pcount_stores, State.record_stores, stores_ite, stores_ite_fst, implies_true, forall_const])

theorem State.replaceEntry_stores (s : State) (index : Nat) (r : CatRow) (p : Nat) (h : s.storesWf = true) :
    (s.replaceEntry index r p).1.storesWf = true := by
  unfold State.replaceEntry
  try simp +zetaDelta (maxDischargeDepth := 40) (decide := false) only [h, State.setCfg_stores, stores_ite,
      stores_ite_fst, implies_true, forall_const]
  all_goals repeat' (split <;> try simp +zetaDelta (maxDischargeDepth := 40) (decide := false) only [h,
      State.setCfg_stores, stores_ite, stores_ite_fst, implies_true, forall_const])

theorem State.replaceConfig_stores (s : State) (w : Nat) (h : s.storesWf = true) :
    (s.replaceConfig w).1.storesWf = true := by
  unfold State.replaceConfig
  simp only []
  split
  · exact stores_devMap _ _ h (Sparse.wf_put _ _ (devMap_wf h))
  · split
    · exact State.putRoute_stores _ _ _ h
    · split
      · exact State.replaceEntry_stores _ _ _ _ h
      · exact h

theorem State.miscorrectConfig_stores (s : State) (n : Nat) (v : BitVec 64) (h : s.storesWf = true) :
    (s.miscorrectConfig n v).storesWf = true := by
  unfold State.miscorrectConfig
  simp only []
  split
  · exact stores_devMap _ _ h (Sparse.wf_put _ _ (devMap_wf h))
  · split
    · exact State.putRoute_stores _ _ _ h
    · split
      · exact State.setCfg_stores _ _ _ _ _ h
      · exact h

theorem State.miscorrect_stores (s : State) (w : StoreWord) (h : s.storesWf = true) :
    (s.miscorrect w).storesWf = true := by
  unfold State.miscorrect
  try simp +zetaDelta (maxDischargeDepth := 40) (decide := false) only [h, stores_waiters, stores_lenders,
      stores_ledgers, stores_buffered, State.fresh_stores, State.modObj_stores, State.modPort_stores,
      State.miscorrectConfig_stores, stores_ite, stores_ite_fst, implies_true, forall_const]
  all_goals repeat' (split <;> try simp +zetaDelta (maxDischargeDepth := 40) (decide := false) only [h,
      stores_waiters, stores_lenders, stores_ledgers, stores_buffered, State.fresh_stores, State.modObj_stores,
      State.modPort_stores, State.miscorrectConfig_stores, stores_ite, stores_ite_fst, implies_true,
      forall_const])

theorem State.reportWord_stores (s : State) (cause : Nat) (index : Nat) (ps : List Nat) (h : s.storesWf = true) :
    (s.reportWord cause index ps).storesWf = true := by
  unfold State.reportWord
  try simp +zetaDelta (maxDischargeDepth := 40) (decide := false) only [h, State.errLocation_stores,
      State.record_stores, State.jobFault_stores, stores_ite, stores_ite_fst, implies_true, forall_const]
  all_goals repeat' (split <;> try simp +zetaDelta (maxDischargeDepth := 40) (decide := false) only [h,
      State.errLocation_stores, State.record_stores, State.jobFault_stores, stores_ite, stores_ite_fst,
      implies_true, forall_const])

theorem State.lostWaiter_stores (s : State) (i : Nat) (walked : Option Nat) (h : s.storesWf = true) :
    (s.lostWaiter i walked).storesWf = true := by
  unfold State.lostWaiter
  try simp +zetaDelta (maxDischargeDepth := 40) (decide := false) only [h, stores_waiters,
      State.reportWord_stores, State.rewriteFaulted_stores, stores_ite, stores_ite_fst, implies_true,
      forall_const]
  all_goals repeat' (split <;> try simp +zetaDelta (maxDischargeDepth := 40) (decide := false) only [h,
      stores_waiters, State.reportWord_stores, State.rewriteFaulted_stores, stores_ite, stores_ite_fst,
      implies_true, forall_const])

theorem State.uncorrectable_stores (s : State) (w : StoreWord) (walked : Option Nat) (h : s.storesWf = true) :
    (s.uncorrectable w walked).storesWf = true := by
  unfold State.uncorrectable
  try simp +zetaDelta (maxDischargeDepth := 40) (decide := false) only [h, stores_lenders, stores_ledgers,
      stores_buffered, State.bump_stores, State.cleanWord_stores, State.markFaulted_stores,
      State.lostWaiter_stores, State.reportWord_stores, State.pcount_stores, State.endWaiters_stores,
      State.modPort_stores, State.countDiscard_stores, State.replaceConfig_stores, State.errLocation_stores,
      State.record_stores, State.jobFault_stores, stores_ite, stores_ite_fst, implies_true, forall_const]
  all_goals repeat' (split <;> try simp +zetaDelta (maxDischargeDepth := 40) (decide := false) only [h,
      stores_lenders, stores_ledgers, stores_buffered, State.bump_stores, State.cleanWord_stores,
      State.markFaulted_stores, State.lostWaiter_stores, State.reportWord_stores, State.pcount_stores,
      State.endWaiters_stores, State.modPort_stores, State.countDiscard_stores, State.replaceConfig_stores,
      State.errLocation_stores, State.record_stores, State.jobFault_stores, stores_ite, stores_ite_fst,
      implies_true, forall_const])

theorem State.access_stores (s : State) (w : StoreWord) (walked : optParam (Option Nat) Option.none) (h : s.storesWf
    = true) :
    (s.access w walked).storesWf = true := by
  unfold State.access
  try simp +zetaDelta (maxDischargeDepth := 40) (decide := false) only [h, State.bump_stores,
      State.cleanWord_stores, State.uncorrectable_stores, State.fresh_stores, State.miscorrect_stores, stores_ite,
      stores_ite_fst, implies_true, forall_const]
  all_goals repeat' (split <;> try simp +zetaDelta (maxDischargeDepth := 40) (decide := false) only [h,
      State.bump_stores, State.cleanWord_stores, State.uncorrectable_stores, State.fresh_stores,
      State.miscorrect_stores, stores_ite, stores_ite_fst, implies_true, forall_const])

theorem State.walkWords_stores (s : State) (i : Nat) (x2 : List Waiter) (h : s.storesWf = true) :
    (s.walkWords i x2).storesWf = true := by
  fun_induction State.walkWords s i x2
  all_goals try simp +zetaDelta (maxDischargeDepth := 40) only [*, State.access_stores, stores_ite,
      stores_ite_fst, implies_true, forall_const]
  all_goals repeat' (split <;> try simp +zetaDelta (maxDischargeDepth := 40) only [*, State.access_stores,
      stores_ite, stores_ite_fst, implies_true, forall_const])

theorem State.accessObj_stores (s : State) (i : Nat) (h : s.storesWf = true) :
    (s.accessObj i).storesWf = true := by
  unfold State.accessObj
  try simp +zetaDelta (maxDischargeDepth := 40) (decide := false) only [h, State.walkWords_stores,
      State.access_stores, stores_ite, stores_ite_fst, implies_true, forall_const]
  all_goals repeat' (split <;> try simp +zetaDelta (maxDischargeDepth := 40) (decide := false) only [h,
      State.walkWords_stores, State.access_stores, stores_ite, stores_ite_fst, implies_true, forall_const])

end Sys2Proof.Machine
end

