-- ==== Sys2Proof/Laws/StoresTickets.lean ====
section
/-! SUPPORT. The operations of Tickets.lean keep the sparse stores in their canonical form. -/

set_option linter.all false

namespace Sys2Proof.Machine

theorem State.tringWrite_stores (s : State) (k : Nat) (t : Ticket) (h : s.storesWf = true) :
    (s.tringWrite k t).storesWf = true := by
  exact stores_of_wipe (State.tringWrite_wipe s k t 0x7dfa7c1cf2fff (by decide)) h

theorem State.overflowTicket_stores (s : State) (t : Ticket) (h : s.storesWf = true) :
    (s.overflowTicket t).storesWf = true := by
  unfold State.overflowTicket
  try simp +zetaDelta (maxDischargeDepth := 40) (decide := false) only [h, State.failOne_stores,
      State.countDiscard_stores, State.pcount_stores, State.tringWrite_stores, stores_ite, stores_ite_fst,
      implies_true, forall_const]
  all_goals repeat' (split <;> try simp +zetaDelta (maxDischargeDepth := 40) (decide := false) only [h,
      State.failOne_stores, State.countDiscard_stores, State.pcount_stores, State.tringWrite_stores, stores_ite,
      stores_ite_fst, implies_true, forall_const])

theorem State.bufferTicket_stores (s : State) (t : Ticket) (h : s.storesWf = true) :
    (s.bufferTicket t).storesWf = true := by
  unfold State.bufferTicket
  try simp +zetaDelta (maxDischargeDepth := 40) (decide := false) only [h, stores_buffered,
      State.overflowTicket_stores, stores_ite, stores_ite_fst, implies_true, forall_const]
  all_goals repeat' (split <;> try simp +zetaDelta (maxDischargeDepth := 40) (decide := false) only [h,
      stores_buffered, State.overflowTicket_stores, stores_ite, stores_ite_fst, implies_true, forall_const])

theorem State.enterQueue_stores (s : State) (port : Nat) (wake : Bool) (t : Ticket) (h : s.storesWf = true) :
    (s.enterQueue port wake t).storesWf = true := by
  unfold State.enterQueue
  try simp +zetaDelta (maxDischargeDepth := 40) (decide := false) only [h, State.act_stores, State.modPort_stores,
      stores_ite, stores_ite_fst, implies_true, forall_const]
  all_goals repeat' (split <;> try simp +zetaDelta (maxDischargeDepth := 40) (decide := false) only [h,
      State.act_stores, State.modPort_stores, stores_ite, stores_ite_fst, implies_true, forall_const])

theorem State.enterTicket_stores (s : State) (t : Ticket) (h : s.storesWf = true) :
    (s.enterTicket t).storesWf = true := by
  unfold State.enterTicket
  try simp +zetaDelta (maxDischargeDepth := 40) (decide := false) only [h, State.enterQueue_stores,
      State.tringWrite_stores, stores_ite, stores_ite_fst, implies_true, forall_const]
  all_goals repeat' (split <;> try simp +zetaDelta (maxDischargeDepth := 40) (decide := false) only [h,
      State.enterQueue_stores, State.tringWrite_stores, stores_ite, stores_ite_fst, implies_true, forall_const])

theorem State.deliverTicket_stores (s : State) (t : Ticket) (h : s.storesWf = true) :
    (s.deliverTicket t).storesWf = true := by
  unfold State.deliverTicket
  try simp +zetaDelta (maxDischargeDepth := 40) (decide := false) only [h, State.overflowTicket_stores,
      State.bufferTicket_stores, State.enterTicket_stores, stores_ite, stores_ite_fst, implies_true, forall_const]
  all_goals repeat' (split <;> try simp +zetaDelta (maxDischargeDepth := 40) (decide := false) only [h,
      State.overflowTicket_stores, State.bufferTicket_stores, State.enterTicket_stores, stores_ite,
      stores_ite_fst, implies_true, forall_const])

theorem State.drainBuffer_stores (s : State) (kept : List Ticket) (x2 : List Ticket) (h : s.storesWf = true) :
    (s.drainBuffer kept x2).storesWf = true := by
  fun_induction State.drainBuffer s kept x2
  all_goals try simp +zetaDelta (maxDischargeDepth := 40) only [*, stores_buffered, State.enterTicket_stores,
      State.overflowTicket_stores, stores_ite, stores_ite_fst, implies_true, forall_const]
  all_goals repeat' (split <;> try simp +zetaDelta (maxDischargeDepth := 40) only [*, stores_buffered,
      State.enterTicket_stores, State.overflowTicket_stores, stores_ite, stores_ite_fst, implies_true,
      forall_const])

theorem State.drainTickets_stores (s : State) (h : s.storesWf = true) :
    (s.drainTickets).storesWf = true := by
  unfold State.drainTickets
  try simp +zetaDelta (maxDischargeDepth := 40) (decide := false) only [h, State.drainBuffer_stores, stores_ite,
      stores_ite_fst, implies_true, forall_const]
  all_goals repeat' (split <;> try simp +zetaDelta (maxDischargeDepth := 40) (decide := false) only [h,
      State.drainBuffer_stores, stores_ite, stores_ite_fst, implies_true, forall_const])

theorem State.fireOnce_stores (s : State) (i : Nat) (ti : Nat) (state : BitVec 64) (amount : BitVec 64) (cause :
    Originator) (kind : BitVec 8) (armed : Bool) (h : s.storesWf = true) :
    (s.fireOnce i ti state amount cause kind armed).storesWf = true := by
  unfold State.fireOnce
  try simp +zetaDelta (maxDischargeDepth := 40) (decide := false) only [h, State.setObj_stores,
      State.record_stores, State.deliverTicket_stores, stores_ite, stores_ite_fst, implies_true, forall_const]
  all_goals repeat' (split <;> try simp +zetaDelta (maxDischargeDepth := 40) (decide := false) only [h,
      State.setObj_stores, State.record_stores, State.deliverTicket_stores, stores_ite, stores_ite_fst,
      implies_true, forall_const])

theorem State.fireToken_stores (s : State) (i : Nat) (cause : Originator) (armed : Bool) (x4 : Nat) (h : s.storesWf
    = true) :
    (s.fireToken i cause armed x4).storesWf = true := by
  fun_induction State.fireToken s i cause armed x4
  all_goals try simp +zetaDelta (maxDischargeDepth := 40) only [*, State.fireOnce_stores, State.setObj_stores,
      stores_ite, stores_ite_fst, implies_true, forall_const]
  all_goals repeat' (split <;> try simp +zetaDelta (maxDischargeDepth := 40) only [*, State.fireOnce_stores,
      State.setObj_stores, stores_ite, stores_ite_fst, implies_true, forall_const])

theorem State.fireBarrier_stores (s : State) (i : Nat) (round : BitVec 28) (cause : Originator) (h : s.storesWf =
    true) :
    (s.fireBarrier i round cause).storesWf = true := by
  unfold State.fireBarrier
  try simp +zetaDelta (maxDischargeDepth := 40) (decide := false) only [h, State.fireOnce_stores, stores_ite,
      stores_ite_fst, implies_true, forall_const]
  all_goals repeat' (split <;> try simp +zetaDelta (maxDischargeDepth := 40) (decide := false) only [h,
      State.fireOnce_stores, stores_ite, stores_ite_fst, implies_true, forall_const])

theorem State.readTrig_stores (s : State) (i : Nat) (h : s.storesWf = true) :
    (s.readTrig i).storesWf = true := by
  unfold State.readTrig
  try simp +zetaDelta (maxDischargeDepth := 40) (decide := false) only [h, State.access_stores, stores_ite,
      stores_ite_fst, implies_true, forall_const]
  all_goals repeat' (split <;> try simp +zetaDelta (maxDischargeDepth := 40) (decide := false) only [h,
      State.access_stores, stores_ite, stores_ite_fst, implies_true, forall_const])

end Sys2Proof.Machine
end

