-- ==== Sys2Proof/Laws/StoresServe.lean ====
section
/-! SUPPORT. The operations of Serve.lean keep the sparse stores in their canonical form. -/

set_option linter.all false

namespace Sys2Proof.Machine

theorem State.recordLock_stores (s : State) (i : Nat) (how : Nat) (holder : Originator) (h : s.storesWf = true) :
    (s.recordLock i how holder).storesWf = true := by
  unfold State.recordLock
  try simp +zetaDelta (maxDischargeDepth := 40) (decide := false) only [h, State.record_stores, stores_ite,
      stores_ite_fst, implies_true, forall_const]
  all_goals repeat' (split <;> try simp +zetaDelta (maxDischargeDepth := 40) (decide := false) only [h,
      State.record_stores, stores_ite, stores_ite_fst, implies_true, forall_const])

theorem State.openLoan_stores (s : State) (i : Nat) (h : HubId) (n : Nat) (hs : s.storesWf = true) :
    (s.openLoan i h n).storesWf = true := by
  unfold State.openLoan
  try simp +zetaDelta (maxDischargeDepth := 40) (decide := false) only [hs, stores_lenders_loanSeq,
      State.fresh_stores, State.setObj_stores, State.sendLoan_stores, stores_ite, stores_ite_fst, implies_true,
      forall_const]
  all_goals repeat' (split <;> try simp +zetaDelta (maxDischargeDepth := 40) (decide := false) only [hs,
      stores_lenders_loanSeq, State.fresh_stores, State.setObj_stores, State.sendLoan_stores, stores_ite,
      stores_ite_fst, implies_true, forall_const])

theorem State.grantLoan_stores (s : State) (i : Nat) (w : Waiter) (e : Lender) (h : s.storesWf = true) :
    (s.grantLoan i w e).storesWf = true := by
  unfold State.grantLoan
  try simp +zetaDelta (maxDischargeDepth := 40) (decide := false) only [h, State.setLender_stores,
      State.setObj_stores, State.sendLoan_stores, State.freeWaiter_stores, stores_ite, stores_ite_fst,
      implies_true, forall_const]
  all_goals repeat' (split <;> try simp +zetaDelta (maxDischargeDepth := 40) (decide := false) only [h,
      State.setLender_stores, State.setObj_stores, State.sendLoan_stores, State.freeWaiter_stores, stores_ite,
      stores_ite_fst, implies_true, forall_const])

theorem State.grantTake_stores (s : State) (i : Nat) (w : Waiter) (h : s.storesWf = true) :
    (s.grantTake i w).storesWf = true := by
  unfold State.grantTake
  try simp +zetaDelta (maxDischargeDepth := 40) (decide := false) only [h, State.setObj_stores,
      State.openLoan_stores, State.grant_stores, stores_ite, stores_ite_fst, implies_true, forall_const]
  all_goals repeat' (split <;> try simp +zetaDelta (maxDischargeDepth := 40) (decide := false) only [h,
      State.setObj_stores, State.openLoan_stores, State.grant_stores, stores_ite, stores_ite_fst, implies_true,
      forall_const])

theorem State.serveList_stores (s : State) (i : Nat) (held : Bool) (n : Nat) (x4 : List Waiter) (h : s.storesWf =
    true) :
    (s.serveList i held n x4).1.storesWf = true := by
  fun_induction State.serveList s i held n x4
  all_goals try simp +zetaDelta (maxDischargeDepth := 40) only [*, State.grant_stores, State.setObj_stores,
      State.recordLock_stores, State.grantLoan_stores, State.grantTake_stores, stores_ite, stores_ite_fst,
      implies_true, forall_const]
  all_goals simp_all +zetaDelta (maxDischargeDepth := 40) only [State.grant_stores, State.setObj_stores,
      State.recordLock_stores, State.grantLoan_stores, State.grantTake_stores, stores_ite, stores_ite_fst,
      implies_true, forall_const]

theorem State.serveCount_stores (s : State) (i : Nat) (h : s.storesWf = true) :
    (s.serveCount i).1.storesWf = true := by
  unfold State.serveCount
  try simp +zetaDelta (maxDischargeDepth := 40) (decide := false) only [h, State.serveList_stores, stores_ite,
      stores_ite_fst, implies_true, forall_const]
  all_goals repeat' (split <;> try simp +zetaDelta (maxDischargeDepth := 40) (decide := false) only [h,
      State.serveList_stores, stores_ite, stores_ite_fst, implies_true, forall_const])

theorem State.serve_stores (s : State) (i : Nat) (h : s.storesWf = true) :
    (s.serve i).storesWf = true := by
  unfold State.serve
  try simp +zetaDelta (maxDischargeDepth := 40) (decide := false) only [h, State.serveCount_stores, stores_ite,
      stores_ite_fst, implies_true, forall_const]
  all_goals repeat' (split <;> try simp +zetaDelta (maxDischargeDepth := 40) (decide := false) only [h,
      State.serveCount_stores, stores_ite, stores_ite_fst, implies_true, forall_const])

theorem State.grantLedger_stores (s : State) (e : Ledger) (w : Waiter) (h : s.storesWf = true) :
    (s.grantLedger e w).storesWf = true := by
  unfold State.grantLedger
  try simp +zetaDelta (maxDischargeDepth := 40) (decide := false) only [h, State.grant_stores,
      State.setLedger_stores, stores_ite, stores_ite_fst, implies_true, forall_const]
  all_goals repeat' (split <;> try simp +zetaDelta (maxDischargeDepth := 40) (decide := false) only [h,
      State.grant_stores, State.setLedger_stores, stores_ite, stores_ite_fst, implies_true, forall_const])

theorem State.serveEntry_stores (s : State) (num : Nat) (held : Bool) (x3 : List Waiter) (h : s.storesWf = true) :
    (s.serveEntry num held x3).storesWf = true := by
  fun_induction State.serveEntry s num held x3
  all_goals try simp +zetaDelta (maxDischargeDepth := 40) only [*, State.grantLedger_stores, stores_ite,
      stores_ite_fst, implies_true, forall_const]
  all_goals simp_all +zetaDelta (maxDischargeDepth := 40) only [State.grantLedger_stores, stores_ite,
      stores_ite_fst, implies_true, forall_const]

theorem State.topUp_stores (s : State) (num : Nat) (h : s.storesWf = true) :
    (s.topUp num).storesWf = true := by
  unfold State.topUp
  try simp +zetaDelta (maxDischargeDepth := 40) (decide := false) only [h, State.sendLoan_stores,
      State.setLedger_stores, stores_ite, stores_ite_fst, implies_true, forall_const]
  all_goals repeat' (split <;> try simp +zetaDelta (maxDischargeDepth := 40) (decide := false) only [h,
      State.sendLoan_stores, State.setLedger_stores, stores_ite, stores_ite_fst, implies_true, forall_const])

theorem State.serveLedger_stores (s : State) (num : Nat) (h : s.storesWf = true) :
    (s.serveLedger num).storesWf = true := by
  unfold State.serveLedger
  try simp +zetaDelta (maxDischargeDepth := 40) (decide := false) only [h, State.topUp_stores,
      State.serveEntry_stores, stores_ite, stores_ite_fst, implies_true, forall_const]
  all_goals repeat' (split <;> try simp +zetaDelta (maxDischargeDepth := 40) (decide := false) only [h,
      State.topUp_stores, State.serveEntry_stores, stores_ite, stores_ite_fst, implies_true, forall_const])

theorem State.serveAfter_stores (s : State) (w : Waiter) (h : s.storesWf = true) :
    (s.serveAfter w).storesWf = true := by
  unfold State.serveAfter
  try simp +zetaDelta (maxDischargeDepth := 40) (decide := false) only [h, State.serveLedger_stores,
      State.serve_stores, stores_ite, stores_ite_fst, implies_true, forall_const]
  all_goals repeat' (split <;> try simp +zetaDelta (maxDischargeDepth := 40) (decide := false) only [h,
      State.serveLedger_stores, State.serve_stores, stores_ite, stores_ite_fst, implies_true, forall_const])

end Sys2Proof.Machine
end

