-- ==== Sys2Proof/Laws/StoresObjects.lean ====
section
/-! SUPPORT. The operations of Objects.lean keep the sparse stores in their canonical form. -/

set_option linter.all false

namespace Sys2Proof.Machine

theorem State.countSelvedge_stores (s : State) (p : Nat) (v : Selvedge) (h : s.storesWf = true) :
    (s.countSelvedge p v).storesWf = true := by
  unfold State.countSelvedge
  try simp +zetaDelta (maxDischargeDepth := 40) (decide := false) only [h, State.bump_stores, stores_ite,
      stores_ite_fst, implies_true, forall_const]
  all_goals repeat' (split <;> try simp +zetaDelta (maxDischargeDepth := 40) (decide := false) only [h,
      State.bump_stores, stores_ite, stores_ite_fst, implies_true, forall_const])

theorem State.write_stores (s : State) (o : HomeOp) (r : ObjRec) (h : s.storesWf = true) :
    (s.write o r).storesWf = true := by
  unfold State.write
  try simp +zetaDelta (maxDischargeDepth := 40) (decide := false) only [h, State.setObj_stores, stores_ite,
      stores_ite_fst, implies_true, forall_const]
  all_goals repeat' (split <;> try simp +zetaDelta (maxDischargeDepth := 40) (decide := false) only [h,
      State.setObj_stores, stores_ite, stores_ite_fst, implies_true, forall_const])

theorem State.queueOn?_stores (s : State) (o : HomeOp) (operand : BitVec 64) (h : s.storesWf = true) :
    (s.queueOn? o operand).storesWf = true := by
  unfold State.queueOn?
  try simp +zetaDelta (maxDischargeDepth := 40) (decide := false) only [h, State.recordOp_stores,
      State.finish_stores, State.exhausted_stores, stores_ite, stores_ite_fst, implies_true, forall_const]
  all_goals repeat' (split <;> try simp +zetaDelta (maxDischargeDepth := 40) (decide := false) only [h,
      State.recordOp_stores, State.finish_stores, State.exhausted_stores, stores_ite, stores_ite_fst,
      implies_true, forall_const])
  all_goals
    rename_i e
    have k := State.addWaiter_stores _ _ _ _ (by first | exact h | simp +zetaDelta (maxDischargeDepth := 40) only
        [h, State.recordOp_stores, State.finish_stores, State.exhausted_stores, stores_ite, stores_ite_fst,
        implies_true, forall_const]) _ e
    simp +zetaDelta (maxDischargeDepth := 40) only [k, State.recordOp_stores, State.finish_stores,
        State.exhausted_stores, stores_ite, stores_ite_fst, implies_true, forall_const]

theorem State.signalEvent_stores (s : State) (o : HomeOp) (h : s.storesWf = true) :
    (s.signalEvent o).storesWf = true := by
  unfold State.signalEvent
  try simp +zetaDelta (maxDischargeDepth := 40) (decide := false) only [h, State.serveCount_stores,
      State.write_stores, State.reach12_stores, State.finish_stores, stores_ite, stores_ite_fst, implies_true,
      forall_const]
  all_goals repeat' (split <;> try simp +zetaDelta (maxDischargeDepth := 40) (decide := false) only [h,
      State.serveCount_stores, State.write_stores, State.reach12_stores, State.finish_stores, stores_ite,
      stores_ite_fst, implies_true, forall_const])

theorem State.clearEvent_stores (s : State) (o : HomeOp) (h : s.storesWf = true) :
    (s.clearEvent o).storesWf = true := by
  unfold State.clearEvent
  try simp +zetaDelta (maxDischargeDepth := 40) (decide := false) only [h, State.reach12_stores,
      State.finish_stores, State.write_stores, stores_ite, stores_ite_fst, implies_true, forall_const]
  all_goals repeat' (split <;> try simp +zetaDelta (maxDischargeDepth := 40) (decide := false) only [h,
      State.reach12_stores, State.finish_stores, State.write_stores, stores_ite, stores_ite_fst, implies_true,
      forall_const])

theorem State.countBytes_stores (s : State) (r : ObjRec) (n : Nat) (h : s.storesWf = true) :
    (s.countBytes r n).storesWf = true := by
  unfold State.countBytes
  try simp +zetaDelta (maxDischargeDepth := 40) (decide := false) only [h, State.pcount_stores, stores_ite,
      stores_ite_fst, implies_true, forall_const]
  all_goals repeat' (split <;> try simp +zetaDelta (maxDischargeDepth := 40) (decide := false) only [h,
      State.pcount_stores, stores_ite, stores_ite_fst, implies_true, forall_const])

theorem State.changeAmount_stores (s : State) (o : HomeOp) (v : Int) (count : Bool) (old : BitVec 64) (result : Nat
    → Nat) (h : s.storesWf = true) :
    (s.changeAmount o v count old result).storesWf = true := by
  unfold State.changeAmount
  try simp +zetaDelta (maxDischargeDepth := 40) (decide := false) only [h, State.reach12_stores,
      State.readTrig_stores, State.conclude_stores, State.markFaulted_stores, State.finish_stores,
      State.countBytes_stores, State.serveCount_stores, State.fireToken_stores, State.setObj_stores, stores_ite,
      stores_ite_fst, implies_true, forall_const]
  all_goals repeat' (split <;> try simp +zetaDelta (maxDischargeDepth := 40) (decide := false) only [h,
      State.reach12_stores, State.readTrig_stores, State.conclude_stores, State.markFaulted_stores,
      State.finish_stores, State.countBytes_stores, State.serveCount_stores, State.fireToken_stores,
      State.setObj_stores, stores_ite, stores_ite_fst, implies_true, forall_const])

theorem State.signalAmount_stores (s : State) (o : HomeOp) (h : s.storesWf = true) :
    (s.signalAmount o).storesWf = true := by
  unfold State.signalAmount
  try simp +zetaDelta (maxDischargeDepth := 40) (decide := false) only [h, State.refuse_stores,
      State.changeAmount_stores, State.finish_stores, State.reach12_stores, stores_ite, stores_ite_fst,
      implies_true, forall_const]
  all_goals repeat' (split <;> try simp +zetaDelta (maxDischargeDepth := 40) (decide := false) only [h,
      State.refuse_stores, State.changeAmount_stores, State.finish_stores, State.reach12_stores, stores_ite,
      stores_ite_fst, implies_true, forall_const])

theorem State.addAmount_stores (s : State) (o : HomeOp) (h : s.storesWf = true) :
    (s.addAmount o).storesWf = true := by
  unfold State.addAmount
  try simp +zetaDelta (maxDischargeDepth := 40) (decide := false) only [h, State.finish_stores,
      State.reach12_stores, State.changeAmount_stores, stores_ite, stores_ite_fst, implies_true, forall_const]
  all_goals repeat' (split <;> try simp +zetaDelta (maxDischargeDepth := 40) (decide := false) only [h,
      State.finish_stores, State.reach12_stores, State.changeAmount_stores, stores_ite, stores_ite_fst,
      implies_true, forall_const])

theorem State.swapAmount_stores (s : State) (o : HomeOp) (h : s.storesWf = true) :
    (s.swapAmount o).storesWf = true := by
  unfold State.swapAmount
  try simp +zetaDelta (maxDischargeDepth := 40) (decide := false) only [h, State.finish_stores,
      State.reach12_stores, State.changeAmount_stores, stores_ite, stores_ite_fst, implies_true, forall_const]
  all_goals repeat' (split <;> try simp +zetaDelta (maxDischargeDepth := 40) (decide := false) only [h,
      State.finish_stores, State.reach12_stores, State.changeAmount_stores, stores_ite, stores_ite_fst,
      implies_true, forall_const])

theorem State.casAmount_stores (s : State) (o : HomeOp) (h : s.storesWf = true) :
    (s.casAmount o).storesWf = true := by
  unfold State.casAmount
  try simp +zetaDelta (maxDischargeDepth := 40) (decide := false) only [h, State.finish_stores,
      State.reach12_stores, State.changeAmount_stores, stores_ite, stores_ite_fst, implies_true, forall_const]
  all_goals repeat' (split <;> try simp +zetaDelta (maxDischargeDepth := 40) (decide := false) only [h,
      State.finish_stores, State.reach12_stores, State.changeAmount_stores, stores_ite, stores_ite_fst,
      implies_true, forall_const])

theorem State.takeNow_stores (s : State) (o : HomeOp) (result : Nat) (h : s.storesWf = true) :
    (s.takeNow o result).storesWf = true := by
  unfold State.takeNow
  try simp +zetaDelta (maxDischargeDepth := 40) (decide := false) only [h, State.write_stores,
      State.openLoan_stores, State.finish_stores, State.countGrant_stores, stores_ite, stores_ite_fst,
      implies_true, forall_const]
  all_goals repeat' (split <;> try simp +zetaDelta (maxDischargeDepth := 40) (decide := false) only [h,
      State.write_stores, State.openLoan_stores, State.finish_stores, State.countGrant_stores, stores_ite,
      stores_ite_fst, implies_true, forall_const])

theorem State.takeAmount_stores (s : State) (o : HomeOp) (h : s.storesWf = true) :
    (s.takeAmount o).storesWf = true := by
  unfold State.takeAmount
  try simp +zetaDelta (maxDischargeDepth := 40) (decide := false) only [h, State.refuse_stores,
      State.reach12_stores, State.takeNow_stores, State.queueOn?_stores, stores_ite, stores_ite_fst, implies_true,
      forall_const]
  all_goals repeat' (split <;> try simp +zetaDelta (maxDischargeDepth := 40) (decide := false) only [h,
      State.refuse_stores, State.reach12_stores, State.takeNow_stores, State.queueOn?_stores, stores_ite,
      stores_ite_fst, implies_true, forall_const])

theorem State.tryTakeAmount_stores (s : State) (o : HomeOp) (h : s.storesWf = true) :
    (s.tryTakeAmount o).storesWf = true := by
  unfold State.tryTakeAmount
  try simp +zetaDelta (maxDischargeDepth := 40) (decide := false) only [h, State.refuse_stores,
      State.reach12_stores, State.takeNow_stores, State.finish_stores, stores_ite, stores_ite_fst, implies_true,
      forall_const]
  all_goals repeat' (split <;> try simp +zetaDelta (maxDischargeDepth := 40) (decide := false) only [h,
      State.refuse_stores, State.reach12_stores, State.takeNow_stores, State.finish_stores, stores_ite,
      stores_ite_fst, implies_true, forall_const])

theorem State.waitAmount_stores (s : State) (o : HomeOp) (h : s.storesWf = true) :
    (s.waitAmount o).storesWf = true := by
  unfold State.waitAmount
  try simp +zetaDelta (maxDischargeDepth := 40) (decide := false) only [h, State.reach12_stores,
      State.finish_stores, State.countGrant_stores, State.queueOn?_stores, stores_ite, stores_ite_fst,
      implies_true, forall_const]
  all_goals repeat' (split <;> try simp +zetaDelta (maxDischargeDepth := 40) (decide := false) only [h,
      State.reach12_stores, State.finish_stores, State.countGrant_stores, State.queueOn?_stores, stores_ite,
      stores_ite_fst, implies_true, forall_const])

theorem State.waitEvent_stores (s : State) (o : HomeOp) (h : s.storesWf = true) :
    (s.waitEvent o).storesWf = true := by
  unfold State.waitEvent
  try simp +zetaDelta (maxDischargeDepth := 40) (decide := false) only [h, State.reach12_stores,
      State.write_stores, State.finish_stores, State.countGrant_stores, State.queueOn?_stores, stores_ite,
      stores_ite_fst, implies_true, forall_const]
  all_goals repeat' (split <;> try simp +zetaDelta (maxDischargeDepth := 40) (decide := false) only [h,
      State.reach12_stores, State.write_stores, State.finish_stores, State.countGrant_stores,
      State.queueOn?_stores, stores_ite, stores_ite_fst, implies_true, forall_const])

theorem State.readObj_stores (s : State) (o : HomeOp) (h : s.storesWf = true) :
    (s.readObj o).storesWf = true := by
  unfold State.readObj
  try simp +zetaDelta (maxDischargeDepth := 40) (decide := false) only [h, State.finish_stores,
      State.reach12_stores, State.refuse_stores, stores_ite, stores_ite_fst, implies_true, forall_const]
  all_goals repeat' (split <;> try simp +zetaDelta (maxDischargeDepth := 40) (decide := false) only [h,
      State.finish_stores, State.reach12_stores, State.refuse_stores, stores_ite, stores_ite_fst, implies_true,
      forall_const])

theorem State.armObj_stores (s : State) (o : HomeOp) (h : s.storesWf = true) :
    (s.armObj o).storesWf = true := by
  unfold State.armObj
  try simp +zetaDelta (maxDischargeDepth := 40) (decide := false) only [h, State.readTrig_stores,
      State.reach12_stores, State.finish_stores, State.fireToken_stores, State.setObj_stores, State.serve_stores,
      stores_ite, stores_ite_fst, implies_true, forall_const]
  all_goals repeat' (split <;> try simp +zetaDelta (maxDischargeDepth := 40) (decide := false) only [h,
      State.readTrig_stores, State.reach12_stores, State.finish_stores, State.fireToken_stores,
      State.setObj_stores, State.serve_stores, stores_ite, stores_ite_fst, implies_true, forall_const])

theorem State.disarmObj_stores (s : State) (o : HomeOp) (h : s.storesWf = true) :
    (s.disarmObj o).storesWf = true := by
  unfold State.disarmObj
  try simp +zetaDelta (maxDischargeDepth := 40) (decide := false) only [h, State.finish_stores,
      State.write_stores, State.reach12_stores, stores_ite, stores_ite_fst, implies_true, forall_const]
  all_goals repeat' (split <;> try simp +zetaDelta (maxDischargeDepth := 40) (decide := false) only [h,
      State.finish_stores, State.write_stores, State.reach12_stores, stores_ite, stores_ite_fst, implies_true,
      forall_const])

end Sys2Proof.Machine
end

