-- ==== Sys2Proof/Laws/StoresShelf.lean ====
section
/-! SUPPORT. The operations of Shelf.lean keep the sparse stores in their canonical form. -/

set_option linter.all false

namespace Sys2Proof.Machine

theorem State.setShelf_stores (s : State) (p : Nat) (k : Nat) (h : Shelf) (hs : s.storesWf = true) :
    (s.setShelf p k h).storesWf = true := by
  unfold State.setShelf
  try simp +zetaDelta (maxDischargeDepth := 40) (decide := false) only [hs, State.modPart_stores, stores_ite,
      stores_ite_fst, implies_true, forall_const]
  all_goals repeat' (split <;> try simp +zetaDelta (maxDischargeDepth := 40) (decide := false) only [hs,
      State.modPart_stores, stores_ite, stores_ite_fst, implies_true, forall_const])

theorem State.shelfDone_stores (s : State) (p : Nat) (k : Nat) (h : Shelf) (hs : s.storesWf = true) :
    (s.shelfDone p k h).storesWf = true := by
  unfold State.shelfDone
  try simp +zetaDelta (maxDischargeDepth := 40) (decide := false) only [hs, State.send_stores, stores_ite,
      stores_ite_fst, implies_true, forall_const]
  all_goals repeat' (split <;> try simp +zetaDelta (maxDischargeDepth := 40) (decide := false) only [hs,
      State.send_stores, stores_ite, stores_ite_fst, implies_true, forall_const])

theorem State.latchShelf_stores (s : State) (p : Nat) (k : Nat) (round : BitVec 28) (h : s.storesWf = true) :
    (s.latchShelf p k round).storesWf = true := by
  unfold State.latchShelf
  try simp +zetaDelta (maxDischargeDepth := 40) (decide := false) only [h, State.record_stores,
      State.setShelf_stores, State.notifyRing_stores, State.shelfDone_stores, stores_ite, stores_ite_fst,
      implies_true, forall_const]
  all_goals repeat' (split <;> try simp +zetaDelta (maxDischargeDepth := 40) (decide := false) only [h,
      State.record_stores, State.setShelf_stores, State.notifyRing_stores, State.shelfDone_stores, stores_ite,
      stores_ite_fst, implies_true, forall_const])

theorem State.failShelf_stores (s : State) (p : Nat) (k : Nat) (status : BitVec 3) (h : s.storesWf = true) :
    (s.failShelf p k status).storesWf = true := by
  unfold State.failShelf
  try simp +zetaDelta (maxDischargeDepth := 40) (decide := false) only [h, State.shelfDone_stores,
      State.setShelf_stores, stores_ite, stores_ite_fst, implies_true, forall_const]
  all_goals repeat' (split <;> try simp +zetaDelta (maxDischargeDepth := 40) (decide := false) only [h,
      State.shelfDone_stores, State.setShelf_stores, stores_ite, stores_ite_fst, implies_true, forall_const])

theorem State.shelvesAt_stores (s : State) (p : Nat) (rel : Nat) (round : BitVec 28) (h : s.storesWf = true) :
    (s.shelvesAt p rel round).storesWf = true := by
  unfold State.shelvesAt
  try simp +contextual +zetaDelta (maxDischargeDepth := 40) (decide := false) only [h, State.each_stores,
      State.latchShelf_stores, stores_ite, stores_ite_fst, implies_true, forall_const]
  all_goals repeat' (split <;> try simp +contextual +zetaDelta (maxDischargeDepth := 40) (decide := false) only
      [h, State.each_stores, State.latchShelf_stores, stores_ite, stores_ite_fst, implies_true, forall_const])

end Sys2Proof.Machine
end

