-- ==== Sys2Proof/Laws/StoresBarriers.lean ====
section
/-! SUPPORT. The operations of Barriers.lean keep the sparse stores in their canonical form. -/

set_option linter.all false

namespace Sys2Proof.Machine

theorem State.recordDeposit_stores (s : State) (p : Nat) (k : Nat) (how : Nat) (i : Nat) (d : Deposit) (h :
    s.storesWf = true) :
    (s.recordDeposit p k how i d).storesWf = true := by
  unfold State.recordDeposit
  try simp +zetaDelta (maxDischargeDepth := 40) (decide := false) only [h, State.record_stores, stores_ite,
      stores_ite_fst, implies_true, forall_const]
  all_goals repeat' (split <;> try simp +zetaDelta (maxDischargeDepth := 40) (decide := false) only [h,
      State.record_stores, stores_ite, stores_ite_fst, implies_true, forall_const])

theorem State.dumpTicket_stores (s : State) (p : Nat) (i : Nat) (k : Nat) (cause : Originator) (h : s.storesWf =
    true) :
    (s.dumpTicket p i k cause).storesWf = true := by
  unfold State.dumpTicket
  try simp +zetaDelta (maxDischargeDepth := 40) (decide := false) only [h, State.deliverTicket_stores,
      State.count32_stores, State.recordDeposit_stores, State.modPart_stores, stores_ite, stores_ite_fst,
      implies_true, forall_const]
  all_goals repeat' (split <;> try simp +zetaDelta (maxDischargeDepth := 40) (decide := false) only [h,
      State.deliverTicket_stores, State.count32_stores, State.recordDeposit_stores, State.modPart_stores,
      stores_ite, stores_ite_fst, implies_true, forall_const])

theorem State.runDeposits_stores (s : State) (i : Nat) (cause : Originator) (h : s.storesWf = true) :
    (s.runDeposits i cause).storesWf = true := by
  unfold State.runDeposits
  try simp +contextual +zetaDelta (maxDischargeDepth := 40) (decide := false) only [h, State.each_stores,
      State.dumpTicket_stores, stores_ite, stores_ite_fst, implies_true, forall_const]
  all_goals repeat' (split <;> try simp +contextual +zetaDelta (maxDischargeDepth := 40) (decide := false) only
      [h, State.each_stores, State.dumpTicket_stores, stores_ite, stores_ite_fst, implies_true, forall_const])

theorem State.dropHolds_stores (s : State) (p : Nat) (i : Nat) (h : s.storesWf = true) :
    (s.dropHolds p i).storesWf = true := by
  unfold State.dropHolds
  try simp +contextual +zetaDelta (maxDischargeDepth := 40) (decide := false) only [h, State.each_stores,
      State.modPart_stores, stores_ite, stores_ite_fst, implies_true, forall_const]
  all_goals repeat' (split <;> try simp +contextual +zetaDelta (maxDischargeDepth := 40) (decide := false) only
      [h, State.each_stores, State.modPart_stores, stores_ite, stores_ite_fst, implies_true, forall_const])

theorem State.forward_stores (s : State) (i : Nat) (broken : Bool) (h : s.storesWf = true) :
    (s.forward i broken).1.storesWf = true := by
  unfold State.forward
  try simp +zetaDelta (maxDischargeDepth := 40) (decide := false) only [h, State.send_stores, stores_ite,
      stores_ite_fst, implies_true, forall_const]
  all_goals repeat' (split <;> try simp +zetaDelta (maxDischargeDepth := 40) (decide := false) only [h,
      State.send_stores, stores_ite, stores_ite_fst, implies_true, forall_const])

theorem State.breakBarrier_stores (s : State) (i : Nat) (h : s.storesWf = true) :
    (s.breakBarrier i).storesWf = true := by
  unfold State.breakBarrier
  try simp +zetaDelta (maxDischargeDepth := 40) (decide := false) only [h, State.endWaiters_stores,
      State.setObj_stores, State.forward_stores, stores_ite, stores_ite_fst, implies_true, forall_const]
  all_goals repeat' (split <;> try simp +zetaDelta (maxDischargeDepth := 40) (decide := false) only [h,
      State.endWaiters_stores, State.setObj_stores, State.forward_stores, stores_ite, stores_ite_fst,
      implies_true, forall_const])

theorem State.treeBreak_stores (s : State) (i : Nat) (st : Nat) (h : s.storesWf = true) :
    (s.treeBreak i st).storesWf = true := by
  unfold State.treeBreak
  try simp +zetaDelta (maxDischargeDepth := 40) (decide := false) only [h, State.breakBarrier_stores,
      State.record_stores, stores_ite, stores_ite_fst, implies_true, forall_const]
  all_goals repeat' (split <;> try simp +zetaDelta (maxDischargeDepth := 40) (decide := false) only [h,
      State.breakBarrier_stores, State.record_stores, stores_ite, stores_ite_fst, implies_true, forall_const])

theorem State.forwardRound_stores (s : State) (i : Nat) (h : s.storesWf = true) :
    (s.forwardRound i).storesWf = true := by
  unfold State.forwardRound
  have k := State.forward_stores s i false h
  split
  · rename_i e
    rw [e] at k
    simp +zetaDelta (maxDischargeDepth := 40) only [k, State.forward_stores, State.treeBreak_stores, stores_ite,
        stores_ite_fst, implies_true, forall_const]
  · rename_i e
    rw [e] at k
    exact k

theorem State.grantRound_stores (s : State) (r : BitVec 28) (v : BitVec 64) (x3 : List Waiter) (h : s.storesWf =
    true) :
    (s.grantRound r v x3).storesWf = true := by
  fun_induction State.grantRound s r v x3
  all_goals try simp +zetaDelta (maxDischargeDepth := 40) only [*, State.grant_stores, stores_ite, stores_ite_fst,
      implies_true, forall_const]
  all_goals repeat' (split <;> try simp +zetaDelta (maxDischargeDepth := 40) only [*, State.grant_stores,
      stores_ite, stores_ite_fst, implies_true, forall_const])

theorem State.performParked_stores (s : State) (i : Nat) (x2 : List Waiter) (h : s.storesWf = true) :
    (s.performParked i x2).storesWf = true := by
  fun_induction State.performParked s i x2
  all_goals try simp +zetaDelta (maxDischargeDepth := 40) only [*, stores_waiters, State.setObj_stores,
      State.freeWaiter_stores, stores_ite, stores_ite_fst, implies_true, forall_const]
  all_goals repeat' (split <;> try simp +zetaDelta (maxDischargeDepth := 40) only [*, stores_waiters,
      State.setObj_stores, State.freeWaiter_stores, stores_ite, stores_ite_fst, implies_true, forall_const])

theorem State.releaseFire_stores (s : State) (i : Nat) (r : BitVec 28) (cause : Originator) (h : s.storesWf = true)
    :
    (s.releaseFire i r cause).storesWf = true := by
  unfold State.releaseFire
  try simp +zetaDelta (maxDischargeDepth := 40) (decide := false) only [h, State.readTrig_stores,
      State.markFaulted_stores, State.fireBarrier_stores, stores_ite, stores_ite_fst, implies_true, forall_const]
  all_goals repeat' (split <;> try simp +zetaDelta (maxDischargeDepth := 40) (decide := false) only [h,
      State.readTrig_stores, State.markFaulted_stores, State.fireBarrier_stores, stores_ite, stores_ite_fst,
      implies_true, forall_const])

theorem State.recordRelease_stores (s : State) (i : Nat) (r : BitVec 28) (h : s.storesWf = true) :
    (s.recordRelease i r).storesWf = true := by
  unfold State.recordRelease
  try simp +zetaDelta (maxDischargeDepth := 40) (decide := false) only [h, State.record_stores, stores_ite,
      stores_ite_fst, implies_true, forall_const]
  all_goals repeat' (split <;> try simp +zetaDelta (maxDischargeDepth := 40) (decide := false) only [h,
      State.record_stores, stores_ite, stores_ite_fst, implies_true, forall_const])

theorem State.releaseSteps_stores (s : State) (i : Nat) (cause : Originator) (h : s.storesWf = true) :
    (s.releaseSteps i cause).storesWf = true := by
  unfold State.releaseSteps
  try simp +zetaDelta (maxDischargeDepth := 40) (decide := false) only [h, State.shelvesAt_stores,
      State.setObj_stores, State.grantRound_stores, State.recordRelease_stores, State.performParked_stores,
      State.releaseFire_stores, stores_ite, stores_ite_fst, implies_true, forall_const]
  all_goals repeat' (split <;> try simp +zetaDelta (maxDischargeDepth := 40) (decide := false) only [h,
      State.shelvesAt_stores, State.setObj_stores, State.grantRound_stores, State.recordRelease_stores,
      State.performParked_stores, State.releaseFire_stores, stores_ite, stores_ite_fst, implies_true,
      forall_const])

theorem State.formResult_stores (s : State) (i : Nat) (fromParent : Option (BitVec 64)) (h : s.storesWf = true) :
    (s.formResult i fromParent).storesWf = true := by
  unfold State.formResult
  try simp +zetaDelta (maxDischargeDepth := 40) (decide := false) only [h, State.setObj_stores, stores_ite,
      stores_ite_fst, implies_true, forall_const]
  all_goals repeat' (split <;> try simp +zetaDelta (maxDischargeDepth := 40) (decide := false) only [h,
      State.setObj_stores, stores_ite, stores_ite_fst, implies_true, forall_const])

theorem State.releaseOn_stores (s : State) (i : Nat) (cause : Originator) (h : s.storesWf = true) :
    (s.releaseOn i cause).storesWf = true := by
  unfold State.releaseOn
  try simp +zetaDelta (maxDischargeDepth := 40) (decide := false) only [h, State.releaseSteps_stores,
      State.forwardRound_stores, State.runDeposits_stores, State.formResult_stores, stores_ite, stores_ite_fst,
      implies_true, forall_const]
  all_goals repeat' (split <;> try simp +zetaDelta (maxDischargeDepth := 40) (decide := false) only [h,
      State.releaseSteps_stores, State.forwardRound_stores, State.runDeposits_stores, State.formResult_stores,
      stores_ite, stores_ite_fst, implies_true, forall_const])

theorem State.release_stores (s : State) (i : Nat) (fromParent : Option (BitVec 64)) (cause : Originator) (h :
    s.storesWf = true) :
    (s.release i fromParent cause).storesWf = true := by
  unfold State.release
  try simp +zetaDelta (maxDischargeDepth := 40) (decide := false) only [h, State.runDeposits_stores,
      State.formResult_stores, State.releaseOn_stores, stores_ite, stores_ite_fst, implies_true, forall_const]
  all_goals repeat' (split <;> try simp +zetaDelta (maxDischargeDepth := 40) (decide := false) only [h,
      State.runDeposits_stores, State.formResult_stores, State.releaseOn_stores, stores_ite, stores_ite_fst,
      implies_true, forall_const])

theorem State.complete_stores (s : State) (i : Nat) (cause : Originator) (h : s.storesWf = true) :
    (s.complete i cause).storesWf = true := by
  unfold State.complete
  try simp +zetaDelta (maxDischargeDepth := 40) (decide := false) only [h, State.forwardRound_stores,
      State.release_stores, stores_ite, stores_ite_fst, implies_true, forall_const]
  all_goals repeat' (split <;> try simp +zetaDelta (maxDischargeDepth := 40) (decide := false) only [h,
      State.forwardRound_stores, State.release_stores, stores_ite, stores_ite_fst, implies_true, forall_const])

theorem State.endHold_stores (s : State) (p : Nat) (k : Nat) (h : s.storesWf = true) :
    (s.endHold p k).storesWf = true := by
  unfold State.endHold
  try simp +zetaDelta (maxDischargeDepth := 40) (decide := false) only [h, State.modPart_stores,
      State.releaseOn_stores, stores_ite, stores_ite_fst, implies_true, forall_const]
  all_goals repeat' (split <;> try simp +zetaDelta (maxDischargeDepth := 40) (decide := false) only [h,
      State.modPart_stores, State.releaseOn_stores, stores_ite, stores_ite_fst, implies_true, forall_const])

theorem State.childGrant_stores (s : State) (i : Nat) (st : Nat) (v : BitVec 64) (h : s.storesWf = true) :
    (s.childGrant i st v).storesWf = true := by
  unfold State.childGrant
  try simp +zetaDelta (maxDischargeDepth := 40) (decide := false) only [h, State.release_stores,
      State.breakBarrier_stores, State.treeBreak_stores, stores_ite, stores_ite_fst, implies_true, forall_const]
  all_goals repeat' (split <;> try simp +zetaDelta (maxDischargeDepth := 40) (decide := false) only [h,
      State.release_stores, State.breakBarrier_stores, State.treeBreak_stores, stores_ite, stores_ite_fst,
      implies_true, forall_const])

theorem State.breakPosted_stores (s : State) (o : HomeOp) (h : s.storesWf = true) :
    (s.breakPosted o).storesWf = true := by
  unfold State.breakPosted
  try simp +zetaDelta (maxDischargeDepth := 40) (decide := false) only [h, State.breakBarrier_stores, stores_ite,
      stores_ite_fst, implies_true, forall_const]
  all_goals repeat' (split <;> try simp +zetaDelta (maxDischargeDepth := 40) (decide := false) only [h,
      State.breakBarrier_stores, stores_ite, stores_ite_fst, implies_true, forall_const])

theorem State.takeArrival_stores (s : State) (o : HomeOp) (way : ArrivalWay) (wait : Bool) (h : s.storesWf = true) :
    (s.takeArrival o way wait).storesWf = true := by
  have hq : ∀ t, (match s.arrivalWaiter o (s.obj o.index) way wait with
      | some w => s.addWaiter false o.partition w
      | none => some s) = some t → t.storesWf = true := by
    intro t e
    split at e
    · exact State.addWaiter_stores _ _ _ _ h _ e
    · cases e; exact h
  unfold State.takeArrival
  simp only []
  split
  · simp +zetaDelta (maxDischargeDepth := 40) (decide := false) only [h, State.breakPosted_stores,
      State.finish_stores, State.exhausted_stores, State.write_stores, State.recordOp_stores,
      State.complete_stores, stores_ite, stores_ite_fst, implies_true, forall_const]
  · rename_i s1 e
    have k := hq _ e
    cases wait <;> simp only [Bool.false_eq_true, if_true, if_false] <;> split <;>
      simp +zetaDelta (maxDischargeDepth := 40) only [k, State.breakPosted_stores, State.finish_stores,
          State.exhausted_stores, State.write_stores, State.recordOp_stores, State.complete_stores, stores_ite,
          stores_ite_fst, implies_true, forall_const]

theorem State.arrive_stores (s : State) (o : HomeOp) (wait : Bool) (h : s.storesWf = true) :
    (s.arrive o wait).storesWf = true := by
  unfold State.arrive
  try simp +zetaDelta (maxDischargeDepth := 40) (decide := false) only [h, State.breakPosted_stores,
      State.refuse_stores, State.reach12_stores, State.finish_stores, State.takeArrival_stores, stores_ite,
      stores_ite_fst, implies_true, forall_const]
  all_goals repeat' (split <;> try simp +zetaDelta (maxDischargeDepth := 40) (decide := false) only [h,
      State.breakPosted_stores, State.refuse_stores, State.reach12_stores, State.finish_stores,
      State.takeArrival_stores, stores_ite, stores_ite_fst, implies_true, forall_const])

theorem State.waitRelease_stores (s : State) (o : HomeOp) (h : s.storesWf = true) :
    (s.waitRelease o).storesWf = true := by
  unfold State.waitRelease
  try simp +zetaDelta (maxDischargeDepth := 40) (decide := false) only [h, State.refuse_stores,
      State.reach12_stores, State.queueOn?_stores, State.finish_stores, stores_ite, stores_ite_fst, implies_true,
      forall_const]
  all_goals repeat' (split <;> try simp +zetaDelta (maxDischargeDepth := 40) (decide := false) only [h,
      State.refuse_stores, State.reach12_stores, State.queueOn?_stores, State.finish_stores, stores_ite,
      stores_ite_fst, implies_true, forall_const])

theorem State.arriveForwarded_stores (s : State) (o : HomeOp) (b : PartialArrival) (h : s.storesWf = true) :
    (s.arriveForwarded o b).storesWf = true := by
  unfold State.arriveForwarded
  by_cases hb : (s.obj o.index).broken = true
  · simp +zetaDelta (maxDischargeDepth := 40) only [hb, h, if_true, State.refuse_stores, State.reach12_stores,
      State.finish_stores, State.breakBarrier_stores, State.exhausted_stores, State.recordOp_stores,
      State.write_stores, State.complete_stores, stores_ite, stores_ite_fst, implies_true, forall_const]
  · simp only [if_neg hb]
    cases hc : s.forwardedCheck b (s.obj o.index) with
    | some st => simp +zetaDelta (maxDischargeDepth := 40) (decide := false) only [h, State.refuse_stores,
        State.reach12_stores, State.finish_stores, State.breakBarrier_stores, State.exhausted_stores,
        State.recordOp_stores, State.write_stores, State.complete_stores, stores_ite, stores_ite_fst,
        implies_true, forall_const]
    | none =>
      by_cases hd : b.broken = true
      · simp +zetaDelta (maxDischargeDepth := 40) only [hd, h, if_true, State.refuse_stores, State.reach12_stores,
          State.finish_stores, State.breakBarrier_stores, State.exhausted_stores, State.recordOp_stores,
          State.write_stores, State.complete_stores, stores_ite, stores_ite_fst, implies_true, forall_const]
      · simp only [if_neg hd]
        split
        · simp +zetaDelta (maxDischargeDepth := 40) (decide := false) only [h, State.refuse_stores,
            State.reach12_stores, State.finish_stores, State.breakBarrier_stores, State.exhausted_stores,
            State.recordOp_stores, State.write_stores, State.complete_stores, stores_ite, stores_ite_fst,
            implies_true, forall_const]
        · rename_i e
          have k := State.addWaiter_stores _ _ _ _ (State.reach12_stores _ _ h) _ e
          split <;> simp +zetaDelta (maxDischargeDepth := 40) only [k, State.refuse_stores, State.reach12_stores,
              State.finish_stores, State.breakBarrier_stores, State.exhausted_stores, State.recordOp_stores,
              State.write_stores, State.complete_stores, stores_ite, stores_ite_fst, implies_true, forall_const]

end Sys2Proof.Machine
end

