-- ==== Sys2Proof/Laws/StoresLockOps.lean ====
section
/-! SUPPORT. The operations of LockOps.lean keep the sparse stores in their canonical form. -/

set_option linter.all false

namespace Sys2Proof.Machine

theorem State.inheritNotice_stores (s : State) (i : Nat) (waiter : Originator) (boosted : BitVec 4) (cause : Nat) (h
    : s.storesWf = true) :
    (s.inheritNotice i waiter boosted cause).storesWf = true := by
  unfold State.inheritNotice
  try simp +zetaDelta (maxDischargeDepth := 40) (decide := false) only [h, State.notifyRing_stores, stores_ite,
      stores_ite_fst, implies_true, forall_const]
  all_goals repeat' (split <;> try simp +zetaDelta (maxDischargeDepth := 40) (decide := false) only [h,
      State.notifyRing_stores, stores_ite, stores_ite_fst, implies_true, forall_const])

theorem State.endInherit_stores (s : State) (i : Nat) (cause : Nat) (h : s.storesWf = true) :
    (s.endInherit i cause).storesWf = true := by
  unfold State.endInherit
  try simp +zetaDelta (maxDischargeDepth := 40) (decide := false) only [h, State.inheritNotice_stores,
      State.setObj_stores, stores_ite, stores_ite_fst, implies_true, forall_const]
  all_goals repeat' (split <;> try simp +zetaDelta (maxDischargeDepth := 40) (decide := false) only [h,
      State.inheritNotice_stores, State.setObj_stores, stores_ite, stores_ite_fst, implies_true, forall_const])

theorem State.freeLock_stores (s : State) (i : Nat) (how : Nat) (endCause : Nat) (abandon : Bool) (h : s.storesWf =
    true) :
    (s.freeLock i how endCause abandon).storesWf = true := by
  unfold State.freeLock
  try simp +zetaDelta (maxDischargeDepth := 40) (decide := false) only [h, State.endInherit_stores,
      State.recordLock_stores, State.serve_stores, State.setObj_stores, stores_ite, stores_ite_fst, implies_true,
      forall_const]
  all_goals repeat' (split <;> try simp +zetaDelta (maxDischargeDepth := 40) (decide := false) only [h,
      State.endInherit_stores, State.recordLock_stores, State.serve_stores, State.setObj_stores, stores_ite,
      stores_ite_fst, implies_true, forall_const])

theorem State.lockNow_stores (s : State) (o : HomeOp) (result : Nat) (h : s.storesWf = true) :
    (s.lockNow o result).storesWf = true := by
  unfold State.lockNow
  try simp +zetaDelta (maxDischargeDepth := 40) (decide := false) only [h, State.recordLock_stores,
      State.write_stores, State.finish_stores, State.countGrant_stores, stores_ite, stores_ite_fst, implies_true,
      forall_const]
  all_goals repeat' (split <;> try simp +zetaDelta (maxDischargeDepth := 40) (decide := false) only [h,
      State.recordLock_stores, State.write_stores, State.finish_stores, State.countGrant_stores, stores_ite,
      stores_ite_fst, implies_true, forall_const])

theorem State.boost_stores (s : State) (o : HomeOp) (h : s.storesWf = true) :
    (s.boost o).storesWf = true := by
  unfold State.boost
  try simp +zetaDelta (maxDischargeDepth := 40) (decide := false) only [h, State.inheritNotice_stores,
      State.setObj_stores, stores_ite, stores_ite_fst, implies_true, forall_const]
  all_goals repeat' (split <;> try simp +zetaDelta (maxDischargeDepth := 40) (decide := false) only [h,
      State.inheritNotice_stores, State.setObj_stores, stores_ite, stores_ite_fst, implies_true, forall_const])

theorem State.lockQueue_stores (s : State) (o : HomeOp) (h : s.storesWf = true) :
    (s.lockQueue o).storesWf = true := by
  unfold State.lockQueue
  try simp +zetaDelta (maxDischargeDepth := 40) (decide := false) only [h, State.boost_stores,
      State.recordOp_stores, State.finish_stores, State.exhausted_stores, stores_ite, stores_ite_fst,
      implies_true, forall_const]
  all_goals repeat' (split <;> try simp +zetaDelta (maxDischargeDepth := 40) (decide := false) only [h,
      State.boost_stores, State.recordOp_stores, State.finish_stores, State.exhausted_stores, stores_ite,
      stores_ite_fst, implies_true, forall_const])
  all_goals
    rename_i e
    have k := State.addWaiter_stores _ _ _ _ (by first | exact h | simp +zetaDelta (maxDischargeDepth := 40) only
        [h, State.boost_stores, State.recordOp_stores, State.finish_stores, State.exhausted_stores, stores_ite,
        stores_ite_fst, implies_true, forall_const]) _ e
    simp +zetaDelta (maxDischargeDepth := 40) only [k, State.boost_stores, State.recordOp_stores,
        State.finish_stores, State.exhausted_stores, stores_ite, stores_ite_fst, implies_true, forall_const]

theorem State.acquire_stores (s : State) (o : HomeOp) (h : s.storesWf = true) :
    (s.acquire o).storesWf = true := by
  unfold State.acquire
  try simp +zetaDelta (maxDischargeDepth := 40) (decide := false) only [h, State.refuse_stores,
      State.reach12_stores, State.lockQueue_stores, State.lockNow_stores, stores_ite, stores_ite_fst,
      implies_true, forall_const]
  all_goals repeat' (split <;> try simp +zetaDelta (maxDischargeDepth := 40) (decide := false) only [h,
      State.refuse_stores, State.reach12_stores, State.lockQueue_stores, State.lockNow_stores, stores_ite,
      stores_ite_fst, implies_true, forall_const])

theorem State.tryAcquire_stores (s : State) (o : HomeOp) (h : s.storesWf = true) :
    (s.tryAcquire o).storesWf = true := by
  unfold State.tryAcquire
  try simp +zetaDelta (maxDischargeDepth := 40) (decide := false) only [h, State.refuse_stores,
      State.reach12_stores, State.finish_stores, State.lockNow_stores, stores_ite, stores_ite_fst, implies_true,
      forall_const]
  all_goals repeat' (split <;> try simp +zetaDelta (maxDischargeDepth := 40) (decide := false) only [h,
      State.refuse_stores, State.reach12_stores, State.finish_stores, State.lockNow_stores, stores_ite,
      stores_ite_fst, implies_true, forall_const])

theorem State.releaseLock_stores (s : State) (o : HomeOp) (h : s.storesWf = true) :
    (s.releaseLock o).storesWf = true := by
  unfold State.releaseLock
  try simp +zetaDelta (maxDischargeDepth := 40) (decide := false) only [h, State.refuse_stores,
      State.reach12_stores, State.finish_stores, State.freeLock_stores, State.write_stores, stores_ite,
      stores_ite_fst, implies_true, forall_const]
  all_goals repeat' (split <;> try simp +zetaDelta (maxDischargeDepth := 40) (decide := false) only [h,
      State.refuse_stores, State.reach12_stores, State.finish_stores, State.freeLock_stores, State.write_stores,
      stores_ite, stores_ite_fst, implies_true, forall_const])

theorem State.forceRelease_stores (s : State) (o : HomeOp) (h : s.storesWf = true) :
    (s.forceRelease o).storesWf = true := by
  unfold State.forceRelease
  try simp +zetaDelta (maxDischargeDepth := 40) (decide := false) only [h, State.refuse_stores,
      State.reach12_stores, State.finish_stores, State.freeLock_stores, State.write_stores, stores_ite,
      stores_ite_fst, implies_true, forall_const]
  all_goals repeat' (split <;> try simp +zetaDelta (maxDischargeDepth := 40) (decide := false) only [h,
      State.refuse_stores, State.reach12_stores, State.finish_stores, State.freeLock_stores, State.write_stores,
      stores_ite, stores_ite_fst, implies_true, forall_const])

theorem State.holderReset_stores (s : State) (i : Nat) (who : Originator) (delivered : Bool) (h : s.storesWf = true)
    :
    (s.holderReset i who delivered).storesWf = true := by
  unfold State.holderReset
  try simp +zetaDelta (maxDischargeDepth := 40) (decide := false) only [h, State.freeLock_stores,
      State.freeWaiter_stores, stores_ite, stores_ite_fst, implies_true, forall_const]
  all_goals repeat' (split <;> try simp +zetaDelta (maxDischargeDepth := 40) (decide := false) only [h,
      State.freeLock_stores, State.freeWaiter_stores, stores_ite, stores_ite_fst, implies_true, forall_const])

theorem State.reorder_stores (s : State) (i : Nat) (h : s.storesWf = true) :
    (s.reorder i).storesWf = true := by
  exact stores_of_wipe (State.reorder_wipe s i 0x7dfa7c1cf2fff (by decide)) h

end Sys2Proof.Machine
end

