-- ==== Sys2Proof/Laws/StoresHome.lean ====
section
/-! SUPPORT. The operations of Home.lean keep the sparse stores in their canonical form. -/

set_option linter.all false

namespace Sys2Proof.Machine

theorem State.dropChecks_stores (s : State) (i : Nat) (h : s.storesWf = true) :
    (s.dropChecks i).storesWf = true := by
  unfold State.dropChecks
  try simp +contextual +zetaDelta (maxDischargeDepth := 40) (decide := false) only [h, State.each_stores,
      State.modPort_stores, stores_ite, stores_ite_fst, implies_true, forall_const]
  all_goals repeat' (split <;> try simp +contextual +zetaDelta (maxDischargeDepth := 40) (decide := false) only
      [h, State.each_stores, State.modPort_stores, stores_ite, stores_ite_fst, implies_true, forall_const])

theorem State.initObj_stores (s : State) (o : HomeOp) (h : s.storesWf = true) :
    (s.initObj o).storesWf = true := by
  unfold State.initObj
  try simp +zetaDelta (maxDischargeDepth := 40) (decide := false) only [h, State.refuse_stores,
      State.reach12_stores, State.finish_stores, State.setObj_stores, State.dropChecks_stores,
      State.dropHolds_stores, State.setWideBit_stores, stores_ite, stores_ite_fst, implies_true, forall_const]
  all_goals repeat' (split <;> try simp +zetaDelta (maxDischargeDepth := 40) (decide := false) only [h,
      State.refuse_stores, State.reach12_stores, State.finish_stores, State.setObj_stores,
      State.dropChecks_stores, State.dropHolds_stores, State.setWideBit_stores, stores_ite, stores_ite_fst,
      implies_true, forall_const])

theorem State.effect_stores (s : State) (o : HomeOp) (c : Opcode) (h : s.storesWf = true) :
    (s.effect o c).storesWf = true := by
  unfold State.effect
  try simp +zetaDelta (maxDischargeDepth := 40) (decide := false) only [h, State.signalEvent_stores,
      State.signalAmount_stores, State.clearEvent_stores, State.waitEvent_stores, State.waitAmount_stores,
      State.takeAmount_stores, State.tryTakeAmount_stores, State.arrive_stores, State.waitRelease_stores,
      State.acquire_stores, State.tryAcquire_stores, State.releaseLock_stores, State.forceRelease_stores,
      State.readObj_stores, State.initObj_stores, State.addAmount_stores, State.swapAmount_stores,
      State.casAmount_stores, State.armObj_stores, State.disarmObj_stores, State.refuse_stores, stores_ite,
      stores_ite_fst, implies_true, forall_const]
  all_goals repeat' (split <;> try simp +zetaDelta (maxDischargeDepth := 40) (decide := false) only [h,
      State.signalEvent_stores, State.signalAmount_stores, State.clearEvent_stores, State.waitEvent_stores,
      State.waitAmount_stores, State.takeAmount_stores, State.tryTakeAmount_stores, State.arrive_stores,
      State.waitRelease_stores, State.acquire_stores, State.tryAcquire_stores, State.releaseLock_stores,
      State.forceRelease_stores, State.readObj_stores, State.initObj_stores, State.addAmount_stores,
      State.swapAmount_stores, State.casAmount_stores, State.armObj_stores, State.disarmObj_stores,
      State.refuse_stores, stores_ite, stores_ite_fst, implies_true, forall_const])

theorem State.performOp_stores (s : State) (o : HomeOp) (c : Opcode) (h : s.storesWf = true) :
    (s.performOp o c).storesWf = true := by
  unfold State.performOp
  try simp +zetaDelta (maxDischargeDepth := 40) (decide := false) only [h, State.refuse_stores,
      State.effect_stores, stores_ite, stores_ite_fst, implies_true, forall_const]
  all_goals repeat' (split <;> try simp +zetaDelta (maxDischargeDepth := 40) (decide := false) only [h,
      State.refuse_stores, State.effect_stores, stores_ite, stores_ite_fst, implies_true, forall_const])

theorem State.performHome_stores (s0 : State) (o : HomeOp) (h : s0.storesWf = true) :
    (s0.performHome o).storesWf = true := by
  unfold State.performHome
  try simp +zetaDelta (maxDischargeDepth := 40) (decide := false) only [h, State.refuse_stores,
      State.accessObj_stores, State.countSelvedge_stores, State.initObj_stores, State.performOp_stores,
      stores_ite, stores_ite_fst, implies_true, forall_const]
  all_goals repeat' (split <;> try simp +zetaDelta (maxDischargeDepth := 40) (decide := false) only [h,
      State.refuse_stores, State.accessObj_stores, State.countSelvedge_stores, State.initObj_stores,
      State.performOp_stores, stores_ite, stores_ite_fst, implies_true, forall_const])

theorem State.performForwarded_stores (s0 : State) (o : HomeOp) (b : PartialArrival) (h : s0.storesWf = true) :
    (s0.performForwarded o b).storesWf = true := by
  unfold State.performForwarded
  try simp +zetaDelta (maxDischargeDepth := 40) (decide := false) only [h, State.refuse_stores,
      State.accessObj_stores, State.countSelvedge_stores, State.arriveForwarded_stores, stores_ite,
      stores_ite_fst, implies_true, forall_const]
  all_goals repeat' (split <;> try simp +zetaDelta (maxDischargeDepth := 40) (decide := false) only [h,
      State.refuse_stores, State.accessObj_stores, State.countSelvedge_stores, State.arriveForwarded_stores,
      stores_ite, stores_ite_fst, implies_true, forall_const])

theorem State.templateRefused_stores (s : State) (p : Nat) (h : s.storesWf = true) :
    (s.templateRefused p).storesWf = true := by
  unfold State.templateRefused
  try simp +zetaDelta (maxDischargeDepth := 40) (decide := false) only [h, State.pcount_stores, stores_ite,
      stores_ite_fst, implies_true, forall_const]
  all_goals repeat' (split <;> try simp +zetaDelta (maxDischargeDepth := 40) (decide := false) only [h,
      State.pcount_stores, stores_ite, stores_ite_fst, implies_true, forall_const])

theorem State.performTemplate_stores (s0 : State) (o : HomeOp) (h : s0.storesWf = true) :
    (s0.performTemplate o).1.storesWf = true := by
  unfold State.performTemplate
  try simp +zetaDelta (maxDischargeDepth := 40) (decide := false) only [h, State.templateRefused_stores,
      State.accessObj_stores, State.write_stores, State.countSelvedge_stores, stores_ite, stores_ite_fst,
      implies_true, forall_const]
  all_goals repeat' (split <;> try simp +zetaDelta (maxDischargeDepth := 40) (decide := false) only [h,
      State.templateRefused_stores, State.accessObj_stores, State.write_stores, State.countSelvedge_stores,
      stores_ite, stores_ite_fst, implies_true, forall_const])

end Sys2Proof.Machine
end

