-- ==== Sys2Proof/Laws/StoresNear.lean ====
section
/-! SUPPORT. The operations of Near.lean keep the sparse stores in their canonical form. -/

set_option linter.all false

namespace Sys2Proof.Machine

theorem State.nearAnswer_stores (s : State) (p : Nat) (w : NearWait) (st : Status) (result : Nat) (v : BitVec 64) (h
    : s.storesWf = true) :
    (s.nearAnswer p w st result v).storesWf = true := by
  unfold State.nearAnswer
  try simp +zetaDelta (maxDischargeDepth := 40) (decide := false) only [h, State.countRefused_stores,
      State.offer_stores, stores_ite, stores_ite_fst, implies_true, forall_const]
  all_goals repeat' (split <;> try simp +zetaDelta (maxDischargeDepth := 40) (decide := false) only [h,
      State.countRefused_stores, State.offer_stores, stores_ite, stores_ite_fst, implies_true, forall_const])

theorem State.shimReach_stores (s : State) (o : HomeOp) (h : s.storesWf = true) :
    (s.shimReach o).storesWf = true := by
  unfold State.shimReach
  try simp +zetaDelta (maxDischargeDepth := 40) (decide := false) only [h, State.count_stores,
      State.pcount_stores, State.actOp_stores, stores_ite, stores_ite_fst, implies_true, forall_const]
  all_goals repeat' (split <;> try simp +zetaDelta (maxDischargeDepth := 40) (decide := false) only [h,
      State.count_stores, State.pcount_stores, State.actOp_stores, stores_ite, stores_ite_fst, implies_true,
      forall_const])

theorem State.nearRefuse_stores (s : State) (p : Nat) (w : NearWait) (st : Status) (h : s.storesWf = true) :
    (s.nearRefuse p w st).storesWf = true := by
  unfold State.nearRefuse
  try simp +zetaDelta (maxDischargeDepth := 40) (decide := false) only [h, State.nearAnswer_stores,
      State.actOp_stores, stores_ite, stores_ite_fst, implies_true, forall_const]
  all_goals repeat' (split <;> try simp +zetaDelta (maxDischargeDepth := 40) (decide := false) only [h,
      State.nearAnswer_stores, State.actOp_stores, stores_ite, stores_ite_fst, implies_true, forall_const])

theorem State.nearFinish_stores (s : State) (p : Nat) (w : NearWait) (st : Status) (result : Nat) (v : BitVec 64) (h
    : s.storesWf = true) :
    (s.nearFinish p w st result v).storesWf = true := by
  unfold State.nearFinish
  try simp +zetaDelta (maxDischargeDepth := 40) (decide := false) only [h, State.shimReach_stores,
      State.nearAnswer_stores, State.recordOp_stores, stores_ite, stores_ite_fst, implies_true, forall_const]
  all_goals repeat' (split <;> try simp +zetaDelta (maxDischargeDepth := 40) (decide := false) only [h,
      State.shimReach_stores, State.nearAnswer_stores, State.recordOp_stores, stores_ite, stores_ite_fst,
      implies_true, forall_const])

theorem State.nearGrant_stores (s : State) (p : Nat) (w : NearWait) (result : Nat) (h : s.storesWf = true) :
    (s.nearGrant p w result).storesWf = true := by
  unfold State.nearGrant
  try simp +zetaDelta (maxDischargeDepth := 40) (decide := false) only [h, State.modPort_stores,
      State.offer_stores, State.recordGrant_stores, stores_ite, stores_ite_fst, implies_true, forall_const]
  all_goals repeat' (split <;> try simp +zetaDelta (maxDischargeDepth := 40) (decide := false) only [h,
      State.modPort_stores, State.offer_stores, State.recordGrant_stores, stores_ite, stores_ite_fst,
      implies_true, forall_const])

theorem State.setNear_stores (s : State) (p : Nat) (n : Nat) (o : NearObj) (h : s.storesWf = true) :
    (s.setNear p n o).storesWf = true := by
  unfold State.setNear
  try simp +zetaDelta (maxDischargeDepth := 40) (decide := false) only [h, State.modPort_stores, stores_ite,
      stores_ite_fst, implies_true, forall_const]
  all_goals repeat' (split <;> try simp +zetaDelta (maxDischargeDepth := 40) (decide := false) only [h,
      State.modPort_stores, stores_ite, stores_ite_fst, implies_true, forall_const])

theorem State.nearServe_stores (s : State) (p : Nat) (n : Nat) (held : Bool) (k : Nat) (x5 : List NearWait) (h :
    s.storesWf = true) :
    (s.nearServe p n held k x5).1.storesWf = true := by
  fun_induction State.nearServe s p n held k x5
  all_goals try simp +zetaDelta (maxDischargeDepth := 40) only [*, State.fresh_stores, State.nearGrant_stores,
      State.setNear_stores, stores_ite, stores_ite_fst, implies_true, forall_const]
  all_goals simp_all +zetaDelta (maxDischargeDepth := 40) only [State.fresh_stores, State.nearGrant_stores,
      State.setNear_stores, stores_ite, stores_ite_fst, implies_true, forall_const]

theorem State.nearQueue_stores (s : State) (p : Nat) (w : NearWait) (h : s.storesWf = true) :
    (s.nearQueue p w).storesWf = true := by
  unfold State.nearQueue
  try simp +zetaDelta (maxDischargeDepth := 40) (decide := false) only [h, State.modPort_stores,
      State.recordOp_stores, State.shimReach_stores, stores_ite, stores_ite_fst, implies_true, forall_const]
  all_goals repeat' (split <;> try simp +zetaDelta (maxDischargeDepth := 40) (decide := false) only [h,
      State.modPort_stores, State.recordOp_stores, State.shimReach_stores, stores_ite, stores_ite_fst,
      implies_true, forall_const])

theorem State.nearSignal_stores (s : State) (p : Nat) (w : NearWait) (o : NearObj) (h : s.storesWf = true) :
    (s.nearSignal p w o).storesWf = true := by
  unfold State.nearSignal
  try simp +zetaDelta (maxDischargeDepth := 40) (decide := false) only [h, State.nearServe_stores,
      State.setNear_stores, State.nearFinish_stores, stores_ite, stores_ite_fst, implies_true, forall_const]
  all_goals repeat' (split <;> try simp +zetaDelta (maxDischargeDepth := 40) (decide := false) only [h,
      State.nearServe_stores, State.setNear_stores, State.nearFinish_stores, stores_ite, stores_ite_fst,
      implies_true, forall_const])

theorem State.nearRelease_stores (s : State) (p : Nat) (sense : Bool) (x3 : List NearWait) (h : s.storesWf = true) :
    (s.nearRelease p sense x3).storesWf = true := by
  fun_induction State.nearRelease s p sense x3
  all_goals try simp +zetaDelta (maxDischargeDepth := 40) only [*, State.nearGrant_stores, stores_ite,
      stores_ite_fst, implies_true, forall_const]
  all_goals repeat' (split <;> try simp +zetaDelta (maxDischargeDepth := 40) only [*, State.nearGrant_stores,
      stores_ite, stores_ite_fst, implies_true, forall_const])

theorem State.nearRound_stores (s : State) (p : Nat) (n : Nat) (h : s.storesWf = true) :
    (s.nearRound p n).storesWf = true := by
  unfold State.nearRound
  try simp +zetaDelta (maxDischargeDepth := 40) (decide := false) only [h, State.nearRelease_stores,
      State.setNear_stores, stores_ite, stores_ite_fst, implies_true, forall_const]
  all_goals repeat' (split <;> try simp +zetaDelta (maxDischargeDepth := 40) (decide := false) only [h,
      State.nearRelease_stores, State.setNear_stores, stores_ite, stores_ite_fst, implies_true, forall_const])

theorem State.nearComplete_stores (s : State) (p : Nat) (n : Nat) (h : s.storesWf = true) :
    (s.nearComplete p n).storesWf = true := by
  unfold State.nearComplete
  try simp +zetaDelta (maxDischargeDepth := 40) (decide := false) only [h, State.nearRound_stores, stores_ite,
      stores_ite_fst, implies_true, forall_const]
  all_goals repeat' (split <;> try simp +zetaDelta (maxDischargeDepth := 40) (decide := false) only [h,
      State.nearRound_stores, stores_ite, stores_ite_fst, implies_true, forall_const])

theorem State.nearBreak_stores (s : State) (p : Nat) (w : NearWait) (h : s.storesWf = true) :
    (s.nearBreak p w).storesWf = true := by
  unfold State.nearBreak
  try simp +zetaDelta (maxDischargeDepth := 40) (decide := false) only [h, State.setNear_stores,
      State.endNears_stores, stores_ite, stores_ite_fst, implies_true, forall_const]
  all_goals repeat' (split <;> try simp +zetaDelta (maxDischargeDepth := 40) (decide := false) only [h,
      State.setNear_stores, State.endNears_stores, stores_ite, stores_ite_fst, implies_true, forall_const])

theorem State.nearArrive_stores (s : State) (p : Nat) (w : NearWait) (wait : Bool) (h : s.storesWf = true) :
    (s.nearArrive p w wait).storesWf = true := by
  unfold State.nearArrive
  try simp +zetaDelta (maxDischargeDepth := 40) (decide := false) only [h, State.nearBreak_stores,
      State.nearRefuse_stores, State.nearFinish_stores, State.setNear_stores, State.nearQueue_stores,
      State.nearComplete_stores, stores_ite, stores_ite_fst, implies_true, forall_const]
  all_goals repeat' (split <;> try simp +zetaDelta (maxDischargeDepth := 40) (decide := false) only [h,
      State.nearBreak_stores, State.nearRefuse_stores, State.nearFinish_stores, State.setNear_stores,
      State.nearQueue_stores, State.nearComplete_stores, stores_ite, stores_ite_fst, implies_true, forall_const])

theorem State.nearParity_stores (s : State) (p : Nat) (n : Nat) (h : s.storesWf = true) :
    (s.nearParity p n).storesWf = true := by
  unfold State.nearParity
  try simp +zetaDelta (maxDischargeDepth := 40) (decide := false) only [h, State.setPort_stores,
      State.endNears_stores, State.errLocation_stores, State.bump_stores, State.failOne_stores, stores_ite,
      stores_ite_fst, implies_true, forall_const]
  all_goals repeat' (split <;> try simp +zetaDelta (maxDischargeDepth := 40) (decide := false) only [h,
      State.setPort_stores, State.endNears_stores, State.errLocation_stores, State.bump_stores,
      State.failOne_stores, stores_ite, stores_ite_fst, implies_true, forall_const])

theorem State.nearCheck_stores (s : State) (p : Nat) (n : Nat) (h : s.storesWf = true) :
    (s.nearCheck p n).storesWf = true := by
  unfold State.nearCheck
  try simp +zetaDelta (maxDischargeDepth := 40) (decide := false) only [h, State.nearParity_stores,
      State.fresh_stores, State.setPort_stores, stores_ite, stores_ite_fst, implies_true, forall_const]
  all_goals repeat' (split <;> try simp +zetaDelta (maxDischargeDepth := 40) (decide := false) only [h,
      State.nearParity_stores, State.fresh_stores, State.setPort_stores, stores_ite, stores_ite_fst, implies_true,
      forall_const])

theorem State.nearEffect_stores (s : State) (p : Nat) (w : NearWait) (c : Opcode) (h : s.storesWf = true) :
    (s.nearEffect p w c).storesWf = true := by
  unfold State.nearEffect
  try simp +zetaDelta (maxDischargeDepth := 40) (decide := false) only [h, State.nearSignal_stores,
      State.nearRefuse_stores, State.nearFinish_stores, State.setNear_stores, State.fresh_stores,
      State.nearQueue_stores, State.nearArrive_stores, stores_ite, stores_ite_fst, implies_true, forall_const]
  all_goals repeat' (split <;> try simp +zetaDelta (maxDischargeDepth := 40) (decide := false) only [h,
      State.nearSignal_stores, State.nearRefuse_stores, State.nearFinish_stores, State.setNear_stores,
      State.fresh_stores, State.nearQueue_stores, State.nearArrive_stores, stores_ite, stores_ite_fst,
      implies_true, forall_const])

theorem State.performNear_stores (s0 : State) (p : Nat) (w : NearWait) (c : Opcode) (h : s0.storesWf = true) :
    (s0.performNear p w c).storesWf = true := by
  unfold State.performNear
  try simp +zetaDelta (maxDischargeDepth := 40) (decide := false) only [h, State.nearRefuse_stores,
      State.nearCheck_stores, State.nearEffect_stores, stores_ite, stores_ite_fst, implies_true, forall_const]
  all_goals repeat' (split <;> try simp +zetaDelta (maxDischargeDepth := 40) (decide := false) only [h,
      State.nearRefuse_stores, State.nearCheck_stores, State.nearEffect_stores, stores_ite, stores_ite_fst,
      implies_true, forall_const])

end Sys2Proof.Machine
end

