-- ==== Sys2Proof/Laws/StoresAnswer.lean ====
section
/-! SUPPORT. The operations of Answer.lean keep the sparse stores in their canonical form. -/

set_option linter.all false

namespace Sys2Proof.Machine

theorem State.catAnswer_stores (s : State) (a : CatAnswer) (h : s.storesWf = true) :
    (s.catAnswer a).storesWf = true := by
  unfold State.catAnswer
  try simp +zetaDelta (maxDischargeDepth := 40) (decide := false) only [h, stores_apb, State.bump_stores,
      State.drive_stores, State.setCfg_stores, stores_ite, stores_ite_fst, implies_true, forall_const]
  all_goals repeat' (split <;> try simp +zetaDelta (maxDischargeDepth := 40) (decide := false) only [h,
      stores_apb, State.bump_stores, State.drive_stores, State.setCfg_stores, stores_ite, stores_ite_fst,
      implies_true, forall_const])

theorem State.catFinish_stores (s : State) (h : CatHdr) (st : CatStatus) (hs : s.storesWf = true) :
    (s.catFinish h st).storesWf = true := by
  unfold State.catFinish
  try simp +zetaDelta (maxDischargeDepth := 40) (decide := false) only [hs, stores_catOpen,
      State.catAnswer_stores, stores_ite, stores_ite_fst, implies_true, forall_const]
  all_goals repeat' (split <;> try simp +zetaDelta (maxDischargeDepth := 40) (decide := false) only [hs,
      stores_catOpen, State.catAnswer_stores, stores_ite, stores_ite_fst, implies_true, forall_const])

theorem State.catFinishAll_stores (s : State) (st : CatStatus) (x2 : List CatHdr) (h : s.storesWf = true) :
    (s.catFinishAll st x2).storesWf = true := by
  fun_induction State.catFinishAll s st x2
  all_goals try simp +zetaDelta (maxDischargeDepth := 40) only [*, State.catFinish_stores, stores_ite,
      stores_ite_fst, implies_true, forall_const]
  all_goals repeat' (split <;> try simp +zetaDelta (maxDischargeDepth := 40) only [*, State.catFinish_stores,
      stores_ite, stores_ite_fst, implies_true, forall_const])

end Sys2Proof.Machine
end

