-- ==== Sys2Proof/Laws/StoresShim.lean ====
section
/-! SUPPORT. The operations of Shim.lean keep the sparse stores in their canonical form. -/

set_option linter.all false

namespace Sys2Proof.Machine

theorem State.noteSent_stores (s : State) (o : HomeOp) (h : s.storesWf = true) :
    (s.noteSent o).storesWf = true := by
  unfold State.noteSent
  try simp +zetaDelta (maxDischargeDepth := 40) (decide := false) only [h, State.modPort_stores,
      State.modSlot_stores, stores_ite, stores_ite_fst, implies_true, forall_const]
  all_goals repeat' (split <;> try simp +zetaDelta (maxDischargeDepth := 40) (decide := false) only [h,
      State.modPort_stores, State.modSlot_stores, stores_ite, stores_ite_fst, implies_true, forall_const])

theorem State.noteHere_stores (s : State) (o : HomeOp) (h : s.storesWf = true) :
    (s.noteHere o).storesWf = true := by
  unfold State.noteHere
  try simp +zetaDelta (maxDischargeDepth := 40) (decide := false) only [h, State.modPort_stores,
      State.modSlot_stores, stores_ite, stores_ite_fst, implies_true, forall_const]
  all_goals repeat' (split <;> try simp +zetaDelta (maxDischargeDepth := 40) (decide := false) only [h,
      State.modPort_stores, State.modSlot_stores, stores_ite, stores_ite_fst, implies_true, forall_const])

theorem State.toHome_stores (s : State) (o : HomeOp) (h : s.storesWf = true) :
    (s.toHome o).storesWf = true := by
  unfold State.toHome
  try simp +zetaDelta (maxDischargeDepth := 40) (decide := false) only [h, State.performHome_stores,
      State.noteHere_stores, State.send_stores, State.noteSent_stores, stores_ite, stores_ite_fst, implies_true,
      forall_const]
  all_goals repeat' (split <;> try simp +zetaDelta (maxDischargeDepth := 40) (decide := false) only [h,
      State.performHome_stores, State.noteHere_stores, State.send_stores, State.noteSent_stores, stores_ite,
      stores_ite_fst, implies_true, forall_const])

theorem State.accessLocks_stores (s : State) (p : Nat) (x2 : List HeldLock) (h : s.storesWf = true) :
    (s.accessLocks p x2).storesWf = true := by
  fun_induction State.accessLocks s p x2
  all_goals try simp +zetaDelta (maxDischargeDepth := 40) only [*, State.access_stores, stores_ite,
      stores_ite_fst, implies_true, forall_const]
  all_goals repeat' (split <;> try simp +zetaDelta (maxDischargeDepth := 40) only [*, State.access_stores,
      stores_ite, stores_ite_fst, implies_true, forall_const])

theorem State.ledgerNow_stores (s : State) (e : Ledger) (o : HomeOp) (h : s.storesWf = true) :
    (s.ledgerNow e o).storesWf = true := by
  unfold State.ledgerNow
  try simp +zetaDelta (maxDischargeDepth := 40) (decide := false) only [h, State.setLedger_stores,
      State.finish_stores, State.countGrant_stores, State.reach12_stores, stores_ite, stores_ite_fst,
      implies_true, forall_const]
  all_goals repeat' (split <;> try simp +zetaDelta (maxDischargeDepth := 40) (decide := false) only [h,
      State.setLedger_stores, State.finish_stores, State.countGrant_stores, State.reach12_stores, stores_ite,
      stores_ite_fst, implies_true, forall_const])

theorem State.ledgerWait_stores (s : State) (e : Ledger) (o : HomeOp) (h : s.storesWf = true) :
    (s.ledgerWait e o).storesWf = true := by
  unfold State.ledgerWait
  try simp +zetaDelta (maxDischargeDepth := 40) (decide := false) only [h, State.reach12_stores,
      State.topUp_stores, State.recordOp_stores, State.finish_stores, State.exhausted_stores, stores_ite,
      stores_ite_fst, implies_true, forall_const]
  all_goals repeat' (split <;> try simp +zetaDelta (maxDischargeDepth := 40) (decide := false) only [h,
      State.reach12_stores, State.topUp_stores, State.recordOp_stores, State.finish_stores,
      State.exhausted_stores, stores_ite, stores_ite_fst, implies_true, forall_const])
  all_goals
    rename_i e
    have k := State.addWaiter_stores _ _ _ _ (by first | exact h | simp +zetaDelta (maxDischargeDepth := 40) only
        [h, State.reach12_stores, State.topUp_stores, State.recordOp_stores, State.finish_stores,
        State.exhausted_stores, stores_ite, stores_ite_fst, implies_true, forall_const]) _ e
    simp +zetaDelta (maxDischargeDepth := 40) only [k, State.reach12_stores, State.topUp_stores,
        State.recordOp_stores, State.finish_stores, State.exhausted_stores, stores_ite, stores_ite_fst,
        implies_true, forall_const]

theorem State.fromLedger_stores (s : State) (e : Ledger) (o : HomeOp) (h : s.storesWf = true) :
    (s.fromLedger e o).storesWf = true := by
  unfold State.fromLedger
  try simp +zetaDelta (maxDischargeDepth := 40) (decide := false) only [h, State.refuse_stores,
      State.noteHere_stores, State.ledgerNow_stores, State.ledgerWait_stores, State.toHome_stores, stores_ite,
      stores_ite_fst, implies_true, forall_const]
  all_goals repeat' (split <;> try simp +zetaDelta (maxDischargeDepth := 40) (decide := false) only [h,
      State.refuse_stores, State.noteHere_stores, State.ledgerNow_stores, State.ledgerWait_stores,
      State.toHome_stores, stores_ite, stores_ite_fst, implies_true, forall_const])

theorem State.launch_stores (s : State) (o : HomeOp) (h : s.storesWf = true) :
    (s.launch o).storesWf = true := by
  unfold State.launch
  try simp +zetaDelta (maxDischargeDepth := 40) (decide := false) only [h, State.accessLocks_stores,
      State.refuse_stores, State.noteHere_stores, State.toHome_stores, State.modPort_stores, State.access_stores,
      State.fromLedger_stores, stores_ite, stores_ite_fst, implies_true, forall_const]
  all_goals repeat' (split <;> try simp +zetaDelta (maxDischargeDepth := 40) (decide := false) only [h,
      State.accessLocks_stores, State.refuse_stores, State.noteHere_stores, State.toHome_stores,
      State.modPort_stores, State.access_stores, State.fromLedger_stores, stores_ite, stores_ite_fst,
      implies_true, forall_const])

theorem State.forwardOp_stores (s : State) (o : HomeOp) (h : s.storesWf = true) :
    (s.forwardOp o).storesWf = true := by
  unfold State.forwardOp
  try simp +zetaDelta (maxDischargeDepth := 40) (decide := false) only [h, State.refuse_stores,
      State.launch_stores, stores_ite, stores_ite_fst, implies_true, forall_const]
  all_goals repeat' (split <;> try simp +zetaDelta (maxDischargeDepth := 40) (decide := false) only [h,
      State.refuse_stores, State.launch_stores, stores_ite, stores_ite_fst, implies_true, forall_const])

theorem State.stormNote_stores (s : State) (f : StormSource) (reason : Nat) (last : Option Time) (longest : Nat)
    (count : Nat) (h : s.storesWf = true) :
    (s.stormNote f reason last longest count).1.storesWf = true := by
  unfold State.stormNote
  try simp +zetaDelta (maxDischargeDepth := 40) (decide := false) only [h, State.notifyRing_stores, stores_ite,
      stores_ite_fst, implies_true, forall_const]
  all_goals repeat' (split <;> try simp +zetaDelta (maxDischargeDepth := 40) (decide := false) only [h,
      State.notifyRing_stores, stores_ite, stores_ite_fst, implies_true, forall_const])

theorem State.stormBucket_stores (s : State) (f : StormSource) (reason : Nat) (b : Bucket) (n : Nat) (h : s.storesWf
    = true) :
    (s.stormBucket f reason b n).1.storesWf = true := by
  unfold State.stormBucket
  try simp +zetaDelta (maxDischargeDepth := 40) (decide := false) only [h, State.stormNote_stores, stores_ite,
      stores_ite_fst, implies_true, forall_const]
  all_goals repeat' (split <;> try simp +zetaDelta (maxDischargeDepth := 40) (decide := false) only [h,
      State.stormNote_stores, stores_ite, stores_ite_fst, implies_true, forall_const])

theorem State.refillLane_stores (s : State) (p : Nat) (lane : Nat) (h : s.storesWf = true) :
    (s.refillLane p lane).storesWf = true := by
  unfold State.refillLane
  try simp +zetaDelta (maxDischargeDepth := 40) (decide := false) only [h, State.modPort_stores, stores_ite,
      stores_ite_fst, implies_true, forall_const]
  all_goals repeat' (split <;> try simp +zetaDelta (maxDischargeDepth := 40) (decide := false) only [h,
      State.modPort_stores, stores_ite, stores_ite_fst, implies_true, forall_const])

theorem State.spendLane_stores (s : State) (p : Nat) (lane : Nat) (h : s.storesWf = true) :
    (s.spendLane p lane).storesWf = true := by
  unfold State.spendLane
  try simp +zetaDelta (maxDischargeDepth := 40) (decide := false) only [h, State.modPort_stores,
      State.refillLane_stores, stores_ite, stores_ite_fst, implies_true, forall_const]
  all_goals repeat' (split <;> try simp +zetaDelta (maxDischargeDepth := 40) (decide := false) only [h,
      State.modPort_stores, State.refillLane_stores, stores_ite, stores_ite_fst, implies_true, forall_const])

theorem State.bucketHold_stores (s : State) (p : Nat) (lane : Nat) (h : s.storesWf = true) :
    (s.bucketHold p lane).storesWf = true := by
  unfold State.bucketHold
  try simp +zetaDelta (maxDischargeDepth := 40) (decide := false) only [h, State.stormBucket_stores,
      State.modPort_stores, stores_ite, stores_ite_fst, implies_true, forall_const]
  all_goals repeat' (split <;> try simp +zetaDelta (maxDischargeDepth := 40) (decide := false) only [h,
      State.stormBucket_stores, State.modPort_stores, stores_ite, stores_ite_fst, implies_true, forall_const])

theorem State.bucketHeld_stores (s : State) (p : Nat) (h : ShimOp) (hs : s.storesWf = true) :
    (s.bucketHeld p h).storesWf = true := by
  unfold State.bucketHeld
  try simp +zetaDelta (maxDischargeDepth := 40) (decide := false) only [hs, State.modPort_stores, stores_ite,
      stores_ite_fst, implies_true, forall_const]
  all_goals repeat' (split <;> try simp +zetaDelta (maxDischargeDepth := 40) (decide := false) only [hs,
      State.modPort_stores, stores_ite, stores_ite_fst, implies_true, forall_const])

theorem State.park_stores (s : State) (p : Nat) (v : BitVec 64) (h : s.storesWf = true) :
    (s.park p v).1.storesWf = true := by
  unfold State.park
  try simp +zetaDelta (maxDischargeDepth := 40) (decide := false) only [h, State.setPort_stores, stores_ite,
      stores_ite_fst, implies_true, forall_const]
  all_goals repeat' (split <;> try simp +zetaDelta (maxDischargeDepth := 40) (decide := false) only [h,
      State.setPort_stores, stores_ite, stores_ite_fst, implies_true, forall_const])

theorem State.unpark_stores (s : State) (p : Nat) (v : BitVec 64) (h : s.storesWf = true) :
    (s.unpark p v).1.storesWf = true := by
  unfold State.unpark
  try simp +zetaDelta (maxDischargeDepth := 40) (decide := false) only [h, State.offerAll_stores,
      State.setPort_stores, stores_ite, stores_ite_fst, implies_true, forall_const]
  all_goals repeat' (split <;> try simp +zetaDelta (maxDischargeDepth := 40) (decide := false) only [h,
      State.offerAll_stores, State.setPort_stores, stores_ite, stores_ite_fst, implies_true, forall_const])

theorem State.releaseStore_stores (s : State) (p : Nat) (h : s.storesWf = true) :
    (s.releaseStore p).storesWf = true := by
  unfold State.releaseStore
  try simp +zetaDelta (maxDischargeDepth := 40) (decide := false) only [h, State.offerAll_stores,
      State.modPort_stores, stores_ite, stores_ite_fst, implies_true, forall_const]
  all_goals repeat' (split <;> try simp +zetaDelta (maxDischargeDepth := 40) (decide := false) only [h,
      State.offerAll_stores, State.modPort_stores, stores_ite, stores_ite_fst, implies_true, forall_const])

theorem State.recordHold_stores (s : State) (q : Nat) (how : Nat) (h : s.storesWf = true) :
    (s.recordHold q how).storesWf = true := by
  unfold State.recordHold
  try simp +zetaDelta (maxDischargeDepth := 40) (decide := false) only [h, State.record_stores, stores_ite,
      stores_ite_fst, implies_true, forall_const]
  all_goals repeat' (split <;> try simp +zetaDelta (maxDischargeDepth := 40) (decide := false) only [h,
      State.record_stores, stores_ite, stores_ite_fst, implies_true, forall_const])

theorem State.holdHere_stores (s : State) (q : Nat) (h : s.storesWf = true) :
    (s.holdHere q).storesWf = true := by
  unfold State.holdHere
  try simp +zetaDelta (maxDischargeDepth := 40) (decide := false) only [h, State.recordHold_stores,
      State.modPart_stores, stores_ite, stores_ite_fst, implies_true, forall_const]
  all_goals repeat' (split <;> try simp +zetaDelta (maxDischargeDepth := 40) (decide := false) only [h,
      State.recordHold_stores, State.modPart_stores, stores_ite, stores_ite_fst, implies_true, forall_const])

theorem State.resumeHere_stores (s : State) (q : Nat) (h : s.storesWf = true) :
    (s.resumeHere q).storesWf = true := by
  unfold State.resumeHere
  try simp +contextual +zetaDelta (maxDischargeDepth := 40) (decide := false) only [h, State.each_stores,
      State.modPart_stores, State.recordHold_stores, State.releaseStore_stores, stores_ite, stores_ite_fst,
      implies_true, forall_const]
  all_goals repeat' (split <;> try simp +contextual +zetaDelta (maxDischargeDepth := 40) (decide := false) only
      [h, State.each_stores, State.modPart_stores, State.recordHold_stores, State.releaseStore_stores, stores_ite,
      stores_ite_fst, implies_true, forall_const])

theorem State.serviceDone_stores (s : State) (p : Nat) (e : Pend) (st : Status) (result : Nat) (h : s.storesWf =
    true) :
    (s.serviceDone p e st result).storesWf = true := by
  unfold State.serviceDone
  try simp +zetaDelta (maxDischargeDepth := 40) (decide := false) only [h, State.shimReach_stores,
      State.recordOp_stores, State.countRefused_stores, State.answerPend_stores, stores_ite, stores_ite_fst,
      implies_true, forall_const]
  all_goals repeat' (split <;> try simp +zetaDelta (maxDischargeDepth := 40) (decide := false) only [h,
      State.shimReach_stores, State.recordOp_stores, State.countRefused_stores, State.answerPend_stores,
      stores_ite, stores_ite_fst, implies_true, forall_const])

theorem State.answerHold_stores (s : State) (w : HoldWaiter) (failed : Bool) (h : s.storesWf = true) :
    (s.answerHold w failed).storesWf = true := by
  unfold State.answerHold
  try simp +zetaDelta (maxDischargeDepth := 40) (decide := false) only [h, State.serviceDone_stores,
      State.catFinish_stores, stores_ite, stores_ite_fst, implies_true, forall_const]
  all_goals repeat' (split <;> try simp +zetaDelta (maxDischargeDepth := 40) (decide := false) only [h,
      State.serviceDone_stores, State.catFinish_stores, stores_ite, stores_ite_fst, implies_true, forall_const])

theorem State.holdDone_stores (s : State) (q : Nat) (e : HoldXchg) (h : s.storesWf = true) :
    (s.holdDone q e).storesWf = true := by
  unfold State.holdDone
  try simp +zetaDelta (maxDischargeDepth := 40) (decide := false) only [h, State.modPart_stores,
      State.answerHold_stores, State.bumpN_stores, stores_ite, stores_ite_fst, implies_true, forall_const]
  all_goals repeat' (split <;> try simp +zetaDelta (maxDischargeDepth := 40) (decide := false) only [h,
      State.modPart_stores, State.answerHold_stores, State.bumpN_stores, stores_ite, stores_ite_fst, implies_true,
      forall_const])

theorem State.sendHold_stores (s : State) (q : Nat) (k : HoldKind) (seq : BitVec 8) (x4 : List HubId) (h :
    s.storesWf = true) :
    (s.sendHold q k seq x4).storesWf = true := by
  fun_induction State.sendHold s q k seq x4
  all_goals try simp +zetaDelta (maxDischargeDepth := 40) only [*, State.send_stores, stores_ite, stores_ite_fst,
      implies_true, forall_const]
  all_goals repeat' (split <;> try simp +zetaDelta (maxDischargeDepth := 40) only [*, State.send_stores,
      stores_ite, stores_ite_fst, implies_true, forall_const])

theorem State.startHold_stores (s : State) (q : Nat) (resume : Bool) (all : Bool) (w : HoldWaiter) (h : s.storesWf =
    true) :
    (s.startHold q resume all w).storesWf = true := by
  unfold State.startHold
  try simp +zetaDelta (maxDischargeDepth := 40) (decide := false) only [h, State.resumeHere_stores,
      State.holdHere_stores, State.modPart_stores, State.sendHold_stores, State.bumpN_stores,
      State.holdDone_stores, State.answerHold_stores, stores_ite, stores_ite_fst, implies_true, forall_const]
  all_goals repeat' (split <;> try simp +zetaDelta (maxDischargeDepth := 40) (decide := false) only [h,
      State.resumeHere_stores, State.holdHere_stores, State.modPart_stores, State.sendHold_stores,
      State.bumpN_stores, State.holdDone_stores, State.answerHold_stores, stores_ite, stores_ite_fst,
      implies_true, forall_const])

theorem State.beginHold_stores (s : State) (q : Nat) (all : Bool) (w : HoldWaiter) (h : s.storesWf = true) :
    (s.beginHold q all w).storesWf = true := by
  unfold State.beginHold
  try simp +zetaDelta (maxDischargeDepth := 40) (decide := false) only [h, State.answerHold_stores,
      State.startHold_stores, stores_ite, stores_ite_fst, implies_true, forall_const]
  all_goals repeat' (split <;> try simp +zetaDelta (maxDischargeDepth := 40) (decide := false) only [h,
      State.answerHold_stores, State.startHold_stores, stores_ite, stores_ite_fst, implies_true, forall_const])

theorem State.pollAway_stores (s : State) (kept : List AwayOp) (x2 : List AwayOp) (h : s.storesWf = true) :
    (s.pollAway kept x2).1.storesWf = true := by
  exact stores_of_wipe (State.pollAway_wipe s kept x2 0x7dfa7c1cf2fff (by decide)) h

theorem State.pollPort_stores (s : State) (p : Nat) (h : s.storesWf = true) :
    (s.pollPort p).storesWf = true := by
  unfold State.pollPort
  try simp +zetaDelta (maxDischargeDepth := 40) (decide := false) only [h, State.pollAway_stores,
      State.modPort_stores, stores_ite, stores_ite_fst, implies_true, forall_const]
  all_goals repeat' (split <;> try simp +zetaDelta (maxDischargeDepth := 40) (decide := false) only [h,
      State.pollAway_stores, State.modPort_stores, stores_ite, stores_ite_fst, implies_true, forall_const])

theorem State.tryFence_stores (s : State) (p : Nat) (h : ShimOp) (hs : s.storesWf = true) :
    (s.tryFence p h).storesWf = true := by
  unfold State.tryFence
  try simp +zetaDelta (maxDischargeDepth := 40) (decide := false) only [hs, State.setPort_stores,
      State.serviceDone_stores, stores_ite, stores_ite_fst, implies_true, forall_const]
  all_goals repeat' (split <;> try simp +zetaDelta (maxDischargeDepth := 40) (decide := false) only [hs,
      State.setPort_stores, State.serviceDone_stores, stores_ite, stores_ite_fst, implies_true, forall_const])

theorem State.tryFences_stores (s : State) (p : Nat) (x2 : List ShimOp) (h : s.storesWf = true) :
    (s.tryFences p x2).storesWf = true := by
  fun_induction State.tryFences s p x2
  all_goals try simp +zetaDelta (maxDischargeDepth := 40) only [*, State.tryFence_stores, stores_ite,
      stores_ite_fst, implies_true, forall_const]
  all_goals repeat' (split <;> try simp +zetaDelta (maxDischargeDepth := 40) only [*, State.tryFence_stores,
      stores_ite, stores_ite_fst, implies_true, forall_const])

theorem State.serviceOp_stores (s : State) (p : Nat) (h : ShimOp) (e : Pend) (c : Opcode) (hs : s.storesWf = true) :
    (s.serviceOp p h e c).storesWf = true := by
  unfold State.serviceOp
  try simp +zetaDelta (maxDischargeDepth := 40) (decide := false) only [hs, State.answerPend_stores,
      State.countRefused_stores, State.actOp_stores, State.park_stores, State.serviceDone_stores,
      State.unpark_stores, State.beginHold_stores, State.spendLane_stores, State.startHold_stores,
      State.pollPort_stores, State.tryFence_stores, State.modPort_stores, stores_ite, stores_ite_fst,
      implies_true, forall_const]
  all_goals repeat' (split <;> try simp +zetaDelta (maxDischargeDepth := 40) (decide := false) only [hs,
      State.answerPend_stores, State.countRefused_stores, State.actOp_stores, State.park_stores,
      State.serviceDone_stores, State.unpark_stores, State.beginHold_stores, State.spendLane_stores,
      State.startHold_stores, State.pollPort_stores, State.tryFence_stores, State.modPort_stores, stores_ite,
      stores_ite_fst, implies_true, forall_const])

theorem State.runOp_stores (s : State) (p : Nat) (h : ShimOp) (hs : s.storesWf = true) :
    (s.runOp p h).storesWf = true := by
  unfold State.runOp
  try simp +zetaDelta (maxDischargeDepth := 40) (decide := false) only [hs, State.performNear_stores,
      State.serviceOp_stores, State.spendLane_stores, State.refuse_stores, State.forwardOp_stores, stores_ite,
      stores_ite_fst, implies_true, forall_const]
  all_goals repeat' (split <;> try simp +zetaDelta (maxDischargeDepth := 40) (decide := false) only [hs,
      State.performNear_stores, State.serviceOp_stores, State.spendLane_stores, State.refuse_stores,
      State.forwardOp_stores, stores_ite, stores_ite_fst, implies_true, forall_const])

theorem State.takeEntry_stores (s : State) (p : Nat) (h : ShimOp) (hs : s.storesWf = true) :
    (s.takeEntry p h).1.storesWf = true := by
  unfold State.takeEntry
  try simp +zetaDelta (maxDischargeDepth := 40) (decide := false) only [hs, State.setPort_stores, stores_ite,
      stores_ite_fst, implies_true, forall_const]
  all_goals repeat' (split <;> try simp +zetaDelta (maxDischargeDepth := 40) (decide := false) only [hs,
      State.setPort_stores, stores_ite, stores_ite_fst, implies_true, forall_const])

theorem State.acceptOp_stores (s : State) (p : Nat) (h : ShimOp) (hs : s.storesWf = true) :
    (s.acceptOp p h).storesWf = true := by
  unfold State.acceptOp
  try simp +zetaDelta (maxDischargeDepth := 40) (decide := false) only [hs, State.takeEntry_stores,
      State.answerPend_stores, State.countRefused_stores, State.actOp_stores, State.modPort_stores,
      State.runOp_stores, stores_ite, stores_ite_fst, implies_true, forall_const]
  all_goals repeat' (split <;> try simp +zetaDelta (maxDischargeDepth := 40) (decide := false) only [hs,
      State.takeEntry_stores, State.answerPend_stores, State.countRefused_stores, State.actOp_stores,
      State.modPort_stores, State.runOp_stores, stores_ite, stores_ite_fst, implies_true, forall_const])

theorem State.issueOp_stores (s : State) (p : Nat) (h : ShimOp) (hs : s.storesWf = true) :
    (s.issueOp p h).storesWf = true := by
  unfold State.issueOp
  try simp +zetaDelta (maxDischargeDepth := 40) (decide := false) only [hs, State.acceptOp_stores,
      State.modPort_stores, State.bucketHold_stores, State.refillLane_stores, stores_ite, stores_ite_fst,
      implies_true, forall_const]
  all_goals repeat' (split <;> try simp +zetaDelta (maxDischargeDepth := 40) (decide := false) only [hs,
      State.acceptOp_stores, State.modPort_stores, State.bucketHold_stores, State.refillLane_stores, stores_ite,
      stores_ite_fst, implies_true, forall_const])

theorem State.retryOps_stores (s : State) (p : Nat) (x2 : List ShimOp) (h : s.storesWf = true) :
    (s.retryOps p x2).storesWf = true := by
  fun_induction State.retryOps s p x2
  all_goals try simp +zetaDelta (maxDischargeDepth := 40) only [*, State.setPort_stores, State.acceptOp_stores,
      State.bucketHeld_stores, stores_ite, stores_ite_fst, implies_true, forall_const]
  all_goals repeat' (split <;> try simp +zetaDelta (maxDischargeDepth := 40) only [*, State.setPort_stores,
      State.acceptOp_stores, State.bucketHeld_stores, stores_ite, stores_ite_fst, implies_true, forall_const])

theorem State.wakePort_stores (s : State) (p : Nat) (h : s.storesWf = true) :
    (s.wakePort p).storesWf = true := by
  unfold State.wakePort
  try simp +zetaDelta (maxDischargeDepth := 40) (decide := false) only [h, State.pollPort_stores,
      State.tryFences_stores, State.retryOps_stores, stores_ite, stores_ite_fst, implies_true, forall_const]
  all_goals repeat' (split <;> try simp +zetaDelta (maxDischargeDepth := 40) (decide := false) only [h,
      State.pollPort_stores, State.tryFences_stores, State.retryOps_stores, stores_ite, stores_ite_fst,
      implies_true, forall_const])

theorem State.coreOp_stores (s : State) (p : Nat) (lane : Nat) (ctx : BitVec 8) (code : BitVec 6) (op : OpFields) (h
    : s.storesWf = true) :
    (s.coreOp p lane ctx code op).storesWf = true := by
  unfold State.coreOp
  try simp +zetaDelta (maxDischargeDepth := 40) (decide := false) only [h, State.issueOp_stores, stores_ite,
      stores_ite_fst, implies_true, forall_const]
  all_goals repeat' (split <;> try simp +zetaDelta (maxDischargeDepth := 40) (decide := false) only [h,
      State.issueOp_stores, stores_ite, stores_ite_fst, implies_true, forall_const])

theorem State.endDrain_stores (s : State) (p : Nat) (h : s.storesWf = true) :
    (s.endDrain p).storesWf = true := by
  unfold State.endDrain
  try simp +zetaDelta (maxDischargeDepth := 40) (decide := false) only [h, State.wakePort_stores,
      State.runOp_stores, State.setPort_stores, stores_ite, stores_ite_fst, implies_true, forall_const]
  all_goals repeat' (split <;> try simp +zetaDelta (maxDischargeDepth := 40) (decide := false) only [h,
      State.wakePort_stores, State.runOp_stores, State.setPort_stores, stores_ite, stores_ite_fst, implies_true,
      forall_const])

theorem State.ackInval_stores (s : State) (p : Nat) (h : s.storesWf = true) :
    (s.ackInval p).storesWf = true := by
  unfold State.ackInval
  try simp +zetaDelta (maxDischargeDepth := 40) (decide := false) only [h, State.deliverCovered_stores,
      State.setPort_stores, State.wakePort_stores, State.modPort_stores, State.bump_stores, stores_ite,
      stores_ite_fst, implies_true, forall_const]
  all_goals repeat' (split <;> try simp +zetaDelta (maxDischargeDepth := 40) (decide := false) only [h,
      State.deliverCovered_stores, State.setPort_stores, State.wakePort_stores, State.modPort_stores,
      State.bump_stores, stores_ite, stores_ite_fst, implies_true, forall_const])

theorem State.readBeat_stores (s : State) (p : Nat) (lane : Nat) (h : s.storesWf = true) :
    (s.readBeat p lane).storesWf = true := by
  unfold State.readBeat
  try simp +zetaDelta (maxDischargeDepth := 40) (decide := false) only [h, State.setPort_stores,
      State.wakePort_stores, stores_ite, stores_ite_fst, implies_true, forall_const]
  all_goals repeat' (split <;> try simp +zetaDelta (maxDischargeDepth := 40) (decide := false) only [h,
      State.setPort_stores, State.wakePort_stores, stores_ite, stores_ite_fst, implies_true, forall_const])

theorem State.removeTicket_stores (s : State) (p : Nat) (h : s.storesWf = true) :
    (s.removeTicket p).storesWf = true := by
  unfold State.removeTicket
  try simp +zetaDelta (maxDischargeDepth := 40) (decide := false) only [h, State.drainTickets_stores,
      State.act_stores, State.setPort_stores, stores_ite, stores_ite_fst, implies_true, forall_const]
  all_goals repeat' (split <;> try simp +zetaDelta (maxDischargeDepth := 40) (decide := false) only [h,
      State.drainTickets_stores, State.act_stores, State.setPort_stores, stores_ite, stores_ite_fst, implies_true,
      forall_const])

theorem State.surroundWait_stores (s : State) (p : Nat) (sig : SurroundSignal) (h : s.storesWf = true) :
    (s.surroundWait p sig).storesWf = true := by
  unfold State.surroundWait
  try simp +zetaDelta (maxDischargeDepth := 40) (decide := false) only [h, State.bump_stores,
      State.modPort_stores, State.record_stores, stores_ite, stores_ite_fst, implies_true, forall_const]
  all_goals repeat' (split <;> try simp +zetaDelta (maxDischargeDepth := 40) (decide := false) only [h,
      State.bump_stores, State.modPort_stores, State.record_stores, stores_ite, stores_ite_fst, implies_true,
      forall_const])

end Sys2Proof.Machine
end

