-- ==== Sys2Proof/Laws/StoresAperture.lean ====
section
/-! SUPPORT. The operations of Aperture.lean keep the sparse stores in their canonical form. -/

set_option linter.all false

namespace Sys2Proof.Machine

theorem State.slverr_stores (s : State) (slot : Option Nat) (block : Option Nat) (p : Nat) (h : s.storesWf = true) :
    (s.slverr slot block p).storesWf = true := by
  unfold State.slverr
  try simp +zetaDelta (maxDischargeDepth := 40) (decide := false) only [h, State.drive_stores, State.bump_stores,
      stores_ite, stores_ite_fst, implies_true, forall_const]
  all_goals repeat' (split <;> try simp +zetaDelta (maxDischargeDepth := 40) (decide := false) only [h,
      State.drive_stores, State.bump_stores, stores_ite, stores_ite_fst, implies_true, forall_const])

theorem State.spendSlot_stores (s : State) (g : Nat) (h : s.storesWf = true) :
    (s.spendSlot g).storesWf = true := by
  unfold State.spendSlot
  try simp +zetaDelta (maxDischargeDepth := 40) (decide := false) only [h, State.modSlot_stores, stores_ite,
      stores_ite_fst, implies_true, forall_const]
  all_goals repeat' (split <;> try simp +zetaDelta (maxDischargeDepth := 40) (decide := false) only [h,
      State.modSlot_stores, stores_ite, stores_ite_fst, implies_true, forall_const])

theorem State.slotStorm_stores (s : State) (g : Nat) (reason : Nat) (h : s.storesWf = true) :
    (s.slotStorm g reason).storesWf = true := by
  unfold State.slotStorm
  try simp +zetaDelta (maxDischargeDepth := 40) (decide := false) only [h, State.stormBucket_stores,
      State.modSlot_stores, stores_ite, stores_ite_fst, implies_true, forall_const]
  all_goals repeat' (split <;> try simp +zetaDelta (maxDischargeDepth := 40) (decide := false) only [h,
      State.stormBucket_stores, State.modSlot_stores, stores_ite, stores_ite_fst, implies_true, forall_const])

theorem State.slotDone_stores (s : State) (g : Nat) (h : SlotOp) (st : Status) (hs : s.storesWf = true) :
    (s.slotDone g h st).storesWf = true := by
  unfold State.slotDone
  try simp +zetaDelta (maxDischargeDepth := 40) (decide := false) only [hs, State.shimReach_stores,
      State.recordOp_stores, State.countRefused_stores, State.modSlot_stores, stores_ite, stores_ite_fst,
      implies_true, forall_const]
  all_goals repeat' (split <;> try simp +zetaDelta (maxDischargeDepth := 40) (decide := false) only [hs,
      State.shimReach_stores, State.recordOp_stores, State.countRefused_stores, State.modSlot_stores, stores_ite,
      stores_ite_fst, implies_true, forall_const])

theorem State.slotRefuse_stores (s : State) (g : Nat) (h : SlotOp) (st : Status) (hs : s.storesWf = true) :
    (s.slotRefuse g h st).storesWf = true := by
  unfold State.slotRefuse
  try simp +zetaDelta (maxDischargeDepth := 40) (decide := false) only [hs, State.countRefused_stores,
      State.actOp_stores, State.modSlot_stores, stores_ite, stores_ite_fst, implies_true, forall_const]
  all_goals repeat' (split <;> try simp +zetaDelta (maxDischargeDepth := 40) (decide := false) only [hs,
      State.countRefused_stores, State.actOp_stores, State.modSlot_stores, stores_ite, stores_ite_fst,
      implies_true, forall_const])

theorem State.slotForward_stores (s : State) (g : Nat) (h : SlotOp) (limited : Bool) (hs : s.storesWf = true) :
    (s.slotForward g h limited).storesWf = true := by
  unfold State.slotForward
  try simp +zetaDelta (maxDischargeDepth := 40) (decide := false) only [hs, State.refuse_stores,
      State.slotStorm_stores, State.forwardOp_stores, State.spendSlot_stores, stores_ite, stores_ite_fst,
      implies_true, forall_const]
  all_goals repeat' (split <;> try simp +zetaDelta (maxDischargeDepth := 40) (decide := false) only [hs,
      State.refuse_stores, State.slotStorm_stores, State.forwardOp_stores, State.spendSlot_stores, stores_ite,
      stores_ite_fst, implies_true, forall_const])

theorem State.pollSlot_stores (s : State) (g : Nat) (h : s.storesWf = true) :
    (s.pollSlot g).storesWf = true := by
  unfold State.pollSlot
  try simp +zetaDelta (maxDischargeDepth := 40) (decide := false) only [h, State.pollAway_stores,
      State.modSlot_stores, stores_ite, stores_ite_fst, implies_true, forall_const]
  all_goals repeat' (split <;> try simp +zetaDelta (maxDischargeDepth := 40) (decide := false) only [h,
      State.pollAway_stores, State.modSlot_stores, stores_ite, stores_ite_fst, implies_true, forall_const])

theorem State.trySlotFence_stores (s : State) (g : Nat) (h : s.storesWf = true) :
    (s.trySlotFence g).storesWf = true := by
  unfold State.trySlotFence
  try simp +zetaDelta (maxDischargeDepth := 40) (decide := false) only [h, State.pollSlot_stores,
      State.slotDone_stores, State.modSlot_stores, stores_ite, stores_ite_fst, implies_true, forall_const]
  all_goals repeat' (split <;> try simp +zetaDelta (maxDischargeDepth := 40) (decide := false) only [h,
      State.pollSlot_stores, State.slotDone_stores, State.modSlot_stores, stores_ite, stores_ite_fst,
      implies_true, forall_const])

theorem State.templateAnswer_stores (s : State) (g : Nat) (ok : Bool) (h : s.storesWf = true) :
    (s.templateAnswer g ok).storesWf = true := by
  unfold State.templateAnswer
  try simp +zetaDelta (maxDischargeDepth := 40) (decide := false) only [h, State.drive_stores,
      State.slverr_stores, stores_ite, stores_ite_fst, implies_true, forall_const]
  all_goals repeat' (split <;> try simp +zetaDelta (maxDischargeDepth := 40) (decide := false) only [h,
      State.drive_stores, State.slverr_stores, stores_ite, stores_ite_fst, implies_true, forall_const])

theorem State.templateFails_stores (s : State) (g : Nat) (h : s.storesWf = true) :
    (s.templateFails g).storesWf = true := by
  unfold State.templateFails
  try simp +zetaDelta (maxDischargeDepth := 40) (decide := false) only [h, State.templateAnswer_stores,
      State.templateRefused_stores, stores_ite, stores_ite_fst, implies_true, forall_const]
  all_goals repeat' (split <;> try simp +zetaDelta (maxDischargeDepth := 40) (decide := false) only [h,
      State.templateAnswer_stores, State.templateRefused_stores, stores_ite, stores_ite_fst, implies_true,
      forall_const])

theorem State.templateForward_stores (s : State) (g : Nat) (h : SlotOp) (n : Nat) (limited : Bool) (hs : s.storesWf
    = true) :
    (s.templateForward g h n limited).storesWf = true := by
  unfold State.templateForward
  try simp +zetaDelta (maxDischargeDepth := 40) (decide := false) only [hs, State.templateFails_stores,
      State.slotStorm_stores, State.spendSlot_stores, State.performTemplate_stores, State.templateAnswer_stores,
      State.send_stores, State.modSlot_stores, stores_ite, stores_ite_fst, implies_true, forall_const]
  all_goals repeat' (split <;> try simp +zetaDelta (maxDischargeDepth := 40) (decide := false) only [hs,
      State.templateFails_stores, State.slotStorm_stores, State.spendSlot_stores, State.performTemplate_stores,
      State.templateAnswer_stores, State.send_stores, State.modSlot_stores, stores_ite, stores_ite_fst,
      implies_true, forall_const])

theorem State.slotRun_stores (s : State) (g : Nat) (h : SlotOp) (limited : Bool) (hs : s.storesWf = true) :
    (s.slotRun g h limited).storesWf = true := by
  unfold State.slotRun
  try simp +zetaDelta (maxDischargeDepth := 40) (decide := false) only [hs, State.templateForward_stores,
      State.templateFails_stores, State.slotForward_stores, stores_ite, stores_ite_fst, implies_true,
      forall_const]
  all_goals repeat' (split <;> try simp +zetaDelta (maxDischargeDepth := 40) (decide := false) only [hs,
      State.templateForward_stores, State.templateFails_stores, State.slotForward_stores, stores_ite,
      stores_ite_fst, implies_true, forall_const])

theorem State.slotAccept_stores (s : State) (g : Nat) (h : SlotOp) (limited : Bool) (hs : s.storesWf = true) :
    (s.slotAccept g h limited).storesWf = true := by
  unfold State.slotAccept
  try simp +zetaDelta (maxDischargeDepth := 40) (decide := false) only [hs, State.pcount_stores,
      State.setSlot_stores, State.slotRun_stores, State.slverr_stores, State.drive_stores,
      State.slotRefuse_stores, State.modSlot_stores, State.trySlotFence_stores, stores_ite, stores_ite_fst,
      implies_true, forall_const]
  all_goals repeat' (split <;> try simp +zetaDelta (maxDischargeDepth := 40) (decide := false) only [hs,
      State.pcount_stores, State.setSlot_stores, State.slotRun_stores, State.slverr_stores, State.drive_stores,
      State.slotRefuse_stores, State.modSlot_stores, State.trySlotFence_stores, stores_ite, stores_ite_fst,
      implies_true, forall_const])

theorem State.acceptStalled_stores (s : State) (g : Nat) (force : Bool) (x3 : List SlotOp) (h : s.storesWf = true) :
    (s.acceptStalled g force x3).storesWf = true := by
  fun_induction State.acceptStalled s g force x3
  all_goals try simp +zetaDelta (maxDischargeDepth := 40) only [*, State.modSlot_stores, State.slotAccept_stores,
      stores_ite, stores_ite_fst, implies_true, forall_const]
  all_goals repeat' (split <;> try simp +zetaDelta (maxDischargeDepth := 40) only [*, State.modSlot_stores,
      State.slotAccept_stores, stores_ite, stores_ite_fst, implies_true, forall_const])

theorem State.runHeld_stores (s : State) (g : Nat) (x2 : List SlotOp) (h : s.storesWf = true) :
    (s.runHeld g x2).storesWf = true := by
  fun_induction State.runHeld s g x2
  all_goals try simp +zetaDelta (maxDischargeDepth := 40) only [*, State.slotRun_stores, stores_ite,
      stores_ite_fst, implies_true, forall_const]
  all_goals repeat' (split <;> try simp +zetaDelta (maxDischargeDepth := 40) only [*, State.slotRun_stores,
      stores_ite, stores_ite_fst, implies_true, forall_const])

theorem State.wakeSlot_stores (s : State) (g : Nat) (h : s.storesWf = true) :
    (s.wakeSlot g).storesWf = true := by
  unfold State.wakeSlot
  try simp +zetaDelta (maxDischargeDepth := 40) (decide := false) only [h, State.trySlotFence_stores,
      State.runHeld_stores, State.modSlot_stores, State.acceptStalled_stores, stores_ite, stores_ite_fst,
      implies_true, forall_const]
  all_goals repeat' (split <;> try simp +zetaDelta (maxDischargeDepth := 40) (decide := false) only [h,
      State.trySlotFence_stores, State.runHeld_stores, State.modSlot_stores, State.acceptStalled_stores,
      stores_ite, stores_ite_fst, implies_true, forall_const])

theorem State.endStalls_stores (s : State) (g : Nat) (h : s.storesWf = true) :
    (s.endStalls g).storesWf = true := by
  unfold State.endStalls
  try simp +contextual +zetaDelta (maxDischargeDepth := 40) (decide := false) only [h, State.each_stores,
      State.acceptStalled_stores, stores_ite, stores_ite_fst, implies_true, forall_const]
  all_goals repeat' (split <;> try simp +contextual +zetaDelta (maxDischargeDepth := 40) (decide := false) only
      [h, State.each_stores, State.acceptStalled_stores, stores_ite, stores_ite_fst, implies_true, forall_const])

theorem State.slotWrite_stores (s : State) (g : Nat) (h : SlotOp) (hs : s.storesWf = true) :
    (s.slotWrite g h).storesWf = true := by
  unfold State.slotWrite
  try simp +zetaDelta (maxDischargeDepth := 40) (decide := false) only [hs, State.endStalls_stores,
      State.slotStorm_stores, State.modSlot_stores, State.slotAccept_stores, stores_ite, stores_ite_fst,
      implies_true, forall_const]
  all_goals repeat' (split <;> try simp +zetaDelta (maxDischargeDepth := 40) (decide := false) only [hs,
      State.endStalls_stores, State.slotStorm_stores, State.modSlot_stores, State.slotAccept_stores, stores_ite,
      stores_ite_fst, implies_true, forall_const])

theorem State.notServing_stores (s : State) (slot : Option Nat) (block : Option Nat) (h : s.storesWf = true) :
    (s.notServing slot block).storesWf = true := by
  exact stores_of_wipe (State.notServing_wipe s slot block 0x7dfa7c1cf2fff (by decide)) h

theorem State.apertureOp_stores (s : State) (g : Nat) (host : Bool) (code : BitVec 6) (op : OpFields) (h :
    s.storesWf = true) :
    (s.apertureOp g host code op).storesWf = true := by
  unfold State.apertureOp
  try simp +zetaDelta (maxDischargeDepth := 40) (decide := false) only [h, State.slotWrite_stores,
      State.notServing_stores, stores_ite, stores_ite_fst, implies_true, forall_const]
  all_goals repeat' (split <;> try simp +zetaDelta (maxDischargeDepth := 40) (decide := false) only [h,
      State.slotWrite_stores, State.notServing_stores, stores_ite, stores_ite_fst, implies_true, forall_const])

theorem State.apertureTemplate_stores (s : State) (g : Nat) (host : Bool) (word : BitVec 2) (handle : Handle) (data
    : BitVec 64) (h : s.storesWf = true) :
    (s.apertureTemplate g host word handle data).storesWf = true := by
  unfold State.apertureTemplate
  try simp +zetaDelta (maxDischargeDepth := 40) (decide := false) only [h, State.notServing_stores,
      State.slverr_stores, State.slotWrite_stores, stores_ite, stores_ite_fst, implies_true, forall_const]
  all_goals repeat' (split <;> try simp +zetaDelta (maxDischargeDepth := 40) (decide := false) only [h,
      State.notServing_stores, State.slverr_stores, State.slotWrite_stores, stores_ite, stores_ite_fst,
      implies_true, forall_const])

theorem State.apertureRefuse_stores (s : State) (area : ApertureArea) (why : ApertureFault) (isRead : Bool) (h :
    s.storesWf = true) :
    (s.apertureRefuse area why isRead).storesWf = true := by
  unfold State.apertureRefuse
  try simp +zetaDelta (maxDischargeDepth := 40) (decide := false) only [h, State.notServing_stores,
      State.drive_stores, State.slverr_stores, stores_ite, stores_ite_fst, implies_true, forall_const]
  all_goals repeat' (split <;> try simp +zetaDelta (maxDischargeDepth := 40) (decide := false) only [h,
      State.notServing_stores, State.drive_stores, State.slverr_stores, stores_ite, stores_ite_fst, implies_true,
      forall_const])

theorem State.stallLimit_stores (s : State) (g : Nat) (h : s.storesWf = true) :
    (s.stallLimit g).storesWf = true := by
  unfold State.stallLimit
  try simp +zetaDelta (maxDischargeDepth := 40) (decide := false) only [h, State.modSlot_stores,
      State.acceptStalled_stores, stores_ite, stores_ite_fst, implies_true, forall_const]
  all_goals repeat' (split <;> try simp +zetaDelta (maxDischargeDepth := 40) (decide := false) only [h,
      State.modSlot_stores, State.acceptStalled_stores, stores_ite, stores_ite_fst, implies_true, forall_const])

theorem State.refillBucket_stores (s : State) (b : BucketId) (h : s.storesWf = true) :
    (s.refillBucket b).storesWf = true := by
  unfold State.refillBucket
  try simp +zetaDelta (maxDischargeDepth := 40) (decide := false) only [h, State.wakePort_stores,
      State.refillLane_stores, State.wakeSlot_stores, State.modSlot_stores, stores_ite, stores_ite_fst,
      implies_true, forall_const]
  all_goals repeat' (split <;> try simp +zetaDelta (maxDischargeDepth := 40) (decide := false) only [h,
      State.wakePort_stores, State.refillLane_stores, State.wakeSlot_stores, State.modSlot_stores, stores_ite,
      stores_ite_fst, implies_true, forall_const])

theorem State.completionDelivery_stores (s : State) (t : RspTarget) (h : s.storesWf = true) :
    (s.completionDelivery t).storesWf = true := by
  unfold State.completionDelivery
  try simp +zetaDelta (maxDischargeDepth := 40) (decide := false) only [h, State.deliverNext_stores,
      State.wakePort_stores, State.wakeSlot_stores, stores_ite, stores_ite_fst, implies_true, forall_const]
  all_goals repeat' (split <;> try simp +zetaDelta (maxDischargeDepth := 40) (decide := false) only [h,
      State.deliverNext_stores, State.wakePort_stores, State.wakeSlot_stores, stores_ite, stores_ite_fst,
      implies_true, forall_const])

end Sys2Proof.Machine
end

