-- ==== Sys2Proof/Laws/StoresManager.lean ====
section
/-! SUPPORT. The operations of Manager.lean keep the sparse stores in their canonical form. -/

set_option linter.all false

namespace Sys2Proof.Machine

theorem State.wrote_stores (s : State) (w : MgrWrite) (h : s.storesWf = true) :
    (s.wrote w).storesWf = true := by
  unfold State.wrote
  try simp +zetaDelta (maxDischargeDepth := 40) (decide := false) only [h, stores_mgr, State.pcount_stores,
      stores_ite, stores_ite_fst, implies_true, forall_const]
  all_goals repeat' (split <;> try simp +zetaDelta (maxDischargeDepth := 40) (decide := false) only [h,
      stores_mgr, State.pcount_stores, stores_ite, stores_ite_fst, implies_true, forall_const])

theorem State.triggerNote_stores (s : State) (p : Nat) (k : Nat) (producer : Nat) (h : s.storesWf = true) :
    (s.triggerNote p k producer).storesWf = true := by
  unfold State.triggerNote
  try simp +zetaDelta (maxDischargeDepth := 40) (decide := false) only [h, State.notifyRing_stores, stores_ite,
      stores_ite_fst, implies_true, forall_const]
  all_goals repeat' (split <;> try simp +zetaDelta (maxDischargeDepth := 40) (decide := false) only [h,
      State.notifyRing_stores, stores_ite, stores_ite_fst, implies_true, forall_const])

theorem State.ticketWritten_stores (s : State) (w : MgrWrite) (h : s.storesWf = true) :
    (s.ticketWritten w).storesWf = true := by
  unfold State.ticketWritten
  try simp +zetaDelta (maxDischargeDepth := 40) (decide := false) only [h, State.act_stores, State.setCfg_stores,
      State.wrote_stores, State.mgrIssue_stores, State.triggerNote_stores, stores_ite, stores_ite_fst,
      implies_true, forall_const]
  all_goals repeat' (split <;> try simp +zetaDelta (maxDischargeDepth := 40) (decide := false) only [h,
      State.act_stores, State.setCfg_stores, State.wrote_stores, State.mgrIssue_stores, State.triggerNote_stores,
      stores_ite, stores_ite_fst, implies_true, forall_const])

theorem State.mirrorWritten_stores (s : State) (w : MgrWrite) (h : s.storesWf = true) :
    (s.mirrorWritten w).storesWf = true := by
  unfold State.mirrorWritten
  try simp +zetaDelta (maxDischargeDepth := 40) (decide := false) only [h, State.triggerNote_stores,
      State.wrote_stores, stores_ite, stores_ite_fst, implies_true, forall_const]
  all_goals repeat' (split <;> try simp +zetaDelta (maxDischargeDepth := 40) (decide := false) only [h,
      State.triggerNote_stores, State.wrote_stores, stores_ite, stores_ite_fst, implies_true, forall_const])

theorem State.notifyWritten_stores (s : State) (w : MgrWrite) (h : s.storesWf = true) :
    (s.notifyWritten w).storesWf = true := by
  unfold State.notifyWritten
  try simp +zetaDelta (maxDischargeDepth := 40) (decide := false) only [h, State.irq_stores, State.setCfg_stores,
      State.wrote_stores, stores_ite, stores_ite_fst, implies_true, forall_const]
  all_goals repeat' (split <;> try simp +zetaDelta (maxDischargeDepth := 40) (decide := false) only [h,
      State.irq_stores, State.setCfg_stores, State.wrote_stores, stores_ite, stores_ite_fst, implies_true,
      forall_const])

theorem State.writeFailed_stores (s : State) (w : MgrWrite) (resp : BitVec 2) (h : s.storesWf = true) :
    (s.writeFailed w resp).storesWf = true := by
  unfold State.writeFailed
  try simp +zetaDelta (maxDischargeDepth := 40) (decide := false) only [h, stores_mgr, State.bump_stores,
      State.record_stores, stores_ite, stores_ite_fst, implies_true, forall_const]
  all_goals repeat' (split <;> try simp +zetaDelta (maxDischargeDepth := 40) (decide := false) only [h,
      stores_mgr, State.bump_stores, State.record_stores, stores_ite, stores_ite_fst, implies_true, forall_const])

theorem State.writeError_stores (s : State) (w : MgrWrite) (resp : BitVec 2) (h : s.storesWf = true) :
    (s.writeError w resp).storesWf = true := by
  unfold State.writeError
  try simp +zetaDelta (maxDischargeDepth := 40) (decide := false) only [h, State.writeFailed_stores,
      State.setCfg_stores, State.drainTickets_stores, State.overflowTicket_stores, State.triggerNote_stores,
      State.bump_stores, stores_ite, stores_ite_fst, implies_true, forall_const]
  all_goals repeat' (split <;> try simp +zetaDelta (maxDischargeDepth := 40) (decide := false) only [h,
      State.writeFailed_stores, State.setCfg_stores, State.drainTickets_stores, State.overflowTicket_stores,
      State.triggerNote_stores, State.bump_stores, stores_ite, stores_ite_fst, implies_true, forall_const])

theorem State.holdoffEnd_stores (s : State) (r : Nat) (h : s.storesWf = true) :
    (s.holdoffEnd r).storesWf = true := by
  unfold State.holdoffEnd
  try simp +zetaDelta (maxDischargeDepth := 40) (decide := false) only [h, State.irq_stores, State.setRing_stores,
      stores_ite, stores_ite_fst, implies_true, forall_const]
  all_goals repeat' (split <;> try simp +zetaDelta (maxDischargeDepth := 40) (decide := false) only [h,
      State.irq_stores, State.setRing_stores, stores_ite, stores_ite_fst, implies_true, forall_const])

theorem State.moveTicketConsumer_stores (s : State) (p : Nat) (k : Nat) (c : Nat) (h : s.storesWf = true) :
    ∀ t, s.moveTicketConsumer p k c = some t → t.storesWf = true := by
  intro t e
  unfold State.moveTicketConsumer at e
  revert e
  (repeat' split) <;> simp only [reduceCtorEq, Option.some.injEq, false_imp_iff]
  all_goals (intro e; subst e; simp +zetaDelta (maxDischargeDepth := 40) (decide := false) only [h,
      State.drainTickets_stores, State.setCfg_stores, stores_ite, stores_ite_fst, implies_true, forall_const])

theorem State.moveNotifyConsumer_stores (s : State) (r : Nat) (c : Nat) (h : s.storesWf = true) :
    ∀ t, s.moveNotifyConsumer r c = some t → t.storesWf = true := by
  intro t e
  unfold State.moveNotifyConsumer at e
  revert e
  (repeat' split) <;> simp only [reduceCtorEq, Option.some.injEq, false_imp_iff]
  all_goals (intro e; subst e; simp +zetaDelta (maxDischargeDepth := 40) (decide := false) only [h,
      State.setCfg_stores, stores_ite, stores_ite_fst, implies_true, forall_const])

theorem State.moveConsumer_stores (s : State) (p : Nat) (ring : RingName) (c : Nat) (h : s.storesWf = true) :
    ∀ t, s.moveConsumer p ring c = some t → t.storesWf = true := by
  intro t e
  unfold State.moveConsumer at e
  split at e
  · exact State.moveTicketConsumer_stores _ _ _ _ h _ e
  · exact State.moveNotifyConsumer_stores _ _ _ h _ e
  · exact State.moveNotifyConsumer_stores _ _ _ h _ e

theorem State.setTicketRing_stores (s : State) (p : Nat) (k : Nat) (sub : Nat) (v : Nat) (h : s.storesWf = true) :
    (s.setTicketRing p k sub v).storesWf = true := by
  unfold State.setTicketRing
  try simp +zetaDelta (maxDischargeDepth := 40) (decide := false) only [h, State.drainTickets_stores,
      State.setCfg_stores, stores_ite, stores_ite_fst, implies_true, forall_const]
  all_goals repeat' (split <;> try simp +zetaDelta (maxDischargeDepth := 40) (decide := false) only [h,
      State.drainTickets_stores, State.setCfg_stores, stores_ite, stores_ite_fst, implies_true, forall_const])

theorem State.setNotifyRing_stores (s : State) (r : Nat) (sub : Nat) (v : Nat) (h : s.storesWf = true) :
    (s.setNotifyRing r sub v).storesWf = true := by
  unfold State.setNotifyRing
  try simp +zetaDelta (maxDischargeDepth := 40) (decide := false) only [h, State.setRing_stores,
      State.setCfg_stores, stores_ite, stores_ite_fst, implies_true, forall_const]
  all_goals repeat' (split <;> try simp +zetaDelta (maxDischargeDepth := 40) (decide := false) only [h,
      State.setRing_stores, State.setCfg_stores, stores_ite, stores_ite_fst, implies_true, forall_const])

theorem State.invIssue_stores (s : State) (p : Nat) (n : Nat) (x3 : List InvEntry) (h : s.storesWf = true) :
    (s.invIssue p n x3).storesWf = true := by
  exact stores_of_wipe (State.invIssue_wipe s p n x3 0x7dfa7c1cf2fff (by decide)) h

theorem State.takeInventory_stores (s : State) (p : Nat) (reason : Nat) (round : BitVec 32) (h : s.storesWf = true)
    :
    (s.takeInventory p reason round).storesWf = true := by
  unfold State.takeInventory
  try simp +zetaDelta (maxDischargeDepth := 40) (decide := false) only [h, State.invIssue_stores,
      State.modPart_stores, State.setCfg_stores, stores_ite, stores_ite_fst, implies_true, forall_const]
  all_goals repeat' (split <;> try simp +zetaDelta (maxDischargeDepth := 40) (decide := false) only [h,
      State.invIssue_stores, State.modPart_stores, State.setCfg_stores, stores_ite, stores_ite_fst, implies_true,
      forall_const])

theorem State.abortInventory_stores (s : State) (p : Nat) (h : s.storesWf = true) :
    (s.abortInventory p).storesWf = true := by
  unfold State.abortInventory
  try simp +zetaDelta (maxDischargeDepth := 40) (decide := false) only [h, stores_mgr, State.invIssue_stores,
      State.modPart_stores, State.setCfg_stores, stores_ite, stores_ite_fst, implies_true, forall_const]
  all_goals repeat' (split <;> try simp +zetaDelta (maxDischargeDepth := 40) (decide := false) only [h,
      stores_mgr, State.invIssue_stores, State.modPart_stores, State.setCfg_stores, stores_ite, stores_ite_fst,
      implies_true, forall_const])

theorem State.inventoryDone_stores (s : State) (p : Nat) (h : s.storesWf = true) :
    (s.inventoryDone p).storesWf = true := by
  unfold State.inventoryDone
  try simp +zetaDelta (maxDischargeDepth := 40) (decide := false) only [h, stores_mgr, State.pcount_stores,
      State.notifyRing_stores, State.modPart_stores, stores_ite, stores_ite_fst, implies_true, forall_const]
  all_goals repeat' (split <;> try simp +zetaDelta (maxDischargeDepth := 40) (decide := false) only [h,
      stores_mgr, State.pcount_stores, State.notifyRing_stores, State.modPart_stores, stores_ite, stores_ite_fst,
      implies_true, forall_const])

end Sys2Proof.Machine
end

