-- ==== Sys2Proof/Laws/StoresPartitions.lean ====
section
/-! SUPPORT. The operations of Partitions.lean keep the sparse stores in their canonical form. -/

set_option linter.all false

namespace Sys2Proof.Machine

theorem State.clearNears_stores (s : State) (q : Nat) (h : s.storesWf = true) :
    (s.clearNears q).storesWf = true := by
  unfold State.clearNears
  try simp +zetaDelta (maxDischargeDepth := 40) (decide := false) only [h, State.modPort_stores, stores_ite,
      stores_ite_fst, implies_true, forall_const]
  all_goals repeat' (split <;> try simp +zetaDelta (maxDischargeDepth := 40) (decide := false) only [h,
      State.modPort_stores, stores_ite, stores_ite_fst, implies_true, forall_const])

theorem State.clearView_stores (s : State) (w : Nat) (h : s.storesWf = true) :
    (s.clearView w).storesWf = true := by
  unfold State.clearView
  try simp +zetaDelta (maxDischargeDepth := 40) (decide := false) only [h, State.setView_stores, stores_ite,
      stores_ite_fst, implies_true, forall_const]
  all_goals repeat' (split <;> try simp +zetaDelta (maxDischargeDepth := 40) (decide := false) only [h,
      State.setView_stores, stores_ite, stores_ite_fst, implies_true, forall_const])

theorem sweep_first_stores (s : State) (p : Nat) (f g k : Nat → Bool) (x2 : List Waiter) (x3 : List Lender)
    (x4 : List Ledger) (x5 : List Ticket) (x7 : List (StoreWord × Nat)) (h : s.storesWf = true) :
    ({ s with
      objs := s.objs.dropKeys f, wideBits := s.wideBits.dropKeys g, waiters := x2, lenders := x3, ledgers := x4
      buffered := x5, cat := s.cat.dropKeys k, flips := x7 } : State).storesWf = true := by
  have a := stores_objs _ _ h (Sparse.wf_dropKeys (p := f) (objs_wf h))
  have b := stores_wideBits _ _ a (Sparse.wf_dropKeys (p := g) (wideBits_wf h))
  have c := stores_cat _ _ b (Sparse.wf_dropKeys (p := k) (cat_wf h))
  exact c

theorem State.sweep_stores (s : State) (p : Nat) (h : s.storesWf = true) :
    (s.sweep p).storesWf = true := by
  unfold State.sweep
  simp only []
  have k := sweep_first_stores s p (fun i => s.partOfIndex i = p) (fun g => s.partOfIndex (4 * g) = p)
    (fun k => (sweptGroupKey k && decide ((keyIndex k - 0x4000) * s.partCount / 256 = p)) ||
      (sweptCounterKey k && decide (keyPart k = p)))
    (s.waiters.filter fun w => s.partOfIndex w.num ≠ p) (s.lenders.filter fun e => e.num / s.loanShare ≠ p)
    (s.ledgers.filter fun e => e.num / s.loanShare ≠ p) (s.buffered.filter fun t => t.partition ≠ p)
    (s.flips.filter fun x => !s.wordIn p x.1) h
  exact State.each_stores _ _ _ (State.modPart_stores _ _ _ (State.each_stores _ _ _ k
    fun s n hs => State.clearNears_stores _ _ hs)) fun s n hs => State.clearView_stores _ _ hs

theorem State.raiseQuiesce_stores (s : State) (p : Nat) (slice : Bool) (h : s.storesWf = true) :
    (s.raiseQuiesce p slice).storesWf = true := by
  unfold State.raiseQuiesce
  try simp +zetaDelta (maxDischargeDepth := 40) (decide := false) only [h, State.modPart_stores, stores_ite,
      stores_ite_fst, implies_true, forall_const]
  all_goals repeat' (split <;> try simp +zetaDelta (maxDischargeDepth := 40) (decide := false) only [h,
      State.modPart_stores, stores_ite, stores_ite_fst, implies_true, forall_const])

theorem State.lowerQuiesce_stores (s : State) (p : Nat) (h : s.storesWf = true) :
    (s.lowerQuiesce p).storesWf = true := by
  unfold State.lowerQuiesce
  try simp +zetaDelta (maxDischargeDepth := 40) (decide := false) only [h, State.modPart_stores, stores_ite,
      stores_ite_fst, implies_true, forall_const]
  all_goals repeat' (split <;> try simp +zetaDelta (maxDischargeDepth := 40) (decide := false) only [h,
      State.modPart_stores, stores_ite, stores_ite_fst, implies_true, forall_const])

theorem State.resliceNote_stores (s : State) (old : Nat) (new : Nat) (swept : Nat) (outcome : Nat) (startedAt :
    Time) (h : s.storesWf = true) :
    (s.resliceNote old new swept outcome startedAt).storesWf = true := by
  unfold State.resliceNote
  try simp +zetaDelta (maxDischargeDepth := 40) (decide := false) only [h, State.notifyRing_stores, stores_ite,
      stores_ite_fst, implies_true, forall_const]
  all_goals repeat' (split <;> try simp +zetaDelta (maxDischargeDepth := 40) (decide := false) only [h,
      State.notifyRing_stores, stores_ite, stores_ite_fst, implies_true, forall_const])

theorem State.sliceNames_stores (s : State) (n : Nat) (h : s.storesWf = true) :
    (s.sliceNames n).storesWf = true := by
  unfold State.sliceNames
  try simp +contextual +zetaDelta (maxDischargeDepth := 40) (decide := false) only [h, State.each_stores,
      State.setCfg_stores, State.setEv_stores, stores_ite, stores_ite_fst, implies_true, forall_const]
  all_goals repeat' (split <;> try simp +contextual +zetaDelta (maxDischargeDepth := 40) (decide := false) only
      [h, State.each_stores, State.setCfg_stores, State.setEv_stores, stores_ite, stores_ite_fst, implies_true,
      forall_const])

theorem reslice_first_stores (s : State) (n : Nat) (f g k : Nat → Bool) (h : s.storesWf = true) :
    ({ s with
      partCount := n, reslice := {}, cat := s.cat.dropKeys f, devMap := s.devMap.dropKeys g
      notify := s.notify.dropKeys k } : State).storesWf = true := by
  have a := stores_cat _ _ h (Sparse.wf_dropKeys (p := f) (cat_wf h))
  have b := stores_devMap _ _ a (Sparse.wf_dropKeys (p := g) (devMap_wf h))
  have c := stores_notify _ _ b (Sparse.wf_dropKeys (p := k) (notify_wf h))
  exact c

theorem State.resliceComplete_stores (s : State) (h : s.storesWf = true) :
    (s.resliceComplete).storesWf = true := by
  unfold State.resliceComplete
  simp only []
  simp +contextual (maxDischargeDepth := 60) only [h, reslice_first_stores, State.each_stores,
      State.resumeHere_stores, State.abortInventory_stores, State.clearNears_stores, State.clearView_stores,
      State.modSlot_stores, State.sweep_stores, State.modPart_stores, State.resliceNote_stores,
      State.sliceNames_stores, State.wakeSlot_stores, stores_ite, stores_ite_fst, implies_true, forall_const]

theorem State.tryReslice_stores (s : State) (h : s.storesWf = true) :
    (s.tryReslice).storesWf = true := by
  unfold State.tryReslice
  try simp +zetaDelta (maxDischargeDepth := 40) (decide := false) only [h, State.resliceComplete_stores,
      stores_ite, stores_ite_fst, implies_true, forall_const]
  all_goals repeat' (split <;> try simp +zetaDelta (maxDischargeDepth := 40) (decide := false) only [h,
      State.resliceComplete_stores, stores_ite, stores_ite_fst, implies_true, forall_const])

theorem State.sliceRaise_stores (s : State) (p : Nat) (h : s.storesWf = true) :
    (s.sliceRaise p).storesWf = true := by
  unfold State.sliceRaise
  try simp +zetaDelta (maxDischargeDepth := 40) (decide := false) only [h, State.raiseQuiesce_stores, stores_ite,
      stores_ite_fst, implies_true, forall_const]
  all_goals repeat' (split <;> try simp +zetaDelta (maxDischargeDepth := 40) (decide := false) only [h,
      State.raiseQuiesce_stores, stores_ite, stores_ite_fst, implies_true, forall_const])

theorem State.sliceQuiesced_stores (s : State) (p : Nat) (override : Bool) (h : s.storesWf = true) :
    (s.sliceQuiesced p override).storesWf = true := by
  exact stores_of_wipe (State.sliceQuiesced_wipe s p override 0x7dfa7c1cf2fff (by decide)) h

theorem State.startReslice_stores (s : State) (n : Nat) (h : s.storesWf = true) :
    (s.startReslice n).1.storesWf = true := by
  unfold State.startReslice
  try simp +zetaDelta (maxDischargeDepth := 40) (decide := false) only [h, stores_reslice, State.recallAll_stores,
      stores_ite, stores_ite_fst, implies_true, forall_const]
  all_goals repeat' (split <;> try simp +zetaDelta (maxDischargeDepth := 40) (decide := false) only [h,
      stores_reslice, State.recallAll_stores, stores_ite, stores_ite_fst, implies_true, forall_const])

theorem State.resliceDrained_stores (s : State) (h : s.storesWf = true) :
    (s.resliceDrained).storesWf = true := by
  unfold State.resliceDrained
  try simp +contextual +zetaDelta (maxDischargeDepth := 40) (decide := false) only [h, stores_reslice,
      State.each_stores, State.sliceRaise_stores, stores_ite, stores_ite_fst, implies_true, forall_const]
  all_goals repeat' (split <;> try simp +contextual +zetaDelta (maxDischargeDepth := 40) (decide := false) only
      [h, stores_reslice, State.each_stores, State.sliceRaise_stores, stores_ite, stores_ite_fst, implies_true,
      forall_const])

theorem State.abortReslice_stores (s : State) (h : s.storesWf = true) :
    (s.abortReslice).storesWf = true := by
  unfold State.abortReslice
  try simp +zetaDelta (maxDischargeDepth := 40) (decide := false) only [h, stores_reslice,
      State.resliceNote_stores, stores_ite, stores_ite_fst, implies_true, forall_const]
  all_goals repeat' (split <;> try simp +zetaDelta (maxDischargeDepth := 40) (decide := false) only [h,
      stores_reslice, State.resliceNote_stores, stores_ite, stores_ite_fst, implies_true, forall_const])

theorem State.sendPart_stores (s : State) (dst : HubId) (p : Nat) (k : PartCtlKind) (b : PartCtlBody) (h :
    s.storesWf = true) :
    (s.sendPart dst p k b).storesWf = true := by
  unfold State.sendPart
  try simp +zetaDelta (maxDischargeDepth := 40) (decide := false) only [h, State.send_stores, stores_ite,
      stores_ite_fst, implies_true, forall_const]
  all_goals repeat' (split <;> try simp +zetaDelta (maxDischargeDepth := 40) (decide := false) only [h,
      State.send_stores, stores_ite, stores_ite_fst, implies_true, forall_const])

theorem State.answerAskers_stores (s : State) (p : Nat) (b : BitVec 8 → PartCtlBody) (x3 : List ResetAsker) (h :
    s.storesWf = true) :
    (s.answerAskers p b x3).storesWf = true := by
  fun_induction State.answerAskers s p b x3
  all_goals try simp +zetaDelta (maxDischargeDepth := 40) only [*, State.sendPart_stores, stores_ite,
      stores_ite_fst, implies_true, forall_const]
  all_goals repeat' (split <;> try simp +zetaDelta (maxDischargeDepth := 40) only [*, State.sendPart_stores,
      stores_ite, stores_ite_fst, implies_true, forall_const])

theorem State.askPeers_stores (s : State) (p : Nat) (k : PartCtlKind) (b : PartCtlBody) (x4 : List HubId) (h :
    s.storesWf = true) :
    (s.askPeers p k b x4).storesWf = true := by
  fun_induction State.askPeers s p k b x4
  all_goals try simp +zetaDelta (maxDischargeDepth := 40) only [*, State.sendPart_stores, stores_ite,
      stores_ite_fst, implies_true, forall_const]
  all_goals repeat' (split <;> try simp +zetaDelta (maxDischargeDepth := 40) only [*, State.sendPart_stores,
      stores_ite, stores_ite_fst, implies_true, forall_const])

theorem State.modReset_stores (s : State) (p : Nat) (f : ResetSeq → ResetSeq) (h : s.storesWf = true) :
    (s.modReset p f).storesWf = true := by
  unfold State.modReset
  try simp +zetaDelta (maxDischargeDepth := 40) (decide := false) only [h, State.modPart_stores, stores_ite,
      stores_ite_fst, implies_true, forall_const]
  all_goals repeat' (split <;> try simp +zetaDelta (maxDischargeDepth := 40) (decide := false) only [h,
      State.modPart_stores, stores_ite, stores_ite_fst, implies_true, forall_const])

theorem State.endDeposits_stores (s : State) (p : Nat) (h : s.storesWf = true) :
    (s.endDeposits p).storesWf = true := by
  unfold State.endDeposits
  try simp +contextual +zetaDelta (maxDischargeDepth := 40) (decide := false) only [h, State.each_stores,
      State.modPart_stores, State.endHold_stores, stores_ite, stores_ite_fst, implies_true, forall_const]
  all_goals repeat' (split <;> try simp +contextual +zetaDelta (maxDischargeDepth := 40) (decide := false) only
      [h, State.each_stores, State.modPart_stores, State.endHold_stores, stores_ite, stores_ite_fst, implies_true,
      forall_const])

theorem State.resetStep1_stores (s : State) (p : Nat) (h : s.storesWf = true) :
    (s.resetStep1 p).storesWf = true := by
  unfold State.resetStep1
  try simp +contextual +zetaDelta (maxDischargeDepth := 40) (decide := false) only [h, State.each_stores,
      State.failShelf_stores, State.abortInventory_stores, State.endDeposits_stores, stores_ite, stores_ite_fst,
      implies_true, forall_const]
  all_goals repeat' (split <;> try simp +contextual +zetaDelta (maxDischargeDepth := 40) (decide := false) only
      [h, State.each_stores, State.failShelf_stores, State.abortInventory_stores, State.endDeposits_stores,
      stores_ite, stores_ite_fst, implies_true, forall_const])

theorem State.returnReset_stores (s : State) (p : Nat) (e : Ledger) (h : s.storesWf = true) :
    (s.returnReset p e).storesWf = true := by
  unfold State.returnReset
  try simp +zetaDelta (maxDischargeDepth := 40) (decide := false) only [h, stores_ledgers, State.sendLoan_stores,
      stores_ite, stores_ite_fst, implies_true, forall_const]
  all_goals repeat' (split <;> try simp +zetaDelta (maxDischargeDepth := 40) (decide := false) only [h,
      stores_ledgers, State.sendLoan_stores, stores_ite, stores_ite_fst, implies_true, forall_const])

theorem State.returnAll_stores (s : State) (p : Nat) (x2 : List Ledger) (h : s.storesWf = true) :
    (s.returnAll p x2).storesWf = true := by
  fun_induction State.returnAll s p x2
  all_goals try simp +zetaDelta (maxDischargeDepth := 40) only [*, State.returnReset_stores, stores_ite,
      stores_ite_fst, implies_true, forall_const]
  all_goals repeat' (split <;> try simp +zetaDelta (maxDischargeDepth := 40) only [*, State.returnReset_stores,
      stores_ite, stores_ite_fst, implies_true, forall_const])

theorem State.resetPort_stores (s : State) (p : Nat) (q : Nat) (h : s.storesWf = true) :
    (s.resetPort p q).storesWf = true := by
  unfold State.resetPort
  try simp +zetaDelta (maxDischargeDepth := 40) (decide := false) only [h, State.endNears_stores,
      State.setPort_stores, State.wakePort_stores, State.offerAll_stores, State.pcount_stores, stores_ite,
      stores_ite_fst, implies_true, forall_const]
  all_goals repeat' (split <;> try simp +zetaDelta (maxDischargeDepth := 40) (decide := false) only [h,
      State.endNears_stores, State.setPort_stores, State.wakePort_stores, State.offerAll_stores,
      State.pcount_stores, stores_ite, stores_ite_fst, implies_true, forall_const])

theorem State.resetStep2_stores (s : State) (p : Nat) (h : s.storesWf = true) :
    (s.resetStep2 p).storesWf = true := by
  unfold State.resetStep2
  try simp +contextual +zetaDelta (maxDischargeDepth := 40) (decide := false) only [h, stores_buffered,
      State.bumpN_stores, State.endWaiters_stores, State.resumeHere_stores, State.returnAll_stores,
      State.pcount_stores, State.each_stores, State.resetPort_stores, stores_ite, stores_ite_fst, implies_true,
      forall_const]
  all_goals repeat' (split <;> try simp +contextual +zetaDelta (maxDischargeDepth := 40) (decide := false) only
      [h, stores_buffered, State.bumpN_stores, State.endWaiters_stores, State.resumeHere_stores,
      State.returnAll_stores, State.pcount_stores, State.each_stores, State.resetPort_stores, stores_ite,
      stores_ite_fst, implies_true, forall_const])

theorem State.resetStep6_stores (s : State) (p : Nat) (h : s.storesWf = true) :
    (s.resetStep6 p).storesWf = true := by
  unfold State.resetStep6
  try simp +zetaDelta (maxDischargeDepth := 40) (decide := false) only [h, State.modPart_stores,
      State.sweep_stores, State.tryReslice_stores, State.answerAskers_stores, stores_ite, stores_ite_fst,
      implies_true, forall_const]
  all_goals repeat' (split <;> try simp +zetaDelta (maxDischargeDepth := 40) (decide := false) only [h,
      State.modPart_stores, State.sweep_stores, State.tryReslice_stores, State.answerAskers_stores, stores_ite,
      stores_ite_fst, implies_true, forall_const])

theorem State.resetStep4_stores (s : State) (p : Nat) (h : s.storesWf = true) :
    (s.resetStep4 p).storesWf = true := by
  unfold State.resetStep4
  try simp +zetaDelta (maxDischargeDepth := 40) (decide := false) only [h, State.modReset_stores,
      State.raiseQuiesce_stores, stores_ite, stores_ite_fst, implies_true, forall_const]
  all_goals repeat' (split <;> try simp +zetaDelta (maxDischargeDepth := 40) (decide := false) only [h,
      State.modReset_stores, State.raiseQuiesce_stores, stores_ite, stores_ite_fst, implies_true, forall_const])

theorem State.resetRecalled_stores (s : State) (p : Nat) (h : s.storesWf = true) :
    (s.resetRecalled p).storesWf = true := by
  unfold State.resetRecalled
  try simp +zetaDelta (maxDischargeDepth := 40) (decide := false) only [h, State.resetStep4_stores, stores_ite,
      stores_ite_fst, implies_true, forall_const]
  all_goals repeat' (split <;> try simp +zetaDelta (maxDischargeDepth := 40) (decide := false) only [h,
      State.resetStep4_stores, stores_ite, stores_ite_fst, implies_true, forall_const])

theorem State.beginReset_stores (s : State) (p : Nat) (new : BitVec 8) (isContext : Bool) (load : Option (BitVec
    64)) (h : s.storesWf = true) :
    (s.beginReset p new isContext load).storesWf = true := by
  unfold State.beginReset
  try simp +zetaDelta (maxDischargeDepth := 40) (decide := false) only [h, State.modReset_stores,
      State.resetStep2_stores, State.resetStep1_stores, State.resetRecalled_stores, State.recallAll_stores,
      stores_ite, stores_ite_fst, implies_true, forall_const]
  all_goals repeat' (split <;> try simp +zetaDelta (maxDischargeDepth := 40) (decide := false) only [h,
      State.modReset_stores, State.resetStep2_stores, State.resetStep1_stores, State.resetRecalled_stores,
      State.recallAll_stores, stores_ite, stores_ite_fst, implies_true, forall_const])

theorem State.startReset_stores (s : State) (p : Nat) (isContext : Bool) (load : Option (BitVec 64)) (h : s.storesWf
    = true) :
    (s.startReset p isContext load).storesWf = true := by
  unfold State.startReset
  try simp +zetaDelta (maxDischargeDepth := 40) (decide := false) only [h, State.beginReset_stores,
      State.bumpN_stores, State.modReset_stores, State.askPeers_stores, stores_ite, stores_ite_fst, implies_true,
      forall_const]
  all_goals repeat' (split <;> try simp +zetaDelta (maxDischargeDepth := 40) (decide := false) only [h,
      State.beginReset_stores, State.bumpN_stores, State.modReset_stores, State.askPeers_stores, stores_ite,
      stores_ite_fst, implies_true, forall_const])

theorem State.writeReset_stores (s : State) (p : Nat) (v : Nat) (h : s.storesWf = true) :
    (s.writeReset p v).1.storesWf = true := by
  unfold State.writeReset
  try simp +zetaDelta (maxDischargeDepth := 40) (decide := false) only [h, State.startReset_stores, stores_ite,
      stores_ite_fst, implies_true, forall_const]
  all_goals repeat' (split <;> try simp +zetaDelta (maxDischargeDepth := 40) (decide := false) only [h,
      State.startReset_stores, stores_ite, stores_ite_fst, implies_true, forall_const])

theorem State.writeContext_stores (s : State) (p : Nat) (v : BitVec 64) (h : s.storesWf = true) :
    (s.writeContext p v).1.storesWf = true := by
  unfold State.writeContext
  try simp +zetaDelta (maxDischargeDepth := 40) (decide := false) only [h, State.modReset_stores,
      State.modPart_stores, State.startReset_stores, State.bump_stores, stores_ite, stores_ite_fst, implies_true,
      forall_const]
  all_goals repeat' (split <;> try simp +zetaDelta (maxDischargeDepth := 40) (decide := false) only [h,
      State.modReset_stores, State.modPart_stores, State.startReset_stores, State.bump_stores, stores_ite,
      stores_ite_fst, implies_true, forall_const])

theorem State.resetQuiesced_stores (s : State) (p : Nat) (override : Bool) (h : s.storesWf = true) :
    (s.resetQuiesced p override).storesWf = true := by
  unfold State.resetQuiesced
  try simp +zetaDelta (maxDischargeDepth := 40) (decide := false) only [h, State.resetStep6_stores,
      State.modReset_stores, stores_ite, stores_ite_fst, implies_true, forall_const]
  all_goals repeat' (split <;> try simp +zetaDelta (maxDischargeDepth := 40) (decide := false) only [h,
      State.resetStep6_stores, State.modReset_stores, stores_ite, stores_ite_fst, implies_true, forall_const])

theorem State.ackRise_stores (s : State) (p : Nat) (h : s.storesWf = true) :
    (s.ackRise p).storesWf = true := by
  unfold State.ackRise
  try simp +zetaDelta (maxDischargeDepth := 40) (decide := false) only [h, State.modPart_stores,
      State.bump_stores, State.lowerQuiesce_stores, State.tryReslice_stores, State.sliceQuiesced_stores,
      State.resetQuiesced_stores, stores_ite, stores_ite_fst, implies_true, forall_const]
  all_goals repeat' (split <;> try simp +zetaDelta (maxDischargeDepth := 40) (decide := false) only [h,
      State.modPart_stores, State.bump_stores, State.lowerQuiesce_stores, State.tryReslice_stores,
      State.sliceQuiesced_stores, State.resetQuiesced_stores, stores_ite, stores_ite_fst, implies_true,
      forall_const])

theorem State.nextQuiesce_stores (s : State) (p : Nat) (h : s.storesWf = true) :
    (s.nextQuiesce p).storesWf = true := by
  unfold State.nextQuiesce
  try simp +zetaDelta (maxDischargeDepth := 40) (decide := false) only [h, State.resetStep4_stores,
      State.sliceRaise_stores, stores_ite, stores_ite_fst, implies_true, forall_const]
  all_goals repeat' (split <;> try simp +zetaDelta (maxDischargeDepth := 40) (decide := false) only [h,
      State.resetStep4_stores, State.sliceRaise_stores, stores_ite, stores_ite_fst, implies_true, forall_const])

theorem State.ackFall_stores (s : State) (p : Nat) (h : s.storesWf = true) :
    (s.ackFall p).storesWf = true := by
  unfold State.ackFall
  try simp +zetaDelta (maxDischargeDepth := 40) (decide := false) only [h, State.nextQuiesce_stores,
      State.modPart_stores, stores_ite, stores_ite_fst, implies_true, forall_const]
  all_goals repeat' (split <;> try simp +zetaDelta (maxDischargeDepth := 40) (decide := false) only [h,
      State.nextQuiesce_stores, State.modPart_stores, stores_ite, stores_ite_fst, implies_true, forall_const])

theorem State.override_stores (s : State) (p : Nat) (h : s.storesWf = true) :
    (s.override p).storesWf = true := by
  unfold State.override
  try simp +zetaDelta (maxDischargeDepth := 40) (decide := false) only [h, State.sliceQuiesced_stores,
      State.bump_stores, State.lowerQuiesce_stores, State.resetQuiesced_stores, State.tryReslice_stores,
      stores_ite, stores_ite_fst, implies_true, forall_const]
  all_goals repeat' (split <;> try simp +zetaDelta (maxDischargeDepth := 40) (decide := false) only [h,
      State.sliceQuiesced_stores, State.bump_stores, State.lowerQuiesce_stores, State.resetQuiesced_stores,
      State.tryReslice_stores, stores_ite, stores_ite_fst, implies_true, forall_const])

theorem State.quiesceWait_stores (s : State) (p : Nat) (h : s.storesWf = true) :
    (s.quiesceWait p).storesWf = true := by
  unfold State.quiesceWait
  try simp +zetaDelta (maxDischargeDepth := 40) (decide := false) only [h, State.record_stores,
      State.modPart_stores, stores_ite, stores_ite_fst, implies_true, forall_const]
  all_goals repeat' (split <;> try simp +zetaDelta (maxDischargeDepth := 40) (decide := false) only [h,
      State.record_stores, State.modPart_stores, stores_ite, stores_ite_fst, implies_true, forall_const])

theorem State.resetRequest_stores (s : State) (src : HubId) (p : Nat) (ctx : Bool) (b : PartCtlBody) (h : s.storesWf
    = true) :
    (s.resetRequest src p ctx b).storesWf = true := by
  unfold State.resetRequest
  try simp +zetaDelta (maxDischargeDepth := 40) (decide := false) only [h, State.answerAskers_stores,
      State.modReset_stores, State.beginReset_stores, stores_ite, stores_ite_fst, implies_true, forall_const]
  all_goals repeat' (split <;> try simp +zetaDelta (maxDischargeDepth := 40) (decide := false) only [h,
      State.answerAskers_stores, State.modReset_stores, State.beginReset_stores, stores_ite, stores_ite_fst,
      implies_true, forall_const])

theorem State.peersDone_stores (s : State) (p : Nat) (h : s.storesWf = true) :
    (s.peersDone p).storesWf = true := by
  unfold State.peersDone
  try simp +zetaDelta (maxDischargeDepth := 40) (decide := false) only [h, State.modReset_stores, stores_ite,
      stores_ite_fst, implies_true, forall_const]
  all_goals repeat' (split <;> try simp +zetaDelta (maxDischargeDepth := 40) (decide := false) only [h,
      State.modReset_stores, stores_ite, stores_ite_fst, implies_true, forall_const])

theorem State.resetAnswer_stores (s : State) (src : HubId) (p : Nat) (b : PartCtlBody) (h : s.storesWf = true) :
    (s.resetAnswer src p b).storesWf = true := by
  unfold State.resetAnswer
  try simp +zetaDelta (maxDischargeDepth := 40) (decide := false) only [h, State.modReset_stores,
      State.peersDone_stores, State.bump_stores, stores_ite, stores_ite_fst, implies_true, forall_const]
  all_goals repeat' (split <;> try simp +zetaDelta (maxDischargeDepth := 40) (decide := false) only [h,
      State.modReset_stores, State.peersDone_stores, State.bump_stores, stores_ite, stores_ite_fst, implies_true,
      forall_const])

theorem State.resetMissing_stores (s : State) (p : Nat) (h : HubId) (hs : s.storesWf = true) :
    (s.resetMissing p h).storesWf = true := by
  unfold State.resetMissing
  try simp +zetaDelta (maxDischargeDepth := 40) (decide := false) only [hs, State.peersDone_stores,
      State.bump_stores, State.modReset_stores, stores_ite, stores_ite_fst, implies_true, forall_const]
  all_goals repeat' (split <;> try simp +zetaDelta (maxDischargeDepth := 40) (decide := false) only [hs,
      State.peersDone_stores, State.bump_stores, State.modReset_stores, stores_ite, stores_ite_fst, implies_true,
      forall_const])

theorem State.writePortPartition_stores (s : State) (q : Nat) (v : Nat) (h : s.storesWf = true) :
    (s.writePortPartition q v).1.storesWf = true := by
  unfold State.writePortPartition
  try simp +zetaDelta (maxDischargeDepth := 40) (decide := false) only [h, State.setCfg_stores, stores_ite,
      stores_ite_fst, implies_true, forall_const]
  all_goals repeat' (split <;> try simp +zetaDelta (maxDischargeDepth := 40) (decide := false) only [h,
      State.setCfg_stores, stores_ite, stores_ite_fst, implies_true, forall_const])

end Sys2Proof.Machine
end

