-- ==== Sys2Proof/Laws/StoresEvents.lean ====
section
/-! SUPPORT. The operations of Events.lean keep the sparse stores in their canonical form. -/

set_option linter.all false

namespace Sys2Proof.Machine

theorem State.recordTimeout_stores (s : State) (o : HomeOp) (h : s.storesWf = true) :
    (s.recordTimeout o).storesWf = true := by
  unfold State.recordTimeout
  try simp +zetaDelta (maxDischargeDepth := 40) (decide := false) only [h, State.record_stores, stores_ite,
      stores_ite_fst, implies_true, forall_const]
  all_goals repeat' (split <;> try simp +zetaDelta (maxDischargeDepth := 40) (decide := false) only [h,
      State.record_stores, stores_ite, stores_ite_fst, implies_true, forall_const])

theorem State.expire_stores (s : State) (num : Nat) (h : s.storesWf = true) :
    (s.expire num).storesWf = true := by
  unfold State.expire
  try simp +zetaDelta (maxDischargeDepth := 40) (decide := false) only [h, State.recordTimeout_stores,
      State.act_stores, State.pcount_stores, State.serveAfter_stores, State.endWait_stores, stores_ite,
      stores_ite_fst, implies_true, forall_const]
  all_goals repeat' (split <;> try simp +zetaDelta (maxDischargeDepth := 40) (decide := false) only [h,
      State.recordTimeout_stores, State.act_stores, State.pcount_stores, State.serveAfter_stores,
      State.endWait_stores, stores_ite, stores_ite_fst, implies_true, forall_const])

theorem State.agedWalk_stores (s : State) (h : s.storesWf = true) :
    (s.agedWalk).storesWf = true := by
  exact stores_of_wipe (State.agedWalk_wipe s 0x7dfa7c1cf2fff (by decide)) h

theorem State.cancelAll_stores (s : State) (x1 : List Nat) (h : s.storesWf = true) :
    (s.cancelAll x1).storesWf = true := by
  fun_induction State.cancelAll s x1
  all_goals try simp +zetaDelta (maxDischargeDepth := 40) only [*, State.serveAfter_stores, State.endWait_stores,
      stores_ite, stores_ite_fst, implies_true, forall_const]
  all_goals repeat' (split <;> try simp +zetaDelta (maxDischargeDepth := 40) only [*, State.serveAfter_stores,
      State.endWait_stores, stores_ite, stores_ite_fst, implies_true, forall_const])

theorem State.cancelObject_stores (s : State) (p : Nat) (h : Handle) (hs : s.storesWf = true) :
    (s.cancelObject p h).1.storesWf = true := by
  unfold State.cancelObject
  try simp +zetaDelta (maxDischargeDepth := 40) (decide := false) only [hs, State.cancelAll_stores, stores_ite,
      stores_ite_fst, implies_true, forall_const]
  all_goals repeat' (split <;> try simp +zetaDelta (maxDischargeDepth := 40) (decide := false) only [hs,
      State.cancelAll_stores, stores_ite, stores_ite_fst, implies_true, forall_const])

theorem State.cancelOriginator_stores (s : State) (p : Nat) (o : Originator) (h : s.storesWf = true) :
    (s.cancelOriginator p o).1.storesWf = true := by
  unfold State.cancelOriginator
  try simp +zetaDelta (maxDischargeDepth := 40) (decide := false) only [h, State.cancelAll_stores, stores_ite,
      stores_ite_fst, implies_true, forall_const]
  all_goals repeat' (split <;> try simp +zetaDelta (maxDischargeDepth := 40) (decide := false) only [h,
      State.cancelAll_stores, stores_ite, stores_ite_fst, implies_true, forall_const])

theorem State.discardMessage_stores (s : State) (p : Nat) (v : Selvedge) (h : s.storesWf = true) :
    (s.discardMessage p v).storesWf = true := by
  unfold State.discardMessage
  try simp +zetaDelta (maxDischargeDepth := 40) (decide := false) only [h, State.pcount_stores,
      State.countSelvedge_stores, stores_ite, stores_ite_fst, implies_true, forall_const]
  all_goals repeat' (split <;> try simp +zetaDelta (maxDischargeDepth := 40) (decide := false) only [h,
      State.pcount_stores, State.countSelvedge_stores, stores_ite, stores_ite_fst, implies_true, forall_const])

theorem State.holderResetMsg_stores (s0 : State) (b : HolderResetBody) (h : s0.storesWf = true) :
    (s0.holderResetMsg b).storesWf = true := by
  unfold State.holderResetMsg
  try simp +zetaDelta (maxDischargeDepth := 40) (decide := false) only [h, State.accessObj_stores,
      State.holderReset_stores, State.discardMessage_stores, stores_ite, stores_ite_fst, implies_true,
      forall_const]
  all_goals repeat' (split <;> try simp +zetaDelta (maxDischargeDepth := 40) (decide := false) only [h,
      State.accessObj_stores, State.holderReset_stores, State.discardMessage_stores, stores_ite, stores_ite_fst,
      implies_true, forall_const])

theorem State.purgeAll_stores (s : State) (x1 : List Nat) (h : s.storesWf = true) :
    (s.purgeAll x1).storesWf = true := by
  fun_induction State.purgeAll s x1
  · exact h
  · rename_i s n ns w hw s1 ih
    refine ih ?_
    simp only [s1]
    split <;> simp +zetaDelta (maxDischargeDepth := 40) (decide := false) only [h, State.unwaitParked_stores,
        State.serveAfter_stores, State.freeWaiter_stores, stores_ite, stores_ite_fst, implies_true, forall_const]
  · rename_i ih
    exact ih h

theorem State.purge_stores (s : State) (b : WaiterPurgeBody) (h : s.storesWf = true) :
    (s.purge b).storesWf = true := by
  unfold State.purge
  try simp +zetaDelta (maxDischargeDepth := 40) (decide := false) only [h, State.purgeAll_stores,
      State.discardMessage_stores, stores_ite, stores_ite_fst, implies_true, forall_const]
  all_goals repeat' (split <;> try simp +zetaDelta (maxDischargeDepth := 40) (decide := false) only [h,
      State.purgeAll_stores, State.discardMessage_stores, stores_ite, stores_ite_fst, implies_true, forall_const])

theorem State.sendHolderResets_stores (s : State) (q : Nat) (x2 : List HeldLock) (h : s.storesWf = true) :
    (s.sendHolderResets q x2).storesWf = true := by
  fun_induction State.sendHolderResets s q x2
  all_goals try simp +zetaDelta (maxDischargeDepth := 40) only [*, State.holderResetMsg_stores, State.send_stores,
      stores_ite, stores_ite_fst, implies_true, forall_const]
  all_goals repeat' (split <;> try simp +zetaDelta (maxDischargeDepth := 40) only [*, State.holderResetMsg_stores,
      State.send_stores, stores_ite, stores_ite_fst, implies_true, forall_const])

theorem State.sendPurges_stores (s : State) (q : Nat) (gen : BitVec 4) (x3 : List HubId) (h : s.storesWf = true) :
    (s.sendPurges q gen x3).storesWf = true := by
  fun_induction State.sendPurges s q gen x3
  all_goals try simp +zetaDelta (maxDischargeDepth := 40) only [*, State.purge_stores, State.send_stores,
      stores_ite, stores_ite_fst, implies_true, forall_const]
  all_goals repeat' (split <;> try simp +zetaDelta (maxDischargeDepth := 40) only [*, State.purge_stores,
      State.send_stores, stores_ite, stores_ite_fst, implies_true, forall_const])

theorem State.discardShimOp_stores (s : State) (q : Nat) (h : ShimOp) (hs : s.storesWf = true) :
    (s.discardShimOp q h).storesWf = true := by
  unfold State.discardShimOp
  try simp +zetaDelta (maxDischargeDepth := 40) (decide := false) only [hs, State.pcount_stores,
      State.record_stores, stores_ite, stores_ite_fst, implies_true, forall_const]
  all_goals repeat' (split <;> try simp +zetaDelta (maxDischargeDepth := 40) (decide := false) only [hs,
      State.pcount_stores, State.record_stores, stores_ite, stores_ite_fst, implies_true, forall_const])

theorem State.discardShimOps_stores (s : State) (q : Nat) (x2 : List ShimOp) (h : s.storesWf = true) :
    (s.discardShimOps q x2).storesWf = true := by
  fun_induction State.discardShimOps s q x2
  all_goals try simp +zetaDelta (maxDischargeDepth := 40) only [*, State.discardShimOp_stores, stores_ite,
      stores_ite_fst, implies_true, forall_const]
  all_goals repeat' (split <;> try simp +zetaDelta (maxDischargeDepth := 40) only [*, State.discardShimOp_stores,
      stores_ite, stores_ite_fst, implies_true, forall_const])

theorem State.dropHoldOps_stores (s : State) (q : Nat) (h : s.storesWf = true) :
    (s.dropHoldOps q).storesWf = true := by
  unfold State.dropHoldOps
  exact stores_parts _ _ h (Sparse.wf_remap (parts_wf h))

theorem State.coreReset_stores (s : State) (q : Nat) (h : s.storesWf = true) :
    (s.coreReset q).storesWf = true := by
  unfold State.coreReset
  try simp +zetaDelta (maxDischargeDepth := 40) (decide := false) only [h, State.discardShimOps_stores,
      State.dropHoldOps_stores, State.modPort_stores, State.sendPurges_stores, State.sendHolderResets_stores,
      stores_ite, stores_ite_fst, implies_true, forall_const]
  all_goals repeat' (split <;> try simp +zetaDelta (maxDischargeDepth := 40) (decide := false) only [h,
      State.discardShimOps_stores, State.dropHoldOps_stores, State.modPort_stores, State.sendPurges_stores,
      State.sendHolderResets_stores, stores_ite, stores_ite_fst, implies_true, forall_const])

theorem State.coreRelease_stores (s : State) (q : Nat) (h : s.storesWf = true) :
    (s.coreRelease q).storesWf = true := by
  unfold State.coreRelease
  try simp +zetaDelta (maxDischargeDepth := 40) (decide := false) only [h, State.wakePort_stores,
      State.modPort_stores, stores_ite, stores_ite_fst, implies_true, forall_const]
  all_goals repeat' (split <;> try simp +zetaDelta (maxDischargeDepth := 40) (decide := false) only [h,
      State.wakePort_stores, State.modPort_stores, stores_ite, stores_ite_fst, implies_true, forall_const])

theorem State.resetCheck_stores (s0 : State) (q : Nat) (i : Nat) (h : s0.storesWf = true) :
    (s0.resetCheck q i).storesWf = true := by
  unfold State.resetCheck
  try simp +zetaDelta (maxDischargeDepth := 40) (decide := false) only [h, State.accessObj_stores,
      State.modPort_stores, State.breakBarrier_stores, stores_ite, stores_ite_fst, implies_true, forall_const]
  all_goals repeat' (split <;> try simp +zetaDelta (maxDischargeDepth := 40) (decide := false) only [h,
      State.accessObj_stores, State.modPort_stores, State.breakBarrier_stores, stores_ite, stores_ite_fst,
      implies_true, forall_const])

theorem State.evDrop_stores (s : State) (i : Nat) (c : Opcode) (h : Handle) (hs : s.storesWf = true) :
    (s.evDrop i c h).storesWf = true := by
  unfold State.evDrop
  try simp +zetaDelta (maxDischargeDepth := 40) (decide := false) only [hs, State.bump_stores,
      State.record_stores, stores_ite, stores_ite_fst, implies_true, forall_const]
  all_goals repeat' (split <;> try simp +zetaDelta (maxDischargeDepth := 40) (decide := false) only [hs,
      State.bump_stores, State.record_stores, stores_ite, stores_ite_fst, implies_true, forall_const])

theorem State.evOp_stores (s0 : State) (i : Nat) (c : Opcode) (h : s0.storesWf = true) :
    (s0.evOp i c).storesWf = true := by
  unfold State.evOp
  try simp +zetaDelta (maxDischargeDepth := 40) (decide := false) only [h, State.evDrop_stores, State.act_stores,
      State.accessObj_stores, State.performHome_stores, State.bump_stores, stores_ite, stores_ite_fst,
      implies_true, forall_const]
  all_goals repeat' (split <;> try simp +zetaDelta (maxDischargeDepth := 40) (decide := false) only [h,
      State.evDrop_stores, State.act_stores, State.accessObj_stores, State.performHome_stores, State.bump_stores,
      stores_ite, stores_ite_fst, implies_true, forall_const])

theorem State.evMerge_stores (s : State) (i : Nat) (n : Nat) (h : s.storesWf = true) :
    (s.evMerge i n).storesWf = true := by
  unfold State.evMerge
  try simp +zetaDelta (maxDischargeDepth := 40) (decide := false) only [h, State.stormNote_stores,
      State.bumpN_stores, State.setEv_stores, stores_ite, stores_ite_fst, implies_true, forall_const]
  all_goals repeat' (split <;> try simp +zetaDelta (maxDischargeDepth := 40) (decide := false) only [h,
      State.stormNote_stores, State.bumpN_stores, State.setEv_stores, stores_ite, stores_ite_fst, implies_true,
      forall_const])

theorem State.evSig_stores (s : State) (i : Nat) (h : s.storesWf = true) :
    (s.evSig i).storesWf = true := by
  unfold State.evSig
  try simp +zetaDelta (maxDischargeDepth := 40) (decide := false) only [h, State.evOp_stores, State.setEv_stores,
      stores_ite, stores_ite_fst, implies_true, forall_const]
  all_goals repeat' (split <;> try simp +zetaDelta (maxDischargeDepth := 40) (decide := false) only [h,
      State.evOp_stores, State.setEv_stores, stores_ite, stores_ite_fst, implies_true, forall_const])

theorem State.evApply_stores (s : State) (i : Nat) (h : s.storesWf = true) :
    (s.evApply i).storesWf = true := by
  unfold State.evApply
  try simp +zetaDelta (maxDischargeDepth := 40) (decide := false) only [h, State.evOp_stores, State.setEv_stores,
      stores_ite, stores_ite_fst, implies_true, forall_const]
  all_goals repeat' (split <;> try simp +zetaDelta (maxDischargeDepth := 40) (decide := false) only [h,
      State.evOp_stores, State.setEv_stores, stores_ite, stores_ite_fst, implies_true, forall_const])

theorem State.evChange_stores (s0 : State) (i : Nat) (level : Bool) (h : s0.storesWf = true) :
    (s0.evChange i level).storesWf = true := by
  unfold State.evChange
  try simp +zetaDelta (maxDischargeDepth := 40) (decide := false) only [h, State.setEv_stores,
      State.evApply_stores, State.evMerge_stores, State.evSig_stores, stores_ite, stores_ite_fst, implies_true,
      forall_const]
  all_goals repeat' (split <;> try simp +zetaDelta (maxDischargeDepth := 40) (decide := false) only [h,
      State.setEv_stores, State.evApply_stores, State.evMerge_stores, State.evSig_stores, stores_ite,
      stores_ite_fst, implies_true, forall_const])

theorem State.evDeferred_stores (s : State) (i : Nat) (h : s.storesWf = true) :
    (s.evDeferred i).storesWf = true := by
  unfold State.evDeferred
  try simp +zetaDelta (maxDischargeDepth := 40) (decide := false) only [h, State.evSig_stores, stores_ite,
      stores_ite_fst, implies_true, forall_const]
  all_goals repeat' (split <;> try simp +zetaDelta (maxDischargeDepth := 40) (decide := false) only [h,
      State.evSig_stores, stores_ite, stores_ite_fst, implies_true, forall_const])

theorem State.evLevel_stores (s : State) (i : Nat) (h : s.storesWf = true) :
    (s.evLevel i).storesWf = true := by
  unfold State.evLevel
  try simp +zetaDelta (maxDischargeDepth := 40) (decide := false) only [h, State.evMerge_stores,
      State.evApply_stores, State.setEv_stores, stores_ite, stores_ite_fst, implies_true, forall_const]
  all_goals repeat' (split <;> try simp +zetaDelta (maxDischargeDepth := 40) (decide := false) only [h,
      State.evMerge_stores, State.evApply_stores, State.setEv_stores, stores_ite, stores_ite_fst, implies_true,
      forall_const])

theorem State.evBinding_stores (s : State) (i : Nat) (sub : Nat) (v : Nat) (h : s.storesWf = true) :
    (s.evBinding i sub v).storesWf = true := by
  unfold State.evBinding
  try simp +zetaDelta (maxDischargeDepth := 40) (decide := false) only [h, State.setEv_stores,
      State.setCfg_stores, State.evMerge_stores, stores_ite, stores_ite_fst, implies_true, forall_const]
  all_goals repeat' (split <;> try simp +zetaDelta (maxDischargeDepth := 40) (decide := false) only [h,
      State.setEv_stores, State.setCfg_stores, State.evMerge_stores, stores_ite, stores_ite_fst, implies_true,
      forall_const])

theorem State.clearAbandoned_stores (s : State) (p : Nat) (h : Handle) (hs : s.storesWf = true) :
    (s.clearAbandoned p h).1.storesWf = true := by
  unfold State.clearAbandoned
  try simp +zetaDelta (maxDischargeDepth := 40) (decide := false) only [hs, State.setObj_stores, stores_ite,
      stores_ite_fst, implies_true, forall_const]
  all_goals repeat' (split <;> try simp +zetaDelta (maxDischargeDepth := 40) (decide := false) only [hs,
      State.setObj_stores, stores_ite, stores_ite_fst, implies_true, forall_const])

theorem State.lockMode_stores (s : State) (i : Nat) (h : s.storesWf = true) :
    (s.lockMode i).storesWf = true := by
  unfold State.lockMode
  try simp +zetaDelta (maxDischargeDepth := 40) (decide := false) only [h, State.reorder_stores,
      State.endInherit_stores, stores_ite, stores_ite_fst, implies_true, forall_const]
  all_goals repeat' (split <;> try simp +zetaDelta (maxDischargeDepth := 40) (decide := false) only [h,
      State.reorder_stores, State.endInherit_stores, stores_ite, stores_ite_fst, implies_true, forall_const])

theorem State.setLockMode_stores (s : State) (g : Nat) (v : Nat) (h : s.storesWf = true) :
    (s.setLockMode g v).storesWf = true := by
  unfold State.setLockMode
  try simp +contextual +zetaDelta (maxDischargeDepth := 40) (decide := false) only [h, State.setCfg_stores,
      State.each_stores, State.lockMode_stores, stores_ite, stores_ite_fst, implies_true, forall_const]
  all_goals repeat' (split <;> try simp +contextual +zetaDelta (maxDischargeDepth := 40) (decide := false) only
      [h, State.setCfg_stores, State.each_stores, State.lockMode_stores, stores_ite, stores_ite_fst, implies_true,
      forall_const])

theorem State.recallWrite_stores (s : State) (p : Nat) (h : Handle) (hs : s.storesWf = true) :
    (s.recallWrite p h).1.storesWf = true := by
  unfold State.recallWrite
  try simp +zetaDelta (maxDischargeDepth := 40) (decide := false) only [hs, State.recallToken_stores, stores_ite,
      stores_ite_fst, implies_true, forall_const]
  all_goals repeat' (split <;> try simp +zetaDelta (maxDischargeDepth := 40) (decide := false) only [hs,
      State.recallToken_stores, stores_ite, stores_ite_fst, implies_true, forall_const])

end Sys2Proof.Machine
end

