-- ==== Sys2Proof/Laws/StoresLoans.lean ====
section
/-! SUPPORT. The operations of Loans.lean keep the sparse stores in their canonical form. -/

set_option linter.all false

namespace Sys2Proof.Machine

theorem State.discardLoan_stores (s : State) (b : LoanBody) (h : s.storesWf = true) :
    (s.discardLoan b).storesWf = true := by
  unfold State.discardLoan
  try simp +zetaDelta (maxDischargeDepth := 40) (decide := false) only [h, State.pcount_stores, stores_ite,
      stores_ite_fst, implies_true, forall_const]
  all_goals repeat' (split <;> try simp +zetaDelta (maxDischargeDepth := 40) (decide := false) only [h,
      State.pcount_stores, stores_ite, stores_ite_fst, implies_true, forall_const])

theorem State.queueRequest_stores (s : State) (b : LoanBody) (e : Lender) (h : s.storesWf = true) :
    (s.queueRequest b e).storesWf = true := by
  unfold State.queueRequest
  try simp +zetaDelta (maxDischargeDepth := 40) (decide := false) only [h, State.recordLoan_stores,
      State.serve_stores, State.setLender_stores, State.recallEntry_stores, stores_ite, stores_ite_fst,
      implies_true, forall_const]
  all_goals repeat' (split <;> try simp +zetaDelta (maxDischargeDepth := 40) (decide := false) only [h,
      State.recordLoan_stores, State.serve_stores, State.setLender_stores, State.recallEntry_stores, stores_ite,
      stores_ite_fst, implies_true, forall_const])
  all_goals
    rename_i e
    have k := State.addWaiter_stores _ _ _ _ (by first | exact h | simp +zetaDelta (maxDischargeDepth := 40) only
        [h, State.recordLoan_stores, State.serve_stores, State.setLender_stores, State.recallEntry_stores,
        stores_ite, stores_ite_fst, implies_true, forall_const]) _ e
    simp +zetaDelta (maxDischargeDepth := 40) only [k, State.recordLoan_stores, State.serve_stores,
        State.setLender_stores, State.recallEntry_stores, stores_ite, stores_ite_fst, implies_true, forall_const]

theorem State.loanReqMsg_stores (s0 : State) (b : LoanBody) (h : s0.storesWf = true) :
    (s0.loanReqMsg b).storesWf = true := by
  unfold State.loanReqMsg
  try simp +zetaDelta (maxDischargeDepth := 40) (decide := false) only [h, State.accessObj_stores,
      State.discardLoan_stores, State.access_stores, State.queueRequest_stores, State.discardMessage_stores,
      stores_ite, stores_ite_fst, implies_true, forall_const]
  all_goals repeat' (split <;> try simp +zetaDelta (maxDischargeDepth := 40) (decide := false) only [h,
      State.accessObj_stores, State.discardLoan_stores, State.access_stores, State.queueRequest_stores,
      State.discardMessage_stores, stores_ite, stores_ite_fst, implies_true, forall_const])

theorem State.takeReturn_stores (s : State) (b : LoanBody) (e : Lender) (h : s.storesWf = true) :
    (s.takeReturn b e).storesWf = true := by
  unfold State.takeReturn
  try simp +zetaDelta (maxDischargeDepth := 40) (decide := false) only [h, stores_lenders,
      State.recordLoan_stores, State.setObj_stores, State.freeWaiter_stores, State.serve_stores,
      State.markFaulted_stores, stores_ite, stores_ite_fst, implies_true, forall_const]
  all_goals repeat' (split <;> try simp +zetaDelta (maxDischargeDepth := 40) (decide := false) only [h,
      stores_lenders, State.recordLoan_stores, State.setObj_stores, State.freeWaiter_stores, State.serve_stores,
      State.markFaulted_stores, stores_ite, stores_ite_fst, implies_true, forall_const])

theorem State.loanReturnMsg_stores (s0 : State) (b : LoanBody) (h : s0.storesWf = true) :
    (s0.loanReturnMsg b).storesWf = true := by
  unfold State.loanReturnMsg
  try simp +zetaDelta (maxDischargeDepth := 40) (decide := false) only [h, State.accessObj_stores,
      State.discardLoan_stores, State.access_stores, State.resetRecalled_stores, State.takeReturn_stores,
      State.discardMessage_stores, stores_ite, stores_ite_fst, implies_true, forall_const]
  all_goals repeat' (split <;> try simp +zetaDelta (maxDischargeDepth := 40) (decide := false) only [h,
      State.accessObj_stores, State.discardLoan_stores, State.access_stores, State.resetRecalled_stores,
      State.takeReturn_stores, State.discardMessage_stores, stores_ite, stores_ite_fst, implies_true,
      forall_const])

theorem State.sendReturn_stores (s : State) (e : Ledger) (reason : BitVec 2) (h : s.storesWf = true) :
    (s.sendReturn e reason).storesWf = true := by
  unfold State.sendReturn
  try simp +zetaDelta (maxDischargeDepth := 40) (decide := false) only [h, State.sendLoan_stores, stores_ite,
      stores_ite_fst, implies_true, forall_const]
  all_goals repeat' (split <;> try simp +zetaDelta (maxDischargeDepth := 40) (decide := false) only [h,
      State.sendLoan_stores, stores_ite, stores_ite_fst, implies_true, forall_const])

theorem State.openLedger_stores (s : State) (b : LoanBody) (h : s.storesWf = true) :
    (s.openLedger b).storesWf = true := by
  unfold State.openLedger
  try simp +zetaDelta (maxDischargeDepth := 40) (decide := false) only [h, stores_ledgers,
      State.recordLoan_stores, State.fresh_stores, State.sendReturn_stores, stores_ite, stores_ite_fst,
      implies_true, forall_const]
  all_goals repeat' (split <;> try simp +zetaDelta (maxDischargeDepth := 40) (decide := false) only [h,
      stores_ledgers, State.recordLoan_stores, State.fresh_stores, State.sendReturn_stores, stores_ite,
      stores_ite_fst, implies_true, forall_const])

theorem State.loanOpenMsg_stores (s : State) (b : LoanBody) (h : s.storesWf = true) :
    (s.loanOpenMsg b).storesWf = true := by
  unfold State.loanOpenMsg
  try simp +zetaDelta (maxDischargeDepth := 40) (decide := false) only [h, State.openLedger_stores,
      State.discardMessage_stores, stores_ite, stores_ite_fst, implies_true, forall_const]
  all_goals repeat' (split <;> try simp +zetaDelta (maxDischargeDepth := 40) (decide := false) only [h,
      State.openLedger_stores, State.discardMessage_stores, stores_ite, stores_ite_fst, implies_true,
      forall_const])

theorem State.usableLedger_stores (s : State) (b : LoanBody) (h : s.storesWf = true) :
    (s.usableLedger b).1.storesWf = true := by
  unfold State.usableLedger
  try simp +zetaDelta (maxDischargeDepth := 40) (decide := false) only [h, State.access_stores, stores_ite,
      stores_ite_fst, implies_true, forall_const]
  all_goals repeat' (split <;> try simp +zetaDelta (maxDischargeDepth := 40) (decide := false) only [h,
      State.access_stores, stores_ite, stores_ite_fst, implies_true, forall_const])

theorem State.loanGrantMsg_stores (s : State) (b : LoanBody) (h : s.storesWf = true) :
    (s.loanGrantMsg b).storesWf = true := by
  unfold State.loanGrantMsg
  have k := State.usableLedger_stores s b h
  split
  · split
    · rename_i e
      rw [e] at k
      simp +zetaDelta (maxDischargeDepth := 40) only [k, State.usableLedger_stores, State.discardLoan_stores,
          State.serveLedger_stores, State.setLedger_stores, State.recordLoan_stores, State.discardMessage_stores,
          stores_ite, stores_ite_fst, implies_true, forall_const]
    · rename_i e
      rw [e] at k
      simp +zetaDelta (maxDischargeDepth := 40) only [k, State.usableLedger_stores, State.discardLoan_stores,
          State.serveLedger_stores, State.setLedger_stores, State.recordLoan_stores, State.discardMessage_stores,
          stores_ite, stores_ite_fst, implies_true, forall_const]
  · simp +zetaDelta (maxDischargeDepth := 40) (decide := false) only [h, State.usableLedger_stores,
      State.discardLoan_stores, State.serveLedger_stores, State.setLedger_stores, State.recordLoan_stores,
      State.discardMessage_stores, stores_ite, stores_ite_fst, implies_true, forall_const]

theorem State.forwardWaiters_stores (s : State) (token : Handle) (x2 : List Waiter) (h : s.storesWf = true) :
    (s.forwardWaiters token x2).storesWf = true := by
  fun_induction State.forwardWaiters s token x2
  all_goals try simp +zetaDelta (maxDischargeDepth := 40) only [*, State.send_stores, State.freeWaiter_stores,
      stores_ite, stores_ite_fst, implies_true, forall_const]
  all_goals repeat' (split <;> try simp +zetaDelta (maxDischargeDepth := 40) only [*, State.send_stores,
      State.freeWaiter_stores, stores_ite, stores_ite_fst, implies_true, forall_const])

theorem State.loanRecallMsg_stores (s : State) (b : LoanBody) (h : s.storesWf = true) :
    (s.loanRecallMsg b).storesWf = true := by
  unfold State.loanRecallMsg
  have k := State.usableLedger_stores s b h
  split
  · split
    · rename_i e
      rw [e] at k
      simp +zetaDelta (maxDischargeDepth := 40) only [k, stores_ledgers, State.usableLedger_stores,
          State.discardLoan_stores, State.forwardWaiters_stores, State.sendReturn_stores, State.recordLoan_stores,
          State.discardMessage_stores, stores_ite, stores_ite_fst, implies_true, forall_const]
    · rename_i e
      rw [e] at k
      simp +zetaDelta (maxDischargeDepth := 40) only [k, stores_ledgers, State.usableLedger_stores,
          State.discardLoan_stores, State.forwardWaiters_stores, State.sendReturn_stores, State.recordLoan_stores,
          State.discardMessage_stores, stores_ite, stores_ite_fst, implies_true, forall_const]
  · simp +zetaDelta (maxDischargeDepth := 40) (decide := false) only [h, stores_ledgers,
      State.usableLedger_stores, State.discardLoan_stores, State.forwardWaiters_stores, State.sendReturn_stores,
      State.recordLoan_stores, State.discardMessage_stores, stores_ite, stores_ite_fst, implies_true,
      forall_const]

theorem State.recallDelay_stores (s : State) (i : Nat) (h : s.storesWf = true) :
    (s.recallDelay i).storesWf = true := by
  unfold State.recallDelay
  try simp +zetaDelta (maxDischargeDepth := 40) (decide := false) only [h, State.recallAll_stores, stores_ite,
      stores_ite_fst, implies_true, forall_const]
  all_goals repeat' (split <;> try simp +zetaDelta (maxDischargeDepth := 40) (decide := false) only [h,
      State.recallAll_stores, stores_ite, stores_ite_fst, implies_true, forall_const])

theorem State.idleReturn_stores (s : State) (n : Nat) (h : s.storesWf = true) :
    (s.idleReturn n).storesWf = true := by
  unfold State.idleReturn
  try simp +zetaDelta (maxDischargeDepth := 40) (decide := false) only [h, stores_ledgers,
      State.sendReturn_stores, stores_ite, stores_ite_fst, implies_true, forall_const]
  all_goals repeat' (split <;> try simp +zetaDelta (maxDischargeDepth := 40) (decide := false) only [h,
      stores_ledgers, State.sendReturn_stores, stores_ite, stores_ite_fst, implies_true, forall_const])

theorem State.lenderLost_stores (s : State) (e : Lender) (h : s.storesWf = true) :
    (s.lenderLost e).storesWf = true := by
  unfold State.lenderLost
  try simp +zetaDelta (maxDischargeDepth := 40) (decide := false) only [h, State.failOne_stores,
      State.setLender_stores, stores_ite, stores_ite_fst, implies_true, forall_const]
  all_goals repeat' (split <;> try simp +zetaDelta (maxDischargeDepth := 40) (decide := false) only [h,
      State.failOne_stores, State.setLender_stores, stores_ite, stores_ite_fst, implies_true, forall_const])

theorem State.lendersLost_stores (s : State) (x1 : List Lender) (h : s.storesWf = true) :
    (s.lendersLost x1).storesWf = true := by
  fun_induction State.lendersLost s x1
  all_goals try simp +zetaDelta (maxDischargeDepth := 40) only [*, State.lenderLost_stores, stores_ite,
      stores_ite_fst, implies_true, forall_const]
  all_goals repeat' (split <;> try simp +zetaDelta (maxDischargeDepth := 40) only [*, State.lenderLost_stores,
      stores_ite, stores_ite_fst, implies_true, forall_const])

theorem State.ledgerLost_stores (s : State) (e : Ledger) (h : s.storesWf = true) :
    (s.ledgerLost e).storesWf = true := by
  unfold State.ledgerLost
  try simp +zetaDelta (maxDischargeDepth := 40) (decide := false) only [h, stores_ledgers,
      State.endWaiters_stores, State.failOne_stores, State.pcount_stores, stores_ite, stores_ite_fst,
      implies_true, forall_const]
  all_goals repeat' (split <;> try simp +zetaDelta (maxDischargeDepth := 40) (decide := false) only [h,
      stores_ledgers, State.endWaiters_stores, State.failOne_stores, State.pcount_stores, stores_ite,
      stores_ite_fst, implies_true, forall_const])

theorem State.ledgersLost_stores (s : State) (x1 : List Ledger) (h : s.storesWf = true) :
    (s.ledgersLost x1).storesWf = true := by
  fun_induction State.ledgersLost s x1
  all_goals try simp +zetaDelta (maxDischargeDepth := 40) only [*, State.ledgerLost_stores, stores_ite,
      stores_ite_fst, implies_true, forall_const]
  all_goals repeat' (split <;> try simp +zetaDelta (maxDischargeDepth := 40) only [*, State.ledgerLost_stores,
      stores_ite, stores_ite_fst, implies_true, forall_const])

theorem State.loanLinkLoss_stores (s : State) (h : HubId) (hs : s.storesWf = true) :
    (s.loanLinkLoss h).storesWf = true := by
  unfold State.loanLinkLoss
  try simp +contextual +zetaDelta (maxDischargeDepth := 40) (decide := false) only [hs, State.each_stores,
      State.ledgersLost_stores, State.lendersLost_stores, State.resetRecalled_stores, stores_ite, stores_ite_fst,
      implies_true, forall_const]
  all_goals repeat' (split <;> try simp +contextual +zetaDelta (maxDischargeDepth := 40) (decide := false) only
      [hs, State.each_stores, State.ledgersLost_stores, State.lendersLost_stores, State.resetRecalled_stores,
      stores_ite, stores_ite_fst, implies_true, forall_const])

theorem State.endSent_stores (s : State) (q : Nat) (st : Status) (counts : Bool) (x4 : List Pend) (h : s.storesWf =
    true) :
    (s.endSent q st counts x4).storesWf = true := by
  fun_induction State.endSent s q st counts x4
  all_goals try simp +zetaDelta (maxDischargeDepth := 40) only [*, State.modPort_stores, State.wakePort_stores,
      State.answerPend_stores, State.countRefused_stores, stores_ite, stores_ite_fst, implies_true, forall_const]
  all_goals repeat' (split <;> try simp +zetaDelta (maxDischargeDepth := 40) only [*, State.modPort_stores,
      State.wakePort_stores, State.answerPend_stores, State.countRefused_stores, stores_ite, stores_ite_fst,
      implies_true, forall_const])

theorem State.endSlotSent_stores (s : State) (g : Nat) (st : Status) (counts : Bool) (h : s.storesWf = true) :
    (s.endSlotSent g st counts).storesWf = true := by
  unfold State.endSlotSent
  try simp +zetaDelta (maxDischargeDepth := 40) (decide := false) only [h, State.wakeSlot_stores,
      State.modSlot_stores, State.countRefused_stores, stores_ite, stores_ite_fst, implies_true, forall_const]
  all_goals repeat' (split <;> try simp +zetaDelta (maxDischargeDepth := 40) (decide := false) only [h,
      State.wakeSlot_stores, State.modSlot_stores, State.countRefused_stores, stores_ite, stores_ite_fst,
      implies_true, forall_const])

theorem State.portLockLoss_stores (s : State) (h : HubId) (q : Nat) (hs : s.storesWf = true) :
    (s.portLockLoss h q).storesWf = true := by
  unfold State.portLockLoss
  try simp +zetaDelta (maxDischargeDepth := 40) (decide := false) only [hs, State.failOne_stores,
      State.modPort_stores, State.endSent_stores, stores_ite, stores_ite_fst, implies_true, forall_const]
  all_goals repeat' (split <;> try simp +zetaDelta (maxDischargeDepth := 40) (decide := false) only [hs,
      State.failOne_stores, State.modPort_stores, State.endSent_stores, stores_ite, stores_ite_fst, implies_true,
      forall_const])

theorem State.slotLockLoss_stores (s : State) (h : HubId) (g : Nat) (hs : s.storesWf = true) :
    (s.slotLockLoss h g).storesWf = true := by
  unfold State.slotLockLoss
  try simp +zetaDelta (maxDischargeDepth := 40) (decide := false) only [hs, State.failOne_stores,
      State.endSlotSent_stores, stores_ite, stores_ite_fst, implies_true, forall_const]
  all_goals repeat' (split <;> try simp +zetaDelta (maxDischargeDepth := 40) (decide := false) only [hs,
      State.failOne_stores, State.endSlotSent_stores, stores_ite, stores_ite_fst, implies_true, forall_const])

theorem freeWaiters_stores (s : State) (ws : List Waiter) (h : s.storesWf = true) :
    (ws.foldl State.freeWaiter s).storesWf = true := by
  induction ws generalizing s with
  | nil => exact h
  | cons w ws ih => exact ih _ (State.freeWaiter_stores _ _ h)

theorem State.lockLost_stores (s : State) (h : HubId) (i : Nat) (hs : s.storesWf = true) :
    (s.lockLost h i).storesWf = true := by
  unfold State.lockLost
  try simp +zetaDelta (maxDischargeDepth := 40) (decide := false) only [hs, State.freeWaiter_stores,
      State.failOne_stores, State.freeLock_stores, stores_ite, stores_ite_fst, implies_true, forall_const,
      freeWaiters_stores]
  all_goals repeat' (split <;> try simp +zetaDelta (maxDischargeDepth := 40) (decide := false) only [hs,
      State.freeWaiter_stores, State.failOne_stores, State.freeLock_stores, stores_ite, stores_ite_fst,
      implies_true, forall_const, freeWaiters_stores])

theorem State.lockLinkLoss_stores (s : State) (h : HubId) (hs : s.storesWf = true) :
    (s.lockLinkLoss h).storesWf = true := by
  unfold State.lockLinkLoss
  try simp +contextual +zetaDelta (maxDischargeDepth := 40) (decide := false) only [hs, State.each_stores,
      State.lockLost_stores, State.portLockLoss_stores, State.slotLockLoss_stores, stores_ite, stores_ite_fst,
      implies_true, forall_const]
  all_goals repeat' (split <;> try simp +contextual +zetaDelta (maxDischargeDepth := 40) (decide := false) only
      [hs, State.each_stores, State.lockLost_stores, State.portLockLoss_stores, State.slotLockLoss_stores,
      stores_ite, stores_ite_fst, implies_true, forall_const])

theorem State.treeLinkLoss_stores (s : State) (i : Nat) (h : s.storesWf = true) :
    (s.treeLinkLoss i).storesWf = true := by
  unfold State.treeLinkLoss
  try simp +zetaDelta (maxDischargeDepth := 40) (decide := false) only [h, State.childGrant_stores, stores_ite,
      stores_ite_fst, implies_true, forall_const]
  all_goals repeat' (split <;> try simp +zetaDelta (maxDischargeDepth := 40) (decide := false) only [h,
      State.childGrant_stores, stores_ite, stores_ite_fst, implies_true, forall_const])

theorem State.grantUndeliverable_stores (s : State) (i : Nat) (h : s.storesWf = true) :
    (s.grantUndeliverable i).storesWf = true := by
  unfold State.grantUndeliverable
  try simp +zetaDelta (maxDischargeDepth := 40) (decide := false) only [h, stores_waitMsgs,
      State.breakBarrier_stores, stores_ite, stores_ite_fst, implies_true, forall_const]
  all_goals repeat' (split <;> try simp +zetaDelta (maxDischargeDepth := 40) (decide := false) only [h,
      stores_waitMsgs, State.breakBarrier_stores, stores_ite, stores_ite_fst, implies_true, forall_const])

theorem State.strandMsg_stores (s : State) (w : WaitMsg) (h : s.storesWf = true) :
    (s.strandMsg w).storesWf = true := by
  unfold State.strandMsg
  try simp +zetaDelta (maxDischargeDepth := 40) (decide := false) only [h, State.failOne_stores,
      State.recordDiscard_stores, State.bump_stores, State.sendRaw_stores, stores_ite, stores_ite_fst,
      implies_true, forall_const]
  all_goals repeat' (split <;> try simp +zetaDelta (maxDischargeDepth := 40) (decide := false) only [h,
      State.failOne_stores, State.recordDiscard_stores, State.bump_stores, State.sendRaw_stores, stores_ite,
      stores_ite_fst, implies_true, forall_const])

theorem State.strandAll_stores (s : State) (x1 : List WaitMsg) (h : s.storesWf = true) :
    (s.strandAll x1).storesWf = true := by
  fun_induction State.strandAll s x1
  all_goals try simp +zetaDelta (maxDischargeDepth := 40) only [*, State.strandMsg_stores, stores_ite,
      stores_ite_fst, implies_true, forall_const]
  all_goals repeat' (split <;> try simp +zetaDelta (maxDischargeDepth := 40) only [*, State.strandMsg_stores,
      stores_ite, stores_ite_fst, implies_true, forall_const])

theorem State.strandPort_stores (s : State) (h : HubId) (q : Nat) (hs : s.storesWf = true) :
    (s.strandPort h q).storesWf = true := by
  unfold State.strandPort
  try simp +zetaDelta (maxDischargeDepth := 40) (decide := false) only [hs, State.failOne_stores,
      State.endSent_stores, stores_ite, stores_ite_fst, implies_true, forall_const]
  all_goals repeat' (split <;> try simp +zetaDelta (maxDischargeDepth := 40) (decide := false) only [hs,
      State.failOne_stores, State.endSent_stores, stores_ite, stores_ite_fst, implies_true, forall_const])

theorem State.strandSlot_stores (s : State) (h : HubId) (g : Nat) (hs : s.storesWf = true) :
    (s.strandSlot h g).storesWf = true := by
  unfold State.strandSlot
  try simp +zetaDelta (maxDischargeDepth := 40) (decide := false) only [hs, State.failOne_stores,
      State.endSlotSent_stores, stores_ite, stores_ite_fst, implies_true, forall_const]
  all_goals repeat' (split <;> try simp +zetaDelta (maxDischargeDepth := 40) (decide := false) only [hs,
      State.failOne_stores, State.endSlotSent_stores, stores_ite, stores_ite_fst, implies_true, forall_const])

theorem State.routeStrand_stores (s : State) (h : HubId) (hs : s.storesWf = true) :
    (s.routeStrand h).storesWf = true := by
  unfold State.routeStrand
  try simp +contextual +zetaDelta (maxDischargeDepth := 40) (decide := false) only [hs, stores_waitMsgs,
      State.strandAll_stores, State.each_stores, State.strandPort_stores, State.strandSlot_stores, stores_ite,
      stores_ite_fst, implies_true, forall_const]
  all_goals repeat' (split <;> try simp +contextual +zetaDelta (maxDischargeDepth := 40) (decide := false) only
      [hs, stores_waitMsgs, State.strandAll_stores, State.each_stores, State.strandPort_stores,
      State.strandSlot_stores, stores_ite, stores_ite_fst, implies_true, forall_const])

theorem State.w1Deadline_stores (s : State) (q : Nat) (n : Nat) (h : s.storesWf = true) :
    (s.w1Deadline q n).storesWf = true := by
  unfold State.w1Deadline
  try simp +zetaDelta (maxDischargeDepth := 40) (decide := false) only [h, State.endSent_stores,
      State.recordTimeout_stores, State.act_stores, State.pcount_stores, stores_ite, stores_ite_fst, implies_true,
      forall_const]
  all_goals repeat' (split <;> try simp +zetaDelta (maxDischargeDepth := 40) (decide := false) only [h,
      State.endSent_stores, State.recordTimeout_stores, State.act_stores, State.pcount_stores, stores_ite,
      stores_ite_fst, implies_true, forall_const])

theorem State.w1SlotDeadline_stores (s : State) (g : Nat) (h : s.storesWf = true) :
    (s.w1SlotDeadline g).storesWf = true := by
  unfold State.w1SlotDeadline
  try simp +zetaDelta (maxDischargeDepth := 40) (decide := false) only [h, State.endSlotSent_stores,
      State.recordTimeout_stores, State.act_stores, State.pcount_stores, stores_ite, stores_ite_fst, implies_true,
      forall_const]
  all_goals repeat' (split <;> try simp +zetaDelta (maxDischargeDepth := 40) (decide := false) only [h,
      State.endSlotSent_stores, State.recordTimeout_stores, State.act_stores, State.pcount_stores, stores_ite,
      stores_ite_fst, implies_true, forall_const])

end Sys2Proof.Machine
end

