-- ==== Sys2Proof/Laws/StoresLinks.lean ====
section
/-! SUPPORT. The operations of Links.lean keep the sparse stores in their canonical form. -/

set_option linter.all false

namespace Sys2Proof.Machine

theorem State.linkBump_stores (s : State) (c : Nat) (sub : Nat) (h : s.storesWf = true) :
    (s.linkBump c sub).storesWf = true := by
  unfold State.linkBump
  try simp +zetaDelta (maxDischargeDepth := 40) (decide := false) only [h, State.bump_stores, stores_ite,
      stores_ite_fst, implies_true, forall_const]
  all_goals repeat' (split <;> try simp +zetaDelta (maxDischargeDepth := 40) (decide := false) only [h,
      State.bump_stores, stores_ite, stores_ite_fst, implies_true, forall_const])

theorem State.sendControl_stores (s : State) (c : Nat) (ftype : BitVec 4) (payload : BitVec 192) (h : s.storesWf =
    true) :
    (s.sendControl c ftype payload).storesWf = true := by
  unfold State.sendControl
  try simp +zetaDelta (maxDischargeDepth := 40) (decide := false) only [h, State.sendFlit_stores, stores_ite,
      stores_ite_fst, implies_true, forall_const]
  all_goals repeat' (split <;> try simp +zetaDelta (maxDischargeDepth := 40) (decide := false) only [h,
      State.sendFlit_stores, stores_ite, stores_ite_fst, implies_true, forall_const])

theorem State.sendCtrl_stores (s : State) (c : Nat) (nak : Bool) (h : s.storesWf = true) :
    (s.sendCtrl c nak).storesWf = true := by
  unfold State.sendCtrl
  try simp +zetaDelta (maxDischargeDepth := 40) (decide := false) only [h, State.sendControl_stores,
      State.setLink_stores, stores_ite, stores_ite_fst, implies_true, forall_const]
  all_goals repeat' (split <;> try simp +zetaDelta (maxDischargeDepth := 40) (decide := false) only [h,
      State.sendControl_stores, State.setLink_stores, stores_ite, stores_ite_fst, implies_true, forall_const])

theorem State.sendNeg_stores (s : State) (c : Nat) (h : s.storesWf = true) :
    (s.sendNeg c).storesWf = true := by
  unfold State.sendNeg
  try simp +zetaDelta (maxDischargeDepth := 40) (decide := false) only [h, State.sendControl_stores,
      State.setLink_stores, stores_ite, stores_ite_fst, implies_true, forall_const]
  all_goals repeat' (split <;> try simp +zetaDelta (maxDischargeDepth := 40) (decide := false) only [h,
      State.sendControl_stores, State.setLink_stores, stores_ite, stores_ite_fst, implies_true, forall_const])

theorem State.replayFlits_stores (s : State) (c : Nat) (x2 : List Kept) (h : s.storesWf = true) :
    (s.replayFlits c x2).storesWf = true := by
  fun_induction State.replayFlits s c x2
  all_goals try simp +zetaDelta (maxDischargeDepth := 40) only [*, State.sendFlit_stores, stores_ite,
      stores_ite_fst, implies_true, forall_const]
  all_goals repeat' (split <;> try simp +zetaDelta (maxDischargeDepth := 40) only [*, State.sendFlit_stores,
      stores_ite, stores_ite_fst, implies_true, forall_const])

theorem State.replayFrom_stores (s : State) (c : Nat) (ks : List Kept) (h : s.storesWf = true) :
    (s.replayFrom c ks).storesWf = true := by
  unfold State.replayFrom
  try simp +zetaDelta (maxDischargeDepth := 40) (decide := false) only [h, State.modLink_stores,
      State.replayFlits_stores, State.linkBump_stores, stores_ite, stores_ite_fst, implies_true, forall_const]
  all_goals repeat' (split <;> try simp +zetaDelta (maxDischargeDepth := 40) (decide := false) only [h,
      State.modLink_stores, State.replayFlits_stores, State.linkBump_stores, stores_ite, stores_ite_fst,
      implies_true, forall_const])

theorem State.replayTimeout_stores (s : State) (c : Nat) (h : s.storesWf = true) :
    (s.replayTimeout c).storesWf = true := by
  unfold State.replayTimeout
  try simp +zetaDelta (maxDischargeDepth := 40) (decide := false) only [h, State.replayFrom_stores, stores_ite,
      stores_ite_fst, implies_true, forall_const]
  all_goals repeat' (split <;> try simp +zetaDelta (maxDischargeDepth := 40) (decide := false) only [h,
      State.replayFrom_stores, stores_ite, stores_ite_fst, implies_true, forall_const])

theorem State.hopDiscard_stores (s : State) (c : Nat) (m : Msg) (h : s.storesWf = true) :
    (s.hopDiscard c m).storesWf = true := by
  unfold State.hopDiscard
  try simp +zetaDelta (maxDischargeDepth := 40) (decide := false) only [h, State.failOne_stores,
      State.recordDiscard_stores, State.bump_stores, State.sendRaw_stores, stores_ite, stores_ite_fst,
      implies_true, forall_const]
  all_goals repeat' (split <;> try simp +zetaDelta (maxDischargeDepth := 40) (decide := false) only [h,
      State.failOne_stores, State.recordDiscard_stores, State.bump_stores, State.sendRaw_stores, stores_ite,
      stores_ite_fst, implies_true, forall_const])

theorem State.ackFence_stores (s : State) (h : MsgHdr) (b : FenceBody) (hs : s.storesWf = true) :
    (s.ackFence h b).storesWf = true := by
  unfold State.ackFence
  try simp +zetaDelta (maxDischargeDepth := 40) (decide := false) only [hs, State.send_stores, stores_ite,
      stores_ite_fst, implies_true, forall_const]
  all_goals repeat' (split <;> try simp +zetaDelta (maxDischargeDepth := 40) (decide := false) only [hs,
      State.send_stores, stores_ite, stores_ite_fst, implies_true, forall_const])

theorem State.forwardMsg_stores (s : State) (c : Nat) (m : Msg) (h : s.storesWf = true) :
    (s.forwardMsg c m).storesWf = true := by
  unfold State.forwardMsg
  try simp +zetaDelta (maxDischargeDepth := 40) (decide := false) only [h, State.hopDiscard_stores,
      State.send_stores, State.ackFence_stores, stores_ite, stores_ite_fst, implies_true, forall_const]
  all_goals repeat' (split <;> try simp +zetaDelta (maxDischargeDepth := 40) (decide := false) only [h,
      State.hopDiscard_stores, State.send_stores, State.ackFence_stores, stores_ite, stores_ite_fst, implies_true,
      forall_const])

theorem State.arriveMsg_stores (s : State) (c : Nat) (m : Msg) (h : s.storesWf = true) :
    (s.arriveMsg c m).storesWf = true := by
  unfold State.arriveMsg
  try simp +zetaDelta (maxDischargeDepth := 40) (decide := false) only [h, stores_inbox, State.forwardMsg_stores,
      stores_ite, stores_ite_fst, implies_true, forall_const]
  all_goals repeat' (split <;> try simp +zetaDelta (maxDischargeDepth := 40) (decide := false) only [h,
      stores_inbox, State.forwardMsg_stores, stores_ite, stores_ite_fst, implies_true, forall_const])

theorem State.countRx_stores (s : State) (c : Nat) (ps : List (BitVec 192)) (h : s.storesWf = true) :
    (s.countRx c ps).storesWf = true := by
  unfold State.countRx
  try simp +zetaDelta (maxDischargeDepth := 40) (decide := false) only [h, State.count_stores, stores_ite,
      stores_ite_fst, implies_true, forall_const]
  all_goals repeat' (split <;> try simp +zetaDelta (maxDischargeDepth := 40) (decide := false) only [h,
      State.count_stores, stores_ite, stores_ite_fst, implies_true, forall_const])

theorem State.acceptFlit_stores (s : State) (c : Nat) (f : Flit) (h : s.storesWf = true) :
    (s.acceptFlit c f).storesWf = true := by
  unfold State.acceptFlit
  try simp +zetaDelta (maxDischargeDepth := 40) (decide := false) only [h, State.countRx_stores,
      State.setLink_stores, State.modLink_stores, State.arriveMsg_stores, State.linkBump_stores, stores_ite,
      stores_ite_fst, implies_true, forall_const]
  all_goals repeat' (split <;> try simp +zetaDelta (maxDischargeDepth := 40) (decide := false) only [h,
      State.countRx_stores, State.setLink_stores, State.modLink_stores, State.arriveMsg_stores,
      State.linkBump_stores, stores_ite, stores_ite_fst, implies_true, forall_const])

theorem State.nak_stores (s : State) (c : Nat) (h : s.storesWf = true) :
    (s.nak c).storesWf = true := by
  unfold State.nak
  try simp +zetaDelta (maxDischargeDepth := 40) (decide := false) only [h, State.sendCtrl_stores,
      State.modLink_stores, stores_ite, stores_ite_fst, implies_true, forall_const]
  all_goals repeat' (split <;> try simp +zetaDelta (maxDischargeDepth := 40) (decide := false) only [h,
      State.sendCtrl_stores, State.modLink_stores, stores_ite, stores_ite_fst, implies_true, forall_const])

theorem State.dataFlit_stores (s : State) (c : Nat) (f : Flit) (h : s.storesWf = true) :
    (s.dataFlit c f).storesWf = true := by
  unfold State.dataFlit
  try simp +zetaDelta (maxDischargeDepth := 40) (decide := false) only [h, State.acceptFlit_stores,
      State.modLink_stores, State.nak_stores, stores_ite, stores_ite_fst, implies_true, forall_const]
  all_goals repeat' (split <;> try simp +zetaDelta (maxDischargeDepth := 40) (decide := false) only [h,
      State.acceptFlit_stores, State.modLink_stores, State.nak_stores, stores_ite, stores_ite_fst, implies_true,
      forall_const])

theorem State.abandonReplay_stores (s : State) (c : Nat) (h : s.storesWf = true) :
    (s.abandonReplay c).storesWf = true := by
  unfold State.abandonReplay
  try simp +zetaDelta (maxDischargeDepth := 40) (decide := false) only [h, State.bumpN_stores,
      State.setLink_stores, State.jobFault_stores, stores_ite, stores_ite_fst, implies_true, forall_const]
  all_goals repeat' (split <;> try simp +zetaDelta (maxDischargeDepth := 40) (decide := false) only [h,
      State.bumpN_stores, State.setLink_stores, State.jobFault_stores, stores_ite, stores_ite_fst, implies_true,
      forall_const])

theorem State.dropPartials_stores (s : State) (c : Nat) (h : s.storesWf = true) :
    (s.dropPartials c).storesWf = true := by
  unfold State.dropPartials
  try simp +zetaDelta (maxDischargeDepth := 40) (decide := false) only [h, State.modLink_stores,
      State.jobFault_stores, stores_ite, stores_ite_fst, implies_true, forall_const]
  all_goals repeat' (split <;> try simp +zetaDelta (maxDischargeDepth := 40) (decide := false) only [h,
      State.modLink_stores, State.jobFault_stores, stores_ite, stores_ite_fst, implies_true, forall_const])

theorem State.linkSettled_stores (s : State) (c : Nat) (h : s.storesWf = true) :
    (s.linkSettled c).storesWf = true := by
  unfold State.linkSettled
  try simp +zetaDelta (maxDischargeDepth := 40) (decide := false) only [h, State.catFinishAll_stores,
      State.modLink_stores, stores_ite, stores_ite_fst, implies_true, forall_const]
  all_goals repeat' (split <;> try simp +zetaDelta (maxDischargeDepth := 40) (decide := false) only [h,
      State.catFinishAll_stores, State.modLink_stores, stores_ite, stores_ite_fst, implies_true, forall_const])

theorem State.requeue_stores (s : State) (x1 : List TxMsg) (h : s.storesWf = true) :
    (s.requeue x1).storesWf = true := by
  fun_induction State.requeue s x1
  all_goals try simp +zetaDelta (maxDischargeDepth := 40) only [*, State.send_stores, stores_ite, stores_ite_fst,
      implies_true, forall_const]
  all_goals repeat' (split <;> try simp +zetaDelta (maxDischargeDepth := 40) only [*, State.send_stores,
      stores_ite, stores_ite_fst, implies_true, forall_const])

theorem State.changesLost_stores (s : State) (c : Nat) (h : s.storesWf = true) :
    (s.changesLost c).storesWf = true := by
  unfold State.changesLost
  try simp +zetaDelta (maxDischargeDepth := 40) (decide := false) only [h, stores_waitMsgs_changes_settles,
      State.modLink_stores, stores_ite, stores_ite_fst, implies_true, forall_const]
  all_goals repeat' (split <;> try simp +zetaDelta (maxDischargeDepth := 40) (decide := false) only [h,
      stores_waitMsgs_changes_settles, State.modLink_stores, stores_ite, stores_ite_fst, implies_true,
      forall_const])

theorem State.moveRoutes_stores (s : State) (c : Nat) (h : s.storesWf = true) :
    (s.moveRoutes c).storesWf = true := by
  unfold State.moveRoutes
  try simp +zetaDelta (maxDischargeDepth := 40) (decide := false) only [h, stores_settles,
      State.changesLost_stores, State.modLink_stores, State.requeue_stores, stores_ite, stores_ite_fst,
      implies_true, forall_const]
  all_goals repeat' (split <;> try simp +zetaDelta (maxDischargeDepth := 40) (decide := false) only [h,
      stores_settles, State.changesLost_stores, State.modLink_stores, State.requeue_stores, stores_ite,
      stores_ite_fst, implies_true, forall_const])

theorem State.enterHold_stores (s : State) (c : Nat) (reason : Nat) (h : s.storesWf = true) :
    (s.enterHold c reason).storesWf = true := by
  unfold State.enterHold
  try simp +zetaDelta (maxDischargeDepth := 40) (decide := false) only [h, State.moveLink_stores,
      State.modLink_stores, stores_ite, stores_ite_fst, implies_true, forall_const]
  all_goals repeat' (split <;> try simp +zetaDelta (maxDischargeDepth := 40) (decide := false) only [h,
      State.moveLink_stores, State.modLink_stores, stores_ite, stores_ite_fst, implies_true, forall_const])

theorem State.startNeg_stores (s : State) (c : Nat) (reason : Nat) (parts : Nat) (abandoned : Nat) (h : s.storesWf =
    true) :
    (s.startNeg c reason parts abandoned).storesWf = true := by
  unfold State.startNeg
  try simp +zetaDelta (maxDischargeDepth := 40) (decide := false) only [h, State.sendNeg_stores,
      State.moveLink_stores, State.modLink_stores, stores_ite, stores_ite_fst, implies_true, forall_const]
  all_goals repeat' (split <;> try simp +zetaDelta (maxDischargeDepth := 40) (decide := false) only [h,
      State.sendNeg_stores, State.moveLink_stores, State.modLink_stores, stores_ite, stores_ite_fst, implies_true,
      forall_const])

theorem State.holdExpiry_stores (s : State) (c : Nat) (h : s.storesWf = true) :
    (s.holdExpiry c).storesWf = true := by
  unfold State.holdExpiry
  try simp +zetaDelta (maxDischargeDepth := 40) (decide := false) only [h, State.moveLink_stores,
      State.dropPartials_stores, State.abandonReplay_stores, State.linkSettled_stores, State.moveRoutes_stores,
      State.startNeg_stores, stores_ite, stores_ite_fst, implies_true, forall_const]
  all_goals repeat' (split <;> try simp +zetaDelta (maxDischargeDepth := 40) (decide := false) only [h,
      State.moveLink_stores, State.dropPartials_stores, State.abandonReplay_stores, State.linkSettled_stores,
      State.moveRoutes_stores, State.startNeg_stores, stores_ite, stores_ite_fst, implies_true, forall_const])

theorem State.sendFences_stores (s : State) (c : Nat) (vl : Nat) (x3 : List (HubId × FenceBody)) (h : s.storesWf =
    true) :
    (s.sendFences c vl x3).storesWf = true := by
  fun_induction State.sendFences s c vl x3
  all_goals try simp +zetaDelta (maxDischargeDepth := 40) only [*, State.queueOn_stores, stores_ite,
      stores_ite_fst, implies_true, forall_const]
  all_goals repeat' (split <;> try simp +zetaDelta (maxDischargeDepth := 40) only [*, State.queueOn_stores,
      stores_ite, stores_ite_fst, implies_true, forall_const])

theorem State.startChange_stores (s : State) (k : RouteKey) (e : BitVec 32) (c : Nat) (vl : Nat) (cats : List
    CatHdr) (h : s.storesWf = true) :
    (s.startChange k e c vl cats).storesWf = true := by
  unfold State.startChange
  try simp +zetaDelta (maxDischargeDepth := 40) (decide := false) only [h, stores_changes_fenceNum,
      State.sendFences_stores, stores_ite, stores_ite_fst, implies_true, forall_const]
  all_goals repeat' (split <;> try simp +zetaDelta (maxDischargeDepth := 40) (decide := false) only [h,
      stores_changes_fenceNum, State.sendFences_stores, stores_ite, stores_ite_fst, implies_true, forall_const])

theorem State.installRoute_stores (s : State) (k : RouteKey) (e : BitVec 32) (h : s.storesWf = true) :
    (s.installRoute k e).storesWf = true := by
  unfold State.installRoute
  exact State.retryStranded_stores _ (State.putRoute_stores _ _ _ h)

theorem State.writeRoute_stores (s : State) (h : CatHdr) (k : RouteKey) (e : BitVec 32) (hs : s.storesWf = true) :
    (s.writeRoute h k e).1.storesWf = true := by
  unfold State.writeRoute
  try simp +zetaDelta (maxDischargeDepth := 40) (decide := false) only [hs, stores_changes,
      State.installRoute_stores, State.startChange_stores, stores_ite, stores_ite_fst, implies_true, forall_const]
  all_goals repeat' (split <;> try simp +zetaDelta (maxDischargeDepth := 40) (decide := false) only [hs,
      stores_changes, State.installRoute_stores, State.startChange_stores, stores_ite, stores_ite_fst,
      implies_true, forall_const])

theorem State.finishChange_stores (s : State) (x : RouteChange) (h : s.storesWf = true) :
    (s.finishChange x).storesWf = true := by
  unfold State.finishChange
  try simp +zetaDelta (maxDischargeDepth := 40) (decide := false) only [h, stores_changes,
      State.installRoute_stores, State.catFinishAll_stores, State.releaseWaiting_stores, stores_ite,
      stores_ite_fst, implies_true, forall_const]
  all_goals repeat' (split <;> try simp +zetaDelta (maxDischargeDepth := 40) (decide := false) only [h,
      stores_changes, State.installRoute_stores, State.catFinishAll_stores, State.releaseWaiting_stores,
      stores_ite, stores_ite_fst, implies_true, forall_const])

theorem State.finishChanges_stores (s : State) (x1 : List RouteChange) (h : s.storesWf = true) :
    (s.finishChanges x1).storesWf = true := by
  fun_induction State.finishChanges s x1
  all_goals try simp +zetaDelta (maxDischargeDepth := 40) only [*, State.finishChange_stores, stores_ite,
      stores_ite_fst, implies_true, forall_const]
  all_goals repeat' (split <;> try simp +zetaDelta (maxDischargeDepth := 40) only [*, State.finishChange_stores,
      stores_ite, stores_ite_fst, implies_true, forall_const])

theorem State.routeSettle_stores (s : State) (c : Nat) (h : s.storesWf = true) :
    (s.routeSettle c).storesWf = true := by
  unfold State.routeSettle
  try simp +zetaDelta (maxDischargeDepth := 40) (decide := false) only [h, stores_settles,
      State.finishChanges_stores, State.releaseWaiting_stores, stores_ite, stores_ite_fst, implies_true,
      forall_const]
  all_goals repeat' (split <;> try simp +zetaDelta (maxDischargeDepth := 40) (decide := false) only [h,
      stores_settles, State.finishChanges_stores, State.releaseWaiting_stores, stores_ite, stores_ite_fst,
      implies_true, forall_const])

theorem State.fenceAcked_stores (s : State) (b : FenceBody) (h : s.storesWf = true) :
    (s.fenceAcked b).storesWf = true := by
  unfold State.fenceAcked
  try simp +zetaDelta (maxDischargeDepth := 40) (decide := false) only [h, stores_changes,
      State.finishChange_stores, stores_ite, stores_ite_fst, implies_true, forall_const]
  all_goals repeat' (split <;> try simp +zetaDelta (maxDischargeDepth := 40) (decide := false) only [h,
      stores_changes, State.finishChange_stores, stores_ite, stores_ite_fst, implies_true, forall_const])

theorem State.moveBack_stores (s : State) (c : Nat) (x2 : List RouteKey) (h : s.storesWf = true) :
    (s.moveBack c x2).storesWf = true := by
  fun_induction State.moveBack s c x2
  all_goals try simp +zetaDelta (maxDischargeDepth := 40) only [*, stores_settles, State.releaseWaiting_stores,
      State.startChange_stores, stores_ite, stores_ite_fst, implies_true, forall_const]
  all_goals repeat' (split <;> try simp +zetaDelta (maxDischargeDepth := 40) only [*, stores_settles,
      State.releaseWaiting_stores, State.startChange_stores, stores_ite, stores_ite_fst, implies_true,
      forall_const])

theorem State.refuseLink_stores (s : State) (c : Nat) (reason : Nat) (h : s.storesWf = true) :
    (s.refuseLink c reason).storesWf = true := by
  unfold State.refuseLink
  try simp +zetaDelta (maxDischargeDepth := 40) (decide := false) only [h, State.abandonReplay_stores,
      State.moveLink_stores, State.modLink_stores, State.dropPartials_stores, State.linkSettled_stores,
      State.moveRoutes_stores, stores_ite, stores_ite_fst, implies_true, forall_const]
  all_goals repeat' (split <;> try simp +zetaDelta (maxDischargeDepth := 40) (decide := false) only [h,
      State.abandonReplay_stores, State.moveLink_stores, State.modLink_stores, State.dropPartials_stores,
      State.linkSettled_stores, State.moveRoutes_stores, stores_ite, stores_ite_fst, implies_true, forall_const])

theorem State.upFresh_stores (s : State) (c : Nat) (n : Neg) (h : s.storesWf = true) :
    (s.upFresh c n).storesWf = true := by
  unfold State.upFresh
  try simp +zetaDelta (maxDischargeDepth := 40) (decide := false) only [h, State.setLink_stores,
      State.requeue_stores, State.moveBack_stores, State.moveLink_stores, State.linkSettled_stores,
      State.pump_stores, State.sendNeg_stores, stores_ite, stores_ite_fst, implies_true, forall_const]
  all_goals repeat' (split <;> try simp +zetaDelta (maxDischargeDepth := 40) (decide := false) only [h,
      State.setLink_stores, State.requeue_stores, State.moveBack_stores, State.moveLink_stores,
      State.linkSettled_stores, State.pump_stores, State.sendNeg_stores, stores_ite, stores_ite_fst, implies_true,
      forall_const])

theorem State.upResume_stores (s : State) (c : Nat) (n : Neg) (h : s.storesWf = true) :
    (s.upResume c n).storesWf = true := by
  unfold State.upResume
  try simp +zetaDelta (maxDischargeDepth := 40) (decide := false) only [h, State.setLink_stores,
      State.replayFlits_stores, State.sendNeg_stores, State.moveLink_stores, State.linkSettled_stores,
      State.pump_stores, stores_ite, stores_ite_fst, implies_true, forall_const]
  all_goals repeat' (split <;> try simp +zetaDelta (maxDischargeDepth := 40) (decide := false) only [h,
      State.setLink_stores, State.replayFlits_stores, State.sendNeg_stores, State.moveLink_stores,
      State.linkSettled_stores, State.pump_stores, stores_ite, stores_ite_fst, implies_true, forall_const])

theorem State.loseHold_stores (s : State) (c : Nat) (n : Neg) (h : s.storesWf = true) :
    (s.loseHold c n).storesWf = true := by
  unfold State.loseHold
  try simp +zetaDelta (maxDischargeDepth := 40) (decide := false) only [h, State.startNeg_stores,
      State.changesLost_stores, State.dropPartials_stores, State.abandonReplay_stores, stores_ite, stores_ite_fst,
      implies_true, forall_const]
  all_goals repeat' (split <;> try simp +zetaDelta (maxDischargeDepth := 40) (decide := false) only [h,
      State.startNeg_stores, State.changesLost_stores, State.dropPartials_stores, State.abandonReplay_stores,
      stores_ite, stores_ite_fst, implies_true, forall_const])

theorem State.agree_stores (s : State) (c : Nat) (n : Neg) (resumed : Bool) (h : s.storesWf = true) :
    (s.agree c n resumed).storesWf = true := by
  unfold State.agree
  try simp +zetaDelta (maxDischargeDepth := 40) (decide := false) only [h, State.modLink_stores,
      State.upResume_stores, State.upFresh_stores, stores_ite, stores_ite_fst, implies_true, forall_const]
  all_goals repeat' (split <;> try simp +zetaDelta (maxDischargeDepth := 40) (decide := false) only [h,
      State.modLink_stores, State.upResume_stores, State.upFresh_stores, stores_ite, stores_ite_fst, implies_true,
      forall_const])

theorem State.startRenegotiation_stores (s : State) (c : Nat) (h : s.storesWf = true) :
    (s.startRenegotiation c).storesWf = true := by
  unfold State.startRenegotiation
  try simp +zetaDelta (maxDischargeDepth := 40) (decide := false) only [h, State.moveLink_stores,
      State.modLink_stores, State.sendNeg_stores, stores_ite, stores_ite_fst, implies_true, forall_const]
  all_goals repeat' (split <;> try simp +zetaDelta (maxDischargeDepth := 40) (decide := false) only [h,
      State.moveLink_stores, State.modLink_stores, State.sendNeg_stores, stores_ite, stores_ite_fst, implies_true,
      forall_const])

theorem State.negRefused_stores (s : State) (c : Nat) (n : Neg) (h : s.storesWf = true) :
    (s.negRefused c n).storesWf = true := by
  unfold State.negRefused
  try simp +zetaDelta (maxDischargeDepth := 40) (decide := false) only [h, State.sendNeg_stores,
      State.modLink_stores, State.agree_stores, State.startNeg_stores, stores_ite, stores_ite_fst, implies_true,
      forall_const]
  all_goals repeat' (split <;> try simp +zetaDelta (maxDischargeDepth := 40) (decide := false) only [h,
      State.sendNeg_stores, State.modLink_stores, State.agree_stores, State.startNeg_stores, stores_ite,
      stores_ite_fst, implies_true, forall_const])

theorem State.negFlit_stores (s : State) (c : Nat) (n : Neg) (h : s.storesWf = true) :
    (s.negFlit c n).storesWf = true := by
  unfold State.negFlit
  try simp +zetaDelta (maxDischargeDepth := 40) (decide := false) only [h, State.startRenegotiation_stores,
      State.refuseLink_stores, State.agree_stores, State.loseHold_stores, State.negRefused_stores, stores_ite,
      stores_ite_fst, implies_true, forall_const]
  all_goals repeat' (split <;> try simp +zetaDelta (maxDischargeDepth := 40) (decide := false) only [h,
      State.startRenegotiation_stores, State.refuseLink_stores, State.agree_stores, State.loseHold_stores,
      State.negRefused_stores, stores_ite, stores_ite_fst, implies_true, forall_const])

theorem State.negResend_stores (s : State) (c : Nat) (h : s.storesWf = true) :
    (s.negResend c).storesWf = true := by
  unfold State.negResend
  try simp +zetaDelta (maxDischargeDepth := 40) (decide := false) only [h, State.sendNeg_stores, stores_ite,
      stores_ite_fst, implies_true, forall_const]
  all_goals repeat' (split <;> try simp +zetaDelta (maxDischargeDepth := 40) (decide := false) only [h,
      State.sendNeg_stores, stores_ite, stores_ite_fst, implies_true, forall_const])

theorem State.negTimeout_stores (s : State) (c : Nat) (h : s.storesWf = true) :
    (s.negTimeout c).storesWf = true := by
  unfold State.negTimeout
  try simp +zetaDelta (maxDischargeDepth := 40) (decide := false) only [h, State.linkNote_stores,
      State.modLink_stores, stores_ite, stores_ite_fst, implies_true, forall_const]
  all_goals repeat' (split <;> try simp +zetaDelta (maxDischargeDepth := 40) (decide := false) only [h,
      State.linkNote_stores, State.modLink_stores, stores_ite, stores_ite_fst, implies_true, forall_const])

theorem State.renegotiate_stores (s : State) (h : CatHdr) (c : Nat) (sub : Nat) (v : Nat) (hs : s.storesWf = true) :
    (s.renegotiate h c sub v).1.storesWf = true := by
  unfold State.renegotiate
  try simp +zetaDelta (maxDischargeDepth := 40) (decide := false) only [hs, State.setCfg_stores,
      State.modLink_stores, State.startRenegotiation_stores, State.startNeg_stores, stores_ite, stores_ite_fst,
      implies_true, forall_const]
  all_goals repeat' (split <;> try simp +zetaDelta (maxDischargeDepth := 40) (decide := false) only [hs,
      State.setCfg_stores, State.modLink_stores, State.startRenegotiation_stores, State.startNeg_stores,
      stores_ite, stores_ite_fst, implies_true, forall_const])

theorem State.recheckLink_stores (s : State) (c : Nat) (h : s.storesWf = true) :
    (s.recheckLink c).storesWf = true := by
  unfold State.recheckLink
  try simp +zetaDelta (maxDischargeDepth := 40) (decide := false) only [h, State.startNeg_stores, stores_ite,
      stores_ite_fst, implies_true, forall_const]
  all_goals repeat' (split <;> try simp +zetaDelta (maxDischargeDepth := 40) (decide := false) only [h,
      State.startNeg_stores, stores_ite, stores_ite_fst, implies_true, forall_const])

theorem State.phyRise_stores (s : State) (c : Nat) (lanes : BitVec 3) (h : s.storesWf = true) :
    (s.phyRise c lanes).storesWf = true := by
  unfold State.phyRise
  try simp +zetaDelta (maxDischargeDepth := 40) (decide := false) only [h, State.setLink_stores,
      State.sendNeg_stores, State.startNeg_stores, stores_ite, stores_ite_fst, implies_true, forall_const]
  all_goals repeat' (split <;> try simp +zetaDelta (maxDischargeDepth := 40) (decide := false) only [h,
      State.setLink_stores, State.sendNeg_stores, State.startNeg_stores, stores_ite, stores_ite_fst, implies_true,
      forall_const])

theorem State.phyFall_stores (s : State) (c : Nat) (h : s.storesWf = true) :
    (s.phyFall c).storesWf = true := by
  unfold State.phyFall
  try simp +zetaDelta (maxDischargeDepth := 40) (decide := false) only [h, State.setLink_stores,
      State.enterHold_stores, State.linkSettled_stores, State.moveLink_stores, stores_ite, stores_ite_fst,
      implies_true, forall_const]
  all_goals repeat' (split <;> try simp +zetaDelta (maxDischargeDepth := 40) (decide := false) only [h,
      State.setLink_stores, State.enterHold_stores, State.linkSettled_stores, State.moveLink_stores, stores_ite,
      stores_ite_fst, implies_true, forall_const])

theorem State.retryLimit_stores (s : State) (c : Nat) (h : s.storesWf = true) :
    (s.retryLimit c).storesWf = true := by
  unfold State.retryLimit
  try simp +zetaDelta (maxDischargeDepth := 40) (decide := false) only [h, State.enterHold_stores,
      State.modLink_stores, stores_ite, stores_ite_fst, implies_true, forall_const]
  all_goals repeat' (split <;> try simp +zetaDelta (maxDischargeDepth := 40) (decide := false) only [h,
      State.enterHold_stores, State.modLink_stores, stores_ite, stores_ite_fst, implies_true, forall_const])

theorem State.ackCtrl_stores (s : State) (c : Nat) (h : s.storesWf = true) :
    (s.ackCtrl c).storesWf = true := by
  unfold State.ackCtrl
  try simp +zetaDelta (maxDischargeDepth := 40) (decide := false) only [h, State.sendCtrl_stores, stores_ite,
      stores_ite_fst, implies_true, forall_const]
  all_goals repeat' (split <;> try simp +zetaDelta (maxDischargeDepth := 40) (decide := false) only [h,
      State.sendCtrl_stores, stores_ite, stores_ite_fst, implies_true, forall_const])

theorem State.timeExchange_stores (s : State) (h : s.storesWf = true) :
    (s.timeExchange).storesWf = true := by
  unfold State.timeExchange
  try simp +zetaDelta (maxDischargeDepth := 40) (decide := false) only [h, stores_sync, State.sendControl_stores,
      stores_ite, stores_ite_fst, implies_true, forall_const]
  all_goals repeat' (split <;> try simp +zetaDelta (maxDischargeDepth := 40) (decide := false) only [h,
      stores_sync, State.sendControl_stores, stores_ite, stores_ite_fst, implies_true, forall_const])

theorem State.answerTime_stores (s : State) (c : Nat) (payload : BitVec 192) (h : s.storesWf = true) :
    (s.answerTime c payload).storesWf = true := by
  unfold State.answerTime
  try simp +zetaDelta (maxDischargeDepth := 40) (decide := false) only [h, State.sendControl_stores, stores_ite,
      stores_ite_fst, implies_true, forall_const]
  all_goals repeat' (split <;> try simp +zetaDelta (maxDischargeDepth := 40) (decide := false) only [h,
      State.sendControl_stores, stores_ite, stores_ite_fst, implies_true, forall_const])

theorem State.stepTime_stores (s : State) (d : Int) (h : s.storesWf = true) :
    (s.stepTime d).storesWf = true := by
  unfold State.stepTime
  have a := stores_ports _ _ h (Sparse.wf_remap (f := Port.shifted d) (ports_wf h))
  have b := stores_slots _ _ a (Sparse.wf_remap (f := Slot.shifted d) (slots_wf h))
  have c := stores_links _ _ b (Sparse.wf_remapKey (f := Link.shifted d s.hub) (links_wf h))
  exact c

theorem State.useExchange_stores (s : State) (c : Nat) (t1 : BitVec 64) (t2 : BitVec 64) (t3 : BitVec 64) (t4 :
    BitVec 64) (a : BitVec 64) (h : s.storesWf = true) :
    (s.useExchange c t1 t2 t3 t4 a).storesWf = true := by
  unfold State.useExchange
  try simp +zetaDelta (maxDischargeDepth := 40) (decide := false) only [h, stores_sync, State.setCfg_stores,
      State.bump_stores, State.stepTime_stores, State.linkNote_stores, stores_ite, stores_ite_fst, implies_true,
      forall_const]
  all_goals repeat' (split <;> try simp +zetaDelta (maxDischargeDepth := 40) (decide := false) only [h,
      stores_sync, State.setCfg_stores, State.bump_stores, State.stepTime_stores, State.linkNote_stores,
      stores_ite, stores_ite_fst, implies_true, forall_const])

theorem State.timeAnswer_stores (s : State) (c : Nat) (payload : BitVec 192) (h : s.storesWf = true) :
    (s.timeAnswer c payload).storesWf = true := by
  unfold State.timeAnswer
  try simp +zetaDelta (maxDischargeDepth := 40) (decide := false) only [h, State.useExchange_stores, stores_ite,
      stores_ite_fst, implies_true, forall_const]
  all_goals repeat' (split <;> try simp +zetaDelta (maxDischargeDepth := 40) (decide := false) only [h,
      State.useExchange_stores, stores_ite, stores_ite_fst, implies_true, forall_const])

theorem State.holdoverLimit_stores (s : State) (h : s.storesWf = true) :
    (s.holdoverLimit).storesWf = true := by
  unfold State.holdoverLimit
  try simp +zetaDelta (maxDischargeDepth := 40) (decide := false) only [h, stores_sync, State.linkNote_stores,
      stores_ite, stores_ite_fst, implies_true, forall_const]
  all_goals repeat' (split <;> try simp +zetaDelta (maxDischargeDepth := 40) (decide := false) only [h,
      stores_sync, State.linkNote_stores, stores_ite, stores_ite_fst, implies_true, forall_const])

theorem State.writeTimeSet_stores (s : State) (t : Time) (h : s.storesWf = true) :
    (s.writeTimeSet t).1.storesWf = true := by
  exact stores_of_wipe (State.writeTimeSet_wipe s t 0x7dfa7c1cf2fff (by decide)) h

theorem State.ctrlFlit_stores (s : State) (c : Nat) (payload : BitVec 192) (h : s.storesWf = true) :
    (s.ctrlFlit c payload).storesWf = true := by
  unfold State.ctrlFlit
  try simp +zetaDelta (maxDischargeDepth := 40) (decide := false) only [h, State.modLink_stores,
      State.replayFrom_stores, stores_ite, stores_ite_fst, implies_true, forall_const]
  all_goals repeat' (split <;> try simp +zetaDelta (maxDischargeDepth := 40) (decide := false) only [h,
      State.modLink_stores, State.replayFrom_stores, stores_ite, stores_ite_fst, implies_true, forall_const])

theorem State.timeFlit_stores (s : State) (c : Nat) (payload : BitVec 192) (h : s.storesWf = true) :
    (s.timeFlit c payload).storesWf = true := by
  unfold State.timeFlit
  try simp +zetaDelta (maxDischargeDepth := 40) (decide := false) only [h, State.answerTime_stores,
      State.timeAnswer_stores, stores_ite, stores_ite_fst, implies_true, forall_const]
  all_goals repeat' (split <;> try simp +zetaDelta (maxDischargeDepth := 40) (decide := false) only [h,
      State.answerTime_stores, State.timeAnswer_stores, stores_ite, stores_ite_fst, implies_true, forall_const])

theorem State.takeAck_stores (s : State) (c : Nat) (f : Flit) (h : s.storesWf = true) :
    (s.takeAck c f).storesWf = true := by
  unfold State.takeAck
  try simp +zetaDelta (maxDischargeDepth := 40) (decide := false) only [h, State.modLink_stores, stores_ite,
      stores_ite_fst, implies_true, forall_const]
  all_goals repeat' (split <;> try simp +zetaDelta (maxDischargeDepth := 40) (decide := false) only [h,
      State.modLink_stores, stores_ite, stores_ite_fst, implies_true, forall_const])

theorem State.drainedNeg_stores (s : State) (c : Nat) (before : Link) (h : s.storesWf = true) :
    (s.drainedNeg c before).storesWf = true := by
  unfold State.drainedNeg
  try simp +zetaDelta (maxDischargeDepth := 40) (decide := false) only [h, State.sendNeg_stores, stores_ite,
      stores_ite_fst, implies_true, forall_const]
  all_goals repeat' (split <;> try simp +zetaDelta (maxDischargeDepth := 40) (decide := false) only [h,
      State.sendNeg_stores, stores_ite, stores_ite_fst, implies_true, forall_const])

theorem State.goodFlit_stores (s : State) (c : Nat) (f : Flit) (h : s.storesWf = true) :
    (s.goodFlit c f).storesWf = true := by
  unfold State.goodFlit
  try simp +zetaDelta (maxDischargeDepth := 40) (decide := false) only [h, State.negFlit_stores,
      State.takeAck_stores, State.ctrlFlit_stores, State.timeFlit_stores, State.dataFlit_stores,
      State.pump_stores, State.drainedNeg_stores, stores_ite, stores_ite_fst, implies_true, forall_const]
  all_goals repeat' (split <;> try simp +zetaDelta (maxDischargeDepth := 40) (decide := false) only [h,
      State.negFlit_stores, State.takeAck_stores, State.ctrlFlit_stores, State.timeFlit_stores,
      State.dataFlit_stores, State.pump_stores, State.drainedNeg_stores, stores_ite, stores_ite_fst, implies_true,
      forall_const])

theorem State.receiveFlit_stores (s : State) (c : Nat) (flit : BitVec 256) (bad : Bool) (h : s.storesWf = true) :
    (s.receiveFlit c flit bad).storesWf = true := by
  unfold State.receiveFlit
  try simp +zetaDelta (maxDischargeDepth := 40) (decide := false) only [h, State.count_stores,
      State.linkBump_stores, State.nak_stores, State.goodFlit_stores, stores_ite, stores_ite_fst, implies_true,
      forall_const]
  all_goals repeat' (split <;> try simp +zetaDelta (maxDischargeDepth := 40) (decide := false) only [h,
      State.count_stores, State.linkBump_stores, State.nak_stores, State.goodFlit_stores, stores_ite,
      stores_ite_fst, implies_true, forall_const])

end Sys2Proof.Machine
end

