-- ==== Sys2Proof/Laws/StoresObserve.lean ====
section
/-! SUPPORT. The operations of Observe.lean keep the sparse stores in their canonical form. -/

set_option linter.all false

namespace Sys2Proof.Machine

theorem State.armShelf_stores (s : State) (p : Nat) (a : Arming) (h : s.storesWf = true) :
    (s.armShelf p a).storesWf = true := by
  unfold State.armShelf
  try simp +zetaDelta (maxDischargeDepth := 40) (decide := false) only [h, State.setShelf_stores,
      State.failShelf_stores, stores_ite, stores_ite_fst, implies_true, forall_const]
  all_goals repeat' (split <;> try simp +zetaDelta (maxDischargeDepth := 40) (decide := false) only [h,
      State.setShelf_stores, State.failShelf_stores, stores_ite, stores_ite_fst, implies_true, forall_const])

theorem State.cancelShelf_stores (s : State) (p : Nat) (k : Nat) (h : s.storesWf = true) :
    (s.cancelShelf p k).storesWf = true := by
  unfold State.cancelShelf
  try simp +zetaDelta (maxDischargeDepth := 40) (decide := false) only [h, State.failShelf_stores, stores_ite,
      stores_ite_fst, implies_true, forall_const]
  all_goals repeat' (split <;> try simp +zetaDelta (maxDischargeDepth := 40) (decide := false) only [h,
      State.failShelf_stores, stores_ite, stores_ite_fst, implies_true, forall_const])

theorem State.sendShelf_stores (s : State) (p : Nat) (k : ShelfKind) (b : ShelfBody) (x4 : List HubId) (h :
    s.storesWf = true) :
    (s.sendShelf p k b x4).storesWf = true := by
  fun_induction State.sendShelf s p k b x4
  all_goals try simp +zetaDelta (maxDischargeDepth := 40) only [*, State.send_stores, stores_ite, stores_ite_fst,
      implies_true, forall_const]
  all_goals repeat' (split <;> try simp +zetaDelta (maxDischargeDepth := 40) only [*, State.send_stores,
      stores_ite, stores_ite_fst, implies_true, forall_const])

theorem State.armPeers_stores (s : State) (p : Nat) (a : Arming) (h : s.storesWf = true) :
    (s.armPeers p a).storesWf = true := by
  unfold State.armPeers
  try simp +zetaDelta (maxDischargeDepth := 40) (decide := false) only [h, State.modPart_stores,
      State.sendShelf_stores, stores_ite, stores_ite_fst, implies_true, forall_const]
  all_goals repeat' (split <;> try simp +zetaDelta (maxDischargeDepth := 40) (decide := false) only [h,
      State.modPart_stores, State.sendShelf_stores, stores_ite, stores_ite_fst, implies_true, forall_const])

theorem State.writeShelfArm_stores (s : State) (p : Nat) (v : BitVec 8) (h : s.storesWf = true) :
    (s.writeShelfArm p v).storesWf = true := by
  unfold State.writeShelfArm
  try simp +zetaDelta (maxDischargeDepth := 40) (decide := false) only [h, State.armShelf_stores,
      State.armPeers_stores, stores_ite, stores_ite_fst, implies_true, forall_const]
  all_goals repeat' (split <;> try simp +zetaDelta (maxDischargeDepth := 40) (decide := false) only [h,
      State.armShelf_stores, State.armPeers_stores, stores_ite, stores_ite_fst, implies_true, forall_const])

theorem State.writeShelfCancel_stores (s : State) (p : Nat) (v : BitVec 8) (h : s.storesWf = true) :
    (s.writeShelfCancel p v).storesWf = true := by
  unfold State.writeShelfCancel
  try simp +zetaDelta (maxDischargeDepth := 40) (decide := false) only [h, State.sendShelf_stores,
      State.cancelShelf_stores, stores_ite, stores_ite_fst, implies_true, forall_const]
  all_goals repeat' (split <;> try simp +zetaDelta (maxDischargeDepth := 40) (decide := false) only [h,
      State.sendShelf_stores, State.cancelShelf_stores, stores_ite, stores_ite_fst, implies_true, forall_const])

theorem State.shelfArmMsg_stores (s : State) (src : HubId) (p : Nat) (b : ShelfBody) (h : s.storesWf = true) :
    (s.shelfArmMsg src p b).storesWf = true := by
  unfold State.shelfArmMsg
  try simp +zetaDelta (maxDischargeDepth := 40) (decide := false) only [h, State.armShelf_stores, stores_ite,
      stores_ite_fst, implies_true, forall_const]
  all_goals repeat' (split <;> try simp +zetaDelta (maxDischargeDepth := 40) (decide := false) only [h,
      State.armShelf_stores, stores_ite, stores_ite_fst, implies_true, forall_const])

theorem State.shelfCancelMsg_stores (s : State) (p : Nat) (b : ShelfBody) (h : s.storesWf = true) :
    (s.shelfCancelMsg p b).storesWf = true := by
  unfold State.shelfCancelMsg
  try simp +zetaDelta (maxDischargeDepth := 40) (decide := false) only [h, State.cancelShelf_stores, stores_ite,
      stores_ite_fst, implies_true, forall_const]
  all_goals repeat' (split <;> try simp +zetaDelta (maxDischargeDepth := 40) (decide := false) only [h,
      State.cancelShelf_stores, stores_ite, stores_ite_fst, implies_true, forall_const])

theorem State.shelfDoneMsg_stores (s : State) (src : HubId) (p : Nat) (b : ShelfBody) (h : s.storesWf = true) :
    (s.shelfDoneMsg src p b).storesWf = true := by
  unfold State.shelfDoneMsg
  try simp +zetaDelta (maxDischargeDepth := 40) (decide := false) only [h, State.setShelf_stores, stores_ite,
      stores_ite_fst, implies_true, forall_const]
  all_goals repeat' (split <;> try simp +zetaDelta (maxDischargeDepth := 40) (decide := false) only [h,
      State.setShelf_stores, stores_ite, stores_ite_fst, implies_true, forall_const])

theorem State.shelfMissing_stores (s : State) (p : Nat) (k : Nat) (h : s.storesWf = true) :
    (s.shelfMissing p k).storesWf = true := by
  unfold State.shelfMissing
  try simp +zetaDelta (maxDischargeDepth := 40) (decide := false) only [h, State.setShelf_stores, stores_ite,
      stores_ite_fst, implies_true, forall_const]
  all_goals repeat' (split <;> try simp +zetaDelta (maxDischargeDepth := 40) (decide := false) only [h,
      State.setShelf_stores, stores_ite, stores_ite_fst, implies_true, forall_const])

theorem State.shelfTime_stores (s : State) (p : Nat) (k : Nat) (h : s.storesWf = true) :
    (s.shelfTime p k).storesWf = true := by
  unfold State.shelfTime
  try simp +zetaDelta (maxDischargeDepth := 40) (decide := false) only [h, State.latchShelf_stores, stores_ite,
      stores_ite_fst, implies_true, forall_const]
  all_goals repeat' (split <;> try simp +zetaDelta (maxDischargeDepth := 40) (decide := false) only [h,
      State.latchShelf_stores, stores_ite, stores_ite_fst, implies_true, forall_const])

theorem State.armFolio_stores (s : State) (h : s.storesWf = true) :
    (s.armFolio).1.storesWf = true := by
  exact stores_of_wipe (State.armFolio_wipe s 0x7dfa7c1cf2fff (by decide)) h

theorem State.markScope_stores (s : State) (cause : Nat) (data : BitVec 64) (h : s.storesWf = true) :
    (s.markScope cause data).storesWf = true := by
  unfold State.markScope
  try simp +zetaDelta (maxDischargeDepth := 40) (decide := false) only [h, State.folioMark_stores, stores_ite,
      stores_ite_fst, implies_true, forall_const]
  all_goals repeat' (split <;> try simp +zetaDelta (maxDischargeDepth := 40) (decide := false) only [h,
      State.folioMark_stores, stores_ite, stores_ite_fst, implies_true, forall_const])

theorem State.triggerFolio_stores (s : State) (h : s.storesWf = true) :
    (s.triggerFolio).storesWf = true := by
  unfold State.triggerFolio
  try simp +zetaDelta (maxDischargeDepth := 40) (decide := false) only [h, State.markScope_stores, stores_ite,
      stores_ite_fst, implies_true, forall_const]
  all_goals repeat' (split <;> try simp +zetaDelta (maxDischargeDepth := 40) (decide := false) only [h,
      State.markScope_stores, stores_ite, stores_ite_fst, implies_true, forall_const])

theorem State.stopFolio_stores (s : State) (h : s.storesWf = true) :
    (s.stopFolio).storesWf = true := by
  unfold State.stopFolio
  try simp +zetaDelta (maxDischargeDepth := 40) (decide := false) only [h, State.folioStop_stores, stores_ite,
      stores_ite_fst, implies_true, forall_const]
  all_goals repeat' (split <;> try simp +zetaDelta (maxDischargeDepth := 40) (decide := false) only [h,
      State.folioStop_stores, stores_ite, stores_ite_fst, implies_true, forall_const])

theorem State.clearFolio_stores (s : State) (h : s.storesWf = true) :
    (s.clearFolio).storesWf = true := by
  exact stores_of_wipe (State.clearFolio_wipe s 0x7dfa7c1cf2fff (by decide)) h

theorem State.markFolio_stores (s : State) (v : BitVec 64) (h : s.storesWf = true) :
    (s.markFolio v).storesWf = true := by
  unfold State.markFolio
  try simp +zetaDelta (maxDischargeDepth := 40) (decide := false) only [h, State.record_stores, stores_ite,
      stores_ite_fst, implies_true, forall_const]
  all_goals repeat' (split <;> try simp +zetaDelta (maxDischargeDepth := 40) (decide := false) only [h,
      State.record_stores, stores_ite, stores_ite_fst, implies_true, forall_const])

theorem State.folioTime_stores (s : State) (h : s.storesWf = true) :
    (s.folioTime).storesWf = true := by
  unfold State.folioTime
  try simp +zetaDelta (maxDischargeDepth := 40) (decide := false) only [h, State.markScope_stores, stores_ite,
      stores_ite_fst, implies_true, forall_const]
  all_goals repeat' (split <;> try simp +zetaDelta (maxDischargeDepth := 40) (decide := false) only [h,
      State.markScope_stores, stores_ite, stores_ite_fst, implies_true, forall_const])

theorem State.folioDumped_stores (s : State) (h : s.storesWf = true) :
    (s.folioDumped).storesWf = true := by
  unfold State.folioDumped
  try simp +zetaDelta (maxDischargeDepth := 40) (decide := false) only [h, stores_mgr, stores_folio,
      State.folioTrace_stores, stores_ite, stores_ite_fst, implies_true, forall_const, stores_mgr_folio]
  all_goals repeat' (split <;> try simp +zetaDelta (maxDischargeDepth := 40) (decide := false) only [h,
      stores_mgr, stores_folio, State.folioTrace_stores, stores_ite, stores_ite_fst, implies_true, forall_const,
      stores_mgr_folio])

theorem State.writeDepositFlags_stores (s : State) (p : Nat) (v : BitVec 8) (h : s.storesWf = true) :
    (s.writeDepositFlags p v).1.storesWf = true := by
  unfold State.writeDepositFlags
  try simp +zetaDelta (maxDischargeDepth := 40) (decide := false) only [h, State.modPart_stores, stores_ite,
      stores_ite_fst, implies_true, forall_const]
  all_goals repeat' (split <;> try simp +zetaDelta (maxDischargeDepth := 40) (decide := false) only [h,
      State.modPart_stores, stores_ite, stores_ite_fst, implies_true, forall_const])

theorem State.ackDeposit_stores (s : State) (p : Nat) (k : Nat) (h : s.storesWf = true) :
    (s.ackDeposit p k).1.storesWf = true := by
  unfold State.ackDeposit
  try simp +zetaDelta (maxDischargeDepth := 40) (decide := false) only [h, State.endHold_stores,
      State.recordDeposit_stores, stores_ite, stores_ite_fst, implies_true, forall_const]
  all_goals repeat' (split <;> try simp +zetaDelta (maxDischargeDepth := 40) (decide := false) only [h,
      State.endHold_stores, State.recordDeposit_stores, stores_ite, stores_ite_fst, implies_true, forall_const])

theorem State.depositLimit_stores (s : State) (p : Nat) (k : Nat) (h : s.storesWf = true) :
    (s.depositLimit p k).storesWf = true := by
  unfold State.depositLimit
  try simp +zetaDelta (maxDischargeDepth := 40) (decide := false) only [h, State.modPart_stores,
      State.count32_stores, State.endHold_stores, State.recordDeposit_stores, stores_ite, stores_ite_fst,
      implies_true, forall_const]
  all_goals repeat' (split <;> try simp +zetaDelta (maxDischargeDepth := 40) (decide := false) only [h,
      State.modPart_stores, State.count32_stores, State.endHold_stores, State.recordDeposit_stores, stores_ite,
      stores_ite_fst, implies_true, forall_const])

theorem State.holdMsgReq_stores (s : State) (p : Nat) (resume : Bool) (b : HoldBody) (h : s.storesWf = true) :
    (s.holdMsgReq p resume b).storesWf = true := by
  unfold State.holdMsgReq
  try simp +zetaDelta (maxDischargeDepth := 40) (decide := false) only [h, State.send_stores,
      State.resumeHere_stores, State.holdHere_stores, stores_ite, stores_ite_fst, implies_true, forall_const]
  all_goals repeat' (split <;> try simp +zetaDelta (maxDischargeDepth := 40) (decide := false) only [h,
      State.send_stores, State.resumeHere_stores, State.holdHere_stores, stores_ite, stores_ite_fst, implies_true,
      forall_const])

theorem State.holdMsgAck_stores (s : State) (src : HubId) (p : Nat) (resume : Bool) (b : HoldBody) (h : s.storesWf =
    true) :
    (s.holdMsgAck src p resume b).storesWf = true := by
  unfold State.holdMsgAck
  try simp +zetaDelta (maxDischargeDepth := 40) (decide := false) only [h, State.modPart_stores,
      State.holdDone_stores, stores_ite, stores_ite_fst, implies_true, forall_const]
  all_goals repeat' (split <;> try simp +zetaDelta (maxDischargeDepth := 40) (decide := false) only [h,
      State.modPart_stores, State.holdDone_stores, stores_ite, stores_ite_fst, implies_true, forall_const])

theorem State.holdLate_stores (s : State) (p : Nat) (x2 : List HoldXchg) (h : s.storesWf = true) :
    (s.holdLate p x2).storesWf = true := by
  fun_induction State.holdLate s p x2
  all_goals try simp +zetaDelta (maxDischargeDepth := 40) only [*, State.holdDone_stores, stores_ite,
      stores_ite_fst, implies_true, forall_const]
  all_goals repeat' (split <;> try simp +zetaDelta (maxDischargeDepth := 40) only [*, State.holdDone_stores,
      stores_ite, stores_ite_fst, implies_true, forall_const])

theorem State.sendStock_stores (s : State) (p : Nat) (k : StockKind) (b : StockBody) (x4 : List HubId) (h :
    s.storesWf = true) :
    (s.sendStock p k b x4).storesWf = true := by
  fun_induction State.sendStock s p k b x4
  all_goals try simp +zetaDelta (maxDischargeDepth := 40) only [*, State.send_stores, stores_ite, stores_ite_fst,
      implies_true, forall_const]
  all_goals repeat' (split <;> try simp +zetaDelta (maxDischargeDepth := 40) only [*, State.send_stores,
      stores_ite, stores_ite_fst, implies_true, forall_const])

theorem State.stockQuery_stores (s : State) (p : Nat) (b : StockBody) (h : s.storesWf = true) :
    (s.stockQuery p b).storesWf = true := by
  unfold State.stockQuery
  try simp +zetaDelta (maxDischargeDepth := 40) (decide := false) only [h, State.sendStock_stores, stores_ite,
      stores_ite_fst, implies_true, forall_const]
  all_goals repeat' (split <;> try simp +zetaDelta (maxDischargeDepth := 40) (decide := false) only [h,
      State.sendStock_stores, stores_ite, stores_ite_fst, implies_true, forall_const])

theorem State.stockReported_stores (s : State) (src : HubId) (p : Nat) (b : StockBody) (h : s.storesWf = true) :
    (s.stockReported src p b).storesWf = true := by
  unfold State.stockReported
  try simp +zetaDelta (maxDischargeDepth := 40) (decide := false) only [h, State.modPart_stores, stores_ite,
      stores_ite_fst, implies_true, forall_const]
  all_goals repeat' (split <;> try simp +zetaDelta (maxDischargeDepth := 40) (decide := false) only [h,
      State.modPart_stores, stores_ite, stores_ite_fst, implies_true, forall_const])

theorem State.deadlockInventory_stores (s : State) (p : Nat) (round : BitVec 32) (h : s.storesWf = true) :
    (s.deadlockInventory p round).storesWf = true := by
  unfold State.deadlockInventory
  try simp +zetaDelta (maxDischargeDepth := 40) (decide := false) only [h, State.takeInventory_stores, stores_ite,
      stores_ite_fst, implies_true, forall_const]
  all_goals repeat' (split <;> try simp +zetaDelta (maxDischargeDepth := 40) (decide := false) only [h,
      State.takeInventory_stores, stores_ite, stores_ite_fst, implies_true, forall_const])

theorem State.declareDeadlock_stores (s : State) (p : Nat) (wait : Nat) (h : s.storesWf = true) :
    (s.declareDeadlock p wait).storesWf = true := by
  unfold State.declareDeadlock
  try simp +zetaDelta (maxDischargeDepth := 40) (decide := false) only [h, State.sendStock_stores,
      State.fresh_stores, State.notifyRing_stores, State.record_stores, State.folioMark_stores,
      State.deadlockInventory_stores, State.modPart_stores, stores_ite, stores_ite_fst, implies_true,
      forall_const]
  all_goals repeat' (split <;> try simp +zetaDelta (maxDischargeDepth := 40) (decide := false) only [h,
      State.sendStock_stores, State.fresh_stores, State.notifyRing_stores, State.record_stores,
      State.folioMark_stores, State.deadlockInventory_stores, State.modPart_stores, stores_ite, stores_ite_fst,
      implies_true, forall_const])

theorem State.evalRound_stores (s : State) (p : Nat) (h : s.storesWf = true) :
    (s.evalRound p).storesWf = true := by
  unfold State.evalRound
  try simp +zetaDelta (maxDischargeDepth := 40) (decide := false) only [h, State.bump_stores,
      State.modPart_stores, State.declareDeadlock_stores, stores_ite, stores_ite_fst, implies_true, forall_const]
  all_goals repeat' (split <;> try simp +zetaDelta (maxDischargeDepth := 40) (decide := false) only [h,
      State.bump_stores, State.modPart_stores, State.declareDeadlock_stores, stores_ite, stores_ite_fst,
      implies_true, forall_const])

theorem State.startRound_stores (s : State) (p : Nat) (h : s.storesWf = true) :
    (s.startRound p).storesWf = true := by
  unfold State.startRound
  try simp +zetaDelta (maxDischargeDepth := 40) (decide := false) only [h, State.modPart_stores,
      State.sendStock_stores, stores_ite, stores_ite_fst, implies_true, forall_const]
  all_goals repeat' (split <;> try simp +zetaDelta (maxDischargeDepth := 40) (decide := false) only [h,
      State.modPart_stores, State.sendStock_stores, stores_ite, stores_ite_fst, implies_true, forall_const])

theorem State.stockRound_stores (s : State) (p : Nat) (h : s.storesWf = true) :
    (s.stockRound p).storesWf = true := by
  unfold State.stockRound
  try simp +zetaDelta (maxDischargeDepth := 40) (decide := false) only [h, State.evalRound_stores,
      State.startRound_stores, stores_ite, stores_ite_fst, implies_true, forall_const]
  all_goals repeat' (split <;> try simp +zetaDelta (maxDischargeDepth := 40) (decide := false) only [h,
      State.evalRound_stores, State.startRound_stores, stores_ite, stores_ite_fst, implies_true, forall_const])

theorem State.stockDeclared_stores (s : State) (p : Nat) (b : StockBody) (h : s.storesWf = true) :
    (s.stockDeclared p b).storesWf = true := by
  unfold State.stockDeclared
  try simp +zetaDelta (maxDischargeDepth := 40) (decide := false) only [h, State.deadlockInventory_stores,
      stores_ite, stores_ite_fst, implies_true, forall_const]
  all_goals repeat' (split <;> try simp +zetaDelta (maxDischargeDepth := 40) (decide := false) only [h,
      State.deadlockInventory_stores, stores_ite, stores_ite_fst, implies_true, forall_const])

theorem State.enableStock_stores (s : State) (p : Nat) (v : Nat) (h : s.storesWf = true) :
    (s.enableStock p v).storesWf = true := by
  unfold State.enableStock
  try simp +zetaDelta (maxDischargeDepth := 40) (decide := false) only [h, State.modPart_stores,
      State.setCfg_stores, stores_ite, stores_ite_fst, implies_true, forall_const]
  all_goals repeat' (split <;> try simp +zetaDelta (maxDischargeDepth := 40) (decide := false) only [h,
      State.modPart_stores, State.setCfg_stores, stores_ite, stores_ite_fst, implies_true, forall_const])

end Sys2Proof.Machine
end

