-- ==== Sys2Proof/Laws/StoresFaults.lean ====
section
/-! SUPPORT. The operations of Faults.lean keep the sparse stores in their canonical form. -/

set_option linter.all false

namespace Sys2Proof.Machine

theorem State.passEnd_stores (s : State) (h : s.storesWf = true) :
    (s.passEnd).storesWf = true := by
  unfold State.passEnd
  try simp +zetaDelta (maxDischargeDepth := 40) (decide := false) only [h, stores_scrubStart, State.setCfg_stores,
      State.bump_stores, stores_ite, stores_ite_fst, implies_true, forall_const]
  all_goals repeat' (split <;> try simp +zetaDelta (maxDischargeDepth := 40) (decide := false) only [h,
      stores_scrubStart, State.setCfg_stores, State.bump_stores, stores_ite, stores_ite_fst, implies_true,
      forall_const])

theorem State.scrub_stores (s : State) (w : StoreWord) (h : s.storesWf = true) :
    (s.scrub w).storesWf = true := by
  unfold State.scrub
  try simp +zetaDelta (maxDischargeDepth := 40) (decide := false) only [h, State.access_stores,
      State.passEnd_stores, stores_ite, stores_ite_fst, implies_true, forall_const]
  all_goals repeat' (split <;> try simp +zetaDelta (maxDischargeDepth := 40) (decide := false) only [h,
      State.access_stores, State.passEnd_stores, stores_ite, stores_ite_fst, implies_true, forall_const])

theorem State.rewriteAll_stores (s : State) (x1 : List CapturedItem) (h : s.storesWf = true) :
    (s.rewriteAll x1).storesWf = true := by
  fun_induction State.rewriteAll s x1
  · exact h
  · rename_i ih
    refine ih ?_
    repeat' split
    all_goals simp +zetaDelta (maxDischargeDepth := 40) (decide := false) only [h, State.rewriteFaulted_stores,
        stores_ite, stores_ite_fst, implies_true, forall_const]

theorem State.loseNotes_stores (s : State) (x1 : List CapturedItem) (h : s.storesWf = true) :
    (s.loseNotes x1).storesWf = true := by
  fun_induction State.loseNotes s x1
  all_goals try simp +zetaDelta (maxDischargeDepth := 40) only [*, State.bump_stores, stores_ite, stores_ite_fst,
      implies_true, forall_const]
  all_goals repeat' (split <;> try simp +zetaDelta (maxDischargeDepth := 40) only [*, State.bump_stores,
      stores_ite, stores_ite_fst, implies_true, forall_const])

theorem State.loseEvents_stores (s : State) (x1 : List CapturedItem) (h : s.storesWf = true) :
    (s.loseEvents x1).storesWf = true := by
  fun_induction State.loseEvents s x1
  · exact h
  · rename_i ih
    refine ih ?_
    repeat' split
    all_goals simp +zetaDelta (maxDischargeDepth := 40) (decide := false) only [h, State.bump_stores, stores_ite,
        stores_ite_fst, implies_true, forall_const]

theorem State.loseRequest_stores (s : State) (h : s.storesWf = true) :
    (s.loseRequest).storesWf = true := by
  unfold State.loseRequest
  try simp +zetaDelta (maxDischargeDepth := 40) (decide := false) only [h, State.catFinish_stores,
      State.bump_stores, stores_ite, stores_ite_fst, implies_true, forall_const]
  all_goals repeat' (split <;> try simp +zetaDelta (maxDischargeDepth := 40) (decide := false) only [h,
      State.catFinish_stores, State.bump_stores, stores_ite, stores_ite_fst, implies_true, forall_const])

theorem State.discardItems_stores (s : State) (stage : Nat) (items : List CapturedItem) (h : s.storesWf = true) :
    (s.discardItems stage items).storesWf = true := by
  unfold State.discardItems
  try simp +zetaDelta (maxDischargeDepth := 40) (decide := false) only [h, State.loseNotes_stores,
      State.loseEvents_stores, State.loseRequest_stores, State.rewriteAll_stores, stores_ite, stores_ite_fst,
      implies_true, forall_const]
  all_goals repeat' (split <;> try simp +zetaDelta (maxDischargeDepth := 40) (decide := false) only [h,
      State.loseNotes_stores, State.loseEvents_stores, State.loseRequest_stores, State.rewriteAll_stores,
      stores_ite, stores_ite_fst, implies_true, forall_const])

theorem State.noteRestart_stores (s : State) (stage : Nat) (port : Nat) (ps : List Nat) (h : s.storesWf = true) :
    (s.noteRestart stage port ps).storesWf = true := by
  unfold State.noteRestart
  try simp +zetaDelta (maxDischargeDepth := 40) (decide := false) only [h, State.setCfg_stores, State.bump_stores,
      State.record_stores, State.jobFault_stores, stores_ite, stores_ite_fst, implies_true, forall_const]
  all_goals repeat' (split <;> try simp +zetaDelta (maxDischargeDepth := 40) (decide := false) only [h,
      State.setCfg_stores, State.bump_stores, State.record_stores, State.jobFault_stores, stores_ite,
      stores_ite_fst, implies_true, forall_const])

theorem State.relink_stores (s : State) (stage : Nat) (port : Nat) (h : s.storesWf = true) :
    (s.relink stage port).storesWf = true := by
  unfold State.relink
  try simp +zetaDelta (maxDischargeDepth := 40) (decide := false) only [h, State.replayFrom_stores,
      State.sendCtrl_stores, stores_ite, stores_ite_fst, implies_true, forall_const]
  all_goals repeat' (split <;> try simp +zetaDelta (maxDischargeDepth := 40) (decide := false) only [h,
      State.replayFrom_stores, State.sendCtrl_stores, stores_ite, stores_ite_fst, implies_true, forall_const])

theorem State.linkOutDown_stores (s : State) (c : Nat) (h : s.storesWf = true) :
    (s.linkOutDown c).storesWf = true := by
  unfold State.linkOutDown
  try simp +zetaDelta (maxDischargeDepth := 40) (decide := false) only [h, State.linkSettled_stores,
      State.moveRoutes_stores, State.moveLink_stores, State.dropPartials_stores, State.abandonReplay_stores,
      stores_ite, stores_ite_fst, implies_true, forall_const]
  all_goals repeat' (split <;> try simp +zetaDelta (maxDischargeDepth := 40) (decide := false) only [h,
      State.linkSettled_stores, State.moveRoutes_stores, State.moveLink_stores, State.dropPartials_stores,
      State.abandonReplay_stores, stores_ite, stores_ite_fst, implies_true, forall_const])

theorem State.stageFails3_stores (s : State) (stage : Nat) (port : Nat) (h : s.storesWf = true) :
    (s.stageFails3 stage port).storesWf = true := by
  unfold State.stageFails3
  try simp +zetaDelta (maxDischargeDepth := 40) (decide := false) only [h, stores_stageOut, State.jobFault_stores,
      State.linkOutDown_stores, stores_ite, stores_ite_fst, implies_true, forall_const]
  all_goals repeat' (split <;> try simp +zetaDelta (maxDischargeDepth := 40) (decide := false) only [h,
      stores_stageOut, State.jobFault_stores, State.linkOutDown_stores, stores_ite, stores_ite_fst, implies_true,
      forall_const])

theorem State.setFails_stores (s : State) (stage : Nat) (port : Nat) (n : Nat) (h : s.storesWf = true) :
    (s.setFails stage port n).storesWf = true := by
  unfold State.setFails
  exact stores_stageFails _ _ h (Sparse.wf_put _ _ (stageFails_wf h))

theorem State.restartPasses_stores (s : State) (stage : Nat) (port : Nat) (h : s.storesWf = true) :
    (s.restartPasses stage port).storesWf = true := by
  unfold State.restartPasses
  try simp +zetaDelta (maxDischargeDepth := 40) (decide := false) only [h, stores_stageOut, State.setFails_stores,
      State.startNeg_stores, State.relink_stores, stores_ite, stores_ite_fst, implies_true, forall_const]
  all_goals repeat' (split <;> try simp +zetaDelta (maxDischargeDepth := 40) (decide := false) only [h,
      stores_stageOut, State.setFails_stores, State.startNeg_stores, State.relink_stores, stores_ite,
      stores_ite_fst, implies_true, forall_const])

theorem State.restartFails_stores (s : State) (stage : Nat) (port : Nat) (h : s.storesWf = true) :
    (s.restartFails stage port).storesWf = true := by
  unfold State.restartFails
  try simp +zetaDelta (maxDischargeDepth := 40) (decide := false) only [h, State.setFails_stores,
      State.stageFails3_stores, stores_ite, stores_ite_fst, implies_true, forall_const]
  all_goals repeat' (split <;> try simp +zetaDelta (maxDischargeDepth := 40) (decide := false) only [h,
      State.setFails_stores, State.stageFails3_stores, stores_ite, stores_ite_fst, implies_true, forall_const])

theorem State.restart_stores (s : State) (stage : Nat) (port : Nat) (items : List CapturedItem) (ok : Bool) (h :
    s.storesWf = true) :
    (s.restart stage port items ok).storesWf = true := by
  unfold State.restart
  try simp +zetaDelta (maxDischargeDepth := 40) (decide := false) only [h, stores_stuck,
      State.discardItems_stores, State.noteRestart_stores, State.restartPasses_stores, State.restartFails_stores,
      stores_ite, stores_ite_fst, implies_true, forall_const]
  all_goals repeat' (split <;> try simp +zetaDelta (maxDischargeDepth := 40) (decide := false) only [h,
      stores_stuck, State.discardItems_stores, State.noteRestart_stores, State.restartPasses_stores,
      State.restartFails_stores, stores_ite, stores_ite_fst, implies_true, forall_const])

theorem State.retryStage_stores (s : State) (stage : Nat) (port : Nat) (ok : Bool) (h : s.storesWf = true) :
    (s.retryStage stage port ok).storesWf = true := by
  unfold State.retryStage
  try simp +zetaDelta (maxDischargeDepth := 40) (decide := false) only [h, State.restart_stores, stores_ite,
      stores_ite_fst, implies_true, forall_const]
  all_goals repeat' (split <;> try simp +zetaDelta (maxDischargeDepth := 40) (decide := false) only [h,
      State.restart_stores, stores_ite, stores_ite_fst, implies_true, forall_const])

theorem State.clockLost_stores (s : State) (h : s.storesWf = true) :
    (s.clockLost).storesWf = true := by
  unfold State.clockLost
  try simp +zetaDelta (maxDischargeDepth := 40) (decide := false) only [h, stores_refLost, State.jobFault_stores,
      State.bump_stores, stores_ite, stores_ite_fst, implies_true, forall_const]
  all_goals repeat' (split <;> try simp +zetaDelta (maxDischargeDepth := 40) (decide := false) only [h,
      stores_refLost, State.jobFault_stores, State.bump_stores, stores_ite, stores_ite_fst, implies_true,
      forall_const])

theorem State.clockBack_stores (s : State) (h : s.storesWf = true) :
    (s.clockBack).storesWf = true := by
  exact stores_of_wipe (State.clockBack_wipe s 0x7dfa7c1cf2fff (by decide)) h

theorem State.flipWord_stores (s : State) (w : StoreWord) (k : Nat) (h : s.storesWf = true) :
    (s.flipWord w k).storesWf = true := by
  exact stores_of_wipe (State.flipWord_wipe s w k 0x7dfa7c1cf2fff (by decide)) h

theorem State.flipNear_stores (s : State) (p : Nat) (n : Nat) (k : Nat) (h : s.storesWf = true) :
    (s.flipNear p n k).storesWf = true := by
  unfold State.flipNear
  try simp +zetaDelta (maxDischargeDepth := 40) (decide := false) only [h, State.fresh_stores,
      State.modPort_stores, stores_ite, stores_ite_fst, implies_true, forall_const]
  all_goals repeat' (split <;> try simp +zetaDelta (maxDischargeDepth := 40) (decide := false) only [h,
      State.fresh_stores, State.modPort_stores, stores_ite, stores_ite_fst, implies_true, forall_const])

theorem State.injectBits_stores (s : State) (k : Nat) (h : s.storesWf = true) :
    (s.injectBits k).1.storesWf = true := by
  unfold State.injectBits
  try simp +zetaDelta (maxDischargeDepth := 40) (decide := false) only [h, State.flipNear_stores,
      State.flipWord_stores, stores_ite, stores_ite_fst, implies_true, forall_const]
  all_goals repeat' (split <;> try simp +zetaDelta (maxDischargeDepth := 40) (decide := false) only [h,
      State.flipNear_stores, State.flipWord_stores, stores_ite, stores_ite_fst, implies_true, forall_const])

theorem State.injectStage_stores (s : State) (h : s.storesWf = true) :
    (s.injectStage).1.storesWf = true := by
  exact stores_of_wipe (State.injectStage_wipe s 0x7dfa7c1cf2fff (by decide)) h

theorem State.injectFault_stores (s : State) (p : Nat) (v : Nat) (h : s.storesWf = true) :
    (s.injectFault p v).storesWf = true := by
  unfold State.injectFault
  try simp +zetaDelta (maxDischargeDepth := 40) (decide := false) only [h, State.failOne_stores, stores_ite,
      stores_ite_fst, implies_true, forall_const]
  all_goals repeat' (split <;> try simp +zetaDelta (maxDischargeDepth := 40) (decide := false) only [h,
      State.failOne_stores, stores_ite, stores_ite_fst, implies_true, forall_const])

end Sys2Proof.Machine
end

