-- ==== Sys2Proof/Laws/StoresMessages.lean ====
section
/-! SUPPORT. The operations of Messages.lean keep the sparse stores in their canonical form. -/

set_option linter.all false

namespace Sys2Proof.Machine

theorem State.w1OpMsg_stores (s : State) (link : Nat) (b : OpBody) (h : s.storesWf = true) :
    (s.w1OpMsg link b).storesWf = true := by
  unfold State.w1OpMsg
  try simp +zetaDelta (maxDischargeDepth := 40) (decide := false) only [h, State.refuse_stores,
      State.performHome_stores, stores_ite, stores_ite_fst, implies_true, forall_const]
  all_goals repeat' (split <;> try simp +zetaDelta (maxDischargeDepth := 40) (decide := false) only [h,
      State.refuse_stores, State.performHome_stores, stores_ite, stores_ite_fst, implies_true, forall_const])

theorem State.templateMsg_stores (s : State) (h : MsgHdr) (b : OpBody) (hs : s.storesWf = true) :
    (s.templateMsg h b).storesWf = true := by
  unfold State.templateMsg
  try simp +zetaDelta (maxDischargeDepth := 40) (decide := false) only [hs, State.performTemplate_stores,
      State.fresh_stores, State.send_stores, stores_ite, stores_ite_fst, implies_true, forall_const]
  all_goals repeat' (split <;> try simp +zetaDelta (maxDischargeDepth := 40) (decide := false) only [hs,
      State.performTemplate_stores, State.fresh_stores, State.send_stores, stores_ite, stores_ite_fst,
      implies_true, forall_const])

theorem State.opMessage_stores (s : State) (w1 : Option Nat) (h : MsgHdr) (b : OpBody) (hs : s.storesWf = true) :
    (s.opMessage w1 h b).storesWf = true := by
  unfold State.opMessage
  try simp +zetaDelta (maxDischargeDepth := 40) (decide := false) only [hs, State.w1OpMsg_stores,
      State.templateMsg_stores, State.performHome_stores, State.fresh_stores, stores_ite, stores_ite_fst,
      implies_true, forall_const]
  all_goals repeat' (split <;> try simp +zetaDelta (maxDischargeDepth := 40) (decide := false) only [hs,
      State.w1OpMsg_stores, State.templateMsg_stores, State.performHome_stores, State.fresh_stores, stores_ite,
      stores_ite_fst, implies_true, forall_const])

theorem State.fwdMessage_stores (s : State) (h : MsgHdr) (b : FwdBody) (hs : s.storesWf = true) :
    (s.fwdMessage h b).storesWf = true := by
  unfold State.fwdMessage
  try simp +zetaDelta (maxDischargeDepth := 40) (decide := false) only [hs, State.performForwarded_stores,
      State.fresh_stores, stores_ite, stores_ite_fst, implies_true, forall_const]
  all_goals repeat' (split <;> try simp +zetaDelta (maxDischargeDepth := 40) (decide := false) only [hs,
      State.performForwarded_stores, State.fresh_stores, stores_ite, stores_ite_fst, implies_true, forall_const])

theorem State.dropCpl_stores (s : State) (p : Nat) (h : s.storesWf = true) :
    (s.dropCpl p).storesWf = true := by
  unfold State.dropCpl
  try simp +zetaDelta (maxDischargeDepth := 40) (decide := false) only [h, State.pcount_stores, stores_ite,
      stores_ite_fst, implies_true, forall_const]
  all_goals repeat' (split <;> try simp +zetaDelta (maxDischargeDepth := 40) (decide := false) only [h,
      State.pcount_stores, stores_ite, stores_ite_fst, implies_true, forall_const])

theorem State.toReturn_stores (s : State) (t : RspTarget) (b : CplBody) (retref : BitVec 10) (h : s.storesWf = true)
    :
    (s.toReturn t b retref).storesWf = true := by
  exact stores_of_wipe (State.toReturn_wipe s t b retref 0x7dfa7c1cf2fff (by decide)) h

theorem State.childCpl_stores (s0 : State) (h : MsgHdr) (b : CplBody) (hs : s0.storesWf = true) :
    (s0.childCpl h b).storesWf = true := by
  unfold State.childCpl
  try simp +zetaDelta (maxDischargeDepth := 40) (decide := false) only [hs, State.accessObj_stores,
      State.childGrant_stores, State.dropCpl_stores, stores_ite, stores_ite_fst, implies_true, forall_const]
  all_goals repeat' (split <;> try simp +zetaDelta (maxDischargeDepth := 40) (decide := false) only [hs,
      State.accessObj_stores, State.childGrant_stores, State.dropCpl_stores, stores_ite, stores_ite_fst,
      implies_true, forall_const])

theorem State.portCpl_stores (s : State) (h : MsgHdr) (b : CplBody) (hs : s.storesWf = true) :
    (s.portCpl h b).storesWf = true := by
  unfold State.portCpl
  try simp +zetaDelta (maxDischargeDepth := 40) (decide := false) only [hs, State.modPort_stores,
      State.dropCpl_stores, State.childGrant_stores, State.toReturn_stores, stores_ite, stores_ite_fst,
      implies_true, forall_const]
  all_goals repeat' (split <;> try simp +zetaDelta (maxDischargeDepth := 40) (decide := false) only [hs,
      State.modPort_stores, State.dropCpl_stores, State.childGrant_stores, State.toReturn_stores, stores_ite,
      stores_ite_fst, implies_true, forall_const])

theorem State.templateCpl_stores (s : State) (g : Nat) (n : Nat) (b : CplBody) (h : s.storesWf = true) :
    (s.templateCpl g n b).storesWf = true := by
  unfold State.templateCpl
  try simp +zetaDelta (maxDischargeDepth := 40) (decide := false) only [h, State.wakeSlot_stores,
      State.templateAnswer_stores, State.modSlot_stores, State.dropCpl_stores, stores_ite, stores_ite_fst,
      implies_true, forall_const]
  all_goals repeat' (split <;> try simp +zetaDelta (maxDischargeDepth := 40) (decide := false) only [h,
      State.wakeSlot_stores, State.templateAnswer_stores, State.modSlot_stores, State.dropCpl_stores, stores_ite,
      stores_ite_fst, implies_true, forall_const])

theorem State.slotCpl_stores (s : State) (h : MsgHdr) (b : CplBody) (hs : s.storesWf = true) :
    (s.slotCpl h b).storesWf = true := by
  unfold State.slotCpl
  try simp +zetaDelta (maxDischargeDepth := 40) (decide := false) only [hs, State.templateCpl_stores,
      State.modSlot_stores, State.dropCpl_stores, State.toReturn_stores, stores_ite, stores_ite_fst, implies_true,
      forall_const]
  all_goals repeat' (split <;> try simp +zetaDelta (maxDischargeDepth := 40) (decide := false) only [hs,
      State.templateCpl_stores, State.modSlot_stores, State.dropCpl_stores, State.toReturn_stores, stores_ite,
      stores_ite_fst, implies_true, forall_const])

theorem State.w1Cpl_stores (s : State) (h : MsgHdr) (b : CplBody) (hs : s.storesWf = true) :
    (s.w1Cpl h b).storesWf = true := by
  unfold State.w1Cpl
  try simp +zetaDelta (maxDischargeDepth := 40) (decide := false) only [hs, State.modPort_stores,
      State.modSlot_stores, State.toReturn_stores, State.childGrant_stores, State.dropCpl_stores, stores_ite,
      stores_ite_fst, implies_true, forall_const]
  all_goals repeat' (split <;> try simp +zetaDelta (maxDischargeDepth := 40) (decide := false) only [hs,
      State.modPort_stores, State.modSlot_stores, State.toReturn_stores, State.childGrant_stores,
      State.dropCpl_stores, stores_ite, stores_ite_fst, implies_true, forall_const])

theorem State.cplMessage_stores (s : State) (w1 : Bool) (h : MsgHdr) (b : CplBody) (hs : s.storesWf = true) :
    (s.cplMessage w1 h b).storesWf = true := by
  unfold State.cplMessage
  try simp +zetaDelta (maxDischargeDepth := 40) (decide := false) only [hs, State.w1Cpl_stores,
      State.childCpl_stores, State.portCpl_stores, State.slotCpl_stores, State.dropCpl_stores, stores_ite,
      stores_ite_fst, implies_true, forall_const]
  all_goals repeat' (split <;> try simp +zetaDelta (maxDischargeDepth := 40) (decide := false) only [hs,
      State.w1Cpl_stores, State.childCpl_stores, State.portCpl_stores, State.slotCpl_stores, State.dropCpl_stores,
      stores_ite, stores_ite_fst, implies_true, forall_const])

theorem State.loanMessage_stores (s : State) (k : LoanKind) (b : LoanBody) (h : s.storesWf = true) :
    (s.loanMessage k b).storesWf = true := by
  unfold State.loanMessage
  try simp +zetaDelta (maxDischargeDepth := 40) (decide := false) only [h, State.bump_stores,
      State.loanReqMsg_stores, State.loanOpenMsg_stores, State.loanGrantMsg_stores, State.loanRecallMsg_stores,
      State.loanReturnMsg_stores, stores_ite, stores_ite_fst, implies_true, forall_const]
  all_goals repeat' (split <;> try simp +zetaDelta (maxDischargeDepth := 40) (decide := false) only [h,
      State.bump_stores, State.loanReqMsg_stores, State.loanOpenMsg_stores, State.loanGrantMsg_stores,
      State.loanRecallMsg_stores, State.loanReturnMsg_stores, stores_ite, stores_ite_fst, implies_true,
      forall_const])

theorem State.faultNotice_stores (s : State) (p : Nat) (b : PartCtlBody) (h : s.storesWf = true) :
    (s.faultNotice p b).storesWf = true := by
  unfold State.faultNotice
  try simp +zetaDelta (maxDischargeDepth := 40) (decide := false) only [h, State.countSelvedge_stores,
      State.jobFault_stores, stores_ite, stores_ite_fst, implies_true, forall_const]
  all_goals repeat' (split <;> try simp +zetaDelta (maxDischargeDepth := 40) (decide := false) only [h,
      State.countSelvedge_stores, State.jobFault_stores, stores_ite, stores_ite_fst, implies_true, forall_const])

theorem State.partMessage_stores (s : State) (h : MsgHdr) (k : PartCtlKind) (b : PartCtlBody) (hs : s.storesWf =
    true) :
    (s.partMessage h k b).storesWf = true := by
  unfold State.partMessage
  try simp +zetaDelta (maxDischargeDepth := 40) (decide := false) only [hs, State.resetRequest_stores,
      State.resetAnswer_stores, State.faultNotice_stores, stores_ite, stores_ite_fst, implies_true, forall_const]
  all_goals repeat' (split <;> try simp +zetaDelta (maxDischargeDepth := 40) (decide := false) only [hs,
      State.resetRequest_stores, State.resetAnswer_stores, State.faultNotice_stores, stores_ite, stores_ite_fst,
      implies_true, forall_const])

theorem State.holdMessage_stores (s : State) (h : MsgHdr) (k : HoldKind) (b : HoldBody) (hs : s.storesWf = true) :
    (s.holdMessage h k b).storesWf = true := by
  unfold State.holdMessage
  try simp +zetaDelta (maxDischargeDepth := 40) (decide := false) only [hs, State.holdMsgReq_stores,
      State.holdMsgAck_stores, stores_ite, stores_ite_fst, implies_true, forall_const]
  all_goals repeat' (split <;> try simp +zetaDelta (maxDischargeDepth := 40) (decide := false) only [hs,
      State.holdMsgReq_stores, State.holdMsgAck_stores, stores_ite, stores_ite_fst, implies_true, forall_const])

theorem State.stockMessage_stores (s : State) (h : MsgHdr) (k : StockKind) (b : StockBody) (hs : s.storesWf = true)
    :
    (s.stockMessage h k b).storesWf = true := by
  unfold State.stockMessage
  try simp +zetaDelta (maxDischargeDepth := 40) (decide := false) only [hs, State.stockQuery_stores,
      State.stockReported_stores, State.stockDeclared_stores, stores_ite, stores_ite_fst, implies_true,
      forall_const]
  all_goals repeat' (split <;> try simp +zetaDelta (maxDischargeDepth := 40) (decide := false) only [hs,
      State.stockQuery_stores, State.stockReported_stores, State.stockDeclared_stores, stores_ite, stores_ite_fst,
      implies_true, forall_const])

theorem State.shelfMessage_stores (s : State) (h : MsgHdr) (k : ShelfKind) (b : ShelfBody) (hs : s.storesWf = true)
    :
    (s.shelfMessage h k b).storesWf = true := by
  unfold State.shelfMessage
  try simp +zetaDelta (maxDischargeDepth := 40) (decide := false) only [hs, State.shelfArmMsg_stores,
      State.shelfDoneMsg_stores, State.shelfCancelMsg_stores, stores_ite, stores_ite_fst, implies_true,
      forall_const]
  all_goals repeat' (split <;> try simp +zetaDelta (maxDischargeDepth := 40) (decide := false) only [hs,
      State.shelfArmMsg_stores, State.shelfDoneMsg_stores, State.shelfCancelMsg_stores, stores_ite,
      stores_ite_fst, implies_true, forall_const])

theorem State.performBody_stores (s : State) (w1 : Option Nat) (m : Msg) (h : s.storesWf = true) :
    (s.performBody w1 m).storesWf = true := by
  unfold State.performBody
  try simp +zetaDelta (maxDischargeDepth := 40) (decide := false) only [h, State.opMessage_stores,
      State.cplMessage_stores, State.fwdMessage_stores, State.loanMessage_stores, State.holderResetMsg_stores,
      State.purge_stores, State.ackFence_stores, State.fenceAcked_stores, State.holdMessage_stores,
      State.stockMessage_stores, State.shelfMessage_stores, State.partMessage_stores, stores_ite, stores_ite_fst,
      implies_true, forall_const]
  all_goals repeat' (split <;> try simp +zetaDelta (maxDischargeDepth := 40) (decide := false) only [h,
      State.opMessage_stores, State.cplMessage_stores, State.fwdMessage_stores, State.loanMessage_stores,
      State.holderResetMsg_stores, State.purge_stores, State.ackFence_stores, State.fenceAcked_stores,
      State.holdMessage_stores, State.stockMessage_stores, State.shelfMessage_stores, State.partMessage_stores,
      stores_ite, stores_ite_fst, implies_true, forall_const])

theorem State.performMsg_stores (s : State) (x : InMsg) (h : s.storesWf = true) :
    (s.performMsg x).storesWf = true := by
  unfold State.performMsg
  try simp +zetaDelta (maxDischargeDepth := 40) (decide := false) only [h, State.performBody_stores,
      State.stockRecv_stores, stores_ite, stores_ite_fst, implies_true, forall_const]
  all_goals repeat' (split <;> try simp +zetaDelta (maxDischargeDepth := 40) (decide := false) only [h,
      State.performBody_stores, State.stockRecv_stores, stores_ite, stores_ite_fst, implies_true, forall_const])

theorem State.messageCommand_stores (s : State) (m : Msg) (h : s.storesWf = true) :
    (s.messageCommand m).storesWf = true := by
  unfold State.messageCommand
  try simp +zetaDelta (maxDischargeDepth := 40) (decide := false) only [h, stores_inbox, State.performMsg_stores,
      State.performBody_stores, State.stockRecv_stores, stores_ite, stores_ite_fst, implies_true, forall_const]
  all_goals repeat' (split <;> try simp +zetaDelta (maxDischargeDepth := 40) (decide := false) only [h,
      stores_inbox, State.performMsg_stores, State.performBody_stores, State.stockRecv_stores, stores_ite,
      stores_ite_fst, implies_true, forall_const])

theorem State.linkOp_stores (s : State) (c : Nat) (m : Msg) (h : s.storesWf = true) :
    (s.linkOp c m).storesWf = true := by
  unfold State.linkOp
  try simp +zetaDelta (maxDischargeDepth := 40) (decide := false) only [h, stores_inbox, State.performMsg_stores,
      stores_ite, stores_ite_fst, implies_true, forall_const]
  all_goals repeat' (split <;> try simp +zetaDelta (maxDischargeDepth := 40) (decide := false) only [h,
      stores_inbox, State.performMsg_stores, stores_ite, stores_ite_fst, implies_true, forall_const])

theorem State.reservedKind_stores (s : State) (c : Nat) (k : BitVec 6) (h : s.storesWf = true) :
    (s.reservedKind c k).storesWf = true := by
  unfold State.reservedKind
  try simp +zetaDelta (maxDischargeDepth := 40) (decide := false) only [h, State.linkBump_stores, stores_ite,
      stores_ite_fst, implies_true, forall_const]
  all_goals repeat' (split <;> try simp +zetaDelta (maxDischargeDepth := 40) (decide := false) only [h,
      State.linkBump_stores, stores_ite, stores_ite_fst, implies_true, forall_const])

end Sys2Proof.Machine
end

