-- ==== Sys2Proof/Laws/StoresCatWrite.lean ====
section
/-! SUPPORT. The operations of CatWrite.lean keep the sparse stores in their canonical form. -/

set_option linter.all false

namespace Sys2Proof.Machine

theorem State.copyNear_stores (s0 : State) (k : Nat) (v : Nat) (h : s0.storesWf = true) :
    (s0.copyNear k v).storesWf = true := by
  unfold State.copyNear
  try simp +zetaDelta (maxDischargeDepth := 40) (decide := false) only [h, State.nearCheck_stores,
      State.setView_stores, stores_ite, stores_ite_fst, implies_true, forall_const]
  all_goals repeat' (split <;> try simp +zetaDelta (maxDischargeDepth := 40) (decide := false) only [h,
      State.nearCheck_stores, State.setView_stores, stores_ite, stores_ite_fst, implies_true, forall_const])

theorem State.copyRecord_stores (s0 : State) (k : Nat) (v : Nat) (j : Nat) (h : s0.storesWf = true) :
    (s0.copyRecord k v j).storesWf = true := by
  unfold State.copyRecord
  try simp +zetaDelta (maxDischargeDepth := 40) (decide := false) only [h, State.accessObj_stores,
      State.setView_stores, stores_ite, stores_ite_fst, implies_true, forall_const]
  all_goals repeat' (split <;> try simp +zetaDelta (maxDischargeDepth := 40) (decide := false) only [h,
      State.accessObj_stores, State.setView_stores, stores_ite, stores_ite_fst, implies_true, forall_const])

theorem State.selectNear_stores (s : State) (w : Who) (k : Nat) (v : Nat) (h : s.storesWf = true) :
    (s.selectNear w k v).1.storesWf = true := by
  unfold State.selectNear
  try simp +zetaDelta (maxDischargeDepth := 40) (decide := false) only [h, State.copyNear_stores, stores_ite,
      stores_ite_fst, implies_true, forall_const]
  all_goals repeat' (split <;> try simp +zetaDelta (maxDischargeDepth := 40) (decide := false) only [h,
      State.copyNear_stores, stores_ite, stores_ite_fst, implies_true, forall_const])

theorem State.selectRecord_stores (s : State) (w : Who) (k : Nat) (v : Nat) (h : s.storesWf = true) :
    (s.selectRecord w k v).1.storesWf = true := by
  unfold State.selectRecord
  try simp +zetaDelta (maxDischargeDepth := 40) (decide := false) only [h, State.copyRecord_stores, stores_ite,
      stores_ite_fst, implies_true, forall_const]
  all_goals repeat' (split <;> try simp +zetaDelta (maxDischargeDepth := 40) (decide := false) only [h,
      State.copyRecord_stores, stores_ite, stores_ite_fst, implies_true, forall_const])

theorem State.writeView_stores (s : State) (w : Who) (k : Nat) (v : Nat) (h : s.storesWf = true) :
    (s.writeView w k v).1.storesWf = true := by
  unfold State.writeView
  try simp +zetaDelta (maxDischargeDepth := 40) (decide := false) only [h, State.selectNear_stores,
      State.selectRecord_stores, stores_ite, stores_ite_fst, implies_true, forall_const]
  all_goals repeat' (split <;> try simp +zetaDelta (maxDischargeDepth := 40) (decide := false) only [h,
      State.selectNear_stores, State.selectRecord_stores, stores_ite, stores_ite_fst, implies_true, forall_const])

theorem doneWith_stores (s : State) (h : s.storesWf = true) :
    (doneWith s).1.storesWf = true := by
  exact stores_of_wipe (doneWith_wipe s 0x7dfa7c1cf2fff (by decide)) h

theorem atOnce_stores (x : State × CatStatus) (h : x.1.storesWf = true) : (atOnce x).1.storesWf = true := h

theorem indexAnswer_stores (s : State) (x : Option State) (hs : s.storesWf = true)
    (h : ∀ t, x = some t → t.storesWf = true) : (indexAnswer s x).1.storesWf = true := by
  cases x with
  | none => exact hs
  | some t => exact h t rfl

theorem State.writeTicketEntry_stores (s : State) (k : Nat) (sub : Nat) (p : Nat) (v : Nat) (h : s.storesWf = true)
    :
    (s.writeTicketEntry k sub p v).1.storesWf = true := by
  unfold State.writeTicketEntry
  split
  all_goals try simp +zetaDelta (maxDischargeDepth := 40) (decide := false) only [h, doneWith_stores,
      State.setTicketRing_stores, State.setCfg_stores, stores_ite, stores_ite_fst, implies_true, forall_const]
  exact indexAnswer_stores _ _ h fun t e => State.moveConsumer_stores _ _ _ _ h _ e

theorem State.writeNotifyEntry_stores (s : State) (r : Nat) (sub : Nat) (v : Nat) (h : s.storesWf = true) :
    (s.writeNotifyEntry r sub v).1.storesWf = true := by
  unfold State.writeNotifyEntry
  split
  all_goals try simp +zetaDelta (maxDischargeDepth := 40) (decide := false) only [h, doneWith_stores,
      State.setNotifyRing_stores, State.setCfg_stores, stores_ite, stores_ite_fst, implies_true, forall_const]
  exact indexAnswer_stores _ _ h fun t e => State.moveNotifyConsumer_stores _ _ _ h _ e

theorem State.writeEventEntry_stores (s : State) (i : Nat) (sub : Nat) (v : Nat) (h : s.storesWf = true) :
    (s.writeEventEntry i sub v).1.storesWf = true := by
  unfold State.writeEventEntry
  try simp +zetaDelta (maxDischargeDepth := 40) (decide := false) only [h, doneWith_stores,
      State.evBinding_stores, State.setCfg_stores, stores_ite, stores_ite_fst, implies_true, forall_const]
  all_goals repeat' (split <;> try simp +zetaDelta (maxDischargeDepth := 40) (decide := false) only [h,
      doneWith_stores, State.evBinding_stores, State.setCfg_stores, stores_ite, stores_ite_fst, implies_true,
      forall_const])

theorem State.writeWaiterEntry_stores (s : State) (sub : Nat) (p : Nat) (v : Nat) (h : s.storesWf = true) :
    (s.writeWaiterEntry sub p v).1.storesWf = true := by
  unfold State.writeWaiterEntry
  try simp +zetaDelta (maxDischargeDepth := 40) (decide := false) only [h, State.cancelObject_stores,
      State.cancelOriginator_stores, doneWith_stores, State.setCfg_stores, stores_ite, stores_ite_fst,
      implies_true, forall_const, atOnce_stores]
  all_goals repeat' (split <;> try simp +zetaDelta (maxDischargeDepth := 40) (decide := false) only [h,
      State.cancelObject_stores, State.cancelOriginator_stores, doneWith_stores, State.setCfg_stores, stores_ite,
      stores_ite_fst, implies_true, forall_const, atOnce_stores])

theorem State.writeResliceEntry_stores (s : State) (sub : Nat) (v : Nat) (h : s.storesWf = true) :
    (s.writeResliceEntry sub v).1.storesWf = true := by
  unfold State.writeResliceEntry
  try simp +zetaDelta (maxDischargeDepth := 40) (decide := false) only [h, State.startReslice_stores,
      doneWith_stores, State.abortReslice_stores, stores_ite, stores_ite_fst, implies_true, forall_const,
      atOnce_stores]
  all_goals repeat' (split <;> try simp +zetaDelta (maxDischargeDepth := 40) (decide := false) only [h,
      State.startReslice_stores, doneWith_stores, State.abortReslice_stores, stores_ite, stores_ite_fst,
      implies_true, forall_const, atOnce_stores])

theorem State.writePartEntry_stores (s : State) (sub : Nat) (p : Nat) (v : Nat) (h : s.storesWf = true) :
    (s.writePartEntry sub p v).1.storesWf = true := by
  unfold State.writePartEntry
  split
  · exact stores_devMap _ _ h (Sparse.wf_put _ _ (devMap_wf h))
  all_goals simp +zetaDelta (maxDischargeDepth := 40) only [h, atOnce_stores, stores_devMap, doneWith_stores,
      State.writeReset_stores, State.writeContext_stores, State.override_stores, State.setCfg_stores, stores_ite,
      stores_ite_fst, implies_true, forall_const]

theorem State.writeLinkEntry_stores (s : State) (h : CatHdr) (c : Nat) (sub : Nat) (v : Nat) (hs : s.storesWf =
    true) :
    (s.writeLinkEntry h c sub v).1.storesWf = true := by
  unfold State.writeLinkEntry
  try simp +zetaDelta (maxDischargeDepth := 40) (decide := false) only [hs, State.renegotiate_stores,
      doneWith_stores, State.recheckLink_stores, State.setCfg_stores, stores_ite, stores_ite_fst, implies_true,
      forall_const]
  all_goals repeat' (split <;> try simp +zetaDelta (maxDischargeDepth := 40) (decide := false) only [hs,
      State.renegotiate_stores, doneWith_stores, State.recheckLink_stores, State.setCfg_stores, stores_ite,
      stores_ite_fst, implies_true, forall_const])

theorem State.writeRouteEntry_stores (s : State) (h : CatHdr) (sub : Nat) (v : Nat) (hs : s.storesWf = true) :
    (s.writeRouteEntry h sub v).1.storesWf = true := by
  unfold State.writeRouteEntry
  try simp +zetaDelta (maxDischargeDepth := 40) (decide := false) only [hs, doneWith_stores, State.setCfg_stores,
      State.writeRoute_stores, stores_ite, stores_ite_fst, implies_true, forall_const]
  all_goals repeat' (split <;> try simp +zetaDelta (maxDischargeDepth := 40) (decide := false) only [hs,
      doneWith_stores, State.setCfg_stores, State.writeRoute_stores, stores_ite, stores_ite_fst, implies_true,
      forall_const])

theorem State.writeTimeEntry_stores (s : State) (sub : Nat) (v : Nat) (h : s.storesWf = true) :
    (s.writeTimeEntry sub v).1.storesWf = true := by
  unfold State.writeTimeEntry
  try simp +zetaDelta (maxDischargeDepth := 40) (decide := false) only [h, State.writeTimeSet_stores,
      doneWith_stores, State.setCfg_stores, stores_ite, stores_ite_fst, implies_true, forall_const, atOnce_stores]
  all_goals repeat' (split <;> try simp +zetaDelta (maxDischargeDepth := 40) (decide := false) only [h,
      State.writeTimeSet_stores, doneWith_stores, State.setCfg_stores, stores_ite, stores_ite_fst, implies_true,
      forall_const, atOnce_stores])

theorem State.writeShelfEntry_stores (s : State) (sub : Nat) (p : Nat) (v : Nat) (h : s.storesWf = true) :
    (s.writeShelfEntry sub p v).1.storesWf = true := by
  unfold State.writeShelfEntry
  try simp +zetaDelta (maxDischargeDepth := 40) (decide := false) only [h, doneWith_stores,
      State.writeShelfArm_stores, State.writeShelfCancel_stores, State.setCfg_stores, stores_ite, stores_ite_fst,
      implies_true, forall_const]
  all_goals repeat' (split <;> try simp +zetaDelta (maxDischargeDepth := 40) (decide := false) only [h,
      doneWith_stores, State.writeShelfArm_stores, State.writeShelfCancel_stores, State.setCfg_stores, stores_ite,
      stores_ite_fst, implies_true, forall_const])

theorem State.writeFolioControl_stores (s : State) (v : Nat) (h : s.storesWf = true) :
    (s.writeFolioControl v).1.storesWf = true := by
  unfold State.writeFolioControl
  try simp +zetaDelta (maxDischargeDepth := 40) (decide := false) only [h, State.armFolio_stores, doneWith_stores,
      State.triggerFolio_stores, State.stopFolio_stores, State.clearFolio_stores, stores_ite, stores_ite_fst,
      implies_true, forall_const, atOnce_stores]
  all_goals repeat' (split <;> try simp +zetaDelta (maxDischargeDepth := 40) (decide := false) only [h,
      State.armFolio_stores, doneWith_stores, State.triggerFolio_stores, State.stopFolio_stores,
      State.clearFolio_stores, stores_ite, stores_ite_fst, implies_true, forall_const, atOnce_stores])

theorem State.writeFolioEntry_stores (s : State) (sub : Nat) (v : Nat) (h : s.storesWf = true) :
    (s.writeFolioEntry sub v).1.storesWf = true := by
  unfold State.writeFolioEntry
  try simp +zetaDelta (maxDischargeDepth := 40) (decide := false) only [h, State.writeFolioControl_stores,
      doneWith_stores, State.markFolio_stores, State.setCfg_stores, stores_ite, stores_ite_fst, implies_true,
      forall_const]
  all_goals repeat' (split <;> try simp +zetaDelta (maxDischargeDepth := 40) (decide := false) only [h,
      State.writeFolioControl_stores, doneWith_stores, State.markFolio_stores, State.setCfg_stores, stores_ite,
      stores_ite_fst, implies_true, forall_const])

theorem State.writeInventoryEntry_stores (s : State) (sub : Nat) (p : Nat) (v : Nat) (h : s.storesWf = true) :
    (s.writeInventoryEntry sub p v).1.storesWf = true := by
  unfold State.writeInventoryEntry
  try simp +zetaDelta (maxDischargeDepth := 40) (decide := false) only [h, doneWith_stores, State.setCfg_stores,
      State.takeInventory_stores, stores_ite, stores_ite_fst, implies_true, forall_const]
  all_goals repeat' (split <;> try simp +zetaDelta (maxDischargeDepth := 40) (decide := false) only [h,
      doneWith_stores, State.setCfg_stores, State.takeInventory_stores, stores_ite, stores_ite_fst, implies_true,
      forall_const])

theorem State.writeHoldEntry_stores (s : State) (h : CatHdr) (sub : Nat) (p : Nat) (v : Nat) (hs : s.storesWf =
    true) :
    (s.writeHoldEntry h sub p v).1.storesWf = true := by
  unfold State.writeHoldEntry
  try simp +zetaDelta (maxDischargeDepth := 40) (decide := false) only [hs, State.beginHold_stores,
      State.startHold_stores, doneWith_stores, State.setCfg_stores, stores_ite, stores_ite_fst, implies_true,
      forall_const]
  all_goals repeat' (split <;> try simp +zetaDelta (maxDischargeDepth := 40) (decide := false) only [hs,
      State.beginHold_stores, State.startHold_stores, doneWith_stores, State.setCfg_stores, stores_ite,
      stores_ite_fst, implies_true, forall_const])

theorem State.writeDepositEntry_stores (s : State) (sub : Nat) (p : Nat) (v : Nat) (h : s.storesWf = true) :
    (s.writeDepositEntry sub p v).1.storesWf = true := by
  unfold State.writeDepositEntry
  try simp +zetaDelta (maxDischargeDepth := 40) (decide := false) only [h, State.writeDepositFlags_stores,
      State.ackDeposit_stores, doneWith_stores, State.modPart_stores, State.setCfg_stores, stores_ite,
      stores_ite_fst, implies_true, forall_const, atOnce_stores]
  all_goals repeat' (split <;> try simp +zetaDelta (maxDischargeDepth := 40) (decide := false) only [h,
      State.writeDepositFlags_stores, State.ackDeposit_stores, doneWith_stores, State.modPart_stores,
      State.setCfg_stores, stores_ite, stores_ite_fst, implies_true, forall_const, atOnce_stores])

theorem State.writeInjectEntry_stores (s : State) (sub : Nat) (v : Nat) (h : s.storesWf = true) :
    (s.writeInjectEntry sub v).1.storesWf = true := by
  unfold State.writeInjectEntry
  try simp +zetaDelta (maxDischargeDepth := 40) (decide := false) only [h, doneWith_stores, State.setCfg_stores,
      State.injectStage_stores, State.injectBits_stores, stores_ite, stores_ite_fst, implies_true, forall_const,
      atOnce_stores]
  all_goals repeat' (split <;> try simp +zetaDelta (maxDischargeDepth := 40) (decide := false) only [h,
      doneWith_stores, State.setCfg_stores, State.injectStage_stores, State.injectBits_stores, stores_ite,
      stores_ite_fst, implies_true, forall_const, atOnce_stores])

theorem State.writeLow_stores (s : State) (index : Nat) (sub : Nat) (p : Nat) (v : Nat) (h : s.storesWf = true) :
    (s.writeLow index sub p v).1.storesWf = true := by
  unfold State.writeLow
  try simp +zetaDelta (maxDischargeDepth := 40) (decide := false) only [h, State.writeTicketEntry_stores,
      State.writeEventEntry_stores, State.recallWrite_stores, State.clearAbandoned_stores,
      State.writeWaiterEntry_stores, State.writeNotifyEntry_stores, doneWith_stores, State.setCfg_stores,
      stores_ite, stores_ite_fst, implies_true, forall_const, atOnce_stores]
  all_goals repeat' (split <;> try simp +zetaDelta (maxDischargeDepth := 40) (decide := false) only [h,
      State.writeTicketEntry_stores, State.writeEventEntry_stores, State.recallWrite_stores,
      State.clearAbandoned_stores, State.writeWaiterEntry_stores, State.writeNotifyEntry_stores, doneWith_stores,
      State.setCfg_stores, stores_ite, stores_ite_fst, implies_true, forall_const, atOnce_stores])

theorem State.writeMiddle_stores (s : State) (h : CatHdr) (index : Nat) (sub : Nat) (p : Nat) (v : Nat) (hs :
    s.storesWf = true) :
    (s.writeMiddle h index sub p v).1.storesWf = true := by
  unfold State.writeMiddle
  try simp +zetaDelta (maxDischargeDepth := 40) (decide := false) only [hs, State.writeResliceEntry_stores,
      State.writePartEntry_stores, State.writePortPartition_stores, doneWith_stores, State.setLockMode_stores,
      State.writeLinkEntry_stores, State.writeRouteEntry_stores, State.writeTimeEntry_stores, State.setCfg_stores,
      stores_ite, stores_ite_fst, implies_true, forall_const, atOnce_stores]
  all_goals repeat' (split <;> try simp +zetaDelta (maxDischargeDepth := 40) (decide := false) only [hs,
      State.writeResliceEntry_stores, State.writePartEntry_stores, State.writePortPartition_stores,
      doneWith_stores, State.setLockMode_stores, State.writeLinkEntry_stores, State.writeRouteEntry_stores,
      State.writeTimeEntry_stores, State.setCfg_stores, stores_ite, stores_ite_fst, implies_true, forall_const,
      atOnce_stores])

theorem State.writeHigh_stores (s : State) (h : CatHdr) (w : Who) (index : Nat) (sub : Nat) (p : Nat) (v : Nat) (hs
    : s.storesWf = true) :
    (s.writeHigh h w index sub p v).1.storesWf = true := by
  unfold State.writeHigh
  try simp +zetaDelta (maxDischargeDepth := 40) (decide := false) only [hs, State.writeView_stores,
      State.writeShelfEntry_stores, State.writeFolioEntry_stores, State.writeInventoryEntry_stores,
      State.writeHoldEntry_stores, State.writeDepositEntry_stores, doneWith_stores, State.enableStock_stores,
      State.injectFault_stores, State.writeInjectEntry_stores, State.setCfg_stores, stores_ite, stores_ite_fst,
      implies_true, forall_const, atOnce_stores]
  all_goals repeat' (split <;> try simp +zetaDelta (maxDischargeDepth := 40) (decide := false) only [hs,
      State.writeView_stores, State.writeShelfEntry_stores, State.writeFolioEntry_stores,
      State.writeInventoryEntry_stores, State.writeHoldEntry_stores, State.writeDepositEntry_stores,
      doneWith_stores, State.enableStock_stores, State.injectFault_stores, State.writeInjectEntry_stores,
      State.setCfg_stores, stores_ite, stores_ite_fst, implies_true, forall_const, atOnce_stores])

theorem State.writeEntry_stores (s : State) (h : CatHdr) (w : Who) (index : Nat) (sub : Nat) (p : Nat) (v : Nat) (hs
    : s.storesWf = true) :
    (s.writeEntry h w index sub p v).1.storesWf = true := by
  unfold State.writeEntry
  try simp +zetaDelta (maxDischargeDepth := 40) (decide := false) only [hs, State.writeLow_stores,
      State.writeMiddle_stores, State.writeHigh_stores, stores_ite, stores_ite_fst, implies_true, forall_const]
  all_goals repeat' (split <;> try simp +zetaDelta (maxDischargeDepth := 40) (decide := false) only [hs,
      State.writeLow_stores, State.writeMiddle_stores, State.writeHigh_stores, stores_ite, stores_ite_fst,
      implies_true, forall_const])

end Sys2Proof.Machine
end

