-- ==== Sys2Proof/Laws/StoresCatalogue.lean ====
section
/-! SUPPORT. The operations of Catalogue.lean keep the sparse stores in their canonical form. -/

set_option linter.all false

namespace Sys2Proof.Machine

theorem State.apbBusy_stores (s : State) (h : CatHdr) (a : CatAsk) (hs : s.storesWf = true) :
    (s.apbBusy h a).storesWf = true := by
  exact stores_of_wipe (State.apbBusy_wipe s h a 0x7dfa7c1cf2fff (by decide)) hs

theorem State.apbData_stores (s : State) (h : CatHdr) (v : Nat) (hs : s.storesWf = true) :
    (s.apbData h v).storesWf = true := by
  exact stores_of_wipe (State.apbData_wipe s h v 0x7dfa7c1cf2fff (by decide)) hs

theorem State.catStatus_stores (s : State) (h : CatHdr) (a : CatAsk) (st : CatStatus) (hs : s.storesWf = true) :
    (s.catStatus h a st).storesWf = true := by
  unfold State.catStatus
  try simp +zetaDelta (maxDischargeDepth := 40) (decide := false) only [hs, State.catAnswer_stores, stores_ite,
      stores_ite_fst, implies_true, forall_const]
  all_goals repeat' (split <;> try simp +zetaDelta (maxDischargeDepth := 40) (decide := false) only [hs,
      State.catAnswer_stores, stores_ite, stores_ite_fst, implies_true, forall_const])

theorem State.catRequest_stores (s : State) (i : Instr) (h : CatHdr) (a : CatAsk) (run : State → Who → State) (hs :
    s.storesWf = true) (hf : ∀ s w, s.storesWf = true → (run s w).storesWf = true) :
    (s.catRequest i h a run).storesWf = true := by
  unfold State.catRequest
  split
  · exact hs
  · split
    · exact State.drive_stores _ _ hs
    · split
      · exact State.bump_stores _ _ _ _ hs
      · simp only []
        split
        · split
          · exact State.catStatus_stores _ _ _ _ hs
          · rw [stores_catHeld]
            exact State.apbBusy_stores _ _ _ hs
        · split
          · exact hf _ _ (State.apbBusy_stores _ _ _ hs)
          · exact State.catStatus_stores _ _ _ _ hs

theorem State.takeHeld_stores (s : State) (pr : Principal) (h : s.storesWf = true) :
    (s.takeHeld pr).storesWf = true := by
  exact stores_of_wipe (State.takeHeld_wipe s pr 0x7dfa7c1cf2fff (by decide)) h

theorem State.runIdentify_stores (s : State) (h : CatHdr) (a : CatAsk) (w : Who) (hs : s.storesWf = true) :
    (s.runIdentify h a w).storesWf = true := by
  unfold State.runIdentify
  try simp +zetaDelta (maxDischargeDepth := 40) (decide := false) only [hs, State.catAnswer_stores, stores_ite,
      stores_ite_fst, implies_true, forall_const]
  all_goals repeat' (split <;> try simp +zetaDelta (maxDischargeDepth := 40) (decide := false) only [hs,
      State.catAnswer_stores, stores_ite, stores_ite_fst, implies_true, forall_const])

theorem State.runDescribe_stores (s : State) (h : CatHdr) (a : CatAsk) (w : Who) (hs : s.storesWf = true) :
    (s.runDescribe h a w).storesWf = true := by
  unfold State.runDescribe
  try simp +zetaDelta (maxDischargeDepth := 40) (decide := false) only [hs, State.catStatus_stores,
      State.catAnswer_stores, stores_ite, stores_ite_fst, implies_true, forall_const]
  all_goals repeat' (split <;> try simp +zetaDelta (maxDischargeDepth := 40) (decide := false) only [hs,
      State.catStatus_stores, State.catAnswer_stores, stores_ite, stores_ite_fst, implies_true, forall_const])

theorem State.runRead_stores (s : State) (h : CatHdr) (a : CatAsk) (w : Who) (hs : s.storesWf = true) :
    (s.runRead h a w).storesWf = true := by
  unfold State.runRead
  try simp +zetaDelta (maxDischargeDepth := 40) (decide := false) only [hs, State.catStatus_stores,
      State.catAnswer_stores, stores_ite, stores_ite_fst, implies_true, forall_const]
  all_goals repeat' (split <;> try simp +zetaDelta (maxDischargeDepth := 40) (decide := false) only [hs,
      State.catStatus_stores, State.catAnswer_stores, stores_ite, stores_ite_fst, implies_true, forall_const])

theorem State.runReadSeg_stores (s : State) (h : CatHdr) (a : CatAsk) (offset : Nat) (length : Nat) (g : BitVec 16)
    (w : Who) (hs : s.storesWf = true) :
    (s.runReadSeg h a offset length g w).storesWf = true := by
  unfold State.runReadSeg
  try simp +zetaDelta (maxDischargeDepth := 40) (decide := false) only [hs, State.catStatus_stores,
      State.catAnswer_stores, stores_ite, stores_ite_fst, implies_true, forall_const]
  all_goals repeat' (split <;> try simp +zetaDelta (maxDischargeDepth := 40) (decide := false) only [hs,
      State.catStatus_stores, State.catAnswer_stores, stores_ite, stores_ite_fst, implies_true, forall_const])

theorem State.runNext_stores (s : State) (h : CatHdr) (a : CatAsk) (w : Who) (hs : s.storesWf = true) :
    (s.runNext h a w).storesWf = true := by
  unfold State.runNext
  try simp +zetaDelta (maxDischargeDepth := 40) (decide := false) only [hs, State.catAnswer_stores,
      State.catStatus_stores, stores_ite, stores_ite_fst, implies_true, forall_const]
  all_goals repeat' (split <;> try simp +zetaDelta (maxDischargeDepth := 40) (decide := false) only [hs,
      State.catAnswer_stores, State.catStatus_stores, stores_ite, stores_ite_fst, implies_true, forall_const])

theorem State.runWrite_stores (s : State) (h : CatHdr) (a : CatAsk) (count : Option Nat) (v : Nat) (w : Who) (hs :
    s.storesWf = true) :
    (s.runWrite h a count v w).storesWf = true := by
  unfold State.runWrite
  try simp +zetaDelta (maxDischargeDepth := 40) (decide := false) only [hs, stores_catOpen,
      State.catStatus_stores, State.writeEntry_stores, State.catFinish_stores, stores_ite, stores_ite_fst,
      implies_true, forall_const]
  all_goals repeat' (split <;> try simp +zetaDelta (maxDischargeDepth := 40) (decide := false) only [hs,
      stores_catOpen, State.catStatus_stores, State.writeEntry_stores, State.catFinish_stores, stores_ite,
      stores_ite_fst, implies_true, forall_const])

theorem State.entryCommand_stores (s : State) (i : Instr) (h : CatHdr) (index : BitVec 16) (sub : BitVec 8) (v :
    Nat) (hs : s.storesWf = true) :
    (s.entryCommand i h index sub v).storesWf = true := by
  unfold State.entryCommand
  try simp +contextual +zetaDelta (maxDischargeDepth := 40) (decide := false) only [hs, State.catRequest_stores,
      State.runWrite_stores, State.apbData_stores, stores_ite, stores_ite_fst, implies_true, forall_const]
  all_goals repeat' (split <;> try simp +contextual +zetaDelta (maxDischargeDepth := 40) (decide := false) only
      [hs, State.catRequest_stores, State.runWrite_stores, State.apbData_stores, stores_ite, stores_ite_fst,
      implies_true, forall_const])

theorem State.writeCommand_stores (s : State) (i : Instr) (h : CatHdr) (index : BitVec 16) (sub : BitVec 8) (bytes :
    Nat) (v : BitVec 128) (hs : s.storesWf = true) :
    (s.writeCommand i h index sub bytes v).storesWf = true := by
  unfold State.writeCommand
  try simp +contextual +zetaDelta (maxDischargeDepth := 40) (decide := false) only [hs, State.catRequest_stores,
      State.runWrite_stores, State.apbData_stores, stores_ite, stores_ite_fst, implies_true, forall_const]
  all_goals repeat' (split <;> try simp +contextual +zetaDelta (maxDischargeDepth := 40) (decide := false) only
      [hs, State.catRequest_stores, State.runWrite_stores, State.apbData_stores, stores_ite, stores_ite_fst,
      implies_true, forall_const])

theorem State.identifyCommand_stores (s : State) (i : Instr) (h : CatHdr) (hs : s.storesWf = true) :
    (s.identifyCommand i h).storesWf = true := by
  unfold State.identifyCommand
  try simp +contextual +zetaDelta (maxDischargeDepth := 40) (decide := false) only [hs, State.catRequest_stores,
      State.runIdentify_stores, stores_ite, stores_ite_fst, implies_true, forall_const]
  all_goals repeat' (split <;> try simp +contextual +zetaDelta (maxDischargeDepth := 40) (decide := false) only
      [hs, State.catRequest_stores, State.runIdentify_stores, stores_ite, stores_ite_fst, implies_true,
      forall_const])

theorem State.describeCommand_stores (s : State) (i : Instr) (h : CatHdr) (index : BitVec 16) (sub : BitVec 8) (hs :
    s.storesWf = true) :
    (s.describeCommand i h index sub).storesWf = true := by
  unfold State.describeCommand
  try simp +contextual +zetaDelta (maxDischargeDepth := 40) (decide := false) only [hs, State.catRequest_stores,
      State.runDescribe_stores, stores_ite, stores_ite_fst, implies_true, forall_const]
  all_goals repeat' (split <;> try simp +contextual +zetaDelta (maxDischargeDepth := 40) (decide := false) only
      [hs, State.catRequest_stores, State.runDescribe_stores, stores_ite, stores_ite_fst, implies_true,
      forall_const])

theorem State.readCommand_stores (s : State) (i : Instr) (h : CatHdr) (index : BitVec 16) (sub : BitVec 8) (hs :
    s.storesWf = true) :
    (s.readCommand i h index sub).storesWf = true := by
  unfold State.readCommand
  try simp +contextual +zetaDelta (maxDischargeDepth := 40) (decide := false) only [hs, State.catRequest_stores,
      State.runRead_stores, stores_ite, stores_ite_fst, implies_true, forall_const]
  all_goals repeat' (split <;> try simp +contextual +zetaDelta (maxDischargeDepth := 40) (decide := false) only
      [hs, State.catRequest_stores, State.runRead_stores, stores_ite, stores_ite_fst, implies_true, forall_const])

theorem State.readSegCommand_stores (s : State) (i : Instr) (h : CatHdr) (index : BitVec 16) (sub : BitVec 8)
    (offset : BitVec 32) (length : BitVec 16) (g : BitVec 16) (hs : s.storesWf = true) :
    (s.readSegCommand i h index sub offset length g).storesWf = true := by
  unfold State.readSegCommand
  try simp +contextual +zetaDelta (maxDischargeDepth := 40) (decide := false) only [hs, stores_apb,
      State.catRequest_stores, State.runReadSeg_stores, stores_ite, stores_ite_fst, implies_true, forall_const]
  all_goals repeat' (split <;> try simp +contextual +zetaDelta (maxDischargeDepth := 40) (decide := false) only
      [hs, stores_apb, State.catRequest_stores, State.runReadSeg_stores, stores_ite, stores_ite_fst, implies_true,
      forall_const])

theorem State.nextCommand_stores (s : State) (i : Instr) (h : CatHdr) (index : BitVec 16) (sub : BitVec 8) (hs :
    s.storesWf = true) :
    (s.nextCommand i h index sub).storesWf = true := by
  unfold State.nextCommand
  try simp +contextual +zetaDelta (maxDischargeDepth := 40) (decide := false) only [hs, State.catRequest_stores,
      State.runNext_stores, stores_ite, stores_ite_fst, implies_true, forall_const]
  all_goals repeat' (split <;> try simp +contextual +zetaDelta (maxDischargeDepth := 40) (decide := false) only
      [hs, State.catRequest_stores, State.runNext_stores, stores_ite, stores_ite_fst, implies_true, forall_const])

theorem State.malformedCommand_stores (s : State) (i : Instr) (h : CatHdr) (command : BitVec 8) (hs : s.storesWf =
    true) :
    (s.malformedCommand i h command).storesWf = true := by
  unfold State.malformedCommand
  try simp +contextual +zetaDelta (maxDischargeDepth := 40) (decide := false) only [hs, State.catRequest_stores,
      State.catStatus_stores, stores_ite, stores_ite_fst, implies_true, forall_const]
  all_goals repeat' (split <;> try simp +contextual +zetaDelta (maxDischargeDepth := 40) (decide := false) only
      [hs, State.catRequest_stores, State.catStatus_stores, stores_ite, stores_ite_fst, implies_true,
      forall_const])

theorem State.blockIndex_stores (s : State) (p : Nat) (ring : RingName) (v : BitVec 32) (h : s.storesWf = true) :
    (s.blockIndex p ring v).storesWf = true := by
  unfold State.blockIndex
  split
  · simp +zetaDelta (maxDischargeDepth := 40) (decide := false) only [h, State.notServing_stores,
      State.drive_stores, State.slverr_stores, stores_ite, stores_ite_fst, implies_true, forall_const]
  · split
    · simp +zetaDelta (maxDischargeDepth := 40) (decide := false) only [h, State.notServing_stores,
        State.drive_stores, State.slverr_stores, stores_ite, stores_ite_fst, implies_true, forall_const]
    · simp only []
      split
      · rename_i t e
        have e2 : s.moveConsumer p ring v.toNat = some t := by
          revert e
          generalize s.moveConsumer p ring v.toNat = x
          cases ring <;> simp
        have k := State.moveConsumer_stores _ _ _ _ h _ e2
        simp +zetaDelta (maxDischargeDepth := 40) only [k, State.notServing_stores, State.drive_stores,
            State.slverr_stores, stores_ite, stores_ite_fst, implies_true, forall_const]
      · simp +zetaDelta (maxDischargeDepth := 40) (decide := false) only [h, State.notServing_stores,
          State.drive_stores, State.slverr_stores, stores_ite, stores_ite_fst, implies_true, forall_const]

theorem State.indexCommand_stores (s : State) (i : Instr) (via : IndexWriteVia) (ring : RingName) (v : BitVec 32) (h
    : s.storesWf = true) :
    (s.indexCommand i via ring v).storesWf = true := by
  unfold State.indexCommand
  try simp +zetaDelta (maxDischargeDepth := 40) (decide := false) only [h, State.entryCommand_stores,
      State.blockIndex_stores, stores_ite, stores_ite_fst, implies_true, forall_const]
  all_goals repeat' (split <;> try simp +zetaDelta (maxDischargeDepth := 40) (decide := false) only [h,
      State.entryCommand_stores, State.blockIndex_stores, stores_ite, stores_ite_fst, implies_true, forall_const])

theorem State.mctpAnswer_stores (s : State) (dst : BitVec 8) (tag : BitVec 3) (command : BitVec 8) (completion :
    BitVec 8) (data : Nat) (h : s.storesWf = true) :
    (s.mctpAnswer dst tag command completion data).storesWf = true := by
  exact stores_of_wipe (State.mctpAnswer_wipe s dst tag command completion data 0x7dfa7c1cf2fff (by decide)) h

theorem State.setEid_stores (s : State) (src : BitVec 8) (tag : BitVec 3) (e : BitVec 8) (h : s.storesWf = true) :
    (s.setEid src tag e).storesWf = true := by
  exact stores_of_wipe (State.setEid_wipe s src tag e 0x7dfa7c1cf2fff (by decide)) h

theorem State.getEid_stores (s : State) (src : BitVec 8) (tag : BitVec 3) (h : s.storesWf = true) :
    (s.getEid src tag).storesWf = true := by
  exact stores_of_wipe (State.getEid_wipe s src tag 0x7dfa7c1cf2fff (by decide)) h

theorem State.getVersion_stores (s : State) (src : BitVec 8) (tag : BitVec 3) (msgType : BitVec 8) (h : s.storesWf =
    true) :
    (s.getVersion src tag msgType).storesWf = true := by
  exact stores_of_wipe (State.getVersion_wipe s src tag msgType 0x7dfa7c1cf2fff (by decide)) h

theorem State.getTypes_stores (s : State) (src : BitVec 8) (tag : BitVec 3) (h : s.storesWf = true) :
    (s.getTypes src tag).storesWf = true := by
  exact stores_of_wipe (State.getTypes_wipe s src tag 0x7dfa7c1cf2fff (by decide)) h

theorem State.getVendor_stores (s : State) (src : BitVec 8) (tag : BitVec 3) (selector : BitVec 8) (h : s.storesWf =
    true) :
    (s.getVendor src tag selector).storesWf = true := by
  exact stores_of_wipe (State.getVendor_wipe s src tag selector 0x7dfa7c1cf2fff (by decide)) h

theorem State.discardPackets_stores (s : State) (n : Nat) (h : s.storesWf = true) :
    (s.discardPackets n).storesWf = true := by
  unfold State.discardPackets
  try simp +zetaDelta (maxDischargeDepth := 40) (decide := false) only [h, State.bumpN_stores, stores_ite,
      stores_ite_fst, implies_true, forall_const]
  all_goals repeat' (split <;> try simp +zetaDelta (maxDischargeDepth := 40) (decide := false) only [h,
      State.bumpN_stores, stores_ite, stores_ite_fst, implies_true, forall_const])

theorem State.dropIncomplete_stores (s : State) (h : s.storesWf = true) :
    (s.dropIncomplete).storesWf = true := by
  unfold State.dropIncomplete
  try simp +zetaDelta (maxDischargeDepth := 40) (decide := false) only [h, State.bumpN_stores, State.fresh_stores,
      stores_ite, stores_ite_fst, implies_true, forall_const]
  all_goals repeat' (split <;> try simp +zetaDelta (maxDischargeDepth := 40) (decide := false) only [h,
      State.bumpN_stores, State.fresh_stores, stores_ite, stores_ite_fst, implies_true, forall_const])

end Sys2Proof.Machine
end

