-- ==== Sys2Proof/Laws/StoresStartup.lean ====
section
/-! SUPPORT. The operations of Startup.lean keep the sparse stores in their canonical form. -/

set_option linter.all false

namespace Sys2Proof.Machine

theorem State.linkStarts_stores (s : State) (c : Nat) (h : s.storesWf = true) :
    (s.linkStarts c).storesWf = true := by
  unfold State.linkStarts
  try simp +zetaDelta (maxDischargeDepth := 40) (decide := false) only [h, State.startNeg_stores, stores_ite,
      stores_ite_fst, implies_true, forall_const]
  all_goals repeat' (split <;> try simp +zetaDelta (maxDischargeDepth := 40) (decide := false) only [h,
      State.startNeg_stores, stores_ite, stores_ite_fst, implies_true, forall_const])

theorem State.portStarts_stores (s : State) (p : Nat) (h : s.storesWf = true) :
    (s.portStarts p).storesWf = true := by
  unfold State.portStarts
  try simp +zetaDelta (maxDischargeDepth := 40) (decide := false) only [h, State.wakePort_stores, stores_ite,
      stores_ite_fst, implies_true, forall_const]
  all_goals repeat' (split <;> try simp +zetaDelta (maxDischargeDepth := 40) (decide := false) only [h,
      State.wakePort_stores, stores_ite, stores_ite_fst, implies_true, forall_const])

theorem State.startupComplete_stores (s : State) (h : s.storesWf = true) :
    (s.startupComplete).storesWf = true := by
  unfold State.startupComplete
  split
  · have a := stores_phase_scrubStart s .operational s.clock
    rw [h] at a
    exact State.each_stores _ _ _ (State.each_stores _ _ _ a fun s c k => State.linkStarts_stores s c k)
      fun s p k => State.portStarts_stores s p k
  · exact h

theorem State.whenLive_stores (s : State) (f : State → State) (h : s.storesWf = true) (hf : s.storesWf = true → (f
    s).storesWf = true) :
    (s.whenLive f).storesWf = true := by
  unfold State.whenLive
  split
  · exact hf h
  · exact h

theorem State.refLoss_stores (s : State) (h : s.storesWf = true) :
    (s.refLoss).storesWf = true := by
  unfold State.refLoss
  try simp +zetaDelta (maxDischargeDepth := 40) (decide := false) only [h, stores_refLost, State.clockLost_stores,
      stores_ite, stores_ite_fst, implies_true, forall_const]
  all_goals repeat' (split <;> try simp +zetaDelta (maxDischargeDepth := 40) (decide := false) only [h,
      stores_refLost, State.clockLost_stores, stores_ite, stores_ite_fst, implies_true, forall_const])

theorem State.phyUpEvent_stores (s : State) (c : Nat) (lanes : BitVec 3) (h : s.storesWf = true) :
    (s.phyUpEvent c lanes).storesWf = true := by
  unfold State.phyUpEvent
  try simp +zetaDelta (maxDischargeDepth := 40) (decide := false) only [h, State.phyRise_stores,
      State.modLink_stores, stores_ite, stores_ite_fst, implies_true, forall_const]
  all_goals repeat' (split <;> try simp +zetaDelta (maxDischargeDepth := 40) (decide := false) only [h,
      State.phyRise_stores, State.modLink_stores, stores_ite, stores_ite_fst, implies_true, forall_const])

theorem State.phyDownEvent_stores (s : State) (c : Nat) (h : s.storesWf = true) :
    (s.phyDownEvent c).storesWf = true := by
  unfold State.phyDownEvent
  try simp +zetaDelta (maxDischargeDepth := 40) (decide := false) only [h, State.phyFall_stores,
      State.modLink_stores, stores_ite, stores_ite_fst, implies_true, forall_const]
  all_goals repeat' (split <;> try simp +zetaDelta (maxDischargeDepth := 40) (decide := false) only [h,
      State.phyFall_stores, State.modLink_stores, stores_ite, stores_ite_fst, implies_true, forall_const])

theorem State.ackRiseEvent_stores (s : State) (p : Nat) (h : s.storesWf = true) :
    (s.ackRiseEvent p).storesWf = true := by
  unfold State.ackRiseEvent
  try simp +zetaDelta (maxDischargeDepth := 40) (decide := false) only [h, State.ackRise_stores,
      State.modPart_stores, stores_ite, stores_ite_fst, implies_true, forall_const]
  all_goals repeat' (split <;> try simp +zetaDelta (maxDischargeDepth := 40) (decide := false) only [h,
      State.ackRise_stores, State.modPart_stores, stores_ite, stores_ite_fst, implies_true, forall_const])

theorem State.ackFallEvent_stores (s : State) (p : Nat) (h : s.storesWf = true) :
    (s.ackFallEvent p).storesWf = true := by
  unfold State.ackFallEvent
  try simp +zetaDelta (maxDischargeDepth := 40) (decide := false) only [h, State.ackFall_stores,
      State.modPart_stores, stores_ite, stores_ite_fst, implies_true, forall_const]
  all_goals repeat' (split <;> try simp +zetaDelta (maxDischargeDepth := 40) (decide := false) only [h,
      State.ackFall_stores, State.modPart_stores, stores_ite, stores_ite_fst, implies_true, forall_const])

theorem State.evInput_stores (s : State) (i : Nat) (level : Bool) (h : s.storesWf = true) :
    (s.evInput i level).storesWf = true := by
  unfold State.evInput
  try simp +zetaDelta (maxDischargeDepth := 40) (decide := false) only [h, State.setEv_stores,
      State.evChange_stores, stores_ite, stores_ite_fst, implies_true, forall_const]
  all_goals repeat' (split <;> try simp +zetaDelta (maxDischargeDepth := 40) (decide := false) only [h,
      State.setEv_stores, State.evChange_stores, stores_ite, stores_ite_fst, implies_true, forall_const])

theorem State.coreResetEvent_stores (s : State) (q : Nat) (h : s.storesWf = true) :
    (s.coreResetEvent q).storesWf = true := by
  unfold State.coreResetEvent
  try simp +zetaDelta (maxDischargeDepth := 40) (decide := false) only [h, State.modPort_stores,
      State.coreReset_stores, stores_ite, stores_ite_fst, implies_true, forall_const]
  all_goals repeat' (split <;> try simp +zetaDelta (maxDischargeDepth := 40) (decide := false) only [h,
      State.modPort_stores, State.coreReset_stores, stores_ite, stores_ite_fst, implies_true, forall_const])

theorem State.coreReleaseEvent_stores (s : State) (q : Nat) (h : s.storesWf = true) :
    (s.coreReleaseEvent q).storesWf = true := by
  unfold State.coreReleaseEvent
  try simp +zetaDelta (maxDischargeDepth := 40) (decide := false) only [h, State.modPort_stores,
      State.coreRelease_stores, stores_ite, stores_ite_fst, implies_true, forall_const]
  all_goals repeat' (split <;> try simp +zetaDelta (maxDischargeDepth := 40) (decide := false) only [h,
      State.modPort_stores, State.coreRelease_stores, stores_ite, stores_ite_fst, implies_true, forall_const])

theorem State.edge_stores (s : State) (h : s.storesWf = true) :
    (s.edge).storesWf = true := by
  exact stores_of_wipe (State.edge_wipe s 0x7dfa7c1cf2fff (by decide)) h

theorem State.tickOnce_stores (s : State) (h : s.storesWf = true) :
    (s.tickOnce).storesWf = true := by
  unfold State.tickOnce
  try simp +contextual +zetaDelta (maxDischargeDepth := 40) (decide := false) only [h, State.edge_stores,
      State.each_stores, State.wakePort_stores, State.wakeSlot_stores, stores_ite, stores_ite_fst, implies_true,
      forall_const]
  all_goals repeat' (split <;> try simp +contextual +zetaDelta (maxDischargeDepth := 40) (decide := false) only
      [h, State.edge_stores, State.each_stores, State.wakePort_stores, State.wakeSlot_stores, stores_ite,
      stores_ite_fst, implies_true, forall_const])

end Sys2Proof.Machine
end

