-- ==== Sys2Proof/Laws/StoresExecEvents.lean ====
section
/-! SUPPORT. The operations of ExecEvents.lean keep the sparse stores in their canonical form. -/

set_option linter.all false

namespace Sys2Proof.Machine

theorem State.whenClocked_stores (s : State) (f : State → State) (h : s.storesWf = true) (hf : s.storesWf = true →
    (f s).storesWf = true) :
    (s.whenClocked f).storesWf = true := by
  unfold State.whenClocked
  split
  · exact hf h
  · exact h

theorem State.whenWalks_stores (s : State) (f : State → State) (h : s.storesWf = true) (hf : s.storesWf = true → (f
    s).storesWf = true) :
    (s.whenWalks f).storesWf = true := by
  unfold State.whenWalks
  split
  · exact hf h
  · exact h

theorem State.nearTurn_stores (s : State) (p : Nat) (h : s.storesWf = true) :
    (s.nearTurn p).storesWf = true := by
  unfold State.nearTurn
  try simp +zetaDelta (maxDischargeDepth := 40) (decide := false) only [h, State.modPort_stores,
      State.nearCheck_stores, stores_ite, stores_ite_fst, implies_true, forall_const]
  all_goals repeat' (split <;> try simp +zetaDelta (maxDischargeDepth := 40) (decide := false) only [h,
      State.modPort_stores, State.nearCheck_stores, stores_ite, stores_ite_fst, implies_true, forall_const])

theorem State.w1Expiry_stores (s : State) (q : Nat) (n : Nat) (h : s.storesWf = true) :
    (s.w1Expiry q n).storesWf = true := by
  unfold State.w1Expiry
  try simp +zetaDelta (maxDischargeDepth := 40) (decide := false) only [h, State.w1SlotDeadline_stores,
      State.w1Deadline_stores, stores_ite, stores_ite_fst, implies_true, forall_const]
  all_goals repeat' (split <;> try simp +zetaDelta (maxDischargeDepth := 40) (decide := false) only [h,
      State.w1SlotDeadline_stores, State.w1Deadline_stores, stores_ite, stores_ite_fst, implies_true,
      forall_const])

theorem State.onWrite_stores (s : State) (ks : List MgrKind) (f : State → MgrWrite → State) (h : s.storesWf = true)
    (hf : ∀ w, s.storesWf = true → (f s w).storesWf = true) :
    (s.onWrite ks f).storesWf = true := by
  unfold State.onWrite
  split
  · exact hf _ h
  · exact h

end Sys2Proof.Machine
end

