-- ==== Sys2Proof/Laws/StoresStep.lean ====
section
/-! SUPPORT. The operations of Step.lean keep the sparse stores in their canonical form. -/

set_option linter.all false

namespace Sys2Proof.Machine

theorem State.withFetchWord_stores (s : State) (nbits : Nat) (w : Nat) (h : s.storesWf = true) :
    (s.withFetchWord nbits w).storesWf = true := by
  exact stores_of_wipe (State.withFetchWord_wipe s nbits w 0x7dfa7c1cf2fff (by decide)) h

end Sys2Proof.Machine
end

