-- ==== Sys2Proof/Laws/StoresExec.lean ====
section
/-! SUPPORT. Every command keeps the sparse stores in their canonical form. -/

set_option linter.all false

namespace Sys2Proof.Machine

theorem State.cleared_stores (s : State) (supply : Bool) (h : s.storesWf = true) :
    (s.cleared supply).storesWf = true := by
  have r : State.reset.storesWf = true := by decide
  rw [storesWf_iff] at r ⊢
  unfold State.cleared
  refine ⟨r.1, r.2.1, Sparse.wf_remap (ports_wf h), r.2.2.2.1, r.2.2.2.2.1, ?_, r.2.2.2.2.2.2.1, r.2.2.2.2.2.2.2.1,
    Sparse.wf_remap (links_wf h), r.2.2.2.2.2.2.2.2.2.1, Sparse.wf_remap (evs_wf h),
    r.2.2.2.2.2.2.2.2.2.2.2.1, Sparse.wf_remap (parts_wf h), r.2.2.2.2.2.2.2.2.2.2.2.2.2⟩
  simp only []
  split
  · rfl
  · exact Sparse.wf_dropKeys (cat_wf h)

theorem State.hubReset_stores (s : State) (supply : Bool) (h : s.storesWf = true) :
    (s.hubReset supply).storesWf = true := State.cleared_stores s supply h

theorem State.startup_stores (s : State) (device : BitVec 12) (die refSel : BitVec 3) (absent : BitVec 128)
    (h : s.storesWf = true) : (s.startup device die refSel absent).storesWf = true := by
  unfold State.startup
  split
  · exact State.cleared_stores s false h
  · exact h

theorem State.opCommand_stores {s u : State} (code : BitVec 6) (r : OpReq) (hs : s.storesWf = true)
    (h : s.opCommand code r = .next u) : u.storesWf = true := by
  unfold State.opCommand at h
  split at h <;> (try simp only [] at h) <;> split at h <;> cases h
  all_goals simp +zetaDelta (maxDischargeDepth := 40) only [hs, State.coreOp_stores, State.apertureOp_stores,
    State.linkOp_stores, stores_ite]

theorem State.templateCommand_stores {s u : State} (src : TemplateSource) (word : BitVec 2) (handle : Handle)
    (data : BitVec 64) (hs : s.storesWf = true)
    (h : s.templateCommand src word handle data = .next u) : u.storesWf = true := by
  unfold State.templateCommand at h
  split at h <;> (try simp only [] at h) <;> split at h <;> cases h
  all_goals simp +zetaDelta (maxDischargeDepth := 40) only [hs, State.apertureTemplate_stores,
    State.linkOp_stores, stores_ite]

theorem execSig_stores {s u : State} (r : OpReq) (hs : s.storesWf = true) (h : execSig r s = .next u) :
    u.storesWf = true := by
  exact State.opCommand_stores _ _ hs h

theorem execSet_stores {s u : State} (r : OpReq) (hs : s.storesWf = true) (h : execSet r s = .next u) :
    u.storesWf = true := by
  exact State.opCommand_stores _ _ hs h

theorem execClr_stores {s u : State} (r : OpReq) (hs : s.storesWf = true) (h : execClr r s = .next u) :
    u.storesWf = true := by
  exact State.opCommand_stores _ _ hs h

theorem execWait_stores {s u : State} (r : OpReq) (hs : s.storesWf = true) (h : execWait r s = .next u) :
    u.storesWf = true := by
  exact State.opCommand_stores _ _ hs h

theorem execTake_stores {s u : State} (r : OpReq) (hs : s.storesWf = true) (h : execTake r s = .next u) :
    u.storesWf = true := by
  exact State.opCommand_stores _ _ hs h

theorem execTryTake_stores {s u : State} (r : OpReq) (hs : s.storesWf = true) (h : execTryTake r s = .next u) :
    u.storesWf = true := by
  exact State.opCommand_stores _ _ hs h

theorem execArrv_stores {s u : State} (r : OpReq) (hs : s.storesWf = true) (h : execArrv r s = .next u) :
    u.storesWf = true := by
  exact State.opCommand_stores _ _ hs h

theorem execArrw_stores {s u : State} (r : OpReq) (hs : s.storesWf = true) (h : execArrw r s = .next u) :
    u.storesWf = true := by
  exact State.opCommand_stores _ _ hs h

theorem execWrel_stores {s u : State} (r : OpReq) (hs : s.storesWf = true) (h : execWrel r s = .next u) :
    u.storesWf = true := by
  exact State.opCommand_stores _ _ hs h

theorem execAcq_stores {s u : State} (r : OpReq) (hs : s.storesWf = true) (h : execAcq r s = .next u) :
    u.storesWf = true := by
  exact State.opCommand_stores _ _ hs h

theorem execTryAcq_stores {s u : State} (r : OpReq) (hs : s.storesWf = true) (h : execTryAcq r s = .next u) :
    u.storesWf = true := by
  exact State.opCommand_stores _ _ hs h

theorem execRel_stores {s u : State} (r : OpReq) (hs : s.storesWf = true) (h : execRel r s = .next u) :
    u.storesWf = true := by
  exact State.opCommand_stores _ _ hs h

theorem execFrel_stores {s u : State} (r : OpReq) (hs : s.storesWf = true) (h : execFrel r s = .next u) :
    u.storesWf = true := by
  exact State.opCommand_stores _ _ hs h

theorem execRead_stores {s u : State} (r : OpReq) (hs : s.storesWf = true) (h : execRead r s = .next u) :
    u.storesWf = true := by
  exact State.opCommand_stores _ _ hs h

theorem execInit_stores {s u : State} (r : OpReq) (hs : s.storesWf = true) (h : execInit r s = .next u) :
    u.storesWf = true := by
  exact State.opCommand_stores _ _ hs h

theorem execFadd_stores {s u : State} (r : OpReq) (hs : s.storesWf = true) (h : execFadd r s = .next u) :
    u.storesWf = true := by
  exact State.opCommand_stores _ _ hs h

theorem execSwap_stores {s u : State} (r : OpReq) (hs : s.storesWf = true) (h : execSwap r s = .next u) :
    u.storesWf = true := by
  exact State.opCommand_stores _ _ hs h

theorem execCas_stores {s u : State} (r : OpReq) (hs : s.storesWf = true) (h : execCas r s = .next u) :
    u.storesWf = true := by
  exact State.opCommand_stores _ _ hs h

theorem execArm_stores {s u : State} (r : OpReq) (hs : s.storesWf = true) (h : execArm r s = .next u) :
    u.storesWf = true := by
  exact State.opCommand_stores _ _ hs h

theorem execDisarm_stores {s u : State} (r : OpReq) (hs : s.storesWf = true) (h : execDisarm r s = .next u) :
    u.storesWf = true := by
  exact State.opCommand_stores _ _ hs h

theorem execHold_stores {s u : State} (r : OpReq) (hs : s.storesWf = true) (h : execHold r s = .next u) :
    u.storesWf = true := by
  exact State.opCommand_stores _ _ hs h

theorem execResume_stores {s u : State} (r : OpReq) (hs : s.storesWf = true) (h : execResume r s = .next u) :
    u.storesWf = true := by
  exact State.opCommand_stores _ _ hs h

theorem execPark_stores {s u : State} (r : OpReq) (hs : s.storesWf = true) (h : execPark r s = .next u) :
    u.storesWf = true := by
  exact State.opCommand_stores _ _ hs h

theorem execUnpark_stores {s u : State} (r : OpReq) (hs : s.storesWf = true) (h : execUnpark r s = .next u) :
    u.storesWf = true := by
  exact State.opCommand_stores _ _ hs h

theorem execFence_stores {s u : State} (r : OpReq) (hs : s.storesWf = true) (h : execFence r s = .next u) :
    u.storesWf = true := by
  exact State.opCommand_stores _ _ hs h

theorem execCompletionDelivery_stores {s u : State} (t : RspTarget) (hs : s.storesWf = true) (h :
    execCompletionDelivery t s = .next u) :
    u.storesWf = true := by
  unfold execCompletionDelivery at h
  split at h
  · rw [atPort_next h]
    simp +contextual +zetaDelta (maxDischargeDepth := 40) only [hs, State.whenLive_stores,
      State.completionDelivery_stores, stores_ite, stores_ite_fst, implies_true, forall_const]
  · cases h
    simp +contextual +zetaDelta (maxDischargeDepth := 40) only [hs, State.whenLive_stores,
      State.completionDelivery_stores, stores_ite, stores_ite_fst, implies_true, forall_const]

theorem execStgInvalAck_stores {s u : State} (port : Nat) (hs : s.storesWf = true) (h : execStgInvalAck port s =
    .next u) :
    u.storesWf = true := by
  unfold execStgInvalAck at h
  rw [atPort_next h]
  simp +contextual +zetaDelta (maxDischargeDepth := 40) only [hs, State.whenLive_stores, State.ackInval_stores,
    stores_ite, stores_ite_fst, implies_true, forall_const]

theorem execRelDrainEnd_stores {s u : State} (port : Nat) (hs : s.storesWf = true) (h : execRelDrainEnd port s =
    .next u) :
    u.storesWf = true := by
  unfold execRelDrainEnd at h
  rw [atPort_next h]
  simp +contextual +zetaDelta (maxDischargeDepth := 40) only [hs, State.whenLive_stores, State.endDrain_stores,
    stores_ite, stores_ite_fst, implies_true, forall_const]

theorem execResponseRead_stores {s u : State} (port : Nat) (lane : Nat) (hs : s.storesWf = true) (h :
    execResponseRead port lane s = .next u) :
    u.storesWf = true := by
  unfold execResponseRead at h
  rw [atPort_next h]
  simp +contextual +zetaDelta (maxDischargeDepth := 40) only [hs, State.whenLive_stores, State.readBeat_stores,
    stores_ite, stores_ite_fst, implies_true, forall_const]

theorem execTicketRemove_stores {s u : State} (port : Nat) (hs : s.storesWf = true) (h : execTicketRemove port s =
    .next u) :
    u.storesWf = true := by
  unfold execTicketRemove at h
  rw [atPort_next h]
  simp +contextual +zetaDelta (maxDischargeDepth := 40) only [hs, State.whenLive_stores,
    State.removeTicket_stores, stores_ite, stores_ite_fst, implies_true, forall_const]

theorem execBucketRefill_stores {s u : State} (b : BucketId) (hs : s.storesWf = true) (h : execBucketRefill b s =
    .next u) :
    u.storesWf = true := by
  unfold execBucketRefill at h
  split at h <;> cases h
  simp +contextual +zetaDelta (maxDischargeDepth := 40) only [hs, State.whenLive_stores,
    State.refillBucket_stores, stores_ite, stores_ite_fst, implies_true, forall_const]

theorem execShimSurroundWait_stores {s u : State} (port : Nat) (sig : SurroundSignal) (hs : s.storesWf = true) (h
    : execShimSurroundWait port sig s = .next u) :
    u.storesWf = true := by
  unfold execShimSurroundWait at h
  rw [atPort_next h]
  simp +contextual +zetaDelta (maxDischargeDepth := 40) only [hs, State.whenLive_stores,
    State.surroundWait_stores, stores_ite, stores_ite_fst, implies_true, forall_const]

theorem execCoreReset_stores {s u : State} (port : Nat) (hs : s.storesWf = true) (h : execCoreReset port s = .next
    u) :
    u.storesWf = true := by
  unfold execCoreReset at h
  rw [atPort_next h]
  simp +contextual +zetaDelta (maxDischargeDepth := 40) only [hs, State.coreResetEvent_stores, stores_ite,
    stores_ite_fst, implies_true, forall_const]

theorem execRegisteredBarrierResetCheck_stores {s u : State} (port : Nat) (index : Nat) (hs : s.storesWf = true)
    (h : execRegisteredBarrierResetCheck port index s = .next u) :
    u.storesWf = true := by
  unfold execRegisteredBarrierResetCheck at h
  rw [atPort_next h]
  simp +contextual +zetaDelta (maxDischargeDepth := 40) only [hs, State.whenLive_stores, State.resetCheck_stores,
    stores_ite, stores_ite_fst, implies_true, forall_const]

theorem execWaiterExpiry_stores {s u : State} (num : Nat) (hs : s.storesWf = true) (h : execWaiterExpiry num s =
    .next u) :
    u.storesWf = true := by
  unfold execWaiterExpiry at h
  rw [atUnit_next h]
  simp +contextual +zetaDelta (maxDischargeDepth := 40) only [hs, State.whenWalks_stores, State.expire_stores,
    stores_ite, stores_ite_fst, implies_true, forall_const]

theorem execAgedWalk_stores {s u : State}  (hs : s.storesWf = true) (h : execAgedWalk s = .next u) :
    u.storesWf = true := by
  exact stores_of_wipe (execAgedWalk_wipe  0x7dfa7c1cf2fff (by decide) h) hs

theorem execScrubAccess_stores {s u : State} (w : StoreWord) (hs : s.storesWf = true) (h : execScrubAccess w s =
    .next u) :
    u.storesWf = true := by
  unfold execScrubAccess at h
  split at h <;> cases h
  simp +contextual +zetaDelta (maxDischargeDepth := 40) only [hs, State.scrub_stores, stores_ite, stores_ite_fst,
    implies_true, forall_const]

theorem execLoanRecallDelay_stores {s u : State} (index : Nat) (hs : s.storesWf = true) (h : execLoanRecallDelay
    index s = .next u) :
    u.storesWf = true := by
  unfold execLoanRecallDelay at h
  rw [atUnit_next h]
  simp +contextual +zetaDelta (maxDischargeDepth := 40) only [hs, State.whenLive_stores, State.recallDelay_stores,
    stores_ite, stores_ite_fst, implies_true, forall_const]

theorem execLoanIdleReturn_stores {s u : State} (entry : Nat) (hs : s.storesWf = true) (h : execLoanIdleReturn
    entry s = .next u) :
    u.storesWf = true := by
  unfold execLoanIdleReturn at h
  rw [atUnit_next h]
  simp +contextual +zetaDelta (maxDischargeDepth := 40) only [hs, State.whenLive_stores, State.idleReturn_stores,
    stores_ite, stores_ite_fst, implies_true, forall_const]

theorem execLoanLinkLoss_stores {s u : State} (hub : HubId) (hs : s.storesWf = true) (h : execLoanLinkLoss hub s =
    .next u) :
    u.storesWf = true := by
  unfold execLoanLinkLoss at h
  cases h
  simp +contextual +zetaDelta (maxDischargeDepth := 40) only [hs, State.whenLive_stores,
    State.loanLinkLoss_stores, stores_ite, stores_ite_fst, implies_true, forall_const]

theorem execLockLinkLoss_stores {s u : State} (hub : HubId) (hs : s.storesWf = true) (h : execLockLinkLoss hub s =
    .next u) :
    u.storesWf = true := by
  unfold execLockLinkLoss at h
  cases h
  simp +contextual +zetaDelta (maxDischargeDepth := 40) only [hs, State.whenLive_stores,
    State.lockLinkLoss_stores, stores_ite, stores_ite_fst, implies_true, forall_const]

theorem execTreeLinkLoss_stores {s u : State} (index : Nat) (hs : s.storesWf = true) (h : execTreeLinkLoss index s
    = .next u) :
    u.storesWf = true := by
  unfold execTreeLinkLoss at h
  rw [atUnit_next h]
  simp +contextual +zetaDelta (maxDischargeDepth := 40) only [hs, State.whenLive_stores,
    State.treeLinkLoss_stores, stores_ite, stores_ite_fst, implies_true, forall_const]

theorem execTreeGrantUndeliverable_stores {s u : State} (index : Nat) (hs : s.storesWf = true) (h :
    execTreeGrantUndeliverable index s = .next u) :
    u.storesWf = true := by
  unfold execTreeGrantUndeliverable at h
  rw [atUnit_next h]
  simp +contextual +zetaDelta (maxDischargeDepth := 40) only [hs, State.whenLive_stores,
    State.grantUndeliverable_stores, stores_ite, stores_ite_fst, implies_true, forall_const]

theorem execRouteStrand_stores {s u : State} (hub : HubId) (hs : s.storesWf = true) (h : execRouteStrand hub s =
    .next u) :
    u.storesWf = true := by
  unfold execRouteStrand at h
  cases h
  simp +contextual +zetaDelta (maxDischargeDepth := 40) only [hs, State.whenLive_stores, State.routeStrand_stores,
    stores_ite, stores_ite_fst, implies_true, forall_const]

theorem execLinkHoldExpiry_stores {s u : State} (port : Nat) (hs : s.storesWf = true) (h : execLinkHoldExpiry port
    s = .next u) :
    u.storesWf = true := by
  unfold execLinkHoldExpiry at h
  rw [atLink_next h]
  simp +contextual +zetaDelta (maxDischargeDepth := 40) only [hs, State.whenLive_stores, State.holdExpiry_stores,
    stores_ite, stores_ite_fst, implies_true, forall_const]

theorem execRouteSettle_stores {s u : State} (port : Nat) (hs : s.storesWf = true) (h : execRouteSettle port s =
    .next u) :
    u.storesWf = true := by
  unfold execRouteSettle at h
  rw [atLink_next h]
  simp +contextual +zetaDelta (maxDischargeDepth := 40) only [hs, State.whenLive_stores, State.routeSettle_stores,
    stores_ite, stores_ite_fst, implies_true, forall_const]

theorem execReplayTimeout_stores {s u : State} (port : Nat) (hs : s.storesWf = true) (h : execReplayTimeout port s
    = .next u) :
    u.storesWf = true := by
  unfold execReplayTimeout at h
  rw [atLink_next h]
  simp +contextual +zetaDelta (maxDischargeDepth := 40) only [hs, State.whenLive_stores,
    State.replayTimeout_stores, stores_ite, stores_ite_fst, implies_true, forall_const]

theorem execRetryLimit_stores {s u : State} (port : Nat) (hs : s.storesWf = true) (h : execRetryLimit port s =
    .next u) :
    u.storesWf = true := by
  unfold execRetryLimit at h
  rw [atLink_next h]
  simp +contextual +zetaDelta (maxDischargeDepth := 40) only [hs, State.whenLive_stores, State.retryLimit_stores,
    stores_ite, stores_ite_fst, implies_true, forall_const]

theorem execNegResend_stores {s u : State} (port : Nat) (hs : s.storesWf = true) (h : execNegResend port s = .next
    u) :
    u.storesWf = true := by
  unfold execNegResend at h
  rw [atLink_next h]
  simp +contextual +zetaDelta (maxDischargeDepth := 40) only [hs, State.whenLive_stores, State.negResend_stores,
    stores_ite, stores_ite_fst, implies_true, forall_const]

theorem execNegotiationTimeout_stores {s u : State} (port : Nat) (hs : s.storesWf = true) (h :
    execNegotiationTimeout port s = .next u) :
    u.storesWf = true := by
  unfold execNegotiationTimeout at h
  rw [atLink_next h]
  simp +contextual +zetaDelta (maxDischargeDepth := 40) only [hs, State.whenLive_stores, State.negTimeout_stores,
    stores_ite, stores_ite_fst, implies_true, forall_const]

theorem execAckCtrlSend_stores {s u : State} (port : Nat) (hs : s.storesWf = true) (h : execAckCtrlSend port s =
    .next u) :
    u.storesWf = true := by
  unfold execAckCtrlSend at h
  rw [atLink_next h]
  simp +contextual +zetaDelta (maxDischargeDepth := 40) only [hs, State.whenLive_stores, State.ackCtrl_stores,
    stores_ite, stores_ite_fst, implies_true, forall_const]

theorem execTimeExchange_stores {s u : State}  (hs : s.storesWf = true) (h : execTimeExchange s = .next u) :
    u.storesWf = true := by
  unfold execTimeExchange at h
  cases h
  simp +contextual +zetaDelta (maxDischargeDepth := 40) only [hs, State.whenLive_stores,
    State.timeExchange_stores, stores_ite, stores_ite_fst, implies_true, forall_const]

theorem execTimeHoldoverLimit_stores {s u : State}  (hs : s.storesWf = true) (h : execTimeHoldoverLimit s = .next
    u) :
    u.storesWf = true := by
  unfold execTimeHoldoverLimit at h
  cases h
  simp +contextual +zetaDelta (maxDischargeDepth := 40) only [hs, State.whenLive_stores,
    State.holdoverLimit_stores, stores_ite, stores_ite_fst, implies_true, forall_const]

theorem execStocktakeRound_stores {s u : State} (partition : Nat) (hs : s.storesWf = true) (h : execStocktakeRound
    partition s = .next u) :
    u.storesWf = true := by
  unfold execStocktakeRound at h
  rw [atUnit_next h]
  simp +contextual +zetaDelta (maxDischargeDepth := 40) only [hs, State.whenLive_stores, State.stockRound_stores,
    stores_ite, stores_ite_fst, implies_true, forall_const]

theorem execDepositHoldLimit_stores {s u : State} (partition : Nat) (rule : Nat) (hs : s.storesWf = true) (h :
    execDepositHoldLimit partition rule s = .next u) :
    u.storesWf = true := by
  unfold execDepositHoldLimit at h
  rw [atPair_next h]
  simp +contextual +zetaDelta (maxDischargeDepth := 40) only [hs, State.whenLive_stores,
    State.depositLimit_stores, stores_ite, stores_ite_fst, implies_true, forall_const]

theorem execApertureStallLimit_stores {s u : State} (slot : Nat) (hs : s.storesWf = true) (h :
    execApertureStallLimit slot s = .next u) :
    u.storesWf = true := by
  unfold execApertureStallLimit at h
  rw [atUnit_next h]
  simp +contextual +zetaDelta (maxDischargeDepth := 40) only [hs, State.whenLive_stores, State.stallLimit_stores,
    stores_ite, stores_ite_fst, implies_true, forall_const]

theorem execStageRestart_stores {s u : State} (stage : Nat) (port : Nat) (items : List CapturedItem) (testPasses :
    Bool) (hs : s.storesWf = true) (h : execStageRestart stage port items testPasses s = .next u) :
    u.storesWf = true := by
  unfold execStageRestart at h
  split at h <;> cases h
  simp +contextual +zetaDelta (maxDischargeDepth := 40) only [hs, State.whenClocked_stores, State.restart_stores,
    stores_ite, stores_ite_fst, implies_true, forall_const]

theorem execStageRetry_stores {s u : State} (stage : Nat) (port : Nat) (testPasses : Bool) (hs : s.storesWf =
    true) (h : execStageRetry stage port testPasses s = .next u) :
    u.storesWf = true := by
  unfold execStageRetry at h
  split at h <;> cases h
  simp +contextual +zetaDelta (maxDischargeDepth := 40) only [hs, State.whenClocked_stores,
    State.retryStage_stores, stores_ite, stores_ite_fst, implies_true, forall_const]

theorem execPartQuiesceWait_stores {s u : State} (partition : Nat) (hs : s.storesWf = true) (h :
    execPartQuiesceWait partition s = .next u) :
    u.storesWf = true := by
  unfold execPartQuiesceWait at h
  rw [atUnit_next h]
  simp +contextual +zetaDelta (maxDischargeDepth := 40) only [hs, State.whenLive_stores, State.quiesceWait_stores,
    stores_ite, stores_ite_fst, implies_true, forall_const]

theorem execEvInputChange_stores {s u : State} (input : Nat) (level : Bool) (hs : s.storesWf = true) (h :
    execEvInputChange input level s = .next u) :
    u.storesWf = true := by
  unfold execEvInputChange at h
  rw [atUnit_next h]
  simp +contextual +zetaDelta (maxDischargeDepth := 40) only [hs, State.evInput_stores, stores_ite,
    stores_ite_fst, implies_true, forall_const]

theorem execEvDeferredSig_stores {s u : State} (input : Nat) (hs : s.storesWf = true) (h : execEvDeferredSig input
    s = .next u) :
    u.storesWf = true := by
  unfold execEvDeferredSig at h
  rw [atUnit_next h]
  simp +contextual +zetaDelta (maxDischargeDepth := 40) only [hs, State.whenClocked_stores,
    State.evDeferred_stores, stores_ite, stores_ite_fst, implies_true, forall_const]

theorem execEvLevelApply_stores {s u : State} (input : Nat) (hs : s.storesWf = true) (h : execEvLevelApply input s
    = .next u) :
    u.storesWf = true := by
  unfold execEvLevelApply at h
  rw [atUnit_next h]
  simp +contextual +zetaDelta (maxDischargeDepth := 40) only [hs, State.whenClocked_stores, State.evLevel_stores,
    stores_ite, stores_ite_fst, implies_true, forall_const]

theorem execNotifyIrqHoldoff_stores {s u : State} (ring : Nat) (hs : s.storesWf = true) (h : execNotifyIrqHoldoff
    ring s = .next u) :
    u.storesWf = true := by
  unfold execNotifyIrqHoldoff at h
  rw [atUnit_next h]
  simp +contextual +zetaDelta (maxDischargeDepth := 40) only [hs, State.whenLive_stores, State.holdoffEnd_stores,
    stores_ite, stores_ite_fst, implies_true, forall_const]

theorem execMctpReassemblyTimeout_stores {s u : State} (eid : BitVec 8) (tag : BitVec 3) (hs : s.storesWf = true)
    (h : execMctpReassemblyTimeout eid tag s = .next u) :
    u.storesWf = true := by
  unfold execMctpReassemblyTimeout at h
  cases h
  simp +contextual +zetaDelta (maxDischargeDepth := 40) only [hs, State.dropIncomplete_stores, stores_ite,
    stores_ite_fst, implies_true, forall_const]

theorem execFolioTrigTime_stores {s u : State}  (hs : s.storesWf = true) (h : execFolioTrigTime s = .next u) :
    u.storesWf = true := by
  unfold execFolioTrigTime at h
  cases h
  simp +contextual +zetaDelta (maxDischargeDepth := 40) only [hs, State.whenLive_stores, State.folioTime_stores,
    stores_ite, stores_ite_fst, implies_true, forall_const]

theorem execShelfTimeLatch_stores {s u : State} (partition : Nat) (shelf : Nat) (hs : s.storesWf = true) (h :
    execShelfTimeLatch partition shelf s = .next u) :
    u.storesWf = true := by
  unfold execShelfTimeLatch at h
  rw [atPair_next h]
  simp +contextual +zetaDelta (maxDischargeDepth := 40) only [hs, State.whenLive_stores, State.shelfTime_stores,
    stores_ite, stores_ite_fst, implies_true, forall_const]

theorem execHoldPeerTimeout_stores {s u : State} (partition : Nat) (hs : s.storesWf = true) (h :
    execHoldPeerTimeout partition s = .next u) :
    u.storesWf = true := by
  unfold execHoldPeerTimeout at h
  rw [atUnit_next h]
  simp +contextual +zetaDelta (maxDischargeDepth := 40) only [hs, State.whenLive_stores, State.holdLate_stores,
    stores_ite, stores_ite_fst, implies_true, forall_const]

theorem execResetPeerTimeout_stores {s u : State} (partition : Nat) (hub : HubId) (hs : s.storesWf = true) (h :
    execResetPeerTimeout partition hub s = .next u) :
    u.storesWf = true := by
  unfold execResetPeerTimeout at h
  rw [atUnit_next h]
  simp +contextual +zetaDelta (maxDischargeDepth := 40) only [hs, State.whenLive_stores,
    State.resetMissing_stores, stores_ite, stores_ite_fst, implies_true, forall_const]

theorem execShelfPeerTimeout_stores {s u : State} (partition : Nat) (shelf : Nat) (hs : s.storesWf = true) (h :
    execShelfPeerTimeout partition shelf s = .next u) :
    u.storesWf = true := by
  unfold execShelfPeerTimeout at h
  rw [atPair_next h]
  simp +contextual +zetaDelta (maxDischargeDepth := 40) only [hs, State.whenLive_stores,
    State.shelfMissing_stores, stores_ite, stores_ite_fst, implies_true, forall_const]

theorem execHubReset_stores {s u : State} (supply : Bool) (hs : s.storesWf = true) (h : execHubReset supply s =
    .next u) :
    u.storesWf = true := by
  unfold execHubReset at h
  cases h
  simp +contextual +zetaDelta (maxDischargeDepth := 40) only [hs, State.hubReset_stores, stores_ite,
    stores_ite_fst, implies_true, forall_const]

theorem execStartup_stores {s u : State} (device : BitVec 12) (die : BitVec 3) (refSel : BitVec 3) (portsAbsent :
    BitVec 128) (hs : s.storesWf = true) (h : execStartup device die refSel portsAbsent s = .next u) :
    u.storesWf = true := by
  unfold execStartup at h
  cases h
  simp +contextual +zetaDelta (maxDischargeDepth := 40) only [hs, State.startup_stores, stores_ite,
    stores_ite_fst, implies_true, forall_const]

theorem execStartupComplete_stores {s u : State}  (hs : s.storesWf = true) (h : execStartupComplete s = .next u) :
    u.storesWf = true := by
  unfold execStartupComplete at h
  cases h
  simp +contextual +zetaDelta (maxDischargeDepth := 40) only [hs, State.startupComplete_stores, stores_ite,
    stores_ite_fst, implies_true, forall_const]

theorem execRefclkLoss_stores {s u : State}  (hs : s.storesWf = true) (h : execRefclkLoss s = .next u) :
    u.storesWf = true := by
  unfold execRefclkLoss at h
  cases h
  simp +contextual +zetaDelta (maxDischargeDepth := 40) only [hs, State.refLoss_stores, stores_ite,
    stores_ite_fst, implies_true, forall_const]

theorem execRefclkReturn_stores {s u : State}  (hs : s.storesWf = true) (h : execRefclkReturn s = .next u) :
    u.storesWf = true := by
  exact stores_of_wipe (execRefclkReturn_wipe  0x7dfa7c1cf2fff (by decide) h) hs

theorem execPhyUp_stores {s u : State} (port : Nat) (lanes : BitVec 3) (hs : s.storesWf = true) (h : execPhyUp
    port lanes s = .next u) :
    u.storesWf = true := by
  unfold execPhyUp at h
  rw [atLink_next h]
  simp +contextual +zetaDelta (maxDischargeDepth := 40) only [hs, State.phyUpEvent_stores, stores_ite,
    stores_ite_fst, implies_true, forall_const]

theorem execPhyDown_stores {s u : State} (port : Nat) (hs : s.storesWf = true) (h : execPhyDown port s = .next u)
    :
    u.storesWf = true := by
  unfold execPhyDown at h
  rw [atLink_next h]
  simp +contextual +zetaDelta (maxDischargeDepth := 40) only [hs, State.phyDownEvent_stores, stores_ite,
    stores_ite_fst, implies_true, forall_const]

theorem execPartQuiesceAckRise_stores {s u : State} (partition : Nat) (hs : s.storesWf = true) (h :
    execPartQuiesceAckRise partition s = .next u) :
    u.storesWf = true := by
  unfold execPartQuiesceAckRise at h
  rw [atUnit_next h]
  simp +contextual +zetaDelta (maxDischargeDepth := 40) only [hs, State.ackRiseEvent_stores, stores_ite,
    stores_ite_fst, implies_true, forall_const]

theorem execPartQuiesceAckFall_stores {s u : State} (partition : Nat) (hs : s.storesWf = true) (h :
    execPartQuiesceAckFall partition s = .next u) :
    u.storesWf = true := by
  unfold execPartQuiesceAckFall at h
  rw [atUnit_next h]
  simp +contextual +zetaDelta (maxDischargeDepth := 40) only [hs, State.ackFallEvent_stores, stores_ite,
    stores_ite_fst, implies_true, forall_const]

theorem execFlitReceive_stores {s u : State} (port : Nat) (flit : BitVec 256) (bad : Bool) (hs : s.storesWf =
    true) (h : execFlitReceive port flit bad s = .next u) :
    u.storesWf = true := by
  unfold execFlitReceive at h
  rw [atLink_next h]
  simp +contextual +zetaDelta (maxDischargeDepth := 40) only [hs, State.receiveFlit_stores, stores_ite,
    stores_ite_fst, implies_true, forall_const]

theorem execCtrl_stores {s u : State} (port : Nat) (flit : BitVec 256) (bad : Bool) (hs : s.storesWf = true) (h :
    execCtrl port flit bad s = .next u) :
    u.storesWf = true := by
  unfold execCtrl at h
  rw [atLink_next h]
  simp +contextual +zetaDelta (maxDischargeDepth := 40) only [hs, State.receiveFlit_stores, stores_ite,
    stores_ite_fst, implies_true, forall_const]

theorem execNeg_stores {s u : State} (port : Nat) (flit : BitVec 256) (bad : Bool) (hs : s.storesWf = true) (h :
    execNeg port flit bad s = .next u) :
    u.storesWf = true := by
  unfold execNeg at h
  rw [atLink_next h]
  simp +contextual +zetaDelta (maxDischargeDepth := 40) only [hs, State.receiveFlit_stores, stores_ite,
    stores_ite_fst, implies_true, forall_const]

theorem execTimeReq_stores {s u : State} (port : Nat) (flit : BitVec 256) (bad : Bool) (hs : s.storesWf = true) (h
    : execTimeReq port flit bad s = .next u) :
    u.storesWf = true := by
  unfold execTimeReq at h
  rw [atLink_next h]
  simp +contextual +zetaDelta (maxDischargeDepth := 40) only [hs, State.receiveFlit_stores, stores_ite,
    stores_ite_fst, implies_true, forall_const]

theorem execTimeRsp_stores {s u : State} (port : Nat) (flit : BitVec 256) (bad : Bool) (hs : s.storesWf = true) (h
    : execTimeRsp port flit bad s = .next u) :
    u.storesWf = true := by
  unfold execTimeRsp at h
  rw [atLink_next h]
  simp +contextual +zetaDelta (maxDischargeDepth := 40) only [hs, State.receiveFlit_stores, stores_ite,
    stores_ite_fst, implies_true, forall_const]

theorem execMessageForward_stores {s u : State} (port : Nat) (m : Msg) (hs : s.storesWf = true) (h :
    execMessageForward port m s = .next u) :
    u.storesWf = true := by
  unfold execMessageForward at h
  rw [atLink_next h]
  simp +contextual +zetaDelta (maxDischargeDepth := 40) only [hs, State.whenLive_stores, State.arriveMsg_stores,
    stores_ite, stores_ite_fst, implies_true, forall_const]

theorem execCpl_stores {s u : State} (h : MsgHdr) (b : CplBody) (hs : s.storesWf = true) (hn : execCpl h b s =
    .next u) :
    u.storesWf = true := by
  unfold execCpl at hn
  cases hn
  simp +contextual +zetaDelta (maxDischargeDepth := 40) only [hs, State.messageCommand_stores, stores_ite,
    stores_ite_fst, implies_true, forall_const]

theorem execFwdArrv_stores {s u : State} (h : MsgHdr) (b : FwdBody) (hs : s.storesWf = true) (hn : execFwdArrv h b
    s = .next u) :
    u.storesWf = true := by
  unfold execFwdArrv at hn
  cases hn
  simp +contextual +zetaDelta (maxDischargeDepth := 40) only [hs, State.messageCommand_stores, stores_ite,
    stores_ite_fst, implies_true, forall_const]

theorem execLoanReq_stores {s u : State} (h : MsgHdr) (b : LoanBody) (hs : s.storesWf = true) (hn : execLoanReq h
    b s = .next u) :
    u.storesWf = true := by
  unfold execLoanReq at hn
  cases hn
  simp +contextual +zetaDelta (maxDischargeDepth := 40) only [hs, State.messageCommand_stores, stores_ite,
    stores_ite_fst, implies_true, forall_const]

theorem execLoanGrantOpen_stores {s u : State} (h : MsgHdr) (b : LoanBody) (hs : s.storesWf = true) (hn :
    execLoanGrantOpen h b s = .next u) :
    u.storesWf = true := by
  unfold execLoanGrantOpen at hn
  cases hn
  simp +contextual +zetaDelta (maxDischargeDepth := 40) only [hs, State.messageCommand_stores, stores_ite,
    stores_ite_fst, implies_true, forall_const]

theorem execLoanGrant_stores {s u : State} (h : MsgHdr) (b : LoanBody) (hs : s.storesWf = true) (hn :
    execLoanGrant h b s = .next u) :
    u.storesWf = true := by
  unfold execLoanGrant at hn
  cases hn
  simp +contextual +zetaDelta (maxDischargeDepth := 40) only [hs, State.messageCommand_stores, stores_ite,
    stores_ite_fst, implies_true, forall_const]

theorem execLoanRecall_stores {s u : State} (h : MsgHdr) (b : LoanBody) (hs : s.storesWf = true) (hn :
    execLoanRecall h b s = .next u) :
    u.storesWf = true := by
  unfold execLoanRecall at hn
  cases hn
  simp +contextual +zetaDelta (maxDischargeDepth := 40) only [hs, State.messageCommand_stores, stores_ite,
    stores_ite_fst, implies_true, forall_const]

theorem execLoanReturn_stores {s u : State} (h : MsgHdr) (b : LoanBody) (hs : s.storesWf = true) (hn :
    execLoanReturn h b s = .next u) :
    u.storesWf = true := by
  unfold execLoanReturn at hn
  cases hn
  simp +contextual +zetaDelta (maxDischargeDepth := 40) only [hs, State.messageCommand_stores, stores_ite,
    stores_ite_fst, implies_true, forall_const]

theorem execHolderReset_stores {s u : State} (h : MsgHdr) (b : HolderResetBody) (hs : s.storesWf = true) (hn :
    execHolderReset h b s = .next u) :
    u.storesWf = true := by
  unfold execHolderReset at hn
  cases hn
  simp +contextual +zetaDelta (maxDischargeDepth := 40) only [hs, State.messageCommand_stores, stores_ite,
    stores_ite_fst, implies_true, forall_const]

theorem execWaiterPurge_stores {s u : State} (h : MsgHdr) (b : WaiterPurgeBody) (hs : s.storesWf = true) (hn :
    execWaiterPurge h b s = .next u) :
    u.storesWf = true := by
  unfold execWaiterPurge at hn
  cases hn
  simp +contextual +zetaDelta (maxDischargeDepth := 40) only [hs, State.messageCommand_stores, stores_ite,
    stores_ite_fst, implies_true, forall_const]

theorem execRouteFence_stores {s u : State} (h : MsgHdr) (b : FenceBody) (hs : s.storesWf = true) (hn :
    execRouteFence h b s = .next u) :
    u.storesWf = true := by
  unfold execRouteFence at hn
  cases hn
  simp +contextual +zetaDelta (maxDischargeDepth := 40) only [hs, State.messageCommand_stores, stores_ite,
    stores_ite_fst, implies_true, forall_const]

theorem execFenceAck_stores {s u : State} (h : MsgHdr) (b : FenceBody) (hs : s.storesWf = true) (hn : execFenceAck
    h b s = .next u) :
    u.storesWf = true := by
  unfold execFenceAck at hn
  cases hn
  simp +contextual +zetaDelta (maxDischargeDepth := 40) only [hs, State.messageCommand_stores, stores_ite,
    stores_ite_fst, implies_true, forall_const]

theorem execHoldReq_stores {s u : State} (h : MsgHdr) (b : HoldBody) (hs : s.storesWf = true) (hn : execHoldReq h
    b s = .next u) :
    u.storesWf = true := by
  unfold execHoldReq at hn
  cases hn
  simp +contextual +zetaDelta (maxDischargeDepth := 40) only [hs, State.messageCommand_stores, stores_ite,
    stores_ite_fst, implies_true, forall_const]

theorem execHoldAck_stores {s u : State} (h : MsgHdr) (b : HoldBody) (hs : s.storesWf = true) (hn : execHoldAck h
    b s = .next u) :
    u.storesWf = true := by
  unfold execHoldAck at hn
  cases hn
  simp +contextual +zetaDelta (maxDischargeDepth := 40) only [hs, State.messageCommand_stores, stores_ite,
    stores_ite_fst, implies_true, forall_const]

theorem execResumeReq_stores {s u : State} (h : MsgHdr) (b : HoldBody) (hs : s.storesWf = true) (hn :
    execResumeReq h b s = .next u) :
    u.storesWf = true := by
  unfold execResumeReq at hn
  cases hn
  simp +contextual +zetaDelta (maxDischargeDepth := 40) only [hs, State.messageCommand_stores, stores_ite,
    stores_ite_fst, implies_true, forall_const]

theorem execResumeAck_stores {s u : State} (h : MsgHdr) (b : HoldBody) (hs : s.storesWf = true) (hn :
    execResumeAck h b s = .next u) :
    u.storesWf = true := by
  unfold execResumeAck at hn
  cases hn
  simp +contextual +zetaDelta (maxDischargeDepth := 40) only [hs, State.messageCommand_stores, stores_ite,
    stores_ite_fst, implies_true, forall_const]

theorem execQuery_stores {s u : State} (h : MsgHdr) (b : StockBody) (hs : s.storesWf = true) (hn : execQuery h b s
    = .next u) :
    u.storesWf = true := by
  unfold execQuery at hn
  cases hn
  simp +contextual +zetaDelta (maxDischargeDepth := 40) only [hs, State.messageCommand_stores, stores_ite,
    stores_ite_fst, implies_true, forall_const]

theorem execReport_stores {s u : State} (h : MsgHdr) (b : StockBody) (hs : s.storesWf = true) (hn : execReport h b
    s = .next u) :
    u.storesWf = true := by
  unfold execReport at hn
  cases hn
  simp +contextual +zetaDelta (maxDischargeDepth := 40) only [hs, State.messageCommand_stores, stores_ite,
    stores_ite_fst, implies_true, forall_const]

theorem execDeclare_stores {s u : State} (h : MsgHdr) (b : StockBody) (hs : s.storesWf = true) (hn : execDeclare h
    b s = .next u) :
    u.storesWf = true := by
  unfold execDeclare at hn
  cases hn
  simp +contextual +zetaDelta (maxDischargeDepth := 40) only [hs, State.messageCommand_stores, stores_ite,
    stores_ite_fst, implies_true, forall_const]

theorem execShelfArm_stores {s u : State} (h : MsgHdr) (b : ShelfBody) (hs : s.storesWf = true) (hn : execShelfArm
    h b s = .next u) :
    u.storesWf = true := by
  unfold execShelfArm at hn
  cases hn
  simp +contextual +zetaDelta (maxDischargeDepth := 40) only [hs, State.messageCommand_stores, stores_ite,
    stores_ite_fst, implies_true, forall_const]

theorem execShelfDone_stores {s u : State} (h : MsgHdr) (b : ShelfBody) (hs : s.storesWf = true) (hn :
    execShelfDone h b s = .next u) :
    u.storesWf = true := by
  unfold execShelfDone at hn
  cases hn
  simp +contextual +zetaDelta (maxDischargeDepth := 40) only [hs, State.messageCommand_stores, stores_ite,
    stores_ite_fst, implies_true, forall_const]

theorem execShelfCancel_stores {s u : State} (h : MsgHdr) (b : ShelfBody) (hs : s.storesWf = true) (hn :
    execShelfCancel h b s = .next u) :
    u.storesWf = true := by
  unfold execShelfCancel at hn
  cases hn
  simp +contextual +zetaDelta (maxDischargeDepth := 40) only [hs, State.messageCommand_stores, stores_ite,
    stores_ite_fst, implies_true, forall_const]

theorem execResetReq_stores {s u : State} (h : MsgHdr) (b : PartCtlBody) (hs : s.storesWf = true) (hn :
    execResetReq h b s = .next u) :
    u.storesWf = true := by
  unfold execResetReq at hn
  cases hn
  simp +contextual +zetaDelta (maxDischargeDepth := 40) only [hs, State.messageCommand_stores, stores_ite,
    stores_ite_fst, implies_true, forall_const]

theorem execResetDone_stores {s u : State} (h : MsgHdr) (b : PartCtlBody) (hs : s.storesWf = true) (hn :
    execResetDone h b s = .next u) :
    u.storesWf = true := by
  unfold execResetDone at hn
  cases hn
  simp +contextual +zetaDelta (maxDischargeDepth := 40) only [hs, State.messageCommand_stores, stores_ite,
    stores_ite_fst, implies_true, forall_const]

theorem execCtxReq_stores {s u : State} (h : MsgHdr) (b : PartCtlBody) (hs : s.storesWf = true) (hn : execCtxReq h
    b s = .next u) :
    u.storesWf = true := by
  unfold execCtxReq at hn
  cases hn
  simp +contextual +zetaDelta (maxDischargeDepth := 40) only [hs, State.messageCommand_stores, stores_ite,
    stores_ite_fst, implies_true, forall_const]

theorem execCtxDone_stores {s u : State} (h : MsgHdr) (b : PartCtlBody) (hs : s.storesWf = true) (hn : execCtxDone
    h b s = .next u) :
    u.storesWf = true := by
  unfold execCtxDone at hn
  cases hn
  simp +contextual +zetaDelta (maxDischargeDepth := 40) only [hs, State.messageCommand_stores, stores_ite,
    stores_ite_fst, implies_true, forall_const]

theorem execFaultNotice_stores {s u : State} (h : MsgHdr) (b : PartCtlBody) (hs : s.storesWf = true) (hn :
    execFaultNotice h b s = .next u) :
    u.storesWf = true := by
  unfold execFaultNotice at hn
  cases hn
  simp +contextual +zetaDelta (maxDischargeDepth := 40) only [hs, State.messageCommand_stores, stores_ite,
    stores_ite_fst, implies_true, forall_const]

theorem execTemplateWrite_stores {s u : State} (src : TemplateSource) (word : BitVec 2) (handle : Handle) (data :
    BitVec 64) (hs : s.storesWf = true) (h : execTemplateWrite src word handle data s = .next u) :
    u.storesWf = true := by
  exact State.templateCommand_stores _ _ _ _ hs h

theorem execConsumerIndexWrite_stores {s u : State} (via : IndexWriteVia) (ring : RingName) (value : BitVec 32)
    (hs : s.storesWf = true) (h : execConsumerIndexWrite via ring value s = .next u) :
    u.storesWf = true := by
  unfold execConsumerIndexWrite at h
  cases h
  simp +contextual +zetaDelta (maxDischargeDepth := 40) only [hs, State.indexCommand_stores, stores_ite,
    stores_ite_fst, implies_true, forall_const]

theorem execTicketRingWriteDone_stores {s u : State}  (hs : s.storesWf = true) (h : execTicketRingWriteDone s =
    .next u) :
    u.storesWf = true := by
  unfold execTicketRingWriteDone at h
  cases h
  simp +contextual +zetaDelta (maxDischargeDepth := 40) only [hs, State.whenLive_stores, State.onWrite_stores,
    State.ticketWritten_stores, stores_ite, stores_ite_fst, implies_true, forall_const]

theorem execNotifyWriteDone_stores {s u : State}  (hs : s.storesWf = true) (h : execNotifyWriteDone s = .next u) :
    u.storesWf = true := by
  unfold execNotifyWriteDone at h
  cases h
  simp +contextual +zetaDelta (maxDischargeDepth := 40) only [hs, State.whenLive_stores, State.onWrite_stores,
    State.notifyWritten_stores, stores_ite, stores_ite_fst, implies_true, forall_const]

theorem execManagerWriteError_stores {s u : State} (kind : BitVec 2) (resp : BitVec 2) (hs : s.storesWf = true) (h
    : execManagerWriteError kind resp s = .next u) :
    u.storesWf = true := by
  unfold execManagerWriteError at h
  cases h
  simp +contextual +zetaDelta (maxDischargeDepth := 40) only [hs, State.whenLive_stores, State.onWrite_stores,
    State.writeError_stores, stores_ite, stores_ite_fst, implies_true, forall_const]

theorem execFolioDumpDone_stores {s u : State}  (hs : s.storesWf = true) (h : execFolioDumpDone s = .next u) :
    u.storesWf = true := by
  unfold execFolioDumpDone at h
  cases h
  simp +contextual +zetaDelta (maxDischargeDepth := 40) only [hs, State.whenLive_stores, State.folioDumped_stores,
    stores_ite, stores_ite_fst, implies_true, forall_const]

theorem execInventoryDone_stores {s u : State} (partition : Nat) (hs : s.storesWf = true) (h : execInventoryDone
    partition s = .next u) :
    u.storesWf = true := by
  unfold execInventoryDone at h
  rw [atUnit_next h]
  simp +contextual +zetaDelta (maxDischargeDepth := 40) only [hs, State.whenLive_stores,
    State.inventoryDone_stores, stores_ite, stores_ite_fst, implies_true, forall_const]

theorem execPartReset_stores {s u : State} (h : CatHdr) (v : BitVec 8) (hs : s.storesWf = true) (hn :
    execPartReset h v s = .next u) :
    u.storesWf = true := by
  unfold execPartReset at hn
  cases hn
  simp +contextual +zetaDelta (maxDischargeDepth := 40) only [hs, State.entryCommand_stores, stores_ite,
    stores_ite_fst, implies_true, forall_const]

theorem execPartContext_stores {s u : State} (h : CatHdr) (v : BitVec 64) (hs : s.storesWf = true) (hn :
    execPartContext h v s = .next u) :
    u.storesWf = true := by
  unfold execPartContext at hn
  cases hn
  simp +contextual +zetaDelta (maxDischargeDepth := 40) only [hs, State.entryCommand_stores, stores_ite,
    stores_ite_fst, implies_true, forall_const]

theorem execPartQuiesceOverride_stores {s u : State} (h : CatHdr) (v : BitVec 8) (hs : s.storesWf = true) (hn :
    execPartQuiesceOverride h v s = .next u) :
    u.storesWf = true := by
  unfold execPartQuiesceOverride at hn
  cases hn
  simp +contextual +zetaDelta (maxDischargeDepth := 40) only [hs, State.entryCommand_stores, stores_ite,
    stores_ite_fst, implies_true, forall_const]

theorem execResliceTarget_stores {s u : State} (h : CatHdr) (v : BitVec 8) (hs : s.storesWf = true) (hn :
    execResliceTarget h v s = .next u) :
    u.storesWf = true := by
  unfold execResliceTarget at hn
  cases hn
  simp +contextual +zetaDelta (maxDischargeDepth := 40) only [hs, State.entryCommand_stores, stores_ite,
    stores_ite_fst, implies_true, forall_const]

theorem execResliceDrained_stores {s u : State}  (hs : s.storesWf = true) (h : execResliceDrained s = .next u) :
    u.storesWf = true := by
  unfold execResliceDrained at h
  cases h
  simp +contextual +zetaDelta (maxDischargeDepth := 40) only [hs, State.whenLive_stores,
    State.resliceDrained_stores, stores_ite, stores_ite_fst, implies_true, forall_const]

theorem execResliceAbort_stores {s u : State} (h : CatHdr) (v : BitVec 8) (hs : s.storesWf = true) (hn :
    execResliceAbort h v s = .next u) :
    u.storesWf = true := by
  unfold execResliceAbort at hn
  cases hn
  simp +contextual +zetaDelta (maxDischargeDepth := 40) only [hs, State.entryCommand_stores, stores_ite,
    stores_ite_fst, implies_true, forall_const]

theorem execPortPartition_stores {s u : State} (h : CatHdr) (port : Nat) (v : BitVec 8) (hs : s.storesWf = true)
    (hn : execPortPartition h port v s = .next u) :
    u.storesWf = true := by
  unfold execPortPartition at hn
  cases hn
  simp +contextual +zetaDelta (maxDischargeDepth := 40) only [hs, State.entryCommand_stores, stores_ite,
    stores_ite_fst, implies_true, forall_const]

theorem execWaiterCancelObject_stores {s u : State} (h : CatHdr) (v : BitVec 32) (hs : s.storesWf = true) (hn :
    execWaiterCancelObject h v s = .next u) :
    u.storesWf = true := by
  unfold execWaiterCancelObject at hn
  cases hn
  simp +contextual +zetaDelta (maxDischargeDepth := 40) only [hs, State.entryCommand_stores, stores_ite,
    stores_ite_fst, implies_true, forall_const]

theorem execWaiterCancelOriginator_stores {s u : State} (h : CatHdr) (v : BitVec 32) (hs : s.storesWf = true) (hn
    : execWaiterCancelOriginator h v s = .next u) :
    u.storesWf = true := by
  unfold execWaiterCancelOriginator at hn
  cases hn
  simp +contextual +zetaDelta (maxDischargeDepth := 40) only [hs, State.entryCommand_stores, stores_ite,
    stores_ite_fst, implies_true, forall_const]

theorem execLoanRecallToken_stores {s u : State} (h : CatHdr) (v : BitVec 32) (hs : s.storesWf = true) (hn :
    execLoanRecallToken h v s = .next u) :
    u.storesWf = true := by
  unfold execLoanRecallToken at hn
  cases hn
  simp +contextual +zetaDelta (maxDischargeDepth := 40) only [hs, State.entryCommand_stores, stores_ite,
    stores_ite_fst, implies_true, forall_const]

theorem execLockClearAbandoned_stores {s u : State} (h : CatHdr) (v : BitVec 32) (hs : s.storesWf = true) (hn :
    execLockClearAbandoned h v s = .next u) :
    u.storesWf = true := by
  unfold execLockClearAbandoned at hn
  cases hn
  simp +contextual +zetaDelta (maxDischargeDepth := 40) only [hs, State.entryCommand_stores, stores_ite,
    stores_ite_fst, implies_true, forall_const]

theorem execLockGroupMode_stores {s u : State} (h : CatHdr) (group : Nat) (v : BitVec 8) (hs : s.storesWf = true)
    (hn : execLockGroupMode h group v s = .next u) :
    u.storesWf = true := by
  unfold execLockGroupMode at hn
  cases hn
  simp +contextual +zetaDelta (maxDischargeDepth := 40) only [hs, State.entryCommand_stores, stores_ite,
    stores_ite_fst, implies_true, forall_const]

theorem execLinkRenegotiate_stores {s u : State} (h : CatHdr) (port : Nat) (sub : BitVec 8) (v : BitVec 8) (hs :
    s.storesWf = true) (hn : execLinkRenegotiate h port sub v s = .next u) :
    u.storesWf = true := by
  unfold execLinkRenegotiate at hn
  cases hn
  simp +contextual +zetaDelta (maxDischargeDepth := 40) only [hs, State.entryCommand_stores, stores_ite,
    stores_ite_fst, implies_true, forall_const]

theorem execRouteEntry_stores {s u : State} (h : CatHdr) (v : BitVec 32) (hs : s.storesWf = true) (hn :
    execRouteEntry h v s = .next u) :
    u.storesWf = true := by
  unfold execRouteEntry at hn
  cases hn
  simp +contextual +zetaDelta (maxDischargeDepth := 40) only [hs, State.entryCommand_stores, stores_ite,
    stores_ite_fst, implies_true, forall_const]

theorem execTimeSet_stores {s u : State} (h : CatHdr) (v : Time) (hs : s.storesWf = true) (hn : execTimeSet h v s
    = .next u) :
    u.storesWf = true := by
  unfold execTimeSet at hn
  cases hn
  simp +contextual +zetaDelta (maxDischargeDepth := 40) only [hs, State.entryCommand_stores, stores_ite,
    stores_ite_fst, implies_true, forall_const]

theorem execTicketRingConfigWrite_stores {s u : State} (h : CatHdr) (ring : Nat) (size : Bool) (v : BitVec 64) (hs
    : s.storesWf = true) (hn : execTicketRingConfigWrite h ring size v s = .next u) :
    u.storesWf = true := by
  unfold execTicketRingConfigWrite at hn
  cases hn
  simp +contextual +zetaDelta (maxDischargeDepth := 40) only [hs, State.entryCommand_stores, stores_ite,
    stores_ite_fst, implies_true, forall_const]

theorem execNotifyRingConfigWrite_stores {s u : State} (h : CatHdr) (hub : Bool) (size : Bool) (v : BitVec 64) (hs
    : s.storesWf = true) (hn : execNotifyRingConfigWrite h hub size v s = .next u) :
    u.storesWf = true := by
  unfold execNotifyRingConfigWrite at hn
  cases hn
  simp +contextual +zetaDelta (maxDischargeDepth := 40) only [hs, State.entryCommand_stores, stores_ite,
    stores_ite_fst, implies_true, forall_const]

theorem execShelfArmEntry_stores {s u : State} (h : CatHdr) (v : BitVec 8) (hs : s.storesWf = true) (hn :
    execShelfArmEntry h v s = .next u) :
    u.storesWf = true := by
  unfold execShelfArmEntry at hn
  cases hn
  simp +contextual +zetaDelta (maxDischargeDepth := 40) only [hs, State.entryCommand_stores, stores_ite,
    stores_ite_fst, implies_true, forall_const]

theorem execShelfCancelEntry_stores {s u : State} (h : CatHdr) (v : BitVec 8) (hs : s.storesWf = true) (hn :
    execShelfCancelEntry h v s = .next u) :
    u.storesWf = true := by
  unfold execShelfCancelEntry at hn
  cases hn
  simp +contextual +zetaDelta (maxDischargeDepth := 40) only [hs, State.entryCommand_stores, stores_ite,
    stores_ite_fst, implies_true, forall_const]

theorem execFolioArm_stores {s u : State} (h : CatHdr) (hs : s.storesWf = true) (hn : execFolioArm h s = .next u)
    :
    u.storesWf = true := by
  unfold execFolioArm at hn
  cases hn
  simp +contextual +zetaDelta (maxDischargeDepth := 40) only [hs, State.entryCommand_stores, stores_ite,
    stores_ite_fst, implies_true, forall_const]

theorem execFolioTrigger_stores {s u : State} (h : CatHdr) (hs : s.storesWf = true) (hn : execFolioTrigger h s =
    .next u) :
    u.storesWf = true := by
  unfold execFolioTrigger at hn
  cases hn
  simp +contextual +zetaDelta (maxDischargeDepth := 40) only [hs, State.entryCommand_stores, stores_ite,
    stores_ite_fst, implies_true, forall_const]

theorem execFolioStop_stores {s u : State} (h : CatHdr) (hs : s.storesWf = true) (hn : execFolioStop h s = .next
    u) :
    u.storesWf = true := by
  unfold execFolioStop at hn
  cases hn
  simp +contextual +zetaDelta (maxDischargeDepth := 40) only [hs, State.entryCommand_stores, stores_ite,
    stores_ite_fst, implies_true, forall_const]

theorem execFolioClear_stores {s u : State} (h : CatHdr) (hs : s.storesWf = true) (hn : execFolioClear h s = .next
    u) :
    u.storesWf = true := by
  unfold execFolioClear at hn
  cases hn
  simp +contextual +zetaDelta (maxDischargeDepth := 40) only [hs, State.entryCommand_stores, stores_ite,
    stores_ite_fst, implies_true, forall_const]

theorem execFolioMarker_stores {s u : State} (h : CatHdr) (v : BitVec 64) (hs : s.storesWf = true) (hn :
    execFolioMarker h v s = .next u) :
    u.storesWf = true := by
  unfold execFolioMarker at hn
  cases hn
  simp +contextual +zetaDelta (maxDischargeDepth := 40) only [hs, State.entryCommand_stores, stores_ite,
    stores_ite_fst, implies_true, forall_const]

theorem execInventoryTake_stores {s u : State} (h : CatHdr) (v : BitVec 8) (hs : s.storesWf = true) (hn :
    execInventoryTake h v s = .next u) :
    u.storesWf = true := by
  unfold execInventoryTake at hn
  cases hn
  simp +contextual +zetaDelta (maxDischargeDepth := 40) only [hs, State.entryCommand_stores, stores_ite,
    stores_ite_fst, implies_true, forall_const]

theorem execPartHold_stores {s u : State} (h : CatHdr) (v : BitVec 8) (hs : s.storesWf = true) (hn : execPartHold
    h v s = .next u) :
    u.storesWf = true := by
  unfold execPartHold at hn
  cases hn
  simp +contextual +zetaDelta (maxDischargeDepth := 40) only [hs, State.entryCommand_stores, stores_ite,
    stores_ite_fst, implies_true, forall_const]

theorem execPartResume_stores {s u : State} (h : CatHdr) (v : BitVec 8) (hs : s.storesWf = true) (hn :
    execPartResume h v s = .next u) :
    u.storesWf = true := by
  unfold execPartResume at hn
  cases hn
  simp +contextual +zetaDelta (maxDischargeDepth := 40) only [hs, State.entryCommand_stores, stores_ite,
    stores_ite_fst, implies_true, forall_const]

theorem execDepositAck_stores {s u : State} (h : CatHdr) (v : BitVec 8) (hs : s.storesWf = true) (hn :
    execDepositAck h v s = .next u) :
    u.storesWf = true := by
  unfold execDepositAck at hn
  cases hn
  simp +contextual +zetaDelta (maxDischargeDepth := 40) only [hs, State.entryCommand_stores, stores_ite,
    stores_ite_fst, implies_true, forall_const]

theorem execDepositFlags_stores {s u : State} (h : CatHdr) (v : BitVec 8) (hs : s.storesWf = true) (hn :
    execDepositFlags h v s = .next u) :
    u.storesWf = true := by
  unfold execDepositFlags at hn
  cases hn
  simp +contextual +zetaDelta (maxDischargeDepth := 40) only [hs, State.entryCommand_stores, stores_ite,
    stores_ite_fst, implies_true, forall_const]

theorem execStocktakeEnable_stores {s u : State} (h : CatHdr) (v : BitVec 8) (hs : s.storesWf = true) (hn :
    execStocktakeEnable h v s = .next u) :
    u.storesWf = true := by
  unfold execStocktakeEnable at hn
  cases hn
  simp +contextual +zetaDelta (maxDischargeDepth := 40) only [hs, State.entryCommand_stores, stores_ite,
    stores_ite_fst, implies_true, forall_const]

theorem execFaultInjectBits_stores {s u : State} (h : CatHdr) (v : BitVec 8) (hs : s.storesWf = true) (hn :
    execFaultInjectBits h v s = .next u) :
    u.storesWf = true := by
  unfold execFaultInjectBits at hn
  cases hn
  simp +contextual +zetaDelta (maxDischargeDepth := 40) only [hs, State.entryCommand_stores, stores_ite,
    stores_ite_fst, implies_true, forall_const]

theorem execFaultInjectStage_stores {s u : State} (h : CatHdr) (hs : s.storesWf = true) (hn : execFaultInjectStage
    h s = .next u) :
    u.storesWf = true := by
  unfold execFaultInjectStage at hn
  cases hn
  simp +contextual +zetaDelta (maxDischargeDepth := 40) only [hs, State.entryCommand_stores, stores_ite,
    stores_ite_fst, implies_true, forall_const]

theorem execPartJobFaultInject_stores {s u : State} (h : CatHdr) (v : BitVec 8) (hs : s.storesWf = true) (hn :
    execPartJobFaultInject h v s = .next u) :
    u.storesWf = true := by
  unfold execPartJobFaultInject at hn
  cases hn
  simp +contextual +zetaDelta (maxDischargeDepth := 40) only [hs, State.entryCommand_stores, stores_ite,
    stores_ite_fst, implies_true, forall_const]

theorem execViewSelect_stores {s u : State} (h : CatHdr) (window : Nat) (v : BitVec 32) (hs : s.storesWf = true)
    (hn : execViewSelect h window v s = .next u) :
    u.storesWf = true := by
  unfold execViewSelect at hn
  cases hn
  simp +contextual +zetaDelta (maxDischargeDepth := 40) only [hs, State.entryCommand_stores, stores_ite,
    stores_ite_fst, implies_true, forall_const]

theorem execEvBindingWrite_stores {s u : State} (h : CatHdr) (input : Nat) (sub : BitVec 8) (v : BitVec 32) (hs :
    s.storesWf = true) (hn : execEvBindingWrite h input sub v s = .next u) :
    u.storesWf = true := by
  unfold execEvBindingWrite at hn
  cases hn
  simp +contextual +zetaDelta (maxDischargeDepth := 40) only [hs, State.entryCommand_stores, stores_ite,
    stores_ite_fst, implies_true, forall_const]

theorem execIdentify_stores {s u : State} (h : CatHdr) (hs : s.storesWf = true) (hn : execIdentify h s = .next u)
    :
    u.storesWf = true := by
  unfold execIdentify at hn
  cases hn
  simp +contextual +zetaDelta (maxDischargeDepth := 40) only [hs, State.identifyCommand_stores, stores_ite,
    stores_ite_fst, implies_true, forall_const]

theorem execDescribe_stores {s u : State} (h : CatHdr) (index : BitVec 16) (sub : BitVec 8) (hs : s.storesWf =
    true) (hn : execDescribe h index sub s = .next u) :
    u.storesWf = true := by
  unfold execDescribe at hn
  cases hn
  simp +contextual +zetaDelta (maxDischargeDepth := 40) only [hs, State.describeCommand_stores, stores_ite,
    stores_ite_fst, implies_true, forall_const]

theorem execCatRead_stores {s u : State} (h : CatHdr) (index : BitVec 16) (sub : BitVec 8) (hs : s.storesWf =
    true) (hn : execCatRead h index sub s = .next u) :
    u.storesWf = true := by
  unfold execCatRead at hn
  cases hn
  simp +contextual +zetaDelta (maxDischargeDepth := 40) only [hs, State.readCommand_stores, stores_ite,
    stores_ite_fst, implies_true, forall_const]

theorem execCatWrite_stores {s u : State} (h : CatHdr) (index : BitVec 16) (sub : BitVec 8) (bytes : Nat) (v :
    BitVec 128) (hs : s.storesWf = true) (hn : execCatWrite h index sub bytes v s = .next u) :
    u.storesWf = true := by
  unfold execCatWrite at hn
  cases hn
  simp +contextual +zetaDelta (maxDischargeDepth := 40) only [hs, State.writeCommand_stores, stores_ite,
    stores_ite_fst, implies_true, forall_const]

theorem execReadSeg_stores {s u : State} (h : CatHdr) (index : BitVec 16) (sub : BitVec 8) (offset : BitVec 32)
    (length : BitVec 16) (generation : BitVec 16) (hs : s.storesWf = true) (hn : execReadSeg h index sub offset
    length generation s = .next u) :
    u.storesWf = true := by
  unfold execReadSeg at hn
  cases hn
  simp +contextual +zetaDelta (maxDischargeDepth := 40) only [hs, State.readSegCommand_stores, stores_ite,
    stores_ite_fst, implies_true, forall_const]

theorem execNextEntry_stores {s u : State} (h : CatHdr) (index : BitVec 16) (sub : BitVec 8) (hs : s.storesWf =
    true) (hn : execNextEntry h index sub s = .next u) :
    u.storesWf = true := by
  unfold execNextEntry at hn
  cases hn
  simp +contextual +zetaDelta (maxDischargeDepth := 40) only [hs, State.nextCommand_stores, stores_ite,
    stores_ite_fst, implies_true, forall_const]

theorem execSetEndpointId_stores {s u : State} (src : BitVec 8) (tag : BitVec 3) (eid : BitVec 8) (hs : s.storesWf
    = true) (h : execSetEndpointId src tag eid s = .next u) :
    u.storesWf = true := by
  exact stores_of_wipe (execSetEndpointId_wipe _ _ _ 0x7dfa7c1cf2fff (by decide) h) hs

theorem execGetEndpointId_stores {s u : State} (src : BitVec 8) (tag : BitVec 3) (hs : s.storesWf = true) (h :
    execGetEndpointId src tag s = .next u) :
    u.storesWf = true := by
  exact stores_of_wipe (execGetEndpointId_wipe _ _ 0x7dfa7c1cf2fff (by decide) h) hs

theorem execGetMctpVersionSupport_stores {s u : State} (src : BitVec 8) (tag : BitVec 3) (msgType : BitVec 8) (hs
    : s.storesWf = true) (h : execGetMctpVersionSupport src tag msgType s = .next u) :
    u.storesWf = true := by
  exact stores_of_wipe (execGetMctpVersionSupport_wipe _ _ _ 0x7dfa7c1cf2fff (by decide) h) hs

theorem execGetMessageTypeSupport_stores {s u : State} (src : BitVec 8) (tag : BitVec 3) (hs : s.storesWf = true)
    (h : execGetMessageTypeSupport src tag s = .next u) :
    u.storesWf = true := by
  exact stores_of_wipe (execGetMessageTypeSupport_wipe _ _ 0x7dfa7c1cf2fff (by decide) h) hs

theorem execGetVendorDefinedMessageSupport_stores {s u : State} (src : BitVec 8) (tag : BitVec 3) (selector :
    BitVec 8) (hs : s.storesWf = true) (h : execGetVendorDefinedMessageSupport src tag selector s = .next u) :
    u.storesWf = true := by
  exact stores_of_wipe (execGetVendorDefinedMessageSupport_wipe _ _ _ 0x7dfa7c1cf2fff (by decide) h) hs

theorem execCoreResetRelease_stores {s u : State} (port : Nat) (hs : s.storesWf = true) (h : execCoreResetRelease
    port s = .next u) :
    u.storesWf = true := by
  unfold execCoreResetRelease at h
  rw [atPort_next h]
  simp +contextual +zetaDelta (maxDischargeDepth := 40) only [hs, State.coreReleaseEvent_stores, stores_ite,
    stores_ite_fst, implies_true, forall_const]

theorem execNearParityCheck_stores {s u : State} (port : Nat) (hs : s.storesWf = true) (h : execNearParityCheck
    port s = .next u) :
    u.storesWf = true := by
  unfold execNearParityCheck at h
  rw [atPort_next h]
  simp +contextual +zetaDelta (maxDischargeDepth := 40) only [hs, State.whenLive_stores, State.nearTurn_stores,
    stores_ite, stores_ite_fst, implies_true, forall_const]

theorem execW1ArrwDeadline_stores {s u : State} (port : Nat) (entry : Nat) (hs : s.storesWf = true) (h :
    execW1ArrwDeadline port entry s = .next u) :
    u.storesWf = true := by
  unfold execW1ArrwDeadline at h
  split at h <;> cases h
  simp +contextual +zetaDelta (maxDischargeDepth := 40) only [hs, State.whenWalks_stores, State.w1Expiry_stores,
    stores_ite, stores_ite_fst, implies_true, forall_const]

theorem execProducerMirrorWriteDone_stores {s u : State}  (hs : s.storesWf = true) (h :
    execProducerMirrorWriteDone s = .next u) :
    u.storesWf = true := by
  unfold execProducerMirrorWriteDone at h
  cases h
  simp +contextual +zetaDelta (maxDischargeDepth := 40) only [hs, State.whenLive_stores, State.onWrite_stores,
    State.mirrorWritten_stores, stores_ite, stores_ite_fst, implies_true, forall_const]

theorem execIdleFlit_stores {s u : State} (port : Nat) (flit : BitVec 256) (bad : Bool) (hs : s.storesWf = true)
    (h : execIdleFlit port flit bad s = .next u) :
    u.storesWf = true := by
  unfold execIdleFlit at h
  rw [atLink_next h]
  simp +contextual +zetaDelta (maxDischargeDepth := 40) only [hs, State.receiveFlit_stores, stores_ite,
    stores_ite_fst, implies_true, forall_const]

theorem execUnlistedOpcode_stores {s u : State} (opcode : BitVec 6) (r : OpReq) (hs : s.storesWf = true) (h :
    execUnlistedOpcode opcode r s = .next u) :
    u.storesWf = true := by
  exact State.opCommand_stores _ _ hs h

theorem execApertureRefused_stores {s u : State} (area : ApertureArea) (why : ApertureFault) (isRead : Bool) (hs :
    s.storesWf = true) (h : execApertureRefused area why isRead s = .next u) :
    u.storesWf = true := by
  unfold execApertureRefused at h
  split at h <;> cases h
  simp +contextual +zetaDelta (maxDischargeDepth := 40) only [hs, State.apertureRefuse_stores, stores_ite,
    stores_ite_fst, implies_true, forall_const]

theorem execReservedMessageKind_stores {s u : State} (port : Nat) (mkind : BitVec 6) (hs : s.storesWf = true) (h :
    execReservedMessageKind port mkind s = .next u) :
    u.storesWf = true := by
  unfold execReservedMessageKind at h
  rw [atLink_next h]
  simp +contextual +zetaDelta (maxDischargeDepth := 40) only [hs, State.reservedKind_stores, stores_ite,
    stores_ite_fst, implies_true, forall_const]

theorem execMctpPacketDiscard_stores {s u : State} (why : PacketFault) (packets : Nat) (hs : s.storesWf = true) (h
    : execMctpPacketDiscard why packets s = .next u) :
    u.storesWf = true := by
  unfold execMctpPacketDiscard at h
  cases h
  simp +contextual +zetaDelta (maxDischargeDepth := 40) only [hs, State.discardPackets_stores, stores_ite,
    stores_ite_fst, implies_true, forall_const]

theorem execCatMalformedRequest_stores {s u : State} (h : CatHdr) (command : BitVec 8) (why : Malformation) (hs :
    s.storesWf = true) (hn : execCatMalformedRequest h command why s = .next u) :
    u.storesWf = true := by
  unfold execCatMalformedRequest at hn
  cases hn
  simp +contextual +zetaDelta (maxDischargeDepth := 40) only [hs, State.malformedCommand_stores, stores_ite,
    stores_ite_fst, implies_true, forall_const]

end Sys2Proof.Machine
end

