-- ==== Sys2Proof/Laws/Exec.lean ====
section
/-! SUPPORT. What every command keeps: the canonical form of the stores, its own queue, and who the hub is. -/

set_option linter.all false

namespace Sys2Proof.Machine

/-- Every command keeps the sparse stores in their canonical form. -/
theorem exec_stores {i : Instr} {s u : State} (hs : s.storesWf = true) (h : exec i s = .next u) : u.storesWf = true := by
  cases i with
  | sig _ => exact execSig_stores _ hs h
  | set _ => exact execSet_stores _ hs h
  | clr _ => exact execClr_stores _ hs h
  | wait _ => exact execWait_stores _ hs h
  | take _ => exact execTake_stores _ hs h
  | tryTake _ => exact execTryTake_stores _ hs h
  | arrv _ => exact execArrv_stores _ hs h
  | arrw _ => exact execArrw_stores _ hs h
  | wrel _ => exact execWrel_stores _ hs h
  | acq _ => exact execAcq_stores _ hs h
  | tryAcq _ => exact execTryAcq_stores _ hs h
  | rel _ => exact execRel_stores _ hs h
  | frel _ => exact execFrel_stores _ hs h
  | read _ => exact execRead_stores _ hs h
  | init _ => exact execInit_stores _ hs h
  | fadd _ => exact execFadd_stores _ hs h
  | swap _ => exact execSwap_stores _ hs h
  | cas _ => exact execCas_stores _ hs h
  | arm _ => exact execArm_stores _ hs h
  | disarm _ => exact execDisarm_stores _ hs h
  | hold _ => exact execHold_stores _ hs h
  | resume _ => exact execResume_stores _ hs h
  | park _ => exact execPark_stores _ hs h
  | unpark _ => exact execUnpark_stores _ hs h
  | fence _ => exact execFence_stores _ hs h
  | completionDelivery _ => exact execCompletionDelivery_stores _ hs h
  | stgInvalAck _ => exact execStgInvalAck_stores _ hs h
  | relDrainEnd _ => exact execRelDrainEnd_stores _ hs h
  | responseRead _ _ => exact execResponseRead_stores _ _ hs h
  | ticketRemove _ => exact execTicketRemove_stores _ hs h
  | bucketRefill _ => exact execBucketRefill_stores _ hs h
  | shimSurroundWait _ _ => exact execShimSurroundWait_stores _ _ hs h
  | coreReset _ => exact execCoreReset_stores _ hs h
  | registeredBarrierResetCheck _ _ => exact execRegisteredBarrierResetCheck_stores _ _ hs h
  | waiterExpiry _ => exact execWaiterExpiry_stores _ hs h
  | agedWalk => exact execAgedWalk_stores hs h
  | scrubAccess _ => exact execScrubAccess_stores _ hs h
  | loanRecallDelay _ => exact execLoanRecallDelay_stores _ hs h
  | loanIdleReturn _ => exact execLoanIdleReturn_stores _ hs h
  | loanLinkLoss _ => exact execLoanLinkLoss_stores _ hs h
  | lockLinkLoss _ => exact execLockLinkLoss_stores _ hs h
  | treeLinkLoss _ => exact execTreeLinkLoss_stores _ hs h
  | treeGrantUndeliverable _ => exact execTreeGrantUndeliverable_stores _ hs h
  | routeStrand _ => exact execRouteStrand_stores _ hs h
  | linkHoldExpiry _ => exact execLinkHoldExpiry_stores _ hs h
  | routeSettle _ => exact execRouteSettle_stores _ hs h
  | replayTimeout _ => exact execReplayTimeout_stores _ hs h
  | retryLimit _ => exact execRetryLimit_stores _ hs h
  | negResend _ => exact execNegResend_stores _ hs h
  | negotiationTimeout _ => exact execNegotiationTimeout_stores _ hs h
  | ackCtrlSend _ => exact execAckCtrlSend_stores _ hs h
  | timeExchange => exact execTimeExchange_stores hs h
  | timeHoldoverLimit => exact execTimeHoldoverLimit_stores hs h
  | stocktakeRound _ => exact execStocktakeRound_stores _ hs h
  | depositHoldLimit _ _ => exact execDepositHoldLimit_stores _ _ hs h
  | apertureStallLimit _ => exact execApertureStallLimit_stores _ hs h
  | stageRestart _ _ _ _ => exact execStageRestart_stores _ _ _ _ hs h
  | stageRetry _ _ _ => exact execStageRetry_stores _ _ _ hs h
  | partQuiesceWait _ => exact execPartQuiesceWait_stores _ hs h
  | evInputChange _ _ => exact execEvInputChange_stores _ _ hs h
  | evDeferredSig _ => exact execEvDeferredSig_stores _ hs h
  | evLevelApply _ => exact execEvLevelApply_stores _ hs h
  | notifyIrqHoldoff _ => exact execNotifyIrqHoldoff_stores _ hs h
  | mctpReassemblyTimeout e g => exact execMctpReassemblyTimeout_stores e g hs h
  | folioTrigTime => exact execFolioTrigTime_stores hs h
  | shelfTimeLatch _ _ => exact execShelfTimeLatch_stores _ _ hs h
  | holdPeerTimeout _ => exact execHoldPeerTimeout_stores _ hs h
  | resetPeerTimeout _ _ => exact execResetPeerTimeout_stores _ _ hs h
  | shelfPeerTimeout _ _ => exact execShelfPeerTimeout_stores _ _ hs h
  | hubReset _ => exact execHubReset_stores _ hs h
  | startup _ _ _ _ => exact execStartup_stores _ _ _ _ hs h
  | startupComplete => exact execStartupComplete_stores hs h
  | refclkLoss => exact execRefclkLoss_stores hs h
  | refclkReturn => exact execRefclkReturn_stores hs h
  | phyUp _ _ => exact execPhyUp_stores _ _ hs h
  | phyDown _ => exact execPhyDown_stores _ hs h
  | partQuiesceAckRise _ => exact execPartQuiesceAckRise_stores _ hs h
  | partQuiesceAckFall _ => exact execPartQuiesceAckFall_stores _ hs h
  | flitReceive _ _ _ => exact execFlitReceive_stores _ _ _ hs h
  | ctrl _ _ _ => exact execCtrl_stores _ _ _ hs h
  | neg _ _ _ => exact execNeg_stores _ _ _ hs h
  | timeReq _ _ _ => exact execTimeReq_stores _ _ _ hs h
  | timeRsp _ _ _ => exact execTimeRsp_stores _ _ _ hs h
  | messageForward _ _ => exact execMessageForward_stores _ _ hs h
  | cpl _ _ => exact execCpl_stores _ _ hs h
  | fwdArrv _ _ => exact execFwdArrv_stores _ _ hs h
  | loanReq _ _ => exact execLoanReq_stores _ _ hs h
  | loanGrantOpen _ _ => exact execLoanGrantOpen_stores _ _ hs h
  | loanGrant _ _ => exact execLoanGrant_stores _ _ hs h
  | loanRecall _ _ => exact execLoanRecall_stores _ _ hs h
  | loanReturn _ _ => exact execLoanReturn_stores _ _ hs h
  | holderReset _ _ => exact execHolderReset_stores _ _ hs h
  | waiterPurge _ _ => exact execWaiterPurge_stores _ _ hs h
  | routeFence _ _ => exact execRouteFence_stores _ _ hs h
  | fenceAck _ _ => exact execFenceAck_stores _ _ hs h
  | holdReq _ _ => exact execHoldReq_stores _ _ hs h
  | holdAck _ _ => exact execHoldAck_stores _ _ hs h
  | resumeReq _ _ => exact execResumeReq_stores _ _ hs h
  | resumeAck _ _ => exact execResumeAck_stores _ _ hs h
  | query _ _ => exact execQuery_stores _ _ hs h
  | report _ _ => exact execReport_stores _ _ hs h
  | declare _ _ => exact execDeclare_stores _ _ hs h
  | shelfArm _ _ => exact execShelfArm_stores _ _ hs h
  | shelfDone _ _ => exact execShelfDone_stores _ _ hs h
  | shelfCancel _ _ => exact execShelfCancel_stores _ _ hs h
  | resetReq _ _ => exact execResetReq_stores _ _ hs h
  | resetDone _ _ => exact execResetDone_stores _ _ hs h
  | ctxReq _ _ => exact execCtxReq_stores _ _ hs h
  | ctxDone _ _ => exact execCtxDone_stores _ _ hs h
  | faultNotice _ _ => exact execFaultNotice_stores _ _ hs h
  | templateWrite _ _ _ _ => exact execTemplateWrite_stores _ _ _ _ hs h
  | consumerIndexWrite _ _ _ => exact execConsumerIndexWrite_stores _ _ _ hs h
  | ticketRingWriteDone => exact execTicketRingWriteDone_stores hs h
  | notifyWriteDone => exact execNotifyWriteDone_stores hs h
  | managerWriteError _ _ => exact execManagerWriteError_stores _ _ hs h
  | folioDumpDone => exact execFolioDumpDone_stores hs h
  | inventoryDone _ => exact execInventoryDone_stores _ hs h
  | partReset _ _ => exact execPartReset_stores _ _ hs h
  | partContext _ _ => exact execPartContext_stores _ _ hs h
  | partQuiesceOverride _ _ => exact execPartQuiesceOverride_stores _ _ hs h
  | resliceTarget _ _ => exact execResliceTarget_stores _ _ hs h
  | resliceDrained => exact execResliceDrained_stores hs h
  | resliceAbort _ _ => exact execResliceAbort_stores _ _ hs h
  | portPartition _ _ _ => exact execPortPartition_stores _ _ _ hs h
  | waiterCancelObject _ _ => exact execWaiterCancelObject_stores _ _ hs h
  | waiterCancelOriginator _ _ => exact execWaiterCancelOriginator_stores _ _ hs h
  | loanRecallToken _ _ => exact execLoanRecallToken_stores _ _ hs h
  | lockClearAbandoned _ _ => exact execLockClearAbandoned_stores _ _ hs h
  | lockGroupMode _ _ _ => exact execLockGroupMode_stores _ _ _ hs h
  | linkRenegotiate _ _ _ _ => exact execLinkRenegotiate_stores _ _ _ _ hs h
  | routeEntry _ _ => exact execRouteEntry_stores _ _ hs h
  | timeSet _ _ => exact execTimeSet_stores _ _ hs h
  | ticketRingConfigWrite _ _ _ _ => exact execTicketRingConfigWrite_stores _ _ _ _ hs h
  | notifyRingConfigWrite _ _ _ _ => exact execNotifyRingConfigWrite_stores _ _ _ _ hs h
  | shelfArmEntry _ _ => exact execShelfArmEntry_stores _ _ hs h
  | shelfCancelEntry _ _ => exact execShelfCancelEntry_stores _ _ hs h
  | folioArm _ => exact execFolioArm_stores _ hs h
  | folioTrigger _ => exact execFolioTrigger_stores _ hs h
  | folioStop _ => exact execFolioStop_stores _ hs h
  | folioClear _ => exact execFolioClear_stores _ hs h
  | folioMarker _ _ => exact execFolioMarker_stores _ _ hs h
  | inventoryTake _ _ => exact execInventoryTake_stores _ _ hs h
  | partHold _ _ => exact execPartHold_stores _ _ hs h
  | partResume _ _ => exact execPartResume_stores _ _ hs h
  | depositAck _ _ => exact execDepositAck_stores _ _ hs h
  | depositFlags _ _ => exact execDepositFlags_stores _ _ hs h
  | stocktakeEnable _ _ => exact execStocktakeEnable_stores _ _ hs h
  | faultInjectBits _ _ => exact execFaultInjectBits_stores _ _ hs h
  | faultInjectStage _ => exact execFaultInjectStage_stores _ hs h
  | partJobFaultInject _ _ => exact execPartJobFaultInject_stores _ _ hs h
  | viewSelect _ _ _ => exact execViewSelect_stores _ _ _ hs h
  | evBindingWrite _ _ _ _ => exact execEvBindingWrite_stores _ _ _ _ hs h
  | identify _ => exact execIdentify_stores _ hs h
  | describe _ _ _ => exact execDescribe_stores _ _ _ hs h
  | catRead _ _ _ => exact execCatRead_stores _ _ _ hs h
  | catWrite _ _ _ _ _ => exact execCatWrite_stores _ _ _ _ _ hs h
  | readSeg _ _ _ _ _ _ => exact execReadSeg_stores _ _ _ _ _ _ hs h
  | nextEntry _ _ _ => exact execNextEntry_stores _ _ _ hs h
  | setEndpointId _ _ _ => exact execSetEndpointId_stores _ _ _ hs h
  | getEndpointId _ _ => exact execGetEndpointId_stores _ _ hs h
  | getMctpVersionSupport _ _ _ => exact execGetMctpVersionSupport_stores _ _ _ hs h
  | getMessageTypeSupport _ _ => exact execGetMessageTypeSupport_stores _ _ hs h
  | getVendorDefinedMessageSupport _ _ _ => exact execGetVendorDefinedMessageSupport_stores _ _ _ hs h
  | coreResetRelease _ => exact execCoreResetRelease_stores _ hs h
  | nearParityCheck _ => exact execNearParityCheck_stores _ hs h
  | w1ArrwDeadline _ _ => exact execW1ArrwDeadline_stores _ _ hs h
  | producerMirrorWriteDone => exact execProducerMirrorWriteDone_stores hs h
  | idleFlit _ _ _ => exact execIdleFlit_stores _ _ _ hs h
  | unlistedOpcode _ _ => exact execUnlistedOpcode_stores _ _ hs h
  | apertureRefused _ _ _ => exact execApertureRefused_stores _ _ _ hs h
  | reservedMessageKind _ _ => exact execReservedMessageKind_stores _ _ hs h
  | mctpPacketDiscard e g => exact execMctpPacketDiscard_stores e g hs h
  | catMalformedRequest _ _ _ => exact execCatMalformedRequest_stores _ _ _ hs h

/-- The commands that change what no other command does. -/
def special : Instr → Bool
  | .hubReset _ => true
  | .startup _ _ _ _ => true
  | .startupComplete => true
  | .refclkLoss => true
  | .refclkReturn => true
  | .setEndpointId _ _ _ => true
  | .stageRestart _ _ _ _ => true
  | .stageRetry _ _ _ => true
  | .scrubAccess _ => true
  | _ => false

/-- No other command changes who the hub is, whether it runs, its endpoint ID, or what its stages failed. -/
theorem exec_keeps {i : Instr} {s u : State} (h1 : special i = false) (h : exec i s = .next u) :
    u.wipe 0x31bfffffffc40 = s.wipe 0x31bfffffffc40 := by
  cases i with
  | sig _ => exact execSig_wipe _ _ (by decide) h
  | set _ => exact execSet_wipe _ _ (by decide) h
  | clr _ => exact execClr_wipe _ _ (by decide) h
  | wait _ => exact execWait_wipe _ _ (by decide) h
  | take _ => exact execTake_wipe _ _ (by decide) h
  | tryTake _ => exact execTryTake_wipe _ _ (by decide) h
  | arrv _ => exact execArrv_wipe _ _ (by decide) h
  | arrw _ => exact execArrw_wipe _ _ (by decide) h
  | wrel _ => exact execWrel_wipe _ _ (by decide) h
  | acq _ => exact execAcq_wipe _ _ (by decide) h
  | tryAcq _ => exact execTryAcq_wipe _ _ (by decide) h
  | rel _ => exact execRel_wipe _ _ (by decide) h
  | frel _ => exact execFrel_wipe _ _ (by decide) h
  | read _ => exact execRead_wipe _ _ (by decide) h
  | init _ => exact execInit_wipe _ _ (by decide) h
  | fadd _ => exact execFadd_wipe _ _ (by decide) h
  | swap _ => exact execSwap_wipe _ _ (by decide) h
  | cas _ => exact execCas_wipe _ _ (by decide) h
  | arm _ => exact execArm_wipe _ _ (by decide) h
  | disarm _ => exact execDisarm_wipe _ _ (by decide) h
  | hold _ => exact execHold_wipe _ _ (by decide) h
  | resume _ => exact execResume_wipe _ _ (by decide) h
  | park _ => exact execPark_wipe _ _ (by decide) h
  | unpark _ => exact execUnpark_wipe _ _ (by decide) h
  | fence _ => exact execFence_wipe _ _ (by decide) h
  | completionDelivery _ => exact execCompletionDelivery_wipe _ _ (by decide) h
  | stgInvalAck _ => exact execStgInvalAck_wipe _ _ (by decide) h
  | relDrainEnd _ => exact execRelDrainEnd_wipe _ _ (by decide) h
  | responseRead _ _ => exact execResponseRead_wipe _ _ _ (by decide) h
  | ticketRemove _ => exact execTicketRemove_wipe _ _ (by decide) h
  | bucketRefill _ => exact execBucketRefill_wipe _ _ (by decide) h
  | shimSurroundWait _ _ => exact execShimSurroundWait_wipe _ _ _ (by decide) h
  | coreReset _ => exact execCoreReset_wipe _ _ (by decide) h
  | registeredBarrierResetCheck _ _ => exact execRegisteredBarrierResetCheck_wipe _ _ _ (by decide) h
  | waiterExpiry _ => exact execWaiterExpiry_wipe _ _ (by decide) h
  | agedWalk => exact execAgedWalk_wipe _ (by decide) h
  | scrubAccess _ => cases h1
  | loanRecallDelay _ => exact execLoanRecallDelay_wipe _ _ (by decide) h
  | loanIdleReturn _ => exact execLoanIdleReturn_wipe _ _ (by decide) h
  | loanLinkLoss _ => exact execLoanLinkLoss_wipe _ _ (by decide) h
  | lockLinkLoss _ => exact execLockLinkLoss_wipe _ _ (by decide) h
  | treeLinkLoss _ => exact execTreeLinkLoss_wipe _ _ (by decide) h
  | treeGrantUndeliverable _ => exact execTreeGrantUndeliverable_wipe _ _ (by decide) h
  | routeStrand _ => exact execRouteStrand_wipe _ _ (by decide) h
  | linkHoldExpiry _ => exact execLinkHoldExpiry_wipe _ _ (by decide) h
  | routeSettle _ => exact execRouteSettle_wipe _ _ (by decide) h
  | replayTimeout _ => exact execReplayTimeout_wipe _ _ (by decide) h
  | retryLimit _ => exact execRetryLimit_wipe _ _ (by decide) h
  | negResend _ => exact execNegResend_wipe _ _ (by decide) h
  | negotiationTimeout _ => exact execNegotiationTimeout_wipe _ _ (by decide) h
  | ackCtrlSend _ => exact execAckCtrlSend_wipe _ _ (by decide) h
  | timeExchange => exact execTimeExchange_wipe _ (by decide) h
  | timeHoldoverLimit => exact execTimeHoldoverLimit_wipe _ (by decide) h
  | stocktakeRound _ => exact execStocktakeRound_wipe _ _ (by decide) h
  | depositHoldLimit _ _ => exact execDepositHoldLimit_wipe _ _ _ (by decide) h
  | apertureStallLimit _ => exact execApertureStallLimit_wipe _ _ (by decide) h
  | stageRestart _ _ _ _ => cases h1
  | stageRetry _ _ _ => cases h1
  | partQuiesceWait _ => exact execPartQuiesceWait_wipe _ _ (by decide) h
  | evInputChange _ _ => exact execEvInputChange_wipe _ _ _ (by decide) h
  | evDeferredSig _ => exact execEvDeferredSig_wipe _ _ (by decide) h
  | evLevelApply _ => exact execEvLevelApply_wipe _ _ (by decide) h
  | notifyIrqHoldoff _ => exact execNotifyIrqHoldoff_wipe _ _ (by decide) h
  | mctpReassemblyTimeout e g => exact execMctpReassemblyTimeout_wipe e g _ (by decide) h
  | folioTrigTime => exact execFolioTrigTime_wipe _ (by decide) h
  | shelfTimeLatch _ _ => exact execShelfTimeLatch_wipe _ _ _ (by decide) h
  | holdPeerTimeout _ => exact execHoldPeerTimeout_wipe _ _ (by decide) h
  | resetPeerTimeout _ _ => exact execResetPeerTimeout_wipe _ _ _ (by decide) h
  | shelfPeerTimeout _ _ => exact execShelfPeerTimeout_wipe _ _ _ (by decide) h
  | hubReset _ => cases h1
  | startup _ _ _ _ => cases h1
  | startupComplete => cases h1
  | refclkLoss => cases h1
  | refclkReturn => cases h1
  | phyUp _ _ => exact execPhyUp_wipe _ _ _ (by decide) h
  | phyDown _ => exact execPhyDown_wipe _ _ (by decide) h
  | partQuiesceAckRise _ => exact execPartQuiesceAckRise_wipe _ _ (by decide) h
  | partQuiesceAckFall _ => exact execPartQuiesceAckFall_wipe _ _ (by decide) h
  | flitReceive _ _ _ => exact execFlitReceive_wipe _ _ _ _ (by decide) h
  | ctrl _ _ _ => exact execCtrl_wipe _ _ _ _ (by decide) h
  | neg _ _ _ => exact execNeg_wipe _ _ _ _ (by decide) h
  | timeReq _ _ _ => exact execTimeReq_wipe _ _ _ _ (by decide) h
  | timeRsp _ _ _ => exact execTimeRsp_wipe _ _ _ _ (by decide) h
  | messageForward _ _ => exact execMessageForward_wipe _ _ _ (by decide) h
  | cpl _ _ => exact execCpl_wipe _ _ _ (by decide) h
  | fwdArrv _ _ => exact execFwdArrv_wipe _ _ _ (by decide) h
  | loanReq _ _ => exact execLoanReq_wipe _ _ _ (by decide) h
  | loanGrantOpen _ _ => exact execLoanGrantOpen_wipe _ _ _ (by decide) h
  | loanGrant _ _ => exact execLoanGrant_wipe _ _ _ (by decide) h
  | loanRecall _ _ => exact execLoanRecall_wipe _ _ _ (by decide) h
  | loanReturn _ _ => exact execLoanReturn_wipe _ _ _ (by decide) h
  | holderReset _ _ => exact execHolderReset_wipe _ _ _ (by decide) h
  | waiterPurge _ _ => exact execWaiterPurge_wipe _ _ _ (by decide) h
  | routeFence _ _ => exact execRouteFence_wipe _ _ _ (by decide) h
  | fenceAck _ _ => exact execFenceAck_wipe _ _ _ (by decide) h
  | holdReq _ _ => exact execHoldReq_wipe _ _ _ (by decide) h
  | holdAck _ _ => exact execHoldAck_wipe _ _ _ (by decide) h
  | resumeReq _ _ => exact execResumeReq_wipe _ _ _ (by decide) h
  | resumeAck _ _ => exact execResumeAck_wipe _ _ _ (by decide) h
  | query _ _ => exact execQuery_wipe _ _ _ (by decide) h
  | report _ _ => exact execReport_wipe _ _ _ (by decide) h
  | declare _ _ => exact execDeclare_wipe _ _ _ (by decide) h
  | shelfArm _ _ => exact execShelfArm_wipe _ _ _ (by decide) h
  | shelfDone _ _ => exact execShelfDone_wipe _ _ _ (by decide) h
  | shelfCancel _ _ => exact execShelfCancel_wipe _ _ _ (by decide) h
  | resetReq _ _ => exact execResetReq_wipe _ _ _ (by decide) h
  | resetDone _ _ => exact execResetDone_wipe _ _ _ (by decide) h
  | ctxReq _ _ => exact execCtxReq_wipe _ _ _ (by decide) h
  | ctxDone _ _ => exact execCtxDone_wipe _ _ _ (by decide) h
  | faultNotice _ _ => exact execFaultNotice_wipe _ _ _ (by decide) h
  | templateWrite _ _ _ _ => exact execTemplateWrite_wipe _ _ _ _ _ (by decide) h
  | consumerIndexWrite _ _ _ => exact execConsumerIndexWrite_wipe _ _ _ _ (by decide) h
  | ticketRingWriteDone => exact execTicketRingWriteDone_wipe _ (by decide) h
  | notifyWriteDone => exact execNotifyWriteDone_wipe _ (by decide) h
  | managerWriteError _ _ => exact execManagerWriteError_wipe _ _ _ (by decide) h
  | folioDumpDone => exact execFolioDumpDone_wipe _ (by decide) h
  | inventoryDone _ => exact execInventoryDone_wipe _ _ (by decide) h
  | partReset _ _ => exact execPartReset_wipe _ _ _ (by decide) h
  | partContext _ _ => exact execPartContext_wipe _ _ _ (by decide) h
  | partQuiesceOverride _ _ => exact execPartQuiesceOverride_wipe _ _ _ (by decide) h
  | resliceTarget _ _ => exact execResliceTarget_wipe _ _ _ (by decide) h
  | resliceDrained => exact execResliceDrained_wipe _ (by decide) h
  | resliceAbort _ _ => exact execResliceAbort_wipe _ _ _ (by decide) h
  | portPartition _ _ _ => exact execPortPartition_wipe _ _ _ _ (by decide) h
  | waiterCancelObject _ _ => exact execWaiterCancelObject_wipe _ _ _ (by decide) h
  | waiterCancelOriginator _ _ => exact execWaiterCancelOriginator_wipe _ _ _ (by decide) h
  | loanRecallToken _ _ => exact execLoanRecallToken_wipe _ _ _ (by decide) h
  | lockClearAbandoned _ _ => exact execLockClearAbandoned_wipe _ _ _ (by decide) h
  | lockGroupMode _ _ _ => exact execLockGroupMode_wipe _ _ _ _ (by decide) h
  | linkRenegotiate _ _ _ _ => exact execLinkRenegotiate_wipe _ _ _ _ _ (by decide) h
  | routeEntry _ _ => exact execRouteEntry_wipe _ _ _ (by decide) h
  | timeSet _ _ => exact execTimeSet_wipe _ _ _ (by decide) h
  | ticketRingConfigWrite _ _ _ _ => exact execTicketRingConfigWrite_wipe _ _ _ _ _ (by decide) h
  | notifyRingConfigWrite _ _ _ _ => exact execNotifyRingConfigWrite_wipe _ _ _ _ _ (by decide) h
  | shelfArmEntry _ _ => exact execShelfArmEntry_wipe _ _ _ (by decide) h
  | shelfCancelEntry _ _ => exact execShelfCancelEntry_wipe _ _ _ (by decide) h
  | folioArm _ => exact execFolioArm_wipe _ _ (by decide) h
  | folioTrigger _ => exact execFolioTrigger_wipe _ _ (by decide) h
  | folioStop _ => exact execFolioStop_wipe _ _ (by decide) h
  | folioClear _ => exact execFolioClear_wipe _ _ (by decide) h
  | folioMarker _ _ => exact execFolioMarker_wipe _ _ _ (by decide) h
  | inventoryTake _ _ => exact execInventoryTake_wipe _ _ _ (by decide) h
  | partHold _ _ => exact execPartHold_wipe _ _ _ (by decide) h
  | partResume _ _ => exact execPartResume_wipe _ _ _ (by decide) h
  | depositAck _ _ => exact execDepositAck_wipe _ _ _ (by decide) h
  | depositFlags _ _ => exact execDepositFlags_wipe _ _ _ (by decide) h
  | stocktakeEnable _ _ => exact execStocktakeEnable_wipe _ _ _ (by decide) h
  | faultInjectBits _ _ => exact execFaultInjectBits_wipe _ _ _ (by decide) h
  | faultInjectStage _ => exact execFaultInjectStage_wipe _ _ (by decide) h
  | partJobFaultInject _ _ => exact execPartJobFaultInject_wipe _ _ _ (by decide) h
  | viewSelect _ _ _ => exact execViewSelect_wipe _ _ _ _ (by decide) h
  | evBindingWrite _ _ _ _ => exact execEvBindingWrite_wipe _ _ _ _ _ (by decide) h
  | identify _ => exact execIdentify_wipe _ _ (by decide) h
  | describe _ _ _ => exact execDescribe_wipe _ _ _ _ (by decide) h
  | catRead _ _ _ => exact execCatRead_wipe _ _ _ _ (by decide) h
  | catWrite _ _ _ _ _ => exact execCatWrite_wipe _ _ _ _ _ _ (by decide) h
  | readSeg _ _ _ _ _ _ => exact execReadSeg_wipe _ _ _ _ _ _ _ (by decide) h
  | nextEntry _ _ _ => exact execNextEntry_wipe _ _ _ _ (by decide) h
  | setEndpointId _ _ _ => cases h1
  | getEndpointId _ _ => exact execGetEndpointId_wipe _ _ _ (by decide) h
  | getMctpVersionSupport _ _ _ => exact execGetMctpVersionSupport_wipe _ _ _ _ (by decide) h
  | getMessageTypeSupport _ _ => exact execGetMessageTypeSupport_wipe _ _ _ (by decide) h
  | getVendorDefinedMessageSupport _ _ _ => exact execGetVendorDefinedMessageSupport_wipe _ _ _ _ (by decide) h
  | coreResetRelease _ => exact execCoreResetRelease_wipe _ _ (by decide) h
  | nearParityCheck _ => exact execNearParityCheck_wipe _ _ (by decide) h
  | w1ArrwDeadline _ _ => exact execW1ArrwDeadline_wipe _ _ _ (by decide) h
  | producerMirrorWriteDone => exact execProducerMirrorWriteDone_wipe _ (by decide) h
  | idleFlit _ _ _ => exact execIdleFlit_wipe _ _ _ _ (by decide) h
  | unlistedOpcode _ _ => exact execUnlistedOpcode_wipe _ _ _ (by decide) h
  | apertureRefused _ _ _ => exact execApertureRefused_wipe _ _ _ _ (by decide) h
  | reservedMessageKind _ _ => exact execReservedMessageKind_wipe _ _ _ (by decide) h
  | mctpPacketDiscard e g => exact execMctpPacketDiscard_wipe e g _ (by decide) h
  | catMalformedRequest _ _ _ => exact execCatMalformedRequest_wipe _ _ _ _ (by decide) h

end Sys2Proof.Machine
end

