-- ==== Sys2Proof/Laws/Faulted.lean ====
section
/-! SUPPORT. A reported fault sets the latch of its partitions (R432), and leaves the rest of what the hub keeps of any
partition but the holds. -/

namespace Sys2Proof.Machine

theorem part_of_parts {s t : State} (h : s.parts = t.parts) (p : Nat) : s.part p = t.part p := by
  unfold State.part
  rw [h]

/-- What a fault may change of a partition's record. -/
def Part.faultedFrom (x y : Part) : Prop :=
  ∃ f c r h, x = { y with fault := f, cause := c, reported := r, hold := h } ∧ (y.fault = true → f = true)

theorem Part.faultedFrom_self (x : Part) : x.faultedFrom x := ⟨_, _, _, _, rfl, id⟩

theorem Part.faultedFrom_trans {x y z : Part} (h : x.faultedFrom y) (k : y.faultedFrom z) : x.faultedFrom z := by
  obtain ⟨f, c, r, d, e, e2⟩ := h
  obtain ⟨f', c', r', d', k, k2⟩ := k
  subst k
  exact ⟨f, c, r, d, e, fun q => e2 (k2 q)⟩

theorem Part.faultedFrom_fault {x y : Part} (h : x.faultedFrom y) (k : y.fault = true) : x.fault = true := by
  obtain ⟨f, c, r, d, e, e2⟩ := h
  subst e
  exact e2 k

/-- The partitions' records as a change that does not touch them leaves them. -/
theorem failPart_parts (s : State) (p : Nat) :
    ∃ x, (s.failPart p).parts = (s.modPart p fun y => { y with hold := { y.hold with xs := x } }).parts := by
  unfold State.failPart
  simp only []
  rw [parts_of_wipe (m := 0x30020e7470000) (by decide) (State.endWaiters_wipe _ _ _ _ (by decide))]
  generalize hY : (s.each State.latchPort (s.partPorts p)).each State.latchSlot
    ((s.each State.latchPort (s.partPorts p)).usedSlots p) = Y
  have hp : Y.parts = s.parts := by
    have w : Y.wipe 0x2002007300000 = s.wipe 0x2002007300000 := by
      rw [← hY]
      refine (State.each_wipe _ _ _ _ (by decide) fun s n => State.latchSlot_wipe s n _ (by decide)).trans ?_
      exact State.each_wipe _ _ _ _ (by decide) fun s n => State.latchPort_wipe s n _ (by decide)
    exact parts_of_wipe (by decide) w
  refine ⟨(s.part p).hold.xs.map fun e =>
        { e with waiter := match e.waiter with | .op _ _ => .nobody | w => w }, ?_⟩
  unfold State.modPart State.setPart
  simp only [hp, part_of_parts hp]
  all_goals congr 1

theorem latchOne_part (d : Detection) (ps : List Nat) (s : State) (p : Nat) :
    (∀ q, ((State.latchOne d ps s p).part q).faultedFrom (s.part q)) ∧ ((State.latchOne d ps s p).part p).fault = true := by
  have key : ∃ r, ∃ X : State, X.parts = (s.modPart p fun y => { y with reported := r }).parts ∧
      State.latchOne d ps s p = (if (s.part p).fault then X else
        (let s4 := X.modPart p fun y => { y with fault := true, cause := BitVec.ofNat 6 d.cause }
         let s5 := if s4.cfg 0x6030 9 ≠ 0 ∧ s4.folioScope false p then s4.folioMark false p 3 (BitVec.ofNat 64 d.cause)
           else s4
         let s6 := if d.cause = 0x21 then s5 else s5.notice p d.cause (s5.namedHubs p)
         s6.failPart p)) := by
    unfold State.latchOne
    simp only []
    generalize hY : (if (s.part p).reported.contains d.cause = true then s.bump 0x7030 3 p
      else (s.bump 0x7030 3 p).notifyRing p 4 p (s.faultBody d (s.part p).epoch ps)) = Y
    have hp : Y.parts = s.parts := by
      have w : Y.wipe 0x2000007000000 = s.wipe 0x2000007000000 := by
        rw [← hY]
        split
        · exact State.bump_wipe _ _ _ _ _ (by decide)
        · exact (State.notifyRing_wipe _ _ _ _ _ _ (by decide)).trans (State.bump_wipe _ _ _ _ _ (by decide))
      exact parts_of_wipe (by decide) w
    refine ⟨if (s.part p).reported.contains d.cause then (s.part p).reported else d.cause :: (s.part p).reported,
      Y.modPart p fun y => { y with reported := if (s.part p).reported.contains d.cause then y.reported else d.cause :: y.reported },
      ?_, rfl⟩
    unfold State.modPart State.setPart
    simp only [hp, part_of_parts hp]
  obtain ⟨r, X, hX, hL⟩ := key
  have xp : ∀ q, X.part q = (s.modPart p fun y => { y with reported := r }).part q := part_of_parts hX
  rw [hL]
  by_cases hf : (s.part p).fault = true
  · rw [if_pos hf]
    refine ⟨fun q => ?_, ?_⟩
    · rw [xp, State.modPart, State.part_setPart]
      split
      · rename_i h
        subst h
        exact ⟨_, _, _, _, rfl, id⟩
      · exact Part.faultedFrom_self _
    · rw [xp, State.modPart, State.part_setPart_self]
      exact hf
  · rw [if_neg hf]
    simp only []
    generalize h4 : (X.modPart p fun y => { y with fault := true, cause := BitVec.ofNat 6 d.cause }) = s4
    generalize h5 : (if s4.cfg 0x6030 9 ≠ 0 ∧ s4.folioScope false p = true then s4.folioMark false p 3 (BitVec.ofNat 64 d.cause)
        else s4) = s5
    generalize h6 : (if d.cause = 0x21 then s5 else s5.notice p d.cause (s5.namedHubs p)) = s6
    have p5 : s5.parts = s4.parts := by
      rw [← h5]
      split
      · exact parts_of_wipe (m := 0x2002007000000) (by decide) (State.folioMark_wipe _ _ _ _ _ _ (by decide))
      · rfl
    have p6 : s6.parts = s5.parts := by
      rw [← h6]
      split
      · rfl
      · exact parts_of_wipe (m := 0x30020e7000000) (by decide) (State.notice_wipe _ _ _ _ _ (by decide))
    obtain ⟨x, hx⟩ := failPart_parts s6 p
    have all : ∀ q, (s6.failPart p).part q = if q = p then
        { s.part p with reported := r, fault := true, cause := BitVec.ofNat 6 d.cause
                        hold := { (s.part p).hold with xs := x } } else s.part q := by
      intro q
      rw [part_of_parts hx, State.modPart, State.part_setPart]
      have e6 : ∀ n, s6.part n = if n = p then { s.part p with reported := r, fault := true, cause := BitVec.ofNat 6 d.cause } else s.part n := by
        intro n
        rw [part_of_parts p6, part_of_parts p5, ← h4, State.modPart, State.part_setPart]
        split
        · rw [xp, State.modPart, State.part_setPart_self]
        · rw [xp, State.modPart, State.part_setPart]
          rename_i h
          rw [if_neg h]
      split
      · rw [e6, if_pos rfl]
      · rename_i h
        rw [e6, if_neg h]
    refine ⟨fun q => ?_, ?_⟩
    · rw [all]
      split
      · rename_i h
        subst h
        exact ⟨_, _, _, _, rfl, fun _ => rfl⟩
      · exact Part.faultedFrom_self _
    · rw [all, if_pos rfl]

theorem eachLatch_part (d : Detection) (qs : List Nat) : ∀ (ps : List Nat) (s : State),
    (∀ q, ((s.each (State.latchOne d qs) ps).part q).faultedFrom (s.part q)) ∧
    ∀ q ∈ ps, ((s.each (State.latchOne d qs) ps).part q).fault = true
  | [], s => ⟨fun q => Part.faultedFrom_self _, fun q h => by cases h⟩
  | p :: ps, s => by
    obtain ⟨a, b⟩ := eachLatch_part d qs ps (State.latchOne d qs s p)
    obtain ⟨a', b'⟩ := latchOne_part d qs s p
    refine ⟨fun q => Part.faultedFrom_trans (a q) (a' q), fun q h => ?_⟩
    rcases List.mem_cons.mp h with h | h
    · subst h
      exact Part.faultedFrom_fault (a _) b'
    · exact b q h

/-- R432, R439: a reported fault sets the latch of each of its partitions. -/
theorem jobFault_part (s : State) (d : Detection) (ps : List Nat) :
    (∀ q, ((s.jobFault d ps).part q).faultedFrom (s.part q)) ∧ ∀ q ∈ ps, ((s.jobFault d ps).part q).fault = true := by
  obtain ⟨a, b⟩ := eachLatch_part d ps ps s
  unfold State.jobFault
  simp only []
  split
  · have e : ∀ (X : State) (r k n : Nat) (b : BitVec 96) q, (X.notifyRing r k n b).part q = X.part q := fun X r k n b q =>
      part_of_parts (parts_of_wipe (m := 0x2000007000000) (by decide) (State.notifyRing_wipe _ _ _ _ _ _ (by decide))) q
    simp only [e]
    exact ⟨a, b⟩
  · exact ⟨a, b⟩

end Sys2Proof.Machine
end

