-- ==== Sys2Proof/Laws/Resets.lean ====
section
/-! SUPPORT. A reset of a partition that has nothing to end (R410): its steps 1 to 4 in one command. -/

namespace Sys2Proof.Machine

/-- Nothing waits at a port for a reset of its partition. -/
def Port.resetIdle (x : Port) : Prop := x.quiet ∧ x.nearWaits = [] ∧ x.parkHeld = []

theorem resetPort_idle {X : State} {p q : Nat} (h : ∀ j, (X.port j).resetIdle) :
    (∀ j, ((X.resetPort p q).port j).resetIdle) ∧ ∀ m, 0x4100000 ||| m = m → (X.resetPort p q).wipe m = X.wipe m := by
  obtain ⟨h1, h2, h3⟩ := h q
  generalize hY : X.setPort q { X.port q with parked := [], parkHeld := [], tickets := [], heldLocks := [] } = Y
  generalize hZ : Y.pcount 16 p (X.port q).tickets.length = Z
  have zp : ∀ j, Z.port j = Y.port j := by
    intro j
    unfold State.port
    rw [← hZ, ports_of_wipe (m := 0x4000000) (by decide) (State.pcount_wipe Y _ _ _ _ (by decide))]
  have yq : (Z.port q).quiet := by
    rw [zp, ← hY, State.port_setPort_self]
    exact h1
  have e : X.resetPort p q = Z := by
    unfold State.resetPort
    have e1 : X.endNears q .partitionReset (X.port q).nearWaits = X := by rw [h2]; rfl
    simp only [e1, hY, hZ]
    rw [h3]
    exact wakePort_quiet yq
  rw [e]
  refine ⟨fun j => ?_, fun m hm => ?_⟩
  · rw [zp, ← hY, State.port_setPort]
    split
    · exact ⟨h1, h2, rfl⟩
    · exact h j
  · rw [← hZ, ← hY]
    exact (State.pcount_wipe _ _ _ _ _ (mask_sub hm (by decide))).trans (State.setPort_wipe _ _ _ _ (mask_sub hm (by decide)))

theorem eachResetPort_idle {p : Nat} : ∀ (qs : List Nat) (X : State), (∀ j, (X.port j).resetIdle) →
    ∀ m, 0x4100000 ||| m = m → (X.each (fun s q => s.resetPort p q) qs).wipe m = X.wipe m
  | [], _, _, _, _ => rfl
  | q :: qs, X, h, m, hm => by
    have k := resetPort_idle (p := p) (q := q) h
    unfold State.each
    rw [eachResetPort_idle qs _ k.1 m hm, k.2 m hm]

/-- What the writes of a partition's Deposit rules leave of its record. -/
theorem eachDeposit_part {p : Nat} {d : Part → Nat → Deposit} : ∀ (ks : List Nat) (X : State),
    ∃ ds, (X.each (fun s k => s.modPart p fun x => x.setDeposit k (d x k)) ks).part p = { X.part p with deposits := ds }
  | [], X => ⟨_, rfl⟩
  | k :: ks, X => by
    obtain ⟨ds, h⟩ := eachDeposit_part (d := d) ks (X.modPart p fun x => x.setDeposit k (d x k))
    refine ⟨ds, ?_⟩
    unfold State.each
    rw [h]
    unfold State.modPart
    rw [State.part_setPart_self]
    rfl

theorem eachDeposit_wipe {p : Nat} {d : Part → Nat → Deposit} (ks : List Nat) (X : State) (m : Nat) (hm : 0x1000 ||| m = m) :
    (X.each (fun s k => s.modPart p fun x => x.setDeposit k (d x k)) ks).wipe m = X.wipe m :=
  State.each_wipe _ _ _ _ (by simp) fun s n => State.modPart_wipe s p _ _ hm

/-- R410 steps 1 to 4, where nothing has to be ended: the partition's quiesce request rises. -/
theorem beginReset_atOnce {X : State} {p : Nat} (new : BitVec 8) (ctx : Bool) (load : Option (BitVec 64))
    (h : X.resetsAtOnce p) :
    ((X.beginReset p new ctx load).part p).reset = { (X.part p).reset with
      step := .quiescing, newEpoch := new, isContext := ctx, load := load, overridden := false, recalls := [] } ∧
    ((X.beginReset p new ctx load).part p).quiesceReq = true ∧
    ((X.beginReset p new ctx load).part p).epoch = (X.part p).epoch ∧
    ∀ m, 0x4101000 ||| m = m → (X.beginReset p new ctx load).wipe m = X.wipe m := by
  obtain ⟨h1, h2, h3, h4, h5, h6, h7, h8, h9, h10⟩ := h
  generalize hx : ({ (X.part p).reset with
    step := .cancelling, newEpoch := new, isContext := ctx, load := load, overridden := false } : ResetSeq) = r
  generalize hZ : X.setPart p { X.part p with reset := r } = Z
  have zp : Z.part p = { X.part p with reset := r } := by rw [← hZ, State.part_setPart_self]
  have zw : ∀ m, 0x1000 ||| m = m → Z.wipe m = X.wipe m := fun m hm => by
    rw [← hZ]
    exact State.setPart_wipe _ _ _ _ hm
  -- step 1
  have s1 : (Z.each (fun s k => if (s.shelf p k).state = .armed then s.failShelf p k 5 else s) [0, 1]) = Z := by
    have n : ∀ k, ¬ (Z.shelf p k).state = .armed := by
      intro k
      unfold State.shelf
      rw [zp]
      exact h6 k
    unfold State.each State.each State.each
    simp only [n, if_false]
  generalize hY : Z.each (fun s k => s.modPart p fun x => x.setDeposit k { x.deposit k with enable := false })
    (numsFrom 0 8) = Y
  obtain ⟨ds, yp⟩ : ∃ ds, Y.part p = { Z.part p with deposits := ds } := by
    rw [← hY]
    exact eachDeposit_part (d := fun x k => { x.deposit k with enable := false }) _ _
  have yw : ∀ m, 0x1000 ||| m = m → Y.wipe m = X.wipe m := fun m hm => by
    rw [← hY]
    exact (eachDeposit_wipe (d := fun x k => { x.deposit k with enable := false }) _ _ _ hm).trans (zw m hm)
  have s2 : Z.endDeposits p = Y := by
    unfold State.endDeposits
    have : ((numsFrom 0 8).filter fun k => ((Z.part p).deposit k).waiting) = [] := by
      rw [List.filter_eq_nil_iff]
      intro k _
      rw [zp]
      show ¬ ((X.part p).deposit k).waiting = true
      rw [h7]
      decide
    simp only [this, hY]
    rfl
  have s3 : Z.resetStep1 p = Y := by
    unfold State.resetStep1
    simp only [s1, s2]
    unfold State.abortInventory
    have : (Y.part p).inv.running = false := by
      rw [yp, zp]
      exact h8
    simp only [this, Bool.false_and, Bool.false_eq_true, if_false]
  -- step 2
  have q1 := waiters_of_wipe (m := 0x1000) (by decide) (yw _ (by decide))
  have q2 := partCount_of_wipe (m := 0x1000) (by decide) (yw _ (by decide))
  have q3 := ledgers_of_wipe (m := 0x1000) (by decide) (yw _ (by decide))
  have q4 := buffered_of_wipe (m := 0x1000) (by decide) (yw _ (by decide))
  have q5 := ports_of_wipe (m := 0x1000) (by decide) (yw _ (by decide))
  have q6 := lenders_of_wipe (m := 0x1000) (by decide) (yw _ (by decide))
  have w1 : Y.waitersOf p = [] := by
    unfold State.waitersOf State.partOfIndex State.shareSize at h1 ⊢
    simp only [q1, q2]
    exact h1
  have w3 : Y.ledgersOf p = [] := by
    unfold State.ledgersOf State.loanShare at h3 ⊢
    simp only [q3, q2]
    exact h3
  have w4 : Y.bufferedOf p = [] := by
    unfold State.bufferedOf at h4 ⊢
    rw [q4]
    exact h4
  have w6 : Y.buffered.filter (fun t => t.partition ≠ p) = Y.buffered := by
    rw [List.filter_eq_self]
    intro t ht
    have : t ∉ Y.buffered.filter fun t => t.partition = p := by
      have e : Y.buffered.filter (fun t => t.partition = p) = [] := w4
      rw [e]
      exact List.not_mem_nil
    rw [List.mem_filter] at this
    simp only [decide_eq_true_eq, ne_eq, decide_not, Bool.not_eq_true', decide_eq_false_iff_not]
    intro c
    exact this ⟨ht, by simpa using c⟩
  have yh : (Y.part p).hold.held = false := by rw [yp, zp]; exact h9
  generalize hV : Y.pcount 16 p 0 = V
  have vw : ∀ m, 0x4000000 ||| m = m → V.wipe m = Y.wipe m := fun m hm => by
    rw [← hV]
    exact State.pcount_wipe _ _ _ _ _ hm
  have vq : ∀ j, (V.port j).resetIdle := by
    intro j
    unfold State.port
    rw [ports_of_wipe (m := 0x4000000) (by decide) (vw _ (by decide)), q5]
    exact h5 j
  generalize hU : V.each (fun s q => s.resetPort p q) (V.partPorts p) = U
  have uw : ∀ m, 0x4100000 ||| m = m → U.wipe m = Y.wipe m := fun m hm => by
    rw [← hU]
    exact (eachResetPort_idle _ _ vq m hm).trans (vw m (mask_sub hm (by decide)))
  have s4 : Y.resetStep2 p = U := by
    have e1 : (if (Y.part p).reset.isContext then Y.bumpN 0x3010 20 p (Y.waitersOf p).length else Y) = Y := by
      rw [w1]
      simp only [List.length_nil, State.bumpN]
      split <;> rfl
    have e2 : Y.resumeHere p = Y := by
      unfold State.resumeHere
      rw [if_neg (by rw [yh]; decide)]
    unfold State.resetStep2
    simp only [e1]
    rw [w1]
    simp only [State.endWaiters]
    rw [w3]
    simp only [State.returnAll, e2, w6]
    have e3 : (Y.bufferedOf p).length = 0 := by rw [w4]; rfl
    rw [e3]
    have e4 : ({ Y with buffered := Y.buffered } : State) = Y := rfl
    simp only [e4, hV, hU]
  have up : U.part p = Y.part p := part_of_parts (parts_of_wipe (m := 0x4100000) (by decide) (uw _ (by decide))) p
  have ul : U.lendersOf p = [] := by
    unfold State.lendersOf State.loanShare at h2 ⊢
    rw [lenders_of_wipe (m := 0x4100000) (by decide) (uw _ (by decide)), q6,
      partCount_of_wipe (m := 0x4100000) (by decide) (uw _ (by decide)), q2]
    exact h2
  have e : X.beginReset p new ctx load =
      ((U.modReset p fun r => { r with step := .recalling, recalls := [] }).resetStep4 p) := by
    unfold State.beginReset
    have e0 : X.modReset p (fun r => { r with step := .cancelling, newEpoch := new, isContext := ctx, load := load, overridden := false }) = Z := by
      rw [← hZ, ← hx]
      rfl
    simp only [e0, s3, s4, ul, List.filter_nil, List.map_nil, State.recallAll]
    generalize hT : U.modReset p (fun r => { r with step := .recalling, recalls := [] }) = T
    have tl : T.lendersOf p = [] := by rw [← hT]; exact ul
    unfold State.resetRecalled
    have tp : (T.part p).reset.step = .recalling := by
      rw [← hT]
      unfold State.modReset State.modPart
      rw [State.part_setPart_self]
    rw [tl, if_pos ⟨tp, rfl⟩]
  have up2 : U.part p = { X.part p with reset := r, deposits := ds } := by rw [up, yp, zp]
  have e2 : X.beginReset p new ctx load = U.setPart p { X.part p with
      reset := { r with step := .quiescing, recalls := [] }
      deposits := ds
      quiesceReq := true
      quiesceSlice := false
      quiesceSince := U.clock
      quiesceNoted := false } := by
    rw [e]
    generalize hT : U.modReset p (fun r => { r with step := .recalling, recalls := [] }) = T
    have tT : T = U.setPart p { X.part p with reset := { r with step := .recalling, recalls := [] }, deposits := ds } := by
      rw [← hT]
      unfold State.modReset State.modPart
      rw [up2]
    have tp : T.part p = { X.part p with reset := { r with step := .recalling, recalls := [] }, deposits := ds } := by
      rw [tT, State.part_setPart_self]
    have tq : T.quiesceIdle p = true := by
      unfold State.quiesceIdle at h10 ⊢
      rw [tp]
      exact h10
    unfold State.resetStep4
    rw [if_pos tq]
    unfold State.raiseQuiesce State.modReset State.modPart
    rw [State.part_setPart_self, setPart_setPart, tp, tT, setPart_setPart]
    rfl
  rw [e2, State.part_setPart_self]
  refine ⟨?_, rfl, rfl, fun m hm => ?_⟩
  · rw [← hx]
  · exact (State.setPart_wipe _ _ _ _ (mask_sub hm (by decide))).trans
      ((uw m (mask_sub hm (by decide))).trans (yw m (mask_sub hm (by decide))))

end Sys2Proof.Machine
end

