-- ==== Sys2Proof/Laws/ShownOps.lean ====
section
/-! SUPPORT. Lemmas about an op at its home, and the service ops of a shim, for the proofs of the obligations. -/

set_option linter.all false

namespace Sys2Proof.Machine

theorem countSig_word (w : BitVec 64) :
    (getFld ((getFld w 32 32 + 1 : BitVec 32) ++ (getFld w 0 32 : BitVec 32)) 1 63 : BitVec 63) ++ (1 : BitVec 1) =
    (getFld w 32 32 + 1 : BitVec 32) ++ (getFld w 1 31 : BitVec 31) ++ (1 : BitVec 1) := by
  apply BitVec.eq_of_getLsbD_eq
  intro i hi
  simp only [getFld, BitVec.getLsbD_append, BitVec.getLsbD_extractLsb']
  rcases Nat.lt_trichotomy i 32 with h | h | h <;> grind

theorem signalled {r : ObjRec} {a : HomeOp} {o : Originator} {t : Time} (h1 : a.originator = o) (h2 : a.entered = t.low22) :
    (r.countSig.withSet true).by a = (r.word ((getFld r.word0 32 32 + 1 : BitVec 32) ++ (getFld r.word0 1 31 : BitVec 31) ++
            (1 : BitVec 1))).wrote o t := by
  unfold ObjRec.by ObjRec.wrote ObjRec.word ObjRec.withSet ObjRec.countSig
  rw [h1, h2, ← countSig_word]
  rfl

theorem unsetted {r : ObjRec} {a : HomeOp} {o : Originator} {t : Time} (h1 : a.originator = o) (h2 : a.entered = t.low22) :
    (r.withSet false).by a = (r.word ((getFld r.word0 1 63 : BitVec 63) ++ (0 : BitVec 1))).wrote o t := by
  unfold ObjRec.by ObjRec.wrote ObjRec.word ObjRec.withSet
  rw [h1, h2]
  rfl

theorem by_wrote {r : ObjRec} {a : HomeOp} {o : Originator} {t : Time} (h1 : a.originator = o) (h2 : a.entered = t.low22) :
    r.by a = r.wrote o t := by
  unfold ObjRec.by ObjRec.wrote
  rw [h1, h2]

theorem setAmount_word (r : ObjRec) (n : Int) : r.setAmount n = r.word (BitVec.ofInt 64 n) := rfl

theorem operandInt_word (r : ObjRec) (x : BitVec 64) : BitVec.ofInt 64 (r.operandInt x) = x := by
  unfold ObjRec.operandInt
  split
  · exact BitVec.ofInt_toInt
  · show BitVec.ofInt 64 ((x.toNat : Nat) : Int) = x
    rw [BitVec.ofInt_natCast, BitVec.ofNat_toNat, BitVec.setWidth_eq]

theorem notEvent {r : ObjRec} (h : r.otype = .token ∨ r.otype = .sem) : decide (r.otype = .event) = false := by
  rcases h with h | h <;> rw [h] <;> rfl

theorem takeBad {n : BitVec 64} : (n = 0 ∨ n.getLsbD 63 = true) ↔ takeOperandOk n = false := by
  unfold takeOperandOk
  by_cases h : n = 0
  · simp only [h, true_or, ne_eq, not_true_eq_false, decide_false, Bool.false_and]
  · have g : decide (n ≠ 0) = true := decide_eq_true h
    rw [g, Bool.true_and]
    simp only [h, false_or, Bool.not_eq_false']

theorem takeGood {n : BitVec 64} (h : n ≠ 0) (h2 : n.getLsbD 63 = false) : takeOperandOk n = true := by
  unfold takeOperandOk
  rw [h2, decide_eq_true h]
  rfl

theorem notLock {r : ObjRec} (h : r.otype = .token ∨ r.otype = .sem) : r.otype ≠ .lock := by
  rcases h with h | h <;> rw [h] <;> decide

theorem initRecord_types {p : Nat} {a : HomeOp} {x : InitArgs} {o : Originator} {t : Time} (h1 : a.originator = o)
    (h2 : a.entered = t.low22) (base : ObjRec)
    (hb : base = ({ mode := x.mode, partition := BitVec.ofNat 4 p, wide := x.wide } : ObjRec).wrote o t) :
    (x.otype = some .none → initRecord p a x = {}) ∧
    (x.otype = some .event → initRecord p a x =
          { base with otype := .event, word0 := (getFld x.a 0 1 : BitVec 1).setWidth 64 }) ∧
    (x.otype = some .token → initRecord p a x =
          { base with otype := .token, hi := (getFld x.a 54 3 : BitVec 3).setWidth 64 <<< 48,
                      word1 := if x.loanable then 0 else x.b,
                      word0 := BitVec.signExtend 64 (getFld x.a 0 54 : BitVec 54) }) ∧
    (x.otype = some .sem → initRecord p a x =
          { base with otype := .sem, word1 := x.b, word0 := (getFld x.a 0 54 : BitVec 54).setWidth 64 }) ∧
    (x.otype = some .lock → initRecord p a x =
          { base with otype := .lock, hi := (getFld x.a 0 8 : BitVec 8).setWidth 64 <<< 35 }) ∧
    (x.otype = some .trig → initRecord p a x = { base with otype := .trig }) ∧
    (x.otype = some .barrier → x.kind = 0 → x.hasParent = false → initRecord p a x =
          { base with otype := .barrier, word1 := (0 : BitVec 32) ++ (getFld x.a 0 32 : BitVec 32) }) := by
  have z1 : ∀ c : BitVec 3, (0 : BitVec 13) ++ c ++ (0 : BitVec 48) = c.setWidth 64 <<< 48 := by decide
  have z2 : ∀ c : BitVec 8, (0 : BitVec 21) ++ c ++ (0 : BitVec 35) = c.setWidth 64 <<< 35 := by decide
  subst hb h1
  unfold initRecord ObjRec.wrote
  rw [h2]
  refine ⟨fun h => ?_, fun h => ?_, fun h => ?_, fun h => ?_, fun h => ?_, fun h => ?_, fun h h3 h4 => ?_⟩
  all_goals simp only [h, InitArgs.cls, InitArgs.value, z1, z2]
  all_goals try simp only [h3, h4, Bool.false_eq_true, if_false, InitArgs.expected]
  all_goals try rw [if_neg (by decide), if_neg (by decide)]

theorem svc (c : Opcode) (hc : c = .park ∨ c = .unpark ∨ c = .hold ∨ c = .resume ∨ c = .fence) :
    codeService (opCode c) = true := by rcases hc with h | h | h | h | h <;> subst h <;> decide

theorem newPend_op {s : State} {lane ctx c op n} (hg : (s.presented lane ctx c op).goesOn c) :
    (s.newPend (s.presented lane ctx c op) n).op = op := by
  unfold State.newPend
  rw [hg.2.1]
  rfl

end Sys2Proof.Machine
end

