-- ==== Sys2Proof/Laws/ShownShim.lean ====
section
/-! SUPPORT. Lemmas about the events of a shim, for the proofs of the obligations. -/

set_option linter.all false

namespace Sys2Proof.Machine

/-- What a state that shares the hub's notes and its ports leaves of the holds. -/
theorem portHeld_none {X s : State} {p : Nat} (e : X.parts = s.parts) (h2 : ∀ q, q < 16 → (s.part q).hold.held = false) :
    X.portHeld p = false := by
  have e1 : ∀ q, X.part q = s.part q := by
    intro q
    unfold State.part
    rw [e]
  unfold State.portHeld
  by_cases g : X.portPart p < 16
  · rw [e1, h2 _ g]
    simp
  · simp only [g, decide_false, Bool.false_and]

/-- The store of near objects after a write of one. -/
theorem nearObj_setNear (x : Port) (n : Nat) (o : NearObj) : (x.setNear n o).nearObj n = o := by
  unfold Port.nearObj Port.setNear
  exact Sparse.get_put_self _ _ _ _

theorem portGate_ports {X : State} (P : Sparse Port) (p : Nat) (c : BitVec 6) :
    ({ X with ports := P } : State).portGate p c = X.portGate p c := rfl

theorem near_set {X : State} {p : Nat} {w : NearWait} (hc : w.opcode = opCode .set) (hg : X.portGate p w.opcode = none)
    (hf : (X.port p).nearFlips = []) (hl : X.latched (X.portPart p) = false)
    (hnf : (X.port p).nearFault.getLsbD w.index = false) (ht : (X.near p w.index).otype = .event)
    (hw : (X.port p).waitsOn w.index = []) (hlc : (X.port p).laneClear w.lane w.op) (hpk : (X.port p).parked = [])
    (hh : ∀ q, q < 16 → (X.part q).hold.held = false) :
    ∃ x : Port, (X.performNear p w .set).port p = x ∧ x.nearObj w.index = (X.near p w.index).withSet true ∧
      x.issue = (X.port p).issue ∧ x.fences = (X.port p).fences ∧ x.drains = (X.port p).drains ∧
      (w.op.flags.noresp = false → ∃ r ∈ x.lanes, r.lane = w.lane ∧ r.beat2 = false ∧ ∃ n, r.word = respWord .ok w.op.tag n) ∧
      ∀ m, 0x2002007100000 ||| m = m → (X.performNear p w .set).wipe m = X.wipe m := by
  have hck : X.nearCheck p w.index = X := by
    unfold State.nearCheck
    rw [hf]
    rfl
  have e0 : X.performNear p w .set = (X.setNear p w.index ((X.near p w.index).withSet true)).nearFinish p w .ok 0 0 := by
    unfold State.performNear
    rw [hg]
    simp only [hck, hl, hnf, Bool.or_self, Bool.false_eq_true, if_false]
    rw [ht]
    have : nearApplies .set .event = true := by decide
    simp only [this, Bool.not_true, Bool.false_eq_true, if_false]
    unfold State.nearEffect
    simp only []
    unfold State.nearSignal
    rw [hw]
    rfl
  generalize hY : X.setNear p w.index ((X.near p w.index).withSet true) = Y at e0
  have yp : Y.port p = (X.port p).setNear w.index ((X.near p w.index).withSet true) := by
    rw [← hY]
    unfold State.setNear State.modPort
    exact State.port_setPort_self _ _ _
  have yw : ∀ m, 0x100000 ||| m = m → Y.wipe m = X.wipe m := by
    intro m hm
    rw [← hY]
    exact State.setNear_wipe _ _ _ _ _ hm
  generalize hZ : ((Y.shimReach (Y.nearOp p w)).recordOp (Y.nearOp p w) .ok 0) = Z
  have zw : ∀ m, 0x2002007000000 ||| m = m → Z.wipe m = Y.wipe m := by
    intro m hm
    rw [← hZ, State.recordOp_wipe _ _ _ _ _ hm, State.shimReach_wipe _ _ _ (mask_sub hm (by decide))]
  have zp : Z.port p = Y.port p := port_of_ports (ports_of_wipe (m := 0x2002007000000) (by decide) (zw _ (by decide))) _
  have e1 : X.performNear p w .set =
      if w.op.flags.noresp then Z else Z.offer p (Z.nearRsp p w.lane w.opcode w.op w.context w.stamp .ok 0 0) := by
    rw [e0]
    unfold State.nearFinish
    simp only [show Status.good .ok = true from rfl, if_true, hZ]
    unfold State.nearAnswer
    simp only [State.countRefused, show Status.good .ok = true from rfl, if_true]
  have zparts : Z.parts = X.parts := by
    have a := parts_of_wipe (m := 0x2002007000000) (by decide) (zw _ (by decide))
    have b := parts_of_wipe (m := 0x100000) (by decide) (yw _ (by decide))
    exact a.trans b
  by_cases hn : w.op.flags.noresp = true
  · rw [if_pos hn] at e1
    refine ⟨_, rfl, ?_, ?_, ?_, ?_, fun h => ?_, fun m hm => ?_⟩
    · rw [e1, zp, yp]
      exact nearObj_setNear _ _ _
    · rw [e1, zp, yp]
      rfl
    · rw [e1, zp, yp]
      rfl
    · rw [e1, zp, yp]
      rfl
    · rw [hn] at h
      cases h
    · rw [e1, zw m (mask_sub hm (by decide)), yw m (mask_sub hm (by decide))]
  · rw [if_neg hn, offer_lane] at e1
    · refine ⟨_, rfl, ?_, ?_, ?_, ?_, fun h => ?_, fun m hm => ?_⟩
      · rw [e1, State.port_setPort_self, zp, yp]
        exact nearObj_setNear _ _ _
      · rw [e1, State.port_setPort_self, zp, yp]
        rfl
      · rw [e1, State.port_setPort_self, zp, yp]
        rfl
      · rw [e1, State.port_setPort_self, zp, yp]
        rfl
      · rw [e1, State.port_setPort_self]
        exact ⟨_, List.mem_append_right _ (List.mem_singleton.mpr rfl), rfl, rfl, 0, rfl⟩
      · rw [e1, State.setPort_wipe _ _ _ _ (mask_sub hm (by decide)), zw m (mask_sub hm (by decide)),
          yw m (mask_sub hm (by decide))]
    · exact hlc.1
    · rw [zp, yp]
      exact hlc.2
    · right
      rw [zp, yp]
      exact hpk
    · right
      exact portHeld_none zparts hh

/-- Refilling a bucket (R292). -/
theorem refill_tokens (b : Bucket) (t : Time) (d q : Nat) :
    (b.refill t d q).tokens = min d (b.tokens + elapsed b.lastRefill t / q) := by
  unfold Bucket.refill
  simp only []
  split
  · rename_i h
    exact (Nat.min_eq_left h).symm
  · rename_i h
    exact (Nat.min_eq_right (Nat.le_of_not_le h)).symm

theorem discardShimOps_notes {q : Nat} {m : Nat} (hm : 0x2002007000000 ||| m = m) (hs : List ShimOp) (X : State) :
    (X.discardShimOps q hs).wipe m = X.wipe m := by
  induction hs generalizing X with
  | nil => rfl
  | cons h hs ih =>
    unfold State.discardShimOps
    rw [ih]
    exact State.discardShimOp_wipe _ _ _ _ (mask_sub hm (by decide))

theorem numsFrom_mem : ∀ (n lo q : Nat), lo ≤ q → q < lo + n → q ∈ numsFrom lo n
  | 0, lo, q, h1, h2 => by omega
  | n + 1, lo, q, h1, h2 => by
    unfold numsFrom
    by_cases h : q = lo
    · rw [h]
      exact List.mem_cons_self
    · exact List.mem_cons_of_mem _ (numsFrom_mem n (lo + 1) q (by omega) (by omega))

theorem endSent_one (X : State) (q : Nat) (st : Status) (counts : Bool) (e : Pend) :
    ∃ v, X.endSent q st counts [e] =
      (((X.modPort q fun x => { x with voided := x.voided ++ v }).countRefused
        ((X.modPort q fun x => { x with voided := x.voided ++ v }).pendOp q e) st).answerPend q e st 0 0).wakePort q :=
  ⟨_, rfl⟩

/-- A response leaves what waits at its shim as it is. -/
theorem offer_quiet {X : State} {p : Nat} (r : Rsp) (h : (X.port p).quiet) : ((X.offer p r).port p).quiet := by
  unfold State.offer
  simp only []
  split
  · rw [State.port_setPort_self]; exact h
  · split
    · rw [State.port_setPort_self]; exact h
    · rw [State.port_setPort_self]
      unfold Port.ready Port.raisePulse
      split
      · split <;> exact h
      · exact h

theorem answerPend_quiet {X : State} {p : Nat} (e : Pend) (st : Status) (n : Nat) (v : BitVec 64) (h : (X.port p).quiet) :
    ((X.answerPend p e st n v).port p).quiet := by
  unfold State.answerPend State.pendArrive
  apply offer_quiet
  rw [State.port_setPort_self]
  split <;> exact h

end Sys2Proof.Machine
end

