-- ==== Sys2Proof/Laws/ShownTime.lean ====
section
/-! SUPPORT. Lemmas about the timed events, the pins and the start of the hub, for the proofs of the obligations. -/

set_option linter.all false

namespace Sys2Proof.Machine

theorem markSince_none (t : Time) (q : Waiter) : ∀ l : List Waiter, (∀ w ∈ l, w.sameQueue q = false) → markSince t q l = l
  | [], _ => rfl
  | w :: ws, h => by
    unfold markSince
    rw [h w (List.mem_cons_self), markSince_none t q ws (fun x hx => h x (List.mem_cons_of_mem _ hx))]
    rfl

theorem freeWaiter_alone {s : State} {w : Waiter} (hk : w.kind ≠ .ledger) (hq : s.queue w.object = [w]) :
    s.freeWaiter w = { s with waiters := s.waiters.filter fun q => q.num ≠ w.num } := by
  unfold State.freeWaiter
  simp only [hk, if_false]
  have : markSince s.clock w (s.waiters.filter fun q => q.num ≠ w.num) = s.waiters.filter fun q => q.num ≠ w.num := by
    apply markSince_none
    intro x hx
    by_contra hc
    rw [Bool.not_eq_false] at hc
    obtain ⟨h1, h2⟩ := List.mem_filter.mp hx
    have : x ∈ s.queue w.object := by
      unfold State.queue
      rw [List.mem_filter]
      unfold Waiter.sameQueue at hc
      simp [hk] at hc
      exact ⟨h1, by simp [hc]⟩
    rw [hq, List.mem_singleton] at this
    rw [this] at h2
    simp at h2
  rw [this]
  simp

theorem endWaiters_objs (s : State) (st : Status) (ws : List Waiter) : (s.endWaiters st ws).objs = s.objs :=
  objs_of_wipe (m := 0x30020e7470000) (by decide) (State.endWaiters_wipe _ _ _ _ (by decide))

/-- R85: a break marks the barrier, and no other record changes. -/
theorem breakBarrier_objs {s : State} {i : Nat} (h : (s.obj i).broken = false) :
    (s.breakBarrier i).objs = (s.setObj i { s.obj i with broken := true }).objs := by
  unfold State.breakBarrier
  simp only [h, Bool.false_eq_true, if_false]
  split
  · rw [objs_of_wipe (m := 0x30020e7000000) (by decide) (State.forward_wipe _ _ _ _ (by decide)), endWaiters_objs]
  · rw [endWaiters_objs]

theorem each_id {X : State} {f : State → Nat → State} (h : ∀ q, f X q = X) : ∀ qs, X.each f qs = X
  | [] => rfl
  | q :: qs => by
    unfold State.each
    rw [h, each_id h qs]

theorem exec_link {s : State} {c : Nat} (f : State → Nat → State) (hl : s.live = true) (hb : s.linkBuilt c = true) :
    s.atLink c (fun s => s.whenLive fun s => f s c) = .next (f s c) := atLink_live _ hl hb

theorem bump_links (X : State) (i j k : Nat) : (X.bump i j k).links = X.links ∧ (X.bump i j k).out = X.out :=
  ⟨links_of_wipe (m := 0x2000004000000) (by decide) (State.bump_wipe _ _ _ _ _ (by decide)),
   out_of_wipe (m := 0x2000004000000) (by decide) (State.bump_wipe _ _ _ _ _ (by decide))⟩

theorem replayFlits_out (c : Nat) (a : BitVec 12) : ∀ (ks : List Kept) (X : State), (X.link c).owed = [0, 0, 0, 0] →
    (X.link c).aseq = a →
    (X.replayFlits c ks).out = X.out ++ ks.map (fun k => .flit c (Flit.encode
      { ftype := BitVec.ofNat 4 (4 + k.flit.buf), head := k.flit.head, fseq := k.seq, aseq := a, crv := false, crb := 0,
        payload := k.flit.payload })) ∧
    ((X.replayFlits c ks).link c).replays = (X.link c).replays
  | [], X, _, _ => by
    unfold State.replayFlits
    simp
  | k :: ks, X, h, ha => by
    obtain ⟨f, h1, h2, h3, h4, h5, o, h6, h7⟩ := sendFlit_out X c (BitVec.ofNat 4 (4 + k.flit.buf)) k.flit.head k.seq k.flit.payload
    have g := h7 h
    have ih := replayFlits_out c a ks (X.sendFlit c (BitVec.ofNat 4 (4 + k.flit.buf)) k.flit.head k.seq k.flit.payload)
      (by rw [h6]; exact g.1) (by rw [h6]; exact ha)
    unfold State.replayFlits
    refine ⟨?_, ?_⟩
    · rw [ih.1, h1, g.2, ha]
      simp
    · rw [ih.2, h6]

theorem timeFlit_up {X : State} {c : Nat} {p : BitVec 192} (h : (X.link c).state = .up) :
    X.timeFlit c p = if (getFld p 188 4 : BitVec 4) = 1 then X.answerTime c p
      else if (getFld p 188 4 : BitVec 4) = 2 then X.timeAnswer c p else X := by
  unfold State.timeFlit
  simp only [h, ne_eq, not_true_eq_false, if_false]

theorem parts_part {X Y : State} (e : X.parts = Y.parts) (q : Nat) : X.part q = Y.part q := by
  unfold State.part; rw [e]

theorem whenClocked_on {s : State} (f : State → State) (hl : s.live = true) (hr : s.refLost = false) :
    s.whenClocked f = f s := by
  unfold State.whenClocked
  rw [if_pos]
  simp only [hl, hr, Bool.not_false, Bool.and_self]

theorem notes_of_restart (s : State) (k port : Nat) (hk : k ≠ 29) (m : Nat) (hm : 0x2002007000000 ||| m = m) :
    ∃ Y : State, (∀ ok, s.restart k port [] ok = if ok then Y.restartPasses k port else Y.restartFails k port) ∧
      Y.wipe m = ({ s with stuck := s.stuck.filter fun j => j ≠ k } : State).wipe m := by
  generalize hX : ({ s with stuck := s.stuck.filter fun j => j ≠ k } : State) = X
  have hd : X.discardItems k [] = X := by
    unfold State.discardItems
    split
    · rfl
    · split
      · rfl
      · rfl
  have hc : X.capturedParts (latchItems k []) = [] := by
    have : latchItems k [] = [] := by
      unfold latchItems
      split
      · rfl
      · split <;> rfl
    rw [this]
    unfold State.capturedParts
    rfl
  refine ⟨X.noteRestart k port [], fun ok => ?_, ?_⟩
  · unfold State.restart
    rw [hX]
    simp only [hd, hc]
  · unfold State.noteRestart State.jobFault
    have h1 : ∀ (Y : State) (d : Detection), Y.each (State.latchOne d []) [] = Y := fun _ _ => rfl
    simp only [h1, true_or, if_true]
    rw [State.notifyRing_wipe _ _ _ _ _ _ (mask_sub hm (by decide)), State.record_wipe _ _ _ (mask_sub hm (by decide)),
      State.setCfg_wipe _ _ _ _ _ _ (mask_sub hm (by decide)), State.bump_wipe _ _ _ _ _ (mask_sub hm (by decide))]

theorem evInput_on {s : State} (i : Nat) (l : Bool) (hi : i < 16) (hl : s.live = true) (hr : s.refLost = false) :
    exec (.evInputChange i l) s = .next (s.evChange i l) := by
  show execEvInputChange i l s = _
  unfold execEvInputChange State.atUnit
  rw [if_pos hi]
  unfold State.evInput
  simp only [hl, hr, Bool.not_true, Bool.false_eq_true, if_false]

theorem bumpN_cfg {i sub p : Nat} : ∀ (n : Nat) (X : State), X.cfg i sub p + n < 2 ^ 32 →
    (X.bumpN i sub p n).cfg i sub p = X.cfg i sub p + n
  | 0, X, _ => rfl
  | n + 1, X, h => by
    unfold State.bumpN
    have e : (X.bump i sub p).cfg i sub p = X.cfg i sub p + 1 := by
      unfold State.bump
      rw [if_pos (by omega)]
      unfold State.setCfg
      show ((X.cat.put catNone (catKey i sub p) _).get catNone (catKey i sub p)).toNat = _
      rw [Sparse.get_put_self, BitVec.toNat_ofNat, Nat.mod_eq_of_lt (by omega)]
    rw [bumpN_cfg n _ (by omega), e]
    omega

theorem Sparse.get_remap {α : Type} [DecidableEq α] {d : Nat → α} {f : α → α} (hd : ∀ k, f (d k) = d k) :
    ∀ {m : Sparse α}, m.wf d = true → ∀ k, (m.remap d f).get d k = f (m.get d k)
  | [], _, k => (hd k).symm
  | (i, v) :: t, h, k => by
    obtain ⟨h1, h2, h3⟩ := Sparse.wf_cons.mp h
    unfold Sparse.remap
    split
    · rename_i hv
      rw [Sparse.get_remap hd h3]
      by_cases e : k = i
      · subst e
        simp only [Sparse.get, if_true, hv, Sparse.get_of_above (Nat.le_refl _) h1, hd]
      · simp only [Sparse.get, e, if_false]
    · simp only [Sparse.get]
      by_cases e : k = i
      · simp only [e, if_true]
      · simp only [e, if_false, Sparse.get_remap hd h3]

theorem allPorts_bit (b : Build) (q : Nat) (hq : q < 128) :
    b.allPorts.testBit q = decide (q / 16 < b.clusters ∧ q % 16 < b.cores) := by
  have key : ∀ (l : List Nat) (m : Nat), (l.foldl (fun m p => if p / 16 < b.clusters ∧ p % 16 < b.cores then m ||| (1 <<< p) else m) m).testBit q =
      (m.testBit q || (decide (q ∈ l) && decide (q / 16 < b.clusters ∧ q % 16 < b.cores))) := by
    intro l
    induction l with
    | nil => intro m; simp
    | cons x xs ih =>
      intro m
      rw [List.foldl_cons, ih]
      by_cases hx : x / 16 < b.clusters ∧ x % 16 < b.cores
      · rw [if_pos hx, Nat.testBit_or, Nat.one_shiftLeft, Nat.testBit_two_pow]
        by_cases e : x = q
        · subst e
          simp [hx]
        · have e' : q ≠ x := fun h => e h.symm
          simp [e, e']
      · rw [if_neg hx]
        by_cases e : q = x
        · subst e
          simp [hx]
        · simp [e]
  unfold Build.allPorts
  rw [key]
  have : q ∈ numsFrom 0 128 := by
    have : ∀ n < 128, n ∈ numsFrom 0 128 := by decide
    exact this q hq
  simp [this]

theorem each_same {f : State → Nat → State} {s : State} : ∀ (l : List Nat), (∀ n ∈ l, f s n = s) → s.each f l = s
  | [], _ => rfl
  | x :: xs, h => by
    unfold State.each
    rw [h x (List.mem_cons_self ..)]
    exact each_same xs fun n hn => h n (List.mem_cons_of_mem _ hn)

theorem sliceRaise_all : ∀ (l : List Nat) (X : State), X.reslice.step = .quiescing → (∀ q ∈ l, X.reslice.waiting.contains q = true) →
    (X.each State.sliceRaise l).reslice = X.reslice ∧ (∀ m, 0x1000 ||| m = m → (X.each State.sliceRaise l).wipe m = X.wipe m) ∧
    ∀ q, (X.each State.sliceRaise l).part q = if q ∈ l ∧ X.quiesceIdle q = true then
          { X.part q with quiesceReq := true, quiesceSlice := true, quiesceSince := X.clock, quiesceNoted := false }
          else X.part q
  | [], X, _, _ => ⟨rfl, fun _ _ => rfl, fun q => by
      rw [if_neg (fun h => List.not_mem_nil h.1)]
      rfl⟩
  | p :: ps, X, h1, h2 => by
    unfold State.each
    have hs : X.sliceRaise p = if X.quiesceIdle p = true then X.raiseQuiesce p true else X := by
      unfold State.sliceRaise
      by_cases h : X.quiesceIdle p = true
      · rw [if_pos ⟨h1, h2 p (List.mem_cons_self ..), h⟩, if_pos h]
      · rw [if_neg (fun k => h k.2.2), if_neg h]
    have hr : (X.sliceRaise p).reslice = X.reslice := by rw [hs]; split <;> rfl
    have hw : ∀ m, 0x1000 ||| m = m → (X.sliceRaise p).wipe m = X.wipe m := by
      intro m hm
      rw [hs]
      split
      · exact State.setPart_wipe _ _ _ _ hm
      · rfl
    obtain ⟨a, b, c⟩ := sliceRaise_all ps (X.sliceRaise p) (by rw [hr]; exact h1) (fun q hq => by rw [hr]; exact h2 q (List.mem_cons_of_mem _ hq))
    refine ⟨a.trans hr, fun m hm => (b m hm).trans (hw m hm), fun q => ?_⟩
    rw [c]
    have ht : (X.sliceRaise p).clock = X.clock := by rw [hs]; split <;> rfl
    rw [ht]
    by_cases hq : q = p
    · subst hq
      by_cases hi : X.quiesceIdle q = true
      · have e1 : X.sliceRaise q = X.raiseQuiesce q true := by rw [hs, if_pos hi]
        have e2 : (X.raiseQuiesce q true).part q = { X.part q with quiesceReq := true, quiesceSlice := true, quiesceSince := X.clock, quiesceNoted := false } :=
          State.part_setPart_self _ _ _
        have e3 : (X.raiseQuiesce q true).quiesceIdle q = false := by
          unfold State.quiesceIdle
          rw [e2]
          rfl
        rw [e1, e3, if_neg (by simp), if_pos ⟨List.mem_cons_self .., hi⟩, e2]
      · have e1 : X.sliceRaise q = X := by rw [hs, if_neg hi]
        rw [e1, if_neg (fun k => hi k.2), if_neg (fun k => hi k.2)]
    · have e1 : (X.sliceRaise p).part q = X.part q := by
        rw [hs]
        split
        · unfold State.raiseQuiesce State.modPart
          rw [State.part_setPart, if_neg hq]
        · rfl
      have e2 : (X.sliceRaise p).quiesceIdle q = X.quiesceIdle q := by unfold State.quiesceIdle; rw [e1]
      rw [e1, e2]
      simp only [List.mem_cons, hq, false_or]

theorem sweep_effect (S : State) (p : Nat) :
    (S.sweep p).objs = S.objs.dropKeys (fun i => S.partOfIndex i = p) ∧
    (S.sweep p).waiters = S.waiters.filter (fun w => S.partOfIndex w.num ≠ p) ∧
    ((S.sweep p).part p).fault = false ∧ ((S.sweep p).part p).quiesceReq = (S.part p).quiesceReq := by
  unfold State.sweep
  simp only []
  generalize hA : ({ S with
    objs := S.objs.dropKeys fun i => S.partOfIndex i = p
    wideBits := S.wideBits.dropKeys fun g => S.partOfIndex (4 * g) = p
    waiters := S.waiters.filter fun w => S.partOfIndex w.num ≠ p
    lenders := S.lenders.filter fun e => e.num / S.loanShare ≠ p
    ledgers := S.ledgers.filter fun e => e.num / S.loanShare ≠ p
    buffered := S.buffered.filter fun t => t.partition ≠ p
    flips := S.flips.filter fun x => !S.wordIn p x.1
    cat := S.cat.dropKeys fun k =>
      (sweptGroupKey k && decide ((keyIndex k - 0x4000) * S.partCount / 256 = p)) ||
      (sweptCounterKey k && decide (keyPart k = p)) } : State) = A
  generalize hB : A.each State.clearNears (A.partPorts p) = B
  have hBw : B.wipe 0x100000 = A.wipe 0x100000 := by
    rw [← hB]
    exact State.each_wipe _ _ _ _ (by decide) fun s n => State.clearNears_wipe s n _ (by decide)
  generalize hC : B.modPart p (fun x =>
    { x with fault := false, cause := 0, reported := [], shelf0 := x.shelf0.swept, shelf1 := x.shelf1.swept
             deposits := [], stock := x.stock.swept (S.cfg 0x6070 1 p ≠ 0) }) = C
  have hDw : ∀ l, (C.each State.clearView l).wipe 0x4000000000 = C.wipe 0x4000000000 := fun l =>
    State.each_wipe _ _ _ _ (by decide) fun s n => State.clearView_wipe s n _ (by decide)
  have hparts : B.part p = S.part p := by
    rw [part_of_parts (parts_of_wipe (by decide) hBw), ← hA]
    rfl
  refine ⟨?_, ?_, ?_, ?_⟩
  · rw [objs_of_wipe (by decide) (hDw _), ← hC]
    show B.objs = _
    rw [objs_of_wipe (by decide) hBw, ← hA]
  · rw [waiters_of_wipe (by decide) (hDw _), ← hC]
    show B.waiters = _
    rw [waiters_of_wipe (by decide) hBw, ← hA]
  · rw [part_of_parts (parts_of_wipe (by decide) (hDw _)), ← hC, State.modPart, State.part_setPart_self]
  · rw [part_of_parts (parts_of_wipe (by decide) (hDw _)), ← hC, State.modPart, State.part_setPart_self, hparts]

end Sys2Proof.Machine
end

