-- ==== Sys2Proof/Laws/ShownMessages.lean ====
section
/-! SUPPORT. Lemmas about flits and messages, for the proofs of the obligations. -/

set_option linter.all false

namespace Sys2Proof.Machine

theorem heard_wipe (s : State) (c : Nat) (f : Flit) (m : Nat) (hm : 0x24000000 ||| m = m) : (s.heard c f).wipe m = s.wipe m :=
  (State.takeAck_wipe _ _ _ _ (mask_sub hm (by decide))).trans (State.count_wipe _ _ _ _ _ _ (mask_sub hm (by decide)))

/-- A flit that leaves a link UP and with nothing to send: the link sends nothing. -/
theorem up_end {s : State} {c : Nat} {f : Flit} {x : BitVec 256} {X : State} {r : State → State}
    (h : s.hears c x f) (hr : (s.link c).atRest) (hn : f.ftype ≠ 2)
    (hX : (if f.ftype = 1 then (s.heard c f).ctrlFlit c f.payload
        else if f.ftype = 3 then (s.heard c f).timeFlit c f.payload
        else if 4 ≤ f.ftype.toNat then (s.heard c f).dataFlit c f
        else s.heard c f) = X) (hu : (X.link c).state = .up) (ht : (X.link c).txq = []) :
    s.atLink c (fun s => s.receiveFlit c x false) = .next (X.pump c) ∧ (X.pump c).link c = X.link c ∧
      (X.pump c).out = X.out ∧ ∀ m, 0x20000000 ||| m = m → (X.pump c).wipe m = X.wipe m := by
  refine ⟨?_, pump_rest ht⟩
  rw [receiveFlit_next h, goodFlit_up hr.1 hn, hX, drainedNeg_none (by rw [hu]; decide)]

theorem heard_rest {s : State} {c : Nat} {f : Flit} (hr : (s.link c).atRest) : ((s.heard c f).link c).atRest := by
  obtain ⟨r, n, k, h⟩ := heard_link s c f
  rw [h]
  exact hr

theorem nak_out (X : State) (c : Nat) (h : (X.link c).nakSent = false) :
    ∃ g : Flit, (X.nak c).out = X.out ++ [.flit c g.encode] ∧ g.ftype = 1 ∧
      g.payload = ctrlPayload (X.link c).rxNext true (creditField (X.link c).owed) ∧
      (∃ o, (X.nak c).link c = { X.link c with nakSent := true, ackOwed := false, owed := o }) ∧
      ∀ m, 0x1000024000000 ||| m = m → (X.nak c).wipe m = X.wipe m := by
  unfold State.nak
  rw [if_neg (by rw [h]; decide)]
  unfold State.sendCtrl State.modLink
  simp only [State.link_setLink_self, setLink_setLink]
  obtain ⟨g, g1, g2, g3, o, g4, -⟩ := sendControl_out (X.setLink c { X.link c with nakSent := true, owed := [0, 0, 0, 0] }) c 1
    (ctrlPayload (X.link c).rxNext true (creditField (X.link c).owed))
  refine ⟨g, g1, g2, g3, ⟨o, ?_⟩, fun m hm => ?_⟩
  · rw [g4, State.link_setLink_self]
  · exact (State.sendControl_wipe _ _ _ _ _ hm).trans (State.setLink_wipe _ _ _ _ (mask_sub hm (by decide)))

theorem countRx_link (s : State) (c : Nat) (ps : List (BitVec 192)) : (s.countRx c ps).link c = s.link c :=
  link_of_links (links_of_wipe (m := 0x4000000) (by decide) (State.countRx_wipe _ _ _ _ (by decide))) c

theorem accept_part {s : State} {c : Nat} {x : BitVec 256} {f : Flit} {l : Link} {b : Nat} {ps : List (BitVec 192)} (hh : s.hears c x f) (hr : (s.link c).atRest)
    (hl : l = (s.heard c f).link c) (h1 : 4 ≤ f.ftype.toNat) (h2 : f.fseq = l.rxNext) (h3 : b = f.ftype.toNat - 4)
    (h4 : ps = (if f.head then [] else l.partialOf b) ++ [f.payload]) (h5 : ps.length < headFlits ps) :
    ∃ t, exec (.flitReceive c x false) s = .next t ∧
          t.link c = { l with
            rxNext := l.rxNext + 1
            rxAny := true
            nakSent := false
            ackOwed := true
            partials := l.partials.filter (fun y => y.1 ≠ b) ++ [(b, ps)] } ∧
          SameBut [.cat, .links] s t := by
    have hrl : l.atRest := by rw [hl]; exact heard_rest hr
    have nt : ∀ k : BitVec 4, k.toNat < 4 → 4 ≤ f.ftype.toNat → f.ftype ≠ k := by
      intro k hk h e
      rw [e] at h
      omega
    have n1 : f.ftype ≠ 1 := nt 1 (by decide) h1
    have n2 : f.ftype ≠ 2 := nt 2 (by decide) h1
    have n3 : f.ftype ≠ 3 := nt 3 (by decide) h1
    have hd : ∀ X, (s.heard c f).dataFlit c f = X → (if f.ftype = 1 then (s.heard c f).ctrlFlit c f.payload
        else if f.ftype = 3 then (s.heard c f).timeFlit c f.payload
        else if 4 ≤ f.ftype.toNat then (s.heard c f).dataFlit c f
        else s.heard c f) = X := by
      intro X hX
      rw [if_neg n1, if_neg n3, if_pos h1, hX]
    generalize hA : (s.heard c f).setLink c { l with
        rxNext := l.rxNext + 1, rxAny := true, nakSent := false, ackOwed := true
        partials := l.partials.filter fun y => y.1 ≠ b } = A
    have Al : A.link c = { l with
        rxNext := l.rxNext + 1, rxAny := true, nakSent := false, ackOwed := true
        partials := l.partials.filter fun y => y.1 ≠ b } := by rw [← hA, State.link_setLink_self]
    generalize hX : (A.countRx c ps).setLink c { A.link c with partials := (A.link c).partials ++ [(b, ps)] } = X
    have xl : X.link c = { A.link c with partials := (A.link c).partials ++ [(b, ps)] } := by rw [← hX, State.link_setLink_self]
    obtain ⟨e0, p1, p2, p3⟩ := up_end (r := id) hh hr n2 (hd X (by
      unfold State.dataFlit
      simp only [← hl]
      rw [if_pos h2]
      unfold State.acceptFlit
      simp only [← hl, ← h3]
      have hps : ({ l with rxNext := l.rxNext + 1, rxAny := true, nakSent := false, ackOwed := true } : Link).takeFlit b f =
          ({ l with rxNext := l.rxNext + 1, rxAny := true, nakSent := false, ackOwed := true
                    partials := l.partials.filter fun y => y.1 ≠ b }, ps) := by rw [h4]; rfl
      simp only [hps]
      rw [if_pos h5]
      rw [← hX, ← hA]
      unfold State.modLink
      rw [countRx_link])) (by rw [xl, Al]; exact hrl.1) (by rw [xl, Al]; exact hrl.2.2)
    refine ⟨_, e0, ?_, ?_⟩
    · rw [p1, xl, Al]
    · unfold SameBut
      symm
      refine (p3 _ (by decide)).trans ?_
      rw [← hX]
      refine (State.setLink_wipe _ _ _ _ (by decide)).trans ((State.countRx_wipe _ _ _ _ (by decide)).trans ?_)
      rw [← hA]
      exact (State.setLink_wipe _ _ _ _ (by decide)).trans (heard_wipe _ _ _ _ (by decide))

theorem accept_whole {s : State} {c : Nat} {x : BitVec 256} {f : Flit} {l : Link} {b : Nat} {ps : List (BitVec 192)} (hh : s.hears c x f) (hr : (s.link c).atRest)
    (hl : l = (s.heard c f).link c) (h1 : 4 ≤ f.ftype.toNat) (h2 : f.fseq = l.rxNext) (h3 : b = f.ftype.toNat - 4)
    {m : Msg} (h4 : ps = (if f.head then [] else l.partialOf b) ++ [f.payload]) (h5 : headFlits ps ≤ ps.length) (h6 : wholeMsg ps = some m) (h7 : m.hdr.dst = s.hub) :
    ∃ t, exec (.flitReceive c x false) s = .next t ∧ t.inbox = s.inbox ++ [{ port := some c, msg := m }] ∧
          t.link c = { l with
            rxNext := l.rxNext + 1
            rxAny := true
            nakSent := false
            ackOwed := true
            partials := l.partials.filter (fun y => y.1 ≠ b)
            owed := l.owed.set b (l.owed.getD b 0 + ps.length) } ∧
          SameBut [.cat, .links, .inbox] s t := by
    have hrl : l.atRest := by rw [hl]; exact heard_rest hr
    have nt : ∀ k : BitVec 4, k.toNat < 4 → 4 ≤ f.ftype.toNat → f.ftype ≠ k := by
      intro k hk h e
      rw [e] at h
      omega
    have n1 : f.ftype ≠ 1 := nt 1 (by decide) h1
    have n2 : f.ftype ≠ 2 := nt 2 (by decide) h1
    have n3 : f.ftype ≠ 3 := nt 3 (by decide) h1
    have hd : ∀ X, (s.heard c f).dataFlit c f = X → (if f.ftype = 1 then (s.heard c f).ctrlFlit c f.payload
        else if f.ftype = 3 then (s.heard c f).timeFlit c f.payload
        else if 4 ≤ f.ftype.toNat then (s.heard c f).dataFlit c f
        else s.heard c f) = X := by
      intro X hX
      rw [if_neg n1, if_neg n3, if_pos h1, hX]
    generalize hA : (s.heard c f).setLink c { l with
        rxNext := l.rxNext + 1, rxAny := true, nakSent := false, ackOwed := true
        partials := l.partials.filter fun y => y.1 ≠ b } = A
    have Al : A.link c = { l with
        rxNext := l.rxNext + 1, rxAny := true, nakSent := false, ackOwed := true
        partials := l.partials.filter fun y => y.1 ≠ b } := by rw [← hA, State.link_setLink_self]
    generalize hX : (A.countRx c ps).setLink c { A.link c with owed := (A.link c).owed.set b ((A.link c).owed.getD b 0 + ps.length) } = X
    have xl : X.link c = { A.link c with owed := (A.link c).owed.set b ((A.link c).owed.getD b 0 + ps.length) } := by rw [← hX, State.link_setLink_self]
    have xw : ∀ m, 0x24000000 ||| m = m → X.wipe m = s.wipe m := by
      intro m hm
      rw [← hX]
      refine (State.setLink_wipe _ _ _ _ (mask_sub hm (by decide))).trans ((State.countRx_wipe _ _ _ _ (mask_sub hm (by decide))).trans ?_)
      rw [← hA]
      exact (State.setLink_wipe _ _ _ _ (mask_sub hm (by decide))).trans (heard_wipe _ _ _ _ hm)
    have xh : X.hub = s.hub := by
      unfold State.hub
      rw [device_of_wipe (m := 0x24000000) (by decide) (xw _ (by decide)), die_of_wipe (m := 0x24000000) (by decide) (xw _ (by decide))]
    have xi : X.inbox = s.inbox := inbox_of_wipe (m := 0x24000000) (by decide) (xw _ (by decide))
    obtain ⟨e0, p1, p2, p3⟩ := up_end (r := id) hh hr n2 (hd { X with inbox := X.inbox ++ [{ port := some c, msg := m }] } (by
      unfold State.dataFlit
      simp only [← hl]
      rw [if_pos h2]
      unfold State.acceptFlit
      simp only [← hl, ← h3]
      have hps : ({ l with rxNext := l.rxNext + 1, rxAny := true, nakSent := false, ackOwed := true } : Link).takeFlit b f =
          ({ l with rxNext := l.rxNext + 1, rxAny := true, nakSent := false, ackOwed := true
                    partials := l.partials.filter fun y => y.1 ≠ b }, ps) := by rw [h4]; rfl
      simp only [hps]
      rw [if_neg (by omega), h6]
      simp only []
      have hXX : ((((s.heard c f).setLink c { l with rxNext := l.rxNext + 1, rxAny := true, nakSent := false, ackOwed := true
                                                     partials := l.partials.filter fun y => y.1 ≠ b }).countRx c ps).modLink c
            fun l => { l with owed := l.owed.set b (l.owed.getD b 0 + ps.length) }) = X := by rw [← hX, ← hA]; unfold State.modLink; rw [countRx_link]
      rw [hXX]
      unfold State.arriveMsg
      rw [if_pos (by rw [xh]; exact h7)])) (by show (X.link c).state = _; rw [xl, Al]; exact hrl.1) (by show (X.link c).txq = _; rw [xl, Al]; exact hrl.2.2)
    refine ⟨_, e0, ?_, ?_, ?_⟩
    · rw [inbox_of_wipe (m := 0x20000000) (by decide) (p3 _ (by decide))]
      show X.inbox ++ _ = _
      rw [xi]
    · rw [p1]
      show X.link c = _
      rw [xl, Al]
    · unfold SameBut
      symm
      exact (p3 _ (by decide)).trans ((wipe_inbox _ (by decide) _ _).trans (xw _ (by decide)))

theorem bad_crc {s : State} {c : Nat} {x y : BitVec 256} {f : Flit} (hh : s.hears c x f) (hr : (s.link c).atRest)
    (h1 : flitGood y = false) (h2 : 4 ≤ (getFld y 252 4 : BitVec 4).toNat) (h3 : (s.link c).nakSent = false) :
    ∃ t g, exec (.flitReceive c y false) s = .next t ∧ t.out = s.out ++ [.flit c (Flit.encode g)] ∧ g.ftype = 1 ∧
        g.payload = ctrlPayload (s.link c).rxNext true (creditField (s.link c).owed) ∧ (t.link c).nakSent = true ∧
        SameBut ([.links, .out] ++ noteFields) s t := by
    generalize hA : (s.countedFlit c).linkBump c 14 = A
    have Aw : ∀ m, 0x2000004000000 ||| m = m → A.wipe m = s.wipe m := by
      intro m hm
      rw [← hA]
      exact (State.bump_wipe _ _ _ _ _ hm).trans (State.count_wipe _ _ _ _ _ _ (mask_sub hm (by decide)))
    have Al : A.link c = s.link c := link_of_links (links_of_wipe (m := 0x2000004000000) (by decide) (Aw _ (by decide))) c
    obtain ⟨g, g1, g2, g3, ⟨o, g4⟩, g5⟩ := nak_out A c (by rw [Al]; exact h3)
    have e0 : exec (.flitReceive c y false) s = .next (A.nak c) := by
      show execFlitReceive c y false s = _
      unfold execFlitReceive State.atLink
      rw [if_pos hh.2.1]
      unfold State.receiveFlit
      have hlc : (s.link c).carries = true := by
        unfold Link.carries
        simp only [hr.1, decide_true, Bool.true_or]
      simp only [hh.2.2.1, hh.1, h1, hlc, h2, Bool.not_true, Bool.or_self, Bool.false_eq_true, if_false, Bool.not_false,
        Bool.or_true, decide_true, Bool.and_self, if_true]
      rw [← hA]
      rfl
    have eo : A.out = s.out := out_of_wipe (m := 0x2000004000000) (by decide) (Aw _ (by decide))
    refine ⟨_, g, e0, ?_, g2, ?_, ?_, ?_⟩
    · rw [g1, eo]
    · rw [g3, Al]
    · rw [g4]
    · unfold SameBut
      symm
      exact (g5 _ (by decide)).trans (Aw _ (by decide))

theorem moveRoutes_empty {B : State} {c : Nat} (h : (B.link c).txq = []) :
    (B.moveRoutes c).link c = { B.link c with txq := [] } ∧
    ∀ m, 0x3a0000000 ||| m = m → (B.moveRoutes c).wipe m = B.wipe m := by
  have hq : ((B.changesLost c).link c) = { B.link c with txq := [] } := by
    unfold State.changesLost
    simp only []
    have k : ∀ (X : State) a b d, ({ X with changes := a, settles := b, waitMsgs := d } : State).link c = X.link c := fun _ _ _ _ => rfl
    rw [k]
    unfold State.modLink
    rw [State.link_setLink_self]
    simp only [h, List.filter_nil]
  unfold State.moveRoutes
  simp only [hq, State.requeue]
  refine ⟨?_, fun m hm => ?_⟩
  · have k : ∀ (X : State) b, ({ X with settles := b } : State).link c = X.link c := fun _ _ => rfl
    rw [k]
    unfold State.modLink
    rw [State.link_setLink_self, hq]
  · refine (wipe_settles _ (testBit_sub hm (by decide)) _ _).trans ?_
    refine (State.setLink_wipe _ _ _ _ (mask_sub hm (by decide))).trans ?_
    exact State.changesLost_wipe _ _ _ hm

theorem failOne_faulted (s : State) (d : Detection) (p : Nat) (h : p < 16) :
    ((s.failOne d p).part p).fault = true := by
  unfold State.failOne
  rw [if_pos h]
  exact (jobFault_part s d [p]).2 p (List.mem_singleton.mpr rfl)

theorem filter_insertWaiter {f : Waiter → Bool} {w : Waiter} (hw : f w = true) (pm : Bool) :
    ∀ l : List Waiter, l.filter f = [] → (insertWaiter pm w l).filter f = [w]
  | [], _ => by simp [insertWaiter, hw]
  | q :: qs, h => by
    have hq : f q = false := by
      by_contra c
      rw [Bool.not_eq_false] at c
      rw [List.filter_cons_of_pos c] at h
      cases h
    have hqs : qs.filter f = [] := by
      rw [List.filter_cons_of_neg (by rw [hq]; decide)] at h
      exact h
    unfold insertWaiter
    split
    · rw [List.filter_cons_of_pos hw, List.filter_cons_of_neg (by rw [hq]; decide), hqs]
    · rw [List.filter_cons_of_neg (by rw [hq]; decide), filter_insertWaiter hw pm qs hqs]

theorem lenderNamed_token {u : State} {b : LoanBody} {e : Lender} (h : u.lenderNamed b = some e) :
    e.token = handleIndex b.token := by
  unfold State.lenderNamed at h
  have := List.find?_some h
  simp only [Bool.and_eq_true, decide_eq_true_eq] at this
  exact this.1.1.1.2

theorem serve_empty {X : State} {i : Nat} (h : X.queue i = []) : X.serve i = X := by
  unfold State.serve
  rw [serveCount_empty h]

theorem holdHere_part (u : State) (p : Nat) : ((u.holdHere p).part p).hold = { (u.part p).hold with held := true } := by
  unfold State.holdHere
  split
  · rename_i h
    rw [← h]
  · have e : ((u.modPart p fun x => { x with hold := { x.hold with held := true } }).recordHold p 0).part p =
        (u.modPart p fun x => { x with hold := { x.hold with held := true } }).part p :=
      part_of_parts (parts_of_wipe (m := 0x2002007000000) (by decide) (State.recordHold_wipe _ _ _ _ (by decide))) p
    rw [e]
    unfold State.modPart
    rw [State.part_setPart_self]

theorem resumeHere_part (u : State) (p : Nat) : ((u.resumeHere p).part p).hold = { (u.part p).hold with held := false } := by
  unfold State.resumeHere
  split
  · have g : ∀ (ps : List Nat) (Y : State), (Y.each State.releaseStore ps).parts = Y.parts := by
      intro ps
      induction ps with
      | nil => intro Y; rfl
      | cons j ps ih =>
        intro Y
        unfold State.each
        rw [ih]
        exact parts_of_wipe (m := 0x100000) (by decide) (State.releaseStore_wipe _ _ _ (by decide))
    rw [part_of_parts (g _ _)]
    unfold State.modPart
    rw [State.part_setPart_self]
    rw [part_of_parts (parts_of_wipe (m := 0x2002007000000) (by decide) (State.recordHold_wipe _ _ _ _ (by decide)))]
  · rename_i h
    rw [Bool.not_eq_true] at h
    rw [← h]

end Sys2Proof.Machine
end

