-- ==== Sys2Proof/Laws/ShownHost.lean ====
section
/-! SUPPORT. Lemmas about the host ports, the Catalogue and the step, for the proofs of the obligations. -/

set_option linter.all false

namespace Sys2Proof.Machine

theorem each_nil {X : State} {f : State → Nat → State} : ∀ {l : List Nat}, (∀ n ∈ l, f X n = X) → X.each f l = X
  | [], _ => rfl
  | n :: l, h => by
    unfold State.each
    rw [h n (List.mem_cons_self)]
    exact each_nil fun k hk => h k (List.mem_cons_of_mem _ hk)

theorem writeFailed_wipe (s : State) (w : MgrWrite) (resp : BitVec 2) (m : Nat) (hm : 0x2002007000000 ||| m = m) :
    (s.writeFailed w resp).wipe m = s.wipe m := by
  unfold State.writeFailed
  refine (State.record_wipe _ _ _ (mask_sub hm (by decide))).trans ((State.bump_wipe _ _ _ _ _ (mask_sub hm (by decide))).trans ?_)
  exact wipe_mgr _ (testBit_sub hm (by decide)) _ _

theorem port_row {q : Nat} {i : BitVec 16} (hq : q < 128) (hi : i = BitVec.ofNat 16 (0x3100 + q)) :
    i.toNat = 0x3100 + q ∧ catRow i.toNat 1 = rowsPortPartition.head? := by
  have e : i.toNat = 0x3100 + q := by rw [hi, BitVec.toNat_ofNat]; omega
  refine ⟨e, ?_⟩
  rw [e]
  unfold catRow catBlock
  rw [if_neg (by omega), if_pos (by omega), if_neg (by omega), if_neg (by omega), if_pos (by omega)]
  rfl

/-- The end of a wait that is alone at its object, for an issuer of this hub. -/
theorem endWait_alone {X : State} {w : Waiter} (xq : X.queue w.object = [w]) (hk : w.kind = .queued) (hs : w.source = srcPort)
    (ho : origHub w.originator = X.hub) (hno : w.flags.noresp = false) (st : Status) :
    ((X.endWait w st).serveAfter w).wipe 0x2002007000000 = ({ X with
      waiters := X.waiters.filter fun q => q.num ≠ w.num
      rets := X.rets ++ [{ target := .port (getFld w.originator 3 7 : BitVec 7).toNat, sel := getFld w.originator 0 10
                           retref := getFld w.operandB 0 10, word := respWord st w.tag 0
                           value := valueBeat w.opcode st 0 }] } : State).wipe 0x2002007000000 ∧
    ((X.endWait w st).serveAfter w).catOpen = X.catOpen := by
  have e1 : X.endWait w st = (X.freeWaiter w).conclude (X.waiterOp w) st 0 0 := by
    unfold State.endWait State.endWaiter
    simp only [hk]
  rw [e1, freeWaiter_alone (by rw [hk]; decide) xq]
  generalize hY : ({ X with waiters := X.waiters.filter fun q => q.num ≠ w.num } : State) = Y
  have yh : Y.hub = X.hub := by rw [← hY]; rfl
  have c := conclude_here (s := Y) (a := X.waiterOp w) hs (by rw [yh]; exact ho) st 0 0
  generalize hZ : Y.conclude (X.waiterOp w) st 0 0 = Z at *
  have zq : Z.queue w.object = [] := by
    have : Z.waiters = Y.waiters := waiters_of_wipe (m := 0x2002007400000) (by decide) (c.2 _ (by decide))
    rw [queue_of_waiters this, ← hY]
    unfold State.queue at xq ⊢
    rw [List.filter_filter]
    rw [List.filter_eq_nil_iff]
    intro a ha hc
    simp only [Bool.and_eq_true] at hc
    have : a ∈ X.waiters.filter fun q => decide (q.object = w.object) && decide (q.kind ≠ .ledger) := by
      rw [List.mem_filter]
      exact ⟨ha, by simpa using hc.1⟩
    rw [xq, List.mem_singleton] at this
    rw [this] at hc
    simp at hc
  have e2 : Z.serveAfter w = Z := by
    unfold State.serveAfter State.serve
    rw [if_neg (by rw [hk]; decide), serveCount_empty zq]
  rw [e2]
  have zr : Z.rets = X.rets ++ [{ target := .port (getFld w.originator 3 7 : BitVec 7).toNat
                                  sel := getFld w.originator 0 10
                                  retref := getFld w.operandB 0 10
                                  word := respWord st w.tag 0
                                  value := valueBeat w.opcode st 0 }] := by
    rw [c.1]
    have : Y.rets = X.rets := by rw [← hY]
    rw [this]
    unfold HomeOp.rets
    rw [show (X.waiterOp w).op.flags.noresp = false from hno]
    rfl
  constructor
  · refine wipe_fill_rets ?_ zr
    refine (c.2 _ (by decide)).trans ?_
    rw [← hY]
    rfl
  · rw [catOpen_of_wipe (m := 0x2002007400000) (by decide) (c.2 _ (by decide)), ← hY]

theorem group_row {g : Nat} {j : BitVec 16} (hg : g < 256) (hj : j = BitVec.ofNat 16 (0x4000 + g)) :
    j.toNat = 0x4000 + g ∧ catRow j.toNat 4 = catRow 0x4000 4 := by
  have e : j.toNat = 0x4000 + g := by rw [hj, BitVec.toNat_ofNat]; omega
  refine ⟨e, ?_⟩
  rw [e]
  unfold catRow catBlock
  rw [if_neg (by omega), if_pos (by omega), if_neg (by omega), if_neg (by omega), if_neg (by omega), if_pos (by omega)]
  rfl

theorem event_row {i : Nat} {j : BitVec 16} {sub : BitVec 8} (hi : i < 16) (hj : j = BitVec.ofNat 16 (0x2600 + i)) :
    j.toNat = 0x2600 + i ∧ askRow (writeAsk j sub) = askRow (writeAsk 0x2600 sub) := by
  have e : j.toNat = 0x2600 + i := by rw [hj, BitVec.toNat_ofNat]; omega
  refine ⟨e, ?_⟩
  have b : catBlock (0x2600 + i) = rowsEvent := by
    unfold catBlock
    rw [if_pos (by omega), if_neg (by omega), if_neg (by omega), if_neg (by omega), if_neg (by omega), if_pos (by omega)]
  have c : catBlock 0x2600 = rowsEvent := rfl
  unfold askRow writeAsk catRow
  simp only [e, b, show (0x2600 : BitVec 16).toNat = 0x2600 from rfl, c]

theorem view_row {k : Nat} {j : BitVec 16} (hk : k < 64) (hj : j = BitVec.ofNat 16 (0x8000 + 0x100 * k)) :
    j.toNat = 0x8000 + 0x100 * k ∧ askRow (writeAsk j 1) = askRow (writeAsk 0x8000 1) := by
  have e : j.toNat = 0x8000 + 0x100 * k := by rw [hj, BitVec.toNat_ofNat]; omega
  refine ⟨e, ?_⟩
  have b : catBlock (0x8000 + 0x100 * k) = rowsView := by
    unfold catBlock
    repeat rw [if_neg (by omega)]
    rw [if_pos (by omega)]
  have c : catBlock 0x8000 = rowsView := rfl
  unfold askRow writeAsk catRow
  simp only [e, b, show (0x8000 : BitVec 16).toNat = 0x8000 from rfl, c]

theorem link_row {c : Nat} {j : BitVec 16} {sub : BitVec 8} (hc : c < 4 ∨ (8 ≤ c ∧ c < 16)) (hs : sub = 1 ∨ sub = 2 ∨ sub = 3)
    (hj : j = BitVec.ofNat 16 (0x5000 + c)) :
    j.toNat = 0x5000 + c ∧ (askRow (writeAsk j sub)).scope = .link ∧ (askRow (writeAsk j sub)).ty.bytes = 1 ∧
    (askRow (writeAsk j sub)).mask = 2 ^ 128 - 1 := by
  have e : j.toNat = 0x5000 + c := by rw [hj, BitVec.toNat_ofNat]; omega
  have b : catBlock (0x5000 + c) = rowsLink c := by
    unfold catBlock
    repeat rw [if_neg (by omega)]
    rw [if_pos (by omega)]
    repeat rw [if_neg (by omega)]
    rw [if_pos (by omega), show 0x5000 + c - 0x5000 = c by omega]
  refine ⟨e, ?_⟩
  unfold askRow writeAsk catRow
  simp only [e, b]
  rcases hs with rfl | rfl | rfl <;> exact ⟨rfl, rfl, rfl⟩

theorem stored_byte {a : CatAsk} (hb : (askRow a).ty.bytes = 1) (hm : (askRow a).mask = 2 ^ 128 - 1) (v : BitVec 8) :
    (askRow a).stored v.toNat = v.toNat := stored_all hb hm v.isLt (by decide)

theorem ring_row {k : Nat} {j : BitVec 16} {sub : BitVec 8} (hk : k < 4) (hs : sub = 1 ∨ sub = 2 ∨ sub = 4)
    (hj : j = BitVec.ofNat 16 (0x2400 + k)) :
    j.toNat = 0x2400 + k ∧ (askRow (writeAsk j sub)).scope = .partition ∧
    (askRow (writeAsk j sub)).ty.bytes = (if sub = 1 then 8 else if sub = 2 then 1 else 4) ∧
    (askRow (writeAsk j sub)).mask = 2 ^ 128 - 1 := by
  have e : j.toNat = 0x2400 + k := by rw [hj, BitVec.toNat_ofNat]; omega
  have b : catBlock (0x2400 + k) = rowsTicketRing k := by
    unfold catBlock
    rw [if_pos (by omega), if_neg (by omega), if_pos (by omega), show 0x2400 + k - 0x2400 = k by omega]
  refine ⟨e, ?_⟩
  unfold askRow writeAsk catRow
  simp only [e, b]
  rcases hs with rfl | rfl | rfl <;> exact ⟨rfl, rfl, rfl⟩

theorem stored_mod {a : CatAsk} {n v : Nat} (hb : (askRow a).ty.bytes = n) (hm : (askRow a).mask = 2 ^ 128 - 1) (hn : n ≤ 16) :
    (askRow a).stored v = v % 2 ^ (8 * n) := by
  unfold CatRow.stored
  rw [hb, hm, Nat.and_two_pow_sub_one_eq_mod]
  refine Nat.mod_eq_of_lt (Nat.lt_of_lt_of_le (Nat.mod_lt _ (Nat.two_pow_pos _)) (Nat.pow_le_pow_right (by omega) (by omega)))

theorem drainTickets_none {s : State} (h : s.buffered = []) : s.drainTickets = s := by
  unfold State.drainTickets
  rw [h]
  rfl

theorem we2900 (u : State) (h : CatHdr) (w : Who) (sub p n : Nat) : u.writeEntry h w 0x2900 sub p n = u.writeNotifyEntry p sub n := by
  unfold State.writeEntry State.writeLow
  simp

theorem we2A00 (u : State) (h : CatHdr) (w : Who) (sub p n : Nat) : u.writeEntry h w 0x2A00 sub p n = u.writeNotifyEntry 16 sub n := by
  unfold State.writeEntry State.writeLow
  simp

theorem wne1 (u : State) (r n : Nat) (size : Bool) :
    u.writeNotifyEntry r (if size then (2 : BitVec 8) else 1).toNat n = doneWith (u.setNotifyRing r (if size then (2 : BitVec 8) else 1).toNat n) := by
  cases size
  · show u.writeNotifyEntry r 1 n = doneWith (u.setNotifyRing r 1 n)
    unfold State.writeNotifyEntry
    simp
  · show u.writeNotifyEntry r 2 n = doneWith (u.setNotifyRing r 2 n)
    unfold State.writeNotifyEntry
    simp

theorem notify_rows (hub : Bool) :
    (∀ sub : BitVec 8, sub = 1 ∨ sub = 2 ∨ sub = 4 → ∀ p : BitVec 4,
      entryPart (askRow (writeAsk (BitVec.ofNat 16 (if hub then 0x2A00 else 0x2900)) sub)) p = (if hub then 0 else p.toNat) ∧
      (askRow (writeAsk (BitVec.ofNat 16 (if hub then 0x2A00 else 0x2900)) sub)).ty.bytes = (if sub = 1 then 8 else if sub = 2 then 1 else 4) ∧
      (askRow (writeAsk (BitVec.ofNat 16 (if hub then 0x2A00 else 0x2900)) sub)).mask = 2 ^ 128 - 1) := by
  intro sub hs p
  cases hub
  · rcases hs with rfl | rfl | rfl <;> exact ⟨rfl, rfl, rfl⟩
  · rcases hs with rfl | rfl | rfl <;> exact ⟨rfl, rfl, rfl⟩

theorem and_bit {m : Nat} (v : BitVec 8) {i : Nat} (hm : m.testBit i = true) :
    (BitVec.ofNat 8 (v.toNat &&& m)).getLsbD i = v.getLsbD i := by
  rw [BitVec.getLsbD_ofNat, Nat.testBit_and, hm, Bool.and_true]
  rw [BitVec.getLsbD]
  by_cases h : i < 8
  · simp [h]
  · simp only [h, decide_false, Bool.false_and]
    symm
    exact Nat.testBit_lt_two_pow (Nat.lt_of_lt_of_le v.isLt (Nat.pow_le_pow_right (by decide) (by omega)))

theorem invIssue_mgr (p : Nat) : ∀ (es : List InvEntry) (s : State) (n : Nat),
    ∃ ws, (s.invIssue p n es) = { s with mgr := s.mgr ++ ws } ∧ ws.length = es.length ∧
      ∀ q ∈ ws, q.kind = .inventory ∧ q.partition = p
  | [], s, n => ⟨[], by rw [List.append_nil]; rfl, rfl, fun _ h => by cases h⟩
  | e :: es, s, n => by
    obtain ⟨ws, h1, h2, h3⟩ := invIssue_mgr p es (s.mgrIssue (s.invWrite p n e)) (n + 1)
    refine ⟨s.invWrite p n e :: ws, ?_, by rw [List.length_cons, h2, List.length_cons], fun q hq => ?_⟩
    · unfold State.invIssue
      rw [h1]
      unfold State.mgrIssue
      simp only [List.append_assoc, List.singleton_append]
    · rcases List.mem_cons.mp hq with hq | hq
      · rw [hq]; exact ⟨rfl, rfl⟩
      · exact h3 q hq

theorem stopIf_atPort {s : State} {p : Nat} {f : State → State} :
    (stopIf (s.portBuilt p) .absentPort = none → ∃ t, s.atPort p f = .next t) ∧
    (∀ g, stopIf (s.portBuilt p) .absentPort = some g → s.atPort p f = .fault g) ∧ ∀ r, s.atPort p f ≠ .refused r := by
  unfold stopIf State.atPort
  cases s.portBuilt p <;> simp

theorem stopIf_ite {b : Bool} {x : State} {f : Fault} :
    (stopIf b f = none → ∃ t, (if b = true then Host.Outcome.next x else .fault f : Host.Outcome State Fault Refusal) = .next t) ∧
    (∀ g, stopIf b f = some g → (if b = true then Host.Outcome.next x else .fault f : Host.Outcome State Fault Refusal) = .fault g) ∧
    ∀ r, (if b = true then Host.Outcome.next x else .fault f : Host.Outcome State Fault Refusal) ≠ .refused r := by
  unfold stopIf
  cases b <;> simp

theorem stop_none {x : State} : ((none : Option Fault) = none → ∃ t, (Host.Outcome.next x : Host.Outcome State Fault Refusal) = .next t) ∧
    (∀ g, (none : Option Fault) = some g → (Host.Outcome.next x : Host.Outcome State Fault Refusal) = .fault g) ∧
    ∀ r, (Host.Outcome.next x : Host.Outcome State Fault Refusal) ≠ .refused r := by
  refine ⟨fun _ => ⟨_, rfl⟩, fun _ h => ?_, fun _ h => ?_⟩ <;> cases h

theorem wordOk_built (w : StoreWord) : wordOk w = wordBuilt w := by cases w <;> rfl

theorem areaOk_built (w : ApertureArea) : areaOk w = areaBuilt w := by cases w <;> rfl

theorem stop_dec {P : Prop} [Decidable P] {x : State} {f : Fault} :
    (stopIf (decide P) f = none → ∃ t, (if P then Host.Outcome.next x else .fault f : Host.Outcome State Fault Refusal) = .next t) ∧
    (∀ g, stopIf (decide P) f = some g → (if P then Host.Outcome.next x else .fault f : Host.Outcome State Fault Refusal) = .fault g) ∧
    ∀ r, (if P then Host.Outcome.next x else .fault f : Host.Outcome State Fault Refusal) ≠ .refused r := by
  unfold stopIf
  by_cases h : P <;> simp [h]

theorem stop_op (s : State) (c : BitVec 6) (r : OpReq) :
    (s.absentSource r.src = none → ∃ t, s.opCommand c r = .next t) ∧
    (∀ f, s.absentSource r.src = some f → s.opCommand c r = .fault f) ∧ ∀ x, s.opCommand c r ≠ .refused x := by
  unfold State.absentSource State.opCommand
  obtain ⟨src, op⟩ := r
  cases src with
  | core p l x => exact stopIf_ite
  | aperture g x => exact stop_dec
  | link c h k => exact stopIf_ite

theorem tick_once (s : State) : s.tickOnce.tick = if s.running = true ∧ s.refLost = false then (s.tick + 1) % 5 else s.tick := by
  unfold State.tickOnce
  have h : ∀ (X : State) (l : List Nat), (X.each (fun s p => if (s.port p).fences = [] ∧ ((s.port p).issue = [] ∨ s.live = false) then s else s.wakePort p) l).tick = X.tick :=
    fun X l => tick_of_wipe (m := 0x30aa8ffffd000) (by decide) (State.each_wipe X _ l _ (by decide) fun s n => by
      split
      · rfl
      · exact State.wakePort_wipe s n _ (by decide))
  have k : ∀ (X : State) (l : List Nat), (X.each (fun s g => if (s.slot g).fence.isSome then s.wakeSlot g else s) l).tick = X.tick :=
    fun X l => tick_of_wipe (m := 0x30828ffffd000) (by decide) (State.each_wipe X _ l _ (by decide) fun s n => by
      split
      · exact State.wakeSlot_wipe s n _ (by decide)
      · rfl)
  cases hr : s.running <;> cases hl : s.refLost <;> simp only [Bool.not_true, Bool.not_false, Bool.and_true, Bool.and_false, Bool.false_eq_true, if_false, if_true, false_and, and_false, and_self, true_and, k, h, reduceCtorEq]
  rfl

theorem time_once {s : State} (hr : s.running = true) (hl : s.refLost = false) : s.tickOnce.time = s.edge.time := by
  unfold State.tickOnce
  rw [hr, hl]
  simp only [Bool.not_false, Bool.and_true, if_true]
  refine (time_of_wipe (m := 0x30828ffffd000) (by decide) (State.each_wipe _ _ _ _ (by decide) fun s n => ?_)).trans
    (time_of_wipe (m := 0x30aa8ffffd000) (by decide) (State.each_wipe _ _ _ _ (by decide) fun s n => ?_))
  · split
    · exact State.wakeSlot_wipe s n _ (by decide)
    · rfl
  · split
    · rfl
    · exact State.wakePort_wipe s n _ (by decide)

theorem clock_same {s t : State} (hp : t.phase = s.phase) (hr : t.running = s.running) (ht : t.tick = s.tick)
    (h : s.clockInv) : t.clockInv := by
  unfold State.clockInv at *
  rw [hp, hr, ht]
  exact h

theorem complete_phase (s : State) : s.startupComplete.phase = s.phase ∨
    s.phase = .starting ∧ s.startupComplete.phase = .operational := by
  unfold State.startupComplete
  split
  · rename_i h
    right
    refine ⟨h.1, ?_⟩
    have a : ∀ (X : State) (l : List Nat), (X.each State.linkStarts l).wipe 0x38aa8ffffd400 = X.wipe 0x38aa8ffffd400 :=
      fun X l => State.each_wipe X _ l _ (by decide) fun s n => State.linkStarts_wipe s n _ (by decide)
    have b : ∀ (X : State) (l : List Nat), (X.each State.portStarts l).wipe 0x38aa8ffffd400 = X.wipe 0x38aa8ffffd400 :=
      fun X l => State.each_wipe X _ l _ (by decide) fun s n => State.portStarts_wipe s n _ (by decide)
    exact (phase_of_wipe (by decide) (b _ _)).trans (phase_of_wipe (by decide) (a _ _))
  · exact .inl rfl

end Sys2Proof.Machine
end

