-- ==== Sys2Proof/Tests/Slice0.lean ====
section
/-! SUPPORT. Tests of the model against worked examples of the manual, and for each statement a state and operands
that meet its hypotheses, clause by clause. -/

open Sys2Proof Sys2Proof.Machine

namespace Sys2Proof.Tests

set_option linter.all false
set_option maxRecDepth 4000
set_option Elab.async false

/-! ### A hub in service, and small states about it -/

/-- A hub in service, with one partition, every port in it, and nothing in its stores. -/
def hub0 : State := { State.reset with phase := .operational, running := true }

/-- The hub with one object. -/
def withObj (r : ObjRec) : State := hub0.setObj 5 r

/-- The flags of an op, none set. -/
def noFlags : OpFlags := { rel := false, acq := false, noresp := false, near := false, sense := false, x2 := false }

/-- An op on object 5 with operand 1. -/
def op5 : OpFields := { flags := noFlags, tsel := 0, tag := 7, handle := 5, operand := 1, opb := 0 }

/-- The op that a lane sends, with its absolute handle. -/
def sentOp (s : State) (p : Nat) (h : ShimOp) : HomeOp := ((s.leaves p h).1.absolute (s.leaves p h).2).getD (s.leaves p h).2

/-- The op that lane 1 of port 0 sends. -/
def op1 (s : State) (c : Opcode) (op : OpFields) : HomeOp := sentOp s 0 (s.presented 1 0 c op)

def anEvent : ObjRec := { otype := .event }
def aSetEvent : ObjRec := { otype := .event, word0 := 1 }
def aToken : ObjRec := { otype := .token, word0 := 9, word1 := 4 }
/-- Other ops on object 5: with operand B, with operand 0, with operand 10, and with SENSE set. -/
def op5x : OpFields := { op5 with flags := { noFlags with x2 := true } }
def op5zero : OpFields := { op5 with operand := 0 }
def op5ten : OpFields := { op5 with operand := 10 }
def op5sense : OpFields := { op5 with flags := { noFlags with sense := true }, operand := 0 }
def aTrigToken : ObjRec := { aToken with trig := true }
def aTrig : ObjRec := { otype := .trig }
/-- The hub with a token and the TRIG beside it. -/
def withPair (r t : ObjRec) : State := (withObj r).setObj 6 t
def aLock : ObjRec := { otype := .lock }
def aHeldLock : ObjRec := { otype := .lock, word0 := 1 <<< 25 }
def aBarrier : ObjRec := { otype := .barrier, sense := true, word1 := 3 }
def svcOp : OpFields := { flags := noFlags, tsel := 0, tag := 7, handle := 0, operand := 0, opb := 0 }
/-- A lock whose group lets no engine acquire. -/
def barred : State := (withObj aLock).setCfg 0x4000 2 0 2
/-- The record that the ARM of a token with a threshold leaves. -/
def armedRec (s : State) (r : ObjRec) (v : BitVec 64) : ObjRec :=
  ({ r with trig := true, word1 := v } : ObjRec).wrote (s.laneOrig 0 1) s.time
/-- The record that an arrival at a plain barrier leaves. -/
def arrivedRec (s : State) (r : ObjRec) : ObjRec :=
  (r.setArrivals (r.arrivals + 1) r.nextArrivals).wrote (s.laneOrig 0 1) s.time
/-- INIT of object 5 as an EVENT, and an INIT with a reserved bit set. -/
def initOp : OpFields := { op5 with operand := 1 <<< 61, flags := { noFlags with x2 := true } }
def initBad : OpFields := { initOp with operand := (1 <<< 61) + 2 }
def initRec (o : OpFields) : ObjRec :=
  ({ mode := (⟨o.operand, o.opb⟩ : InitArgs).mode, partition := BitVec.ofNat 4 (hub0.portPart 0)
     wide := (⟨o.operand, o.opb⟩ : InitArgs).wide } : ObjRec).wrote (hub0.laneOrig 0 1) hub0.time
/-- Port 0 in a given state; the hub after a long time. -/
def withPort (x : Port) : State := hub0.setPort 0 x
def late (s : State) : State := { s with clock := 0xFFFFFFFFFFFF, time := 0xFFFFFFFFFFFF }
def aRsp : Rsp :=
  { lane := 1, entry := some 3, opcode := opCode .sig, acq := false, context := 0, stamp := 0, aged := false, originator := 0
    word := respWord .ok 7 0, value := none, beat2 := false }
def aPend : Pend := { entry := 3, lane := 1, opcode := opCode .take, op := op5, context := 0 }
/-- The response to entry 3 of port 0 on the return path. -/
def aRet : Ret := { target := .port 0, sel := 0, retref := 3 <<< 4, word := respWord .ok 7 0, value := none }
def nearSet : OpFields := { op5 with flags := { noFlags with near := true }, operand := 0 }
def anOp : ShimOp := { lane := 1, opcode := opCode .sig, op := op5, context := 0 }
def aTicket : QTicket := { data := 0, wake := false }
/-- A registered barrier of lanes of port 0, one engine; and with its bit behind the sense. -/
def aRegBarrier : ObjRec := { otype := .barrier, mode := 1, word0 := 1 <<< 46 }
def aWaiter : Waiter :=
  { num := 9, kind := .queued, object := 5, originator := 0, source := srcPort, stamp := 0, aged := false
    opcode := opCode .take, flags := noFlags, tag := 7, partition := 0, epoch := 0, context := 0, cls := 0, dlValid := false
    deadline := 0, prio := 0, operand := 20, operandB := 0, since := 0 }
def aLoanToken : ObjRec := { aToken with mode := 2 }
def aLender : Lender := { num := 0, state := .opened, borrower := 0x11, token := 5, seq := 1, req := false, principal := 30 }
def aLedger : Ledger :=
  { num := 0, req := false, token := mkHandle 0x11 5, partition := 0, seq := 1, firstFit := false, spent := 0, balance := 12, idleSince := 0 }
/-- A barrier that has fired and waits for its parent's grant; a route to the parent's hub that has been lost for long. -/
def aChild : ObjRec := { otype := .barrier, mode := 4, word0 := 3, word1 := mkHandle 0x11 5 ++ (3 : BitVec 32) }
/-- Partition 0's job-fault latch is set. -/
def latchedHub (s : State) : State := s.setPart 0 { s.part 0 with fault := true }
/-- A lock that a lane of hub 0x11 holds, and a grant to that hub. -/
def aFarLock : ObjRec := { otype := .lock, word0 := (1 <<< 25) + (0x11 <<< 10) }
def grantMsg : Msg :=
  { hdr := { dst := 0x11, src := 0, hops := 0, partition := 0 }
    body := .cpl { response := respWord .ok 0 0, retref := 0, target := 0, source := srcHub, child := mkHandle 0x11 5, value := none } }
/-- No partition of a state that lists partition 0 alone, out of a reset, recalls loans. -/
theorem part0_step {s : State} {x : Part} (hs : s.parts = [(0, x)]) (hx : x.reset.step = .idle) (p : Nat) :
    (s.part p).reset.step ≠ .recalling := by
  unfold State.part
  rw [hs]
  by_cases h : p = 0
  · subst h
    intro e
    rw [show Sparse.get partNone [(0, x)] 0 = x from rfl, hx] at e
    cases e
  · intro e
    rw [show Sparse.get partNone [(0, x)] p = partNone p by simp [Sparse.get, h]] at e
    cases e
/-- No message that waits here is one that a link has brought, where none waits. -/
theorem no_inbox {s : State} {m : Msg} (h : s.inbox = []) : s.notW1 m := by
  intro x e
  rw [h] at e
  cases e
/-- Partition 0 of a hub in which nothing is under way asks its surroundings to quiesce at once. -/
theorem resets_hub0 : hub0.resetsAtOnce 0 :=
  ⟨rfl, rfl, rfl, rfl, fun _ => ⟨⟨rfl, rfl⟩, rfl, rfl⟩, fun k => by cases k <;> exact (by decide : ShelfState.idle ≠ ShelfState.armed), fun _ => rfl, rfl, rfl, rfl⟩

/-- A hub whose partition 0 names its own device and die alone. -/
def aloneHub : State :=
  ({ hub0 with devMap := (numsFrom 1 4095).map fun d => (d, (0 : BitVec 16)) }).setCfg 0x3010 4 0 1 |>.setCfg 0x3010 3 0 0
theorem get_blank (f : Nat → BitVec 16) (n : Nat) : ∀ a k, a ≤ k → k < a + n →
    Sparse.get f ((numsFrom a n).map fun d => (d, (0 : BitVec 16))) k = 0 := by
  induction n with
  | zero => intro a k h1 h2; omega
  | succ n ih =>
    intro a k h1 h2
    show Sparse.get f ((a, 0) :: (numsFrom (a + 1) n).map fun d => (d, (0 : BitVec 16))) k = 0
    by_cases h : k = a
    · subst h; simp [Sparse.get]
    · have := ih (a + 1) k (by omega) (by omega)
      simp only [Sparse.get] at this ⊢
      split <;> simp_all
theorem fold_same {α β : Type} (f : α → β → α) : ∀ (l : List β) (m : α), (∀ d ∈ l, ∀ m, f m d = m) → l.foldl f m = m
  | [], _, _ => rfl
  | b :: l, m, h => by
    show l.foldl f (f m b) = m
    rw [h b (by simp) m]
    exact fold_same f l m fun d hd => h d (by simp [hd])
theorem mem_from : ∀ (n a d : Nat), d ∈ numsFrom a n → a ≤ d ∧ d < a + n
  | 0, _, _, h => by cases h
  | n + 1, a, d, h => by
    rcases List.mem_cons.mp h with rfl | h
    · omega
    · have := mem_from n (a + 1) d h
      omega
theorem fold_first {α : Type} (f : α → Nat → α) (n : Nat) (m : α) (h : ∀ d ∈ numsFrom 1 n, ∀ m, f m d = m) :
    (numsFrom 0 (n + 1)).foldl f m = f m 0 := fold_same f (numsFrom 1 n) (f m 0) h
theorem blank_entry {s : State} (n d : Nat) (h : s.devMap = (numsFrom 1 n).map fun d => (d, (0 : BitVec 16)))
    (hd : d ∈ numsFrom 1 n) : s.devEntry 0 d = 0 := by
  obtain ⟨a, b⟩ := mem_from _ _ _ hd
  unfold State.devEntry
  rw [h]
  exact get_blank devDefault n 1 (0 * 4096 + d) (by omega) (by omega)
theorem first_entry {s : State} (n : Nat) (h : s.devMap = (numsFrom 1 n).map fun d => (d, (0 : BitVec 16))) :
    s.devEntry 0 0 = 0x8000 := by
  have : ∀ (n a : Nat), 1 ≤ a → Sparse.get devDefault ((numsFrom a n).map fun d => (d, (0 : BitVec 16))) 0 = 0x8000 := by
    intro n
    induction n with
    | zero => intro _ _; rfl
    | succ n ih =>
      intro a ha
      show (if 0 = a then _ else Sparse.get devDefault ((numsFrom (a + 1) n).map fun d => (d, (0 : BitVec 16))) 0) = _
      rw [if_neg (by omega)]
      exact ih (a + 1) (by omega)
  unfold State.devEntry
  rw [h]
  exact this n 1 (Nat.le_refl 1)
theorem alone_sweep {s : State} (h : s.devMap = (numsFrom 1 4095).map fun d => (d, (0 : BitVec 16)))
    (h1 : s.cfg 0x3010 3 0 = 0) (h2 : s.cfg 0x3010 4 0 = 1) (h3 : s.device = 0) (h4 : s.die = 0) : s.sweepMode 0 = false := by
  have hn : s.namedDevices 0 = 1 := by
    unfold State.namedDevices
    rw [fold_first _ 4095 0 fun d hd m => ?_]
    · simp only [first_entry 4095 h]
      decide
    · simp only [blank_entry 4095 d h hd]
      rfl
  unfold State.sweepMode State.hub
  rw [hn, h1, h2, h3, h4]
  decide
/-- The row of the Catalogue that a request finds. -/
def entryOf (s : State) (w : Who) (i k : Nat) (p : BitVec 4) (h : (s.findEntry w i k p).isSome = true) : CatRow :=
  (s.findEntry w i k p).get h
theorem entryOf_found {s : State} {w : Who} {i k : Nat} {p : BitVec 4} (h : (s.findEntry w i k p).isSome = true) :
    s.findEntry w i k p = some (entryOf s w i k p h) := (Option.some_get h).symm
/-- What a command leads to, where it completes. -/
def after (i : Instr) (s : State) : State := match exec i s with | .next t => t | _ => s
def readable : State := withPort { lanes := [aRsp] }
def aValueRsp : Rsp := { aRsp with value := some 5 }
def readableValue : State := withPort { lanes := [aValueRsp] }
def answerComing : State := { withPort { pend := [aPend] } with rets := [aRet] }
def oldAnswer : State := { hub0 with rets := [aRet] }
def aSlotRet : Ret := { aRet with target := .aperture }
def slotAnswer : State := { hub0.setSlot 0 { busy := true } with rets := [aSlotRet] }
def nearEvent : State := withPort { near := [(5, { otype := .event })] }
def aNearSet : ShimOp := hub0.presented 1 0 .set nearSet
def nearDrain : State := withPort { near := [(5, { otype := .event })], drains := [aNearSet] }
def anAcqRsp : Rsp := { aRsp with acq := true }
def invalidating : State := withPort { inval := [(anAcqRsp, true)] }
def oneTicket : State := withPort { tickets := [aTicket] }
def aBuffered : Ticket := { partition := 0, target := .shim 0 true, object := 5, data := 0 }
def fullQueue : State := { withPort { tickets := List.replicate 16 aTicket } with buffered := [aBuffered] }
def quietFolio (s : State) : State := s.setCfg 0x6030 4 0 0
def longDrain : State := quietFolio (late (withPort { drains := [anOp] }))
def inCoreReset : State := withPort { rstLow := true }
def checked (r : ObjRec) : State := (withPort { checks := [5] }).setObj 5 r
def aRegBarrier1 : ObjRec := { aRegBarrier with sense := true }
def aPastPend : Pend := { aPend with deadline := some 5 }
def pastDeadline : State := late (withPort { pend := [aPastPend] })
def oneWaiter (w : Waiter) : State := { hub0 with waiters := [w] }
def aPastWaiter : Waiter := { aWaiter with dlValid := true, deadline := 1 }
def twoFlips : State := { hub0 with flips := [(.waiter 7, 2)] }
def lent : State := late { withObj aLoanToken with waiters := [aWaiter], lenders := [aLender] }
def borrowed (e : Ledger) : State := { hub0 with ledgers := [e] }
def aBusyLedger : Ledger := { aLedger with req := true }
def lentLost : State := late (latchedHub { hub0 with lenders := [aLender] })
def aStranded : WaitMsg := { msg := grantMsg, about := some 5, why := .stranded, key := 2, since := 0, fwd := false }
def strandedGrant : State := late { withObj aBarrier with waitMsgs := [aStranded] }
def withLink (c : Nat) (l : Link) : State := hub0.setLink c l
def heldLong : State := late (withLink 8 { state := .hold })
def settlingMsg : WaitMsg := { aStranded with why := .settling }
def settledLong : State := late { hub0 with settles := [(2, 0)], waitMsgs := [settlingMsg] }
def strandedCpl : WaitMsg := { aStranded with about := none }
def strandedLong : State := late (latchedHub { hub0 with waitMsgs := [strandedCpl] })
def aTxFlit : TxFlit := { buf := 0, head := true, payload := 0, partition := 0 }
def aKept : Kept := { seq := 0, flit := aTxFlit, sentAt := 0 }
def unacked : State := late (withLink 8 { state := .up, phyUp := true, replay := [aKept] })
def replayedOften : State := withLink 8 { state := .up, phyUp := true, replays := 255 }
def negotiatingLink : Link := { state := .negotiating, phyUp := true }
def negLong : State := late (withLink 8 negotiatingLink)
def negShort : State := withLink 0 negotiatingLink
def upLink : Link := { state := .up, phyUp := true, version := 3 }
def owesAck : State := withLink 8 { upLink with ackOwed := true }
def linked : State := withLink 8 upLink
def timed : State := (linked.setCfg 0x5200 1 0 0).setCfg 0x5200 2 0 8
def holdsOver : State := late { hub0 with sync := { state := .holdover } }
def aTimeReq : BitVec 256 := ({ ftype := 3, head := true, fseq := 0, aseq := 0, crv := false, crb := 0, payload := timePayload 1 5 0 0 } : Flit).encode
def aTimeRsp : BitVec 256 := ({ ftype := 3, head := true, fseq := 0, aseq := 0, crv := false, crb := 0, payload := timePayload 2 5 2000 3000 } : Flit).encode
def awaitsTime (st : TimeState) : State := { timed with time := 6000, sync := { state := st, asked := true, xnum := 5, t1 := 1000 } }
def aTheta : Int := ((2000 - 1000 - (6000 - 3000) - BitVec.ofNat 64 (hub0.linkCfg 8 9) : BitVec 64).sshiftRight 1).toInt
def withPart (p : Nat) (x : Part) : State := hub0.setPart p x
def quiesceLong : State := late (withPart 15 { quiesceReq := true })
def awaitsPeer : State := late (withPart 0 { reset := { step := .awaitPeers, peers := [0x11] } })
def shelfDue : State := withPart 15 { shelf1 := { state := .armed } }
def shelfWaits : State := late (withPart 0 { shelf0 := { peers := [0x11] } })
def aHoldXchg : HoldXchg := { resume := false, peers := [0x11], failed := false, seq := 1, since := 0, waiter := .nobody }
def holdLong : State := late (withPart 15 { hold := { xs := [aHoldXchg] } })
def opHoldXchg : HoldXchg := { aHoldXchg with waiter := .op 0 3 }
def aHoldPend : Pend := { aPend with opcode := opCode .hold }
def holdOpLong : State := late ((withPart 0 { hold := { xs := [opHoldXchg] } }).setPort 0 { pend := [aHoldPend] })
def roundDue : State := late ((hub0.setCfg 0x6070 1 0 1).setCfg 0x6070 2 0 1)
def aHeldDeposit : Deposit := { enable := true, hold := true, waiting := true, index := 5 }
def depositLate (r : ObjRec) : State := late (((withObj r).setPart 15 { deposits := [(7, aHeldDeposit)] }).setCfg 0x6060 11 15 4 |>.setCfg 0x6030 4 0 0)
def aFullBarrier : ObjRec := { otype := .barrier, word0 := 0 }
def depositEnded (r : ObjRec) : State := (depositLate r).setPart 15 (((depositLate r).part 15).setDeposit 7 { aHeldDeposit with waiting := false, timeouts := 1 })
def aSlotSig : SlotOp := { opcode := opCode .sig, op := op5, host := false }
def slotStalled : State := late (hub0.setSlot 1023 { stalled := [aSlotSig], bucket := { tokens := 0, lastRefill := 0xFFFFFFFFFFFF } })
def stageLost : State := { hub0.setFails 26 0 3 with stageOut := 1 <<< 26 }
def evHub (m : Nat) (x : EvInput) : State := (((withObj anEvent).setCfg 0x2600 1 0 1).setCfg 0x2600 2 0 m |>.setCfg 0x2600 3 0 1 |>.setCfg 0x2600 5 0 5 |>.setEv 0 x).setCfg 0x6030 4 0 0
def evBusy : EvInput := { lastOp := some 0 }
def evChanged : EvInput := { changes := 1 }
def evDeferred : EvInput := { deferred := true }
def evRisen : EvInput := { level := true, changes := 1 }
def evFallen : EvInput := { applied := true, changes := 1 }
def pulseOwed : State := (late { hub0 with notify := [(16, { lastPulse := some 0, owed := true })] }).setCfg (ringIndex 16) 6 (ringPart 16) 1
def folioDue : State := (late { hub0 with folio := { state := .armed } }).setCfg 0x6030 8 0 1 |>.setCfg 0x6030 1 0 0
def startingHub : State := { State.reset with phase := .starting, running := true, refSel := 4 }
def badRef : State := { startingHub with refSel := 5 }
def noRef : State := { hub0 with refLost := true }
def quiescing : Part := { quiesceReq := true, reset := { step := .quiescing } }
def sliceQuiescing : Part := { quiesceReq := true, quiesceSlice := true }
def slicing : State := { withPart 0 sliceQuiescing with reslice := { step := .quiescing, affected := [0, 1], waiting := [0, 1] } }
def ackHigh : Part := { quiesceAck := true, reset := { step := .ackLow } }
def ackLate : Part := { quiesceAck := true }
def drainedSlice : State := { hub0 with reslice := { step := .draining, affected := [0] } }
def flitOf (t : BitVec 4) (b : Bool) (n : BitVec 12) (x : BitVec 192) : BitVec 256 := ({ ftype := t, head := b, fseq := n, aseq := 0, crv := false, crb := 0, payload := x } : Flit).encode
def aFwdHdr : MsgHdr := { dst := 0x11, src := 0, hops := 0, partition := 0 }
def aHdr : MsgHdr := { dst := 0, src := 0x11, hops := 1, partition := 0 }
def aCplBody : CplBody := { response := respWord .ok 7 0, retref := 3 <<< 4, target := 0, source := srcPort, child := 0, value := none }
def aCplMsg : Msg := { hdr := aHdr, body := .cpl aCplBody }
def aCarry : OpCarry := { originator := 0x11 <<< 10, source := srcPort, cls := 0, epoch := 0, stamp := 0, aged := false, context := 0, dlValid := false, deadline := 0, retref := 3 <<< 4, resent := false }
def anOpMsg : Msg := { hdr := aHdr, body := .op { opcode := opCode .sig, op := op5, carry := aCarry } }
def aNeg : Machine.Neg := { id := 0x11, weft := true, vmin := 1, vmax := 3, ack := false, agreed := 0, lanes := 4, credits := 0, resume := false, rxNext := 0 }
def negLinked : State := (withLink 8 negotiatingLink).setCfg 0x5008 3 0 3 |>.setCfg 0x5008 1 0 1 |>.setCfg 0x5008 2 0 1
def aSelfNeg : Machine.Neg := { aNeg with id := 0 }
def aFwdMsg : Msg := { hdr := aFwdHdr, body := .cpl aCplBody }
def routed : State := linked.putRoute 2 0xC0000000
def aTiredMsg : Msg := { hdr := { aFwdHdr with hops := 15 }, body := .cpl aCplBody }
def aFarPend : Pend := { aPend with home := some 0x11 }
def awaitsFar : State := withPort { pend := [aFarPend] }
def aVoided : Voided := { entry := 3, hub := 0x11, tag := 7, counts := false }
def voidedFar : State := withPort { voided := [aVoided] }
def aSlotCpl : CplBody := { aCplBody with source := srcAperture, target := 1023, retref := 0 }
def aHubCpl : CplBody := { aCplBody with source := srcHub, child := 5 }
def anArrival : PartialArrival := { child := mkHandle 0x11 9, parent := 5, oper := 0, format := 0, sense := false, broken := false, depth := 1, flags := 0, count := 0, comb := false, acc := 0 }
def aFwdBody : FwdBody := { arrival := anArrival, stamp := 0, aged := false, epoch := 0, originator := 0x11 <<< 10 }
def aBarrier2 : ObjRec := { otype := .barrier, word1 := 3 }
def aLoanBody : LoanBody := { seq := 1, partition := 0, epoch := 0, stamp := 0, borrower := 0x11, opening := false, token := 5, reason := 0, firstFit := false, amountA := 20, amountB := 10 }
def lending (e : Lender) : State := { withObj aLoanToken with lenders := [e] }
def aRecalling : Lender := { aLender with state := .recalling }
def aGrantBody : LoanBody := { aLoanBody with borrower := 0, token := mkHandle 0x11 5 }
def anOpeningBody : LoanBody := { aGrantBody with opening := true }
def aHolderReset : HolderResetBody := { partition := 0, epoch := 0, lock := 5, originator := 0x11 <<< 10, delivered := true }
def aPurge : WaiterPurgeBody := { partition := 0, epoch := 0, hub := 0x11, port := 3, generation := 1 }
def aFarWaiter : Waiter := { aWaiter with originator := (0x11 <<< 10) + (3 <<< 3) }
def aNotice (e : BitVec 8) : PartCtlBody := { oldEpoch := e, newEpoch := 0, count := 0, seq := 0, status := 0, cause := 2, context := 0, startTime := 0 }
def aFence : FenceBody := { num := 9, cpl := true }
def aChange (fs : List (Bool × BitVec 8)) : RouteChange := { key := 2, entry := 0, link := 8, fences := fs, cats := [] }
def changing (fs : List (Bool × BitVec 8)) : State := { hub0 with changes := [aChange fs] }
def aHoldBody : HoldBody := { seq := 1, requester := 0x11 }
def hdr15 : MsgHdr := { dst := 0, src := 0x11, hops := 1, partition := 15 }
def hub16 : State := { hub0 with partCount := 16 }
def aHoldXchg2 : HoldXchg := { aHoldXchg with peers := [0x11, 0x12] }
def holding (e : HoldXchg) : State := withPart 0 { hold := { xs := [e] } }
def aStockBody (n : BitVec 32) : StockBody := { round := n, coordinator := 0x11, allWaiting := true, held := false, waiters := 0, registered := 0, waiting := 0, sent := 0, recv := 0, act := 0 }
def aRound : Stocktake := { state := .running, round := 3, scope := [0x11] }
def noDeclared : State := hub0.setCfg 0x6040 6 0 0
def invArmed : State := (hub0.setCfg 0x6040 6 0 1).setCfg 0x6040 1 0 1
def aShelfBody (n : BitVec 8) (e : BitVec 3) (t : Time) : ShelfBody := { shelf := true, mode := false, seq := n, status := e, index := 0, round := 0, time := t }
def askedShelf : Shelf := { peers := [0x11] }
def shelfHub (x : Shelf) : State := withPart 0 { shelf1 := x }
def armedShelf : Shelf := { state := .armed }
def aPartBody (e : BitVec 8) (n : BitVec 5) : PartCtlBody := { oldEpoch := 0, newEpoch := e, count := n, seq := 1, status := 0, cause := 0, context := 0, startTime := 0 }
def resetting0 : State := withPart 0 { reset := { step := .quiescing } }
def awaiting (ps : List HubId) : ResetSeq := { step := .awaitPeers, peers := ps }
def aDone (r : ResetSeq) : PartCtlBody := { aPartBody 0 1 with seq := r.number }
def awaitsPeers (ps : List HubId) : State := withPart 0 { reset := awaiting ps }
def aTrigHub : State := withObj aTrig
def aWrite (k : MgrKind) (p r : Nat) : MgrWrite := { kind := k, partition := p, ring := r, addr := 0, data := 0, bytes := 64, ticket := none }
def writing1 (w : MgrWrite) : State := { hub0 with mgr := [w] }
def responded (s : State) (w : MgrWrite) : State := ({ s with mgr := s.mgr.erase w } : State).pcount 20 w.partition w.bytes
def inventoryRuns : State := withPart 15 { inv := { running := true } }
def fromApb (p : BitVec 4) : CatHdr := { via := .apb, rqid := 0, partition := p }
def operator : Who := { operator := true, apb := true, part := 0, window := 0 }
def partHub : State := (hub0.setCfg 12304 7 0 0)
def sweepHub : State := (partHub.setCfg 12304 3 0 1)
def heldPort : State := hub0.setPort 127 { rstLow := true }
def heldPart : State := withPart 0 { hold := { held := true } }
def namesOthers : State := (linked.putRoute 2 0xC0080000).setCfg 12304 4 0 2
def aQueued : Waiter := { aWaiter with operandB := 3 <<< 4 }
def tenantHub : State := ({ hub16 with eid := 8 } : State).setCfg 0x2C00 1 0 (2 ^ 31 + 2 ^ 16 + 9)
def fromTenant : CatHdr := { via := .mctp 9 0, rqid := 0, partition := 1 }
def tenant : Who := { operator := false, apb := false, part := 1, window := 1 }
def shelfTimed : State := hub0.setCfg 24608 2 0 5
def depositHub (r : ObjRec) : State := ((withObj r).setPart 0 { deposits := [(7, aHeldDeposit)] }).setCfg 0x6030 4 0 0
def folioHub (x : FolioState) : State := { hub0 with folio := { state := x } }
def busyHub : State := { hub0 with apb := { busy := true } }
def mustWaitHub (n : Nat) : State := { tenantHub with catOpen := [{ hdr := fromTenant, index := 0x3010, sub := 8 }], catHeld := List.replicate n (.eid 9, .identify fromTenant) }
def strangerHub : State := { hub0 with eid := 8 }
def segBusy8 : State := let x := hub0.apbBusy (fromApb 0) { command := cmdReadSeg, index := 0, sub := 0 }; { x with apb := { x.apb with offset := 0, len := 1024 } }
def segBusy10 : State := let x := hub0.apbBusy (fromApb 0) { command := cmdReadSeg, index := 4096, sub := 2 }; { x with apb := { x.apb with offset := 0, len := 1025 } }
def segBusy11 : State := let x := hub0.apbBusy (fromApb 0) { command := cmdReadSeg, index := 4096, sub := 2 }; { x with apb := { x.apb with offset := 1, len := 1024 } }
def segBusy12 : State := let x := hub0.apbBusy (fromApb 0) { command := cmdReadSeg, index := 4096, sub := 2 }; { x with apb := { x.apb with offset := 0, len := 1024 } }
def heldHub : State := { tenantHub with catHeld := [(.eid 9, .identify fromTenant)] }
def noTokens : Bucket := slotStalled.refilled (slotStalled.slot 1023).bucket
def stallEnded : State := (((slotStalled.setSlot 1023 { slotStalled.slot 1023 with
 stalled := [], bucket := { noTokens with longest := max noTokens.longest (elapsed aSlotSig.since slotStalled.clock) } }).pcount
  19 (slotStalled.slotPart 1023) (if aSlotSig.op.flags.x2 = true then 32 else 16)).drive
   (Output.axiResp (some 1023) none false false)).modSlot 1023 fun x => x.begin aSlotSig slotStalled.time

/-! ### Well-formedness: each check refuses an ill-formed command -/

theorem test_wellFormed_accepts : Instr.wellFormed (.sig { src := .core 127 8 0, op := op5 }) = true := by decide
theorem test_wellFormed_port : Instr.wellFormed (.coreReset 128) = false := by decide
theorem test_wellFormed_lane : Instr.wellFormed (.responseRead 0 9) = false := by decide
theorem test_wellFormed_slot : Instr.wellFormed (.apertureStallLimit 1024) = false := by decide
theorem test_wellFormed_link : Instr.wellFormed (.phyDown 4) = false := by decide
theorem test_wellFormed_partition : Instr.wellFormed (.stocktakeRound 16) = false := by decide
theorem test_wellFormed_record : Instr.wellFormed (.waiterExpiry 131072) = false := by decide
theorem test_wellFormed_loan : Instr.wellFormed (.loanIdleReturn 4096) = false := by decide
theorem test_wellFormed_input : Instr.wellFormed (.evDeferredSig 16) = false := by decide
theorem test_wellFormed_ring : Instr.wellFormed (.notifyIrqHoldoff 17) = false := by decide
theorem test_wellFormed_word : Instr.wellFormed (.scrubAccess (.config 24576)) = false := by decide
theorem test_wellFormed_stage : Instr.wellFormed (.stageRetry 32 0 true) = false := by decide
theorem test_wellFormed_stage_link : Instr.wellFormed (.stageRetry 31 5 true) = false := by decide
theorem test_wellFormed_renegotiate : Instr.wellFormed (.linkRenegotiate (fromApb 0) 8 4 0) = false := by decide
theorem test_wellFormed_binding : Instr.wellFormed (.evBindingWrite (fromApb 0) 0 1 0) = false := by decide
theorem test_wellFormed_source : Instr.wellFormed (.wait { src := .core 128 1 0, op := op5 }) = false := by decide
theorem test_wellFormed_template : Instr.wellFormed (.templateWrite (.slot 1024 true) 0 5 0) = false := by decide
theorem test_wellFormed_bucket : Instr.wellFormed (.bucketRefill (.engine 0 8)) = false := by decide
theorem test_wellFormed_target : Instr.wellFormed (.completionDelivery (.port 128)) = false := by decide
theorem test_wellFormed_area : Instr.wellFormed (.apertureRefused (.block 16) .readOnly false) = false := by decide
theorem test_wellFormed_via : Instr.wellFormed (.consumerIndexWrite (.block 16) .notify 0) = false := by decide
theorem test_wellFormed_ring_name : Instr.wellFormed (.consumerIndexWrite (.block 0) (.ticket 4) 0) = false := by decide
theorem test_wellFormed_kind : Instr.wellFormed (.reservedMessageKind 8 12) = false := by decide
theorem test_wellFormed_opcode : Instr.wellFormed (.unlistedOpcode 63 { src := .core 0 1 0, op := op5 }) = false := by decide

/-! ### Worked examples of the manual -/

/-- R93: the op word of a TAKE with ACQ, timeout select 5 and tag 0x0123. -/
theorem test_take_word :
    opWord (opCode .take) { flags := { noFlags with acq := true }, tsel := 5, tag := 0x123, handle := 0x00620105,
                            operand := 0x600000, opb := 0 } = 0x15050123006201050000000000600000 := by decide +kernel
/-- R324: the op word of a posted SIG. -/
theorem test_sig_word :
    opWord (opCode .sig) { flags := { noFlags with noresp := true }, tsel := 0, tag := 0x41, handle := 0x310,
                           operand := 0x1000, opb := 0 } = 0x04800041000003100000000000001000 := by decide +kernel
/-- R102: the response to that TAKE, granted 1,048 ns after its stamp. -/
theorem test_take_response : respWord .ok 0x123 524 = 0x000123000000020C := by decide +kernel
/-- R29: the translation of a handle in partition 2 of four. -/
theorem test_translate :
    ({ hub0 with partCount := 4, devMap := [(2 * 4096 + 6, 0x84C1)] } : State).translate 2 0x00620105 = some 0x4C130105 := by
  decide +kernel
/-- R324: the STATE register of the slot in the example, a posted SIG away and a WAIT in progress. -/
theorem test_slot_state :
    ({ busy := true, tag := 0x42, away := [{ engine := 0, entry := none, silent := false }] } : Slot).stateWord =
      0x0042000100000001 := by decide +kernel
/-- R57: a registered barrier of ports 16 to 21 with an engine mask. -/
def leafBarrier (m : BitVec 8) : ObjRec :=
  { otype := .barrier, mode := 1, word0 := (m.setWidth 64 <<< 46) ||| (21 <<< 39) ||| (16 <<< 32) }
theorem test_slot_of_all : (leafBarrier 0xFF).slotOf 19 5 = some 29 := by decide +kernel
theorem test_slot_of_two : (leafBarrier 0xA0).slotOf 19 7 = some 7 ∧ (leafBarrier 0xA0).slotOf 19 6 = none := by
  decide +kernel
/-- R166: of two equal keys the lower index wins, from whichever side. -/
theorem test_argmax :
    (accMerge 0xA ⟨0xC0A000000000A001, 0⟩ ⟨0xC0A0000000003000, 0⟩).bits = 0xC0A0000000003000 ∧
    (accMerge 0xA ⟨0xC0A0000000003000, 0⟩ ⟨0xC0A000000000A001, 0⟩).bits = 0xC0A0000000003000 := by decide +kernel
/-- R173: the accumulators of the two leaves and of the root. -/
def oneF : Acc := contribution 0xB 1 0x3F800000
def leaf0 : Acc := accMerge 0xB (contribution 0xB 1 0x4B800000) oneF
theorem test_exact_leaf0 : getFld leaf0.bits 128 64 = (0x0000200000200000 : BitVec 64) ∧ leaf0.flags = 1 := by
  decide +kernel
theorem test_exact_leaf1 : getFld (accMerge 0xB oneF oneF).bits 128 64 = (0x400000 : BitVec 64) := by decide +kernel
theorem test_exact_root :
    getFld (accMerge 0xB leaf0 (accMerge 0xB oneF oneF)).bits 128 64 = (0x0000200000600000 : BitVec 64) := by
  decide +kernel
/-- R265: C's key is below B's; D's stamp is older than A's across the wrap. -/
theorem test_fair_keys : fairKey 0x20426 0 = 0x81098 ∧ fairKey 0x20449 0 = 0x81124 := by decide
theorem test_stamp_wrap : stampOlder 0xFFFFFC 0xFFFFFE = true ∧ stampOlder 0xFFFFFE 1 = true := by decide
/-- R404: a stale epoch and a newer one. -/
theorem test_epochs : epochCheck 0x30 0x2F = some true ∧ epochCheck 0x2F 0x30 = some false ∧ epochCheck 7 7 = none := by
  decide
/-- R417: the partitions that a reslice affects. -/
theorem test_reslice_fewer : resliceAffects 4 2 = [1, 2, 3] := by decide
theorem test_reslice_more : resliceAffects 4 8 = [0, 1, 2, 3, 4, 5, 6, 7] := by decide
/-- R506: durations in units of 1/256 ns. -/
theorem test_duration : tUs 10 = 0x271000 ∧ hub0.cfg 0x2100 1 = 0x3E800 := by decide +kernel
/-- R382: the route entry of the example: primary 0xB on VL 0, alternate 0xD on VL 1, level 3. -/
theorem test_route_entry :
    entryValid 0xDBBC0000 = true ∧ entryPrimary 0xDBBC0000 = 0xB ∧ entryVl 0xDBBC0000 = 0 ∧ entryAltValid 0xDBBC0000 = true ∧
    entryAlt 0xDBBC0000 = 0xD ∧ entryAltVl 0xDBBC0000 = 1 ∧ entryLevel 0xDBBC0000 = 3 := by decide +kernel
/-- R390: the offset and the delay of an exchange, without and with an asymmetry of 1 ns. -/
def lockedHub : State := { hub0 with sync := { state := .locked } }
theorem test_exchange :
    (lockedHub.useExchange 8 0 63040 93760 (601 * 256) 0).sync.samples = [(0x5C0, 61568)] ∧
    (lockedHub.useExchange 8 0 63040 93760 (601 * 256) 0x100).sync.samples = [(0x540, 61568)] := by decide +kernel
/-- R440: the body of the JOB_FAULT record of the example. -/
theorem test_fault_body :
    ({ hub0 with time := 0x1B31D297B * 256 } : State).faultBody { cause := 1, index := 0x9A31 } 0x12 [1] =
      0x0413462240004001B31D297B := by decide +kernel
/-- R440: index 39,473 lies in partition 1 of four. -/
theorem test_fault_share : ({ hub0 with partCount := 4 } : State).partOfIndex 0x9A31 = 1 := by decide +kernel
/-- R197: when the TAKE of 8 from die 1 has left 56, a loan of 32 opens: 24 are left, and 32 are lent. -/
def loanHub : State :=
  ((({ hub0 with device := 0x20, links := [(0, { state := .up, phyUp := true, version := 2 })] } : State).putRoute 4097
    0x800C0000).setObj 5 { otype := .token, mode := 2, word0 := 56 })
theorem test_loan_opens : loanHub.opensLoan 5 0x101 = true := by decide +kernel
theorem test_loan_amounts :
    ((loanHub.openLoan 5 0x101 8).obj 5).word0 = 24 ∧ ((loanHub.openLoan 5 0x101 8).obj 5).word1 = 32 := by decide +kernel
/-- R238: the BOOST notice of the example, bits [95:0]. -/
def boostLock : ObjRec :=
  ({ otype := .lock, word0 := (1 <<< 25) ||| 0x1048A } : ObjRec).setLock 12 3 0 0 true 0x1048A
theorem test_boost_fields : boostLock.prio = 3 ∧ boostLock.inhPrio = 12 ∧ boostLock.holder = 0x1048A := by decide +kernel

/-! ### Single steps of small states -/

/-- R343: a flit with one bit inverted is not good. -/
theorem test_crc_refuses : flitGood (flitOf 4 true 0 0) = true ∧ flitGood ((flitOf 4 true 0 0) ^^^ 0x10000) = false := by
  decide +kernel
/-- R515: an entry that does not exist answers NO_ENTRY. -/
theorem test_no_entry :
    (after (.catRead (fromApb 0) 0 0) hub0).apb.status = .noEntry := by decide +kernel
/-- R512: a WRITE of an RO entry answers ACCESS_ERROR. -/
theorem test_read_only :
    (after (.catWrite (fromApb 0) 0x3000 1 1 1) hub0).apb.status = .accessError := by decide +kernel
/-- A command's step takes it from the front of the queue. -/
theorem test_step_front :
    (match step { hub0 with pending := [.startupComplete, .refclkLoss] } with
     | .next t => decide (t.pending = [.refclkLoss]) && !t.refLost
     | _ => false) = true := by decide +kernel
/-- The state after reset meets the invariant of every step. -/
theorem test_reset_inv : State.reset.storesWf = true ∧ State.reset.clockInv := by
  unfold State.clockInv
  decide +kernel

/-! ### Every statement has states and operands that meet its hypotheses -/

/-- A step performs the command at the front of the queue. -/
theorem meets_StepRunsTheFront :
    (∃ (s : State) (x : Principal × Instr) (t : State), s.pending = [] ∧ s.inbox = [] ∧ s.nextHeld = some x ∧ exec
      x.snd (s.takeHeld x.fst) = Host.Outcome.next t) ∧
    (∃ (s : State), s.pending = [] ∧ s.inbox = [] ∧ s.nextHeld = none) :=
  ⟨⟨heldHub, ((.eid 9, .identify fromTenant)), (after (.identify fromTenant) (heldHub.takeHeld (.eid 9))),
     (by decide +kernel), (by decide +kernel), rfl, rfl⟩,
   ⟨hub0, (by decide +kernel), (by decide +kernel), (by decide +kernel)⟩⟩

/-- Every command completes unless it names an absent unit. -/
theorem meets_CommandsComplete :
    (∃ (i : Instr) (s : State), stopOf i s = none) ∧
    (∃ (i : Instr) (s : State) (f : Fault), stopOf i s = some f) :=
  ⟨⟨(.sig { src := .core 127 0 0, op := op5 }), hub0, (by decide +kernel)⟩,
   ⟨(.phyUp 4 7), hub0, .absentLink, (by decide +kernel)⟩⟩

/-- What only certain commands can change. -/
theorem meets_OnlyTheseCommands :
    (∃ (i : Instr) (s : State) (t : State), exec i s = Host.Outcome.next t) ∧
    (∃ (i : Instr) (s : State) (t : State), exec i s = Host.Outcome.next t ∧ (∀ (b : Bool), i ≠ Instr.hubReset b) ∧ (∀
      (d : BitVec 12) (e r : BitVec 3) (a : BitVec 128), i ≠ Instr.startup d e r a)) ∧
    (∃ (i : Instr) (s : State) (t : State), exec i s = Host.Outcome.next t ∧ (∀ (b : Bool), i ≠ Instr.hubReset b) ∧ (∀
      (d : BitVec 12) (e r : BitVec 3) (a : BitVec 128), i ≠ Instr.startup d e r a)) ∧
    (∃ (i : Instr) (s : State) (t : State), exec i s = Host.Outcome.next t ∧ (∀ (b : Bool), i ≠ Instr.hubReset b) ∧ (∀
      (d : BitVec 12) (e r : BitVec 3) (a : BitVec 128), i ≠ Instr.startup d e r a)) ∧
    (∃ (i : Instr) (s : State) (t : State), exec i s = Host.Outcome.next t ∧ (∀ (b : Bool), i ≠ Instr.hubReset b) ∧ (∀
      (d : BitVec 12) (e r : BitVec 3) (a : BitVec 128), i ≠ Instr.startup d e r a)) ∧
    (∃ (i : Instr) (s : State) (t : State), exec i s = Host.Outcome.next t ∧ (∀ (b : Bool), i ≠ Instr.hubReset b) ∧ (∀
      (d : BitVec 12) (e r : BitVec 3) (a : BitVec 128), i ≠ Instr.startup d e r a)) ∧
    (∃ (i : Instr) (s : State) (t : State), exec i s = Host.Outcome.next t ∧ (∀ (b : Bool), i ≠ Instr.hubReset b) ∧ (∀
      (d : BitVec 12) (e r : BitVec 3) (a : BitVec 128), i ≠ Instr.startup d e r a)) ∧
    (∃ (i : Instr) (s : State) (t : State), exec i s = Host.Outcome.next t ∧ (∀ (b : Bool), i ≠ Instr.hubReset b) ∧ (∀
      (d : BitVec 12) (e r : BitVec 3) (a : BitVec 128), i ≠ Instr.startup d e r a) ∧ i ≠ Instr.startupComplete) ∧
    (∃ (i : Instr) (s : State) (t : State), exec i s = Host.Outcome.next t ∧ (∀ (b : Bool), i ≠ Instr.hubReset b) ∧ (∀
      (d : BitVec 12) (e r : BitVec 3) (a : BitVec 128), i ≠ Instr.startup d e r a) ∧ i ≠ Instr.refclkLoss ∧ i ≠
      Instr.refclkReturn) ∧
    (∃ (i : Instr) (s : State) (t : State), exec i s = Host.Outcome.next t ∧ (∀ (b : Bool), i ≠ Instr.hubReset b) ∧ (∀
      (d : BitVec 12) (e r : BitVec 3) (a : BitVec 128), i ≠ Instr.startup d e r a) ∧ (∀ (a : BitVec 8) (b : BitVec 3)
      (c : BitVec 8), i ≠ Instr.setEndpointId a b c)) ∧
    (∃ (i : Instr) (s : State) (t : State), exec i s = Host.Outcome.next t ∧ (∀ (b : Bool), i ≠ Instr.hubReset b) ∧ (∀
      (d : BitVec 12) (e r : BitVec 3) (a : BitVec 128), i ≠ Instr.startup d e r a) ∧ (∀ (a b : Nat) (c : List
      CapturedItem) (d : Bool), i ≠ Instr.stageRestart a b c d) ∧ (∀ (a b : Nat) (c : Bool), i ≠ Instr.stageRetry a b
      c)) ∧
    (∃ (i : Instr) (s : State) (t : State), exec i s = Host.Outcome.next t ∧ (∀ (b : Bool), i ≠ Instr.hubReset b) ∧ (∀
      (d : BitVec 12) (e r : BitVec 3) (a : BitVec 128), i ≠ Instr.startup d e r a) ∧ (∀ (a b : Nat) (c : List
      CapturedItem) (d : Bool), i ≠ Instr.stageRestart a b c d) ∧ (∀ (a b : Nat) (c : Bool), i ≠ Instr.stageRetry a b
      c)) ∧
    (∃ (i : Instr) (s : State) (t : State), exec i s = Host.Outcome.next t ∧ (∀ (b : Bool), i ≠ Instr.hubReset b) ∧ (∀
      (d : BitVec 12) (e r : BitVec 3) (a : BitVec 128), i ≠ Instr.startup d e r a) ∧ (∀ (w : StoreWord), i ≠
      Instr.scrubAccess w) ∧ i ≠ Instr.startupComplete) :=
  ⟨⟨(.identify (fromApb 0)), hub0, (after (.identify (fromApb 0)) hub0), rfl⟩,
   ⟨(.identify (fromApb 0)), hub0, (after (.identify (fromApb 0)) hub0), rfl, (fun _ h => nomatch h),
     (fun _ _ _ _ h => nomatch h)⟩,
   ⟨(.identify (fromApb 0)), hub0, (after (.identify (fromApb 0)) hub0), rfl, (fun _ h => nomatch h),
     (fun _ _ _ _ h => nomatch h)⟩,
   ⟨(.identify (fromApb 0)), hub0, (after (.identify (fromApb 0)) hub0), rfl, (fun _ h => nomatch h),
     (fun _ _ _ _ h => nomatch h)⟩,
   ⟨(.identify (fromApb 0)), hub0, (after (.identify (fromApb 0)) hub0), rfl, (fun _ h => nomatch h),
     (fun _ _ _ _ h => nomatch h)⟩,
   ⟨(.identify (fromApb 0)), hub0, (after (.identify (fromApb 0)) hub0), rfl, (fun _ h => nomatch h),
     (fun _ _ _ _ h => nomatch h)⟩,
   ⟨(.identify (fromApb 0)), hub0, (after (.identify (fromApb 0)) hub0), rfl, (fun _ h => nomatch h),
     (fun _ _ _ _ h => nomatch h)⟩,
   ⟨(.identify (fromApb 0)), hub0, (after (.identify (fromApb 0)) hub0), rfl, (fun _ h => nomatch h),
     (fun _ _ _ _ h => nomatch h), (fun h => nomatch h)⟩,
   ⟨(.identify (fromApb 0)), hub0, (after (.identify (fromApb 0)) hub0), rfl, (fun _ h => nomatch h),
     (fun _ _ _ _ h => nomatch h), (fun h => nomatch h), (fun h => nomatch h)⟩,
   ⟨(.identify (fromApb 0)), hub0, (after (.identify (fromApb 0)) hub0), rfl, (fun _ h => nomatch h),
     (fun _ _ _ _ h => nomatch h), (fun _ _ _ h => nomatch h)⟩,
   ⟨(.identify (fromApb 0)), hub0, (after (.identify (fromApb 0)) hub0), rfl, (fun _ h => nomatch h),
     (fun _ _ _ _ h => nomatch h), (fun _ _ _ _ h => nomatch h), (fun _ _ _ h => nomatch h)⟩,
   ⟨(.identify (fromApb 0)), hub0, (after (.identify (fromApb 0)) hub0), rfl, (fun _ h => nomatch h),
     (fun _ _ _ _ h => nomatch h), (fun _ _ _ _ h => nomatch h), (fun _ _ _ h => nomatch h)⟩,
   ⟨(.identify (fromApb 0)), hub0, (after (.identify (fromApb 0)) hub0), rfl, (fun _ h => nomatch h),
     (fun _ _ _ _ h => nomatch h), (fun _ h => nomatch h), (fun h => nomatch h)⟩⟩

/-- Every step keeps the stores canonical and the timebase in order. -/
theorem meets_StepsKeepTheHubSound :
    (∃ (s : State) (t : State), s.storesWf = true ∧ s.clockInv ∧ step s = Host.Outcome.next t) ∧
    (∃ (s : State) (t : State), s.storesWf = true ∧ s.clockInv ∧ step s = Host.Outcome.next t) :=
  ⟨⟨hub0, hub0.tickOnce, (by decide +kernel), (by unfold State.clockInv; decide +kernel), rfl⟩,
   ⟨hub0, hub0.tickOnce, (by decide +kernel), (by unfold State.clockInv; decide +kernel), rfl⟩⟩

/-- Every message, NEG and flit reads back from its bits. -/
theorem meets_MessagesReadBack :
    (∃ (m : Msg), m.body.onlySent) ∧
    (∃ (m : Msg), m.body.onlySent) ∧
    (∃ (m : Msg), m.body.onlySent) ∧
    (∃ (f : Flit), f.ftype.toNat < 8) ∧
    (∃ (f : Flit), 8 ≤ f.ftype.toNat) :=
  ⟨⟨anOpMsg, trivial⟩,
   ⟨anOpMsg, trivial⟩,
   ⟨anOpMsg, trivial⟩,
   ⟨(({ ftype := 7, head := true, fseq := 0xFFF, aseq := 0, crv := true, crb := 3, payload := 0 } : Flit)),
     (by decide +kernel)⟩,
   ⟨(({ ftype := 8, head := true, fseq := 0xFFF, aseq := 0, crv := true, crb := 3, payload := 0 } : Flit)),
     (by decide +kernel)⟩⟩

/-- SIG, SET, CLR and WAIT on an EVENT. -/
theorem meets_EventOps :
    (∃ (s : State) (p : Nat) (lane : Nat) (ctx : BitVec 8) (op : OpFields) (a : HomeOp) (r : ObjRec), r = s.obj
      a.index ∧ r.otype = ObjType.event ∧ s.reaches p (s.presented lane ctx Opcode.sig op) Opcode.sig a ∧ s.queue
      a.index = []) ∧
    (∃ (s : State) (p : Nat) (lane : Nat) (ctx : BitVec 8) (op : OpFields) (a : HomeOp) (r : ObjRec), r = s.obj
      a.index ∧ r.otype = ObjType.event ∧ s.reaches p (s.presented lane ctx Opcode.set op) Opcode.set a ∧ s.queue
      a.index = []) ∧
    (∃ (s : State) (p : Nat) (lane : Nat) (ctx : BitVec 8) (op : OpFields) (a : HomeOp) (r : ObjRec), r = s.obj
      a.index ∧ r.otype = ObjType.event ∧ s.reaches p (s.presented lane ctx Opcode.clr op) Opcode.clr a) ∧
    (∃ (s : State) (p : Nat) (lane : Nat) (ctx : BitVec 8) (op : OpFields) (a : HomeOp) (r : ObjRec), r = s.obj
      a.index ∧ r.otype = ObjType.event ∧ s.reaches p (s.presented lane ctx Opcode.wait op) Opcode.wait a ∧
      r.word0.getLsbD 0 = true) :=
  ⟨⟨(withObj anEvent), 0, 1, 0, op5, (op1 (withObj anEvent) .sig op5), ((withObj anEvent).obj (op1 (withObj anEvent)
     .sig op5).index), rfl, (by decide +kernel),
     (by unfold State.reaches State.passes State.takesNow ShimOp.goesOn; decide +kernel), (by decide +kernel)⟩,
   ⟨(withObj anEvent), 0, 1, 0, op5, (op1 (withObj anEvent) .set op5), ((withObj anEvent).obj (op1 (withObj anEvent)
     .set op5).index), rfl, (by decide +kernel),
     (by unfold State.reaches State.passes State.takesNow ShimOp.goesOn; decide +kernel), (by decide +kernel)⟩,
   ⟨(withObj aSetEvent), 0, 1, 0, op5, (op1 (withObj aSetEvent) .clr op5), ((withObj aSetEvent).obj (op1 (withObj
     aSetEvent) .clr op5).index), rfl, (by decide +kernel),
     (by unfold State.reaches State.passes State.takesNow ShimOp.goesOn; decide +kernel)⟩,
   ⟨(withObj aSetEvent), 0, 1, 0, op5, (op1 (withObj aSetEvent) .wait op5), ((withObj aSetEvent).obj (op1 (withObj
     aSetEvent) .wait op5).index), rfl, (by decide +kernel),
     (by unfold State.reaches State.passes State.takesNow ShimOp.goesOn; decide +kernel), (by decide +kernel)⟩⟩

/-- SIG, FADD, SWAP and CAS on a TOKEN or SEM. -/
theorem meets_AmountOps :
    (∃ (s : State) (p : Nat) (lane : Nat) (ctx : BitVec 8) (op : OpFields) (a : HomeOp) (r : ObjRec), r = s.obj
      a.index ∧ (r.otype = ObjType.token ∨ r.otype = ObjType.sem) ∧ r.trig = false ∧ s.queue a.index = [] ∧ s.reaches
      p (s.presented lane ctx Opcode.sig op) Opcode.sig a) ∧
    (∃ (s : State) (p : Nat) (lane : Nat) (ctx : BitVec 8) (op : OpFields) (a : HomeOp) (r : ObjRec), r = s.obj
      a.index ∧ (r.otype = ObjType.token ∨ r.otype = ObjType.sem) ∧ r.trig = false ∧ s.queue a.index = [] ∧ s.reaches
      p (s.presented lane ctx Opcode.fadd op) Opcode.fadd a) ∧
    (∃ (s : State) (p : Nat) (lane : Nat) (ctx : BitVec 8) (op : OpFields) (a : HomeOp) (r : ObjRec), r = s.obj
      a.index ∧ (r.otype = ObjType.token ∨ r.otype = ObjType.sem) ∧ r.trig = false ∧ s.queue a.index = [] ∧ s.reaches
      p (s.presented lane ctx Opcode.swap op) Opcode.swap a) ∧
    (∃ (s : State) (p : Nat) (lane : Nat) (ctx : BitVec 8) (op : OpFields) (a : HomeOp) (r : ObjRec), r = s.obj
      a.index ∧ (r.otype = ObjType.token ∨ r.otype = ObjType.sem) ∧ r.trig = false ∧ s.queue a.index = [] ∧ s.reaches
      p (s.presented lane ctx Opcode.cas op) Opcode.cas a) :=
  ⟨⟨(withObj aToken), 0, 1, 0, op5, (op1 (withObj aToken) .sig op5), ((withObj aToken).obj (op1 (withObj aToken) .sig
     op5).index), rfl, (by decide +kernel), (by decide +kernel), (by decide +kernel),
     (by unfold State.reaches State.passes State.takesNow ShimOp.goesOn; decide +kernel)⟩,
   ⟨(withObj aToken), 0, 1, 0, op5, (op1 (withObj aToken) .fadd op5), ((withObj aToken).obj (op1 (withObj aToken)
     .fadd op5).index), rfl, (by decide +kernel), (by decide +kernel), (by decide +kernel),
     (by unfold State.reaches State.passes State.takesNow ShimOp.goesOn; decide +kernel)⟩,
   ⟨(withObj aToken), 0, 1, 0, op5, (op1 (withObj aToken) .swap op5), ((withObj aToken).obj (op1 (withObj aToken)
     .swap op5).index), rfl, (by decide +kernel), (by decide +kernel), (by decide +kernel),
     (by unfold State.reaches State.passes State.takesNow ShimOp.goesOn; decide +kernel)⟩,
   ⟨(withObj aToken), 0, 1, 0, op5x, (op1 (withObj aToken) .cas op5x), ((withObj aToken).obj (op1 (withObj aToken)
     .cas op5x).index), rfl, (by decide +kernel), (by decide +kernel), (by decide +kernel),
     (by unfold State.reaches State.passes State.takesNow ShimOp.goesOn; decide +kernel)⟩⟩

/-- TAKE, TRYTAKE and WAIT on a TOKEN or SEM. -/
theorem meets_TakeOps :
    (∃ (s : State) (p : Nat) (lane : Nat) (ctx : BitVec 8) (op : OpFields) (a : HomeOp) (r : ObjRec), r = s.obj
      a.index ∧ (r.otype = ObjType.token ∨ r.otype = ObjType.sem) ∧ s.queue a.index = [] ∧ s.reaches p (s.presented
      lane ctx Opcode.take op) Opcode.take a ∧ r.loanable = false ∧ (a.op.operand = 0 ∨ a.op.operand.getLsbD 63 =
      true)) ∧
    (∃ (s : State) (p : Nat) (lane : Nat) (ctx : BitVec 8) (op : OpFields) (a : HomeOp) (r : ObjRec), r = s.obj
      a.index ∧ (r.otype = ObjType.token ∨ r.otype = ObjType.sem) ∧ s.queue a.index = [] ∧ s.reaches p (s.presented
      lane ctx Opcode.take op) Opcode.take a ∧ r.loanable = false ∧ a.op.operand ≠ 0 ∧ a.op.operand.getLsbD 63 = false
      ∧ Int.ofNat a.op.operand.toNat ≤ r.amount) ∧
    (∃ (s : State) (p : Nat) (lane : Nat) (ctx : BitVec 8) (op : OpFields) (a : HomeOp) (r : ObjRec), r = s.obj
      a.index ∧ (r.otype = ObjType.token ∨ r.otype = ObjType.sem) ∧ s.queue a.index = [] ∧ s.reaches p (s.presented
      lane ctx Opcode.tryTake op) Opcode.tryTake a ∧ r.loanable = false) ∧
    (∃ (s : State) (p : Nat) (lane : Nat) (ctx : BitVec 8) (op : OpFields) (a : HomeOp) (r : ObjRec), r = s.obj
      a.index ∧ (r.otype = ObjType.token ∨ r.otype = ObjType.sem) ∧ s.queue a.index = [] ∧ s.reaches p (s.presented
      lane ctx Opcode.wait op) Opcode.wait a ∧ r.operandInt a.op.operand ≤ r.amount) :=
  ⟨⟨(withObj aToken), 0, 1, 0, op5zero, (op1 (withObj aToken) .take op5zero), ((withObj aToken).obj (op1 (withObj
     aToken) .take op5zero).index), rfl, (by decide +kernel), (by decide +kernel),
     (by unfold State.reaches State.passes State.takesNow ShimOp.goesOn; decide +kernel), (by decide +kernel),
     (by decide +kernel)⟩,
   ⟨(withObj aToken), 0, 1, 0, op5, (op1 (withObj aToken) .take op5), ((withObj aToken).obj (op1 (withObj aToken)
     .take op5).index), rfl, (by decide +kernel), (by decide +kernel),
     (by unfold State.reaches State.passes State.takesNow ShimOp.goesOn; decide +kernel), (by decide +kernel),
     (by decide +kernel), (by decide +kernel), (by decide +kernel)⟩,
   ⟨(withObj aToken), 0, 1, 0, op5, (op1 (withObj aToken) .tryTake op5), ((withObj aToken).obj (op1 (withObj aToken)
     .tryTake op5).index), rfl, (by decide +kernel), (by decide +kernel),
     (by unfold State.reaches State.passes State.takesNow ShimOp.goesOn; decide +kernel), (by decide +kernel)⟩,
   ⟨(withObj aToken), 0, 1, 0, op5, (op1 (withObj aToken) .wait op5), ((withObj aToken).obj (op1 (withObj aToken)
     .wait op5).index), rfl, (by decide +kernel), (by decide +kernel),
     (by unfold State.reaches State.passes State.takesNow ShimOp.goesOn; decide +kernel), (by decide +kernel)⟩⟩

/-- READ, ARM and DISARM. -/
theorem meets_ReadArmAndDisarm :
    (∃ (s : State) (p : Nat) (lane : Nat) (ctx : BitVec 8) (op : OpFields) (a : HomeOp) (r : ObjRec), r = s.obj
      a.index ∧ s.reaches p (s.presented lane ctx Opcode.read op) Opcode.read a) ∧
    (∃ (s : State) (p : Nat) (lane : Nat) (ctx : BitVec 8) (op : OpFields) (a : HomeOp) (r : ObjRec), r = s.obj
      a.index ∧ s.reaches p (s.presented lane ctx Opcode.disarm op) Opcode.disarm a) ∧
    (∃ (s : State) (p : Nat) (lane : Nat) (ctx : BitVec 8) (op : OpFields) (a : HomeOp) (r : ObjRec) (n : ObjRec), r =
      s.obj a.index ∧ (n =
      ({ r with trig := true, word1 := if r.otype = ObjType.token ∧ a.op.operand ≠ 0 then a.op.operand else r.word1 }
      : ObjRec).wrote (s.laneOrig p lane) s.time) ∧ s.reaches p (s.presented lane ctx Opcode.arm op) Opcode.arm a ∧
      r.loanable = false ∧ s.pairOk r a.index = true ∧ (s.obj (trigIndex r a.index)).faulted = false ∧ (r.otype =
      ObjType.token → n.word1 ≠ 0) ∧ n.firings = 0 ∧ s.queue a.index = []) :=
  ⟨⟨(withObj aToken), 0, 1, 0, op5, (op1 (withObj aToken) .read op5), ((withObj aToken).obj (op1 (withObj aToken)
     .read op5).index), rfl, (by unfold State.reaches State.passes State.takesNow ShimOp.goesOn; decide +kernel)⟩,
   ⟨(withObj aTrigToken), 0, 1, 0, op5zero, (op1 (withObj aTrigToken) .disarm op5zero), ((withObj aTrigToken).obj (op1
     (withObj aTrigToken) .disarm op5zero).index), rfl,
     (by unfold State.reaches State.passes State.takesNow ShimOp.goesOn; decide +kernel)⟩,
   ⟨(withPair aToken aTrig), 0, 1, 0, op5ten, (op1 (withPair aToken aTrig) .arm op5ten), ((withPair aToken aTrig).obj
     (op1 (withPair aToken aTrig) .arm op5ten).index), (armedRec (withPair aToken aTrig) aToken 10), rfl,
     (by decide +kernel), (by unfold State.reaches State.passes State.takesNow ShimOp.goesOn; decide +kernel),
     (by decide +kernel), (by decide +kernel), (by decide +kernel), (by decide +kernel), (by decide +kernel),
     (by decide +kernel)⟩⟩

/-- Ops that wait in a queue, or find no waiter record. -/
theorem meets_OpsThatWait :
    (∃ (s : State) (p : Nat) (lane : Nat) (ctx : BitVec 8) (op : OpFields) (a : HomeOp) (r : ObjRec), r = s.obj
      a.index ∧ s.reaches p (s.presented lane ctx Opcode.wait op) Opcode.wait a ∧ (r.otype = ObjType.event ∧
      r.word0.getLsbD 0 = false ∨ (r.otype = ObjType.token ∨ r.otype = ObjType.sem) ∧ r.amount < r.operandInt
      a.op.operand)) ∧
    (∃ (s : State) (p : Nat) (lane : Nat) (ctx : BitVec 8) (op : OpFields) (a : HomeOp) (r : ObjRec), r = s.obj
      a.index ∧ s.reaches p (s.presented lane ctx Opcode.take op) Opcode.take a ∧ (r.otype = ObjType.token ∨ r.otype =
      ObjType.sem) ∧ a.op.operand ≠ 0 ∧ a.op.operand.getLsbD 63 = false ∧ r.amount < Int.ofNat a.op.operand.toNat) ∧
    (∃ (s : State) (p : Nat) (lane : Nat) (ctx : BitVec 8) (op : OpFields) (a : HomeOp) (r : ObjRec), r = s.obj
      a.index ∧ s.reaches p (s.presented lane ctx Opcode.acq op) Opcode.acq a ∧ s.lockRights a r = true ∧
      r.word0.getLsbD 25 = true ∧ s.prioMode r = false ∧ a.op.tsel.toNat ≤ r.prio.toNat ∧ s.hasRoom a) :=
  ⟨⟨(withObj anEvent), 0, 1, 0, op5, (op1 (withObj anEvent) .wait op5), ((withObj anEvent).obj (op1 (withObj anEvent)
     .wait op5).index), rfl, (by unfold State.reaches State.passes State.takesNow ShimOp.goesOn; decide +kernel),
     (by decide +kernel)⟩,
   ⟨(withObj aToken), 0, 1, 0, op5ten, (op1 (withObj aToken) .take op5ten), ((withObj aToken).obj (op1 (withObj
     aToken) .take op5ten).index), rfl,
     (by unfold State.reaches State.passes State.takesNow ShimOp.goesOn; decide +kernel), (by decide +kernel),
     (by decide +kernel), (by decide +kernel), (by decide +kernel)⟩,
   ⟨(withObj aHeldLock), 0, 1, 0, op5zero, (op1 (withObj aHeldLock) .acq op5zero), ((withObj aHeldLock).obj (op1
     (withObj aHeldLock) .acq op5zero).index), rfl,
     (by unfold State.reaches State.passes State.takesNow ShimOp.goesOn; decide +kernel), (by decide +kernel),
     (by decide +kernel), (by decide +kernel), (by decide +kernel), (by unfold State.hasRoom; decide +kernel)⟩⟩

/-- ACQ, TRYACQ, REL and FREL on a LOCK. -/
theorem meets_LockOps :
    (∃ (s : State) (p : Nat) (lane : Nat) (ctx : BitVec 8) (op : OpFields) (a : HomeOp) (r : ObjRec), r = s.obj
      a.index ∧ s.reaches p (s.presented lane ctx Opcode.acq op) Opcode.acq a ∧ s.lockRights a r = false) ∧
    (∃ (s : State) (p : Nat) (lane : Nat) (ctx : BitVec 8) (op : OpFields) (a : HomeOp) (r : ObjRec), r = s.obj
      a.index ∧ s.reaches p (s.presented lane ctx Opcode.acq op) Opcode.acq a ∧ s.lockRights a r = true ∧ r.held =
      false) ∧
    (∃ (s : State) (p : Nat) (lane : Nat) (ctx : BitVec 8) (op : OpFields) (a : HomeOp) (r : ObjRec), r = s.obj
      a.index ∧ s.reaches p (s.presented lane ctx Opcode.tryAcq op) Opcode.tryAcq a) ∧
    (∃ (s : State) (p : Nat) (lane : Nat) (ctx : BitVec 8) (op : OpFields) (a : HomeOp) (r : ObjRec), r = s.obj
      a.index ∧ s.reaches p (s.presented lane ctx Opcode.rel op) Opcode.rel a ∧ s.queue a.index = [] ∧ r.inhPrio = 0) ∧
    (∃ (s : State) (p : Nat) (lane : Nat) (ctx : BitVec 8) (op : OpFields) (a : HomeOp) (r : ObjRec), r = s.obj
      a.index ∧ s.reaches p (s.presented lane ctx Opcode.frel op) Opcode.frel a ∧ s.queue a.index = [] ∧ r.inhPrio =
      0) :=
  ⟨⟨barred, 0, 1, 0, op5zero, (op1 (barred) .acq op5zero), ((barred).obj (op1 (barred) .acq op5zero).index), rfl,
     (by unfold State.reaches State.passes State.takesNow ShimOp.goesOn; decide +kernel), (by decide +kernel)⟩,
   ⟨(withObj aLock), 0, 1, 0, op5zero, (op1 (withObj aLock) .acq op5zero), ((withObj aLock).obj (op1 (withObj aLock)
     .acq op5zero).index), rfl, (by unfold State.reaches State.passes State.takesNow ShimOp.goesOn; decide +kernel),
     (by decide +kernel), (by decide +kernel)⟩,
   ⟨(withObj aLock), 0, 1, 0, op5zero, (op1 (withObj aLock) .tryAcq op5zero), ((withObj aLock).obj (op1 (withObj
     aLock) .tryAcq op5zero).index), rfl,
     (by unfold State.reaches State.passes State.takesNow ShimOp.goesOn; decide +kernel)⟩,
   ⟨(withObj aHeldLock), 0, 1, 0, op5zero, (op1 (withObj aHeldLock) .rel op5zero), ((withObj aHeldLock).obj (op1
     (withObj aHeldLock) .rel op5zero).index), rfl,
     (by unfold State.reaches State.passes State.takesNow ShimOp.goesOn; decide +kernel), (by decide +kernel),
     (by decide +kernel)⟩,
   ⟨(withObj aHeldLock), 0, 1, 0, op5zero, (op1 (withObj aHeldLock) .frel op5zero), ((withObj aHeldLock).obj (op1
     (withObj aHeldLock) .frel op5zero).index), rfl,
     (by unfold State.reaches State.passes State.takesNow ShimOp.goesOn; decide +kernel), (by decide +kernel),
     (by decide +kernel)⟩⟩

/-- ARRV, ARRW and WREL on a BARRIER. -/
theorem meets_BarrierOps :
    (∃ (s : State) (p : Nat) (lane : Nat) (ctx : BitVec 8) (op : OpFields) (a : HomeOp) (r : ObjRec) (n : ObjRec), r =
      s.obj a.index ∧ r.otype = ObjType.barrier ∧ r.broken = false ∧ (n =
      (have n0 := r.setArrivals (r.arrivals + 1) r.nextArrivals; if r.isCombining = true then n0.setAccs (r.combCount + 1) (accMerge r.oper r.cur (contribution r.oper r.format a.op.operand)) r.next r.lastResult else n0).wrote
      (s.laneOrig p lane) s.time) ∧ s.reaches p (s.presented lane ctx Opcode.arrv op) Opcode.arrv a ∧
      arrivalOperandsOk a r = true ∧ a.op.flags.sense = r.sense ∧ r.isRegistered = false ∧ (r.isCombining = true →
      r.combCount + 1 ≤ 2 ^ 43) ∧ r.arrivals + 1 < r.expected) ∧
    (∃ (s : State) (p : Nat) (lane : Nat) (ctx : BitVec 8) (op : OpFields) (a : HomeOp) (r : ObjRec) (n : ObjRec), r =
      s.obj a.index ∧ r.otype = ObjType.barrier ∧ r.broken = false ∧ (n =
      (have n0 := r.setArrivals (r.arrivals + 1) r.nextArrivals; if r.isCombining = true then n0.setAccs (r.combCount + 1) (accMerge r.oper r.cur (contribution r.oper r.format a.op.operand)) r.next r.lastResult else n0).wrote
      (s.laneOrig p lane) s.time) ∧ s.reaches p (s.presented lane ctx Opcode.arrw op) Opcode.arrw a ∧
      arrivalOperandsOk a r = true ∧ a.op.flags.sense = r.sense ∧ r.isRegistered = false ∧ (r.isCombining = true →
      r.combCount + 1 ≤ 2 ^ 43) ∧ r.arrivals + 1 < r.expected ∧ s.hasRoom a) ∧
    (∃ (s : State) (p : Nat) (lane : Nat) (ctx : BitVec 8) (op : OpFields) (a : HomeOp) (r : ObjRec) (n : ObjRec), r =
      s.obj a.index ∧ r.otype = ObjType.barrier ∧ r.broken = false ∧ (n =
      (have n0 := r.setArrivals (r.arrivals + 1) r.nextArrivals; if r.isCombining = true then n0.setAccs (r.combCount + 1) (accMerge r.oper r.cur (contribution r.oper r.format a.op.operand)) r.next r.lastResult else n0).wrote
      (s.laneOrig p lane) s.time) ∧ s.reaches p (s.presented lane ctx Opcode.wrel op) Opcode.wrel a ∧ a.op.flags.sense
      ≠ r.sense) ∧
    (∃ (s : State) (p : Nat) (lane : Nat) (ctx : BitVec 8) (op : OpFields) (a : HomeOp) (r : ObjRec) (n : ObjRec), r =
      s.obj a.index ∧ r.otype = ObjType.barrier ∧ r.broken = false ∧ (n =
      (have n0 := r.setArrivals (r.arrivals + 1) r.nextArrivals; if r.isCombining = true then n0.setAccs (r.combCount + 1) (accMerge r.oper r.cur (contribution r.oper r.format a.op.operand)) r.next r.lastResult else n0).wrote
      (s.laneOrig p lane) s.time) ∧ s.reaches p (s.presented lane ctx Opcode.wrel op) Opcode.wrel a ∧ a.op.flags.sense
      = r.sense ∧ s.hasRoom a) :=
  ⟨⟨(withObj aBarrier), 0, 1, 0, op5sense, (op1 (withObj aBarrier) .arrv op5sense), ((withObj aBarrier).obj (op1
     (withObj aBarrier) .arrv op5sense).index), (arrivedRec (withObj aBarrier) aBarrier), rfl, (by decide +kernel),
     (by decide +kernel), (by decide +kernel),
     (by unfold State.reaches State.passes State.takesNow ShimOp.goesOn; decide +kernel), (by decide +kernel),
     (by decide +kernel), (by decide +kernel), (by decide +kernel), (by decide +kernel)⟩,
   ⟨(withObj aBarrier), 0, 1, 0, op5sense, (op1 (withObj aBarrier) .arrw op5sense), ((withObj aBarrier).obj (op1
     (withObj aBarrier) .arrw op5sense).index), (arrivedRec (withObj aBarrier) aBarrier), rfl, (by decide +kernel),
     (by decide +kernel), (by decide +kernel),
     (by unfold State.reaches State.passes State.takesNow ShimOp.goesOn; decide +kernel), (by decide +kernel),
     (by decide +kernel), (by decide +kernel), (by decide +kernel), (by decide +kernel),
     (by unfold State.hasRoom; decide +kernel)⟩,
   ⟨(withObj aBarrier), 0, 1, 0, op5zero, (op1 (withObj aBarrier) .wrel op5zero), ((withObj aBarrier).obj (op1
     (withObj aBarrier) .wrel op5zero).index), (arrivedRec (withObj aBarrier) aBarrier), rfl, (by decide +kernel),
     (by decide +kernel), (by decide +kernel),
     (by unfold State.reaches State.passes State.takesNow ShimOp.goesOn; decide +kernel), (by decide +kernel)⟩,
   ⟨(withObj aBarrier), 0, 1, 0, op5sense, (op1 (withObj aBarrier) .wrel op5sense), ((withObj aBarrier).obj (op1
     (withObj aBarrier) .wrel op5sense).index), (arrivedRec (withObj aBarrier) aBarrier), rfl, (by decide +kernel),
     (by decide +kernel), (by decide +kernel),
     (by unfold State.reaches State.passes State.takesNow ShimOp.goesOn; decide +kernel), (by decide +kernel),
     (by unfold State.hasRoom; decide +kernel)⟩⟩

/-- INIT of every object type. -/
theorem meets_InitOp :
    (∃ (s : State) (p : Nat) (lane : Nat) (ctx : BitVec 8) (op : OpFields) (a : HomeOp) (x : InitArgs) (base : ObjRec)
      (st : Status), x = { a := a.op.operand, b := a.op.opb } ∧ s.reaches p (s.presented lane ctx Opcode.init op)
      Opcode.init a ∧ base = ({ mode := x.mode, partition := BitVec.ofNat 4 (s.portPart p), wide := x.wide } :
      ObjRec).wrote (s.laneOrig p lane) s.time ∧ (s.initRefused a.index x = some st ∨ s.initRefused a.index x = none ∧
      s.initBlocked a.index a.partition x = some st)) ∧
    (∃ (s : State) (p : Nat) (lane : Nat) (ctx : BitVec 8) (op : OpFields) (a : HomeOp) (x : InitArgs) (base :
      ObjRec), x = { a := a.op.operand, b := a.op.opb } ∧ s.reaches p (s.presented lane ctx Opcode.init op)
      Opcode.init a ∧ base = ({ mode := x.mode, partition := BitVec.ofNat 4 (s.portPart p), wide := x.wide } :
      ObjRec).wrote (s.laneOrig p lane) s.time ∧ s.initRefused a.index x = none ∧ s.initBlocked a.index a.partition x
      = none) :=
  ⟨⟨hub0, 0, 1, 0, initBad, (op1 hub0 .init initBad), ⟨(op1 hub0 .init initBad).op.operand, (op1 hub0 .init
     initBad).op.opb⟩, (initRec initBad), .badHandle, rfl,
     (by unfold State.reaches State.passes State.takesNow ShimOp.goesOn; decide +kernel), (by decide +kernel),
     (by decide +kernel)⟩,
   ⟨hub0, 0, 1, 0, initOp, (op1 hub0 .init initOp), ⟨(op1 hub0 .init initOp).op.operand, (op1 hub0 .init
     initOp).op.opb⟩, (initRec initOp), rfl,
     (by unfold State.reaches State.passes State.takesNow ShimOp.goesOn; decide +kernel), (by decide +kernel),
     (by decide +kernel), (by decide +kernel)⟩⟩

/-- PARK, UNPARK, HOLD, RESUME and FENCE. -/
theorem meets_ServiceOps :
    (∃ (s : State) (p : Nat) (lane : Nat) (ctx : BitVec 8) (op : OpFields) (e : ParkEntry), e = parkOperand op.operand
      ∧ (s.port p).laneClear lane op ∧ s.takesNow p (s.presented lane ctx Opcode.park op) ∧ (s.presented lane ctx
      Opcode.park op).goesOn Opcode.park ∧ s.portGate p (opCode Opcode.park) = none) ∧
    (∃ (s : State) (p : Nat) (lane : Nat) (ctx : BitVec 8) (op : OpFields) (e : ParkEntry), e = parkOperand op.operand
      ∧ (s.port p).laneClear lane op ∧ s.takesNow p (s.presented lane ctx Opcode.unpark op) ∧ (s.presented lane ctx
      Opcode.unpark op).goesOn Opcode.unpark ∧ s.portGate p (opCode Opcode.unpark) = none) ∧
    (∃ (s : State) (p : Nat) (lane : Nat) (ctx : BitVec 8) (op : OpFields), (s.port p).laneClear lane op ∧ s.takesNow
      p (s.presented lane ctx Opcode.hold op) ∧ (s.presented lane ctx Opcode.hold op).goesOn Opcode.hold ∧ s.portGate
      p (opCode Opcode.hold) = none ∧ op.operand.getLsbD 0 = false) ∧
    (∃ (s : State) (p : Nat) (lane : Nat) (ctx : BitVec 8) (op : OpFields), (s.port p).laneClear lane op ∧ s.takesNow
      p (s.presented lane ctx Opcode.resume op) ∧ (s.presented lane ctx Opcode.resume op).goesOn Opcode.resume ∧
      s.portGate p (opCode Opcode.resume) = none ∧ op.operand.getLsbD 0 = false ∧ (∀ (j : Nat), (s.port j).holdStore =
      [])) ∧
    (∃ (s : State) (p : Nat) (lane : Nat) (ctx : BitVec 8) (op : OpFields), (s.port p).laneClear lane op ∧ s.takesNow
      p (s.presented lane ctx Opcode.fence op) ∧ (s.presented lane ctx Opcode.fence op).goesOn Opcode.fence ∧
      s.portGate p (opCode Opcode.fence) = none) :=
  ⟨⟨hub0, 0, 0, 0, svcOp, (parkOperand svcOp.operand), rfl, (by unfold Port.laneClear; decide +kernel),
     (by unfold State.takesNow; decide +kernel), (by unfold ShimOp.goesOn; decide +kernel), (by decide +kernel)⟩,
   ⟨hub0, 0, 0, 0, svcOp, (parkOperand svcOp.operand), rfl, (by unfold Port.laneClear; decide +kernel),
     (by unfold State.takesNow; decide +kernel), (by unfold ShimOp.goesOn; decide +kernel), (by decide +kernel)⟩,
   ⟨hub0, 0, 0, 0, svcOp, (by unfold Port.laneClear; decide +kernel), (by unfold State.takesNow; decide +kernel),
     (by unfold ShimOp.goesOn; decide +kernel), (by decide +kernel), (by decide +kernel)⟩,
   ⟨hub0, 0, 0, 0, svcOp, (by unfold Port.laneClear; decide +kernel), (by unfold State.takesNow; decide +kernel),
     (by unfold ShimOp.goesOn; decide +kernel), (by decide +kernel), (by decide +kernel), (fun _ => rfl)⟩,
   ⟨hub0, 0, 0, 0, svcOp, (by unfold Port.laneClear; decide +kernel), (by unfold State.takesNow; decide +kernel),
     (by unfold ShimOp.goesOn; decide +kernel), (by decide +kernel)⟩⟩

/-- An unlisted opcode is BAD_HANDLE. -/
theorem meets_UnlistedOpcodes :
    (∃ (s : State) (p : Nat) (lane : Nat) (ctx : BitVec 8) (code : BitVec 6) (op : OpFields), opcodeOf code = none ∧
      s.takesNow p (s.laneOp lane ctx code op) ∧ (s.port p).laneClear lane op ∧ (s.port p).parked = [] ∧ (∀ (q : Nat),
      q < 16 → (s.part q).hold.held = false)) :=
⟨hub0, 0, 1, 0, 0, op5, (by decide +kernel), (by unfold State.takesNow; decide +kernel),
     (by unfold Port.laneClear; decide +kernel), (by decide +kernel), (by decide +kernel)⟩

/-- Delivery and reading of responses. -/
theorem meets_Responses :
    (∃ (s : State) (p : Nat) (lane : Nat), s.live = true ∧ s.portBuilt p = true ∧ List.find? (fun q => decide (q.lane
      = lane)) (s.port p).lanes = none) ∧
    (∃ (s : State) (p : Nat) (lane : Nat) (r : Rsp), s.live = true ∧ s.portBuilt p = true ∧ List.find? (fun q =>
      decide (q.lane = lane)) (s.port p).lanes = some r ∧ (r.value.isSome = true ∧ r.beat2 = false)) ∧
    (∃ (s : State) (p : Nat) (lane : Nat) (r : Rsp), s.live = true ∧ s.portBuilt p = true ∧ List.find? (fun q =>
      decide (q.lane = lane)) (s.port p).lanes = some r ∧ (r.value = none ∨ r.beat2 = true) ∧ (s.port p).quiet) ∧
    (∃ (s : State) (p : Nat) (r : Ret) (e : Pend), s.live = true ∧ s.portBuilt p = true ∧ List.find? (fun q => decide
      (q.target = RspTarget.port p)) s.rets = some r ∧ (s.port p).quiet ∧ List.find? (fun q => decide (q.entry =
      (getFld r.retref 4 6).toNat) && !q.arrived) (s.port p).pend = some e ∧ (s.port p).generation = getFld r.retref 0
      4 ∧ e.lock = false) ∧
    (∃ (s : State) (p : Nat) (r : Ret), s.live = true ∧ s.portBuilt p = true ∧ List.find? (fun q => decide (q.target =
      RspTarget.port p)) s.rets = some r ∧ (s.port p).quiet ∧ (List.find? (fun q => decide (q.entry = (getFld r.retref
      4 6).toNat) && !q.arrived) (s.port p).pend = none ∨ (s.port p).generation ≠ getFld r.retref 0 4) ∧ s.portPart p
      < 16) ∧
    (∃ (s : State) (r : Ret), s.live = true ∧ List.find? (fun q => decide (q.target = RspTarget.aperture)) s.rets =
      some r ∧ (s.slot r.sel.toNat).quiet ∧ (s.slot r.sel.toNat).busy = true ∧ (s.slot r.sel.toNat).generation =
      getFld r.retref 0 4) :=
  ⟨⟨hub0, 0, 1, (by decide +kernel), (by decide +kernel), (by decide +kernel)⟩,
   ⟨readableValue, 0, 1, aValueRsp, (by decide +kernel), (by decide +kernel), (by decide +kernel),
     (by decide +kernel)⟩,
   ⟨readable, 0, 1, aRsp, (by decide +kernel), (by decide +kernel), (by decide +kernel), (by decide +kernel),
     (by unfold Port.quiet; decide +kernel)⟩,
   ⟨answerComing, 0, aRet, aPend, (by decide +kernel), (by decide +kernel), (by decide +kernel),
     (by unfold Port.quiet; decide +kernel), (by decide +kernel), (by decide +kernel), (by decide +kernel)⟩,
   ⟨oldAnswer, 0, aRet, (by decide +kernel), (by decide +kernel), (by decide +kernel),
     (by unfold Port.quiet; decide +kernel), (by decide +kernel), (by decide +kernel)⟩,
   ⟨slotAnswer, aSlotRet, (by decide +kernel), (by decide +kernel), (by unfold Slot.quiet; decide +kernel),
     (by decide +kernel), (by decide +kernel)⟩⟩

/-- SET on a near EVENT, with and without a release drain. -/
theorem meets_NearSets :
    (∃ (s : State) (p : Nat) (n : Nat) (h : ShimOp), h.opcode = opCode Opcode.set ∧ h.check = none ∧ h.op.flags.near =
      true ∧ n = (getFld h.op.handle 0 6).toNat ∧ s.portBuilt p = true ∧ s.live = true ∧ s.portGate p (opCode
      Opcode.set) = none ∧ (s.port p).nearFlips = [] ∧ s.latched (s.portPart p) = false ∧ (s.port p).nearFault.getLsbD
      n = false ∧ (s.near p n).otype = ObjType.event ∧ (s.port p).waitsOn n = [] ∧ (s.port p).laneClear h.lane h.op ∧
      (s.port p).parked = [] ∧ (∀ (q : Nat), q < 16 → (s.part q).hold.held = false) ∧ h.op.flags.rel = false ∧ h =
      s.presented h.lane h.context Opcode.set h.op ∧ s.takesNow p h) ∧
    (∃ (s : State) (p : Nat) (n : Nat) (h : ShimOp), h.opcode = opCode Opcode.set ∧ h.check = none ∧ h.op.flags.near =
      true ∧ n = (getFld h.op.handle 0 6).toNat ∧ s.portBuilt p = true ∧ s.live = true ∧ s.portGate p (opCode
      Opcode.set) = none ∧ (s.port p).nearFlips = [] ∧ s.latched (s.portPart p) = false ∧ (s.port p).nearFault.getLsbD
      n = false ∧ (s.near p n).otype = ObjType.event ∧ (s.port p).waitsOn n = [] ∧ (s.port p).laneClear h.lane h.op ∧
      (s.port p).parked = [] ∧ (∀ (q : Nat), q < 16 → (s.part q).hold.held = false) ∧ (s.port p).drains = [h] ∧
      (s.port p).quiet) :=
  ⟨⟨nearEvent, 0, 5, aNearSet, (by decide +kernel), (by decide +kernel), (by decide +kernel), (by decide +kernel),
     (by decide +kernel), (by decide +kernel), (by decide +kernel), (by decide +kernel), (by decide +kernel),
     (by decide +kernel), (by decide +kernel), (by decide +kernel), (by unfold Port.laneClear; decide +kernel),
     (by decide +kernel), (by decide +kernel), (by decide +kernel), (by decide +kernel),
     (by unfold State.takesNow; decide +kernel)⟩,
   ⟨nearDrain, 0, 5, aNearSet, (by decide +kernel), (by decide +kernel), (by decide +kernel), (by decide +kernel),
     (by decide +kernel), (by decide +kernel), (by decide +kernel), (by decide +kernel), (by decide +kernel),
     (by decide +kernel), (by decide +kernel), (by decide +kernel), (by unfold Port.laneClear; decide +kernel),
     (by decide +kernel), (by decide +kernel), (by decide +kernel), (by unfold Port.quiet; decide +kernel)⟩⟩

/-- Staging invalidates and the ticket queue of a shim. -/
theorem meets_InvalidatesAndTickets :
    (∃ (s : State) (p : Nat) (r : Rsp), s.live = true ∧ s.portBuilt p = true ∧ (s.port p).inval = [(r, true)] ∧
      (s.port p).parked = [] ∧ s.portHeld p = false ∧ (s.port p).quiet) ∧
    (∃ (s : State) (p : Nat), s.live = true ∧ s.portBuilt p = true ∧ (s.port p).stgInval = false ∧ s.cfg 11008 6 + 1 <
      2 ^ 32) ∧
    (∃ (s : State) (p : Nat) (k : QTicket) (ks : List QTicket), s.live = true ∧ s.portBuilt p = true ∧ (s.port
      p).tickets = k :: ks ∧ s.portPart p < 16 ∧ s.buffered = []) ∧
    (∃ (s : State) (p : Nat) (k : QTicket) (ks : List QTicket) (b : Ticket) (w : Bool), s.live = true ∧ s.portBuilt p
      = true ∧ (s.port p).tickets = k :: ks ∧ s.portPart p < 16 ∧ s.buffered = [b] ∧ b.target = TicketTarget.shim p w
      ∧ ks.length < 16) :=
  ⟨⟨invalidating, 0, anAcqRsp, (by decide +kernel), (by decide +kernel), (by decide +kernel), (by decide +kernel),
     (by decide +kernel), (by unfold Port.quiet; decide +kernel)⟩,
   ⟨hub0, 0, (by decide +kernel), (by decide +kernel), (by decide +kernel), (by decide +kernel)⟩,
   ⟨oneTicket, 0, aTicket, [], (by decide +kernel), (by decide +kernel), (by decide +kernel), (by decide +kernel),
     (by decide +kernel)⟩,
   ⟨fullQueue, 0, aTicket, (List.replicate 15 aTicket), aBuffered, true, (by decide +kernel), (by decide +kernel),
     (by decide +kernel), (by decide +kernel), (by decide +kernel), (by decide +kernel), (by decide +kernel)⟩⟩

/-- Token buckets and waits on the surroundings. -/
theorem meets_BucketsAndLongWaits :
    (∃ (s : State) (p : Nat) (e : Nat), s.live = true ∧ s.portBuilt p = true ∧ e < s.build.engines ∧ (s.port p).quiet) ∧
    (∃ (s : State) (g : Nat), s.live = true ∧ g < 1024 ∧ (s.slot g).quiet) ∧
    (∃ (s : State) (p : Nat) (d : ShimOp) (ds : List ShimOp), s.live = true ∧ s.portBuilt p = true ∧ s.cfg 24624 4 = 0
      ∧ s.cfg 11008 5 + 1 < 2 ^ 32 ∧ (s.port p).drains = d :: ds ∧ (s.port p).drainNoted = false ∧ s.cfg 11008 4 <
      elapsed d.since s.clock) ∧
    (∃ (s : State) (p : Nat), s.live = true ∧ s.portBuilt p = true ∧ s.cfg 24624 4 = 0 ∧ s.cfg 11008 5 + 1 < 2 ^ 32 ∧
      (s.port p).stgInval = true ∧ (s.port p).invalNoted = false ∧ s.cfg 11008 4 < elapsed (s.port p).invalSince
      s.clock) ∧
    (∃ (s : State) (p : Nat), s.live = true ∧ s.portBuilt p = true ∧ s.cfg 24624 4 = 0 ∧ s.cfg 11008 5 + 1 < 2 ^ 32 ∧
      ((s.port p).drains = [] ∨ (s.port p).drainNoted = true)) :=
  ⟨⟨hub0, 0, 7, (by decide +kernel), (by decide +kernel), (by decide +kernel), (by unfold Port.quiet; decide +kernel)⟩,
   ⟨hub0, 1023, (by decide +kernel), (by decide +kernel), (by unfold Slot.quiet; decide +kernel)⟩,
   ⟨longDrain, 0, anOp, [], (by decide +kernel), (by decide +kernel), (by decide +kernel), (by decide +kernel),
     (by decide +kernel), (by decide +kernel), (by decide +kernel)⟩,
   ⟨(quietFolio (late invalidating)), 0, (by decide +kernel), (by decide +kernel), (by decide +kernel),
     (by decide +kernel), (by decide +kernel), (by decide +kernel), (by decide +kernel)⟩,
   ⟨(quietFolio hub0), 0, (by decide +kernel), (by decide +kernel), (by decide +kernel), (by decide +kernel),
     (by decide +kernel)⟩⟩

/-- A per-core reset and its release. -/
theorem meets_CoreResets :
    (∃ (s : State) (p : Nat), s.live = true ∧ s.portBuilt p = true ∧ (s.port p).rstLow = true) ∧
    (∃ (s : State) (p : Nat), s.live = true ∧ s.portBuilt p = true ∧ (s.port p).rstLow = false ∧ (s.port p).heldLocks
      = [] ∧ (s.port p).pend = []) ∧
    (∃ (s : State) (p : Nat), s.live = true ∧ s.portBuilt p = true ∧ (s.port p).rstLow = false) ∧
    (∃ (s : State) (p : Nat), s.live = true ∧ s.portBuilt p = true ∧ (s.port p).rstLow = true ∧ (s.port p).quiet) :=
  ⟨⟨inCoreReset, 0, (by decide +kernel), (by decide +kernel), (by decide +kernel)⟩,
   ⟨hub0, 0, (by decide +kernel), (by decide +kernel), (by decide +kernel), (by decide +kernel), (by decide +kernel)⟩,
   ⟨readable, 0, (by decide +kernel), (by decide +kernel), (by decide +kernel)⟩,
   ⟨inCoreReset, 0, (by decide +kernel), (by decide +kernel), (by decide +kernel),
     (by unfold Port.quiet; decide +kernel)⟩⟩

/-- Near parity, registered barriers at a reset, and level-1 deadlines. -/
theorem meets_ChecksInTurn :
    (∃ (s : State) (p : Nat), s.live = true ∧ s.portBuilt p = true ∧ (s.port p).nearFlips = []) ∧
    (∃ (s : State) (p : Nat) (i : Nat), s.live = true ∧ s.portBuilt p = true ∧ i < 131072 ∧ s.flips = [] ∧ (s.port
      p).checks.contains i = false) ∧
    (∃ (s : State) (p : Nat) (i : Nat), s.live = true ∧ s.portBuilt p = true ∧ i < 131072 ∧ s.flips = [] ∧ (s.port
      p).checks.contains i = true ∧ (s.obj i).otype = ObjType.barrier ∧ (s.obj i).isRegistered = true ∧ (s.obj
      i).faulted = false ∧ (s.obj i).broken = false ∧ s.isBody i = false ∧ (∀ (e n : Nat), e < 8 → (s.obj i).slotOf p
      e = some n → (s.obj i).body.getLsbD n = (s.obj i).sense)) ∧
    (∃ (s : State) (p : Nat) (i : Nat), s.live = true ∧ s.portBuilt p = true ∧ i < 131072 ∧ s.flips = [] ∧ (s.port
      p).checks.contains i = true ∧ (s.obj i).otype = ObjType.barrier ∧ (s.obj i).isRegistered = true ∧ (s.obj
      i).faulted = false ∧ (s.obj i).broken = false ∧ s.isBody i = false ∧ (∃ e n, e < 8 ∧ (s.obj i).slotOf p e = some
      n ∧ (s.obj i).body.getLsbD n ≠ (s.obj i).sense) ∧ s.queue i = [] ∧ (s.obj i).hasParent = false) ∧
    (∃ (s : State) (p : Nat) (n : Nat) (e : Pend), s.live = true ∧ s.portBuilt p = true ∧ s.walks = true ∧ (s.port
      p).quiet ∧ List.find? (fun q => decide (q.entry = n) && !q.arrived && s.farExpired q) (s.port p).pend = some e ∧
      (s.port p).laneClear e.lane e.op ∧ (s.port p).parked = [] ∧ (∀ (q : Nat), q < 16 → (s.part q).hold.held = false)
      ∧ p ≠ 128) :=
  ⟨⟨hub0, 0, (by decide +kernel), (by decide +kernel), (by decide +kernel)⟩,
   ⟨hub0, 0, 131071, (by decide +kernel), (by decide +kernel), (by decide +kernel), (by decide +kernel),
     (by decide +kernel)⟩,
   ⟨(checked aRegBarrier), 0, 5, (by decide +kernel), (by decide +kernel), (by decide +kernel), (by decide +kernel),
     (by decide +kernel), (by decide +kernel), (by decide +kernel), (by decide +kernel), (by decide +kernel),
     (by decide +kernel), (fun _ n _ _ => (BitVec.getLsbD_zero : (0#768).getLsbD n = false))⟩,
   ⟨(checked aRegBarrier1), 0, 5, (by decide +kernel), (by decide +kernel), (by decide +kernel), (by decide +kernel),
     (by decide +kernel), (by decide +kernel), (by decide +kernel), (by decide +kernel), (by decide +kernel),
     (by decide +kernel), ⟨0, 0, by decide +kernel⟩, (by decide +kernel), (by decide +kernel)⟩,
   ⟨pastDeadline, 0, 3, aPastPend, (by decide +kernel), (by decide +kernel), (by decide +kernel),
     (by unfold Port.quiet; decide +kernel), (by decide +kernel), (by unfold Port.laneClear; decide +kernel),
     (by decide +kernel), (by decide +kernel), (by decide +kernel)⟩⟩

/-- Expiry, the aged walk and the scrub. -/
theorem meets_WalkerEvents :
    (∃ (s : State) (n : Nat) (w : Waiter), s.walks = true ∧ n < 131072 ∧ List.find? (fun q => decide (q.num = n))
      s.waiters = some w ∧ (w.dlValid = false ∨ s.passed w.deadline = false)) ∧
    (∃ (s : State) (n : Nat) (w : Waiter), s.walks = true ∧ n < 131072 ∧ List.find? (fun q => decide (q.num = n))
      s.waiters = some w ∧ w.dlValid = true ∧ s.passed w.deadline = true ∧ w.kind = WaiterKind.queued ∧ s.queue
      w.object = [w] ∧ w.source = srcPort ∧ origHub w.originator = s.hub ∧ w.flags.noresp = false) ∧
    (∃ (s : State), s.walks = true) ∧
    (∃ (s : State) (w : StoreWord), s.walks = true ∧ wordBuilt w = true ∧ w ≠ StoreWord.config 24575 ∧ s.flips = []) ∧
    (∃ (s : State) (w : StoreWord) (n : Nat), s.walks = true ∧ wordBuilt w = true ∧ w ≠ StoreWord.config 24575 ∧
      s.flips = [(w, n)] ∧ (n = 1 ∨ n = 2) ∧ s.cfg 28688 (correctedSub w) + 1 < 2 ^ 32) :=
  ⟨⟨(oneWaiter aWaiter), 9, aWaiter, (by decide +kernel), (by decide +kernel), (by decide +kernel),
     (by decide +kernel)⟩,
   ⟨(late (oneWaiter aPastWaiter)), 9, aPastWaiter, (by decide +kernel), (by decide +kernel), (by decide +kernel),
     (by decide +kernel), (by decide +kernel), (by decide +kernel), (by decide +kernel), (by decide +kernel),
     (by decide +kernel), (by decide +kernel)⟩,
   ⟨hub0, (by decide +kernel)⟩,
   ⟨hub0, (.object 131071), (by decide +kernel), (by decide +kernel), (by decide +kernel), (by decide +kernel)⟩,
   ⟨twoFlips, (.waiter 7), 2, (by decide +kernel), (by decide +kernel), (by decide +kernel), (by decide +kernel),
     (by decide +kernel), (by decide +kernel)⟩⟩

/-- Recall delay, idle return and lost routes of loans. -/
theorem meets_LoanTimes :
    (∃ (s : State) (i : Nat) (w : Waiter) (e : Lender), s.live = true ∧ i < 131072 ∧ List.find? Waiter.takes (s.queue
      i) = some w ∧ (s.obj i).loanable = true ∧ (s.obj i).faulted = false ∧ s.cfg 8960 3 (s.obj i).partition.toNat ≤
      elapsed w.since s.clock ∧ (s.obj i).amount < Int.ofNat w.operand.toNat ∧ (s.obj i).word1 ≠ 0 ∧ w.kind ≠
      WaiterKind.loanReq ∧ List.filter (fun e => decide (e.token = i)) s.lenders = [e] ∧ e.state = LoanState.opened) ∧
    (∃ (s : State) (n : Nat) (e : Ledger), s.live = true ∧ n < 4096 ∧ List.find? (fun x => decide (x.num = n))
      s.ledgers = some e ∧ s.ledgerQueue n = [] ∧ e.req = false ∧ s.cfg 8960 4 e.partition.toNat ≠ 0 ∧ s.cfg 8960 4
      e.partition.toNat ≤ elapsed e.idleSince s.clock) ∧
    (∃ (s : State) (n : Nat) (e : Ledger), s.live = true ∧ n < 4096 ∧ List.find? (fun x => decide (x.num = n))
      s.ledgers = some e ∧ s.ledgerQueue n = [] ∧ (e.req = true ∨ s.cfg 8960 4 e.partition.toNat = 0 ∨ elapsed
      e.idleSince s.clock < s.cfg 8960 4 e.partition.toNat)) ∧
    (∃ (s : State) (h : HubId) (e : Lender), s.live = true ∧ (∀ (p : Nat), (s.part p).reset.step ≠
      ResetStep.recalling) ∧ s.lenders = [e] ∧ s.ledgers = [] ∧ e.borrower = h ∧ e.state ≠ LoanState.lost ∧ s.latched
      (s.partOfIndex e.token) = true ∧ s.lostFor h (s.cfg 8960 5 (s.partOfIndex e.token)) = true) ∧
    (∃ (s : State) (h : HubId) (e : Ledger), s.live = true ∧ (∀ (p : Nat), (s.part p).reset.step ≠
      ResetStep.recalling) ∧ s.ledgers = [e] ∧ s.lenders = [] ∧ s.ledgerQueue e.num = [] ∧ handleHub e.token = h ∧
      s.latched e.partition.toNat = true ∧ s.lostFor h (s.cfg 8960 5 e.partition.toNat) = true) :=
  ⟨⟨lent, 5, aWaiter, aLender, (by decide +kernel), (by decide +kernel), (by decide +kernel), (by decide +kernel),
     (by decide +kernel), (by decide +kernel), (by decide +kernel), (by decide +kernel), (by decide +kernel),
     (by decide +kernel), (by decide +kernel)⟩,
   ⟨(late (borrowed aLedger)), 0, aLedger, (by decide +kernel), (by decide +kernel), (by decide +kernel),
     (by decide +kernel), (by decide +kernel), (by decide +kernel), (by decide +kernel)⟩,
   ⟨(borrowed aBusyLedger), 0, aBusyLedger, (by decide +kernel), (by decide +kernel), (by decide +kernel),
     (by decide +kernel), (by decide +kernel)⟩,
   ⟨lentLost, 0x11, aLender, (by decide +kernel), part0_step (x := { fault := true }) rfl rfl, (by decide +kernel),
     (by decide +kernel), (by decide +kernel), (by decide +kernel), (by decide +kernel), (by decide +kernel)⟩,
   ⟨(late (latchedHub (borrowed aLedger))), 0x11, aLedger, (by decide +kernel),
     part0_step (x := { fault := true }) rfl rfl, (by decide +kernel), (by decide +kernel), (by decide +kernel),
     (by decide +kernel), (by decide +kernel), (by decide +kernel)⟩⟩

/-- Lost routes break barriers and free locks. -/
theorem meets_LostRoutes :
    (∃ (s : State) (i : Nat), s.live = true ∧ i < 131072 ∧ (s.obj i).otype = ObjType.barrier ∧ s.awaitsGrant i = true
      ∧ (s.obj i).broken = false ∧ (s.obj i).faulted = false ∧ s.lostFor (handleHub (s.obj i).parent) (s.cfg 8704 1
      (s.obj i).partition.toNat) = true) ∧
    (∃ (s : State) (i : Nat) (w : WaitMsg), s.live = true ∧ i < 131072 ∧ s.undelivered i = some w ∧ (s.obj i).broken =
      false) ∧
    (∃ (s : State) (i : Nat) (r : ObjRec) (h : HubId), s.live = true ∧ s.objs = [(i, r)] ∧ r.otype = ObjType.lock ∧
      r.held = true ∧ origHub r.holder = h ∧ r.inhPrio = 0 ∧ s.queue i = [] ∧ s.latched r.partition.toNat = true ∧
      s.lostFor h (s.cfg 9472 2 r.partition.toNat) = true ∧ (∀ (q : Nat), (s.port q).pend = [] ∧ (s.port q).heldLocks
      = []) ∧ (∀ (g : Nat), (s.slot g).sent = none)) :=
  ⟨⟨(late (withObj aChild)), 5, (by decide +kernel), (by decide +kernel), (by decide +kernel), (by decide +kernel),
     (by decide +kernel), (by decide +kernel), (by decide +kernel)⟩,
   ⟨strandedGrant, 5, aStranded, (by decide +kernel), (by decide +kernel), (by decide +kernel), (by decide +kernel)⟩,
   ⟨(late (latchedHub (withObj aFarLock))), 5, aFarLock, 0x11, (by decide +kernel), (by decide +kernel),
     (by decide +kernel), (by decide +kernel), (by decide +kernel), (by decide +kernel), (by decide +kernel),
     (by decide +kernel), (by decide +kernel), (fun _ => ⟨rfl, rfl⟩), (fun _ => rfl)⟩⟩

/-- Link hold expiry, route settling and stranded messages. -/
theorem meets_RouteTimes :
    (∃ (s : State) (c : Nat), s.live = true ∧ s.linkBuilt c = true ∧ (s.link c).state = LinkState.hold ∧ s.linkCfg c
      12 ≤ elapsed (s.link c).since s.clock ∧ (s.link c).replay = [] ∧ (s.link c).txq = [] ∧ (s.link c).partials = []
      ∧ (s.link c).catWaits = [] ∧ (s.link c).phyUp = false ∧ s.waitMsgs = [] ∧ s.changes = []) ∧
    (∃ (s : State) (c : Nat) (w : WaitMsg) (k : RouteKey) (t0 : Time), s.live = true ∧ s.linkBuilt c = true ∧
      s.settles = [(k, t0)] ∧ entryPrimary (s.route k) = c ∧ s.cfg 20736 4 ≤ elapsed t0 s.clock ∧ s.changes = [] ∧
      s.waitMsgs = [w] ∧ w.why = WaitWhy.settling ∧ w.key = k) ∧
    (∃ (s : State) (w : WaitMsg) (h : HubId) (b : CplBody), s.live = true ∧ s.waitMsgs = [w] ∧ w.msg.hdr.dst = h ∧
      w.why = WaitWhy.stranded ∧ w.about = none ∧ w.msg.body = Payload.cpl b ∧ s.cfg 20736 5 ≤ elapsed w.since s.clock
      ∧ s.latched w.msg.hdr.partition.toNat = true ∧ (∀ (q : Nat), (s.port q).pend = []) ∧ (∀ (g : Nat), (s.slot
      g).sent = none)) :=
  ⟨⟨heldLong, 8, (by decide +kernel), (by decide +kernel), (by decide +kernel), (by decide +kernel),
     (by decide +kernel), (by decide +kernel), (by decide +kernel), (by decide +kernel), (by decide +kernel),
     (by decide +kernel), (by decide +kernel)⟩,
   ⟨settledLong, 0, settlingMsg, 2, 0, (by decide +kernel), (by decide +kernel), (by decide +kernel),
     (by decide +kernel), (by decide +kernel), (by decide +kernel), (by decide +kernel), (by decide +kernel),
     (by decide +kernel)⟩,
   ⟨strandedLong, strandedCpl, 0x11,
     { response := respWord .ok 0 0, retref := 0, target := 0, source := srcHub, child := mkHandle 0x11 5,
       value := none }, (by decide +kernel), (by decide +kernel), (by decide +kernel), (by decide +kernel),
     (by decide +kernel), (by decide +kernel), (by decide +kernel), (by decide +kernel), (fun _ => rfl),
     (fun _ => rfl)⟩⟩

/-- Replays, retry limit, NEG resends and CTRL acknowledgements. -/
theorem meets_LinkTimers :
    (∃ (s : State) (c : Nat) (k : Kept) (ks : List Kept), s.live = true ∧ s.linkBuilt c = true ∧ (s.link c).replay = k
      :: ks ∧ (s.link c).state = LinkState.up ∧ replayLimit c ≤ elapsed k.sentAt s.clock ∧ (s.link c).owed = [0, 0, 0,
      0]) ∧
    (∃ (s : State) (c : Nat), s.live = true ∧ s.linkBuilt c = true ∧ (s.link c).state = LinkState.up ∧ s.linkCfg c 11
      ≤ (s.link c).replays ∧ s.waitMsgs = []) ∧
    (∃ (s : State) (c : Nat), s.live = true ∧ s.linkBuilt c = true ∧ (s.link c).negotiates = true ∧ nsToTime 100 ≤
      elapsed (s.link c).negSent s.clock) ∧
    (∃ (s : State) (c : Nat), s.live = true ∧ s.linkBuilt c = true ∧ (s.link c).negotiates = true ∧ elapsed (s.link
      c).negSent s.clock < nsToTime 100) ∧
    (∃ (s : State) (c : Nat), s.live = true ∧ s.linkBuilt c = true ∧ (s.link c).state = LinkState.negotiating ∧
      (s.link c).timeoutNoted = false ∧ nsToTime 100000 ≤ elapsed (s.link c).since s.clock) ∧
    (∃ (s : State) (c : Nat), s.live = true ∧ s.linkBuilt c = true ∧ (s.link c).state = LinkState.up ∧ ((s.link
      c).ackOwed = true ∨ (s.link c).creditBuf.isSome = true)) :=
  ⟨⟨unacked, 8, aKept, [], (by decide +kernel), (by decide +kernel), (by decide +kernel), (by decide +kernel),
     (by decide +kernel), (by decide +kernel)⟩,
   ⟨replayedOften, 8, (by decide +kernel), (by decide +kernel), (by decide +kernel), (by decide +kernel),
     (by decide +kernel)⟩,
   ⟨negLong, 8, (by decide +kernel), (by decide +kernel), (by decide +kernel), (by decide +kernel)⟩,
   ⟨negShort, 0, (by decide +kernel), (by decide +kernel), (by decide +kernel), (by decide +kernel)⟩,
   ⟨negLong, 8, (by decide +kernel), (by decide +kernel), (by decide +kernel), (by decide +kernel),
     (by decide +kernel)⟩,
   ⟨owesAck, 8, (by decide +kernel), (by decide +kernel), (by decide +kernel), (by decide +kernel)⟩⟩

/-- The rise and the fall of phy_up. -/
theorem meets_PhyEvents :
    (∃ (s : State) (c : Nat) (lanes : BitVec 3), s.live = true ∧ s.linkBuilt c = true ∧ s.waitMsgs = [] ∧ (s.link
      c).phyUp = false ∧ (s.link c).state = LinkState.training ∧ s.linkOut c = false) ∧
    (∃ (s : State) (c : Nat) (lanes : BitVec 3), s.live = true ∧ s.linkBuilt c = true ∧ s.waitMsgs = [] ∧ (s.link
      c).phyUp = true ∧ (s.link c).state = LinkState.up) ∧
    (∃ (s : State) (c : Nat) (lanes : BitVec 3), s.live = true ∧ s.linkBuilt c = true ∧ s.waitMsgs = [] ∧ (s.link
      c).phyUp = true ∧ (s.link c).state = LinkState.negotiating ∧ (s.link c).wasUp = false ∧ (s.link c).catWaits =
      []) ∧
    (∃ (s : State) (c : Nat) (lanes : BitVec 3), s.live = true ∧ s.linkBuilt c = true ∧ s.waitMsgs = [] ∧ (s.link
      c).phyUp = false) :=
  ⟨⟨hub0, 15, 7, (by decide +kernel), (by decide +kernel), (by decide +kernel), (by decide +kernel),
     (by decide +kernel), (by decide +kernel)⟩,
   ⟨linked, 8, 0, (by decide +kernel), (by decide +kernel), (by decide +kernel), (by decide +kernel),
     (by decide +kernel)⟩,
   ⟨negShort, 0, 4, (by decide +kernel), (by decide +kernel), (by decide +kernel), (by decide +kernel),
     (by decide +kernel), (by decide +kernel), (by decide +kernel)⟩,
   ⟨hub0, 0, 0, (by decide +kernel), (by decide +kernel), (by decide +kernel), (by decide +kernel)⟩⟩

/-- The exchange of fabric time. -/
theorem meets_FabricTime :
    (∃ (s : State) (c : Nat), s.live = true ∧ s.parentLink = some c ∧ s.cfg 20992 1 = 0 ∧ (s.sync.asked = true → s.cfg
      20992 4 ≤ elapsed s.sync.t1 s.time)) ∧
    (∃ (s : State), s.live = true ∧ s.timeState = TimeState.holdover ∧ s.sync.holdNoted = false ∧ s.cfg 20992 9 <
      elapsed s.sync.holdSince s.clock) ∧
    (∃ (s : State) (c : Nat) (x : BitVec 256) (f : Flit), s.hears c x f ∧ (s.link c).atRest ∧ f.ftype = 3 ∧ getFld
      f.payload 188 4 = 1) ∧
    (∃ (s : State) (c : Nat) (x : BitVec 256) (f : Flit) (theta : Int) (delta : Int) (used : Int) (samples : List (Int
      × Int)), s.hears c x f ∧ (s.link c).atRest ∧ f.ftype = 3 ∧ getFld f.payload 188 4 = 2 ∧ (s.heard c f).parentLink
      = some c ∧ (s.heard c f).cfg 20992 1 = 0 ∧ s.sync.asked = true ∧ getFld f.payload 180 8 = s.sync.xnum ∧ theta =
      ((getFld f.payload 64 64 - s.sync.t1 - (s.time - getFld f.payload 0 64) - BitVec.ofNat 64 ((s.heard c f).linkCfg
      c 9)).sshiftRight 1).toInt ∧ delta = (BitVec.sshiftRight (s.time - s.sync.t1 - (getFld f.payload 0 64 - getFld
      f.payload 64 64)) 1).toInt ∧ samples = List.drop (s.sync.samples.length + 1 - 8) (s.sync.samples ++ [(theta,
      delta)]) ∧ used = (Option.map Prod.fst (bestSample samples)).getD theta ∧ s.sync.state ≠ TimeState.unsynced ∧
      -256000 ≤ used ∧ used ≤ 256000) ∧
    (∃ (s : State) (c : Nat) (x : BitVec 256) (f : Flit) (theta : Int) (delta : Int) (used : Int) (samples : List (Int
      × Int)), s.hears c x f ∧ (s.link c).atRest ∧ f.ftype = 3 ∧ getFld f.payload 188 4 = 2 ∧ (s.heard c f).parentLink
      = some c ∧ (s.heard c f).cfg 20992 1 = 0 ∧ s.sync.asked = true ∧ getFld f.payload 180 8 = s.sync.xnum ∧ theta =
      ((getFld f.payload 64 64 - s.sync.t1 - (s.time - getFld f.payload 0 64) - BitVec.ofNat 64 ((s.heard c f).linkCfg
      c 9)).sshiftRight 1).toInt ∧ delta = (BitVec.sshiftRight (s.time - s.sync.t1 - (getFld f.payload 0 64 - getFld
      f.payload 64 64)) 1).toInt ∧ samples = List.drop (s.sync.samples.length + 1 - 8) (s.sync.samples ++ [(theta,
      delta)]) ∧ used = (Option.map Prod.fst (bestSample samples)).getD theta ∧ s.sync.state = TimeState.unsynced) :=
  ⟨⟨timed, 8, (by decide +kernel), (by decide +kernel), (by decide +kernel), (by decide +kernel)⟩,
   ⟨holdsOver, (by decide +kernel), (by decide +kernel), (by decide +kernel), (by decide +kernel)⟩,
   ⟨linked, 8, aTimeReq, (decodeFlit aTimeReq), (by unfold State.hears; decide +kernel),
     (by unfold Link.atRest; decide +kernel), (by decide +kernel), (by decide +kernel)⟩,
   ⟨(awaitsTime .locked), 8, aTimeRsp, (decodeFlit aTimeRsp), aTheta, 2000, aTheta, [(aTheta, 2000)],
     (by unfold State.hears; decide +kernel), (by unfold Link.atRest; decide +kernel), (by decide +kernel),
     (by decide +kernel), (by decide +kernel), (by decide +kernel), (by decide +kernel), (by decide +kernel),
     (by decide +kernel), (by decide +kernel), (by decide +kernel), (by decide +kernel), (by decide +kernel),
     (by decide +kernel), (by decide +kernel)⟩,
   ⟨(awaitsTime .unsynced), 8, aTimeRsp, (decodeFlit aTimeRsp), aTheta, 2000, aTheta, [(aTheta, 2000)],
     (by unfold State.hears; decide +kernel), (by unfold Link.atRest; decide +kernel), (by decide +kernel),
     (by decide +kernel), (by decide +kernel), (by decide +kernel), (by decide +kernel), (by decide +kernel),
     (by decide +kernel), (by decide +kernel), (by decide +kernel), (by decide +kernel), (by decide +kernel)⟩⟩

/-- Deadlines of resets, shelves, holds and Stocktake. -/
theorem meets_PartitionDeadlines :
    (∃ (s : State) (p : Nat), s.live = true ∧ p < 16 ∧ (s.part p).quiesceReq = true ∧ (s.part p).quiesceNoted = false
      ∧ s.cfg 12304 12 p ≤ elapsed (s.part p).quiesceSince s.clock) ∧
    (∃ (s : State) (p : Nat) (h : HubId) (t : Nat), s.live = true ∧ p < 16 ∧ s.routeLostFor h = some t ∧ s.cfg 20736 5
      ≤ t ∧ (s.part p).reset.peers.contains h = true) ∧
    (∃ (s : State) (p : Nat) (k : Nat), s.live = true ∧ p < 16 ∧ k < 2 ∧ (s.shelf p k).state = ShelfState.armed ∧
      (s.shelf p k).mode = false ∧ BitVec.toNat (s.shelf p k).armTime ≤ BitVec.toNat s.time ∧ (s.shelf p k).asker =
      none) ∧
    (∃ (s : State) (p : Nat) (k : Nat), s.live = true ∧ p < 16 ∧ k < 2 ∧ (s.shelf p k).peers ≠ [] ∧ s.cfg 20736 5 ≤
      elapsed (s.shelf p k).since s.clock) ∧
    (∃ (s : State) (p : Nat) (e : HoldXchg), s.live = true ∧ p < 16 ∧ (s.part p).hold.xs = [e] ∧ e.peers ≠ [] ∧ s.cfg
      20736 5 ≤ elapsed e.since s.clock ∧ e.waiter = HoldWaiter.nobody) ∧
    (∃ (s : State) (p : Nat) (e : HoldXchg) (q : Nat) (n : Nat) (r : Pend), s.live = true ∧ p < 16 ∧ (s.part
      p).hold.xs = [e] ∧ e.peers ≠ [] ∧ s.cfg 20736 5 ≤ elapsed e.since s.clock ∧ e.waiter = HoldWaiter.op q n ∧
      List.find? (fun r => decide (r.entry = n) && !r.arrived) (s.port q).pend = some r ∧ codeService r.opcode = true
      ∧ (s.port q).laneClear r.lane r.op) ∧
    (∃ (s : State) (p : Nat), s.live = true ∧ p < 16 ∧ s.stockRuns p = true ∧ s.cfg 24688 3 p ≤ elapsed (s.part
      p).stock.startedAt s.clock ∧ (s.part p).stock.scope = []) :=
  ⟨⟨quiesceLong, 15, (by decide +kernel), (by decide +kernel), (by decide +kernel), (by decide +kernel),
     (by decide +kernel)⟩,
   ⟨awaitsPeer, 0, 0x11, 0xFFFFFFFFFFFF, (by decide +kernel), (by decide +kernel), (by decide +kernel),
     (by decide +kernel), (by decide +kernel)⟩,
   ⟨shelfDue, 15, 1, (by decide +kernel), (by decide +kernel), (by decide +kernel), (by decide +kernel),
     (by decide +kernel), (by decide +kernel), (by decide +kernel)⟩,
   ⟨shelfWaits, 0, 0, (by decide +kernel), (by decide +kernel), (by decide +kernel), (by decide +kernel),
     (by decide +kernel)⟩,
   ⟨holdLong, 15, aHoldXchg, (by decide +kernel), (by decide +kernel), (by decide +kernel), (by decide +kernel),
     (by decide +kernel), (by decide +kernel)⟩,
   ⟨holdOpLong, 0, opHoldXchg, 0, 3, aHoldPend, (by decide +kernel), (by decide +kernel), (by decide +kernel),
     (by decide +kernel), (by decide +kernel), (by decide +kernel), (by decide +kernel), (by decide +kernel),
     (by unfold Port.laneClear; decide +kernel)⟩,
   ⟨roundDue, 0, (by decide +kernel), (by decide +kernel), (by decide +kernel), (by decide +kernel),
     (by decide +kernel)⟩⟩

/-- The limits of Deposit holds and of aperture stalls. -/
theorem meets_HoldsThatEnd :
    (∃ (s : State) (p : Nat) (k : Nat) (d : Deposit) (u : State), s.live = true ∧ p < 16 ∧ k < 8 ∧ d = (s.part
      p).deposit k ∧ d.waiting = true ∧ s.cfg 24672 11 p ≠ 0 ∧ s.cfg 24672 11 p ≤ elapsed d.since s.clock ∧
      d.timeouts.toNat + 1 < 2 ^ 32 ∧ s.cfg 24624 4 = 0 ∧ u = s.setPart p ((s.part p).setDeposit k
      { d with timeouts := d.timeouts + 1, waiting := false }) ∧ ((u.obj d.index).otype = ObjType.barrier ∧ (u.obj
      d.index).faulted = false ∧ (u.obj d.index).arrivals = (u.obj d.index).expected ∧ u.depositHolds d.index =
      false)) ∧
    (∃ (s : State) (p : Nat) (k : Nat) (d : Deposit) (u : State), s.live = true ∧ p < 16 ∧ k < 8 ∧ d = (s.part
      p).deposit k ∧ d.waiting = true ∧ s.cfg 24672 11 p ≠ 0 ∧ s.cfg 24672 11 p ≤ elapsed d.since s.clock ∧
      d.timeouts.toNat + 1 < 2 ^ 32 ∧ s.cfg 24624 4 = 0 ∧ u = s.setPart p ((s.part p).setDeposit k
      { d with timeouts := d.timeouts + 1, waiting := false }) ∧ ((u.obj d.index).otype ≠ ObjType.barrier ∨ (u.obj
      d.index).faulted = true ∨ (u.obj d.index).arrivals ≠ (u.obj d.index).expected ∨ u.depositHolds d.index = true)) ∧
    (∃ (s : State) (g : Nat) (h : SlotOp) (c : Opcode) (b : Bucket) (a : HomeOp) (u : State), s.live = true ∧ g < 1024
      ∧ (s.slot g).stalled = [h] ∧ h.opcode = opCode c ∧ c ≠ Opcode.fence ∧ checkOne (some c) h.op false true = none ∧
      opPosted (some c) h.op.flags = false ∧ h.op.flags.noresp = false ∧ (s.slot g).busy = false ∧ (s.slot g).fence =
      none ∧ b = s.refilled (s.slot g).bucket ∧ b.tokens = 0 ∧ s.cfg 9984 3 ≤ elapsed h.since s.clock ∧ (u =
      (((s.setSlot g
      ({ s.slot g with bucket := { b with longest := max b.longest (elapsed h.since s.clock) },
                       stalled := [] })).pcount 19 (s.slotPart g) (if h.op.flags.x2 = true then 32 else 16)).drive
      (Output.axiResp (some g) none false false)).modSlot g fun x => x.begin h s.time) ∧ u.gate (s.slotPart g)
      h.opcode = none ∧ u.absolute (u.slotHome g h 0) = some a) :=
  ⟨⟨(depositLate aFullBarrier), 15, 7, aHeldDeposit, (depositEnded aFullBarrier), (by decide +kernel),
     (by decide +kernel), (by decide +kernel), (by decide +kernel), (by decide +kernel), (by decide +kernel),
     (by decide +kernel), (by decide +kernel), (by decide +kernel), (by decide +kernel), (by decide +kernel)⟩,
   ⟨(depositLate anEvent), 15, 7, aHeldDeposit, (depositEnded anEvent), (by decide +kernel), (by decide +kernel),
     (by decide +kernel), (by decide +kernel), (by decide +kernel), (by decide +kernel), (by decide +kernel),
     (by decide +kernel), (by decide +kernel), (by decide +kernel), (by decide +kernel)⟩,
   ⟨slotStalled, 1023, aSlotSig, .sig, noTokens, ((stallEnded.absolute (stallEnded.slotHome 1023 aSlotSig 0)).getD
     (stallEnded.slotHome 1023 aSlotSig 0)), stallEnded, (by decide +kernel), (by decide +kernel),
     (by decide +kernel), (by decide +kernel), (by decide +kernel), (by decide +kernel), (by decide +kernel),
     (by decide +kernel), (by decide +kernel), (by decide +kernel), rfl, (by decide +kernel), (by decide +kernel),
     rfl, (by decide +kernel), (by decide +kernel)⟩⟩

/-- The restart of a stage and its retry. -/
theorem meets_StageRestarts :
    (∃ (s : State) (k : Nat) (port : Nat), s.live = true ∧ s.refLost = false ∧ s.stageThere k port = true ∧ k < 30 ∧ k
      ≠ 29) ∧
    (∃ (s : State) (k : Nat) (port : Nat), s.live = true ∧ s.refLost = false ∧ s.stageThere k port = true ∧ k < 30 ∧ k
      ≠ 29 ∧ s.fails k port < 2) ∧
    (∃ (s : State) (k : Nat) (port : Nat), s.live = true ∧ s.refLost = false ∧ s.stageThere k port = true ∧ k < 30 ∧ k
      ≠ 29 ∧ s.fails k port = 2 ∧ (k = 26 ∨ k = 27)) ∧
    (∃ (s : State) (k : Nat) (port : Nat), s.live = true ∧ s.refLost = false ∧ s.stageThere k port = true ∧ k < 30 ∧ k
      ≠ 29 ∧ s.stageIsOut k = true ∧ 3 ≤ s.fails k port) ∧
    (∃ (s : State) (k : Nat) (port : Nat), s.live = true ∧ s.refLost = false ∧ s.stageThere k port = true ∧ k < 30 ∧ k
      ≠ 29 ∧ s.stageIsOut k = true ∧ 3 ≤ s.fails k port) :=
  ⟨⟨hub0, 26, 0, (by decide +kernel), (by decide +kernel), (by decide +kernel), (by decide +kernel),
     (by decide +kernel)⟩,
   ⟨hub0, 28, 0, (by decide +kernel), (by decide +kernel), (by decide +kernel), (by decide +kernel),
     (by decide +kernel), (by decide +kernel)⟩,
   ⟨(hub0.setFails 27 0 2), 27, 0, (by decide +kernel), (by decide +kernel), (by decide +kernel), (by decide +kernel),
     (by decide +kernel), (by decide +kernel), (by decide +kernel)⟩,
   ⟨stageLost, 26, 0, (by decide +kernel), (by decide +kernel), (by decide +kernel), (by decide +kernel),
     (by decide +kernel), (by decide +kernel), (by decide +kernel)⟩,
   ⟨stageLost, 26, 0, (by decide +kernel), (by decide +kernel), (by decide +kernel), (by decide +kernel),
     (by decide +kernel), (by decide +kernel), (by decide +kernel)⟩⟩

/-- Event inputs in edge and level mode. -/
theorem meets_EventInputs :
    (∃ (s : State) (i : Nat) (k : Nat) (x : EvInput) (u : State) (r : ObjRec) (l : Bool), i < 16 ∧ s.live = true ∧
      s.refLost = false ∧ x = s.ev i ∧ r = s.obj k ∧ s.queue k = [] ∧ l ≠ x.level ∧ s.evCfg i 1 = 0) ∧
    (∃ (s : State) (i : Nat) (k : Nat) (x : EvInput) (u : State) (r : ObjRec) (l : Bool), i < 16 ∧ s.live = true ∧
      s.refLost = false ∧ x = s.ev i ∧ r = s.obj k ∧ s.queue k = [] ∧ l ≠ x.level ∧ s.evCfg i 1 ≠ 0 ∧ s.evCfg i 2 ≠ 1
      ∧ l = decide (s.evCfg i 3 ≠ 0) ∧ x.deferred = false ∧ s.evFree i = false) ∧
    (∃ (s : State) (i : Nat) (k : Nat) (x : EvInput) (u : State) (r : ObjRec) (l : Bool), i < 16 ∧ s.live = true ∧
      s.refLost = false ∧ x = s.ev i ∧ r = s.obj k ∧ s.queue k = [] ∧ l ≠ x.level ∧ s.evCfg i 1 ≠ 0 ∧ s.evCfg i 2 ≠ 1
      ∧ l = decide (s.evCfg i 3 ≠ 0) ∧ x.deferred = false ∧ s.evFree i = true ∧ u = s.setEv i
      { x with level := l, lastOp := some s.clock, deferred := false } ∧ u.inputHits i Opcode.sig k) ∧
    (∃ (s : State) (i : Nat) (k : Nat) (x : EvInput) (u : State) (r : ObjRec) (l : Bool), i < 16 ∧ s.live = true ∧
      s.refLost = false ∧ x = s.ev i ∧ r = s.obj k ∧ s.queue k = [] ∧ l ≠ x.level ∧ s.evCfg i 1 ≠ 0 ∧ s.evCfg i 2 = 1
      ∧ (s.evFree i = false ∨ x.changes ≠ 0)) ∧
    (∃ (s : State) (i : Nat) (k : Nat) (x : EvInput) (u : State) (r : ObjRec), i < 16 ∧ s.live = true ∧ s.refLost =
      false ∧ x = s.ev i ∧ r = s.obj k ∧ s.queue k = [] ∧ x.deferred = true ∧ s.evCfg i 1 ≠ 0 ∧ s.evFree i = true ∧ u
      = s.setEv i { x with lastOp := some s.clock, deferred := false } ∧ u.inputHits i Opcode.sig k) ∧
    (∃ (s : State) (i : Nat) (k : Nat) (x : EvInput) (u : State) (r : ObjRec), i < 16 ∧ s.live = true ∧ s.refLost =
      false ∧ x = s.ev i ∧ r = s.obj k ∧ s.queue k = [] ∧ x.changes = 1 ∧ s.evCfg i 1 ≠ 0 ∧ s.evFree i = true ∧
      s.evActive i ≠ x.applied ∧ u = s.setEv i
      { x with applied := s.evActive i, lastOp := some s.clock, changes := 0 } ∧ s.evActive i = true ∧ u.inputHits i
      Opcode.set k) ∧
    (∃ (s : State) (i : Nat) (k : Nat) (x : EvInput) (u : State) (r : ObjRec), i < 16 ∧ s.live = true ∧ s.refLost =
      false ∧ x = s.ev i ∧ r = s.obj k ∧ s.queue k = [] ∧ x.changes = 1 ∧ s.evCfg i 1 ≠ 0 ∧ s.evFree i = true ∧
      s.evActive i ≠ x.applied ∧ u = s.setEv i
      { x with applied := s.evActive i, lastOp := some s.clock, changes := 0 } ∧ s.evActive i = false ∧ u.inputHits i
      Opcode.clr k ∧ u.levelHolds k = false) :=
  ⟨⟨(withObj anEvent), 15, 5, {}, hub0, anEvent, true, (by decide +kernel), (by decide +kernel), (by decide +kernel),
     (by decide +kernel), (by decide +kernel), (by decide +kernel), (by decide +kernel), (by decide +kernel)⟩,
   ⟨((evHub 0 evBusy).setCfg 0x2600 7 0 1), 0, 5, evBusy, hub0, anEvent, true, (by decide +kernel),
     (by decide +kernel), (by decide +kernel), (by decide +kernel), (by decide +kernel), (by decide +kernel),
     (by decide +kernel), (by decide +kernel), (by decide +kernel), (by decide +kernel), (by decide +kernel),
     (by decide +kernel)⟩,
   ⟨(evHub 0 {}), 0, 5, {}, ((evHub 0 {}).setEv 0 { level := true, lastOp := some 0 }), anEvent, true,
     (by decide +kernel), (by decide +kernel), (by decide +kernel), (by decide +kernel), (by decide +kernel),
     (by decide +kernel), (by decide +kernel), (by decide +kernel), (by decide +kernel), (by decide +kernel),
     (by decide +kernel), (by decide +kernel), rfl,
     ⟨by decide +kernel, rfl, rfl, rfl, by decide +kernel, mkHandle 0 5, by decide +kernel, rfl, rfl, by decide +kernel⟩⟩,
   ⟨(evHub 1 evChanged), 0, 5, evChanged, hub0, anEvent, true, (by decide +kernel), (by decide +kernel),
     (by decide +kernel), (by decide +kernel), (by decide +kernel), (by decide +kernel), (by decide +kernel),
     (by decide +kernel), (by decide +kernel), Or.inr (by decide)⟩,
   ⟨(evHub 0 evDeferred), 0, 5, evDeferred, ((evHub 0 evDeferred).setEv 0 { lastOp := some 0 }), anEvent,
     (by decide +kernel), (by decide +kernel), (by decide +kernel), (by decide +kernel), (by decide +kernel),
     (by decide +kernel), (by decide +kernel), (by decide +kernel), (by decide +kernel), rfl,
     ⟨by decide +kernel, rfl, rfl, rfl, by decide +kernel, mkHandle 0 5, by decide +kernel, rfl, rfl, by decide +kernel⟩⟩,
   ⟨(evHub 1 evRisen), 0, 5, evRisen, ((evHub 1 evRisen).setEv 0
     { level := true, applied := true, lastOp := some 0 }), anEvent, (by decide +kernel), (by decide +kernel),
     (by decide +kernel), (by decide +kernel), (by decide +kernel), (by decide +kernel), (by decide +kernel),
     (by decide +kernel), (by decide +kernel), (by decide +kernel), rfl, (by decide +kernel),
     ⟨by decide +kernel, rfl, rfl, rfl, by decide +kernel, mkHandle 0 5, by decide +kernel, rfl, rfl, by decide +kernel⟩⟩,
   ⟨(evHub 1 evFallen), 0, 5, evFallen, ((evHub 1 evFallen).setEv 0 { applied := false, lastOp := some 0 }), anEvent,
     (by decide +kernel), (by decide +kernel), (by decide +kernel), (by decide +kernel), (by decide +kernel),
     (by decide +kernel), (by decide +kernel), (by decide +kernel), (by decide +kernel), (by decide +kernel), rfl,
     (by decide +kernel),
     ⟨by decide +kernel, rfl, rfl, rfl, by decide +kernel, mkHandle 0 5, by decide +kernel, rfl, rfl, by decide +kernel⟩,
     (by decide +kernel)⟩⟩

/-- Interrupt holdoff, Folio trigger time and MCTP reassembly. -/
theorem meets_LateEnds :
    (∃ (s : State) (r : Nat) (t : Time), s.live = true ∧ r < 17 ∧ (s.ring r).owed = true ∧ (s.ring r).lastPulse = some
      t ∧ s.ringCfg r 7 ≤ elapsed t s.clock ∧ s.refLost = false ∧ s.ringCfg r 6 ≠ 0) ∧
    (∃ (s : State), s.live = true ∧ s.folio.state = FolioState.armed ∧ s.cfg 24624 8 ≠ 0 ∧ s.cfg 24624 8 ≤
      BitVec.toNat s.time ∧ s.cfg 24624 1 ≠ 255 ∧ s.folio.post.length + 1 < s.folioPostCap) ∧
    (∃ (s : State) (e : BitVec 8) (g : BitVec 3) (n : Nat), s.live = true ∧ n = 1 + Config.incompletePackets s.free) :=
  ⟨⟨pulseOwed, 16, 0, (by decide +kernel), (by decide +kernel), (by decide +kernel), (by decide +kernel),
     (by decide +kernel), (by decide +kernel), (by decide +kernel)⟩,
   ⟨folioDue, (by decide +kernel), (by decide +kernel), (by decide +kernel), (by decide +kernel), (by decide +kernel),
     (by decide +kernel)⟩,
   ⟨hub0, 9, 0, (1 + Config.incompletePackets 0), (by decide +kernel), rfl⟩⟩

/-- HUB_RESET, STARTUP and STARTUP_COMPLETE. -/
theorem meets_ResetAndStart :
    (∃ (s : State) (supply : Bool), s.storesWf = true) ∧
    (∃ (s : State) (dev : BitVec 12) (die : BitVec 3) (sel : BitVec 3) (absent : BitVec 128), s.storesWf = true ∧
      s.phase = Phase.inReset ∧ s.refLost = false) ∧
    (∃ (s : State) (dev : BitVec 12) (die : BitVec 3) (sel : BitVec 3) (absent : BitVec 128), s.storesWf = true ∧
      (s.phase ≠ Phase.inReset ∨ s.refLost = true)) ∧
    (∃ (s : State), s.storesWf = true ∧ s.phase = Phase.starting ∧ s.refLost = false ∧ s.refSel.toNat ≤ 4 ∧ (∀ (c :
      Nat), (s.link c).phyUp = false) ∧ (∀ (p : Nat), (s.port p).issue = [])) ∧
    (∃ (s : State), s.storesWf = true ∧ (s.phase ≠ Phase.starting ∨ s.refLost = true ∨ 4 < s.refSel.toNat)) :=
  ⟨⟨linked, true, (by decide +kernel)⟩,
   ⟨State.reset, 4095, 7, 4, 0, (by decide +kernel), (by decide +kernel), (by decide +kernel)⟩,
   ⟨hub0, 1, 1, 0, 1, (by decide +kernel), (by decide +kernel)⟩,
   ⟨startingHub, (by decide +kernel), (by decide +kernel), (by decide +kernel), (by decide +kernel), (fun _ => rfl),
     (fun _ => rfl)⟩,
   ⟨badRef, (by decide +kernel), (by decide +kernel)⟩⟩

/-- The edges, the loss and the return of tb_refclk. -/
theorem meets_TheReferenceClock :
    (∃ (s : State), s.live = true ∧ s.refLost = false) ∧
    (∃ (s : State), s.live = false) ∧
    (∃ (s : State), s.live = true ∧ s.refLost = true) ∧
    (∃ (s : State) (r : Nat), s.pending = [] ∧ s.inbox = [] ∧ s.nextHeld = none ∧ s.running = true ∧ s.refLost = false
      ∧ s.sync.slew = 0 ∧ s.tick < 5 ∧ s.refSel.toNat = r ∧ r ≤ 4) ∧
    (∃ (s : State), s.pending = [] ∧ s.inbox = [] ∧ s.nextHeld = none ∧ (s.running = false ∨ s.refLost = true)) :=
  ⟨⟨hub0, (by decide +kernel), (by decide +kernel)⟩,
   ⟨State.reset, (by decide +kernel)⟩,
   ⟨noRef, (by decide +kernel), (by decide +kernel)⟩,
   ⟨startingHub, 4, (by decide +kernel), (by decide +kernel), (by decide +kernel), (by decide +kernel),
     (by decide +kernel), (by decide +kernel), (by decide +kernel), (by decide +kernel), (by decide +kernel)⟩,
   ⟨noRef, (by decide +kernel), (by decide +kernel), (by decide +kernel), (by decide +kernel)⟩⟩

/-- The quiesce handshake of resets and reslices. -/
theorem meets_QuiesceHandshake :
    (∃ (s : State) (p : Nat) (x : Part), p < 16 ∧ x = s.part p ∧ s.live = false) ∧
    (∃ (s : State) (p : Nat) (x : Part), p < 16 ∧ x = s.part p ∧ s.live = false) ∧
    (∃ (s : State) (p : Nat) (x : Part), p < 16 ∧ x = s.part p ∧ s.live = true ∧ x.quiesceAck = false ∧ x.quiesceReq =
      false ∧ s.cfg 11008 6 + 1 < 2 ^ 32) ∧
    (∃ (s : State) (p : Nat) (x : Part), p < 16 ∧ x = s.part p ∧ s.live = true ∧ x.quiesceAck = false ∧ x.quiesceReq =
      true ∧ x.quiesceSlice = false ∧ x.reset.step = ResetStep.quiescing ∧ s.reslice.step = ResliceStep.idle ∧
      x.reset.askers = []) ∧
    (∃ (s : State) (p : Nat) (x : Part), p < 16 ∧ x = s.part p ∧ s.live = true ∧ x.quiesceAck = false ∧ x.quiesceReq =
      true ∧ x.quiesceSlice = true ∧ s.reslice.step = ResliceStep.quiescing ∧ s.reslice.waiting.contains p = true ∧
      List.filter (fun q => decide (q ≠ p)) s.reslice.waiting ≠ []) ∧
    (∃ (s : State) (p : Nat) (x : Part), p < 16 ∧ x = s.part p ∧ s.live = true ∧ x.quiesceAck = true ∧ x.quiesceReq =
      false ∧ x.reset.step = ResetStep.ackLow) ∧
    (∃ (s : State) (p : Nat) (x : Part), p < 16 ∧ x = s.part p ∧ s.live = true ∧ x.quiesceAck = true ∧ x.reset.step ≠
      ResetStep.ackLow ∧ s.reslice.step = ResliceStep.idle) ∧
    (∃ (s : State) (p : Nat) (x : Part), p < 16 ∧ x = s.part p ∧ s.live = true ∧ s.reslice.step = ResliceStep.draining
      ∧ (∀ (q : Nat), q ∈ s.reslice.affected → s.drained q = true)) :=
  ⟨⟨State.reset, 15, {}, (by decide +kernel), (by decide +kernel), (by decide +kernel)⟩,
   ⟨State.reset, 0, {}, (by decide +kernel), (by decide +kernel), (by decide +kernel)⟩,
   ⟨hub0, 15, {}, (by decide +kernel), (by decide +kernel), (by decide +kernel), (by decide +kernel),
     (by decide +kernel), (by decide +kernel)⟩,
   ⟨(withPart 15 quiescing), 15, quiescing, (by decide +kernel), (by decide +kernel), (by decide +kernel),
     (by decide +kernel), (by decide +kernel), (by decide +kernel), (by decide +kernel), (by decide +kernel),
     (by decide +kernel)⟩,
   ⟨slicing, 0, sliceQuiescing, (by decide +kernel), (by decide +kernel), (by decide +kernel), (by decide +kernel),
     (by decide +kernel), (by decide +kernel), (by decide +kernel), (by decide +kernel), (by decide +kernel)⟩,
   ⟨(withPart 15 ackHigh), 15, ackHigh, (by decide +kernel), (by decide +kernel), (by decide +kernel),
     (by decide +kernel), (by decide +kernel), (by decide +kernel)⟩,
   ⟨(withPart 15 ackLate), 15, ackLate, (by decide +kernel), (by decide +kernel), (by decide +kernel),
     (by decide +kernel), (by decide +kernel), (by decide +kernel)⟩,
   ⟨drainedSlice, 0, {}, (by decide +kernel), (by decide +kernel), (by decide +kernel), (by decide +kernel),
     (by decide +kernel)⟩⟩

/-- Data, CTRL and IDLE flits that a link receives. -/
theorem meets_FlitsReceived :
    (∃ (s : State) (c : Nat) (x : BitVec 256) (f : Flit) (l : Link), s.hears c x f ∧ (s.link c).atRest ∧ l = (s.heard
      c f).link c ∧ f.ftype = 0) ∧
    (∃ (s : State) (c : Nat) (x : BitVec 256) (f : Flit) (l : Link), s.hears c x f ∧ (s.link c).atRest ∧ l = (s.heard
      c f).link c ∧ f.ftype = 1 ∧ f.payload.getLsbD 179 = false) ∧
    (∃ (s : State) (c : Nat) (x : BitVec 256) (f : Flit) (l : Link), s.hears c x f ∧ (s.link c).atRest ∧ l = (s.heard
      c f).link c ∧ 4 ≤ f.ftype.toNat ∧ f.fseq ≠ l.rxNext ∧ (l.rxNext - f.fseq).toNat ≤ 2048) ∧
    (∃ (s : State) (c : Nat) (x : BitVec 256) (f : Flit) (l : Link), s.hears c x f ∧ (s.link c).atRest ∧ l = (s.heard
      c f).link c ∧ 4 ≤ f.ftype.toNat ∧ 2048 < (l.rxNext - f.fseq).toNat ∧ l.nakSent = false) ∧
    (∃ (s : State) (c : Nat) (x : BitVec 256) (f : Flit) (l : Link) (b : Nat) (ps : List (BitVec 192)), s.hears c x f
      ∧ (s.link c).atRest ∧ l = (s.heard c f).link c ∧ 4 ≤ f.ftype.toNat ∧ f.fseq = l.rxNext ∧ b = f.ftype.toNat - 4 ∧
      (ps = (if f.head = true then [] else l.partialOf b) ++ [f.payload]) ∧ ps.length < headFlits ps) ∧
    (∃ (s : State) (c : Nat) (x : BitVec 256) (f : Flit) (l : Link) (b : Nat) (ps : List (BitVec 192)) (m : Msg),
      s.hears c x f ∧ (s.link c).atRest ∧ l = (s.heard c f).link c ∧ 4 ≤ f.ftype.toNat ∧ f.fseq = l.rxNext ∧ b =
      f.ftype.toNat - 4 ∧ (ps = (if f.head = true then [] else l.partialOf b) ++ [f.payload]) ∧ headFlits ps ≤
      ps.length ∧ wholeMsg ps = some m ∧ m.hdr.dst = s.hub) ∧
    (∃ (s : State) (c : Nat) (x : BitVec 256) (f : Flit) (l : Link) (y : BitVec 256), s.hears c x f ∧ (s.link
      c).atRest ∧ l = (s.heard c f).link c ∧ flitGood y = false ∧ 4 ≤ (getFld y 252 4).toNat ∧ (s.link c).nakSent =
      false) :=
  ⟨⟨linked, 8, (flitOf 0 true 0 0), (decodeFlit (flitOf 0 true 0 0)), ((linked.heard 8 (decodeFlit (flitOf 0 true 0
     0))).link 8), (by unfold State.hears; decide +kernel), (by unfold Link.atRest; decide +kernel), rfl,
     (by decide +kernel)⟩,
   ⟨linked, 8, (flitOf 1 true 0 (ctrlPayload 0 false 0)), (decodeFlit (flitOf 1 true 0 (ctrlPayload 0 false 0))),
     ((linked.heard 8 (decodeFlit (flitOf 1 true 0 (ctrlPayload 0 false 0)))).link 8),
     (by unfold State.hears; decide +kernel), (by unfold Link.atRest; decide +kernel), rfl, (by decide +kernel),
     (by decide +kernel)⟩,
   ⟨linked, 8, (flitOf 4 true 0xFFF 0), (decodeFlit (flitOf 4 true 0xFFF 0)), ((linked.heard 8 (decodeFlit (flitOf 4
     true 0xFFF 0))).link 8), (by unfold State.hears; decide +kernel), (by unfold Link.atRest; decide +kernel), rfl,
     (by decide +kernel), (by decide +kernel), (by decide +kernel)⟩,
   ⟨linked, 8, (flitOf 4 true 1 0), (decodeFlit (flitOf 4 true 1 0)), ((linked.heard 8 (decodeFlit (flitOf 4 true 1
     0))).link 8), (by unfold State.hears; decide +kernel), (by unfold Link.atRest; decide +kernel), rfl,
     (by decide +kernel), (by decide +kernel), (by decide +kernel)⟩,
   ⟨linked, 8, (flitOf 4 true 0 (flitPayload anOpMsg 0)), (decodeFlit (flitOf 4 true 0 (flitPayload anOpMsg 0))),
     ((linked.heard 8 (decodeFlit (flitOf 4 true 0 (flitPayload anOpMsg 0)))).link 8), 0, [(decodeFlit (flitOf 4 true
     0 (flitPayload anOpMsg 0))).payload], (by unfold State.hears; decide +kernel),
     (by unfold Link.atRest; decide +kernel), rfl, (by decide +kernel), (by decide +kernel), (by decide +kernel),
     (by decide +kernel), (by decide +kernel)⟩,
   ⟨linked, 8, (flitOf 4 true 0 (flitPayload aCplMsg 0)), (decodeFlit (flitOf 4 true 0 (flitPayload aCplMsg 0))),
     ((linked.heard 8 (decodeFlit (flitOf 4 true 0 (flitPayload aCplMsg 0)))).link 8), 0, [(decodeFlit (flitOf 4 true
     0 (flitPayload aCplMsg 0))).payload], aCplMsg, (by unfold State.hears; decide +kernel),
     (by unfold Link.atRest; decide +kernel), rfl, (by decide +kernel), (by decide +kernel), (by decide +kernel),
     (by decide +kernel), (by decide +kernel), (by decide +kernel), (by decide +kernel)⟩,
   ⟨linked, 8, (flitOf 0 true 0 0), (decodeFlit (flitOf 0 true 0 0)), ((linked.heard 8 (decodeFlit (flitOf 0 true 0
     0))).link 8), ((flitOf 4 true 0 0) ^^^ 1), (by unfold State.hears; decide +kernel),
     (by unfold Link.atRest; decide +kernel), rfl, (by decide +kernel), (by decide +kernel), (by decide +kernel)⟩⟩

/-- A NEG flit that a link receives. -/
theorem meets_NegReceived :
    (∃ (s : State) (c : Nat) (x : BitVec 256) (f : Flit) (n : Machine.Neg) (v : BitVec 2), s.hears c x f ∧ f.ftype = 2
      ∧ n = decodeNeg f.payload ∧ (s.link c).state = LinkState.negotiating ∧ s.waitMsgs = [] ∧ (s.countedFlit
      c).negRefusal c n = none ∧ (s.countedFlit c).agreedVersion c n = some v ∧ n.ack = false) ∧
    (∃ (s : State) (c : Nat) (x : BitVec 256) (f : Flit) (n : Machine.Neg) (r : Nat), s.hears c x f ∧ f.ftype = 2 ∧ n
      = decodeNeg f.payload ∧ (s.link c).state = LinkState.negotiating ∧ s.waitMsgs = [] ∧ (s.countedFlit
      c).negRefusal c n = some r ∧ (s.link c).partials = [] ∧ (s.link c).txq = [] ∧ (s.link c).catWaits = []) :=
  ⟨⟨negLinked, 8, (flitOf 2 true 0 aNeg.encode), (decodeFlit (flitOf 2 true 0 aNeg.encode)), (decodeNeg (decodeFlit
     (flitOf 2 true 0 aNeg.encode)).payload), 3, (by unfold State.hears; decide +kernel), (by decide +kernel), rfl,
     (by decide +kernel), (by decide +kernel), (by decide +kernel), (by decide +kernel), (by decide +kernel)⟩,
   ⟨negLinked, 8, (flitOf 2 true 0 aSelfNeg.encode), (decodeFlit (flitOf 2 true 0 aSelfNeg.encode)), (decodeNeg
     (decodeFlit (flitOf 2 true 0 aSelfNeg.encode)).payload), 3, (by unfold State.hears; decide +kernel),
     (by decide +kernel), rfl, (by decide +kernel), (by decide +kernel), (by decide +kernel), (by decide +kernel),
     (by decide +kernel), (by decide +kernel)⟩⟩

/-- Messages that a link has brought. -/
theorem meets_MessagesInTransit :
    (∃ (s : State) (c : Nat) (m : Msg) (n : Msg) (e : BitVec 32), s.live = true ∧ s.linkBuilt c = true ∧ e = s.route
      (s.routeKey m.hdr.dst) ∧ n = { hdr := { m.hdr with hops := m.hdr.hops + 1 }, body := m.body } ∧ m.hdr.dst =
      s.hub) ∧
    (∃ (s : State) (c : Nat) (m : Msg) (n : Msg) (e : BitVec 32), s.live = true ∧ s.linkBuilt c = true ∧ e = s.route
      (s.routeKey m.hdr.dst) ∧ n = { hdr := { m.hdr with hops := m.hdr.hops + 1 }, body := m.body } ∧ m.hdr.dst ≠
      s.hub ∧ m.body.isFence = false ∧ m.hdr.hops.toNat < s.cfg 20736 3 ∧ (s.changes.any fun x => decide (x.key =
      s.routeKey m.hdr.dst)) = false ∧ (s.settles.any fun x => decide (x.fst = s.routeKey m.hdr.dst)) = false ∧
      entryValid e = true ∧ (s.link (entryPrimary e)).state = LinkState.up ∧ m.body.level ≤ linkLevel (entryPrimary e)
      (s.link (entryPrimary e)).version) ∧
    (∃ (s : State) (c : Nat) (m : Msg) (n : Msg) (e : BitVec 32), s.live = true ∧ s.linkBuilt c = true ∧ e = s.route
      (s.routeKey m.hdr.dst) ∧ n = { hdr := { m.hdr with hops := m.hdr.hops + 1 }, body := m.body } ∧ m.hdr.dst ≠
      s.hub ∧ m.body.isFence = false ∧ m.hdr.hops.toNat < s.cfg 20736 3 ∧ (s.changes.any fun x => decide (x.key =
      s.routeKey m.hdr.dst)) = false ∧ (s.settles.any fun x => decide (x.fst = s.routeKey m.hdr.dst)) = false ∧
      s.leave e = Leave.strand) ∧
    (∃ (s : State) (c : Nat) (m : Msg) (n : Msg) (e : BitVec 32), s.live = true ∧ s.linkBuilt c = true ∧ e = s.route
      (s.routeKey m.hdr.dst) ∧ n = { hdr := { m.hdr with hops := m.hdr.hops + 1 }, body := m.body } ∧ m.hdr.dst ≠
      s.hub ∧ s.cfg 20736 3 ≤ m.hdr.hops.toNat ∧ m.body.isCpl = true) ∧
    (∃ (s : State) (c : Nat) (m : Msg) (n : Msg) (e : BitVec 32) (k : BitVec 6), s.live = true ∧ s.linkBuilt c = true
      ∧ e = s.route (s.routeKey m.hdr.dst) ∧ n = { hdr := { m.hdr with hops := m.hdr.hops + 1 }, body := m.body } ∧ (k
      = 0 ∨ 12 < k.toNat)) ∧
    (∃ (s : State) (c : Nat) (m : Msg) (n : Msg) (e : BitVec 32) (k : BitVec 6), s.live = true ∧ s.linkBuilt c = true
      ∧ e = s.route (s.routeKey m.hdr.dst) ∧ n = { hdr := { m.hdr with hops := m.hdr.hops + 1 }, body := m.body } ∧ 1
      ≤ k.toNat ∧ k.toNat ≤ 12) :=
  ⟨⟨linked, 8, aCplMsg, { hdr := { aCplMsg.hdr with hops := aCplMsg.hdr.hops + 1 }, body := aCplMsg.body },
     ((linked).route ((linked).routeKey (aCplMsg).hdr.dst)), (by decide +kernel), (by decide +kernel), rfl,
     (by decide +kernel), (by decide +kernel)⟩,
   ⟨routed, 8, aFwdMsg, { hdr := { aFwdMsg.hdr with hops := aFwdMsg.hdr.hops + 1 }, body := aFwdMsg.body },
     ((routed).route ((routed).routeKey (aFwdMsg).hdr.dst)), (by decide +kernel), (by decide +kernel), rfl,
     (by decide +kernel), (by decide +kernel), (by decide +kernel), (by decide +kernel), (by decide +kernel),
     (by decide +kernel), (by decide +kernel), (by decide +kernel), (by decide +kernel)⟩,
   ⟨linked, 8, aFwdMsg, { hdr := { aFwdMsg.hdr with hops := aFwdMsg.hdr.hops + 1 }, body := aFwdMsg.body },
     ((linked).route ((linked).routeKey (aFwdMsg).hdr.dst)), (by decide +kernel), (by decide +kernel), rfl,
     (by decide +kernel), (by decide +kernel), (by decide +kernel), (by decide +kernel), (by decide +kernel),
     (by decide +kernel), (by decide +kernel)⟩,
   ⟨linked, 8, aTiredMsg, { hdr := { aTiredMsg.hdr with hops := aTiredMsg.hdr.hops + 1 }, body := aTiredMsg.body },
     ((linked).route ((linked).routeKey (aTiredMsg).hdr.dst)), (by decide +kernel), (by decide +kernel), rfl,
     (by decide +kernel), (by decide +kernel), (by decide +kernel), (by decide +kernel)⟩,
   ⟨linked, 8, aFwdMsg, { hdr := { aFwdMsg.hdr with hops := aFwdMsg.hdr.hops + 1 }, body := aFwdMsg.body },
     ((linked).route ((linked).routeKey (aFwdMsg).hdr.dst)), 13, (by decide +kernel), (by decide +kernel), rfl,
     (by decide +kernel), (by decide +kernel)⟩,
   ⟨linked, 8, aFwdMsg, { hdr := { aFwdMsg.hdr with hops := aFwdMsg.hdr.hops + 1 }, body := aFwdMsg.body },
     ((linked).route ((linked).routeKey (aFwdMsg).hdr.dst)), 12, (by decide +kernel), (by decide +kernel), rfl,
     (by decide +kernel), (by decide +kernel), (by decide +kernel)⟩⟩

/-- CPL and FWD_ARRV messages. -/
theorem meets_CompletionsAndArrivals :
    (∃ (s : State) (u : State) (h : MsgHdr) (b : CplBody) (m : Msg) (q : Nat), s.live = true ∧ m =
      { hdr := h, body := Payload.cpl b } ∧ s.notW1 m ∧ u = s.taken m ∧ u.w1Home h.src = false ∧ q = (getFld b.target
      3 7).toNat ∧ b.source = srcPort ∧ voidedFor (u.port q).voided h.src b = none ∧ ((u.port q).pend.any fun e =>
      decide (e.home = some h.src)) = true) ∧
    (∃ (s : State) (u : State) (h : MsgHdr) (b : CplBody) (m : Msg) (q : Nat) (v : Voided), s.live = true ∧ m =
      { hdr := h, body := Payload.cpl b } ∧ s.notW1 m ∧ u = s.taken m ∧ u.w1Home h.src = false ∧ q = (getFld b.target
      3 7).toNat ∧ b.source = srcPort ∧ voidedFor (u.port q).voided h.src b = some v ∧ v.counts = false) ∧
    (∃ (s : State) (u : State) (h : MsgHdr) (b : CplBody) (m : Msg) (q : Nat), s.live = true ∧ m =
      { hdr := h, body := Payload.cpl b } ∧ s.notW1 m ∧ u = s.taken m ∧ u.w1Home h.src = false ∧ q = (getFld b.target
      3 7).toNat ∧ b.source = srcAperture ∧ getFld b.retref 4 6 = 0 ∧ voidedFor (u.slot b.target.toNat).voided h.src b
      = none) ∧
    (∃ (s : State) (u : State) (h : MsgHdr) (b : CplBody) (m : Msg) (q : Nat), s.live = true ∧ m =
      { hdr := h, body := Payload.cpl b } ∧ s.notW1 m ∧ u = s.taken m ∧ u.w1Home h.src = false ∧ q = (getFld b.target
      3 7).toNat ∧ b.source = srcHub ∧ u.flips = [] ∧ u.awaitsGrant (handleIndex b.child) = false) ∧
    (∃ (s : State) (u : State) (h : MsgHdr) (b : FwdBody) (m : Msg) (o : HomeOp) (r : ObjRec), s.live = true ∧ m =
      { hdr := h, body := Payload.fwdArrv b } ∧ s.notW1 m ∧ u = s.taken m ∧ o = u.forwardedOp h b ∧ r = u.obj o.index
      ∧ u.bankOut o.index = false ∧ u.flips = [] ∧ u.homeGate o = none ∧ u.objFaulted o.index = false ∧ u.isBody
      o.index = false ∧ r.otype = ObjType.barrier ∧ r.broken = false ∧ u.forwardedCheck b.arrival r = none ∧
      b.arrival.broken = false ∧ u.hasRoom o ∧ ((r.countForwarded b.arrival).by o).complete = false) :=
  ⟨⟨awaitsFar, ((awaitsFar).taken { hdr := aHdr, body := .cpl aCplBody }), aHdr, aCplBody,
     { hdr := aHdr, body := .cpl aCplBody }, 0, (by decide +kernel), rfl, no_inbox rfl, rfl, (by decide +kernel),
     (by decide +kernel), (by decide +kernel), (by decide +kernel), (by decide +kernel)⟩,
   ⟨voidedFar, ((voidedFar).taken { hdr := aHdr, body := .cpl aCplBody }), aHdr, aCplBody,
     { hdr := aHdr, body := .cpl aCplBody }, 0, aVoided, (by decide +kernel), rfl, no_inbox rfl, rfl,
     (by decide +kernel), (by decide +kernel), (by decide +kernel), (by decide +kernel), (by decide +kernel)⟩,
   ⟨hub0, ((hub0).taken { hdr := aHdr, body := .cpl aSlotCpl }), aHdr, aSlotCpl,
     { hdr := aHdr, body := .cpl aSlotCpl }, 127, (by decide +kernel), rfl, no_inbox rfl, rfl, (by decide +kernel),
     (by decide +kernel), (by decide +kernel), (by decide +kernel), (by decide +kernel)⟩,
   ⟨hub0, ((hub0).taken { hdr := aHdr, body := .cpl aHubCpl }), aHdr, aHubCpl, { hdr := aHdr, body := .cpl aHubCpl },
     0, (by decide +kernel), rfl, no_inbox rfl, rfl, (by decide +kernel), (by decide +kernel), (by decide +kernel),
     (by decide +kernel), (by decide +kernel)⟩,
   ⟨((withObj aBarrier2)), ((withObj aBarrier2).taken { hdr := aHdr, body := .fwdArrv aFwdBody }), aHdr, aFwdBody,
     { hdr := aHdr, body := .fwdArrv aFwdBody }, (((withObj aBarrier2).taken
     { hdr := aHdr, body := .fwdArrv aFwdBody }).forwardedOp aHdr aFwdBody), aBarrier2, (by decide +kernel), rfl,
     no_inbox rfl, rfl, rfl, (by decide +kernel), (by decide +kernel), (by decide +kernel), (by decide +kernel),
     (by decide +kernel), (by decide +kernel), (by decide +kernel), (by decide +kernel), (by decide +kernel),
     (by decide +kernel), (by unfold State.hasRoom; decide +kernel), (by decide +kernel)⟩⟩

/-- Loan messages at the home and at the borrower. -/
theorem meets_LoanMessages :
    (∃ (s : State) (u : State) (h : MsgHdr) (b : LoanBody) (e : Lender) (i : Nat) (p : Nat) (m : Msg), s.live = true ∧
      i = handleIndex b.token ∧ p = b.partition.toNat ∧ u.stageIsOut 28 = false ∧ u.flips = [] ∧ u.lenderNamed b =
      some e ∧ u.queue i = [] ∧ m = { hdr := h, body := Payload.loan LoanKind.req b } ∧ s.notW1 m ∧ u = s.taken m ∧
      u.messageGate p b.epoch i false = Selvedge.pass ∧ u.latched p = false ∧ e.state = LoanState.recalling) ∧
    (∃ (s : State) (u : State) (h : MsgHdr) (b : LoanBody) (e : Lender) (i : Nat) (p : Nat) (m : Msg), s.live = true ∧
      i = handleIndex b.token ∧ p = b.partition.toNat ∧ u.stageIsOut 28 = false ∧ u.flips = [] ∧ u.lenderNamed b =
      some e ∧ u.queue i = [] ∧ m = { hdr := h, body := Payload.loan LoanKind.req b } ∧ s.notW1 m ∧ u = s.taken m ∧
      u.messageGate p b.epoch i false = Selvedge.pass ∧ u.latched p = false ∧ e.state ≠ LoanState.recalling ∧ (u.obj
      i).otype = ObjType.token ∧ (u.obj i).amount < Int.ofNat b.amountA.toNat ∧ (u.waitersOf p).length < u.shareSize) ∧
    (∃ (s : State) (u : State) (h : MsgHdr) (b : LoanBody) (e : Lender) (i : Nat) (p : Nat) (m : Msg), s.live = true ∧
      i = handleIndex b.token ∧ p = b.partition.toNat ∧ u.stageIsOut 28 = false ∧ u.flips = [] ∧ u.lenderNamed b =
      some e ∧ u.queue i = [] ∧ m = { hdr := h, body := Payload.loan LoanKind.ret b } ∧ s.notW1 m ∧ u = s.taken m ∧
      u.messageGate p b.epoch i true = Selvedge.pass ∧ u.objFaulted i = false ∧ b.amountA + b.amountB = e.principal ∧
      (u.part p).reset.step ≠ ResetStep.recalling) ∧
    (∃ (s : State) (u : State) (h : MsgHdr) (b : LoanBody) (p : Nat) (m : Msg), s.live = true ∧ p = b.partition.toNat
      ∧ u.stageIsOut 28 = false ∧ u.entryGate p b.epoch = Selvedge.pass ∧ m =
      { hdr := h, body := Payload.loan LoanKind.grant { b with opening := true } } ∧ s.notW1 m ∧ u = s.taken m ∧
      (u.ledgersOf p).length < u.loanShare) ∧
    (∃ (s : State) (u : State) (h : MsgHdr) (b : LoanBody) (p : Nat) (m : Msg) (e : Ledger), s.live = true ∧ p =
      b.partition.toNat ∧ u.stageIsOut 28 = false ∧ u.entryGate p b.epoch = Selvedge.pass ∧ m =
      { hdr := h, body := Payload.loan LoanKind.grant { b with opening := false } } ∧ s.notW1 m ∧ u = s.taken m ∧
      u.flips = [] ∧ u.ledgerNamed b = some e ∧ u.ledgerQueue e.num = []) ∧
    (∃ (s : State) (u : State) (h : MsgHdr) (b : LoanBody) (p : Nat) (m : Msg) (e : Ledger) (t : State), s.live = true
      ∧ p = b.partition.toNat ∧ u.stageIsOut 28 = false ∧ u.entryGate p b.epoch = Selvedge.pass ∧ m =
      { hdr := h, body := Payload.loan LoanKind.recall b } ∧ s.notW1 m ∧ u = s.taken m ∧ u.flips = [] ∧ u.ledgerNamed
      b = some e ∧ u.ledgerQueue e.num = [] ∧ u.cfg 24624 4 = 0 ∧ t = u.send
      { hdr := u.hdrTo (handleHub e.token) e.partition.toNat,
        body := Payload.loan LoanKind.ret ({ u.loanBody e.partition.toNat e.seq u.hub e.token with amountA := e.balance, amountB := e.spent }) }) :=
  ⟨⟨(lending aRecalling), ((lending aRecalling).taken { hdr := aHdr, body := .loan .req aLoanBody }), aHdr, aLoanBody,
     aRecalling, 5, 0, { hdr := aHdr, body := .loan .req aLoanBody }, (by decide +kernel), (by decide +kernel),
     (by decide +kernel), (by decide +kernel), (by decide +kernel), (by decide +kernel), (by decide +kernel), rfl,
     no_inbox rfl, rfl, (by decide +kernel), (by decide +kernel), (by decide +kernel)⟩,
   ⟨(lending aLender), ((lending aLender).taken { hdr := aHdr, body := .loan .req aLoanBody }), aHdr, aLoanBody,
     aLender, 5, 0, { hdr := aHdr, body := .loan .req aLoanBody }, (by decide +kernel), (by decide +kernel),
     (by decide +kernel), (by decide +kernel), (by decide +kernel), (by decide +kernel), (by decide +kernel), rfl,
     no_inbox rfl, rfl, (by decide +kernel), (by decide +kernel), (by decide +kernel), (by decide +kernel),
     (by decide +kernel), (by decide +kernel)⟩,
   ⟨(lending aLender), ((lending aLender).taken { hdr := aHdr, body := .loan .ret aLoanBody }), aHdr, aLoanBody,
     aLender, 5, 0, { hdr := aHdr, body := .loan .ret aLoanBody }, (by decide +kernel), (by decide +kernel),
     (by decide +kernel), (by decide +kernel), (by decide +kernel), (by decide +kernel), (by decide +kernel), rfl,
     no_inbox rfl, rfl, (by decide +kernel), (by decide +kernel), (by decide +kernel), (by decide +kernel)⟩,
   ⟨hub0, ((hub0).taken { hdr := aHdr, body := .loan .grant anOpeningBody }), aHdr, anOpeningBody, 0,
     { hdr := aHdr, body := .loan .grant anOpeningBody }, (by decide +kernel), (by decide +kernel),
     (by decide +kernel), (by decide +kernel), (by decide +kernel), no_inbox rfl, rfl, (by decide +kernel)⟩,
   ⟨(borrowed aLedger), ((borrowed aLedger).taken { hdr := aHdr, body := .loan .grant aGrantBody }), aHdr, aGrantBody,
     0, { hdr := aHdr, body := .loan .grant aGrantBody }, aLedger, (by decide +kernel), (by decide +kernel),
     (by decide +kernel), (by decide +kernel), (by decide +kernel), no_inbox rfl, rfl, (by decide +kernel),
     (by decide +kernel), (by decide +kernel)⟩,
   ⟨(((borrowed aLedger).setCfg 0x6030 4 0 0)), ((((borrowed aLedger).setCfg 0x6030 4 0 0)).taken
     { hdr := aHdr, body := .loan .recall aGrantBody }), aHdr, aGrantBody, 0,
     { hdr := aHdr, body := .loan .recall aGrantBody }, aLedger, ((((borrowed aLedger).setCfg 0x6030 4 0 0).taken
     { hdr := aHdr, body := .loan .recall aGrantBody }).send
     { hdr := (((borrowed aLedger).setCfg 0x6030 4 0 0).taken { hdr := aHdr, body := .loan .recall aGrantBody }).hdrTo (handleHub aLedger.token) aLedger.partition.toNat,
       body := .loan .ret { (((borrowed aLedger).setCfg 0x6030 4 0 0).taken { hdr := aHdr, body := .loan .recall aGrantBody }).loanBody aLedger.partition.toNat aLedger.seq (((borrowed aLedger).setCfg 0x6030 4 0 0).taken { hdr := aHdr, body := .loan .recall aGrantBody }).hub aLedger.token with amountA := aLedger.balance, amountB := aLedger.spent } }),
     (by decide +kernel), (by decide +kernel), (by decide +kernel), (by decide +kernel), rfl, no_inbox rfl, rfl,
     (by decide +kernel), (by decide +kernel), (by decide +kernel), (by decide +kernel), rfl⟩⟩

/-- HOLDER_RESET, WAITER_PURGE and FAULT_NOTICE. -/
theorem meets_ResetsOfOthers :
    (∃ (s : State) (u : State) (h : MsgHdr) (m : Msg) (b : HolderResetBody) (i : Nat) (r : ObjRec), s.live = true ∧
      s.notW1 m ∧ u = s.taken m ∧ u.flips = [] ∧ m = { hdr := h, body := Payload.holderReset b } ∧ i = handleIndex
      b.lock ∧ r = u.obj i ∧ u.messageGate b.partition.toNat b.epoch i false = Selvedge.pass ∧ r.otype = ObjType.lock
      ∧ r.faulted = false ∧ u.queue i = [] ∧ r.held = true ∧ r.holder = b.originator ∧ r.inhPrio = 0) ∧
    (∃ (s : State) (u : State) (h : MsgHdr) (m : Msg) (b : HolderResetBody) (i : Nat) (r : ObjRec), s.live = true ∧
      s.notW1 m ∧ u = s.taken m ∧ u.flips = [] ∧ m = { hdr := h, body := Payload.holderReset b } ∧ i = handleIndex
      b.lock ∧ r = u.obj i ∧ u.messageGate b.partition.toNat b.epoch i false = Selvedge.pass ∧ r.otype = ObjType.lock
      ∧ r.faulted = false ∧ u.queue i = [] ∧ (r.held = false ∨ r.holder ≠ b.originator)) ∧
    (∃ (s : State) (u : State) (h : MsgHdr) (m : Msg) (b : WaiterPurgeBody) (ws : List Waiter), s.live = true ∧
      s.notW1 m ∧ u = s.taken m ∧ u.flips = [] ∧ m = { hdr := h, body := Payload.waiterPurge b } ∧ u.entryGate
      b.partition.toNat b.epoch = Selvedge.pass ∧ ws = List.filter (fun w => decide (w.source = srcPort) && decide
      (origHub w.originator = b.hub) && decide (getFld w.originator 3 7 = b.port) && decide (w.opcode ≠ opCode
      Opcode.acq)) u.waiters ∧ ws = []) ∧
    (∃ (s : State) (u : State) (h : MsgHdr) (m : Msg) (b : WaiterPurgeBody) (ws : List Waiter) (w : Waiter), s.live =
      true ∧ s.notW1 m ∧ u = s.taken m ∧ u.flips = [] ∧ m = { hdr := h, body := Payload.waiterPurge b } ∧ u.entryGate
      b.partition.toNat b.epoch = Selvedge.pass ∧ ws = List.filter (fun w => decide (w.source = srcPort) && decide
      (origHub w.originator = b.hub) && decide (getFld w.originator 3 7 = b.port) && decide (w.opcode ≠ opCode
      Opcode.acq)) u.waiters ∧ ws = [w] ∧ w.kind = WaiterKind.queued ∧ u.queue w.object = [w] ∧ (∀ (x : Waiter), x ∈
      u.waiters → x.num = w.num → x = w)) ∧
    (∃ (s : State) (u : State) (h : MsgHdr) (m : Msg) (b : PartCtlBody) (p : Nat), s.live = true ∧ s.notW1 m ∧ u =
      s.taken m ∧ u.flips = [] ∧ m = { hdr := h, body := Payload.partCtl PartCtlKind.faultNotice b } ∧ p =
      h.partition.toNat ∧ p < u.partCount ∧ b.oldEpoch = u.epoch p ∧ u.latched p = false) ∧
    (∃ (s : State) (u : State) (h : MsgHdr) (m : Msg) (b : PartCtlBody) (p : Nat), s.live = true ∧ s.notW1 m ∧ u =
      s.taken m ∧ u.flips = [] ∧ m = { hdr := h, body := Payload.partCtl PartCtlKind.faultNotice b } ∧ p =
      h.partition.toNat ∧ p < u.partCount ∧ b.oldEpoch = u.epoch p ∧ u.latched p = true) ∧
    (∃ (s : State) (u : State) (h : MsgHdr) (m : Msg) (b : PartCtlBody) (p : Nat), s.live = true ∧ s.notW1 m ∧ u =
      s.taken m ∧ u.flips = [] ∧ m = { hdr := h, body := Payload.partCtl PartCtlKind.faultNotice b } ∧ p =
      h.partition.toNat ∧ p < u.partCount ∧ 127 < (u.epoch p - b.oldEpoch).toNat) ∧
    (∃ (s : State) (u : State) (h : MsgHdr) (m : Msg) (b : PartCtlBody) (p : Nat), s.live = true ∧ s.notW1 m ∧ u =
      s.taken m ∧ u.flips = [] ∧ m = { hdr := h, body := Payload.partCtl PartCtlKind.faultNotice b } ∧ p =
      h.partition.toNat ∧ p < u.partCount ∧ b.oldEpoch ≠ u.epoch p ∧ (u.epoch p - b.oldEpoch).toNat ≤ 127) :=
  ⟨⟨(withObj aFarLock), ((withObj aFarLock).taken { hdr := aHdr, body := .holderReset aHolderReset }), aHdr,
     { hdr := aHdr, body := .holderReset aHolderReset }, aHolderReset, 5, aFarLock, (by decide +kernel), no_inbox rfl,
     rfl, (by decide +kernel), rfl, (by decide +kernel), (by decide +kernel), (by decide +kernel),
     (by decide +kernel), (by decide +kernel), (by decide +kernel), (by decide +kernel), (by decide +kernel),
     (by decide +kernel)⟩,
   ⟨(withObj aHeldLock), ((withObj aHeldLock).taken { hdr := aHdr, body := .holderReset aHolderReset }), aHdr,
     { hdr := aHdr, body := .holderReset aHolderReset }, aHolderReset, 5, aHeldLock, (by decide +kernel),
     no_inbox rfl, rfl, (by decide +kernel), rfl, (by decide +kernel), (by decide +kernel), (by decide +kernel),
     (by decide +kernel), (by decide +kernel), (by decide +kernel), (by decide +kernel)⟩,
   ⟨hub0, ((hub0).taken { hdr := aHdr, body := .waiterPurge aPurge }), aHdr,
     { hdr := aHdr, body := .waiterPurge aPurge }, aPurge, [], (by decide +kernel), no_inbox rfl, rfl,
     (by decide +kernel), rfl, (by decide +kernel), (by decide +kernel), rfl⟩,
   ⟨(oneWaiter aFarWaiter), ((oneWaiter aFarWaiter).taken { hdr := aHdr, body := .waiterPurge aPurge }), aHdr,
     { hdr := aHdr, body := .waiterPurge aPurge }, aPurge, [aFarWaiter], aFarWaiter, (by decide +kernel),
     no_inbox rfl, rfl, (by decide +kernel), rfl, (by decide +kernel), (by decide +kernel), rfl, (by decide +kernel),
     (by decide +kernel), (by intro x hx _; exact List.mem_singleton.mp hx)⟩,
   ⟨hub0, ((hub0).taken { hdr := aHdr, body := .partCtl .faultNotice (aNotice 0) }), aHdr,
     { hdr := aHdr, body := .partCtl .faultNotice (aNotice 0) }, (aNotice 0), 0, (by decide +kernel), no_inbox rfl,
     rfl, (by decide +kernel), rfl, (by decide +kernel), (by decide +kernel), (by decide +kernel),
     (by decide +kernel)⟩,
   ⟨(latchedHub hub0), ((latchedHub hub0).taken { hdr := aHdr, body := .partCtl .faultNotice (aNotice 0) }), aHdr,
     { hdr := aHdr, body := .partCtl .faultNotice (aNotice 0) }, (aNotice 0), 0, (by decide +kernel), no_inbox rfl,
     rfl, (by decide +kernel), rfl, (by decide +kernel), (by decide +kernel), (by decide +kernel),
     (by decide +kernel)⟩,
   ⟨hub0, ((hub0).taken { hdr := aHdr, body := .partCtl .faultNotice (aNotice 1) }), aHdr,
     { hdr := aHdr, body := .partCtl .faultNotice (aNotice 1) }, (aNotice 1), 0, (by decide +kernel), no_inbox rfl,
     rfl, (by decide +kernel), rfl, (by decide +kernel), (by decide +kernel), (by decide +kernel)⟩,
   ⟨hub0, ((hub0).taken { hdr := aHdr, body := .partCtl .faultNotice (aNotice 129) }), aHdr,
     { hdr := aHdr, body := .partCtl .faultNotice (aNotice 129) }, (aNotice 129), 0, (by decide +kernel),
     no_inbox rfl, rfl, (by decide +kernel), rfl, (by decide +kernel), (by decide +kernel), (by decide +kernel),
     (by decide +kernel)⟩⟩

/-- Route fences and their acknowledgements. -/
theorem meets_RouteFences :
    (∃ (s : State) (c : Nat) (h : MsgHdr) (b : FenceBody), s.live = true ∧ s.linkBuilt c = true ∧ h.dst ≠ s.hub ∧
      h.hops.toNat < s.cfg 20736 3 ∧ entryValid (s.route (s.routeKey h.dst)) = false) ∧
    (∃ (s : State) (u : State) (h : MsgHdr) (b : FenceBody) (m : Msg), s.live = true ∧ s.notW1 m ∧ u = s.taken m ∧ m =
      { hdr := h, body := Payload.routeFence b }) ∧
    (∃ (s : State) (u : State) (h : MsgHdr) (b : FenceBody) (m : Msg), s.live = true ∧ s.notW1 m ∧ u = s.taken m ∧ m =
      { hdr := h, body := Payload.fenceAck b } ∧ List.find? (fun x => x.fences.contains (b.cpl, b.num)) u.changes =
      none) ∧
    (∃ (s : State) (u : State) (h : MsgHdr) (b : FenceBody) (m : Msg) (x : RouteChange), s.live = true ∧ s.notW1 m ∧ u
      = s.taken m ∧ m = { hdr := h, body := Payload.fenceAck b } ∧ List.find? (fun x => x.fences.contains (b.cpl,
      b.num)) u.changes = some x ∧ x.fences.erase (b.cpl, b.num) ≠ []) ∧
    (∃ (s : State) (u : State) (h : MsgHdr) (b : FenceBody) (m : Msg) (x : RouteChange), s.live = true ∧ s.notW1 m ∧ u
      = s.taken m ∧ m = { hdr := h, body := Payload.fenceAck b } ∧ List.find? (fun x => x.fences.contains (b.cpl,
      b.num)) u.changes = some x ∧ x.fences = [(b.cpl, b.num)] ∧ u.waitMsgs = [] ∧ x.cats = []) :=
  ⟨⟨linked, 8, aFwdHdr, aFence, (by decide +kernel), (by decide +kernel), (by decide +kernel), (by decide +kernel),
     (by decide +kernel)⟩,
   ⟨hub0, ((hub0).taken { hdr := aHdr, body := .routeFence aFence }), aHdr, aFence,
     { hdr := aHdr, body := .routeFence aFence }, (by decide +kernel), no_inbox rfl, rfl, rfl⟩,
   ⟨hub0, ((hub0).taken { hdr := aHdr, body := .fenceAck aFence }), aHdr, aFence,
     { hdr := aHdr, body := .fenceAck aFence }, (by decide +kernel), no_inbox rfl, rfl, rfl, (by decide +kernel)⟩,
   ⟨(changing [(true, 9), (false, 9)]), ((changing [(true, 9), (false, 9)]).taken
     { hdr := aHdr, body := .fenceAck aFence }), aHdr, aFence, { hdr := aHdr, body := .fenceAck aFence }, (aChange
     [(true, 9), (false, 9)]), (by decide +kernel), no_inbox rfl, rfl, rfl, (by decide +kernel), (by decide +kernel)⟩,
   ⟨(changing [(true, 9)]), ((changing [(true, 9)]).taken { hdr := aHdr, body := .fenceAck aFence }), aHdr, aFence,
     { hdr := aHdr, body := .fenceAck aFence }, (aChange [(true, 9)]), (by decide +kernel), no_inbox rfl, rfl, rfl,
     (by decide +kernel), (by decide +kernel), (by decide +kernel), (by decide +kernel)⟩⟩

/-- HOLD_CTL and STOCKTAKE messages. -/
theorem meets_HoldAndStocktakeMessages :
    (∃ (s : State) (u : State) (h : MsgHdr) (b : HoldBody) (m : Msg) (p : Nat), s.live = true ∧ s.notW1 m ∧ u =
      s.taken m ∧ p = h.partition.toNat ∧ m = { hdr := h, body := Payload.holdCtl HoldKind.holdReq b } ∧ p <
      u.partCount) ∧
    (∃ (s : State) (u : State) (h : MsgHdr) (b : HoldBody) (m : Msg) (p : Nat), s.live = true ∧ s.notW1 m ∧ u =
      s.taken m ∧ p = h.partition.toNat ∧ m = { hdr := h, body := Payload.holdCtl HoldKind.holdReq b } ∧ p <
      u.partCount) ∧
    (∃ (s : State) (u : State) (h : MsgHdr) (b : HoldBody) (m : Msg) (p : Nat), s.live = true ∧ s.notW1 m ∧ u =
      s.taken m ∧ p = h.partition.toNat ∧ m = { hdr := h, body := Payload.holdCtl HoldKind.holdReq b } ∧ p <
      u.partCount) ∧
    (∃ (s : State) (u : State) (h : MsgHdr) (b : HoldBody) (m : Msg) (p : Nat), s.live = true ∧ s.notW1 m ∧ u =
      s.taken m ∧ p = h.partition.toNat ∧ m = { hdr := h, body := Payload.holdCtl HoldKind.resumeReq b } ∧ p <
      u.partCount) ∧
    (∃ (s : State) (u : State) (h : MsgHdr) (b : HoldBody) (m : Msg) (p : Nat), s.live = true ∧ s.notW1 m ∧ u =
      s.taken m ∧ p = h.partition.toNat ∧ m = { hdr := h, body := Payload.holdCtl HoldKind.resumeReq b } ∧ p <
      u.partCount) ∧
    (∃ (s : State) (u : State) (h : MsgHdr) (b : HoldBody) (m : Msg) (p : Nat), s.live = true ∧ s.notW1 m ∧ u =
      s.taken m ∧ p = h.partition.toNat ∧ m = { hdr := h, body := Payload.holdCtl HoldKind.resumeReq b } ∧ p <
      u.partCount) ∧
    (∃ (s : State) (u : State) (h : MsgHdr) (b : HoldBody) (m : Msg) (p : Nat) (i : Instr) (x : Bool) (k : HoldKind),
      s.live = true ∧ s.notW1 m ∧ u = s.taken m ∧ p = h.partition.toNat ∧ (i = Instr.holdAck h b ∧ k =
      HoldKind.holdAck ∧ x = false ∨ i = Instr.resumeAck h b ∧ k = HoldKind.resumeAck ∧ x = true) ∧ m =
      { hdr := h, body := Payload.holdCtl k b } ∧ ((u.part p).hold.xs.any fun e => decide (e.resume = x) && decide
      (e.seq = b.seq) && e.peers.contains h.src) = false) ∧
    (∃ (s : State) (u : State) (h : MsgHdr) (b : HoldBody) (m : Msg) (p : Nat) (i : Instr) (x : Bool) (k : HoldKind)
      (e : HoldXchg), s.live = true ∧ s.notW1 m ∧ u = s.taken m ∧ p = h.partition.toNat ∧ (i = Instr.holdAck h b ∧ k =
      HoldKind.holdAck ∧ x = false ∨ i = Instr.resumeAck h b ∧ k = HoldKind.resumeAck ∧ x = true) ∧ m =
      { hdr := h, body := Payload.holdCtl k b } ∧ (u.part p).hold.xs = [e] ∧ e.resume = x ∧ e.seq = b.seq ∧
      e.peers.contains h.src = true ∧ List.filter (fun d => decide (d ≠ h.src)) e.peers ≠ []) ∧
    (∃ (s : State) (u : State) (h : MsgHdr) (b : HoldBody) (m : Msg) (p : Nat) (i : Instr) (x : Bool) (k : HoldKind)
      (e : HoldXchg), s.live = true ∧ s.notW1 m ∧ u = s.taken m ∧ p = h.partition.toNat ∧ (i = Instr.holdAck h b ∧ k =
      HoldKind.holdAck ∧ x = false ∨ i = Instr.resumeAck h b ∧ k = HoldKind.resumeAck ∧ x = true) ∧ m =
      { hdr := h, body := Payload.holdCtl k b } ∧ (u.part p).hold.xs = [e] ∧ e.resume = x ∧ e.seq = b.seq ∧
      e.peers.contains h.src = true ∧ e.peers = [h.src] ∧ e.waiter = HoldWaiter.nobody) ∧
    (∃ (s : State) (u : State) (h : MsgHdr) (b : StockBody) (m : Msg) (p : Nat) (k : Stocktake), s.live = true ∧
      s.notW1 m ∧ u = s.taken m ∧ p = h.partition.toNat ∧ k = (u.part p).stock ∧ m =
      { hdr := h, body := Payload.stocktake StockKind.query b } ∧ p < u.partCount) ∧
    (∃ (s : State) (u : State) (h : MsgHdr) (b : StockBody) (m : Msg) (p : Nat) (k : Stocktake), s.live = true ∧
      s.notW1 m ∧ u = s.taken m ∧ p = h.partition.toNat ∧ k = (u.part p).stock ∧ m =
      { hdr := h, body := Payload.stocktake StockKind.report b } ∧ k.scope.contains h.src = true ∧ b.round = k.round ∧
      (k.reports.any fun r => decide (r.fst = h.src)) = false) ∧
    (∃ (s : State) (u : State) (h : MsgHdr) (b : StockBody) (m : Msg) (p : Nat) (k : Stocktake), s.live = true ∧
      s.notW1 m ∧ u = s.taken m ∧ p = h.partition.toNat ∧ k = (u.part p).stock ∧ m =
      { hdr := h, body := Payload.stocktake StockKind.report b } ∧ b.round ≠ k.round) ∧
    (∃ (s : State) (u : State) (h : MsgHdr) (b : StockBody) (m : Msg) (p : Nat) (k : Stocktake), s.live = true ∧
      s.notW1 m ∧ u = s.taken m ∧ p = h.partition.toNat ∧ k = (u.part p).stock ∧ m =
      { hdr := h, body := Payload.stocktake StockKind.declare b } ∧ p < u.partCount ∧ u.cfg 24640 6 p = 0) ∧
    (∃ (s : State) (u : State) (h : MsgHdr) (b : StockBody) (m : Msg) (p : Nat) (k : Stocktake), s.live = true ∧
      s.notW1 m ∧ u = s.taken m ∧ p = h.partition.toNat ∧ k = (u.part p).stock ∧ m =
      { hdr := h, body := Payload.stocktake StockKind.declare b } ∧ p < u.partCount ∧ u.cfg 24640 6 p ≠ 0 ∧ u.cfg
      24640 1 p ≠ 0 ∧ (u.part p).inv.running = false) :=
  ⟨⟨hub16, ((hub16).taken { hdr := hdr15, body := .holdCtl .holdReq aHoldBody }), hdr15, aHoldBody,
     { hdr := hdr15, body := .holdCtl .holdReq aHoldBody }, 15, (by decide +kernel), no_inbox rfl, rfl,
     (by decide +kernel), rfl, (by decide +kernel)⟩,
   ⟨hub16, ((hub16).taken { hdr := hdr15, body := .holdCtl .holdReq aHoldBody }), hdr15, aHoldBody,
     { hdr := hdr15, body := .holdCtl .holdReq aHoldBody }, 15, (by decide +kernel), no_inbox rfl, rfl,
     (by decide +kernel), rfl, (by decide +kernel)⟩,
   ⟨hub16, ((hub16).taken { hdr := hdr15, body := .holdCtl .holdReq aHoldBody }), hdr15, aHoldBody,
     { hdr := hdr15, body := .holdCtl .holdReq aHoldBody }, 15, (by decide +kernel), no_inbox rfl, rfl,
     (by decide +kernel), rfl, (by decide +kernel)⟩,
   ⟨hub0, ((hub0).taken { hdr := aHdr, body := .holdCtl .resumeReq aHoldBody }), aHdr, aHoldBody,
     { hdr := aHdr, body := .holdCtl .resumeReq aHoldBody }, 0, (by decide +kernel), no_inbox rfl, rfl,
     (by decide +kernel), rfl, (by decide +kernel)⟩,
   ⟨hub0, ((hub0).taken { hdr := aHdr, body := .holdCtl .resumeReq aHoldBody }), aHdr, aHoldBody,
     { hdr := aHdr, body := .holdCtl .resumeReq aHoldBody }, 0, (by decide +kernel), no_inbox rfl, rfl,
     (by decide +kernel), rfl, (by decide +kernel)⟩,
   ⟨hub0, ((hub0).taken { hdr := aHdr, body := .holdCtl .resumeReq aHoldBody }), aHdr, aHoldBody,
     { hdr := aHdr, body := .holdCtl .resumeReq aHoldBody }, 0, (by decide +kernel), no_inbox rfl, rfl,
     (by decide +kernel), rfl, (by decide +kernel)⟩,
   ⟨hub0, ((hub0).taken { hdr := aHdr, body := .holdCtl .holdAck aHoldBody }), aHdr, aHoldBody,
     { hdr := aHdr, body := .holdCtl .holdAck aHoldBody }, 0, (.holdAck aHdr aHoldBody), false, .holdAck,
     (by decide +kernel), no_inbox rfl, rfl, (by decide +kernel), Or.inl ⟨rfl, rfl, rfl⟩, rfl, (by decide +kernel)⟩,
   ⟨(holding aHoldXchg2), ((holding aHoldXchg2).taken { hdr := aHdr, body := .holdCtl .holdAck aHoldBody }), aHdr,
     aHoldBody, { hdr := aHdr, body := .holdCtl .holdAck aHoldBody }, 0, (.holdAck aHdr aHoldBody), false, .holdAck,
     aHoldXchg2, (by decide +kernel), no_inbox rfl, rfl, (by decide +kernel), Or.inl ⟨rfl, rfl, rfl⟩, rfl,
     (by decide +kernel), (by decide +kernel), (by decide +kernel), (by decide +kernel), (by decide +kernel)⟩,
   ⟨(holding aHoldXchg), ((holding aHoldXchg).taken { hdr := aHdr, body := .holdCtl .holdAck aHoldBody }), aHdr,
     aHoldBody, { hdr := aHdr, body := .holdCtl .holdAck aHoldBody }, 0, (.holdAck aHdr aHoldBody), false, .holdAck,
     aHoldXchg, (by decide +kernel), no_inbox rfl, rfl, (by decide +kernel), Or.inl ⟨rfl, rfl, rfl⟩, rfl,
     (by decide +kernel), (by decide +kernel), (by decide +kernel), (by decide +kernel), (by decide +kernel),
     (by decide +kernel)⟩,
   ⟨hub16, ((hub16).taken { hdr := hdr15, body := .stocktake .query (aStockBody 3) }), hdr15, (aStockBody 3),
     { hdr := hdr15, body := .stocktake .query (aStockBody 3) }, 15, {}, (by decide +kernel), no_inbox rfl, rfl,
     (by decide +kernel), (by decide +kernel), rfl, (by decide +kernel)⟩,
   ⟨(withPart 0 { stock := aRound }), ((withPart 0 { stock := aRound }).taken
     { hdr := aHdr, body := .stocktake .report (aStockBody 3) }), aHdr, (aStockBody 3),
     { hdr := aHdr, body := .stocktake .report (aStockBody 3) }, 0, aRound, (by decide +kernel), no_inbox rfl, rfl,
     (by decide +kernel), (by decide +kernel), rfl, (by decide +kernel), (by decide +kernel), (by decide +kernel)⟩,
   ⟨(withPart 0 { stock := aRound }), ((withPart 0 { stock := aRound }).taken
     { hdr := aHdr, body := .stocktake .report (aStockBody 4) }), aHdr, (aStockBody 4),
     { hdr := aHdr, body := .stocktake .report (aStockBody 4) }, 0, aRound, (by decide +kernel), no_inbox rfl, rfl,
     (by decide +kernel), (by decide +kernel), rfl, (by decide +kernel)⟩,
   ⟨noDeclared, ((noDeclared).taken { hdr := aHdr, body := .stocktake .declare (aStockBody 3) }), aHdr, (aStockBody
     3), { hdr := aHdr, body := .stocktake .declare (aStockBody 3) }, 0, {}, (by decide +kernel), no_inbox rfl, rfl,
     (by decide +kernel), (by decide +kernel), rfl, (by decide +kernel), (by decide +kernel)⟩,
   ⟨invArmed, ((invArmed).taken { hdr := aHdr, body := .stocktake .declare (aStockBody 3) }), aHdr, (aStockBody 3),
     { hdr := aHdr, body := .stocktake .declare (aStockBody 3) }, 0, {}, (by decide +kernel), no_inbox rfl, rfl,
     (by decide +kernel), (by decide +kernel), rfl, (by decide +kernel), (by decide +kernel), (by decide +kernel),
     (by decide +kernel)⟩⟩

/-- SHELF messages. -/
theorem meets_ShelfMessages :
    (∃ (s : State) (u : State) (h : MsgHdr) (b : ShelfBody) (m : Msg) (p : Nat) (n : Nat) (x : Shelf), s.live = true ∧
      s.notW1 m ∧ u = s.taken m ∧ p = h.partition.toNat ∧ n = bitNat b.shelf ∧ x = u.shelf p n ∧ m =
      { hdr := h, body := Payload.shelf ShelfKind.arm b } ∧ p < u.partCount ∧ u.armFails p
      { b with shelf := n, asker := some (h.src, b.seq) } = none) ∧
    (∃ (s : State) (u : State) (h : MsgHdr) (b : ShelfBody) (m : Msg) (p : Nat) (n : Nat) (x : Shelf), s.live = true ∧
      s.notW1 m ∧ u = s.taken m ∧ p = h.partition.toNat ∧ n = bitNat b.shelf ∧ x = u.shelf p n ∧ m =
      { hdr := h, body := Payload.shelf ShelfKind.done b } ∧ x.peers.contains h.src = true ∧ b.seq = x.number ∧
      b.status = 0) ∧
    (∃ (s : State) (u : State) (h : MsgHdr) (b : ShelfBody) (m : Msg) (p : Nat) (n : Nat) (x : Shelf), s.live = true ∧
      s.notW1 m ∧ u = s.taken m ∧ p = h.partition.toNat ∧ n = bitNat b.shelf ∧ x = u.shelf p n ∧ m =
      { hdr := h, body := Payload.shelf ShelfKind.done b } ∧ x.peers.contains h.src = true ∧ b.seq = x.number ∧
      b.status ≠ 0) ∧
    (∃ (s : State) (u : State) (h : MsgHdr) (b : ShelfBody) (m : Msg) (p : Nat) (n : Nat) (x : Shelf), s.live = true ∧
      s.notW1 m ∧ u = s.taken m ∧ p = h.partition.toNat ∧ n = bitNat b.shelf ∧ x = u.shelf p n ∧ m =
      { hdr := h, body := Payload.shelf ShelfKind.done b } ∧ (x.peers.contains h.src = false ∨ b.seq ≠ x.number)) ∧
    (∃ (s : State) (u : State) (h : MsgHdr) (b : ShelfBody) (m : Msg) (p : Nat) (n : Nat) (x : Shelf), s.live = true ∧
      s.notW1 m ∧ u = s.taken m ∧ p = h.partition.toNat ∧ n = bitNat b.shelf ∧ x = u.shelf p n ∧ m =
      { hdr := h, body := Payload.shelf ShelfKind.cancel b } ∧ p < u.partCount ∧ x.state = ShelfState.armed ∧ x.asker
      = none) ∧
    (∃ (s : State) (u : State) (h : MsgHdr) (b : ShelfBody) (m : Msg) (p : Nat) (n : Nat) (x : Shelf), s.live = true ∧
      s.notW1 m ∧ u = s.taken m ∧ p = h.partition.toNat ∧ n = bitNat b.shelf ∧ x = u.shelf p n ∧ m =
      { hdr := h, body := Payload.shelf ShelfKind.cancel b } ∧ p < u.partCount ∧ x.state ≠ ShelfState.armed) :=
  ⟨⟨hub0, ((hub0).taken { hdr := aHdr, body := .shelf .arm (aShelfBody 1 0 1) }), aHdr, (aShelfBody 1 0 1),
     { hdr := aHdr, body := .shelf .arm (aShelfBody 1 0 1) }, 0, 1, {}, (by decide +kernel), no_inbox rfl, rfl,
     (by decide +kernel), (by decide +kernel), rfl, rfl, (by decide +kernel), (by decide +kernel)⟩,
   ⟨(shelfHub askedShelf), ((shelfHub askedShelf).taken
     { hdr := aHdr, body := .shelf .done (aShelfBody askedShelf.number 0 0) }), aHdr, (aShelfBody askedShelf.number 0
     0), { hdr := aHdr, body := .shelf .done (aShelfBody askedShelf.number 0 0) }, 0, 1, askedShelf,
     (by decide +kernel), no_inbox rfl, rfl, (by decide +kernel), (by decide +kernel), rfl, rfl, (by decide +kernel),
     rfl, (by decide +kernel)⟩,
   ⟨(shelfHub askedShelf), ((shelfHub askedShelf).taken
     { hdr := aHdr, body := .shelf .done (aShelfBody askedShelf.number 1 0) }), aHdr, (aShelfBody askedShelf.number 1
     0), { hdr := aHdr, body := .shelf .done (aShelfBody askedShelf.number 1 0) }, 0, 1, askedShelf,
     (by decide +kernel), no_inbox rfl, rfl, (by decide +kernel), (by decide +kernel), rfl, rfl, (by decide +kernel),
     rfl, (by decide +kernel)⟩,
   ⟨hub0, ((hub0).taken { hdr := aHdr, body := .shelf .done (aShelfBody 1 0 0) }), aHdr, (aShelfBody 1 0 0),
     { hdr := aHdr, body := .shelf .done (aShelfBody 1 0 0) }, 0, 1, {}, (by decide +kernel), no_inbox rfl, rfl,
     (by decide +kernel), (by decide +kernel), rfl, rfl, Or.inl rfl⟩,
   ⟨(shelfHub armedShelf), ((shelfHub armedShelf).taken { hdr := aHdr, body := .shelf .cancel (aShelfBody 1 0 0) }),
     aHdr, (aShelfBody 1 0 0), { hdr := aHdr, body := .shelf .cancel (aShelfBody 1 0 0) }, 0, 1, armedShelf,
     (by decide +kernel), no_inbox rfl, rfl, (by decide +kernel), (by decide +kernel), rfl, rfl, (by decide +kernel),
     (by decide +kernel), (by decide +kernel)⟩,
   ⟨(shelfHub askedShelf), ((shelfHub askedShelf).taken { hdr := aHdr, body := .shelf .cancel (aShelfBody 1 0 0) }),
     aHdr, (aShelfBody 1 0 0), { hdr := aHdr, body := .shelf .cancel (aShelfBody 1 0 0) }, 0, 1, askedShelf,
     (by decide +kernel), no_inbox rfl, rfl, (by decide +kernel), (by decide +kernel), rfl, rfl, (by decide +kernel),
     (by decide +kernel)⟩⟩

/-- PART_CTL messages of a reset. -/
theorem meets_ResetMessages :
    (∃ (s : State) (u : State) (h : MsgHdr) (b : PartCtlBody) (m : Msg) (p : Nat) (r : ResetSeq) (i : Instr) (k :
      PartCtlKind) (c : Bool) (done : PartCtlKind), s.live = true ∧ s.notW1 m ∧ u = s.taken m ∧ p = h.partition.toNat
      ∧ r = (u.part p).reset ∧ (i = Instr.resetReq h b ∧ k = PartCtlKind.resetReq ∧ c = false ∧ done =
      PartCtlKind.resetDone ∨ i = Instr.ctxReq h b ∧ k = PartCtlKind.ctxReq ∧ c = true ∧ done = PartCtlKind.ctxDone) ∧
      m = { hdr := h, body := Payload.partCtl k b } ∧ b.count.toNat ≠ u.partCount) ∧
    (∃ (s : State) (u : State) (h : MsgHdr) (b : PartCtlBody) (m : Msg) (p : Nat) (r : ResetSeq) (i : Instr) (k :
      PartCtlKind) (c : Bool) (done : PartCtlKind), s.live = true ∧ s.notW1 m ∧ u = s.taken m ∧ p = h.partition.toNat
      ∧ r = (u.part p).reset ∧ (i = Instr.resetReq h b ∧ k = PartCtlKind.resetReq ∧ c = false ∧ done =
      PartCtlKind.resetDone ∨ i = Instr.ctxReq h b ∧ k = PartCtlKind.ctxReq ∧ c = true ∧ done = PartCtlKind.ctxDone) ∧
      m = { hdr := h, body := Payload.partCtl k b } ∧ p < u.partCount ∧ b.count.toNat = u.partCount ∧ u.reslice.step =
      ResliceStep.idle ∧ u.resetting p = true) ∧
    (∃ (s : State) (u : State) (h : MsgHdr) (b : PartCtlBody) (m : Msg) (p : Nat) (r : ResetSeq) (i : Instr) (k :
      PartCtlKind) (c : Bool) (done : PartCtlKind), s.live = true ∧ s.notW1 m ∧ u = s.taken m ∧ p = h.partition.toNat
      ∧ r = (u.part p).reset ∧ (i = Instr.resetReq h b ∧ k = PartCtlKind.resetReq ∧ c = false ∧ done =
      PartCtlKind.resetDone ∨ i = Instr.ctxReq h b ∧ k = PartCtlKind.ctxReq ∧ c = true ∧ done = PartCtlKind.ctxDone) ∧
      m = { hdr := h, body := Payload.partCtl k b } ∧ p < u.partCount ∧ b.count.toNat = u.partCount ∧ u.reslice.step =
      ResliceStep.idle ∧ u.resetting p = false ∧ (u.epoch p - b.newEpoch).toNat ≤ 127) ∧
    (∃ (s : State) (u : State) (h : MsgHdr) (b : PartCtlBody) (m : Msg) (p : Nat) (r : ResetSeq) (i : Instr) (k :
      PartCtlKind) (c : Bool) (done : PartCtlKind), s.live = true ∧ s.notW1 m ∧ u = s.taken m ∧ p = h.partition.toNat
      ∧ r = (u.part p).reset ∧ (i = Instr.resetReq h b ∧ k = PartCtlKind.resetReq ∧ c = false ∧ done =
      PartCtlKind.resetDone ∨ i = Instr.ctxReq h b ∧ k = PartCtlKind.ctxReq ∧ c = true ∧ done = PartCtlKind.ctxDone) ∧
      m = { hdr := h, body := Payload.partCtl k b } ∧ p < u.partCount ∧ b.count.toNat = u.partCount ∧ u.reslice.step =
      ResliceStep.idle ∧ u.resetting p = false ∧ 127 < (u.epoch p - b.newEpoch).toNat ∧ u.resetsAtOnce p) ∧
    (∃ (s : State) (u : State) (h : MsgHdr) (b : PartCtlBody) (m : Msg) (p : Nat) (r : ResetSeq) (i : Instr) (k :
      PartCtlKind), s.live = true ∧ s.notW1 m ∧ u = s.taken m ∧ p = h.partition.toNat ∧ r = (u.part p).reset ∧ (i =
      Instr.resetDone h b ∧ k = PartCtlKind.resetDone ∨ i = Instr.ctxDone h b ∧ k = PartCtlKind.ctxDone) ∧ m =
      { hdr := h, body := Payload.partCtl k b } ∧ (r.peers.contains h.src = false ∨ b.seq ≠ r.number)) ∧
    (∃ (s : State) (u : State) (h : MsgHdr) (b : PartCtlBody) (m : Msg) (p : Nat) (r : ResetSeq) (i : Instr) (k :
      PartCtlKind), s.live = true ∧ s.notW1 m ∧ u = s.taken m ∧ p = h.partition.toNat ∧ r = (u.part p).reset ∧ (i =
      Instr.resetDone h b ∧ k = PartCtlKind.resetDone ∨ i = Instr.ctxDone h b ∧ k = PartCtlKind.ctxDone) ∧ m =
      { hdr := h, body := Payload.partCtl k b } ∧ b.seq = r.number ∧ b.status ≠ 1 ∧ r.peers.contains h.src = true ∧
      List.filter (fun d => decide (d ≠ h.src)) r.peers ≠ []) ∧
    (∃ (s : State) (u : State) (h : MsgHdr) (b : PartCtlBody) (m : Msg) (p : Nat) (r : ResetSeq) (i : Instr) (k :
      PartCtlKind), s.live = true ∧ s.notW1 m ∧ u = s.taken m ∧ p = h.partition.toNat ∧ r = (u.part p).reset ∧ (i =
      Instr.resetDone h b ∧ k = PartCtlKind.resetDone ∨ i = Instr.ctxDone h b ∧ k = PartCtlKind.ctxDone) ∧ m =
      { hdr := h, body := Payload.partCtl k b } ∧ b.seq = r.number ∧ b.status ≠ 1 ∧ r.peers = [h.src] ∧ r.step =
      ResetStep.awaitPeers) :=
  ⟨⟨hub0, ((hub0).taken { hdr := aHdr, body := .partCtl .resetReq (aPartBody 1 2) }), aHdr, (aPartBody 1 2),
     { hdr := aHdr, body := .partCtl .resetReq (aPartBody 1 2) }, 0, {}, (.resetReq aHdr (aPartBody 1 2)), .resetReq,
     false, .resetDone, (by decide +kernel), no_inbox rfl, rfl, (by decide +kernel), (by decide +kernel),
     Or.inl ⟨rfl, rfl, rfl, rfl⟩, rfl, (by decide +kernel)⟩,
   ⟨resetting0, ((resetting0).taken { hdr := aHdr, body := .partCtl .ctxReq (aPartBody 1 1) }), aHdr, (aPartBody 1 1),
     { hdr := aHdr, body := .partCtl .ctxReq (aPartBody 1 1) }, 0, { step := .quiescing }, (.ctxReq aHdr (aPartBody 1
     1)), .ctxReq, true, .ctxDone, (by decide +kernel), no_inbox rfl, rfl, (by decide +kernel), (by decide +kernel),
     Or.inr ⟨rfl, rfl, rfl, rfl⟩, rfl, (by decide +kernel), (by decide +kernel), (by decide +kernel),
     (by decide +kernel)⟩,
   ⟨hub0, ((hub0).taken { hdr := aHdr, body := .partCtl .resetReq (aPartBody 0x81 1) }), aHdr, (aPartBody 0x81 1),
     { hdr := aHdr, body := .partCtl .resetReq (aPartBody 0x81 1) }, 0, {}, (.resetReq aHdr (aPartBody 0x81 1)),
     .resetReq, false, .resetDone, (by decide +kernel), no_inbox rfl, rfl, (by decide +kernel), (by decide +kernel),
     Or.inl ⟨rfl, rfl, rfl, rfl⟩, rfl, (by decide +kernel), (by decide +kernel), (by decide +kernel),
     (by decide +kernel), (by decide +kernel)⟩,
   ⟨hub0, ((hub0).taken { hdr := aHdr, body := .partCtl .ctxReq (aPartBody 0x80 1) }), aHdr, (aPartBody 0x80 1),
     { hdr := aHdr, body := .partCtl .ctxReq (aPartBody 0x80 1) }, 0, {}, (.ctxReq aHdr (aPartBody 0x80 1)), .ctxReq,
     true, .ctxDone, (by decide +kernel), no_inbox rfl, rfl, (by decide +kernel), (by decide +kernel),
     Or.inr ⟨rfl, rfl, rfl, rfl⟩, rfl, (by decide +kernel), (by decide +kernel), (by decide +kernel),
     (by decide +kernel), (by decide +kernel), resets_hub0⟩,
   ⟨hub0, ((hub0).taken { hdr := aHdr, body := .partCtl .ctxDone (aPartBody 0 1) }), aHdr, (aPartBody 0 1),
     { hdr := aHdr, body := .partCtl .ctxDone (aPartBody 0 1) }, 0, {}, (.ctxDone aHdr (aPartBody 0 1)), .ctxDone,
     (by decide +kernel), no_inbox rfl, rfl, (by decide +kernel), rfl, Or.inr ⟨rfl, rfl⟩, rfl, Or.inl rfl⟩,
   ⟨(awaitsPeers [0x11, 0x12]), ((awaitsPeers [0x11, 0x12]).taken
     { hdr := aHdr, body := .partCtl .resetDone (aDone (awaiting [0x11, 0x12])) }), aHdr, (aDone (awaiting [0x11,
     0x12])), { hdr := aHdr, body := .partCtl .resetDone (aDone (awaiting [0x11, 0x12])) }, 0, (awaiting [0x11,
     0x12]), (.resetDone aHdr (aDone (awaiting [0x11, 0x12]))), .resetDone, (by decide +kernel), no_inbox rfl, rfl,
     (by decide +kernel), rfl, Or.inl ⟨rfl, rfl⟩, rfl, rfl, (by decide +kernel), (by decide +kernel),
     (by decide +kernel)⟩,
   ⟨(awaitsPeers [0x11]), ((awaitsPeers [0x11]).taken
     { hdr := aHdr, body := .partCtl .ctxDone (aDone (awaiting [0x11])) }), aHdr, (aDone (awaiting [0x11])),
     { hdr := aHdr, body := .partCtl .ctxDone (aDone (awaiting [0x11])) }, 0, (awaiting [0x11]), (.ctxDone aHdr (aDone
     (awaiting [0x11]))), .ctxDone, (by decide +kernel), no_inbox rfl, rfl, (by decide +kernel), rfl,
     Or.inr ⟨rfl, rfl⟩, rfl, rfl, (by decide +kernel), (by decide +kernel), (by decide +kernel)⟩⟩

/-- Template writes and refused accesses of the AXI5 subordinate. -/
theorem meets_ApertureAccesses :
    (∃ (s : State) (g : Nat) (host : Bool) (word : BitVec 2) (handle : Handle) (hd : Handle) (data : BitVec 64) (p :
      Nat) (i : Nat) (n : Nat), s.live = true ∧ g < 1024 ∧ p = s.slotPart g ∧ i = handleIndex hd ∧ word = 3) ∧
    (∃ (s : State) (g : Nat) (host : Bool) (word : BitVec 2) (handle : Handle) (hd : Handle) (data : BitVec 64) (p :
      Nat) (i : Nat) (n : Nat), s.live = true ∧ g < 1024 ∧ p = s.slotPart g ∧ i = handleIndex hd ∧ word ≠ 3 ∧ (∀ (q :
      Nat), (s.slot q).stalled = []) ∧ s.slotEmpty g = false ∧ lowestFree 1 16 s.templateNums = some n ∧ (s.slot
      g).fence = none ∧ s.gate p 0 = none ∧ s.translate p handle = some hd ∧ s.stageIsOut 24 = false ∧ handleHub hd =
      s.hub ∧ s.bankOut i = false ∧ s.flips = [] ∧ s.selvedge p (s.epoch p) i false false = Selvedge.pass ∧ s.latched
      p = false ∧ s.templateOk p i word data = true) ∧
    (∃ (s : State) (g : Nat) (host : Bool) (word : BitVec 2) (handle : Handle) (hd : Handle) (data : BitVec 64) (p :
      Nat) (i : Nat) (n : Nat), s.live = true ∧ g < 1024 ∧ p = s.slotPart g ∧ i = handleIndex hd ∧ word ≠ 3 ∧ (∀ (q :
      Nat), (s.slot q).stalled = []) ∧ s.slotEmpty g = false ∧ lowestFree 1 16 s.templateNums = some n ∧ (s.slot
      g).fence = none ∧ s.gate p 0 = none ∧ s.translate p handle = some hd ∧ s.stageIsOut 24 = false ∧ handleHub hd =
      s.hub ∧ s.bankOut i = false ∧ s.flips = [] ∧ s.selvedge p (s.epoch p) i false false = Selvedge.pass ∧ s.latched
      p = false ∧ s.templateOk p i word data = false) ∧
    (∃ (s : State) (why : ApertureFault) (isRead : Bool), s.live = true) ∧
    (∃ (s : State) (why : ApertureFault) (isRead : Bool) (g : Nat), s.live = true ∧ g < 1024 ∧ (isRead = false ∨ why =
      ApertureFault.badTransfer)) ∧
    (∃ (s : State) (why : ApertureFault) (isRead : Bool) (g : Nat), s.live = true ∧ g < 1024 ∧ isRead = true ∧ why ≠
      ApertureFault.badTransfer) ∧
    (∃ (s : State) (why : ApertureFault) (isRead : Bool) (p : Nat), s.live = true ∧ p < 16 ∧ s.partCount ≤ p) ∧
    (∃ (s : State) (why : ApertureFault) (isRead : Bool) (p : Nat), s.live = true ∧ p < 16 ∧ p < s.partCount ∧ (isRead
      = false ∨ why = ApertureFault.badTransfer)) ∧
    (∃ (s : State) (why : ApertureFault) (isRead : Bool) (p : Nat), s.live = true ∧ p < 16 ∧ p < s.partCount ∧ isRead
      = true ∧ why ≠ ApertureFault.badTransfer) :=
  ⟨⟨hub0, 1023, false, 3, 5, 5, 0, 0, 5, 1, (by decide +kernel), (by decide +kernel), (by decide +kernel),
     (by decide +kernel), rfl⟩,
   ⟨aTrigHub, 1023, false, 0, 5, 5, 0, 0, 5, 1, (by decide +kernel), (by decide +kernel), (by decide +kernel),
     (by decide +kernel), (by decide +kernel), (fun _ => rfl), (by decide +kernel), (by decide +kernel),
     (by decide +kernel), (by decide +kernel), (by decide +kernel), (by decide +kernel), (by decide +kernel),
     (by decide +kernel), (by decide +kernel), (by decide +kernel), (by decide +kernel), (by decide +kernel)⟩,
   ⟨hub0, 0, false, 0, 5, 5, 0, 0, 5, 1, (by decide +kernel), (by decide +kernel), (by decide +kernel),
     (by decide +kernel), (by decide +kernel), (fun _ => rfl), (by decide +kernel), (by decide +kernel),
     (by decide +kernel), (by decide +kernel), (by decide +kernel), (by decide +kernel), (by decide +kernel),
     (by decide +kernel), (by decide +kernel), (by decide +kernel), (by decide +kernel), (by decide +kernel)⟩,
   ⟨hub0, .badTransfer, true, (by decide +kernel)⟩,
   ⟨hub0, .badTransfer, true, 1023, (by decide +kernel), (by decide +kernel), (by decide +kernel)⟩,
   ⟨hub0, .readOnly, true, 0, (by decide +kernel), (by decide +kernel), rfl, (by decide +kernel)⟩,
   ⟨hub0, .badTransfer, true, 1, (by decide +kernel), (by decide +kernel), (by decide +kernel)⟩,
   ⟨hub0, .badTransfer, true, 0, (by decide +kernel), (by decide +kernel), (by decide +kernel), (by decide +kernel)⟩,
   ⟨hub16, .x2Size, true, 15, (by decide +kernel), (by decide +kernel), (by decide +kernel), rfl, (by decide +kernel)⟩⟩

/-- Responses to the writes of the AXI5 manager. -/
theorem meets_ManagerWrites :
    (∃ (s : State) (d : State) (w : MgrWrite) (k : Nat) (p : Nat) (n : Nat) (a : State), s.live = true ∧ d =
      ({ s with mgr := s.mgr.erase w } : State).pcount 20 w.partition w.bytes ∧ s.oldestWrite [MgrKind.ticket] = some
      w ∧ k = w.ring ∧ p = w.partition ∧ n = (s.tring k 3 p + 1) % 2 ^ 32 ∧ a = (d.setCfg (9216 + k) 3 p n).act p ∧
      a.tring k 5 p ≠ 0) ∧
    (∃ (s : State) (d : State) (w : MgrWrite) (k : Nat) (p : Nat) (n : Nat) (a : State), s.live = true ∧ d =
      ({ s with mgr := s.mgr.erase w } : State).pcount 20 w.partition w.bytes ∧ s.oldestWrite [MgrKind.ticket] = some
      w ∧ k = w.ring ∧ p = w.partition ∧ n = (s.tring k 3 p + 1) % 2 ^ 32 ∧ a = (d.setCfg (9216 + k) 3 p n).act p ∧
      a.tring k 5 p = 0 ∧ a.tring k 6 p = 0) ∧
    (∃ (s : State) (d : State) (w : MgrWrite) (k : Nat) (p : Nat) (n : Nat) (a : State), s.live = true ∧ d =
      ({ s with mgr := s.mgr.erase w } : State).pcount 20 w.partition w.bytes ∧ s.oldestWrite [MgrKind.ticket] = some
      w ∧ k = w.ring ∧ p = w.partition ∧ n = (s.tring k 3 p + 1) % 2 ^ 32 ∧ a = (d.setCfg (9216 + k) 3 p n).act p ∧
      a.tring k 5 p = 0 ∧ a.tring k 6 p ≠ 0) ∧
    (∃ (s : State) (d : State) (w : MgrWrite), s.live = true ∧ d = ({ s with mgr := s.mgr.erase w } : State).pcount 20
      w.partition w.bytes ∧ s.oldestWrite [MgrKind.mirror] = some w ∧ d.tring w.ring 6 w.partition = 0) ∧
    (∃ (s : State) (d : State) (w : MgrWrite), s.live = true ∧ d = ({ s with mgr := s.mgr.erase w } : State).pcount 20
      w.partition w.bytes ∧ s.oldestWrite [MgrKind.mirror] = some w ∧ d.tring w.ring 6 w.partition ≠ 0) ∧
    (∃ (s : State) (d : State) (w : MgrWrite) (r : Nat) (a : State), s.live = true ∧ d =
      ({ s with mgr := s.mgr.erase w } : State).pcount 20 w.partition w.bytes ∧ s.oldestWrite [MgrKind.notify] = some
      w ∧ r = w.partition ∧ a = d.setCfg (ringIndex r) 3 (ringPart r) ((s.ringCfg r 3 + 1) % 2 ^ 32) ∧ a.ringCfg r 6 =
      0) ∧
    (∃ (s : State) (d : State) (w : MgrWrite) (r : Nat) (a : State), s.live = true ∧ d =
      ({ s with mgr := s.mgr.erase w } : State).pcount 20 w.partition w.bytes ∧ s.oldestWrite [MgrKind.notify] = some
      w ∧ r = w.partition ∧ a = d.setCfg (ringIndex r) 3 (ringPart r) ((s.ringCfg r 3 + 1) % 2 ^ 32) ∧ a.ringCfg r 6 ≠
      0 ∧ s.refLost = false ∧ (a.ring r).lastPulse = none) ∧
    (∃ (s : State) (d : State) (w : MgrWrite) (r : Nat) (a : State), s.live = true ∧ d =
      ({ s with mgr := s.mgr.erase w } : State).pcount 20 w.partition w.bytes ∧ s.oldestWrite [MgrKind.notify] = some
      w ∧ r = w.partition ∧ a = d.setCfg (ringIndex r) 3 (ringPart r) ((s.ringCfg r 3 + 1) % 2 ^ 32) ∧ a.ringCfg r 6 ≠
      0 ∧ s.refLost = true) ∧
    (∃ (s : State) (w : MgrWrite) (f : State) (resp : BitVec 2), s.live = true ∧ 2 ≤ resp.toNat ∧ f = s.writeFailed w
      resp ∧ s.oldestWrite [MgrKind.notify] = some w ∧ w.kind = MgrKind.notify) ∧
    (∃ (s : State) (w : MgrWrite) (f : State) (resp : BitVec 2), s.live = true ∧ 2 ≤ resp.toNat ∧ f = s.writeFailed w
      resp ∧ s.oldestWrite [MgrKind.mirror] = some w ∧ w.kind = MgrKind.mirror ∧ f.tring w.ring 6 w.partition = 0 ∧
      w.ring < 4 ∧ w.partition < 16) ∧
    (∃ (s : State) (w : MgrWrite) (f : State) (resp : BitVec 2), s.live = true ∧ 2 ≤ resp.toNat ∧ f = s.writeFailed w
      resp ∧ s.oldestWrite [MgrKind.folio, MgrKind.inventory] = some w ∧ (w.kind = MgrKind.folio ∨ w.kind =
      MgrKind.inventory)) ∧
    (∃ (s : State) (w : MgrWrite) (f : State) (resp : BitVec 2), s.live = true ∧ 2 ≤ resp.toNat ∧ f = s.writeFailed w
      resp ∧ s.oldestWrite [MgrKind.ticket] = some w ∧ w.kind = MgrKind.ticket ∧ w.ticket = none ∧ s.buffered = []) ∧
    (∃ (s : State) (w : MgrWrite) (f : State) (resp : BitVec 2), s.live = true ∧ 2 ≤ resp.toNat ∧ f = s.writeFailed w
      resp ∧ s.cfg 24624 4 = 0) ∧
    (∃ (s : State) (w : MgrWrite) (f : State) (resp : BitVec 2), s.live = true ∧ 2 ≤ resp.toNat ∧ f = s.writeFailed w
      resp) ∧
    (∃ (s : State) (k : BitVec 2) (resp : BitVec 2), s.live = true ∧ resp.toNat < 2) ∧
    (∃ (s : State), s.live = true) ∧
    (∃ (s : State) (p : Nat), s.live = true ∧ p < 16 ∧ (s.part p).inv.running = false) ∧
    (∃ (s : State) (p : Nat), s.live = true ∧ p < 16 ∧ (s.part p).inv.running = true) :=
  ⟨⟨((writing1 (aWrite .ticket 0 3)).setCfg 9219 5 0 64), (responded ((writing1 (aWrite .ticket 0 3)).setCfg 9219 5 0
     64) (aWrite .ticket 0 3)), (aWrite .ticket 0 3), 3, 0, 1, (((responded ((writing1 (aWrite .ticket 0 3)).setCfg
     9219 5 0 64) (aWrite .ticket 0 3)).setCfg 9219 3 0 1).act 0), (by decide +kernel), rfl, (by decide +kernel),
     (by decide +kernel), (by decide +kernel), (by decide +kernel), rfl, (by decide +kernel)⟩,
   ⟨((writing1 (aWrite .ticket 0 3)).setCfg 9219 5 0 0 |>.setCfg 9219 6 0 0), (responded ((writing1 (aWrite .ticket 0
     3)).setCfg 9219 5 0 0 |>.setCfg 9219 6 0 0) (aWrite .ticket 0 3)), (aWrite .ticket 0 3), 3, 0, 1, (((responded
     ((writing1 (aWrite .ticket 0 3)).setCfg 9219 5 0 0 |>.setCfg 9219 6 0 0) (aWrite .ticket 0 3)).setCfg 9219 3 0
     1).act 0), (by decide +kernel), rfl, (by decide +kernel), (by decide +kernel), (by decide +kernel),
     (by decide +kernel), rfl, (by decide +kernel), (by decide +kernel)⟩,
   ⟨((writing1 (aWrite .ticket 0 3)).setCfg 9219 5 0 0 |>.setCfg 9219 6 0 1), (responded ((writing1 (aWrite .ticket 0
     3)).setCfg 9219 5 0 0 |>.setCfg 9219 6 0 1) (aWrite .ticket 0 3)), (aWrite .ticket 0 3), 3, 0, 1, (((responded
     ((writing1 (aWrite .ticket 0 3)).setCfg 9219 5 0 0 |>.setCfg 9219 6 0 1) (aWrite .ticket 0 3)).setCfg 9219 3 0
     1).act 0), (by decide +kernel), rfl, (by decide +kernel), (by decide +kernel), (by decide +kernel),
     (by decide +kernel), rfl, (by decide +kernel), (by decide +kernel)⟩,
   ⟨((writing1 (aWrite .mirror 0 3)).setCfg 9219 6 0 0), (responded ((writing1 (aWrite .mirror 0 3)).setCfg 9219 6 0
     0) (aWrite .mirror 0 3)), (aWrite .mirror 0 3), (by decide +kernel), rfl, (by decide +kernel),
     (by decide +kernel)⟩,
   ⟨((writing1 (aWrite .mirror 0 3)).setCfg 9219 6 0 1), (responded ((writing1 (aWrite .mirror 0 3)).setCfg 9219 6 0
     1) (aWrite .mirror 0 3)), (aWrite .mirror 0 3), (by decide +kernel), rfl, (by decide +kernel),
     (by decide +kernel)⟩,
   ⟨((writing1 (aWrite .notify 16 0)).setCfg (ringIndex 16) 6 (ringPart 16) 0), (responded ((writing1 (aWrite .notify
     16 0)).setCfg (ringIndex 16) 6 (ringPart 16) 0) (aWrite .notify 16 0)), (aWrite .notify 16 0), 16, ((responded
     ((writing1 (aWrite .notify 16 0)).setCfg (ringIndex 16) 6 (ringPart 16) 0) (aWrite .notify 16 0)).setCfg
     (ringIndex 16) 3 (ringPart 16) (((((writing1 (aWrite .notify 16 0)).setCfg (ringIndex 16) 6 (ringPart 16)
     0).ringCfg 16 3) + 1) % 2 ^ 32)), (by decide +kernel), rfl, (by decide +kernel), (by decide +kernel), rfl,
     (by decide +kernel)⟩,
   ⟨((writing1 (aWrite .notify 16 0)).setCfg (ringIndex 16) 6 (ringPart 16) 1), (responded ((writing1 (aWrite .notify
     16 0)).setCfg (ringIndex 16) 6 (ringPart 16) 1) (aWrite .notify 16 0)), (aWrite .notify 16 0), 16, ((responded
     ((writing1 (aWrite .notify 16 0)).setCfg (ringIndex 16) 6 (ringPart 16) 1) (aWrite .notify 16 0)).setCfg
     (ringIndex 16) 3 (ringPart 16) (((((writing1 (aWrite .notify 16 0)).setCfg (ringIndex 16) 6 (ringPart 16)
     1).ringCfg 16 3) + 1) % 2 ^ 32)), (by decide +kernel), rfl, (by decide +kernel), (by decide +kernel), rfl,
     (by decide +kernel), (by decide +kernel), (by decide +kernel)⟩,
   ⟨(({ writing1 (aWrite .notify 16 0) with refLost := true } : State).setCfg (ringIndex 16) 6 (ringPart 16) 1),
     (responded (({ writing1 (aWrite .notify 16 0) with refLost := true } : State).setCfg (ringIndex 16) 6 (ringPart
     16) 1) (aWrite .notify 16 0)), (aWrite .notify 16 0), 16, ((responded
     (({ writing1 (aWrite .notify 16 0) with refLost := true } : State).setCfg (ringIndex 16) 6 (ringPart 16) 1)
     (aWrite .notify 16 0)).setCfg (ringIndex 16) 3 (ringPart 16)
     ((((({ writing1 (aWrite .notify 16 0) with refLost := true } : State).setCfg (ringIndex 16) 6 (ringPart 16)
     1).ringCfg 16 3) + 1) % 2 ^ 32)), (by decide +kernel), rfl, (by decide +kernel), (by decide +kernel), rfl,
     (by decide +kernel), (by decide +kernel)⟩,
   ⟨(writing1 (aWrite .notify 16 0)), (aWrite .notify 16 0), ((writing1 (aWrite .notify 16 0)).writeFailed (aWrite
     .notify 16 0) 2), 2, (by decide +kernel), (by decide +kernel), rfl, (by decide +kernel), (by decide +kernel)⟩,
   ⟨((writing1 (aWrite .mirror 0 3)).setCfg 9219 6 0 0), (aWrite .mirror 0 3), (((writing1 (aWrite .mirror 0
     3)).setCfg 9219 6 0 0).writeFailed (aWrite .mirror 0 3) 2), 2, (by decide +kernel), (by decide +kernel), rfl,
     (by decide +kernel), (by decide +kernel), (by decide +kernel), (by decide +kernel), (by decide +kernel)⟩,
   ⟨(writing1 (aWrite .inventory 0 0)), (aWrite .inventory 0 0), ((writing1 (aWrite .inventory 0 0)).writeFailed
     (aWrite .inventory 0 0) 2), 2, (by decide +kernel), (by decide +kernel), rfl, (by decide +kernel), Or.inr rfl⟩,
   ⟨(writing1 (aWrite .ticket 0 3)), (aWrite .ticket 0 3), ((writing1 (aWrite .ticket 0 3)).writeFailed (aWrite
     .ticket 0 3) 2), 2, (by decide +kernel), (by decide +kernel), rfl, (by decide +kernel), (by decide +kernel),
     (by decide +kernel), (by decide +kernel)⟩,
   ⟨((writing1 (aWrite .ticket 0 3)).setCfg 24624 4 0 0), (aWrite .ticket 0 3), (((writing1 (aWrite .ticket 0
     3)).setCfg 24624 4 0 0).writeFailed (aWrite .ticket 0 3) 2), 2, (by decide +kernel), (by decide +kernel), rfl,
     (by decide +kernel)⟩,
   ⟨(writing1 (aWrite .ticket 0 3)), (aWrite .ticket 0 3), ((writing1 (aWrite .ticket 0 3)).writeFailed (aWrite
     .ticket 0 3) 2), 2, (by decide +kernel), (by decide +kernel), rfl⟩,
   ⟨(writing1 (aWrite .ticket 0 3)), 3, 1, (by decide +kernel), (by decide +kernel)⟩,
   ⟨hub0, (by decide +kernel)⟩,
   ⟨hub0, 15, (by decide +kernel), (by decide +kernel), (by decide +kernel)⟩,
   ⟨inventoryRuns, 15, (by decide +kernel), (by decide +kernel), (by decide +kernel)⟩⟩

/-- Writes of PartReset, PartContext and PartQuiesceOverride. -/
theorem meets_PartitionWrites :
    (∃ (s : State) (u : State) (h : CatHdr) (w : Who) (p : Nat) (r : ResetSeq) (v : BitVec 8), p = h.partition.toNat ∧
      r = (u.part p).reset ∧ s.writing u h 12304 8 v.toNat w ∧ (v = 0 ∨ r.step ≠ ResetStep.idle)) ∧
    (∃ (s : State) (u : State) (h : CatHdr) (w : Who) (p : Nat) (r : ResetSeq) (v : BitVec 8), p = h.partition.toNat ∧
      r = (u.part p).reset ∧ s.writing u h 12304 8 v.toNat w ∧ v ≠ 0 ∧ r.step = ResetStep.idle) ∧
    (∃ (s : State) (u : State) (h : CatHdr) (w : Who) (p : Nat) (r : ResetSeq) (v : BitVec 8), p = h.partition.toNat ∧
      r = (u.part p).reset ∧ s.writing u h 12304 8 v.toNat w ∧ v ≠ 0 ∧ r.step = ResetStep.idle ∧ u.cfg 12304 7 p = 0 ∧
      u.resetsAtOnce p) ∧
    (∃ (s : State) (u : State) (h : CatHdr) (w : Who) (p : Nat) (r : ResetSeq) (v : BitVec 64), p = h.partition.toNat
      ∧ r = (u.part p).reset ∧ s.writing u h 12304 9 v.toNat w ∧ u.resetting p = true) ∧
    (∃ (s : State) (u : State) (h : CatHdr) (w : Who) (p : Nat) (r : ResetSeq) (v : BitVec 64), p = h.partition.toNat
      ∧ r = (u.part p).reset ∧ s.writing u h 12304 9 v.toNat w ∧ r.step = ResetStep.awaitPeers) ∧
    (∃ (s : State) (u : State) (h : CatHdr) (w : Who) (p : Nat) (r : ResetSeq) (v : BitVec 64), p = h.partition.toNat
      ∧ r = (u.part p).reset ∧ s.writing u h 12304 9 v.toNat w ∧ r.step = ResetStep.idle ∧ u.sweepMode p = true ∧
      u.cfg 12304 7 p = 0 ∧ u.resetsAtOnce p) ∧
    (∃ (s : State) (u : State) (h : CatHdr) (w : Who) (p : Nat) (r : ResetSeq) (v : BitVec 64), p = h.partition.toNat
      ∧ r = (u.part p).reset ∧ s.writing u h 12304 9 v.toNat w ∧ r.step = ResetStep.idle ∧ u.sweepMode p = false ∧
      u.partClean p = true) ∧
    (∃ (s : State) (u : State) (h : CatHdr) (w : Who) (p : Nat) (r : ResetSeq) (v : BitVec 64), p = h.partition.toNat
      ∧ r = (u.part p).reset ∧ s.writing u h 12304 9 v.toNat w ∧ r.step = ResetStep.idle ∧ u.sweepMode p = false ∧
      u.partClean p = false) ∧
    (∃ (s : State) (u : State) (h : CatHdr) (w : Who) (p : Nat) (r : ResetSeq) (v : BitVec 8), p = h.partition.toNat ∧
      r = (u.part p).reset ∧ s.writing u h 12304 13 v.toNat w ∧ (v ≠ 1 ∨ r.step ≠ ResetStep.quiescing ∧ r.step ≠
      ResetStep.ackLow ∧ u.reslice.step ≠ ResliceStep.quiescing)) ∧
    (∃ (s : State) (u : State) (h : CatHdr) (w : Who) (p : Nat) (r : ResetSeq) (v : BitVec 8), p = h.partition.toNat ∧
      r = (u.part p).reset ∧ s.writing u h 12304 13 v.toNat w ∧ v = 1 ∧ r.step = ResetStep.quiescing ∧ u.reslice.step
      = ResliceStep.idle ∧ r.askers = []) :=
  ⟨⟨hub0, ((hub0).opened (fromApb 0) 12304 8 0), (fromApb 0), operator, 0, {}, 0, (by decide +kernel), rfl,
     ⟨⟨⟨rfl, fun _ => rfl, fun h => absurd rfl h, by decide +kernel, by decide +kernel⟩, by decide +kernel⟩, rfl⟩,
     Or.inl rfl⟩,
   ⟨hub16, ((hub16).opened (fromApb 15) 12304 8 1), (fromApb 15), operator, 15, {}, 1, (by decide +kernel), rfl,
     ⟨⟨⟨rfl, fun _ => rfl, fun h => absurd rfl h, by decide +kernel, by decide +kernel⟩, by decide +kernel⟩, rfl⟩,
     (by decide +kernel), (by decide +kernel)⟩,
   ⟨partHub, ((partHub).opened (fromApb 0) 12304 8 1), (fromApb 0), operator, 0, {}, 1, (by decide +kernel), rfl,
     ⟨⟨⟨rfl, fun _ => rfl, fun h => absurd rfl h, by decide +kernel, by decide +kernel⟩, by decide +kernel⟩, rfl⟩,
     (by decide +kernel), (by decide +kernel), (by decide +kernel), resets_hub0⟩,
   ⟨resetting0, ((resetting0).opened (fromApb 0) 12304 9 77), (fromApb 0), operator, 0, { step := .quiescing }, 77,
     (by decide +kernel), rfl,
     ⟨⟨⟨rfl, fun _ => rfl, fun h => absurd rfl h, by decide +kernel, by decide +kernel⟩, by decide +kernel⟩, rfl⟩,
     (by decide +kernel)⟩,
   ⟨(awaitsPeers [0x11]), ((awaitsPeers [0x11]).opened (fromApb 0) 12304 9 77), (fromApb 0), operator, 0, (awaiting
     [0x11]), 77, (by decide +kernel), rfl,
     ⟨⟨⟨rfl, fun _ => rfl, fun h => absurd rfl h, by decide +kernel, by decide +kernel⟩, by decide +kernel⟩, rfl⟩,
     (by decide +kernel)⟩,
   ⟨sweepHub, ((sweepHub).opened (fromApb 0) 12304 9 77), (fromApb 0), operator, 0, {}, 77, (by decide +kernel), rfl,
     ⟨⟨⟨rfl, fun _ => rfl, fun h => absurd rfl h, by decide +kernel, by decide +kernel⟩, by decide +kernel⟩, rfl⟩,
     (by decide +kernel), (by decide +kernel), (by decide +kernel), resets_hub0⟩,
   ⟨aloneHub, ((aloneHub).opened (fromApb 0) 12304 9 77), (fromApb 0), operator, 0, {}, 77, (by decide +kernel), rfl,
     ⟨⟨⟨rfl, fun _ => rfl, fun h => absurd rfl h, by decide +kernel, by decide +kernel⟩, by decide +kernel⟩, rfl⟩,
     (by decide +kernel), alone_sweep rfl rfl rfl rfl rfl, (by decide +kernel)⟩,
   ⟨((aloneHub.setObj 5 aTrig)), (((aloneHub.setObj 5 aTrig)).opened (fromApb 0) 12304 9 77), (fromApb 0), operator,
     0, {}, 77, (by decide +kernel), rfl,
     ⟨⟨⟨rfl, fun _ => rfl, fun h => absurd rfl h, by decide +kernel, by decide +kernel⟩, by decide +kernel⟩, rfl⟩,
     (by decide +kernel), alone_sweep rfl rfl rfl rfl rfl, (by decide +kernel)⟩,
   ⟨hub0, ((hub0).opened (fromApb 0) 12304 13 0), (fromApb 0), operator, 0, {}, 0, (by decide +kernel), rfl,
     ⟨⟨⟨rfl, fun _ => rfl, fun h => absurd rfl h, by decide +kernel, by decide +kernel⟩, by decide +kernel⟩, rfl⟩,
     Or.inl (by decide)⟩,
   ⟨resetting0, ((resetting0).opened (fromApb 0) 12304 13 1), (fromApb 0), operator, 0, { step := .quiescing }, 1,
     (by decide +kernel), rfl,
     ⟨⟨⟨rfl, fun _ => rfl, fun h => absurd rfl h, by decide +kernel, by decide +kernel⟩, by decide +kernel⟩, rfl⟩,
     rfl, (by decide +kernel), (by decide +kernel), (by decide +kernel)⟩⟩

/-- Writes of a reslice, of ports, of faults and of holds. -/
theorem meets_ResliceFaultAndHoldWrites :
    (∃ (s : State) (u : State) (h : CatHdr) (w : Who) (v : BitVec 8), s.writing u h 12288 2 v.toNat w ∧ (¬v.toNat ∈
      [1, 2, 4, 8, 16] ∨ v.toNat = u.partCount ∨ u.reslice.step ≠ ResliceStep.idle ∨ ∃ x, x ∈ u.parts ∧
      x.snd.reset.step ≠ ResetStep.idle)) ∧
    (∃ (s : State) (u : State) (h : CatHdr) (w : Who) (v : BitVec 8), s.writing u h 12288 2 v.toNat w ∧ v.toNat ∈ [1,
      2, 4, 8, 16] ∧ v.toNat ≠ u.partCount ∧ u.reslice.step = ResliceStep.idle ∧ (∀ (x : Nat × Part), x ∈ u.parts →
      x.snd.reset.step = ResetStep.idle)) ∧
    (∃ (s : State) (u : State) (h : CatHdr) (w : Who) (v : BitVec 8), s.writing u h 12288 4 v.toNat w ∧ (v ≠ 1 ∨
      u.reslice.step = ResliceStep.idle)) ∧
    (∃ (s : State) (u : State) (h : CatHdr) (w : Who) (v : BitVec 8), s.writing u h 12288 4 v.toNat w ∧ v = 1 ∧
      (u.reslice.step = ResliceStep.draining ∨ u.reslice.step = ResliceStep.quiescing)) ∧
    (∃ (s : State) (u : State) (h : CatHdr) (w : Who) (v : BitVec 8) (q : Nat) (i : BitVec 16), q < 128 ∧ i =
      BitVec.ofNat 16 (12544 + q) ∧ s.writing u h i 1 v.toNat w ∧ ((u.port q).rstLow = false ∨ v ≠ 255 ∧ u.partCount ≤
      v.toNat)) ∧
    (∃ (s : State) (u : State) (h : CatHdr) (w : Who) (v : BitVec 8) (q : Nat) (i : BitVec 16), q < 128 ∧ i =
      BitVec.ofNat 16 (12544 + q) ∧ s.writing u h i 1 v.toNat w ∧ (u.port q).rstLow = true ∧ (v = 255 ∨ v.toNat <
      u.partCount)) ∧
    (∃ (s : State) (u : State) (h : CatHdr) (w : Who) (v : BitVec 8) (p : Nat), p = h.partition.toNat ∧ s.writing u h
      28720 4 v.toNat w ∧ v = 0) ∧
    (∃ (s : State) (u : State) (h : CatHdr) (w : Who) (v : BitVec 8) (p : Nat), p = h.partition.toNat ∧ s.writing u h
      28720 4 v.toNat w ∧ v ≠ 0) ∧
    (∃ (s : State) (u : State) (h : CatHdr) (w : Who) (v : BitVec 8) (p : Nat), p = h.partition.toNat ∧ s.writing u h
      24656 1 v.toNat w ∧ (u.part p).hold.held = true) ∧
    (∃ (s : State) (u : State) (h : CatHdr) (w : Who) (v : BitVec 8) (p : Nat), p = h.partition.toNat ∧ s.writing u h
      24656 1 v.toNat w ∧ (u.part p).hold.held = false ∧ v.getLsbD 0 = false) ∧
    (∃ (s : State) (u : State) (h : CatHdr) (w : Who) (v : BitVec 8) (p : Nat) (y : State) (ns : List HubId), p =
      h.partition.toNat ∧ s.writing u h 24656 1 v.toNat w ∧ (u.part p).hold.held = false ∧ v.getLsbD 0 = true ∧ y =
      u.holdHere p ∧ ns = List.filter (fun d => y.reachableAt d 2) (y.namedHubs p) ∧ ns ≠ []) ∧
    (∃ (s : State) (u : State) (h : CatHdr) (w : Who) (v : BitVec 8) (p : Nat), p = h.partition.toNat ∧ s.writing u h
      24656 2 v.toNat w ∧ v.getLsbD 0 = false) :=
  ⟨⟨hub0, ((hub0).opened (fromApb 0) 12288 2 3), (fromApb 0), operator, 3,
     ⟨⟨⟨rfl, fun _ => rfl, fun h => absurd rfl h, by decide +kernel, by decide +kernel⟩, by decide +kernel⟩, rfl⟩,
     Or.inl (by decide)⟩,
   ⟨hub0, ((hub0).opened (fromApb 0) 12288 2 16), (fromApb 0), operator, 16,
     ⟨⟨⟨rfl, fun _ => rfl, fun h => absurd rfl h, by decide +kernel, by decide +kernel⟩, by decide +kernel⟩, rfl⟩,
     (by decide +kernel), (by decide +kernel), (by decide +kernel), (fun _ h => nomatch h)⟩,
   ⟨hub0, ((hub0).opened (fromApb 0) 12288 4 0), (fromApb 0), operator, 0,
     ⟨⟨⟨rfl, fun _ => rfl, fun h => absurd rfl h, by decide +kernel, by decide +kernel⟩, by decide +kernel⟩, rfl⟩,
     Or.inl (by decide)⟩,
   ⟨slicing, ((slicing).opened (fromApb 0) 12288 4 1), (fromApb 0), operator, 1,
     ⟨⟨⟨rfl, fun _ => rfl, fun h => absurd rfl h, by decide +kernel, by decide +kernel⟩, by decide +kernel⟩, rfl⟩,
     rfl, Or.inr rfl⟩,
   ⟨hub0, ((hub0).opened (fromApb 0) 12671 1 0), (fromApb 0), operator, 0, 127, 12671, (by decide +kernel),
     (by decide +kernel),
     ⟨⟨⟨rfl, fun _ => rfl, fun h => absurd rfl h, by decide +kernel, by decide +kernel⟩, by decide +kernel⟩, rfl⟩,
     Or.inl rfl⟩,
   ⟨heldPort, ((heldPort).opened (fromApb 0) 12671 1 255), (fromApb 0), operator, 255, 127, 12671,
     (by decide +kernel), (by decide +kernel),
     ⟨⟨⟨rfl, fun _ => rfl, fun h => absurd rfl h, by decide +kernel, by decide +kernel⟩, by decide +kernel⟩, rfl⟩,
     (by decide +kernel), Or.inl rfl⟩,
   ⟨hub0, ((hub0).opened (fromApb 0) 28720 4 0), (fromApb 0), operator, 0, 0, (by decide +kernel),
     ⟨⟨⟨rfl, fun _ => rfl, fun h => absurd rfl h, by decide +kernel, by decide +kernel⟩, by decide +kernel⟩, rfl⟩,
     rfl⟩,
   ⟨hub16, ((hub16).opened (fromApb 15) 28720 4 1), (fromApb 15), operator, 1, 15, (by decide +kernel),
     ⟨⟨⟨rfl, fun _ => rfl, fun h => absurd rfl h, by decide +kernel, by decide +kernel⟩, by decide +kernel⟩, rfl⟩,
     (by decide +kernel)⟩,
   ⟨heldPart, ((heldPart).opened (fromApb 0) 24656 1 1), (fromApb 0), operator, 1, 0, (by decide +kernel),
     ⟨⟨⟨rfl, fun _ => rfl, fun h => absurd rfl h, by decide +kernel, by decide +kernel⟩, by decide +kernel⟩, rfl⟩,
     (by decide +kernel)⟩,
   ⟨hub0, ((hub0).opened (fromApb 0) 24656 1 254), (fromApb 0), operator, 254, 0, (by decide +kernel),
     ⟨⟨⟨rfl, fun _ => rfl, fun h => absurd rfl h, by decide +kernel, by decide +kernel⟩, by decide +kernel⟩, rfl⟩,
     (by decide +kernel), (by decide +kernel)⟩,
   ⟨namesOthers, ((namesOthers).opened (fromApb 0) 24656 1 1), (fromApb 0), operator, 1, 0, (((namesOthers).opened
     (fromApb 0) 24656 1 1).holdHere 0), ((((namesOthers).opened (fromApb 0) 24656 1 1).holdHere 0).namedHubs 0
     |>.filter (fun d => (((namesOthers).opened (fromApb 0) 24656 1 1).holdHere 0).reachableAt d 2)),
     (by decide +kernel),
     ⟨⟨⟨rfl, fun _ => rfl, fun h => absurd rfl h, by decide +kernel, by decide +kernel⟩, by decide +kernel⟩, rfl⟩,
     (by decide +kernel), (by decide +kernel), rfl, rfl, (by decide +kernel)⟩,
   ⟨hub0, ((hub0).opened (fromApb 0) 24656 2 0), (fromApb 0), operator, 0, 0, (by decide +kernel),
     ⟨⟨⟨rfl, fun _ => rfl, fun h => absurd rfl h, by decide +kernel, by decide +kernel⟩, by decide +kernel⟩, rfl⟩,
     (by decide +kernel)⟩⟩

/-- Writes that cancel waits, recall loans, clear and order locks. -/
theorem meets_ObjectWrites :
    (∃ (s : State) (u : State) (h : CatHdr) (w : Who) (p : Nat) (v : BitVec 32), p = h.partition.toNat ∧ s.writing u h
      10240 1 v.toNat w ∧ u.translate p v = none) ∧
    (∃ (s : State) (u : State) (h : CatHdr) (w : Who) (p : Nat) (v : BitVec 32) (a : Handle), p = h.partition.toNat ∧
      s.writing u h 10240 1 v.toNat w ∧ u.translate p v = some a ∧ handleHub a = u.hub ∧ (∀ (k : Waiter), k ∈ u.queue
      (handleIndex a) → k.cancels = false)) ∧
    (∃ (s : State) (u : State) (h : CatHdr) (w : Who) (p : Nat) (v : BitVec 32) (a : Handle) (k : Waiter), p =
      h.partition.toNat ∧ s.writing u h 10240 1 v.toNat w ∧ u.translate p v = some a ∧ handleHub a = u.hub ∧ u.queue
      (handleIndex a) = [k] ∧ List.find? (fun q => decide (q.num = k.num)) u.waiters = some k ∧ k.kind =
      WaiterKind.queued ∧ k.source = srcPort ∧ origHub k.originator = u.hub ∧ k.flags.noresp = false) ∧
    (∃ (s : State) (u : State) (h : CatHdr) (w : Who) (p : Nat) (v : BitVec 32) (o : Originator) (q : Nat), p =
      h.partition.toNat ∧ s.writing u h 10240 2 v.toNat w ∧ o = BitVec.setWidth 25 v ∧ q = (getFld o 3 7).toNat ∧
      (¬(origHub o = u.hub ∧ u.portBuilt q = true ∧ u.portPart q = p))) ∧
    (∃ (s : State) (u : State) (h : CatHdr) (w : Who) (p : Nat) (v : BitVec 32) (o : Originator) (q : Nat), p =
      h.partition.toNat ∧ s.writing u h 10240 2 v.toNat w ∧ o = BitVec.setWidth 25 v ∧ q = (getFld o 3 7).toNat ∧
      origHub o = u.hub ∧ u.portBuilt q = true ∧ u.portPart q = p ∧ (∀ (k : Waiter), k ∈ u.waiters → k.originator ≠
      o)) ∧
    (∃ (s : State) (u : State) (h : CatHdr) (w : Who) (p : Nat) (v : BitVec 32) (o : Originator) (q : Nat) (k :
      Waiter), p = h.partition.toNat ∧ s.writing u h 10240 2 v.toNat w ∧ o = BitVec.setWidth 25 v ∧ q = (getFld o 3
      7).toNat ∧ origHub o = u.hub ∧ u.portBuilt q = true ∧ u.portPart q = p ∧ List.filter (fun k => decide
      (k.originator = o) && decide (k.source = srcPort) && k.cancels) u.waiters = [k] ∧ u.queue k.object = [k] ∧
      List.find? (fun q => decide (q.num = k.num)) u.waiters = some k ∧ k.kind = WaiterKind.queued ∧ k.flags.noresp =
      false) ∧
    (∃ (s : State) (u : State) (h : CatHdr) (w : Who) (p : Nat) (v : BitVec 32), p = h.partition.toNat ∧ s.writing u h
      8960 6 v.toNat w ∧ u.translate p v = none) ∧
    (∃ (s : State) (u : State) (h : CatHdr) (w : Who) (p : Nat) (v : BitVec 32) (a : Handle) (i : Nat), p =
      h.partition.toNat ∧ s.writing u h 8960 6 v.toNat w ∧ u.translate p v = some a ∧ i = handleIndex a ∧ (¬(handleHub
      a = u.hub ∧ (u.obj i).loanable = true ∧ (u.obj i).partition.toNat = p ∧ u.isBody i = false))) ∧
    (∃ (s : State) (u : State) (h : CatHdr) (w : Who) (p : Nat) (v : BitVec 32) (a : Handle) (i : Nat), p =
      h.partition.toNat ∧ s.writing u h 8960 6 v.toNat w ∧ u.translate p v = some a ∧ i = handleIndex a ∧ handleHub a
      = u.hub ∧ (u.obj i).loanable = true ∧ (u.obj i).partition.toNat = p ∧ u.isBody i = false ∧ List.filter (fun e =>
      decide (e.token = i)) u.lenders = []) ∧
    (∃ (s : State) (u : State) (h : CatHdr) (w : Who) (p : Nat) (v : BitVec 32) (a : Handle) (i : Nat) (e : Lender), p
      = h.partition.toNat ∧ s.writing u h 8960 6 v.toNat w ∧ u.translate p v = some a ∧ i = handleIndex a ∧ handleHub
      a = u.hub ∧ (u.obj i).loanable = true ∧ (u.obj i).partition.toNat = p ∧ u.isBody i = false ∧ List.filter (fun e
      => decide (e.token = i)) u.lenders = [e] ∧ e.state = LoanState.opened) ∧
    (∃ (s : State) (u : State) (h : CatHdr) (w : Who) (p : Nat) (v : BitVec 32), p = h.partition.toNat ∧ s.writing u h
      9472 1 v.toNat w ∧ u.translate p v = none) ∧
    (∃ (s : State) (u : State) (h : CatHdr) (w : Who) (p : Nat) (v : BitVec 32) (a : Handle) (i : Nat), p =
      h.partition.toNat ∧ s.writing u h 9472 1 v.toNat w ∧ u.translate p v = some a ∧ i = handleIndex a ∧ (¬(handleHub
      a = u.hub ∧ (u.obj i).otype = ObjType.lock ∧ (u.obj i).partition.toNat = p ∧ u.isBody i = false))) ∧
    (∃ (s : State) (u : State) (h : CatHdr) (w : Who) (p : Nat) (v : BitVec 32) (a : Handle) (i : Nat), p =
      h.partition.toNat ∧ s.writing u h 9472 1 v.toNat w ∧ u.translate p v = some a ∧ i = handleIndex a ∧ handleHub a
      = u.hub ∧ (u.obj i).otype = ObjType.lock ∧ (u.obj i).partition.toNat = p ∧ u.isBody i = false) ∧
    (∃ (s : State) (u : State) (h : CatHdr) (w : Who) (p : Nat) (v : BitVec 8) (g : Nat) (j : BitVec 16) (x : State),
      p = h.partition.toNat ∧ g < 256 ∧ j = BitVec.ofNat 16 (16384 + g) ∧ s.writing u h j 4 v.toNat w ∧ x = u.setCfg
      (16384 + g) 4 0 v.toNat ∧ (u.cfg (16384 + g) 4 = v.toNat ∨ ∀ (y : Nat × ObjRec), y ∈ u.objs → ¬(y.snd.otype =
      ObjType.lock ∧ y.snd.group.toNat = g))) ∧
    (∃ (s : State) (u : State) (h : CatHdr) (w : Who) (p : Nat) (v : BitVec 8) (g : Nat) (j : BitVec 16) (x : State)
      (i : Nat), p = h.partition.toNat ∧ g < 256 ∧ j = BitVec.ofNat 16 (16384 + g) ∧ s.writing u h j 4 v.toNat w ∧ x =
      u.setCfg (16384 + g) 4 0 v.toNat ∧ u.cfg (16384 + g) 4 ≠ v.toNat ∧ List.map Prod.fst (List.filter (fun y =>
      decide (y.snd.otype = ObjType.lock) && decide (y.snd.group.toNat = g)) u.objs) = [i] ∧ (u.obj i).otype =
      ObjType.lock ∧ (u.obj i).group.toNat = g ∧ (v = 1 ∨ (u.obj i).inhPrio = 0)) :=
  ⟨⟨aloneHub, ((aloneHub).opened (fromApb 0) 10240 1 1048576), (fromApb 0), operator, 0, 1048576, (by decide +kernel),
     ⟨⟨⟨rfl, fun _ => rfl, fun h => absurd rfl h, by decide +kernel, by decide +kernel⟩, by decide +kernel⟩, rfl⟩,
     (by decide +kernel)⟩,
   ⟨hub0, ((hub0).opened (fromApb 0) 10240 1 5), (fromApb 0), operator, 0, 5, 5, (by decide +kernel),
     ⟨⟨⟨rfl, fun _ => rfl, fun h => absurd rfl h, by decide +kernel, by decide +kernel⟩, by decide +kernel⟩, rfl⟩,
     (by decide +kernel), (by decide +kernel),
     (by intro k hk; have e : ((hub0.opened (fromApb 0) 10240 1 5).queue 5) = [] := rfl; rw [show handleIndex 5 = 5 by decide, e] at hk; cases hk)⟩,
   ⟨(oneWaiter aQueued), ((oneWaiter aQueued).opened (fromApb 0) 10240 1 5), (fromApb 0), operator, 0, 5, 5, aQueued,
     (by decide +kernel),
     ⟨⟨⟨rfl, fun _ => rfl, fun h => absurd rfl h, by decide +kernel, by decide +kernel⟩, by decide +kernel⟩, rfl⟩,
     (by decide +kernel), (by decide +kernel), (by decide +kernel), (by decide +kernel), (by decide +kernel),
     (by decide +kernel), (by decide +kernel), (by decide +kernel)⟩,
   ⟨hub0, ((hub0).opened (fromApb 0) 10240 2 16777216), (fromApb 0), operator, 0, 16777216, 16777216, 0,
     (by decide +kernel),
     ⟨⟨⟨rfl, fun _ => rfl, fun h => absurd rfl h, by decide +kernel, by decide +kernel⟩, by decide +kernel⟩, rfl⟩,
     (by decide +kernel), (by decide +kernel), (by decide +kernel)⟩,
   ⟨hub0, ((hub0).opened (fromApb 0) 10240 2 8), (fromApb 0), operator, 0, 8, 8, 1, (by decide +kernel),
     ⟨⟨⟨rfl, fun _ => rfl, fun h => absurd rfl h, by decide +kernel, by decide +kernel⟩, by decide +kernel⟩, rfl⟩,
     (by decide +kernel), (by decide +kernel), (by decide +kernel), (by decide +kernel), (by decide +kernel),
     (by intro k hk; cases hk)⟩,
   ⟨(oneWaiter aQueued), ((oneWaiter aQueued).opened (fromApb 0) 10240 2 0), (fromApb 0), operator, 0, 0, 0, 0,
     aQueued, (by decide +kernel),
     ⟨⟨⟨rfl, fun _ => rfl, fun h => absurd rfl h, by decide +kernel, by decide +kernel⟩, by decide +kernel⟩, rfl⟩,
     (by decide +kernel), (by decide +kernel), (by decide +kernel), (by decide +kernel), (by decide +kernel),
     (by decide +kernel), (by decide +kernel), (by decide +kernel), (by decide +kernel), (by decide +kernel)⟩,
   ⟨aloneHub, ((aloneHub).opened (fromApb 0) 8960 6 1048576), (fromApb 0), operator, 0, 1048576, (by decide +kernel),
     ⟨⟨⟨rfl, fun _ => rfl, fun h => absurd rfl h, by decide +kernel, by decide +kernel⟩, by decide +kernel⟩, rfl⟩,
     (by decide +kernel)⟩,
   ⟨hub0, ((hub0).opened (fromApb 0) 8960 6 5), (fromApb 0), operator, 0, 5, 5, 5, (by decide +kernel),
     ⟨⟨⟨rfl, fun _ => rfl, fun h => absurd rfl h, by decide +kernel, by decide +kernel⟩, by decide +kernel⟩, rfl⟩,
     (by decide +kernel), (by decide +kernel), (by decide +kernel)⟩,
   ⟨(withObj aLoanToken), ((withObj aLoanToken).opened (fromApb 0) 8960 6 5), (fromApb 0), operator, 0, 5, 5, 5,
     (by decide +kernel),
     ⟨⟨⟨rfl, fun _ => rfl, fun h => absurd rfl h, by decide +kernel, by decide +kernel⟩, by decide +kernel⟩, rfl⟩,
     (by decide +kernel), (by decide +kernel), (by decide +kernel), (by decide +kernel), (by decide +kernel),
     (by decide +kernel), (by decide +kernel)⟩,
   ⟨(lending aLender), ((lending aLender).opened (fromApb 0) 8960 6 5), (fromApb 0), operator, 0, 5, 5, 5, aLender,
     (by decide +kernel),
     ⟨⟨⟨rfl, fun _ => rfl, fun h => absurd rfl h, by decide +kernel, by decide +kernel⟩, by decide +kernel⟩, rfl⟩,
     (by decide +kernel), (by decide +kernel), (by decide +kernel), (by decide +kernel), (by decide +kernel),
     (by decide +kernel), (by decide +kernel), (by decide +kernel)⟩,
   ⟨aloneHub, ((aloneHub).opened (fromApb 0) 9472 1 1048576), (fromApb 0), operator, 0, 1048576, (by decide +kernel),
     ⟨⟨⟨rfl, fun _ => rfl, fun h => absurd rfl h, by decide +kernel, by decide +kernel⟩, by decide +kernel⟩, rfl⟩,
     (by decide +kernel)⟩,
   ⟨hub0, ((hub0).opened (fromApb 0) 9472 1 5), (fromApb 0), operator, 0, 5, 5, 5, (by decide +kernel),
     ⟨⟨⟨rfl, fun _ => rfl, fun h => absurd rfl h, by decide +kernel, by decide +kernel⟩, by decide +kernel⟩, rfl⟩,
     (by decide +kernel), (by decide +kernel), (by decide +kernel)⟩,
   ⟨(withObj aLock), ((withObj aLock).opened (fromApb 0) 9472 1 5), (fromApb 0), operator, 0, 5, 5, 5,
     (by decide +kernel),
     ⟨⟨⟨rfl, fun _ => rfl, fun h => absurd rfl h, by decide +kernel, by decide +kernel⟩, by decide +kernel⟩, rfl⟩,
     (by decide +kernel), (by decide +kernel), (by decide +kernel), (by decide +kernel), (by decide +kernel),
     (by decide +kernel)⟩,
   ⟨hub0, ((hub0).opened (fromApb 0) 16639 4 1), (fromApb 0), operator, 0, 1, 255, 16639, (((hub0).opened (fromApb 0)
     16639 4 1).setCfg 16639 4 0 1), (by decide +kernel), (by decide +kernel), (by decide +kernel),
     ⟨⟨⟨rfl, fun _ => rfl, fun h => absurd rfl h, by decide +kernel, by decide +kernel⟩, by decide +kernel⟩, rfl⟩,
     rfl, Or.inr (by intro y hy; cases hy)⟩,
   ⟨(withObj aLock), ((withObj aLock).opened (fromApb 0) 16384 4 1), (fromApb 0), operator, 0, 1, 0, 16384, (((withObj
     aLock).opened (fromApb 0) 16384 4 1).setCfg 16384 4 0 1), 5, (by decide +kernel), (by decide +kernel),
     (by decide +kernel),
     ⟨⟨⟨rfl, fun _ => rfl, fun h => absurd rfl h, by decide +kernel, by decide +kernel⟩, by decide +kernel⟩, rfl⟩,
     rfl, (by decide +kernel), (by decide +kernel), (by decide +kernel), (by decide +kernel), Or.inl rfl⟩⟩

/-- Writes of event bindings, fault injection and views. -/
theorem meets_BindingInjectionAndViewWrites :
    (∃ (s : State) (u : State) (h : CatHdr) (w : Who) (i : Nat) (n : Nat) (sub : BitVec 8) (j : BitVec 16) (v : BitVec
      32) (x : State), i < 16 ∧ (sub = 2 ∨ sub = 3 ∨ sub = 4 ∨ sub = 5) ∧ j = BitVec.ofNat 16 (9728 + i) ∧ s.writing u
      h j sub v.toNat w ∧ (n = if sub = 5 then v.toNat else v.toNat % 256) ∧ x = (u.setCfg (9728 + i) sub.toNat 0
      n).setEv i ({ u.ev i with applied := false, deferred := false, changes := 0 }) ∧ (u.ev i).deferred = false) ∧
    (∃ (s : State) (u : State) (h : CatHdr) (w : Who) (i : Nat) (n : Nat) (sub : BitVec 8) (j : BitVec 16) (v : BitVec
      32) (x : State), i < 16 ∧ (sub = 2 ∨ sub = 3 ∨ sub = 4 ∨ sub = 5) ∧ j = BitVec.ofNat 16 (9728 + i) ∧ s.writing u
      h j sub v.toNat w ∧ (n = if sub = 5 then v.toNat else v.toNat % 256) ∧ x = (u.setCfg (9728 + i) sub.toNat 0
      n).setEv i ({ u.ev i with applied := false, deferred := false, changes := 0 }) ∧ (u.ev i).deferred = true) ∧
    (∃ (s : State) (u : State) (h : CatHdr) (w : Who) (v : BitVec 8) (sel : Nat) (k : StoreWord), s.writing u h 28736
      2 v.toNat w ∧ sel = u.cfg 28736 1 ∧ 1 ≤ v.toNat ∧ v.toNat ≤ 3 ∧ sel / 2 ^ 26 ≠ 8 ∧ injectWord sel = some k ∧
      u.flips = []) ∧
    (∃ (s : State) (u : State) (h : CatHdr) (w : Who) (v : BitVec 8) (sel : Nat), s.writing u h 28736 2 v.toNat w ∧
      sel = u.cfg 28736 1 ∧ 1 ≤ v.toNat ∧ v.toNat ≤ 3 ∧ sel / 2 ^ 26 ≠ 8 ∧ injectWord sel = none) ∧
    (∃ (s : State) (u : State) (h : CatHdr) (w : Who) (v : BitVec 8) (sel : Nat) (q : Nat), s.writing u h 28736 2
      v.toNat w ∧ sel = u.cfg 28736 1 ∧ 1 ≤ v.toNat ∧ v.toNat ≤ 3 ∧ sel / 2 ^ 26 = 8 ∧ q = sel / 64 % 128 ∧ sel % 2 ^
      26 < 2 ^ 13 ∧ u.portBuilt q = true ∧ Sparse.get natNone (u.port q).nearFlips (sel % 64) = 0) ∧
    (∃ (s : State) (u : State) (h : CatHdr) (w : Who) (v : BitVec 8) (sel : Nat) (q : Nat), s.writing u h 28736 2
      v.toNat w ∧ sel = u.cfg 28736 1 ∧ 1 ≤ v.toNat ∧ v.toNat ≤ 3 ∧ sel / 2 ^ 26 = 8 ∧ q = sel / 64 % 128 ∧ (2 ^ 13 ≤
      sel % 2 ^ 26 ∨ u.portBuilt q = false)) ∧
    (∃ (s : State) (u : State) (h : CatHdr) (w : Who) (sel : Nat), s.writing u h 28736 2 4 w ∧ sel = u.cfg 28736 1 ∧
      (¬(sel / 2 ^ 26 = 16 ∧ u.stageBuilt (sel % 32) = true))) ∧
    (∃ (s : State) (u : State) (h : CatHdr) (w : Who) (sel : Nat), s.writing u h 28736 2 4 w ∧ sel = u.cfg 28736 1 ∧
      sel / 2 ^ 26 = 16 ∧ u.stageBuilt (sel % 32) = true ∧ u.stuck.contains (sel % 32) = false) ∧
    (∃ (s : State) (u : State) (h : CatHdr) (w : Who) (v : BitVec 32) (k : Nat) (n : Nat) (j : BitVec 16) (q : Nat), k
      < 64 ∧ j = BitVec.ofNat 16 (32768 + 256 * k) ∧ s.writing u h j 1 v.toNat w ∧ n = v.toNat &&& 4294049791 ∧
      n.testBit 31 = true ∧ q = n / 2 ^ 24 % 128 ∧ w.operator = false ∧ (u.portBuilt q = false ∨ u.portPart q ≠
      w.part)) ∧
    (∃ (s : State) (u : State) (h : CatHdr) (w : Who) (v : BitVec 32) (k : Nat) (n : Nat) (j : BitVec 16) (q : Nat), k
      < 64 ∧ j = BitVec.ofNat 16 (32768 + 256 * k) ∧ s.writing u h j 1 v.toNat w ∧ n = v.toNat &&& 4294049791 ∧
      n.testBit 31 = true ∧ q = n / 2 ^ 24 % 128 ∧ w.operator = true ∧ u.portBuilt q = false) ∧
    (∃ (s : State) (u : State) (h : CatHdr) (w : Who) (v : BitVec 32) (k : Nat) (n : Nat) (j : BitVec 16) (q : Nat), k
      < 64 ∧ j = BitVec.ofNat 16 (32768 + 256 * k) ∧ s.writing u h j 1 v.toNat w ∧ n = v.toNat &&& 4294049791 ∧
      n.testBit 31 = true ∧ q = n / 2 ^ 24 % 128 ∧ u.portBuilt q = true ∧ (w.operator = true ∨ u.portPart q = w.part)
      ∧ Sparse.get natNone (u.port q).nearFlips (n % 64) = 0) ∧
    (∃ (s : State) (u : State) (h : CatHdr) (w : Who) (v : BitVec 32) (k : Nat) (n : Nat) (j : BitVec 16) (q : Nat) (i
      : Nat), k < 64 ∧ j = BitVec.ofNat 16 (32768 + 256 * k) ∧ s.writing u h j 1 v.toNat w ∧ n = v.toNat &&&
      4294049791 ∧ n.testBit 31 = false ∧ q = n / 2 ^ 20 % 16 ∧ i = u.shareBase q + n % 2 ^ 17 ∧ w.operator = false ∧
      q ≠ w.part) ∧
    (∃ (s : State) (u : State) (h : CatHdr) (w : Who) (v : BitVec 32) (k : Nat) (n : Nat) (j : BitVec 16) (q : Nat) (i
      : Nat), k < 64 ∧ j = BitVec.ofNat 16 (32768 + 256 * k) ∧ s.writing u h j 1 v.toNat w ∧ n = v.toNat &&&
      4294049791 ∧ n.testBit 31 = false ∧ q = n / 2 ^ 20 % 16 ∧ i = u.shareBase q + n % 2 ^ 17 ∧ (w.operator = true ∨
      q = w.part) ∧ (u.partCount ≤ q ∨ u.shareSize ≤ n % 2 ^ 17)) ∧
    (∃ (s : State) (u : State) (h : CatHdr) (w : Who) (v : BitVec 32) (k : Nat) (n : Nat) (j : BitVec 16) (q : Nat) (i
      : Nat), k < 64 ∧ j = BitVec.ofNat 16 (32768 + 256 * k) ∧ s.writing u h j 1 v.toNat w ∧ n = v.toNat &&&
      4294049791 ∧ n.testBit 31 = false ∧ q = n / 2 ^ 20 % 16 ∧ i = u.shareBase q + n % 2 ^ 17 ∧ q < u.partCount ∧ n %
      2 ^ 17 < u.shareSize ∧ u.wideBit i = false ∧ w.operator = false ∧ q = w.part ∧ (u.obj i).partition.toNat ≠
      w.part) ∧
    (∃ (s : State) (u : State) (h : CatHdr) (w : Who) (v : BitVec 32) (k : Nat) (n : Nat) (j : BitVec 16) (q : Nat) (i
      : Nat), k < 64 ∧ j = BitVec.ofNat 16 (32768 + 256 * k) ∧ s.writing u h j 1 v.toNat w ∧ n = v.toNat &&&
      4294049791 ∧ n.testBit 31 = false ∧ q = n / 2 ^ 20 % 16 ∧ i = u.shareBase q + n % 2 ^ 17 ∧ q < u.partCount ∧ n %
      2 ^ 17 < u.shareSize ∧ u.wideBit i = false ∧ (w.operator = true ∨ q = w.part ∧ (u.obj i).partition.toNat =
      w.part) ∧ u.flips = []) :=
  ⟨⟨hub0, ((hub0).opened (fromApb 0) 9743 5 5), (fromApb 0), operator, 15, 5, 5, 9743, 5, ((((hub0).opened (fromApb 0)
     9743 5 5).setCfg 9743 5 0 5).setEv 15
     { ((hub0).opened (fromApb 0) 9743 5 5).ev 15 with applied := false, deferred := false, changes := 0 }),
     (by decide +kernel), Or.inr (Or.inr (Or.inr rfl)), (by decide +kernel),
     ⟨⟨⟨rfl, fun _ => rfl, fun h => absurd rfl h, by decide +kernel, by decide +kernel⟩, by decide +kernel⟩, rfl⟩,
     (by decide +kernel), rfl, (by decide +kernel)⟩,
   ⟨(hub0.setEv 0 evDeferred), ((hub0.setEv 0 evDeferred).opened (fromApb 0) 9728 2 1), (fromApb 0), operator, 0, 1,
     2, 9728, 1, ((((hub0.setEv 0 evDeferred).opened (fromApb 0) 9728 2 1).setCfg 9728 2 0 1).setEv 0
     { ((hub0.setEv 0 evDeferred).opened (fromApb 0) 9728 2 1).ev 0 with applied := false, deferred := false,
                                                                         changes := 0 }), (by decide +kernel),
     Or.inl rfl, (by decide +kernel),
     ⟨⟨⟨rfl, fun _ => rfl, fun h => absurd rfl h, by decide +kernel, by decide +kernel⟩, by decide +kernel⟩, rfl⟩,
     (by decide +kernel), rfl, (by decide +kernel)⟩,
   ⟨(hub0.setCfg 28736 1 0 67239935), ((hub0.setCfg 28736 1 0 67239935).opened (fromApb 0) 28736 2 3), (fromApb 0),
     operator, 3, 67239935, (.object 131071),
     ⟨⟨⟨rfl, fun _ => rfl, fun h => absurd rfl h, by decide +kernel, by decide +kernel⟩, by decide +kernel⟩, rfl⟩,
     (by decide +kernel), (by decide +kernel), (by decide +kernel), (by decide +kernel), (by decide +kernel),
     (by decide +kernel)⟩,
   ⟨(hub0.setCfg 28736 1 0 1006632960), ((hub0.setCfg 28736 1 0 1006632960).opened (fromApb 0) 28736 2 1), (fromApb
     0), operator, 1, 1006632960,
     ⟨⟨⟨rfl, fun _ => rfl, fun h => absurd rfl h, by decide +kernel, by decide +kernel⟩, by decide +kernel⟩, rfl⟩,
     (by decide +kernel), (by decide +kernel), (by decide +kernel), (by decide +kernel), (by decide +kernel)⟩,
   ⟨(hub0.setCfg 28736 1 0 536879103), ((hub0.setCfg 28736 1 0 536879103).opened (fromApb 0) 28736 2 3), (fromApb 0),
     operator, 3, 536879103, 127,
     ⟨⟨⟨rfl, fun _ => rfl, fun h => absurd rfl h, by decide +kernel, by decide +kernel⟩, by decide +kernel⟩, rfl⟩,
     (by decide +kernel), (by decide +kernel), (by decide +kernel), (by decide +kernel), (by decide +kernel),
     (by decide +kernel), (by decide +kernel), (by decide +kernel)⟩,
   ⟨(hub0.setCfg 28736 1 0 536879104), ((hub0.setCfg 28736 1 0 536879104).opened (fromApb 0) 28736 2 1), (fromApb 0),
     operator, 1, 536879104, 0,
     ⟨⟨⟨rfl, fun _ => rfl, fun h => absurd rfl h, by decide +kernel, by decide +kernel⟩, by decide +kernel⟩, rfl⟩,
     (by decide +kernel), (by decide +kernel), (by decide +kernel), (by decide +kernel), (by decide +kernel),
     Or.inl (by decide +kernel)⟩,
   ⟨(hub0.setCfg 28736 1 0 0), ((hub0.setCfg 28736 1 0 0).opened (fromApb 0) 28736 2 4), (fromApb 0), operator, 0,
     ⟨⟨⟨rfl, fun _ => rfl, fun h => absurd rfl h, by decide +kernel, by decide +kernel⟩, by decide +kernel⟩, rfl⟩,
     (by decide +kernel), (by decide +kernel)⟩,
   ⟨((hub0.setCfg 28736 1 0 1073741852)), ((hub0.setCfg 28736 1 0 1073741852).opened (fromApb 0) 28736 2 4), (fromApb
     0), operator, 1073741852,
     ⟨⟨⟨rfl, fun _ => rfl, fun h => absurd rfl h, by decide +kernel, by decide +kernel⟩, by decide +kernel⟩, rfl⟩,
     (by decide +kernel), (by decide +kernel), (by decide +kernel), (by decide +kernel)⟩,
   ⟨tenantHub, ((tenantHub).opened (fromTenant) 33024 1 4278190080), fromTenant, tenant, 4278190080, 1, 4278190080,
     33024, 127, (by decide +kernel), (by decide +kernel),
     ⟨⟨⟨rfl, fun h => (by cases h), fun _ => by decide +kernel, by decide +kernel, by decide +kernel⟩, by decide +kernel⟩, rfl⟩,
     (by decide +kernel), (by decide +kernel), (by decide +kernel), (by decide +kernel), Or.inr (by decide +kernel)⟩,
   ⟨(({ hub0 with build := { portMap := 0 } } : State)), ((({ hub0 with build := { portMap := 0 } } : State)).opened
     (fromApb 0) 32768 1 4278190080), (fromApb 0), operator, 4278190080, 0, 4278190080, 32768, 127,
     (by decide +kernel), (by decide +kernel),
     ⟨⟨⟨rfl, fun _ => rfl, fun h => absurd rfl h, by decide +kernel, by decide +kernel⟩, by decide +kernel⟩, rfl⟩,
     (by decide +kernel), (by decide +kernel), (by decide +kernel), (by decide +kernel), (by decide +kernel)⟩,
   ⟨hub0, ((hub0).opened (fromApb 0) 32768 1 2147483711), (fromApb 0), operator, 2147483711, 0, 2147483711, 32768, 0,
     (by decide +kernel), (by decide +kernel),
     ⟨⟨⟨rfl, fun _ => rfl, fun h => absurd rfl h, by decide +kernel, by decide +kernel⟩, by decide +kernel⟩, rfl⟩,
     (by decide +kernel), (by decide +kernel), (by decide +kernel), (by decide +kernel), Or.inl rfl,
     (by decide +kernel)⟩,
   ⟨tenantHub, ((tenantHub).opened (fromTenant) 33024 1 0), fromTenant, tenant, 0, 1, 0, 33024, 0, 0,
     (by decide +kernel), (by decide +kernel),
     ⟨⟨⟨rfl, fun h => (by cases h), fun _ => by decide +kernel, by decide +kernel, by decide +kernel⟩, by decide +kernel⟩, rfl⟩,
     (by decide +kernel), (by decide +kernel), (by decide +kernel), (by decide +kernel), (by decide +kernel),
     (by decide +kernel)⟩,
   ⟨hub0, ((hub0).opened (fromApb 0) 32768 1 15728640), (fromApb 0), operator, 15728640, 0, 15728640, 32768, 15,
     (hub0.shareBase 15), (by decide +kernel), (by decide +kernel),
     ⟨⟨⟨rfl, fun _ => rfl, fun h => absurd rfl h, by decide +kernel, by decide +kernel⟩, by decide +kernel⟩, rfl⟩,
     (by decide +kernel), (by decide +kernel), (by decide +kernel), (by decide +kernel), Or.inl rfl,
     Or.inl (by decide +kernel)⟩,
   ⟨tenantHub, ((tenantHub).opened (fromTenant) 33024 1 1048577), fromTenant, tenant, 1048577, 1, 1048577, 33024, 1,
     8193, (by decide +kernel), (by decide +kernel),
     ⟨⟨⟨rfl, fun h => (by cases h), fun _ => by decide +kernel, by decide +kernel, by decide +kernel⟩, by decide +kernel⟩, rfl⟩,
     (by decide +kernel), (by decide +kernel), (by decide +kernel), (by decide +kernel), (by decide +kernel),
     (by decide +kernel), (by decide +kernel), (by decide +kernel), (by decide +kernel), (by decide +kernel)⟩,
   ⟨hub0, ((hub0).opened (fromApb 0) 32768 1 131071), (fromApb 0), operator, 131071, 0, 131071, 32768, 0, 131071,
     (by decide +kernel), (by decide +kernel),
     ⟨⟨⟨rfl, fun _ => rfl, fun h => absurd rfl h, by decide +kernel, by decide +kernel⟩, by decide +kernel⟩, rfl⟩,
     (by decide +kernel), (by decide +kernel), (by decide +kernel), (by decide +kernel), (by decide +kernel),
     (by decide +kernel), (by decide +kernel), Or.inl rfl, (by decide +kernel)⟩⟩

/-- Writes of link ranges, routes and TimeSet. -/
theorem meets_LinkRouteAndTimeWrites :
    (∃ (s : State) (u : State) (h : CatHdr) (w : Who) (c : Nat) (sub : BitVec 8) (v : BitVec 8) (j : BitVec 16) (x :
      State) (y : State), (c < 4 ∨ 8 ≤ c ∧ c < 16) ∧ (sub = 1 ∨ sub = 2 ∨ sub = 3) ∧ j = BitVec.ofNat 16 (20480 + c) ∧
      s.writing u h j sub v.toNat w ∧ x = u.setCfg (20480 + c) sub.toNat 0 v.toNat ∧ y = x.setLink c
      ({ u.link c with catWaits := (u.link c).catWaits ++ [h] }) ∧ ((u.link c).state = LinkState.down ∨ (u.link
      c).state = LinkState.training ∨ (u.link c).state = LinkState.refused ∧ (u.link c).phyUp = false)) ∧
    (∃ (s : State) (u : State) (h : CatHdr) (w : Who) (c : Nat) (sub : BitVec 8) (v : BitVec 8) (j : BitVec 16) (x :
      State) (y : State), (c < 4 ∨ 8 ≤ c ∧ c < 16) ∧ (sub = 1 ∨ sub = 2 ∨ sub = 3) ∧ j = BitVec.ofNat 16 (20480 + c) ∧
      s.writing u h j sub v.toNat w ∧ x = u.setCfg (20480 + c) sub.toNat 0 v.toNat ∧ y = x.setLink c
      ({ u.link c with catWaits := (u.link c).catWaits ++ [h] }) ∧ ((u.link c).state = LinkState.renegotiating ∨
      (u.link c).state = LinkState.hold ∨ (u.link c).state = LinkState.negotiating)) ∧
    (∃ (s : State) (u : State) (h : CatHdr) (w : Who) (c : Nat) (sub : BitVec 8) (v : BitVec 8) (j : BitVec 16) (x :
      State) (y : State), (c < 4 ∨ 8 ≤ c ∧ c < 16) ∧ (sub = 1 ∨ sub = 2 ∨ sub = 3) ∧ j = BitVec.ofNat 16 (20480 + c) ∧
      s.writing u h j sub v.toNat w ∧ x = u.setCfg (20480 + c) sub.toNat 0 v.toNat ∧ y = x.setLink c
      ({ u.link c with catWaits := (u.link c).catWaits ++ [h] }) ∧ (u.link c).state = LinkState.refused ∧ (u.link
      c).phyUp = true ∧ u.linkOut c = false ∧ u.waitMsgs = []) ∧
    (∃ (s : State) (u : State) (h : CatHdr) (w : Who) (c : Nat) (sub : BitVec 8) (v : BitVec 8) (j : BitVec 16) (x :
      State) (y : State), (c < 4 ∨ 8 ≤ c ∧ c < 16) ∧ (sub = 1 ∨ sub = 2 ∨ sub = 3) ∧ j = BitVec.ofNat 16 (20480 + c) ∧
      s.writing u h j sub v.toNat w ∧ x = u.setCfg (20480 + c) sub.toNat 0 v.toNat ∧ y = x.setLink c
      ({ u.link c with catWaits := (u.link c).catWaits ++ [h] }) ∧ (u.link c).state = LinkState.up ∧ u.waitMsgs = []) ∧
    (∃ (s : State) (u : State) (h : CatHdr) (w : Who) (v : BitVec 32) (e : BitVec 32) (k : RouteKey), s.writing u h
      20736 2 v.toNat w ∧ k = routeSelected (u.cfg 20736 1) ∧ e = v &&& 4294705152 ∧ (∀ (x : RouteChange), x ∈
      u.changes → x.key ≠ k) ∧ (u.leave (u.route k) = Leave.strand ∨ u.leave e = u.leave (u.route k)) ∧ u.waitMsgs =
      []) ∧
    (∃ (s : State) (u : State) (h : CatHdr) (w : Who) (v : BitVec 32) (e : BitVec 32) (k : RouteKey) (c : Nat) (vl :
      Nat), s.writing u h 20736 2 v.toNat w ∧ k = routeSelected (u.cfg 20736 1) ∧ e = v &&& 4294705152 ∧ (∀ (x :
      RouteChange), x ∈ u.changes → x.key ≠ k) ∧ u.leave (u.route k) = Leave.on c vl ∧ u.leave e ≠ Leave.on c vl) ∧
    (∃ (s : State) (u : State) (h : CatHdr) (w : Who) (v : BitVec 32) (e : BitVec 32) (k : RouteKey), s.writing u h
      20736 2 v.toNat w ∧ k = routeSelected (u.cfg 20736 1) ∧ e = v &&& 4294705152 ∧ (∃ x, x ∈ u.changes ∧ x.key = k)) ∧
    (∃ (s : State) (u : State) (h : CatHdr) (w : Who) (v : Time), s.writing u h 20992 8 (BitVec.toNat v) w ∧ (u.cfg
      20992 1 = 0 ∨ u.sync.setUsed = true)) ∧
    (∃ (s : State) (u : State) (h : CatHdr) (w : Who) (v : Time), s.writing u h 20992 8 (BitVec.toNat v) w ∧ u.cfg
      20992 1 ≠ 0 ∧ u.sync.setUsed = false) :=
  ⟨⟨hub0, ((hub0).opened (fromApb 0) 20495 1 0), (fromApb 0), operator, 15, 1, 0, 20495, ((((hub0).opened (fromApb 0)
     20495 1 0).setCfg 20495 1 0 0)), ((((hub0).opened (fromApb 0) 20495 1 0).setCfg 20495 1 0 0).setLink 15
     { ((hub0).opened (fromApb 0) 20495 1 0).link 15 with catWaits := (((hub0).opened (fromApb 0) 20495 1 0).link 15).catWaits ++ [fromApb 0] }),
     Or.inr ⟨by decide, by decide⟩, Or.inl rfl, (by decide +kernel),
     ⟨⟨⟨rfl, fun _ => rfl, fun h => absurd rfl h, by decide +kernel, by decide +kernel⟩, by decide +kernel⟩, rfl⟩,
     (by decide +kernel), rfl, Or.inr (Or.inl rfl)⟩,
   ⟨negShort, ((negShort).opened (fromApb 0) 20480 2 1), (fromApb 0), operator, 0, 2, 1, 20480, ((((negShort).opened
     (fromApb 0) 20480 2 1).setCfg 20480 2 0 1)), ((((negShort).opened (fromApb 0) 20480 2 1).setCfg 20480 2 0
     1).setLink 0
     { ((negShort).opened (fromApb 0) 20480 2 1).link 0 with catWaits := (((negShort).opened (fromApb 0) 20480 2 1).link 0).catWaits ++ [fromApb 0] }),
     Or.inl (by decide), Or.inr (Or.inl rfl), (by decide +kernel),
     ⟨⟨⟨rfl, fun _ => rfl, fun h => absurd rfl h, by decide +kernel, by decide +kernel⟩, by decide +kernel⟩, rfl⟩,
     (by decide +kernel), rfl, Or.inr (Or.inr rfl)⟩,
   ⟨(withLink 8 { state := .refused, phyUp := true }), ((withLink 8 { state := .refused, phyUp := true }).opened
     (fromApb 0) 20488 3 2), (fromApb 0), operator, 8, 3, 2, 20488, ((((withLink 8
     { state := .refused, phyUp := true }).opened (fromApb 0) 20488 3 2).setCfg 20488 3 0 2)), ((((withLink 8
     { state := .refused, phyUp := true }).opened (fromApb 0) 20488 3 2).setCfg 20488 3 0 2).setLink 8
     { ((withLink 8 { state := .refused, phyUp := true }).opened (fromApb 0) 20488 3 2).link 8 with catWaits := (((withLink 8 { state := .refused, phyUp := true }).opened (fromApb 0) 20488 3 2).link 8).catWaits ++ [fromApb 0] }),
     Or.inr ⟨by decide, by decide⟩, Or.inr (Or.inr rfl), (by decide +kernel),
     ⟨⟨⟨rfl, fun _ => rfl, fun h => absurd rfl h, by decide +kernel, by decide +kernel⟩, by decide +kernel⟩, rfl⟩,
     (by decide +kernel), rfl, (by decide +kernel), (by decide +kernel), (by decide +kernel), (by decide +kernel)⟩,
   ⟨linked, ((linked).opened (fromApb 0) 20488 1 1), (fromApb 0), operator, 8, 1, 1, 20488, ((((linked).opened
     (fromApb 0) 20488 1 1).setCfg 20488 1 0 1)), ((((linked).opened (fromApb 0) 20488 1 1).setCfg 20488 1 0
     1).setLink 8
     { ((linked).opened (fromApb 0) 20488 1 1).link 8 with catWaits := (((linked).opened (fromApb 0) 20488 1 1).link 8).catWaits ++ [fromApb 0] }),
     Or.inr ⟨by decide, by decide⟩, Or.inl rfl, (by decide +kernel),
     ⟨⟨⟨rfl, fun _ => rfl, fun h => absurd rfl h, by decide +kernel, by decide +kernel⟩, by decide +kernel⟩, rfl⟩,
     (by decide +kernel), rfl, (by decide +kernel), (by decide +kernel)⟩,
   ⟨hub0, ((hub0).opened (fromApb 0) 20736 2 0), (fromApb 0), operator, 0, 0, 0,
     ⟨⟨⟨rfl, fun _ => rfl, fun h => absurd rfl h, by decide +kernel, by decide +kernel⟩, by decide +kernel⟩, rfl⟩,
     (by decide +kernel), (by decide +kernel), (by intro x hx; cases hx), Or.inl rfl, (by decide +kernel)⟩,
   ⟨((routed.setCfg 20736 1 0 2)), (((routed.setCfg 20736 1 0 2)).opened (fromApb 0) 20736 2 0), (fromApb 0),
     operator, 0, 0, 2, 8, 0,
     ⟨⟨⟨rfl, fun _ => rfl, fun h => absurd rfl h, by decide +kernel, by decide +kernel⟩, by decide +kernel⟩, rfl⟩,
     (by decide +kernel), (by decide +kernel), (by intro x hx; cases hx), (by decide +kernel), (by decide +kernel)⟩,
   ⟨((({ routed with changes := [aChange []] } : State).setCfg 20736 1 0 2)),
     (((({ routed with changes := [aChange []] } : State).setCfg 20736 1 0 2)).opened (fromApb 0) 20736 2 0), (fromApb
     0), operator, 0, 0, 2,
     ⟨⟨⟨rfl, fun _ => rfl, fun h => absurd rfl h, by decide +kernel, by decide +kernel⟩, by decide +kernel⟩, rfl⟩,
     (by decide +kernel), (by decide +kernel), ⟨aChange [], List.mem_singleton.mpr rfl, rfl⟩⟩,
   ⟨(hub0.setCfg 20992 1 0 0), ((hub0.setCfg 20992 1 0 0).opened (fromApb 0) 20992 8 77), (fromApb 0), operator, 77,
     ⟨⟨⟨rfl, fun _ => rfl, fun h => absurd rfl h, by decide +kernel, by decide +kernel⟩, by decide +kernel⟩, rfl⟩,
     Or.inl rfl⟩,
   ⟨(hub0.setCfg 20992 1 0 1), ((hub0.setCfg 20992 1 0 1).opened (fromApb 0) 20992 8 77), (fromApb 0), operator, 77,
     ⟨⟨⟨rfl, fun _ => rfl, fun h => absurd rfl h, by decide +kernel, by decide +kernel⟩, by decide +kernel⟩, rfl⟩,
     (by decide +kernel), (by decide +kernel)⟩⟩

/-- Writes of rings and their consumer indices. -/
theorem meets_RingWrites :
    (∃ (s : State) (u : State) (h : CatHdr) (w : Who) (p : Nat) (k : Nat) (size : Bool) (v : BitVec 64) (j : BitVec
      16) (sub : BitVec 8) (n : Nat), p = h.partition.toNat ∧ k < 4 ∧ j = BitVec.ofNat 16 (9216 + k) ∧ (sub = if size
      = true then 2 else 1) ∧ (n = if size = true then v.toNat % 256 else v.toNat) ∧ s.writing u h j sub v.toNat w ∧
      u.buffered = []) ∧
    (∃ (s : State) (u : State) (h : CatHdr) (w : Who) (p : Nat) (hub : Bool) (size : Bool) (v : BitVec 64) (i : Nat)
      (r : Nat) (j : BitVec 16) (sub : BitVec 8) (n : Nat), p = h.partition.toNat ∧ (r = if hub = true then 16 else p)
      ∧ i = ringIndex r ∧ j = BitVec.ofNat 16 i ∧ (sub = if size = true then 2 else 1) ∧ (n = if size = true then
      v.toNat % 256 else v.toNat) ∧ s.writing u h j sub v.toNat w) ∧
    (∃ (s : State) (u : State) (h : CatHdr) (w : Who) (p : Nat) (k : Nat) (v : BitVec 32) (j : BitVec 16), p =
      h.partition.toNat ∧ k < 4 ∧ j = BitVec.ofNat 16 (9216 + k) ∧ s.writing u h j 4 v.toNat w ∧ consumerOk (u.tring k
      3 p) (u.tring k 4 p) v.toNat = true ∧ u.buffered = []) ∧
    (∃ (s : State) (u : State) (h : CatHdr) (w : Who) (p : Nat) (k : Nat) (v : BitVec 32) (j : BitVec 16), p =
      h.partition.toNat ∧ k < 4 ∧ j = BitVec.ofNat 16 (9216 + k) ∧ s.writing u h j 4 v.toNat w ∧ consumerOk (u.tring k
      3 p) (u.tring k 4 p) v.toNat = false) ∧
    (∃ (s : State) (u : State) (h : CatHdr) (w : Who) (p : Nat) (hub : Bool) (v : BitVec 32) (i : Nat) (r : Nat) (j :
      BitVec 16), p = h.partition.toNat ∧ (r = if hub = true then 16 else p) ∧ i = ringIndex r ∧ j = BitVec.ofNat 16 i
      ∧ s.writing u h j 4 v.toNat w ∧ consumerOk (u.ringCfg r 3) (u.ringCfg r 4) v.toNat = true) ∧
    (∃ (s : State) (u : State) (h : CatHdr) (w : Who) (p : Nat) (hub : Bool) (v : BitVec 32) (i : Nat) (r : Nat) (j :
      BitVec 16), p = h.partition.toNat ∧ (r = if hub = true then 16 else p) ∧ i = ringIndex r ∧ j = BitVec.ofNat 16 i
      ∧ s.writing u h j 4 v.toNat w ∧ consumerOk (u.ringCfg r 3) (u.ringCfg r 4) v.toNat = false) ∧
    (∃ (s : State) (u : State) (h : CatHdr) (w : Who) (p : Nat) (b : Nat) (k : Nat) (v : BitVec 32), p =
      h.partition.toNat ∧ s.live = true ∧ b < s.partCount ∧ b < 16 ∧ k < 4 ∧ consumerOk (s.tring k 3 b) (s.tring k 4
      b) v.toNat = true ∧ s.buffered = []) ∧
    (∃ (s : State) (u : State) (h : CatHdr) (w : Who) (p : Nat) (b : Nat) (k : Nat) (v : BitVec 32), p =
      h.partition.toNat ∧ s.live = true ∧ b < s.partCount ∧ b < 16 ∧ k < 4 ∧ consumerOk (s.tring k 3 b) (s.tring k 4
      b) v.toNat = false) ∧
    (∃ (s : State) (u : State) (h : CatHdr) (w : Who) (p : Nat) (b : Nat) (k : Nat) (v : BitVec 32), p =
      h.partition.toNat ∧ s.live = true ∧ b < s.partCount ∧ b < 16 ∧ k < 4 ∧ consumerOk (s.ringCfg b 3) (s.ringCfg b
      4) v.toNat = true) ∧
    (∃ (s : State) (u : State) (h : CatHdr) (w : Who) (p : Nat) (b : Nat) (k : Nat) (v : BitVec 32), p =
      h.partition.toNat ∧ s.live = true ∧ b < s.partCount ∧ b < 16 ∧ k < 4 ∧ consumerOk (s.ringCfg b 3) (s.ringCfg b
      4) v.toNat = false) :=
  ⟨⟨hub16, ((hub16).opened (fromApb 15) 9219 1 4096), (fromApb 15), operator, 15, 3, false, 4096, 9219, 1, 4096,
     (by decide +kernel), (by decide +kernel), (by decide +kernel), (by decide +kernel), (by decide +kernel),
     ⟨⟨⟨rfl, fun _ => rfl, fun h => absurd rfl h, by decide +kernel, by decide +kernel⟩, by decide +kernel⟩, rfl⟩,
     (by decide +kernel)⟩,
   ⟨hub16, ((hub16).opened (fromApb 0) 10752 2 8), (fromApb 0), operator, 0, true, true, 8, 10752, 16, 10752, 2, 8,
     (by decide +kernel), rfl, (by decide +kernel), (by decide +kernel), (by decide +kernel), (by decide +kernel),
     ⟨⟨⟨rfl, fun _ => rfl, fun h => absurd rfl h, by decide +kernel, by decide +kernel⟩, by decide +kernel⟩, rfl⟩⟩,
   ⟨hub0, ((hub0).opened (fromApb 0) 9219 4 0), (fromApb 0), operator, 0, 3, 0, 9219, (by decide +kernel),
     (by decide +kernel), (by decide +kernel),
     ⟨⟨⟨rfl, fun _ => rfl, fun h => absurd rfl h, by decide +kernel, by decide +kernel⟩, by decide +kernel⟩, rfl⟩,
     (by decide +kernel), (by decide +kernel)⟩,
   ⟨hub0, ((hub0).opened (fromApb 0) 9219 4 1), (fromApb 0), operator, 0, 3, 1, 9219, (by decide +kernel),
     (by decide +kernel), (by decide +kernel),
     ⟨⟨⟨rfl, fun _ => rfl, fun h => absurd rfl h, by decide +kernel, by decide +kernel⟩, by decide +kernel⟩, rfl⟩,
     (by decide +kernel)⟩,
   ⟨hub0, ((hub0).opened (fromApb 0) 10496 4 0), (fromApb 0), operator, 0, false, 0, 10496, 0, 10496,
     (by decide +kernel), (by decide +kernel), (by decide +kernel), (by decide +kernel),
     ⟨⟨⟨rfl, fun _ => rfl, fun h => absurd rfl h, by decide +kernel, by decide +kernel⟩, by decide +kernel⟩, rfl⟩,
     (by decide +kernel)⟩,
   ⟨hub0, ((hub0).opened (fromApb 0) 10752 4 1), (fromApb 0), operator, 0, true, 1, 10752, 16, 10752,
     (by decide +kernel), (by decide +kernel), (by decide +kernel), (by decide +kernel),
     ⟨⟨⟨rfl, fun _ => rfl, fun h => absurd rfl h, by decide +kernel, by decide +kernel⟩, by decide +kernel⟩, rfl⟩,
     (by decide +kernel)⟩,
   ⟨hub16, hub16, (fromApb 0), operator, 0, 15, 3, 0, (by decide +kernel), (by decide +kernel), (by decide +kernel),
     (by decide +kernel), (by decide +kernel), (by decide +kernel), (by decide +kernel)⟩,
   ⟨hub16, hub16, (fromApb 0), operator, 0, 15, 3, 1, (by decide +kernel), (by decide +kernel), (by decide +kernel),
     (by decide +kernel), (by decide +kernel), (by decide +kernel)⟩,
   ⟨hub16, hub16, (fromApb 0), operator, 0, 15, 3, 0, (by decide +kernel), (by decide +kernel), (by decide +kernel),
     (by decide +kernel), (by decide +kernel), (by decide +kernel)⟩,
   ⟨hub16, hub16, (fromApb 0), operator, 0, 15, 3, 1, (by decide +kernel), (by decide +kernel), (by decide +kernel),
     (by decide +kernel), (by decide +kernel), (by decide +kernel)⟩⟩

/-- Writes of shelves, Inventory, Stocktake and Deposit. -/
theorem meets_SnapshotAndDepositWrites :
    (∃ (s : State) (u : State) (h : CatHdr) (w : Who) (v : BitVec 8) (p : Nat) (k : Nat) (a : Arming) (y : State), p =
      h.partition.toNat ∧ k = bitNat (v.getLsbD 0) ∧ s.writing u h 24608 1 v.toNat w ∧ a =
      { shelf := k, mode := v.getLsbD 1, index := BitVec.ofNat 17 (u.cfg 24608 3 p),
        round := BitVec.ofNat 28 (u.cfg 24608 4 p), time := BitVec.ofNat 64 (u.cfg 24608 2 p), asker := none } ∧ (y =
      if v.getLsbD 2 = true then u.armPeers p a else u) ∧ y.armFails p a = none) ∧
    (∃ (s : State) (u : State) (h : CatHdr) (w : Who) (v : BitVec 8) (p : Nat) (k : Nat), p = h.partition.toNat ∧ k =
      bitNat (v.getLsbD 0) ∧ s.writing u h 24608 5 v.toNat w ∧ (u.shelf p k).state = ShelfState.armed ∧ (u.shelf p
      k).asker = none ∧ v.getLsbD 2 = false) ∧
    (∃ (s : State) (u : State) (h : CatHdr) (w : Who) (v : BitVec 8) (p : Nat) (k : Nat), p = h.partition.toNat ∧ k =
      bitNat (v.getLsbD 0) ∧ s.writing u h 24608 5 v.toNat w ∧ (u.shelf p k).state ≠ ShelfState.armed ∧ v.getLsbD 2 =
      false) ∧
    (∃ (s : State) (u : State) (h : CatHdr) (w : Who) (v : BitVec 8) (p : Nat) (k : Nat), p = h.partition.toNat ∧ k =
      bitNat (v.getLsbD 0) ∧ s.writing u h 24640 3 v.toNat w ∧ v = 0) ∧
    (∃ (s : State) (u : State) (h : CatHdr) (w : Who) (v : BitVec 8) (p : Nat) (k : Nat), p = h.partition.toNat ∧ k =
      bitNat (v.getLsbD 0) ∧ s.writing u h 24640 3 v.toNat w ∧ v ≠ 0 ∧ (u.cfg 24640 1 p = 0 ∨ (u.part p).inv.running =
      true)) ∧
    (∃ (s : State) (u : State) (h : CatHdr) (w : Who) (v : BitVec 8) (p : Nat) (k : Nat), p = h.partition.toNat ∧ k =
      bitNat (v.getLsbD 0) ∧ s.writing u h 24640 3 v.toNat w ∧ v ≠ 0 ∧ u.cfg 24640 1 p ≠ 0 ∧ (u.part p).inv.running =
      false) ∧
    (∃ (s : State) (u : State) (h : CatHdr) (w : Who) (v : BitVec 8) (p : Nat) (k : Nat), p = h.partition.toNat ∧ k =
      bitNat (v.getLsbD 0) ∧ s.writing u h 24688 1 v.toNat w) ∧
    (∃ (s : State) (u : State) (h : CatHdr) (w : Who) (v : BitVec 8) (p : Nat) (k : Nat) (d : Deposit), p =
      h.partition.toNat ∧ d = (u.part p).deposit k ∧ s.writing u h 24672 8 v.toNat w ∧ k = u.cfg 24672 1 p ∧ v.getLsbD
      0 = true ∧ u.depositOk p d = false) ∧
    (∃ (s : State) (u : State) (h : CatHdr) (w : Who) (v : BitVec 8) (p : Nat) (k : Nat) (d : Deposit), p =
      h.partition.toNat ∧ d = (u.part p).deposit k ∧ s.writing u h 24672 8 v.toNat w ∧ k = u.cfg 24672 1 p ∧
      (v.getLsbD 0 = false ∨ u.depositOk p d = true)) ∧
    (∃ (s : State) (u : State) (h : CatHdr) (w : Who) (v : BitVec 8) (p : Nat) (k : Nat) (d : Deposit), p =
      h.partition.toNat ∧ d = (u.part p).deposit k ∧ s.writing u h 24672 10 v.toNat w ∧ k = v.toNat ∧ 8 ≤ k) ∧
    (∃ (s : State) (u : State) (h : CatHdr) (w : Who) (v : BitVec 8) (p : Nat) (k : Nat) (d : Deposit), p =
      h.partition.toNat ∧ d = (u.part p).deposit k ∧ s.writing u h 24672 10 v.toNat w ∧ k = v.toNat ∧ k < 8 ∧
      d.waiting = false) ∧
    (∃ (s : State) (u : State) (h : CatHdr) (w : Who) (v : BitVec 8) (p : Nat) (k : Nat) (d : Deposit) (x : State), p
      = h.partition.toNat ∧ d = (u.part p).deposit k ∧ s.writing u h 24672 10 v.toNat w ∧ k = v.toNat ∧ k < 8 ∧
      d.waiting = true ∧ u.cfg 24624 4 = 0 ∧ x = u.setPart p ((u.part p).setDeposit k { d with waiting := false }) ∧
      ((x.obj d.index).otype = ObjType.barrier ∧ (x.obj d.index).faulted = false ∧ (x.obj d.index).arrivals = (x.obj
      d.index).expected ∧ x.depositHolds d.index = false)) ∧
    (∃ (s : State) (u : State) (h : CatHdr) (w : Who) (v : BitVec 8) (p : Nat) (k : Nat) (d : Deposit) (x : State), p
      = h.partition.toNat ∧ d = (u.part p).deposit k ∧ s.writing u h 24672 10 v.toNat w ∧ k = v.toNat ∧ k < 8 ∧
      d.waiting = true ∧ u.cfg 24624 4 = 0 ∧ x = u.setPart p ((u.part p).setDeposit k { d with waiting := false }) ∧
      ((x.obj d.index).otype ≠ ObjType.barrier ∨ (x.obj d.index).faulted = true ∨ (x.obj d.index).arrivals ≠ (x.obj
      d.index).expected ∨ x.depositHolds d.index = true)) :=
  ⟨⟨shelfTimed, (shelfTimed.opened (fromApb 0) 24608 1 1), (fromApb 0), operator, 1, 0, 1,
     { shelf := 1, mode := false, index := 0, round := 0, time := 5, asker := none }, (shelfTimed.opened (fromApb 0)
     24608 1 1), (by decide +kernel), (by decide +kernel),
     ⟨⟨⟨rfl, fun _ => rfl, fun h => absurd rfl h, by decide +kernel, by decide +kernel⟩, by decide +kernel⟩, rfl⟩,
     (by decide +kernel), rfl, (by decide +kernel)⟩,
   ⟨(shelfHub armedShelf), ((shelfHub armedShelf).opened (fromApb 0) 24608 5 1), (fromApb 0), operator, 1, 0, 1,
     (by decide +kernel), (by decide +kernel),
     ⟨⟨⟨rfl, fun _ => rfl, fun h => absurd rfl h, by decide +kernel, by decide +kernel⟩, by decide +kernel⟩, rfl⟩,
     (by decide +kernel), (by decide +kernel), (by decide +kernel)⟩,
   ⟨hub0, ((hub0).opened (fromApb 0) 24608 5 0), (fromApb 0), operator, 0, 0, 0, (by decide +kernel),
     (by decide +kernel),
     ⟨⟨⟨rfl, fun _ => rfl, fun h => absurd rfl h, by decide +kernel, by decide +kernel⟩, by decide +kernel⟩, rfl⟩,
     (by decide +kernel), (by decide +kernel)⟩,
   ⟨hub0, ((hub0).opened (fromApb 0) 24640 3 0), (fromApb 0), operator, 0, 0, 0, (by decide +kernel),
     (by decide +kernel),
     ⟨⟨⟨rfl, fun _ => rfl, fun h => absurd rfl h, by decide +kernel, by decide +kernel⟩, by decide +kernel⟩, rfl⟩,
     rfl⟩,
   ⟨(hub0.setCfg 24640 1 0 0), ((hub0.setCfg 24640 1 0 0).opened (fromApb 0) 24640 3 1), (fromApb 0), operator, 1, 0,
     1, (by decide +kernel), (by decide +kernel),
     ⟨⟨⟨rfl, fun _ => rfl, fun h => absurd rfl h, by decide +kernel, by decide +kernel⟩, by decide +kernel⟩, rfl⟩,
     (by decide +kernel), Or.inl rfl⟩,
   ⟨(hub0.setCfg 24640 1 0 64), ((hub0.setCfg 24640 1 0 64).opened (fromApb 0) 24640 3 1), (fromApb 0), operator, 1,
     0, 1, (by decide +kernel), (by decide +kernel),
     ⟨⟨⟨rfl, fun _ => rfl, fun h => absurd rfl h, by decide +kernel, by decide +kernel⟩, by decide +kernel⟩, rfl⟩,
     (by decide +kernel), (by decide +kernel), (by decide +kernel)⟩,
   ⟨hub0, ((hub0).opened (fromApb 0) 24688 1 1), (fromApb 0), operator, 1, 0, 1, (by decide +kernel),
     (by decide +kernel),
     ⟨⟨⟨rfl, fun _ => rfl, fun h => absurd rfl h, by decide +kernel, by decide +kernel⟩, by decide +kernel⟩, rfl⟩⟩,
   ⟨(hub0.setCfg 24672 1 0 7), ((hub0.setCfg 24672 1 0 7).opened (fromApb 0) 24672 8 1), (fromApb 0), operator, 1, 0,
     7, {}, (by decide +kernel), (by decide +kernel),
     ⟨⟨⟨rfl, fun _ => rfl, fun h => absurd rfl h, by decide +kernel, by decide +kernel⟩, by decide +kernel⟩, rfl⟩,
     (by decide +kernel), (by decide +kernel), (by decide +kernel)⟩,
   ⟨(hub0.setCfg 24672 1 0 7), ((hub0.setCfg 24672 1 0 7).opened (fromApb 0) 24672 8 0), (fromApb 0), operator, 0, 0,
     7, {}, (by decide +kernel), (by decide +kernel),
     ⟨⟨⟨rfl, fun _ => rfl, fun h => absurd rfl h, by decide +kernel, by decide +kernel⟩, by decide +kernel⟩, rfl⟩,
     (by decide +kernel), Or.inl rfl⟩,
   ⟨hub0, ((hub0).opened (fromApb 0) 24672 10 8), (fromApb 0), operator, 8, 0, 8, {}, (by decide +kernel),
     (by decide +kernel),
     ⟨⟨⟨rfl, fun _ => rfl, fun h => absurd rfl h, by decide +kernel, by decide +kernel⟩, by decide +kernel⟩, rfl⟩,
     (by decide +kernel), (by decide +kernel)⟩,
   ⟨hub0, ((hub0).opened (fromApb 0) 24672 10 7), (fromApb 0), operator, 7, 0, 7, {}, (by decide +kernel),
     (by decide +kernel),
     ⟨⟨⟨rfl, fun _ => rfl, fun h => absurd rfl h, by decide +kernel, by decide +kernel⟩, by decide +kernel⟩, rfl⟩,
     (by decide +kernel), (by decide +kernel), (by decide +kernel)⟩,
   ⟨(depositHub aFullBarrier), ((depositHub aFullBarrier).opened (fromApb 0) 24672 10 7), (fromApb 0), operator, 7, 0,
     7, aHeldDeposit, (((depositHub aFullBarrier).opened (fromApb 0) 24672 10 7).setPart 0 ((((depositHub
     aFullBarrier).opened (fromApb 0) 24672 10 7).part 0).setDeposit 7 { aHeldDeposit with waiting := false })),
     (by decide +kernel), (by decide +kernel),
     ⟨⟨⟨rfl, fun _ => rfl, fun h => absurd rfl h, by decide +kernel, by decide +kernel⟩, by decide +kernel⟩, rfl⟩,
     (by decide +kernel), (by decide +kernel), (by decide +kernel), (by decide +kernel), rfl, (by decide +kernel)⟩,
   ⟨(depositHub anEvent), ((depositHub anEvent).opened (fromApb 0) 24672 10 7), (fromApb 0), operator, 7, 0, 7,
     aHeldDeposit, (((depositHub anEvent).opened (fromApb 0) 24672 10 7).setPart 0 ((((depositHub anEvent).opened
     (fromApb 0) 24672 10 7).part 0).setDeposit 7 { aHeldDeposit with waiting := false })), (by decide +kernel),
     (by decide +kernel),
     ⟨⟨⟨rfl, fun _ => rfl, fun h => absurd rfl h, by decide +kernel, by decide +kernel⟩, by decide +kernel⟩, rfl⟩,
     (by decide +kernel), (by decide +kernel), (by decide +kernel), (by decide +kernel), rfl, (by decide +kernel)⟩⟩

/-- Writes of the Folio. -/
theorem meets_FolioWrites :
    (∃ (s : State) (u : State) (h : CatHdr) (w : Who), s.writing u h 24624 2 1 w ∧ (u.folio.state = FolioState.idle ∨
      u.folio.state = FolioState.stopped)) ∧
    (∃ (s : State) (u : State) (h : CatHdr) (w : Who), s.writing u h 24624 2 1 w ∧ u.folio.state ≠ FolioState.idle ∧
      u.folio.state ≠ FolioState.stopped) ∧
    (∃ (s : State) (u : State) (h : CatHdr) (w : Who), s.writing u h 24624 2 2 w ∧ u.folio.state ≠ FolioState.armed) ∧
    (∃ (s : State) (u : State) (h : CatHdr) (w : Who), s.writing u h 24624 2 2 w ∧ u.folio.state = FolioState.armed ∧
      u.folio.post.length + 1 < u.folioPostCap) ∧
    (∃ (s : State) (u : State) (h : CatHdr) (w : Who), s.writing u h 24624 2 3 w ∧ u.folio.state ≠ FolioState.armed ∧
      u.folio.state ≠ FolioState.triggered) ∧
    (∃ (s : State) (u : State) (h : CatHdr) (w : Who), s.writing u h 24624 2 3 w ∧ (u.folio.state = FolioState.armed ∨
      u.folio.state = FolioState.triggered) ∧ u.cfg 24624 17 = 0) ∧
    (∃ (s : State) (u : State) (h : CatHdr) (w : Who), s.writing u h 24624 2 4 w) ∧
    (∃ (s : State) (u : State) (h : CatHdr) (w : Who) (v : BitVec 64), s.writing u h 24624 10 v.toNat w) :=
  ⟨⟨hub0, ((hub0).opened (fromApb 0) 24624 2 1), (fromApb 0), operator,
     ⟨⟨⟨rfl, fun _ => rfl, fun h => absurd rfl h, by decide +kernel, by decide +kernel⟩, by decide +kernel⟩, rfl⟩,
     Or.inl rfl⟩,
   ⟨(folioHub .armed), ((folioHub .armed).opened (fromApb 0) 24624 2 1), (fromApb 0), operator,
     ⟨⟨⟨rfl, fun _ => rfl, fun h => absurd rfl h, by decide +kernel, by decide +kernel⟩, by decide +kernel⟩, rfl⟩,
     (by decide +kernel), (by decide +kernel)⟩,
   ⟨hub0, ((hub0).opened (fromApb 0) 24624 2 2), (fromApb 0), operator,
     ⟨⟨⟨rfl, fun _ => rfl, fun h => absurd rfl h, by decide +kernel, by decide +kernel⟩, by decide +kernel⟩, rfl⟩,
     (by decide +kernel)⟩,
   ⟨(folioHub .armed), ((folioHub .armed).opened (fromApb 0) 24624 2 2), (fromApb 0), operator,
     ⟨⟨⟨rfl, fun _ => rfl, fun h => absurd rfl h, by decide +kernel, by decide +kernel⟩, by decide +kernel⟩, rfl⟩,
     (by decide +kernel), (by decide +kernel)⟩,
   ⟨hub0, ((hub0).opened (fromApb 0) 24624 2 3), (fromApb 0), operator,
     ⟨⟨⟨rfl, fun _ => rfl, fun h => absurd rfl h, by decide +kernel, by decide +kernel⟩, by decide +kernel⟩, rfl⟩,
     (by decide +kernel), (by decide +kernel)⟩,
   ⟨((folioHub .triggered).setCfg 24624 17 0 0), (((folioHub .triggered).setCfg 24624 17 0 0).opened (fromApb 0) 24624
     2 3), (fromApb 0), operator,
     ⟨⟨⟨rfl, fun _ => rfl, fun h => absurd rfl h, by decide +kernel, by decide +kernel⟩, by decide +kernel⟩, rfl⟩,
     Or.inr rfl, (by decide +kernel)⟩,
   ⟨hub0, ((hub0).opened (fromApb 0) 24624 2 4), (fromApb 0), operator,
     ⟨⟨⟨rfl, fun _ => rfl, fun h => absurd rfl h, by decide +kernel, by decide +kernel⟩, by decide +kernel⟩, rfl⟩⟩,
   ⟨hub0, ((hub0).opened (fromApb 0) 24624 10 5), (fromApb 0), operator, 5,
     ⟨⟨⟨rfl, fun _ => rfl, fun h => absurd rfl h, by decide +kernel, by decide +kernel⟩, by decide +kernel⟩, rfl⟩⟩⟩

/-- The turn of every Catalogue request. -/
theorem meets_RequestTurns :
    (∃ (s : State) (i : Instr) (h : CatHdr) (a : CatAsk), requestOf i = some (h, a) ∧ s.live = false) ∧
    (∃ (s : State) (i : Instr) (h : CatHdr) (a : CatAsk), requestOf i = some (h, a) ∧ s.live = true ∧ h.via =
      CatVia.apb ∧ s.apb.busy = true) ∧
    (∃ (s : State) (i : Instr) (h : CatHdr) (a : CatAsk), requestOf i = some (h, a) ∧ s.live = true ∧ h.via ≠
      CatVia.apb ∧ s.eid = 0) ∧
    (∃ (s : State) (i : Instr) (h : CatHdr) (a : CatAsk), requestOf i = some (h, a) ∧ s.live = true ∧ (h.via =
      CatVia.apb → s.apb.busy = false) ∧ (h.via ≠ CatVia.apb → s.eid ≠ 0) ∧ s.mustWait (viaPrincipal h.via) = true ∧
      (List.filter (fun x => decide (x.fst = viaPrincipal h.via)) s.catHeld).length < 4) ∧
    (∃ (s : State) (i : Instr) (h : CatHdr) (a : CatAsk), requestOf i = some (h, a) ∧ s.live = true ∧ (h.via =
      CatVia.apb → s.apb.busy = false) ∧ (h.via ≠ CatVia.apb → s.eid ≠ 0) ∧ s.mustWait (viaPrincipal h.via) = true ∧ 4
      ≤ (List.filter (fun x => decide (x.fst = viaPrincipal h.via)) s.catHeld).length) ∧
    (∃ (s : State) (i : Instr) (h : CatHdr) (a : CatAsk), requestOf i = some (h, a) ∧ s.live = true ∧ (h.via =
      CatVia.apb → s.apb.busy = false) ∧ (h.via ≠ CatVia.apb → s.eid ≠ 0) ∧ s.mustWait (viaPrincipal h.via) = false ∧
      s.whoIs h.via = none) :=
  ⟨⟨State.reset, (.identify (fromApb 0)), (fromApb 0), { command := cmdIdentify, index := 0, sub := 0 }, rfl,
     (by decide +kernel)⟩,
   ⟨busyHub, (.identify (fromApb 0)), (fromApb 0), { command := cmdIdentify, index := 0, sub := 0 }, rfl,
     (by decide +kernel), (by decide +kernel), (by decide +kernel)⟩,
   ⟨hub0, (.identify fromTenant), fromTenant, { command := cmdIdentify, index := 0, sub := 0 }, rfl,
     (by decide +kernel), (by decide +kernel), (by decide +kernel)⟩,
   ⟨(mustWaitHub 3), (.identify fromTenant), fromTenant, { command := cmdIdentify, index := 0, sub := 0 }, rfl,
     (by decide +kernel), (fun h => nomatch h), (fun _ => (by decide +kernel)), (by decide +kernel),
     (by decide +kernel)⟩,
   ⟨(mustWaitHub 4), (.identify fromTenant), fromTenant, { command := cmdIdentify, index := 0, sub := 0 }, rfl,
     (by decide +kernel), (fun h => nomatch h), (fun _ => (by decide +kernel)), (by decide +kernel),
     (by decide +kernel)⟩,
   ⟨strangerHub, (.identify fromTenant), fromTenant, { command := cmdIdentify, index := 0, sub := 0 }, rfl,
     (by decide +kernel), (fun h => nomatch h), (fun _ => (by decide +kernel)), (by decide +kernel),
     (by decide +kernel)⟩⟩

/-- The commands of the Catalogue. -/
theorem meets_CatalogueCommands :
    (∃ (s : State) (b : State) (h : CatHdr) (w : Who) (i : BitVec 16) (k : BitVec 8) (a : CatAsk), s.serves h w ∧ a =
      { command := cmdIdentify, index := 0, sub := 0 }) ∧
    (∃ (s : State) (b : State) (h : CatHdr) (w : Who) (i : BitVec 16) (k : BitVec 8) (a : CatAsk), s.serves h w ∧ a =
      { command := cmdDescribe, index := i, sub := k } ∧ b = s.apbBusy h a ∧ b.findEntry w i.toNat k.toNat h.partition
      = none) ∧
    (∃ (s : State) (b : State) (h : CatHdr) (w : Who) (i : BitVec 16) (k : BitVec 8) (a : CatAsk) (r : CatRow) (p :
      Nat), s.serves h w ∧ a = { command := cmdDescribe, index := i, sub := k } ∧ b = s.apbBusy h a ∧ b.findEntry w
      i.toNat k.toNat h.partition = some r ∧ p = entryPart r h.partition ∧ (b.mayRead w i.toNat r p = true ∨
      b.mayWrite w i.toNat r p = true)) ∧
    (∃ (s : State) (b : State) (h : CatHdr) (w : Who) (i : BitVec 16) (k : BitVec 8) (a : CatAsk) (r : CatRow) (p :
      Nat), s.serves h w ∧ a = { command := cmdDescribe, index := i, sub := k } ∧ b = s.apbBusy h a ∧ b.findEntry w
      i.toNat k.toNat h.partition = some r ∧ p = entryPart r h.partition ∧ b.mayRead w i.toNat r p = false ∧
      b.mayWrite w i.toNat r p = false) ∧
    (∃ (s : State) (b : State) (h : CatHdr) (w : Who) (i : BitVec 16) (k : BitVec 8) (a : CatAsk), s.serves h w ∧ a =
      { command := cmdRead, index := i, sub := k } ∧ b = s.apbBusy h a ∧ b.findEntry w i.toNat k.toNat h.partition =
      none) ∧
    (∃ (s : State) (b : State) (h : CatHdr) (w : Who) (i : BitVec 16) (k : BitVec 8) (a : CatAsk) (r : CatRow) (p :
      Nat), s.serves h w ∧ a = { command := cmdRead, index := i, sub := k } ∧ b = s.apbBusy h a ∧ b.findEntry w
      i.toNat k.toNat h.partition = some r ∧ p = entryPart r h.partition ∧ b.mayRead w i.toNat r p = false) ∧
    (∃ (s : State) (b : State) (h : CatHdr) (w : Who) (i : BitVec 16) (k : BitVec 8) (a : CatAsk) (r : CatRow) (p :
      Nat), s.serves h w ∧ a = { command := cmdRead, index := i, sub := k } ∧ b = s.apbBusy h a ∧ b.findEntry w
      i.toNat k.toNat h.partition = some r ∧ p = entryPart r h.partition ∧ b.mayRead w i.toNat r p = true ∧ r.ty.bytes
      = 0) ∧
    (∃ (s : State) (b : State) (h : CatHdr) (w : Who) (i : BitVec 16) (k : BitVec 8) (a : CatAsk) (r : CatRow) (p :
      Nat), s.serves h w ∧ a = { command := cmdRead, index := i, sub := k } ∧ b = s.apbBusy h a ∧ b.findEntry w
      i.toNat k.toNat h.partition = some r ∧ p = entryPart r h.partition ∧ b.mayRead w i.toNat r p = true ∧ r.ty.bytes
      ≠ 0) ∧
    (∃ (s : State) (b : State) (h : CatHdr) (w : Who) (i : BitVec 16) (k : BitVec 8) (a : CatAsk) (offset : BitVec 32)
      (len : BitVec 16) (n : Nat) (g : BitVec 16), s.serves h w ∧ a = { command := cmdReadSeg, index := i, sub := k }
      ∧ (n = if h.via = CatVia.apb then len.toNat % 2 ^ 11 else len.toNat) ∧ (b = if h.via = CatVia.apb then
      { s.apbBusy h a with apb := { (s.apbBusy h a).apb with offset := offset, len := BitVec.ofNat 32 n } } else
      s.apbBusy h a) ∧ b.findEntry w i.toNat k.toNat h.partition = none) ∧
    (∃ (s : State) (b : State) (h : CatHdr) (w : Who) (i : BitVec 16) (k : BitVec 8) (a : CatAsk) (offset : BitVec 32)
      (len : BitVec 16) (n : Nat) (g : BitVec 16) (r : CatRow) (p : Nat) (d : Domain), s.serves h w ∧ a =
      { command := cmdReadSeg, index := i, sub := k } ∧ (n = if h.via = CatVia.apb then len.toNat % 2 ^ 11 else
      len.toNat) ∧ (b = if h.via = CatVia.apb then
      { s.apbBusy h a with apb := { (s.apbBusy h a).apb with offset := offset, len := BitVec.ofNat 32 n } } else
      s.apbBusy h a) ∧ b.findEntry w i.toNat k.toNat h.partition = some r ∧ p = entryPart r h.partition ∧ d =
      b.domainOf w i.toNat r.sub p ∧ b.mayRead w i.toNat r p = false) ∧
    (∃ (s : State) (b : State) (h : CatHdr) (w : Who) (i : BitVec 16) (k : BitVec 8) (a : CatAsk) (offset : BitVec 32)
      (len : BitVec 16) (n : Nat) (g : BitVec 16) (r : CatRow) (p : Nat) (d : Domain), s.serves h w ∧ a =
      { command := cmdReadSeg, index := i, sub := k } ∧ (n = if h.via = CatVia.apb then len.toNat % 2 ^ 11 else
      len.toNat) ∧ (b = if h.via = CatVia.apb then
      { s.apbBusy h a with apb := { (s.apbBusy h a).apb with offset := offset, len := BitVec.ofNat 32 n } } else
      s.apbBusy h a) ∧ b.findEntry w i.toNat k.toNat h.partition = some r ∧ p = entryPart r h.partition ∧ d =
      b.domainOf w i.toNat r.sub p ∧ b.mayRead w i.toNat r p = true ∧ (r.ty.bytes ≠ 0 ∨ n = 0 ∨ 1024 < n)) ∧
    (∃ (s : State) (b : State) (h : CatHdr) (w : Who) (i : BitVec 16) (k : BitVec 8) (a : CatAsk) (offset : BitVec 32)
      (len : BitVec 16) (n : Nat) (g : BitVec 16) (r : CatRow) (p : Nat) (d : Domain), s.serves h w ∧ a =
      { command := cmdReadSeg, index := i, sub := k } ∧ (n = if h.via = CatVia.apb then len.toNat % 2 ^ 11 else
      len.toNat) ∧ (b = if h.via = CatVia.apb then
      { s.apbBusy h a with apb := { (s.apbBusy h a).apb with offset := offset, len := BitVec.ofNat 32 n } } else
      s.apbBusy h a) ∧ b.findEntry w i.toNat k.toNat h.partition = some r ∧ p = entryPart r h.partition ∧ d =
      b.domainOf w i.toNat r.sub p ∧ b.mayRead w i.toNat r p = true ∧ r.ty.bytes = 0 ∧ 1 ≤ n ∧ n ≤ 1024 ∧ d.current
      offset.toNat g = false) ∧
    (∃ (s : State) (b : State) (h : CatHdr) (w : Who) (i : BitVec 16) (k : BitVec 8) (a : CatAsk) (offset : BitVec 32)
      (len : BitVec 16) (n : Nat) (g : BitVec 16) (r : CatRow) (p : Nat) (d : Domain), s.serves h w ∧ a =
      { command := cmdReadSeg, index := i, sub := k } ∧ (n = if h.via = CatVia.apb then len.toNat % 2 ^ 11 else
      len.toNat) ∧ (b = if h.via = CatVia.apb then
      { s.apbBusy h a with apb := { (s.apbBusy h a).apb with offset := offset, len := BitVec.ofNat 32 n } } else
      s.apbBusy h a) ∧ b.findEntry w i.toNat k.toNat h.partition = some r ∧ p = entryPart r h.partition ∧ d =
      b.domainOf w i.toNat r.sub p ∧ b.mayRead w i.toNat r p = true ∧ r.ty.bytes = 0 ∧ 1 ≤ n ∧ n ≤ 1024 ∧ d.current
      offset.toNat g = true) ∧
    (∃ (s : State) (b : State) (h : CatHdr) (w : Who) (i : BitVec 16) (k : BitVec 8) (a : CatAsk) (x : Nat × Nat),
      s.serves h w ∧ a = { command := cmdNext, index := i, sub := k } ∧ b = s.apbBusy h a ∧ b.nextIn w h.partition
      i.toNat k.toNat (List.filter (fun j => decide (i.toNat ≤ j)) catIndices) = some x) ∧
    (∃ (s : State) (b : State) (h : CatHdr) (w : Who) (i : BitVec 16) (k : BitVec 8) (a : CatAsk), s.serves h w ∧ a =
      { command := cmdNext, index := i, sub := k } ∧ b = s.apbBusy h a ∧ b.nextIn w h.partition i.toNat k.toNat
      (List.filter (fun j => decide (i.toNat ≤ j)) catIndices) = none) ∧
    (∃ (s : State) (b : State) (h : CatHdr) (w : Who) (i : BitVec 16) (k : BitVec 8) (c : BitVec 8) (why :
      Malformation), s.serves h w) ∧
    (∃ (s : State) (b : State) (h : CatHdr) (w : Who) (i : BitVec 16) (k : BitVec 8) (n : Nat) (v : BitVec 128) (o :
      Option Nat) (u : State) (st : CatStatus), s.serves h w ∧ (o = if h.via = CatVia.apb then none else some n) ∧ b =
      (s.apbBusy h (writeAsk i k)).apbData h v.toNat ∧ u = s.opened h i k v.toNat ∧ b.writeRefused h (writeAsk i k) w
      o v.toNat = some st) ∧
    (∃ (s : State) (b : State) (h : CatHdr) (w : Who) (i : BitVec 16) (k : BitVec 8) (n : Nat) (v : BitVec 128) (o :
      Option Nat) (u : State), s.serves h w ∧ (o = if h.via = CatVia.apb then none else some n) ∧ b = (s.apbBusy h
      (writeAsk i k)).apbData h v.toNat ∧ u = s.opened h i k v.toNat ∧ b.writeRefused h (writeAsk i k) w o v.toNat =
      none ∧ i.toNat ∈ [8448, 8704, 9220, 9984, 11008, 11265, 16640, 28672, 28688, 28704, 28752]) :=
  ⟨⟨hub0, hub0, (fromApb 0), operator, 0, 0, { command := cmdIdentify, index := 0, sub := 0 },
     ⟨rfl, fun _ => rfl, fun h => absurd rfl h, by decide +kernel, by decide +kernel⟩, rfl⟩,
   ⟨hub0, ((hub0).apbBusy (fromApb 0) { command := cmdDescribe, index := 65535, sub := 255 }), (fromApb 0), operator,
     65535, 255, { command := cmdDescribe, index := 65535, sub := 255 },
     ⟨rfl, fun _ => rfl, fun h => absurd rfl h, by decide +kernel, by decide +kernel⟩, rfl, rfl, (by decide +kernel)⟩,
   ⟨tenantHub, ((tenantHub).apbBusy (fromTenant) { command := cmdDescribe, index := 12304, sub := 1 }), fromTenant,
     tenant, 12304, 1, { command := cmdDescribe, index := 12304, sub := 1 }, (entryOf ((tenantHub).apbBusy
     (fromTenant) { command := cmdDescribe, index := 12304, sub := 1 }) tenant 12304 1 fromTenant.partition
     (by decide +kernel)), 1,
     ⟨rfl, fun h => (by cases h), fun _ => by decide +kernel, by decide +kernel, by decide +kernel⟩, rfl, rfl,
     entryOf_found (by decide +kernel), (by decide +kernel), Or.inl (by decide +kernel)⟩,
   ⟨tenantHub, ((tenantHub).apbBusy (fromTenant) { command := cmdDescribe, index := 12288, sub := 2 }), fromTenant,
     tenant, 12288, 2, { command := cmdDescribe, index := 12288, sub := 2 }, (entryOf ((tenantHub).apbBusy
     (fromTenant) { command := cmdDescribe, index := 12288, sub := 2 }) tenant 12288 2 fromTenant.partition
     (by decide +kernel)), 0,
     ⟨rfl, fun h => (by cases h), fun _ => by decide +kernel, by decide +kernel, by decide +kernel⟩, rfl, rfl,
     entryOf_found (by decide +kernel), (by decide +kernel), (by decide +kernel), (by decide +kernel)⟩,
   ⟨hub0, ((hub0).apbBusy (fromApb 0) { command := cmdRead, index := 0, sub := 0 }), (fromApb 0), operator, 0, 0,
     { command := cmdRead, index := 0, sub := 0 },
     ⟨rfl, fun _ => rfl, fun h => absurd rfl h, by decide +kernel, by decide +kernel⟩, rfl, rfl, (by decide +kernel)⟩,
   ⟨tenantHub, ((tenantHub).apbBusy (fromTenant) { command := cmdRead, index := 12288, sub := 2 }), fromTenant,
     tenant, 12288, 2, { command := cmdRead, index := 12288, sub := 2 }, (entryOf ((tenantHub).apbBusy (fromTenant)
     { command := cmdRead, index := 12288, sub := 2 }) tenant 12288 2 fromTenant.partition (by decide +kernel)), 0,
     ⟨rfl, fun h => (by cases h), fun _ => by decide +kernel, by decide +kernel, by decide +kernel⟩, rfl, rfl,
     entryOf_found (by decide +kernel), (by decide +kernel), (by decide +kernel)⟩,
   ⟨hub0, ((hub0).apbBusy (fromApb 0) { command := cmdRead, index := 4096, sub := 2 }), (fromApb 0), operator, 4096,
     2, { command := cmdRead, index := 4096, sub := 2 }, (entryOf ((hub0).apbBusy (fromApb 0)
     { command := cmdRead, index := 4096, sub := 2 }) operator 4096 2 0 (by decide +kernel)), 0,
     ⟨rfl, fun _ => rfl, fun h => absurd rfl h, by decide +kernel, by decide +kernel⟩, rfl, rfl,
     entryOf_found (by decide +kernel), (by decide +kernel), (by decide +kernel), (by decide +kernel)⟩,
   ⟨tenantHub, ((tenantHub).apbBusy (fromTenant) { command := cmdRead, index := 12288, sub := 1 }), fromTenant,
     tenant, 12288, 1, { command := cmdRead, index := 12288, sub := 1 }, (entryOf ((tenantHub).apbBusy (fromTenant)
     { command := cmdRead, index := 12288, sub := 1 }) tenant 12288 1 fromTenant.partition (by decide +kernel)), 0,
     ⟨rfl, fun h => (by cases h), fun _ => by decide +kernel, by decide +kernel, by decide +kernel⟩, rfl, rfl,
     entryOf_found (by decide +kernel), (by decide +kernel), (by decide +kernel), (by decide +kernel)⟩,
   ⟨hub0, segBusy8, (fromApb 0), operator, 0, 0, { command := cmdReadSeg, index := 0, sub := 0 }, 0, 1024, 1024, 0,
     ⟨rfl, fun _ => rfl, fun h => absurd rfl h, by decide +kernel, by decide +kernel⟩, rfl, rfl, rfl,
     (by decide +kernel)⟩,
   ⟨tenantHub, (tenantHub.apbBusy fromTenant { command := cmdReadSeg, index := 12288, sub := 2 }), fromTenant, tenant,
     12288, 2, { command := cmdReadSeg, index := 12288, sub := 2 }, 0, 1024, 1024, 0, (entryOf (tenantHub.apbBusy
     fromTenant { command := cmdReadSeg, index := 12288, sub := 2 }) tenant 12288 2 (fromTenant).partition
     (by decide +kernel)), 0, ((tenantHub.apbBusy fromTenant
     { command := cmdReadSeg, index := 12288, sub := 2 }).domainOf tenant 12288 (entryOf (tenantHub.apbBusy fromTenant
     { command := cmdReadSeg, index := 12288, sub := 2 }) tenant 12288 2 (fromTenant).partition
     (by decide +kernel)).sub 0),
     ⟨rfl, fun h => (by cases h), fun _ => by decide +kernel, by decide +kernel, by decide +kernel⟩, rfl, rfl, rfl,
     entryOf_found (by decide +kernel), (by decide +kernel), rfl, (by decide +kernel)⟩,
   ⟨hub0, segBusy10, (fromApb 0), operator, 4096, 2, { command := cmdReadSeg, index := 4096, sub := 2 }, 0, 1025,
     1025, 0, (entryOf (segBusy10) operator 4096 2 (fromApb 0).partition (by decide +kernel)), 0,
     ((segBusy10).domainOf operator 4096 (entryOf (segBusy10) operator 4096 2 (fromApb 0).partition
     (by decide +kernel)).sub 0), ⟨rfl, fun _ => rfl, fun h => absurd rfl h, by decide +kernel, by decide +kernel⟩,
     rfl, rfl, rfl, entryOf_found (by decide +kernel), (by decide +kernel), rfl, (by decide +kernel),
     Or.inr (Or.inr (by decide))⟩,
   ⟨hub0, segBusy11, (fromApb 0), operator, 4096, 2, { command := cmdReadSeg, index := 4096, sub := 2 }, 1, 1024,
     1024, 1, (entryOf (segBusy11) operator 4096 2 (fromApb 0).partition (by decide +kernel)), 0,
     ((segBusy11).domainOf operator 4096 (entryOf (segBusy11) operator 4096 2 (fromApb 0).partition
     (by decide +kernel)).sub 0), ⟨rfl, fun _ => rfl, fun h => absurd rfl h, by decide +kernel, by decide +kernel⟩,
     rfl, rfl, rfl, entryOf_found (by decide +kernel), (by decide +kernel), rfl, (by decide +kernel),
     (by decide +kernel), (by decide +kernel), (by decide +kernel), (by decide +kernel)⟩,
   ⟨hub0, segBusy12, (fromApb 0), operator, 4096, 2, { command := cmdReadSeg, index := 4096, sub := 2 }, 0, 1024,
     1024, 0, (entryOf (segBusy12) operator 4096 2 (fromApb 0).partition (by decide +kernel)), 0,
     ((segBusy12).domainOf operator 4096 (entryOf (segBusy12) operator 4096 2 (fromApb 0).partition
     (by decide +kernel)).sub 0), ⟨rfl, fun _ => rfl, fun h => absurd rfl h, by decide +kernel, by decide +kernel⟩,
     rfl, rfl, rfl, entryOf_found (by decide +kernel), (by decide +kernel), rfl, (by decide +kernel),
     (by decide +kernel), (by decide +kernel), (by decide +kernel), (by decide +kernel)⟩,
   ⟨hub0, ((hub0).apbBusy (fromApb 0) { command := cmdNext, index := 0, sub := 0 }), (fromApb 0), operator, 0, 0,
     { command := cmdNext, index := 0, sub := 0 }, ((4096, 1)),
     ⟨rfl, fun _ => rfl, fun h => absurd rfl h, by decide +kernel, by decide +kernel⟩, rfl, rfl, (by decide +kernel)⟩,
   ⟨hub0, ((hub0).apbBusy (fromApb 0) { command := cmdNext, index := 48896, sub := 255 }), (fromApb 0), operator,
     48896, 255, { command := cmdNext, index := 48896, sub := 255 },
     ⟨rfl, fun _ => rfl, fun h => absurd rfl h, by decide +kernel, by decide +kernel⟩, rfl, rfl, (by decide +kernel)⟩,
   ⟨hub0, hub0, (fromApb 0), operator, 0, 0, 9, .badLength,
     ⟨rfl, fun _ => rfl, fun h => absurd rfl h, by decide +kernel, by decide +kernel⟩⟩,
   ⟨hub0, ((hub0.apbBusy (fromApb 0) (writeAsk 12288 1)).apbData (fromApb 0) 3), (fromApb 0), operator, 12288, 1, 4,
     3, none, (hub0.opened (fromApb 0) 12288 1 3), .accessError,
     ⟨rfl, fun _ => rfl, fun h => absurd rfl h, by decide +kernel, by decide +kernel⟩, rfl, rfl, rfl,
     (by decide +kernel)⟩,
   ⟨hub0, ((hub0.apbBusy (fromApb 0) (writeAsk 8704 2)).apbData (fromApb 0) 8), (fromApb 0), operator, 8704, 2, 4, 8,
     none, (hub0.opened (fromApb 0) 8704 2 8),
     ⟨rfl, fun _ => rfl, fun h => absurd rfl h, by decide +kernel, by decide +kernel⟩, rfl, rfl, rfl,
     (by decide +kernel), (by decide +kernel)⟩⟩

/-- The MCTP endpoint. -/
theorem meets_MctpEndpoint :
    (∃ (s : State) (src : BitVec 8) (tag : BitVec 3) (m : BitVec 8 → BitVec 8 → Nat → Output) (e : BitVec 8), s.live =
      true ∧ (∀ (c st : BitVec 8) (d : Nat), m c st d = Output.mctp
      { dst := src, tag := tag, command := c, completion := st, data := BitVec.ofNat 64 d }) ∧ e ≠ 0 ∧ e ≠ 255) ∧
    (∃ (s : State) (src : BitVec 8) (tag : BitVec 3) (m : BitVec 8 → BitVec 8 → Nat → Output) (e : BitVec 8), s.live =
      true ∧ (∀ (c st : BitVec 8) (d : Nat), m c st d = Output.mctp
      { dst := src, tag := tag, command := c, completion := st, data := BitVec.ofNat 64 d }) ∧ (e = 0 ∨ e = 255)) ∧
    (∃ (s : State) (src : BitVec 8) (tag : BitVec 3) (m : BitVec 8 → BitVec 8 → Nat → Output), s.live = true ∧ (∀ (c
      st : BitVec 8) (d : Nat), m c st d = Output.mctp
      { dst := src, tag := tag, command := c, completion := st, data := BitVec.ofNat 64 d })) ∧
    (∃ (s : State) (src : BitVec 8) (tag : BitVec 3) (m : BitVec 8 → BitVec 8 → Nat → Output) (t : BitVec 8), s.live =
      true ∧ (∀ (c st : BitVec 8) (d : Nat), m c st d = Output.mctp
      { dst := src, tag := tag, command := c, completion := st, data := BitVec.ofNat 64 d }) ∧ (t = 255 ∨ t = 0)) ∧
    (∃ (s : State) (src : BitVec 8) (tag : BitVec 3) (m : BitVec 8 → BitVec 8 → Nat → Output) (t : BitVec 8), s.live =
      true ∧ (∀ (c st : BitVec 8) (d : Nat), m c st d = Output.mctp
      { dst := src, tag := tag, command := c, completion := st, data := BitVec.ofNat 64 d }) ∧ t ≠ 255 ∧ t ≠ 0) ∧
    (∃ (s : State) (src : BitVec 8) (tag : BitVec 3) (m : BitVec 8 → BitVec 8 → Nat → Output), s.live = true ∧ (∀ (c
      st : BitVec 8) (d : Nat), m c st d = Output.mctp
      { dst := src, tag := tag, command := c, completion := st, data := BitVec.ofNat 64 d })) ∧
    (∃ (s : State) (src : BitVec 8) (tag : BitVec 3) (m : BitVec 8 → BitVec 8 → Nat → Output), s.live = true ∧ (∀ (c
      st : BitVec 8) (d : Nat), m c st d = Output.mctp
      { dst := src, tag := tag, command := c, completion := st, data := BitVec.ofNat 64 d })) ∧
    (∃ (s : State) (src : BitVec 8) (tag : BitVec 3) (m : BitVec 8 → BitVec 8 → Nat → Output) (k : BitVec 8), s.live =
      true ∧ (∀ (c st : BitVec 8) (d : Nat), m c st d = Output.mctp
      { dst := src, tag := tag, command := c, completion := st, data := BitVec.ofNat 64 d }) ∧ k ≠ 0) ∧
    (∃ (s : State) (src : BitVec 8) (tag : BitVec 3) (m : BitVec 8 → BitVec 8 → Nat → Output) (why : PacketFault) (n :
      Nat), s.live = true ∧ (∀ (c st : BitVec 8) (d : Nat), m c st d = Output.mctp
      { dst := src, tag := tag, command := c, completion := st, data := BitVec.ofNat 64 d })) :=
  ⟨⟨hub0, 9, 7, (fun c st d => .mctp
     { dst := 9, tag := 7, command := c, completion := st, data := BitVec.ofNat 64 d }), 254, (by decide +kernel),
     (fun _ _ _ => rfl), (by decide +kernel), (by decide +kernel)⟩,
   ⟨hub0, 9, 7, (fun c st d => .mctp
     { dst := 9, tag := 7, command := c, completion := st, data := BitVec.ofNat 64 d }), 255, (by decide +kernel),
     (fun _ _ _ => rfl), Or.inr rfl⟩,
   ⟨hub0, 9, 7, (fun c st d => .mctp
     { dst := 9, tag := 7, command := c, completion := st, data := BitVec.ofNat 64 d }), (by decide +kernel),
     (fun _ _ _ => rfl)⟩,
   ⟨hub0, 9, 7, (fun c st d => .mctp
     { dst := 9, tag := 7, command := c, completion := st, data := BitVec.ofNat 64 d }), 255, (by decide +kernel),
     (fun _ _ _ => rfl), Or.inl rfl⟩,
   ⟨hub0, 9, 7, (fun c st d => .mctp
     { dst := 9, tag := 7, command := c, completion := st, data := BitVec.ofNat 64 d }), 1, (by decide +kernel),
     (fun _ _ _ => rfl), (by decide +kernel), (by decide +kernel)⟩,
   ⟨hub0, 9, 7, (fun c st d => .mctp
     { dst := 9, tag := 7, command := c, completion := st, data := BitVec.ofNat 64 d }), (by decide +kernel),
     (fun _ _ _ => rfl)⟩,
   ⟨hub0, 9, 7, (fun c st d => .mctp
     { dst := 9, tag := 7, command := c, completion := st, data := BitVec.ofNat 64 d }), (by decide +kernel),
     (fun _ _ _ => rfl)⟩,
   ⟨hub0, 9, 7, (fun c st d => .mctp
     { dst := 9, tag := 7, command := c, completion := st, data := BitVec.ofNat 64 d }), 255, (by decide +kernel),
     (fun _ _ _ => rfl), (by decide +kernel)⟩,
   ⟨hub0, 9, 7, (fun c st d => .mctp
     { dst := 9, tag := 7, command := c, completion := st, data := BitVec.ofNat 64 d }), .noEid, 3,
     (by decide +kernel), (fun _ _ _ => rfl)⟩⟩

end Sys2Proof.Tests
end

section
/-! SUPPORT. How every command of the hub ends: it completes, or it stops because it names a unit that the hub does not
have (log entry 98). A command that names a unit is an `if` on that unit's presence, in the frames `State.atPort`,
`State.atLink`, `State.atUnit` and `State.atPair` too, so `stopIf_ite` (a Boolean test) and `stop_dec` (a bound) say how
it ends; `stop_op` says it of an op of any issuer, and `stop_none` of a command that names no unit. -/

namespace Sys2Proof.Machine

/-- An outcome is the one that a stop announces: the next state if there is none, else a fault of the stop's name, and
never a refusal. -/
def EndsBy (stop : Option Fault) (o : Host.Outcome State Fault Refusal) : Prop :=
  (stop = none → ∃ t, o = .next t) ∧ (∀ f, stop = some f → o = .fault f) ∧ ∀ r, o ≠ .refused r

section
variable {s : State}

theorem execTemplateWrite_endsBy (src : TemplateSource) (word : BitVec 2) (handle : Handle) (data : BitVec 64) :
    EndsBy (stopOf (.templateWrite src word handle data) s) (execTemplateWrite src word handle data s) := by
  cases src with
  | slot g host => exact stop_dec
  | link c h carry => exact stopIf_ite

theorem execCompletionDelivery_endsBy (target : RspTarget) :
    EndsBy (stopOf (.completionDelivery target) s) (execCompletionDelivery target s) := by
  cases target with
  | port p => exact stopIf_ite
  | aperture => exact stop_none

theorem execBucketRefill_endsBy (b : BucketId) :
    EndsBy (stopOf (.bucketRefill b) s) (execBucketRefill b s) := by
  have stop : stopOf (.bucketRefill b) s = stopIf (s.bucketBuilt b) .absentUnit := by cases b <;> rfl
  rw [stop]
  exact stopIf_ite

theorem execScrubAccess_endsBy (w : StoreWord) : EndsBy (stopOf (.scrubAccess w) s) (execScrubAccess w s) := by
  change EndsBy (stopIf (wordOk w) .absentUnit) _
  rw [wordOk_built]
  exact stopIf_ite

theorem execApertureRefused_endsBy (area : ApertureArea) (why : ApertureFault) (isRead : Bool) :
    EndsBy (stopOf (.apertureRefused area why isRead) s) (execApertureRefused area why isRead s) := by
  change EndsBy (stopIf (areaOk area) .absentUnit) _
  rw [areaOk_built]
  exact stopIf_ite

theorem execW1ArrwDeadline_endsBy (port entry : Nat) :
    EndsBy (stopOf (.w1ArrwDeadline port entry) s) (execW1ArrwDeadline port entry s) := by
  have stop : stopOf (.w1ArrwDeadline port entry) s =
      stopIf (decide (port = 128 ∧ entry < 1024 ∨ s.portBuilt port = true)) .absentPort := by
    simp [stopOf, Bool.decide_or]
  rw [stop]
  exact stop_dec

end

/-- Every command ends as `stopOf` says: the cases are the rows of the table, by the units that they name. -/
theorem exec_endsBy (i : Instr) (s : State) : EndsBy (stopOf i s) (exec i s) := by
  cases i with
  -- ops, by their issuer
  | sig r | set r | clr r | wait r | take r | tryTake r | arrv r | arrw r | wrel r | acq r | tryAcq r | rel r | frel r
  | read r | init r | fadd r | swap r | cas r | arm r | disarm r | hold r | resume r | park r | unpark r | fence r
  | unlistedOpcode opcode r => exact stop_op s _ r
  -- Core Sync Ports
  | stgInvalAck | relDrainEnd | responseRead | ticketRemove | shimSurroundWait | coreReset | coreResetRelease
  | nearParityCheck | registeredBarrierResetCheck => exact stopIf_ite
  -- links
  | linkHoldExpiry | routeSettle | replayTimeout | retryLimit | negResend | negotiationTimeout | ackCtrlSend | phyUp
  | phyDown | flitReceive | ctrl | neg | timeReq | timeRsp | idleFlit | messageForward | reservedMessageKind =>
    exact stopIf_ite
  -- one unit of a number
  | waiterExpiry | loanRecallDelay | treeLinkLoss | treeGrantUndeliverable | loanIdleReturn | stocktakeRound
  | partQuiesceWait | holdPeerTimeout | resetPeerTimeout | partQuiesceAckRise | partQuiesceAckFall | inventoryDone
  | evInputChange | evDeferredSig | evLevelApply | apertureStallLimit | notifyIrqHoldoff => exact stop_dec
  -- one unit of a number, of a partition
  | depositHoldLimit | shelfTimeLatch | shelfPeerTimeout => exact stop_dec
  -- stages
  | stageRestart | stageRetry => exact stopIf_ite
  -- commands with a test of their own
  | templateWrite src word handle data => exact execTemplateWrite_endsBy src word handle data
  | completionDelivery target => exact execCompletionDelivery_endsBy target
  | bucketRefill b => exact execBucketRefill_endsBy b
  | scrubAccess w => exact execScrubAccess_endsBy w
  | apertureRefused area why isRead => exact execApertureRefused_endsBy area why isRead
  | w1ArrwDeadline port entry => exact execW1ArrwDeadline_endsBy port entry
  -- commands that name no unit
  | agedWalk | loanLinkLoss | lockLinkLoss | routeStrand | timeExchange | timeHoldoverLimit | mctpReassemblyTimeout
  | folioTrigTime | hubReset | startup | startupComplete | refclkLoss | refclkReturn | cpl | fwdArrv | loanReq
  | loanGrantOpen | loanGrant | loanRecall | loanReturn | holderReset | waiterPurge | routeFence | fenceAck | holdReq
  | holdAck | resumeReq | resumeAck | query | report | declare | shelfArm | shelfDone | shelfCancel | resetReq
  | resetDone | ctxReq | ctxDone | faultNotice | ticketRingWriteDone | notifyWriteDone | producerMirrorWriteDone
  | managerWriteError | folioDumpDone | consumerIndexWrite | portPartition | lockGroupMode | linkRenegotiate
  | ticketRingConfigWrite | viewSelect | evBindingWrite | partReset | partContext | partQuiesceOverride | resliceTarget
  | resliceDrained | resliceAbort | waiterCancelObject | waiterCancelOriginator | loanRecallToken | lockClearAbandoned
  | routeEntry | timeSet | notifyRingConfigWrite | shelfArmEntry | shelfCancelEntry | folioArm | folioTrigger
  | folioStop | folioClear | folioMarker | inventoryTake | partHold | partResume | depositAck | depositFlags
  | stocktakeEnable | faultInjectBits | faultInjectStage | partJobFaultInject | identify | describe | catRead | catWrite
  | readSeg | nextEntry | setEndpointId | getEndpointId | getMctpVersionSupport | getMessageTypeSupport
  | getVendorDefinedMessageSupport | mctpPacketDiscard | catMalformedRequest => exact stop_none

/-- Settles O2: each command's frame tests the presence of exactly the unit that `stopOf` names, so each ends as it says
(`exec_endsBy`). -/
theorem commandsComplete : Obligations.CommandsComplete :=
  fun i s => exec_endsBy i s

end Sys2Proof.Machine
end

section
/-! SUPPORT. Reset and start-up (R19, R546 to R550, R555). What `State.cleared` leaves is said store by store: the
levels of the pins by `Sparse.get_remap`, the Catalogue by `Sparse.get_dropKeys`. The end of start-up does nothing at
a link whose PHY is down and at a port that no op waits at. -/

namespace Sys2Proof.Machine

section
variable {s : State}

/-! ### What a reset leaves (R532, R548) -/

theorem cleared_port (h : s.storesWf = true) (supply : Bool) (p : Nat) :
    (s.cleared supply).port p = (s.port p).pinsOnly :=
  Sparse.get_remap (d := portNone) (f := Port.pinsOnly) (fun _ => rfl) (ports_wf h) p

theorem cleared_link (h : s.storesWf = true) (supply : Bool) (c : Nat) :
    (s.cleared supply).link c = (s.link c).pinsOnly :=
  Sparse.get_remap (d := linkNone) (f := Link.pinsOnly) (fun _ => rfl) (links_wf h) c

theorem cleared_part (h : s.storesWf = true) (supply : Bool) (p : Nat) :
    (s.cleared supply).part p = (s.part p).pinsOnly :=
  Sparse.get_remap (d := partNone) (f := Part.pinsOnly) (fun _ => rfl) (parts_wf h) p

theorem cleared_ev (h : s.storesWf = true) (supply : Bool) (i : Nat) :
    (s.cleared supply).ev i = (s.ev i).pinsOnly :=
  Sparse.get_remap (d := evNone) (f := EvInput.pinsOnly) (fun _ => rfl) (evs_wf h) i

theorem cleared_cfg (supply : Bool) (i b p : Nat) :
    (s.cleared supply).cfg i b p =
      if supply = false ∧ keyIndex (catKey i b p) = 0x2C00 then s.cfg i b p else State.reset.cfg i b p := by
  cases supply with
  | true => simp [State.cleared, State.cfg, State.reset]
  | false =>
    change ((s.cat.dropKeys fun k => !principalKey k).get catNone (catKey i b p)).toNat = _
    rw [Sparse.get_dropKeys]
    by_cases principal : keyIndex (catKey i b p) = 0x2C00
    · simp [principalKey, principal, State.cfg]
    · simp [principalKey, principal, State.cfg, State.reset, Sparse.get]

/-! ### The start instant (R19, R312, R549) -/

theorem startup_of_held (dev : BitVec 12) (die sel : BitVec 3) (absent : BitVec 128)
    (h : s.phase ≠ .inReset ∨ s.refLost = true) : s.startup dev die sel absent = s :=
  if_neg fun ⟨reset, clocked⟩ => h.elim (· reset) fun lost => by simp [clocked] at lost

/-- A port is there if the build has its cluster and its core, and no pin says that it is absent. -/
theorem presentPorts_getLsbD (b : Build) (absent : BitVec 128) {p : Nat} (hp : p < 128) :
    (BitVec.ofNat 128 b.allPorts &&& ~~~absent).getLsbD p =
      (decide (p / 16 < b.clusters ∧ p % 16 < b.cores) && !absent.getLsbD p) := by
  simp only [BitVec.getLsbD_and, BitVec.getLsbD_ofNat, BitVec.getLsbD_not, hp, decide_true, Bool.true_and,
    allPorts_bit b p hp]

/-! ### The end of start-up (R549, R550, R555) -/

theorem linkStarts_down {c : Nat} (h : (s.link c).phyUp = false) : s.linkStarts c = s := by
  simp [State.linkStarts, h]

theorem portStarts_idle {p : Nat} (h : (s.port p).issue = []) : s.portStarts p = s := if_pos h

/-- With every PHY down and no op presented, the end of start-up only makes the hub operational. -/
theorem startupComplete_quiet (hp : s.phase = .starting) (hc : s.refLost = false) (hr : s.refSel.toNat ≤ 4)
    (links : ∀ c, (s.link c).phyUp = false) (ports : ∀ p, (s.port p).issue = []) :
    s.startupComplete = { s with phase := .operational, scrubStart := s.clock } := by
  unfold State.startupComplete
  rw [if_pos ⟨hp, hc, hr⟩]
  dsimp only
  generalize hu : ({ s with phase := .operational, scrubStart := s.clock } : State) = u
  obtain ⟨down, idle⟩ : (∀ c, (u.link c).phyUp = false) ∧ ∀ p, (u.port p).issue = [] := hu ▸ ⟨links, ports⟩
  rw [each_same _ fun c _ => linkStarts_down (down c), each_same _ fun p _ => portStarts_idle (idle p)]

theorem startupComplete_of_held (h : s.phase ≠ .starting ∨ s.refLost = true ∨ 4 < s.refSel.toNat) :
    s.startupComplete = s := by
  refine if_neg fun ⟨starting, clocked, listed⟩ => ?_
  rcases h with h | h | h
  · exact h starting
  · simp [clocked] at h
  · omega

end

/-- Settles O35: the reset and the start instant by what `State.cleared` leaves, the end of start-up by the links and
the ports at which it has nothing to do. -/
theorem resetAndStart : Obligations.ResetAndStart := by
  intro s hs
  refine ⟨fun supply => ⟨s.cleared supply, rfl, rfl, rfl, rfl, rfl, rfl, rfl, rfl, rfl, rfl, rfl, rfl, rfl, rfl, rfl,
    rfl, rfl, rfl, rfl, rfl, rfl, rfl, ?_⟩, fun dev die sel absent => ⟨fun hp hc => ?_, fun held => ?_⟩,
    fun hp hc hr links ports => ?_, fun held => ?_⟩
  · exact ⟨cleared_port hs supply, cleared_link hs supply, cleared_part hs supply, cleared_ev hs supply,
      cleared_cfg supply⟩
  · exact ⟨_, congrArg Host.Outcome.next (if_pos ⟨hp, hc⟩), rfl, rfl, rfl, rfl, rfl, rfl, rfl,
      fun _ built => presentPorts_getLsbD s.build absent built⟩
  · exact congrArg Host.Outcome.next (startup_of_held dev die sel absent held)
  · exact congrArg Host.Outcome.next (startupComplete_quiet hp hc hr links ports)
  · exact congrArg Host.Outcome.next (startupComplete_of_held held)

end Sys2Proof.Machine
end

section
/-! SUPPORT. Messages that a link has brought whole (R21, R346, R374, R381). A message for another hub is forwarded with
one hop more, and `State.send` says on what: the link of its route, by its level (`send_on`), or nothing
(`send_stranded`). -/

namespace Sys2Proof.Machine

section
variable {s : State} {c : Nat} {m : Msg}

/-! ### Where a message leaves -/

/-- R373: while its primary is UP a message leaves on it. -/
theorem leave_up {e : BitVec 32} (valid : entryValid e = true) (up : (s.link (entryPrimary e)).state = .up) :
    s.leave e = .on (entryPrimary e) (entryVl e) := by
  simp [State.leave, valid, up]

/-- No planned change and no settle time holds the messages of a destination back (R375). -/
def State.routeSteady (s : State) (dst : HubId) : Prop :=
  (s.changes.any fun x => x.key = s.routeKey dst) = false ∧ (s.settles.any fun x => x.1 = s.routeKey dst) = false

theorem send_on {about : Option Nat} {fwd : Bool} {k vl : Nat} (away : m.hdr.dst ≠ s.hub)
    (steady : s.routeSteady m.hdr.dst) (leaves : s.leave (s.route (s.routeKey m.hdr.dst)) = .on k vl)
    (level : m.body.level ≤ linkLevel k (s.link k).version) : s.send m about fwd = s.queueOn k vl m about fwd := by
  have carried : ¬ (linkLevel k (s.link k).version < m.body.level ∧ (s.link k).version ≠ 0) := fun h => by omega
  obtain ⟨changes, settles⟩ := steady
  unfold State.send State.sendRaw
  simp only [away, leaves, carried, changes, settles, Bool.false_and, Bool.false_eq_true, if_false]

theorem send_stranded {about : Option Nat} {fwd : Bool} (away : m.hdr.dst ≠ s.hub) (steady : s.routeSteady m.hdr.dst)
    (strands : s.leave (s.route (s.routeKey m.hdr.dst)) = .strand) :
    s.send m about fwd = s.holdMsg m .stranded about fwd := by
  obtain ⟨changes, settles⟩ := steady
  unfold State.send State.sendRaw
  simp only [away, strands, changes, settles, Bool.false_and, Bool.false_eq_true, if_false]

/-! ### What the hub does with a message that a link has brought -/

/-- The message as it goes on: one hop more (R374). -/
def nextHop (m : Msg) : Msg := { m with hdr := { m.hdr with hops := m.hdr.hops + 1 } }

theorem arriveMsg_home (home : m.hdr.dst = s.hub) :
    s.arriveMsg c m = { s with inbox := s.inbox ++ [{ port := some c, msg := m }] } := if_pos home

theorem arriveMsg_onward (away : m.hdr.dst ≠ s.hub) (fence : m.body.isFence = false)
    (hops : m.hdr.hops.toNat < s.cfg 0x5100 3) : s.arriveMsg c m = s.send (nextHop m) none true := by
  unfold State.arriveMsg State.forwardMsg
  rw [if_neg away, if_neg (Nat.not_le.mpr hops)]
  split
  · rename_i body
    simp [body, Payload.isFence] at fence
  · rfl

theorem arriveMsg_tired (away : m.hdr.dst ≠ s.hub) (hops : s.cfg 0x5100 3 ≤ m.hdr.hops.toNat) :
    s.arriveMsg c m = s.hopDiscard c m := by
  unfold State.arriveMsg State.forwardMsg
  rw [if_neg away, if_pos hops]

/-- R374, R432: the discard of a completion sets the latch of its partition. -/
theorem hopDiscard_cpl (cpl : m.body.isCpl = true) : ((s.hopDiscard c m).part m.hdr.partition.toNat).fault = true := by
  have discards : s.hopDiscard c m =
      ((s.bump 0x5100 6).recordDiscard c m).jobFault { cause := 0x14 } [m.hdr.partition.toNat] := by
    unfold State.hopDiscard State.failOne
    rw [if_pos m.hdr.partition.isLt]
    split
    · rename_i body
      simp [body, Payload.isCpl] at cpl
    · rfl
  rw [discards]
  exact (jobFault_part _ _ _).2 _ (List.mem_singleton_self _)

theorem hopDiscard_sameBut : SameBut faultFields s (s.hopDiscard c m) :=
  (State.hopDiscard_wipe s c m _ (by decide)).symm

/-! ### The commands -/

theorem exec_messageForward (live : s.live = true) (built : s.linkBuilt c = true) :
    exec (.messageForward c m) s = .next (s.arriveMsg c m) := atLink_live _ live built

theorem exec_reservedMessageKind (k : BitVec 6) (live : s.live = true) (built : s.linkBuilt c = true) :
    exec (.reservedMessageKind c k) s = .next (if k = 0 ∨ 12 < k.toNat then s.linkBump c 16 else s) := by
  change s.atLink c (fun s => s.reservedKind c k) = _
  simp [State.atLink, State.reservedKind, built, live]

end

/-- Settles O40: a message for this hub, one that goes on, one whose hops are used up, and one of a reserved kind. -/
theorem messagesInTransit : Obligations.MessagesInTransit := by
  intro s c m n e live built he hn
  subst he
  have next : n = nextHop m := hn
  subst next
  rw [exec_messageForward live built]
  refine ⟨fun home => by rw [arriveMsg_home home], fun away fence hops changes settles => ?_,
    fun away hops cpl => ?_, fun k reserved => ?_, fun k low high => ?_⟩
  · have steady : s.routeSteady (nextHop m).hdr.dst := ⟨changes, settles⟩
    rw [arriveMsg_onward away fence hops]
    exact ⟨fun valid up level => congrArg _ (send_on away steady (leave_up valid up) level),
      fun strands => congrArg _ (send_stranded away steady strands)⟩
  · rw [arriveMsg_tired away hops]
    exact ⟨_, rfl, hopDiscard_cpl cpl, hopDiscard_sameBut⟩
  · rw [exec_reservedMessageKind k live built, if_pos reserved]
    rfl
  · have listed : ¬ (k = 0 ∨ 12 < k.toNat) := by
      rintro (rfl | h)
      · simp at low
      · omega
    rw [exec_reservedMessageKind k live built, if_neg listed]

end Sys2Proof.Machine
end

section
/-! SUPPORT. SET on a near EVENT (R71, R75, R303). A shim performs its near ops itself (`runOp_near`), so the lane's op
and the op at the end of a release drain come to one rule (`runOp_nearSet`): the drain's end changes nothing that a near
SET depends on (`NearSetReady.drained`). -/

namespace Sys2Proof.Machine

/-- A near op as its shim performs it. -/
def State.nearWaitOf (s : State) (h : ShimOp) : NearWait where
  lane := h.lane
  index := (getFld h.op.handle 0 6 : BitVec 6).toNat
  opcode := h.opcode
  op := h.op
  context := h.context
  stamp := s.time.stamp

/-- The hub once the only release drain of a shim has left it (R304). -/
def State.drainLeft (s : State) (p : Nat) : State :=
  s.setPort p { s.port p with drains := [], drainNoted := false }

/-- A SET that its shim performs on a near EVENT that nothing waits on, and whose answer nothing keeps from its lane. -/
structure NearSetReady (s : State) (p : Nat) (h : ShimOp) : Prop where
  set : h.opcode = opCode .set
  check : h.check = none
  near : h.op.flags.near = true
  gate : s.portGate p (opCode .set) = none
  flips : (s.port p).nearFlips = []
  latch : s.latched (s.portPart p) = false
  parity : (s.port p).nearFault.getLsbD (s.nearWaitOf h).index = false
  event : (s.near p (s.nearWaitOf h).index).otype = .event
  alone : (s.port p).waitsOn (s.nearWaitOf h).index = []
  clear : (s.port p).laneClear h.lane h.op
  parked : (s.port p).parked = []
  held : ∀ q, q < 16 → (s.part q).hold.held = false

section
variable {s : State} {p : Nat} {h : ShimOp} {c : Opcode}

theorem isNear_of (check : h.check = none) (near : h.op.flags.near = true) : h.isNear = true := by
  simp [ShimOp.isNear, check, near]

theorem runOp_near (code : opcodeOf h.opcode = some c) (near : h.isNear = true) :
    s.runOp p h = s.performNear p (s.nearWaitOf h) c := by
  unfold State.runOp
  rw [code]
  exact if_pos near

/-- R266, R75: a near op that passes check 1 takes no pending entry. -/
theorem takeEntry_near (check : h.check = none) (near : h.op.flags.near = true) : s.takeEntry p h = (s, h) := by
  simp [State.takeEntry, ShimOp.needsEntry, check, near]

/-- R93: a near op without the REL flag is performed as soon as its shim accepts it. -/
theorem acceptOp_near (check : h.check = none) (near : h.op.flags.near = true) (rel : h.op.flags.rel = false) :
    s.acceptOp p h = s.runOp p h := by
  simp [State.acceptOp, takeEntry_near check near, check, rel]

/-- R303, R304: the only drain of a shim at which nothing waits ends in its op. -/
theorem endDrain_only (drain : (s.port p).drains = [h])
    (quiet : (((s.drainLeft p).runOp p h).port p).quiet) : s.endDrain p = (s.drainLeft p).runOp p h := by
  unfold State.endDrain
  rw [drain]
  exact wakePort_quiet quiet

theorem drainLeft_port : (s.drainLeft p).port p = { s.port p with drains := [], drainNoted := false } :=
  State.port_setPort_self _ _ _

theorem drainLeft_near (n : Nat) : (s.drainLeft p).near p n = s.near p n := by
  unfold State.near
  rw [drainLeft_port]
  rfl

theorem NearSetReady.drained (r : NearSetReady s p h) : NearSetReady (s.drainLeft p) p h := by
  obtain ⟨set, check, near, gate, flips, latch, parity, event, alone, clear, parked, held⟩ := r
  refine ⟨set, check, near, gate, ?_, latch, ?_, (congrArg _ (drainLeft_near _)).trans event, ?_, ?_, ?_, held⟩
  all_goals
    rw [drainLeft_port]
    assumption

/-- R71, R106: the EVENT is set, OK is the answer, and nothing but the shim changes, and the hub's notes. -/
theorem runOp_nearSet (r : NearSetReady s p h) :
    (s.runOp p h).near p (s.nearWaitOf h).index = (s.near p (s.nearWaitOf h).index).withSet true ∧
    ((s.runOp p h).port p).issue = (s.port p).issue ∧ ((s.runOp p h).port p).fences = (s.port p).fences ∧
    ((s.runOp p h).port p).drains = (s.port p).drains ∧
    (h.op.flags.noresp = false → Answered (s.runOp p h) p h.lane h.op .ok) ∧
    SameBut ([.ports] ++ noteFields) s (s.runOp p h) := by
  have code : opcodeOf h.opcode = some .set := by rw [r.set, opcodeOf_opCode]
  have gate : s.portGate p h.opcode = none := by rw [r.set, r.gate]
  rw [runOp_near code (isNear_of r.check r.near)]
  obtain ⟨x, rfl, flag, issue, fences, drains, answer, frame⟩ := near_set (w := s.nearWaitOf h) r.set
    gate r.flips r.latch r.parity r.event r.alone r.clear r.parked r.held
  exact ⟨flag, issue, fences, drains, answer, (frame _ (by decide)).symm⟩

end

/-- Settles O18: both forms come to `runOp_nearSet`, the lane's op when its shim accepts it, the drained one once its
drain has left the shim. -/
theorem nearSets : Obligations.NearSets := by
  intro s p n h set check near hn built live gate flips latch parity event alone clear parked held
  subst hn
  have ready : NearSetReady s p h :=
    ⟨set, check, near, gate, flips, latch, parity, event, alone, clear, parked, held⟩
  refine ⟨fun rel shown takes => ⟨s.runOp p h, ?_, ?_⟩, fun drain quiet => ?_⟩
  · change s.opCommand (opCode .set) { src := .core p h.lane h.context, op := h.op } = _
    rw [exec_accepts (show s.takesNow p (s.laneOp h.lane h.context (opCode .set) h.op) from shown ▸ takes)]
    rw [show s.laneOp h.lane h.context (opCode .set) h.op = h from shown.symm, acceptOp_near check near rel]
  · obtain ⟨flag, -, -, -, answer, frame⟩ := runOp_nearSet ready
    exact ⟨flag, answer, frame⟩
  · obtain ⟨flag, issue, fences, drains, answer, frame⟩ := runOp_nearSet ready.drained
    rw [drainLeft_port] at issue fences drains
    refine ⟨_, (atPort_live (fun s => s.endDrain p) live built).trans (congrArg _ (endDrain_only drain ?_)),
      flag.trans (congrArg (·.withSet true) (drainLeft_near _)), drains, answer, ?_⟩
    · exact ⟨issue.trans quiet.1, fences.trans quiet.2⟩
    · exact (State.setPort_wipe s p _ _ (by decide)).symm.trans frame

end Sys2Proof.Machine
end

section
/-! SUPPORT. The assertion and the release of a port's csp_rst_n (R77, R279, R308, R309) on a hub in service. -/

namespace Sys2Proof.Machine

section
variable {s : State} {p : Nat}

theorem exec_coreReset (live : s.live = true) (built : s.portBuilt p = true) :
    exec (.coreReset p) s = .next (s.coreReset p) := by
  have phase : s.phase ≠ .inReset := by rw [of_decide_eq_true live]; decide
  change s.atPort p (fun s => s.coreResetEvent p) = _
  simp [State.atPort, State.coreResetEvent, built, phase]

theorem exec_coreResetRelease (live : s.live = true) (built : s.portBuilt p = true) :
    exec (.coreResetRelease p) s = .next (s.coreRelease p) := by
  have phase : s.phase ≠ .inReset := by rw [of_decide_eq_true live]; decide
  change s.atPort p (fun s => s.coreReleaseEvent p) = _
  simp [State.atPort, State.coreReleaseEvent, built, phase]

theorem coreReset_asserted (low : (s.port p).rstLow = true) : s.coreReset p = s := if_pos low

/-- A port that holds no lock and has no op pending names no home, so no message leaves (R242, R279). -/
theorem coreReset_idle (high : (s.port p).rstLow = false) (locks : (s.port p).heldLocks = [])
    (pend : (s.port p).pend = []) :
    s.coreReset p =
      ((s.discardShimOps p ((s.port p).drains ++ (s.port p).issue.filter fun h => h.entry.isSome)).modPort p
        fun y => { y.afterReset with checks := s.checkedBarriers p }).dropHoldOps p := by
  have homes : s.purgeHomes p = [] := by simp [State.purgeHomes, pend, distinct]
  unfold State.coreReset
  simp only [high, Bool.false_eq_true, if_false, locks, homes, State.sendHolderResets, State.sendPurges]

theorem discardShimOps_port (hs : List ShimOp) (q : Nat) : (s.discardShimOps p hs).port q = s.port q :=
  port_of_ports (ports_of_wipe (m := 0x2002007000000) (by decide) (discardShimOps_notes (by decide) hs s)) q

theorem dropHoldOps_port (q : Nat) : (s.dropHoldOps p).port q = s.port q := rfl

theorem coreReset_idle_port (high : (s.port p).rstLow = false) (locks : (s.port p).heldLocks = [])
    (pend : (s.port p).pend = []) :
    (s.coreReset p).port p = { (s.port p).afterReset with checks := s.checkedBarriers p } := by
  rw [coreReset_idle high locks pend, dropHoldOps_port, State.modPort, State.port_setPort_self, discardShimOps_port]

theorem coreReset_idle_sameBut (high : (s.port p).rstLow = false) (locks : (s.port p).heldLocks = [])
    (pend : (s.port p).pend = []) : SameBut ([.ports, .parts] ++ noteFields) s (s.coreReset p) := by
  unfold SameBut
  rw [coreReset_idle high locks pend, State.dropHoldOps_wipe _ _ _ (by decide), State.modPort_wipe _ _ _ _ (by decide),
    discardShimOps_notes (by decide)]

theorem coreRelease_released (high : (s.port p).rstLow = false) : s.coreRelease p = s := by
  simp [State.coreRelease, high]

theorem coreRelease_quiet (low : (s.port p).rstLow = true) (quiet : (s.port p).quiet) :
    s.coreRelease p = s.setPort p { s.port p with rstLow := false } := by
  unfold State.coreRelease
  rw [if_pos low]
  exact wakePort_quiet (by unfold State.modPort; rw [State.port_setPort_self]; exact quiet)

end

/-- Settles O21: the assertion at a port with nothing to tell other hubs leaves the port after its reset, and the
release finds nothing that waits. -/
theorem coreResets : Obligations.CoreResets := by
  intro s p live built
  rw [exec_coreReset live built, exec_coreResetRelease live built]
  refine ⟨fun low => congrArg _ (coreReset_asserted low), fun high locks pend => ⟨_, rfl, ?_, ?_⟩,
    fun high => congrArg _ (coreRelease_released high), fun low quiet => congrArg _ (coreRelease_quiet low quiet)⟩
  · exact coreReset_idle_sameBut high locks pend
  · exact coreReset_idle_port high locks pend

end Sys2Proof.Machine
end

section
/-! SUPPORT. INIT from its lane to its home at the same hub (R63 to R68), by what `initObj_done` says of its rule and
`initRecord_types` of the record that it creates. -/

namespace Sys2Proof.Machine

/-- Settles O14: INIT comes to its rule, which refuses it, finds its object in use, or creates the record of its
type. -/
theorem initOp : Obligations.InitOp := by
  intro s p lane ctx op a x base args reaches hbase
  have run : exec (.init (coreReq p lane ctx op)) s =
      .next ((s.sent p (s.presented lane ctx .init op) a).initObj a) := exec_op reaches
  obtain ⟨refuses, blocks, creates⟩ := initObj_done reaches.1 x args
  obtain ⟨-, -, -, orig, -, -, part, entered, -⟩ := passes_facts reaches.1
  refine ⟨fun st fails => ⟨_, run, ?_⟩, fun admitted unused => ⟨_, run, ?_⟩⟩
  · rcases fails with refused | ⟨admitted, blocked⟩
    · exact refuses st refused
    · exact blocks st admitted blocked
  · obtain ⟨objs, wide, rets, frame⟩ := creates admitted unused
    rw [part] at objs
    have record {r : ObjRec} (e : initRecord (s.portPart p) a x = r) :
        ((s.sent p (s.presented lane ctx .init op) a).initObj a).objs = (s.setObj a.index r).objs := e ▸ objs
    obtain ⟨none, event, token, sem, lock, trig, barrier⟩ := initRecord_types orig entered base hbase
    exact ⟨rets, wide, frame, fun t => record (none t), fun t => record (event t), fun t => record (token t),
      fun t => record (sem t), fun t => record (lock t), fun t => record (trig t),
      fun t kind parent => record (barrier t kind parent)⟩

end Sys2Proof.Machine
end

section
/-! SUPPORT. The ops at an object of the same hub (R106, R107, R110, R112). An op that reaches its home's rule becomes
that rule's own function (`effect_*`), whose outcome the lemmas `*_done` and `*_waits` give; `lane_writes` turns the
record that a rule writes into the words of the statements, since the op carries its lane's originator and its time. -/

namespace Sys2Proof.Machine

section
variable {s X : State} {p lane : Nat} {ctx : BitVec 8} {op : OpFields} {h : ShimOp} {c : Opcode} {a : HomeOp}

/-! ### The rule that an op comes to -/

theorem effect_sig_event (event : (X.obj a.index).otype = .event) : X.effect a .sig = X.signalEvent a := by
  simp only [State.effect, event, decide_true, if_true]

theorem effect_sig_amount (amount : (X.obj a.index).otype = .token ∨ (X.obj a.index).otype = .sem) :
    X.effect a .sig = X.signalAmount a := by
  simp only [State.effect, notEvent amount, Bool.false_eq_true, if_false]

theorem effect_wait_event (event : (X.obj a.index).otype = .event) : X.effect a .wait = X.waitEvent a := by
  simp only [State.effect, event, decide_true, if_true]

theorem effect_wait_amount (amount : (X.obj a.index).otype = .token ∨ (X.obj a.index).otype = .sem) :
    X.effect a .wait = X.waitAmount a := by
  simp only [State.effect, notEvent amount, Bool.false_eq_true, if_false]

/-- An op that reaches its home, at an object of a type on which its opcode comes to the rule `f`. -/
theorem exec_rule {f : State → HomeOp → State} (reaches : s.reaches p (s.presented lane ctx c op) c a)
    (rule : ∀ X : State, X.obj a.index = s.obj a.index → X.effect a c = f X a) :
    s.opCommand (opCode c) (coreReq p lane ctx op) = .next (f (s.sent p (s.presented lane ctx c op) a) a) :=
  (exec_op reaches).trans (congrArg _ (rule _ (sent_obj reaches.1 _)))

theorem exec_sig_event (reaches : s.reaches p (s.presented lane ctx .sig op) .sig a)
    (event : (s.obj a.index).otype = .event) :
    exec (.sig (coreReq p lane ctx op)) s = .next ((s.sent p (s.presented lane ctx .sig op) a).signalEvent a) :=
  exec_rule reaches fun _ same => effect_sig_event (same ▸ event)

theorem exec_sig_amount (reaches : s.reaches p (s.presented lane ctx .sig op) .sig a)
    (amount : (s.obj a.index).otype = .token ∨ (s.obj a.index).otype = .sem) :
    exec (.sig (coreReq p lane ctx op)) s = .next ((s.sent p (s.presented lane ctx .sig op) a).signalAmount a) :=
  exec_rule reaches fun _ same => effect_sig_amount (same ▸ amount)

theorem exec_wait_event (reaches : s.reaches p (s.presented lane ctx .wait op) .wait a)
    (event : (s.obj a.index).otype = .event) :
    exec (.wait (coreReq p lane ctx op)) s = .next ((s.sent p (s.presented lane ctx .wait op) a).waitEvent a) :=
  exec_rule reaches fun _ same => effect_wait_event (same ▸ event)

theorem exec_wait_amount (reaches : s.reaches p (s.presented lane ctx .wait op) .wait a)
    (amount : (s.obj a.index).otype = .token ∨ (s.obj a.index).otype = .sem) :
    exec (.wait (coreReq p lane ctx op)) s = .next ((s.sent p (s.presented lane ctx .wait op) a).waitAmount a) :=
  exec_rule reaches fun _ same => effect_wait_amount (same ▸ amount)

/-! ### The record that an op writes -/

theorem lane_orig (passes : s.passes p (s.presented lane ctx c op) c a) : a.originator = s.laneOrig p lane := by
  obtain ⟨-, -, -, orig, -⟩ := passes_facts passes
  exact orig

theorem lane_entered (passes : s.passes p h c a) : a.entered = s.time.low22 := by
  obtain ⟨-, -, -, -, -, -, -, entered, -⟩ := passes_facts passes
  exact entered

/-- R38: an op of a lane leaves the lane's originator and the time of its entry in the record that it writes. -/
theorem lane_writes (passes : s.passes p (s.presented lane ctx c op) c a) (r : ObjRec) :
    r.by a = r.wrote (s.laneOrig p lane) s.time := by_wrote (lane_orig passes) (lane_entered passes)

theorem lane_signals (passes : s.passes p (s.presented lane ctx c op) c a) (r : ObjRec) :
    (r.countSig.withSet true).by a = (r.word ((getFld r.word0 32 32 + 1 : BitVec 32) ++
      (getFld r.word0 1 31 : BitVec 31) ++ (1 : BitVec 1))).wrote (s.laneOrig p lane) s.time :=
  signalled (lane_orig passes) (lane_entered passes)

theorem lane_clears (passes : s.passes p (s.presented lane ctx c op) c a) (r : ObjRec) :
    (r.withSet false).by a = (r.word ((getFld r.word0 1 63 : BitVec 63) ++ (0 : BitVec 1))).wrote
      (s.laneOrig p lane) s.time := unsetted (lane_orig passes) (lane_entered passes)

/-! ### CLR as a whole, and the words that READ selects -/

/-- R106, R288: CLR answers OK either way, and clears the event unless a level input holds it set. -/
theorem clearEvent_levels (passes : s.passes p h c a) :
    OpDone s ((s.sent p h a).clearEvent a) p h a
      (if s.levelHolds a.index then s.objs
       else (s.setObj a.index (((s.obj a.index).withSet false).by a)).objs) .ok 0 0 := by
  split
  next held => exact clearEvent_held passes held
  next free => exact clearEvent_done passes (Bool.not_eq_true _ ▸ free)

/-- R110: the words that the selections of READ name. -/
theorem readWord_selections (s : State) (i : Nat) (sel : BitVec 2) :
    (sel = 0 → s.readWord i sel = some (s.obj i).word0) ∧
    (sel = 1 → (s.obj i).otype ≠ .lock → s.readWord i sel = some (s.obj i).word1) ∧
    (sel = 1 → (s.obj i).otype = .lock → s.readWord i sel =
      some ((getFld (s.obj i).hi 35 16 : BitVec 16) ++ (0 : BitVec 16) ++ (s.obj i).grantTime)) ∧
    (sel = 2 → s.readWord i sel = some (s.summary i (s.obj i))) ∧
    (sel = 3 → (s.obj i).otype = .barrier → (s.obj i).isCombining = true →
      s.readWord i sel = some (s.obj i).lastResult) ∧
    (sel = 3 → (s.obj i).otype ≠ .barrier ∨ (s.obj i).isCombining = false → s.readWord i sel = none) := by
  refine ⟨?_, ?_, ?_, ?_, ?_, ?_⟩
  · rintro rfl
    rfl
  · rintro rfl other
    simp [State.readWord, other]
  · rintro rfl lock
    simp [State.readWord, lock]
  · rintro rfl
    simp [State.readWord]
  · rintro rfl barrier combining
    simp [State.readWord, barrier, combining]
  · rintro rfl (other | plain)
    · simp [State.readWord, other]
    · simp [State.readWord, plain]

end

/-- Settles O7: each op comes to its rule for an EVENT. -/
theorem eventOps : Obligations.EventOps := by
  intro s p lane ctx op a r hr event
  subst hr
  refine ⟨fun reaches alone => ⟨_, exec_sig_event reaches event, ?_⟩, fun reaches alone => ⟨_, exec_op reaches, ?_⟩,
    fun reaches => ⟨_, exec_op reaches, ?_⟩, fun reaches set => ⟨_, exec_wait_event reaches event, ?_⟩⟩
  · rw [← lane_signals reaches.1]
    exact signalEvent_done reaches.1 alone
  · rw [← lane_signals reaches.1]
    exact signalEvent_done reaches.1 alone
  · rw [← lane_clears reaches.1]
    exact clearEvent_levels reaches.1
  · rw [← lane_clears reaches.1]
    exact waitEvent_done reaches.1 set

/-- Settles O8: SIG, FADD, SWAP and CAS come to their rules for a value, whose outcomes are those of the LOANABLE flag
and of the range of the type. -/
theorem amountOps : Obligations.AmountOps := by
  intro s p lane ctx op a r hr amount unarmed alone
  subst hr
  refine ⟨fun reaches => ⟨_, exec_sig_amount reaches amount, ?_⟩,
    fun reaches => ⟨_, exec_op reaches, fun lent => ?_, fun own => ?_, fun own => ?_⟩,
    fun reaches => ⟨_, exec_op reaches, fun lent => ?_, fun own => ?_, fun own => ?_⟩,
    fun reaches => ⟨_, exec_op reaches, fun lent => ?_, fun own => ?_, fun own => ?_, fun own => ?_⟩⟩
  -- SIG
  · obtain ⟨negative, fits, overruns⟩ := signalAmount_done reaches.1 unarmed alone
    rw [← lane_writes reaches.1]
    exact ⟨negative, overruns, fits⟩
  -- FADD
  · obtain ⟨fadd, -, -⟩ := loanable_rights reaches.1 lent
    exact fadd
  · exact (addAmount_done reaches.1 unarmed alone own).2
  · rw [← lane_writes reaches.1]
    exact (addAmount_done reaches.1 unarmed alone own).1
  -- SWAP
  · obtain ⟨-, swap, -⟩ := loanable_rights reaches.1 lent
    exact swap
  · exact (swapAmount_done reaches.1 unarmed alone own).2
  · have fits := (swapAmount_done reaches.1 unarmed alone own).1
    rw [setAmount_word, operandInt_word] at fits
    rw [← lane_writes reaches.1]
    exact fits
  -- CAS
  · obtain ⟨-, -, cas⟩ := loanable_rights reaches.1 lent
    exact cas
  · exact (casAmount_done reaches.1 unarmed alone own).1
  · obtain ⟨-, -, overruns⟩ := casAmount_done reaches.1 unarmed alone own
    exact overruns
  · obtain ⟨-, fits, -⟩ := casAmount_done reaches.1 unarmed alone own
    rw [setAmount_word, operandInt_word] at fits
    rw [← lane_writes reaches.1]
    exact fits

/-- Settles O9: TAKE and TRYTAKE by their operand and by whether the value covers it, WAIT by the latter alone. -/
theorem takeOps : Obligations.TakeOps := by
  intro s p lane ctx op a r hr amount alone
  subst hr
  refine ⟨fun reaches own => ⟨fun bad => ⟨_, exec_op reaches, ?_⟩, fun some positive covers => ⟨_, exec_op reaches, ?_⟩⟩,
    fun reaches own => ⟨_, exec_op reaches, fun bad => ?_, fun some positive short => ?_, fun some positive covers => ?_⟩,
    fun reaches covers => ⟨_, exec_wait_amount reaches amount, waitAmount_done reaches.1 covers⟩⟩
  · exact (take_bad reaches.1 (takeBad.mp bad)).1
  · rw [← lane_writes reaches.1]
    exact takeAmount_done reaches.1 own (takeGood some positive) alone covers
  · exact (take_bad reaches.1 (takeBad.mp bad)).2
  · have tries := tryTakeAmount_done reaches.1 own (takeGood some positive) alone
    rwa [if_neg (Int.not_le.mpr short), if_neg (Int.not_le.mpr short)] at tries
  · have tries := tryTakeAmount_done reaches.1 own (takeGood some positive) alone
    rw [if_pos covers, if_pos covers] at tries
    rw [← lane_writes reaches.1]
    exact tries

/-- Settles O10: READ by the word that its selection names, DISARM and ARM by the record that they write. -/
theorem readArmAndDisarm : Obligations.ReadArmAndDisarm := by
  refine ⟨fun s p lane ctx op a r hr => ⟨fun reaches => ⟨_, exec_op reaches, ?_⟩, fun reaches => ⟨_, exec_op reaches, ?_⟩⟩,
    fun s p lane ctx op a r n hr hn reaches own paired sound threshold low alone => ⟨_, exec_op reaches, ?_⟩⟩
  · subst hr
    obtain ⟨shows, refuses⟩ := readObj_done reaches.1
    obtain ⟨word0, word1, lock, summary, result, none⟩ := readWord_selections s a.index (getFld a.op.operand 0 2)
    exact ⟨fun sel => shows _ (word0 sel), fun sel other => shows _ (word1 sel other),
      fun sel held => shows _ (lock sel held), fun sel => shows _ (summary sel),
      fun sel barrier combining => shows _ (result sel barrier combining), fun sel other => refuses (none sel other)⟩
  · subst hr
    rw [← lane_writes reaches.1]
    exact disarmObj_done reaches.1
  · subst hr
    rw [← lane_writes reaches.1] at hn
    obtain ⟨-, -, -, -, -, -, -, -, clean, -⟩ := reaches.1
    exact armObj_done reaches.1 clean own paired sound n hn threshold low alone

/-- Settles O11: what cannot be granted queues in its share, or finds it full. -/
theorem opsThatWait : Obligations.OpsThatWait := by
  intro s p lane ctx op a r hr
  subst hr
  refine ⟨fun reaches waits => ?_, fun reaches amount some positive short => ⟨_, exec_op reaches, ?_⟩,
    fun reaches rights held plain prio room => ⟨_, exec_op reaches, ?_⟩⟩
  · rcases waits with ⟨event, clear⟩ | ⟨amount, short⟩
    · exact ⟨_, exec_wait_event reaches event, waitEvent_waits reaches.1 event clear⟩
    · exact ⟨_, exec_wait_amount reaches amount,
        waitAmount_waits reaches.1 (notLock amount) (Int.not_le.mpr short)⟩
  · exact takeAmount_waits reaches.1 (notLock amount) (takeGood some positive) short
  · exact acquire_waits reaches.1 rights held plain prio room

/-- Settles O12: the lock ops by the rights of the group, by whether the lock is held, and by whom. -/
theorem lockOps : Obligations.LockOps := by
  intro s p lane ctx op a r hr
  subst hr
  refine ⟨fun reaches => ⟨fun refused => ⟨_, exec_op reaches, ?_⟩, fun rights free => ⟨_, exec_op reaches, ?_⟩⟩,
    fun reaches => ⟨_, exec_op reaches, fun refused => ?_, fun rights held => ?_, fun rights free => ?_⟩,
    fun reaches alone plain => ⟨_, exec_op reaches, fun refused => ?_, fun rights held own => ?_⟩,
    fun reaches alone plain => ⟨_, exec_op reaches, fun refused => ?_, fun rights => ?_⟩⟩
  all_goals have orig := lane_orig reaches.1
  -- ACQ
  · obtain ⟨acq, -⟩ := lock_refused reaches.1 refused
    exact acq
  · rw [← lane_writes reaches.1, ← orig]
    exact (acquire_free reaches.1 rights free).1
  -- TRYACQ
  · obtain ⟨-, tryAcq, -⟩ := lock_refused reaches.1 refused
    exact tryAcq
  · exact tryAcquire_held reaches.1 rights held
  · rw [← lane_writes reaches.1, ← orig]
    exact (acquire_free reaches.1 rights free).2
  -- REL
  · cases rights : s.lockRights a (s.obj a.index) with
    | false =>
      obtain ⟨-, -, rel, -⟩ := lock_refused reaches.1 rights
      exact rel
    | true =>
      refine releaseLock_other reaches.1 rights ?_
      simpa [rights, orig] using refused
  · rw [← lane_writes reaches.1]
    exact releaseLock_done reaches.1 rights held (own.trans orig.symm) plain alone
  -- FREL
  · obtain ⟨-, -, -, frel⟩ := lock_refused reaches.1 refused
    exact frel
  · rw [← lane_writes reaches.1]
    exact forceRelease_done reaches.1 rights plain alone

end Sys2Proof.Machine
end

section
/-! SUPPORT. The ops that a shim answers itself: PARK, UNPARK, HOLD, RESUME and FENCE (R113, R121, R274 to R276, R477,
R478), and an op word that no opcode spells (R93, R94). A service op takes a pending entry that its port has free, and
its rule then finds the port as it was but for that entry (`pending_port`); what each rule leaves is said in
Services.lean. -/

namespace Sys2Proof.Machine

section
variable {s : State} {p lane : Nat} {ctx : BitVec 8} {op : OpFields} {h : ShimOp} {c : Opcode} {n : Nat}

/-! ### The hub once a service op has its pending entry -/

theorem pending_laneClear (clear : (s.port p).laneClear lane op) :
    ((s.pending' p h n).port p).laneClear lane op := by
  rw [pending_port]
  exact clear

/-- R292: HOLD and RESUME spend a storm token of their lane, which changes no more of the port than its buckets. -/
theorem spent_laneClear (k : Nat) (clear : (s.port p).laneClear lane op) :
    ((s.spendLane p k).port p).laneClear lane op := by
  obtain ⟨b, same⟩ := spendLane_port (X := s) (p := p) k p
  rw [same]
  exact clear

theorem spent_pend (k : Nat) : ((s.spendLane p k).port p).pend = (s.port p).pend := by
  obtain ⟨b, same⟩ := spendLane_port (X := s) (p := p) k p
  rw [same]

theorem pending_holdStore (none : ∀ j, (s.port j).holdStore = []) (j : Nat) :
    ((s.pending' p h n).port j).holdStore = [] := by
  unfold State.pending'
  rw [State.port_setPort]
  split
  next same => exact none p
  next other => exact none j

theorem spent_holdStore (k : Nat) (none : ∀ j, (s.port j).holdStore = []) (j : Nat) :
    ((s.spendLane p k).port j).holdStore = [] := by
  obtain ⟨b, same⟩ := spendLane_port (X := s) (p := p) k j
  rw [same]
  exact none j

/-- R299: a shim that takes an op now holds no FENCE of the op's originator. -/
theorem takesNow_fences (takes : s.takesNow p h) {d : ShimOp} (lane : d.lane = h.lane) : d ∉ (s.port p).fences := by
  intro queued
  obtain ⟨-, -, -, free⟩ := takes
  have held : ((s.port p).fences.any fun f => sameOriginator f.lane h.lane) = true :=
    List.any_eq_true.mpr ⟨d, queued, by simp [sameOriginator, lane]⟩
  simp only [State.issueHold, held, if_true] at free
  split_ifs at free

/-! ### The rule that a service op comes to -/

section
variable {d : ShimOp} {e : Pend}

theorem serviceOp_park (gate : s.portGate p d.opcode = none) :
    s.serviceOp p d e .park =
      (s.park p d.op.operand).1.serviceDone p e (s.park p d.op.operand).2.1 (s.park p d.op.operand).2.2 := by
  simp only [State.serviceOp, gate]

theorem serviceOp_unpark (gate : s.portGate p d.opcode = none) :
    s.serviceOp p d e .unpark =
      (s.unpark p d.op.operand).1.serviceDone p e (s.unpark p d.op.operand).2.1 (s.unpark p d.op.operand).2.2 := by
  simp only [State.serviceOp, gate]

theorem serviceOp_hold (gate : s.portGate p d.opcode = none) (here : d.op.operand.getLsbD 0 = false) :
    s.serviceOp p d e .hold = (s.spendLane p d.lane).beginHold (s.portPart p) false (.op p e.entry) := by
  simp only [State.serviceOp, gate, here]

theorem serviceOp_resume (gate : s.portGate p d.opcode = none) (here : d.op.operand.getLsbD 0 = false) :
    s.serviceOp p d e .resume = (s.spendLane p d.lane).startHold (s.portPart p) true false (.op p e.entry) := by
  simp only [State.serviceOp, gate, here]

theorem serviceOp_fence (gate : s.portGate p d.opcode = none) :
    s.serviceOp p d e .fence =
      ((s.pollPort p).modPort p fun x => { x with fences := x.fences ++ [d] }).tryFence p d := by
  simp only [State.serviceOp, gate]

end

/-! ### PARK and UNPARK -/

theorem park_answers (takes : s.takesNow p (s.presented lane ctx .park op))
    (goes : (s.presented lane ctx .park op).goesOn .park) (gate : s.portGate p (opCode .park) = none)
    (clear : (s.port p).laneClear lane op) :
    ∃ t, exec (.park (coreReq p lane ctx op)) s = .next t ∧ SameBut ([.ports] ++ noteFields) s t ∧
      Answered t p lane op (if parkOperand op.operand ∉ (s.port p).parked ∧ 32 ≤ (s.port p).parked.length then .overrun
        else .ok) ∧
      (t.port p).parked =
        if parkOperand op.operand ∈ (s.port p).parked ∨ 32 ≤ (s.port p).parked.length then (s.port p).parked
        else (s.port p).parked ++ [parkOperand op.operand] := by
  obtain ⟨n, run, -, -⟩ := exec_service takes goes rfl
  have same := newPend_op (n := n) goes
  have answers := park_lane (X := s.pending' p (s.presented lane ctx .park op) n) (p := p)
    (e := s.newPend (s.presented lane ctx .park op) n) op.operand rfl (same.symm ▸ pending_laneClear clear)
  rw [pending_port, same] at answers
  simp only [List.contains_iff_mem, ← Bool.not_eq_true] at answers
  refine ⟨_, run.trans (congrArg _ (serviceOp_park gate)), ?_, answers⟩
  exact ((State.serviceDone_wipe _ _ _ _ _ _ (by decide)).trans
    ((State.park_wipe _ _ _ _ (by decide)).trans (pending_wipe _ _ (by decide)))).symm

theorem unpark_answers (takes : s.takesNow p (s.presented lane ctx .unpark op))
    (goes : (s.presented lane ctx .unpark op).goesOn .unpark) (gate : s.portGate p (opCode .unpark) = none)
    (clear : (s.port p).laneClear lane op) :
    ∃ t, exec (.unpark (coreReq p lane ctx op)) s = .next t ∧ SameBut ([.ports] ++ noteFields) s t ∧
      (t.port p).parked = (s.port p).parked.erase (parkOperand op.operand) ∧
      (t.port p).parkHeld = (s.port p).parkHeld.filter (fun r => !codeService r.opcode &&
        ((s.port p).parked.erase (parkOperand op.operand)).any fun q => q.covers r.lane r.context) ∧
      ((s.port p).parkHeld = [] → Answered t p lane op .ok) := by
  obtain ⟨n, run, -, -⟩ := exec_service takes goes rfl
  have same := newPend_op (n := n) goes
  have port := pending_port (s := s) (p := p) (h := s.presented lane ctx .unpark op) n
  obtain ⟨parked, held⟩ := unpark_held (X := s.pending' p (s.presented lane ctx .unpark op) n) (p := p)
    (e := s.newPend (s.presented lane ctx .unpark op) n) op.operand
  rw [port] at parked held
  refine ⟨_, run.trans (congrArg _ (serviceOp_unpark gate)), ?_, ?_, ?_, fun none => ?_⟩
  · exact ((State.serviceDone_wipe _ _ _ _ _ _ (by decide)).trans
      ((State.unpark_wipe _ _ _ _ (by decide)).trans (pending_wipe _ _ (by decide)))).symm
  · exact (serviceDone_park _ _ rfl).1.trans parked
  · exact (serviceDone_park _ _ rfl).2.trans held
  · have answers := unpark_lane (X := s.pending' p (s.presented lane ctx .unpark op) n) (p := p)
      (e := s.newPend (s.presented lane ctx .unpark op) n) op.operand rfl (same.symm ▸ pending_laneClear clear)
      (by rw [port]; exact none)
    rw [same] at answers
    exact answers.1

/-! ### HOLD and RESUME of this hub -/

theorem hold_answers (takes : s.takesNow p (s.presented lane ctx .hold op))
    (goes : (s.presented lane ctx .hold op).goesOn .hold) (gate : s.portGate p (opCode .hold) = none)
    (clear : (s.port p).laneClear lane op) (here : op.operand.getLsbD 0 = false) :
    ∃ t, exec (.hold (coreReq p lane ctx op)) s = .next t ∧ SameBut ([.ports, .parts] ++ noteFields) s t ∧
      (t.part (s.portPart p)).hold.held = true ∧ Answered t p lane op .ok := by
  obtain ⟨n, run, -, awaited⟩ := exec_service takes goes rfl
  have same := newPend_op (n := n) goes
  obtain ⟨answered, held, frame⟩ := hold_lane (X := (s.pending' p (s.presented lane ctx .hold op) n).spendLane p lane)
    (p := p) (e := s.newPend (s.presented lane ctx .hold op) n) (s.portPart p) rfl
    (same.symm ▸ spent_laneClear _ (pending_laneClear clear)) (by rw [spent_pend]; exact awaited)
  rw [same] at answered
  refine ⟨_, run.trans (congrArg _ (serviceOp_hold gate here)), ?_, held, answered⟩
  exact ((frame _ (by decide)).trans
    ((State.spendLane_wipe _ _ _ _ (by decide)).trans (pending_wipe _ _ (by decide)))).symm

theorem resume_answers (takes : s.takesNow p (s.presented lane ctx .resume op))
    (goes : (s.presented lane ctx .resume op).goesOn .resume) (gate : s.portGate p (opCode .resume) = none)
    (clear : (s.port p).laneClear lane op) (here : op.operand.getLsbD 0 = false)
    (stored : ∀ j, (s.port j).holdStore = []) :
    ∃ t, exec (.resume (coreReq p lane ctx op)) s = .next t ∧ SameBut ([.ports, .parts] ++ noteFields) s t ∧
      (t.part (s.portPart p)).hold.held = false ∧ Answered t p lane op .ok := by
  obtain ⟨n, run, -, awaited⟩ := exec_service takes goes rfl
  have same := newPend_op (n := n) goes
  obtain ⟨answered, held, frame⟩ := resume_lane
    (X := (s.pending' p (s.presented lane ctx .resume op) n).spendLane p lane) (p := p)
    (e := s.newPend (s.presented lane ctx .resume op) n) (s.portPart p) rfl
    (same.symm ▸ spent_laneClear _ (pending_laneClear clear)) (by rw [spent_pend]; exact awaited)
    (spent_holdStore _ (pending_holdStore stored))
  rw [same] at answered
  refine ⟨_, run.trans (congrArg _ (serviceOp_resume gate here)), ?_, held, answered⟩
  exact ((frame _ (by decide)).trans
    ((State.spendLane_wipe _ _ _ _ (by decide)).trans (pending_wipe _ _ (by decide)))).symm

/-! ### FENCE -/

theorem fence_answers (takes : s.takesNow p (s.presented lane ctx .fence op))
    (goes : (s.presented lane ctx .fence op).goesOn .fence) (gate : s.portGate p (opCode .fence) = none)
    (clear : (s.port p).laneClear lane op) :
    ∃ t, exec (.fence (coreReq p lane ctx op)) s = .next t ∧
      ((s.port p).away = [] → Answered t p lane op .ok ∧ (t.port p).fences = (s.port p).fences) ∧
      ((∃ w ∈ (s.port p).away, w.silent = false ∧ w.engine = laneEngine lane) →
        (t.port p).lanes = (s.port p).lanes ∧
        ∃ n, (t.port p).fences = (s.port p).fences ++ [{ s.presented lane ctx .fence op with entry := some n }]) := by
  obtain ⟨n, run, byEntry, -⟩ := exec_service takes goes rfl
  have same := newPend_op (n := n) goes
  have port := pending_port (s := s) (p := p) (h := s.presented lane ctx .fence op) n
  obtain ⟨completes, stays⟩ := fence_lane (X := s.pending' p (s.presented lane ctx .fence op) n) (p := p)
    (e := s.newPend (s.presented lane ctx .fence op) n)
    (d := { s.presented lane ctx .fence op with entry := some n }) rfl (same.symm ▸ pending_laneClear clear) byEntry
    (by rw [port]; exact takesNow_fences takes rfl)
  rw [port, same] at completes
  rw [port] at stays
  refine ⟨_, run.trans (congrArg _ (serviceOp_fence gate)), completes, fun outstanding => ?_⟩
  obtain ⟨fences, lanes⟩ := stays outstanding
  exact ⟨lanes, n, fences⟩

end

/-- Settles O15: each service op by what its rule answers. -/
theorem serviceOps : Obligations.ServiceOps := by
  refine ⟨fun s p lane ctx op e he clear => ⟨fun takes goes gate => ?_, fun takes goes gate => ?_⟩,
    fun s p lane ctx op clear => ⟨fun takes goes gate here => hold_answers takes goes gate clear here,
      fun takes goes gate here stored => resume_answers takes goes gate clear here stored,
      fun takes goes gate => fence_answers takes goes gate clear⟩⟩
  · subst he
    obtain ⟨t, run, frame, answered, parked⟩ := park_answers takes goes gate clear
    refine ⟨t, run, frame, fun there => ?_, fun new room => ?_, fun new full => ?_⟩
    · rw [if_neg fun full => full.1 there] at answered
      rw [if_pos (.inl there)] at parked
      exact ⟨answered, parked⟩
    · rw [if_neg fun full => Nat.not_le.mpr room full.2] at answered
      rw [if_neg fun keeps => keeps.elim new (Nat.not_le.mpr room)] at parked
      exact ⟨answered, parked⟩
    · rw [if_pos ⟨new, full⟩] at answered
      rw [if_pos (.inr full)] at parked
      exact ⟨answered, parked⟩
  · subst he
    exact unpark_answers takes goes gate clear

/-- Settles O16: check 1 refuses the word, and its answer comes to the lane. -/
theorem unlistedOpcodes : Obligations.UnlistedOpcodes := by
  intro s p lane ctx code op unlisted takes clear parked held
  have refused : (s.laneOp lane ctx code op).check = some .badHandle := by
    change checkOne (opcodeOf code) op _ _ = _
    rw [unlisted]
    rfl
  have answers : opPosted (opcodeOf code) op.flags = false := by simp [unlisted, opPosted]
  obtain ⟨t, run, answered, frame⟩ := exec_checkOne takes refused answers clear parked held
  exact ⟨t, run, answered, (frame _ (by decide)).symm⟩

end Sys2Proof.Machine
end

section
/-! SUPPORT. The waiter walker and the scrub (R116, R258, R259, R427). An expiry is its count and its
record (`expire_ends`), and the end of a wait, which `endWait_alone` describes. -/

namespace Sys2Proof.Machine

section
variable {s : State} {n : Nat} {w : Waiter}

theorem exec_waiterExpiry (walks : s.walks = true) (built : n < 131072) :
    exec (.waiterExpiry n) s = .next (s.expire n) := by
  change s.atUnit n 131072 (fun s => s.whenWalks fun s => s.expire n) = _
  simp only [State.atUnit, built, if_true, whenWalks_walks _ walks]

/-- R116: a waiter without a deadline, or one whose deadline has not passed, stays. -/
theorem expire_stays (found : s.waiters.find? (fun q => q.num = n) = some w)
    (early : w.dlValid = false ∨ s.passed w.deadline = false) : s.expire n = s := by
  rcases early with early | early <;> simp [State.expire, found, early]

/-- R116: the expiry of a queued op whose deadline has passed, but for its count and its record. -/
theorem expire_ends (found : s.waiters.find? (fun q => q.num = n) = some w) (valid : w.dlValid = true)
    (late : s.passed w.deadline = true) (queued : w.kind = .queued) :
    ∃ X : State, s.expire n = (X.endWait w .timeout).serveAfter w ∧
      ∀ m, 0x2002007000000 ||| m = m → X.wipe m = s.wipe m := by
  refine ⟨((s.pcount 11 w.partition.toNat 1).act w.partition.toNat).recordTimeout (s.waiterOp w), ?_, fun m hm => ?_⟩
  · simp [State.expire, found, valid, late, queued]
  · rw [State.recordTimeout_wipe _ _ _ hm, State.act_wipe _ _ _ (mask_sub hm (by decide)),
      State.pcount_wipe _ _ _ _ _ (mask_sub hm (by decide))]

/-- Two states that agree but for the hub's notes agree so with the same waiters and responses put in. -/
theorem notes_waiters_rets {X : State} (notes : X.wipe 0x2002007000000 = s.wipe 0x2002007000000) (ws : List Waiter)
    (rs : List Ret) : ({ X with waiters := ws, rets := rs } : State).wipe 0x2002007000000 =
      ({ s with waiters := ws, rets := rs } : State).wipe 0x2002007000000 := by
  have blot (Y : State) : ({ Y with waiters := ws, rets := rs } : State).wipe 0x2002007410000 = Y.wipe 0x2002007410000 :=
    (wipe_waiters _ (by decide) { Y with rets := rs } ws).trans (wipe_rets _ (by decide) Y rs)
  exact wipe_fill_waiters (wipe_fill_rets ((blot X).trans ((wipe_mono (by decide) notes).trans (blot s).symm)) rfl) rfl

/-- R116: a queued op of a lane that expires is answered with TIMEOUT. -/
theorem waiterExpiry_brings (walks : s.walks = true) (built : n < 131072)
    (found : s.waiters.find? (fun q => q.num = n) = some w) (valid : w.dlValid = true)
    (late : s.passed w.deadline = true) (queued : w.kind = .queued) (alone : s.queue w.object = [w])
    (source : w.source = srcPort) (own : origHub w.originator = s.hub) (answers : w.flags.noresp = false) :
    Brings (.waiterExpiry n) s { s with
      waiters := s.waiters.filter fun q => q.num ≠ n
      rets := s.rets ++ [{ target := .port (getFld w.originator 3 7 : BitVec 7).toNat
                           sel := getFld w.originator 0 10
                           retref := getFld w.operandB 0 10
                           word := respWord .timeout w.tag 0
                           value := valueBeat w.opcode .timeout 0 }] } := by
  obtain ⟨X, expires, frame⟩ := expire_ends found valid late queued
  have notes := frame 0x2002007000000 (by decide)
  have same : w.num = n := by simpa using List.find?_some found
  have hub : X.hub = s.hub := by
    unfold State.hub
    rw [device_of_wipe (by decide) notes, die_of_wipe (by decide) notes]
  have waiters : X.waiters = s.waiters := waiters_of_wipe (by decide) notes
  have rets : X.rets = s.rets := rets_of_wipe (by decide) notes
  obtain ⟨ended, -⟩ := endWait_alone (X := X) ((queue_of_waiters waiters _).trans alone) queued source
    (own.trans hub.symm) answers .timeout
  refine brings_of ((exec_waiterExpiry walks built).trans (congrArg _ expires)) (ended.trans ?_)
  rw [waiters, rets, same]
  exact notes_waiters_rets notes _ _

/-! ### The scrub -/

theorem exec_scrubAccess {x : StoreWord} (walks : s.walks = true) (built : wordBuilt x = true)
    (inside : x ≠ .config 24575) : exec (.scrubAccess x) s = .next (s.access x) := by
  change (if wordBuilt x then Host.Outcome.next (s.scrub x) else Host.Outcome.fault Fault.absentUnit) = _
  simp only [built, if_true, State.scrub, walks, inside, if_false]

/-- R426: an access writes a word with one or two bits in error back, and counts it. -/
theorem access_corrects {x : StoreWord} (only : s.flips = [(x, n)]) (few : n = 1 ∨ n = 2) :
    s.access x = ({ s with flips := [] } : State).bump 0x7010 (correctedSub x) := by
  have bits : s.flipsOf x = n := by simp [State.flipsOf, only]
  have clean : s.cleanWord x = { s with flips := [] } := by simp [State.cleanWord, only]
  unfold State.access
  rw [bits, clean]
  rcases few with rfl | rfl <;> rfl

theorem bump_room {i sub q : Nat} (room : s.cfg i sub q + 1 < 2 ^ 32) :
    s.bump i sub q = s.setCfg i sub q (s.cfg i sub q + 1) := if_pos room

end

/-- Settles O23: expiry by the waiter's deadline, the aged walk by its definition, the scrub by the word's bits in
error. -/
theorem walkerEvents : Obligations.WalkerEvents := by
  intro s walks
  refine ⟨fun n w built found => ⟨fun early => ?_, fun valid late queued alone source own answers => ?_⟩, ?_,
    fun x built inside => ⟨fun clean => ?_, fun n only few room => ?_⟩⟩
  · rw [exec_waiterExpiry walks built, expire_stays found early]
  · exact waiterExpiry_brings walks built found valid late queued alone source own answers
  · change Host.Outcome.next (s.whenWalks State.agedWalk) = _
    rw [whenWalks_walks _ walks]
    simp only [State.agedWalk, State.isAged, decide_eq_true_eq]
  · rw [exec_scrubAccess walks built inside, access_clean _ _ _ clean]
  · rw [exec_scrubAccess walks built inside, access_corrects only few]
    exact congrArg _ (bump_room room)

end Sys2Proof.Machine
end

section
/-! SUPPORT. A completion that has come back to the hub of its op (R101, R321, R323, R350, R368), and the arrival of a
child barrier at its parent (R151 to R153, R252). `cplMessage` sends a completion to the rule of its source; a forwarded
arrival takes a waiter record, and its parent's record counts it. -/

namespace Sys2Proof.Machine

section
variable {s u : State} {h : MsgHdr} {b : CplBody}

/-! ### Completions -/

theorem exec_cpl (live : s.live = true) (level : s.notW1 { hdr := h, body := .cpl b })
    (begun : u = s.taken { hdr := h, body := .cpl b }) (route : u.w1Home h.src = false) :
    exec (.cpl h b) s = .next (if b.source = srcHub then u.childCpl h b else if b.source = srcPort then u.portCpl h b
      else if b.source = srcAperture then u.slotCpl h b else u.dropCpl h.partition.toNat) := by
  change Host.Outcome.next (s.messageCommand { hdr := h, body := .cpl b }) = _
  rw [messageCommand_taken live level, ← begun]
  change Host.Outcome.next (u.cplMessage false h b) = _
  simp only [State.cplMessage, route, Bool.or_self, Bool.false_eq_true, if_false]

/-- R321: the response of an op that its port awaits goes on the return path. -/
theorem portCpl_returns {q : Nat} (port : q = (getFld b.target 3 7 : BitVec 7).toNat)
    (own : voidedFor (u.port q).voided h.src b = none)
    (awaited : (u.port q).pend.any (fun e => e.home = some h.src) = true) :
    u.portCpl h b = u.toReturn (.port q) b b.retref := by
  subst port
  simp only [State.portCpl, own, awaited, if_true]

/-- R101: a completion for an op that its shim has voided frees the note of it. -/
theorem portCpl_voided {q : Nat} {v : Voided} (port : q = (getFld b.target 3 7 : BitVec 7).toNat)
    (voided : voidedFor (u.port q).voided h.src b = some v) (uncounted : v.counts = false) :
    u.portCpl h b = u.setPort q { u.port q with voided := (u.port q).voided.erase v } := by
  subst port
  simp only [State.portCpl, voided, uncounted, Bool.false_eq_true, if_false, State.modPort]

/-- R321, R323: the response of a slot's op goes on the return path. -/
theorem slotCpl_returns (isOp : (getFld b.retref 4 6 : BitVec 6) = 0)
    (own : voidedFor (u.slot b.target.toNat).voided h.src b = none) :
    u.slotCpl h b = u.toReturn .aperture b b.retref := by
  simp [State.slotCpl, isOp, own]

/-- R350: a completion for a child that awaits no grant is discarded. -/
theorem childCpl_discarded (clean : u.flips = []) (idle : u.awaitsGrant (handleIndex b.child) = false) :
    u.childCpl h b = u.dropCpl h.partition.toNat := by
  simp [State.childCpl, accessObj_clean clean, idle]

end

/-! ### The arrival of a child at its parent -/

section
variable {s u : State} {h : MsgHdr} {b : FwdBody} {o : HomeOp} {p : PartialArrival}

theorem exec_fwdArrv (live : s.live = true) (level : s.notW1 { hdr := h, body := .fwdArrv b })
    (begun : u = s.taken { hdr := h, body := .fwdArrv b }) :
    exec (.fwdArrv h b) s = .next (u.fresh.performForwarded (u.forwardedOp h b) b.arrival) := by
  change Host.Outcome.next (s.messageCommand { hdr := h, body := .fwdArrv b }) = _
  rw [messageCommand_taken live level, ← begun]
  rfl

/-- R105, R153: a forwarded arrival that passes check 1 comes to its parent's rule. -/
theorem performForwarded_arrives (bank : u.bankOut o.index = false) (clean : u.flips = [])
    (gate : u.homeGate o = none) (sound : u.objFaulted o.index = false) (whole : u.isBody o.index = false)
    (barrier : (u.obj o.index).otype = .barrier) : u.performForwarded o p = u.arriveForwarded o p := by
  simp [State.performForwarded, bank, accessObj_clean clean, gate, sound, whole, barrier]

theorem reach12_hasRoom (room : u.hasRoom o) : (u.reach12 o).hasRoom o := by
  have same := State.reach12_wipe u o 0x2000004000000 (by decide)
  have count := partCount_of_wipe (by decide) same
  have waiters := waiters_of_wipe (by decide) same
  unfold State.hasRoom State.waitersOf State.partOfIndex State.shareSize at room ⊢
  rw [count, waiters]
  exact room

/-- R151, R153, R252: an arrival that does not complete the round counts in its parent's record, and waits for the grant
in a waiter record. -/
theorem arriveForwarded_waits (whole : (u.obj o.index).broken = false)
    (admitted : u.forwardedCheck p (u.obj o.index) = none) (sound : p.broken = false) (room : u.hasRoom o)
    (incomplete : (((u.obj o.index).countForwarded p).by o).complete = false) :
    (u.arriveForwarded o p).objs = (u.setObj o.index (((u.obj o.index).countForwarded p).by o)).objs ∧
    (∃ n, (u.arriveForwarded o p).waiters = insertWaiter false
      { u.waiterFor .fwdArrv o.index o ((u.obj o.index).round.setWidth 64) o.op.opb with num := n } u.waiters) ∧
    ∀ m, 0x2002007014000 ||| m = m → (u.arriveForwarded o p).wipe m = u.wipe m := by
  have reached := fun m hm => State.reach12_wipe u o m hm
  obtain ⟨n, t, queued, waiters, frame⟩ := addWaiter_some (X := u.reach12 o) false
    (u.waiterFor .fwdArrv o.index o ((u.obj o.index).round.setWidth 64) o.op.opb) (reach12_hasRoom room)
  generalize counted : t.setObj o.index (((u.obj o.index).countForwarded p).by o) = Y
  have recorded := fun m hm => State.recordOp_wipe Y o .ok 0 m hm
  have objs : (Y.recordOp o .ok 0).objs = (u.setObj o.index (((u.obj o.index).countForwarded p).by o)).objs := by
    rw [objs_of_wipe (m := 0x2002007000000) (by decide) (recorded _ (by decide)), ← counted]
    unfold State.setObj
    rw [objs_of_wipe (m := 0x2000004010000) (by decide) (frame _ (by decide)),
      objs_of_wipe (m := 0x2000004000000) (by decide) (reached _ (by decide))]
  have arrives : u.arriveForwarded o p = Y.recordOp o .ok 0 := by
    have stays : ((Y.recordOp o .ok 0).obj o.index).complete = false := by
      rw [obj_of_objs objs, State.obj_setObj_self]
      exact incomplete
    simp only [State.arriveForwarded, whole, admitted, sound, queued, Bool.false_eq_true, if_false, State.write, counted,
      stays]
  rw [arrives]
  refine ⟨objs, ⟨n, ?_⟩, fun m hm => ?_⟩
  · rw [waiters_of_wipe (m := 0x2002007000000) (by decide) (recorded _ (by decide)), ← counted, State.setObj_waiters,
      waiters, waiters_of_wipe (m := 0x2000004000000) (by decide) (reached _ (by decide))]
  · rw [recorded _ (mask_sub hm (by decide)), ← counted, State.setObj_wipe _ _ _ _ (mask_sub hm (by decide)),
      frame _ (mask_sub hm (by decide)), reached _ (mask_sub hm (by decide))]

end

/-- Settles O41: a completion by the rule of its source, and an arrival by its parent's rule. -/
theorem completionsAndArrivals : Obligations.CompletionsAndArrivals := by
  refine ⟨fun s u h b m q live hm level begun route port => ?_, fun s u h b m o r live hm level begun ho hr bank clean gate
    sound head barrier whole admitted unbroken room incomplete => ?_⟩
  · subst hm
    rw [exec_cpl live level begun route]
    refine ⟨fun source own awaited => ?_, fun v source voided uncounted => ?_, fun source isOp own => ?_,
      fun source clean idle => ?_⟩
    · rw [source, portCpl_returns port own awaited]
      rfl
    · rw [source, portCpl_voided port voided uncounted]
      rfl
    · rw [source, slotCpl_returns isOp own]
      rfl
    · rw [source, childCpl_discarded clean idle]
      rfl
  · subst hm hr ho
    have arrives := performForwarded_arrives (u := u.fresh) (p := b.arrival) bank clean gate sound head barrier
    obtain ⟨objs, ⟨n, waiters⟩, frame⟩ := arriveForwarded_waits (u := u.fresh) whole admitted unbroken room incomplete
    refine ⟨_, n, (exec_fwdArrv live level begun).trans (congrArg _ arrives), objs, waiters, ?_⟩
    exact ((frame _ (by decide)).trans (State.fresh_wipe _ _ (by decide))).symm

end Sys2Proof.Machine
end

section
/-! SUPPORT. ARRV, ARRW and WREL on a whole BARRIER (R141, R142, R149, R164): `arrive_counts` and `waitRelease_done` say
what their rules do; here their record and their result come in the words of the statement. -/

namespace Sys2Proof.Machine

/-- R141, R164: the record after an arrival of the round at a counted or combining barrier. -/
theorem countArrival_now {s : State} {a : HomeOp} {r : ObjRec} (unregistered : r.isRegistered = false) :
    s.countArrival a r .now =
      if r.isCombining then (r.setArrivals (r.arrivals + 1) r.nextArrivals).setAccs (r.combCount + 1)
        (accMerge r.oper r.cur (contribution r.oper r.format a.op.operand)) r.next r.lastResult
      else r.setArrivals (r.arrivals + 1) r.nextArrivals := by
  simp only [State.countArrival, unregistered, Bool.false_eq_true, if_false]

/-- R102: an arrival that is not parked tells its round and the round's sense. -/
theorem arrivalResult_now (r : ObjRec) :
    arrivalResult r false = r.round.toNat + 2 ^ 28 * bitNat (r.round.getLsbD 0) := by
  simp [arrivalResult, bitNat]

/-- Settles O13: an arrival that leaves its round incomplete by `arrive_counts`, WREL by `waitRelease_done`. -/
theorem barrierOps : Obligations.BarrierOps := by
  intro s p lane ctx op a r n hr barrier whole hn
  subst hr
  refine ⟨fun reaches operands sense unregistered room incomplete => ⟨_, exec_op reaches, ?_⟩,
    fun reaches operands sense unregistered room incomplete records => ⟨_, exec_op reaches, ?_⟩,
    fun reaches released => ⟨_, exec_op reaches, ?_⟩, fun reaches current records => ⟨_, exec_op reaches, ?_⟩⟩
  -- ARRV
  · have counts := (arrive_counts reaches.1 operands whole sense unregistered room incomplete).1
    rw [lane_writes reaches.1, countArrival_now unregistered, arrivalResult_now] at counts
    rw [hn]
    exact counts
  -- ARRW
  · have waits := (arrive_counts reaches.1 operands whole sense unregistered room incomplete).2 records
    rw [lane_writes reaches.1, countArrival_now unregistered] at waits
    rw [hn]
    exact waits
  -- WREL
  · exact (waitRelease_done reaches.1 whole).1 released
  · exact (waitRelease_done reaches.1 whole).2 current (by rw [barrier]; decide) records

end Sys2Proof.Machine
end

section
/-! SUPPORT. Barriers that break and locks that are lost with a route (R85, R155, R156, R251). A break of a barrier that
nobody waits on and that has no parent is the mark alone (`breakBarrier_alone`); a lost lock is freed by
`freeLock_alone`, and shims and slots that hold nothing of it are passed over. -/

namespace Sys2Proof.Machine

section
variable {s : State} {i : Nat} {h : HubId} {r : ObjRec}

/-! ### A barrier that breaks -/

theorem breakable_alone (alone : s.queue i = []) : s.breakable i = [] := by
  unfold State.breakable
  simp only [alone, List.filter_nil, ite_self]

/-- R85: a break of a barrier that nobody waits on and that has no parent. -/
theorem breakBarrier_alone (whole : (s.obj i).broken = false) (alone : s.queue i = [])
    (root : (s.obj i).hasParent = false) : s.breakBarrier i = s.setObj i { s.obj i with broken := true } := by
  simp only [State.breakBarrier, whole, root, breakable_alone alone, State.endWaiters, Bool.false_eq_true, if_false]

/-- R154: the record of the parent's status is a note, and the break marks the barrier. -/
theorem treeBreak_objs (whole : (s.obj i).broken = false) (st : Nat) :
    (s.treeBreak i st).objs = (s.setObj i { s.obj i with broken := true }).objs := by
  unfold State.treeBreak
  generalize noted : s.record _ = X
  have objs : X.objs = s.objs :=
    noted ▸ objs_of_wipe (m := 0x2002007000000) (by decide) (State.record_wipe s _ _ (by decide))
  rw [breakBarrier_objs (by rw [obj_of_objs objs]; exact whole), obj_of_objs objs]
  simp only [State.setObj, objs]

/-- R155: a child whose parent's home has been out of reach for long breaks as one that hears UNREACHABLE. -/
theorem treeLinkLoss_late (barrier : (s.obj i).otype = .barrier) (waits : s.awaitsGrant i = true)
    (whole : (s.obj i).broken = false) (sound : (s.obj i).faulted = false)
    (lost : s.lostFor (handleHub (s.obj i).parent) (s.cfg 0x2200 1 (s.obj i).partition.toNat) = true) :
    s.treeLinkLoss i = s.treeBreak i Status.unreachable.code := by
  have breaks (v : BitVec 64) : s.childGrant i Status.unreachable.code v = s.treeBreak i Status.unreachable.code := rfl
  simp only [State.treeLinkLoss, barrier, waits, whole, sound, lost, breaks, decide_true, Bool.not_false, Bool.and_self,
    if_true]

theorem grantUndeliverable_late {w : WaitMsg} (late : s.undelivered i = some w) :
    s.grantUndeliverable i = ({ s with waitMsgs := s.waitMsgs.erase w } : State).breakBarrier i := by
  simp only [State.grantUndeliverable, late]

/-! ### A lock whose holder is out of reach -/

/-- R251: a lock that nobody waits for, whose holder's hub has been out of reach for long, is freed and reported. -/
theorem lockLost_late (held : (s.obj i).held = true) (holder : origHub (s.obj i).holder = h) (alone : s.queue i = [])
    (lost : s.lostFor h (s.cfg 0x2500 2 (s.obj i).partition.toNat) = true) :
    s.lockLost h i = (s.freeLock i 3 3 true).failOne { cause := 0x16, index := i } (s.obj i).partition.toNat := by
  simp [State.lockLost, held, holder, alone, lost]

/-- R251, R433: in a partition whose latch is set the loss changes the lock's record, and is reported. -/
theorem lockLost_latched (held : (s.obj i).held = true) (holder : origHub (s.obj i).holder = h)
    (plain : (s.obj i).inhPrio = 0) (alone : s.queue i = []) (latched : s.latched (s.obj i).partition.toNat = true)
    (lost : s.lostFor h (s.cfg 0x2500 2 (s.obj i).partition.toNat) = true) :
    (s.lockLost h i).obj i = { (s.obj i).setLock 0 (s.obj i).prio (s.obj i).grantTime (s.obj i).acqCount false
      (s.obj i).holder with abandoned := true } ∧
    ∀ m, 0x2002007005000 ||| m = m → (s.lockLost h i).wipe m = s.wipe m := by
  rw [lockLost_late held holder alone lost]
  obtain ⟨objs, frame⟩ := freeLock_alone (X := s) (i := i) (how := 3) (ec := 3) (ab := true) plain alone
  have parts := parts_of_wipe (m := 0x2002007004000) (by decide) (frame _ (by decide))
  obtain ⟨reported, -⟩ := failOne_latched (s := s.freeLock i 3 3 true) (d := { cause := 0x16, index := i })
    (p := (s.obj i).partition.toNat) (by unfold State.latched; rw [part_of_parts parts]; exact latched)
  refine ⟨?_, fun m hm => ?_⟩
  · rw [obj_of_objs (objs_of_wipe (m := 0x2002007001000) (by decide) (reported _ (by decide))), obj_of_objs objs,
      State.obj_setObj_self]
  · rw [reported _ (mask_sub hm (by decide)), frame _ (mask_sub hm (by decide))]

/-- R251: a port with no pending op and no held lock has nothing to lose. -/
theorem portLockLoss_idle {q : Nat} (pend : (s.port q).pend = []) (locks : (s.port q).heldLocks = []) :
    s.portLockLoss h q = s := by
  simp [State.portLockLoss, pend, locks]

theorem slotLockLoss_idle {g : Nat} (idle : (s.slot g).sent = none) : s.slotLockLoss h g = s := by
  simp only [State.slotLockLoss, idle]

/-- R251: with one lock at the hub, and nothing under way at its ports and slots, only that lock can be lost. -/
theorem lockLinkLoss_single (only : s.objs = [(i, r)]) (lock : r.otype = .lock)
    (ports : ((s.lockLost h i).ports = s.ports)) (slots : (s.lockLost h i).slots = s.slots)
    (idle : ∀ q, (s.port q).pend = [] ∧ (s.port q).heldLocks = []) (free : ∀ g, (s.slot g).sent = none) :
    s.lockLinkLoss h = s.lockLost h i := by
  have port (q : Nat) : (s.lockLost h i).port q = s.port q := port_of_ports ports q
  have slot (g : Nat) : (s.lockLost h i).slot g = s.slot g := by unfold State.slot; rw [slots]
  have passed : (s.lockLost h i).each (fun s q => s.portLockLoss h q) (s.lockLost h i).ports.keys = s.lockLost h i :=
    each_same _ fun q _ => portLockLoss_idle (by rw [port]; exact (idle q).1) (by rw [port]; exact (idle q).2)
  unfold State.lockLinkLoss
  simp only [only, lock, decide_true, List.filter_cons_of_pos, List.filter_nil, List.map_cons, List.map_nil, State.each]
  rw [passed]
  exact each_same _ fun g _ => slotLockLoss_idle (by rw [slot]; exact free g)

end

/-- Settles O25: a child by the break of R154, a parent by its own break, and a lock by what `lockLost` leaves. -/
theorem lostRoutes : Obligations.LostRoutes := by
  intro s live
  refine ⟨fun i built barrier waits whole sound lost => ?_, fun i w built late whole => ?_,
    fun i r h only lock held holder plain alone latched lost idle free => ?_⟩
  · refine ⟨_, atUnit_live _ live built, ?_⟩
    rw [treeLinkLoss_late barrier waits whole sound lost]
    exact treeBreak_objs whole _
  · refine ⟨_, atUnit_live _ live built, ?_, fun alone root => ?_⟩
    · rw [grantUndeliverable_late late]
      exact breakBarrier_objs whole
    · have breaks := breakBarrier_alone (s := { s with waitMsgs := s.waitMsgs.erase w }) whole alone root
      rw [grantUndeliverable_late late, breaks, State.setObj_waitMsgs]
  · have record : s.obj i = r := by simp only [State.obj, only, Sparse.get, if_true]
    subst record
    obtain ⟨freed, frame⟩ := lockLost_latched held holder plain alone latched lost
    have kept := frame 0x2002007005000 (by decide)
    have runs : exec (.lockLinkLoss h) s = .next (s.lockLost h i) := by
      change Host.Outcome.next (s.whenLive fun s => s.lockLinkLoss h) = _
      rw [whenLive_live _ live, lockLinkLoss_single only lock (ports_of_wipe (by decide) kept)
        (slots_of_wipe (by decide) kept) idle free]
    exact ⟨_, runs, freed, kept.symm⟩

end Sys2Proof.Machine
end

section
/-! SUPPORT. The checks in turn (R84, R146, R369, R431): the parity of a near object, the reset check of a registered
barrier, and the deadline of an ARRW across a level-1 route. -/

namespace Sys2Proof.Machine

section
variable {s X : State} {p i n : Nat} {e : Pend}

/-! ### The parity of near objects -/

/-- R431: with no bit in error at the port, the turn passes to the next near object. -/
theorem nearTurn_good (clean : (s.port p).nearFlips = []) :
    s.nearTurn p = s.setPort p { s.port p with nearNext := ((s.port p).nearNext + 1) % 64 } := by
  have passes : s.nearCheck p (s.port p).nearNext = s := by
    unfold State.nearCheck
    rw [clean]
    rfl
  simp only [State.nearTurn, passes, State.modPort]

/-! ### The reset check of a registered barrier -/

/-- The hub once the check of record `i` is off the list of port `p`. -/
def State.unlisted (s : State) (p i : Nat) : State :=
  s.modPort p fun x => { x with checks := x.checks.filter fun j => j ≠ i }

theorem unlisted_checks : ((s.unlisted p i).port p).checks = (s.port p).checks.filter fun j => j ≠ i := by
  unfold State.unlisted State.modPort
  rw [State.port_setPort_self]

theorem unlisted_frame (m : Nat) (hm : 0x100000 ||| m = m) : (s.unlisted p i).wipe m = s.wipe m :=
  State.modPort_wipe _ _ _ _ hm

theorem unlisted_obj (j : Nat) : (s.unlisted p i).obj j = s.obj j :=
  obj_of_objs (objs_of_wipe (m := 0x100000) (by decide) (unlisted_frame _ (by decide))) j

theorem unlisted_accessObj (clean : s.flips = []) : (s.unlisted p i).accessObj i = s.unlisted p i :=
  accessObj_clean ((flips_of_wipe (m := 0x100000) (by decide) (unlisted_frame _ (by decide))).trans clean) i

/-- R84: a registered barrier still awaits an engine of a port, whose slot's bit differs from the round's sense. -/
def ObjRec.awaits (r : ObjRec) (p : Nat) : Prop := ∃ e n, e < 8 ∧ r.slotOf p e = some n ∧ r.body.getLsbD n ≠ r.sense

/-- R146: a check that no reset has listed, or that finds no engine of its port awaited, only ends. -/
theorem resetCheck_ends (clean : s.flips = [])
    (idle : (s.port p).checks.contains i = false ∨ ¬ (s.obj i).awaits p) : s.resetCheck p i = s.unlisted p i := by
  unfold State.resetCheck
  rw [← State.unlisted, unlisted_accessObj clean]
  refine if_neg fun fails => ?_
  simp only [Bool.and_eq_true, List.any_eq_true, unlisted_obj] at fails
  obtain ⟨⟨⟨⟨⟨⟨listed, -⟩, -⟩, -⟩, -⟩, -⟩, e, engine, differs⟩ := fails
  rcases idle with idle | idle
  · rw [listed] at idle
    cases idle
  · split at differs
    next n slot =>
      obtain ⟨-, below⟩ := mem_numsFrom 8 0 engine
      exact idle ⟨e, n, by omega, slot, by simpa using differs⟩
    next => cases differs

/-- R84, R146: a check that a reset has listed, and that finds an engine of its port awaited, breaks the barrier. -/
theorem resetCheck_breaks (clean : s.flips = []) (listed : (s.port p).checks.contains i = true)
    (barrier : (s.obj i).otype = .barrier) (registered : (s.obj i).isRegistered = true)
    (sound : (s.obj i).faulted = false) (whole : (s.obj i).broken = false) (head : s.isBody i = false)
    (awaited : (s.obj i).awaits p) : s.resetCheck p i = (s.unlisted p i).breakBarrier i := by
  have same : (s.unlisted p i).isBody i = false := head
  obtain ⟨e, n, below, slot, differs⟩ := awaited
  unfold State.resetCheck
  rw [← State.unlisted, unlisted_accessObj clean]
  refine if_pos ?_
  simp only [unlisted_obj, listed, barrier, registered, sound, whole, same, decide_true, Bool.not_false, Bool.and_self,
    Bool.true_and, List.any_eq_true]
  exact ⟨e, numsFrom_mem 8 0 e (by omega) (by omega), by simpa [slot] using differs⟩

theorem exec_registeredBarrierResetCheck (live : s.live = true) (built : s.portBuilt p = true) (inside : i < 131072) :
    exec (.registeredBarrierResetCheck p i) s = .next (s.resetCheck p i) :=
  (atPort_live _ live built).trans (congrArg _ (if_pos inside))

/-! ### The deadline of an ARRW across a level-1 route -/

theorem exec_w1ArrwDeadline (walks : s.walks = true) (built : s.portBuilt p = true) (core : p ≠ 128) :
    exec (.w1ArrwDeadline p n) s = .next (s.w1Deadline p n) := by
  change (if p = 128 ∧ n < 1024 ∨ s.portBuilt p = true then Host.Outcome.next (s.whenWalks fun s => s.w1Expiry p n)
    else Host.Outcome.fault Fault.absentPort) = _
  rw [if_pos (.inr built), whenWalks_walks _ walks]
  exact congrArg _ (if_neg core)

/-- R369: a pending ARRW whose deadline has passed is counted, recorded, and ended with TIMEOUT. -/
theorem w1Deadline_ends (found : (s.port p).pend.find? (fun q => q.entry = n && !q.arrived && s.farExpired q) = some e) :
    ∃ X : State, s.w1Deadline p n = X.endSent p .timeout false [e] ∧
      ∀ m, 0x2002007000000 ||| m = m → X.wipe m = s.wipe m := by
  refine ⟨((s.pcount 11 (s.portPart p) 1).act (s.portPart p)).recordTimeout (withDeadline e (s.pendOp p e)), ?_,
    fun m hm => ?_⟩
  · simp only [State.w1Deadline, found]
  · rw [State.recordTimeout_wipe _ _ _ hm, State.act_wipe _ _ _ (mask_sub hm (by decide)),
      State.pcount_wipe _ _ _ _ _ (mask_sub hm (by decide))]

/-- An op that has gone to another hub ends here: its lane is answered, and its later completion is voided. -/
theorem endSent_answers {st : Status} {counts : Bool} (quiet : (X.port p).quiet)
    (clear : (X.port p).laneClear e.lane e.op) (parked : (X.port p).parked = [])
    (free : ∀ q, q < 16 → (X.part q).hold.held = false) :
    Answered (X.endSent p st counts [e]) p e.lane e.op st ∧
    ∀ m, 0x2002007100000 ||| m = m → (X.endSent p st counts [e]).wipe m = X.wipe m := by
  obtain ⟨v, ends⟩ := endSent_one X p st counts e
  generalize noted : (X.modPort p fun x => { x with voided := x.voided ++ v }) = Y at ends
  have voided : Y.port p = { X.port p with voided := (X.port p).voided ++ v } := by
    rw [← noted, State.modPort, State.port_setPort_self]
  have counted := fun m hm => State.countRefused_wipe Y (Y.pendOp p e) st m hm
  generalize Y.countRefused (Y.pendOp p e) st = Z at ends counted
  have frame (m : Nat) (hm : 0x2002007100000 ||| m = m) : Z.wipe m = X.wipe m := by
    rw [counted _ (mask_sub hm (by decide)), ← noted, State.modPort_wipe _ _ _ _ (mask_sub hm (by decide))]
  have port : Z.port p = { X.port p with voided := (X.port p).voided ++ v } :=
    (port_of_ports (ports_of_wipe (m := 0x2002007000000) (by decide) (counted _ (by decide))) p).trans voided
  have still : (Z.port p).quiet := port ▸ quiet
  have held : Z.portHeld p = false :=
    portHeld_none (parts_of_wipe (m := 0x2002007100000) (by decide) (frame _ (by decide))) free
  rw [ends, wakePort_quiet (answerPend_quiet e st 0 0 still)]
  obtain ⟨answered, -⟩ := answerPend_lane (s := Z) (p := p) (e := e) st 0 0 (port ▸ clear)
    (.inr (by rw [port]; exact parked)) (.inr held)
  exact ⟨answered_of answered, fun m hm => (State.answerPend_wipe _ _ _ _ _ _ _ (mask_sub hm (by decide))).trans
    (frame m hm)⟩

/-- R369: the lane of an ARRW whose deadline has passed reads TIMEOUT. -/
theorem w1Deadline_answers (quiet : (s.port p).quiet)
    (found : (s.port p).pend.find? (fun q => q.entry = n && !q.arrived && s.farExpired q) = some e)
    (clear : (s.port p).laneClear e.lane e.op) (parked : (s.port p).parked = [])
    (free : ∀ q, q < 16 → (s.part q).hold.held = false) :
    Answered (s.w1Deadline p n) p e.lane e.op .timeout ∧ SameBut ([.ports] ++ noteFields) s (s.w1Deadline p n) := by
  obtain ⟨X, ends, frame⟩ := w1Deadline_ends found
  have port : X.port p = s.port p :=
    port_of_ports (ports_of_wipe (m := 0x2002007000000) (by decide) (frame _ (by decide))) p
  have parts := parts_of_wipe (m := 0x2002007000000) (by decide) (frame _ (by decide))
  obtain ⟨answered, keeps⟩ := endSent_answers (X := X) (p := p) (e := e) (st := .timeout) (counts := false)
    (port ▸ quiet) (port ▸ clear) (port ▸ parked) fun q inside => by rw [part_of_parts parts]; exact free q inside
  rw [ends]
  exact ⟨answered, ((keeps _ (by decide)).trans (frame _ (by decide))).symm⟩

end

/-- Settles O22: the near turn by `nearTurn_good`, the reset check by whether an engine of its port is awaited, which is
where a slot's bit differs from the sense (R84), and the deadline by the answer that ends its op. -/
theorem checksInTurn : Obligations.ChecksInTurn := by
  intro s p live built
  refine ⟨fun clean => ?_, fun i inside clean => ?_, fun n e walks quiet found clear parked free core => ?_⟩
  · exact (atPort_live _ live built).trans (congrArg _ (nearTurn_good clean))
  · have runs := exec_registeredBarrierResetCheck live built inside
    refine ⟨fun unlisted => ?_, fun listed barrier registered sound whole head =>
      ⟨fun arrived => ?_, fun awaited alone root => ?_⟩⟩
    · rw [resetCheck_ends clean (.inl unlisted)] at runs
      exact ⟨_, runs, objs_of_wipe (m := 0x100000) (by decide) (unlisted_frame _ (by decide)),
        (unlisted_frame _ (by decide)).symm⟩
    · rw [resetCheck_ends clean (.inr fun ⟨e, n, engine, slot, differs⟩ => differs (arrived e n engine slot))] at runs
      exact ⟨_, runs, unlisted_checks, (unlisted_frame _ (by decide)).symm⟩
    · have breaks := breakBarrier_alone (s := s.unlisted p i) (i := i) (by rw [unlisted_obj]; exact whole) alone
        (by rw [unlisted_obj]; exact root)
      rw [resetCheck_breaks clean listed barrier registered sound whole head awaited, breaks, unlisted_obj] at runs
      exact ⟨_, runs, State.obj_setObj_self _ _ _,
        ((State.setObj_wipe _ _ _ _ (by decide)).trans (unlisted_frame _ (by decide))).symm⟩
  · exact ⟨_, exec_w1ArrwDeadline walks built core, w1Deadline_answers quiet found clear parked free⟩

end Sys2Proof.Machine
end

section
/-! SUPPORT. Writes of rings and of their consumer indices (R215, R216, R332, R336). An entry of a ring's block comes to
the rule of its subindex, for a ticket ring (`ticketEntry_answers`) and for a notify ring (`notifyEntry_answers`); a
register of a control block comes to its ring's move (`blockIndex_moves`, `blockIndex_refuses`). -/

namespace Sys2Proof.Machine

section
variable {s u x : State} {h : CatHdr} {w : Who} {k r p v c : Nat} {j : BitVec 16} {sub : BitVec 8} {st : CatStatus}

/-! ### Where a ring's entries stand (R213, R336) -/

theorem instIndex_of_lt {base n count : Nat} (inside : n < count) :
    instIndex base n count = BitVec.ofNat 16 (base + n) := by
  rw [instIndex, if_pos inside]

theorem consumerEntry_ticket (ring : k < 4) : consumerEntry (.ticket k) = BitVec.ofNat 16 (0x2400 + k) :=
  instIndex_of_lt ring

theorem ringIndex_tenant (tenant : p < 16) : ringIndex p = 0x2900 := if_neg (Nat.ne_of_lt tenant)

theorem ringPart_tenant (tenant : p < 16) : ringPart p = p := if_neg (Nat.ne_of_lt tenant)

/-- A partition reaches the ring of its own, and the hub's. -/
theorem ringIndex_of {hub : Bool} (tenant : p < 16) (ring : r = if hub then 16 else p) :
    ringIndex r = if hub then 0x2A00 else 0x2900 := by
  subst ring
  cases hub
  · exact ringIndex_tenant tenant
  · rfl

theorem notifyBlock {hub : Bool} (tenant : p < 16) (ring : r = if hub then 16 else p) :
    BitVec.ofNat 16 (ringIndex r) = if hub then 0x2A00 else 0x2900 := by
  rw [ringIndex_of tenant ring]
  cases hub <;> rfl

theorem consumerEntry_notify {hub : Bool} (tenant : p < 16) (ring : r = if hub then 16 else p) :
    consumerEntry (if hub then .hubNotify else .notify) = BitVec.ofNat 16 (ringIndex r) := by
  rw [notifyBlock tenant ring]
  cases hub <;> rfl

/-! ### What the rules of a ring leave -/

theorem setTicketRing_unbuffered (unbuffered : u.buffered = []) (n : Nat) : u.setTicketRing p k n v =
    ((u.setCfg (0x2400 + k) n p v).setCfg (0x2400 + k) 3 p 0).setCfg (0x2400 + k) 4 p 0 :=
  drainTickets_none unbuffered

theorem setNotifyRing_catOpen (n v : Nat) : (u.setNotifyRing r n v).catOpen = u.catOpen := by
  simp [State.setNotifyRing]

theorem moveTicketConsumer_takes (ok : consumerOk (u.tring k 3 p) (u.tring k 4 p) c = true)
    (unbuffered : u.buffered = []) : u.moveTicketConsumer p k c = some (u.setCfg (0x2400 + k) 4 p c) :=
  (if_pos ok).trans (congrArg some (drainTickets_none unbuffered))

theorem moveTicketConsumer_refuses (bad : consumerOk (u.tring k 3 p) (u.tring k 4 p) c = false) :
    u.moveTicketConsumer p k c = none := if_neg (Bool.not_eq_true _ ▸ bad)

theorem moveNotifyConsumer_takes (ok : consumerOk (u.ringCfg r 3) (u.ringCfg r 4) c = true) :
    u.moveNotifyConsumer r c = some (u.setCfg (ringIndex r) 4 (ringPart r) c) := if_pos ok

theorem moveNotifyConsumer_refuses (bad : consumerOk (u.ringCfg r 3) (u.ringCfg r 4) c = false) :
    u.moveNotifyConsumer r c = none := if_neg (Bool.not_eq_true _ ▸ bad)

/-! ### An entry of a ring's block -/

/-- The bytes of a ring's base, of its size and of its consumer index. -/
def ringBytes (sub : BitVec 8) : Nat := if sub = 1 then 8 else if sub = 2 then 1 else 4

theorem ringBytes_le (sub : BitVec 8) : ringBytes sub ≤ 16 := by
  unfold ringBytes
  split_ifs <;> omega

theorem writeEntry_ticketRing (ring : k < 4) (n v : Nat) :
    u.writeEntry h w (0x2400 + k) n p v = u.writeTicketEntry k n p v := by
  have low : 0x2400 + k < 0x3000 := by omega
  have block : 0x2400 ≤ 0x2400 + k ∧ 0x2400 + k ≤ 0x2403 := by omega
  rw [State.writeEntry, if_pos low, State.writeLow, if_pos block, Nat.add_sub_cancel_left]

theorem ticketEntry_answers (writes : s.writing u h j sub v w) (ring : k < 4) (block : j = BitVec.ofNat 16 (0x2400 + k))
    (listed : sub = 1 ∨ sub = 2 ∨ sub = 4)
    (rule : u.writeTicketEntry k sub.toNat h.partition.toNat (v % 2 ^ (8 * ringBytes sub)) = (x, some st))
    (still : x.catOpen = u.catOpen) (i : Instr) : s.entryCommand i h j sub v = s.answered h j sub st x := by
  obtain ⟨index, scope, bytes, mask⟩ := ring_row ring listed block
  refine entryCommand_answers writes i (askPart scope _) (stored_mod bytes mask (ringBytes_le sub)) ?_ still
  rw [index, writeEntry_ticketRing ring, ← rule]
  rfl

theorem notifyEntry_answers {hub : Bool} (writes : s.writing u h j sub v w) (r : Nat)
    (ring : r = if hub then 16 else h.partition.toNat) (block : j = BitVec.ofNat 16 (ringIndex r))
    (listed : sub = 1 ∨ sub = 2 ∨ sub = 4)
    (rule : u.writeNotifyEntry r sub.toNat (v % 2 ^ (8 * ringBytes sub)) = (x, some st))
    (still : x.catOpen = u.catOpen) (i : Instr) : s.entryCommand i h j sub v = s.answered h j sub st x := by
  obtain ⟨part, bytes, mask⟩ := notify_rows hub sub listed h.partition
  rw [ringIndex_of h.partition.isLt ring] at block
  subst block
  refine entryCommand_answers writes i part (stored_mod bytes mask (ringBytes_le sub)) ?_ still
  rw [← rule, ring]
  cases hub
  · exact we2900 _ _ _ _ _ _
  · exact we2A00 _ _ _ _ _ _

/-- A ring's base takes the whole value, its size the low byte (R507). -/
theorem ringValue (size : Bool) (v : BitVec 64) :
    v.toNat % 2 ^ (8 * ringBytes (if size then 2 else 1)) = if size then v.toNat % 256 else v.toNat := by
  have base : 8 * ringBytes 1 = 64 := rfl
  have count : 8 * ringBytes 2 = 8 := rfl
  have fits := v.isLt
  cases size
  · simp only [Bool.false_eq_true, if_false, base, Nat.reducePow] at fits ⊢
    omega
  · simp only [if_true, count, Nat.reducePow]

/-- A consumer index takes the whole value (R507). -/
theorem consumerValue (v : BitVec 32) : v.toNat % 2 ^ (8 * ringBytes 4) = v.toNat := by
  have index : 8 * ringBytes 4 = 32 := rfl
  have fits := v.isLt
  simp only [index, Nat.reducePow] at fits ⊢
  omega

theorem setting_listed (size : Bool) : (if size then (2 : BitVec 8) else 1) = 1 ∨
    (if size then (2 : BitVec 8) else 1) = 2 ∨ (if size then (2 : BitVec 8) else 1) = 4 := by
  cases size
  · exact .inl rfl
  · exact .inr (.inl rfl)

theorem writeTicketEntry_setting (size : Bool) (n : Nat) :
    u.writeTicketEntry k (if size then (2 : BitVec 8) else 1).toNat p n =
      doneWith (u.setTicketRing p k (if size then (2 : BitVec 8) else 1).toNat n) := by
  cases size <;> rfl

theorem writeNotifyEntry_setting (size : Bool) (n : Nat) :
    u.writeNotifyEntry r (if size then (2 : BitVec 8) else 1).toNat n =
      doneWith (u.setNotifyRing r (if size then (2 : BitVec 8) else 1).toNat n) := by
  cases size <;> rfl

theorem moveConsumer_ticket (n : Nat) : u.moveConsumer p (.ticket k) n = u.moveTicketConsumer p k n := by
  unfold State.moveConsumer
  rfl

theorem moveConsumer_notify (n : Nat) : u.moveConsumer p .notify n = u.moveNotifyConsumer p n := by
  unfold State.moveConsumer
  rfl

/-- R215: an index that its ring takes is answered with DONE, one that it refuses with ACCESS_ERROR. -/
theorem writeTicketEntry_index (v : BitVec 32) {o : Option State} (moves : u.moveTicketConsumer p k v.toNat = o) :
    u.writeTicketEntry k (4 : BitVec 8).toNat p (v.toNat % 2 ^ (8 * ringBytes 4)) = indexAnswer u o := by
  have four : (4 : BitVec 8).toNat = 4 := rfl
  rw [consumerValue, four]
  unfold State.writeTicketEntry
  simp only [moveConsumer_ticket, moves]

theorem writeNotifyEntry_index (v : BitVec 32) {o : Option State} (moves : u.moveNotifyConsumer r v.toNat = o) :
    u.writeNotifyEntry r (4 : BitVec 8).toNat (v.toNat % 2 ^ (8 * ringBytes 4)) = indexAnswer u o := by
  have four : (4 : BitVec 8).toNat = 4 := rfl
  rw [consumerValue, four]
  unfold State.writeNotifyEntry
  simp only [moves]

/-! ### The commands -/

theorem exec_ticketSetting (size : Bool) (v : BitVec 64) : exec (.ticketRingConfigWrite h k size v) s =
    .next (s.entryCommand (.ticketRingConfigWrite h k size v) h (instIndex 0x2400 k 4) (if size then 2 else 1)
      v.toNat) := rfl

theorem exec_notifySetting (hub size : Bool) (v : BitVec 64) : exec (.notifyRingConfigWrite h hub size v) s =
    .next (s.entryCommand (.notifyRingConfigWrite h hub size v) h (if hub then 0x2A00 else 0x2900)
      (if size then 2 else 1) v.toNat) := rfl

theorem exec_catIndex (ring : RingName) (v : BitVec 32) : exec (.consumerIndexWrite (.cat h) ring v) s =
    .next (s.entryCommand (.consumerIndexWrite (.cat h) ring v) h (consumerEntry ring) 4 v.toNat) := rfl

theorem exec_blockIndex (b : Nat) (ring : RingName) (v : BitVec 32) :
    exec (.consumerIndexWrite (.block b) ring v) s = .next (s.blockIndex b ring v) := rfl

/-! ### A register of a control block -/

/-- R324: an index that its ring takes is answered with OKAY. -/
theorem blockIndex_moves {b : Nat} {ring : RingName} {v : BitVec 32} (live : s.live = true) (present : b < s.partCount)
    (named : ring = .notify ∨ ∃ k < 4, ring = .ticket k) (moves : s.moveConsumer b ring v.toNat = some x) :
    s.blockIndex b ring v = x.drive (.axiResp none (some b) false false) := by
  unfold State.blockIndex
  rw [if_neg (by rw [live]; decide), if_neg (Nat.not_le.mpr present), moves]
  rcases named with rfl | ⟨k, ring, rfl⟩
  · rfl
  · simp only [ring, decide_true, if_true]

/-- R215: an index that its ring refuses is answered with SLVERR, and counted. -/
theorem blockIndex_refuses {b : Nat} {ring : RingName} {v : BitVec 32} (live : s.live = true)
    (present : b < s.partCount) (refused : s.moveConsumer b ring v.toNat = none) :
    s.blockIndex b ring v = s.slverr none (some b) b := by
  unfold State.blockIndex
  rw [if_neg (by rw [live]; decide), if_neg (Nat.not_le.mpr present)]
  dsimp only
  rw [refused, ite_self]

end

/-- Settles O55: each write by the rule of its ring's entry, and each block register by whether the ring takes the
index. -/
theorem ringWrites : Obligations.RingWrites := by
  intro s u h w p hp
  subst hp
  refine ⟨fun k size v j sub n ring block setting value writes unbuffered => ?_,
    fun hub size v i r j sub n ring index block setting value writes => ?_,
    fun k v j ring block writes => ⟨fun ok unbuffered => ?_, fun bad => ?_⟩,
    fun hub v i r j ring index block writes => ⟨fun ok => ?_, fun bad => ?_⟩,
    fun b k v live present inside ring => ?_⟩
  -- base and size
  · subst setting value
    have rule := writeTicketEntry_setting (u := u) (k := k) (p := h.partition.toNat) size
      (v.toNat % 2 ^ (8 * ringBytes (if size then 2 else 1)))
    rw [setTicketRing_unbuffered unbuffered] at rule
    rw [← ringValue, exec_ticketSetting, instIndex_of_lt ring, ← block]
    exact congrArg _ (ticketEntry_answers writes ring block (setting_listed size) rule rfl _)
  · subst index setting value
    have rule := writeNotifyEntry_setting (u := u) (r := r) size (v.toNat % 2 ^ (8 * ringBytes (if size then 2 else 1)))
    rw [← ringValue, exec_notifySetting, ← notifyBlock h.partition.isLt ring, ← block]
    exact congrArg _ (notifyEntry_answers writes r ring block (setting_listed size) rule (setNotifyRing_catOpen _ _) _)
  -- the consumer indices, through the Catalogue
  · rw [exec_catIndex, consumerEntry_ticket ring, ← block]
    exact congrArg _ (ticketEntry_answers writes ring block (.inr (.inr rfl))
      (writeTicketEntry_index v (moveTicketConsumer_takes ok unbuffered)) (State.setCfg_catOpen ..) _)
  · rw [exec_catIndex, consumerEntry_ticket ring, ← block]
    exact congrArg _ (ticketEntry_answers writes ring block (.inr (.inr rfl))
      (writeTicketEntry_index v (moveTicketConsumer_refuses bad)) rfl _)
  · subst index
    rw [exec_catIndex, consumerEntry_notify h.partition.isLt ring, ← block]
    exact congrArg _ (notifyEntry_answers writes r ring block (.inr (.inr rfl))
      (writeNotifyEntry_index v (moveNotifyConsumer_takes ok)) (State.setCfg_catOpen ..) _)
  · subst index
    rw [exec_catIndex, consumerEntry_notify h.partition.isLt ring, ← block]
    exact congrArg _ (notifyEntry_answers writes r ring block (.inr (.inr rfl))
      (writeNotifyEntry_index v (moveNotifyConsumer_refuses bad)) rfl _)
  -- the consumer indices, through a control block
  · have named : ∃ n < 4, RingName.ticket k = .ticket n := ⟨k, ring, rfl⟩
    rw [exec_blockIndex, exec_blockIndex]
    refine ⟨fun ok unbuffered => ?_, fun bad => ?_, fun ok => ?_, fun bad => ?_⟩
    · rw [blockIndex_moves live present (.inr named)
        ((moveConsumer_ticket _).trans (moveTicketConsumer_takes ok unbuffered))]
    · rw [blockIndex_refuses live present ((moveConsumer_ticket _).trans (moveTicketConsumer_refuses bad))]
      rfl
    · rw [blockIndex_moves live present (.inl rfl) ((moveConsumer_notify _).trans (moveNotifyConsumer_takes ok)),
        ringIndex_tenant inside, ringPart_tenant inside]
    · rw [blockIndex_refuses live present ((moveConsumer_notify _).trans (moveNotifyConsumer_refuses bad))]
      rfl

end Sys2Proof.Machine
end

section
/-! SUPPORT. The responses to the writes of the AXI5 manager (R213, R327, R331, R333, R474, R475, R493). A response acts
on the oldest write of its kinds (`onWrite_oldest`); a failed one is counted and recorded (`writeFailed`), and what
follows it is said by kind (`writeError_*`). -/

namespace Sys2Proof.Machine

section
variable {s X : State} {w : MgrWrite} {resp : BitVec 2} {p k r : Nat}

/-! ### Settings beside a write -/

theorem cfg_setCfg_ne {i sub q v j n m : Nat} (other : catKey j n m ≠ catKey i sub q) :
    (X.setCfg i sub q v).cfg j n m = X.cfg j n m :=
  congrArg BitVec.toNat (Sparse.get_put_ne _ _ _ other)

theorem cfg_bump_ne {i sub q j n m : Nat} (other : catKey j n m ≠ catKey i sub q) :
    (X.bump i sub q).cfg j n m = X.cfg j n m := by
  unfold State.bump
  split
  · exact cfg_setCfg_ne other
  · exact cfg_setCfg_ne other

/-! ### The commands -/

theorem onWrite_oldest {ks : List MgrKind} (f : State → MgrWrite → State) (oldest : s.oldestWrite ks = some w) :
    s.onWrite ks f = f s w := by
  unfold State.onWrite
  rw [oldest]

theorem exec_ticketRingWriteDone (live : s.live = true) (oldest : s.oldestWrite [.ticket] = some w) :
    exec .ticketRingWriteDone s = .next (s.ticketWritten w) := by
  change Host.Outcome.next (s.whenLive fun s => s.onWrite [.ticket] State.ticketWritten) = _
  rw [whenLive_live _ live, onWrite_oldest _ oldest]

theorem exec_producerMirrorWriteDone (live : s.live = true) (oldest : s.oldestWrite [.mirror] = some w) :
    exec .producerMirrorWriteDone s = .next (s.mirrorWritten w) := by
  change Host.Outcome.next (s.whenLive fun s => s.onWrite [.mirror] State.mirrorWritten) = _
  rw [whenLive_live _ live, onWrite_oldest _ oldest]

theorem exec_notifyWriteDone (live : s.live = true) (oldest : s.oldestWrite [.notify] = some w) :
    exec .notifyWriteDone s = .next (s.notifyWritten w) := by
  change Host.Outcome.next (s.whenLive fun s => s.onWrite [.notify] State.notifyWritten) = _
  rw [whenLive_live _ live, onWrite_oldest _ oldest]

/-- R327: SLVERR and DECERR are failures. -/
theorem exec_managerWriteError (live : s.live = true) (kind : BitVec 2) (failed : 2 ≤ resp.toNat)
    (oldest : s.oldestWrite (mgrKinds kind) = some w) :
    exec (.managerWriteError kind resp) s = .next (s.writeError w resp) := by
  change Host.Outcome.next (s.whenLive fun s => if resp.toNat < 2 then s
    else s.onWrite (mgrKinds kind) fun s w => s.writeError w resp) = _
  rw [whenLive_live _ live, if_neg (Nat.not_lt.mpr failed), onWrite_oldest _ oldest]

theorem exec_managerWriteOkay (live : s.live = true) (kind : BitVec 2) (okay : resp.toNat < 2) :
    exec (.managerWriteError kind resp) s = .next s := by
  change Host.Outcome.next (s.whenLive fun s => if resp.toNat < 2 then s
    else s.onWrite (mgrKinds kind) fun s w => s.writeError w resp) = _
  rw [whenLive_live _ live, if_pos okay]

/-! ### Writes that are done -/

theorem triggerNote_off (n : Nat) (off : X.tring k 6 p = 0) : X.triggerNote p k n = X := if_pos off

theorem triggerNote_on (n : Nat) (on : X.tring k 6 p ≠ 0) :
    X.triggerNote p k n = X.notifyRing p 1 p (pack 96 [⟨64, 32, n⟩, ⟨62, 2, k⟩]) := if_neg on

theorem irq_off (off : X.ringCfg r 6 = 0) : X.irq r = X := if_pos off

/-- R446: without the reference clock the pulse is owed. -/
theorem irq_owed (on : X.ringCfg r 6 ≠ 0) (lost : X.refLost = true) :
    X.irq r = X.setRing r { X.ring r with owed := true } := (if_neg on).trans (if_pos lost)

/-- R333: the first pulse of a ring's interrupt is held off by nothing. -/
theorem irq_first (on : X.ringCfg r 6 ≠ 0) (clocked : X.refLost = false) (first : (X.ring r).lastPulse = none) :
    X.irq r = (X.setRing r { X.ring r with lastPulse := some X.clock }).drive (.irq r) := by
  unfold State.irq
  rw [if_neg on, if_neg (by rw [clocked]; decide), first]

theorem wrote_refLost : (s.wrote w).refLost = s.refLost :=
  refLost_of_wipe (m := 0x5000000) (by decide)
    ((State.pcount_wipe _ _ _ _ _ (by decide)).trans (wipe_mgr _ (by decide) _ _))

/-! ### Writes that failed -/

theorem writeFailed_sameBut : SameBut noteFields s (s.writeFailed w resp) :=
  (State.writeFailed_wipe s w resp _ (by decide)).symm

/-- While the Folio records nothing, a failed write only leaves the manager. -/
theorem writeFailed_mgr (silent : s.cfg 0x6030 4 = 0) : (s.writeFailed w resp).mgr = s.mgr.erase w := by
  have other : catKey 0x6030 4 0 ≠ catKey 0x2B00 3 0 := by decide
  unfold State.writeFailed
  rw [record_silent]
  · exact mgr_of_wipe (m := 0x2000004000000) (by decide) (State.bump_wipe _ _ _ _ _ (by decide))
  · exact (cfg_bump_ne other).trans silent

theorem writeError_notify (kind : w.kind = .notify) : s.writeError w resp =
    ((s.writeFailed w resp).setCfg (ringIndex w.partition) 2 (ringPart w.partition) 0).bump (ringIndex w.partition) 8
      (ringPart w.partition) := by
  unfold State.writeError
  rw [kind]

theorem writeError_region (kind : w.kind = .folio ∨ w.kind = .inventory) :
    s.writeError w resp = s.writeFailed w resp := by
  unfold State.writeError
  rcases kind with kind | kind <;> rw [kind]

/-- R327: a mirror whose write failed is turned off; its ring's TRIGGER record follows where it is on (log entry 10). -/
theorem writeError_mirror (kind : w.kind = .mirror) (off : (s.writeFailed w resp).tring w.ring 6 w.partition = 0) :
    s.writeError w resp = (s.writeFailed w resp).setCfg (0x2400 + w.ring) 5 w.partition 0 := by
  have other : catKey (0x2400 + w.ring) 6 w.partition ≠ catKey (0x2400 + w.ring) 5 w.partition := by
    unfold catKey
    omega
  unfold State.writeError
  rw [kind]
  exact triggerNote_off _ ((cfg_setCfg_ne other).trans off)

/-- R327: a ticket ring whose write failed is turned off; no ticket waits for its room. -/
theorem writeError_ticket (kind : w.kind = .ticket) (plain : w.ticket = none) (unbuffered : s.buffered = []) :
    s.writeError w resp = (s.writeFailed w resp).setCfg (0x2400 + w.ring) 2 w.partition 0 := by
  have same : (s.writeFailed w resp).buffered = s.buffered :=
    buffered_of_wipe (m := 0x2002007000000) (by decide) (State.writeFailed_wipe _ _ _ _ (by decide))
  unfold State.writeError
  rw [kind, plain]
  exact drainTickets_none (same.trans unbuffered)

/-! ### The end of a dump and of an Inventory -/

theorem exec_folioDumpDone (live : s.live = true) : exec .folioDumpDone s = .next s.folioDumped :=
  congrArg Host.Outcome.next (whenLive_live _ live)

theorem folioDumped_idle (idle : s.folio.state ≠ .dumping) :
    s.folioDumped = { s with mgr := s.mgr.filter fun w => decide (w.kind ≠ .folio) } := if_neg idle

theorem folioDumped_state (dumping : s.folio.state = .dumping) : s.folioDumped.folio.state = .stopped := by
  unfold State.folioDumped
  rw [if_pos dumping]
  exact congrArg Folio.state (folio_of_wipe (m := 0x2000007000000) (by decide) (State.folioTrace_wipe _ _ (by decide)))

theorem exec_inventoryDone (live : s.live = true) (inside : p < 16) :
    exec (.inventoryDone p) s = .next (s.inventoryDone p) := atUnit_live _ live inside

theorem inventoryDone_idle (idle : (s.part p).inv.running = false) : s.inventoryDone p = s := by
  unfold State.inventoryDone
  rw [if_neg (by rw [idle]; decide)]

theorem inventoryDone_part (running : (s.part p).inv.running = true) :
    (s.inventoryDone p).part p = { s.part p with inv := { (s.part p).inv with running := false } } := by
  unfold State.inventoryDone
  rw [if_pos running]
  dsimp only
  rw [part_of_parts (parts_of_wipe (m := 0x2000007000000) (by decide) (State.notifyRing_wipe _ _ _ _ _ _ (by decide))),
    State.modPart, State.part_setPart_self,
    part_of_parts (parts_of_wipe (m := 0x4000000) (by decide) (State.pcount_wipe _ _ _ _ _ (by decide)))]
  rfl

end

/-- Settles O49: each response by the rule of its kind of write. -/
theorem managerWrites : Obligations.ManagerWrites := by
  refine ⟨fun s d w live hd =>
      ⟨fun k p n a oldest hk hp hn ha => ?_, fun oldest => ?_, fun r a oldest hr ha => ?_⟩,
    fun s live => ⟨fun w f resp failed hf => ?_, fun k resp okay => exec_managerWriteOkay live k okay, ?_,
      fun p inside => ?_⟩⟩
  -- writes that are done
  · have done : s.ticketWritten w = if a.tring k 5 p ≠ 0 then a.mgrIssue
        { kind := .mirror, partition := p, ring := k, addr := BitVec.ofNat 64 (a.tring k 5 p)
          data := BitVec.ofNat 512 n, bytes := 8, ticket := none } else a.triggerNote p k n := by
      subst ha hn hk hp hd
      rfl
    rw [exec_ticketRingWriteDone live oldest, done]
    refine ⟨fun mirror => ?_, fun plain off => ?_, fun plain on => ?_⟩
    · rw [if_pos mirror]
      rfl
    · rw [if_neg (not_not.mpr plain), triggerNote_off _ off]
    · rw [if_neg (not_not.mpr plain), triggerNote_on _ on]
  · subst hd
    rw [exec_producerMirrorWriteDone live oldest]
    exact ⟨fun off => congrArg _ (triggerNote_off _ off), fun on => congrArg _ (triggerNote_on _ on)⟩
  · have done : s.notifyWritten w = a.irq r := by
      subst ha hr hd
      rfl
    have clock : a.refLost = s.refLost := by
      subst ha hd
      exact wrote_refLost
    rw [exec_notifyWriteDone live oldest, done]
    exact ⟨fun off => congrArg _ (irq_off off),
      fun on clocked first => congrArg _ (irq_first on (clock.trans clocked) first),
      fun on lost => congrArg _ (irq_owed on (clock.trans lost))⟩
  -- writes that failed
  · subst hf
    refine ⟨fun oldest kind => ?_, fun oldest kind off _ _ => ?_, fun oldest kind => ?_,
      fun oldest kind plain unbuffered => ?_, writeFailed_mgr, writeFailed_sameBut⟩
    · rw [exec_managerWriteError live 2 failed oldest, writeError_notify kind]
    · rw [exec_managerWriteError live 1 failed oldest, writeError_mirror kind off]
    · rw [exec_managerWriteError live 3 failed oldest, writeError_region kind]
    · rw [exec_managerWriteError live 0 failed oldest, writeError_ticket kind plain unbuffered]
  -- the ends of a dump and of an Inventory
  · exact ⟨_, exec_folioDumpDone live, (State.folioDumped_wipe _ _ (by decide)).symm, folioDumped_state,
      folioDumped_idle⟩
  · rw [exec_inventoryDone live inside]
    exact ⟨fun idle => congrArg _ (inventoryDone_idle idle), fun running =>
      ⟨_, rfl, inventoryDone_part running, (State.inventoryDone_wipe _ _ _ (by decide)).symm⟩⟩

end Sys2Proof.Machine
end

section
/-! SUPPORT. The AXI5 subordinate: template writes at an issue slot (R205, R206, R323), and accesses that it refuses
(R313, R315, R316, R320). A template write that need not wait is counted, spends a token of its slot, and comes to the
home of its TRIG (`slotWrite_template`, `templateForward_home`), which finds what the write depends on as it was
(`atHome_translate`, `atHome_templateOk`). -/

namespace Sys2Proof.Machine

section
variable {s X : State} {g n p i : Nat} {host : Bool} {word : BitVec 2} {handle hd : Handle} {data : BitVec 64}

/-! ### What a count of a partition leaves of the settings -/

/-- The counters of partitions stand behind every setting of the rows below them (R455). -/
theorem cfg_pcount {sub q k a b c : Nat} (setting : catKey a b c < 0x6000 * 4096) :
    (X.pcount sub q k).cfg a b c = X.cfg a b c := by
  unfold State.pcount
  split
  · exact congrArg BitVec.toNat (count_low setting (Nat.le_refl _))
  · rfl

/-! ### The write as its slot takes it -/

/-- A template write as the subordinate keeps it (R323): it has no opcode and no flags. -/
def State.templateOp (s : State) (host : Bool) (word : BitVec 2) (handle : Handle) (data : BitVec 64) : SlotOp where
  opcode := 0
  op := { flags := { rel := false, acq := false, noresp := false, near := false, sense := false, x2 := false }
          tsel := (0 : BitVec 2) ++ word, tag := 0, handle := handle, operand := data, opb := 0 }
  host := host
  since := s.clock

/-- The hub as the home of a slot's template write finds it: the write is counted, and a token of the slot spent. -/
def State.templateSent (s : State) (g : Nat) : State := (s.pcount 19 (s.slotPart g) 16).spendSlot g

theorem exec_templateWrite (live : s.live = true) (inside : g < 1024) (listed : word ≠ 3) :
    exec (.templateWrite (.slot g host) word handle data) s =
      .next (s.slotWrite g (s.templateOp host word handle data)) := by
  change s.templateCommand (.slot g host) word handle data = _
  unfold State.templateCommand State.apertureTemplate
  simp only [inside, live, listed, if_true, if_false, Bool.not_true, Bool.false_eq_true]
  rfl

/-- R323: word code 3 is refused by the subordinate. -/
theorem exec_templateWrite_reserved (live : s.live = true) (inside : g < 1024) :
    exec (.templateWrite (.slot g host) 3 handle data) s = .next (s.slverr (some g) none (s.slotPart g)) := by
  change s.templateCommand (.slot g host) 3 handle data = _
  unfold State.templateCommand State.apertureTemplate
  simp only [inside, live, if_true, if_false, Bool.not_true, Bool.false_eq_true]

theorem endStalls_none (free : ∀ q, (s.slot q).stalled = []) : s.endStalls g = s :=
  each_same _ fun q _ => by
    rw [free q]
    rfl

/-- R293, R323: with a token in its bucket, and with a number free, a template write goes on at once. -/
theorem slotWrite_template {h : SlotOp} (template : h.opcode = 0) (free : ∀ q, (s.slot q).stalled = [])
    (token : s.slotEmpty g = false) (number : lowestFree 1 16 s.templateNums = some n)
    (unfenced : (s.slot g).fence = none) :
    s.slotWrite g h = (s.pcount 19 (s.slotPart g) 16).templateForward g h n false := by
  have nums : (s.pcount 19 (s.slotPart g) 16).templateNums = s.templateNums := by
    unfold State.templateNums
    rw [slots_of_wipe (m := 0x4000000) (by decide) (State.pcount_wipe _ _ _ _ _ (by decide))]
  have goes : s.slotWaits g h = false := by simp [State.slotWaits, token, number]
  unfold State.slotWrite State.slotAccept State.slotRun
  simp [endStalls_none free, free g, goes, template, unfenced, nums, number]

/-! ### The home of the TRIG -/

theorem templateSent_eq : s.templateSent g =
    { s with cat := (s.templateSent g).cat, slots := (s.templateSent g).slots } := by
  unfold State.templateSent State.pcount
  split <;> rfl

theorem templateSent_same : (s.templateSent g).objs = s.objs ∧ (s.templateSent g).out = s.out ∧
    ∀ m, 0x4200000 ||| m = m → (s.templateSent g).wipe m = s.wipe m := by
  refine ⟨?_, ?_, fun m hm => ?_⟩
  · rw [templateSent_eq]
  · rw [templateSent_eq]
  · exact (State.setSlot_wipe _ _ _ _ (mask_sub hm (by decide))).trans
      (State.pcount_wipe _ _ _ _ _ (mask_sub hm (by decide)))

theorem templateSent_cfg {a b c : Nat} (setting : catKey a b c < 0x6000 * 4096) :
    (s.templateSent g).cfg a b c = s.cfg a b c := cfg_pcount setting

theorem templateSent_templateOk (i : Nat) (v : BitVec 64) :
    (s.templateSent g).templateOk p i word v = s.templateOk p i word v := by
  have port (q : BitVec 7) : (s.templateSent g).portPart q.toNat = s.portPart q.toNat :=
    templateSent_cfg (by unfold catKey; omega)
  unfold State.templateOk State.templateTargetOk
  simp only [port]
  rw [templateSent_eq]
  rfl

/-- R323: checks 2 to 6 of a template write whose TRIG this hub is the home of. -/
theorem templateForward_home {h : SlotOp} {a : HomeOp} (gate : X.gate (X.slotPart g) 0 = none)
    (named : X.absolute (X.slotHome g h n) = some a) (home : handleHub a.op.handle = X.hub)
    (stage : X.stageIsOut 24 = false) : X.templateForward g h n false =
      ((X.spendSlot g).performTemplate a).1.templateAnswer g (((X.spendSlot g).performTemplate a).2 = .ok) := by
  have reached : (X.spendSlot g).reachable (handleHub a.op.handle) = true := by
    unfold State.reachable
    rw [home]
    exact (Bool.or_eq_true _ _).mpr (.inl (decide_eq_true rfl))
  have same : handleHub a.op.handle = (X.spendSlot g).hub := home
  unfold State.templateForward
  simp only [show (X.slotHome g h n).partition = X.slotPart g from rfl, gate, named, stage, reached, Bool.not_true,
    Bool.false_eq_true, if_false, if_pos home]

/-- A template write that reaches the record of its TRIG (R105 checks 6 to 8, R433). -/
def State.reachesTemplate (X : State) (a : HomeOp) : Prop :=
  X.bankOut a.index = false ∧ X.flips = [] ∧ X.selvedge a.partition a.epoch a.index false false = .pass ∧
  X.latched a.partition = false

theorem performTemplate_reaches {a : HomeOp} (reaches : X.reachesTemplate a) : X.performTemplate a =
    if X.templateOk a.partition a.index (getFld a.op.tsel 0 2) a.op.operand then
      (X.write a ((X.obj a.index).setTemplate (getFld a.op.tsel 0 2) a.op.operand), .ok)
    else (X.templateRefused a.partition, .rights) := by
  obtain ⟨bank, clean, pass, latch⟩ := reaches
  unfold State.performTemplate
  simp only [bank, Bool.false_eq_true, if_false, accessObj_clean clean, pass, latch, Bool.false_or]
  cases X.templateOk a.partition a.index (getFld a.op.tsel 0 2) a.op.operand <;> rfl

theorem counted_eq : s.pcount 19 p 16 = { s with cat := (s.pcount 19 p 16).cat } := by
  unfold State.pcount
  split <;> rfl

theorem counted_translate (h : Handle) : (s.pcount 19 p 16).translate p h = s.translate p h := by
  have selects : (s.pcount 19 p 16).cfg 0x3010 4 p = s.cfg 0x3010 4 p := by
    by_cases there : p < 16
    · exact cfg_pcount (by unfold catKey; omega)
    · unfold State.pcount
      rw [if_neg there]
  unfold State.translate
  rw [selects, counted_eq]
  rfl

/-- The op of a template write at its home. -/
def State.templateHome (s : State) (g n : Nat) (h : SlotOp) (hd : Handle) : HomeOp :=
  { s.slotHome g h n with op := { h.op with handle := hd } }

theorem absolute_template {h : SlotOp} (template : h.opcode = 0)
    (named : X.translate (X.slotPart g) h.op.handle = some hd) :
    X.absolute (X.slotHome g h n) = some (X.templateHome g n h hd) := by
  have other : (X.slotHome g h n).opcode ≠ opCode .init := by
    rw [show (X.slotHome g h n).opcode = 0 from template]
    decide
  unfold State.absolute
  simp only [show X.translate (X.slotHome g h n).partition (X.slotHome g h n).op.handle = some hd from named, other,
    decide_false, Bool.false_and, Bool.false_eq_true, if_false]
  rfl

theorem templateWord (word : BitVec 2) : (getFld ((0 : BitVec 2) ++ word) 0 2 : BitVec 2) = word := by
  revert word
  decide

/-- What a slot's template write needs to come to its TRIG at this hub at once (R205, R206, R293, R323). -/
structure TemplateReady (s : State) (g n : Nat) (handle hd : Handle) : Prop where
  free : ∀ q, (s.slot q).stalled = []
  token : s.slotEmpty g = false
  number : lowestFree 1 16 s.templateNums = some n
  unfenced : (s.slot g).fence = none
  gate : s.gate (s.slotPart g) 0 = none
  named : s.translate (s.slotPart g) handle = some hd
  stage : s.stageIsOut 24 = false
  home : handleHub hd = s.hub
  bank : s.bankOut (handleIndex hd) = false
  clean : s.flips = []
  pass : s.selvedge (s.slotPart g) (s.epoch (s.slotPart g)) (handleIndex hd) false false = .pass
  latch : s.latched (s.slotPart g) = false

theorem slotWrite_ready (r : TemplateReady s g n handle hd) :
    ∃ a : HomeOp, a.partition = s.slotPart g ∧ a.index = handleIndex hd ∧ a.originator = s.orig g ∧
      a.entered = s.time.low22 ∧ s.slotWrite g (s.templateOp host word handle data) =
        if s.templateOk (s.slotPart g) (handleIndex hd) word data then
          ((s.templateSent g).write a ((s.obj a.index).setTemplate word data)).templateAnswer g true
        else ((s.templateSent g).templateRefused (s.slotPart g)).templateAnswer g false := by
  have part : (s.pcount 19 (s.slotPart g) 16).slotPart g = s.slotPart g := by
    rw [counted_eq]
    rfl
  have forward := templateForward_home (X := s.pcount 19 (s.slotPart g) 16) (g := g) (n := n)
    (h := s.templateOp host word handle data) (by rw [part, counted_eq]; exact r.gate)
    (absolute_template rfl (by rw [part, counted_translate]; exact r.named)) (by rw [counted_eq]; exact r.home)
    (by rw [counted_eq]; exact r.stage)
  generalize ha : (s.pcount 19 (s.slotPart g) 16).templateHome g n (s.templateOp host word handle data) hd = a
    at forward
  obtain ⟨partition, originator, entered, epoch⟩ : a.partition = s.slotPart g ∧ a.originator = s.orig g ∧
      a.entered = s.time.low22 ∧ a.epoch = s.epoch (s.slotPart g) := by
    rw [← ha, counted_eq]
    exact ⟨rfl, rfl, rfl, rfl⟩
  obtain ⟨index, sel, operand⟩ : a.index = handleIndex hd ∧ a.op.tsel = (0 : BitVec 2) ++ word ∧
      a.op.operand = data := by
    rw [← ha]
    exact ⟨rfl, rfl, rfl⟩
  have reaches : (s.templateSent g).reachesTemplate a := by
    unfold State.reachesTemplate
    rw [partition, index, epoch, templateSent_eq]
    exact ⟨r.bank, r.clean, r.pass, r.latch⟩
  refine ⟨a, partition, index, originator, entered, ?_⟩
  rw [slotWrite_template rfl r.free r.token r.number r.unfenced, forward]
  change ((s.templateSent g).performTemplate a).1.templateAnswer g (((s.templateSent g).performTemplate a).2 = .ok) = _
  rw [performTemplate_reaches reaches, partition, index, sel, operand, templateWord, templateSent_templateOk,
    obj_of_objs templateSent_same.1]
  cases s.templateOk (s.slotPart g) (handleIndex hd) word data <;> rfl

/-! ### The answer of a template write -/

/-- R205: a write that its TRIG takes writes the word and the record's last originator and time, and ends with OKAY. -/
theorem templateWritten {a : HomeOp} {r : ObjRec} (index : a.index = i) (orig : a.originator = s.orig g)
    (entered : a.entered = s.time.low22) {t : State}
    (writes : t = ((s.templateSent g).write a r).templateAnswer g true) :
    t.objs = (s.setObj i (r.wrote (s.orig g) s.time)).objs ∧ t.out = s.out ++ [.axiResp (some g) none false false] ∧
    SameBut ([.objs, .slots, .out] ++ noteFields) s t := by
  obtain ⟨objs, out, frame⟩ := templateSent_same (s := s) (g := g)
  subst writes index
  rw [← by_wrote orig entered]
  refine ⟨?_, congrArg (· ++ _) out, ?_⟩
  · change ((s.templateSent g).objs.put objNone a.index (r.by a)) = s.objs.put objNone a.index (r.by a)
    rw [objs]
  · exact ((wipe_out _ (by decide) _ _).trans ((State.setObj_wipe _ _ _ _ (by decide)).trans
      (frame _ (by decide)))).symm

/-- R206: a write that its TRIG does not take is counted, and ends with SLVERR. -/
theorem templateLeft {q : Nat} {t : State} (left : t = ((s.templateSent g).templateRefused q).templateAnswer g false) :
    t.out = s.out ++ [.axiResp (some g) none true false] ∧ SameBut ([.slots, .out] ++ noteFields) s t := by
  obtain ⟨-, out, frame⟩ := templateSent_same (s := s) (g := g)
  subst left
  have counted (m : Nat) (hm : 0x2000004000000 ||| m = m) :
      (((s.templateSent g).templateRefused q).bump 0x2900 9 (((s.templateSent g).templateRefused q).slotPart
        g)).wipe m = (s.templateSent g).wipe m :=
    (State.bump_wipe _ _ _ _ _ hm).trans (State.pcount_wipe _ _ _ _ _ (mask_sub hm (by decide)))
  refine ⟨congrArg (· ++ _) ((out_of_wipe (m := 0x2000004000000) (by decide) (counted _ (by decide))).trans out), ?_⟩
  exact ((wipe_out _ (by decide) _ _).trans ((counted _ (by decide)).trans (frame _ (by decide)))).symm

/-! ### Accesses that are not performed -/

theorem exec_apertureRefused {area : ApertureArea} (why : ApertureFault) (isRead : Bool)
    (built : areaBuilt area = true) :
    exec (.apertureRefused area why isRead) s = .next (s.apertureRefuse area why isRead) := if_pos built

theorem refuse_reserved (live : s.live = true) (why : ApertureFault) (isRead : Bool) :
    s.apertureRefuse .reserved why isRead = s.drive (.axiResp none none false true) := by
  simp only [State.apertureRefuse, live, Bool.not_true, Bool.false_eq_true, if_false]

theorem refuse_slot (live : s.live = true) (why : ApertureFault) (isRead : Bool) :
    s.apertureRefuse (.slot g) why isRead =
      if isRead && why ≠ .badTransfer then s.drive (.axiResp (some g) none false false)
      else s.slverr (some g) none (s.slotPart g) := by
  simp only [State.apertureRefuse, live, Bool.not_true, Bool.false_eq_true, if_false]

theorem refuse_block (live : s.live = true) (why : ApertureFault) (isRead : Bool) :
    s.apertureRefuse (.block p) why isRead =
      if s.partCount ≤ p then s.drive (.axiResp none (some p) false true)
      else if isRead && why ≠ .badTransfer then s.drive (.axiResp none (some p) false false)
      else s.slverr none (some p) p := by
  simp only [State.apertureRefuse, live, Bool.not_true, Bool.false_eq_true, if_false]

theorem notPlainRead {why : ApertureFault} {isRead : Bool} (bad : isRead = false ∨ why = .badTransfer) :
    ¬ (isRead && decide (why ≠ .badTransfer)) = true := by
  rcases bad with rfl | rfl <;> simp

theorem plainRead {why : ApertureFault} {isRead : Bool} (read : isRead = true) (sized : why ≠ .badTransfer) :
    (isRead && decide (why ≠ .badTransfer)) = true := by
  simp [read, sized]

end

/-- Settles O48: a template write by whether its TRIG takes it, an access that is refused by the area that it names. -/
theorem apertureAccesses : Obligations.ApertureAccesses := by
  refine ⟨fun s g host word handle hd data p i n live inside hp hi => ⟨fun reserved => ?_, fun listed free token number
    unfenced gate named stage home bank clean pass latch => ?_⟩,
    fun s why isRead live => ⟨?_, fun g inside => ?_, fun p inside => ?_⟩⟩
  -- template writes
  · subst reserved hp
    exact exec_templateWrite_reserved live inside
  · subst hp hi
    obtain ⟨a, partition, index, orig, entered, written⟩ := slotWrite_ready (host := host) (word := word) (data := data)
      ⟨free, token, number, unfenced, gate, named, stage, home, bank, clean, pass, latch⟩
    rw [exec_templateWrite live inside listed, written]
    refine ⟨fun ok => ⟨_, rfl, ?_⟩, fun bad => ⟨_, rfl, ?_⟩⟩
    · rw [if_pos ok, index]
      exact templateWritten index orig entered rfl
    · rw [if_neg (by rw [bad]; decide)]
      exact templateLeft rfl
  -- accesses that are refused
  · rw [exec_apertureRefused why isRead rfl, refuse_reserved live]
  · rw [exec_apertureRefused (area := .slot g) why isRead (decide_eq_true inside), refuse_slot live]
    refine ⟨fun bad => ?_, fun read sized => ?_⟩
    · rw [if_neg (notPlainRead bad)]
      rfl
    · rw [if_pos (plainRead read sized)]
  · rw [exec_apertureRefused (area := .block p) why isRead (decide_eq_true inside), refuse_block live]
    refine ⟨fun absent => ?_, fun present bad => ?_, fun present read sized => ?_⟩
    · rw [if_pos absent]
    · rw [if_neg (Nat.not_le.mpr present), if_neg (notPlainRead bad)]
      rfl
    · rw [if_neg (Nat.not_le.mpr present), if_pos (plainRead read sized)]

end Sys2Proof.Machine
end

section
/-! SUPPORT. The Catalogue's writes that act on objects and waiters (R203, R233, R245, R284). A write comes to the rule
of its entry (`cancelObject_answers` and those beside it), and each rule is said by whom it reaches. -/

namespace Sys2Proof.Machine

section
variable {s u x : State} {h : CatHdr} {w : Who} {k : Waiter} {e : Lender} {v : BitVec 32} {p i g : Nat} {a : Handle}
  {st : CatStatus}

/-! ### The entries -/

/-- An entry of a word takes the whole value (R507). -/
theorem stored_word {index : BitVec 16} {sub : BitVec 8} (bytes : (askRow (writeAsk index sub)).ty.bytes = 4)
    (mask : (askRow (writeAsk index sub)).mask = 2 ^ 128 - 1) (v : BitVec 32) :
    (askRow (writeAsk index sub)).stored v.toNat = v.toNat := stored_all bytes mask v.isLt (by decide)

theorem writeEntry_recall (n : Nat) :
    u.writeEntry h w 0x2300 6 p n = atOnce (u.recallWrite p (BitVec.ofNat 32 n)) := by
  simp [State.writeEntry, State.writeLow]

theorem writeEntry_abandon (n : Nat) :
    u.writeEntry h w 0x2500 1 p n = atOnce (u.clearAbandoned p (BitVec.ofNat 32 n)) := by
  simp [State.writeEntry, State.writeLow]

theorem writeEntry_cancelObject (n : Nat) :
    u.writeEntry h w 0x2800 1 p n = atOnce (u.cancelObject p (BitVec.ofNat 32 n)) := by
  simp [State.writeEntry, State.writeLow, State.writeWaiterEntry]

theorem writeEntry_cancelOriginator (n : Nat) :
    u.writeEntry h w 0x2800 2 p n = atOnce (u.cancelOriginator p (BitVec.ofNat 25 n)) := by
  simp [State.writeEntry, State.writeLow, State.writeWaiterEntry]

theorem writeEntry_lockMode (group : g < 256) (n : Nat) :
    u.writeEntry h w (0x4000 + g) 4 p n = doneWith (u.setLockMode g n) := by
  have above : ¬ 0x4000 + g < 0x3000 := by omega
  have below : 0x4000 + g < 0x6000 := by omega
  have ports : ¬ (0x3100 ≤ 0x4000 + g ∧ 0x4000 + g ≤ 0x317F) := by omega
  have locks : 0x4000 ≤ 0x4000 + g ∧ 0x4000 + g ≤ 0x40FF ∧ 4 = 4 := by omega
  have reslice : 0x4000 + g ≠ 0x3000 := by omega
  have parts : 0x4000 + g ≠ 0x3010 := by omega
  rw [State.writeEntry, if_neg above, if_pos below, State.writeMiddle, if_neg reslice, if_neg parts, if_neg ports,
    if_pos locks, Nat.add_sub_cancel_left]

/-- R284: a write of WaiterCancelObject is answered with what the cancellation says. -/
theorem cancelObject_answers (writes : s.writing u h 0x2800 1 v.toNat w)
    (rule : u.cancelObject h.partition.toNat v = (x, st)) (still : x.catOpen = u.catOpen) :
    exec (.waiterCancelObject h v) s = .next (s.answered h 0x2800 1 st x) := by
  refine congrArg Host.Outcome.next (entryCommand_answers writes (.waiterCancelObject h v) (askPart rfl _)
    (stored_word rfl rfl v) ?_ still)
  refine (writeEntry_cancelObject _).trans ?_
  rw [BitVec.ofNat_toNat, BitVec.setWidth_eq, rule]
  rfl

/-- R284: a write of WaiterCancelOriginator names an originator by its low bits. -/
theorem cancelOriginator_answers (writes : s.writing u h 0x2800 2 v.toNat w)
    (rule : u.cancelOriginator h.partition.toNat (v.setWidth 25) = (x, st)) (still : x.catOpen = u.catOpen) :
    exec (.waiterCancelOriginator h v) s = .next (s.answered h 0x2800 2 st x) := by
  refine congrArg Host.Outcome.next (entryCommand_answers writes (.waiterCancelOriginator h v) (askPart rfl _)
    (stored_word rfl rfl v) ?_ still)
  refine (writeEntry_cancelOriginator _).trans ?_
  rw [BitVec.ofNat_toNat, rule]
  rfl

/-- R203: a write of LoanRecallToken is answered with what the recall says. -/
theorem recallWrite_answers (writes : s.writing u h 0x2300 6 v.toNat w)
    (rule : u.recallWrite h.partition.toNat v = (x, st)) (still : x.catOpen = u.catOpen) :
    exec (.loanRecallToken h v) s = .next (s.answered h 0x2300 6 st x) := by
  refine congrArg Host.Outcome.next (entryCommand_answers writes (.loanRecallToken h v) (askPart rfl _)
    (stored_word rfl rfl v) ?_ still)
  refine (writeEntry_recall _).trans ?_
  rw [BitVec.ofNat_toNat, BitVec.setWidth_eq, rule]
  rfl

/-- R245: a write of LockClearAbandoned is answered with what the clearing says. -/
theorem clearAbandoned_answers (writes : s.writing u h 0x2500 1 v.toNat w)
    (rule : u.clearAbandoned h.partition.toNat v = (x, st)) (still : x.catOpen = u.catOpen) :
    exec (.lockClearAbandoned h v) s = .next (s.answered h 0x2500 1 st x) := by
  refine congrArg Host.Outcome.next (entryCommand_answers writes (.lockClearAbandoned h v) (askPart rfl _)
    (stored_word rfl rfl v) ?_ still)
  refine (writeEntry_abandon _).trans ?_
  rw [BitVec.ofNat_toNat, BitVec.setWidth_eq, rule]
  rfl

/-- R233: a write of LockGroupMode is answered with DONE. -/
theorem lockMode_answers {j : BitVec 16} {n : BitVec 8} (group : g < 256) (block : j = BitVec.ofNat 16 (0x4000 + g))
    (writes : s.writing u h j 4 n.toNat w) (rule : u.setLockMode g n.toNat = x) (still : x.catOpen = u.catOpen) :
    exec (.lockGroupMode h g n) s = .next (s.answered h j 4 .done x) := by
  obtain ⟨index, row⟩ := group_row group block
  have same : askRow (writeAsk j 4) = askRow (writeAsk 0x4000 4) := by
    unfold askRow
    exact congrArg (fun r => Option.getD r _) row
  have scope : (askRow (writeAsk j 4)).scope ≠ .partition := by
    rw [same]
    decide
  have value : (askRow (writeAsk j 4)).stored n.toNat = n.toNat := by
    rw [same]
    exact stored_byte rfl rfl n
  have answers := entryCommand_answers writes (.lockGroupMode h g n) (askWhole scope _) value
    (by rw [index]; exact (writeEntry_lockMode group _).trans (congrArg doneWith rule)) still
  rw [← answers, block, ← instIndex_of_lt group]
  rfl

/-! ### Cancellation (R284) -/

theorem cancelObject_unmapped (unmapped : u.translate p v = none) : u.cancelObject p v = (u, .accessError) := by
  simp only [State.cancelObject, unmapped]

/-- R284: a cancellation of an object of this hub ends the waits of its queue. -/
theorem cancelObject_here (maps : u.translate p v = some a) (own : handleHub a = u.hub) : u.cancelObject p v =
    (u.cancelAll (((u.queue (handleIndex a)).filter Waiter.cancels).map Waiter.num), .done) := by
  simp only [State.cancelObject, maps, own, if_true]

theorem cancelOriginator_refuses {o : Originator} (foreign : ¬ (origHub o = u.hub ∧
    u.portBuilt (getFld o 3 7 : BitVec 7).toNat = true ∧ u.portPart (getFld o 3 7 : BitVec 7).toNat = p)) :
    u.cancelOriginator p o = (u, .accessError) := if_neg foreign

theorem cancelOriginator_own {o : Originator} (own : origHub o = u.hub)
    (built : u.portBuilt (getFld o 3 7 : BitVec 7).toNat = true)
    (part : u.portPart (getFld o 3 7 : BitVec 7).toNat = p) : u.cancelOriginator p o = (u.cancelAll ((u.waiters.filter
      fun k => k.originator = o && k.source = srcPort && k.cancels).map Waiter.num), .done) :=
  if_pos ⟨own, built, part⟩

theorem cancels_queued (queued : k.kind = .queued) : k.cancels = true := by
  simp [Waiter.cancels, queued]

theorem cancelAll_one (found : u.waiters.find? (fun q => q.num = k.num) = some k) :
    u.cancelAll [k.num] = (u.endWait k .cancelled).serveAfter k := by
  simp only [State.cancelAll, found]

/-- R284: a queued op of a port that waits alone is answered with CANCELLED. -/
theorem cancelAll_alone (found : u.waiters.find? (fun q => q.num = k.num) = some k) (alone : u.queue k.object = [k])
    (queued : k.kind = .queued) (source : k.source = srcPort) (own : origHub k.originator = u.hub)
    (answers : k.flags.noresp = false) :
    SameBut noteFields (u.answeredCancelled k) (u.cancelAll [k.num]) ∧ (u.cancelAll [k.num]).catOpen = u.catOpen := by
  obtain ⟨ended, still⟩ := endWait_alone alone queued source own answers .cancelled
  rw [cancelAll_one found]
  exact ⟨ended.symm, still⟩

/-! ### Loans and locks (R203, R245) -/

theorem recallWrite_unmapped (unmapped : u.translate p v = none) : u.recallWrite p v = (u, .accessError) := by
  simp only [State.recallWrite, unmapped]

theorem recallWrite_refuses (maps : u.translate p v = some a) (bad : ¬ (handleHub a = u.hub ∧
    (u.obj (handleIndex a)).loanable = true ∧ (u.obj (handleIndex a)).partition.toNat = p ∧
    u.isBody (handleIndex a) = false)) : u.recallWrite p v = (u, .accessError) := by
  simp only [State.recallWrite, maps, if_neg bad]

theorem recallWrite_token (maps : u.translate p v = some a) (token : handleHub a = u.hub ∧
    (u.obj (handleIndex a)).loanable = true ∧ (u.obj (handleIndex a)).partition.toNat = p ∧
    u.isBody (handleIndex a) = false) : u.recallWrite p v = (u.recallToken (handleIndex a), .done) := by
  simp only [State.recallWrite, maps, if_pos token]

theorem recallToken_unlent (unlent : u.lenders.filter (fun e => e.token = i) = []) : u.recallToken i = u := by
  simp only [State.recallToken, unlent, State.recallAll]

/-- R469: a loan message sent is a message, but for the record of it. -/
theorem sendLoan_sends (u : State) (dst : HubId) (p : Nat) (kind : LoanKind) (b : LoanBody) {m : Nat}
    (notes : 0x2002007000000 ||| m = m) :
    (u.sendLoan dst p kind b).wipe m = (u.send { hdr := u.hdrTo dst p, body := .loan kind b }).wipe m :=
  State.recordLoan_wipe _ _ _ _ _ _ notes

/-- R193: an open loan of a token is recalled by a message. -/
theorem recallEntry_opened (token : e.token = i) (opened : e.state = .opened) : u.recallEntry e =
    (u.setLender { e with state := .recalling }).sendLoan e.borrower (u.partOfIndex i) .recall
      (u.loanBody (u.partOfIndex i) e.seq e.borrower (mkHandle u.hub i)) := by
  subst token
  exact if_pos opened

theorem recallToken_one (alone : u.lenders.filter (fun e => e.token = i) = [e]) :
    e.token = i ∧ u.recallToken i = u.recallEntry e := by
  have lent : e ∈ u.lenders.filter (fun e => e.token = i) := by simp [alone]
  refine ⟨by simpa using (List.mem_filter.mp lent).2, ?_⟩
  simp only [State.recallToken, alone, State.recallAll]

theorem clearAbandoned_unmapped (unmapped : u.translate p v = none) : u.clearAbandoned p v = (u, .accessError) := by
  simp only [State.clearAbandoned, unmapped]

theorem clearAbandoned_refuses (maps : u.translate p v = some a) (bad : ¬ (handleHub a = u.hub ∧
    (u.obj (handleIndex a)).otype = .lock ∧ (u.obj (handleIndex a)).partition.toNat = p ∧
    u.isBody (handleIndex a) = false)) : u.clearAbandoned p v = (u, .accessError) := by
  simp only [State.clearAbandoned, maps, if_neg bad]

theorem clearAbandoned_lock (maps : u.translate p v = some a) (lock : handleHub a = u.hub ∧
    (u.obj (handleIndex a)).otype = .lock ∧ (u.obj (handleIndex a)).partition.toNat = p ∧
    u.isBody (handleIndex a) = false) : u.clearAbandoned p v =
      (u.setObj (handleIndex a) { u.obj (handleIndex a) with abandoned := false }, .done) := by
  simp only [State.clearAbandoned, maps, if_pos lock]

/-! ### The mode of a group (R233) -/

/-- R236: a lock without an inherited priority has no inheritance to end. -/
theorem endInherit_none (plain : (u.obj i).inhPrio = 0) (cause : Nat) : u.endInherit i cause = u := by
  simp only [State.endInherit, plain, if_true]

/-- R233: a lock's waiters are put into the order of the mode; without priorities an inheritance would end too. -/
theorem lockMode_reorders (keeps : u.prioMode (u.obj i) = true ∨ (u.obj i).inhPrio = 0) :
    u.lockMode i = u.reorder i := by
  unfold State.lockMode
  split
  · rfl
  · next plain => exact endInherit_none (u := u.reorder i) (keeps.resolve_left plain) 1

/-- The locks of a group. -/
def State.groupLocks (u : State) (g : Nat) : List Nat :=
  (u.objs.filter fun y => y.2.otype = .lock && y.2.group.toNat = g).map Prod.fst

theorem setLockMode_same {n : Nat} (same : u.cfg (0x4000 + g) 4 = n) :
    u.setLockMode g n = u.setCfg (0x4000 + g) 4 0 n := if_pos same

theorem setLockMode_changes {n : Nat} (changes : u.cfg (0x4000 + g) 4 ≠ n) : u.setLockMode g n =
    (u.setCfg (0x4000 + g) 4 0 n).each State.lockMode (u.groupLocks g) := if_neg changes

/-- A group without locks has none to reorder. -/
theorem setLockMode_quiet {n : Nat} (quiet : u.cfg (0x4000 + g) 4 = n ∨
    (∀ y ∈ u.objs, ¬ (y.2.otype = .lock ∧ y.2.group.toNat = g))) :
    u.setLockMode g n = u.setCfg (0x4000 + g) 4 0 n := by
  by_cases same : u.cfg (0x4000 + g) 4 = n
  · exact setLockMode_same same
  · have empty : u.groupLocks g = [] := by
      refine List.map_eq_nil_iff.mpr (List.filter_eq_nil_iff.mpr fun y there lock => ?_)
      exact quiet.resolve_left same y there (by simpa using lock)
    rw [setLockMode_changes same, empty]
    rfl

theorem cfg_setCfg_same {j sub q n : Nat} (fits : n < 2 ^ 128) : (u.setCfg j sub q n).cfg j sub q = n := by
  unfold State.cfg State.setCfg
  rw [Sparse.get_put_self]
  exact BitVec.toNat_ofNat n 128 ▸ Nat.mod_eq_of_lt fits

/-- R231: mode 1 is the priority mode. -/
theorem prioMode_one {o : ObjRec} (lock : o.otype = .lock) (group : o.group.toNat = g) :
    (u.setCfg (0x4000 + g) 4 0 1).prioMode o = true := by
  have mode : (u.setCfg (0x4000 + g) 4 0 1).groupCfg o.group 4 = 1 := by
    rw [State.groupCfg, group]
    exact cfg_setCfg_same (by decide)
  simp [State.prioMode, lock, mode]

end

/-- Settles O52: each write by the rule of its entry, and each rule by whom it reaches. -/
theorem objectWrites : Obligations.ObjectWrites := by
  intro s u h w p hp
  subst hp
  refine ⟨fun v writes => ⟨fun unmapped => ?_, fun a maps own => ⟨fun unreached => ?_,
      fun k alone found queued source here answers => ?_⟩⟩,
    fun v o q writes low port => ⟨fun foreign => ?_, fun own built part => ⟨fun unreached => ?_,
      fun k reached alone found queued answers => ?_⟩⟩,
    fun v writes => ⟨fun unmapped => ?_, fun a i maps index => ⟨fun bad => ?_,
      fun own loanable part whole => ⟨fun unlent => ?_, fun e alone opened => ?_⟩⟩⟩,
    fun v writes => ⟨fun unmapped => ?_, fun a i maps index => ⟨fun bad => ?_, fun own lock part whole => ?_⟩⟩,
    fun v g j x inside block writes set => ⟨fun quiet => ?_, fun i changes alone lock group keeps => ?_⟩⟩
  -- WaiterCancelObject
  · exact cancelObject_answers writes (cancelObject_unmapped unmapped) rfl
  · have nobody : (u.queue (handleIndex a)).filter Waiter.cancels = [] :=
      List.filter_eq_nil_iff.mpr fun k there => by simp [unreached k there]
    exact cancelObject_answers writes ((cancelObject_here maps own).trans (by rw [nobody]; rfl)) rfl
  · have one : (u.queue (handleIndex a)).filter Waiter.cancels = [k] := by
      simp [alone, cancels_queued queued]
    have object : k.object = handleIndex a := by
      have there : k ∈ u.queue (handleIndex a) := by simp [alone]
      have named := (List.mem_filter.mp there).2
      simp only [Bool.and_eq_true, decide_eq_true_eq] at named
      exact named.1
    obtain ⟨ended, still⟩ := cancelAll_alone found (object ▸ alone) queued source here answers
    exact ⟨_, cancelObject_answers writes ((cancelObject_here maps own).trans (by rw [one]; rfl)) still, ended⟩
  -- WaiterCancelOriginator
  · subst low port
    exact cancelOriginator_answers writes (cancelOriginator_refuses foreign) rfl
  · subst low port
    have nobody : u.waiters.filter (fun k => k.originator = v.setWidth 25 && k.source = srcPort && k.cancels) = [] :=
      List.filter_eq_nil_iff.mpr fun k there => by simp [unreached k there]
    exact cancelOriginator_answers writes ((cancelOriginator_own own built part).trans (by rw [nobody]; rfl)) rfl
  · subst low port
    have reaches : k ∈ u.waiters.filter
        (fun k => k.originator = v.setWidth 25 && k.source = srcPort && k.cancels) := by simp [reached]
    have names : k.originator = v.setWidth 25 ∧ k.source = srcPort := by
      have named := (List.mem_filter.mp reaches).2
      simp only [Bool.and_eq_true, decide_eq_true_eq] at named
      exact named.1
    obtain ⟨originator, source⟩ := names
    obtain ⟨ended, still⟩ := cancelAll_alone found alone queued source (originator ▸ own) answers
    exact ⟨_, cancelOriginator_answers writes ((cancelOriginator_own own built part).trans (by rw [reached]; rfl))
      still, ended⟩
  -- LoanRecallToken
  · exact recallWrite_answers writes (recallWrite_unmapped unmapped) rfl
  · subst index
    exact recallWrite_answers writes (recallWrite_refuses maps bad) rfl
  · subst index
    exact recallWrite_answers writes ((recallWrite_token maps ⟨own, loanable, part, whole⟩).trans
      (by rw [recallToken_unlent unlent])) rfl
  · subst index
    obtain ⟨token, one⟩ := recallToken_one alone
    have still : (u.recallToken (handleIndex a)).catOpen = u.catOpen :=
      catOpen_of_wipe (by decide) (State.recallToken_wipe u (handleIndex a) 0x30020e7020000 (by decide))
    refine ⟨_, recallWrite_answers writes (recallWrite_token maps ⟨own, loanable, part, whole⟩) still, ?_⟩
    rw [one, recallEntry_opened token opened]
    exact (sendLoan_sends _ _ _ _ _ (by decide)).symm
  -- LockClearAbandoned
  · exact clearAbandoned_answers writes (clearAbandoned_unmapped unmapped) rfl
  · subst index
    exact clearAbandoned_answers writes (clearAbandoned_refuses maps bad) rfl
  · subst index
    exact clearAbandoned_answers writes (clearAbandoned_lock maps ⟨own, lock, part, whole⟩) rfl
  -- LockGroupMode
  · subst set
    exact lockMode_answers inside block writes (setLockMode_quiet quiet) rfl
  · subst set
    have reorders : (u.setCfg (0x4000 + g) 4 0 v.toNat).lockMode i = (u.setCfg (0x4000 + g) 4 0 v.toNat).reorder i :=
      lockMode_reorders (keeps.imp (fun one => by subst one; exact prioMode_one lock group) id)
    refine lockMode_answers inside block writes ((setLockMode_changes changes).trans ?_) rfl
    rw [show u.groupLocks g = [i] from alone, State.each, reorders]
    rfl

end Sys2Proof.Machine
end

section
/-! SUPPORT. What time does to loans (R193, R195, R200). A starved TAKE recalls what its token has lent
(`recallDelay_starved`), an idle ledger entry returns what it holds (`idleReturn_due`), and a lost route ends a lender
entry (`lenderLost_latched`) or a ledger entry (`ledgerLost_latched`). -/

namespace Sys2Proof.Machine

section
variable {s X : State} {i n p : Nat} {w : Waiter} {h : HubId}

/-! ### The commands -/

theorem exec_loanRecallDelay (live : s.live = true) (built : i < 131072) :
    exec (.loanRecallDelay i) s = .next (s.recallDelay i) := atUnit_live _ live built

theorem exec_loanIdleReturn (live : s.live = true) (built : n < 4096) :
    exec (.loanIdleReturn n) s = .next (s.idleReturn n) := atUnit_live _ live built

theorem exec_loanLinkLoss (live : s.live = true) : exec (.loanLinkLoss h) s = .next (s.loanLinkLoss h) := by
  change Host.Outcome.next (s.whenLive fun s => s.loanLinkLoss h) = _
  rw [whenLive_live _ live]

/-! ### Recall delay and idle return -/

/-- R193: a TAKE that has starved has the one open loan of its token recalled. -/
theorem recallDelay_starved {e : Lender} (oldest : (s.queue i).find? Waiter.takes = some w)
    (loanable : (s.obj i).loanable = true) (sound : (s.obj i).faulted = false)
    (late : s.cfg 0x2300 3 (s.obj i).partition.toNat ≤ elapsed w.since s.clock)
    (starved : (s.obj i).amount < Int.ofNat w.operand.toNat) (lent : (s.obj i).word1 ≠ 0) (takes : w.kind ≠ .loanReq)
    (alone : s.lenders.filter (fun e => e.token = i) = [e]) : s.recallDelay i = s.recallEntry e := by
  simp only [State.recallDelay, oldest, loanable, sound, late, starved, lent, takes, alone, State.recallAll, ne_eq,
    not_false_eq_true, Bool.not_false, Bool.and_self, decide_true, decide_false, Bool.false_and, Bool.and_true, if_true]

theorem sendReturn_eq (e : Ledger) (reason : BitVec 2) : s.sendReturn e reason =
    s.sendLoan (handleHub e.token) e.partition.toNat .ret { s.loanBody e.partition.toNat e.seq s.hub e.token with
      reason := reason, amountA := e.balance, amountB := e.spent } := rfl

/-- R195: an idle entry is freed, and returns what it holds. -/
theorem idleReturn_due {e : Ledger} (found : s.ledgers.find? (fun x => x.num = n) = some e)
    (unwaited : s.ledgerQueue n = []) (unasked : e.req = false) (limited : s.cfg 0x2300 4 e.partition.toNat ≠ 0)
    (idle : s.cfg 0x2300 4 e.partition.toNat ≤ elapsed e.idleSince s.clock) : s.idleReturn n =
      ({ s with ledgers := s.ledgers.filter fun x => x.num ≠ n } : State).sendReturn e 1 := by
  simp [State.idleReturn, found, unwaited, unasked, limited, idle]

theorem idleReturn_stays {e : Ledger} (found : s.ledgers.find? (fun x => x.num = n) = some e)
    (early : e.req = true ∨ s.cfg 0x2300 4 e.partition.toNat = 0 ∨
      elapsed e.idleSince s.clock < s.cfg 0x2300 4 e.partition.toNat) : s.idleReturn n = s := by
  rcases early with asked | never | early
  · simp [State.idleReturn, found, asked]
  · simp [State.idleReturn, found, never]
  · simp [State.idleReturn, found, early]

/-! ### A lost route -/

/-- R200, R433: in a partition whose latch is set the loss marks the lender entry LOST, and is reported. -/
theorem lenderLost_latched {e : Lender} (latched : s.latched (s.partOfIndex e.token) = true) :
    (s.lenderLost e).lenders = (s.setLender { e with state := .lost }).lenders ∧
    (∀ m, 0x2002007021000 ||| m = m → (s.lenderLost e).wipe m = s.wipe m) ∧
    (∀ p, ((s.lenderLost e).part p).reset = (s.part p).reset) := by
  obtain ⟨reported, -, resets⟩ := failOne_latched (s := s.setLender { e with state := .lost })
    (d := { cause := 0x15, index := e.token }) (p := s.partOfIndex e.token) latched
  refine ⟨lenders_of_wipe (m := 0x2002007001000) (by decide) (reported _ (by decide)), fun m hm => ?_, resets⟩
  exact (reported _ (mask_sub hm (by decide))).trans (State.setLender_wipe _ _ _ (mask_sub hm (by decide)))

/-- R200, R433: in a partition whose latch is set the loss frees a ledger entry on which nothing waits, and is
reported. -/
theorem ledgerLost_latched {e : Ledger} (unwaited : s.ledgerQueue e.num = [])
    (latched : s.latched e.partition.toNat = true) :
    (s.ledgerLost e).ledgers = s.ledgers.filter (fun x => x.num ≠ e.num) ∧
    (∀ m, 0x2002007041000 ||| m = m → (s.ledgerLost e).wipe m = s.wipe m) ∧
    (∀ p, ((s.ledgerLost e).part p).reset = (s.part p).reset) := by
  have counts (m : Nat) (hm : 0x4000000 ||| m = m) := State.pcount_wipe
    ({ s with ledgers := s.ledgers.filter fun x => x.num ≠ e.num } : State) 18 e.partition.toNat e.balance.toNat m hm
  have ended : s.ledgerLost e = (({ s with ledgers := s.ledgers.filter fun x => x.num ≠ e.num } : State).pcount 18
      e.partition.toNat e.balance.toNat).failOne { cause := 0x15, index := e.num } e.partition.toNat := by
    simp only [State.ledgerLost, unwaited, State.endWaiters]
  generalize ({ s with ledgers := s.ledgers.filter fun x => x.num ≠ e.num } : State).pcount 18
    e.partition.toNat e.balance.toNat = Y at counts ended
  have parts : Y.parts = s.parts :=
    (parts_of_wipe (m := 0x4000000) (by decide) (counts 0x4000000 (by decide)) :)
  obtain ⟨reported, -, resets⟩ := failOne_latched (s := Y) (d := { cause := 0x15, index := e.num })
    (p := e.partition.toNat) (by unfold State.latched; rw [part_of_parts parts]; exact latched)
  rw [ended]
  refine ⟨?_, fun m hm => ?_, fun p => (resets p).trans (by rw [part_of_parts parts])⟩
  · exact (ledgers_of_wipe (m := 0x2002007001000) (by decide) (reported _ (by decide))).trans
      (ledgers_of_wipe (m := 0x4000000) (by decide) (counts 0x4000000 (by decide)))
  · exact (reported _ (mask_sub hm (by decide))).trans ((counts _ (mask_sub hm (by decide))).trans
      (wipe_ledgers _ (testBit_sub hm (by decide)) _ _))

/-- R196: a reset that awaits no loan goes on as it was. -/
theorem resetRecalled_idle (idle : (s.part p).reset.step ≠ .recalling) : s.resetRecalled p = s :=
  if_neg fun recalling => idle recalling.1

theorem eachRecalled_idle (idle : ∀ p, (s.part p).reset.step ≠ .recalling) (ps : List Nat) :
    s.each State.resetRecalled ps = s := each_same ps fun p _ => resetRecalled_idle (idle p)

/-- R200: with one lender entry and no ledger entry, only that lender entry can be lost. -/
theorem loanLinkLoss_lender {e : Lender} (only : s.lenders = [e]) (owes : s.ledgers = []) (borrower : e.borrower = h)
    (stands : e.state ≠ .lost) (lost : s.lostFor h (s.cfg 0x2300 5 (s.partOfIndex e.token)) = true) :
    s.loanLinkLoss h = (s.lenderLost e).each State.resetRecalled s.allParts := by
  simp [State.loanLinkLoss, only, owes, borrower, stands, lost, State.lendersLost, State.ledgersLost]

/-- R200: with one ledger entry and no lender entry, only that ledger entry can be lost. -/
theorem loanLinkLoss_ledger {e : Ledger} (only : s.ledgers = [e]) (lends : s.lenders = [])
    (home : handleHub e.token = h) (lost : s.lostFor h (s.cfg 0x2300 5 e.partition.toNat) = true) :
    s.loanLinkLoss h = (s.ledgerLost e).each State.resetRecalled s.allParts := by
  simp [State.loanLinkLoss, only, lends, home, lost, State.lendersLost, State.ledgersLost]

end

/-- Settles O24: a starved TAKE by the recall, an idle entry by its return, and a lost route by the entry that it
ends. -/
theorem loanTimes : Obligations.LoanTimes := by
  intro s live
  refine ⟨fun i w e built oldest loanable sound late starved lent takes alone opened => ?_,
    fun n e built found unwaited => ⟨fun unasked limited idle => ?_, fun early => ?_⟩,
    fun h calm => ⟨fun e only owes borrower stands latched lost => ?_,
      fun e only lends unwaited home latched lost => ?_⟩⟩
  · have recalls := recallDelay_starved oldest loanable sound late starved lent takes alone
    rw [recallEntry_opened (recallToken_one alone).1 opened] at recalls
    exact brings_of ((exec_loanRecallDelay live built).trans (congrArg _ recalls))
      (sendLoan_sends _ _ _ _ _ (by decide))
  · have returns := idleReturn_due found unwaited unasked limited idle
    rw [sendReturn_eq] at returns
    exact brings_of ((exec_loanIdleReturn live built).trans (congrArg _ returns)) (sendLoan_sends _ _ _ _ _ (by decide))
  · exact (exec_loanIdleReturn live built).trans (congrArg _ (idleReturn_stays found early))
  · obtain ⟨marked, frame, resets⟩ := lenderLost_latched latched
    have ends := loanLinkLoss_lender only owes borrower stands lost
    rw [eachRecalled_idle fun p => by rw [resets]; exact calm p] at ends
    refine ⟨_, (exec_loanLinkLoss live).trans (congrArg _ ends), marked.trans ?_, (frame _ (by decide)).symm⟩
    simp [State.setLender, only]
  · obtain ⟨freed, frame, resets⟩ := ledgerLost_latched unwaited latched
    have ends := loanLinkLoss_ledger only lends home lost
    rw [eachRecalled_idle fun p => by rw [resets]; exact calm p] at ends
    refine ⟨_, (exec_loanLinkLoss live).trans (congrArg _ ends), freed.trans ?_, (frame _ (by decide)).symm⟩
    simp [only]

end Sys2Proof.Machine
end

section
/-! SUPPORT. The loan messages (R184, R190, R192 to R194, R196). A message that passes its gate comes to the entry that
it names (`loanReqMsg_named`, `loanReturnMsg_named`, `usableLedger_clean`); what it leaves differs from the hub before
it by the entry, by what the entry is for, and by the record of the message (`recordLoan_notes`). -/

namespace Sys2Proof.Machine

section
variable {s u X : State} {h : MsgHdr} {m : Msg} {b : LoanBody} {k : LoanKind} {i p : Nat} {w : Waiter} {e : Lender}
  {d : Ledger}

/-! ### The commands -/

theorem loanCommand (live : s.live = true) (carried : m = { hdr := h, body := .loan k b }) (far : s.notW1 m)
    (taken : u = s.taken m) : (.next (s.messageCommand { hdr := h, body := .loan k b }) :
      Host.Outcome State Fault Refusal) = .next (u.loanMessage k b) := by
  rw [← carried, messageCommand_taken live far, ← taken, carried]
  rfl

section
variable (heard : u.stageIsOut 28 = false)
include heard

theorem loanMessage_req : u.loanMessage .req b = u.loanReqMsg b := by
  simp only [State.loanMessage, heard, Bool.false_eq_true, if_false]

theorem loanMessage_ret : u.loanMessage .ret b = u.loanReturnMsg b := by
  simp only [State.loanMessage, heard, Bool.false_eq_true, if_false]

theorem loanMessage_recall : u.loanMessage .recall b = u.loanRecallMsg b := by
  simp only [State.loanMessage, heard, Bool.false_eq_true, if_false]

theorem loanMessage_open :
    u.loanMessage .grant { b with opening := true } = u.loanOpenMsg { b with opening := true } := by
  simp only [State.loanMessage, heard, Bool.false_eq_true, if_false, if_true]

theorem loanMessage_grant :
    u.loanMessage .grant { b with opening := false } = u.loanGrantMsg { b with opening := false } := by
  simp only [State.loanMessage, heard, Bool.false_eq_true, if_false]

end

/-! ### The entry that a message names -/

/-- R190, R193: a LOAN_REQ that its gate lets through acts on the entry that it names. -/
theorem loanReqMsg_named (clean : u.flips = [])
    (gate : u.messageGate b.partition.toNat b.epoch (handleIndex b.token) false = .pass)
    (named : u.lenderNamed b = some e) (sound : u.latched b.partition.toNat = false) :
    u.loanReqMsg b = if e.state = .recalling then u else u.queueRequest b e := by
  simp only [State.loanReqMsg, accessObj_clean clean, gate, named, access_clean _ _ _ clean, sound,
    Bool.false_eq_true, if_false]

/-- R196: a LOAN_RETURN that its gate lets through is taken by the entry that it names. -/
theorem loanReturnMsg_named (clean : u.flips = [])
    (gate : u.messageGate b.partition.toNat b.epoch (handleIndex b.token) true = .pass)
    (named : u.lenderNamed b = some e) (sound : u.objFaulted (handleIndex b.token) = false) :
    u.loanReturnMsg b = (u.takeReturn b e).resetRecalled b.partition.toNat := by
  simp only [State.loanReturnMsg, accessObj_clean clean, gate, named, access_clean _ _ _ clean, sound,
    Bool.false_eq_true, if_false]

theorem usableLedger_clean (clean : u.flips = []) (named : u.ledgerNamed b = some d) :
    u.usableLedger b = (u, some d) := by
  simp only [State.usableLedger, named, access_clean _ _ _ clean]

theorem loanOpenMsg_passes (gate : u.entryGate b.partition.toNat b.epoch = .pass) :
    u.loanOpenMsg b = u.openLedger b := by
  simp only [State.loanOpenMsg, gate]

theorem loanGrantMsg_named (gate : u.entryGate b.partition.toNat b.epoch = .pass) (clean : u.flips = [])
    (named : u.ledgerNamed b = some d) : u.loanGrantMsg b =
      ((u.recordLoan b.partition.toNat .grant b false).setLedger
        { d with balance := d.balance + b.amountA, req := false, idleSince := u.clock }).serveLedger d.num := by
  simp only [State.loanGrantMsg, gate, usableLedger_clean clean named]

/-! ### The record of a message -/

/-- R469: the record of a loan message is the hub's note alone. -/
theorem recordLoan_notes (u : State) (p : Nat) (k : LoanKind) (b : LoanBody) (sent : Bool) :
    (u.recordLoan p k b sent).wipe 0x2002007000000 = u.wipe 0x2002007000000 :=
  State.recordLoan_wipe _ _ _ _ _ _ (by decide)

section
variable (notes : X.wipe 0x2002007000000 = u.wipe 0x2002007000000)
include notes

theorem waitersOf_notes (p : Nat) : X.waitersOf p = u.waitersOf p ∧ X.shareSize = u.shareSize := by
  have waiters := waiters_of_wipe (m := 0x2002007000000) (by decide) notes
  have parts := partCount_of_wipe (m := 0x2002007000000) (by decide) notes
  have share : X.shareSize = u.shareSize := by rw [State.shareSize, State.shareSize, parts]
  refine ⟨?_, share⟩
  unfold State.waitersOf State.partOfIndex
  rw [waiters, share]

theorem ledgersOf_notes (p : Nat) : X.ledgersOf p = u.ledgersOf p ∧ X.loanShare = u.loanShare := by
  have ledgers := ledgers_of_wipe (m := 0x2002007000000) (by decide) notes
  have parts := partCount_of_wipe (m := 0x2002007000000) (by decide) notes
  have share : X.loanShare = u.loanShare := by rw [State.loanShare, State.loanShare, parts]
  refine ⟨?_, share⟩
  unfold State.ledgersOf
  rw [ledgers, share]

theorem loanWaiter_notes (b : LoanBody) : X.loanWaiter b = u.loanWaiter b := by
  have time := time_of_wipe (m := 0x2002007000000) (by decide) notes
  have clock := clock_of_wipe (m := 0x2002007000000) (by decide) notes
  simp only [State.loanWaiter, State.isAged, time, clock]

end

/-! ### The home -/

/-- R190: a loan request that its token cannot cover is granted nothing. -/
theorem serve_uncovered (alone : X.queue i = [w]) (token : (X.obj i).otype = .token) (loan : w.kind = .loanReq)
    (short : (X.obj i).amount < Int.ofNat w.operand.toNat) : X.serve i = X := by
  have takes : w.takes = true := by simp [Waiter.takes, loan]
  have uncovered : ¬ Int.ofNat w.operand.toNat ≤ (X.obj i).amount := Int.not_le.mpr short
  simp only [State.serve, State.serveCount, alone, State.serveList, token, takes, uncovered, if_true, if_false,
    Bool.false_eq_true]

/-- R190: a request that its token cannot cover waits in the token's queue, and its entry notes it. -/
theorem queueRequest_waits (index : i = handleIndex b.token) (lent : e.token = i) (alone : u.queue i = [])
    (token : (u.obj i).otype = .token) (short : (u.obj i).amount < Int.ofNat b.amountA.toNat)
    (room : (u.waitersOf b.partition.toNat).length < u.shareSize) :
    ∃ n, (u.queueRequest b e).waiters = insertWaiter false { u.loanWaiter b with num := n } u.waiters ∧
      (u.queueRequest b e).lenders = u.lenders.map (fun x => if x.num = e.num then { e with req := true } else x) ∧
      SameBut ([.waiters, .lenders] ++ noteFields) u (u.queueRequest b e) := by
  subst lent
  have recorded := recordLoan_notes u b.partition.toNat .req b false
  generalize rec : u.recordLoan b.partition.toNat .req b false = X at recorded
  obtain ⟨ofPart, share⟩ := waitersOf_notes recorded b.partition.toNat
  obtain ⟨n, Y, added, waits, frame⟩ := addWaiter_some (X := X) false (X.loanWaiter b)
    (by rw [ofPart, share]; exact room)
  rw [loanWaiter_notes recorded, waiters_of_wipe (m := 0x2002007000000) (by decide) recorded] at waits
  have only : (Y.setLender { e with req := true }).queue e.token = [{ u.loanWaiter b with num := n }] := by
    refine (congrArg _ waits).trans (filter_insertWaiter ?_ false _ alone)
    simp [State.loanWaiter, index]
  have same : Y.wipe 0x2002007010000 = u.wipe 0x2002007010000 :=
    (frame _ (by decide)).trans (wipe_mono (by decide) recorded)
  have objs : (Y.setLender { e with req := true }).obj e.token = u.obj e.token :=
    obj_of_objs (objs_of_wipe (m := 0x2002007010000) (by decide) same) _
  have queued : u.queueRequest b e = Y.setLender { e with req := true } := by
    simp only [State.queueRequest, rec, added]
    exact serve_uncovered only ((congrArg ObjRec.otype objs).trans token) rfl
      (lt_of_eq_of_lt (congrArg ObjRec.amount objs) short)
  rw [queued]
  refine ⟨n, waits, ?_, ?_⟩
  · exact congrArg _ (lenders_of_wipe (m := 0x2002007010000) (by decide) same)
  · exact ((State.setLender_wipe _ _ _ (by decide)).trans (wipe_mono (by decide) same)).symm

/-- R196: a return whose sum is the entry's principal gives the token back what was not spent, and frees the entry. -/
theorem takeReturn_balances (lent : e.token = i) (alone : u.queue i = [])
    (sum : b.amountA + b.amountB = e.principal) :
    (u.takeReturn b e).objs = (u.setObj i { (u.obj i).setAmount ((u.obj i).amount + Int.ofNat b.amountA.toNat) with
      word1 := (u.obj i).word1 - e.principal }).objs ∧
    (u.takeReturn b e).lenders = u.lenders.filter (fun x => x.num ≠ e.num) ∧
    SameBut ([.objs, .lenders] ++ noteFields) u (u.takeReturn b e) := by
  have recorded := recordLoan_notes u b.partition.toNat .ret b false
  subst lent
  generalize rec : u.recordLoan b.partition.toNat .ret b false = X at recorded
  have objs := objs_of_wipe (m := 0x2002007000000) (by decide) recorded
  have lenders := lenders_of_wipe (m := 0x2002007000000) (by decide) recorded
  have unwaited : X.queue e.token = [] :=
    (queue_of_waiters (waiters_of_wipe (m := 0x2002007000000) (by decide) recorded) _).trans alone
  have still (o : ObjRec) : (X.setObj e.token o).queue e.token = [] := unwaited
  have taken : u.takeReturn b e = { X.setObj e.token { (u.obj e.token).setAmount ((u.obj e.token).amount +
      Int.ofNat b.amountA.toNat) with word1 := (u.obj e.token).word1 - e.principal } with
      lenders := X.lenders.filter fun x => x.num ≠ e.num } := by
    simp only [State.takeReturn, rec, sum, if_true, obj_of_objs objs, still, List.find?_nil]
    exact serve_empty unwaited
  rw [taken]
  refine ⟨?_, congrArg _ lenders, ?_⟩
  · exact congrArg (fun o => Sparse.put objNone o e.token _) objs
  · refine Eq.symm ((wipe_lenders _ (by decide) _ _).trans ((State.setObj_wipe _ _ _ _ (by decide)).trans ?_))
    exact wipe_mono (by decide) recorded

/-! ### The borrower -/

/-- R184: a grant that opens a loan makes a ledger entry of the borrower's share. -/
theorem openLedger_opens (room : (u.ledgersOf b.partition.toNat).length < u.loanShare) :
    ∃ n, (u.openLedger b).ledgers = u.ledgers ++ [{ num := n, req := false, token := b.token, partition := b.partition
                                                    seq := b.seq, firstFit := b.firstFit, spent := 0
                                                    balance := b.amountA, idleSince := u.clock }] ∧
      SameBut ([.ledgers] ++ noteFields) u (u.openLedger b) := by
  have recorded := recordLoan_notes u b.partition.toNat .grant b false
  generalize rec : u.recordLoan b.partition.toNat .grant b false = X at recorded
  obtain ⟨ofPart, share⟩ := ledgersOf_notes recorded b.partition.toNat
  obtain ⟨n, free⟩ : ∃ n, X.freeNumber (b.partition.toNat * X.loanShare) X.loanShare
      ((X.ledgersOf b.partition.toNat).map Ledger.num) = some n := by
    simp only [State.freeNumber, List.length_map, ofPart, share, room, if_true]
    exact ⟨_, rfl⟩
  have opened : u.openLedger b = ({ X with ledgers := X.ledgers ++ [{
      num := n, req := false, token := b.token, partition := b.partition, seq := b.seq, firstFit := b.firstFit
      spent := 0, balance := b.amountA, idleSince := u.clock }] } : State).fresh := by
    simp only [State.openLedger, rec, free]
  rw [opened]
  refine ⟨n, congrArg (· ++ _) (ledgers_of_wipe (m := 0x2002007000000) (by decide) recorded), Eq.symm ?_⟩
  exact (wipe_free _ (by decide) _ _).trans ((wipe_ledgers _ (by decide) _ _).trans (wipe_mono (by decide) recorded))

/-- R185, R189: an entry on which nothing waits grants nothing and asks for nothing. -/
theorem serveLedger_unwaited {n : Nat} (unwaited : X.ledgerQueue n = []) : X.serveLedger n = X := by
  have asks : X.topUp n = X := by
    simp only [State.topUp, unwaited, List.head?_nil]
    split
    · next found => cases found
    · rfl
  simp only [State.serveLedger, unwaited, State.serveEntry, asks]

/-- R192: a grant that adds to a ledger entry on which nothing waits. -/
theorem loanGrantMsg_adds (gate : u.entryGate b.partition.toNat b.epoch = .pass) (clean : u.flips = [])
    (named : u.ledgerNamed b = some d) (unwaited : u.ledgerQueue d.num = []) :
    (u.loanGrantMsg b).ledgers = u.ledgers.map (fun x => if x.num = d.num then
      { d with balance := d.balance + b.amountA, req := false, idleSince := u.clock } else x) ∧
    SameBut ([.ledgers] ++ noteFields) u (u.loanGrantMsg b) := by
  have recorded := recordLoan_notes u b.partition.toNat .grant b false
  have adds := loanGrantMsg_named gate clean named
  generalize u.recordLoan b.partition.toNat .grant b false = X at recorded adds
  have still : (X.setLedger { d with balance := d.balance + b.amountA, req := false, idleSince := u.clock }).ledgerQueue
      d.num = [] := by
    have waiters := waiters_of_wipe (m := 0x2002007000000) (by decide) recorded
    unfold State.ledgerQueue at unwaited ⊢
    rwa [← waiters] at unwaited
  rw [adds, serveLedger_unwaited still]
  refine ⟨congrArg _ (ledgers_of_wipe (m := 0x2002007000000) (by decide) recorded), Eq.symm ?_⟩
  exact (State.setLedger_wipe _ _ _ (by decide)).trans (wipe_mono (by decide) recorded)

theorem recordLoan_silent (silent : u.cfg 0x6030 4 = 0) (sent : Bool) : u.recordLoan p k b sent = u :=
  record_silent _ silent

/-- R194: a recall of an entry on which nothing waits returns what it holds, and frees it. -/
theorem loanRecallMsg_returns (gate : u.entryGate b.partition.toNat b.epoch = .pass) (clean : u.flips = [])
    (named : u.ledgerNamed b = some d) (unwaited : u.ledgerQueue d.num = []) (silent : u.cfg 0x6030 4 = 0) :
    u.loanRecallMsg b =
      { u.sendReturn d 0 with ledgers := (u.sendReturn d 0).ledgers.filter fun x => x.num ≠ d.num } := by
  simp only [State.loanRecallMsg, gate, usableLedger_clean clean named, unwaited, recordLoan_silent silent,
    State.forwardWaiters]

/-- Two states that agree but for the hub's notes agree so without a ledger entry. -/
theorem freeLedger_notes (notes : X.wipe 0x2002007000000 = u.wipe 0x2002007000000) (n : Nat) :
    ({ X with ledgers := X.ledgers.filter fun x => x.num ≠ n } : State).wipe 0x2002007000000 =
      ({ u with ledgers := u.ledgers.filter fun x => x.num ≠ n } : State).wipe 0x2002007000000 := by
  have ledgers := ledgers_of_wipe (m := 0x2002007000000) (by decide) notes
  refine wipe_fill_ledgers ?_ (congrArg (List.filter _) ledgers)
  exact (wipe_ledgers _ (by decide) _ _).trans ((wipe_mono (by decide) notes).trans
    (wipe_ledgers _ (by decide) u _).symm)

end

/-- Settles O42: each message by the entry that it names. -/
theorem loanMessages : Obligations.LoanMessages := by
  refine ⟨fun s u h b e i p live index part heard clean named alone => ?_, fun s u h b p live part heard gate => ?_⟩
  · subst index part
    have lent := lenderNamed_token named
    refine ⟨fun m carried far taken gate sound => ?_, fun m carried far taken gate whole sum calm => ?_⟩
    -- LOAN_REQ
    · have runs : exec (.loanReq h b) s = .next (u.loanReqMsg b) :=
        (loanCommand live carried far taken).trans (congrArg _ (loanMessage_req heard))
      rw [loanReqMsg_named clean gate named sound] at runs
      refine ⟨fun recalling => by rw [runs, if_pos recalling], fun open_ token short room => ?_⟩
      rw [if_neg open_] at runs
      obtain ⟨n, waits⟩ := queueRequest_waits rfl lent alone token short room
      exact ⟨_, n, runs, waits⟩
    -- LOAN_RETURN
    · have runs : exec (.loanReturn h b) s = .next (u.loanReturnMsg b) :=
        (loanCommand live carried far taken).trans (congrArg _ (loanMessage_ret heard))
      obtain ⟨objs, lenders, frame⟩ := takeReturn_balances lent alone sum
      have parts : (u.takeReturn b e).parts = u.parts := parts_of_wipe (by decide) frame.symm
      rw [loanReturnMsg_named clean gate named whole,
        resetRecalled_idle (by rw [part_of_parts parts]; exact calm)] at runs
      exact ⟨_, runs, objs, lenders, frame⟩
  · subst part
    refine ⟨fun m carried far taken room => ?_, fun m d carried far taken clean named unwaited => ?_,
      fun m d t carried far taken clean named unwaited silent sends => ?_⟩
    -- LOAN_GRANT that opens
    · obtain ⟨n, opened⟩ := openLedger_opens (b := { b with opening := true }) room
      have runs := (loanCommand live carried far taken).trans (congrArg _ (loanMessage_open heard))
      rw [loanOpenMsg_passes (b := { b with opening := true }) gate] at runs
      exact ⟨_, n, runs, opened⟩
    -- LOAN_GRANT that adds
    · exact ⟨_, (loanCommand live carried far taken).trans (congrArg _ (loanMessage_grant heard)),
        loanGrantMsg_adds (b := { b with opening := false }) gate clean named unwaited⟩
    -- LOAN_RECALL
    · have runs : exec (.loanRecall h b) s = .next (u.loanRecallMsg b) :=
        (loanCommand live carried far taken).trans (congrArg _ (loanMessage_recall heard))
      rw [loanRecallMsg_returns gate clean named unwaited silent] at runs
      refine brings_of runs (freeLedger_notes ?_ d.num)
      rw [sends]
      exact sendLoan_sends _ _ _ _ _ (by decide)

end Sys2Proof.Machine
end

section
/-! SUPPORT. The messages that tell of a core reset or of a fault at another hub (R244, R281, R404, R437). A HOLDER_RESET
frees a lock that nobody waits for by `freeLock_alone`; a WAITER_PURGE passes over the numbers of the records that it
names (`purgeAll_single`); a FAULT_NOTICE is judged by its epoch (`epochCheck_newer`, `epochCheck_stale`), and one of the
present epoch reports the fault (`jobFault_part`). -/

namespace Sys2Proof.Machine

section
variable {s u : State} {h : MsgHdr} {m : Msg} {i p : Nat}

/-! ### HOLDER_RESET -/

theorem exec_holderReset {b : HolderResetBody} (live : s.live = true) (far : s.notW1 m) (taken : u = s.taken m)
    (carried : m = { hdr := h, body := .holderReset b }) :
    exec (.holderReset h b) s = .next (u.holderResetMsg b) := by
  subst carried taken
  exact congrArg Host.Outcome.next (messageCommand_taken live far)

/-- R244: a HOLDER_RESET that its checks let through reaches its lock. -/
theorem holderResetMsg_passes {b : HolderResetBody} (clean : u.flips = [])
    (gate : u.messageGate b.partition.toNat b.epoch (handleIndex b.lock) false = .pass) :
    u.holderResetMsg b = u.holderReset (handleIndex b.lock) b.originator b.delivered := by
  simp only [State.holderResetMsg, accessObj_clean clean, gate]

section
variable {who : Originator} {delivered : Bool} (lock : (u.obj i).otype = .lock) (sound : (u.obj i).faulted = false)
include lock sound

/-- R244: the reset of a lock's holder frees the lock. -/
theorem holderReset_holder (held : (u.obj i).held = true) (holder : (u.obj i).holder = who) :
    u.holderReset i who delivered = u.freeLock i 3 3 ((u.obj i).abandoned || delivered) := by
  simp [State.holderReset, lock, sound, held, holder]

/-- R244: the reset of an engine that neither holds the lock nor waits for it changes nothing. -/
theorem holderReset_stranger (stranger : (u.obj i).held = false ∨ (u.obj i).holder ≠ who) (alone : u.queue i = []) :
    u.holderReset i who delivered = u := by
  have other : ¬((u.obj i).held = true ∧ (u.obj i).holder = who) := by
    rintro ⟨held, holder⟩
    rcases stranger with free | another
    · exact absurd held (by rw [free]; decide)
    · exact another holder
  simp [State.holderReset, lock, sound, other, alone]

end

/-! ### WAITER_PURGE -/

theorem exec_waiterPurge {b : WaiterPurgeBody} (live : s.live = true) (far : s.notW1 m) (taken : u = s.taken m)
    (carried : m = { hdr := h, body := .waiterPurge b }) : exec (.waiterPurge h b) s = .next (u.purge b) := by
  subst carried taken
  exact congrArg Host.Outcome.next (messageCommand_taken live far)

/-- R281: a WAITER_PURGE that its checks let through removes the waiters of its port that are no ACQ. -/
theorem purge_passes {b : WaiterPurgeBody} {ws : List Waiter}
    (gate : u.entryGate b.partition.toNat b.epoch = .pass)
    (named : ws = u.waiters.filter fun w => w.source = srcPort && origHub w.originator = b.hub &&
      (getFld w.originator 3 7 : BitVec 7) = b.port && w.opcode ≠ opCode .acq) :
    u.purge b = u.purgeAll (ws.map Waiter.num) := by
  simp only [State.purge, gate, named]

/-- A queue whose one waiter's record is freed is empty. -/
theorem queue_filter_num {w : Waiter} (alone : u.queue w.object = [w]) :
    ({ u with waiters := u.waiters.filter fun x => x.num ≠ w.num } : State).queue w.object = [] := by
  have only (x : Waiter) (hx : x ∈ u.waiters) (queued : (x.object = w.object && decide (x.kind ≠ .ledger)) = true) :
      x = w := List.mem_singleton.mp (alone ▸ List.mem_filter.mpr ⟨hx, queued⟩)
  refine List.filter_eq_nil_iff.mpr fun x kept queued => ?_
  obtain ⟨hx, other⟩ := List.mem_filter.mp kept
  rw [only x hx queued] at other
  simp at other

/-- R281: a queued waiter that is alone at its object leaves without a response, and nothing is served after it. -/
theorem purgeAll_single {w : Waiter} (found : w ∈ u.waiters) (unique : ∀ x ∈ u.waiters, x.num = w.num → x = w)
    (queued : w.kind = .queued) (alone : u.queue w.object = [w]) :
    u.purgeAll [w.num] = { u with waiters := u.waiters.filter fun x => x.num ≠ w.num } := by
  have named : u.waiters.find? (fun x => x.num = w.num) = some w := by
    obtain ⟨x, hx⟩ : ∃ x, u.waiters.find? (fun x => x.num = w.num) = some x :=
      Option.isSome_iff_exists.mp (List.find?_isSome.mpr ⟨w, found, decide_eq_true rfl⟩)
    rw [hx, unique x (List.mem_of_find?_eq_some hx) (of_decide_eq_true (List.find?_some hx :))]
  have plain : w.kind ≠ .ledger := by rw [queued]; decide
  simp only [State.purgeAll, named, queued, freeWaiter_alone plain alone, State.serveAfter, reduceCtorEq, if_false]
  exact serve_empty (queue_filter_num alone)

/-! ### FAULT_NOTICE -/

theorem exec_faultNotice {b : PartCtlBody} (live : s.live = true) (far : s.notW1 m) (taken : u = s.taken m)
    (carried : m = { hdr := h, body := .partCtl .faultNotice b }) :
    exec (.faultNotice h b) s = .next (u.faultNotice h.partition.toNat b) := by
  subst carried taken
  exact congrArg Host.Outcome.next (messageCommand_taken live far)

theorem epochCheck_same (e : BitVec 8) : epochCheck e e = none := if_pos rfl

/-- R404: an epoch more than 127 behind, modulo 256, is one ahead. -/
theorem epochCheck_newer {own e : BitVec 8} (ahead : 127 < (own - e).toNat) : epochCheck own e = some false := by
  have differs : own ≠ e := by
    rintro rfl
    simp at ahead
  rw [epochCheck, if_neg differs, decide_eq_false (Nat.not_le.mpr ahead)]

theorem epochCheck_stale {own e : BitVec 8} (differs : e ≠ own) (behind : (own - e).toNat ≤ 127) :
    epochCheck own e = some true := by
  rw [epochCheck, if_neg differs.symm, decide_eq_true behind]

section
variable {b : PartCtlBody} (built : p < u.partCount)
include built

/-- R437: a FAULT_NOTICE of the present epoch reports the fault, unless the latch is set. -/
theorem faultNotice_present (epoch : b.oldEpoch = u.epoch p) :
    u.faultNotice p b = if u.latched p then u else u.jobFault { cause := 0x21, index := b.cause.toNat } [p] := by
  simp only [State.faultNotice, if_neg (Nat.not_le.mpr built), epoch, epochCheck_same]

theorem faultNotice_newer (ahead : 127 < (u.epoch p - b.oldEpoch).toNat) : u.faultNotice p b = u := by
  simp only [State.faultNotice, if_neg (Nat.not_le.mpr built), epochCheck_newer ahead]

/-- R404: a stale FAULT_NOTICE is only counted. -/
theorem faultNotice_stale (differs : b.oldEpoch ≠ u.epoch p) (behind : (u.epoch p - b.oldEpoch).toNat ≤ 127) :
    u.faultNotice p b = u.bump 0x3010 16 p := by
  simp only [State.faultNotice, if_neg (Nat.not_le.mpr built), epochCheck_stale differs behind, State.countSelvedge]

end

end

/-- Settles O43: a HOLDER_RESET by whether its originator holds the lock, a WAITER_PURGE by the waiters that it names,
and a FAULT_NOTICE by its epoch and the latch. -/
theorem resetsOfOthers : Obligations.ResetsOfOthers := by
  intro s u h m live far taken clean
  refine ⟨fun b i r carried index record gate lock sound alone => ?_, fun b ws carried gate named => ?_,
    fun b p carried part built => ?_⟩
  -- HOLDER_RESET
  · subst index record
    have runs := exec_holderReset live far taken carried
    rw [holderResetMsg_passes clean gate] at runs
    refine ⟨fun held holder plain => ?_, fun stranger => ?_⟩
    · obtain ⟨freed, frame⟩ := freeLock_alone (how := 3) (ec := 3)
        (ab := (u.obj (handleIndex b.lock)).abandoned || b.delivered) plain alone
      rw [holderReset_holder lock sound held holder] at runs
      exact ⟨_, runs, freed, (frame _ (by decide)).symm⟩
    · rwa [holderReset_stranger lock sound stranger alone] at runs
  -- WAITER_PURGE
  · have runs := exec_waiterPurge live far taken carried
    rw [purge_passes gate named] at runs
    refine ⟨fun nobody => ?_, fun w one queued single unique => ?_⟩
    · rwa [nobody] at runs
    · have found : w ∈ u.waiters := List.mem_of_mem_filter (named.symm.trans one ▸ List.mem_singleton_self w)
      rw [one] at runs
      exact runs.trans (congrArg _ (purgeAll_single found unique queued single))
  -- FAULT_NOTICE
  · subst part
    have runs := exec_faultNotice live far taken carried
    refine ⟨fun present unlatched => ?_, fun present latched => ?_, fun ahead => ?_, fun differs behind => ?_⟩
    · obtain ⟨-, latches⟩ := jobFault_part u { cause := 0x21, index := b.cause.toNat } [h.partition.toNat]
      rw [faultNotice_present built present, unlatched] at runs
      exact ⟨_, runs, latches _ (List.mem_singleton_self _), (State.jobFault_wipe _ _ _ _ (by decide)).symm⟩
    · rwa [faultNotice_present built present, latched] at runs
    · rwa [faultNotice_newer built ahead] at runs
    · rwa [faultNotice_stale built differs behind] at runs

end Sys2Proof.Machine
end

section
/-! SUPPORT. Token buckets and waits on the surroundings (R292, R307). A bucket that is looked at is refilled
(`refilled_tokens`, log entry 81), and where nothing waits nothing else comes of it; a wait that has lasted too long is
marked and counted (`surroundWait_late`). Both run on the model's own clock (log entry 4). -/

namespace Sys2Proof.Machine

section
variable {s : State} {p e g : Nat} {sig : SurroundSignal} {t : Time}

/-! ### Token buckets -/

theorem refilled_tokens (b : Bucket) :
    (s.refilled b).tokens = min (s.cfg 0x2700 1) (b.tokens + elapsed b.lastRefill s.clock / s.cfg 0x2700 2) :=
  refill_tokens _ _ _ _

theorem bucket_setBucket_self (x : Port) (e : Nat) (b : Bucket) : (x.setBucket e b).bucket e = b :=
  Sparse.get_put_self _ _ _ _

/-- The lane of an engine comes after lane 0, so that it is the bucket of the engine that is refilled. -/
theorem refillLane_port :
    (s.refillLane p (e + 1)).port p = (s.port p).setBucket e (s.refilled ((s.port p).bucket e)) :=
  State.port_setPort_self _ _ _

theorem exec_bucketRefill (live : s.live = true) {b : BucketId} (built : s.bucketBuilt b = true) :
    exec (.bucketRefill b) s = .next (s.refillBucket b) := by
  change (if s.bucketBuilt b then Host.Outcome.next (s.whenLive fun s => s.refillBucket b)
    else Host.Outcome.fault Fault.absentUnit) = _
  rw [if_pos built, whenLive_live _ live]

/-- R292: at a port where nothing waits, the refill of an engine's bucket is all. -/
theorem refillBucket_engine (quiet : (s.port p).quiet) :
    s.refillBucket (.engine p e) = s.refillLane p (e + 1) :=
  wakePort_quiet (by rw [refillLane_port]; exact quiet)

/-- R292: at a slot where nothing waits, the refill of its bucket is all. -/
theorem refillBucket_slot (quiet : (s.slot g).quiet) :
    s.refillBucket (.slot g) = s.setSlot g { s.slot g with bucket := s.refilled (s.slot g).bucket } :=
  wakeSlot_quiet _ _ _ quiet

/-! ### Waits on the surroundings -/

/-- R307: a wait that is longer than ShimSurroundWait is noted and counted; here no record of it is wanted. -/
theorem surroundWait_late (waits : (s.port p).waitsSince sig = some t) (late : s.cfg 0x2B00 4 < elapsed t s.clock)
    (silent : s.cfg 0x6030 4 = 0) (room : s.cfg 0x2B00 5 + 1 < 2 ^ 32) :
    s.surroundWait p sig =
      (s.setPort p ((s.port p).noteWait sig)).setCfg 0x2B00 5 0 (s.cfg 0x2B00 5 + 1) := by
  have counted : (s.modPort p fun x => x.noteWait sig).bump 0x2B00 5 =
      (s.setPort p ((s.port p).noteWait sig)).setCfg 0x2B00 5 0 (s.cfg 0x2B00 5 + 1) := bump_room room
  simp only [State.surroundWait, waits, if_pos late, counted]
  exact record_silent _ ((cfg_setCfg_ne (by decide)).trans silent)

/-- R307: with nothing that waits and is not noted, there is nothing to note. -/
theorem surroundWait_none (idle : (s.port p).waitsSince sig = none) : s.surroundWait p sig = s := by
  simp only [State.surroundWait, idle]

theorem exec_shimSurroundWait (live : s.live = true) (built : s.portBuilt p = true) :
    exec (.shimSurroundWait p sig) s = .next (s.surroundWait p sig) :=
  atPort_live _ live built

theorem waitsSince_drain {d : ShimOp} {ds : List ShimOp} (drains : (s.port p).drains = d :: ds)
    (fresh : (s.port p).drainNoted = false) : (s.port p).waitsSince .drain = some d.since := by
  simp [Port.waitsSince, drains, fresh]

theorem waitsSince_drain_none (idle : (s.port p).drains = [] ∨ (s.port p).drainNoted = true) :
    (s.port p).waitsSince .drain = none := by
  rcases idle with empty | noted
  · simp [Port.waitsSince, empty]
  · simp [Port.waitsSince, noted]

theorem waitsSince_invalidate (running : (s.port p).stgInval = true) (fresh : (s.port p).invalNoted = false) :
    (s.port p).waitsSince .invalidate = some (s.port p).invalSince := by
  simp [Port.waitsSince, running, fresh]

end

/-- Settles O20: a refill by the tokens that `State.refilled` leaves, and a wait by whether one that is not noted has
lasted too long. -/
theorem bucketsAndLongWaits : Obligations.BucketsAndLongWaits := by
  intro s live
  refine ⟨fun p e built inside quiet => ⟨s.refillLane p (e + 1), ?_, ?_, ?_⟩,
    fun g inside quiet => ⟨s.setSlot g { s.slot g with bucket := s.refilled (s.slot g).bucket }, ?_, ?_, ?_⟩,
    fun p built silent room => ⟨fun d ds drains fresh late => ?_, fun running fresh late => ?_, fun idle => ?_⟩⟩
  -- the bucket of an engine
  · rw [exec_bucketRefill live (by simp [State.bucketBuilt, built, inside]), refillBucket_engine quiet]
  · exact (State.refillLane_wipe _ _ _ _ (by decide)).symm
  · rw [refillLane_port, bucket_setBucket_self, refilled_tokens]
  -- the bucket of a slot
  · rw [exec_bucketRefill live (by simp [State.bucketBuilt, inside]), refillBucket_slot quiet]
  · exact (State.setSlot_wipe _ _ _ _ (by decide)).symm
  · rw [State.slot_setSlot_self, refilled_tokens]
  -- waits on the surroundings
  · rw [exec_shimSurroundWait live built, surroundWait_late (waitsSince_drain drains fresh) late silent room]
    rfl
  · rw [exec_shimSurroundWait live built, surroundWait_late (waitsSince_invalidate running fresh) late silent room]
    rfl
  · rw [exec_shimSurroundWait live built, surroundWait_none (waitsSince_drain_none idle)]

end Sys2Proof.Machine
end

section
/-! SUPPORT. Event inputs (R286 to R288). What a change of the filtered level comes to is said once (`evChange_eq`), a
deferred SIG and the end of an interval by what is then due; the op that each of them makes leaves at its EVENT the
record of a SIG, SET or CLR, and nothing else but the hub's notes (`evOp_raises`, `evOp_clears`). -/

namespace Sys2Proof.Machine

section
variable {s u : State} {i k : Nat} {l : Bool} {x : EvInput} {c : Opcode}

/-! ### The commands -/

theorem exec_evDeferredSig (inside : i < 16) (live : s.live = true) (clocked : s.refLost = false) :
    exec (.evDeferredSig i) s = .next (s.evDeferred i) := by
  change (if i < 16 then Host.Outcome.next (s.whenClocked fun s => s.evDeferred i)
    else Host.Outcome.fault Fault.absentUnit) = _
  rw [if_pos inside, whenClocked_on _ live clocked]

theorem exec_evLevelApply (inside : i < 16) (live : s.live = true) (clocked : s.refLost = false) :
    exec (.evLevelApply i) s = .next (s.evLevel i) := by
  change (if i < 16 then Host.Outcome.next (s.whenClocked fun s => s.evLevel i)
    else Host.Outcome.fault Fault.absentUnit) = _
  rw [if_pos inside, whenClocked_on _ live clocked]

/-! ### What an input does -/

theorem evFree_setEv (same : x.lastOp = (s.ev i).lastOp) : (s.setEv i x).evFree i = s.evFree i := by
  unfold State.evFree
  rw [State.ev_setEv_self, same]
  rfl

theorem evActive_setEv : (s.setEv i x).evActive i = (x.level == decide (s.evCfg i 3 ≠ 0)) := by
  unfold State.evActive
  rw [State.ev_setEv_self]
  rfl

/-- R287: a SIG of an input begins its interval, and nothing is deferred any more. -/
theorem evSig_setEv : (s.setEv i x).evSig i =
    (s.setEv i { x with lastOp := some s.clock, deferred := false }).evOp i .sig := by
  unfold State.evSig
  rw [State.ev_setEv_self, setEv_setEv]
  rfl

/-- R286 to R288: what a change of the filtered level comes to, by the mode and by what went before. -/
theorem evChange_eq (differs : l ≠ (s.ev i).level) : s.evChange i l =
    if s.evCfg i 1 = 0 then s.setEv i { s.ev i with level := l }
    else if s.evCfg i 2 = 1 then
      if s.evFree i && decide ((s.ev i).changes = 0) then (s.setEv i { s.ev i with level := l }).evApply i
      else s.setEv i { s.ev i with level := l, changes := (s.ev i).changes + 1 }
    else if !(l == decide (s.evCfg i 3 ≠ 0)) then s.setEv i { s.ev i with level := l }
    else if (s.ev i).deferred then (s.setEv i { s.ev i with level := l }).evMerge i 1
    else if s.evFree i then
      (s.setEv i { s.ev i with level := l, lastOp := some s.clock, deferred := false }).evOp i .sig
    else s.setEv i { s.ev i with level := l, deferred := true } := by
  have cfg (sub : Nat) (y : EvInput) : (s.setEv i y).evCfg i sub = s.evCfg i sub := rfl
  simp only [State.evChange, if_neg differs.symm, cfg, State.ev_setEv_self, evFree_setEv, evActive_setEv, evSig_setEv,
    setEv_setEv]

/-- R287: a deferred SIG whose interval has ended is made. -/
theorem evDeferred_due (deferred : (s.ev i).deferred = true) (bound : s.evCfg i 1 ≠ 0) (free : s.evFree i = true) :
    s.evDeferred i = (s.setEv i { s.ev i with lastOp := some s.clock, deferred := false }).evOp i .sig := by
  simp only [State.evDeferred, State.evSig, deferred, bound, free, ne_eq, not_false_eq_true, decide_true, Bool.and_self,
    if_true]

/-- R288: a single change that the level applied does not stand for is applied at the end of the interval. -/
theorem evLevel_due (single : (s.ev i).changes = 1) (bound : s.evCfg i 1 ≠ 0) (free : s.evFree i = true)
    (differs : s.evActive i ≠ (s.ev i).applied) :
    s.evLevel i = (s.setEv i { s.ev i with lastOp := some s.clock, applied := s.evActive i, changes := 0 }).evOp i
      (if s.evActive i then .set else .clr) := by
  have due : 0 < 1 ∧ s.evCfg i 1 ≠ 0 ∧ s.evFree i = true := ⟨Nat.one_pos, bound, free⟩
  simp only [State.evLevel, single, if_pos due, if_pos differs, Nat.sub_self, State.evMerge, if_true, State.evApply]

/-! ### The op of an input at its EVENT -/

/-- R106, R285: a SIG or SET of an input sets its EVENT, and no one receives a response. -/
theorem evOp_raises (hits : u.inputHits i c k) (raises : c = .sig ∨ c = .set) (alone : u.queue k = []) :
    (u.evOp i c).wipe 0x2002007000000 =
      (u.setObj k (((u.obj k).countSig.withSet true).wrote (u.orig (0x3F0 + i)) u.time)).wipe 0x2002007000000 := by
  have known : c = .sig ∨ c = .set ∨ c = .clr := raises.imp_right .inl
  have set : c ≠ .clr := by rcases raises with rfl | rfl <;> decide
  obtain ⟨h, rfl, -, performs⟩ := evOp_hits hits known
  rw [performs _ (by decide), if_neg set]
  exact signalEvent_silent rfl alone _ (by decide)

/-- R106, R288: a CLR of an input clears its EVENT, unless an input in level mode holds it. -/
theorem evOp_clears (hits : u.inputHits i .clr k) (loose : u.levelHolds k = false) :
    (u.evOp i .clr).wipe 0x2002007000000 =
      (u.setObj k (((u.obj k).withSet false).wrote (u.orig (0x3F0 + i)) u.time)).wipe 0x2002007000000 := by
  obtain ⟨h, rfl, -, performs⟩ := evOp_hits hits (.inr (.inr rfl))
  rw [performs _ (by decide), if_pos rfl]
  exact clearEvent_silent (o := u.evHome i .clr h) rfl loose _ (by decide)

end

/-- Settles O33: a change by `evChange_eq`, a deferred SIG and an interval's end by what is due, and each op by what it
leaves at its EVENT. -/
theorem eventInputs : Obligations.EventInputs := by
  intro s i k x u r inside live clocked input record alone
  subst input record
  refine ⟨fun l differs => ?_, fun deferred bound free before hits => ?_,
    fun single bound free unapplied before => ⟨fun active hits => ?_, fun inactive hits loose => ?_⟩⟩
  -- a change of the filtered level
  · have runs := evInput_on i l inside live clocked
    rw [evChange_eq differs] at runs
    refine ⟨fun off => ?_, fun on edge active settled => ⟨fun busy => ?_, fun free before hits => ?_⟩,
      fun on level later => ?_⟩
    · rwa [if_pos off] at runs
    · simpa [on, edge, ← active, settled, busy] using runs
    · subst before
      refine brings_of ?_ (evOp_raises hits (.inl rfl) alone)
      simpa [on, edge, ← active, settled, free] using runs
    · have waits : (s.evFree i && decide ((s.ev i).changes = 0)) = false := by
        rcases later with busy | noted
        · rw [busy, Bool.false_and]
        · rw [decide_eq_false noted, Bool.and_false]
      simpa only [if_neg on, if_pos level, waits, Bool.false_eq_true, if_false] using runs
  -- the deferred SIG
  · subst before
    exact brings_of ((exec_evDeferredSig inside live clocked).trans (congrArg _ (evDeferred_due deferred bound free)))
      (evOp_raises hits (.inl rfl) alone)
  -- the end of an interval in level mode
  · have runs := exec_evLevelApply inside live clocked
    rw [evLevel_due single bound free unapplied, ← before, if_pos active] at runs
    subst before
    exact brings_of runs (evOp_raises hits (.inr rfl) alone)
  · have runs := exec_evLevelApply inside live clocked
    rw [evLevel_due single bound free unapplied, ← before, inactive] at runs
    subst before
    exact brings_of runs (evOp_clears hits loose)

end Sys2Proof.Machine
end

section
/-! SUPPORT. Responses at a shim and at the aperture (R266 to R268, R275, R278, R301, R321). What a synchronised
response comes to is said once, by what keeps it (`offer_parked`, `offer_stored`, `offer_ready`); a response on the
return path reaches its pending entry or its slot, or comes too late for it (`retPort_awaited`, `retPort_late`,
`retSlot_awaited`). -/

namespace Sys2Proof.Machine

section
variable {s : State} {p lane : Nat} {r : Rsp} {e : Pend} {y : Ret}

/-! ### The beats that an issuer reads (R301) -/

theorem exec_responseRead (live : s.live = true) (built : s.portBuilt p = true) :
    exec (.responseRead p lane) s = .next (s.readBeat p lane) :=
  atPort_live _ live built

theorem readBeat_none (dark : ((s.port p).lanes.find? fun q => q.lane = lane) = none) : s.readBeat p lane = s := by
  simp only [State.readBeat, dark]

theorem readBeat_first (shows : ((s.port p).lanes.find? fun q => q.lane = lane) = some r)
    (value : r.value.isSome = true) (first : r.beat2 = false) :
    s.readBeat p lane = s.setPort p { s.port p with
      lanes := (s.port p).lanes.map fun q => if q = r then { q with beat2 := true } else q } := by
  simp [State.readBeat, shows, value, first]

/-- R301, R266: the last beat takes the response off its lane and frees its pending entry. -/
theorem readBeat_last (shows : ((s.port p).lanes.find? fun q => q.lane = lane) = some r)
    (last : r.value = none ∨ r.beat2 = true) (quiet : (s.port p).quiet) :
    s.readBeat p lane = s.setPort p { s.port p with
      lanes := (s.port p).lanes.erase r
      pend := (s.port p).pend.filter fun q => some q.entry ≠ r.entry } := by
  have spent : (r.value.isSome && !r.beat2) = false := by
    rcases last with none | second
    · rw [none]; rfl
    · rw [second, Bool.not_true, Bool.and_false]
  simp only [State.readBeat, shows, spent, Bool.false_eq_true, if_false]
  exact wakePort_quiet (by rw [State.port_setPort_self]; exact quiet)

/-! ### What a shim does with a response that it has synchronised (R268) -/

/-- R275: the parked set covers the response. -/
theorem offer_parked (parks : (s.port p).parks r = true) :
    s.offer p r = s.setPort p { s.port p with parkHeld := (s.port p).parkHeld ++ [r] } := if_pos parks

/-- R278: the hold of the partition stores the response. -/
theorem offer_stored (free : (s.port p).parks r = false) (held : s.portHeld p = true)
    (waits : codeService r.opcode = false) :
    s.offer p r = s.setPort p { s.port p with holdStore := (s.port p).holdStore ++ [r] } := by
  simp [State.offer, free, held, waits]

theorem offer_ready (free : (s.port p).parks r = false)
    (loose : s.portHeld p = false ∨ codeService r.opcode = true) :
    s.offer p r = s.setPort p ((s.port p).ready s.clock r) := by
  have passes : (s.portHeld p && !codeService r.opcode) = false := by
    rcases loose with unheld | service
    · rw [unheld, Bool.false_and]
    · rw [service, Bool.not_true, Bool.and_false]
  simp only [State.offer, free, passes, Bool.false_eq_true, if_false]

/-- R129: a response without ACQ, behind none of its lane that waits for an invalidate, is readable at once. -/
theorem ready_clear {x : Port} {t : Time} (plain : r.acq = false)
    (first : (x.inval.any fun q => q.1.lane = r.lane) = false) : x.ready t r = x.toLane r := by
  simp only [Port.ready, plain, first, Bool.or_self, Bool.false_eq_true, if_false]

theorem ready_pend (x : Port) (t : Time) : (x.ready t r).pend = x.pend := by
  unfold Port.ready Port.raisePulse
  split
  · split <;> rfl
  · rfl

theorem offer_pend : ((s.offer p r).port p).pend = (s.port p).pend := by
  simp only [State.offer]
  split
  · rw [State.port_setPort_self]
  · split
    · rw [State.port_setPort_self]
    · rw [State.port_setPort_self, ready_pend]

/-! ### The pending entry of a response -/

/-- The shim once the response to a pending entry has arrived: the entry says so, and its op is no longer under way. -/
def Port.arrived (x : Port) (e : Pend) : Port :=
  { x with
    pend := x.pend.map fun q => if q.entry = e.entry then { q with arrived := true } else q
    away := x.away.filter fun a => a.entry ≠ some e.entry }

/-- An arrival leaves the parked set as it is. -/
theorem arrived_parks : ((s.setPort p ((s.port p).arrived e)).port p).parks r = (s.port p).parks r := by
  rw [State.port_setPort_self]
  rfl

/-- R223: an op that holds no entry of the held-lock table frees none. -/
theorem pendArrive_unlocked (plain : e.lock = false) (word : BitVec 64) (v : Option (BitVec 64)) :
    s.pendArrive p e word v = (s.setPort p ((s.port p).arrived e)).offer p (s.pendRsp p e word v) := by
  unfold State.pendArrive
  rw [plain]
  rfl

theorem pendArrive_quiet (plain : e.lock = false) (word : BitVec 64) (v : Option (BitVec 64))
    (quiet : (s.port p).quiet) : ((s.pendArrive p e word v).port p).quiet := by
  rw [pendArrive_unlocked plain]
  exact offer_quiet _ (by rw [State.port_setPort_self]; exact quiet)

theorem pendArrive_pend (plain : e.lock = false) (word : BitVec 64) (v : Option (BitVec 64)) :
    ((s.pendArrive p e word v).port p).pend =
      (s.port p).pend.map fun q => if q.entry = e.entry then { q with arrived := true } else q := by
  rw [pendArrive_unlocked plain, offer_pend, State.port_setPort_self]
  rfl

/-- R275: a response that the parked set covers is held, and its lane shows nothing more. -/
theorem pendArrive_parked {word : BitVec 64} {v : Option (BitVec 64)} (plain : e.lock = false)
    (parks : (s.port p).parks (s.pendRsp p e word v) = true) :
    ((s.pendArrive p e word v).port p).parkHeld = (s.port p).parkHeld ++ [s.pendRsp p e word v] ∧
    ((s.pendArrive p e word v).port p).lanes = (s.port p).lanes := by
  rw [pendArrive_unlocked plain, offer_parked (arrived_parks.trans parks), State.port_setPort_self,
    State.port_setPort_self]
  exact ⟨rfl, rfl⟩

/-- R278: a response of a held partition is stored, and its lane shows nothing more. -/
theorem pendArrive_stored {word : BitVec 64} {v : Option (BitVec 64)} (plain : e.lock = false)
    (free : (s.port p).parks (s.pendRsp p e word v) = false) (held : s.portHeld p = true)
    (waits : codeService e.opcode = false) :
    ((s.pendArrive p e word v).port p).holdStore = (s.port p).holdStore ++ [s.pendRsp p e word v] ∧
    ((s.pendArrive p e word v).port p).lanes = (s.port p).lanes := by
  rw [pendArrive_unlocked plain, offer_stored (arrived_parks.trans free) held waits, State.port_setPort_self,
    State.port_setPort_self]
  exact ⟨rfl, rfl⟩

/-- R268: a response that nothing keeps becomes readable on the lane of its entry. -/
theorem pendArrive_readable {word : BitVec 64} {v : Option (BitVec 64)} (plain : e.lock = false)
    (free : (s.port p).parks (s.pendRsp p e word v) = false)
    (loose : s.portHeld p = false ∨ codeService e.opcode = true) (clear : (s.port p).laneClear e.lane e.op) :
    ((s.pendArrive p e word v).port p).lanes = (s.port p).lanes ++ [s.pendRsp p e word v] := by
  obtain ⟨unflagged, first⟩ := clear
  rw [pendArrive_unlocked plain, offer_ready (arrived_parks.trans free) loose, State.port_setPort_self,
    State.port_setPort_self, ready_clear unflagged first]
  rfl

/-! ### The return path -/

/-- The hub once a response has left the return path. -/
def State.offPath (s : State) (y : Ret) : State := { s with rets := s.rets.erase y }

theorem exec_completionDelivery_port (live : s.live = true) (built : s.portBuilt p = true) :
    exec (.completionDelivery (.port p)) s = .next (s.completionDelivery (.port p)) :=
  atPort_live _ live built

theorem exec_completionDelivery_aperture (live : s.live = true) :
    exec (.completionDelivery .aperture) s = .next (s.completionDelivery .aperture) :=
  congrArg Host.Outcome.next (whenLive_live _ live)

/-- R267: the return reference names a pending entry of the port's present generation that awaits its response. -/
theorem retPort_awaited
    (found : ((s.port p).pend.find? fun q => q.entry = (getFld y.retref 4 6 : BitVec 6).toNat && !q.arrived) = some e)
    (current : (s.port p).generation = getFld y.retref 0 4) : s.retPort p y = s.pendArrive p e y.word y.value := by
  simp only [State.retPort, found, if_pos current]

/-- R267, R455: a response that no entry of the present generation awaits is only counted. -/
theorem retPort_late
    (late : ((s.port p).pend.find? fun q => q.entry = (getFld y.retref 4 6 : BitVec 6).toNat && !q.arrived) = none ∨
      (s.port p).generation ≠ getFld y.retref 0 4) : s.retPort p y = s.pcount 13 (s.portPart p) 1 := by
  simp only [State.retPort]
  split
  next e found => exact if_neg (late.resolve_left (found ▸ Option.some_ne_none e))
  next => rfl

theorem pcount_inside {sub q n : Nat} (inside : q < 16) :
    s.pcount sub q n = s.setCfg 0x6000 sub q ((s.cfg 0x6000 sub q + n) % 2 ^ 64) := if_pos inside

/-- R321: the answer of a busy slot that the reference's generation names. -/
theorem retSlot_awaited (busy : (s.slot y.sel.toNat).busy = true)
    (current : (s.slot y.sel.toNat).generation = getFld y.retref 0 4) :
    s.retSlot y = s.setSlot y.sel.toNat ((s.slot y.sel.toNat).answer y.word y.value) := if_pos ⟨busy, current⟩

/-- R268: the oldest response for a port goes to its shim; what comes of it wakes nothing there where nothing waits. -/
theorem completionDelivery_port (oldest : (s.rets.find? fun q => q.target = .port p) = some y)
    (quiet : (((s.offPath y).retPort p y).port p).quiet) :
    s.completionDelivery (.port p) = (s.offPath y).retPort p y := by
  simp only [State.completionDelivery, State.deliverNext, oldest]
  exact wakePort_quiet quiet

theorem completionDelivery_aperture (oldest : (s.rets.find? fun q => q.target = .aperture) = some y) :
    s.completionDelivery .aperture =
      ((s.offPath y).retSlot y).wakeSlot y.sel.toNat := by
  simp only [State.completionDelivery, State.deliverNext, State.offPath, oldest]

end

/-- Settles O17: a read by the beat that shows; a response at a shim by what its return reference names, and then by
what keeps it there; a response at the aperture by its slot. -/
theorem responses : Obligations.Responses := by
  refine ⟨fun s p lane live built => ⟨fun dark => ?_,
      fun r shows => ⟨fun ⟨value, first⟩ => ?_, fun last quiet => ?_⟩⟩,
    fun s live => ⟨fun p r built oldest quiet => ⟨fun e found current plain => ?_, fun late inside => ?_⟩,
      fun r oldest quiet busy current => ?_⟩⟩
  -- a read of a lane
  · rw [exec_responseRead live built, readBeat_none dark]
  · rw [exec_responseRead live built, readBeat_first shows value first]
  · rw [exec_responseRead live built, readBeat_last shows last quiet]
  -- a response that its pending entry awaits
  · have arrives := retPort_awaited (s := s.offPath r) found current
    have delivers := completionDelivery_port oldest (by rw [arrives]; exact pendArrive_quiet plain _ _ quiet)
    have frame := State.pendArrive_wipe (s.offPath r) p e r.word r.value 0x100000 rfl
    refine ⟨(s.offPath r).pendArrive p e r.word r.value, ?_, rets_of_wipe (by decide) frame,
      ((wipe_mono (by decide) frame).trans (wipe_rets _ (by decide) _ _)).symm,
      pendArrive_pend (s := s.offPath r) plain _ _, pendArrive_parked (s := s.offPath r) plain,
      pendArrive_stored (s := s.offPath r) plain, pendArrive_readable (s := s.offPath r) plain⟩
    rw [exec_completionDelivery_port live built, delivers, arrives]
  -- a response that comes too late
  · have counts := (retPort_late (s := s.offPath r) late).trans (pcount_inside inside)
    rw [exec_completionDelivery_port live built, completionDelivery_port oldest (by rw [counts]; exact quiet), counts]
    rfl
  -- a response at the aperture
  · have answers := retSlot_awaited (s := s.offPath r) busy current
    rw [exec_completionDelivery_aperture live, completionDelivery_aperture oldest, answers]
    exact congrArg _ (wakeSlot_quiet _ _ ((s.slot r.sel.toNat).answer r.word r.value) quiet)

end Sys2Proof.Machine
end

section
/-! SUPPORT. The acknowledgement of a staging invalidate (R305, R306) and the ticket queue of a shim (R211, R218, R302).
The responses that an acknowledged pulse covers are delivered as those that the shim has just synchronised; a removed
ticket leaves room, which a buffered ticket of that queue takes (`drainTickets_one`). -/

namespace Sys2Proof.Machine

section
variable {s : State} {p : Nat} {r : Rsp} {k : QTicket} {ks : List QTicket} {b : Ticket} {w : Bool}

/-! ### Invalidates -/

theorem exec_stgInvalAck (live : s.live = true) (built : s.portBuilt p = true) :
    exec (.stgInvalAck p) s = .next (s.ackInval p) :=
  atPort_live _ live built

/-- R306: an acknowledgement with no pulse outstanding is only counted. -/
theorem ackInval_unasked (idle : (s.port p).stgInval = false) : s.ackInval p = s.bump 0x2B00 6 := by
  simp only [State.ackInval, idle, Bool.false_eq_true, if_false]

/-- With no response that waits for an invalidate, no pulse is raised. -/
theorem raisePulse_none {x : Port} (t : Time) (none : x.inval = []) : x.raisePulse t = x := by
  simp [Port.raisePulse, none]

theorem parks_unparked {x : Port} (none : x.parked = []) : x.parks r = false := by
  simp [Port.parks, none]

theorem deliverCovered_readable (free : (s.port p).parks r = false) (unheld : s.portHeld p = false) :
    s.deliverCovered p [r] = s.setPort p ((s.port p).toLane r) := by
  simp only [State.deliverCovered, free, unheld, Bool.false_and, Bool.false_eq_true, if_false]

/-- R305: an acknowledged pulse delivers what it covers; what still waits for an invalidate raises the next one. -/
theorem ackInval_splits {rs : List Rsp} {left : List (Rsp × Bool)} (pulse : (s.port p).stgInval = true)
    (split : invalSplit [] (s.port p).inval = (rs, left)) : s.ackInval p =
      (((s.setPort p { s.port p with inval := left }).deliverCovered p rs).modPort p
        fun y => y.raisePulse s.clock).wakePort p := by
  simp only [State.ackInval, pulse, if_true, split]

/-- R305: the one response that the pulse covers, which PARK and HOLD leave alone, goes to its lane. -/
theorem ackInval_covered (covered : (s.port p).inval = [(r, true)]) (unparked : (s.port p).parked = [])
    (unheld : s.portHeld p = false) (quiet : (s.port p).quiet) :
    s.ackInval p = s.setPort p (({ s.port p with inval := [] } : Port).toLane r) := by
  have acks := ackInval_splits (s := s) (p := p) (rs := [r]) (left := []) (by simp [Port.stgInval, covered])
    (by rw [covered]; rfl)
  generalize cleared : ({ s.port p with inval := [] } : Port) = x at acks ⊢
  obtain ⟨empty, free, calm⟩ : x.inval = [] ∧ x.parked = [] ∧ x.quiet := cleared ▸ ⟨rfl, unparked, quiet⟩
  have delivers := deliverCovered_readable (s := s.setPort p x) (p := p) (r := r)
    (by rw [State.port_setPort_self]; exact parks_unparked free) unheld
  rw [acks, delivers, State.modPort, State.port_setPort_self, State.port_setPort_self, setPort_setPort, setPort_setPort,
    raisePulse_none (x := x.toLane r) _ empty]
  exact wakePort_quiet (by rw [State.port_setPort_self]; exact calm)

/-! ### Tickets -/

theorem exec_ticketRemove (live : s.live = true) (built : s.portBuilt p = true) :
    exec (.ticketRemove p) s = .next (s.removeTicket p) :=
  atPort_live _ live built

theorem removeTicket_head (queue : (s.port p).tickets = k :: ks) : s.removeTicket p =
    ((s.setPort p { s.port p with tickets := ks }).act (s.portPart p)).drainTickets := by
  simp only [State.removeTicket, queue]

/-- R495: Stocktake counts what it calls an act of a partition. -/
theorem act_inside {q : Nat} (inside : q < 16) :
    s.act q = s.setCfg 0x6070 12 q ((s.cfg 0x6070 12 q + 1) % 2 ^ 64) := if_pos inside

/-- R218: the one buffered ticket enters the queue of a shim that has room for it. -/
theorem drainTickets_one (buffer : s.buffered = [b]) (target : b.target = .shim p w)
    (room : (s.port p).tickets.length < 16) :
    s.drainTickets = ({ s with buffered := [] } : State).enterQueue p w b := by
  have enters : s.roomFor b = .enters := by simp only [State.roomFor, target, if_pos room]
  simp [State.drainTickets, buffer, State.drainBuffer, enters, State.enterTicket, target]

theorem enterQueue_tickets :
    ((s.enterQueue p w b).port p).tickets = (s.port p).tickets ++ [{ data := b.data, wake := w }] := by
  unfold State.enterQueue
  rw [port_of_ports (ports_of_wipe (m := 0x4000000) (by decide) (State.act_wipe _ _ _ (by decide))), State.modPort,
    State.port_setPort_self]

end

/-- Settles O19: an acknowledged invalidate by what its pulse covers, a removed ticket by what the buffer holds. -/
theorem invalidatesAndTickets : Obligations.InvalidatesAndTickets := by
  intro s p live built
  refine ⟨fun r covered unparked unheld quiet => ?_, fun idle room => ?_,
    fun k ks queue inside => ⟨fun empty => ?_, fun b w buffer target room => ?_⟩⟩
  -- invalidates
  · refine ⟨_, (exec_stgInvalAck live built).trans (congrArg _ (ackInval_covered covered unparked unheld quiet)),
      ?_, ?_, (State.setPort_wipe _ _ _ _ (by decide)).symm⟩
    · rw [State.port_setPort_self]
      rfl
    · rw [State.port_setPort_self]
      rfl
  · rw [exec_stgInvalAck live built, ackInval_unasked idle, bump_room room]
  -- the head ticket
  · rw [exec_ticketRemove live built, removeTicket_head queue, drainTickets_none, act_inside inside]
    · rfl
    · rw [act_inside inside]
      exact empty
  · generalize left : (s.setPort p { s.port p with tickets := ks }).act (s.portPart p) = u
    have frame : ∀ m, 0x4100000 ||| m = m → u.wipe m = s.wipe m := fun m within => by
      rw [← left, State.act_wipe _ _ _ (mask_sub within (by decide)),
        State.setPort_wipe _ _ _ _ (mask_sub within (by decide))]
    have rest : (u.port p).tickets = ks := by
      rw [← left, act_inside inside]
      exact congrArg Port.tickets (State.port_setPort_self s p { s.port p with tickets := ks })
    have still : u.buffered = [b] := (buffered_of_wipe (by decide) (frame 0x4100000 rfl)).trans buffer
    have enters := drainTickets_one still target (rest ▸ room)
    refine ⟨({ u with buffered := [] } : State).enterQueue p w b, ?_, ?_, ?_, ?_⟩
    · rw [exec_ticketRemove live built, removeTicket_head queue, left, enters]
    · exact buffered_of_wipe (m := 0x4100000) (by decide) (State.enterQueue_wipe _ _ _ _ _ (by decide))
    · rw [enterQueue_tickets]
      exact congrArg (· ++ _) rest
    · exact ((State.enterQueue_wipe _ _ _ _ _ (by decide)).trans
        ((wipe_buffered _ (by decide) _ _).trans (frame _ (by decide)))).symm

end Sys2Proof.Machine
end

section
/-! SUPPORT. Waits that end late: the holdoff of a ring's interrupt (R333), the time at which an armed Folio triggers
(R471, R472), and the reassembly of an MCTP message (R522, log entry 31). -/

namespace Sys2Proof.Machine

section
variable {s : State} {r : Nat} {t : Time}

/-! ### The holdoff of an interrupt -/

theorem exec_notifyIrqHoldoff (live : s.live = true) (inside : r < 17) :
    exec (.notifyIrqHoldoff r) s = .next (s.holdoffEnd r) :=
  atUnit_live _ live inside

theorem setRing_setRing (x y : NotifyRing) : (s.setRing r x).setRing r y = s.setRing r y := by
  unfold State.setRing
  rw [Sparse.put_put]

/-- R333: an interrupt whose last pulse is a holdoff ago pulses again. -/
theorem irq_again (on : s.ringCfg r 6 ≠ 0) (clocked : s.refLost = false) (last : (s.ring r).lastPulse = some t)
    (ended : s.ringCfg r 7 ≤ elapsed t s.clock) :
    s.irq r = (s.setRing r { s.ring r with lastPulse := some s.clock }).drive (.irq r) := by
  simp only [State.irq, if_neg on, clocked, Bool.false_eq_true, if_false, last, if_neg (Nat.not_lt.mpr ended)]

theorem holdoffEnd_owed (owed : (s.ring r).owed = true) (last : (s.ring r).lastPulse = some t)
    (ended : s.ringCfg r 7 ≤ elapsed t s.clock) (clocked : s.refLost = false) :
    s.holdoffEnd r = (s.setRing r { s.ring r with owed := false }).irq r := by
  simp [State.holdoffEnd, owed, last, ended, clocked]

/-- R333: at the end of its holdoff a ring pulses the interrupt that it owes. -/
theorem holdoffEnd_pulses (owed : (s.ring r).owed = true) (last : (s.ring r).lastPulse = some t)
    (ended : s.ringCfg r 7 ≤ elapsed t s.clock) (clocked : s.refLost = false) (on : s.ringCfg r 6 ≠ 0) :
    s.holdoffEnd r =
      (s.setRing r { s.ring r with owed := false, lastPulse := some s.clock }).drive (.irq r) := by
  have kept : ((s.setRing r { s.ring r with owed := false }).ring r).lastPulse = some t := by
    rw [State.ring_setRing_self]
    exact last
  have pulses := irq_again (s := s.setRing r { s.ring r with owed := false }) on clocked kept ended
  rw [State.ring_setRing_self, setRing_setRing] at pulses
  exact (holdoffEnd_owed owed last ended clocked).trans pulses

/-! ### The trigger time of the Folio -/

theorem exec_folioTrigTime (live : s.live = true) : exec .folioTrigTime s = .next s.folioTime :=
  congrArg Host.Outcome.next (whenLive_live _ live)

theorem folioTime_reached (set : s.cfg 0x6030 8 ≠ 0) (reached : s.cfg 0x6030 8 ≤ s.time.toNat) :
    s.folioTime = s.markScope 2 (BitVec.ofNat 64 (s.cfg 0x6030 8)) := if_pos ⟨set, reached⟩

/-- R472: the MARKER of a capture whose scope is one partition triggers it. -/
theorem markScope_armed {cause : Nat} {data : BitVec 64} (armed : s.folio.state = .armed)
    (scope : s.cfg 0x6030 1 ≠ 0xFF) : s.markScope cause data =
      s.folioTrigger { s.folioOf 0x15 (s.cfg 0x6030 1) with aux := cause, data := data } := by
  simp only [State.markScope, State.folioMark, armed, if_true, scope, decide_false, Bool.false_eq_true, if_false]

/-- R471: a record that does not fill the post region is stored there, and the capture goes on. -/
theorem folioPost_room (x : FolioRec) (room : s.folio.post.length + 1 < s.folioPostCap) :
    s.folioPost x = { s with folio := { s.folio with
      post := s.folio.post ++ [x], lostFlag := false, generation := s.folio.generation + 1 } } := by
  refine if_neg (Nat.not_le.mpr ?_)
  rw [List.length_append]
  exact room

theorem folioTrigger_room (x : FolioRec) (room : s.folio.post.length + 1 < s.folioPostCap) :
    s.folioTrigger x = { s with folio := { s.folio with
      state := .triggered
      trigTimeSeen := x.time
      post := s.folio.post ++ [{ x with trig := true }]
      lostFlag := false
      generation := s.folio.generation + 1 } } := folioPost_room _ room

/-! ### The reassembly of an MCTP message -/

/-- R522: the packets dropped are at least one; how many is a free value (log entry 31). -/
theorem dropIncomplete_live (live : s.live = true) :
    s.dropIncomplete = s.fresh.bumpN 0x2C01 5 0 (1 + Config.incompletePackets s.free) := if_pos live

end

/-- Settles O34: the interrupt by its holdoff, the Folio by the room that its MARKER finds, the packets by their
count. -/
theorem lateEnds : Obligations.LateEnds := by
  intro s live
  refine ⟨fun r t inside owed last ended clocked on => ?_, fun armed set reached scope room => ?_,
    fun e g n count => ?_⟩
  · rw [exec_notifyIrqHoldoff live inside, holdoffEnd_pulses owed last ended clocked on]
  · rw [exec_folioTrigTime live, folioTime_reached set reached, markScope_armed armed scope, folioTrigger_room _ room]
    rfl
  · refine ⟨s.dropIncomplete, rfl, fun room => ?_, (State.dropIncomplete_wipe _ _ (by decide)).symm⟩
    rw [dropIncomplete_live live, ← count]
    exact bumpN_cfg n s.fresh room

end Sys2Proof.Machine
end

section
/-! SUPPORT. The quiesce handshake (R334, R410, R412, R418). A rising acknowledgement answers no request, the request of
a reset or that of a reslice (`ackRise_unasked`, `ackRise_reset`, `ackRise_slice`); a falling one lets the next request
of its partition rise (`nextQuiesce_waiting`). What a reset then sweeps is said by `resetStep6_alone`, the requests that
a drained reslice raises by `sliceRaise_all`. -/

namespace Sys2Proof.Machine

section
variable {s : State} {p : Nat}

/-! ### The commands -/

theorem exec_ackRise (inside : p < 16) (live : s.live = true) :
    exec (.partQuiesceAckRise p) s = .next (s.ackRise p) :=
  (if_pos inside).trans (congrArg _ (if_pos live))

theorem exec_ackFall (inside : p < 16) (live : s.live = true) :
    exec (.partQuiesceAckFall p) s = .next (s.ackFall p) :=
  (if_pos inside).trans (congrArg _ (if_pos live))

/-- Before the hub is operational only the level of the pin stands (log entry 51). -/
theorem exec_ackRise_early (inside : p < 16) (early : s.live = false) :
    exec (.partQuiesceAckRise p) s = .next (s.setPart p { s.part p with quiesceAck := true }) :=
  (if_pos inside).trans (congrArg _ (if_neg (Bool.eq_false_iff.mp early)))

theorem exec_ackFall_early (inside : p < 16) (early : s.live = false) :
    exec (.partQuiesceAckFall p) s = .next (s.setPart p { s.part p with quiesceAck := false }) :=
  (if_pos inside).trans (congrArg _ (if_neg (Bool.eq_false_iff.mp early)))

theorem exec_resliceDrained (live : s.live = true) : exec .resliceDrained s = .next s.resliceDrained :=
  congrArg Host.Outcome.next (whenLive_live _ live)

/-! ### The acknowledgement rises -/

theorem ackRise_unasked (low : (s.part p).quiesceAck = false) (unasked : (s.part p).quiesceReq = false) :
    s.ackRise p = (s.setPart p { s.part p with quiesceAck := true }).bump 0x2B00 6 := by
  simp only [State.ackRise, low, unasked, Bool.false_eq_true, if_false, Bool.not_false, if_true, State.modPart]

/-- The hub once a request has been acknowledged, and falls (R334). -/
def State.acknowledged (s : State) (p : Nat) : State :=
  s.setPart p { s.part p with quiesceAck := true, quiesceReq := false }

theorem acknowledged_part : (s.acknowledged p).part p = { s.part p with quiesceAck := true, quiesceReq := false } :=
  State.part_setPart_self _ _ _

theorem lowerQuiesce_acked :
    (s.setPart p { s.part p with quiesceAck := true }).lowerQuiesce p = s.acknowledged p := by
  unfold State.lowerQuiesce State.modPart
  rw [State.part_setPart_self, setPart_setPart]
  rfl

/-- R334: what an acknowledgement that answers a request leads to. -/
theorem ackRise_asked (low : (s.part p).quiesceAck = false) (asked : (s.part p).quiesceReq = true) :
    s.ackRise p =
      if (s.part p).quiesceSlice then ((s.acknowledged p).sliceQuiesced p false).tryReslice
      else if (s.part p).reset.step = .quiescing then (s.acknowledged p).resetQuiesced p false
      else s.acknowledged p := by
  have rises : ¬ (s.part p).quiesceAck = true := by simp [low]
  have answers : ¬ (!(s.part p).quiesceReq) = true := by simp [asked]
  simp only [State.ackRise, State.modPart, lowerQuiesce_acked, if_neg rises, if_neg answers]

theorem ackRise_reset (low : (s.part p).quiesceAck = false) (asked : (s.part p).quiesceReq = true)
    (own : (s.part p).quiesceSlice = false) (waits : (s.part p).reset.step = .quiescing) :
    s.ackRise p = (s.acknowledged p).resetQuiesced p false := by
  rw [ackRise_asked low asked, own, if_neg Bool.false_ne_true, if_pos waits]

theorem ackRise_slice (low : (s.part p).quiesceAck = false) (asked : (s.part p).quiesceReq = true)
    (slice : (s.part p).quiesceSlice = true) :
    s.ackRise p = ((s.acknowledged p).sliceQuiesced p false).tryReslice := by
  rw [ackRise_asked low asked, slice, if_pos rfl]

/-! ### The reslice that waits -/

theorem tryReslice_idle (idle : s.reslice.step = .idle) : s.tryReslice = s :=
  if_neg fun ⟨quiescing, _⟩ => by simp [idle] at quiescing

theorem tryReslice_waits (others : s.reslice.waiting ≠ []) : s.tryReslice = s :=
  if_neg fun ⟨_, done, _⟩ => others done

/-- R418: a partition that has quiesced is taken off those that the reslice waits for. -/
theorem sliceQuiesced_awaited (quiescing : s.reslice.step = .quiescing)
    (awaited : s.reslice.waiting.contains p = true) : s.sliceQuiesced p false =
      { s with reslice := { s.reslice with waiting := s.reslice.waiting.filter fun q => q ≠ p } } := by
  simp only [State.sliceQuiesced, quiescing, awaited, and_self, if_true, Bool.or_false]

/-! ### The reset that goes on -/

/-- What steps 6 and 7 of a reset leave of the record of its partition, which the Sweep has left (R410). -/
def Part.afterReset (x : Part) (r : ResetSeq) : Part :=
  { x with
    epoch := r.newEpoch
    contextId := r.load.getD x.contextId
    reset := { r with step := if r.peers = [] then .idle else .awaitPeers, askers := [], load := none } }

/-- R410 step 6, where no hub awaits its end and no reslice waits for it: the Sweep, and the new epoch. -/
theorem resetStep6_alone (alone : (s.part p).reset.askers = []) (idle : s.reslice.step = .idle) :
    s.resetStep6 p = (s.sweep p).modPart p fun x => x.afterReset (s.part p).reset := by
  have still : (s.sweep p).reslice = s.reslice :=
    reslice_of_wipe (m := 0x8400497d000) (by decide) (State.sweep_wipe _ _ _ (by decide))
  simp only [State.resetStep6, alone, State.answerAskers]
  exact tryReslice_idle ((congrArg Reslice.step still).trans idle)

/-- R410: what the end of the wait for its quiesce leads to, for a reset that no hub and no reslice waits for. -/
theorem resetQuiesced_alone (override : Bool) (alone : (s.part p).reset.askers = [])
    (idle : s.reslice.step = .idle) :
    ((s.resetQuiesced p override).part p).epoch = (s.part p).reset.newEpoch ∧
    ((s.resetQuiesced p override).part p).fault = false ∧
    ((s.resetQuiesced p override).part p).quiesceReq = (s.part p).quiesceReq ∧
    ((s.resetQuiesced p override).part p).reset.step =
      (if (s.part p).reset.peers = [] then .idle else .awaitPeers) ∧
    (s.resetQuiesced p override).objs = s.objs.dropKeys (fun i => s.partOfIndex i = p) ∧
    (s.resetQuiesced p override).waiters = s.waiters.filter (fun w => s.partOfIndex w.num ≠ p) := by
  generalize sweeping : s.modReset p (fun r =>
    { r with step := .sweeping, overridden := r.overridden || override }) = u
  have record : u.part p = { s.part p with
      reset := { (s.part p).reset with
        step := .sweeping, overridden := (s.part p).reset.overridden || override } } := by
    rw [← sweeping, State.modReset, State.modPart, State.part_setPart_self]
  obtain ⟨objs, waiters, latch, request⟩ := sweep_effect u p
  rw [State.resetQuiesced, sweeping, resetStep6_alone (by rw [record]; exact alone) (by rw [← sweeping]; exact idle),
    State.modPart, State.part_setPart_self, record]
  refine ⟨rfl, latch, request.trans (by rw [record]), rfl, objs.trans ?_, waiters.trans ?_⟩
  · rw [← sweeping]
    rfl
  · rw [← sweeping]
    rfl

/-! ### The acknowledgement falls -/

theorem ackFall_high (high : (s.part p).quiesceAck = true) :
    s.ackFall p = (s.setPart p { s.part p with quiesceAck := false }).nextQuiesce p := if_pos high

/-- R412: the reset that waited for the handshake before it raises its request. -/
theorem nextQuiesce_waiting (idle : s.quiesceIdle p = true) (waits : (s.part p).reset.step = .ackLow) :
    s.nextQuiesce p = s.setPart p { s.part p with
      quiesceReq := true
      quiesceSlice := false
      quiesceSince := s.clock
      quiesceNoted := false
      reset := { (s.part p).reset with step := .quiescing } } := by
  simp only [State.nextQuiesce, idle, waits, decide_true, Bool.and_self, if_true, State.resetStep4, State.raiseQuiesce,
    State.modReset, State.modPart, State.part_setPart_self, setPart_setPart]

theorem nextQuiesce_none (other : (s.part p).reset.step ≠ .ackLow) (idle : s.reslice.step = .idle) :
    s.nextQuiesce p = s := by
  simp [State.nextQuiesce, other, State.sliceRaise, idle]

/-! ### A reslice whose partitions have drained -/

/-- The hub once a reslice waits for its affected partitions to quiesce (R418). -/
def State.awaitsQuiesce (s : State) : State :=
  { s with reslice := { s.reslice with step := .quiescing, waiting := s.reslice.affected } }

theorem resliceDrained_all (draining : s.reslice.step = .draining)
    (drained : ∀ q ∈ s.reslice.affected, s.drained q = true) :
    s.resliceDrained = s.awaitsQuiesce.each State.sliceRaise s.reslice.affected :=
  if_pos ⟨draining, List.all_eq_true.mpr drained⟩

end

/-- Settles O37: an acknowledgement that rises by the request that it answers, one that falls by the reset that waited
for it, and the end of the drain by the requests that a reslice raises. -/
theorem quiesceHandshake : Obligations.QuiesceHandshake := by
  intro s p x inside part
  subst part
  refine ⟨fun early => ⟨exec_ackRise_early inside early, exec_ackFall_early inside early⟩,
    fun live low unasked room => ?_, fun live low asked own waits idle alone => ?_,
    fun live low asked slice quiescing awaited others => ?_,
    fun live high => ⟨fun unasked waits => ?_, fun other idle => ?_⟩, fun live draining drained => ?_⟩
  -- an acknowledgement that answers no request
  · exact (exec_ackRise inside live).trans (congrArg _ ((ackRise_unasked low unasked).trans (bump_room room)))
  -- one that answers a reset
  · obtain ⟨epoch, latch, request, step, objs, waiters⟩ := resetQuiesced_alone (s := s.acknowledged p) (p := p) false
      (by rw [acknowledged_part]; exact alone) idle
    rw [acknowledged_part] at epoch request step
    exact ⟨_, (exec_ackRise inside live).trans (congrArg _ (ackRise_reset low asked own waits)), epoch, latch, request,
      step, objs, waiters⟩
  -- one that answers a reslice
  · have quiesced := sliceQuiesced_awaited (s := s.acknowledged p) quiescing awaited
    refine (exec_ackRise inside live).trans (congrArg _ ((ackRise_slice low asked slice).trans ?_))
    rw [quiesced]
    exact tryReslice_waits others
  -- an acknowledgement that falls
  · have raises := nextQuiesce_waiting (s := s.setPart p { s.part p with quiesceAck := false }) (p := p)
      (by simp [State.quiesceIdle, unasked]) (by rw [State.part_setPart_self]; exact waits)
    rw [State.part_setPart_self, setPart_setPart] at raises
    rw [exec_ackFall inside live, ackFall_high high, raises]
    rfl
  · have rests := nextQuiesce_none (s := s.setPart p { s.part p with quiesceAck := false }) (p := p)
      (by rw [State.part_setPart_self]; exact other) idle
    rw [exec_ackFall inside live, ackFall_high high, rests]
  -- the end of the drain
  · obtain ⟨waits, frame, parts⟩ := sliceRaise_all s.reslice.affected s.awaitsQuiesce rfl fun q affected =>
      List.contains_iff_mem.mpr affected
    refine ⟨_, (exec_resliceDrained live).trans (congrArg _ (resliceDrained_all draining drained)), waits, parts,
      ?_⟩
    exact ((frame _ (by decide)).trans (wipe_reslice _ (by decide) _ _)).symm

end Sys2Proof.Machine
end

section
/-! SUPPORT. What a hub sends reads back (R345 to R351, R360). The payloads of a message begin with its header
(`decodeHdr_flitPayload`), which names the kind and the number of flits that its body is read by. -/

namespace Sys2Proof.Machine

section
variable {m : Msg}

theorem length_numsFrom : ∀ n lo, (numsFrom lo n).length = n
  | 0, _ => rfl
  | n + 1, lo => congrArg (· + 1) (length_numsFrom n (lo + 1))

/-- R345: the first payload of a message holds its header, its kind and the number of its flits. -/
theorem decodeHdr_flitPayload (m : Msg) :
    decodeHdr (getFld (flitPayload m 0) 144 48) = (m.hdr, m.body.mkind, m.body.flits) := by
  obtain ⟨some, few⟩ := flits_range m.body
  rw [head_payload, decodeHdr_encode _ _ some few]

/-- R347: the first flit of a message gives the number of its flits. -/
theorem headFlits_flitPayloads (m : Msg) : headFlits (flitPayloads m) = (flitPayloads m).length := by
  have length : (flitPayloads m).length = m.body.flits := by simp [flitPayloads, length_numsFrom]
  obtain ⟨ps, begins⟩ := payloads_cons m
  rw [length, begins]
  exact congrArg (fun h => h.2.2) (decodeHdr_flitPayload m)

theorem headPart_flitPayloads (m : Msg) : headPart (flitPayloads m) = m.hdr.partition.toNat := by
  obtain ⟨ps, begins⟩ := payloads_cons m
  rw [begins]
  exact congrArg (fun h => h.1.partition.toNat) (decodeHdr_flitPayload m)

/-- R346 to R351: a message whose body names only what its flits carry is read back from their payloads. -/
theorem wholeMsg_flitPayloads (sent : m.body.onlySent) : wholeMsg (flitPayloads m) = some m := by
  have joined : joinPayloads (flitPayloads m) = m.body.encode := join_payloads m (high_zero m.body sent)
  obtain ⟨ps, begins⟩ := payloads_cons m
  rw [begins] at joined ⊢
  unfold wholeMsg
  simp only [decodeHdr_flitPayload, joined, decodePayload_encode, Option.map_some]

end

/-- Settles O6: messages by their header and their body, NEG payloads by their fields, flits by what their CRC covers. -/
theorem messagesReadBack : Obligations.MessagesReadBack := by
  refine ⟨fun m sent => ⟨wholeMsg_flitPayloads sent, headFlits_flitPayloads m, headPart_flitPayloads m⟩,
    decodeNeg_encode, fun f => ⟨decodeFlit_encode f, fun listed => ?_, fun reserved => ?_⟩⟩
  · rw [flitGood_encode, decide_eq_true listed]
  · rw [flitGood_encode, decide_eq_false (Nat.not_lt.mpr reserved)]

end Sys2Proof.Machine
end

section
/-! SUPPORT. What becomes of a link (R361, R366, R377 to R379). Each operation on a link is described by what it leaves
the link at and by the fields that it can change (`LinkBecomes`); where no message waits at the hub these compose. -/

namespace Sys2Proof.Machine

/-- `X` has the link `c` at `l`, and differs from `s` in the fields of the mask `k` at most. -/
def LinkBecomes (s X : State) (c : Nat) (l : Link) (k : Nat) : Prop := X.link c = l ∧ X.wipe k = s.wipe k

section
variable {s X Y : State} {c k : Nat} {l l' : Link}

theorem LinkBecomes.mono {m : Nat} (h : LinkBecomes s X c l k) (sub : k ||| m = m) : LinkBecomes s X c l m :=
  ⟨h.1, wipe_mono sub h.2⟩

theorem LinkBecomes.trans (h : LinkBecomes s X c l k) (h' : LinkBecomes X Y c l' k) : LinkBecomes s Y c l' k :=
  ⟨h'.1, h'.2.trans h.2⟩

theorem LinkBecomes.sameBut {fs : List Field} (h : LinkBecomes s X c l k) (sub : k ||| fieldMask fs = fieldMask fs) :
    SameBut fs s X := (wipe_mono sub h.2).symm

theorem LinkBecomes.waitMsgs (h : LinkBecomes s X c l k) (kept : k.testBit 31 = false) : X.waitMsgs = s.waitMsgs :=
  waitMsgs_of_wipe kept h.2

theorem LinkBecomes.changes (h : LinkBecomes s X c l k) (kept : k.testBit 32 = false) : X.changes = s.changes :=
  changes_of_wipe kept h.2

theorem LinkBecomes.out (h : LinkBecomes s X c l k) (kept : k.testBit 48 = false) : X.out = s.out :=
  out_of_wipe kept h.2

theorem LinkBecomes.clock (h : LinkBecomes s X c l k) (kept : k.testBit 50 = false) : X.clock = s.clock :=
  clock_of_wipe kept h.2

theorem setLink_becomes (l : Link) : LinkBecomes s (s.setLink c l) c l 0x20000000 :=
  ⟨State.link_setLink_self _ _ _, State.setLink_wipe _ _ _ _ (by decide)⟩

/-- R377: a change of state to another than UP changes the link's state and, without a link, its version. -/
theorem moveLink_becomes {st : LinkState} {r p a : Nat} (moves : (s.link c).state ≠ st) (notUp : st ≠ .up)
    (calm : s.waitMsgs = []) : LinkBecomes s (s.moveLink c st r p a) c
      { s.link c with state := st, version := if st = .down ∨ st = .training then 0 else (s.link c).version }
      0x2000827000400 := by
  obtain ⟨link, -, frame⟩ := moveLink_quiet (r := r) (p := p) (a := a) moves notUp calm
  exact ⟨link, frame _ (by decide)⟩

theorem moveLink_keepsVersion {st : LinkState} {r p a : Nat} (moves : (s.link c).state ≠ st) (notUp : st ≠ .up)
    (linked : ¬ (st = .down ∨ st = .training)) (calm : s.waitMsgs = []) :
    LinkBecomes s (s.moveLink c st r p a) c { s.link c with state := st } 0x2000827000400 := by
  have moved := moveLink_becomes (r := r) (p := p) (a := a) moves notUp calm
  rwa [if_neg linked] at moved

/-! ### Flits of control -/

theorem sendControl_becomes (ft : BitVec 4) (x : BitVec 192) :
    ∃ (f : Flit) (o : List Nat), (s.sendControl c ft x).out = s.out ++ [.flit c f.encode] ∧ f.ftype = ft ∧
      f.payload = x ∧ LinkBecomes s (s.sendControl c ft x) c { s.link c with ackOwed := false, owed := o } 0x1000024000000 := by
  obtain ⟨f, out, ftype, payload, o, link, -⟩ := sendControl_out s c ft x
  exact ⟨f, o, out, ftype, payload, link, State.sendControl_wipe _ _ _ _ _ (by decide)⟩

/-- R360: a NEG flit, with what it says. -/
theorem sendNeg_becomes : ∃ (f : Flit) (o : List Nat), (s.sendNeg c).out = s.out ++ [.flit c f.encode] ∧ f.ftype = 2 ∧
    f.payload = (s.negOf c).encode ∧
    LinkBecomes s (s.sendNeg c) c { s.link c with negSent := s.clock, ackOwed := false, owed := o } 0x1000024000000 := by
  obtain ⟨f, out, ftype, payload, o, link⟩ := sendNeg_out s c
  exact ⟨f, o, out, ftype, payload, link, State.sendNeg_wipe _ _ _ (by decide)⟩

/-! ### Entering HOLD, and beginning to negotiate -/

/-- R378: a link that enters HOLD keeps what it may have to send again. -/
theorem enterHold_becomes {reason : Nat} (moves : (s.link c).state ≠ .hold) (calm : s.waitMsgs = []) :
    LinkBecomes s (s.enterHold c reason) c { s.link c with
      state := .hold, keepReplay := true, since := s.clock, sawNeg := false, timeoutNoted := false } 0x2000827000400 := by
  have set := setLink_becomes (s := s) (c := c)
    { s.link c with keepReplay := true, since := s.clock, sawNeg := false, timeoutNoted := false }
  have moved := moveLink_keepsVersion (st := .hold) (r := reason) (p := 0) (a := 0)
    (by rw [set.1]; exact moves) (by decide) (by decide) ((set.waitMsgs (by decide)).trans calm)
  rw [set.1] at moved
  exact (set.mono (by decide)).trans moved

/-- R361: a link whose link layer is not out begins to negotiate with a NEG flit. -/
theorem startNeg_becomes {reason p a : Nat} (serves : s.linkOut c = false) (moves : (s.link c).state ≠ .negotiating)
    (calm : s.waitMsgs = []) : ∃ (f : Flit) (o : List Nat),
      (s.startNeg c reason p a).out = s.out ++ [.flit c f.encode] ∧ f.ftype = 2 ∧
      LinkBecomes s (s.startNeg c reason p a) c { s.link c with
        state := .negotiating, since := s.clock, sawNeg := false, timeoutNoted := false, negSent := s.clock
        ackOwed := false, owed := o } 0x3000827000400 := by
  have set := setLink_becomes (s := s) (c := c)
    { s.link c with since := s.clock, sawNeg := false, timeoutNoted := false }
  have moved := moveLink_keepsVersion (st := .negotiating) (r := reason) (p := p) (a := a)
    (by rw [set.1]; exact moves) (by decide) (by decide) ((set.waitMsgs (by decide)).trans calm)
  rw [set.1] at moved
  replace moved := (set.mono (by decide)).trans moved
  obtain ⟨f, o, out, ftype, -, sent⟩ := sendNeg_becomes (c := c) (s := (s.setLink c
    { s.link c with since := s.clock, sawNeg := false, timeoutNoted := false }).moveLink c .negotiating reason p a)
  rw [moved.1, moved.clock (by decide)] at sent
  have starts : s.startNeg c reason p a = ((s.setLink c
      { s.link c with since := s.clock, sawNeg := false, timeoutNoted := false }).moveLink c .negotiating reason p
        a).sendNeg c := by
    simp only [State.startNeg, serves, Bool.false_eq_true, if_false, State.modLink]
  rw [starts]
  exact ⟨f, o, out.trans (by rw [moved.out (by decide)]), ftype,
    (moved.mono (by decide)).trans (sent.mono (by decide))⟩

/-! ### What a link leaves behind -/

/-- R380: a link without partial messages discards none. -/
theorem dropPartials_becomes (none : (s.link c).partials = []) :
    LinkBecomes s (s.dropPartials c) c (s.link c) 0x20000000 := by
  have keeps : s.dropPartials c = s.setLink c (s.link c) := by
    unfold State.dropPartials State.modLink
    simp only [none, List.map_nil, distinct, if_true]
    rw [← none]
  rw [keeps]
  exact setLink_becomes _

/-- R379: a link that keeps no flit and has no message to send abandons none. -/
theorem abandonReplay_becomes (empty : (s.link c).replay = []) (idle : (s.link c).txq = []) :
    LinkBecomes s (s.abandonReplay c) c { s.link c with keepReplay := false, replays := 0 } 0x20000000 := by
  have keeps : s.abandonReplay c = s.setLink c { s.link c with keepReplay := false, replays := 0 } := by
    unfold State.abandonReplay Link.abandonParts
    simp only [empty, idle, List.filter_nil, List.map_nil, List.append_nil, distinct, if_true, List.length_nil,
      State.bumpN]
  rw [keeps]
  exact setLink_becomes _

/-- R366: no Catalogue write waits for the link. -/
theorem linkSettled_becomes (none : (s.link c).catWaits = []) :
    LinkBecomes s (s.linkSettled c) c (s.link c) 0x20000000 := by
  have keeps : s.linkSettled c = s.setLink c (s.link c) := by
    unfold State.linkSettled State.modLink
    simp only [none, State.catFinishAll]
    rw [← none]
  rw [keeps]
  exact setLink_becomes _

/-- R379: the routes of a link with no message to send move, each after a settle time. -/
theorem moveRoutes_becomes (idle : (s.link c).txq = []) :
    LinkBecomes s (s.moveRoutes c) c (s.link c) 0x3a0000000 := by
  obtain ⟨link, frame⟩ := moveRoutes_empty idle
  refine ⟨?_, frame _ (by decide)⟩
  rw [link, ← idle]

/-- R375, R379: where no route change is planned and no message waits, a lost link changes neither. -/
theorem changesLost_calm (idle : (s.link c).txq = []) (unplanned : s.changes = []) (calm : s.waitMsgs = []) :
    (s.changesLost c).changes = [] ∧ (s.changesLost c).waitMsgs = [] ∧ ((s.changesLost c).link c).txq = [] := by
  refine ⟨?_, ?_, ?_⟩
  · simp [State.changesLost, unplanned]
  · simp [State.changesLost, unplanned, calm, idle]
  · have link : (s.changesLost c).link c = (s.setLink c _).link c := rfl
    rw [link, State.link_setLink_self]
    simp [idle]

/-- R379: a link that leaves UP with no message to send, no planned change and none that waits, begins settle times
alone. -/
theorem moveRoutes_waits (idle : (s.link c).txq = []) (unplanned : s.changes = []) (calm : s.waitMsgs = []) :
    (s.moveRoutes c).changes = [] ∧ (s.moveRoutes c).waitMsgs = [] := by
  obtain ⟨changes, waits, empty⟩ := changesLost_calm idle unplanned calm
  unfold State.moveRoutes
  simp only [empty, State.requeue]
  exact ⟨changes, waits⟩

theorem moveRoutes_calm (idle : (s.link c).txq = []) (unplanned : s.changes = []) (calm : s.waitMsgs = []) :
    LinkBecomes s (s.moveRoutes c) c (s.link c) 0x220000000 := by
  obtain ⟨changes, waits⟩ := moveRoutes_waits idle unplanned calm
  have moves := moveRoutes_becomes idle
  exact ⟨moves.1, wipe_fill_waitMsgs (wipe_fill_changes moves.2 (changes.trans unplanned.symm)) (waits.trans calm.symm)⟩

end

end Sys2Proof.Machine
end

section
/-! SUPPORT. What time does to routes and held links (R379, R381). -/

namespace Sys2Proof.Machine

section
variable {s : State} {c : Nat} {h : HubId} {w : WaitMsg}

/-! ### The commands -/

theorem exec_linkHoldExpiry (live : s.live = true) (built : s.linkBuilt c = true) :
    exec (.linkHoldExpiry c) s = .next (s.holdExpiry c) := atLink_live _ live built

theorem exec_routeSettle (live : s.live = true) (built : s.linkBuilt c = true) :
    exec (.routeSettle c) s = .next (s.routeSettle c) := atLink_live _ live built

theorem exec_routeStrand (live : s.live = true) : exec (.routeStrand h) s = .next (s.routeStrand h) := by
  change Host.Outcome.next (s.whenLive fun s => s.routeStrand h) = _
  rw [whenLive_live _ live]

/-! ### A link in HOLD -/

/-- R379: a held link whose time has passed, and that has nothing to abandon, goes DOWN. -/
theorem holdExpiry_becomes (held : (s.link c).state = .hold)
    (late : s.linkCfg c 12 ≤ elapsed (s.link c).since s.clock) (empty : (s.link c).replay = [])
    (idle : (s.link c).txq = []) (whole : (s.link c).partials = []) (unasked : (s.link c).catWaits = [])
    (dark : (s.link c).phyUp = false) (calm : s.waitMsgs = []) (unplanned : s.changes = []) :
    LinkBecomes s (s.holdExpiry c) c { s.link c with state := .down, version := 0, keepReplay := false, replays := 0 }
      0x2000a27000400 := by
  have expires : s.holdExpiry c = ((((s.abandonReplay c).dropPartials c).moveLink c .down 6
      (partBits (s.link c).abandonParts) (s.link c).replay.length).moveRoutes c).linkSettled c := by
    simp only [State.holdExpiry, held, late, dark, and_self, if_true, Bool.false_and, Bool.false_eq_true, if_false]
  rw [expires]
  have dropped := dropPartials_becomes (s := s.abandonReplay c) (c := c)
    (by rw [(abandonReplay_becomes empty idle).1]; exact whole)
  rw [(abandonReplay_becomes empty idle).1] at dropped
  replace dropped := (abandonReplay_becomes empty idle).trans dropped
  generalize (s.abandonReplay c).dropPartials c = A at dropped
  have moved := moveLink_becomes (s := A) (c := c) (st := .down) (r := 6) (p := partBits (s.link c).abandonParts)
    (a := (s.link c).replay.length) (by rw [dropped.1, held]; decide) (by decide) ((dropped.waitMsgs (by decide)).trans calm)
  rw [dropped.1] at moved
  replace moved := (dropped.mono (by decide)).trans moved
  generalize A.moveLink c .down 6 (partBits (s.link c).abandonParts) (s.link c).replay.length = B at moved
  have routed := moveRoutes_calm (s := B) (c := c) (by rw [moved.1]; exact idle)
    ((moved.changes (by decide)).trans unplanned) ((moved.waitMsgs (by decide)).trans calm)
  rw [moved.1] at routed
  replace routed := (moved.mono (m := 0x2000a27000400) (by decide)).trans (routed.mono (by decide))
  have settled := linkSettled_becomes (s := B.moveRoutes c) (c := c) (by rw [routed.1]; exact unasked)
  rw [routed.1] at settled
  exact routed.trans (settled.mono (by decide))

/-! ### Settle times -/

/-- R379: after its settle time the one message that waited it out leaves. -/
theorem routeSettle_releases {k : RouteKey} {t : Time} (only : s.settles = [(k, t)])
    (left : entryPrimary (s.route k) = c) (late : s.cfg 0x5100 4 ≤ elapsed t s.clock) (unplanned : s.changes = [])
    (waits : s.waitMsgs = [w]) (why : w.why = .settling) (key : w.key = k) :
    s.routeSettle c = ({ s with settles := [], waitMsgs := [] } : State).send w.msg w.about w.fwd := by
  simp [State.routeSettle, State.releaseWaiting, only, left, late, unplanned, waits, why, key, State.resend,
    State.finishChanges]

/-! ### Messages without a route -/

/-- R381, R432: in a partition whose latch is set the discard of a completion is only reported. -/
theorem strandMsg_latched {b : CplBody} (cpl : w.msg.body = .cpl b)
    (latched : s.latched w.msg.hdr.partition.toNat = true) :
    (s.strandMsg w).wipe 0x2002007001000 = s.wipe 0x2002007001000 := by
  have discards : s.strandMsg w = ((s.bump 0x5100 6).recordDiscard (entryPrimary (s.route w.key)) w.msg).failOne
      { cause := 0x14 } w.msg.hdr.partition.toNat := by
    simp only [State.strandMsg, cpl]
  rw [discards]
  generalize noted : (s.bump 0x5100 6).recordDiscard (entryPrimary (s.route w.key)) w.msg = X
  have frame : X.wipe 0x2002007000000 = s.wipe 0x2002007000000 := by
    rw [← noted, State.recordDiscard_wipe _ _ _ _ (by decide), State.bump_wipe _ _ _ _ _ (by decide)]
  have still : X.latched w.msg.hdr.partition.toNat = true := by
    unfold State.latched
    rw [part_of_parts (parts_of_wipe (by decide) frame)]
    exact latched
  exact ((failOne_latched still).1 _ (by decide)).trans (wipe_mono (by decide) frame)

theorem strandPort_idle {q : Nat} (idle : (s.port q).pend = []) : s.strandPort h q = s := by
  simp [State.strandPort, idle]

theorem strandSlot_idle {g : Nat} (idle : (s.slot g).sent = none) : s.strandSlot h g = s := by
  simp [State.strandSlot, idle]

theorem strandOps_idle (ports : ∀ q, (s.port q).pend = []) (slots : ∀ g, (s.slot g).sent = none) :
    (s.each (fun s q => s.strandPort h q) s.ports.keys).each (fun s g => s.strandSlot h g) s.slots.keys = s := by
  have portsKeep : s.each (fun s q => s.strandPort h q) s.ports.keys = s :=
    each_same _ fun q _ => strandPort_idle (ports q)
  rw [portsKeep]
  exact each_same _ fun g _ => strandSlot_idle (slots g)

/-- R381: the one message that has had no route for long is discarded, and where no op awaits an answer no more
happens. -/
theorem routeStrand_discards {b : CplBody} (waits : s.waitMsgs = [w]) (dst : w.msg.hdr.dst = h)
    (why : w.why = .stranded) (plain : w.about = none) (late : s.cfg 0x5100 5 ≤ elapsed w.since s.clock)
    (cpl : w.msg.body = .cpl b) (latched : s.latched w.msg.hdr.partition.toNat = true)
    (ports : ∀ q, (s.port q).pend = []) (slots : ∀ g, (s.slot g).sent = none) :
    (s.routeStrand h).waitMsgs = [] ∧ (s.routeStrand h).wipe 0x2002087001000 = s.wipe 0x2002087001000 := by
  have discard := strandMsg_latched (s := { s with waitMsgs := [] }) cpl latched
  have frame : (({ s with waitMsgs := [] } : State).strandMsg w).wipe 0x2002087001000 = s.wipe 0x2002087001000 :=
    (wipe_mono (by decide) discard).trans (wipe_waitMsgs _ (by decide) s [])
  have strands : s.routeStrand h = ({ s with waitMsgs := [] } : State).strandMsg w := by
    unfold State.routeStrand
    simp only [waits, dst, why, plain, late, List.filter_cons, List.filter_nil, State.strandAll, decide_true,
      Option.isNone_none, Bool.true_or, Bool.and_self, Bool.not_true, Bool.false_eq_true, if_true, if_false]
    have samePorts := port_of_ports (ports_of_wipe (m := 0x2002087001000) (by decide) frame)
    have sameSlots := slots_of_wipe (m := 0x2002087001000) (by decide) frame
    rw [strandOps_idle (fun q => by rw [samePorts]; exact ports q)
      (fun g => by unfold State.slot; rw [sameSlots]; exact slots g), ite_self]
  rw [strands]
  exact ⟨waitMsgs_of_wipe (m := 0x2002007001000) (by decide) discard, frame⟩

end

/-- Settles O26: a held link by what its expiry leaves, a settle time and a lost route by the message that waits. -/
theorem routeTimes : Obligations.RouteTimes := by
  intro s live
  refine ⟨fun c built held late empty idle whole unasked dark calm unplanned => ?_,
    fun c w k t built only left late unplanned waits why key => ?_,
    fun w h b waits dst why plain cpl late latched ports slots => ?_⟩
  · have becomes := holdExpiry_becomes held late empty idle whole unasked dark calm unplanned
    exact ⟨_, exec_linkHoldExpiry live built, becomes.sameBut (by decide), becomes.1⟩
  · exact (exec_routeSettle live built).trans (congrArg _ (routeSettle_releases only left late unplanned waits why key))
  · obtain ⟨gone, frame⟩ := routeStrand_discards waits dst why plain late cpl latched ports slots
    exact ⟨_, exec_routeStrand live, gone, (wipe_mono (by decide) frame).symm⟩

end Sys2Proof.Machine
end

section
/-! SUPPORT. The timers of a link and its PHY (R356 to R358, R361, R372, R378). -/

namespace Sys2Proof.Machine

section
variable {s : State} {c : Nat} {lanes : BitVec 3}

/-! ### The commands -/

theorem exec_replayTimeout (live : s.live = true) (built : s.linkBuilt c = true) :
    exec (.replayTimeout c) s = .next (s.replayTimeout c) := atLink_live _ live built

theorem exec_retryLimit (live : s.live = true) (built : s.linkBuilt c = true) :
    exec (.retryLimit c) s = .next (s.retryLimit c) := atLink_live _ live built

theorem exec_negResend (live : s.live = true) (built : s.linkBuilt c = true) :
    exec (.negResend c) s = .next (s.negResend c) := atLink_live _ live built

theorem exec_negotiationTimeout (live : s.live = true) (built : s.linkBuilt c = true) :
    exec (.negotiationTimeout c) s = .next (s.negTimeout c) := atLink_live _ live built

theorem exec_ackCtrlSend (live : s.live = true) (built : s.linkBuilt c = true) :
    exec (.ackCtrlSend c) s = .next (s.ackCtrl c) := atLink_live _ live built

theorem exec_phyUp (live : s.live = true) (built : s.linkBuilt c = true) :
    exec (.phyUp c lanes) s = .next (s.phyRise c lanes) := by
  change s.atLink c (fun s => s.phyUpEvent c lanes) = _
  simp only [State.atLink, State.phyUpEvent, built, live, if_true]

theorem exec_phyDown (live : s.live = true) (built : s.linkBuilt c = true) :
    exec (.phyDown c) s = .next (s.phyFall c) := by
  change s.atLink c (fun s => s.phyDownEvent c) = _
  simp only [State.atLink, State.phyDownEvent, built, live, if_true]

/-! ### Replays -/

/-- R357: a link whose oldest kept flit has waited too long replays what it keeps. -/
theorem replayTimeout_late {k : Kept} {ks : List Kept} (keeps : (s.link c).replay = k :: ks) (up : (s.link c).state = .up)
    (late : replayLimit c ≤ elapsed k.sentAt s.clock) : s.replayTimeout c = s.replayFrom c (k :: ks) := by
  simp only [State.replayTimeout, keeps, up, late, and_self, if_true]

/-- R357: a replay counts, and sends the kept flits in order; here no credit is owed. -/
theorem replayFrom_sends {ks : List Kept} (some : ks ≠ []) (paid : (s.link c).owed = [0, 0, 0, 0]) :
    ((s.replayFrom c ks).link c).replays = (s.link c).replays + 1 ∧
    (s.replayFrom c ks).out = s.out ++ ks.map (fun k => .flit c (Flit.encode
      { ftype := BitVec.ofNat 4 (4 + k.flit.buf), head := k.flit.head, fseq := k.seq, aseq := (s.link c).aseq, crv := false
        crb := 0, payload := k.flit.payload })) := by
  unfold State.replayFrom
  simp only [some, if_false]
  generalize noted : s.modLink c _ = X
  have link : (X.linkBump c 13).link c = (s.modLink c fun l => { l with
      replays := l.replays + 1
      replay := l.replay.map fun k => if k ∈ ks then { k with sentAt := s.clock } else k }).link c := by
    rw [noted]
    exact link_of_links (bump_links _ _ _ _).1 c
  have out : (X.linkBump c 13).out = s.out := (bump_links _ _ _ _).2.trans (by rw [← noted]; rfl)
  unfold State.modLink at link
  rw [State.link_setLink_self] at link
  obtain ⟨sends, counts⟩ := replayFlits_out c (s.link c).aseq ks (X.linkBump c 13) (by rw [link]; exact paid)
    (by rw [link]; rfl)
  exact ⟨counts.trans (by rw [link]), sends.trans (by rw [out])⟩

/-- R358: after LinkRetryLimit replays the link goes to HOLD and asks its PHY to retrain. -/
theorem retryLimit_becomes (up : (s.link c).state = .up) (tried : s.linkCfg c 11 ≤ (s.link c).replays)
    (calm : s.waitMsgs = []) : LinkBecomes s (s.retryLimit c) c { s.link c with
      state := .hold, retrain := true, keepReplay := true, since := s.clock, sawNeg := false, timeoutNoted := false }
      0x2000827000400 := by
  have holds : s.retryLimit c = (s.setLink c { s.link c with retrain := true }).enterHold c 2 := by
    simp only [State.retryLimit, up, tried, true_or, and_self, if_true, State.modLink]
  have set := setLink_becomes (s := s) (c := c) { s.link c with retrain := true }
  have held := enterHold_becomes (reason := 2) (by rw [set.1, up]; decide) ((set.waitMsgs (by decide)).trans calm)
  rw [set.1] at held
  rw [holds]
  exact (set.mono (by decide)).trans held

/-! ### NEG flits -/

theorem negResend_late (negotiates : (s.link c).negotiates = true)
    (late : nsToTime 100 ≤ elapsed (s.link c).negSent s.clock) : s.negResend c = s.sendNeg c := by
  simp only [State.negResend, negotiates, late, decide_true, Bool.and_self, if_true]

theorem negResend_early (early : elapsed (s.link c).negSent s.clock < nsToTime 100) : s.negResend c = s := by
  simp only [State.negResend, Nat.not_le.mpr early, decide_false, Bool.and_false, Bool.false_eq_true, if_false]

/-- R361: a negotiation that has lasted 100 µs is noted, on the hub's ring. -/
theorem negTimeout_late (negotiating : (s.link c).state = .negotiating) (fresh : (s.link c).timeoutNoted = false)
    (late : nsToTime 100000 ≤ elapsed (s.link c).since s.clock) : s.negTimeout c =
      (s.setLink c { s.link c with timeoutNoted := true }).linkNote c (linkCode .negotiating) 9 0 0 := by
  simp only [State.negTimeout, negotiating, fresh, late, decide_true, Bool.true_or, Bool.not_false, Bool.and_self, if_true,
    State.modLink]

/-! ### Acknowledgements -/

/-- R356: what the receiver owes leaves in a CTRL flit. -/
theorem ackCtrl_becomes (up : (s.link c).state = .up)
    (owes : (s.link c).ackOwed = true ∨ (s.link c).creditBuf.isSome = true) : ∃ f : Flit,
      (s.ackCtrl c).out = s.out ++ [.flit c f.encode] ∧ f.ftype = 1 ∧
      f.payload = ctrlPayload (s.link c).rxNext false (creditField (s.link c).owed) ∧
      LinkBecomes s (s.ackCtrl c) c { s.link c with ackOwed := false, owed := [0, 0, 0, 0] } 0x1000024000000 := by
  have acks : s.ackCtrl c = (s.setLink c { s.link c with owed := [0, 0, 0, 0] }).sendControl c 1
      (ctrlPayload (s.link c).rxNext false (creditField (s.link c).owed)) := by
    simp only [State.ackCtrl, up, owes, true_or, and_self, if_true, State.sendCtrl]
  have set := setLink_becomes (s := s) (c := c) { s.link c with owed := [0, 0, 0, 0] }
  obtain ⟨f, out, ftype, payload, o, link, paid⟩ := sendControl_out
    (s.setLink c { s.link c with owed := [0, 0, 0, 0] }) c 1 (ctrlPayload (s.link c).rxNext false (creditField (s.link c).owed))
  rw [set.1] at link paid
  rw [paid rfl] at link
  rw [acks]
  exact ⟨f, out, ftype, payload, link, (State.sendControl_wipe _ _ _ _ _ (by decide)).trans
    (State.setLink_wipe _ _ _ _ (by decide))⟩

/-! ### The PHY -/

/-- R361: a link in TRAINING whose PHY comes up begins to negotiate. -/
theorem phyRise_becomes (dark : (s.link c).phyUp = false) (training : (s.link c).state = .training)
    (serves : s.linkOut c = false) (calm : s.waitMsgs = []) : ∃ (f : Flit) (o : List Nat),
      (s.phyRise c lanes).out = s.out ++ [.flit c f.encode] ∧ f.ftype = 2 ∧
      LinkBecomes s (s.phyRise c lanes) c { s.link c with
        state := .negotiating, phyUp := true, lanes := if isWeft c then lanes else 0, since := s.clock, sawNeg := false
        timeoutNoted := false, negSent := s.clock, ackOwed := false, owed := o } 0x3000827000400 := by
  have rises : s.phyRise c lanes = (s.setLink c { s.link c with
      phyUp := true, lanes := if isWeft c then lanes else 0, timeoutNoted := false }).startNeg c 0 0 0 := by
    simp only [State.phyRise, dark, training, Bool.false_eq_true, reduceCtorEq, if_false]
  have set := setLink_becomes (s := s) (c := c) { s.link c with
    phyUp := true, lanes := if isWeft c then lanes else 0, timeoutNoted := false }
  obtain ⟨f, o, out, ftype, starts⟩ := startNeg_becomes (c := c) (reason := 0) (p := 0) (a := 0) (s := s.setLink c
    { s.link c with phyUp := true, lanes := if isWeft c then lanes else 0, timeoutNoted := false }) serves
    (by rw [set.1, training]; decide) ((set.waitMsgs (by decide)).trans calm)
  rw [set.1] at starts
  rw [rises]
  exact ⟨f, o, out, ftype, (set.mono (by decide)).trans starts⟩

/-- R378: an UP link whose PHY falls goes to HOLD. -/
theorem phyFall_up (shines : (s.link c).phyUp = true) (up : (s.link c).state = .up) (calm : s.waitMsgs = []) :
    LinkBecomes s (s.phyFall c) c { s.link c with
      state := .hold, phyUp := false, retrain := false, keepReplay := true, since := s.clock, sawNeg := false
      timeoutNoted := false } 0x2000827000400 := by
  have falls : s.phyFall c = (s.setLink c { s.link c with phyUp := false, retrain := false }).enterHold c 1 := by
    simp only [State.phyFall, shines, up, reduceCtorEq, if_true, if_false]
  have set := setLink_becomes (s := s) (c := c) { s.link c with phyUp := false, retrain := false }
  have held := enterHold_becomes (reason := 1) (by rw [set.1, up]; decide) ((set.waitMsgs (by decide)).trans calm)
  rw [set.1] at held
  rw [falls]
  exact (set.mono (by decide)).trans held

/-- R377, R378: a link that negotiates, has never been UP and loses its PHY is in TRAINING again. -/
theorem phyFall_fresh (shines : (s.link c).phyUp = true) (negotiating : (s.link c).state = .negotiating)
    (fresh : (s.link c).wasUp = false) (unasked : (s.link c).catWaits = []) (calm : s.waitMsgs = []) :
    LinkBecomes s (s.phyFall c) c { s.link c with state := .training, phyUp := false, retrain := false, version := 0 }
      0x2000827000400 := by
  have falls : s.phyFall c = ((s.setLink c { s.link c with phyUp := false, retrain := false }).moveLink c .training 1 0
      0).linkSettled c := by
    simp only [State.phyFall, shines, negotiating, fresh, reduceCtorEq, Bool.false_eq_true, if_true, if_false]
  have set := setLink_becomes (s := s) (c := c) { s.link c with phyUp := false, retrain := false }
  have moved := moveLink_becomes (st := .training) (r := 1) (p := 0) (a := 0) (by rw [set.1, negotiating]; decide)
    (by decide) ((set.waitMsgs (by decide)).trans calm)
  rw [set.1] at moved
  replace moved := (set.mono (by decide)).trans moved
  have settled := linkSettled_becomes (by rw [moved.1]; exact unasked)
  rw [moved.1] at settled
  rw [falls]
  exact moved.trans (settled.mono (by decide))

theorem phyFall_dark (dark : (s.link c).phyUp = false) : s.phyFall c = s := by
  simp only [State.phyFall, dark, Bool.false_eq_true, if_false]

end

/-- Settles O27: a replay by the flits that it sends, the retry limit by the HOLD that it leads to, a NEG and a CTRL flit by
what they say, and a long negotiation by its note. -/
theorem linkTimers : Obligations.LinkTimers := by
  intro s c live built
  refine ⟨fun k ks keeps up late paid => ?_, fun up tried calm => ?_, fun negotiates =>
    ⟨fun late => ?_, fun early => ?_⟩, fun negotiating fresh late => ?_, fun up owes => ?_⟩
  · have replays := replayTimeout_late keeps up late
    obtain ⟨counts, sends⟩ := replayFrom_sends (s := s) (List.cons_ne_nil k ks) paid
    exact ⟨_, (exec_replayTimeout live built).trans (congrArg _ replays),
      (State.replayFrom_wipe _ _ _ _ (by decide)).symm, counts, sends⟩
  · have becomes := retryLimit_becomes up tried calm
    exact ⟨_, exec_retryLimit live built, becomes.sameBut (by decide), becomes.1⟩
  · obtain ⟨f, o, out, ftype, payload, becomes⟩ := sendNeg_becomes (s := s) (c := c)
    exact ⟨_, f, (exec_negResend live built).trans (congrArg _ (negResend_late negotiates late)),
      becomes.sameBut (by decide), by rw [becomes.1], out, ftype, payload⟩
  · rw [exec_negResend live built, negResend_early early]
  · exact brings_of ((exec_negotiationTimeout live built).trans (congrArg _ (negTimeout_late negotiating fresh late)))
      (State.linkNote_wipe _ _ _ _ _ _ _ (by decide))
  · obtain ⟨f, out, ftype, payload, becomes⟩ := ackCtrl_becomes up owes
    exact ⟨_, f, exec_ackCtrlSend live built, becomes.sameBut (by decide), by rw [becomes.1], by rw [becomes.1], out,
      ftype, payload⟩

/-- Settles O28: the rise of phy_up by the negotiation that it begins, its fall by the state of the link. -/
theorem phyEvents : Obligations.PhyEvents := by
  intro s c lanes live built calm
  refine ⟨fun dark training serves => ?_, fun shines up => ?_, fun shines negotiating fresh unasked => ?_,
    fun dark => ?_⟩
  · obtain ⟨f, o, out, ftype, becomes⟩ := phyRise_becomes (lanes := lanes) dark training serves calm
    exact ⟨_, f, exec_phyUp live built, becomes.sameBut (by decide), by rw [becomes.1], by rw [becomes.1],
      by rw [becomes.1], out, ftype⟩
  · have becomes := phyFall_up shines up calm
    exact ⟨_, exec_phyDown live built, becomes.sameBut (by decide), becomes.1⟩
  · have becomes := phyFall_fresh shines negotiating fresh unasked calm
    exact ⟨_, exec_phyDown live built, becomes.sameBut (by decide), becomes.1⟩
  · rw [exec_phyDown live built, phyFall_dark dark]

end Sys2Proof.Machine
end

section
/-! SUPPORT. A NEG flit that a link receives (R360 to R363, R366). -/

namespace Sys2Proof.Machine

section
variable {s : State} {c : Nat} {n : Neg}

theorem exec_neg {x : BitVec 256} {f : Flit} (hears : s.hears c x f) (neg : f.ftype = 2) :
    exec (.neg c x false) s = .next ((s.countedFlit c).negFlit c (decodeNeg f.payload)) := by
  refine (receiveFlit_next hears).trans (congrArg _ ?_)
  simp only [State.goodFlit, neg, if_true]

theorem countedFlit_becomes : LinkBecomes s (s.countedFlit c) c (s.link c) 0x4000000 :=
  ⟨rfl, State.count_wipe _ _ _ _ _ _ (by decide)⟩

/-- R361: a NEG that offers a common version is noted. -/
theorem negFlit_offer {v : BitVec 2} (shines : (s.link c).phyUp = true) (negotiating : (s.link c).state = .negotiating)
    (fits : s.negRefusal c n = none) (common : s.agreedVersion c n = some v) (first : n.ack = false) :
    s.negFlit c n = s.setLink c { s.link c with peer := some n.id, peerVmax := n.vmax, version := v, sawNeg := true } := by
  simp only [State.negFlit, Link.negotiates, shines, negotiating, fits, State.agree, common, first, reduceCtorEq, false_and,
    if_false, decide_true, decide_false, Bool.true_or, Bool.and_self, if_true, Option.getD_some, Bool.false_and,
    Bool.false_eq_true, State.modLink]

/-- R362: a NEG that cannot be makes a link that negotiates REFUSED. -/
theorem negFlit_refuses {reason : Nat} (shines : (s.link c).phyUp = true)
    (negotiating : (s.link c).state = .negotiating) (bad : s.negRefusal c n = some reason) :
    s.negFlit c n = s.refuseLink c reason := by
  simp only [State.negFlit, Link.negotiates, shines, negotiating, bad, reduceCtorEq, false_and, if_false, decide_true,
    Bool.true_or, Bool.and_self, if_true]

/-- R362, R379: a link that negotiated with nothing to send becomes REFUSED, and its routes move. -/
theorem refuseLink_becomes {reason : Nat} (negotiating : (s.link c).state = .negotiating) (idle : (s.link c).txq = [])
    (whole : (s.link c).partials = []) (unasked : (s.link c).catWaits = []) (calm : s.waitMsgs = []) :
    LinkBecomes s (s.refuseLink c reason) c { s.link c with
      state := .refused, closing := false, keepReplay := false, version := 0 } 0x2000ba7000400 := by
  have refuses : s.refuseLink c reason = (((((s.dropPartials c).setLink c { (s.dropPartials c).link c with
      closing := false, keepReplay := false, version := 0 }).moveLink c .refused reason 0 0).moveRoutes c).linkSettled
        c) := by
    simp only [State.refuseLink, negotiating, reduceCtorEq, decide_false, Bool.false_eq_true, if_false, State.modLink]
  rw [refuses]
  have dropped := dropPartials_becomes whole
  generalize s.dropPartials c = A at dropped
  have set := setLink_becomes (s := A) (c := c) { A.link c with closing := false, keepReplay := false, version := 0 }
  rw [dropped.1] at set ⊢
  replace set := dropped.trans set
  have moved := moveLink_keepsVersion (st := .refused) (r := reason) (p := 0) (a := 0)
    (by rw [set.1, negotiating]; decide) (by decide) (by decide) ((set.waitMsgs (by decide)).trans calm)
  rw [set.1] at moved
  replace moved := (set.mono (by decide)).trans moved
  have routed := moveRoutes_becomes (by rw [moved.1]; exact idle)
  rw [moved.1] at routed
  replace routed := (moved.mono (m := 0x2000ba7000400) (by decide)).trans (routed.mono (by decide))
  have settled := linkSettled_becomes (by rw [routed.1]; exact unasked)
  rw [routed.1] at settled
  exact routed.trans (settled.mono (by decide))

end

/-- Settles O39: a NEG that the link can agree with by what the link notes of it, one that it cannot by its REFUSED. -/
theorem negReceived : Obligations.NegReceived := by
  intro s c x f n hears neg read negotiating calm
  subst read
  have counted := countedFlit_becomes (s := s) (c := c)
  have shines : ((s.countedFlit c).link c).phyUp = true := hears.2.2.1
  refine ⟨fun v fits common first => ?_, fun r bad whole idle unasked => ?_⟩
  · have offer := negFlit_offer shines negotiating fits common first
    have set := setLink_becomes (s := s.countedFlit c) (c := c) { s.link c with
      peer := some (decodeNeg f.payload).id, peerVmax := (decodeNeg f.payload).vmax, version := v, sawNeg := true }
    have becomes := (counted.mono (m := 0x24000000) (by decide)).trans (set.mono (by decide))
    exact ⟨_, (exec_neg hears neg).trans (congrArg _ offer), becomes.1, becomes.sameBut (by decide)⟩
  · have refused := refuseLink_becomes (s := s.countedFlit c) (reason := r) negotiating idle whole unasked calm
    have becomes := (counted.mono (by decide)).trans refused
    exact ⟨_, (exec_neg hears neg).trans (congrArg _ (negFlit_refuses shines negotiating bad)), by rw [becomes.1],
      by rw [becomes.1], becomes.sameBut (by decide)⟩

end Sys2Proof.Machine
end

section
/-! SUPPORT. The exchange of fabric time (R385 to R388, R390). A TIME flit that a link at rest hears acts on the hub that
has heard it (`exec_timeFlit`); a sample that the hub uses leaves its time (`useExchange_near`) or steps it
(`useExchange_fresh`). -/

namespace Sys2Proof.Machine

section
variable {s X : State} {c : Nat} {x : BitVec 256} {f : Flit}

/-! ### What the hub does by itself -/

theorem exec_timeExchange (live : s.live = true) : exec .timeExchange s = .next s.timeExchange := by
  change Host.Outcome.next (s.whenLive State.timeExchange) = _
  rw [whenLive_live _ live]

theorem exec_timeHoldoverLimit (live : s.live = true) : exec .timeHoldoverLimit s = .next s.holdoverLimit := by
  change Host.Outcome.next (s.whenLive State.holdoverLimit) = _
  rw [whenLive_live _ live]

/-- R385: the exchange of a child once it has asked. -/
def State.asking (s : State) (c : Nat) : TimeSync :=
  { s.sync with xnum := s.sync.xnum + 1, asked := true, t1 := s.linkTime c s.time }

/-- R385: a child whose exchange is due asks its parent. -/
theorem timeExchange_asks (parent : s.parentLink = some c) (child : s.cfg 0x5200 1 = 0)
    (due : s.sync.asked = true → s.cfg 0x5200 4 ≤ elapsed s.sync.t1 s.time) : s.timeExchange =
      ({ s with sync := s.asking c } : State).sendControl c 3
        (timePayload 1 (s.sync.xnum + 1) (s.linkTime c s.time) 0) := by
  have now : ¬ (s.cfg 0x5200 1 ≠ 0 ∨ (s.sync.asked = true ∧ elapsed s.sync.t1 s.time < s.cfg 0x5200 4)) := by
    rintro (root | ⟨asked, early⟩)
    · exact root child
    · exact absurd early (Nat.not_lt.mpr (due asked))
  unfold State.timeExchange
  simp only [parent, now, if_false]
  rfl

/-- R390: a HOLDOVER longer than its limit is noted, on the hub's ring. -/
theorem holdoverLimit_late (holdover : s.timeState = .holdover) (fresh : s.sync.holdNoted = false)
    (late : s.cfg 0x5200 9 < elapsed s.sync.holdSince s.clock) : s.holdoverLimit =
      ({ s with sync := { s.sync with holdNoted := true } } : State).linkNote (s.cfg 0x5200 2)
        (linkCode (s.link (s.cfg 0x5200 2)).state) 0x0D 0 0 := by
  simp only [State.holdoverLimit, holdover, fresh, late, and_self, if_true]

/-! ### TIME flits -/

/-- What a TIME flit does that leaves its link UP and with nothing to send: the link sends nothing after it. -/
theorem exec_timeFlit (hears : s.hears c x f) (rest : (s.link c).atRest) (time : f.ftype = 3)
    (acts : (s.heard c f).timeFlit c f.payload = X) (up : (X.link c).state = .up) (idle : (X.link c).txq = []) :
    s.atLink c (fun s => s.receiveFlit c x false) = .next (X.pump c) ∧ (X.pump c).out = X.out ∧
      (X.pump c).wipe 0x20000000 = X.wipe 0x20000000 := by
  obtain ⟨next, -, out, frame⟩ := up_end (r := id) (X := X) hears rest (by rw [time]; decide)
    (by rw [time]; exact acts) up idle
  exact ⟨next, out, frame _ (by decide)⟩

theorem heard_linkTime (t : Time) : (s.heard c f).linkTime c t = s.linkTime c t := by
  have version : ((s.heard c f).link c).version = (s.link c).version := by
    obtain ⟨_, _, _, link⟩ := heard_link s c f
    rw [link]
  unfold State.linkTime State.levelOf
  rw [version]

/-- R385: a hub answers a REQ with the numbers of its exchange, T2 and T3. -/
theorem timeReq_answers (hears : s.hears c x f) (rest : (s.link c).atRest) (time : f.ftype = 3)
    (req : (getFld f.payload 188 4 : BitVec 4) = 1) : ∃ t, ∃ g : Flit, exec (.timeReq c x false) s = .next t ∧
      t.out = s.out ++ [.flit c g.encode] ∧ g.ftype = 3 ∧
      g.payload = timePayload 2 (getFld f.payload 180 8) (s.linkTime c s.time) (s.linkTime c s.time) ∧
      t.wipe 0x1000024000000 = s.wipe 0x1000024000000 := by
  have resting := heard_rest (f := f) rest
  obtain ⟨g, o, out, ftype, payload, becomes⟩ := sendControl_becomes (s := s.heard c f) (c := c) 3
    (timePayload 2 (getFld f.payload 180 8) ((s.heard c f).linkTime c (s.heard c f).time)
      ((s.heard c f).linkTime c (s.heard c f).time))
  have answers : (s.heard c f).timeFlit c f.payload = (s.heard c f).sendControl c 3
      (timePayload 2 (getFld f.payload 180 8) ((s.heard c f).linkTime c (s.heard c f).time)
        ((s.heard c f).linkTime c (s.heard c f).time)) := by
    rw [timeFlit_up resting.1, if_pos req]
    rfl
  obtain ⟨next, silent, frame⟩ := exec_timeFlit hears rest time answers (by rw [becomes.1]; exact resting.1)
    (by rw [becomes.1]; exact resting.2.2)
  rw [heard_linkTime] at payload
  exact ⟨_, g, next, silent.trans out, ftype, payload,
    (wipe_mono (by decide) frame).trans (becomes.2.trans (heard_wipe _ _ _ _ (by decide)))⟩

/-! ### The use of a sample -/

/-- R386 to R388: what a hub keeps of an exchange whose samples give the offset `used`. -/
def TimeSync.using (y : TimeSync) (samples : List (Int × Int)) (used : Int) (st : TimeState) : TimeSync := { y with
  samples := samples
  good := if -512 < used ∧ used < 512 then y.good + 1 else 0
  offset := BitVec.ofInt 64 used
  asked := false
  state := st
  slew := used }

section
variable {t1 t2 t3 t4 a : BitVec 64} {theta delta used : Int} {samples : List (Int × Int)}
  (offset : theta = (((t2 - t1) - (t4 - t3) - a).sshiftRight 1).toInt)
  (delay : delta = (((t4 - t1) - (t3 - t2)).sshiftRight 1).toInt)
  (kept : samples = (s.sync.samples ++ [(theta, delta)]).drop (s.sync.samples.length + 1 - 8))
  (best : used = ((bestSample samples).map Prod.fst).getD theta)
include offset delay kept best

/-- R386, R387: a child that has its time and lies less than 1 µs away is LOCKED, and slews by the offset. -/
theorem useExchange_near (synced : s.sync.state ≠ .unsynced) (above : -256000 ≤ used) (below : used ≤ 256000) :
    ∃ d, s.useExchange c t1 t2 t3 t4 a =
      { s.setCfg (0x5000 + c) 10 0 d with sync := s.sync.using samples used .locked } := by
  have near : ¬ (256000 < used ∨ used < -256000) := by omega
  refine ⟨(((t4 - t1) - (t3 - t2)).sshiftRight 1).toNat, ?_⟩
  unfold State.useExchange
  simp only [← offset, ← delay, List.length_append, List.length_singleton, ← kept, ← best, near, synced,
    decide_false, Bool.or_self, Bool.false_eq_true, if_false]
  cases state : s.sync.state with
  | unsynced => exact absurd state synced
  | _ => rfl

/-- R388: a child without a time steps its time by the offset, and awaits no answer any more. -/
theorem useExchange_fresh (fresh : s.sync.state = .unsynced) : ∃ Y : State, Y.sync.asked = false ∧
    Y.wipe 0x4000400 = s.wipe 0x4000400 ∧ s.useExchange c t1 t2 t3 t4 a = (Y.stepTime used).bump 0x5200 10 := by
  refine ⟨{ s.setCfg (0x5000 + c) 10 0 (((t4 - t1) - (t3 - t2)).sshiftRight 1).toNat with
    sync := s.sync.using samples used
      (if 8 ≤ (if -512 < used ∧ used < 512 then s.sync.good + 1 else 0) then .locked else .unsynced) }, rfl, ?_, ?_⟩
  · exact (wipe_sync _ (by decide) _ _).trans (State.setCfg_wipe _ _ _ _ _ _ (by decide))
  · unfold State.useExchange
    simp only [← offset, ← delay, List.length_append, List.length_singleton, ← kept, ← best, fresh, decide_true,
      Bool.true_or, if_true, Bool.true_eq_false, and_false, if_false]
    rfl

end

/-! ### The step of time -/

/-- R388: a link that is UP keeps, as time steps, all but the stamps of its own messages. -/
theorem stepTime_link (d : Int) (up : (s.link c).state = .up) :
    (s.stepTime d).link c = Link.shifted d s.hub c (s.link c) := by
  have listed {l : Link} (up : l.state = .up) : l ≠ linkNone c := by
    rintro rfl
    simp [linkNone] at up
  exact Sparse.get_remapKey (listed up) (listed (l := Link.shifted d s.hub c (s.link c)) up)

/-- R388: a link at rest rests as time steps. -/
theorem stepTime_rest (d : Int) {i sub : Nat} (rest : (s.link c).atRest) :
    (((s.stepTime d).bump i sub).link c).state = .up ∧ (((s.stepTime d).bump i sub).link c).txq = [] := by
  obtain ⟨up, -, idle⟩ := rest
  rw [link_of_links (bump_links _ _ _ _).1, stepTime_link d up]
  exact ⟨up, by simp [Link.shifted, idle]⟩

/-- R388: a TIME flit that steps the time leaves the hub as the step does, but for its count. -/
theorem exec_timeStep {d : Int} {Y : State} (hears : s.hears c x f) (rest : (s.link c).atRest) (time : f.ftype = 3)
    (acts : (s.heard c f).timeFlit c f.payload = (Y.stepTime d).bump 0x5200 10) (resting : (Y.link c).atRest) :
    ∃ t, s.atLink c (fun s => s.receiveFlit c x false) = .next t ∧
      t.wipe 0x2000024000000 = (Y.stepTime d).wipe 0x2000024000000 := by
  obtain ⟨up, idle⟩ := stepTime_rest (i := 0x5200) (sub := 10) d resting
  obtain ⟨next, -, frame⟩ := exec_timeFlit hears rest time acts up idle
  exact ⟨_, next, (wipe_mono (by decide) frame).trans (State.bump_wipe _ _ _ _ _ (by decide))⟩

/-- R385: a RSP that answers the exchange of a child gives it a sample. -/
theorem timeFlit_rsp (up : (s.link c).state = .up) (rsp : (getFld f.payload 188 4 : BitVec 4) = 2)
    (parent : s.parentLink = some c) (child : s.cfg 0x5200 1 = 0) (asked : s.sync.asked = true)
    (exchange : getFld f.payload 180 8 = s.sync.xnum) : s.timeFlit c f.payload =
      s.useExchange c s.sync.t1 (getFld f.payload 64 64) (getFld f.payload 0 64) s.time
        (BitVec.ofNat 64 (s.linkCfg c 9)) := by
  rw [timeFlit_up up, rsp, if_neg (by decide), if_pos rfl]
  simp only [State.timeAnswer, parent, child, asked, exchange, and_self, if_true]

end

/-- Settles O29: a REQ by what the child has asked, its answer by the flit, a RSP by the sample that it gives and by
whether the child has a time. -/
theorem fabricTime : Obligations.FabricTime := by
  intro s
  refine ⟨fun c live parent child due => ?_, fun live holdover fresh late => ?_, fun c x f hears rest time req => ?_,
    fun c x f hears rest time rsp parent child asked exchange theta delta used samples offset delay kept best =>
      ⟨fun synced above below => ?_, fun fresh => ?_⟩⟩
  · obtain ⟨f, o, out, ftype, payload, becomes⟩ := sendControl_becomes (s := { s with sync := s.asking c }) (c := c) 3
      (timePayload 1 (s.sync.xnum + 1) (s.linkTime c s.time) 0)
    exact ⟨_, f, (exec_timeExchange live).trans (congrArg _ (timeExchange_asks parent child due)),
      sync_of_wipe (by decide) becomes.2, out, ftype, payload,
      ((wipe_mono (by decide) becomes.2).trans (wipe_sync _ (by decide) s _)).symm⟩
  · exact brings_of ((exec_timeHoldoverLimit live).trans (congrArg _ (holdoverLimit_late holdover fresh late)))
      (State.linkNote_wipe _ _ _ _ _ _ _ (by decide))
  · obtain ⟨t, g, next, out, ftype, payload, frame⟩ := timeReq_answers hears rest time req
    exact ⟨t, g, next, out, ftype, payload, frame.symm⟩
  · have resting := heard_rest (f := f) rest
    obtain ⟨d, uses⟩ := useExchange_near (s := s.heard c f) (c := c) offset delay kept best synced above below
    obtain ⟨next, -, frame⟩ := exec_timeFlit hears rest time
      ((timeFlit_rsp resting.1 rsp parent child asked exchange).trans uses) resting.1 resting.2.2
    refine ⟨_, next, sync_of_wipe (by decide) frame, Eq.symm ?_⟩
    refine (wipe_mono (by decide) frame).trans ((wipe_sync _ (by decide) _ _).trans ?_)
    exact (State.setCfg_wipe _ _ _ _ _ _ (by decide)).trans (heard_wipe _ _ _ _ (by decide))
  · have resting := heard_rest (f := f) rest
    obtain ⟨Y, unasked, same, uses⟩ := useExchange_fresh (s := s.heard c f) (c := c) offset delay kept best fresh
    have link := link_of_links (links_of_wipe (by decide) same) c
    replace same : Y.wipe 0x24000400 = s.wipe 0x24000400 := (wipe_mono (by decide) same).trans
      (heard_wipe _ _ _ _ (by decide))
    obtain ⟨t, next, frame⟩ := exec_timeStep hears rest time
      ((timeFlit_rsp resting.1 rsp parent child asked exchange).trans uses) (by rw [link]; exact resting)
    have sync := sync_of_wipe (by decide) frame
    refine ⟨t, next, (time_of_wipe (by decide) frame).trans (congrArg (shiftTime used) (time_of_wipe (by decide) same)),
      by rw [sync]; exact unasked, by rw [sync]; rfl, (waiters_of_wipe (by decide) frame).trans ?_,
      (ports_of_wipe (by decide) frame).trans ?_, (slots_of_wipe (by decide) frame).trans ?_, Eq.symm ?_⟩
    · exact congrArg (List.map _) (waiters_of_wipe (by decide) same)
    · exact congrArg (Sparse.remap · portNone (Port.shifted used)) (ports_of_wipe (by decide) same)
    · exact congrArg (Sparse.remap · slotNone (Slot.shifted used)) (slots_of_wipe (by decide) same)
    · exact (wipe_mono (by decide) frame).trans ((State.stepTime_wipe _ _ _ (by decide)).trans (wipe_mono (by decide) same))

end Sys2Proof.Machine
end

section
/-! SUPPORT. Routes and their fences (R375, R376). Where no message waits, a route that is installed sends none, and the
end of a planned change is the installation of its entry (`finishChange_calm`). -/

namespace Sys2Proof.Machine

section
variable {s u : State} {k : RouteKey} {e : BitVec 32} {x : RouteChange} {h : MsgHdr} {b : FenceBody} {m : Msg}

theorem releaseWaiting_none (p : WaitMsg → Bool) (calm : s.waitMsgs = []) : s.releaseWaiting p = s := by
  unfold State.releaseWaiting
  rw [calm]
  simp only [List.filter_nil, State.resend]
  rw [← calm]

theorem putRoute_frame : (s.putRoute k e).wipe 0x810000000 = s.wipe 0x810000000 := State.putRoute_wipe _ _ _ _ (by decide)

theorem installRoute_calm (calm : s.waitMsgs = []) : s.installRoute k e = s.putRoute k e :=
  retryStranded_none ((waitMsgs_of_wipe (by decide) putRoute_frame).trans calm)

/-- R375 step 4: the end of a planned change installs its entry; here no message and no Catalogue write waits for it. -/
theorem finishChange_calm (calm : s.waitMsgs = []) (unasked : x.cats = []) :
    s.finishChange x = ({ s with changes := s.changes.erase x } : State).putRoute x.key x.entry := by
  have installs := installRoute_calm (s := { s with changes := s.changes.erase x }) (k := x.key) (e := x.entry) calm
  have still : (({ s with changes := s.changes.erase x } : State).putRoute x.key x.entry).waitMsgs = [] :=
    (waitMsgs_of_wipe (by decide) putRoute_frame).trans calm
  simp only [State.finishChange, unasked, installs, releaseWaiting_none _ still, State.catFinishAll]

/-! ### Fences -/

theorem encodeFence_fields (b : FenceBody) :
    (getFld (encodeFence b) 0 8 : BitVec 8) = b.num ∧ (encodeFence b).getLsbD 8 = b.cpl :=
  ⟨congrArg FenceBody.num (decodeFence_encode b), congrArg FenceBody.cpl (decodeFence_encode b)⟩

/-- R376: a fence for a hub to which no valid entry leads goes no further. -/
theorem arriveMsg_fence {c : Nat} (away : h.dst ≠ s.hub) (hops : h.hops.toNat < s.cfg 0x5100 3)
    (lost : entryValid (s.route (s.routeKey h.dst)) = false) :
    s.arriveMsg c { hdr := h, body := .routeFence b } = s.ackFence h b := by
  simp only [State.arriveMsg, State.forwardMsg, away, Nat.not_le.mpr hops, lost, if_false, Bool.false_eq_true]

theorem exec_routeFence (live : s.live = true) (far : s.notW1 { hdr := h, body := .routeFence b }) :
    exec (.routeFence h b) s = .next ((s.taken { hdr := h, body := .routeFence b }).ackFence h b) :=
  congrArg _ (messageCommand_taken live far)

theorem exec_fenceAck (live : s.live = true) (far : s.notW1 { hdr := h, body := .fenceAck b }) :
    exec (.fenceAck h b) s = .next ((s.taken { hdr := h, body := .fenceAck b }).fenceAcked b) :=
  congrArg _ (messageCommand_taken live far)

/-! ### Acknowledged fences -/

theorem fenceAcked_unasked (none : u.changes.find? (fun x => x.fences.contains (b.cpl, b.num)) = none) :
    u.fenceAcked b = u := by
  simp only [State.fenceAcked, none]

theorem fenceAcked_waits (found : u.changes.find? (fun x => x.fences.contains (b.cpl, b.num)) = some x)
    (others : x.fences.erase (b.cpl, b.num) ≠ []) : u.fenceAcked b = { u with changes := u.changes.map fun z =>
      if z = x then { x with fences := x.fences.erase (b.cpl, b.num) } else z } := by
  simp only [State.fenceAcked, found, others, if_false]

theorem fenceAcked_last (found : u.changes.find? (fun x => x.fences.contains (b.cpl, b.num)) = some x)
    (last : x.fences = [(b.cpl, b.num)]) : u.fenceAcked b = u.finishChange x := by
  simp only [State.fenceAcked, found, last, List.erase_cons_head, if_true]

end

/-- Settles O44: a fence by its acknowledgement, an acknowledgement by the fences that its change still awaits. -/
theorem routeFences : Obligations.RouteFences := by
  refine ⟨encodeFence_fields, fun s c h b live built away hops lost => ?_, fun s u h b m live far taken => ?_⟩
  · rw [exec_messageForward live built, arriveMsg_fence away hops lost]
    rfl
  subst taken
  refine ⟨fun fence => ?_, fun ack => ?_⟩
  · subst fence
    exact exec_routeFence live far
  · subst ack
    rw [exec_fenceAck live far]
    refine ⟨fun none => by rw [fenceAcked_unasked none], fun x found => ⟨fun others => by
      rw [fenceAcked_waits found others], fun last calm unasked => ?_⟩⟩
    rw [fenceAcked_last found last, finishChange_calm calm unasked]
    refine ⟨_, rfl, rfl, rfl, Eq.symm ?_⟩
    exact (wipe_mono (by decide) putRoute_frame).trans (wipe_changes _ (by decide) _ _)

end Sys2Proof.Machine
end

section
/-! SUPPORT. The Catalogue's writes of a link's range, of a route and of TimeSet (R366, R375, R392). Each write comes to
the rule of its entry (`linkWrite_opens`, `routeWrite_opens` and their like); the rules are then said case by case. -/

namespace Sys2Proof.Machine

section
variable {s u x : State} {h : CatHdr} {w : Who} {c p : Nat} {sub v : BitVec 8} {j : BitVec 16} {e : BitVec 32}
  {k : RouteKey} {st : CatStatus}

/-! ### The entries -/

theorem writeEntry_link {i : Nat} (inside : c < 16) (range : i ≤ 3) (n : Nat) :
    u.writeEntry h w (0x5000 + c) i p n = u.renegotiate h c i n := by
  have above : ¬ 0x5000 + c < 0x3000 := by omega
  have below : 0x5000 + c < 0x6000 := by omega
  have reslice : 0x5000 + c ≠ 0x3000 := by omega
  have parts : 0x5000 + c ≠ 0x3010 := by omega
  have ports : ¬ (0x3100 ≤ 0x5000 + c ∧ 0x5000 + c ≤ 0x317F) := by omega
  have locks : ¬ (0x4000 ≤ 0x5000 + c ∧ 0x5000 + c ≤ 0x40FF ∧ i = 4) := by omega
  have links : 0x5000 ≤ 0x5000 + c ∧ 0x5000 + c ≤ 0x500F := by omega
  rw [State.writeEntry, if_neg above, if_pos below, State.writeMiddle, if_neg reslice, if_neg parts, if_neg ports,
    if_neg locks, if_pos links, State.writeLinkEntry, if_pos range, Nat.add_sub_cancel_left]

theorem writeEntry_route (n : Nat) : u.writeEntry h w 0x5100 2 p n =
    u.writeRoute h (routeSelected (u.cfg 0x5100 1)) (BitVec.ofNat 32 n) := by
  simp [State.writeEntry, State.writeMiddle, State.writeRouteEntry]

theorem writeEntry_timeSet (n : Nat) :
    u.writeEntry h w 0x5200 8 p n = atOnce (u.writeTimeSet (BitVec.ofNat 64 n)) := by
  simp [State.writeEntry, State.writeMiddle, State.writeTimeEntry]

theorem exec_linkRenegotiate (inside : c < 16) (block : j = BitVec.ofNat 16 (0x5000 + c)) :
    exec (.linkRenegotiate h c sub v) s =
      .next (s.entryCommand (.linkRenegotiate h c sub v) h j sub v.toNat) := by
  rw [block, ← instIndex_of_lt inside]
  rfl

section
variable (ports : c < 4 ∨ (8 ≤ c ∧ c < 16)) (range : sub = 1 ∨ sub = 2 ∨ sub = 3)
  (block : j = BitVec.ofNat 16 (0x5000 + c)) (writes : s.writing u h j sub v.toNat w)
include ports range block

/-- R362, R366: where a write of a link's range stands, and what it comes to. -/
theorem linkWrite_facts : c < 16 ∧ entryPart (askRow (writeAsk j sub)) h.partition = 0 ∧
    (askRow (writeAsk j sub)).stored v.toNat = v.toNat ∧
    u.writeEntry h w j.toNat sub.toNat 0 v.toNat = u.renegotiate h c sub.toNat v.toNat := by
  obtain ⟨index, scope, bytes, mask⟩ := link_row ports range block
  have inside : c < 16 := by omega
  have low : sub.toNat ≤ 3 := by rcases range with rfl | rfl | rfl <;> decide
  refine ⟨inside, askWhole (by rw [scope]; decide) _, stored_byte bytes mask v, ?_⟩
  rw [index, writeEntry_link inside low]

include writes

theorem linkWrite_answers (rule : u.renegotiate h c sub.toNat v.toNat = (x, some st)) (still : x.catOpen = u.catOpen) :
    exec (.linkRenegotiate h c sub v) s = .next (s.answered h j sub st x) := by
  obtain ⟨inside, part, value, entry⟩ := linkWrite_facts (u := u) (h := h) (w := w) (v := v) ports range block
  rw [exec_linkRenegotiate inside block]
  exact congrArg _ (entryCommand_answers writes _ part value (entry.trans rule) still)

theorem linkWrite_opens (rule : u.renegotiate h c sub.toNat v.toNat = (x, none)) :
    exec (.linkRenegotiate h c sub v) s = .next x := by
  obtain ⟨inside, part, value, entry⟩ := linkWrite_facts (u := u) (h := h) (w := w) (v := v) ports range block
  rw [exec_linkRenegotiate inside block]
  exact congrArg _ (entryCommand_opens writes _ part value (entry.trans rule))

end

/-- R372, R507: RouteEntry stores a value without its reserved bits. -/
theorem stored_route (v : BitVec 32) :
    BitVec.ofNat 32 ((askRow (writeAsk 0x5100 2)).stored v.toNat) = v &&& 0xFFFC0000 := by
  rw [stored_mask (n := 4) (m := 0xFFFC0000) rfl rfl v.isLt, BitVec.ofNat_and, BitVec.ofNat_toNat, BitVec.setWidth_eq]
  rfl

section
variable {n : BitVec 32} (writes : s.writing u h 0x5100 2 n.toNat w)
include writes

theorem routeWrite_answers
    (rule : u.writeRoute h (routeSelected (u.cfg 0x5100 1)) (n &&& 0xFFFC0000) = (x, some st))
    (still : x.catOpen = u.catOpen) : exec (.routeEntry h n) s = .next (s.answered h 0x5100 2 st x) := by
  refine congrArg Host.Outcome.next (entryCommand_answers writes (.routeEntry h n) (askWhole (by decide) _) rfl ?_ still)
  exact (writeEntry_route _).trans (by rw [stored_route, rule])

theorem routeWrite_opens
    (rule : u.writeRoute h (routeSelected (u.cfg 0x5100 1)) (n &&& 0xFFFC0000) = (x, none)) :
    exec (.routeEntry h n) s = .next x := by
  refine congrArg Host.Outcome.next (entryCommand_opens writes (.routeEntry h n) (askWhole (by decide) _) rfl ?_)
  exact (writeEntry_route _).trans (by rw [stored_route, rule])

end

theorem timeSet_answers {n : Time} (writes : s.writing u h 0x5200 8 n.toNat w) (rule : u.writeTimeSet n = (x, st))
    (still : x.catOpen = u.catOpen) : exec (.timeSet h n) s = .next (s.answered h 0x5200 8 st x) := by
  refine congrArg Host.Outcome.next (entryCommand_answers writes (.timeSet h n) (askWhole (by decide) _)
    (stored_all rfl rfl n.isLt (by decide)) ?_ still)
  refine (writeEntry_timeSet _).trans ?_
  rw [BitVec.ofNat_toNat, BitVec.setWidth_eq, rule]
  rfl

/-! ### Renegotiation (R366) -/

/-- R366: an UP link that renegotiates drains what it keeps, and sends its NEG once it keeps nothing. -/
theorem startRenegotiation_becomes (up : (s.link c).state = .up) (calm : s.waitMsgs = []) :
    ∃ o a t, LinkBecomes s (s.startRenegotiation c) c { s.link c with
      state := .renegotiating, closing := true, sawNeg := false, timeoutNoted := false, since := s.clock
      owed := o, ackOwed := a, negSent := t } 0x3000827000400 ∧
    ((s.link c).replay ≠ [] → (s.startRenegotiation c).out = s.out) ∧
    ((s.link c).replay = [] → ∃ f : Flit,
      (s.startRenegotiation c).out = s.out ++ [.flit c f.encode] ∧ f.ftype = 2) := by
  have set := setLink_becomes (s := s) (c := c)
    { s.link c with closing := true, sawNeg := false, timeoutNoted := false, since := s.clock }
  have moved := moveLink_keepsVersion (st := .renegotiating) (r := 7) (p := 0) (a := 0) (by rw [set.1, up]; decide)
    (by decide) (by decide) ((set.waitMsgs (by decide)).trans calm)
  rw [set.1] at moved
  replace moved := (set.mono (by decide)).trans moved
  have starts : s.startRenegotiation c = (fun X : State => if (s.link c).replay.isEmpty then X.sendNeg c else X)
      ((s.setLink c { s.link c with
        closing := true, sawNeg := false, timeoutNoted := false, since := s.clock }).moveLink c .renegotiating 7 0 0) := by
    simp only [State.startRenegotiation, State.modLink, moved.1]
  rw [starts]
  generalize (s.setLink c { s.link c with
    closing := true, sawNeg := false, timeoutNoted := false, since := s.clock }).moveLink c .renegotiating 7 0 0 = X at moved
  cases drained : (s.link c).replay with
  | cons k ks =>
    exact ⟨_, _, _, moved.mono (by decide), fun _ => moved.out (by decide),
      fun empty => absurd empty (List.cons_ne_nil _ _)⟩
  | nil =>
    obtain ⟨f, o, out, ftype, -, sent⟩ := sendNeg_becomes (s := X) (c := c)
    rw [moved.1] at sent
    exact ⟨_, _, _, (moved.mono (by decide)).trans (sent.mono (by decide)), fun some => absurd rfl some,
      fun _ => ⟨f, out.trans (by rw [moved.out (by decide)]), ftype⟩⟩

/-- The hub once a write of a link's range waits for the link to settle. -/
def State.awaitsLink (u : State) (h : CatHdr) (c i n : Nat) : State :=
  (u.setCfg (0x5000 + c) i 0 n).setLink c { u.link c with catWaits := (u.link c).catWaits ++ [h] }

theorem awaitsLink_link {i n : Nat} :
    (u.awaitsLink h c i n).link c = { u.link c with catWaits := (u.link c).catWaits ++ [h] } :=
  State.link_setLink_self _ _ _

theorem renegotiate_settled {i n : Nat} (still : (u.link c).state = .down ∨ (u.link c).state = .training ∨
    ((u.link c).state = .refused ∧ (u.link c).phyUp = false)) :
    u.renegotiate h c i n = (u.setCfg (0x5000 + c) i 0 n, some .done) := by
  have same : (u.setCfg (0x5000 + c) i 0 n).link c = u.link c := rfl
  rcases still with state | state | ⟨state, dark⟩
  · simp only [State.renegotiate, same, state]
  · simp only [State.renegotiate, same, state]
  · simp only [State.renegotiate, same, state, dark, Bool.false_eq_true, if_false]

theorem renegotiate_waits {i n : Nat} (busy : (u.link c).state = .renegotiating ∨ (u.link c).state = .hold ∨
    (u.link c).state = .negotiating) : u.renegotiate h c i n = (u.awaitsLink h c i n, none) := by
  have same : (u.setCfg (0x5000 + c) i 0 n).link c = u.link c := rfl
  rcases busy with state | state | state <;>
    simp only [State.renegotiate, same, state, State.modLink, State.awaitsLink]

theorem renegotiate_refused {i n : Nat} (refused : (u.link c).state = .refused) (shines : (u.link c).phyUp = true) :
    u.renegotiate h c i n = ((u.awaitsLink h c i n).startNeg c 7 0 0, none) := by
  have same : (u.setCfg (0x5000 + c) i 0 n).link c = u.link c := rfl
  simp only [State.renegotiate, same, refused, shines, if_true, State.modLink, State.awaitsLink]

theorem renegotiate_up {i n : Nat} (up : (u.link c).state = .up) :
    u.renegotiate h c i n = ((u.awaitsLink h c i n).startRenegotiation c, none) := by
  have same : (u.setCfg (0x5000 + c) i 0 n).link c = u.link c := rfl
  simp only [State.renegotiate, same, up, State.modLink, State.awaitsLink]

/-! ### Routes (R375) -/

/-- R375: a route that no message leaves on, or that keeps its port and VL, is installed at once. -/
theorem writeRoute_installs (unplanned : ∀ y ∈ u.changes, y.key ≠ k)
    (direct : u.leave (u.route k) = .strand ∨ u.leave e = u.leave (u.route k)) (calm : u.waitMsgs = []) :
    u.writeRoute h k e = (u.putRoute k e, some .done) := by
  have free : (u.changes.any fun y => y.key = k) = false := by simpa using unplanned
  unfold State.writeRoute
  rw [free, installRoute_calm calm]
  cases leaves : u.leave (u.route k) with
  | strand => rfl
  | on c vl =>
    have same : u.leave e = .on c vl := by
      rcases direct with strand | same
      · exact absurd (leaves.symm.trans strand) (by simp)
      · exact same.trans leaves
    simp only [same, Bool.false_eq_true, if_true, if_false]

/-- R375: a route in use that moves to another port or VL changes under fences. -/
theorem writeRoute_plans {vl : Nat} (unplanned : ∀ y ∈ u.changes, y.key ≠ k) (leaves : u.leave (u.route k) = .on c vl)
    (moves : u.leave e ≠ .on c vl) : u.writeRoute h k e = (u.startChange k e c vl [h], none) := by
  have free : (u.changes.any fun y => y.key = k) = false := by simpa using unplanned
  simp only [State.writeRoute, free, leaves, moves, Bool.false_eq_true, if_false]

theorem writeRoute_replaces (planned : ∃ y ∈ u.changes, y.key = k) : u.writeRoute h k e =
    ({ u with changes := u.changes.map fun y => if y.key = k then { y with entry := e, cats := y.cats ++ [h] } else y },
      none) := by
  have busy : (u.changes.any fun y => y.key = k) = true := by simpa using planned
  simp only [State.writeRoute, busy, if_true]

theorem startChange_changes {vl : Nat} {cats : List CatHdr} : (u.startChange k e c vl cats).changes = u.changes ++ [{
    key := k
    entry := e
    link := c
    fences := (fenceList u.fenceBase ((u.routeCovers k).filter fun d => d ≠ u.hub)).map fun y => (y.2.cpl, y.2.num)
    cats := cats }] :=
  changes_of_wipe (m := 0x1000024000000) (by decide) (State.sendFences_wipe _ _ _ _ _ (by decide))

end

/-- Settles O54: a write of a link's range by the state of its link, a write of a route by where its messages leave now,
TimeSet by whether it may be written. -/
theorem linkRouteAndTimeWrites : Obligations.LinkRouteAndTimeWrites := by
  intro s u h w
  refine ⟨fun c sub v j x y ports range block writes stored waits => ?_, fun v e k writes selected value => ?_,
    fun v writes => ⟨fun barred => ?_, fun root unused => ?_⟩⟩
  · subst stored waits
    refine ⟨fun still => linkWrite_answers ports range block writes (renegotiate_settled still) rfl,
      fun busy => linkWrite_opens ports range block writes (renegotiate_waits busy), fun refused shines serves calm => ?_,
      fun up calm => ?_⟩
    · obtain ⟨f, o, out, ftype, becomes⟩ := startNeg_becomes
        (s := u.awaitsLink h c sub.toNat v.toNat) (c := c) (reason := 7)
        (p := 0) (a := 0) serves (by rw [awaitsLink_link, refused]; decide) calm
      have link := becomes.1
      rw [awaitsLink_link] at link
      exact ⟨_, f, linkWrite_opens ports range block writes (renegotiate_refused refused shines),
        becomes.sameBut (by decide), by rw [link], by rw [link], out, ftype⟩
    · obtain ⟨o, a, t, becomes, full, drained⟩ := startRenegotiation_becomes
        (s := u.awaitsLink h c sub.toNat v.toNat) (c := c) (by rw [awaitsLink_link, up]) calm
      have link := becomes.1
      rw [awaitsLink_link] at link full drained
      exact ⟨_, linkWrite_opens ports range block writes (renegotiate_up up), becomes.sameBut (by decide),
        by rw [link], by rw [link], by rw [link], full, drained⟩
  · subst selected value
    refine ⟨fun unplanned direct calm => ?_, fun c vl unplanned leaves moves => ?_, fun planned => ?_⟩
    · exact ⟨_, routeWrite_answers writes (writeRoute_installs unplanned direct calm)
        (catOpen_of_wipe (by decide) putRoute_frame), rfl, (wipe_mono (by decide) putRoute_frame).symm⟩
    · exact ⟨_, routeWrite_opens writes (writeRoute_plans unplanned leaves moves), startChange_changes,
        (State.startChange_wipe _ _ _ _ _ _ _ (by decide)).symm⟩
    · exact routeWrite_opens writes (writeRoute_replaces planned)
  · exact timeSet_answers writes (if_pos barred) rfl
  · refine timeSet_answers writes (if_neg ?_) rfl
    rintro (child | used)
    · exact root child
    · exact absurd (used.symm.trans unused) (by decide)

end Sys2Proof.Machine
end

section
/-! SUPPORT. The messages of a reset between hubs (R410, R413, R414, R416). A request is answered, joined or obeyed by
its partition count and its epoch (`resetRequest_own`), and one that is obeyed starts the reset by
`beginReset_atOnce`. A DONE takes its sender off the hubs awaited (`resetAnswer_awaited`), and the last one ends the
reset. -/

namespace Sys2Proof.Machine

section
variable {s u : State} {h : MsgHdr} {b : PartCtlBody} {m : Msg} {i : Instr} {k done : PartCtlKind} {c : Bool} {p : Nat}
  {src : HubId}

/-! ### The commands -/

/-- The command, the kinds of the message and of its answer, and whether it asks for a context change. -/
def ResetAsks (i : Instr) (h : MsgHdr) (b : PartCtlBody) (k : PartCtlKind) (c : Bool) (done : PartCtlKind) : Prop :=
  i = .resetReq h b ∧ k = .resetReq ∧ c = false ∧ done = .resetDone ∨
  i = .ctxReq h b ∧ k = .ctxReq ∧ c = true ∧ done = .ctxDone

theorem ResetAsks.answer (asks : ResetAsks i h b k c done) : done = if c then .ctxDone else .resetDone := by
  rcases asks with ⟨-, -, rfl, rfl⟩ | ⟨-, -, rfl, rfl⟩ <;> rfl

theorem exec_resetRequest (live : s.live = true) (far : s.notW1 m) (taken : u = s.taken m)
    (asks : ResetAsks i h b k c done) (carried : m = { hdr := h, body := .partCtl k b }) :
    exec i s = .next (u.resetRequest h.src h.partition.toNat c b) := by
  subst carried taken
  rcases asks with ⟨rfl, rfl, rfl, -⟩ | ⟨rfl, rfl, rfl, -⟩ <;>
    exact congrArg Host.Outcome.next (messageCommand_taken live far)

theorem exec_resetAnswer (live : s.live = true) (far : s.notW1 m) (taken : u = s.taken m)
    (answers : i = .resetDone h b ∧ k = .resetDone ∨ i = .ctxDone h b ∧ k = .ctxDone)
    (carried : m = { hdr := h, body := .partCtl k b }) :
    exec i s = .next (u.resetAnswer h.src h.partition.toNat b) := by
  subst carried taken
  rcases answers with ⟨rfl, rfl⟩ | ⟨rfl, rfl⟩ <;> exact congrArg Host.Outcome.next (messageCommand_taken live far)

/-! ### A request to reset -/

/-- The hub once it has answered a request for which it resets nothing (R413, R416, log entry 13). -/
def State.answersReset (u : State) (src : HubId) (p : Nat) (c : Bool) (b : PartCtlBody) (status : BitVec 2) : State :=
  u.send { hdr := u.hdrTo src p
           body := .partCtl (if c then .ctxDone else .resetDone) (u.doneBody (u.epoch p) (u.epoch p) b.seq status) }

/-- The hub that asks, as a reset remembers it. -/
def asker (src : HubId) (c : Bool) (b : PartCtlBody) : ResetAsker := { hub := src, seq := b.seq, ctx := c }

/-- R413: a request with another partition count is refused. -/
theorem resetRequest_foreign (other : b.count.toNat ≠ u.partCount) :
    u.resetRequest src p c b = u.answersReset src p c b 1 := if_pos (.inr (.inl other))

theorem modReset_eq (f : ResetSeq → ResetSeq) :
    u.modReset p f = u.setPart p { u.part p with reset := f (u.part p).reset } := rfl

section
variable (built : p < u.partCount) (same : b.count.toNat = u.partCount) (still : u.reslice.step = .idle)
include built same still

/-- R413, R414: what a request comes to at a hub of the same partition count, outside a reslice. -/
theorem resetRequest_own : u.resetRequest src p c b =
    if u.resetting p then
      u.modReset p fun r => { r with
        newEpoch := newerEpoch r.newEpoch b.newEpoch
        askers := r.askers ++ [asker src c b]
        load := if c then if c then some b.context else none else r.load }
    else if epochCheck (u.epoch p) b.newEpoch = some false then
      (u.modReset p fun r => { r with askers := [asker src c b] }).beginReset p b.newEpoch c
        (if c then some b.context else none)
    else u.answersReset src p c b 0 := by
  refine if_neg ?_
  rintro (outside | other | ⟨reslicing, -⟩)
  · exact absurd built (Nat.not_lt.mpr outside)
  · exact other same
  · exact reslicing still

/-- R413: a request during a reset joins it. -/
theorem resetRequest_joins (busy : u.resetting p = true) :
    u.resetRequest src p c b = u.setPart p { u.part p with reset := { (u.part p).reset with
      newEpoch := newerEpoch (u.part p).reset.newEpoch b.newEpoch
      askers := (u.part p).reset.askers ++ [asker src c b]
      load := if c then some b.context else (u.part p).reset.load } } := by
  rw [resetRequest_own built same still, if_pos busy, modReset_eq]
  cases c <;> rfl

/-- R413: a request whose epoch this hub has reached is answered at once. -/
theorem resetRequest_reached (rests : u.resetting p = false) (behind : (u.epoch p - b.newEpoch).toNat ≤ 127) :
    u.resetRequest src p c b = u.answersReset src p c b 0 := by
  have reached : epochCheck (u.epoch p) b.newEpoch ≠ some false := by
    by_cases own : b.newEpoch = u.epoch p
    · rw [own, epochCheck_same]
      decide
    · rw [epochCheck_stale own behind]
      decide
  rw [resetRequest_own built same still, rests, if_neg Bool.false_ne_true, if_neg reached]

/-- R413: a request with a newer epoch starts the reset. -/
theorem resetRequest_starts (rests : u.resetting p = false) (ahead : 127 < (u.epoch p - b.newEpoch).toNat) :
    u.resetRequest src p c b = (u.modReset p fun r => { r with askers := [asker src c b] }).beginReset p b.newEpoch c
      (if c then some b.context else none) := by
  rw [resetRequest_own built same still, rests, if_neg Bool.false_ne_true, if_pos (epochCheck_newer ahead)]

end

theorem modReset_part (f : ResetSeq → ResetSeq) :
    (u.modReset p f).part p = { u.part p with reset := f (u.part p).reset } := State.part_setPart_self _ _ _

/-- What a reset has to end does not lie in the record of the reset itself. -/
theorem modReset_resetsAtOnce (f : ResetSeq → ResetSeq) (ready : u.resetsAtOnce p) :
    (u.modReset p f).resetsAtOnce p := by
  obtain ⟨waiters, lenders, ledgers, buffered, ports, shelves, deposits, inventory, hold, quiesce⟩ := ready
  refine ⟨waiters, lenders, ledgers, buffered, ports, fun j => ?_, fun j => ?_, ?_, ?_, ?_⟩
  · rw [State.shelf, modReset_part]
    exact shelves j
  · rw [modReset_part]
    exact deposits j
  · rw [modReset_part]
    exact inventory
  · rw [modReset_part]
    exact hold
  · rw [State.quiesceIdle, modReset_part]
    exact quiesce

/-! ### The answer to a request -/

theorem resetAnswer_stray (stray : (u.part p).reset.peers.contains src = false ∨ b.seq ≠ (u.part p).reset.number) :
    u.resetAnswer src p b = u := by
  refine if_neg ?_
  rw [Bool.and_eq_true, decide_eq_true_eq]
  rintro ⟨awaited, number⟩
  rcases stray with other | another
  · exact Bool.false_ne_true (other.symm.trans awaited)
  · exact another number

/-- R414: a DONE that is awaited takes its sender off the hubs awaited. -/
theorem resetAnswer_awaited (awaited : (u.part p).reset.peers.contains src = true)
    (number : b.seq = (u.part p).reset.number) (reset : b.status ≠ 1) :
    u.resetAnswer src p b =
      (u.modReset p fun x => { x with peers := x.peers.filter fun d => d ≠ src }).peersDone p := by
  simp only [State.resetAnswer, awaited, number, reset, decide_true, Bool.and_self, if_true, if_false]

theorem peersDone_waits (others : (u.part p).reset.peers ≠ []) : u.peersDone p = u :=
  if_neg fun ⟨_, last⟩ => others last

/-- R410 step 7: a reset that awaits no more peer is over. -/
theorem peersDone_last (waits : (u.part p).reset.step = .awaitPeers) (last : (u.part p).reset.peers = []) :
    u.peersDone p = u.setPart p { u.part p with reset := { (u.part p).reset with step := .idle } } :=
  if_pos ⟨waits, last⟩

end

/-- Settles O47: a request by its partition count, the reset under way and its epoch; a DONE by the hubs that are still
awaited. -/
theorem resetMessages : Obligations.ResetMessages := by
  intro s u h b m p r live far taken part reset
  subst part reset
  refine ⟨fun i k c done asks carried => ?_, fun i k answers carried => ?_⟩
  -- a request
  · rw [exec_resetRequest live far taken asks carried, ResetAsks.answer asks]
    refine ⟨fun other => congrArg _ (resetRequest_foreign other), fun built same still =>
      ⟨fun busy => congrArg _ (resetRequest_joins built same still busy),
        fun rests behind => congrArg _ (resetRequest_reached built same still rests behind),
        fun rests ahead ready => ?_⟩⟩
    rw [resetRequest_starts built same still rests ahead]
    obtain ⟨record, request, epoch, frame⟩ := beginReset_atOnce b.newEpoch c (if c then some b.context else none)
      (modReset_resetsAtOnce (fun r => { r with askers := [asker h.src c b] }) ready)
    rw [modReset_part] at record epoch
    refine ⟨_, rfl, request, epoch, record, Eq.symm ?_⟩
    exact (frame _ (by decide)).trans (State.modReset_wipe _ _ _ _ (by decide))
  -- a DONE
  · rw [exec_resetAnswer live far taken answers carried]
    refine ⟨fun stray => congrArg _ (resetAnswer_stray stray), fun number reset =>
      ⟨fun awaited others => ?_, fun last waits => ?_⟩⟩
    · rw [resetAnswer_awaited awaited number reset, peersDone_waits (by rw [modReset_part]; exact others)]
      rfl
    · rw [resetAnswer_awaited (by simp [last]) number reset,
        peersDone_last (by rw [modReset_part]; exact waits) (by rw [modReset_part]; simp [last]), modReset_part,
        modReset_eq, setPart_setPart]
      simp [last]

end Sys2Proof.Machine
end

section
/-! SUPPORT. The Catalogue's writes of PartReset, PartContext and PartQuiesceOverride (R407, R410, R412, R531). Each
write comes to the rule of its entry (`partReset_finishes` and those beside it); a reset that asks no peer and has
nothing to end starts by `beginReset_atOnce`, and an override ends its wait by `resetQuiesced_alone`. -/

namespace Sys2Proof.Machine

section
variable {s u x : State} {h : CatHdr} {w : Who} {p : Nat} {st : CatStatus}

/-! ### The entries -/

/-- A WRITE that its own effect answers, by what the effect leaves of the hub. -/
theorem entryCommand_finishes {index : BitVec 16} {sub : BitVec 8} {v q n : Nat} (writes : s.writing u h index sub v w)
    (i : Instr) (part : entryPart (askRow (writeAsk index sub)) h.partition = q)
    (value : (askRow (writeAsk index sub)).stored v = n)
    (rule : u.writeEntry h w index.toNat sub.toNat q n = (x, some st)) :
    s.entryCommand i h index sub v = x.catFinish h st := by
  obtain ⟨accepts, rfl⟩ := writes
  subst part value
  exact entryCommand_accepts accepts i rule

theorem writeEntry_partReset (n : Nat) : u.writeEntry h w 0x3010 8 p n = atOnce (u.writeReset p n) := by
  simp [State.writeEntry, State.writeMiddle, State.writePartEntry]

theorem writeEntry_partContext (n : Nat) :
    u.writeEntry h w 0x3010 9 p n = atOnce (u.writeContext p (BitVec.ofNat 64 n)) := by
  simp [State.writeEntry, State.writeMiddle, State.writePartEntry]

theorem writeEntry_override (n : Nat) :
    u.writeEntry h w 0x3010 13 p n = doneWith (if n = 1 then u.override p else u) := by
  simp [State.writeEntry, State.writeMiddle, State.writePartEntry]

theorem partReset_finishes {v : BitVec 8} (writes : s.writing u h 0x3010 8 v.toNat w)
    (rule : u.writeReset h.partition.toNat v.toNat = (x, st)) :
    exec (.partReset h v) s = .next (x.catFinish h st) :=
  congrArg Host.Outcome.next (entryCommand_finishes writes (.partReset h v) (askPart rfl _) (stored_byte rfl rfl v)
    ((writeEntry_partReset _).trans (congrArg atOnce rule)))

theorem partReset_answers {v : BitVec 8} (writes : s.writing u h 0x3010 8 v.toNat w)
    (rule : u.writeReset h.partition.toNat v.toNat = (x, st)) (still : x.catOpen = u.catOpen) :
    exec (.partReset h v) s = .next (s.answered h 0x3010 8 st x) :=
  (partReset_finishes writes rule).trans (congrArg _ (finish_answers writes still st))

theorem partContext_answers {v : BitVec 64} (writes : s.writing u h 0x3010 9 v.toNat w)
    (rule : u.writeContext h.partition.toNat v = (x, st)) (still : x.catOpen = u.catOpen) :
    exec (.partContext h v) s = .next (s.answered h 0x3010 9 st x) := by
  refine congrArg Host.Outcome.next (entryCommand_answers writes (.partContext h v) (askPart rfl _)
    (stored_all rfl rfl v.isLt (by decide)) ?_ still)
  refine (writeEntry_partContext _).trans ?_
  rw [BitVec.ofNat_toNat, BitVec.setWidth_eq, rule]
  rfl

theorem partOverride_answers {v : BitVec 8} (writes : s.writing u h 0x3010 13 v.toNat w)
    (rule : (if v.toNat = 1 then u.override h.partition.toNat else u) = x) (still : x.catOpen = u.catOpen) :
    exec (.partQuiesceOverride h v) s = .next (s.answered h 0x3010 13 .done x) :=
  congrArg Host.Outcome.next (entryCommand_answers writes (.partQuiesceOverride h v) (askPart rfl _)
    (stored_byte rfl rfl v) ((writeEntry_override _).trans (congrArg doneWith rule)) still)

/-! ### PartReset (R410, R531) -/

theorem inReset_iff : u.inReset p = true ↔ (u.part p).reset.step ≠ .idle := decide_eq_true_iff

theorem writeReset_rests {v : BitVec 8} (rests : v = 0 ∨ (u.part p).reset.step ≠ .idle) :
    u.writeReset p v.toNat = (u, .done) :=
  if_pos (rests.imp (congrArg BitVec.toNat) inReset_iff.mpr)

theorem writeReset_starts {v : BitVec 8} (nonzero : v ≠ 0) (idle : (u.part p).reset.step = .idle) :
    u.writeReset p v.toNat = (u.startReset p false none, .done) := by
  refine if_neg ?_
  rintro (zero | busy)
  · exact nonzero (BitVec.eq_of_toNat_eq zero)
  · exact inReset_iff.mp busy idle

/-- R414: a reset that asks no peer starts here alone. -/
theorem startReset_alone {ctx : Bool} {load : Option (BitVec 64)} (alone : u.cfg 0x3010 7 p = 0) :
    u.startReset p ctx load = u.beginReset p (u.epoch p + 1) ctx load := if_pos alone

/-! ### PartContext (R407) -/

theorem writeContext_resetting {v : BitVec 64} (busy : u.resetting p = true) :
    u.writeContext p v = (u.setPart p { u.part p with reset := { (u.part p).reset with load := some v } }, .done) :=
  if_pos busy

theorem resetting_idle (idle : (u.part p).reset.step = .idle) : u.resetting p = false := by
  simp only [State.resetting, idle]

theorem resetting_awaitPeers (waits : (u.part p).reset.step = .awaitPeers) : u.resetting p = false := by
  simp only [State.resetting, waits]

/-- R407: a context that is written while only peers are awaited is loaded at once. -/
theorem writeContext_awaits {v : BitVec 64} (waits : (u.part p).reset.step = .awaitPeers) :
    u.writeContext p v = (u.setPart p { u.part p with contextId := v }, .done) := by
  have busy : u.inReset p = true := inReset_iff.mpr (by rw [waits]; decide)
  simp only [State.writeContext, resetting_awaitPeers waits, busy, Bool.false_eq_true, if_false, if_true, State.modPart]

/-- R407: what a context comes to outside a reset. -/
theorem writeContext_idle {v : BitVec 64} (idle : (u.part p).reset.step = .idle) : u.writeContext p v =
    if u.sweepMode p then (u.startReset p true (some v), .done)
    else if u.partClean p then
      (u.setPart p { u.part p with epoch := u.epoch p + 1, contextId := v }, .done)
    else (u.bump 0x3010 19 p, .accessError) := by
  have rests : u.inReset p = false := Bool.eq_false_iff.mpr fun busy => inReset_iff.mp busy idle
  simp only [State.writeContext, resetting_idle idle, rests, Bool.false_eq_true, if_false, State.modPart, State.epoch]

/-! ### PartQuiesceOverride (R412) -/

theorem override_rests (quiescing : (u.part p).reset.step ≠ .quiescing) (ackLow : (u.part p).reset.step ≠ .ackLow)
    (slice : u.reslice.step ≠ .quiescing) : u.override p = u := by
  simp only [State.override, quiescing, ackLow, slice, decide_false, Bool.false_and, Bool.or_self, Bool.false_eq_true,
    if_false]

theorem sliceQuiesced_idle {override : Bool} (idle : u.reslice.step = .idle) : u.sliceQuiesced p override = u :=
  if_neg fun ⟨quiescing, _⟩ => by simp [idle] at quiescing

/-- The hub once a request to quiesce is withdrawn by an override, which is counted (R412). -/
def State.overridden (u : State) (p : Nat) : State := (u.lowerQuiesce p).bump 0x3010 14 p

theorem overridden_frame (m : Nat) (within : 0x2000004001000 ||| m = m) : (u.overridden p).wipe m = u.wipe m :=
  (State.bump_wipe _ _ _ _ _ (mask_sub within (by decide))).trans
    (State.lowerQuiesce_wipe _ _ _ (mask_sub within (by decide)))

theorem overridden_part : (u.overridden p).part p = { u.part p with quiesceReq := false } := by
  rw [State.overridden, part_of_parts (parts_of_wipe (m := 0x2000004000000) (by decide)
    (State.bump_wipe _ _ _ _ _ (by decide)))]
  exact State.part_setPart_self _ _ _

theorem overridden_partOfIndex (i : Nat) : (u.overridden p).partOfIndex i = u.partOfIndex i := by
  unfold State.partOfIndex State.shareSize
  rw [partCount_of_wipe (by decide) (overridden_frame 0x2000004001000 rfl)]

/-- R412: an override ends the wait of a reset as its acknowledgement would. -/
theorem override_quiescing (waits : (u.part p).reset.step = .quiescing) (idle : u.reslice.step = .idle) :
    u.override p = (u.overridden p).resetQuiesced p true := by
  have still : (u.overridden p).reslice.step = .idle := by
    rw [reslice_of_wipe (by decide) (overridden_frame 0x2000004001000 rfl), idle]
  simp only [State.override, waits, decide_true, Bool.true_or, if_true]
  rw [← State.overridden, sliceQuiesced_idle still]

end

/-- Settles O50: each write by the rule of its entry; a reset that starts by what it has to end, and an override by the
reset whose wait it ends. -/
theorem partitionWrites : Obligations.PartitionWrites := by
  intro s u h w p r part reset
  subst part reset
  refine ⟨fun v writes => ⟨fun rests => ?_, fun nonzero idle => ⟨?_, fun alone ready => ?_⟩⟩,
    fun v writes => ⟨fun busy => ?_, fun waits => ?_, fun idle sweeps alone ready => ?_, fun idle keeps clean => ?_,
      fun idle keeps unclean => ?_⟩,
    fun v writes => ⟨fun rests => ?_, fun one waits idle alone => ?_⟩⟩
  -- PartReset
  · exact partReset_answers writes (writeReset_rests rests) rfl
  · exact partReset_finishes writes (writeReset_starts nonzero idle)
  · obtain ⟨record, request, epoch, frame⟩ := beginReset_atOnce (u.epoch h.partition.toNat + 1) false none ready
    rw [← startReset_alone alone] at record request epoch frame
    exact ⟨_, partReset_answers writes (writeReset_starts nonzero idle)
      (catOpen_of_wipe (by decide) (frame 0x4101000 rfl)), request, epoch, record, (frame _ (by decide)).symm⟩
  -- PartContext
  · exact partContext_answers writes (writeContext_resetting busy) rfl
  · exact partContext_answers writes (writeContext_awaits waits) rfl
  · obtain ⟨record, request, epoch, frame⟩ := beginReset_atOnce (u.epoch h.partition.toNat + 1) true (some v) ready
    rw [← startReset_alone alone] at record request epoch frame
    exact ⟨_, partContext_answers writes ((writeContext_idle idle).trans (if_pos sweeps))
      (catOpen_of_wipe (by decide) (frame 0x4101000 rfl)), request, epoch, record, (frame _ (by decide)).symm⟩
  · refine partContext_answers writes ?_ rfl
    rw [writeContext_idle idle, keeps, clean, if_neg Bool.false_ne_true, if_pos rfl]
  · refine partContext_answers writes ?_ (catOpen_of_wipe (m := 0x2000004000000) (by decide)
      (State.bump_wipe _ _ _ _ _ (by decide)))
    rw [writeContext_idle idle, keeps, unclean, if_neg Bool.false_ne_true, if_neg Bool.false_ne_true]
  -- PartQuiesceOverride
  · refine partOverride_answers writes ?_ rfl
    rcases rests with other | ⟨quiescing, ackLow, slice⟩
    · exact if_neg fun one => other (BitVec.eq_of_toNat_eq one)
    · rw [override_rests quiescing ackLow slice, ite_self]
  · subst one
    have ends := override_quiescing waits idle
    have frame := overridden_frame (u := u) (p := h.partition.toNat) 0x2000004001000 rfl
    have record := overridden_part (u := u) (p := h.partition.toNat)
    obtain ⟨epoch, latch, request, step, objs, waiters⟩ := resetQuiesced_alone (s := u.overridden h.partition.toNat)
      (p := h.partition.toNat) true (by rw [record]; exact alone) (by rw [reslice_of_wipe (by decide) frame, idle])
    simp only [record, overridden_partOfIndex, objs_of_wipe (by decide) frame, waiters_of_wipe (by decide) frame]
      at epoch request step objs waiters
    refine ⟨_, partOverride_answers writes ((if_pos rfl).trans ends) ?_, epoch, latch, request, step, objs, waiters⟩
    exact catOpen_of_wipe (m := 0x30878fffff800) (by decide)
      ((State.resetQuiesced_wipe _ _ _ _ (by decide)).trans (overridden_frame _ (by decide)))

end Sys2Proof.Machine
end

section
/-! SUPPORT. The Catalogue's writes of a reslice, of PortPartition, of PartJobFaultInject, and of PartHold and
PartResume (R395, R418, R420, R453, R478, R479). Each write comes to the rule of its entry (`resliceTarget_answers` and
those beside it). A hold or a resume of this hub alone answers its own write (`answerHold_cat`); one of all hubs leaves
the write open (`startHold_asks`). -/

namespace Sys2Proof.Machine

section
variable {s u x : State} {h : CatHdr} {w : Who} {p q n : Nat} {v : BitVec 8} {st : CatStatus}

/-! ### The entries -/

theorem writeEntry_resliceTarget (n : Nat) : u.writeEntry h w 0x3000 2 p n = atOnce (u.startReslice n) := by
  simp [State.writeEntry, State.writeMiddle, State.writeResliceEntry]

theorem writeEntry_resliceAbort (n : Nat) :
    u.writeEntry h w 0x3000 4 p n = doneWith (if n = 1 then u.abortReslice else u) := by
  simp [State.writeEntry, State.writeMiddle, State.writeResliceEntry]

theorem writeEntry_portPartition (inside : q < 128) (n : Nat) :
    u.writeEntry h w (0x3100 + q) 1 p n = atOnce (u.writePortPartition q n) := by
  have above : ¬ 0x3100 + q < 0x3000 := by omega
  have below : 0x3100 + q < 0x6000 := by omega
  have reslice : 0x3100 + q ≠ 0x3000 := by omega
  have parts : 0x3100 + q ≠ 0x3010 := by omega
  have ports : 0x3100 ≤ 0x3100 + q ∧ 0x3100 + q ≤ 0x317F := by omega
  rw [State.writeEntry, if_neg above, if_pos below, State.writeMiddle, if_neg reslice, if_neg parts, if_pos ports,
    Nat.add_sub_cancel_left]

theorem writeEntry_injectFault (n : Nat) : u.writeEntry h w 0x7030 4 p n = doneWith (u.injectFault p n) := by
  simp [State.writeEntry, State.writeHigh]

theorem writeEntry_hold (n : Nat) : u.writeEntry h w 0x6050 1 p n = (u.beginHold p (n.testBit 0) (.cat h), none) := by
  simp [State.writeEntry, State.writeHigh, State.writeHoldEntry]

theorem writeEntry_resume (n : Nat) :
    u.writeEntry h w 0x6050 2 p n = (u.startHold p true (n.testBit 0) (.cat h), none) := by
  simp [State.writeEntry, State.writeHigh, State.writeHoldEntry]

theorem resliceTarget_answers (writes : s.writing u h 0x3000 2 v.toNat w) (rule : u.startReslice v.toNat = (x, st))
    (still : x.catOpen = u.catOpen) : exec (.resliceTarget h v) s = .next (s.answered h 0x3000 2 st x) :=
  congrArg Host.Outcome.next (entryCommand_answers writes (.resliceTarget h v) (askWhole (by decide) _)
    (stored_byte rfl rfl v) ((writeEntry_resliceTarget _).trans (congrArg atOnce rule)) still)

theorem resliceAbort_answers (writes : s.writing u h 0x3000 4 v.toNat w)
    (rule : (if v.toNat = 1 then u.abortReslice else u) = x) (still : x.catOpen = u.catOpen) :
    exec (.resliceAbort h v) s = .next (s.answered h 0x3000 4 .done x) :=
  congrArg Host.Outcome.next (entryCommand_answers writes (.resliceAbort h v) (askWhole (by decide) _)
    (stored_byte rfl rfl v) ((writeEntry_resliceAbort _).trans (congrArg doneWith rule)) still)

theorem portPartition_answers {i : BitVec 16} (inside : q < 128) (block : i = BitVec.ofNat 16 (0x3100 + q))
    (writes : s.writing u h i 1 v.toNat w) (rule : u.writePortPartition q v.toNat = (x, st))
    (still : x.catOpen = u.catOpen) : exec (.portPartition h q v) s = .next (s.answered h i 1 st x) := by
  obtain ⟨index, row⟩ := port_row inside block
  have same : askRow (writeAsk i 1) = rowsPortPartition.head?.getD (hubRow 0 "" .u8 .ro) :=
    congrArg (Option.getD · _) row
  have scope : (askRow (writeAsk i 1)).scope ≠ .partition := by
    rw [same]
    decide
  have value : (askRow (writeAsk i 1)).stored v.toNat = v.toNat :=
    stored_byte (by rw [same]; rfl) (by rw [same]; rfl) v
  have answers := entryCommand_answers writes (.portPartition h q v) (askWhole scope _) value
    (by rw [index]; exact (writeEntry_portPartition inside _).trans (congrArg atOnce rule)) still
  rw [← answers, block, ← instIndex_of_lt inside]
  rfl

theorem injectFault_answers (writes : s.writing u h 0x7030 4 v.toNat w)
    (rule : u.injectFault h.partition.toNat v.toNat = x) (still : x.catOpen = u.catOpen) :
    exec (.partJobFaultInject h v) s = .next (s.answered h 0x7030 4 .done x) :=
  congrArg Host.Outcome.next (entryCommand_answers writes (.partJobFaultInject h v) (askPart rfl _)
    (stored_byte rfl rfl v) ((writeEntry_injectFault _).trans (congrArg doneWith rule)) still)

/-- R479, R507: PartHold and PartResume store bit 0 of their value, which names the scope. -/
theorem stored_scope {sub : BitVec 8} (bytes : (askRow (writeAsk 0x6050 sub)).ty.bytes = 1)
    (mask : (askRow (writeAsk 0x6050 sub)).mask = 1) :
    ((askRow (writeAsk 0x6050 sub)).stored v.toNat).testBit 0 = v.getLsbD 0 := by
  rw [stored_mask bytes mask v.isLt, Nat.testBit_and]
  exact Bool.and_true _

theorem partHold_runs (writes : s.writing u h 0x6050 1 v.toNat w) :
    exec (.partHold h v) s = .next (u.beginHold h.partition.toNat (v.getLsbD 0) (.cat h)) := by
  refine congrArg Host.Outcome.next (entryCommand_opens writes (.partHold h v) (askPart rfl _) rfl ?_)
  exact (writeEntry_hold _).trans (by rw [stored_scope rfl rfl])

theorem partResume_runs (writes : s.writing u h 0x6050 2 v.toNat w) :
    exec (.partResume h v) s = .next (u.startHold h.partition.toNat true (v.getLsbD 0) (.cat h)) := by
  refine congrArg Host.Outcome.next (entryCommand_opens writes (.partResume h v) (askPart rfl _) rfl ?_)
  exact (writeEntry_resume _).trans (by rw [stored_scope rfl rfl])

/-! ### The reslice (R418, R420) -/

/-- R418: a target that is no count, or is the present one, is refused, as is any during a reset or a reslice. -/
theorem startReslice_refuses (bad : n ∉ [1, 2, 4, 8, 16] ∨ n = u.partCount ∨ u.reslice.step ≠ .idle ∨
    (∃ y ∈ u.parts, y.2.reset.step ≠ .idle)) : u.startReslice n = (u, .accessError) :=
  if_pos (by simpa using bad)

/-- The hub once a reslice has begun to drain its affected partitions (R418). -/
def State.drains (u : State) (n : Nat) : State :=
  { u with reslice := { step := .draining, target := n, affected := resliceAffects u.partCount n
                        startedAt := u.clock } }

theorem startReslice_drains (count : n ∈ [1, 2, 4, 8, 16]) (other : n ≠ u.partCount) (idle : u.reslice.step = .idle)
    (rests : ∀ y ∈ u.parts, y.2.reset.step = .idle) :
    u.startReslice n =
      ((u.drains n).recallAll ((resliceAffects u.partCount n).flatMap (u.drains n).lendersOf), .done) := by
  refine if_neg ?_
  rintro (bad | same | busy | resets)
  · exact bad count
  · exact other same
  · exact busy idle
  · obtain ⟨y, there, busy⟩ := List.any_eq_true.mp resets
    exact of_decide_eq_true busy (rests y there)

theorem abortReslice_idle (idle : u.reslice.step = .idle) : u.abortReslice = u := by
  refine if_neg ?_
  simp [idle]

theorem abortReslice_ends (busy : u.reslice.step = .draining ∨ u.reslice.step = .quiescing) : u.abortReslice =
    ({ u with reslice := {} } : State).resliceNote u.partCount u.partCount 0 1 u.reslice.startedAt := if_pos busy

/-! ### PortPartition (R395) -/

theorem writePortPartition_refuses (bad : (u.port q).rstLow = false ∨ (n ≠ 0xFF ∧ u.partCount ≤ n)) :
    u.writePortPartition q n = (u, .accessError) := if_pos bad

theorem writePortPartition_takes (low : (u.port q).rstLow = true) (names : n = 0xFF ∨ n < u.partCount) :
    u.writePortPartition q n = (u.setCfg (0x3100 + q) 1 0 n, .done) := by
  refine if_neg ?_
  rintro (high | ⟨listed, outside⟩)
  · exact Bool.false_ne_true (high.symm.trans low)
  · exact names.elim listed (Nat.not_lt.mpr outside)

/-! ### Holds (R477 to R479) -/

/-- R479: a hold or a resume that has nothing to wait for answers its write. -/
theorem answerHold_cat {index : BitVec 16} {sub : BitVec 8} {m : Nat} (writes : s.writing u h index sub m w)
    (failed : Bool) (still : x.catOpen = u.catOpen) :
    x.answerHold (.cat h) failed = s.answered h index sub .done x := finish_answers writes still .done

theorem beginHold_held {all : Bool} {k : HoldWaiter} (held : (u.part p).hold.held = true) :
    u.beginHold p all k = u.answerHold k false := if_pos held

theorem beginHold_free {all : Bool} {k : HoldWaiter} (free : (u.part p).hold.held = false) :
    u.beginHold p all k = u.startHold p false all k := if_neg (Bool.eq_false_iff.mp free)

/-- What a scope-all hold at this hub waits for (R479). -/
def State.holdXchg (u : State) (p : Nat) (k : HoldWaiter) : HoldXchg where
  resume := false
  peers := ((u.holdHere p).namedHubs p).filter fun d => (u.holdHere p).reachableAt d 2
  failed := decide (0 < ((u.holdHere p).namedHubs p).length -
    (((u.holdHere p).namedHubs p).filter fun d => (u.holdHere p).reachableAt d 2).length)
  seq := Config.firstSeq 1 + (((u.holdHere p).part p).hold.seq + 1)
  since := u.clock
  waiter := k

/-- The hub once a scope-all hold has taken force here and its exchange has begun (R479). -/
def State.holdAsked (u : State) (p : Nat) (k : HoldWaiter) : State :=
  (u.holdHere p).modPart p fun y =>
    { y with hold := { y.hold with
        xs := y.hold.xs ++ [u.holdXchg p k], seq := ((u.holdHere p).part p).hold.seq + 1 } }

/-- R479: a scope-all hold that reaches a hub sends its requests, and waits. -/
theorem startHold_asks {k : HoldWaiter} (reaches : (u.holdXchg p k).peers ≠ []) : ∃ lost,
    u.startHold p false true k = ((u.holdAsked p k).bumpN 0x6050 5 p lost).sendHold p .holdReq (u.holdXchg p k).seq
      (u.holdXchg p k).peers := ⟨_, if_neg reaches⟩

theorem holdAsked_hold {k : HoldWaiter} : ((u.holdAsked p k).part p).hold = { (u.part p).hold with
    held := true, xs := (u.part p).hold.xs ++ [u.holdXchg p k], seq := (u.part p).hold.seq + 1 } := by
  rw [State.holdAsked, State.modPart, State.part_setPart_self, holdHere_part]

theorem startHold_frame {k : HoldWaiter} (reaches : (u.holdXchg p k).peers ≠ []) (m : Nat)
    (within : 0x30020e7000000 ||| m = m) : (u.startHold p false true k).wipe m = (u.holdAsked p k).wipe m := by
  obtain ⟨lost, asks⟩ := startHold_asks reaches
  rw [asks, State.sendHold_wipe _ _ _ _ _ _ within, State.bumpN_wipe _ _ _ _ _ _ (mask_sub within (by decide))]

theorem holdAsked_frame {k : HoldWaiter} (m : Nat) (within : 0x2002007001000 ||| m = m) :
    (u.holdAsked p k).wipe m = u.wipe m :=
  (State.modPart_wipe _ _ _ _ (mask_sub within (by decide))).trans (State.holdHere_wipe _ _ _ within)

end

/-- Settles O51: each write by the rule of its entry; a reslice by what it recalls, a hold by the hubs that it asks. -/
theorem resliceFaultAndHoldWrites : Obligations.ResliceFaultAndHoldWrites := by
  refine ⟨fun s u h w v => ⟨fun writes => ⟨fun bad => ?_, fun count other idle rests => ?_⟩,
    fun writes => ⟨fun rests => ?_, fun one busy => ?_⟩,
    fun q i inside block writes => ⟨fun bad => ?_, fun low names => ?_⟩,
    fun p part writes => ⟨fun zero => ?_, fun nonzero => ?_⟩⟩,
    fun s u h w v p part => ⟨fun writes => ⟨fun held => ?_, fun free here => ?_,
      fun y ns free all named reached reaches => ?_⟩, fun writes here => ?_⟩⟩
  -- ResliceTarget
  · exact resliceTarget_answers writes (startReslice_refuses bad) rfl
  · have frame := State.recallAll_wipe (u.drains v.toNat)
      ((resliceAffects u.partCount v.toNat).flatMap (u.drains v.toNat).lendersOf)
    have kept := frame 0x30020e7020000 rfl
    refine ⟨_, resliceTarget_answers writes (startReslice_drains count other idle rests)
      ((catOpen_of_wipe (by decide) kept).trans rfl), reslice_of_wipe (by decide) kept,
      ((frame _ (by decide)).trans (wipe_reslice _ (by decide) _ _)).symm, fun unlent => ?_⟩
    have empty : (resliceAffects u.partCount v.toNat).flatMap (u.drains v.toNat).lendersOf = [] :=
      List.flatMap_eq_nil_iff.mpr fun q _ => by
        rw [State.lendersOf, show (u.drains v.toNat).lenders = [] from unlent]
        rfl
    rw [empty]
    exact (wipe_reslice _ (by decide) _ _).symm
  -- ResliceAbort
  · refine resliceAbort_answers writes ?_ rfl
    rcases rests with other | idle
    · exact if_neg fun one => other (BitVec.eq_of_toNat_eq one)
    · rw [abortReslice_idle idle, ite_self]
  · subst one
    have frame := State.resliceNote_wipe ({ u with reslice := {} } : State) u.partCount u.partCount 0 1
      u.reslice.startedAt
    have kept := frame 0x2000007000000 rfl
    exact ⟨_, resliceAbort_answers writes ((if_pos rfl).trans (abortReslice_ends busy))
      ((catOpen_of_wipe (by decide) kept).trans rfl), reslice_of_wipe (by decide) kept,
      ((frame _ (by decide)).trans (wipe_reslice _ (by decide) _ _)).symm⟩
  -- PortPartition
  · refine portPartition_answers inside block writes (writePortPartition_refuses (bad.imp_right fun ⟨listed, outside⟩ =>
      ⟨fun absent => listed (BitVec.eq_of_toNat_eq absent), outside⟩)) rfl
  · exact portPartition_answers inside block writes
      (writePortPartition_takes low (names.imp_left (congrArg BitVec.toNat))) rfl
  -- PartJobFaultInject
  · exact injectFault_answers writes (if_pos (congrArg BitVec.toNat zero)) rfl
  · subst part
    have fails : u.injectFault h.partition.toNat v.toNat = u.failOne { cause := 0x20 } h.partition.toNat :=
      if_neg fun zero => nonzero (BitVec.eq_of_toNat_eq zero)
    have frame := State.failOne_wipe u { cause := 0x20 } h.partition.toNat
    exact ⟨_, injectFault_answers writes fails (catOpen_of_wipe (m := 0x30020e7771000) (by decide) (frame _ rfl)),
      failOne_faulted _ _ _ h.partition.isLt, (frame _ (by decide)).symm⟩
  -- PartHold
  · subst part
    rw [partHold_runs writes, beginHold_held held, answerHold_cat writes false rfl]
  · subst part
    have frame := State.holdHere_wipe u h.partition.toNat
    refine ⟨u.holdHere h.partition.toNat, ?_, holdHere_part _ _, (frame _ (by decide)).symm⟩
    rw [partHold_runs writes, here, beginHold_free free]
    exact congrArg _ (answerHold_cat writes false (catOpen_of_wipe (by decide) (frame 0x2002007001000 rfl)))
  · subst part named reached
    have frame := startHold_frame (u := u) (k := .cat h) reaches
    have hold : ((u.startHold h.partition.toNat false true (.cat h)).part h.partition.toNat).hold = _ :=
      (congrArg Part.hold (part_of_parts (parts_of_wipe (by decide) (frame 0x30020e7000000 rfl)) _)).trans
        holdAsked_hold
    rw [partHold_runs writes, all, beginHold_free free]
    refine ⟨_, rfl, ?_, by rw [hold], ?_, ?_⟩
    · exact (catOpen_of_wipe (by decide) (frame 0x30020e7000000 rfl)).trans
        (catOpen_of_wipe (by decide) (holdAsked_frame 0x2002007001000 rfl))
    · rw [hold, State.holdXchg, holdHere_part]
    · exact ((frame _ (by decide)).trans (holdAsked_frame _ (by decide))).symm
  -- PartResume
  · subst part
    have frame := State.resumeHere_wipe u h.partition.toNat
    refine ⟨u.resumeHere h.partition.toNat, ?_, resumeHere_part _ _, (frame _ (by decide)).symm⟩
    rw [partResume_runs writes, here]
    exact congrArg _ (answerHold_cat writes false (catOpen_of_wipe (by decide) (frame 0x2002007101000 rfl)))

end Sys2Proof.Machine
end

section
/-! SUPPORT. What time does to a partition (R412, R414, R460, R461, R479, R499): the wait for a quiesce, for the peers
of a reset, of an armed shelf and of a hold, the time at which a shelf latches, and the Stocktake round that is due.
Each command comes to its rule (`exec_partQuiesceWait` and those beside it). -/

namespace Sys2Proof.Machine

section
variable {s X Y : State} {p k : Nat} {h : HubId} {t : Nat}

/-! ### The commands -/

theorem exec_partQuiesceWait (live : s.live = true) (inside : p < 16) :
    exec (.partQuiesceWait p) s = .next (s.quiesceWait p) := atUnit_live _ live inside

theorem exec_resetPeerTimeout (live : s.live = true) (inside : p < 16) :
    exec (.resetPeerTimeout p h) s = .next (s.resetMissing p h) := atUnit_live _ live inside

theorem exec_shelfTimeLatch (live : s.live = true) (inside : p < 16) (shelf : k < 2) :
    exec (.shelfTimeLatch p k) s = .next (s.shelfTime p k) := atPair_live _ live inside shelf

theorem exec_shelfPeerTimeout (live : s.live = true) (inside : p < 16) (shelf : k < 2) :
    exec (.shelfPeerTimeout p k) s = .next (s.shelfMissing p k) := atPair_live _ live inside shelf

theorem exec_holdPeerTimeout (live : s.live = true) (inside : p < 16) :
    exec (.holdPeerTimeout p) s = .next (s.holdLate p (s.part p).hold.xs) := atUnit_live _ live inside

theorem exec_stocktakeRound (live : s.live = true) (inside : p < 16) :
    exec (.stocktakeRound p) s = .next (s.stockRound p) := atUnit_live _ live inside

/-! ### The quiesce (R412) -/

/-- R412: a quiesce that has lasted PartQuiesceWait is noted, with a record. -/
theorem quiesceWait_late (asked : (s.part p).quiesceReq = true) (fresh : (s.part p).quiesceNoted = false)
    (late : s.cfg 0x3010 12 p ≤ elapsed (s.part p).quiesceSince s.clock) :
    ∃ r, s.quiesceWait p = (s.setPart p { s.part p with quiesceNoted := true }).record r :=
  ⟨_, if_pos (by simp [asked, fresh, late])⟩

/-! ### The peers of a reset (R414) -/

theorem resetMissing_lost (lost : s.routeLostFor h = some t) (late : s.cfg 0x5100 5 ≤ t)
    (awaited : (s.part p).reset.peers.contains h = true) : s.resetMissing p h =
      ((s.modReset p fun x => { x with peers := x.peers.filter fun q => q ≠ h }).bump 0x3010 15 p).peersDone p := by
  simp only [State.resetMissing, lost, awaited, late, decide_true, Bool.and_self, if_true]

/-- Two hubs that agree but for their notes do so too once a partition has the same new record in both. -/
theorem setPart_notes (notes : Y.wipe 0x2002007000000 = X.wipe 0x2002007000000) (x : Part) :
    (Y.setPart p x).wipe 0x2002007000000 = (X.setPart p x).wipe 0x2002007000000 := by
  refine wipe_fill_parts ?_ (congrArg (Sparse.put partNone · p x) (parts_of_wipe (by decide) notes))
  rw [State.setPart_wipe _ _ _ _ (by decide), State.setPart_wipe _ _ _ _ (by decide)]
  exact wipe_mono (by decide) notes

theorem peersDone_notes (notes : Y.wipe 0x2002007000000 = X.wipe 0x2002007000000) :
    (Y.peersDone p).wipe 0x2002007000000 = (X.peersDone p).wipe 0x2002007000000 := by
  have same : Y.part p = X.part p := part_of_parts (parts_of_wipe (by decide) notes) p
  simp only [State.peersDone, modReset_eq, same]
  split
  · exact setPart_notes notes _
  · exact notes

/-- R410 step 7, R414: a reset is over once its last peer is no longer awaited. -/
theorem modReset_peersDone (f : ResetSeq → ResetSeq) : (s.modReset p f).peersDone p =
    s.setPart p { s.part p with reset := { f (s.part p).reset with
      step := if (f (s.part p).reset).step = .awaitPeers ∧ (f (s.part p).reset).peers = [] then .idle
              else (f (s.part p).reset).step } } := by
  rw [State.peersDone, modReset_part]
  split
  · rw [modReset_eq, modReset_part, modReset_eq, setPart_setPart]
  · rfl

/-! ### Shelves (R460, R461) -/

theorem shelfTime_due (armed : (s.shelf p k).state = .armed) (timed : (s.shelf p k).mode = false)
    (due : (s.shelf p k).armTime.toNat ≤ s.time.toNat) : s.shelfTime p k = s.latchShelf p k 0 :=
  if_pos ⟨armed, timed, due⟩

/-- R460: a shelf that this hub armed for itself latches, and tells no hub. -/
theorem latchShelf_own (own : (s.shelf p k).asker = none) (round : BitVec 28) :
    (s.latchShelf p k round).wipe 0x2002007000000 = (s.setShelf p k { s.shelf p k with
      state := .latched
      status := 0
      latches := (s.shelf p k).latches + 1
      latchTime := s.time
      round := round
      counters := s.shelfCounters p
      generation := (s.shelf p k).generation + 1 }).wipe 0x2002007000000 := by
  simp only [State.latchShelf, State.shelfDone, own]
  split
  · exact State.record_wipe _ _ _ rfl
  · exact (State.notifyRing_wipe _ _ _ _ _ _ (by decide)).trans (State.record_wipe _ _ _ rfl)

theorem shelfMissing_late (awaits : (s.shelf p k).peers ≠ [])
    (late : s.cfg 0x5100 5 ≤ elapsed (s.shelf p k).since s.clock) : s.shelfMissing p k =
      s.setShelf p k { s.shelf p k with
        peers := []
        peersFailed := (s.shelf p k).peersFailed + BitVec.ofNat 32 (s.shelf p k).peers.length } := if_pos ⟨awaits, late⟩

/-! ### Holds (R479) -/

/-- R479: the only exchange of a partition ends without the acknowledgements that are missing. -/
theorem holdLate_only {e : HoldXchg} (only : (s.part p).hold.xs = [e]) (awaits : e.peers ≠ [])
    (late : s.cfg 0x5100 5 ≤ elapsed e.since s.clock) :
    s.holdLate p (s.part p).hold.xs =
      ((s.setPart p { s.part p with hold := { (s.part p).hold with xs := [] } }).bumpN 0x6050 5 p
        e.peers.length).answerHold e.waiter true := by
  have failed : (e.failed || !e.peers.isEmpty) = true := by simp [awaits]
  rw [only]
  simp only [State.holdLate, if_pos late, State.holdDone, failed, State.modPart, only, List.erase_cons_head]

/-- R479: an op whose hold fails is answered with UNREACHABLE. -/
theorem answerHold_unreachable {q n : Nat} {r : Pend}
    (found : (X.port q).pend.find? (fun r => r.entry = n && !r.arrived) = some r)
    (service : codeService r.opcode = true) (clear : (X.port q).laneClear r.lane r.op) :
    Answered (X.answerHold (.op q n) true) q r.lane r.op .unreachable ∧
    ∀ m, 0x2002007100000 ||| m = m → (X.answerHold (.op q n) true).wipe m = X.wipe m := by
  have answers : X.answerHold (.op q n) true = X.serviceDone q r .unreachable 0 := by
    simp only [State.answerHold, found, if_true]
  obtain ⟨answered, -, -, -, -, frame⟩ := serviceDone_lane (X := X) (p := q) .unreachable 0 service clear
  rw [answers]
  exact ⟨answered_of answered, frame⟩

/-! ### Stocktake (R499) -/

theorem stockRuns_undeclared (runs : s.stockRuns p = true) : (s.part p).stock.state ≠ .declared := by
  simp only [State.stockRuns, Bool.and_eq_true, decide_eq_true_eq] at runs
  exact runs.2

/-- R499: a round that is due and that ends no other starts. -/
theorem stockRound_due (runs : s.stockRuns p = true)
    (due : s.cfg 0x6070 3 p ≤ elapsed (s.part p).stock.startedAt s.clock) (first : (s.part p).stock.scope = []) :
    s.stockRound p = s.startRound p := by
  simp only [State.stockRound, runs, due, first, decide_true, Bool.and_self, if_true,
    stockRuns_undeclared runs, if_false]

end

/-- Settles O30: each wait by what its end leaves, but for the hub's notes where the end is counted or recorded. -/
theorem partitionDeadlines : Obligations.PartitionDeadlines := by
  intro s p live inside
  refine ⟨fun asked fresh late => ?_, fun h t lost late awaited => ?_,
    fun k shelf => ⟨fun armed timed due own => ?_, fun awaits late => ?_⟩,
    fun e only awaits late => ⟨fun nobody => ?_, fun q n r waiter found service clear => ?_⟩, fun runs due first => ?_⟩
  -- a quiesce
  · obtain ⟨r, noted⟩ := quiesceWait_late asked fresh late
    refine brings_of (exec_partQuiesceWait live inside) ?_
    rw [noted]
    exact State.record_wipe _ _ _ rfl
  -- a peer of a reset
  · refine brings_of (exec_resetPeerTimeout live inside) ?_
    rw [resetMissing_lost lost late awaited, peersDone_notes (State.bump_wipe _ _ _ _ _ (by decide)),
      modReset_peersDone]
  -- a shelf
  · refine brings_of (exec_shelfTimeLatch live inside shelf) ?_
    rw [shelfTime_due armed timed due]
    exact latchShelf_own own 0
  · rw [exec_shelfPeerTimeout live inside shelf, shelfMissing_late awaits late]
  -- a hold
  · refine brings_of (exec_holdPeerTimeout live inside) ?_
    rw [holdLate_only only awaits late, nobody]
    exact State.bumpN_wipe _ _ _ _ _ _ (by decide)
  · have counts := State.bumpN_wipe (s.setPart p { s.part p with hold := { (s.part p).hold with xs := [] } }) 0x6050 5 p
      e.peers.length
    generalize ended : (s.setPart p { s.part p with hold := { (s.part p).hold with xs := [] } }).bumpN 0x6050 5 p
      e.peers.length = X at counts
    have ports : X.port q = s.port q := port_of_ports (ports_of_wipe (by decide) (counts 0x2000004000000 rfl)) q
    have record : (X.part p).hold.xs = [] := by
      rw [part_of_parts (parts_of_wipe (by decide) (counts 0x2000004000000 rfl)), State.part_setPart_self]
    obtain ⟨answered, frame⟩ := answerHold_unreachable (X := X) (by rw [ports]; exact found) service
      (by rw [ports]; exact clear)
    refine ⟨_, exec_holdPeerTimeout live inside, ?_⟩
    rw [holdLate_only only awaits late, waiter, ended]
    refine ⟨answered, ?_, Eq.symm ?_⟩
    · rw [part_of_parts (parts_of_wipe (by decide) (frame 0x2002007100000 rfl)), record]
    · exact (frame _ (by decide)).trans ((counts _ (by decide)).trans (State.setPart_wipe _ _ _ _ (by decide)))
  -- a Stocktake round
  · rw [exec_stocktakeRound live inside, stockRound_due runs due first]
    rfl

end Sys2Proof.Machine
end

section
/-! SUPPORT. The step of the hub and what every step keeps (R19, R446, R522, R532, R545 to R549, R556). What a step can
do is said once (`step_cases`). What a command leaves as it was comes from the fields that it may touch: `exec_keeps`
for all but nine commands, and a mask of its own for each of the nine (`onlyAsNamed_of_wipe`). -/

namespace Sys2Proof.Machine

section
variable {s t : State}

/-! ### The step -/

theorem step_held {x : Principal × Instr} (empty : s.pending = []) (silent : s.inbox = []) (held : s.nextHeld = some x)
    (runs : exec x.2 (s.takeHeld x.1) = .next t) :
    step s = .next { t with catHeld := t.catHeld ++ s.heldBehind x.1 } := by
  simp only [step, idle, empty, silent, held, runs, requeue]

theorem step_ticks (empty : s.pending = []) (silent : s.inbox = []) (unheld : s.nextHeld = none) :
    step s = .next s.tickOnce := by
  simp only [step, idle, empty, silent, unheld]

theorem requeue_next {xs : List (Principal × Instr)} {o : Host.Outcome State Fault Refusal}
    (h : requeue xs o = .next t) : ∃ u, o = .next u ∧ t = { u with catHeld := u.catHeld ++ xs } := by
  cases o with
  | next u => cases h; exact ⟨u, rfl, rfl⟩
  | fault f => cases h
  | refused r => cases h

/-- What a step can do (log entry 32). -/
theorem step_cases (h : step s = .next t) :
    (∃ c cs, exec c { s with pending := cs } = .next t) ∨
    (∃ x xs, t = ({ s with inbox := xs } : State).performMsg x) ∨
    (∃ x : Principal × Instr, ∃ u, exec x.2 (s.takeHeld x.1) = .next u ∧
      t = { u with catHeld := u.catHeld ++ s.heldBehind x.1 }) ∨
    t = s.tickOnce := by
  unfold step idle at h
  split at h
  · exact .inl ⟨_, _, h⟩
  · split at h
    · cases h
      exact .inr (.inl ⟨_, _, rfl⟩)
    · split at h
      · exact .inr (.inr (.inl ⟨_, requeue_next h⟩))
      · cases h
        exact .inr (.inr (.inr rfl))

/-! ### The timebase (R549, R556) -/

theorem reset_clockInv : State.reset.clockInv := ⟨by decide, by decide⟩

/-- A reset leaves the timebase stopped, in its first place. -/
theorem cleared_clockInv (supply : Bool) : (s.cleared supply).clockInv := clock_same rfl rfl rfl reset_clockInv

theorem startup_clockInv (dev : BitVec 12) (die sel : BitVec 3) (absent : BitVec 128) (inv : s.clockInv) :
    (s.startup dev die sel absent).clockInv := by
  unfold State.startup
  split
  · exact ⟨by simp, reset_clockInv.2⟩
  · exact inv

theorem startupComplete_clockInv (inv : s.clockInv) : s.startupComplete.clockInv := by
  obtain ⟨runs, place⟩ := inv
  have frame := State.startupComplete_wipe s 0x38aa8ffffd402 rfl
  have running := running_of_wipe (by decide) frame
  have tick := tick_of_wipe (by decide) frame
  refine ⟨?_, tick ▸ place⟩
  rw [running, runs]
  rcases complete_phase s with same | ⟨starting, operational⟩
  · rw [same]
  · simp [starting, operational]

/-- The phase, the run of the timebase and its place are among the fields that a frame keeps. -/
theorem clockInv_of_wipe {m : Nat} (frame : t.wipe m = s.wipe m) (phase : m.testBit 1 = false)
    (running : m.testBit 8 = false) (tick : m.testBit 7 = false) (inv : s.clockInv) : t.clockInv :=
  clock_same (phase_of_wipe phase frame) (running_of_wipe running frame) (tick_of_wipe tick frame) inv

/-! ### What every command keeps -/

theorem exec_clockInv {i : Instr} (inv : s.clockInv) (h : exec i s = .next t) : t.clockInv := by
  cases hi : special i with
  | false => exact clockInv_of_wipe (exec_keeps hi h) (by decide) (by decide) (by decide) inv
  | true =>
    cases i with
    | hubReset supply => cases h; exact cleared_clockInv supply
    | startup dev die sel absent => cases h; exact startup_clockInv dev die sel absent inv
    | startupComplete => cases h; exact startupComplete_clockInv inv
    | refclkLoss =>
      exact clockInv_of_wipe (execRefclkLoss_wipe 0x30020e7771200 rfl h) (by decide) (by decide) (by decide) inv
    | refclkReturn => cases h; exact inv
    | setEndpointId =>
      exact clockInv_of_wipe (execSetEndpointId_wipe _ _ _ 0x1040000000000 rfl h) (by decide) (by decide) (by decide) inv
    | stageRestart =>
      exact clockInv_of_wipe (execStageRestart_wipe _ _ _ _ 0x372abe7775400 rfl h) (by decide) (by decide) (by decide) inv
    | stageRetry =>
      exact clockInv_of_wipe (execStageRetry_wipe _ _ _ 0x372abe7775400 rfl h) (by decide) (by decide) (by decide) inv
    | scrubAccess =>
      exact clockInv_of_wipe (execScrubAccess_wipe _ 0x38828fff75000 rfl h) (by decide) (by decide) (by decide) inv
    | _ => cases hi

theorem tickOnce_clockInv (inv : s.clockInv) : s.tickOnce.clockInv := by
  obtain ⟨runs, place⟩ := inv
  have frame := State.tickOnce_wipe s 0x70aa8ffffd4c0 rfl
  refine ⟨?_, ?_⟩
  · rw [running_of_wipe (by decide) frame, phase_of_wipe (by decide) frame, runs]
  · rw [tick_once]
    split <;> omega

/-- Every step keeps the stores in their canonical form. -/
theorem step_stores (stores : s.storesWf = true) (h : step s = .next t) : t.storesWf = true := by
  rcases step_cases h with ⟨c, cs, runs⟩ | ⟨x, xs, rfl⟩ | ⟨x, u, runs, rfl⟩ | rfl
  · exact exec_stores (s := { s with pending := cs }) stores runs
  · exact State.performMsg_stores _ x stores
  · exact exec_stores (u := u) (State.takeHeld_stores s x.1 stores) runs
  · exact State.tickOnce_stores s stores

/-- Every step keeps the timebase in order. -/
theorem step_clockInv (inv : s.clockInv) (h : step s = .next t) : t.clockInv := by
  rcases step_cases h with ⟨c, cs, runs⟩ | ⟨x, xs, rfl⟩ | ⟨x, u, runs, rfl⟩ | rfl
  · exact exec_clockInv (s := { s with pending := cs }) inv runs
  · exact clockInv_of_wipe (s := { s with inbox := xs }) (State.performMsg_wipe _ x 0x30aa9ffffd000 rfl) (by decide)
      (by decide) (by decide) inv
  · exact exec_clockInv (s := s.takeHeld x.1) (t := u) inv runs
  · exact tickOnce_clockInv inv

/-! ### What only certain commands can change -/

/-- What a command may change of the identity, the phase, the clock, the endpoint ID, the stages and the scrub. -/
def OnlyAsNamed (i : Instr) (s t : State) : Prop :=
  t.pending = s.pending ∧
  ((∀ b, i ≠ .hubReset b) → (∀ d e r a, i ≠ .startup d e r a) →
    t.build = s.build ∧ t.device = s.device ∧ t.die = s.die ∧ t.refSel = s.refSel ∧ t.running = s.running ∧
    t.tick = s.tick ∧ (i ≠ .startupComplete → t.phase = s.phase) ∧
    (i ≠ .refclkLoss → i ≠ .refclkReturn → t.refLost = s.refLost) ∧
    ((∀ a b c, i ≠ .setEndpointId a b c) → t.eid = s.eid) ∧
    ((∀ a b c d, i ≠ .stageRestart a b c d) → (∀ a b c, i ≠ .stageRetry a b c) →
      t.stageOut = s.stageOut ∧ t.stageFails = s.stageFails) ∧
    ((∀ w, i ≠ .scrubAccess w) → i ≠ .startupComplete → t.scrubStart = s.scrubStart))

/-- The fields that no command but HUB_RESET and STARTUP touches. -/
def hubFields : List Field := [.pending, .build, .device, .die, .refSel, .running, .tick]

/-- A command whose frame keeps the fields that it is not named for. -/
theorem onlyAsNamed_of_wipe {i : Instr} {m : Nat} (frame : t.wipe m = s.wipe m)
    (hub : ∀ f ∈ hubFields, m.testBit f.bit = false) (phase : i ≠ .startupComplete → m.testBit 1 = false)
    (clock : i ≠ .refclkLoss → i ≠ .refclkReturn → m.testBit 9 = false)
    (eid : (∀ a b c, i ≠ .setEndpointId a b c) → m.testBit 42 = false)
    (stages : (∀ a b c d, i ≠ .stageRestart a b c d) → (∀ a b c, i ≠ .stageRetry a b c) →
      m.testBit 46 = false ∧ m.testBit 45 = false)
    (scrub : (∀ w, i ≠ .scrubAccess w) → i ≠ .startupComplete → m.testBit 47 = false) : OnlyAsNamed i s t := by
  simp only [hubFields, List.forall_mem_cons] at hub
  obtain ⟨pending, build, device, die, refSel, running, tick, -⟩ := hub
  exact ⟨pending_of_wipe pending frame, fun _ _ => ⟨build_of_wipe build frame, device_of_wipe device frame,
    die_of_wipe die frame, refSel_of_wipe refSel frame, running_of_wipe running frame, tick_of_wipe tick frame,
    fun h => phase_of_wipe (phase h) frame, fun a b => refLost_of_wipe (clock a b) frame,
    fun h => eid_of_wipe (eid h) frame,
    fun a b => ⟨stageOut_of_wipe (stages a b).1 frame, stageFails_of_wipe (stages a b).2 frame⟩,
    fun a b => scrubStart_of_wipe (scrub a b) frame⟩⟩

theorem startup_pending (dev : BitVec 12) (die sel : BitVec 3) (absent : BitVec 128) :
    (s.startup dev die sel absent).pending = s.pending := by
  unfold State.startup
  split <;> rfl

theorem exec_onlyAsNamed {i : Instr} (h : exec i s = .next t) : OnlyAsNamed i s t := by
  cases hi : special i with
  | false =>
    exact onlyAsNamed_of_wipe (exec_keeps hi h) (by decide) (fun _ => by decide) (fun _ _ => by decide)
      (fun _ => by decide) (fun _ _ => by decide) (fun _ _ => by decide)
  | true =>
    cases i with
    | hubReset supply => cases h; exact ⟨rfl, fun other => absurd rfl (other supply)⟩
    | startup dev die sel absent =>
      cases h
      exact ⟨startup_pending dev die sel absent, fun _ other => absurd rfl (other dev die sel absent)⟩
    | startupComplete =>
      exact onlyAsNamed_of_wipe (execStartupComplete_wipe 0x38aa8ffffd402 rfl h) (by decide) (fun other => absurd rfl other)
        (fun _ _ => by decide) (fun _ => by decide) (fun _ _ => by decide) (fun _ other => absurd rfl other)
    | refclkLoss =>
      exact onlyAsNamed_of_wipe (execRefclkLoss_wipe 0x30020e7771200 rfl h) (by decide) (fun _ => by decide)
        (fun other => absurd rfl other) (fun _ => by decide) (fun _ _ => by decide) (fun _ _ => by decide)
    | refclkReturn =>
      exact onlyAsNamed_of_wipe (execRefclkReturn_wipe 0x200 rfl h) (by decide) (fun _ => by decide)
        (fun _ other => absurd rfl other) (fun _ => by decide) (fun _ _ => by decide) (fun _ _ => by decide)
    | setEndpointId src tag e =>
      exact onlyAsNamed_of_wipe (execSetEndpointId_wipe src tag e 0x1040000000000 rfl h) (by decide) (fun _ => by decide)
        (fun _ _ => by decide) (fun other => absurd rfl (other src tag e)) (fun _ _ => by decide) (fun _ _ => by decide)
    | stageRestart k port items ok =>
      exact onlyAsNamed_of_wipe (execStageRestart_wipe k port items ok 0x372abe7775400 rfl h) (by decide)
        (fun _ => by decide) (fun _ _ => by decide) (fun _ => by decide)
        (fun other => absurd rfl (other k port items ok)) (fun _ _ => by decide)
    | stageRetry k port ok =>
      exact onlyAsNamed_of_wipe (execStageRetry_wipe k port ok 0x372abe7775400 rfl h) (by decide) (fun _ => by decide)
        (fun _ _ => by decide) (fun _ => by decide) (fun _ other => absurd rfl (other k port ok)) (fun _ _ => by decide)
    | scrubAccess w =>
      exact onlyAsNamed_of_wipe (execScrubAccess_wipe w 0x38828fff75000 rfl h) (by decide) (fun _ => by decide)
        (fun _ _ => by decide) (fun _ => by decide) (fun _ _ => by decide) (fun other => absurd rfl (other w))
    | _ => cases hi

end

/-- Settles O1: the step's definition, queue by queue. -/
theorem stepRunsTheFront : Obligations.StepRunsTheFront :=
  fun _ => ⟨fun _ _ => rfl, fun _ _ => rfl, fun _ empty silent held _ runs => step_held empty silent held runs, step_ticks⟩

/-- Settles O3: each command by its frame. -/
theorem onlyTheseCommands : Obligations.OnlyTheseCommands := fun _ _ _ => exec_onlyAsNamed

/-- Settles O4: each thing that a step can do keeps the stores canonical and the timebase in order. -/
theorem stepsKeepTheHubSound : Obligations.StepsKeepTheHubSound :=
  fun _ _ stores inv h => ⟨step_stores stores h, step_clockInv inv h⟩

/-- Settles O5: every store of the reset state is empty, and an empty store reads as its reset value. -/
theorem resetIsSound : Obligations.ResetIsSound :=
  ⟨by decide, reset_clockInv, rfl, rfl, rfl, rfl, fun _ => ⟨rfl, rfl⟩, fun _ => rfl, fun _ => rfl,
    fun _ => (by decide : entryValid (routeNone 0) = false), rfl, rfl, rfl, rfl, rfl, rfl⟩

end Sys2Proof.Machine
end

section
/-! SUPPORT. The messages of a hold between hubs, of Stocktake and of a shelf (R460 to R462, R477 to R479, R495, R498 to
R500). A message of each family comes to the rule of its kind (`exec_holdMessage` and those beside it). An acknowledgement
is said by whether the only exchange of its partition awaits it (`holdMsgAck_only`), an Inventory by what taking it leaves
(`takeInventory_runs`), and a shelf by the record that its arming or its end writes. -/

namespace Sys2Proof.Machine

section
variable {s u : State} {h : MsgHdr} {m : Msg} {p : Nat}

/-! ### The commands -/

/-- The command that brings a HOLD_CTL message. -/
def holdCommand (h : MsgHdr) (b : HoldBody) : HoldKind → Instr
  | .holdReq => .holdReq h b
  | .holdAck => .holdAck h b
  | .resumeReq => .resumeReq h b
  | .resumeAck => .resumeAck h b

/-- The command that brings a STOCKTAKE message. -/
def stockCommand (h : MsgHdr) (b : StockBody) : StockKind → Instr
  | .query => .query h b
  | .report => .report h b
  | .declare => .declare h b

/-- The command that brings a SHELF message. -/
def shelfCommand (h : MsgHdr) (b : ShelfBody) : ShelfKind → Instr
  | .arm => .shelfArm h b
  | .done => .shelfDone h b
  | .cancel => .shelfCancel h b

theorem exec_holdMessage {b : HoldBody} (k : HoldKind) (live : s.live = true) (far : s.notW1 m) (taken : u = s.taken m)
    (carried : m = { hdr := h, body := .holdCtl k b }) : exec (holdCommand h b k) s = .next (u.holdMessage h k b) := by
  subst carried taken
  cases k <;> exact congrArg Host.Outcome.next (messageCommand_taken live far)

theorem exec_stockMessage {b : StockBody} (k : StockKind) (live : s.live = true) (far : s.notW1 m) (taken : u = s.taken m)
    (carried : m = { hdr := h, body := .stocktake k b }) : exec (stockCommand h b k) s = .next (u.stockMessage h k b) := by
  subst carried taken
  cases k <;> exact congrArg Host.Outcome.next (messageCommand_taken live far)

theorem exec_shelfMessage {b : ShelfBody} (k : ShelfKind) (live : s.live = true) (far : s.notW1 m) (taken : u = s.taken m)
    (carried : m = { hdr := h, body := .shelf k b }) : exec (shelfCommand h b k) s = .next (u.shelfMessage h k b) := by
  subst carried taken
  cases k <;> exact congrArg Host.Outcome.next (messageCommand_taken live far)

/-! ### HOLD_CTL (R479) -/

theorem holdMsgReq_built {b : HoldBody} {resume : Bool} (built : p < u.partCount) : u.holdMsgReq p resume b =
    (if resume then u.resumeHere p else u.holdHere p).send
      { hdr := u.hdrTo b.requester p, body := .holdCtl (if resume then .resumeAck else .holdAck) b } :=
  if_neg (Nat.not_le.mpr built)

section
variable {b : HoldBody} {src : HubId} {x : Bool} {e : HoldXchg}

/-- The hub with other exchanges of a partition's hold. -/
def State.withXchgs (u : State) (p : Nat) (xs : List HoldXchg) : State :=
  u.setPart p { u.part p with hold := { (u.part p).hold with xs := xs } }

/-- An exchange that no longer awaits a hub. -/
def HoldXchg.without (e : HoldXchg) (src : HubId) : HoldXchg := { e with peers := e.peers.filter fun d => d ≠ src }

theorem holdMsgAck_unasked (unasked : ((u.part p).hold.xs.any fun e =>
    e.resume = x && e.seq = b.seq && e.peers.contains src) = false) : u.holdMsgAck src p x b = u := by
  have none : ((u.part p).hold.xs.find? fun e => e.resume = x && e.seq = b.seq && e.peers.contains src) = none :=
    List.find?_eq_none.mpr (List.any_eq_false.mp unasked)
  simp only [State.holdMsgAck, none]

/-- R479: an acknowledgement that the only exchange awaits; the last one ends the exchange. -/
theorem holdMsgAck_only (only : (u.part p).hold.xs = [e]) (way : e.resume = x) (number : e.seq = b.seq)
    (awaited : e.peers.contains src = true) : u.holdMsgAck src p x b =
      if (e.without src).peers = [] then (u.withXchgs p [e.without src]).holdDone p (e.without src)
      else u.withXchgs p [e.without src] := by
  have found : ([e].find? fun e => e.resume = x && e.seq = b.seq && e.peers.contains src) = some e := by
    simp only [List.find?_cons, way, number, awaited, decide_true, Bool.and_self]
  simp only [State.holdMsgAck, State.modPart, only, found, List.map_cons, List.map_nil, if_true]
  rfl

/-- An exchange that awaits no hub and that nobody waits for ends without a trace. -/
theorem holdDone_nobody (unheard : e.peers = []) (nobody : e.waiter = .nobody) :
    (u.withXchgs p [e]).holdDone p e = u.withXchgs p [] := by
  simp only [State.holdDone, State.withXchgs, State.modPart, State.part_setPart_self, setPart_setPart,
    List.erase_cons_head, unheard, nobody, List.length_nil, State.bumpN, State.answerHold]

end

/-! ### Stocktake (R495, R498 to R500) -/

section
variable {b : StockBody} {src : HubId}

theorem stockQuery_built (built : p < u.partCount) : u.stockQuery p b = u.send
    { hdr := u.hdrTo b.coordinator p, body := .stocktake .report (u.stockReport p b.round b.coordinator) } :=
  if_neg (Nat.not_le.mpr built)

theorem stockReported_asked (asked : (u.part p).stock.scope.contains src = true)
    (present : b.round = (u.part p).stock.round)
    (first : ((u.part p).stock.reports.any fun r => r.1 = src) = false) : u.stockReported src p b =
      u.setPart p { u.part p with stock := { (u.part p).stock with
        reports := (u.part p).stock.reports ++ [(src, b)] } } :=
  if_pos (by simp only [asked, present, first, decide_true, Bool.not_false, Bool.and_self])

theorem stockReported_former (former : b.round ≠ (u.part p).stock.round) : u.stockReported src p b = u :=
  if_neg (by simp [former])

theorem inventoryBar_free (base : u.cfg 0x6040 1 p ≠ 0) (rests : (u.part p).inv.running = false) :
    u.inventoryBar p = 0 := by
  simp only [State.inventoryBar, base, rests, if_false, Bool.false_eq_true]

theorem inventoryBar_held (bar : u.cfg 0x6040 1 p = 0 ∨ (u.part p).inv.running = true) : u.inventoryBar p ≠ 0 := by
  unfold State.inventoryBar
  rcases bar with unset | runs
  · simp [unset]
  · rw [runs]
    split <;> decide

/-- R488, R491: what taking an Inventory leaves: it runs, and its entries' writes are issued. -/
theorem takeInventory_runs (reason : Nat) (round : BitVec 32) : ∃ n c ws,
    ((u.takeInventory p reason round).part p).inv =
      { running := true, entries := n, truncated := c, aborted := false, reason := reason } ∧
    (u.takeInventory p reason round).mgr = u.mgr ++ ws ∧ ws.length = n ∧
    (∀ q ∈ ws, q.kind = .inventory ∧ q.partition = p) ∧ SameBut [.parts, .mgr, .cat] u (u.takeInventory p reason round) := by
  have frame : SameBut [.parts, .mgr, .cat] u (u.takeInventory p reason round) :=
    (State.takeInventory_wipe u p reason round _ (by decide)).symm
  unfold State.takeInventory at frame ⊢
  dsimp only at frame ⊢
  generalize decide (u.cfg 0x6040 2 p / 64 < (u.invEntries p reason round).length + 1) = cut at frame ⊢
  generalize (if cut = true then (u.invEntries p reason round).take (u.cfg 0x6040 2 p / 64 - 1)
    else u.invEntries p reason round) = kept at frame ⊢
  obtain ⟨ws, issued, count, mine⟩ := invIssue_mgr p (kept ++ [invEnd (kept.length + 1) cut false]) u 0
  refine ⟨kept.length + 1, cut, ws, ?_, ?_, by simp [count], mine, frame⟩
  · rw [State.modPart, State.part_setPart_self]
  · rw [issued]
    rfl

theorem deadlockInventory_off (off : u.cfg 0x6040 6 p = 0) (round : BitVec 32) : u.deadlockInventory p round = u :=
  if_neg fun on => on.1 off

theorem deadlockInventory_takes (on : u.cfg 0x6040 6 p ≠ 0) (base : u.cfg 0x6040 1 p ≠ 0)
    (rests : (u.part p).inv.running = false) (round : BitVec 32) :
    u.deadlockInventory p round = u.takeInventory p 1 round := if_pos ⟨on, inventoryBar_free base rests⟩

theorem stockDeclared_built (built : p < u.partCount) : u.stockDeclared p b = u.deadlockInventory p b.round :=
  if_neg (Nat.not_le.mpr built)

end

/-! ### Shelves (R460 to R462) -/

section
variable {b : ShelfBody} {src : HubId} {k : Nat} {a : Arming}

/-- A shelf once an arming is in force (R460). -/
def Shelf.armedBy (x : Shelf) (a : Arming) : Shelf :=
  { x with
    state := .armed
    mode := a.mode
    armTime := a.time
    armIndex := a.index
    armRound := a.round
    asker := a.asker
    round := 0
    latchTime := 0
    counters := []
    status := 0
    generation := x.generation + 1 }

theorem armShelf_arms (sound : u.armFails p a = none) :
    u.armShelf p a = u.setShelf p a.shelf ((u.shelf p a.shelf).armedBy a) := by
  simp only [State.armShelf, sound]
  rfl

theorem shelfArmMsg_built (built : p < u.partCount) : u.shelfArmMsg src p b =
    u.armShelf p { shelf := bitNat b.shelf, mode := b.mode, index := b.index, round := b.round, time := b.time
                   asker := some (src, b.seq) } := if_neg (Nat.not_le.mpr built)

/-- R461: a shelf that this hub armed for itself is cancelled, and tells no hub. -/
theorem cancelShelf_own (armed : (u.shelf p k).state = .armed) (own : (u.shelf p k).asker = none) :
    u.cancelShelf p k = u.setShelf p k { u.shelf p k with state := .failed, status := 4 } := by
  simp only [State.cancelShelf, armed, if_true, State.failShelf, State.shelfDone, own]

theorem cancelShelf_rests (rests : (u.shelf p k).state ≠ .armed) : u.cancelShelf p k = u := if_neg rests

theorem shelfCancelMsg_built (built : p < u.partCount) : u.shelfCancelMsg p b = u.cancelShelf p (bitNat b.shelf) :=
  if_neg (Nat.not_le.mpr built)

theorem shelfDoneMsg_awaited (awaited : (u.shelf p (bitNat b.shelf)).peers.contains src = true)
    (number : b.seq = (u.shelf p (bitNat b.shelf)).number) : u.shelfDoneMsg src p b =
      u.setShelf p (bitNat b.shelf)
        (if b.status = 0 then { u.shelf p (bitNat b.shelf) with
            peers := (u.shelf p (bitNat b.shelf)).peers.filter fun d => d ≠ src
            peersLatched := (u.shelf p (bitNat b.shelf)).peersLatched + 1 }
          else { u.shelf p (bitNat b.shelf) with
            peers := (u.shelf p (bitNat b.shelf)).peers.filter fun d => d ≠ src
            peersFailed := (u.shelf p (bitNat b.shelf)).peersFailed + 1 }) :=
  if_pos (by simp only [awaited, number, decide_true, Bool.and_self])

theorem shelfDoneMsg_unawaited (unawaited : (u.shelf p (bitNat b.shelf)).peers.contains src = false ∨
    b.seq ≠ (u.shelf p (bitNat b.shelf)).number) : u.shelfDoneMsg src p b = u := by
  refine if_neg fun awaited => ?_
  obtain ⟨named, number⟩ := (Bool.and_eq_true _ _).mp awaited
  exact unawaited.elim (fun other => Bool.false_ne_true (other.symm.trans named)) fun other =>
    other (of_decide_eq_true number)

end

end

/-- Settles O45: a request by the hold that it puts in force or ends, an acknowledgement by the exchange that awaits it, a
REPORT by its round, and a DECLARE by the Inventory that it takes. -/
theorem holdAndStocktakeMessages : Obligations.HoldAndStocktakeMessages := by
  refine ⟨fun s u h b m p live far taken part => ⟨fun carried built => ?_, fun carried built => ?_,
    fun i x k acks carried => ?_⟩, fun s u h b m p k live far taken part stock => ⟨fun carried built => ?_,
    fun carried => ?_, fun carried built => ?_⟩⟩ <;> subst part
  -- HOLD_REQ
  · have runs := exec_holdMessage .holdReq live far taken carried
    rw [show u.holdMessage h .holdReq b = _ from holdMsgReq_built built] at runs
    exact ⟨runs, holdHere_part u _, (State.holdHere_wipe u _ _ (by decide)).symm⟩
  -- RESUME_REQ
  · have runs := exec_holdMessage .resumeReq live far taken carried
    rw [show u.holdMessage h .resumeReq b = _ from holdMsgReq_built built] at runs
    exact ⟨runs, resumeHere_part u _, (State.resumeHere_wipe u _ _ (by decide)).symm⟩
  -- HOLD_ACK and RESUME_ACK
  · have runs : exec i s = .next (u.holdMsgAck h.src h.partition.toNat x b) := by
      rcases acks with ⟨rfl, rfl, rfl⟩ | ⟨rfl, rfl, rfl⟩
      · exact exec_holdMessage .holdAck live far taken carried
      · exact exec_holdMessage .resumeAck live far taken carried
    refine ⟨fun unasked => ?_, fun e only way number awaited => ⟨fun others => ?_, fun last nobody => ?_⟩⟩
    · rw [runs, holdMsgAck_unasked unasked]
    · rw [runs, holdMsgAck_only only way number awaited, if_neg (show (e.without h.src).peers ≠ [] from others)]
      rfl
    · have empty : (e.without h.src).peers = [] := by simp [HoldXchg.without, last]
      rw [runs, holdMsgAck_only only way number awaited, if_pos empty, holdDone_nobody empty nobody]
      rfl
  -- QUERY
  · have runs := exec_stockMessage .query live far taken carried
    rwa [show u.stockMessage h .query b = _ from stockQuery_built built] at runs
  -- REPORT
  · subst stock
    have runs := exec_stockMessage .report live far taken carried
    refine ⟨fun asked present first => ?_, fun former => ?_⟩
    · exact runs.trans (congrArg _ (stockReported_asked asked present first))
    · exact runs.trans (congrArg _ (stockReported_former former))
  -- DECLARE
  · have runs := exec_stockMessage .declare live far taken carried
    rw [show u.stockMessage h .declare b = _ from stockDeclared_built built] at runs
    refine ⟨fun off => ?_, fun on base rests => ?_⟩
    · rw [deadlockInventory_off off] at runs
      exact runs
    · rw [deadlockInventory_takes on base rests] at runs
      obtain ⟨n, c, ws, inv, -, -, -, frame⟩ := takeInventory_runs (u := u) (p := h.partition.toNat) 1 b.round
      exact ⟨_, runs, by rw [inv], by rw [inv], wipe_mono (by decide) frame⟩

/-- Settles O46: an arming by the record that it writes, a SHELF_DONE by whether the present arming awaits it, a
SHELF_CANCEL by whether the shelf is armed. -/
theorem shelfMessages : Obligations.ShelfMessages := by
  intro s u h b m p n x live far taken part number shelf
  subst part number shelf
  refine ⟨fun carried built sound => ?_, fun carried => ?_, fun carried built => ?_⟩
  · have runs := exec_shelfMessage .arm live far taken carried
    rw [show u.shelfMessage h .arm b = _ from shelfArmMsg_built built, armShelf_arms sound] at runs
    exact runs
  · have runs := exec_shelfMessage .done live far taken carried
    refine ⟨fun awaited number => ⟨fun latched => ?_, fun failed => ?_⟩, fun unawaited => ?_⟩
    · rw [show u.shelfMessage h .done b = _ from shelfDoneMsg_awaited awaited number, if_pos latched] at runs
      exact runs
    · rw [show u.shelfMessage h .done b = _ from shelfDoneMsg_awaited awaited number, if_neg failed] at runs
      exact runs
    · rw [show u.shelfMessage h .done b = _ from shelfDoneMsg_unawaited unawaited] at runs
      exact runs
  · have runs := exec_shelfMessage .cancel live far taken carried
    rw [show u.shelfMessage h .cancel b = _ from shelfCancelMsg_built built] at runs
    refine ⟨fun armed own => ?_, fun rests => ?_⟩
    · rw [cancelShelf_own armed own] at runs
      exact runs
    · rw [cancelShelf_rests rests] at runs
      exact runs

end Sys2Proof.Machine
end

section
/-! SUPPORT. The turn of a Catalogue request, the Catalogue's commands, and the MCTP endpoint (R507 to R511, R515 to R517,
R522, R524, R526, R527, R529). A request is said once by what becomes of it before its command is looked at
(`catRequest_turns`); one whose turn has come runs its command (`catRequest_serves`), and each command by the entry that it
finds. -/

namespace Sys2Proof.Machine

section
variable {s b : State} {h : CatHdr} {a : CatAsk} {w : Who} {i : Instr} {run : State → Who → State}

/-! ### The turn of a request (R511, R517, R522, R529) -/

theorem catRequest_held (down : s.live = false) : s.catRequest i h a run = s := by
  simp [State.catRequest, down]

theorem catRequest_busyApb (live : s.live = true) (apb : h.via = .apb) (busy : s.apb.busy = true) :
    s.catRequest i h a run = s.drive .pslverr := by
  simp [State.catRequest, live, apb, busy]

theorem catRequest_noEndpoint (live : s.live = true) (mctp : h.via ≠ .apb) (unset : s.eid = 0) :
    s.catRequest i h a run = s.bump 0x2C01 5 := by
  simp [State.catRequest, live, mctp, unset]

/-- R511, R517: what becomes of a request whose path is free. -/
theorem catRequest_turns (live : s.live = true) (apb : h.via = .apb → s.apb.busy = false)
    (mctp : h.via ≠ .apb → s.eid ≠ 0) : s.catRequest i h a run =
      if s.mustWait (viaPrincipal h.via) then
        if 4 ≤ (s.catHeld.filter fun x => x.1 = viaPrincipal h.via).length then s.catStatus h a .busy
        else { s.apbBusy h a with catHeld := s.catHeld ++ [(viaPrincipal h.via, i)] }
      else (s.whoIs h.via).elim (s.catStatus h a .beyondRights) (run (s.apbBusy h a)) := by
  have free : ¬ (h.via = .apb ∧ s.apb.busy = true) := fun ⟨via, busy⟩ =>
    Bool.false_ne_true ((apb via).symm.trans busy)
  have named : ¬ (h.via ≠ .apb ∧ s.eid = 0) := fun ⟨via, unset⟩ => mctp via unset
  unfold State.catRequest
  simp only [live, free, named, Bool.not_true, Bool.false_eq_true, if_false]
  cases s.whoIs h.via <;> rfl

/-! ### The commands -/

section
variable {index : BitVec 16} {sub : BitVec 8} (serves : s.serves h w)
include serves

theorem exec_identify (ask : a = { command := cmdIdentify, index := 0, sub := 0 }) :
    exec (.identify h) s = .next ((s.apbBusy h a).runIdentify h a w) := by
  subst ask
  exact congrArg Host.Outcome.next (catRequest_serves serves (.identify h) _ fun s w => s.runIdentify h _ w)

theorem exec_describe (ask : a = { command := cmdDescribe, index := index, sub := sub }) :
    exec (.describe h index sub) s = .next ((s.apbBusy h a).runDescribe h a w) := by
  subst ask
  exact congrArg Host.Outcome.next (catRequest_serves serves (.describe h index sub) _ fun s w => s.runDescribe h _ w)

theorem exec_catRead (ask : a = { command := cmdRead, index := index, sub := sub }) :
    exec (.catRead h index sub) s = .next ((s.apbBusy h a).runRead h a w) := by
  subst ask
  exact congrArg Host.Outcome.next (catRequest_serves serves (.catRead h index sub) _ fun s w => s.runRead h _ w)

theorem exec_nextEntry (ask : a = { command := cmdNext, index := index, sub := sub }) :
    exec (.nextEntry h index sub) s = .next ((s.apbBusy h a).runNext h a w) := by
  subst ask
  exact congrArg Host.Outcome.next (catRequest_serves serves (.nextEntry h index sub) _ fun s w => s.runNext h _ w)

theorem exec_catMalformedRequest (c : BitVec 8) (why : Malformation)
    (ask : a = { command := c, index := 0, sub := 0 }) :
    exec (.catMalformedRequest h c why) s = .next ((s.apbBusy h a).catStatus h a .malformed) := by
  subst ask
  exact congrArg Host.Outcome.next
    (catRequest_serves serves (.catMalformedRequest h c why) _ fun s _ => s.catStatus h _ .malformed)

/-- The hub as a READ_SEG reads it: over APB5 the offset and the length stand in their registers (R529). -/
def State.segmentBusy (s : State) (h : CatHdr) (a : CatAsk) (offset : BitVec 32) (n : Nat) : State :=
  if h.via = .apb then { s.apbBusy h a with apb := { (s.apbBusy h a).apb with
    offset := offset
    len := BitVec.ofNat 32 n } } else s.apbBusy h a

theorem exec_readSeg {offset : BitVec 32} {len g : BitVec 16} {n : Nat}
    (ask : a = { command := cmdReadSeg, index := index, sub := sub })
    (length : n = if h.via = .apb then len.toNat % 2 ^ 11 else len.toNat) :
    exec (.readSeg h index sub offset len g) s = .next ((s.segmentBusy h a offset n).runReadSeg h a offset.toNat n g w) := by
  subst ask length
  exact congrArg Host.Outcome.next (catRequest_serves serves (.readSeg h index sub offset len g)
    { command := cmdReadSeg, index := index, sub := sub } fun s w =>
      State.runReadSeg
        (if h.via = .apb then { s with apb := { s.apb with
            offset := offset
            len := BitVec.ofNat 32 (if h.via = .apb then len.toNat % 2 ^ 11 else len.toNat) } } else s)
        h { command := cmdReadSeg, index := index, sub := sub } offset.toNat
        (if h.via = .apb then len.toNat % 2 ^ 11 else len.toNat) g w)

theorem exec_catWrite {n : Nat} {v : BitVec 128} {o : Option Nat} (bytes : o = if h.via = .apb then none else some n) :
    exec (.catWrite h index sub n v) s = .next (((s.apbBusy h (writeAsk index sub)).apbData h v.toNat).runWrite h
      (writeAsk index sub) o v.toNat w) := by
  subst bytes
  exact congrArg Host.Outcome.next (catRequest_serves serves (.catWrite h index sub n v) (writeAsk index sub) fun s w =>
    (s.apbData h v.toNat).runWrite h (writeAsk index sub) (if h.via = .apb then none else some n) v.toNat w)

end

/-! ### What a command finds (R507 to R510, R515, R526, R527) -/

section
variable {r : CatRow}

theorem runDescribe_absent (absent : b.findEntry w a.index.toNat a.sub.toNat h.partition = none) :
    b.runDescribe h a w = b.catStatus h a .noEntry := by
  simp only [State.runDescribe, absent]

theorem runDescribe_found (found : b.findEntry w a.index.toNat a.sub.toNat h.partition = some r) :
    b.runDescribe h a w =
      if b.mayRead w a.index.toNat r (entryPart r h.partition) || b.mayWrite w a.index.toNat r (entryPart r h.partition)
      then b.catAnswer (dataAnswer h a 64 (b.describeData a.index.toNat r (entryPart r h.partition)))
      else b.catStatus h a .beyondRights := by
  simp only [State.runDescribe, found]

theorem runRead_absent (absent : b.findEntry w a.index.toNat a.sub.toNat h.partition = none) :
    b.runRead h a w = b.catStatus h a .noEntry := by
  simp only [State.runRead, absent]

theorem runRead_found (found : b.findEntry w a.index.toNat a.sub.toNat h.partition = some r) :
    b.runRead h a w =
      if b.mayRead w a.index.toNat r (entryPart r h.partition) = false then b.catStatus h a .beyondRights
      else if r.ty.bytes = 0 then b.catStatus h a .malformed
      else b.catAnswer (dataAnswer h a r.ty.bytes (b.readEntry a.index.toNat r (entryPart r h.partition))) := by
  simp only [State.runRead, found, Bool.not_eq_true']

variable {offset length : Nat} {g : BitVec 16}

theorem runReadSeg_absent (absent : b.findEntry w a.index.toNat a.sub.toNat h.partition = none) :
    b.runReadSeg h a offset length g w = b.catStatus h a .noEntry := by
  simp only [State.runReadSeg, absent]

/-- R509, R510: a segment of a DOMAIN. -/
def segmentAnswer (h : CatHdr) (a : CatAsk) (d : Domain) (offset length : Nat) : CatAnswer :=
  { dataAnswer h a (d.slice offset length).1 (d.slice offset length).2 with
    last := decide (d.len ≤ offset + length), generation := d.generation }

theorem runReadSeg_found (found : b.findEntry w a.index.toNat a.sub.toNat h.partition = some r) :
    b.runReadSeg h a offset length g w =
      if b.mayRead w a.index.toNat r (entryPart r h.partition) = false then b.catStatus h a .beyondRights
      else if r.ty.bytes ≠ 0 ∨ length = 0 ∨ 1024 < length then b.catStatus h a .malformed
      else if (b.domainOf w a.index.toNat r.sub (entryPart r h.partition)).current offset g = false then
        b.catStatus h a .changed
      else b.catAnswer
        (segmentAnswer h a (b.domainOf w a.index.toNat r.sub (entryPart r h.partition)) offset length) := by
  simp only [State.runReadSeg, found, Bool.not_eq_true']
  rfl

end

/-! ### A WRITE (R507, R518) -/

theorem runWrite_refused {o : Option Nat} {v : Nat} {st : CatStatus} (refused : b.writeRefused h a w o v = some st) :
    b.runWrite h a o v w = b.catStatus h a st := by
  simp only [State.runWrite, refused]

/-- The entries whose subindices have no meaning of their own: a write stores its value. -/
def plainEntries : List Nat :=
  [0x2100, 0x2200, 0x2404, 0x2700, 0x2B00, 0x2C01, 0x4100, 0x7000, 0x7010, 0x7020, 0x7050]

theorem writeEntry_plain {index : Nat} (plain : index ∈ plainEntries) (u : State) (sub p n : Nat) :
    u.writeEntry h w index sub p n = doneWith (u.setCfg index sub p n) := by
  simp only [plainEntries, List.mem_cons, List.not_mem_nil, or_false] at plain
  rcases plain with rfl | rfl | rfl | rfl | rfl | rfl | rfl | rfl | rfl | rfl | rfl <;>
    simp [State.writeEntry, State.writeLow, State.writeMiddle, State.writeHigh]

/-- R507, R518: a WRITE of such an entry that nothing refuses is answered once its value stands. -/
theorem runWrite_plain {index : BitVec 16} {sub : BitVec 8} {o : Option Nat} {v : Nat} (serves : s.serves h w)
    (allowed : ((s.apbBusy h (writeAsk index sub)).apbData h v).writeRefused h (writeAsk index sub) w o v = none)
    (plain : index.toNat ∈ plainEntries) :
    ((s.apbBusy h (writeAsk index sub)).apbData h v).runWrite h (writeAsk index sub) o v w =
      s.answered h index sub .done ((s.opened h index sub v).setCfg index.toNat sub.toNat
        (entryPart (askRow (writeAsk index sub)) h.partition) ((askRow (writeAsk index sub)).stored v)) := by
  have opens : ({ (s.apbBusy h (writeAsk index sub)).apbData h v with
      catOpen := ((s.apbBusy h (writeAsk index sub)).apbData h v).catOpen ++ [{ hdr := h, index := index, sub := sub }] } :
      State) = s.opened h index sub v := by
    rw [apb_catOpen]
    rfl
  have stores := writeEntry_plain (h := h) (w := w) plain (s.opened h index sub v) sub.toNat
    (entryPart (askRow (writeAsk index sub)) h.partition) ((askRow (writeAsk index sub)).stored v)
  generalize stored : (s.opened h index sub v).setCfg index.toNat sub.toNat
    (entryPart (askRow (writeAsk index sub)) h.partition) ((askRow (writeAsk index sub)).stored v) = x at stores
  have still : x.catOpen = (s.opened h index sub v).catOpen := by rw [← stored]; rfl
  rw [← catFinish_opened serves still]
  unfold writeAsk at allowed opens stores
  unfold State.runWrite writeAsk
  simp only [allowed, opens, stores, doneWith]

/-! ### The MCTP endpoint (R522, R524) -/

theorem mctpAnswer_live (live : s.live = true) (dst : BitVec 8) (tag : BitVec 3) (c st : BitVec 8) (d : Nat) :
    s.mctpAnswer dst tag c st d =
      s.drive (.mctp { dst := dst, tag := tag, command := c, completion := st, data := BitVec.ofNat 64 d }) := if_pos live

end

/-- Settles O58: each request by `catRequest_turns`, unless the hub does not serve or its path is not free. -/
theorem requestTurns : Obligations.RequestTurns := by
  intro s i h a request
  obtain ⟨run, runs⟩ := exec_request request s
  rw [runs]
  refine ⟨fun down => ?_, fun live apb busy => ?_, fun live mctp unset => ?_,
    fun live apb mctp => ⟨fun waits few => ?_, fun waits many => ?_, fun turn nobody => ?_⟩⟩
  · rw [catRequest_held down]
  · rw [catRequest_busyApb live apb busy]
  · rw [catRequest_noEndpoint live mctp unset]
  · rw [catRequest_turns live apb mctp, if_pos waits, if_neg (Nat.not_le.mpr few)]
  · rw [catRequest_turns live apb mctp, if_pos waits, if_pos many]
    rfl
  · rw [catRequest_turns live apb mctp, if_neg (Bool.eq_false_iff.mp turn), nobody]
    rfl

/-- Settles O59: each command by the entry that it finds, and by the rights to it. -/
theorem catalogueCommands : Obligations.CatalogueCommands := by
  intro s b h w i k serves
  refine ⟨fun a ask => ?_, fun a ask busy => ?_, fun a ask busy => ?_, fun a offset len n g ask length busy => ?_,
    fun a ask busy => ?_, fun c why => ?_, fun n v o u bytes busy opens => ?_⟩
  -- IDENTIFY
  · exact exec_identify serves ask
  -- DESCRIBE
  · rw [exec_describe serves ask]
    subst ask busy
    refine ⟨fun absent => ?_, fun r p found part => ?_⟩
    · rw [runDescribe_absent absent]
      rfl
    · subst part
      rw [runDescribe_found found]
      refine ⟨fun may => ?_, fun unread unwritten => ?_⟩
      · rw [if_pos ((Bool.or_eq_true _ _).mpr may)]
      · rw [if_neg (by simp only [unread, unwritten, Bool.or_self, Bool.false_eq_true, not_false_eq_true])]
        rfl
  -- READ
  · rw [exec_catRead serves ask]
    subst ask busy
    refine ⟨fun absent => ?_, fun r p found part => ?_⟩
    · rw [runRead_absent absent]
      rfl
    · subst part
      rw [runRead_found found]
      refine ⟨fun barred => ?_, fun may domain => ?_, fun may value => ?_⟩
      · rw [if_pos barred]
        rfl
      · rw [if_neg (ne_false_of_eq_true may), if_pos domain]
        rfl
      · rw [if_neg (ne_false_of_eq_true may), if_neg value]
  -- READ_SEG
  · rw [exec_readSeg serves ask length, show s.segmentBusy h a offset n = b from busy.symm]
    clear length busy
    subst ask
    refine ⟨fun absent => ?_, fun r p d found part domain => ?_⟩
    · rw [runReadSeg_absent absent]
      rfl
    · subst part domain
      rw [runReadSeg_found found]
      refine ⟨fun barred => ?_, fun may bad => ?_, fun may type low high => ?_⟩
      · rw [if_pos barred]
        rfl
      · rw [if_neg (ne_false_of_eq_true may), if_pos bad]
        rfl
      · have sized : ¬ (r.ty.bytes ≠ 0 ∨ n = 0 ∨ 1024 < n) := by omega
        rw [if_neg (ne_false_of_eq_true may), if_neg sized]
        refine ⟨fun stale => ?_, fun current => ?_⟩
        · rw [if_pos stale]
          rfl
        · rw [if_neg (ne_false_of_eq_true current)]
          rfl
  -- NEXT
  · rw [exec_nextEntry serves ask]
    subst ask busy
    refine ⟨fun x next => ?_, fun last => ?_⟩
    · simp only [State.runNext, next]
    · simp only [State.runNext, last]
      rfl
  -- a malformed request
  · exact exec_catMalformedRequest serves c why rfl
  -- WRITE
  · rw [exec_catWrite serves bytes]
    subst busy opens
    refine ⟨fun st refused => ?_, fun allowed plain => ?_⟩
    · rw [runWrite_refused refused]
      rfl
    · rw [runWrite_plain serves allowed plain]

/-- Settles O60: each control command by its answer, a discard by its count. -/
theorem mctpEndpoint : Obligations.MctpEndpoint := by
  intro s src tag m live answer
  refine ⟨fun e set listed => ?_, fun e unlisted => ?_, ?_, fun t listed => ?_, fun t other base => ?_, ?_, ?_,
    fun k other => ?_, fun why n => congrArg Host.Outcome.next (if_pos live)⟩ <;> rw [answer]
  · have given : s.setEid src tag e = ({ s with eid := e } : State).mctpAnswer src tag ctlSetEid mctpSuccess (e.toNat * 256) := by
      simp only [State.setEid, live, set, listed, Bool.not_true, Bool.false_eq_true, or_self, if_false]
    exact congrArg Host.Outcome.next (given.trans (mctpAnswer_live (s := { s with eid := e }) live _ _ _ _ _))
  · have refused : s.setEid src tag e = s.mctpAnswer src tag ctlSetEid mctpInvalidData 0 := by
      simp only [State.setEid, live, unlisted, Bool.not_true, Bool.false_eq_true, if_false, if_true]
    exact congrArg Host.Outcome.next (refused.trans (mctpAnswer_live live _ _ _ _ _))
  · exact congrArg Host.Outcome.next (mctpAnswer_live live _ _ _ _ _)
  · exact congrArg Host.Outcome.next ((if_pos listed).trans (mctpAnswer_live live _ _ _ _ _))
  · exact congrArg Host.Outcome.next ((if_neg (not_or.mpr ⟨other, base⟩)).trans (mctpAnswer_live live _ _ _ _ _))
  · exact congrArg Host.Outcome.next (mctpAnswer_live live _ _ _ _ _)
  · exact congrArg Host.Outcome.next ((if_pos rfl).trans (mctpAnswer_live live _ _ _ _ _))
  · exact congrArg Host.Outcome.next ((if_neg other).trans (mctpAnswer_live live _ _ _ _ _))

end Sys2Proof.Machine
end

section
/-! SUPPORT. The restart of a stage and the reference clock (R441, R443, R445, R446, R556). A restart that captures nothing
is said by its test, up to the hub's notes (`notes_of_restart`); an edge of tb_refclk by what it adds to fabric time
(`tickOnce_time`). -/

namespace Sys2Proof.Machine

section
variable {s X Y : State} {k port : Nat}

/-! ### Restarts (R443, R445) -/

/-- The hub after the tests of a stage, but for the notes of the restart. -/
def State.tested (s : State) (k port n : Nat) (out : BitVec 32) : State :=
  { s with
    stuck := s.stuck.filter fun j => j ≠ k
    stageFails := s.stageFails.put natNone (stageKey k port) n
    stageOut := out }

theorem exec_stageRestart {items : List CapturedItem} (live : s.live = true) (clocked : s.refLost = false)
    (there : s.stageThere k port = true) (ok : Bool) :
    exec (.stageRestart k port items ok) s = .next (s.restart k port items ok) :=
  (if_pos there).trans (congrArg Host.Outcome.next (whenClocked_on _ live clocked))

theorem exec_stageRetry (live : s.live = true) (clocked : s.refLost = false) (there : s.stageThere k port = true)
    (out : s.stageIsOut k = true) (failed : 3 ≤ s.fails k port) (ok : Bool) :
    exec (.stageRetry k port ok) s = .next (s.restart k port [] ok) := by
  refine (if_pos there).trans (congrArg Host.Outcome.next ((whenClocked_on _ live clocked).trans (if_pos ?_)))
  simp only [out, failed, decide_true, Bool.and_self]

/-- A passed test of a stage below the link layers puts it into service (R445). -/
theorem restartPasses_below (below : k < 30) : Y.restartPasses k port =
    { Y with
      stageFails := Y.stageFails.put natNone (stageKey k port) 0
      stageOut := Y.stageOut &&& ~~~(BitVec.ofNat 32 (2 ^ k)) } := by
  simp only [State.restartPasses, State.otherOut, State.relink, State.setFails, Nat.not_le.mpr below, decide_false,
    Bool.false_and, Bool.and_false, Bool.false_eq_true, if_false, false_and]

/-- R445: a failed test before the third in a row is only counted. -/
theorem restartFails_counts (few : Y.fails k port < 2) : Y.restartFails k port = Y.setFails k port (Y.fails k port + 1) := by
  have third : Y.fails k port + 1 ≠ 3 := by omega
  simp only [State.restartFails, third, if_neg (show ¬ 3 ≤ Y.fails k port by omega), if_false]

theorem restartFails_out (out : 3 ≤ Y.fails k port) : Y.restartFails k port = Y := if_pos out

/-- R445: the third failed test in a row takes a stage out; one that serves no partition latches none (log entry 25). -/
theorem restartFails_third (two : Y.fails k port = 2) (served : k = 26 ∨ k = 27) : ∃ r body,
    Y.restartFails k port =
      ({ Y.setFails k port 3 with stageOut := Y.stageOut ||| BitVec.ofNat 32 (2 ^ k) } : State).notifyRing 16 4 r body := by
  have goes : Y.restartFails k port = (Y.setFails k port 3).stageFails3 k port := by
    simp only [State.restartFails, two]
    rfl
  rw [goes]
  rcases served with rfl | rfl <;> exact ⟨_, _, rfl⟩

/-- A field of the stages is no note of the hub. -/
theorem stages_notes (notes : Y.wipe 0x2002007000000 = X.wipe 0x2002007000000) (fails : Sparse Nat) (out : BitVec 32) :
    ({ Y with stageFails := fails, stageOut := out } : State).wipe 0x2002007000000 =
      ({ X with stageFails := fails, stageOut := out } : State).wipe 0x2002007000000 :=
  congrArg (fun Z : State => ({ Z with stageFails := fails, stageOut := out } : State)) notes

/-! ### The loss and the return of the clock (R446) -/

theorem refLoss_live (live : s.live = true) (clocked : s.refLost = false) : s.refLoss =
    (({ s with refLost := true } : State).bump 0x7050 2).jobFault { cause := 0x18 } s.allParts := by
  simp only [State.refLoss, State.clockLost, live, clocked, if_true, Bool.false_eq_true, if_false]

theorem refLoss_down (down : s.live = false) : s.refLoss = { s with refLost := true } := by
  simp only [State.refLoss, down, Bool.false_eq_true, if_false]

theorem refLoss_lost (live : s.live = true) (lost : s.refLost = true) : s.refLoss = s := by
  simp only [State.refLoss, State.clockLost, live, lost, if_true]

/-- R446: the loss of the clock latches every partition. -/
theorem refLoss_latches (live : s.live = true) (clocked : s.refLost = false) : s.refLoss.refLost = true ∧
    (∀ p, p < s.partCount → (s.refLoss.part p).fault = true) ∧ SameBut (.refLost :: faultFields) s s.refLoss := by
  have frame := State.refLoss_wipe s (fieldMask (.refLost :: faultFields)) (by decide)
  rw [refLoss_live live clocked] at frame ⊢
  refine ⟨?_, fun p inside => ?_, frame.symm⟩
  · rw [refLost_of_wipe (by decide) (State.jobFault_wipe _ _ _ 0x30020e7771000 rfl),
      refLost_of_wipe (by decide) (State.bump_wipe _ _ _ _ 0x2000004000000 rfl)]
  · exact (jobFault_part _ _ _).2 p (numsFrom_mem _ _ _ (Nat.zero_le p) (by omega))

/-! ### The edges of the clock (R556) -/

theorem tickOnce_stopped (stopped : s.running = false ∨ s.refLost = true) : s.tickOnce = s :=
  if_neg (by rcases stopped with stopped | lost <;> simp [*])

/-- R387, R556: an edge with no correction under way adds its increment to fabric time. -/
theorem edge_time (steady : s.sync.slew = 0) :
    s.edge.time = s.time + BitVec.ofNat 64 (edgeUnits s.refSel.toNat s.tick) := by
  have none (inc : Nat) : s.slewUnits inc = 0 := by simp [State.slewUnits, steady]
  simp only [State.edge, none, steady]
  simp

/-- What the five edges of each code add (R556). -/
def edgeTable : List (List Nat) :=
  [[512, 512, 512, 512, 512], [410, 410, 409, 410, 409], [320, 320, 320, 320, 320], [256, 256, 256, 256, 256],
   [205, 205, 204, 205, 205]]

theorem edgeUnits_table : ∀ r < 5, ∀ n < 5, edgeUnits r n = (edgeTable.getD r []).getD n 0 := by decide

end

/-- Settles O32: each restart by `notes_of_restart` and its test. -/
theorem stageRestarts : Obligations.StageRestarts := by
  intro s k port live clocked there below unlisted
  obtain ⟨Y, restarts, notes⟩ := notes_of_restart s k port unlisted 0x2002007000000 rfl
  have fails : Y.stageFails = s.stageFails := (stageFails_of_wipe (by decide) notes).trans rfl
  have count : Y.fails k port = s.fails k port := by rw [State.fails, fails, State.fails]
  have out : Y.stageOut = s.stageOut := (stageOut_of_wipe (by decide) notes).trans rfl
  have passes : (s.restart k port [] true).wipe 0x2002007000000 =
      (s.tested k port 0 (s.stageOut &&& ~~~(BitVec.ofNat 32 (2 ^ k)))).wipe 0x2002007000000 := by
    rw [restarts, if_pos rfl, restartPasses_below below, fails, out]
    exact stages_notes notes _ _
  have failing : s.restart k port [] false = Y.restartFails k port := (restarts false).trans (if_neg Bool.false_ne_true)
  refine ⟨brings_of (exec_stageRestart live clocked there true) passes, fun few => ?_, fun two served => ?_,
    fun isOut failed => ⟨brings_of (exec_stageRetry live clocked there isOut failed true) passes, ?_⟩⟩
  · refine brings_of (exec_stageRestart live clocked there false) ?_
    rw [failing, restartFails_counts (count ▸ few), State.setFails, count, fails, ← out]
    exact stages_notes notes _ Y.stageOut
  · obtain ⟨r, body, third⟩ := restartFails_third (count.trans two) served
    refine brings_of (exec_stageRestart live clocked there false) ?_
    rw [failing, third, State.notifyRing_wipe _ _ _ _ _ _ rfl, State.setFails, fails, out]
    exact stages_notes notes _ _
  · refine brings_of (exec_stageRetry live clocked there isOut failed false) ?_
    rw [failing, restartFails_out (count.symm ▸ failed), notes]

/-- Settles O36: the loss of the clock by whether the hub is operational, an edge by its place in the increments. -/
theorem theReferenceClock : Obligations.TheReferenceClock := by
  refine ⟨fun s => ⟨fun live clocked => ?_, fun down => ?_, fun live lost => ?_, rfl⟩,
    fun s empty silent unheld => ⟨fun runs clocked steady place r code listed => ?_, fun stopped => ?_⟩⟩
  · exact ⟨_, rfl, refLoss_latches live clocked⟩
  · exact congrArg Host.Outcome.next (refLoss_down down)
  · exact congrArg Host.Outcome.next (refLoss_lost live lost)
  · subst code
    refine ⟨s.tickOnce, step_ticks empty silent unheld, ?_, ?_⟩
    · rw [tick_once, if_pos ⟨runs, clocked⟩]
    · rw [time_once runs clocked, edge_time steady, edgeUnits_table _ (by omega) _ place]
      rfl
  · rw [step_ticks empty silent unheld, tickOnce_stopped stopped]

end Sys2Proof.Machine
end

section
/-! SUPPORT. The Catalogue's writes of the Folio (R469, R471, R472, R476). Each write comes to the rule of its entry
(`folioControl_answers`, `folioMarker_answers`), and each rule is said by the state that it finds. -/

namespace Sys2Proof.Machine

section
variable {s u x : State} {h : CatHdr} {w : Who} {p n : Nat} {st : CatStatus}

/-! ### The Folio's entries (R471, R476) -/

theorem writeEntry_folioControl (n : Nat) : u.writeEntry h w 0x6030 2 p n = u.writeFolioControl n := by
  simp [State.writeEntry, State.writeHigh, State.writeFolioEntry]

theorem writeEntry_folioMarker (n : Nat) :
    u.writeEntry h w 0x6030 10 p n = doneWith (u.markFolio (BitVec.ofNat 64 n)) := by
  simp [State.writeEntry, State.writeHigh, State.writeFolioEntry]

/-- The command that writes a value from 1 to 4 to FolioControl. -/
def folioCommand (h : CatHdr) : Nat → Instr
  | 1 => .folioArm h
  | 2 => .folioTrigger h
  | 3 => .folioStop h
  | _ => .folioClear h

theorem folioControl_answers (code : n ∈ [1, 2, 3, 4]) (writes : s.writing u h 0x6030 2 n w)
    (rule : u.writeFolioControl n = (x, some st)) (still : x.catOpen = u.catOpen) :
    exec (folioCommand h n) s = .next (s.answered h 0x6030 2 st x) := by
  have value : (askRow (writeAsk 0x6030 2)).stored n = n :=
    stored_all (n := 1) rfl rfl (by simp at code; omega) (by decide)
  have answers (i : Instr) := entryCommand_answers writes i (askWhole (by decide) _) value
    ((writeEntry_folioControl _).trans rule) still
  simp only [List.mem_cons, List.not_mem_nil, or_false] at code
  rcases code with rfl | rfl | rfl | rfl <;> exact congrArg Host.Outcome.next (answers _)

theorem folioMarker_answers {v : BitVec 64} (writes : s.writing u h 0x6030 10 v.toNat w)
    (rule : u.markFolio v = x) (still : x.catOpen = u.catOpen) :
    exec (.folioMarker h v) s = .next (s.answered h 0x6030 10 .done x) := by
  refine congrArg Host.Outcome.next (entryCommand_answers writes (.folioMarker h v) (askWhole (by decide) _)
    (stored_all rfl rfl v.isLt (by decide)) ((writeEntry_folioMarker _).trans ?_) still)
  rw [BitVec.ofNat_toNat, BitVec.setWidth_eq, rule]
  rfl

/-! ### The Folio's rules (R469 to R472) -/

/-- The Folio as arming leaves it (R471). -/
def Folio.armed (f : Folio) : Folio :=
  { f with
    state := .armed
    pre := []
    post := []
    lost := 0
    lostFlag := false
    dumped := false
    generation := f.generation + 1 }

theorem armFolio_rests (rests : u.folio.state = .idle ∨ u.folio.state = .stopped) :
    u.armFolio = ({ u with folio := u.folio.armed }, .done) :=
  if_pos (by simpa [State.folioRests] using rests)

theorem armFolio_runs (busy : u.folio.state ≠ .idle) (unstopped : u.folio.state ≠ .stopped) :
    u.armFolio = (u, .accessError) := if_neg (by simp [State.folioRests, busy, unstopped])

theorem triggerFolio_unarmed (unarmed : u.folio.state ≠ .armed) : u.triggerFolio = u := if_neg unarmed

/-- A MARKER of the capture's scope, with a value (R469, log entry 22). -/
def State.scopeMarker (u : State) (v : BitVec 64) : FolioRec :=
  { (if u.cfg 0x6030 1 = 0xFF then u.folioHub 0x15 else u.folioOf 0x15 (u.cfg 0x6030 1)) with data := v }

theorem scopeMarker_fields (v : BitVec 64) : (u.scopeMarker v).rkind = 0x15 ∧ (u.scopeMarker v).data = v ∧
    (u.scopeMarker v).time = u.time := by
  unfold State.scopeMarker
  split <;> exact ⟨rfl, rfl, rfl⟩

theorem markFolio_records (v : BitVec 64) : u.markFolio v = u.record (u.scopeMarker v) := rfl

/-- The MARKER of a manual trigger (R469, log entry 21). -/
def State.manualMarker (u : State) : FolioRec := { u.scopeMarker 2 with aux := 1, trig := true }

theorem manualMarker_fields : u.manualMarker.rkind = 0x15 ∧ u.manualMarker.trig = true ∧ u.manualMarker.aux = 1 ∧
    u.manualMarker.time = u.time := by
  obtain ⟨kind, -, time⟩ := scopeMarker_fields (u := u) 2
  exact ⟨kind, rfl, rfl, time⟩

/-- R472: a manual trigger that leaves the post region room stores its MARKER. -/
theorem triggerFolio_armed (armed : u.folio.state = .armed) (room : u.folio.post.length + 1 < u.folioPostCap) :
    u.triggerFolio = { u with folio := { u.folio with
      state := .triggered
      trigTimeSeen := u.time
      post := u.folio.post ++ [u.manualMarker]
      lostFlag := false
      generation := u.folio.generation + 1 } } := by
  have stays (r : FolioRec) : ¬ u.folioPostCap ≤ (u.folio.post ++ [r]).length := by
    rw [List.length_append, List.length_singleton]
    omega
  unfold State.triggerFolio State.markScope State.folioMark State.manualMarker State.scopeMarker
  rw [if_pos armed]
  by_cases hub : u.cfg 0x6030 1 = 0xFF
  · simp only [hub, decide_true, if_true]
    exact if_neg (stays _)
  · simp only [hub, decide_false, Bool.false_eq_true, if_false]
    exact if_neg (stays _)

/-- R471: a capture that stops without a dump base, but for the note of its end. -/
theorem stopFolio_runs (runs : u.folio.state = .armed ∨ u.folio.state = .triggered) (undumped : u.cfg 0x6030 17 = 0) :
    u.stopFolio = ({ u with folio := { u.folio with state := .stopped, dumped := false } } : State).folioTrace := by
  rw [State.stopFolio, if_pos runs, State.folioStop, if_pos (.inl undumped)]

theorem stopFolio_rests (unarmed : u.folio.state ≠ .armed) (untriggered : u.folio.state ≠ .triggered) :
    u.stopFolio = u := if_neg (not_or.mpr ⟨unarmed, untriggered⟩)

end

/-- Settles O57: each write by the state of the capture. -/
theorem folioWrites : Obligations.FolioWrites := by
  intro s u h w
  refine ⟨fun writes => ⟨fun rests => ?_, fun busy unstopped => ?_⟩, fun writes => ⟨fun unarmed => ?_, fun armed room => ?_⟩,
    fun writes => ⟨fun unarmed untriggered => ?_, fun runs undumped => ?_⟩, fun writes => ?_, fun v writes => ?_⟩
  -- arming
  · exact folioControl_answers (by decide) writes (congrArg atOnce (armFolio_rests rests)) rfl
  · exact folioControl_answers (by decide) writes (congrArg atOnce (armFolio_runs busy unstopped)) rfl
  -- triggering
  · exact folioControl_answers (by decide) writes (congrArg doneWith (triggerFolio_unarmed unarmed)) rfl
  · exact ⟨_, folioControl_answers (by decide) writes (congrArg doneWith (triggerFolio_armed armed room)) rfl,
      manualMarker_fields⟩
  -- stopping
  · exact folioControl_answers (by decide) writes (congrArg doneWith (stopFolio_rests unarmed untriggered)) rfl
  · have trace := State.folioTrace_wipe ({ u with folio := { u.folio with state := .stopped, dumped := false } } : State)
    have kept := trace 0x2000007000000 rfl
    exact ⟨_, folioControl_answers (by decide) writes (congrArg doneWith (stopFolio_runs runs undumped))
      ((catOpen_of_wipe (by decide) kept).trans rfl), (folio_of_wipe (by decide) kept).trans rfl,
      ((trace _ (by decide)).trans (wipe_folio _ (by decide) _ _)).symm⟩
  -- clearing
  · exact folioControl_answers (by decide) writes rfl rfl
  -- a MARKER
  · have frame := State.record_wipe u (u.scopeMarker v)
    obtain ⟨kind, data, time⟩ := scopeMarker_fields (u := u) v
    exact ⟨u.scopeMarker v, folioMarker_answers writes (markFolio_records v) (catOpen_of_wipe (by decide) (frame 0x2002007000000 rfl)),
      kind, data, time, (frame _ (by decide)).symm⟩

end Sys2Proof.Machine
end

section
/-! SUPPORT. The Catalogue's writes of shelves, of the Inventory, of Stocktake and of Deposit rules, and the limit of a
Deposit hold (R460, R461, R483, R485, R488, R493, R502). Each write comes to the rule of its entry (`shelfArm_answers` and
those beside it). The end of a hold is said once, by whether the release goes on (`endHold_releases`,
`endHold_held`). -/

namespace Sys2Proof.Machine

section
variable {s u x : State} {h : CatHdr} {w : Who} {p k n : Nat} {v : BitVec 8} {st : CatStatus}

/-! ### Shelves (R460, R461) -/

theorem writeEntry_shelfArm (n : Nat) :
    u.writeEntry h w 0x6020 1 p n = doneWith (u.writeShelfArm p (BitVec.ofNat 8 n)) := by
  simp [State.writeEntry, State.writeHigh, State.writeShelfEntry]

theorem writeEntry_shelfCancel (n : Nat) :
    u.writeEntry h w 0x6020 5 p n = doneWith (u.writeShelfCancel p (BitVec.ofNat 8 n)) := by
  simp [State.writeEntry, State.writeHigh, State.writeShelfEntry]

/-- The reserved bits of ShelfArm say nothing (R507). -/
theorem writeShelfArm_masked : u.writeShelfArm p (BitVec.ofNat 8 (v.toNat &&& 7)) = u.writeShelfArm p v := by
  simp only [State.writeShelfArm, and_bit v (show Nat.testBit 7 0 = true from rfl),
    and_bit v (show Nat.testBit 7 1 = true from rfl), and_bit v (show Nat.testBit 7 2 = true from rfl)]

theorem writeShelfCancel_masked : u.writeShelfCancel p (BitVec.ofNat 8 (v.toNat &&& 5)) = u.writeShelfCancel p v := by
  simp only [State.writeShelfCancel, and_bit v (show Nat.testBit 5 0 = true from rfl),
    and_bit v (show Nat.testBit 5 2 = true from rfl)]

theorem shelfArm_answers (writes : s.writing u h 0x6020 1 v.toNat w)
    (rule : u.writeShelfArm h.partition.toNat v = x) (still : x.catOpen = u.catOpen) :
    exec (.shelfArmEntry h v) s = .next (s.answered h 0x6020 1 .done x) :=
  congrArg Host.Outcome.next (entryCommand_answers writes (.shelfArmEntry h v) (askPart rfl _)
    (stored_mask (n := 1) (m := 7) rfl rfl v.isLt)
    ((writeEntry_shelfArm _).trans (congrArg doneWith (writeShelfArm_masked.trans rule))) still)

theorem shelfCancel_answers (writes : s.writing u h 0x6020 5 v.toNat w)
    (rule : u.writeShelfCancel h.partition.toNat v = x) (still : x.catOpen = u.catOpen) :
    exec (.shelfCancelEntry h v) s = .next (s.answered h 0x6020 5 .done x) :=
  congrArg Host.Outcome.next (entryCommand_answers writes (.shelfCancelEntry h v) (askPart rfl _)
    (stored_mask (n := 1) (m := 5) rfl rfl v.isLt)
    ((writeEntry_shelfCancel _).trans (congrArg doneWith (writeShelfCancel_masked.trans rule))) still)

/-- What a write of ShelfArm names (R460). -/
def State.armingOf (u : State) (p : Nat) (v : BitVec 8) : Arming :=
  { shelf := bitNat (v.getLsbD 0), mode := v.getLsbD 1, index := BitVec.ofNat 17 (u.cfg 0x6020 3 p)
    round := BitVec.ofNat 28 (u.cfg 0x6020 4 p), time := BitVec.ofNat 64 (u.cfg 0x6020 2 p), asker := none }

/-- The hub once it has asked the partition's other hubs to arm, where bit 2 says so (R462). -/
def State.armsPeers (u : State) (p : Nat) (v : BitVec 8) : State :=
  if v.getLsbD 2 then u.armPeers p (u.armingOf p v) else u

theorem armsPeers_catOpen : (u.armsPeers p v).catOpen = u.catOpen := by
  unfold State.armsPeers
  split
  · exact catOpen_of_wipe (by decide) (State.armPeers_wipe u p _ 0x30020e7001000 rfl)
  · rfl

theorem writeShelfArm_arms (sound : (u.armsPeers p v).armFails p (u.armingOf p v) = none) :
    u.writeShelfArm p v = (u.armsPeers p v).setShelf p (bitNat (v.getLsbD 0))
      (((u.armsPeers p v).shelf p (bitNat (v.getLsbD 0))).armedBy (u.armingOf p v)) := armShelf_arms sound

theorem writeShelfCancel_here (here : v.getLsbD 2 = false) :
    u.writeShelfCancel p v = u.cancelShelf p (bitNat (v.getLsbD 0)) := by
  simp only [State.writeShelfCancel, here, Bool.false_eq_true, if_false]

/-! ### The Inventory (R488, R493) -/

theorem writeEntry_inventoryTake (n : Nat) : u.writeEntry h w 0x6040 3 p n =
    if n = 0 then doneWith u else if u.inventoryBar p ≠ 0 then (u, some .accessError)
    else doneWith (u.takeInventory p 0 0) := by
  simp [State.writeEntry, State.writeHigh, State.writeInventoryEntry]

theorem inventoryTake_answers (writes : s.writing u h 0x6040 3 v.toNat w)
    (rule : (if v.toNat = 0 then doneWith u else if u.inventoryBar h.partition.toNat ≠ 0 then (u, some .accessError)
      else doneWith (u.takeInventory h.partition.toNat 0 0)) = (x, some st)) (still : x.catOpen = u.catOpen) :
    exec (.inventoryTake h v) s = .next (s.answered h 0x6040 3 st x) :=
  congrArg Host.Outcome.next (entryCommand_answers writes (.inventoryTake h v) (askPart rfl _) (stored_byte rfl rfl v)
    ((writeEntry_inventoryTake _).trans rule) still)

/-! ### Stocktake (R502) -/

theorem writeEntry_stocktakeEnable (n : Nat) : u.writeEntry h w 0x6070 1 p n = doneWith (u.enableStock p n) := by
  simp [State.writeEntry, State.writeHigh]

theorem stocktakeEnable_answers (writes : s.writing u h 0x6070 1 v.toNat w) :
    exec (.stocktakeEnable h v) s =
      .next (s.answered h 0x6070 1 .done (u.enableStock h.partition.toNat v.toNat)) :=
  congrArg Host.Outcome.next (entryCommand_answers writes (.stocktakeEnable h v) (askPart rfl _)
    (stored_byte rfl rfl v) (writeEntry_stocktakeEnable _) rfl)

/-! ### Deposit rules (R483, R485) -/

theorem writeEntry_depositFlags (n : Nat) :
    u.writeEntry h w 0x6060 8 p n = atOnce (u.writeDepositFlags p (BitVec.ofNat 8 n)) := by
  simp [State.writeEntry, State.writeHigh, State.writeDepositEntry]

theorem writeEntry_depositAck (n : Nat) : u.writeEntry h w 0x6060 10 p n = atOnce (u.ackDeposit p n) := by
  simp [State.writeEntry, State.writeHigh, State.writeDepositEntry]

theorem writeDepositFlags_masked :
    u.writeDepositFlags p (BitVec.ofNat 8 (v.toNat &&& 3)) = u.writeDepositFlags p v := by
  simp only [State.writeDepositFlags, and_bit v (show Nat.testBit 3 0 = true from rfl),
    and_bit v (show Nat.testBit 3 1 = true from rfl)]

theorem depositFlags_answers (writes : s.writing u h 0x6060 8 v.toNat w)
    (rule : u.writeDepositFlags h.partition.toNat v = (x, st)) (still : x.catOpen = u.catOpen) :
    exec (.depositFlags h v) s = .next (s.answered h 0x6060 8 st x) :=
  congrArg Host.Outcome.next (entryCommand_answers writes (.depositFlags h v) (askPart rfl _)
    (stored_mask (n := 1) (m := 3) rfl rfl v.isLt)
    ((writeEntry_depositFlags _).trans (congrArg atOnce (writeDepositFlags_masked.trans rule))) still)

theorem depositAck_finishes (writes : s.writing u h 0x6060 10 v.toNat w)
    (rule : u.ackDeposit h.partition.toNat v.toNat = (x, st)) :
    exec (.depositAck h v) s = .next (x.catFinish h st) :=
  congrArg Host.Outcome.next (entryCommand_finishes writes (.depositAck h v) (askPart rfl _) (stored_byte rfl rfl v)
    ((writeEntry_depositAck _).trans (congrArg atOnce rule)))

theorem depositAck_answers (writes : s.writing u h 0x6060 10 v.toNat w)
    (rule : u.ackDeposit h.partition.toNat v.toNat = (x, st)) (still : x.catOpen = u.catOpen) :
    exec (.depositAck h v) s = .next (s.answered h 0x6060 10 st x) :=
  (depositAck_finishes writes rule).trans (congrArg _ (finish_answers writes still st))

/-- A hub with another record of a Deposit rule. -/
def State.withDeposit (u : State) (p k : Nat) (d : Deposit) : State := u.setPart p ((u.part p).setDeposit k d)

theorem withDeposit_deposit (d : Deposit) : ((u.withDeposit p k d).part p).deposit k = d := by
  rw [State.withDeposit, State.part_setPart_self]
  exact Sparse.get_put_self _ _ _ _

theorem withDeposit_withDeposit (d e : Deposit) : (u.withDeposit p k d).withDeposit p k e = u.withDeposit p k e := by
  simp only [State.withDeposit, State.part_setPart_self, setPart_setPart, Part.setDeposit, Sparse.put_put]

theorem writeDepositFlags_refuses (enables : v.getLsbD 0 = true)
    (bad : u.depositOk p ((u.part p).deposit (u.cfg 0x6060 1 p)) = false) :
    u.writeDepositFlags p v = (u, .accessError) :=
  if_pos (by rw [enables, Bool.true_and]; exact congrArg Bool.not bad)

theorem writeDepositFlags_takes
    (good : v.getLsbD 0 = false ∨ u.depositOk p ((u.part p).deposit (u.cfg 0x6060 1 p)) = true) :
    u.writeDepositFlags p v = (u.withDeposit p (u.cfg 0x6060 1 p) { (u.part p).deposit (u.cfg 0x6060 1 p) with
      enable := v.getLsbD 0, hold := v.getLsbD 1 }, .done) := by
  have taken : (v.getLsbD 0 && !u.depositOk p ((u.part p).deposit (u.cfg 0x6060 1 p))) = false := by
    rcases good with off | ok
    · rw [off, Bool.false_and]
    · rw [ok, Bool.not_true, Bool.and_false]
  exact if_neg (Bool.eq_false_iff.mp taken)

theorem recordDeposit_silent (silent : u.cfg 0x6030 4 = 0) (how i : Nat) (d : Deposit) :
    u.recordDeposit p k how i d = u := record_silent _ silent

/-- R485: the release that a rule held goes on: its round is complete, and no other rule holds it. -/
def State.releases (x : State) (d : Deposit) : Prop :=
  (x.obj d.index).otype = .barrier ∧ (x.obj d.index).faulted = false ∧
  (x.obj d.index).arrivals = (x.obj d.index).expected ∧ x.depositHolds d.index = false

section
variable {d : Deposit} (rule : d = (u.part p).deposit k) (waits : d.waiting = true)
  (ended : x = u.withDeposit p k { d with waiting := false })
include rule waits ended

theorem endHold_releases (ready : x.releases d) : u.endHold p k = x.releaseOn d.index d.cause := by
  subst rule ended
  exact if_pos ⟨waits, ready⟩

theorem endHold_held (other : (x.obj d.index).otype ≠ .barrier ∨ (x.obj d.index).faulted = true ∨
    (x.obj d.index).arrivals ≠ (x.obj d.index).expected ∨ x.depositHolds d.index = true) : u.endHold p k = x := by
  subst rule ended
  refine if_neg fun ⟨_, barrier, sound, complete, free⟩ => ?_
  rcases other with plain | faulted | incomplete | held
  · exact plain barrier
  · exact Bool.false_ne_true (sound.symm.trans faulted)
  · exact incomplete complete
  · exact Bool.false_ne_true (free.symm.trans held)

end

theorem ackDeposit_absent (absent : 8 ≤ k) : u.ackDeposit p k = (u, .accessError) := if_pos absent

theorem ackDeposit_free (there : k < 8) (free : ((u.part p).deposit k).waiting = false) :
    u.ackDeposit p k = (u, .done) := by
  simp only [State.ackDeposit, Nat.not_le.mpr there, free, if_false, Bool.false_eq_true]

/-- R485: an acknowledgement of a hold ends it. -/
theorem ackDeposit_ends (there : k < 8) (waits : ((u.part p).deposit k).waiting = true)
    (silent : u.cfg 0x6030 4 = 0) : u.ackDeposit p k = (u.endHold p k, .done) := by
  simp only [State.ackDeposit, Nat.not_le.mpr there, waits, if_false, if_true, recordDeposit_silent silent]

/-- R485: a hold that has lasted DepositHoldLimit is counted and ends. -/
theorem depositLimit_ends {d : Deposit} (rule : d = (u.part p).deposit k) (waits : d.waiting = true)
    (limited : u.cfg 0x6060 11 p ≠ 0) (late : u.cfg 0x6060 11 p ≤ elapsed d.since u.clock)
    (counts : d.timeouts.toNat + 1 < 2 ^ 32) (silent : u.cfg 0x6030 4 = 0) :
    u.depositLimit p k = (u.withDeposit p k { d with timeouts := d.timeouts + 1 }).endHold p k := by
  subst rule
  unfold State.depositLimit
  rw [if_pos ⟨waits, limited, late⟩]
  simp only [State.count32, State.next32, if_pos counts]
  exact congrArg (State.endHold · p k)
    (recordDeposit_silent (u := u.withDeposit p k { (u.part p).deposit k with
      timeouts := ((u.part p).deposit k).timeouts + 1 }) silent _ _ _)

theorem exec_depositHoldLimit (live : s.live = true) (inside : p < 16) (there : k < 8) :
    exec (.depositHoldLimit p k) s = .next (s.depositLimit p k) := atPair_live _ live inside there

end

/-- Settles O56: each write by the rule of its entry; the end of a Deposit hold by whether another rule holds the
release. -/
theorem snapshotAndDepositWrites : Obligations.SnapshotAndDepositWrites := by
  refine ⟨fun s u h w v p k part shelf => ⟨fun a y writes named asked sound => ?_,
    fun writes => ⟨fun armed own here => ?_, fun rests here => ?_⟩,
    fun writes => ⟨fun zero => ?_, fun nonzero bar => ?_, fun nonzero base rests => ?_⟩, fun writes => ?_⟩,
    fun s u h w v p k d part rule => ⟨fun writes selected => ⟨fun enables bad => ?_, fun good => ?_⟩,
      fun writes named => ⟨fun absent => ?_, fun there free => ?_, fun x there waits silent ended => ?_⟩⟩⟩
  -- ShelfArm
  · subst part shelf named asked
    exact shelfArm_answers writes (writeShelfArm_arms sound) armsPeers_catOpen
  -- ShelfCancel
  · subst part shelf
    exact shelfCancel_answers writes ((writeShelfCancel_here here).trans (cancelShelf_own armed own)) rfl
  · subst part shelf
    exact shelfCancel_answers writes ((writeShelfCancel_here here).trans (cancelShelf_rests rests)) rfl
  -- InventoryTake
  · exact inventoryTake_answers writes (if_pos (congrArg BitVec.toNat zero)) rfl
  · subst part
    have set : v.toNat ≠ 0 := fun zero => nonzero (BitVec.eq_of_toNat_eq zero)
    exact inventoryTake_answers writes ((if_neg set).trans (if_pos (inventoryBar_held bar))) rfl
  · subst part
    have set : v.toNat ≠ 0 := fun zero => nonzero (BitVec.eq_of_toNat_eq zero)
    obtain ⟨n, c, ws, inv, mgr, count, mine, frame⟩ := takeInventory_runs (u := u) (p := h.partition.toNat) 0 0
    refine ⟨_, n, c, ws, inventoryTake_answers writes
      ((if_neg set).trans (if_neg (not_not.mpr (inventoryBar_free base rests)))) ?_, inv, mgr, count, mine, frame⟩
    exact catOpen_of_wipe (by decide) (State.takeInventory_wipe u _ 0 0 0x5001000 rfl)
  -- StocktakeEnable
  · subst part
    exact stocktakeEnable_answers writes
  -- DepositFlags
  · subst part rule selected
    exact depositFlags_answers writes (writeDepositFlags_refuses enables bad) rfl
  · subst part rule selected
    exact depositFlags_answers writes (writeDepositFlags_takes good) rfl
  -- DepositAck
  · subst part named
    exact depositAck_answers writes (ackDeposit_absent absent) rfl
  · subst part named rule
    exact depositAck_answers writes (ackDeposit_free there free) rfl
  · subst part named
    have ends := ackDeposit_ends there (rule ▸ waits) silent
    refine ⟨fun ready => ?_, fun other => ?_⟩
    · rw [endHold_releases rule waits ended ready] at ends
      exact depositAck_finishes writes ends
    · rw [endHold_held rule waits ended other] at ends
      exact depositAck_answers writes ends (ended ▸ rfl)

end Sys2Proof.Machine
end

section
/-! SUPPORT. The limits of Deposit holds and of aperture stalls (R293, R485). A write that an empty bucket has held too
long is accepted (`acceptStalled_forced`), and its op fails check 4 at its slot (`slotForward_limited`); the answer waits
on the return path of the aperture (`refuse_aperture`). -/

namespace Sys2Proof.Machine

section
variable {s X : State} {g : Nat} {h : SlotOp} {a : HomeOp} {c : Opcode}

/-! ### A refusal of an op of the aperture (R321) -/

/-- The response of an op of an issue slot, as its home sends it (R99, R100, R321). -/
def HomeOp.apertureRet (a : HomeOp) (st : Status) (result : Nat) (v : BitVec 64) : Ret where
  target := .aperture
  sel := getFld a.originator 0 10
  retref := a.retref
  word := respWord st a.op.tag result
  value := valueBeat a.opcode st v

section
variable (source : a.source = srcAperture) (own : origHub a.originator = X.hub) (heard : a.op.flags.noresp = false)
include source own heard

theorem respond_aperture (st : Status) (r : Nat) (v : BitVec 64) :
    X.respond a st r v = { X with rets := X.rets ++ [a.apertureRet st r v] } := by
  have notEvent : srcAperture ≠ srcEvent := by decide
  have notHub : srcAperture ≠ srcHub := by decide
  unfold State.respond HomeOp.apertureRet
  simp only [source, heard, notEvent, notHub, own, decide_false, Bool.or_self, Bool.false_eq_true, if_false, if_true]

theorem refuse_aperture (st : Status) : (X.refuse a st).rets = X.rets ++ [a.apertureRet st 0 0] ∧
    ∀ m, 0x2002007400000 ||| m = m → (X.refuse a st).wipe m = X.wipe m := by
  have frame (m : Nat) (within : 0x2002007000000 ||| m = m) :
      ((X.actOp a).countRefused a st).wipe m = X.wipe m :=
    (State.countRefused_wipe _ _ _ _ within).trans (State.actOp_wipe _ _ _ (mask_sub within (by decide)))
  have kept := frame 0x2002007000000 rfl
  have hub : ((X.actOp a).countRefused a st).hub = X.hub := by
    rw [State.hub, device_of_wipe (by decide) kept, die_of_wipe (by decide) kept, State.hub]
  unfold State.refuse State.conclude
  rw [respond_aperture source (own.trans hub.symm) heard]
  refine ⟨by rw [← rets_of_wipe (by decide) kept], fun m within => ?_⟩
  rw [wipe_rets _ (testBit_sub within (by decide))]
  exact frame m (mask_sub within (by decide))

end

/-! ### A write that has waited too long (R293) -/

theorem exec_apertureStallLimit (live : s.live = true) (inside : g < 1024) :
    exec (.apertureStallLimit g) s = .next (s.stallLimit g) := atUnit_live _ live inside

/-- A count of a partition changes the counters alone. -/
theorem pcount_cat {sub q n : Nat} : X.pcount sub q n = { X with cat := (X.pcount sub q n).cat } := by
  unfold State.pcount
  split <;> rfl

/-- The hub once the only write that waited at a slot has been taken; its bucket remembers the wait (R294). -/
def State.stallTaken (s : State) (g : Nat) (h : SlotOp) : State :=
  s.setSlot g { s.slot g with
    stalled := []
    bucket := { s.refilled (s.slot g).bucket with
      longest := max (s.refilled (s.slot g).bucket).longest (elapsed h.since s.clock) } }

theorem acceptStalled_forced (empty : s.slotEmpty g = true) :
    s.acceptStalled g true [h] = (s.stallTaken g h).slotAccept g h true := by
  simp only [State.acceptStalled, empty, State.slotWaits, Bool.true_or, Bool.and_self, Bool.not_true, Bool.and_false,
    Bool.false_eq_true, if_false]
  rfl

/-- R293: the only write that waits at a slot is taken at the limit. -/
theorem stallLimit_takes (one : (s.slot g).stalled = [h]) (empty : s.slotEmpty g = true)
    (late : s.cfg 0x2700 3 ≤ elapsed h.since s.clock) : s.stallLimit g =
      ((s.stallTaken g h).slotAccept g h true).modSlot g fun x => { x with stalled := [] } := by
  have due : (s.slotEmpty g && decide (s.cfg 0x2700 3 ≤ elapsed h.since s.clock)) = true := by simp [empty, late]
  rw [← acceptStalled_forced empty]
  simp only [State.stallLimit, one, due, if_true, List.map_nil]

/-- The hub once it has accepted a write of an op that awaits a response (R320, R321). -/
def State.accepted (X : State) (g : Nat) (h : SlotOp) : State :=
  ((X.pcount 19 (X.slotPart g) (if h.op.flags.x2 then 32 else 16)).drive (.axiResp (some g) none false false)).modSlot g
    fun x => x.begin h X.time

theorem accepted_partition : (X.accepted g h).slotPart g = X.slotPart g := by
  rw [State.accepted, pcount_cat]
  rfl

theorem accepted_rets : (X.accepted g h).rets = X.rets := by
  rw [State.accepted, pcount_cat]
  rfl

theorem accepted_frame (m : Nat) (within : 0x1000004200000 ||| m = m) : (X.accepted g h).wipe m = X.wipe m :=
  (State.setSlot_wipe _ _ _ _ (mask_sub within (by decide))).trans
    ((wipe_out _ (testBit_sub within (by decide)) _ _).trans
      (State.pcount_wipe _ _ _ _ _ (mask_sub within (by decide))))

/-- R319 to R321: an op that its slot accepts and that no FENCE holds comes to its checks. -/
theorem slotAccept_op {limited : Bool} (code : h.opcode = opCode c) (other : c ≠ .fence)
    (sound : checkOne (some c) h.op false true = none) (blocking : opPosted (some c) h.op.flags = false)
    (free : (X.slot g).busy = false) (unfenced : (X.slot g).fence = none) :
    X.slotAccept g h limited = (X.accepted g h).slotForward g h limited := by
  have listed : h.opcode ≠ 0 := by rw [code]; cases c <;> decide
  have notFence : h.opcode ≠ opCode .fence :=
    fun same => other (Option.some.inj (by rw [← opcodeOf_opCode c, ← code, same, opcodeOf_opCode]))
  have opcode : opcodeOf h.opcode = some c := by rw [code, opcodeOf_opCode]
  have slot : ((X.pcount 19 (X.slotPart g) (if h.op.flags.x2 then 32 else 16)).drive
      (.axiResp (some g) none false false)).slot g = X.slot g := by
    rw [pcount_cat]
    rfl
  unfold State.slotAccept State.accepted State.modSlot
  simp only [listed, opcode, blocking, free, sound, unfenced, notFence, slot, Bool.false_and, Bool.false_eq_true, if_false,
    Option.isSome_none, State.slotRun]

/-- R293: an op that fails check 4 is refused, and the record of the storm is due. -/
theorem slotForward_limited (gate : X.gate (X.slotPart g) h.opcode = none)
    (named : X.absolute (X.slotHome g h 0) = some a) :
    X.slotForward g h true = (X.refuse a .stormLimited).slotStorm g 1 := by
  simp only [State.slotForward, show (X.slotHome g h 0).partition = X.slotPart g from rfl, gate, named, if_true]

end

/-- A Deposit rule whose hold has timed out once more (R485). -/
def Deposit.timedOut (d : Deposit) : Deposit := { d with timeouts := d.timeouts + 1 }

/-- Settles O31: a Deposit hold by whether another rule holds the release, a stalled op by the check that it fails. -/
theorem holdsThatEnd : Obligations.HoldsThatEnd := by
  refine fun s live => ⟨fun p k d inside there rule waits limited late counts silent u ended => ?_,
    fun g h c b a u inside one code other sound blocking heard free unfenced bucket empty late accepts gate named => ?_⟩
  -- the limit of a Deposit hold
  · have ends := depositLimit_ends rule waits limited late counts silent
    have counted := (withDeposit_deposit (u := s) (p := p) (k := k) d.timedOut).symm
    have after : u = (s.withDeposit p k d.timedOut).withDeposit p k { d.timedOut with waiting := false } :=
      ended.trans (withDeposit_withDeposit _ _).symm
    rw [exec_depositHoldLimit live inside there, ends]
    exact ⟨fun ready => congrArg _ (endHold_releases (d := d.timedOut) counted waits after ready),
      fun held => congrArg _ (endHold_held (d := d.timedOut) counted waits after held)⟩
  -- the limit of a stall
  · subst bucket
    have taken : u = (s.stallTaken g h).accepted g h := accepts
    clear accepts
    have slot : (s.stallTaken g h).slot g = { s.slot g with
        stalled := []
        bucket := { s.refilled (s.slot g).bucket with
          longest := max (s.refilled (s.slot g).bucket).longest (elapsed h.since s.clock) } } :=
      State.slot_setSlot_self _ _ _
    have part : u.slotPart g = s.slotPart g := by rw [taken]; exact accepted_partition
    have limit := stallLimit_takes one (decide_eq_true empty) late
    rw [slotAccept_op code other sound blocking (by rw [slot]; exact free) (by rw [slot]; exact unfenced), ← taken,
      slotForward_limited (part.symm ▸ gate) named] at limit
    obtain ⟨source, -, flags, originator, -⟩ := absolute_keeps named
    obtain ⟨rets, frame⟩ := refuse_aperture (X := u) source (originator ▸ origHub_orig u g)
      ((congrArg OpFlags.noresp flags).trans heard) .stormLimited
    have storm := State.slotStorm_wipe (u.refuse a .stormLimited) g 1
    refine ⟨_, (exec_apertureStallLimit live inside).trans (congrArg _ limit), ?_, ?_, ?_, ?_⟩
    · exact (out_of_wipe (by decide) (storm 0x2000007200000 rfl)).trans
        (out_of_wipe (by decide) (frame 0x2002007400000 rfl))
    · rw [State.modSlot, State.slot_setSlot_self]
    · refine (rets_of_wipe (by decide) (storm 0x2000007200000 rfl)).trans (rets.trans ?_)
      rw [taken, accepted_rets]
      rfl
    · refine Eq.symm ((State.setSlot_wipe _ _ _ _ (by decide)).trans ((storm _ (by decide)).trans
        ((frame _ (by decide)).trans ?_)))
      rw [taken]
      exact (accepted_frame _ (by decide)).trans (State.setSlot_wipe _ _ _ _ (by decide))

end Sys2Proof.Machine
end
